-- ==== Sys2Proof/Word.lean ====
section
/-!
DEFINITION. The word types of the Y96 (Mladby Clesyn) model and their plainest arithmetic.
Register words are bit vectors (03 R60); counts, addresses, node IDs, epochs and times are natural numbers; signed
quantities are integers. Times are counted in units of 2^-16 ns (04 R82).
-/

namespace Sys2Proof

/-- A register or table word (03 R60: 32 bits). -/
abbrev Word32 := BitVec 32

/-- A byte of a memory, a packet or an image (00 R5: multi-byte values are little-endian). -/
abbrev Byte := BitVec 8

/-- One nanosecond in units of 2^-16 ns (04 R82). -/
def ns1 : Nat := 65536

/-- One microsecond in units of 2^-16 ns. -/
def us1 : Nat := 1000 * ns1

/-- One millisecond in units of 2^-16 ns. -/
def ms1 : Nat := 1000 * us1

/-- One second in units of 2^-16 ns. -/
def sec1 : Nat := 1000 * ms1

/-- The signed value of the low `w` bits of `n` (two's complement). -/
def signedOf (w n : Nat) : Int :=
  if n % 2 ^ w < 2 ^ (w - 1) then (n % 2 ^ w : Nat) else (n % 2 ^ w : Nat) - (2 ^ w : Nat)

/-- The `w`-bit two's complement pattern of an integer, as a natural number. -/
def unsignedOf (w : Nat) (i : Int) : Nat := (i % (2 ^ w : Nat)).toNat

/-- round() of the manual: an exact half rounds upward (00 R458); `d` is the denominator. -/
def roundDiv (n d : Nat) : Nat := (2 * n + d) / (2 * d)

/-- round() of a signed quotient: an exact half rounds toward plus infinity (00 R458). -/
def roundDivInt (n : Int) (d : Nat) : Int := (2 * n + d) / (2 * d)

/-- ceil() of a quotient. -/
def ceilDiv (n d : Nat) : Nat := (n + d - 1) / d

/-- clamp(x, lo, hi) of the manual. -/
def clampInt (x lo hi : Int) : Int := max lo (min x hi)

/-- clip(x, 0, hi) of the manual, as a natural number. -/
def clipNat (x : Int) (hi : Nat) : Nat := (clampInt x 0 hi).toNat

/-- Arithmetic right shift, toward minus infinity. -/
def shrInt (x : Int) (k : Nat) : Int := x / (2 ^ k : Nat)

/-- `n` with bit `i` set to `b`. -/
def withBit (n i : Nat) (b : Bool) : Nat :=
  if n.testBit i = b then n else if b then n + 2 ^ i else n - 2 ^ i

/-- A flag as the number 0 or 1. -/
def b2n (b : Bool) : Nat := if b then 1 else 0

/-- Little-endian value of a list of bytes (00 R5). -/
def leNat : List Byte → Nat
  | [] => 0
  | b :: bs => b.toNat + 256 * leNat bs

/-- The `k` little-endian bytes of a number (00 R5). -/
def leBytes : Nat → Nat → List Byte
  | 0, _ => []
  | k + 1, n => BitVec.ofNat 8 n :: leBytes k (n / 256)

/-- The unsigned number in `len` bytes of a list from byte `off`, little-endian. -/
def leAt (bs : List Byte) (off len : Nat) : Nat := leNat ((bs.drop off).take len)

end Sys2Proof
end

