-- ==== Sys2Proof/Syntax.lean ====
section
/-!
DEFINITION. The commands of the Y96: one constructor per row of spec/opcode_table.json, and the operand types they carry.
The table gives the rows no bits, so an operand is what the governing rule needs from outside the block: an instance number,
a written value, the contents of a packet that arrived, the reading of the local clock at the event (`t`, in units of 2^-16 ns,
counted from the release of the core's reset; the time base is this plus an offset that the state holds).
-/

namespace Sys2Proof

/-- The two roles of a die (01 R7). A hub is a tile (01 R8). -/
inductive Role where
  | sender
  | tile
deriving DecidableEq, Repr

/-- The family members (00 R3, 03 R70 MEMBER). -/
inductive Member where
  | y96
  | y48
  | y24
deriving DecidableEq, Repr

/-- The level of the ROLE strap at the release of reset (01 R7). -/
inductive Strap where
  | low
  | high
  | floating
deriving DecidableEq, Repr

/-- A read on the register bus: the byte address and the number of bytes (03 R60). -/
structure BusRead where
  addr : Nat
  len : Nat
deriving DecidableEq, Repr

/-- An MSI-X vector, and whether the host masks it (03 R74). -/
structure MsixVec where
  vec : Nat
  masked : Bool
deriving DecidableEq, Repr

/-- An uncorrectable codeword: its port, and whether the codeword before it was uncorrectable too (10 R246, R251). -/
structure BadCodeword where
  port : Nat
  next : Bool
deriving DecidableEq, Repr

/-- The port a packet arrived on, and whether its trailer was good (10 R253). -/
structure Arrival where
  port : Nat
  crcOk : Bool
deriving DecidableEq, Repr

/-- How a response reaches its requester: the port on which it arrives and the SRC of its header (10 R252, R462). -/
structure RspFrom where
  port : Nat
  src : Nat
deriving DecidableEq, Repr

/-- The grounds and the copy number of a RELINQUISH (10 R262). -/
structure Relinquish where
  grounds : Nat
  copy : Nat
deriving DecidableEq, Repr

/-- The scan and the frame rate of a received SDI raster; `r1001` tells the 1000/1001 family (06 R150). -/
structure SdiScan where
  scan : Nat
  fps : Nat
  r1001 : Bool
deriving DecidableEq, Repr

/-- A pixel of three samples R, G, B (or Y, Cb, Cr before conversion). -/
structure Pixel where
  r : Nat
  g : Nat
  b : Nat
deriving DecidableEq, Repr

/-- The header fields of a coil packet (10 R252), without LEN and HCRC. -/
structure Header where
  type : Nat
  bcast : Bool
  up : Bool
  stby : Bool
  hops : Nat
  noid : Bool
  dest : Nat
  src : Nat
deriving DecidableEq, Repr

/-- A coil packet: header and body bytes; `crcBad` marks a trailer that was found bad or stomped (10 R252, R253). -/
structure Packet where
  hdr : Header
  body : List Byte
  crcBad : Bool
deriving DecidableEq, Repr

/-- A cell as the line delivers it: 3 header bytes and 61 bytes of packet data; `fecBad` marks one that lay in a codeword that could not
    be corrected, `fixed` one that begins a codeword in which errors were corrected (10 R246, R247, R287). -/
structure Cell where
  bytes : List Byte
  fecBad : Bool
  fixed : Bool
deriving DecidableEq, Repr

/-- A TICK body (10 R256); `step` is the announced step in ns (04 R83). -/
structure TickBody where
  epoch : Nat
  tickTime : Nat
  hold : Bool
  handback : Bool
  dark : Bool
  commitTarget : Nat
  step : Option Int
deriving DecidableEq, Repr

/-- A CONFIG body (10 R257): `sch` holds the 16 SCH words 0x040 to 0x07C, `clk` the CLK word 0x040. -/
structure ConfigBody where
  target : Nat
  copy : Nat
  recovery : Bool
  sch : List Word32
  clk : Word32
deriving DecidableEq, Repr

/-- A sender BEACON with the header fields it uses (10 R252, R255); times in 2^-16 ns. -/
structure Beacon where
  src : Nat
  hops : Nat
  stby : Bool
  subcoil : Bool
  originPort : Nat
  originTime : Nat
  correction : Int
  epoch : Nat
  crcOk : Bool
  /-- The header's NOID: the sender has no node ID (10 R252). -/
  noid : Bool := false
deriving DecidableEq, Repr

/-- A link beacon request or reply (10 R255); `ta` is t1 of a request or t2 of a reply, `tb` is t3 of a reply. -/
structure LinkBeacon where
  seq : Nat
  port : Nat
  role : Nat
  ta : Nat
  tb : Nat
  uid : Nat
  loopReq : Bool
  loopAck : Bool
  loopSecs : Nat
deriving DecidableEq, Repr

/-- One segment of a BAND packet (09 R230); LEN is the length of `data`. -/
structure Seg where
  sx : Nat
  sw : Nat
  data : List Byte
deriving DecidableEq, Repr

/-- A BAND packet (09 R229, 10 R258) with its destination; `crcOk` is the trailer check. -/
structure BandPkt where
  dest : Nat
  epoch16 : Nat
  bandNo : Nat
  feed : Nat
  format : Nat
  segs : List Seg
  crcOk : Bool
deriving DecidableEq, Repr

/-- One entry of an EVENT body (10 R260). -/
structure EvtEntry where
  page : Nat
  subtree : Bool
  more : Bool
  bits : Nat
deriving DecidableEq, Repr

/-- The subtree summary of a hub (01 R28, 10 R274 bytes 68 to 93). -/
structure Summary where
  devices : Nat
  depth : Nat
  lamps : Nat
  regionW : Nat
  regionH : Nat
  nY96 : Nat
  nY48 : Nat
  nY24 : Nat
  worstEye : Nat
  statusOr : Nat
  missing : Nat
deriving DecidableEq, Repr

/-- The summary that reads 0 in every field (01 R28: before the first tick; 10 R274: zero unless HUB). -/
def Summary.zero : Summary := ⟨0, 0, 0, 0, 0, 0, 0, 0, 0, 0, 0⟩

/-- A STATUS body (10 R463). -/
structure StatusBody where
  epoch : Nat
  bits : Nat
  member : Nat
  hub : Bool
  hops : Nat
  lamps : Nat
  eye : Nat
  summary : Summary
deriving DecidableEq, Repr

/-- A MGMT_REQ (10 R259); `len` is words minus 1, `src` the requesting sender. -/
structure MgmtReq where
  src : Nat
  tag : Nat
  write : Bool
  len : Nat
  offset : Nat
  page : Nat
  data : List Word32
deriving DecidableEq, Repr

/-- A DISCOVER packet (10 R273): `idWord` is the 16-bit NODE_ID or CONFIRM word, `ranges` the 14 port ranges (LO, HI). -/
structure Discover where
  src : Nat
  op : Nat
  plen : Nat
  ppos : Nat
  path : List Nat
  idWord : Nat
  epoch : Nat
  ranges : List (Nat × Nat)
  /-- The header's NOID and STBY, as the sender set them (10 R252). -/
  noid : Bool := false
  stby : Bool := false
deriving DecidableEq, Repr

/-- A BOOT chunk (10 R261). -/
structure BootChunk where
  off : Nat
  data : List Byte
  first : Bool
  last : Bool
  idx : Nat
  imgLen : Nat
deriving DecidableEq, Repr

/-- An RTP packet as a stream receiver sees it (06 R144): `seq` is the 16-bit number, `extHi` the upper 16 bits that
    ST 2110-20 carries, `body` the payload. -/
structure Rtp where
  version : Nat
  pt : Nat
  seq : Nat
  extHi : Nat
  ts : Nat
  marker : Bool
  body : List Byte
deriving DecidableEq, Repr

/-- What a received network frame carries (06 R139, R140). -/
inductive NetKind where
  /-- A PTP message with its domain, and the datagram that carries it; `wellFormed` tells a message that the instance can read. -/
  | ptp (domain : Nat) (wellFormed : Bool) (dstIp srcIp dstPort : Nat) (rtp : Rtp)
  | arp (ip mac target : Nat) (request : Bool)
  /-- An ICMP echo request: destination, requester with its MAC, identifier, sequence number and data. -/
  | icmpEcho (dst src mac ident seq : Nat) (data : List Byte)
  /-- An IGMP query of a querier's version; `group` is 0 in a general query. -/
  | igmpQuery (version group : Nat)
  | udp (dstIp srcIp dstPort : Nat) (rtp : Rtp)
  | pause
  | fragment
  | other
deriving DecidableEq, Repr

/-- A frame received on a NET port (06 R139 to R142), without its FCS; `vlan` is its 802.1Q tag. `fecUncorr` counts FEC codewords of it that could not be corrected. -/
structure NetFrame where
  fcsOk : Bool
  vlan : Option Nat
  kind : NetKind
  bytes : List Byte
  fecCorr : Nat
  fecUncorr : Nat
deriving DecidableEq, Repr

/-- The data set of an Announce message (04 R91: default best master algorithm). -/
structure Announce where
  portId : Nat
  gmId : Nat
  prio1 : Nat
  clockClass : Nat
  accuracy : Nat
  variance : Nat
  prio2 : Nat
  stepsRemoved : Nat
  utcOffset : Nat
  tlv : List Byte
deriving DecidableEq, Repr

/-- A picture as received, before conversion (06 R153, R154): rows of samples; `bottom` marks a bottom field, `lost` the missing
    runs (line, first pixel, pixels), `start` when its first sample arrived. -/
structure Picture where
  width : Nat
  height : Nat
  rows : List (List Pixel)
  rtp : Nat
  bottom : Bool
  lost : List (Nat × Nat × Nat)
  startMissed : Bool
  start : Nat
deriving DecidableEq, Repr

/-- The active SPS of a decoded stream with its VUI, as the control core reads it (07 R161, R162, R164, R166): general_profile_idc and whether
    the constraint flags are those of Main 4:2:2 10, chroma_format_idc, bit depth, the size after the conformance window, field pictures, the
    chroma location type, and whether it uses coding tools of no supported profile; then sps_max_dec_pic_buffering_minus1,
    sps_max_num_reorder_pics and sps_max_latency_increase_plus1 at the highest sub-layer. -/
structure Sps where
  profile : Nat
  main422 : Bool
  tier : Nat
  level : Nat
  chroma : Nat
  depth : Nat
  width : Nat
  height : Nat
  fields : Bool
  chromaLoc : Nat
  otherTools : Bool
  decBufMinus1 : Nat
  reorder : Nat
  latencyPlus1 : Nat
deriving DecidableEq, Repr

/-- What the decoder delivers for one access unit (07 R162, R166, R170 to R182): whether it begins a coded video sequence as an IDR or BLA
    picture, NoOutputOfPriorPicsFlag, a RASL picture, its picture order count, pic_output_flag, the counts of the pictures in its reference
    picture set, a parameter set that has not been received, the CTUs (of `ctu` luma samples a side, by their first column and line) that no
    correctly decoded slice covers, accesses out of bounds, a read that came back poisoned, the decoded planes, the parity that a picture
    timing SEI message gives (true for a bottom field), and the RTP timestamp. -/
structure DecPic where
  sps : Sps
  newCvs : Bool
  noOutputPrior : Bool
  rasl : Bool
  poc : Int
  outputFlag : Bool
  refs : List Int
  paramsMissing : Bool
  badCtus : List (Nat × Nat)
  ctu : Nat
  bounds : Nat
  poisoned : Bool
  luma : List (List Nat)
  cb : List (List Nat)
  cr : List (List Nat)
  parity : Option Bool
  rtp : Nat
deriving DecidableEq, Repr

/-- One command (a row of spec/opcode_table.json). -/
inductive Instr where
  -- reset and start-up (16 R404 to R407, 17 R432 to R440)
  | powerOnReset
  | resetNAssert (ns : Nat)
  | perstAssert
  | softReset (v : Word32)
  | tunSoftResetDelay
  | coreRailFail
  | xoInLoss
  | watchdogExpiry (t : Nat)
  | resetRelease (strap : Strap) (testEn : Bool)
  | bankLevelSelect (bank mV : Nat)
  | bisqueGo
  | imageVerifyDone
  | firmwareLoaded (trained : Bool) (t : Nat)
  | arm (t : Nat)
  | bootGo
  | bootBroadcastDone
  | bootChunkReceive (port : Nat) (c : BootChunk)
  | peerBootBroadcast (port : Nat) (t : Nat)
  | updGo
  | updReconstructDone
  | fwHealthWrite (v : Word32)
  | confirmExpiry
  | revert
  -- commits (02, 03 R71, R72)
  | commit (hi : Word32) (t : Nat)
  | commitValidationDone (t : Nat)
  | epochLoad (hi : Word32)
  -- register access (03)
  | registerWrite (addr be : Nat) (v : Word32) (t : Nat)
  | registerReadLatch (r : BusRead) (t : Nat)
  | timeReadLatch (t : Nat)
  | counterClear (addr : Nat) (v : Word32)
  | tableWrite (addr : Nat) (v : Word32)
  | evtPendClear (page : Nat) (v : Word32)
  | evtForce (page : Nat) (v : Word32)
  | evtEnWrite (page : Nat) (v : Word32)
  | vectorMapWrite (addr : Nat) (v : Word32)
  | msixMessage (v : MsixVec) (t : Nat)
  | eventReceive (port src epoch : Nat) (entries : List EvtEntry)
  | tqPop
  | tqFlush
  | tunLaunch (v : Word32) (t : Nat)
  | tunTimeout (tag : Nat)
  | tunResponse (rx : RspFrom) (tag status : Nat) (data : List Word32)
  | rspPop
  | rspFlush
  | mgmtReqReceive (port : Nat) (r : MgmtReq)
  | mgmtReqExecute (t : Nat)
  -- the tick (02 R39, R41)
  | configMarkerLaunch (copy : Nat) (t : Nat)
  | tickLaunch (t : Nat)
  | bandStop (port : Nat) (t : Nat)
  | senderTick (t : Nat)
  | tickReceive (port : Nat) (b : TickBody) (t : Nat)
  | configReceive (port : Nat) (b : ConfigBody) (t : Nat)
  | tileTick (t : Nat)
  | tickMissing (t : Nat)
  -- tile reception and hub (11, 01, 10)
  | bandReceive (port : Nat) (b : BandPkt)
  | segmentDecodeDone
  | hubBandReceive (port : Nat) (b : BandPkt)
  | statusReceive (port src : Nat) (b : StatusBody)
  | hubEventReceive (port src : Nat) (entries : List EvtEntry)
  -- beacons and reference (04)
  | beaconSlot (t : Nat)
  | beaconReceive (port : Nat) (b : Beacon) (t : Nat)
  | beaconTimeout (t : Nat)
  | linkBeaconTimer (t : Nat)
  | linkBeaconRequest (port : Nat) (b : LinkBeacon) (t : Nat)
  | linkBeaconReply (port : Nat) (b : LinkBeacon) (t : Nat)
  | refEdge (input : Nat) (t : Nat)
  | refLoss (input : Nat) (t : Nat)
  | ppsEdge (t : Nat)
  | ppsLoss (t : Nat)
  | ptpSync (inst : Nat) (offset : Int) (pathDelay : Nat) (t : Nat)
  | ptpAnnounce (inst : Nat) (a : Announce) (t : Nat)
  | ptpAnnounceTimeout (inst : Nat) (t : Nat)
  | ptpSyncTimeout (inst : Nat) (t : Nat)
  | sourceQualify (src : Nat) (t : Nat)
  | holdoverExpiry (t : Nat)
  | timeSetGo (t : Nat)
  | ppsLoad
  | loopInnerSample
  | loopOpenWrite (v : Word32)
  | sagMemoryWrite (inst entry : Nat) (v : Word32)
  -- camera sync (05)
  | camsyncPulse (c slot : Nat) (t : Nat)
  | camsyncPulseEnd (c : Nat) (t : Nat)
  | csHiz (v : Word32)
  -- network (06)
  | netFrameReceive (port : Nat) (f : NetFrame) (t : Nat)
  | netLinkChange (port : Nat) (up : Bool) (t : Nat)
  | igmpReportTimer (port stream leg : Nat)
  | txqTailWrite (port : Nat) (v : Word32) (t : Nat)
  | txFrameLaunch (port : Nat) (t : Nat)
  | tsqPop
  | tsqFlush
  | tsqOvfClr
  | legDown (stream leg : Nat)
  | pictureReady (src : Nat) (p : Picture) (t : Nat)
  | streamResync (src : Nat) (t : Nat)
  | sdiLockChange (n : Nat) (lock : Bool) (rate : Nat) (t : Nat)
  -- decoder (07)
  | decodePictureDone (stream : Nat) (p : DecPic) (t : Nat)
  | decodeBudgetExpiry (stream : Nat)
  | decCoreTimeout
  | decFlush (v : Word32)
  -- layers and DRAM access (08, 14)
  | layerReady (layer : Nat) (v : Word32) (t : Nat)
  | bar4Write (off : Nat) (data : List Byte)
  | bar4Read (off len : Nat) (biterrs : List (Nat × Nat))
  | tgwLineSlot (line : Nat) (t : Nat)
  | lineDeadline (line : Nat)
  | compositionFrameDone
  | saggerCrcComplete (region : Nat)
  | hiddenRegionCompare (crc : Word32)
  | sagRelearn
  | tgpFrameStart (t : Nat)
  | previewCaptureDone
  | tgpLineStart (line : Nat) (late : Bool)
  -- mapping and glaze (09)
  | segmentDispatch
  | segmentEncodeDone (engine : Nat)
  | bandLaunch (port : Nat) (t : Nat)
  | mapStatsClr
  -- coil links (10)
  | linkCdrLock (port : Nat)
  | linkUp (port : Nat)
  | linkLoss (port : Nat) (t : Nat)
  | codewordUncorrectable (cw : BadCodeword)
  | packetReceive (port : Nat) (cells : List Cell) (t : Nat)
  | xoffRelease (port : Nat)
  | ingressQueueRoom (port : Nat)
  | repeaterForward (port : Nat) (p : Packet)
  | retrain (port : Nat)
  | loopbackSelect (port : Nat) (v : Word32)
  | prbsGen (port : Nat) (on : Bool)
  | prbsChk (port : Nat) (on : Bool) (lock : Bool) (errs : Nat)
  | farLoopExpiry (port : Nat)
  | eyeReport (port eye0 eye1 : Nat)
  | discGo (port : Nat) (t : Nat)
  | discoverReceive (rx : Arrival) (hops : Nat) (d : Discover) (t : Nat)
  | discoverRspReceive (port : Nat) (body : List Byte)
  | discoverTimeout (port : Nat)
  -- redundancy (10)
  | relinquishNow (t : Nat)
  | relinquishReceive (rx : Arrival) (h : Header) (epoch : Nat) (b : Relinquish) (t : Nat)
  | feedreqReceive (rx : Arrival) (h : Header) (epoch cause : Nat) (t : Nat)
  | feedreqRepeat (t : Nat)
  | senderFeedreq (port node epoch cause : Nat) (t : Nat)
  | loopCheckTimeout (port : Nat)
  | hubTickLaunch (t : Nat)
  -- tile pipeline (11)
  | storeClr
  | slotComputeStart (t : Nat)
  | slotComputeDone (t : Nat)
  | calReload
  | calReloadDone (bad : List Nat)
  | calRecordWrite (addr : Nat) (v : Word32)
  | debtClr
  -- lamp bus (12)
  | slotStart (slot : Nat) (t : Nat)
  | slotLoadStart (group : Nat) (t : Nat)
  | slotLoadDone (group : Nat) (t : Nat)
  | scanWindowEnd (group : Nat) (samples : List Nat)
  | probeReadDone (group : Nat) (low high : List (List Bool))
  | probeStatusReset
  | drpReinit
  | drvReset
  -- MRAM (13)
  | setBegin
  | setEnd
  | nvsWriteGo (v : Word32)
  | nvsReadGo (v : Word32)
  | settingsSave
  | coneSaveNow
  | mramWriteDone (mismatches : Nat) (t : Nat)
  | coneSaveTimer (t : Nat)
  | scrubTimer (corrected : Nat) (uncorr : Nat) (t : Nat)
  | scrubLateAlarm
  | saveLateAlarm
  | backgroundUnitStart (t : Nat)
  -- light phase and heat (13)
  | phcGo (t : Nat)
  | phcAbort
  | phaseEdge (light : Bool) (stamp : Int)
  | sensorRead (n : Nat) (ack : Bool) (raw : Nat) (t : Nat)
  | dieModelStep (powers : List (Option Nat)) (outOfRange : Bool) (t : Nat)
  | dieThrottleEval
  | coneClr
  -- DRAM controller (14)
  | refreshTimer (ch rank : Nat) (hits : Bool)
  | patrolScrubLine (ch : Nat) (err : Nat)
  | scrubNow (ch : Nat)
  | dramAlert (ch : Nat) (wcrc : Bool)
  | freqGo (v : Word32)
  | freqDone
  -- audio (15)
  | audioResync
  | audioMute (v : Word32)
  | audioClockLoss (src : Nat)
  | audioClockReturn (src : Nat)
  | asrcSample (x : Int)
  | audioSlip (src : Nat) (dropFrame : Bool)
  -- further rows of the table
  | aonRailGood
  | bar2Write (off : Nat) (data : List Byte)
  | relinquishCopy (t : Nat)
  | watchdogResetDelay
  | mramReadDone (bad : List Nat)
  | alertNReturn (ch : Nat) (again : Bool)
  | ueWindowStep
  | dramScrubLateAlarm (ch : Nat)
  | lineComposed (line feed : Nat)
  | peerBootChunk (port : Nat)
  | audioOutputFrame
  | audioInputFrame (src : Nat) (samples : List Nat) (status : List Byte)
  | sdiFrameReceive (n : Nat) (width height : Nat) (scan : SdiScan) (vpid skewUs : Nat) (crcErrs : Nat)
deriving DecidableEq, Repr

end Sys2Proof
end

