-- ==== Sys2Proof/Config.lean ====
section
/-!
DEFINITION. What the spec leaves open or gives without stating its value: fused values, values the spec calls undefined, and
functions whose value it does not state. Each is an opaque constant: nothing can evaluate it, and a claim holds whatever it is.
-/

namespace Sys2Proof.Config

/-- A fresh open value: applied to the counter `State.free`, it is a value the spec does not fix (log 10). -/
opaque freeVal : Nat → Nat

/-- A fresh open choice between two outcomes the spec allows (log 10). -/
opaque freeBit : Nat → Bool

/-- The fused die identifier (03 R70 UID). -/
opaque uid : Nat

/-- The fused MAC base: port n has this plus n (06 R157). -/
opaque macBase : Nat

/-- Fused thermal resistance junction to case, 0.001 °C/W units of THM.R_JC (13 R378). -/
opaque rJc : Nat

/-- Fused thermal time constant of THM.TAU_JC (13 R378). -/
opaque tauJc : Nat

/-- The region limit in pixels of a member other than the Y96, by MEMBER code (00 R3: the value is not stated). -/
opaque regionLimit : Nat → Nat

/-- A customer key hash is fused (16 R412). -/
opaque custKeySet : Bool

/-- The fused transmit and receive path difference A_die of a port, in 2^-16 ns (04 R105). -/
opaque aDie : Nat → Int

/-- The gains KP and KI that instance 0 derives from a bandwidth in 0.01 Hz (04 R101: the derivation is not stated). -/
opaque loopGains : Nat → Int × Int

/-- The SHA-384 hash of the vendor key that Mladby fused, and that of the customer key, where one is fused (16 R412). -/
opaque vendorHash : Nat
opaque custHash : Nat

/-- Bit `j` of block `i` of an alignment codeword, which carries the lane number in a layout that is not stated (10 R246). -/
opaque alignBit : Nat → Nat → Bool

/-- The image that a delta reconstructs from the running one, if the reconstruction succeeds (16 R424). -/
opaque reconstruct : List Byte → List Byte → Option (List Byte)

/-- The version a delta is based on (16 R424: the delta's format is not stated). -/
opaque deltaBase : List Byte → Nat

/-- Word `i` of the telemetry block of a save record, whose layout is not stated (13 R357). -/
opaque telemetryWord : List Int → Nat → Word32

/-- Word `i` of the firmware record's block, whose layout is not stated (13 R355). -/
opaque recordWord : Nat × Int × Int × List Word32 → Nat → Word32

/-- What a block that a host wrote over the firmware record holds as a record: format version, trim, residual, THM words (13 R355). -/
opaque recordOf : List Word32 → Option (Nat × Int × Int × List Word32)

/-- How far the device's L20 codes of R′G′B′ deviate from the rounded ones (06 R154: the result is fixed to ±1 code or ±0.05 %): by TCS, COLOR,
    SDR_NITS, HLG_NITS, PEAK_NITS, and the three values. -/
opaque l20Dev : Nat × Nat × Nat × Nat × Nat → Nat × Nat × Nat → Int × Int × Int

/-- Which of the two neighbouring codes the preview sends for a value between them (06 R155: the rounding is not stated). -/
opaque previewUp : Int → Bool

/-- The chroma of the preview at an even position of a line, from the line's chroma (06 R155: how 4:4:4 becomes 4:2:2 is not stated). -/
opaque previewChroma : List Int → Nat → Int

/-- The block mode that a slab writer would use when it may code (08 R184: the choice is not stated). -/
opaque slabMode : List Pixel → Nat

/-- The payload of a CODED block, whose layout is internal to the Y96 (08 R184). -/
opaque slabCode : List Pixel → List Byte

/-- The pixels of a block of a mode other than RAW and SOLID (08 R184): mode and payload. -/
opaque slabDecode : Nat → List Byte → List Pixel

/-- Whether the decoder rounds a chroma sample in sixteenths up (07 R170: the rounding of step 3 is not stated). -/
opaque chromaRoundUp : Int → Bool

/-- A payload identifier fits the configured format (06 R150: the codes are those of ST 352): VPID, EXP_RATE, RATE_1001, width, height,
    scan. -/
opaque vpidFits : Nat → Nat → Nat → Nat → Nat → Nat → Bool

/-- The launch time of packet j of n of a preview frame after its frame start, in 2^-16 ns (06 R155: the pacing of a type NL sender). -/
opaque previewLaunch : Nat → Nat → Nat

/-- Which of several regions with an action in force gives a pixel that they share (08 R213: not stated): their numbers. -/
opaque sagPick : List Nat → Nat

/-- V_total as the DIRECT check of a tile takes it: how a tile learns the line count of its sender's TGW is not stated (12 R334). -/
opaque directLines : Nat

/-- CRCC, byte 23 of an AES3 channel status, of the 23 bytes before it (15 R394). -/
opaque aesCrcc : List Byte → Byte

/-- The fused CRC of the hidden region (08 R214). -/
opaque hiddenCrc : Word32

end Sys2Proof.Config
end

