-- ==== Sys2Proof/Machine/Pq.lean ====
section
/-!
DEFINITION. The SMPTE ST 2084 curve, for the reset values of the transport tables (09 R226; 11 R298). The curve is the standard's
(PRESUMED, log 42); it is compared in fixed point of 1,024 fraction bits.
-/

namespace Sys2Proof.Machine

/-- 1.0 in fixed point. -/
def fxOne : Nat := 2 ^ 1024

/-- The square root, `n` times. -/
def fxRoot : Nat → Nat → Nat
  | 0, x => x
  | n + 1, x => fxRoot n (Nat.sqrt (x * fxOne))

/-- A power, over the `bits` low bits of the exponent. -/
def fxPow : Nat → Nat → Nat → Nat
  | 0, _, _ => fxOne
  | bits + 1, x, e =>
    let r := fxPow bits (x * x / fxOne) (e / 2)
    if e % 2 = 1 then r * x / fxOne else r

/-- The ST 2084 signal of the luminance n / d (1.0 is 10,000 cd/m²), to the power 32: m1 = 1305 / 8192, m2 = 2523 / 32. -/
def pqSignal32 (n d : Nat) : Nat :=
  let u := fxPow 11 (fxRoot 13 (n * fxOne / d)) 1305
  fxPow 12 ((3424 * fxOne + 77216 * u) * fxOne / (4096 * fxOne + 76544 * u)) 2523

/-- The signal of the luminance n / d is at least a / b: Y(a / b) ≤ n / d. -/
def pqReaches (n d a b : Nat) : Bool := decide (fxPow 6 (a * fxOne / b) 32 ≤ pqSignal32 n d)

/-- The least t below 2^bits from `lo` on that meets a monotone test, if any does; else 2^bits + lo. -/
def leastMeeting (p : Nat → Bool) : Nat → Nat → Nat
  | 0, lo => if p lo then lo else lo + 1
  | bits + 1, lo => if p (lo + 2 ^ bits - 1) then leastMeeting p bits lo else leastMeeting p bits (lo + 2 ^ bits)

/-- THR_B[q] at reset: min(ceil(K Y((q − 0.5) / (2^B − 1))), 0x10_0000) with K = 10,485,750, for PEAK_NITS 1,000 (09 R226). -/
def thrReset (B q : Nat) : Nat :=
  if q = 0 then 0 else min (leastMeeting (fun t => pqReaches t 10485750 (2 * q - 1) (2 * (2 ^ B - 1))) 20 0) 0x100000

/-- L(q) at reset: min(1,048,575, round(K Y(q / (2^B − 1)))) (11 R298): the number of v from 1 on with v − 0.5 ≤ K Y. -/
def l20Reset (B q : Nat) : Nat :=
  if q = 0 then 0
  else min (leastMeeting (fun v => pqReaches (2 * v + 1) 20971500 q (2 ^ B - 1) && !(decide (fxPow 6 (q * fxOne / (2 ^ B - 1)) 32 =
    pqSignal32 (2 * v + 1) 20971500))) 20 0) 1048575

end Sys2Proof.Machine
end

