-- ==== Sys2Proof/Machine/Fields.lean ====
section
/-!
DEFINITION. The register fields of every page by name: page, byte offset, lowest bit and width, from the register tables of the
spec's chapters. A shadowed field is named at its shadow offset; `Fld.live` is its live copy, 0x400 above (03 R62).
An event bit is named by its page and bit number (03 R70).
-/

namespace Sys2Proof.Machine

/-- A register field: page number, byte offset of its word, lowest bit, width (a field of more than 32 bits takes the next word too). -/
structure Fld where
  page : Nat
  off : Nat
  lo : Nat
  w : Nat
deriving DecidableEq, Repr

/-- The live copy of a shadowed field (03 R62). -/
def Fld.live (f : Fld) : Fld := { f with off := f.off + 0x400 }

/-- An event bit of a page (03 R62, R73). -/
structure Evt where
  page : Nat
  bit : Nat
  level : Bool
deriving DecidableEq, Repr


/-! Fields of GLB (03_registers_and_events.md). -/
namespace R.GLB
/-- The page of GLB (03 R67). -/
def page : Nat := 0x000
/-- GLB.SOFT_RESET (R70, WO). -/
def SOFT_RESET : Fld := ⟨0x000, 0x008, 0, 16⟩
/-- GLB.STATE (R70, RO). -/
def STATE : Fld := ⟨0x000, 0x00C, 0, 3⟩
/-- GLB.ROLE (R70, RO). -/
def ROLE : Fld := ⟨0x000, 0x00C, 3, 1⟩
/-- GLB.HAS_EPOCH (R70, RO). -/
def HAS_EPOCH : Fld := ⟨0x000, 0x00C, 4, 1⟩
/-- GLB.HAS_ID (R70, RO). -/
def HAS_ID : Fld := ⟨0x000, 0x00C, 5, 1⟩
/-- GLB.EVT [0] STATE_CHANGE (R70). -/
def ev_STATE_CHANGE : Evt := ⟨0x000, 0, false⟩
/-- GLB.EVT [1] EPOCH_MISS (R70). -/
def ev_EPOCH_MISS : Evt := ⟨0x000, 1, false⟩
/-- GLB.EVT [2] EPOCH_JUMP (R70). -/
def ev_EPOCH_JUMP : Evt := ⟨0x000, 2, false⟩
/-- GLB.EVT [3] ID_ASSIGNED (R70). -/
def ev_ID_ASSIGNED : Evt := ⟨0x000, 3, false⟩
/-- GLB.EVT [4] LOCAL_REJECT (R70). -/
def ev_LOCAL_REJECT : Evt := ⟨0x000, 4, false⟩
/-- GLB.NODE_ID (R70, SH). -/
def NODE_ID : Fld := ⟨0x000, 0x040, 0, 14⟩
/-- GLB.NODE_VALID (R70, SH). -/
def NODE_VALID : Fld := ⟨0x000, 0x040, 15, 1⟩
/-- GLB.ROUTE_BLK (R70, SH). -/
def ROUTE_BLK : Fld := ⟨0x000, 0x040, 16, 6⟩
/-- GLB.EPOCH (R70, RO). -/
def EPOCH : Fld := ⟨0x000, 0x600, 0, 64⟩
/-- GLB.MEMBER (R70, RO). -/
def MEMBER : Fld := ⟨0x000, 0x608, 0, 8⟩
/-- GLB.STEPPING (R70, RO). -/
def STEPPING : Fld := ⟨0x000, 0x608, 8, 8⟩
/-- GLB.PART (R70, RO). -/
def PART : Fld := ⟨0x000, 0x608, 16, 16⟩
/-- GLB.RESET_CAUSE (R70, RO). -/
def RESET_CAUSE : Fld := ⟨0x000, 0x60C, 0, 8⟩
/-- GLB.UID (R70, RO). -/
def UID : Fld := ⟨0x000, 0x610, 0, 64⟩
/-- GLB.MISSED_EPOCH (R70, RO). -/
def MISSED_EPOCH : Fld := ⟨0x000, 0x618, 0, 32⟩
/-- GLB.CNT_EPOCH_MISS (R70, RO). -/
def CNT_EPOCH_MISS : Fld := ⟨0x000, 0x680, 0, 32⟩
/-- GLB.CNT_EPOCH_JUMP (R70, RO). -/
def CNT_EPOCH_JUMP : Fld := ⟨0x000, 0x684, 0, 32⟩
/-- GLB.CNT_PARTIAL_WRITE (R70, RO). -/
def CNT_PARTIAL_WRITE : Fld := ⟨0x000, 0x688, 0, 32⟩
end R.GLB

/-! Fields of CMT (03_registers_and_events.md). -/
namespace R.CMT
/-- The page of CMT (03 R67). -/
def page : Nat := 0x002
/-- CMT.LATE_REJECT (R71, RW). -/
def LATE_REJECT : Fld := ⟨0x002, 0x008, 0, 1⟩
/-- CMT.BUSY (R71, RO). -/
def BUSY : Fld := ⟨0x002, 0x00C, 0, 1⟩
/-- CMT.LATE (R71, RO). -/
def st_LATE : Fld := ⟨0x002, 0x00C, 1, 1⟩
/-- CMT.DROPPED (R71, RO). -/
def DROPPED : Fld := ⟨0x002, 0x00C, 2, 1⟩
/-- CMT.REJECTED (R71, RO). -/
def REJECTED : Fld := ⟨0x002, 0x00C, 3, 1⟩
/-- CMT.LOAD_REFUSED (R71, RO). -/
def LOAD_REFUSED : Fld := ⟨0x002, 0x00C, 4, 1⟩
/-- CMT.PENDING (R71, RO). -/
def PENDING : Fld := ⟨0x002, 0x00C, 5, 3⟩
/-- CMT.ERR_PAGE (R71, RO). -/
def ERR_PAGE : Fld := ⟨0x002, 0x00C, 16, 12⟩
/-- CMT.EVT [0] APPLIED (R71). -/
def ev_APPLIED : Evt := ⟨0x002, 0, false⟩
/-- CMT.EVT [1] REJECT (R71). -/
def ev_REJECT : Evt := ⟨0x002, 1, false⟩
/-- CMT.EVT [2] LATE (R71). -/
def ev_LATE : Evt := ⟨0x002, 2, false⟩
/-- CMT.COMMIT (R71, RW). -/
def COMMIT : Fld := ⟨0x002, 0x600, 0, 64⟩
/-- CMT.LATE_EPOCH (R71, RO). -/
def LATE_EPOCH : Fld := ⟨0x002, 0x608, 0, 64⟩
/-- CMT.APPLIED_EPOCH (R71, RO). -/
def APPLIED_EPOCH : Fld := ⟨0x002, 0x610, 0, 64⟩
/-- CMT.NEXT_EPOCH (R71, RO). -/
def NEXT_EPOCH : Fld := ⟨0x002, 0x618, 0, 64⟩
/-- CMT.EPOCH_LOAD (R71, RW). -/
def EPOCH_LOAD : Fld := ⟨0x002, 0x620, 0, 64⟩
/-- CMT.CNT_ACCEPT (R71, RO). -/
def CNT_ACCEPT : Fld := ⟨0x002, 0x680, 0, 32⟩
/-- CMT.CNT_REJECT (R71, RO). -/
def CNT_REJECT : Fld := ⟨0x002, 0x684, 0, 32⟩
/-- CMT.CNT_LATE (R71, RO). -/
def CNT_LATE : Fld := ⟨0x002, 0x688, 0, 32⟩
/-- CMT.CNT_DROPPED (R71, RO). -/
def CNT_DROPPED : Fld := ⟨0x002, 0x68C, 0, 32⟩
end R.CMT

/-! Fields of EVT (03_registers_and_events.md). -/
namespace R.EVT
/-- The page of EVT (03 R67). -/
def page : Nat := 0x001
/-- EVT.HOLDOFF (R78, RW). -/
def HOLDOFF : Fld := ⟨0x001, 0x008, 0, 10⟩
/-- EVT.TQ_FLUSH (R78, WO). -/
def TQ_FLUSH : Fld := ⟨0x001, 0x008, 16, 1⟩
/-- EVT.TQ_LEVEL (R78, RO). -/
def TQ_LEVEL : Fld := ⟨0x001, 0x00C, 0, 9⟩
/-- EVT.EVT [0] TQ_NONEMPTY (R78). -/
def ev_TQ_NONEMPTY : Evt := ⟨0x001, 0, true⟩
/-- EVT.EVT [1] TQ_OVF (R78). -/
def ev_TQ_OVF : Evt := ⟨0x001, 1, false⟩
/-- EVT.EVT [2] TQ_HIGH (R78). -/
def ev_TQ_HIGH : Evt := ⟨0x001, 2, true⟩
/-- EVT.SUM (R78, RO). -/
def SUM (i : Nat) : Fld := ⟨0x001, 0x600 + 0x4 * i, 0, 32⟩
/-- EVT.TQ_PAGE (R78, RO). -/
def TQ_PAGE : Fld := ⟨0x001, 0x640, 0, 12⟩
/-- EVT.TQ_PORT (R78, RO). -/
def TQ_PORT : Fld := ⟨0x001, 0x640, 12, 4⟩
/-- EVT.TQ_NODE (R78, RO). -/
def TQ_NODE : Fld := ⟨0x001, 0x640, 16, 14⟩
/-- EVT.TQ_SUBTREE (R78, RO). -/
def TQ_SUBTREE : Fld := ⟨0x001, 0x640, 30, 1⟩
/-- EVT.TQ_VALID (R78, RO). -/
def TQ_VALID : Fld := ⟨0x001, 0x640, 31, 1⟩
/-- EVT.TQ_BITS (R78, RO). -/
def TQ_BITS : Fld := ⟨0x001, 0x644, 0, 32⟩
/-- EVT.TQ_EPOCH (R78, RO). -/
def TQ_EPOCH : Fld := ⟨0x001, 0x648, 0, 32⟩
/-- EVT.TQ_MORE (R78, RO). -/
def TQ_MORE : Fld := ⟨0x001, 0x64C, 0, 1⟩
/-- EVT.TQ_POP (R78, WO). -/
def TQ_POP : Fld := ⟨0x001, 0x650, 0, 32⟩
/-- EVT.CNT_TQ_DROP (R78, RO). -/
def CNT_TQ_DROP : Fld := ⟨0x001, 0x680, 0, 32⟩
end R.EVT

/-! Fields of TUN (03_registers_and_events.md). -/
namespace R.TUN
/-- The page of TUN (03 R67). -/
def page : Nat := 0x009
/-- TUN.RSP_FLUSH (R81, WO). -/
def RSP_FLUSH : Fld := ⟨0x009, 0x008, 0, 1⟩
/-- TUN.RSP_LEVEL (R81, RO). -/
def RSP_LEVEL : Fld := ⟨0x009, 0x00C, 0, 7⟩
/-- TUN.TAG_REFUSED (R81, RO). -/
def TAG_REFUSED : Fld := ⟨0x009, 0x00C, 7, 1⟩
/-- TUN.BUF_BUSY (R81, RO). -/
def BUF_BUSY : Fld := ⟨0x009, 0x00C, 16, 16⟩
/-- TUN.EVT [0] RSP_READY (R81). -/
def ev_RSP_READY : Evt := ⟨0x009, 0, true⟩
/-- TUN.EVT [1] TIMEOUT (R81). -/
def ev_TIMEOUT : Evt := ⟨0x009, 1, false⟩
/-- TUN.EVT [2] TAG_BUSY (R81). -/
def ev_TAG_BUSY : Evt := ⟨0x009, 2, false⟩
/-- TUN.REQ_NODE (R81, RW). -/
def REQ_NODE : Fld := ⟨0x009, 0x600, 0, 14⟩
/-- TUN.REQ_OFFSET (R81, RW). -/
def REQ_OFFSET : Fld := ⟨0x009, 0x604, 0, 12⟩
/-- TUN.REQ_PAGE (R81, RW). -/
def REQ_PAGE : Fld := ⟨0x009, 0x604, 12, 12⟩
/-- TUN.REQ_DATA (R81, RW). -/
def REQ_DATA : Fld := ⟨0x009, 0x608, 0, 32⟩
/-- TUN.TAG (R81, WO). -/
def TAG : Fld := ⟨0x009, 0x60C, 0, 6⟩
/-- TUN.WRITE (R81, WO). -/
def WRITE : Fld := ⟨0x009, 0x60C, 6, 1⟩
/-- TUN.LEN (R81, WO). -/
def LEN : Fld := ⟨0x009, 0x60C, 8, 6⟩
/-- TUN.BUF (R81, WO). -/
def BUF : Fld := ⟨0x009, 0x60C, 16, 4⟩
/-- TUN.RSP_TAG (R81, RO). -/
def RSP_TAG : Fld := ⟨0x009, 0x610, 0, 6⟩
/-- TUN.RSP_STATUS (R81, RO). -/
def RSP_STATUS : Fld := ⟨0x009, 0x610, 8, 4⟩
/-- TUN.RSP_VALID (R81, RO). -/
def RSP_VALID : Fld := ⟨0x009, 0x610, 31, 1⟩
/-- TUN.RSP_WORD (R81, RO). -/
def RSP_WORD : Fld := ⟨0x009, 0x614, 0, 32⟩
/-- TUN.RSP_POP (R81, WO). -/
def RSP_POP : Fld := ⟨0x009, 0x618, 0, 32⟩
/-- TUN.CNT_TIMEOUT (R81, RO). -/
def CNT_TIMEOUT : Fld := ⟨0x009, 0x680, 0, 32⟩
/-- TUN.CNT_LATE_RSP (R81, RO). -/
def CNT_LATE_RSP : Fld := ⟨0x009, 0x684, 0, 32⟩
end R.TUN

/-! Fields of CLK (04_reference_and_time.md). -/
namespace R.CLK
/-- The page of CLK (03 R67). -/
def page : Nat := 0x004
/-- CLK.AUTO_FOLLOW (R115, RW). -/
def AUTO_FOLLOW : Fld := ⟨0x004, 0x008, 0, 1⟩
/-- CLK.RELOCK_JUMP (R115, RW). -/
def RELOCK_JUMP : Fld := ⟨0x004, 0x008, 1, 1⟩
/-- CLK.TIME_SET_GO (R115, WO). -/
def TIME_SET_GO : Fld := ⟨0x004, 0x008, 2, 1⟩
/-- CLK.PPS_LOAD (R115, WO). -/
def PPS_LOAD : Fld := ⟨0x004, 0x008, 3, 1⟩
/-- CLK.LOCK_STATE (R115, RO). -/
def LOCK_STATE : Fld := ⟨0x004, 0x00C, 0, 3⟩
/-- CLK.ACTIVE_SRC (R115, RO). -/
def ACTIVE_SRC : Fld := ⟨0x004, 0x00C, 3, 3⟩
/-- CLK.QUALIFIED (R115, RO). -/
def QUALIFIED : Fld := ⟨0x004, 0x00C, 6, 4⟩
/-- CLK.TIME_SET_REFUSED (R115, RO). -/
def TIME_SET_REFUSED : Fld := ⟨0x004, 0x00C, 10, 1⟩
/-- CLK.HOLD_FRAME (R115, RO). -/
def HOLD_FRAME : Fld := ⟨0x004, 0x00C, 11, 1⟩
/-- CLK.EVT [0] LOCK_CHANGE (R115). -/
def ev_LOCK_CHANGE : Evt := ⟨0x004, 0, false⟩
/-- CLK.EVT [1] SRC_SWITCH (R115). -/
def ev_SRC_SWITCH : Evt := ⟨0x004, 1, false⟩
/-- CLK.EVT [2] SRC_LOST (R115). -/
def ev_SRC_LOST : Evt := ⟨0x004, 2, false⟩
/-- CLK.EVT [3] SRC_QUALIFIED (R115). -/
def ev_SRC_QUALIFIED : Evt := ⟨0x004, 3, false⟩
/-- CLK.EVT [4] DISPLACED (R115). -/
def ev_DISPLACED : Evt := ⟨0x004, 4, false⟩
/-- CLK.EVT [5] RELOCK (R115). -/
def ev_RELOCK : Evt := ⟨0x004, 5, false⟩
/-- CLK.EVT [6] HOLDOVER_EXPIRED (R115). -/
def ev_HOLDOVER_EXPIRED : Evt := ⟨0x004, 6, true⟩
/-- CLK.EVT [7] RATE_MISMATCH (R115). -/
def ev_RATE_MISMATCH : Evt := ⟨0x004, 7, true⟩
/-- CLK.EVT [8] DIV_FOLLOW (R115). -/
def ev_DIV_FOLLOW : Evt := ⟨0x004, 8, false⟩
/-- CLK.EVT [9] TIME_STEP (R115). -/
def ev_TIME_STEP : Evt := ⟨0x004, 9, false⟩
/-- CLK.RATE_NUM (R115, SH). -/
def RATE_NUM : Fld := ⟨0x004, 0x040, 0, 18⟩
/-- CLK.RATE_1001 (R115, SH). -/
def RATE_1001 : Fld := ⟨0x004, 0x040, 18, 1⟩
/-- CLK.SRC1 (R115, SH). -/
def SRC1 : Fld := ⟨0x004, 0x044, 0, 3⟩
/-- CLK.SRC2 (R115, SH). -/
def SRC2 : Fld := ⟨0x004, 0x044, 4, 3⟩
/-- CLK.SRC3 (R115, SH). -/
def SRC3 : Fld := ⟨0x004, 0x044, 8, 3⟩
/-- CLK.SRC4 (R115, SH). -/
def SRC4 : Fld := ⟨0x004, 0x044, 12, 3⟩
/-- CLK.RESELECT (R115, SH). -/
def RESELECT : Fld := ⟨0x004, 0x044, 16, 1⟩
/-- CLK.TICK_OFFSET (R115, SH). -/
def TICK_OFFSET : Fld := ⟨0x004, 0x048, 0, 32⟩
/-- CLK.BW (R115, SH). -/
def BW : Fld := ⟨0x004, 0x04C, 0, 20⟩
/-- CLK.HOLDOVER_LIMIT (R115, SH). -/
def HOLDOVER_LIMIT : Fld := ⟨0x004, 0x050, 0, 12⟩
/-- CLK.HOLD_AVG (R115, SH). -/
def HOLD_AVG : Fld := ⟨0x004, 0x050, 12, 8⟩
/-- CLK.SLEW_MAX (R115, SH). -/
def SLEW_MAX : Fld := ⟨0x004, 0x054, 0, 7⟩
/-- CLK.QUAL_TIME (R115, SH). -/
def QUAL_TIME : Fld := ⟨0x004, 0x058, 0, 10⟩
/-- CLK.TIME_SEC (R115, RO). -/
def TIME_SEC : Fld := ⟨0x004, 0x600, 0, 64⟩
/-- CLK.TIME_NS (R115, RO). -/
def TIME_NS : Fld := ⟨0x004, 0x608, 0, 30⟩
/-- CLK.TIME_FRAC (R115, RO). -/
def TIME_FRAC : Fld := ⟨0x004, 0x60C, 0, 16⟩
/-- CLK.TIME_SET_SEC (R115, RW). -/
def TIME_SET_SEC : Fld := ⟨0x004, 0x610, 0, 64⟩
/-- CLK.TIME_SET_NS (R115, RW). -/
def TIME_SET_NS : Fld := ⟨0x004, 0x618, 0, 30⟩
/-- CLK.PHASE_ERR (R115, RO). -/
def PHASE_ERR : Fld := ⟨0x004, 0x61C, 0, 32⟩
/-- CLK.FREQ (R115, RO). -/
def FREQ : Fld := ⟨0x004, 0x620, 0, 32⟩
/-- CLK.HOLD_FREQ (R115, RO). -/
def HOLD_FREQ : Fld := ⟨0x004, 0x624, 0, 32⟩
/-- CLK.HOLD_ELAPSED (R115, RO). -/
def HOLD_ELAPSED : Fld := ⟨0x004, 0x628, 0, 12⟩
/-- CLK.SRC_OFFSET (R115, RO). -/
def SRC_OFFSET (i : Nat) : Fld := ⟨0x004, 0x62C + 0x4 * i, 0, 32⟩
/-- CLK.CNT_DISPLACED (R115, RO). -/
def CNT_DISPLACED : Fld := ⟨0x004, 0x680, 0, 32⟩
/-- CLK.CNT_RELOCK (R115, RO). -/
def CNT_RELOCK : Fld := ⟨0x004, 0x684, 0, 32⟩
/-- CLK.CNT_SWITCH (R115, RO). -/
def CNT_SWITCH : Fld := ⟨0x004, 0x688, 0, 32⟩
/-- CLK.CNT_HOLDOVER (R115, RO). -/
def CNT_HOLDOVER : Fld := ⟨0x004, 0x68C, 0, 32⟩
/-- CLK.CNT_TICK_LATE (R115, RO). -/
def CNT_TICK_LATE : Fld := ⟨0x004, 0x690, 0, 32⟩
end R.CLK

/-! Fields of REF (04_reference_and_time.md). -/
namespace R.REF
/-- The page of REF (03 R67). -/
def page : Nat := 0x005
/-- REF.REFA_PRESENT (R116, RO). -/
def REFA_PRESENT : Fld := ⟨0x005, 0x00C, 0, 1⟩
/-- REF.REFB_PRESENT (R116, RO). -/
def REFB_PRESENT : Fld := ⟨0x005, 0x00C, 1, 1⟩
/-- REF.PPS_PRESENT (R116, RO). -/
def PPS_PRESENT : Fld := ⟨0x005, 0x00C, 2, 1⟩
/-- REF.REFA_DIV_EFF (R116, RO). -/
def REFA_DIV_EFF : Fld := ⟨0x005, 0x00C, 4, 3⟩
/-- REF.REFB_DIV_EFF (R116, RO). -/
def REFB_DIV_EFF : Fld := ⟨0x005, 0x00C, 8, 3⟩
/-- REF.EVT [0] REFA_LOST (R116). -/
def ev_REFA_LOST : Evt := ⟨0x005, 0, false⟩
/-- REF.EVT [1] REFB_LOST (R116). -/
def ev_REFB_LOST : Evt := ⟨0x005, 1, false⟩
/-- REF.EVT [2] PPS_LOST (R116). -/
def ev_PPS_LOST : Evt := ⟨0x005, 2, false⟩
/-- REF.EVT [3] REFA_RATE (R116). -/
def ev_REFA_RATE : Evt := ⟨0x005, 3, true⟩
/-- REF.EVT [4] REFB_RATE (R116). -/
def ev_REFB_RATE : Evt := ⟨0x005, 4, true⟩
/-- REF.REFA_CFG_EN (R116, SH). -/
def REFA_CFG_EN : Fld := ⟨0x005, 0x040, 0, 1⟩
/-- REF.REFB_CFG_EN (R116, SH). -/
def REFB_CFG_EN : Fld := ⟨0x005, 0x044, 0, 1⟩
/-- REF.REFA_CFG_FALLING (R116, SH). -/
def REFA_CFG_FALLING : Fld := ⟨0x005, 0x040, 1, 1⟩
/-- REF.REFB_CFG_FALLING (R116, SH). -/
def REFB_CFG_FALLING : Fld := ⟨0x005, 0x044, 1, 1⟩
/-- REF.REFA_CFG_DIV (R116, SH). -/
def REFA_CFG_DIV : Fld := ⟨0x005, 0x040, 2, 3⟩
/-- REF.REFB_CFG_DIV (R116, SH). -/
def REFB_CFG_DIV : Fld := ⟨0x005, 0x044, 2, 3⟩
/-- REF.PPS_CFG_EN (R116, SH). -/
def PPS_CFG_EN : Fld := ⟨0x005, 0x048, 0, 1⟩
/-- REF.FALLING (R116, SH). -/
def FALLING : Fld := ⟨0x005, 0x048, 1, 1⟩
/-- REF.REFA_DELAY (R116, SH). -/
def REFA_DELAY : Fld := ⟨0x005, 0x04C, 0, 32⟩
/-- REF.REFB_DELAY (R116, SH). -/
def REFB_DELAY : Fld := ⟨0x005, 0x050, 0, 32⟩
/-- REF.REFA_INTERVAL (R116, RO). -/
def REFA_INTERVAL : Fld := ⟨0x005, 0x600, 0, 32⟩
/-- REF.REFB_INTERVAL (R116, RO). -/
def REFB_INTERVAL : Fld := ⟨0x005, 0x604, 0, 32⟩
/-- REF.REFA_ERR (R116, RO). -/
def REFA_ERR : Fld := ⟨0x005, 0x608, 0, 32⟩
/-- REF.REFB_ERR (R116, RO). -/
def REFB_ERR : Fld := ⟨0x005, 0x60C, 0, 32⟩
/-- REF.PPS_OFFSET (R116, RO). -/
def PPS_OFFSET : Fld := ⟨0x005, 0x610, 0, 32⟩
/-- REF.CNT_REFA_DISPLACED (R116, RO). -/
def CNT_REFA_DISPLACED : Fld := ⟨0x005, 0x680, 0, 32⟩
/-- REF.CNT_REFB_DISPLACED (R116, RO). -/
def CNT_REFB_DISPLACED : Fld := ⟨0x005, 0x684, 0, 32⟩
/-- REF.CNT_REFA_LOST (R116, RO). -/
def CNT_REFA_LOST : Fld := ⟨0x005, 0x688, 0, 32⟩
/-- REF.CNT_REFB_LOST (R116, RO). -/
def CNT_REFB_LOST : Fld := ⟨0x005, 0x68C, 0, 32⟩
/-- REF.CNT_PPS_LOST (R116, RO). -/
def CNT_PPS_LOST : Fld := ⟨0x005, 0x690, 0, 32⟩
end R.REF

/-! Fields of PTP (04_reference_and_time.md). -/
namespace R.PTP
/-- The page of PTP n (03 R67). -/
def page (n : Nat) : Nat := 0x006 + n
/-- PTP.PORT_STATE (R117, RO). -/
def PORT_STATE (n : Nat) : Fld := ⟨0x006 + n, 0x00C, 0, 3⟩
/-- PTP.QUALIFIED (R117, RO). -/
def QUALIFIED (n : Nat) : Fld := ⟨0x006 + n, 0x00C, 3, 1⟩
/-- PTP.ACTIVE (R117, RO). -/
def ACTIVE (n : Nat) : Fld := ⟨0x006 + n, 0x00C, 4, 1⟩
/-- PTP.EVT [0] STATE_CHANGE (R117). -/
def ev_STATE_CHANGE (n : Nat) : Evt := ⟨0x006 + n, 0, false⟩
/-- PTP.EVT [1] GM_CHANGE (R117). -/
def ev_GM_CHANGE (n : Nat) : Evt := ⟨0x006 + n, 1, false⟩
/-- PTP.EVT [2] LOST (R117). -/
def ev_LOST (n : Nat) : Evt := ⟨0x006 + n, 2, false⟩
/-- PTP.EVT [3] DISPLACED (R117). -/
def ev_DISPLACED (n : Nat) : Evt := ⟨0x006 + n, 3, false⟩
/-- PTP.EN (R117, SH). -/
def EN (n : Nat) : Fld := ⟨0x006 + n, 0x040, 0, 1⟩
/-- PTP.NET (R117, SH). -/
def NET (n : Nat) : Fld := ⟨0x006 + n, 0x040, 1, 3⟩
/-- PTP.DOMAIN (R117, SH). -/
def DOMAIN (n : Nat) : Fld := ⟨0x006 + n, 0x040, 8, 8⟩
/-- PTP.UNICAST_DELAY (R117, SH). -/
def UNICAST_DELAY (n : Nat) : Fld := ⟨0x006 + n, 0x040, 16, 1⟩
/-- PTP.LOG_SYNC (R117, SH). -/
def LOG_SYNC (n : Nat) : Fld := ⟨0x006 + n, 0x044, 0, 3⟩
/-- PTP.ANN_TIMEOUT (R117, SH). -/
def ANN_TIMEOUT (n : Nat) : Fld := ⟨0x006 + n, 0x044, 4, 4⟩
/-- PTP.FILT (R117, SH). -/
def FILT (n : Nat) : Fld := ⟨0x006 + n, 0x044, 8, 3⟩
/-- PTP.CLASS_MAX (R117, SH). -/
def CLASS_MAX (n : Nat) : Fld := ⟨0x006 + n, 0x044, 16, 8⟩
/-- PTP.LOCAL_IP (R117, SH). -/
def LOCAL_IP (n : Nat) : Fld := ⟨0x006 + n, 0x048, 0, 32⟩
/-- PTP.VLAN_ID (R117, SH). -/
def VLAN_ID (n : Nat) : Fld := ⟨0x006 + n, 0x04C, 0, 12⟩
/-- PTP.VLAN_EN (R117, SH). -/
def VLAN_EN (n : Nat) : Fld := ⟨0x006 + n, 0x04C, 12, 1⟩
/-- PTP.PCP (R117, SH). -/
def PCP (n : Nat) : Fld := ⟨0x006 + n, 0x04C, 13, 3⟩
/-- PTP.ASYM (R117, SH). -/
def ASYM (n : Nat) : Fld := ⟨0x006 + n, 0x050, 0, 32⟩
/-- PTP.OFFSET (R117, RO). -/
def OFFSET (n : Nat) : Fld := ⟨0x006 + n, 0x600, 0, 32⟩
/-- PTP.MEAN_PATH_DELAY (R117, RO). -/
def MEAN_PATH_DELAY (n : Nat) : Fld := ⟨0x006 + n, 0x604, 0, 32⟩
/-- PTP.GM_IDENTITY (R117, RO). -/
def GM_IDENTITY (n : Nat) : Fld := ⟨0x006 + n, 0x608, 0, 64⟩
/-- PTP.GM_CLASS (R117, RO). -/
def GM_CLASS (n : Nat) : Fld := ⟨0x006 + n, 0x610, 0, 8⟩
/-- PTP.GM_ACCURACY (R117, RO). -/
def GM_ACCURACY (n : Nat) : Fld := ⟨0x006 + n, 0x610, 8, 8⟩
/-- PTP.GM_VARIANCE (R117, RO). -/
def GM_VARIANCE (n : Nat) : Fld := ⟨0x006 + n, 0x610, 16, 16⟩
/-- PTP.STEPS_REMOVED (R117, RO). -/
def STEPS_REMOVED (n : Nat) : Fld := ⟨0x006 + n, 0x614, 0, 16⟩
/-- PTP.UTC_OFFSET (R117, RO). -/
def UTC_OFFSET (n : Nat) : Fld := ⟨0x006 + n, 0x614, 16, 16⟩
/-- PTP.CNT_SYNC (R117, RO). -/
def CNT_SYNC (n : Nat) : Fld := ⟨0x006 + n, 0x680, 0, 32⟩
/-- PTP.CNT_LOST (R117, RO). -/
def CNT_LOST (n : Nat) : Fld := ⟨0x006 + n, 0x684, 0, 32⟩
/-- PTP.CNT_BAD_MSG (R117, RO). -/
def CNT_BAD_MSG (n : Nat) : Fld := ⟨0x006 + n, 0x688, 0, 32⟩
/-- PTP.CNT_DISPLACED (R117, RO). -/
def CNT_DISPLACED (n : Nat) : Fld := ⟨0x006 + n, 0x68C, 0, 32⟩
end R.PTP

/-! Fields of TSQ (04_reference_and_time.md). -/
namespace R.TSQ
/-- The page of TSQ (03 R67). -/
def page : Nat := 0x008
/-- TSQ.OVF_CLR (R118, WO). -/
def OVF_CLR : Fld := ⟨0x008, 0x008, 0, 1⟩
/-- TSQ.FLUSH (R118, WO). -/
def FLUSH : Fld := ⟨0x008, 0x008, 1, 1⟩
/-- TSQ.LEVEL (R118, RO). -/
def LEVEL : Fld := ⟨0x008, 0x00C, 0, 7⟩
/-- TSQ.OVF (R118, RO). -/
def OVF : Fld := ⟨0x008, 0x00C, 7, 1⟩
/-- TSQ.EVT [0] NONEMPTY (R118). -/
def ev_NONEMPTY : Evt := ⟨0x008, 0, true⟩
/-- TSQ.EVT [1] OVERFLOW (R118). -/
def ev_OVERFLOW : Evt := ⟨0x008, 1, false⟩
/-- TSQ.EVT [2] HIGH (R118). -/
def ev_HIGH : Evt := ⟨0x008, 2, true⟩
/-- TSQ.HEAD_ID (R118, RO). -/
def HEAD_ID : Fld := ⟨0x008, 0x600, 0, 16⟩
/-- TSQ.HEAD_PORT (R118, RO). -/
def HEAD_PORT : Fld := ⟨0x008, 0x600, 16, 3⟩
/-- TSQ.HEAD_VALID (R118, RO). -/
def HEAD_VALID : Fld := ⟨0x008, 0x600, 31, 1⟩
/-- TSQ.HEAD_SEC (R118, RO). -/
def HEAD_SEC : Fld := ⟨0x008, 0x604, 0, 64⟩
/-- TSQ.HEAD_NS (R118, RO). -/
def HEAD_NS : Fld := ⟨0x008, 0x60C, 0, 30⟩
/-- TSQ.HEAD_FRAC (R118, RO). -/
def HEAD_FRAC : Fld := ⟨0x008, 0x610, 0, 16⟩
/-- TSQ.POP (R118, WO). -/
def POP : Fld := ⟨0x008, 0x614, 0, 32⟩
/-- TSQ.CNT_LOST (R118, RO). -/
def CNT_LOST : Fld := ⟨0x008, 0x680, 0, 32⟩
end R.TSQ

/-! Fields of LOOP (04_reference_and_time.md). -/
namespace R.LOOP
/-- The page of LOOP (03 R67). -/
def page : Nat := 0x0C0
/-- LOOP.OPEN (R119, RW). -/
def OPEN : Fld := ⟨0x0C0, 0x008, 0, 10⟩
/-- LOOP.SAT (R119, RO). -/
def st_SAT : Fld := ⟨0x0C0, 0x00C, 0, 10⟩
/-- LOOP.EVT [0] SAT (R119). -/
def ev_SAT (i : Nat) : Evt := ⟨0x0C0, 0 + i, true⟩
/-- LOOP.EVT [16] OPEN_REFUSED (R119). -/
def ev_OPEN_REFUSED : Evt := ⟨0x0C0, 16, false⟩
/-- LOOP.KP (R119, SH). -/
def KP (i : Nat) : Fld := ⟨0x0C0, 0x040 + 0x20 * i, 0, 32⟩
/-- LOOP.KI (R119, SH). -/
def KI (i : Nat) : Fld := ⟨0x0C0, 0x044 + 0x20 * i, 0, 32⟩
/-- LOOP.KFF (R119, SH). -/
def KFF (i : Nat) : Fld := ⟨0x0C0, 0x048 + 0x20 * i, 0, 32⟩
/-- LOOP.KR (R119, SH). -/
def KR (i : Nat) : Fld := ⟨0x0C0, 0x04C + 0x20 * i, 0, 32⟩
/-- LOOP.OUT_MIN (R119, SH). -/
def OUT_MIN (i : Nat) : Fld := ⟨0x0C0, 0x050 + 0x20 * i, 0, 32⟩
/-- LOOP.OUT_MAX (R119, SH). -/
def OUT_MAX (i : Nat) : Fld := ⟨0x0C0, 0x054 + 0x20 * i, 0, 32⟩
/-- LOOP.SETPOINT (R119, SH). -/
def SETPOINT (i : Nat) : Fld := ⟨0x0C0, 0x058 + 0x20 * i, 0, 32⟩
/-- LOOP.RSVD (R119, SH). -/
def RSVD (i : Nat) : Fld := ⟨0x0C0, 0x05C + 0x20 * i, 0, 32⟩
/-- LOOP.OUT (R119, RO). -/
def OUT (i : Nat) : Fld := ⟨0x0C0, 0x600 + 0x8 * i, 0, 32⟩
/-- LOOP.ERR (R119, RO). -/
def ERR (i : Nat) : Fld := ⟨0x0C0, 0x604 + 0x8 * i, 0, 32⟩
/-- LOOP.CNT_OPEN_REFUSED (R119, RO). -/
def CNT_OPEN_REFUSED : Fld := ⟨0x0C0, 0x680, 0, 32⟩
end R.LOOP

/-! Fields of SCH (05_schedules_and_slots.md). -/
namespace R.SCH
/-- The page of SCH (03 R67). -/
def page : Nat := 0x003
/-- SCH.CS_HIZ (R137, RW). -/
def CS_HIZ : Fld := ⟨0x003, 0x008, 0, 1⟩
/-- SCH.MODE (R137, RO). -/
def st_MODE : Fld := ⟨0x003, 0x00C, 0, 3⟩
/-- SCH.TRANSITION (R137, RO). -/
def st_TRANSITION : Fld := ⟨0x003, 0x00C, 3, 1⟩
/-- SCH.SLOTS (R137, RO). -/
def st_SLOTS : Fld := ⟨0x003, 0x00C, 4, 3⟩
/-- SCH.FEEDS (R137, RO). -/
def FEEDS : Fld := ⟨0x003, 0x00C, 7, 4⟩
/-- SCH.TRANS_LEFT (R137, RO). -/
def TRANS_LEFT : Fld := ⟨0x003, 0x00C, 11, 4⟩
/-- SCH.EVT [0] MODE_CHANGE (R137). -/
def ev_MODE_CHANGE : Evt := ⟨0x003, 0, false⟩
/-- SCH.EVT [1] TRANSITION (R137). -/
def ev_TRANSITION : Evt := ⟨0x003, 1, true⟩
/-- SCH.EVT [2] NEW_FEED_DARK (R137). -/
def ev_NEW_FEED_DARK : Evt := ⟨0x003, 2, false⟩
/-- SCH.EVT [3] CS_SHORTENED (R137). -/
def ev_CS_SHORTENED : Evt := ⟨0x003, 3, false⟩
/-- SCH.EVT [4] MASK_STALE (R137). -/
def ev_MASK_STALE : Evt := ⟨0x003, 4, false⟩
/-- SCH.MODE (R137, SH). -/
def MODE : Fld := ⟨0x003, 0x040, 0, 3⟩
/-- SCH.SLOTS (R137, SH). -/
def SLOTS : Fld := ⟨0x003, 0x040, 4, 3⟩
/-- SCH.EQUAL (R137, SH). -/
def EQUAL : Fld := ⟨0x003, 0x040, 7, 1⟩
/-- SCH.TRANSITION (R137, SH). -/
def TRANSITION : Fld := ⟨0x003, 0x040, 8, 1⟩
/-- SCH.TRANS_FRAMES (R137, SH). -/
def TRANS_FRAMES : Fld := ⟨0x003, 0x040, 9, 3⟩
/-- SCH.MEAS_SRC (R137, SH). -/
def MEAS_SRC : Fld := ⟨0x003, 0x040, 12, 1⟩
/-- SCH.MEAS_RAW (R137, SH). -/
def MEAS_RAW : Fld := ⟨0x003, 0x040, 13, 1⟩
/-- SCH.FEED_MASK0 (R137, SH). -/
def FEED_MASK0 : Fld := ⟨0x003, 0x044, 0, 8⟩
/-- SCH.FEED_MASK1 (R137, SH). -/
def FEED_MASK1 : Fld := ⟨0x003, 0x044, 8, 8⟩
/-- SCH.FEED_MASK2 (R137, SH). -/
def FEED_MASK2 : Fld := ⟨0x003, 0x044, 16, 8⟩
/-- SCH.FEED_MASK3 (R137, SH). -/
def FEED_MASK3 : Fld := ⟨0x003, 0x044, 24, 8⟩
/-- SCH.FEED_MASK4 (R137, SH). -/
def FEED_MASK4 : Fld := ⟨0x003, 0x048, 0, 8⟩
/-- SCH.FEED_MASK5 (R137, SH). -/
def FEED_MASK5 : Fld := ⟨0x003, 0x048, 8, 8⟩
/-- SCH.FEED_MASK6 (R137, SH). -/
def FEED_MASK6 : Fld := ⟨0x003, 0x048, 16, 8⟩
/-- SCH.FEED_MASK7 (R137, SH). -/
def FEED_MASK7 : Fld := ⟨0x003, 0x048, 24, 8⟩
/-- SCH.SLOT_START1 (R137, SH). -/
def SLOT_START1 : Fld := ⟨0x003, 0x04C, 0, 10⟩
/-- SCH.SLOT_START2 (R137, SH). -/
def SLOT_START2 : Fld := ⟨0x003, 0x04C, 16, 10⟩
/-- SCH.SLOT_START3 (R137, SH). -/
def SLOT_START3 : Fld := ⟨0x003, 0x050, 0, 10⟩
/-- SCH.SLOT_START4 (R137, SH). -/
def SLOT_START4 : Fld := ⟨0x003, 0x050, 16, 10⟩
/-- SCH.SLOT_START5 (R137, SH). -/
def SLOT_START5 : Fld := ⟨0x003, 0x054, 0, 10⟩
/-- SCH.SLOT_START6 (R137, SH). -/
def SLOT_START6 : Fld := ⟨0x003, 0x054, 16, 10⟩
/-- SCH.SLOT_START7 (R137, SH). -/
def SLOT_START7 : Fld := ⟨0x003, 0x058, 0, 10⟩
/-- SCH.MEAS_PAT_PAT (R137, SH). -/
def MEAS_PAT_PAT (i : Nat) : Fld := ⟨0x003, 0x05C + 0x4 * i, 0, 3⟩
/-- SCH.MEAS_PAT_LEVEL (R137, SH). -/
def MEAS_PAT_LEVEL (i : Nat) : Fld := ⟨0x003, 0x05C + 0x4 * i, 4, 20⟩
/-- SCH.EN (R137, SH). -/
def EN (i : Nat) : Fld := ⟨0x003, 0x080 + 0x8 * i, 0, 1⟩
/-- SCH.ACTIVE_LOW (R137, SH). -/
def ACTIVE_LOW (i : Nat) : Fld := ⟨0x003, 0x080 + 0x8 * i, 1, 1⟩
/-- SCH.FOLLOW (R137, SH). -/
def FOLLOW (i : Nat) : Fld := ⟨0x003, 0x080 + 0x8 * i, 2, 1⟩
/-- SCH.FEED (R137, SH). -/
def FEED (i : Nat) : Fld := ⟨0x003, 0x080 + 0x8 * i, 3, 3⟩
/-- SCH.MASK (R137, SH). -/
def MASK (i : Nat) : Fld := ⟨0x003, 0x080 + 0x8 * i, 8, 8⟩
/-- SCH.WIDTH (R137, SH). -/
def WIDTH (i : Nat) : Fld := ⟨0x003, 0x080 + 0x8 * i, 16, 16⟩
/-- SCH.OFFSET (R137, SH). -/
def OFFSET (i : Nat) : Fld := ⟨0x003, 0x084 + 0x8 * i, 0, 32⟩
/-- SCH.TRANS_EPOCH (R137, RO). -/
def TRANS_EPOCH : Fld := ⟨0x003, 0x600, 0, 32⟩
/-- SCH.SLOT_T (R137, RO). -/
def SLOT_T (i : Nat) : Fld := ⟨0x003, 0x604 + 0x4 * i, 0, 32⟩
/-- SCH.CNT_TRANSITION (R137, RO). -/
def CNT_TRANSITION : Fld := ⟨0x003, 0x680, 0, 32⟩
/-- SCH.CNT_CS_SHORTENED (R137, RO). -/
def CNT_CS_SHORTENED : Fld := ⟨0x003, 0x684, 0, 32⟩
/-- SCH.CNT_NEW_FEED_DARK (R137, RO). -/
def CNT_NEW_FEED_DARK : Fld := ⟨0x003, 0x688, 0, 32⟩
/-- SCH.CNT_MASK_STALE (R137, RO). -/
def CNT_MASK_STALE : Fld := ⟨0x003, 0x68C, 0, 32⟩
end R.SCH

/-! Fields of NET (06_source_ports.md). -/
namespace R.NET
/-- The page of NET n (03 R67). -/
def page (n : Nat) : Nat := 0x010 + n
/-- NET.TXQ_EN (R157, RW). -/
def TXQ_EN (n : Nat) : Fld := ⟨0x010 + n, 0x008, 0, 1⟩
/-- NET.RXQ_EN (R157, RW). -/
def RXQ_EN (n : Nat) : Fld := ⟨0x010 + n, 0x008, 1, 1⟩
/-- NET.LINK_UP (R157, RO). -/
def LINK_UP (n : Nat) : Fld := ⟨0x010 + n, 0x00C, 0, 1⟩
/-- NET.FEC_LOCK (R157, RO). -/
def FEC_LOCK (n : Nat) : Fld := ⟨0x010 + n, 0x00C, 1, 1⟩
/-- NET.IGMP_COMPAT (R157, RO). -/
def IGMP_COMPAT (n : Nat) : Fld := ⟨0x010 + n, 0x00C, 2, 1⟩
/-- NET.EVT [0] LINK_DOWN (R157). -/
def ev_LINK_DOWN (n : Nat) : Evt := ⟨0x010 + n, 0, true⟩
/-- NET.EVT [1] FEC_UNCORR (R157). -/
def ev_FEC_UNCORR (n : Nat) : Evt := ⟨0x010 + n, 1, false⟩
/-- NET.EVT [2] TX_LATE (R157). -/
def ev_TX_LATE (n : Nat) : Evt := ⟨0x010 + n, 2, false⟩
/-- NET.EVT [3] RXQ_DROP (R157). -/
def ev_RXQ_DROP (n : Nat) : Evt := ⟨0x010 + n, 3, false⟩
/-- NET.PORT_MODE (R157, SH). -/
def PORT_MODE (n : Nat) : Fld := ⟨0x010 + n, 0x040, 0, 1⟩
/-- NET.EN (R157, SH). -/
def EN (n : Nat) : Fld := ⟨0x010 + n, 0x040, 1, 1⟩
/-- NET.FEC (R157, SH). -/
def FEC (n : Nat) : Fld := ⟨0x010 + n, 0x040, 2, 2⟩
/-- NET.AN (R157, SH). -/
def AN (n : Nat) : Fld := ⟨0x010 + n, 0x040, 4, 1⟩
/-- NET.MAC (R157, SH). -/
def MAC (n : Nat) : Fld := ⟨0x010 + n, 0x044, 0, 48⟩
/-- NET.LOCAL_IP (R157, SH). -/
def LOCAL_IP (n : Nat) : Fld := ⟨0x010 + n, 0x04C, 0, 32⟩
/-- NET.PREFIX (R157, SH). -/
def PREFIX (n : Nat) : Fld := ⟨0x010 + n, 0x050, 0, 6⟩
/-- NET.GATEWAY (R157, SH). -/
def GATEWAY (n : Nat) : Fld := ⟨0x010 + n, 0x054, 0, 32⟩
/-- NET.VLAN_ID (R157, SH). -/
def VLAN_ID (n : Nat) : Fld := ⟨0x010 + n, 0x058, 0, 12⟩
/-- NET.VLAN_EN (R157, SH). -/
def VLAN_EN (n : Nat) : Fld := ⟨0x010 + n, 0x058, 12, 1⟩
/-- NET.PCP (R157, SH). -/
def PCP (n : Nat) : Fld := ⟨0x010 + n, 0x058, 13, 3⟩
/-- NET.IGMP_ROBUST (R157, SH). -/
def IGMP_ROBUST (n : Nat) : Fld := ⟨0x010 + n, 0x05C, 0, 4⟩
/-- NET.UNSOL_INTERVAL (R157, SH). -/
def UNSOL_INTERVAL (n : Nat) : Fld := ⟨0x010 + n, 0x05C, 8, 8⟩
/-- NET.TXQ_BASE (R157, RW). -/
def TXQ_BASE (n : Nat) : Fld := ⟨0x010 + n, 0x600, 0, 64⟩
/-- NET.TXQ_TAIL (R157, RW). -/
def TXQ_TAIL (n : Nat) : Fld := ⟨0x010 + n, 0x608, 0, 8⟩
/-- NET.TXQ_HEAD (R157, RO). -/
def TXQ_HEAD (n : Nat) : Fld := ⟨0x010 + n, 0x60C, 0, 8⟩
/-- NET.RXQ_BASE (R157, RW). -/
def RXQ_BASE (n : Nat) : Fld := ⟨0x010 + n, 0x610, 0, 64⟩
/-- NET.RXQ_TAIL (R157, RW). -/
def RXQ_TAIL (n : Nat) : Fld := ⟨0x010 + n, 0x618, 0, 8⟩
/-- NET.RXQ_HEAD (R157, RO). -/
def RXQ_HEAD (n : Nat) : Fld := ⟨0x010 + n, 0x61C, 0, 8⟩
/-- NET.CNT_RX_FRAMES (R157, RO). -/
def CNT_RX_FRAMES (n : Nat) : Fld := ⟨0x010 + n, 0x680, 0, 32⟩
/-- NET.CNT_RX_FCS (R157, RO). -/
def CNT_RX_FCS (n : Nat) : Fld := ⟨0x010 + n, 0x684, 0, 32⟩
/-- NET.CNT_FEC_CORR (R157, RO). -/
def CNT_FEC_CORR (n : Nat) : Fld := ⟨0x010 + n, 0x688, 0, 32⟩
/-- NET.CNT_FEC_UNCORR (R157, RO). -/
def CNT_FEC_UNCORR (n : Nat) : Fld := ⟨0x010 + n, 0x68C, 0, 32⟩
/-- NET.CNT_RX_UNMATCHED (R157, RO). -/
def CNT_RX_UNMATCHED (n : Nat) : Fld := ⟨0x010 + n, 0x690, 0, 32⟩
/-- NET.CNT_PAUSE (R157, RO). -/
def CNT_PAUSE (n : Nat) : Fld := ⟨0x010 + n, 0x694, 0, 32⟩
/-- NET.CNT_TX_FRAMES (R157, RO). -/
def CNT_TX_FRAMES (n : Nat) : Fld := ⟨0x010 + n, 0x698, 0, 32⟩
/-- NET.CNT_TX_LATE (R157, RO). -/
def CNT_TX_LATE (n : Nat) : Fld := ⟨0x010 + n, 0x69C, 0, 32⟩
/-- NET.CNT_RXQ_DROP (R157, RO). -/
def CNT_RXQ_DROP (n : Nat) : Fld := ⟨0x010 + n, 0x6A0, 0, 32⟩
end R.NET

/-! Fields of STR (06_source_ports.md). -/
namespace R.STR
/-- The page of STR n (03 R67). -/
def page (n : Nat) : Nat := 0x020 + n
/-- STR.RESYNC (R158, WO). -/
def RESYNC (n : Nat) : Fld := ⟨0x020 + n, 0x008, 0, 1⟩
/-- STR.STATE (R158, RO). -/
def STATE (n : Nat) : Fld := ⟨0x020 + n, 0x00C, 0, 2⟩
/-- STR.LEG_A_OK (R158, RO). -/
def LEG_A_OK (n : Nat) : Fld := ⟨0x020 + n, 0x00C, 2, 1⟩
/-- STR.LEG_B_OK (R158, RO). -/
def LEG_B_OK (n : Nat) : Fld := ⟨0x020 + n, 0x00C, 3, 1⟩
/-- STR.ASM_FALLBACK (R158, RO). -/
def ASM_FALLBACK (n : Nat) : Fld := ⟨0x020 + n, 0x00C, 4, 1⟩
/-- STR.EVT [0] LEG_DOWN (R158). -/
def ev_LEG_DOWN (n : Nat) : Evt := ⟨0x020 + n, 0, true⟩
/-- STR.EVT [1] LOSS (R158). -/
def ev_LOSS (n : Nat) : Evt := ⟨0x020 + n, 1, false⟩
/-- STR.EVT [2] INCOMPLETE (R158). -/
def ev_INCOMPLETE (n : Nat) : Evt := ⟨0x020 + n, 2, false⟩
/-- STR.EVT [3] NOBUF (R158). -/
def ev_NOBUF (n : Nat) : Evt := ⟨0x020 + n, 3, false⟩
/-- STR.EN (R158, SH). -/
def EN (n : Nat) : Fld := ⟨0x020 + n, 0x040, 0, 1⟩
/-- STR.KIND (R158, SH). -/
def KIND (n : Nat) : Fld := ⟨0x020 + n, 0x040, 1, 2⟩
/-- STR.PORT_A (R158, SH). -/
def PORT_A (n : Nat) : Fld := ⟨0x020 + n, 0x040, 3, 3⟩
/-- STR.PORT_B (R158, SH). -/
def PORT_B (n : Nat) : Fld := ⟨0x020 + n, 0x040, 7, 3⟩
/-- STR.LEG_B_EN (R158, SH). -/
def LEG_B_EN (n : Nat) : Fld := ⟨0x020 + n, 0x040, 6, 1⟩
/-- STR.PT (R158, SH). -/
def PT (n : Nat) : Fld := ⟨0x020 + n, 0x040, 10, 7⟩
/-- STR.INCOMPLETE (R158, SH). -/
def INCOMPLETE (n : Nat) : Fld := ⟨0x020 + n, 0x040, 17, 1⟩
/-- STR.LIVE (R158, SH). -/
def LIVE (n : Nat) : Fld := ⟨0x020 + n, 0x040, 18, 1⟩
/-- STR.GROUP_A (R158, SH). -/
def GROUP_A (n : Nat) : Fld := ⟨0x020 + n, 0x044, 0, 32⟩
/-- STR.SRC_A (R158, SH). -/
def SRC_A (n : Nat) : Fld := ⟨0x020 + n, 0x048, 0, 32⟩
/-- STR.UDP_A (R158, SH). -/
def UDP_A (n : Nat) : Fld := ⟨0x020 + n, 0x04C, 0, 16⟩
/-- STR.UDP_B (R158, SH). -/
def UDP_B (n : Nat) : Fld := ⟨0x020 + n, 0x04C, 16, 16⟩
/-- STR.GROUP_B (R158, SH). -/
def GROUP_B (n : Nat) : Fld := ⟨0x020 + n, 0x050, 0, 32⟩
/-- STR.SRC_B (R158, SH). -/
def SRC_B (n : Nat) : Fld := ⟨0x020 + n, 0x054, 0, 32⟩
/-- STR.REORDER (R158, SH). -/
def REORDER (n : Nat) : Fld := ⟨0x020 + n, 0x058, 0, 8⟩
/-- STR.BUF_COUNT (R158, SH). -/
def BUF_COUNT (n : Nat) : Fld := ⟨0x020 + n, 0x058, 8, 4⟩
/-- STR.BUF_BASE (R158, SH). -/
def BUF_BASE (n : Nat) : Fld := ⟨0x020 + n, 0x05C, 0, 64⟩
/-- STR.BUF_STRIDE (R158, SH). -/
def BUF_STRIDE (n : Nat) : Fld := ⟨0x020 + n, 0x064, 0, 24⟩
/-- STR.WIDTH (R158, SH). -/
def WIDTH (n : Nat) : Fld := ⟨0x020 + n, 0x068, 0, 14⟩
/-- STR.HEIGHT (R158, SH). -/
def HEIGHT (n : Nat) : Fld := ⟨0x020 + n, 0x068, 16, 14⟩
/-- STR.SAMPLING (R158, SH). -/
def SAMPLING (n : Nat) : Fld := ⟨0x020 + n, 0x06C, 0, 2⟩
/-- STR.DEPTH (R158, SH). -/
def DEPTH (n : Nat) : Fld := ⟨0x020 + n, 0x06C, 2, 2⟩
/-- STR.BPM (R158, SH). -/
def BPM (n : Nat) : Fld := ⟨0x020 + n, 0x06C, 4, 1⟩
/-- STR.SCAN (R158, SH). -/
def SCAN (n : Nat) : Fld := ⟨0x020 + n, 0x06C, 5, 2⟩
/-- STR.TCS (R158, SH). -/
def TCS (n : Nat) : Fld := ⟨0x020 + n, 0x06C, 7, 2⟩
/-- STR.COLOR (R158, SH). -/
def COLOR (n : Nat) : Fld := ⟨0x020 + n, 0x06C, 9, 1⟩
/-- STR.FULL (R158, SH). -/
def FULL (n : Nat) : Fld := ⟨0x020 + n, 0x06C, 10, 1⟩
/-- STR.CHANNELS (R158, SH). -/
def CHANNELS (n : Nat) : Fld := ⟨0x020 + n, 0x070, 0, 4⟩
/-- STR.RATE_96 (R158, SH). -/
def RATE_96 (n : Nat) : Fld := ⟨0x020 + n, 0x070, 4, 1⟩
/-- STR.L16 (R158, SH). -/
def L16 (n : Nat) : Fld := ⟨0x020 + n, 0x070, 5, 1⟩
/-- STR.PTIME_125 (R158, SH). -/
def PTIME_125 (n : Nat) : Fld := ⟨0x020 + n, 0x070, 6, 1⟩
/-- STR.SDR_NITS (R158, SH). -/
def SDR_NITS (n : Nat) : Fld := ⟨0x020 + n, 0x074, 0, 16⟩
/-- STR.HLG_NITS (R158, SH). -/
def HLG_NITS (n : Nat) : Fld := ⟨0x020 + n, 0x074, 16, 16⟩
/-- STR.READY_IDX (R158, RO). -/
def READY_IDX (n : Nat) : Fld := ⟨0x020 + n, 0x600, 0, 6⟩
/-- STR.READY_VALID (R158, RO). -/
def READY_VALID (n : Nat) : Fld := ⟨0x020 + n, 0x600, 31, 1⟩
/-- STR.READY_RTP (R158, RO). -/
def READY_RTP (n : Nat) : Fld := ⟨0x020 + n, 0x604, 0, 32⟩
/-- STR.D_MAX_US (R158, RO). -/
def D_MAX_US (n : Nat) : Fld := ⟨0x020 + n, 0x608, 0, 32⟩
/-- STR.CNT_PKT (R158, RO). -/
def CNT_PKT (n : Nat) : Fld := ⟨0x020 + n, 0x680, 0, 32⟩
/-- STR.CNT_LOST (R158, RO). -/
def CNT_LOST (n : Nat) : Fld := ⟨0x020 + n, 0x684, 0, 32⟩
/-- STR.CNT_MERGED (R158, RO). -/
def CNT_MERGED (n : Nat) : Fld := ⟨0x020 + n, 0x688, 0, 32⟩
/-- STR.CNT_LEG_A_LOST (R158, RO). -/
def CNT_LEG_A_LOST (n : Nat) : Fld := ⟨0x020 + n, 0x68C, 0, 32⟩
/-- STR.CNT_LEG_B_LOST (R158, RO). -/
def CNT_LEG_B_LOST (n : Nat) : Fld := ⟨0x020 + n, 0x690, 0, 32⟩
/-- STR.CNT_PT_DROP (R158, RO). -/
def CNT_PT_DROP (n : Nat) : Fld := ⟨0x020 + n, 0x694, 0, 32⟩
/-- STR.CNT_INCOMPLETE (R158, RO). -/
def CNT_INCOMPLETE (n : Nat) : Fld := ⟨0x020 + n, 0x698, 0, 32⟩
/-- STR.CNT_NOBUF (R158, RO). -/
def CNT_NOBUF (n : Nat) : Fld := ⟨0x020 + n, 0x69C, 0, 32⟩
/-- STR.CNT_REORDER_LATE (R158, RO). -/
def CNT_REORDER_LATE (n : Nat) : Fld := ⟨0x020 + n, 0x6A0, 0, 32⟩
end R.STR

/-! Fields of SDI (06_source_ports.md). -/
namespace R.SDI
/-- The page of SDI n (03 R67). -/
def page (n : Nat) : Nat := 0x018 + n
/-- SDI.RESYNC (R159, WO). -/
def RESYNC (n : Nat) : Fld := ⟨0x018 + n, 0x008, 0, 1⟩
/-- SDI.RATE (R159, RO). -/
def RATE (n : Nat) : Fld := ⟨0x018 + n, 0x00C, 0, 2⟩
/-- SDI.LOCKED (R159, RO). -/
def LOCKED (n : Nat) : Fld := ⟨0x018 + n, 0x00C, 2, 1⟩
/-- SDI.VPID_VALID (R159, RO). -/
def VPID_VALID (n : Nat) : Fld := ⟨0x018 + n, 0x00C, 3, 1⟩
/-- SDI.EVT [0] LOCK_CHANGE (R159). -/
def ev_LOCK_CHANGE (n : Nat) : Evt := ⟨0x018 + n, 0, false⟩
/-- SDI.EVT [1] FORMAT_ERR (R159). -/
def ev_FORMAT_ERR (n : Nat) : Evt := ⟨0x018 + n, 1, true⟩
/-- SDI.EVT [2] QUAD_SKEW (R159). -/
def ev_QUAD_SKEW (n : Nat) : Evt := ⟨0x018 + n, 2, true⟩
/-- SDI.EVT [3] NOBUF (R159). -/
def ev_NOBUF (n : Nat) : Evt := ⟨0x018 + n, 3, false⟩
/-- SDI.EN (R159, SH). -/
def EN (n : Nat) : Fld := ⟨0x018 + n, 0x040, 0, 1⟩
/-- SDI.QUAD (R159, SH). -/
def QUAD (n : Nat) : Fld := ⟨0x018 + n, 0x040, 1, 1⟩
/-- SDI.EXP_RATE (R159, SH). -/
def EXP_RATE (n : Nat) : Fld := ⟨0x018 + n, 0x040, 2, 2⟩
/-- SDI.RATE_1001 (R159, SH). -/
def RATE_1001 (n : Nat) : Fld := ⟨0x018 + n, 0x040, 4, 1⟩
/-- SDI.WIDTH (R159, SH). -/
def WIDTH (n : Nat) : Fld := ⟨0x018 + n, 0x044, 0, 14⟩
/-- SDI.HEIGHT (R159, SH). -/
def HEIGHT (n : Nat) : Fld := ⟨0x018 + n, 0x044, 16, 14⟩
/-- SDI.SCAN (R159, SH). -/
def SCAN (n : Nat) : Fld := ⟨0x018 + n, 0x048, 0, 2⟩
/-- SDI.TCS (R159, SH). -/
def TCS (n : Nat) : Fld := ⟨0x018 + n, 0x048, 2, 2⟩
/-- SDI.COLOR (R159, SH). -/
def COLOR (n : Nat) : Fld := ⟨0x018 + n, 0x048, 4, 1⟩
/-- SDI.FULL (R159, SH). -/
def FULL (n : Nat) : Fld := ⟨0x018 + n, 0x048, 5, 1⟩
/-- SDI.SDR_NITS (R159, SH). -/
def SDR_NITS (n : Nat) : Fld := ⟨0x018 + n, 0x04C, 0, 16⟩
/-- SDI.HLG_NITS (R159, SH). -/
def HLG_NITS (n : Nat) : Fld := ⟨0x018 + n, 0x04C, 16, 16⟩
/-- SDI.BUF_BASE (R159, SH). -/
def BUF_BASE (n : Nat) : Fld := ⟨0x018 + n, 0x050, 0, 64⟩
/-- SDI.BUF_STRIDE (R159, SH). -/
def BUF_STRIDE (n : Nat) : Fld := ⟨0x018 + n, 0x058, 0, 24⟩
/-- SDI.BUF_COUNT (R159, SH). -/
def BUF_COUNT (n : Nat) : Fld := ⟨0x018 + n, 0x05C, 0, 4⟩
/-- SDI.VPID (R159, RO). -/
def VPID (n : Nat) : Fld := ⟨0x018 + n, 0x600, 0, 32⟩
/-- SDI.READY_IDX (R159, RO). -/
def READY_IDX (n : Nat) : Fld := ⟨0x018 + n, 0x604, 0, 3⟩
/-- SDI.READY_VALID (R159, RO). -/
def READY_VALID (n : Nat) : Fld := ⟨0x018 + n, 0x604, 31, 1⟩
/-- SDI.CNT_CRC (R159, RO). -/
def CNT_CRC (n : Nat) : Fld := ⟨0x018 + n, 0x680, 0, 32⟩
/-- SDI.CNT_LOCK_LOST (R159, RO). -/
def CNT_LOCK_LOST (n : Nat) : Fld := ⟨0x018 + n, 0x684, 0, 32⟩
/-- SDI.CNT_FORMAT_ERR (R159, RO). -/
def CNT_FORMAT_ERR (n : Nat) : Fld := ⟨0x018 + n, 0x688, 0, 32⟩
/-- SDI.CNT_NOBUF (R159, RO). -/
def CNT_NOBUF (n : Nat) : Fld := ⟨0x018 + n, 0x68C, 0, 32⟩
end R.SDI

/-! Fields of PRV (06_source_ports.md). -/
namespace R.PRV
/-- The page of PRV (03 R67). -/
def page : Nat := 0x070
/-- PRV.RUNNING (R160, RO). -/
def RUNNING : Fld := ⟨0x070, 0x00C, 0, 1⟩
/-- PRV.HAVE_FRAME (R160, RO). -/
def HAVE_FRAME : Fld := ⟨0x070, 0x00C, 1, 1⟩
/-- PRV.EVT [0] ABANDON (R160). -/
def ev_ABANDON : Evt := ⟨0x070, 0, false⟩
/-- PRV.EVT [1] TX_LATE (R160). -/
def ev_TX_LATE : Evt := ⟨0x070, 1, false⟩
/-- PRV.NET_EN (R160, SH). -/
def NET_EN : Fld := ⟨0x070, 0x040, 0, 1⟩
/-- PRV.NET (R160, SH). -/
def NET : Fld := ⟨0x070, 0x040, 1, 3⟩
/-- PRV.SDI_EN (R160, SH). -/
def SDI_EN : Fld := ⟨0x070, 0x040, 4, 1⟩
/-- PRV.SDI_RATE (R160, SH). -/
def SDI_RATE : Fld := ⟨0x070, 0x040, 5, 2⟩
/-- PRV.FEED (R160, SH). -/
def FEED : Fld := ⟨0x070, 0x040, 7, 3⟩
/-- PRV.TCS (R160, SH). -/
def TCS : Fld := ⟨0x070, 0x040, 10, 2⟩
/-- PRV.COLOR (R160, SH). -/
def COLOR : Fld := ⟨0x070, 0x040, 12, 1⟩
/-- PRV.DEST_IP (R160, SH). -/
def DEST_IP : Fld := ⟨0x070, 0x044, 0, 32⟩
/-- PRV.SRC_UDP (R160, SH). -/
def SRC_UDP : Fld := ⟨0x070, 0x048, 0, 16⟩
/-- PRV.DST_UDP (R160, SH). -/
def DST_UDP : Fld := ⟨0x070, 0x048, 16, 16⟩
/-- PRV.PT (R160, SH). -/
def PT : Fld := ⟨0x070, 0x04C, 0, 7⟩
/-- PRV.DSCP (R160, SH). -/
def DSCP : Fld := ⟨0x070, 0x04C, 8, 6⟩
/-- PRV.VLAN_ID (R160, SH). -/
def VLAN_ID : Fld := ⟨0x070, 0x050, 0, 12⟩
/-- PRV.VLAN_EN (R160, SH). -/
def VLAN_EN : Fld := ⟨0x070, 0x050, 12, 1⟩
/-- PRV.PCP (R160, SH). -/
def PCP : Fld := ⟨0x070, 0x050, 13, 3⟩
/-- PRV.SSRC (R160, SH). -/
def SSRC : Fld := ⟨0x070, 0x054, 0, 32⟩
/-- PRV.PKT_PAYLOAD (R160, SH). -/
def PKT_PAYLOAD : Fld := ⟨0x070, 0x058, 0, 11⟩
/-- PRV.SDR_NITS (R160, SH). -/
def SDR_NITS : Fld := ⟨0x070, 0x05C, 0, 16⟩
/-- PRV.HLG_NITS (R160, SH). -/
def HLG_NITS : Fld := ⟨0x070, 0x05C, 16, 16⟩
/-- PRV.CNT_ABANDON (R160, RO). -/
def CNT_ABANDON : Fld := ⟨0x070, 0x680, 0, 32⟩
/-- PRV.CNT_TX_PKTS (R160, RO). -/
def CNT_TX_PKTS : Fld := ⟨0x070, 0x684, 0, 32⟩
/-- PRV.CNT_TX_LATE (R160, RO). -/
def CNT_TX_LATE : Fld := ⟨0x070, 0x688, 0, 32⟩
/-- PRV.CNT_SDI_UNDERRUN (R160, RO). -/
def CNT_SDI_UNDERRUN : Fld := ⟨0x070, 0x68C, 0, 32⟩
end R.PRV

/-! Fields of DEC (07_decoder.md). -/
namespace R.DEC
/-- The page of DEC (03 R67). -/
def page : Nat := 0x030
/-- DEC.FLUSH (R183, WO). -/
def FLUSH : Fld := ⟨0x030, 0x008, 0, 16⟩
/-- DEC.RUNNING (R183, RO). -/
def RUNNING : Fld := ⟨0x030, 0x00C, 0, 16⟩
/-- DEC.OVERLOAD (R183, RO). -/
def st_OVERLOAD : Fld := ⟨0x030, 0x00C, 16, 1⟩
/-- DEC.CC_OK (R183, RO). -/
def CC_OK : Fld := ⟨0x030, 0x00C, 17, 1⟩
/-- DEC.EVT [0] UNSUPPORTED (R183). -/
def ev_UNSUPPORTED : Evt := ⟨0x030, 0, false⟩
/-- DEC.EVT [1] FORMAT (R183). -/
def ev_FORMAT : Evt := ⟨0x030, 1, false⟩
/-- DEC.EVT [2] PARAM_MISSING (R183). -/
def ev_PARAM_MISSING : Evt := ⟨0x030, 2, false⟩
/-- DEC.EVT [3] CONCEALED (R183). -/
def ev_CONCEALED : Evt := ⟨0x030, 3, false⟩
/-- DEC.EVT [4] BUDGET (R183). -/
def ev_BUDGET : Evt := ⟨0x030, 4, false⟩
/-- DEC.EVT [5] SHED (R183). -/
def ev_SHED : Evt := ⟨0x030, 5, false⟩
/-- DEC.EVT [6] SKIP (R183). -/
def ev_SKIP : Evt := ⟨0x030, 6, false⟩
/-- DEC.EVT [7] BS_OVERFLOW (R183). -/
def ev_BS_OVERFLOW : Evt := ⟨0x030, 7, false⟩
/-- DEC.EVT [8] BOUNDS (R183). -/
def ev_BOUNDS : Evt := ⟨0x030, 8, false⟩
/-- DEC.EVT [9] OVERLOAD (R183). -/
def ev_OVERLOAD : Evt := ⟨0x030, 9, true⟩
/-- DEC.EVT [10] DEC_RESTART (R183). -/
def ev_DEC_RESTART : Evt := ⟨0x030, 10, false⟩
/-- DEC.SHARE (R183, SH). -/
def SHARE (i : Nat) : Fld := ⟨0x030, 0x040 + 0x20 * i, 0, 13⟩
/-- DEC.SCALE_EN (R183, SH). -/
def SCALE_EN (i : Nat) : Fld := ⟨0x030, 0x040 + 0x20 * i, 13, 1⟩
/-- DEC.ROT (R183, SH). -/
def ROT (i : Nat) : Fld := ⟨0x030, 0x040 + 0x20 * i, 14, 2⟩
/-- DEC.HSET (R183, SH). -/
def HSET (i : Nat) : Fld := ⟨0x030, 0x040 + 0x20 * i, 16, 2⟩
/-- DEC.VSET (R183, SH). -/
def VSET (i : Nat) : Fld := ⟨0x030, 0x040 + 0x20 * i, 18, 2⟩
/-- DEC.DROP_THRESH (R183, SH). -/
def DROP_THRESH (i : Nat) : Fld := ⟨0x030, 0x040 + 0x20 * i, 20, 4⟩
/-- DEC.OUT_W (R183, SH). -/
def OUT_W (i : Nat) : Fld := ⟨0x030, 0x044 + 0x20 * i, 0, 14⟩
/-- DEC.OUT_H (R183, SH). -/
def OUT_H (i : Nat) : Fld := ⟨0x030, 0x044 + 0x20 * i, 16, 14⟩
/-- DEC.BS_BASE (R183, SH). -/
def BS_BASE (i : Nat) : Fld := ⟨0x030, 0x048 + 0x20 * i, 0, 64⟩
/-- DEC.BS_SIZE (R183, SH). -/
def BS_SIZE (i : Nat) : Fld := ⟨0x030, 0x050 + 0x20 * i, 0, 24⟩
/-- DEC.DPB_BASE (R183, SH). -/
def DPB_BASE (i : Nat) : Fld := ⟨0x030, 0x054 + 0x20 * i, 0, 64⟩
/-- DEC.DPB_SIZE (R183, SH). -/
def DPB_SIZE (i : Nat) : Fld := ⟨0x030, 0x05C + 0x20 * i, 0, 24⟩
/-- DEC.DSTATE (R183, RO). -/
def DSTATE (i : Nat) : Fld := ⟨0x030, 0x640 + 0x18 * i, 0, 3⟩
/-- DEC.CHROMA (R183, RO). -/
def CHROMA (i : Nat) : Fld := ⟨0x030, 0x640 + 0x18 * i, 3, 2⟩
/-- DEC.DEPTH10 (R183, RO). -/
def DEPTH10 (i : Nat) : Fld := ⟨0x030, 0x640 + 0x18 * i, 5, 1⟩
/-- DEC.PROFILE (R183, RO). -/
def PROFILE (i : Nat) : Fld := ⟨0x030, 0x640 + 0x18 * i, 6, 5⟩
/-- DEC.TIER (R183, RO). -/
def TIER (i : Nat) : Fld := ⟨0x030, 0x640 + 0x18 * i, 11, 1⟩
/-- DEC.LEVEL (R183, RO). -/
def LEVEL (i : Nat) : Fld := ⟨0x030, 0x640 + 0x18 * i, 12, 8⟩
/-- DEC.BACKLOG (R183, RO). -/
def BACKLOG (i : Nat) : Fld := ⟨0x030, 0x644 + 0x18 * i, 0, 8⟩
/-- DEC.DPB_USED (R183, RO). -/
def DPB_USED (i : Nat) : Fld := ⟨0x030, 0x644 + 0x18 * i, 8, 8⟩
/-- DEC.CONC_MASK (R183, RO). -/
def CONC_MASK (i : Nat) : Fld := ⟨0x030, 0x644 + 0x18 * i, 16, 8⟩
/-- DEC.CNT_PICTURES (R183, RO). -/
def CNT_PICTURES (i : Nat) : Fld := ⟨0x030, 0x648 + 0x18 * i, 0, 32⟩
/-- DEC.CNT_CONCEALED (R183, RO). -/
def CNT_CONCEALED (i : Nat) : Fld := ⟨0x030, 0x64C + 0x18 * i, 0, 32⟩
/-- DEC.CNT_SHED (R183, RO). -/
def CNT_SHED (i : Nat) : Fld := ⟨0x030, 0x650 + 0x18 * i, 0, 32⟩
/-- DEC.CNT_BUDGET (R183, RO). -/
def CNT_BUDGET (i : Nat) : Fld := ⟨0x030, 0x654 + 0x18 * i, 0, 32⟩
/-- DEC.LOAD (R183, RO). -/
def LOAD : Fld := ⟨0x030, 0x7C0, 0, 13⟩
/-- DEC.LIVE_SUM (R183, RO). -/
def LIVE_SUM : Fld := ⟨0x030, 0x7C4, 0, 13⟩
/-- DEC.LAST_STREAM (R183, RO). -/
def LAST_STREAM : Fld := ⟨0x030, 0x7C8, 0, 4⟩
/-- DEC.CNT_SKIP (R183, RO). -/
def CNT_SKIP : Fld := ⟨0x030, 0x7CC, 0, 32⟩
/-- DEC.CNT_BS_OVERFLOW (R183, RO). -/
def CNT_BS_OVERFLOW : Fld := ⟨0x030, 0x7D0, 0, 32⟩
/-- DEC.CNT_BOUNDS (R183, RO). -/
def CNT_BOUNDS : Fld := ⟨0x030, 0x7D4, 0, 32⟩
/-- DEC.CNT_PARAM_MISSING (R183, RO). -/
def CNT_PARAM_MISSING : Fld := ⟨0x030, 0x7D8, 0, 32⟩
/-- DEC.CNT_UNSUPPORTED (R183, RO). -/
def CNT_UNSUPPORTED : Fld := ⟨0x030, 0x7DC, 0, 32⟩
/-- DEC.CNT_RESTART (R183, RO). -/
def CNT_RESTART : Fld := ⟨0x030, 0x7E0, 0, 32⟩
end R.DEC

/-! Fields of LSE (08_composition.md). -/
namespace R.LSE
/-- The page of LSE (03 R67). -/
def page : Nat := 0x038
/-- LSE.WATCH_EN (R216, RW). -/
def WATCH_EN : Fld := ⟨0x038, 0x008, 0, 1⟩
/-- LSE.EVT [0] LEASE_VIOLATION (R216). -/
def ev_LEASE_VIOLATION : Evt := ⟨0x038, 0, false⟩
/-- LSE.ARMED (R216, RO). -/
def ARMED : Fld := ⟨0x038, 0x600, 0, 64⟩
/-- LSE.VIOL_ADDR (R216, RO). -/
def VIOL_ADDR : Fld := ⟨0x038, 0x608, 0, 64⟩
/-- LSE.VIOL_WIN (R216, RO). -/
def VIOL_WIN : Fld := ⟨0x038, 0x610, 0, 6⟩
/-- LSE.VIOL_EPOCH (R216, RO). -/
def VIOL_EPOCH : Fld := ⟨0x038, 0x614, 0, 32⟩
/-- LSE.CNT_VIOLATION (R216, RO). -/
def CNT_VIOLATION : Fld := ⟨0x038, 0x680, 0, 32⟩
end R.LSE

/-! Fields of LYR (08_composition.md). -/
namespace R.LYR
/-- The page of LYR n (03 R67). -/
def page (n : Nat) : Nat := 0x040 + n
/-- LYR.LEASE_IDX (R217, RO). -/
def LEASE_IDX (n : Nat) : Fld := ⟨0x040 + n, 0x00C, 0, 3⟩
/-- LYR.LEASE_VALID (R217, RO). -/
def LEASE_VALID (n : Nat) : Fld := ⟨0x040 + n, 0x00C, 3, 1⟩
/-- LYR.PEND_IDX (R217, RO). -/
def PEND_IDX (n : Nat) : Fld := ⟨0x040 + n, 0x00C, 4, 3⟩
/-- LYR.PEND_VALID (R217, RO). -/
def PEND_VALID (n : Nat) : Fld := ⟨0x040 + n, 0x00C, 7, 1⟩
/-- LYR.SUSPECT (R217, RO). -/
def st_SUSPECT (n : Nat) : Fld := ⟨0x040 + n, 0x00C, 8, 1⟩
/-- LYR.CONCEALED (R217, RO). -/
def st_CONCEALED (n : Nat) : Fld := ⟨0x040 + n, 0x00C, 9, 1⟩
/-- LYR.REPEATING (R217, RO). -/
def REPEATING (n : Nat) : Fld := ⟨0x040 + n, 0x00C, 10, 1⟩
/-- LYR.EVT [0] NOT_READY (R217). -/
def ev_NOT_READY (n : Nat) : Evt := ⟨0x040 + n, 0, false⟩
/-- LYR.EVT [1] SUSPECT (R217). -/
def ev_SUSPECT (n : Nat) : Evt := ⟨0x040 + n, 1, false⟩
/-- LYR.EVT [2] LEASE_END (R217). -/
def ev_LEASE_END (n : Nat) : Evt := ⟨0x040 + n, 2, false⟩
/-- LYR.EVT [3] CONCEALED (R217). -/
def ev_CONCEALED (n : Nat) : Evt := ⟨0x040 + n, 3, false⟩
/-- LYR.SRC (R217, SH). -/
def SRC (n : Nat) : Fld := ⟨0x040 + n, 0x040, 0, 3⟩
/-- LYR.SRC_SEL (R217, SH). -/
def SRC_SEL (n : Nat) : Fld := ⟨0x040 + n, 0x040, 4, 5⟩
/-- LYR.POLICY (R217, SH). -/
def POLICY (n : Nat) : Fld := ⟨0x040 + n, 0x040, 9, 2⟩
/-- LYR.PATTERN (R217, SH). -/
def PATTERN (n : Nat) : Fld := ⟨0x040 + n, 0x040, 11, 3⟩
/-- LYR.PAT_SIZE (R217, SH). -/
def PAT_SIZE (n : Nat) : Fld := ⟨0x040 + n, 0x040, 14, 4⟩
/-- LYR.HOST_FMT (R217, SH). -/
def HOST_FMT (n : Nat) : Fld := ⟨0x040 + n, 0x040, 18, 2⟩
/-- LYR.BUF_COUNT (R217, SH). -/
def BUF_COUNT (n : Nat) : Fld := ⟨0x040 + n, 0x040, 20, 2⟩
/-- LYR.COLOR_R (R217, SH). -/
def COLOR_R (n : Nat) : Fld := ⟨0x040 + n, 0x044, 0, 20⟩
/-- LYR.COLOR_G (R217, SH). -/
def COLOR_G (n : Nat) : Fld := ⟨0x040 + n, 0x048, 0, 20⟩
/-- LYR.COLOR_B (R217, SH). -/
def COLOR_B (n : Nat) : Fld := ⟨0x040 + n, 0x04C, 0, 20⟩
/-- LYR.ALPHA_PIX (R217, SH). -/
def ALPHA_PIX (n : Nat) : Fld := ⟨0x040 + n, 0x050, 0, 13⟩
/-- LYR.HOST_TCS (R217, SH). -/
def HOST_TCS (n : Nat) : Fld := ⟨0x040 + n, 0x050, 16, 2⟩
/-- LYR.HOST_COLOR (R217, SH). -/
def HOST_COLOR (n : Nat) : Fld := ⟨0x040 + n, 0x050, 18, 1⟩
/-- LYR.SDR_NITS (R217, SH). -/
def SDR_NITS (n : Nat) : Fld := ⟨0x040 + n, 0x054, 0, 16⟩
/-- LYR.HLG_NITS (R217, SH). -/
def HLG_NITS (n : Nat) : Fld := ⟨0x040 + n, 0x054, 16, 16⟩
/-- LYR.HOST_BASE (R217, SH). -/
def HOST_BASE (n : Nat) : Fld := ⟨0x040 + n, 0x058, 0, 64⟩
/-- LYR.HOST_STRIDE (R217, SH). -/
def HOST_STRIDE (n : Nat) : Fld := ⟨0x040 + n, 0x060, 0, 24⟩
/-- LYR.HOST_BUF_STRIDE (R217, SH). -/
def HOST_BUF_STRIDE (n : Nat) : Fld := ⟨0x040 + n, 0x064, 0, 24⟩
/-- LYR.HOST_W (R217, SH). -/
def HOST_W (n : Nat) : Fld := ⟨0x040 + n, 0x068, 0, 14⟩
/-- LYR.HOST_H (R217, SH). -/
def HOST_H (n : Nat) : Fld := ⟨0x040 + n, 0x068, 16, 14⟩
/-- LYR.EN (R217, SH). -/
def EN (n i : Nat) : Fld := ⟨0x040 + n, 0x080 + 0x20 * i, 0, 1⟩
/-- LYR.SCL_EN (R217, SH). -/
def SCL_EN (n i : Nat) : Fld := ⟨0x040 + n, 0x080 + 0x20 * i, 1, 1⟩
/-- LYR.SCL (R217, SH). -/
def SCL (n i : Nat) : Fld := ⟨0x040 + n, 0x080 + 0x20 * i, 2, 3⟩
/-- LYR.ALPHA (R217, SH). -/
def ALPHA (n i : Nat) : Fld := ⟨0x040 + n, 0x080 + 0x20 * i, 16, 13⟩
/-- LYR.DST_X (R217, SH). -/
def DST_X (n i : Nat) : Fld := ⟨0x040 + n, 0x084 + 0x20 * i, 0, 14⟩
/-- LYR.DST_Y (R217, SH). -/
def DST_Y (n i : Nat) : Fld := ⟨0x040 + n, 0x084 + 0x20 * i, 16, 14⟩
/-- LYR.DST_W_M1 (R217, SH). -/
def DST_W_M1 (n i : Nat) : Fld := ⟨0x040 + n, 0x088 + 0x20 * i, 0, 14⟩
/-- LYR.DST_H_M1 (R217, SH). -/
def DST_H_M1 (n i : Nat) : Fld := ⟨0x040 + n, 0x088 + 0x20 * i, 16, 14⟩
/-- LYR.SRC_X (R217, SH). -/
def SRC_X (n i : Nat) : Fld := ⟨0x040 + n, 0x08C + 0x20 * i, 0, 14⟩
/-- LYR.SRC_Y (R217, SH). -/
def SRC_Y (n i : Nat) : Fld := ⟨0x040 + n, 0x08C + 0x20 * i, 16, 14⟩
/-- LYR.SRC_W_M1 (R217, SH). -/
def SRC_W_M1 (n i : Nat) : Fld := ⟨0x040 + n, 0x090 + 0x20 * i, 0, 14⟩
/-- LYR.SRC_H_M1 (R217, SH). -/
def SRC_H_M1 (n i : Nat) : Fld := ⟨0x040 + n, 0x090 + 0x20 * i, 16, 14⟩
/-- LYR.PHASE_X (R217, SH). -/
def PHASE_X (n i : Nat) : Fld := ⟨0x040 + n, 0x094 + 0x20 * i, 0, 32⟩
/-- LYR.PHASE_Y (R217, SH). -/
def PHASE_Y (n i : Nat) : Fld := ⟨0x040 + n, 0x098 + 0x20 * i, 0, 32⟩
/-- LYR.READY (R217, WO). -/
def READY (n : Nat) : Fld := ⟨0x040 + n, 0x600, 0, 2⟩
/-- LYR.LATCH_EPOCH (R217, RO). -/
def LATCH_EPOCH (n : Nat) : Fld := ⟨0x040 + n, 0x604, 0, 32⟩
/-- LYR.LAST_FREED (R217, RO). -/
def LAST_FREED (n : Nat) : Fld := ⟨0x040 + n, 0x608, 0, 3⟩
/-- LYR.CNT_NOT_READY (R217, RO). -/
def CNT_NOT_READY (n : Nat) : Fld := ⟨0x040 + n, 0x680, 0, 32⟩
/-- LYR.CNT_LATCH (R217, RO). -/
def CNT_LATCH (n : Nat) : Fld := ⟨0x040 + n, 0x684, 0, 32⟩
/-- LYR.CNT_SUSPECT (R217, RO). -/
def CNT_SUSPECT (n : Nat) : Fld := ⟨0x040 + n, 0x688, 0, 32⟩
/-- LYR.CNT_CONCEALED (R217, RO). -/
def CNT_CONCEALED (n : Nat) : Fld := ⟨0x040 + n, 0x68C, 0, 32⟩
end R.LYR

/-! Fields of CMP (08_composition.md). -/
namespace R.CMP
/-- The page of CMP (03 R67). -/
def page : Nat := 0x050
/-- CMP.SLAB_RAW (R218, RW). -/
def SLAB_RAW : Fld := ⟨0x050, 0x008, 0, 1⟩
/-- CMP.COMPOSING (R218, RO). -/
def COMPOSING : Fld := ⟨0x050, 0x00C, 0, 1⟩
/-- CMP.EVT [0] DEADLINE_MISS (R218). -/
def ev_DEADLINE_MISS : Evt := ⟨0x050, 0, false⟩
/-- CMP.EVT [1] LATE_LINES (R218). -/
def ev_LATE_LINES : Evt := ⟨0x050, 1, false⟩
/-- CMP.CANVAS_W_M1 (R218, SH). -/
def CANVAS_W_M1 : Fld := ⟨0x050, 0x040, 0, 14⟩
/-- CMP.CANVAS_H_M1 (R218, SH). -/
def CANVAS_H_M1 : Fld := ⟨0x050, 0x040, 16, 14⟩
/-- CMP.PEAK_NITS (R218, SH). -/
def PEAK_NITS : Fld := ⟨0x050, 0x044, 0, 16⟩
/-- CMP.BG_R (R218, SH). -/
def BG_R (i : Nat) : Fld := ⟨0x050, 0x048 + 0xC * i, 0, 20⟩
/-- CMP.BG_G (R218, SH). -/
def BG_G (i : Nat) : Fld := ⟨0x050, 0x04C + 0xC * i, 0, 20⟩
/-- CMP.BG_B (R218, SH). -/
def BG_B (i : Nat) : Fld := ⟨0x050, 0x050 + 0xC * i, 0, 20⟩
/-- CMP.LINE (R218, RO). -/
def LINE : Fld := ⟨0x050, 0x600, 0, 14⟩
/-- CMP.LOAD (R218, RO). -/
def LOAD : Fld := ⟨0x050, 0x604, 0, 16⟩
/-- CMP.CNT_LATE_LINES (R218, RO). -/
def CNT_LATE_LINES : Fld := ⟨0x050, 0x680, 0, 32⟩
/-- CMP.CNT_DEADLINE_MISS (R218, RO). -/
def CNT_DEADLINE_MISS : Fld := ⟨0x050, 0x684, 0, 32⟩
/-- CMP.CNT_FRAMES (R218, RO). -/
def CNT_FRAMES : Fld := ⟨0x050, 0x688, 0, 32⟩
end R.CMP

/-! Fields of TG (08_composition.md). -/
namespace R.TG
/-- The page of TG n (03 R67). -/
def page (n : Nat) : Nat := 0x051 + n
/-- TG.LINE (R219, RO). -/
def LINE (n : Nat) : Fld := ⟨0x051 + n, 0x00C, 0, 15⟩
/-- TG.BLANK (R219, RO). -/
def BLANK (n : Nat) : Fld := ⟨0x051 + n, 0x00C, 15, 1⟩
/-- TG.EVT [0] BLANK_START (R219). -/
def ev_BLANK_START (n : Nat) : Evt := ⟨0x051 + n, 0, false⟩
/-- TG.EVT [1] LINE_MATCH (R219). -/
def ev_LINE_MATCH (n : Nat) : Evt := ⟨0x051 + n, 1, false⟩
/-- TG.EVT [2] FRAME_DONE (R219). -/
def ev_FRAME_DONE (n : Nat) : Evt := ⟨0x051 + n, 2, false⟩
/-- TG.EVT [3] UNDERRUN (R219). -/
def ev_UNDERRUN (n : Nat) : Evt := ⟨0x051 + n, 3, false⟩
/-- TG.V_TOTAL (R219, SH). -/
def V_TOTAL (n : Nat) : Fld := ⟨0x051 + n, 0x040, 0, 15⟩
/-- TG.LINE_MATCH (R219, SH). -/
def LINE_MATCH (n : Nat) : Fld := ⟨0x051 + n, 0x044, 0, 15⟩
/-- TG.LAG (R219, SH). -/
def LAG (n : Nat) : Fld := ⟨0x051 + n, 0x044, 16, 8⟩
/-- TG.ACT_W_M1 (R219, SH). -/
def ACT_W_M1 (n : Nat) : Fld := ⟨0x051 + n, 0x048, 0, 14⟩
/-- TG.ACT_H_M1 (R219, SH). -/
def ACT_H_M1 (n : Nat) : Fld := ⟨0x051 + n, 0x048, 16, 14⟩
/-- TG.RATE_NUM (R219, SH). -/
def RATE_NUM (n : Nat) : Fld := ⟨0x051 + n, 0x04C, 0, 18⟩
/-- TG.RATE_1001 (R219, SH). -/
def RATE_1001 (n : Nat) : Fld := ⟨0x051 + n, 0x04C, 18, 1⟩
/-- TG.SRC_X (R219, SH). -/
def SRC_X (n : Nat) : Fld := ⟨0x051 + n, 0x050, 0, 14⟩
/-- TG.SRC_Y (R219, SH). -/
def SRC_Y (n : Nat) : Fld := ⟨0x051 + n, 0x050, 16, 14⟩
/-- TG.SRC_W_M1 (R219, SH). -/
def SRC_W_M1 (n : Nat) : Fld := ⟨0x051 + n, 0x054, 0, 14⟩
/-- TG.SRC_H_M1 (R219, SH). -/
def SRC_H_M1 (n : Nat) : Fld := ⟨0x051 + n, 0x054, 16, 14⟩
/-- TG.BUF_BASE (R219, SH). -/
def BUF_BASE (n : Nat) : Fld := ⟨0x051 + n, 0x058, 0, 64⟩
/-- TG.BUF_STRIDE (R219, SH). -/
def BUF_STRIDE (n : Nat) : Fld := ⟨0x051 + n, 0x060, 0, 24⟩
/-- TG.H_TOTAL (R219, SH). -/
def H_TOTAL (n : Nat) : Fld := ⟨0x051 + n, 0x064, 0, 15⟩
/-- TG.UNDERRUN_LINE (R219, RO). -/
def UNDERRUN_LINE (n : Nat) : Fld := ⟨0x051 + n, 0x600, 0, 14⟩
/-- TG.UNDERRUN_FEED (R219, RO). -/
def UNDERRUN_FEED (n : Nat) : Fld := ⟨0x051 + n, 0x600, 16, 3⟩
/-- TG.CNT_UNDERRUN (R219, RO). -/
def CNT_UNDERRUN (n : Nat) : Fld := ⟨0x051 + n, 0x680, 0, 32⟩
/-- TG.CNT_FRAMES (R219, RO). -/
def CNT_FRAMES (n : Nat) : Fld := ⟨0x051 + n, 0x684, 0, 32⟩
/-- TG.CNT_CAPTURE_SKIP (R219, RO). -/
def CNT_CAPTURE_SKIP (n : Nat) : Fld := ⟨0x051 + n, 0x688, 0, 32⟩
end R.TG

/-! Fields of SCL (08_composition.md). -/
namespace R.SCL
/-- The page of SCL n (03 R67). -/
def page (n : Nat) : Nat := 0x053 + n
/-- SCL.IN_USE (R220, RO). -/
def IN_USE (n : Nat) : Fld := ⟨0x053 + n, 0x00C, 0, 1⟩
/-- SCL.LAYER (R220, RO). -/
def LAYER (n : Nat) : Fld := ⟨0x053 + n, 0x00C, 1, 4⟩
/-- SCL.FEED (R220, RO). -/
def FEED (n : Nat) : Fld := ⟨0x053 + n, 0x00C, 5, 3⟩
/-- SCL.VTAPS (R220, SH). -/
def VTAPS (n : Nat) : Fld := ⟨0x053 + n, 0x040, 0, 2⟩
/-- SCL.LB_USED (R220, RO). -/
def LB_USED (n : Nat) : Fld := ⟨0x053 + n, 0x600, 0, 17⟩
/-- SCL.CNT_CLIP (R220, RO). -/
def CNT_CLIP (n : Nat) : Fld := ⟨0x053 + n, 0x680, 0, 32⟩
end R.SCL

/-! Fields of SAG (08_composition.md). -/
namespace R.SAG
/-- The page of SAG (03 R67). -/
def page : Nat := 0x05B
/-- SAG.RELEARN (R221, WO). -/
def RELEARN : Fld := ⟨0x05B, 0x008, 0, 1⟩
/-- SAG.SELF_OK (R221, RO). -/
def SELF_OK : Fld := ⟨0x05B, 0x00C, 0, 1⟩
/-- SAG.EVT [0] MISMATCH (R221). -/
def ev_MISMATCH : Evt := ⟨0x05B, 0, false⟩
/-- SAG.EVT [1] TRIP (R221). -/
def ev_TRIP : Evt := ⟨0x05B, 1, false⟩
/-- SAG.EVT [2] RECOVER (R221). -/
def ev_RECOVER : Evt := ⟨0x05B, 2, false⟩
/-- SAG.EVT [3] INCOMPLETE (R221). -/
def ev_INCOMPLETE : Evt := ⟨0x05B, 3, false⟩
/-- SAG.EVT [4] SELF_FAIL (R221). -/
def ev_SELF_FAIL : Evt := ⟨0x05B, 4, false⟩
/-- SAG.EVT [5] ACTIVE (R221). -/
def ev_ACTIVE : Evt := ⟨0x05B, 5, true⟩
/-- SAG.SAVE_BASE (R221, SH). -/
def SAVE_BASE : Fld := ⟨0x05B, 0x040, 0, 64⟩
/-- SAG.SAVE_SIZE (R221, SH). -/
def SAVE_SIZE : Fld := ⟨0x05B, 0x048, 0, 24⟩
/-- SAG.LAST_REGION (R221, RO). -/
def LAST_REGION : Fld := ⟨0x05B, 0x600, 0, 8⟩
/-- SAG.ACTION (R221, RO). -/
def ACTION (i : Nat) : Fld := ⟨0x05B, 0x604 + 0x4 * i, 0, 32⟩
/-- SAG.CNT_MISMATCH (R221, RO). -/
def CNT_MISMATCH : Fld := ⟨0x05B, 0x680, 0, 32⟩
/-- SAG.CNT_INCOMPLETE (R221, RO). -/
def CNT_INCOMPLETE : Fld := ⟨0x05B, 0x684, 0, 32⟩
/-- SAG.CNT_SELF_FAIL (R221, RO). -/
def CNT_SELF_FAIL : Fld := ⟨0x05B, 0x688, 0, 32⟩
/-- SAG.CNT_TRIP (R221, RO). -/
def CNT_TRIP : Fld := ⟨0x05B, 0x68C, 0, 32⟩
end R.SAG

/-! Fields of MAP (09_mapping_and_glaze.md). -/
namespace R.MAP
/-- The page of MAP (03 R67). -/
def page : Nat := 0x060
/-- MAP.STATS_CLR (R244, WO). -/
def STATS_CLR : Fld := ⟨0x060, 0x008, 0, 1⟩
/-- MAP.REGIONS (R244, RO). -/
def REGIONS : Fld := ⟨0x060, 0x00C, 0, 9⟩
/-- MAP.HELD (R244, RO). -/
def HELD : Fld := ⟨0x060, 0x00C, 9, 1⟩
/-- MAP.ERR_DESC (R244, RO). -/
def ERR_DESC : Fld := ⟨0x060, 0x00C, 16, 8⟩
/-- MAP.ERR_CHILD (R244, RO). -/
def ERR_CHILD : Fld := ⟨0x060, 0x00C, 24, 1⟩
/-- MAP.EVT [0] CRAZE (R244). -/
def ev_CRAZE : Evt := ⟨0x060, 0, false⟩
/-- MAP.EVT [1] ABANDON (R244). -/
def ev_ABANDON : Evt := ⟨0x060, 1, false⟩
/-- MAP.CRAZE_THRESH (R244, SH). -/
def CRAZE_THRESH : Fld := ⟨0x060, 0x040, 0, 16⟩
/-- MAP.STAGE_BASE (R244, SH). -/
def STAGE_BASE : Fld := ⟨0x060, 0x044, 0, 64⟩
/-- MAP.STAGE_SIZE (R244, SH). -/
def STAGE_SIZE : Fld := ⟨0x060, 0x04C, 0, 24⟩
/-- MAP.PLAN_FINISH (R244, RO). -/
def PLAN_FINISH : Fld := ⟨0x060, 0x600, 0, 32⟩
/-- MAP.PLAN_PORT (R244, RO). -/
def PLAN_PORT : Fld := ⟨0x060, 0x604, 0, 4⟩
/-- MAP.PLAN_BACKLOG (R244, RO). -/
def PLAN_BACKLOG : Fld := ⟨0x060, 0x608, 0, 32⟩
/-- MAP.ENC_LOAD (R244, RO). -/
def ENC_LOAD : Fld := ⟨0x060, 0x60C, 0, 16⟩
/-- MAP.PORT_BITS (R244, RO). -/
def PORT_BITS (i : Nat) : Fld := ⟨0x060, 0x610 + 0x4 * i, 0, 32⟩
/-- MAP.CRAZE_DESC (R244, RO). -/
def CRAZE_DESC : Fld := ⟨0x060, 0x650, 0, 8⟩
/-- MAP.CNT_CRAZE_PORT (R244, RO). -/
def CNT_CRAZE_PORT (i : Nat) : Fld := ⟨0x060, 0x680 + 0x4 * i, 0, 32⟩
/-- MAP.CNT_SEGMENTS (R244, RO). -/
def CNT_SEGMENTS : Fld := ⟨0x060, 0x6C0, 0, 32⟩
end R.MAP

/-! Fields of GLZ (09_mapping_and_glaze.md). -/
namespace R.GLZ
/-- The page of GLZ n (03 R67). -/
def page (n : Nat) : Nat := 0x061 + n
/-- GLZ.BUSY (R245, RO). -/
def BUSY (n : Nat) : Fld := ⟨0x061 + n, 0x00C, 0, 1⟩
/-- GLZ.PORT (R245, RO). -/
def PORT (n : Nat) : Fld := ⟨0x061 + n, 0x00C, 1, 4⟩
/-- GLZ.DESC (R245, RO). -/
def DESC (n : Nat) : Fld := ⟨0x061 + n, 0x00C, 5, 8⟩
/-- GLZ.EVT [0] ABANDON (R245). -/
def ev_ABANDON (n : Nat) : Evt := ⟨0x061 + n, 0, false⟩
/-- GLZ.LOAD (R245, RO). -/
def LOAD (n : Nat) : Fld := ⟨0x061 + n, 0x600, 0, 10⟩
/-- GLZ.CNT_SEGMENTS (R245, RO). -/
def CNT_SEGMENTS (n : Nat) : Fld := ⟨0x061 + n, 0x680, 0, 32⟩
/-- GLZ.CNT_FLOOR (R245, RO). -/
def CNT_FLOOR (n : Nat) : Fld := ⟨0x061 + n, 0x684, 0, 32⟩
/-- GLZ.CNT_ABANDON_BANDS (R245, RO). -/
def CNT_ABANDON_BANDS (n : Nat) : Fld := ⟨0x061 + n, 0x688, 0, 32⟩
/-- GLZ.CNT_BYPASS_SEGMENTS (R245, RO). -/
def CNT_BYPASS_SEGMENTS (n : Nat) : Fld := ⟨0x061 + n, 0x68C, 0, 32⟩
end R.GLZ

/-! Fields of COIL (10_coil_links.md). -/
namespace R.COIL
/-- The page of COIL n (03 R67). -/
def page (n : Nat) : Nat := 0x080 + n
/-- COIL.LOOPBACK (R287, RW). -/
def LOOPBACK (n : Nat) : Fld := ⟨0x080 + n, 0x008, 0, 3⟩
/-- COIL.PRBS_GEN (R287, RW). -/
def PRBS_GEN (n : Nat) : Fld := ⟨0x080 + n, 0x008, 3, 1⟩
/-- COIL.PRBS_CHK (R287, RW). -/
def PRBS_CHK (n : Nat) : Fld := ⟨0x080 + n, 0x008, 4, 1⟩
/-- COIL.ADAPT_FREEZE (R287, RW). -/
def ADAPT_FREEZE (n : Nat) : Fld := ⟨0x080 + n, 0x008, 5, 1⟩
/-- COIL.FAR_LOOP_ALLOW (R287, RW). -/
def FAR_LOOP_ALLOW (n : Nat) : Fld := ⟨0x080 + n, 0x008, 6, 1⟩
/-- COIL.RETRAIN (R287, WO). -/
def RETRAIN (n : Nat) : Fld := ⟨0x080 + n, 0x008, 7, 1⟩
/-- COIL.DISC_GO (R287, WO). -/
def DISC_GO (n : Nat) : Fld := ⟨0x080 + n, 0x008, 8, 1⟩
/-- COIL.FAR_LOOP_SECS (R287, RW). -/
def FAR_LOOP_SECS (n : Nat) : Fld := ⟨0x080 + n, 0x008, 16, 8⟩
/-- COIL.LINK (R287, RO). -/
def LINK (n : Nat) : Fld := ⟨0x080 + n, 0x00C, 0, 2⟩
/-- COIL.TEST (R287, RO). -/
def TEST (n : Nat) : Fld := ⟨0x080 + n, 0x00C, 2, 1⟩
/-- COIL.ROLE (R287, RO). -/
def ROLE (n : Nat) : Fld := ⟨0x080 + n, 0x00C, 3, 3⟩
/-- COIL.XOFF_RX (R287, RO). -/
def XOFF_RX (n : Nat) : Fld := ⟨0x080 + n, 0x00C, 6, 1⟩
/-- COIL.XOFF_TX (R287, RO). -/
def XOFF_TX (n : Nat) : Fld := ⟨0x080 + n, 0x00C, 7, 1⟩
/-- COIL.FAR_LOOPED (R287, RO). -/
def FAR_LOOPED (n : Nat) : Fld := ⟨0x080 + n, 0x00C, 8, 1⟩
/-- COIL.PRBS_LOCK (R287, RO). -/
def PRBS_LOCK (n : Nat) : Fld := ⟨0x080 + n, 0x00C, 9, 1⟩
/-- COIL.END_OF_COIL (R287, RO). -/
def END_OF_COIL (n : Nat) : Fld := ⟨0x080 + n, 0x00C, 10, 1⟩
/-- COIL.TOPOLOGY_LOOP (R287, RO). -/
def st_TOPOLOGY_LOOP (n : Nat) : Fld := ⟨0x080 + n, 0x00C, 11, 1⟩
/-- COIL.OUT_OF_BUDGET (R287, RO). -/
def OUT_OF_BUDGET (n : Nat) : Fld := ⟨0x080 + n, 0x00C, 12, 1⟩
/-- COIL.DISC_BUSY (R287, RO). -/
def DISC_BUSY (n : Nat) : Fld := ⟨0x080 + n, 0x00C, 13, 1⟩
/-- COIL.DISC_STATUS (R287, RO). -/
def DISC_STATUS (n : Nat) : Fld := ⟨0x080 + n, 0x00C, 14, 2⟩
/-- COIL.EVT [0] LINK_CHANGE (R287). -/
def ev_LINK_CHANGE (n : Nat) : Evt := ⟨0x080 + n, 0, false⟩
/-- COIL.EVT [1] LINK_DOWN (R287). -/
def ev_LINK_DOWN (n : Nat) : Evt := ⟨0x080 + n, 1, true⟩
/-- COIL.EVT [2] EYE_LOW (R287). -/
def ev_EYE_LOW (n : Nat) : Evt := ⟨0x080 + n, 2, true⟩
/-- COIL.EVT [3] FEC_UNCORR (R287). -/
def ev_FEC_UNCORR (n : Nat) : Evt := ⟨0x080 + n, 3, false⟩
/-- COIL.EVT [4] TILE_EVENT (R287). -/
def ev_TILE_EVENT (n : Nat) : Evt := ⟨0x080 + n, 4, false⟩
/-- COIL.EVT [5] UNDELIVERABLE (R287). -/
def ev_UNDELIVERABLE (n : Nat) : Evt := ⟨0x080 + n, 5, false⟩
/-- COIL.EVT [6] PRBS_ERR (R287). -/
def ev_PRBS_ERR (n : Nat) : Evt := ⟨0x080 + n, 6, false⟩
/-- COIL.EVT [7] LAUNCH_LATE (R287). -/
def ev_LAUNCH_LATE (n : Nat) : Evt := ⟨0x080 + n, 7, false⟩
/-- COIL.EVT [8] TOPOLOGY_LOOP (R287). -/
def ev_TOPOLOGY_LOOP (n : Nat) : Evt := ⟨0x080 + n, 8, true⟩
/-- COIL.EVT [9] DISC_DONE (R287). -/
def ev_DISC_DONE (n : Nat) : Evt := ⟨0x080 + n, 9, false⟩
/-- COIL.EN (R287, SH). -/
def EN (n : Nat) : Fld := ⟨0x080 + n, 0x040, 0, 1⟩
/-- COIL.TX_PRE (R287, SH). -/
def TX_PRE (n : Nat) : Fld := ⟨0x080 + n, 0x044, 0, 4⟩
/-- COIL.TX_MAIN (R287, SH). -/
def TX_MAIN (n : Nat) : Fld := ⟨0x080 + n, 0x044, 8, 6⟩
/-- COIL.TX_POST (R287, SH). -/
def TX_POST (n : Nat) : Fld := ⟨0x080 + n, 0x044, 16, 5⟩
/-- COIL.ROUTE_LO (R287, SH). -/
def ROUTE_LO (n : Nat) : Fld := ⟨0x080 + n, 0x048, 0, 14⟩
/-- COIL.ROUTE_HI (R287, SH). -/
def ROUTE_HI (n : Nat) : Fld := ⟨0x080 + n, 0x048, 16, 14⟩
/-- COIL.CABLE_ASYM (R287, SH). -/
def CABLE_ASYM (n : Nat) : Fld := ⟨0x080 + n, 0x04C, 0, 16⟩
/-- COIL.EYE_MIN (R287, SH). -/
def EYE_MIN (n : Nat) : Fld := ⟨0x080 + n, 0x04C, 16, 10⟩
/-- COIL.LOS (R287, RO). -/
def LOS (n : Nat) : Fld := ⟨0x080 + n, 0x600, 0, 2⟩
/-- COIL.LOL (R287, RO). -/
def LOL (n : Nat) : Fld := ⟨0x080 + n, 0x600, 2, 2⟩
/-- COIL.ALIGNED (R287, RO). -/
def ALIGNED (n : Nat) : Fld := ⟨0x080 + n, 0x600, 4, 2⟩
/-- COIL.DESKEWED (R287, RO). -/
def DESKEWED (n : Nat) : Fld := ⟨0x080 + n, 0x600, 6, 1⟩
/-- COIL.PEER_DELAY (R287, RO). -/
def PEER_DELAY (n : Nat) : Fld := ⟨0x080 + n, 0x604, 0, 32⟩
/-- COIL.EYE0 (R287, RO). -/
def EYE0 (n : Nat) : Fld := ⟨0x080 + n, 0x608, 0, 10⟩
/-- COIL.EYE1 (R287, RO). -/
def EYE1 (n : Nat) : Fld := ⟨0x080 + n, 0x608, 16, 10⟩
/-- COIL.PARTNER_UID (R287, RO). -/
def PARTNER_UID (n : Nat) : Fld := ⟨0x080 + n, 0x60C, 0, 64⟩
/-- COIL.PARTNER_PORT (R287, RO). -/
def PARTNER_PORT (n : Nat) : Fld := ⟨0x080 + n, 0x614, 0, 4⟩
/-- COIL.PARTNER_ROLE (R287, RO). -/
def PARTNER_ROLE (n : Nat) : Fld := ⟨0x080 + n, 0x614, 4, 3⟩
/-- COIL.PARTNER_VALID (R287, RO). -/
def PARTNER_VALID (n : Nat) : Fld := ⟨0x080 + n, 0x614, 7, 1⟩
/-- COIL.SKEW (R287, RO). -/
def SKEW (n : Nat) : Fld := ⟨0x080 + n, 0x618, 0, 16⟩
/-- COIL.CNT_FEC_CORR (R287, RO). -/
def CNT_FEC_CORR (n : Nat) : Fld := ⟨0x080 + n, 0x680, 0, 32⟩
/-- COIL.CNT_FEC_UNCORR (R287, RO). -/
def CNT_FEC_UNCORR (n : Nat) : Fld := ⟨0x080 + n, 0x684, 0, 32⟩
/-- COIL.CNT_CELL_CHK (R287, RO). -/
def CNT_CELL_CHK (n : Nat) : Fld := ⟨0x080 + n, 0x688, 0, 32⟩
/-- COIL.CNT_HCRC (R287, RO). -/
def CNT_HCRC (n : Nat) : Fld := ⟨0x080 + n, 0x68C, 0, 32⟩
/-- COIL.CNT_CRC (R287, RO). -/
def CNT_CRC (n : Nat) : Fld := ⟨0x080 + n, 0x690, 0, 32⟩
/-- COIL.CNT_STOMPED (R287, RO). -/
def CNT_STOMPED (n : Nat) : Fld := ⟨0x080 + n, 0x694, 0, 32⟩
/-- COIL.CNT_UNDELIVERABLE (R287, RO). -/
def CNT_UNDELIVERABLE (n : Nat) : Fld := ⟨0x080 + n, 0x698, 0, 32⟩
/-- COIL.CNT_BAND_ABANDON (R287, RO). -/
def CNT_BAND_ABANDON (n : Nat) : Fld := ⟨0x080 + n, 0x69C, 0, 32⟩
/-- COIL.CNT_BAND_FLUSH (R287, RO). -/
def CNT_BAND_FLUSH (n : Nat) : Fld := ⟨0x080 + n, 0x6A0, 0, 32⟩
/-- COIL.CNT_WRONG_SIDE (R287, RO). -/
def CNT_WRONG_SIDE (n : Nat) : Fld := ⟨0x080 + n, 0x6A4, 0, 32⟩
/-- COIL.CNT_HOPS_DROP (R287, RO). -/
def CNT_HOPS_DROP (n : Nat) : Fld := ⟨0x080 + n, 0x6A8, 0, 32⟩
/-- COIL.CNT_LINK_DOWN (R287, RO). -/
def CNT_LINK_DOWN (n : Nat) : Fld := ⟨0x080 + n, 0x6AC, 0, 32⟩
/-- COIL.CNT_PRBS_ERR (R287, RO). -/
def CNT_PRBS_ERR (n : Nat) : Fld := ⟨0x080 + n, 0x6B0, 0, 32⟩
/-- COIL.CNT_LAUNCH_LATE (R287, RO). -/
def CNT_LAUNCH_LATE (n : Nat) : Fld := ⟨0x080 + n, 0x6B4, 0, 32⟩
/-- COIL.CNT_XOFF (R287, RO). -/
def CNT_XOFF (n : Nat) : Fld := ⟨0x080 + n, 0x6B8, 0, 32⟩
/-- COIL.CNT_RXQ_UNDERRUN (R287, RO). -/
def CNT_RXQ_UNDERRUN (n : Nat) : Fld := ⟨0x080 + n, 0x6BC, 0, 32⟩
end R.COIL

/-! Fields of RED (10_coil_links.md). -/
namespace R.RED
/-- The page of RED (03 R67). -/
def page : Nat := 0x090
/-- RED.RELINQUISH_NOW (R288, WO). -/
def RELINQUISH_NOW : Fld := ⟨0x090, 0x008, 0, 1⟩
/-- RED.RELINQUISHED (R288, RO). -/
def RELINQUISHED : Fld := ⟨0x090, 0x00C, 0, 1⟩
/-- RED.FAILOVER (R288, RO). -/
def st_FAILOVER : Fld := ⟨0x090, 0x00C, 1, 1⟩
/-- RED.HOLDING (R288, RO). -/
def HOLDING : Fld := ⟨0x090, 0x00C, 2, 1⟩
/-- RED.FAILOVER_CAUSE (R288, RO). -/
def FAILOVER_CAUSE : Fld := ⟨0x090, 0x00C, 3, 2⟩
/-- RED.HOLD_COUNT (R288, RO). -/
def HOLD_COUNT : Fld := ⟨0x090, 0x00C, 5, 2⟩
/-- RED.EVT [0] RELINQUISH (R288). -/
def ev_RELINQUISH : Evt := ⟨0x090, 0, false⟩
/-- RED.EVT [1] FEEDREQ_RX (R288). -/
def ev_FEEDREQ_RX : Evt := ⟨0x090, 1, false⟩
/-- RED.EVT [2] SPLIT (R288). -/
def ev_SPLIT : Evt := ⟨0x090, 2, true⟩
/-- RED.EVT [3] LOOP_BROKEN (R288). -/
def ev_LOOP_BROKEN : Evt := ⟨0x090, 3, true⟩
/-- RED.EVT [4] FAR_ACTIVE (R288). -/
def ev_FAR_ACTIVE : Evt := ⟨0x090, 4, true⟩
/-- RED.EVT [5] FAILOVER (R288). -/
def ev_FAILOVER : Evt := ⟨0x090, 5, false⟩
/-- RED.EVT [6] HANDBACK_FAILED (R288). -/
def ev_HANDBACK_FAILED : Evt := ⟨0x090, 6, false⟩
/-- RED.EVT [7] FEEDREQ_REFUSED (R288). -/
def ev_FEEDREQ_REFUSED : Evt := ⟨0x090, 7, false⟩
/-- RED.PORT_ROLE (R288, SH). -/
def PORT_ROLE : Fld := ⟨0x090, 0x040, 0, 16⟩
/-- RED.SERVE (R288, SH). -/
def SERVE : Fld := ⟨0x090, 0x040, 16, 16⟩
/-- RED.GROUND_EN (R288, SH). -/
def GROUND_EN : Fld := ⟨0x090, 0x044, 0, 6⟩
/-- RED.RESTORE (R288, SH). -/
def RESTORE : Fld := ⟨0x090, 0x044, 8, 1⟩
/-- RED.DRAM_UE_THRESH (R288, SH). -/
def DRAM_UE_THRESH : Fld := ⟨0x090, 0x048, 0, 16⟩
/-- RED.LOOP_CHECK (R288, SH). -/
def LOOP_CHECK : Fld := ⟨0x090, 0x04C, 0, 16⟩
/-- RED.PORT_STATE (R288, RO). -/
def PORT_STATE : Fld := ⟨0x090, 0x600, 0, 32⟩
/-- RED.GROUNDS (R288, RO). -/
def GROUNDS : Fld := ⟨0x090, 0x604, 0, 7⟩
/-- RED.LOOP_OK (R288, RO). -/
def LOOP_OK : Fld := ⟨0x090, 0x608, 0, 16⟩
/-- RED.FAR_ACTIVE (R288, RO). -/
def FAR_ACTIVE : Fld := ⟨0x090, 0x608, 16, 16⟩
/-- RED.RELINQUISH_EPOCH (R288, RO). -/
def RELINQUISH_EPOCH : Fld := ⟨0x090, 0x60C, 0, 32⟩
/-- RED.FEEDREQ_NODE (R288, RO). -/
def FEEDREQ_NODE : Fld := ⟨0x090, 0x610, 0, 14⟩
/-- RED.FEEDREQ_CAUSE (R288, RO). -/
def FEEDREQ_CAUSE : Fld := ⟨0x090, 0x610, 16, 2⟩
/-- RED.FEEDREQ_PORT (R288, RO). -/
def FEEDREQ_PORT : Fld := ⟨0x090, 0x610, 20, 4⟩
/-- RED.CNT_RELINQUISH (R288, RO). -/
def CNT_RELINQUISH : Fld := ⟨0x090, 0x680, 0, 32⟩
/-- RED.CNT_FEEDREQ_RX (R288, RO). -/
def CNT_FEEDREQ_RX : Fld := ⟨0x090, 0x684, 0, 32⟩
/-- RED.CNT_FEEDREQ_REFUSED (R288, RO). -/
def CNT_FEEDREQ_REFUSED : Fld := ⟨0x090, 0x688, 0, 32⟩
/-- RED.CNT_FEEDREQ_SENT (R288, RO). -/
def CNT_FEEDREQ_SENT : Fld := ⟨0x090, 0x68C, 0, 32⟩
/-- RED.CNT_FAILOVER (R288, RO). -/
def CNT_FAILOVER : Fld := ⟨0x090, 0x690, 0, 32⟩
/-- RED.CNT_HOLD_FRAMES (R288, RO). -/
def CNT_HOLD_FRAMES : Fld := ⟨0x090, 0x694, 0, 32⟩
/-- RED.CNT_DARK_FRAMES (R288, RO). -/
def CNT_DARK_FRAMES : Fld := ⟨0x090, 0x698, 0, 32⟩
/-- RED.CNT_HANDBACK (R288, RO). -/
def CNT_HANDBACK : Fld := ⟨0x090, 0x69C, 0, 32⟩
end R.RED

/-! Fields of TIL (11_tile_pipeline.md). -/
namespace R.TIL
/-- The page of TIL (03 R67). -/
def page : Nat := 0x0A0
/-- TIL.STORE_CLR (R311, WO). -/
def STORE_CLR : Fld := ⟨0x0A0, 0x008, 0, 1⟩
/-- TIL.RECEIVING (R311, RO). -/
def RECEIVING : Fld := ⟨0x0A0, 0x00C, 0, 1⟩
/-- TIL.FEED_VALID (R311, RO). -/
def FEED_VALID : Fld := ⟨0x0A0, 0x00C, 1, 8⟩
/-- TIL.P16_SHOWN (R311, RO). -/
def P16_SHOWN : Fld := ⟨0x0A0, 0x00C, 9, 1⟩
/-- TIL.EVT [0] BAND_REPEAT (R311). -/
def ev_BAND_REPEAT : Evt := ⟨0x0A0, 0, false⟩
/-- TIL.EVT [1] BAND_LATE (R311). -/
def ev_BAND_LATE : Evt := ⟨0x0A0, 1, false⟩
/-- TIL.EVT [2] SEG_CORRUPT (R311). -/
def ev_SEG_CORRUPT : Evt := ⟨0x0A0, 2, false⟩
/-- TIL.EVT [3] BUF_DROP (R311). -/
def ev_BUF_DROP : Evt := ⟨0x0A0, 3, false⟩
/-- TIL.EVT [4] BAND_STALE (R311). -/
def ev_BAND_STALE : Evt := ⟨0x0A0, 4, true⟩
/-- TIL.EVT [5] STORE_CLEARED (R311). -/
def ev_STORE_CLEARED : Evt := ⟨0x0A0, 5, false⟩
/-- TIL.EN (R311, SH). -/
def EN : Fld := ⟨0x0A0, 0x040, 0, 1⟩
/-- TIL.REPEAT_MAX (R311, SH). -/
def REPEAT_MAX : Fld := ⟨0x0A0, 0x040, 8, 8⟩
/-- TIL.W_M1 (R311, SH). -/
def W_M1 : Fld := ⟨0x0A0, 0x044, 0, 14⟩
/-- TIL.H_M1 (R311, SH). -/
def H_M1 : Fld := ⟨0x0A0, 0x044, 16, 14⟩
/-- TIL.OFF_X (R311, SH). -/
def OFF_X : Fld := ⟨0x0A0, 0x048, 0, 10⟩
/-- TIL.OFF_Y (R311, SH). -/
def OFF_Y : Fld := ⟨0x0A0, 0x048, 16, 10⟩
/-- TIL.TOP_W_U (R311, SH). -/
def TOP_W_U : Fld := ⟨0x0A0, 0x04C, 0, 10⟩
/-- TIL.TOP_H_U (R311, SH). -/
def TOP_H_U : Fld := ⟨0x0A0, 0x04C, 16, 11⟩
/-- TIL.BANDS_LAST (R311, RO). -/
def BANDS_LAST : Fld := ⟨0x0A0, 0x600, 0, 32⟩
/-- TIL.REPEATS_LAST (R311, RO). -/
def REPEATS_LAST : Fld := ⟨0x0A0, 0x604, 0, 32⟩
/-- TIL.CNT_BAND_REPEAT (R311, RO). -/
def CNT_BAND_REPEAT : Fld := ⟨0x0A0, 0x680, 0, 32⟩
/-- TIL.CNT_BAND_LATE (R311, RO). -/
def CNT_BAND_LATE : Fld := ⟨0x0A0, 0x684, 0, 32⟩
/-- TIL.CNT_SEG_CORRUPT (R311, RO). -/
def CNT_SEG_CORRUPT : Fld := ⟨0x0A0, 0x688, 0, 32⟩
/-- TIL.CNT_SEG_DUP (R311, RO). -/
def CNT_SEG_DUP : Fld := ⟨0x0A0, 0x68C, 0, 32⟩
/-- TIL.CNT_BUF_DROP (R311, RO). -/
def CNT_BUF_DROP : Fld := ⟨0x0A0, 0x690, 0, 32⟩
/-- TIL.CNT_BAND_STALE (R311, RO). -/
def CNT_BAND_STALE : Fld := ⟨0x0A0, 0x694, 0, 32⟩
/-- TIL.CNT_BANDS (R311, RO). -/
def CNT_BANDS : Fld := ⟨0x0A0, 0x698, 0, 32⟩
/-- TIL.CNT_STORE_CLEAR (R311, RO). -/
def CNT_STORE_CLEAR : Fld := ⟨0x0A0, 0x69C, 0, 32⟩
/-- TIL.CNT_BAND_IDLE (R311, RO). -/
def CNT_BAND_IDLE : Fld := ⟨0x0A0, 0x6A0, 0, 32⟩
end R.TIL

/-! Fields of LSM (11_tile_pipeline.md). -/
namespace R.LSM
/-- The page of LSM (03 R67). -/
def page : Nat := 0x0A1
/-- LSM.MODE_EFF (R312, RO). -/
def MODE_EFF : Fld := ⟨0x0A1, 0x00C, 0, 2⟩
/-- LSM.COMPUTING (R312, RO). -/
def COMPUTING : Fld := ⟨0x0A1, 0x00C, 2, 1⟩
/-- LSM.EVT [0] ABANDON (R312). -/
def ev_ABANDON : Evt := ⟨0x0A1, 0, false⟩
/-- LSM.EVT [1] MODE_STEP (R312). -/
def ev_MODE_STEP : Evt := ⟨0x0A1, 1, false⟩
/-- LSM.MODE (R312, SH). -/
def MODE : Fld := ⟨0x0A1, 0x040, 0, 2⟩
/-- LSM.ROT (R312, SH). -/
def ROT : Fld := ⟨0x0A1, 0x040, 2, 2⟩
/-- LSM.MIRROR (R312, SH). -/
def MIRROR : Fld := ⟨0x0A1, 0x040, 4, 1⟩
/-- LSM.NOM_DX_R (R312, SH). -/
def NOM_DX_R : Fld := ⟨0x0A1, 0x044, 0, 8⟩
/-- LSM.NOM_DX_G (R312, SH). -/
def NOM_DX_G : Fld := ⟨0x0A1, 0x044, 8, 8⟩
/-- LSM.NOM_DX_B (R312, SH). -/
def NOM_DX_B : Fld := ⟨0x0A1, 0x044, 16, 8⟩
/-- LSM.NOM_DY_R (R312, SH). -/
def NOM_DY_R : Fld := ⟨0x0A1, 0x048, 0, 8⟩
/-- LSM.NOM_DY_G (R312, SH). -/
def NOM_DY_G : Fld := ⟨0x0A1, 0x048, 8, 8⟩
/-- LSM.NOM_DY_B (R312, SH). -/
def NOM_DY_B : Fld := ⟨0x0A1, 0x048, 16, 8⟩
/-- LSM.LAMPS (R312, RO). -/
def LAMPS : Fld := ⟨0x0A1, 0x600, 0, 21⟩
/-- LSM.SLOT_NS (R312, RO). -/
def SLOT_NS : Fld := ⟨0x0A1, 0x604, 0, 32⟩
/-- LSM.LOAD (R312, RO). -/
def LOAD : Fld := ⟨0x0A1, 0x608, 0, 16⟩
/-- LSM.CNT_ABANDON (R312, RO). -/
def CNT_ABANDON : Fld := ⟨0x0A1, 0x680, 0, 32⟩
/-- LSM.CNT_SLOTS (R312, RO). -/
def CNT_SLOTS : Fld := ⟨0x0A1, 0x684, 0, 32⟩
/-- LSM.CNT_MODE_STEP (R312, RO). -/
def CNT_MODE_STEP : Fld := ⟨0x0A1, 0x688, 0, 32⟩
end R.LSM

/-! Fields of COR (11_tile_pipeline.md). -/
namespace R.COR
/-- The page of COR (03 R67). -/
def page : Nat := 0x0A2
/-- COR.RELOAD (R313, WO). -/
def RELOAD : Fld := ⟨0x0A2, 0x008, 0, 1⟩
/-- COR.DEBT_CLR (R313, WO). -/
def DEBT_CLR : Fld := ⟨0x0A2, 0x008, 1, 1⟩
/-- COR.RELOADING (R313, RO). -/
def RELOADING : Fld := ⟨0x0A2, 0x00C, 0, 1⟩
/-- COR.CAL_VALID (R313, RO). -/
def CAL_VALID : Fld := ⟨0x0A2, 0x00C, 1, 1⟩
/-- COR.EVT [0] RELOAD_DONE (R313). -/
def ev_RELOAD_DONE : Evt := ⟨0x0A2, 0, false⟩
/-- COR.EVT [1] DEBT_SAT (R313). -/
def ev_DEBT_SAT : Evt := ⟨0x0A2, 1, false⟩
/-- COR.BRIGHT (R313, SH). -/
def BRIGHT : Fld := ⟨0x0A2, 0x040, 0, 17⟩
/-- COR.DEBT_SHIFT (R313, SH). -/
def DEBT_SHIFT : Fld := ⟨0x0A2, 0x044, 0, 4⟩
/-- COR.AGE_EN (R313, SH). -/
def AGE_EN : Fld := ⟨0x0A2, 0x044, 4, 1⟩
/-- COR.G_LIMIT (R313, RO). -/
def G_LIMIT : Fld := ⟨0x0A2, 0x600, 0, 17⟩
/-- COR.G_THERM (R313, RO). -/
def G_THERM : Fld := ⟨0x0A2, 0x604, 0, 17⟩
/-- COR.G_FRAME (R313, RO). -/
def G_FRAME : Fld := ⟨0x0A2, 0x608, 0, 17⟩
/-- COR.CNT_DEBT_SAT (R313, RO). -/
def CNT_DEBT_SAT : Fld := ⟨0x0A2, 0x680, 0, 32⟩
/-- COR.CNT_RELOAD (R313, RO). -/
def CNT_RELOAD : Fld := ⟨0x0A2, 0x684, 0, 32⟩
end R.COR

/-! Fields of LMP (12_lamp_drive.md). -/
namespace R.LMP
/-- The page of LMP (03 R67). -/
def page : Nat := 0x0B0
/-- LMP.FORCE_DARK (R344, RW). -/
def FORCE_DARK : Fld := ⟨0x0B0, 0x008, 0, 1⟩
/-- LMP.RUNNING (R344, RO). -/
def RUNNING : Fld := ⟨0x0B0, 0x00C, 0, 1⟩
/-- LMP.M_EFF (R344, RO). -/
def M_EFF : Fld := ⟨0x0B0, 0x00C, 1, 7⟩
/-- LMP.GROUPS_ON (R344, RO). -/
def GROUPS_ON : Fld := ⟨0x0B0, 0x00C, 8, 4⟩
/-- LMP.SLOT (R344, RO). -/
def SLOT : Fld := ⟨0x0B0, 0x00C, 12, 3⟩
/-- LMP.DARK (R344, RO). -/
def DARK : Fld := ⟨0x0B0, 0x00C, 15, 1⟩
/-- LMP.EVT [0] LOAD_ABANDON (R344). -/
def ev_LOAD_ABANDON : Evt := ⟨0x0B0, 0, false⟩
/-- LMP.EVT [1] M_STEP (R344). -/
def ev_M_STEP : Evt := ⟨0x0B0, 1, false⟩
/-- LMP.EVT [2] FORCED_DARK (R344). -/
def ev_FORCED_DARK : Evt := ⟨0x0B0, 2, true⟩
/-- LMP.GROUP_EN (R344, SH). -/
def GROUP_EN : Fld := ⟨0x0B0, 0x040, 1, 4⟩
/-- LMP.CHAIN (R344, SH). -/
def CHAIN : Fld := ⟨0x0B0, 0x040, 5, 4⟩
/-- LMP.SCAN (R344, SH). -/
def SCAN : Fld := ⟨0x0B0, 0x040, 9, 6⟩
/-- LMP.MULT (R344, SH). -/
def MULT : Fld := ⟨0x0B0, 0x040, 15, 6⟩
/-- LMP.SEG (R344, SH). -/
def SEG : Fld := ⟨0x0B0, 0x040, 21, 3⟩
/-- LMP.LEAD (R344, SH). -/
def LEAD : Fld := ⟨0x0B0, 0x044, 0, 20⟩
/-- LMP.QSTRIDE (R344, SH). -/
def QSTRIDE : Fld := ⟨0x0B0, 0x048, 0, 13⟩
/-- LMP.LOAD_NS (R344, RO). -/
def LOAD_NS : Fld := ⟨0x0B0, 0x600, 0, 32⟩
/-- LMP.D_NS (R344, RO). -/
def D_NS : Fld := ⟨0x0B0, 0x604, 0, 32⟩
/-- LMP.LEAD_MIN (R344, RO). -/
def LEAD_MIN : Fld := ⟨0x0B0, 0x608, 0, 32⟩
/-- LMP.CYCLE_MAX_NS (R344, RO). -/
def CYCLE_MAX_NS : Fld := ⟨0x0B0, 0x60C, 0, 32⟩
/-- LMP.CNT_LOAD_ABANDON (R344, RO). -/
def CNT_LOAD_ABANDON : Fld := ⟨0x0B0, 0x680, 0, 32⟩
/-- LMP.CNT_SLOTS (R344, RO). -/
def CNT_SLOTS : Fld := ⟨0x0B0, 0x684, 0, 32⟩
/-- LMP.CNT_DARK_SLOTS (R344, RO). -/
def CNT_DARK_SLOTS : Fld := ⟨0x0B0, 0x688, 0, 32⟩
/-- LMP.CNT_M_STEP (R344, RO). -/
def CNT_M_STEP : Fld := ⟨0x0B0, 0x68C, 0, 32⟩
end R.LMP

/-! Fields of SGP (12_lamp_drive.md). -/
namespace R.SGP
/-- The page of SGP n (03 R67). -/
def page (n : Nat) : Nat := 0x0B1 + n
/-- SGP.ACTIVE (R345, RO). -/
def ACTIVE (n : Nat) : Fld := ⟨0x0B1 + n, 0x00C, 0, 1⟩
/-- SGP.ROW (R345, RO). -/
def ROW (n : Nat) : Fld := ⟨0x0B1 + n, 0x00C, 1, 6⟩
/-- SGP.EVT [0] TRIM_SAT (R345). -/
def ev_TRIM_SAT (n : Nat) : Evt := ⟨0x0B1 + n, 0, false⟩
/-- SGP.EVT [1] SENSE_RANGE (R345). -/
def ev_SENSE_RANGE (n : Nat) : Evt := ⟨0x0B1 + n, 1, false⟩
/-- SGP.PRECHG (R345, SH). -/
def PRECHG (n : Nat) : Fld := ⟨0x0B1 + n, 0x040, 0, 9⟩
/-- SGP.SENSE_EN (R345, SH). -/
def SENSE_EN (n : Nat) : Fld := ⟨0x0B1 + n, 0x040, 9, 1⟩
/-- SGP.SP_RELAX (R345, SH). -/
def SP_RELAX (n : Nat) : Fld := ⟨0x0B1 + n, 0x044, 0, 20⟩
/-- SGP.SENSE_LAST (R345, RO). -/
def SENSE_LAST (n : Nat) : Fld := ⟨0x0B1 + n, 0x600, 0, 16⟩
/-- SGP.SENSE_MIN (R345, RO). -/
def SENSE_MIN (n : Nat) : Fld := ⟨0x0B1 + n, 0x604, 0, 16⟩
/-- SGP.TRIM_LAST (R345, RO). -/
def TRIM_LAST (n : Nat) : Fld := ⟨0x0B1 + n, 0x608, 0, 32⟩
/-- SGP.TRIM_PEAK (R345, RO). -/
def TRIM_PEAK (n : Nat) : Fld := ⟨0x0B1 + n, 0x60C, 0, 32⟩
/-- SGP.CNT_TRIM_SAT (R345, RO). -/
def CNT_TRIM_SAT (n : Nat) : Fld := ⟨0x0B1 + n, 0x680, 0, 32⟩
/-- SGP.CNT_WINDOWS (R345, RO). -/
def CNT_WINDOWS (n : Nat) : Fld := ⟨0x0B1 + n, 0x684, 0, 32⟩
end R.SGP

/-! Fields of PRB (12_lamp_drive.md). -/
namespace R.PRB
/-- The page of PRB (03 R67). -/
def page : Nat := 0x0B5
/-- PRB.STATUS_RESET (R346, WO). -/
def STATUS_RESET : Fld := ⟨0x0B5, 0x008, 0, 1⟩
/-- PRB.EVT [0] NEW_FAULT (R346). -/
def ev_NEW_FAULT : Evt := ⟨0x0B5, 0, false⟩
/-- PRB.EVT [1] FAULT_CLEARED (R346). -/
def ev_FAULT_CLEARED : Evt := ⟨0x0B5, 1, false⟩
/-- PRB.EVT [2] DEFERRED (R346). -/
def ev_DEFERRED : Evt := ⟨0x0B5, 2, false⟩
/-- PRB.EN (R346, SH). -/
def EN : Fld := ⟨0x0B5, 0x040, 0, 1⟩
/-- PRB.POLICY (R346, SH). -/
def POLICY : Fld := ⟨0x0B5, 0x040, 1, 2⟩
/-- PRB.T_DET (R346, SH). -/
def T_DET : Fld := ⟨0x0B5, 0x044, 0, 11⟩
/-- PRB.DEBT_R (R346, SH). -/
def DEBT_R : Fld := ⟨0x0B5, 0x048, 0, 8⟩
/-- PRB.DEBT_G (R346, SH). -/
def DEBT_G : Fld := ⟨0x0B5, 0x048, 8, 8⟩
/-- PRB.DEBT_B (R346, SH). -/
def DEBT_B : Fld := ⟨0x0B5, 0x048, 16, 8⟩
/-- PRB.NEXT_ROW0 (R346, RO). -/
def NEXT_ROW0 : Fld := ⟨0x0B5, 0x600, 0, 6⟩
/-- PRB.NEXT_ROW1 (R346, RO). -/
def NEXT_ROW1 : Fld := ⟨0x0B5, 0x600, 8, 6⟩
/-- PRB.NEXT_ROW2 (R346, RO). -/
def NEXT_ROW2 : Fld := ⟨0x0B5, 0x600, 16, 6⟩
/-- PRB.NEXT_ROW3 (R346, RO). -/
def NEXT_ROW3 : Fld := ⟨0x0B5, 0x600, 24, 6⟩
/-- PRB.DET_CODE (R346, RO). -/
def DET_CODE : Fld := ⟨0x0B5, 0x604, 0, 17⟩
/-- PRB.N_OPEN (R346, RO). -/
def N_OPEN : Fld := ⟨0x0B5, 0x608, 0, 21⟩
/-- PRB.N_SHORT (R346, RO). -/
def N_SHORT : Fld := ⟨0x0B5, 0x60C, 0, 21⟩
/-- PRB.N_UNKNOWN (R346, RO). -/
def N_UNKNOWN : Fld := ⟨0x0B5, 0x610, 0, 21⟩
/-- PRB.LAST_FAULT (R346, RO). -/
def LAST_FAULT : Fld := ⟨0x0B5, 0x614, 0, 21⟩
/-- PRB.LAST_STATUS (R346, RO). -/
def LAST_STATUS : Fld := ⟨0x0B5, 0x614, 30, 2⟩
/-- PRB.CNT_PROBES (R346, RO). -/
def CNT_PROBES : Fld := ⟨0x0B5, 0x680, 0, 32⟩
/-- PRB.CNT_SOLO (R346, RO). -/
def CNT_SOLO : Fld := ⟨0x0B5, 0x684, 0, 32⟩
/-- PRB.CNT_DEFERRED (R346, RO). -/
def CNT_DEFERRED : Fld := ⟨0x0B5, 0x688, 0, 32⟩
/-- PRB.CNT_NEW_FAULT (R346, RO). -/
def CNT_NEW_FAULT : Fld := ⟨0x0B5, 0x68C, 0, 32⟩
end R.PRB

/-! Fields of DRP (12_lamp_drive.md). -/
namespace R.DRP
/-- The page of DRP (03 R67). -/
def page : Nat := 0x0B6
/-- DRP.REINIT (R347, WO). -/
def REINIT : Fld := ⟨0x0B6, 0x008, 0, 1⟩
/-- DRP.DRV_RESET (R347, WO). -/
def DRV_RESET : Fld := ⟨0x0B6, 0x008, 1, 1⟩
/-- DRP.INIT_DONE (R347, RO). -/
def INIT_DONE : Fld := ⟨0x0B6, 0x00C, 0, 1⟩
/-- DRP.ABSENT_ANY (R347, RO). -/
def ABSENT_ANY : Fld := ⟨0x0B6, 0x00C, 1, 1⟩
/-- DRP.EVT [0] DRIVER_ABSENT (R347). -/
def ev_DRIVER_ABSENT : Evt := ⟨0x0B6, 0, false⟩
/-- DRP.EVT [1] INIT (R347). -/
def ev_INIT : Evt := ⟨0x0B6, 1, false⟩
/-- DRP.RB_DIV (R347, SH). -/
def RB_DIV : Fld := ⟨0x0B6, 0x040, 0, 6⟩
/-- DRP.REFRESH_FRAMES (R347, SH). -/
def REFRESH_FRAMES : Fld := ⟨0x0B6, 0x040, 8, 8⟩
/-- DRP.VALUE (R347, SH). -/
def VALUE (i : Nat) : Fld := ⟨0x0B6, 0x044 + 0x4 * i, 0, 12⟩
/-- DRP.SEND (R347, SH). -/
def SEND (i : Nat) : Fld := ⟨0x0B6, 0x044 + 0x4 * i, 12, 1⟩
/-- DRP.DET_TICKS (R347, RO). -/
def DET_TICKS : Fld := ⟨0x0B6, 0x600, 0, 12⟩
/-- DRP.K (R347, RO). -/
def K : Fld := ⟨0x0B6, 0x604, 0, 17⟩
/-- DRP.CNT_ABSENT (R347, RO). -/
def CNT_ABSENT : Fld := ⟨0x0B6, 0x680, 0, 32⟩
/-- DRP.CNT_CFG (R347, RO). -/
def CNT_CFG : Fld := ⟨0x0B6, 0x684, 0, 32⟩
/-- DRP.CNT_READ (R347, RO). -/
def CNT_READ : Fld := ⟨0x0B6, 0x688, 0, 32⟩
end R.DRP

/-! Fields of NVS (13_calibration_and_heat.md). -/
namespace R.NVS
/-- The page of NVS (03 R67). -/
def page : Nat := 0x0D2
/-- NVS.SET_BEGIN (R376, WO). -/
def SET_BEGIN : Fld := ⟨0x0D2, 0x008, 0, 1⟩
/-- NVS.SET_END (R376, WO). -/
def SET_END : Fld := ⟨0x0D2, 0x008, 1, 1⟩
/-- NVS.WRITE_GO (R376, WO). -/
def WRITE_GO : Fld := ⟨0x0D2, 0x008, 2, 1⟩
/-- NVS.READ_GO (R376, WO). -/
def READ_GO : Fld := ⟨0x0D2, 0x008, 3, 1⟩
/-- NVS.SETTINGS_SAVE (R376, WO). -/
def SETTINGS_SAVE : Fld := ⟨0x0D2, 0x008, 4, 1⟩
/-- NVS.CONE_SAVE_NOW (R376, WO). -/
def CONE_SAVE_NOW : Fld := ⟨0x0D2, 0x008, 5, 1⟩
/-- NVS.BLOCK (R376, WO). -/
def BLOCK : Fld := ⟨0x0D2, 0x008, 8, 12⟩
/-- NVS.BUF (R376, WO). -/
def BUF : Fld := ⟨0x0D2, 0x008, 20, 1⟩
/-- NVS.BUSY (R376, RO). -/
def BUSY : Fld := ⟨0x0D2, 0x00C, 0, 1⟩
/-- NVS.OP_STATUS (R376, RO). -/
def OP_STATUS : Fld := ⟨0x0D2, 0x00C, 1, 3⟩
/-- NVS.SET_OPEN (R376, RO). -/
def SET_OPEN : Fld := ⟨0x0D2, 0x00C, 4, 1⟩
/-- NVS.MIXED (R376, RO). -/
def st_MIXED : Fld := ⟨0x0D2, 0x00C, 5, 1⟩
/-- NVS.FACTORY (R376, RO). -/
def FACTORY : Fld := ⟨0x0D2, 0x00C, 6, 1⟩
/-- NVS.IN_WINDOW (R376, RO). -/
def IN_WINDOW : Fld := ⟨0x0D2, 0x00C, 7, 1⟩
/-- NVS.SPARE_LOW (R376, RO). -/
def SPARE_LOW : Fld := ⟨0x0D2, 0x00C, 8, 1⟩
/-- NVS.SETTINGS_DEFAULTED (R376, RO). -/
def SETTINGS_DEFAULTED : Fld := ⟨0x0D2, 0x00C, 9, 1⟩
/-- NVS.EVT [0] OP_DONE (R376). -/
def ev_OP_DONE : Evt := ⟨0x0D2, 0, false⟩
/-- NVS.EVT [1] MIXED (R376). -/
def ev_MIXED : Evt := ⟨0x0D2, 1, true⟩
/-- NVS.EVT [2] SCRUB_LATE (R376). -/
def ev_SCRUB_LATE : Evt := ⟨0x0D2, 2, true⟩
/-- NVS.EVT [3] SAVE_LATE (R376). -/
def ev_SAVE_LATE : Evt := ⟨0x0D2, 3, true⟩
/-- NVS.EVT [4] SPARE_EXHAUSTED (R376). -/
def ev_SPARE_EXHAUSTED : Evt := ⟨0x0D2, 4, true⟩
/-- NVS.EVT [5] TEMP_REFUSED (R376). -/
def ev_TEMP_REFUSED : Evt := ⟨0x0D2, 5, false⟩
/-- NVS.EVT [6] UNCORR (R376). -/
def ev_UNCORR : Evt := ⟨0x0D2, 6, false⟩
/-- NVS.CONE_PERIOD (R376, SH). -/
def CONE_PERIOD : Fld := ⟨0x0D2, 0x040, 0, 6⟩
/-- NVS.SET_GEN (R376, RO). -/
def SET_GEN : Fld := ⟨0x0D2, 0x600, 0, 32⟩
/-- NVS.NEW_COUNT (R376, RO). -/
def NEW_COUNT : Fld := ⟨0x0D2, 0x604, 0, 12⟩
/-- NVS.POOL_FREE (R376, RO). -/
def POOL_FREE : Fld := ⟨0x0D2, 0x608, 0, 9⟩
/-- NVS.SCRUB_AGE (R376, RO). -/
def SCRUB_AGE : Fld := ⟨0x0D2, 0x60C, 0, 32⟩
/-- NVS.RING_HEAD (R376, RO). -/
def RING_HEAD : Fld := ⟨0x0D2, 0x610, 0, 6⟩
/-- NVS.SETTINGS_VER (R376, RO). -/
def SETTINGS_VER : Fld := ⟨0x0D2, 0x614, 0, 16⟩
/-- NVS.CNT_WRITES (R376, RO). -/
def CNT_WRITES : Fld := ⟨0x0D2, 0x680, 0, 32⟩
/-- NVS.CNT_VERIFY_FAIL (R376, RO). -/
def CNT_VERIFY_FAIL : Fld := ⟨0x0D2, 0x684, 0, 32⟩
/-- NVS.CNT_CORRECTED (R376, RO). -/
def CNT_CORRECTED : Fld := ⟨0x0D2, 0x688, 0, 32⟩
/-- NVS.CNT_UNCORR (R376, RO). -/
def CNT_UNCORR : Fld := ⟨0x0D2, 0x68C, 0, 32⟩
/-- NVS.CNT_REMAP (R376, RO). -/
def CNT_REMAP : Fld := ⟨0x0D2, 0x690, 0, 32⟩
/-- NVS.CNT_YIELD (R376, RO). -/
def CNT_YIELD : Fld := ⟨0x0D2, 0x694, 0, 32⟩
/-- NVS.CNT_TEMP_REFUSED (R376, RO). -/
def CNT_TEMP_REFUSED : Fld := ⟨0x0D2, 0x698, 0, 32⟩
end R.NVS

/-! Fields of PHC (13_calibration_and_heat.md). -/
namespace R.PHC
/-- The page of PHC (03 R67). -/
def page : Nat := 0x0D1
/-- PHC.GO (R377, WO). -/
def GO : Fld := ⟨0x0D1, 0x008, 0, 1⟩
/-- PHC.ABORT (R377, WO). -/
def ABORT : Fld := ⟨0x0D1, 0x008, 1, 1⟩
/-- PHC.RUNNING (R377, RO). -/
def RUNNING : Fld := ⟨0x0D1, 0x00C, 0, 1⟩
/-- PHC.PHASE (R377, RO). -/
def PHASE : Fld := ⟨0x0D1, 0x00C, 1, 2⟩
/-- PHC.RESULT (R377, RO). -/
def RESULT : Fld := ⟨0x0D1, 0x00C, 3, 4⟩
/-- PHC.RESIDUAL_VALID (R377, RO). -/
def RESIDUAL_VALID : Fld := ⟨0x0D1, 0x00C, 7, 1⟩
/-- PHC.SAVED (R377, RO). -/
def SAVED : Fld := ⟨0x0D1, 0x00C, 8, 1⟩
/-- PHC.EVT [0] DONE (R377). -/
def ev_DONE : Evt := ⟨0x0D1, 0, false⟩
/-- PHC.EVT [1] FAILED (R377). -/
def ev_FAILED : Evt := ⟨0x0D1, 1, false⟩
/-- PHC.THRESH (R377, SH). -/
def THRESH : Fld := ⟨0x0D1, 0x040, 0, 11⟩
/-- PHC.FALLING (R377, SH). -/
def FALLING : Fld := ⟨0x0D1, 0x040, 11, 1⟩
/-- PHC.MARK_SLOT (R377, SH). -/
def MARK_SLOT : Fld := ⟨0x0D1, 0x040, 12, 3⟩
/-- PHC.MARKS (R377, SH). -/
def MARKS : Fld := ⟨0x0D1, 0x040, 15, 8⟩
/-- PHC.MARK_X (R377, SH). -/
def MARK_X : Fld := ⟨0x0D1, 0x044, 0, 14⟩
/-- PHC.MARK_Y (R377, SH). -/
def MARK_Y : Fld := ⟨0x0D1, 0x044, 16, 14⟩
/-- PHC.MARK_W_M1 (R377, SH). -/
def MARK_W_M1 : Fld := ⟨0x0D1, 0x048, 0, 14⟩
/-- PHC.MARK_H_M1 (R377, SH). -/
def MARK_H_M1 : Fld := ⟨0x0D1, 0x048, 16, 14⟩
/-- PHC.MARK_CODE (R377, SH). -/
def MARK_CODE : Fld := ⟨0x0D1, 0x04C, 0, 16⟩
/-- PHC.REF_DELAY (R377, SH). -/
def REF_DELAY : Fld := ⟨0x0D1, 0x050, 0, 32⟩
/-- PHC.PD_DELAY (R377, SH). -/
def PD_DELAY : Fld := ⟨0x0D1, 0x054, 0, 32⟩
/-- PHC.SPREAD_MAX (R377, SH). -/
def SPREAD_MAX : Fld := ⟨0x0D1, 0x058, 0, 16⟩
/-- PHC.WINDOW (R377, SH). -/
def WINDOW : Fld := ⟨0x0D1, 0x058, 16, 16⟩
/-- PHC.TRIM (R377, RO). -/
def TRIM : Fld := ⟨0x0D1, 0x600, 0, 32⟩
/-- PHC.LAST_ERR (R377, RO). -/
def LAST_ERR : Fld := ⟨0x0D1, 0x604, 0, 32⟩
/-- PHC.RESIDUAL (R377, RO). -/
def RESIDUAL : Fld := ⟨0x0D1, 0x608, 0, 32⟩
/-- PHC.SPREAD (R377, RO). -/
def SPREAD : Fld := ⟨0x0D1, 0x60C, 0, 32⟩
/-- PHC.T_REF_MEAN (R377, RO). -/
def T_REF_MEAN : Fld := ⟨0x0D1, 0x610, 0, 32⟩
/-- PHC.T_LIGHT_MEAN (R377, RO). -/
def T_LIGHT_MEAN : Fld := ⟨0x0D1, 0x614, 0, 32⟩
/-- PHC.MISSED (R377, RO). -/
def MISSED : Fld := ⟨0x0D1, 0x618, 0, 8⟩
/-- PHC.RUN_EPOCH (R377, RO). -/
def RUN_EPOCH : Fld := ⟨0x0D1, 0x61C, 0, 32⟩
/-- PHC.CNT_RUNS (R377, RO). -/
def CNT_RUNS : Fld := ⟨0x0D1, 0x680, 0, 32⟩
/-- PHC.CNT_OK (R377, RO). -/
def CNT_OK : Fld := ⟨0x0D1, 0x684, 0, 32⟩
/-- PHC.CNT_FAILED (R377, RO). -/
def CNT_FAILED : Fld := ⟨0x0D1, 0x688, 0, 32⟩
end R.PHC

/-! Fields of THM (13_calibration_and_heat.md). -/
namespace R.THM
/-- The page of THM (03 R67). -/
def page : Nat := 0x0D0
/-- THM.CONE_CLR (R378, WO). -/
def CONE_CLR : Fld := ⟨0x0D0, 0x008, 0, 1⟩
/-- THM.QUENCHED (R378, RO). -/
def QUENCHED : Fld := ⟨0x0D0, 0x00C, 0, 1⟩
/-- THM.QUENCH_CAUSE (R378, RO). -/
def QUENCH_CAUSE : Fld := ⟨0x0D0, 0x00C, 1, 2⟩
/-- THM.THROTTLE (R378, RO). -/
def st_THROTTLE : Fld := ⟨0x0D0, 0x00C, 3, 1⟩
/-- THM.DIE_THROTTLE (R378, RO). -/
def st_DIE_THROTTLE : Fld := ⟨0x0D0, 0x00C, 4, 1⟩
/-- THM.BROKEN (R378, RO). -/
def BROKEN : Fld := ⟨0x0D0, 0x00C, 5, 8⟩
/-- THM.MON_BROKEN (R378, RO). -/
def st_MON_BROKEN : Fld := ⟨0x0D0, 0x00C, 13, 1⟩
/-- THM.STALE (R378, RO). -/
def STALE : Fld := ⟨0x0D0, 0x00C, 14, 1⟩
/-- THM.EVT [0] THROTTLE (R378). -/
def ev_THROTTLE : Evt := ⟨0x0D0, 0, true⟩
/-- THM.EVT [1] DIE_THROTTLE (R378). -/
def ev_DIE_THROTTLE : Evt := ⟨0x0D0, 1, true⟩
/-- THM.EVT [2] SENSOR_BROKEN (R378). -/
def ev_SENSOR_BROKEN : Evt := ⟨0x0D0, 2, true⟩
/-- THM.EVT [3] MON_BROKEN (R378). -/
def ev_MON_BROKEN : Evt := ⟨0x0D0, 3, true⟩
/-- THM.EVT [4] QUENCH (R378). -/
def ev_QUENCH : Evt := ⟨0x0D0, 4, false⟩
/-- THM.SENS_EN (R378, SH). -/
def SENS_EN : Fld := ⟨0x0D0, 0x040, 0, 8⟩
/-- THM.SMB_400K (R378, SH). -/
def SMB_400K : Fld := ⟨0x0D0, 0x040, 8, 1⟩
/-- THM.SENS_ADDR0 (R378, SH). -/
def SENS_ADDR0 : Fld := ⟨0x0D0, 0x044, 0, 7⟩
/-- THM.SENS_ADDR1 (R378, SH). -/
def SENS_ADDR1 : Fld := ⟨0x0D0, 0x044, 8, 7⟩
/-- THM.SENS_ADDR2 (R378, SH). -/
def SENS_ADDR2 : Fld := ⟨0x0D0, 0x044, 16, 7⟩
/-- THM.SENS_ADDR3 (R378, SH). -/
def SENS_ADDR3 : Fld := ⟨0x0D0, 0x044, 24, 7⟩
/-- THM.SENS_ADDR4 (R378, SH). -/
def SENS_ADDR4 : Fld := ⟨0x0D0, 0x048, 0, 7⟩
/-- THM.SENS_ADDR5 (R378, SH). -/
def SENS_ADDR5 : Fld := ⟨0x0D0, 0x048, 8, 7⟩
/-- THM.SENS_ADDR6 (R378, SH). -/
def SENS_ADDR6 : Fld := ⟨0x0D0, 0x048, 16, 7⟩
/-- THM.SENS_ADDR7 (R378, SH). -/
def SENS_ADDR7 : Fld := ⟨0x0D0, 0x048, 24, 7⟩
/-- THM.T_THR (R378, SH). -/
def T_THR : Fld := ⟨0x0D0, 0x04C, 0, 16⟩
/-- THM.T_BROKEN (R378, SH). -/
def T_BROKEN : Fld := ⟨0x0D0, 0x04C, 16, 16⟩
/-- THM.K (R378, SH). -/
def K : Fld := ⟨0x0D0, 0x050, 0, 16⟩
/-- THM.T_DIE_THR (R378, SH). -/
def T_DIE_THR : Fld := ⟨0x0D0, 0x054, 0, 16⟩
/-- THM.T_DIE_BROKEN (R378, SH). -/
def T_DIE_BROKEN : Fld := ⟨0x0D0, 0x054, 16, 16⟩
/-- THM.K_DIE (R378, SH). -/
def K_DIE : Fld := ⟨0x0D0, 0x058, 0, 16⟩
/-- THM.AMB_SRC (R378, SH). -/
def AMB_SRC : Fld := ⟨0x0D0, 0x058, 16, 4⟩
/-- THM.T_AMB (R378, SH). -/
def T_AMB : Fld := ⟨0x0D0, 0x05C, 0, 16⟩
/-- THM.R_CA (R378, SH). -/
def R_CA : Fld := ⟨0x0D0, 0x05C, 16, 16⟩
/-- THM.TAU_CA (R378, SH). -/
def TAU_CA : Fld := ⟨0x0D0, 0x060, 0, 16⟩
/-- THM.CONE_TREF (R378, SH). -/
def CONE_TREF : Fld := ⟨0x0D0, 0x064, 0, 16⟩
/-- THM.CONE_DT (R378, SH). -/
def CONE_DT : Fld := ⟨0x0D0, 0x064, 16, 8⟩
/-- THM.CUR_R (R378, SH). -/
def CUR_R : Fld := ⟨0x0D0, 0x068, 0, 16⟩
/-- THM.CUR_G (R378, SH). -/
def CUR_G : Fld := ⟨0x0D0, 0x068, 16, 16⟩
/-- THM.CUR_B (R378, SH). -/
def CUR_B : Fld := ⟨0x0D0, 0x06C, 0, 16⟩
/-- THM.TEMP (R378, RO). -/
def TEMP (i : Nat) : Fld := ⟨0x0D0, 0x600 + 0x4 * i, 0, 16⟩
/-- THM.VALID (R378, RO). -/
def VALID (i : Nat) : Fld := ⟨0x0D0, 0x600 + 0x4 * i, 31, 1⟩
/-- THM.T_BOARD (R378, RO). -/
def T_BOARD : Fld := ⟨0x0D0, 0x620, 0, 16⟩
/-- THM.T_DIE (R378, RO). -/
def T_DIE : Fld := ⟨0x0D0, 0x624, 0, 16⟩
/-- THM.P_DIE (R378, RO). -/
def P_DIE : Fld := ⟨0x0D0, 0x628, 0, 32⟩
/-- THM.Q_DIE (R378, RO). -/
def Q_DIE : Fld := ⟨0x0D0, 0x62C, 0, 17⟩
/-- THM.MAX_T_BOARD (R378, RO). -/
def MAX_T_BOARD : Fld := ⟨0x0D0, 0x630, 0, 16⟩
/-- THM.MAX_T_DIE (R378, RO). -/
def MAX_T_DIE : Fld := ⟨0x0D0, 0x634, 0, 16⟩
/-- THM.R_JC (R378, RO). -/
def R_JC : Fld := ⟨0x0D0, 0x638, 0, 16⟩
/-- THM.TAU_JC (R378, RO). -/
def TAU_JC : Fld := ⟨0x0D0, 0x638, 16, 16⟩
/-- THM.CNT_BROKEN (R378, RO). -/
def CNT_BROKEN : Fld := ⟨0x0D0, 0x680, 0, 32⟩
/-- THM.CNT_THROTTLE_FRAMES (R378, RO). -/
def CNT_THROTTLE_FRAMES : Fld := ⟨0x0D0, 0x684, 0, 32⟩
/-- THM.CNT_DIE_STEP (R378, RO). -/
def CNT_DIE_STEP : Fld := ⟨0x0D0, 0x688, 0, 32⟩
/-- THM.CNT_MON_FAIL (R378, RO). -/
def CNT_MON_FAIL : Fld := ⟨0x0D0, 0x68C, 0, 32⟩
end R.THM

/-! Fields of DRM (14_dram.md). -/
namespace R.DRM
/-- The page of DRM n (03 R67). -/
def page (n : Nat) : Nat := 0x0E0 + n
/-- DRM.FREQ_GO (R393, WO). -/
def FREQ_GO (n : Nat) : Fld := ⟨0x0E0 + n, 0x008, 0, 1⟩
/-- DRM.TARGET (R393, WO). -/
def TARGET (n : Nat) : Fld := ⟨0x0E0 + n, 0x008, 1, 1⟩
/-- DRM.SCRUB_NOW (R393, WO). -/
def SCRUB_NOW (n : Nat) : Fld := ⟨0x0E0 + n, 0x008, 2, 1⟩
/-- DRM.READY (R393, RO). -/
def READY (n : Nat) : Fld := ⟨0x0E0 + n, 0x00C, 0, 1⟩
/-- DRM.ACTIVE_SET (R393, RO). -/
def ACTIVE_SET (n : Nat) : Fld := ⟨0x0E0 + n, 0x00C, 1, 1⟩
/-- DRM.IN_SR (R393, RO). -/
def IN_SR (n : Nat) : Fld := ⟨0x0E0 + n, 0x00C, 2, 1⟩
/-- DRM.FAULT (R393, RO). -/
def st_FAULT (n : Nat) : Fld := ⟨0x0E0 + n, 0x00C, 3, 1⟩
/-- DRM.POSTPONED (R393, RO). -/
def POSTPONED (n : Nat) : Fld := ⟨0x0E0 + n, 0x00C, 4, 4⟩
/-- DRM.FREQ_BUSY (R393, RO). -/
def FREQ_BUSY (n : Nat) : Fld := ⟨0x0E0 + n, 0x00C, 8, 1⟩
/-- DRM.FREQ_REFUSED (R393, RO). -/
def FREQ_REFUSED (n : Nat) : Fld := ⟨0x0E0 + n, 0x00C, 9, 1⟩
/-- DRM.EVT [0] CE (R393). -/
def ev_CE (n : Nat) : Evt := ⟨0x0E0 + n, 0, false⟩
/-- DRM.EVT [1] UE (R393). -/
def ev_UE (n : Nat) : Evt := ⟨0x0E0 + n, 1, false⟩
/-- DRM.EVT [2] ALERT (R393). -/
def ev_ALERT (n : Nat) : Evt := ⟨0x0E0 + n, 2, false⟩
/-- DRM.EVT [3] FAULT (R393). -/
def ev_FAULT (n : Nat) : Evt := ⟨0x0E0 + n, 3, true⟩
/-- DRM.EVT [4] OOR (R393). -/
def ev_OOR (n : Nat) : Evt := ⟨0x0E0 + n, 4, false⟩
/-- DRM.EVT [5] FREQ_DONE (R393). -/
def ev_FREQ_DONE (n : Nat) : Evt := ⟨0x0E0 + n, 5, false⟩
/-- DRM.EVT [6] SCRUB_LATE (R393). -/
def ev_SCRUB_LATE (n : Nat) : Evt := ⟨0x0E0 + n, 6, true⟩
/-- DRM.EVT [7] UE_RATE (R393). -/
def ev_UE_RATE (n : Nat) : Evt := ⟨0x0E0 + n, 7, true⟩
/-- DRM.CHANNELS (R393, SH). -/
def CHANNELS (n : Nat) : Fld := ⟨0x0E0 + n, 0x040, 0, 2⟩
/-- DRM.WIDTH (R393, SH). -/
def WIDTH (n : Nat) : Fld := ⟨0x0E0 + n, 0x040, 2, 1⟩
/-- DRM.RANKS (R393, SH). -/
def RANKS (n : Nat) : Fld := ⟨0x0E0 + n, 0x040, 3, 1⟩
/-- DRM.DENSITY (R393, SH). -/
def DENSITY (n : Nat) : Fld := ⟨0x0E0 + n, 0x040, 4, 2⟩
/-- DRM.CA_PAR_EN (R393, SH). -/
def CA_PAR_EN (n : Nat) : Fld := ⟨0x0E0 + n, 0x040, 6, 1⟩
/-- DRM.WCRC_EN (R393, SH). -/
def WCRC_EN (n : Nat) : Fld := ⟨0x0E0 + n, 0x040, 7, 1⟩
/-- DRM.REF_2X (R393, SH). -/
def REF_2X (n : Nat) : Fld := ⟨0x0E0 + n, 0x040, 8, 1⟩
/-- DRM.SCRUB_HOURS (R393, SH). -/
def SCRUB_HOURS (n : Nat) : Fld := ⟨0x0E0 + n, 0x044, 0, 8⟩
/-- DRM.CAPACITY (R393, RO). -/
def CAPACITY (n : Nat) : Fld := ⟨0x0E0 + n, 0x600, 0, 64⟩
/-- DRM.UE_1S (R393, RO). -/
def UE_1S (n : Nat) : Fld := ⟨0x0E0 + n, 0x608, 0, 16⟩
/-- DRM.LAST_UE_ADDR (R393, RO). -/
def LAST_UE_ADDR (n : Nat) : Fld := ⟨0x0E0 + n, 0x60C, 0, 64⟩
/-- DRM.SCRUB_AGE (R393, RO). -/
def SCRUB_AGE (n : Nat) : Fld := ⟨0x0E0 + n, 0x614, 0, 32⟩
/-- DRM.BW (R393, RO). -/
def BW (n : Nat) : Fld := ⟨0x0E0 + n, 0x618, 0, 10⟩
/-- DRM.CNT_CE (R393, RO). -/
def CNT_CE (n : Nat) : Fld := ⟨0x0E0 + n, 0x680, 0, 32⟩
/-- DRM.CNT_UE (R393, RO). -/
def CNT_UE (n : Nat) : Fld := ⟨0x0E0 + n, 0x684, 0, 32⟩
/-- DRM.CNT_CA_PAR (R393, RO). -/
def CNT_CA_PAR (n : Nat) : Fld := ⟨0x0E0 + n, 0x688, 0, 32⟩
/-- DRM.CNT_WCRC (R393, RO). -/
def CNT_WCRC (n : Nat) : Fld := ⟨0x0E0 + n, 0x68C, 0, 32⟩
/-- DRM.CNT_REPLAY (R393, RO). -/
def CNT_REPLAY (n : Nat) : Fld := ⟨0x0E0 + n, 0x690, 0, 32⟩
/-- DRM.CNT_FWD (R393, RO). -/
def CNT_FWD (n : Nat) : Fld := ⟨0x0E0 + n, 0x694, 0, 32⟩
/-- DRM.CNT_RMW (R393, RO). -/
def CNT_RMW (n : Nat) : Fld := ⟨0x0E0 + n, 0x698, 0, 32⟩
/-- DRM.CNT_OOR (R393, RO). -/
def CNT_OOR (n : Nat) : Fld := ⟨0x0E0 + n, 0x69C, 0, 32⟩
/-- DRM.CNT_POSTPONE_MAX (R393, RO). -/
def CNT_POSTPONE_MAX (n : Nat) : Fld := ⟨0x0E0 + n, 0x6A0, 0, 32⟩
/-- DRM.CNT_SCRUB_CORR (R393, RO). -/
def CNT_SCRUB_CORR (n : Nat) : Fld := ⟨0x0E0 + n, 0x6A4, 0, 32⟩
end R.DRM

/-! Fields of AUD (15_audio.md). -/
namespace R.AUD
/-- The page of AUD (03 R67). -/
def page : Nat := 0x0F0
/-- AUD.RESYNC (R403, WO). -/
def RESYNC : Fld := ⟨0x0F0, 0x008, 0, 1⟩
/-- AUD.MUTE (R403, RW). -/
def MUTE : Fld := ⟨0x0F0, 0x008, 1, 1⟩
/-- AUD.RUNNING (R403, RO). -/
def RUNNING : Fld := ⟨0x0F0, 0x00C, 0, 1⟩
/-- AUD.OUT_CLK (R403, RO). -/
def OUT_CLK : Fld := ⟨0x0F0, 0x00C, 1, 1⟩
/-- AUD.ASRC_ACTIVE (R403, RO). -/
def ASRC_ACTIVE : Fld := ⟨0x0F0, 0x00C, 2, 1⟩
/-- AUD.MUTED (R403, RO). -/
def MUTED : Fld := ⟨0x0F0, 0x00C, 3, 1⟩
/-- AUD.AESI_LOCK (R403, RO). -/
def AESI_LOCK : Fld := ⟨0x0F0, 0x00C, 4, 2⟩
/-- AUD.TDM_CLK_OK (R403, RO). -/
def TDM_CLK_OK : Fld := ⟨0x0F0, 0x00C, 6, 1⟩
/-- AUD.WCLK_OK (R403, RO). -/
def WCLK_OK : Fld := ⟨0x0F0, 0x00C, 7, 1⟩
/-- AUD.EVT [0] CLK_LOST (R403). -/
def ev_CLK_LOST : Evt := ⟨0x0F0, 0, false⟩
/-- AUD.EVT [1] UNLOCKED (R403). -/
def ev_UNLOCKED : Evt := ⟨0x0F0, 1, true⟩
/-- AUD.EVT [2] SLIP (R403). -/
def ev_SLIP : Evt := ⟨0x0F0, 2, false⟩
/-- AUD.EVT [3] DELAY_CLAMP (R403). -/
def ev_DELAY_CLAMP : Evt := ⟨0x0F0, 3, true⟩
/-- AUD.EVT [4] DELAY_JUMP (R403). -/
def ev_DELAY_JUMP : Evt := ⟨0x0F0, 4, false⟩
/-- AUD.EVT [5] POISON (R403). -/
def ev_POISON : Evt := ⟨0x0F0, 5, false⟩
/-- AUD.EN (R403, SH). -/
def EN : Fld := ⟨0x0F0, 0x040, 0, 1⟩
/-- AUD.RATE_96 (R403, SH). -/
def RATE_96 : Fld := ⟨0x0F0, 0x040, 1, 1⟩
/-- AUD.OUT_CLK_SRC (R403, SH). -/
def OUT_CLK_SRC : Fld := ⟨0x0F0, 0x040, 2, 1⟩
/-- AUD.TDM_MASTER (R403, SH). -/
def TDM_MASTER : Fld := ⟨0x0F0, 0x040, 3, 1⟩
/-- AUD.FEED (R403, SH). -/
def FEED : Fld := ⟨0x0F0, 0x040, 4, 3⟩
/-- AUD.REF_LAYER (R403, SH). -/
def REF_LAYER : Fld := ⟨0x0F0, 0x040, 7, 4⟩
/-- AUD.ASRC_SRC (R403, SH). -/
def ASRC_SRC : Fld := ⟨0x0F0, 0x040, 11, 5⟩
/-- AUD.ASRC_EN (R403, SH). -/
def ASRC_EN : Fld := ⟨0x0F0, 0x040, 16, 1⟩
/-- AUD.OFFSET (R403, SH). -/
def OFFSET : Fld := ⟨0x0F0, 0x044, 0, 32⟩
/-- AUD.LIGHT_LEAD (R403, SH). -/
def LIGHT_LEAD : Fld := ⟨0x0F0, 0x048, 0, 20⟩
/-- AUD.DL_BASE (R403, SH). -/
def DL_BASE : Fld := ⟨0x0F0, 0x04C, 0, 64⟩
/-- AUD.DL_SIZE (R403, SH). -/
def DL_SIZE : Fld := ⟨0x0F0, 0x054, 0, 24⟩
/-- AUD.WS_INV (R403, SH). -/
def WS_INV : Fld := ⟨0x0F0, 0x058, 0, 1⟩
/-- AUD.WS_DELAY (R403, SH). -/
def WS_DELAY : Fld := ⟨0x0F0, 0x058, 1, 1⟩
/-- AUD.DELAY_SAMPLES (R403, RO). -/
def DELAY_SAMPLES : Fld := ⟨0x0F0, 0x600, 0, 18⟩
/-- AUD.M_US (R403, RO). -/
def M_US : Fld := ⟨0x0F0, 0x604, 0, 32⟩
/-- AUD.RATIO (R403, RO). -/
def RATIO : Fld := ⟨0x0F0, 0x608, 0, 32⟩
/-- AUD.CNT_SLIP_DROP (R403, RO). -/
def CNT_SLIP_DROP : Fld := ⟨0x0F0, 0x680, 0, 32⟩
/-- AUD.CNT_SLIP_REPEAT (R403, RO). -/
def CNT_SLIP_REPEAT : Fld := ⟨0x0F0, 0x684, 0, 32⟩
/-- AUD.CNT_CLK_LOST (R403, RO). -/
def CNT_CLK_LOST : Fld := ⟨0x0F0, 0x688, 0, 32⟩
/-- AUD.CNT_POISON (R403, RO). -/
def CNT_POISON : Fld := ⟨0x0F0, 0x68C, 0, 32⟩
/-- AUD.CNT_DELAY_JUMP (R403, RO). -/
def CNT_DELAY_JUMP : Fld := ⟨0x0F0, 0x690, 0, 32⟩
end R.AUD

/-! Fields of FW (16_startup_and_firmware.md). -/
namespace R.FW
/-- The page of FW (03 R67). -/
def page : Nat := 0x100
/-- FW.BISQUE_GO (R429, WO). -/
def BISQUE_GO : Fld := ⟨0x100, 0x008, 0, 1⟩
/-- FW.ARM (R429, WO). -/
def ARM : Fld := ⟨0x100, 0x008, 1, 1⟩
/-- FW.BOOT_GO (R429, WO). -/
def BOOT_GO : Fld := ⟨0x100, 0x008, 2, 1⟩
/-- FW.UPD_GO (R429, WO). -/
def UPD_GO : Fld := ⟨0x100, 0x008, 3, 1⟩
/-- FW.REVERT (R429, WO). -/
def REVERT : Fld := ⟨0x100, 0x008, 4, 1⟩
/-- FW.PEER_BOOT (R429, RW). -/
def PEER_BOOT : Fld := ⟨0x100, 0x008, 5, 1⟩
/-- FW.BOOT_ERR (R429, RO). -/
def BOOT_ERR : Fld := ⟨0x100, 0x00C, 0, 4⟩
/-- FW.UPD_STATE (R429, RO). -/
def UPD_STATE : Fld := ⟨0x100, 0x00C, 4, 3⟩
/-- FW.BANK (R429, RO). -/
def BANK : Fld := ⟨0x100, 0x00C, 7, 1⟩
/-- FW.GREEN (R429, RO). -/
def GREEN : Fld := ⟨0x100, 0x00C, 8, 1⟩
/-- FW.BOOT_BUSY (R429, RO). -/
def BOOT_BUSY : Fld := ⟨0x100, 0x00C, 9, 1⟩
/-- FW.ARM_REFUSED (R429, RO). -/
def ARM_REFUSED : Fld := ⟨0x100, 0x00C, 10, 1⟩
/-- FW.BOOT_REFUSED (R429, RO). -/
def BOOT_REFUSED : Fld := ⟨0x100, 0x00C, 11, 1⟩
/-- FW.UPD_REFUSED (R429, RO). -/
def UPD_REFUSED : Fld := ⟨0x100, 0x00C, 12, 1⟩
/-- FW.EVT [0] BOOT_DONE (R429). -/
def ev_BOOT_DONE : Evt := ⟨0x100, 0, false⟩
/-- FW.EVT [1] UPD_READY (R429). -/
def ev_UPD_READY : Evt := ⟨0x100, 1, false⟩
/-- FW.EVT [2] SWITCHED (R429). -/
def ev_SWITCHED : Evt := ⟨0x100, 2, false⟩
/-- FW.EVT [3] FIRED (R429). -/
def ev_FIRED : Evt := ⟨0x100, 3, false⟩
/-- FW.EVT [4] REVERTED (R429). -/
def ev_REVERTED : Evt := ⟨0x100, 4, false⟩
/-- FW.EVT [5] UPD_FAILED (R429). -/
def ev_UPD_FAILED : Evt := ⟨0x100, 5, false⟩
/-- FW.EVT [6] PEER_BOOTED (R429). -/
def ev_PEER_BOOTED : Evt := ⟨0x100, 6, false⟩
/-- FW.CONFIRM_SECS (R429, SH). -/
def CONFIRM_SECS : Fld := ⟨0x100, 0x040, 0, 10⟩
/-- FW.ACTIVATE (R429, SH). -/
def ACTIVATE : Fld := ⟨0x100, 0x040, 16, 1⟩
/-- FW.HEALTH (R429, RO). -/
def HEALTH : Fld := ⟨0x100, 0x600, 0, 32⟩
/-- FW.VERSION (R429, RO). -/
def VERSION : Fld := ⟨0x100, 0x604, 0, 32⟩
/-- FW.FALLBACK_VERSION (R429, RO). -/
def FALLBACK_VERSION : Fld := ⟨0x100, 0x608, 0, 32⟩
/-- FW.SETTINGS_VER (R429, RO). -/
def SETTINGS_VER : Fld := ⟨0x100, 0x60C, 0, 16⟩
/-- FW.BOOT_IDX (R429, RW). -/
def BOOT_IDX : Fld := ⟨0x100, 0x610, 0, 8⟩
/-- FW.BOOT_BASE (R429, RW). -/
def BOOT_BASE : Fld := ⟨0x100, 0x614, 0, 64⟩
/-- FW.BOOT_LEN (R429, RW). -/
def BOOT_LEN : Fld := ⟨0x100, 0x61C, 0, 21⟩
/-- FW.UPD_BASE (R429, RW). -/
def UPD_BASE : Fld := ⟨0x100, 0x620, 0, 64⟩
/-- FW.UPD_LEN (R429, RW). -/
def UPD_LEN : Fld := ⟨0x100, 0x628, 0, 24⟩
/-- FW.BISQUE_LEN (R429, RW). -/
def BISQUE_LEN : Fld := ⟨0x100, 0x62C, 0, 24⟩
/-- FW.ARM_AT_SEC (R429, RW). -/
def ARM_AT_SEC : Fld := ⟨0x100, 0x630, 0, 64⟩
/-- FW.ARM_AT_NS (R429, RW). -/
def ARM_AT_NS : Fld := ⟨0x100, 0x638, 0, 30⟩
/-- FW.CONFIRM_LEFT (R429, RO). -/
def CONFIRM_LEFT : Fld := ⟨0x100, 0x63C, 0, 10⟩
/-- FW.FUSE_CUST_KEY_SET (R429, RO). -/
def FUSE_CUST_KEY_SET : Fld := ⟨0x100, 0x640, 0, 1⟩
/-- FW.CNT_BOOT_SENT (R429, RO). -/
def CNT_BOOT_SENT : Fld := ⟨0x100, 0x680, 0, 32⟩
/-- FW.CNT_PEER_BOOT (R429, RO). -/
def CNT_PEER_BOOT : Fld := ⟨0x100, 0x684, 0, 32⟩
/-- FW.CNT_REVERT (R429, RO). -/
def CNT_REVERT : Fld := ⟨0x100, 0x688, 0, 32⟩
/-- FW.CNT_UPD_FAILED (R429, RO). -/
def CNT_UPD_FAILED : Fld := ⟨0x100, 0x68C, 0, 32⟩
end R.FW

end Sys2Proof.Machine
end

