-- ==== Sys2Proof/Machine/RegMap.lean ====
section
/-!
DEFINITION. The page map (03 R67) and, for every word of every page, which bits a write may change, how, and the word's reset
value, from the register tables of the spec's chapters; the tables of each page with their sizes (03 R64).
-/

namespace Sys2Proof.Machine

/-- The blocks of the page map (03 R67). -/
inductive Blk where
  | glb
  | evt
  | cmt
  | sch
  | clk
  | ref
  | ptp
  | tsq
  | tun
  | net
  | sdi
  | str
  | dec
  | lse
  | lyr
  | cmp
  | tg
  | scl
  | sag
  | map
  | glz
  | prv
  | coil
  | red
  | til
  | lsm
  | cor
  | lmp
  | sgp
  | prb
  | drp
  | loop
  | thm
  | phc
  | nvs
  | drm
  | aud
  | fw
deriving DecidableEq, Repr

/-- How a word of a page answers a write (00, 03 R62, R66). -/
inductive Cls where
  | ro
  | rw
  | sh
  | cnt
  | wo
deriving DecidableEq, Repr

/-- One word (or `cnt` words `stride` apart) of a page: the bits a write changes, the reset value, the class. -/
structure Row where
  off : Nat
  stride : Nat
  cnt : Nat
  mask : Nat
  rst : Nat
  cls : Cls
deriving DecidableEq, Repr

/-- How a table takes writes (03 R64): not at all, at the write, or into a pending copy that an apply puts in force. -/
inductive TabCls where
  | ro
  | now
  | pend
deriving DecidableEq, Repr


/-- The words of a GLB page. -/
def rowsGLB : List Row :=
  [⟨0x008, 0x0, 1, 0x0, 0x0, .wo⟩,
   ⟨0x00C, 0x0, 1, 0x0, 0x0, .ro⟩,
   ⟨0x040, 0x0, 1, 0x3FBFFF, 0x0, .sh⟩,
   ⟨0x600, 0x0, 1, 0x0, 0x0, .ro⟩,
   ⟨0x604, 0x0, 1, 0x0, 0x0, .ro⟩,
   ⟨0x608, 0x0, 1, 0x0, 0x100, .ro⟩,
   ⟨0x60C, 0x0, 1, 0x0, 0x0, .ro⟩,
   ⟨0x610, 0x0, 1, 0x0, 0x0, .ro⟩,
   ⟨0x614, 0x0, 1, 0x0, 0x0, .ro⟩,
   ⟨0x618, 0x0, 1, 0x0, 0x0, .ro⟩,
   ⟨0x680, 0x0, 1, 0x0, 0x0, .cnt⟩,
   ⟨0x684, 0x0, 1, 0x0, 0x0, .cnt⟩,
   ⟨0x688, 0x0, 1, 0x0, 0x0, .cnt⟩]

/-- The words of a EVT page. -/
def rowsEVT : List Row :=
  [⟨0x008, 0x0, 1, 0x3FF, 0x0, .rw⟩,
   ⟨0x00C, 0x0, 1, 0x0, 0x0, .ro⟩,
   ⟨0x600, 0x4, 9, 0x0, 0x0, .ro⟩,
   ⟨0x640, 0x0, 1, 0x0, 0x0, .ro⟩,
   ⟨0x644, 0x0, 1, 0x0, 0x0, .ro⟩,
   ⟨0x648, 0x0, 1, 0x0, 0x0, .ro⟩,
   ⟨0x64C, 0x0, 1, 0x0, 0x0, .ro⟩,
   ⟨0x650, 0x0, 1, 0x0, 0x0, .wo⟩,
   ⟨0x680, 0x0, 1, 0x0, 0x0, .cnt⟩]

/-- The words of a CMT page. -/
def rowsCMT : List Row :=
  [⟨0x008, 0x0, 1, 0x1, 0x0, .rw⟩,
   ⟨0x00C, 0x0, 1, 0x0, 0x0, .ro⟩,
   ⟨0x600, 0x0, 1, 0xFFFFFFFF, 0x0, .rw⟩,
   ⟨0x604, 0x0, 1, 0xFFFFFFFF, 0x0, .rw⟩,
   ⟨0x608, 0x0, 1, 0x0, 0x0, .ro⟩,
   ⟨0x60C, 0x0, 1, 0x0, 0x0, .ro⟩,
   ⟨0x610, 0x0, 1, 0x0, 0x0, .ro⟩,
   ⟨0x614, 0x0, 1, 0x0, 0x0, .ro⟩,
   ⟨0x618, 0x0, 1, 0x0, 0x0, .ro⟩,
   ⟨0x61C, 0x0, 1, 0x0, 0x0, .ro⟩,
   ⟨0x620, 0x0, 1, 0xFFFFFFFF, 0x0, .rw⟩,
   ⟨0x624, 0x0, 1, 0xFFFFFFFF, 0x0, .rw⟩,
   ⟨0x680, 0x0, 1, 0x0, 0x0, .cnt⟩,
   ⟨0x684, 0x0, 1, 0x0, 0x0, .cnt⟩,
   ⟨0x688, 0x0, 1, 0x0, 0x0, .cnt⟩,
   ⟨0x68C, 0x0, 1, 0x0, 0x0, .cnt⟩]

/-- The words of a SCH page. -/
def rowsSCH : List Row :=
  [⟨0x008, 0x0, 1, 0x1, 0x0, .rw⟩,
   ⟨0x00C, 0x0, 1, 0x0, 0x80, .ro⟩,
   ⟨0x040, 0x0, 1, 0x3FF7, 0x280, .sh⟩,
   ⟨0x044, 0x0, 1, 0xFFFFFFFF, 0x1, .sh⟩,
   ⟨0x048, 0x0, 1, 0xFFFFFFFF, 0x0, .sh⟩,
   ⟨0x04C, 0x0, 1, 0x3FF03FF, 0x0, .sh⟩,
   ⟨0x050, 0x0, 1, 0x3FF03FF, 0x0, .sh⟩,
   ⟨0x054, 0x0, 1, 0x3FF03FF, 0x0, .sh⟩,
   ⟨0x058, 0x0, 1, 0x3FF, 0x0, .sh⟩,
   ⟨0x05C, 0x4, 8, 0xFFFFF7, 0x0, .sh⟩,
   ⟨0x080, 0x8, 8, 0xFFFFFF3F, 0x10000, .sh⟩,
   ⟨0x084, 0x8, 8, 0xFFFFFFFF, 0x0, .sh⟩,
   ⟨0x600, 0x0, 1, 0x0, 0x0, .ro⟩,
   ⟨0x604, 0x4, 8, 0x0, 0x0, .ro⟩,
   ⟨0x680, 0x0, 1, 0x0, 0x0, .cnt⟩,
   ⟨0x684, 0x0, 1, 0x0, 0x0, .cnt⟩,
   ⟨0x688, 0x0, 1, 0x0, 0x0, .cnt⟩,
   ⟨0x68C, 0x0, 1, 0x0, 0x0, .cnt⟩]

/-- The words of a CLK page. -/
def rowsCLK : List Row :=
  [⟨0x008, 0x0, 1, 0x3, 0x0, .rw⟩,
   ⟨0x00C, 0x0, 1, 0x0, 0x0, .ro⟩,
   ⟨0x040, 0x0, 1, 0x7FFFF, 0xEA60, .sh⟩,
   ⟨0x044, 0x0, 1, 0x17777, 0x0, .sh⟩,
   ⟨0x048, 0x0, 1, 0xFFFFFFFF, 0x0, .sh⟩,
   ⟨0x04C, 0x0, 1, 0xFFFFF, 0x64, .sh⟩,
   ⟨0x050, 0x0, 1, 0xFFFFF, 0xA03C, .sh⟩,
   ⟨0x054, 0x0, 1, 0x7F, 0x64, .sh⟩,
   ⟨0x058, 0x0, 1, 0x3FF, 0xA, .sh⟩,
   ⟨0x600, 0x0, 1, 0x0, 0x0, .ro⟩,
   ⟨0x604, 0x0, 1, 0x0, 0x0, .ro⟩,
   ⟨0x608, 0x0, 1, 0x0, 0x0, .ro⟩,
   ⟨0x60C, 0x0, 1, 0x0, 0x0, .ro⟩,
   ⟨0x610, 0x0, 1, 0xFFFFFFFF, 0x0, .rw⟩,
   ⟨0x614, 0x0, 1, 0xFFFFFFFF, 0x0, .rw⟩,
   ⟨0x618, 0x0, 1, 0x3FFFFFFF, 0x0, .rw⟩,
   ⟨0x61C, 0x0, 1, 0x0, 0x0, .ro⟩,
   ⟨0x620, 0x0, 1, 0x0, 0x0, .ro⟩,
   ⟨0x624, 0x0, 1, 0x0, 0x0, .ro⟩,
   ⟨0x628, 0x0, 1, 0x0, 0x0, .ro⟩,
   ⟨0x62C, 0x4, 4, 0x0, 0x7FFFFFFF, .ro⟩,
   ⟨0x680, 0x0, 1, 0x0, 0x0, .cnt⟩,
   ⟨0x684, 0x0, 1, 0x0, 0x0, .cnt⟩,
   ⟨0x688, 0x0, 1, 0x0, 0x0, .cnt⟩] ++
  [⟨0x68C, 0x0, 1, 0x0, 0x0, .cnt⟩,
   ⟨0x690, 0x0, 1, 0x0, 0x0, .cnt⟩]

/-- The words of a REF page. -/
def rowsREF : List Row :=
  [⟨0x00C, 0x0, 1, 0x0, 0x0, .ro⟩,
   ⟨0x040, 0x0, 1, 0x1F, 0x0, .sh⟩,
   ⟨0x044, 0x0, 1, 0x1F, 0x0, .sh⟩,
   ⟨0x048, 0x0, 1, 0x3, 0x0, .sh⟩,
   ⟨0x04C, 0x0, 1, 0xFFFFFFFF, 0x0, .sh⟩,
   ⟨0x050, 0x0, 1, 0xFFFFFFFF, 0x0, .sh⟩,
   ⟨0x600, 0x0, 1, 0x0, 0x0, .ro⟩,
   ⟨0x604, 0x0, 1, 0x0, 0x0, .ro⟩,
   ⟨0x608, 0x0, 1, 0x0, 0x0, .ro⟩,
   ⟨0x60C, 0x0, 1, 0x0, 0x0, .ro⟩,
   ⟨0x610, 0x0, 1, 0x0, 0x0, .ro⟩,
   ⟨0x680, 0x0, 1, 0x0, 0x0, .cnt⟩,
   ⟨0x684, 0x0, 1, 0x0, 0x0, .cnt⟩,
   ⟨0x688, 0x0, 1, 0x0, 0x0, .cnt⟩,
   ⟨0x68C, 0x0, 1, 0x0, 0x0, .cnt⟩,
   ⟨0x690, 0x0, 1, 0x0, 0x0, .cnt⟩]

/-- The words of a PTP page. -/
def rowsPTP : List Row :=
  [⟨0x00C, 0x0, 1, 0x0, 0x0, .ro⟩,
   ⟨0x040, 0x0, 1, 0x1FF0F, 0x7F00, .sh⟩,
   ⟨0x044, 0x0, 1, 0xFF07F7, 0xF80333, .sh⟩,
   ⟨0x048, 0x0, 1, 0xFFFFFFFF, 0x0, .sh⟩,
   ⟨0x04C, 0x0, 1, 0xFFFF, 0x0, .sh⟩,
   ⟨0x050, 0x0, 1, 0xFFFFFFFF, 0x0, .sh⟩,
   ⟨0x600, 0x0, 1, 0x0, 0x0, .ro⟩,
   ⟨0x604, 0x0, 1, 0x0, 0x0, .ro⟩,
   ⟨0x608, 0x0, 1, 0x0, 0x0, .ro⟩,
   ⟨0x60C, 0x0, 1, 0x0, 0x0, .ro⟩,
   ⟨0x610, 0x0, 1, 0x0, 0x0, .ro⟩,
   ⟨0x614, 0x0, 1, 0x0, 0x0, .ro⟩,
   ⟨0x680, 0x0, 1, 0x0, 0x0, .cnt⟩,
   ⟨0x684, 0x0, 1, 0x0, 0x0, .cnt⟩,
   ⟨0x688, 0x0, 1, 0x0, 0x0, .cnt⟩,
   ⟨0x68C, 0x0, 1, 0x0, 0x0, .cnt⟩]

/-- The words of a TSQ page. -/
def rowsTSQ : List Row :=
  [⟨0x008, 0x0, 1, 0x0, 0x0, .wo⟩,
   ⟨0x00C, 0x0, 1, 0x0, 0x0, .ro⟩,
   ⟨0x600, 0x0, 1, 0x0, 0x0, .ro⟩,
   ⟨0x604, 0x0, 1, 0x0, 0x0, .ro⟩,
   ⟨0x608, 0x0, 1, 0x0, 0x0, .ro⟩,
   ⟨0x60C, 0x0, 1, 0x0, 0x0, .ro⟩,
   ⟨0x610, 0x0, 1, 0x0, 0x0, .ro⟩,
   ⟨0x614, 0x0, 1, 0x0, 0x0, .wo⟩,
   ⟨0x680, 0x0, 1, 0x0, 0x0, .cnt⟩]

/-- The words of a TUN page. -/
def rowsTUN : List Row :=
  [⟨0x008, 0x0, 1, 0x0, 0x0, .wo⟩,
   ⟨0x00C, 0x0, 1, 0x0, 0x0, .ro⟩,
   ⟨0x600, 0x0, 1, 0x3FFF, 0x0, .rw⟩,
   ⟨0x604, 0x0, 1, 0xFFFFFF, 0x0, .rw⟩,
   ⟨0x608, 0x0, 1, 0xFFFFFFFF, 0x0, .rw⟩,
   ⟨0x60C, 0x0, 1, 0x0, 0x0, .wo⟩,
   ⟨0x610, 0x0, 1, 0x0, 0x0, .ro⟩,
   ⟨0x614, 0x0, 1, 0x0, 0x0, .ro⟩,
   ⟨0x618, 0x0, 1, 0x0, 0x0, .wo⟩,
   ⟨0x680, 0x0, 1, 0x0, 0x0, .cnt⟩,
   ⟨0x684, 0x0, 1, 0x0, 0x0, .cnt⟩]

/-- The words of a NET page. -/
def rowsNET : List Row :=
  [⟨0x008, 0x0, 1, 0x3, 0x0, .rw⟩,
   ⟨0x00C, 0x0, 1, 0x0, 0x0, .ro⟩,
   ⟨0x040, 0x0, 1, 0x1F, 0x10, .sh⟩,
   ⟨0x044, 0x0, 1, 0xFFFFFFFF, 0x0, .sh⟩,
   ⟨0x048, 0x0, 1, 0xFFFF, 0x0, .sh⟩,
   ⟨0x04C, 0x0, 1, 0xFFFFFFFF, 0x0, .sh⟩,
   ⟨0x050, 0x0, 1, 0x3F, 0x18, .sh⟩,
   ⟨0x054, 0x0, 1, 0xFFFFFFFF, 0x0, .sh⟩,
   ⟨0x058, 0x0, 1, 0xFFFF, 0x0, .sh⟩,
   ⟨0x05C, 0x0, 1, 0xFF0F, 0xA02, .sh⟩,
   ⟨0x600, 0x0, 1, 0xFFFFFFFF, 0x0, .rw⟩,
   ⟨0x604, 0x0, 1, 0xFFFFFFFF, 0x0, .rw⟩,
   ⟨0x608, 0x0, 1, 0xFF, 0x0, .rw⟩,
   ⟨0x60C, 0x0, 1, 0x0, 0x0, .ro⟩,
   ⟨0x610, 0x0, 1, 0xFFFFFFFF, 0x0, .rw⟩,
   ⟨0x614, 0x0, 1, 0xFFFFFFFF, 0x0, .rw⟩,
   ⟨0x618, 0x0, 1, 0xFF, 0x0, .rw⟩,
   ⟨0x61C, 0x0, 1, 0x0, 0x0, .ro⟩,
   ⟨0x680, 0x0, 1, 0x0, 0x0, .cnt⟩,
   ⟨0x684, 0x0, 1, 0x0, 0x0, .cnt⟩,
   ⟨0x688, 0x0, 1, 0x0, 0x0, .cnt⟩,
   ⟨0x68C, 0x0, 1, 0x0, 0x0, .cnt⟩,
   ⟨0x690, 0x0, 1, 0x0, 0x0, .cnt⟩,
   ⟨0x694, 0x0, 1, 0x0, 0x0, .cnt⟩] ++
  [⟨0x698, 0x0, 1, 0x0, 0x0, .cnt⟩,
   ⟨0x69C, 0x0, 1, 0x0, 0x0, .cnt⟩,
   ⟨0x6A0, 0x0, 1, 0x0, 0x0, .cnt⟩]

/-- The words of a SDI page. -/
def rowsSDI : List Row :=
  [⟨0x008, 0x0, 1, 0x0, 0x0, .wo⟩,
   ⟨0x00C, 0x0, 1, 0x0, 0x0, .ro⟩,
   ⟨0x040, 0x0, 1, 0x1F, 0x0, .sh⟩,
   ⟨0x044, 0x0, 1, 0x3FFF3FFF, 0x0, .sh⟩,
   ⟨0x048, 0x0, 1, 0x3F, 0x0, .sh⟩,
   ⟨0x04C, 0x0, 1, 0xFFFFFFFF, 0x3E80064, .sh⟩,
   ⟨0x050, 0x0, 1, 0xFFFFFFFF, 0x0, .sh⟩,
   ⟨0x054, 0x0, 1, 0xFFFFFFFF, 0x0, .sh⟩,
   ⟨0x058, 0x0, 1, 0xFFFFFF, 0x0, .sh⟩,
   ⟨0x05C, 0x0, 1, 0xF, 0x3, .sh⟩,
   ⟨0x600, 0x0, 1, 0x0, 0x0, .ro⟩,
   ⟨0x604, 0x0, 1, 0x0, 0x0, .ro⟩,
   ⟨0x680, 0x0, 1, 0x0, 0x0, .cnt⟩,
   ⟨0x684, 0x0, 1, 0x0, 0x0, .cnt⟩,
   ⟨0x688, 0x0, 1, 0x0, 0x0, .cnt⟩,
   ⟨0x68C, 0x0, 1, 0x0, 0x0, .cnt⟩]

/-- The words of a STR page. -/
def rowsSTR : List Row :=
  [⟨0x008, 0x0, 1, 0x0, 0x0, .wo⟩,
   ⟨0x00C, 0x0, 1, 0x0, 0x0, .ro⟩,
   ⟨0x040, 0x0, 1, 0x7FFFF, 0x58000, .sh⟩,
   ⟨0x044, 0x0, 1, 0xFFFFFFFF, 0x0, .sh⟩,
   ⟨0x048, 0x0, 1, 0xFFFFFFFF, 0x0, .sh⟩,
   ⟨0x04C, 0x0, 1, 0xFFFFFFFF, 0x0, .sh⟩,
   ⟨0x050, 0x0, 1, 0xFFFFFFFF, 0x0, .sh⟩,
   ⟨0x054, 0x0, 1, 0xFFFFFFFF, 0x0, .sh⟩,
   ⟨0x058, 0x0, 1, 0xFFF, 0x30C, .sh⟩,
   ⟨0x05C, 0x0, 1, 0xFFFFFFFF, 0x0, .sh⟩,
   ⟨0x060, 0x0, 1, 0xFFFFFFFF, 0x0, .sh⟩,
   ⟨0x064, 0x0, 1, 0xFFFFFF, 0x0, .sh⟩,
   ⟨0x068, 0x0, 1, 0x3FFF3FFF, 0x0, .sh⟩,
   ⟨0x06C, 0x0, 1, 0x7FF, 0x4, .sh⟩,
   ⟨0x070, 0x0, 1, 0x7F, 0x1, .sh⟩,
   ⟨0x074, 0x0, 1, 0xFFFFFFFF, 0x3E80064, .sh⟩,
   ⟨0x600, 0x0, 1, 0x0, 0x0, .ro⟩,
   ⟨0x604, 0x0, 1, 0x0, 0x0, .ro⟩,
   ⟨0x608, 0x0, 1, 0x0, 0x0, .ro⟩,
   ⟨0x680, 0x0, 1, 0x0, 0x0, .cnt⟩,
   ⟨0x684, 0x0, 1, 0x0, 0x0, .cnt⟩,
   ⟨0x688, 0x0, 1, 0x0, 0x0, .cnt⟩,
   ⟨0x68C, 0x0, 1, 0x0, 0x0, .cnt⟩,
   ⟨0x690, 0x0, 1, 0x0, 0x0, .cnt⟩] ++
  [⟨0x694, 0x0, 1, 0x0, 0x0, .cnt⟩,
   ⟨0x698, 0x0, 1, 0x0, 0x0, .cnt⟩,
   ⟨0x69C, 0x0, 1, 0x0, 0x0, .cnt⟩,
   ⟨0x6A0, 0x0, 1, 0x0, 0x0, .cnt⟩]

/-- The words of a DEC page. -/
def rowsDEC : List Row :=
  [⟨0x008, 0x0, 1, 0x0, 0x0, .wo⟩,
   ⟨0x00C, 0x0, 1, 0x0, 0x0, .ro⟩,
   ⟨0x040, 0x20, 16, 0xFFFFFF, 0x40019F, .sh⟩,
   ⟨0x044, 0x20, 16, 0x3FFF3FFF, 0x0, .sh⟩,
   ⟨0x048, 0x20, 16, 0xFFFFFFFF, 0x0, .sh⟩,
   ⟨0x04C, 0x20, 16, 0xFFFFFFFF, 0x0, .sh⟩,
   ⟨0x050, 0x20, 16, 0xFFFFFF, 0x0, .sh⟩,
   ⟨0x054, 0x20, 16, 0xFFFFFFFF, 0x0, .sh⟩,
   ⟨0x058, 0x20, 16, 0xFFFFFFFF, 0x0, .sh⟩,
   ⟨0x05C, 0x20, 16, 0xFFFFFF, 0x0, .sh⟩,
   ⟨0x640, 0x18, 16, 0x0, 0x0, .ro⟩,
   ⟨0x644, 0x18, 16, 0x0, 0x0, .ro⟩,
   ⟨0x648, 0x18, 16, 0x0, 0x0, .cnt⟩,
   ⟨0x64C, 0x18, 16, 0x0, 0x0, .cnt⟩,
   ⟨0x650, 0x18, 16, 0x0, 0x0, .cnt⟩,
   ⟨0x654, 0x18, 16, 0x0, 0x0, .cnt⟩,
   ⟨0x7C0, 0x0, 1, 0x0, 0x0, .ro⟩,
   ⟨0x7C4, 0x0, 1, 0x0, 0x0, .ro⟩,
   ⟨0x7C8, 0x0, 1, 0x0, 0x0, .ro⟩,
   ⟨0x7CC, 0x0, 1, 0x0, 0x0, .cnt⟩,
   ⟨0x7D0, 0x0, 1, 0x0, 0x0, .cnt⟩,
   ⟨0x7D4, 0x0, 1, 0x0, 0x0, .cnt⟩,
   ⟨0x7D8, 0x0, 1, 0x0, 0x0, .cnt⟩,
   ⟨0x7DC, 0x0, 1, 0x0, 0x0, .cnt⟩] ++
  [⟨0x7E0, 0x0, 1, 0x0, 0x0, .cnt⟩]

/-- The words of a LSE page. -/
def rowsLSE : List Row :=
  [⟨0x008, 0x0, 1, 0x1, 0x1, .rw⟩,
   ⟨0x600, 0x0, 1, 0x0, 0x0, .ro⟩,
   ⟨0x604, 0x0, 1, 0x0, 0x0, .ro⟩,
   ⟨0x608, 0x0, 1, 0x0, 0x0, .ro⟩,
   ⟨0x60C, 0x0, 1, 0x0, 0x0, .ro⟩,
   ⟨0x610, 0x0, 1, 0x0, 0x0, .ro⟩,
   ⟨0x614, 0x0, 1, 0x0, 0x0, .ro⟩,
   ⟨0x680, 0x0, 1, 0x0, 0x0, .cnt⟩]

/-- The words of a LYR page. -/
def rowsLYR : List Row :=
  [⟨0x00C, 0x0, 1, 0x0, 0x0, .ro⟩,
   ⟨0x040, 0x0, 1, 0x3FFFF7, 0x114000, .sh⟩,
   ⟨0x044, 0x0, 1, 0xFFFFF, 0x0, .sh⟩,
   ⟨0x048, 0x0, 1, 0xFFFFF, 0x0, .sh⟩,
   ⟨0x04C, 0x0, 1, 0xFFFFF, 0x0, .sh⟩,
   ⟨0x050, 0x0, 1, 0x71FFF, 0x1000, .sh⟩,
   ⟨0x054, 0x0, 1, 0xFFFFFFFF, 0x3E80064, .sh⟩,
   ⟨0x058, 0x0, 1, 0xFFFFFFFF, 0x0, .sh⟩,
   ⟨0x05C, 0x0, 1, 0xFFFFFFFF, 0x0, .sh⟩,
   ⟨0x060, 0x0, 1, 0xFFFFFF, 0x0, .sh⟩,
   ⟨0x064, 0x0, 1, 0xFFFFFF, 0x0, .sh⟩,
   ⟨0x068, 0x0, 1, 0x3FFF3FFF, 0x0, .sh⟩,
   ⟨0x080, 0x20, 8, 0x1FFF001F, 0x10000000, .sh⟩,
   ⟨0x084, 0x20, 8, 0x3FFF3FFF, 0x0, .sh⟩,
   ⟨0x088, 0x20, 8, 0x3FFF3FFF, 0x0, .sh⟩,
   ⟨0x08C, 0x20, 8, 0x3FFF3FFF, 0x0, .sh⟩,
   ⟨0x090, 0x20, 8, 0x3FFF3FFF, 0x0, .sh⟩,
   ⟨0x094, 0x20, 8, 0xFFFFFFFF, 0x0, .sh⟩,
   ⟨0x098, 0x20, 8, 0xFFFFFFFF, 0x0, .sh⟩,
   ⟨0x600, 0x0, 1, 0x0, 0x0, .wo⟩,
   ⟨0x604, 0x0, 1, 0x0, 0x0, .ro⟩,
   ⟨0x608, 0x0, 1, 0x0, 0x0, .ro⟩,
   ⟨0x680, 0x0, 1, 0x0, 0x0, .cnt⟩,
   ⟨0x684, 0x0, 1, 0x0, 0x0, .cnt⟩] ++
  [⟨0x688, 0x0, 1, 0x0, 0x0, .cnt⟩,
   ⟨0x68C, 0x0, 1, 0x0, 0x0, .cnt⟩]

/-- The words of a CMP page. -/
def rowsCMP : List Row :=
  [⟨0x008, 0x0, 1, 0x1, 0x0, .rw⟩,
   ⟨0x00C, 0x0, 1, 0x0, 0x0, .ro⟩,
   ⟨0x040, 0x0, 1, 0x3FFF3FFF, 0x43F077F, .sh⟩,
   ⟨0x044, 0x0, 1, 0xFFFF, 0x3E8, .sh⟩,
   ⟨0x048, 0xC, 8, 0xFFFFF, 0x0, .sh⟩,
   ⟨0x04C, 0xC, 8, 0xFFFFF, 0x0, .sh⟩,
   ⟨0x050, 0xC, 8, 0xFFFFF, 0x0, .sh⟩,
   ⟨0x600, 0x0, 1, 0x0, 0x0, .ro⟩,
   ⟨0x604, 0x0, 1, 0x0, 0x0, .ro⟩,
   ⟨0x680, 0x0, 1, 0x0, 0x0, .cnt⟩,
   ⟨0x684, 0x0, 1, 0x0, 0x0, .cnt⟩,
   ⟨0x688, 0x0, 1, 0x0, 0x0, .cnt⟩]

/-- The words of a TG page. -/
def rowsTG : List Row :=
  [⟨0x00C, 0x0, 1, 0x0, 0x0, .ro⟩,
   ⟨0x040, 0x0, 1, 0x7FFF, 0x465, .sh⟩,
   ⟨0x044, 0x0, 1, 0xFF7FFF, 0x100000, .sh⟩,
   ⟨0x048, 0x0, 1, 0x3FFF3FFF, 0x437077F, .sh⟩,
   ⟨0x04C, 0x0, 1, 0x7FFFF, 0xEA60, .sh⟩,
   ⟨0x050, 0x0, 1, 0x3FFF3FFF, 0x0, .sh⟩,
   ⟨0x054, 0x0, 1, 0x3FFF3FFF, 0x437077F, .sh⟩,
   ⟨0x058, 0x0, 1, 0xFFFFFFFF, 0x0, .sh⟩,
   ⟨0x05C, 0x0, 1, 0xFFFFFFFF, 0x0, .sh⟩,
   ⟨0x060, 0x0, 1, 0xFFFFFF, 0x0, .sh⟩,
   ⟨0x064, 0x0, 1, 0x7FFF, 0x898, .sh⟩,
   ⟨0x600, 0x0, 1, 0x0, 0x0, .ro⟩,
   ⟨0x680, 0x0, 1, 0x0, 0x0, .cnt⟩,
   ⟨0x684, 0x0, 1, 0x0, 0x0, .cnt⟩,
   ⟨0x688, 0x0, 1, 0x0, 0x0, .cnt⟩]

/-- The words of a SCL page. -/
def rowsSCL : List Row :=
  [⟨0x00C, 0x0, 1, 0x0, 0x0, .ro⟩,
   ⟨0x040, 0x0, 1, 0x3, 0x0, .sh⟩,
   ⟨0x600, 0x0, 1, 0x0, 0x0, .ro⟩,
   ⟨0x680, 0x0, 1, 0x0, 0x0, .cnt⟩]

/-- The words of a SAG page. -/
def rowsSAG : List Row :=
  [⟨0x008, 0x0, 1, 0x0, 0x0, .wo⟩,
   ⟨0x00C, 0x0, 1, 0x0, 0x0, .ro⟩,
   ⟨0x040, 0x0, 1, 0xFFFFFFFF, 0x0, .sh⟩,
   ⟨0x044, 0x0, 1, 0xFFFFFFFF, 0x0, .sh⟩,
   ⟨0x048, 0x0, 1, 0xFFFFFF, 0x0, .sh⟩,
   ⟨0x600, 0x0, 1, 0x0, 0x0, .ro⟩,
   ⟨0x604, 0x4, 8, 0x0, 0x0, .ro⟩,
   ⟨0x680, 0x0, 1, 0x0, 0x0, .cnt⟩,
   ⟨0x684, 0x0, 1, 0x0, 0x0, .cnt⟩,
   ⟨0x688, 0x0, 1, 0x0, 0x0, .cnt⟩,
   ⟨0x68C, 0x0, 1, 0x0, 0x0, .cnt⟩]

/-- The words of a MAP page. -/
def rowsMAP : List Row :=
  [⟨0x008, 0x0, 1, 0x0, 0x0, .wo⟩,
   ⟨0x00C, 0x0, 1, 0x0, 0x0, .ro⟩,
   ⟨0x040, 0x0, 1, 0xFFFF, 0x0, .sh⟩,
   ⟨0x044, 0x0, 1, 0xFFFFFFFF, 0x0, .sh⟩,
   ⟨0x048, 0x0, 1, 0xFFFFFFFF, 0x0, .sh⟩,
   ⟨0x04C, 0x0, 1, 0xFFFFFF, 0x0, .sh⟩,
   ⟨0x600, 0x0, 1, 0x0, 0x0, .ro⟩,
   ⟨0x604, 0x0, 1, 0x0, 0x0, .ro⟩,
   ⟨0x608, 0x0, 1, 0x0, 0x0, .ro⟩,
   ⟨0x60C, 0x0, 1, 0x0, 0x0, .ro⟩,
   ⟨0x610, 0x4, 16, 0x0, 0x0, .ro⟩,
   ⟨0x650, 0x0, 1, 0x0, 0x0, .ro⟩,
   ⟨0x680, 0x4, 16, 0x0, 0x0, .cnt⟩,
   ⟨0x6C0, 0x0, 1, 0x0, 0x0, .cnt⟩]

/-- The words of a GLZ page. -/
def rowsGLZ : List Row :=
  [⟨0x00C, 0x0, 1, 0x0, 0x0, .ro⟩,
   ⟨0x600, 0x0, 1, 0x0, 0x0, .ro⟩,
   ⟨0x680, 0x0, 1, 0x0, 0x0, .cnt⟩,
   ⟨0x684, 0x0, 1, 0x0, 0x0, .cnt⟩,
   ⟨0x688, 0x0, 1, 0x0, 0x0, .cnt⟩,
   ⟨0x68C, 0x0, 1, 0x0, 0x0, .cnt⟩]

/-- The words of a PRV page. -/
def rowsPRV : List Row :=
  [⟨0x00C, 0x0, 1, 0x0, 0x0, .ro⟩,
   ⟨0x040, 0x0, 1, 0x1FFF, 0x0, .sh⟩,
   ⟨0x044, 0x0, 1, 0xFFFFFFFF, 0x0, .sh⟩,
   ⟨0x048, 0x0, 1, 0xFFFFFFFF, 0x0, .sh⟩,
   ⟨0x04C, 0x0, 1, 0x3F7F, 0x2260, .sh⟩,
   ⟨0x050, 0x0, 1, 0xFFFF, 0x0, .sh⟩,
   ⟨0x054, 0x0, 1, 0xFFFFFFFF, 0x0, .sh⟩,
   ⟨0x058, 0x0, 1, 0x7FF, 0x4B0, .sh⟩,
   ⟨0x05C, 0x0, 1, 0xFFFFFFFF, 0x3E80064, .sh⟩,
   ⟨0x680, 0x0, 1, 0x0, 0x0, .cnt⟩,
   ⟨0x684, 0x0, 1, 0x0, 0x0, .cnt⟩,
   ⟨0x688, 0x0, 1, 0x0, 0x0, .cnt⟩,
   ⟨0x68C, 0x0, 1, 0x0, 0x0, .cnt⟩]

/-- The words of a COIL page. -/
def rowsCOIL : List Row :=
  [⟨0x008, 0x0, 1, 0xFF007F, 0xA0000, .rw⟩,
   ⟨0x00C, 0x0, 1, 0x0, 0x30, .ro⟩,
   ⟨0x040, 0x0, 1, 0x1, 0x0, .sh⟩,
   ⟨0x044, 0x0, 1, 0x1F3F0F, 0x83304, .sh⟩,
   ⟨0x048, 0x0, 1, 0x3FFF3FFF, 0x1, .sh⟩,
   ⟨0x04C, 0x0, 1, 0x3FFFFFF, 0x12C0000, .sh⟩,
   ⟨0x600, 0x0, 1, 0x0, 0x0, .ro⟩,
   ⟨0x604, 0x0, 1, 0x0, 0x0, .ro⟩,
   ⟨0x608, 0x0, 1, 0x0, 0x0, .ro⟩,
   ⟨0x60C, 0x0, 1, 0x0, 0x0, .ro⟩,
   ⟨0x610, 0x0, 1, 0x0, 0x0, .ro⟩,
   ⟨0x614, 0x0, 1, 0x0, 0x0, .ro⟩,
   ⟨0x618, 0x0, 1, 0x0, 0x0, .ro⟩,
   ⟨0x680, 0x0, 1, 0x0, 0x0, .cnt⟩,
   ⟨0x684, 0x0, 1, 0x0, 0x0, .cnt⟩,
   ⟨0x688, 0x0, 1, 0x0, 0x0, .cnt⟩,
   ⟨0x68C, 0x0, 1, 0x0, 0x0, .cnt⟩,
   ⟨0x690, 0x0, 1, 0x0, 0x0, .cnt⟩,
   ⟨0x694, 0x0, 1, 0x0, 0x0, .cnt⟩,
   ⟨0x698, 0x0, 1, 0x0, 0x0, .cnt⟩,
   ⟨0x69C, 0x0, 1, 0x0, 0x0, .cnt⟩,
   ⟨0x6A0, 0x0, 1, 0x0, 0x0, .cnt⟩,
   ⟨0x6A4, 0x0, 1, 0x0, 0x0, .cnt⟩,
   ⟨0x6A8, 0x0, 1, 0x0, 0x0, .cnt⟩] ++
  [⟨0x6AC, 0x0, 1, 0x0, 0x0, .cnt⟩,
   ⟨0x6B0, 0x0, 1, 0x0, 0x0, .cnt⟩,
   ⟨0x6B4, 0x0, 1, 0x0, 0x0, .cnt⟩,
   ⟨0x6B8, 0x0, 1, 0x0, 0x0, .cnt⟩,
   ⟨0x6BC, 0x0, 1, 0x0, 0x0, .cnt⟩]

/-- The words of a RED page. -/
def rowsRED : List Row :=
  [⟨0x008, 0x0, 1, 0x0, 0x0, .wo⟩,
   ⟨0x00C, 0x0, 1, 0x0, 0x0, .ro⟩,
   ⟨0x040, 0x0, 1, 0xFFFFFFFF, 0xFFFFFFFF, .sh⟩,
   ⟨0x044, 0x0, 1, 0x13F, 0x3F, .sh⟩,
   ⟨0x048, 0x0, 1, 0xFFFF, 0x4, .sh⟩,
   ⟨0x04C, 0x0, 1, 0xFFFF, 0x0, .sh⟩,
   ⟨0x600, 0x0, 1, 0x0, 0x0, .ro⟩,
   ⟨0x604, 0x0, 1, 0x0, 0x0, .ro⟩,
   ⟨0x608, 0x0, 1, 0x0, 0x0, .ro⟩,
   ⟨0x60C, 0x0, 1, 0x0, 0x0, .ro⟩,
   ⟨0x610, 0x0, 1, 0x0, 0x0, .ro⟩,
   ⟨0x680, 0x0, 1, 0x0, 0x0, .cnt⟩,
   ⟨0x684, 0x0, 1, 0x0, 0x0, .cnt⟩,
   ⟨0x688, 0x0, 1, 0x0, 0x0, .cnt⟩,
   ⟨0x68C, 0x0, 1, 0x0, 0x0, .cnt⟩,
   ⟨0x690, 0x0, 1, 0x0, 0x0, .cnt⟩,
   ⟨0x694, 0x0, 1, 0x0, 0x0, .cnt⟩,
   ⟨0x698, 0x0, 1, 0x0, 0x0, .cnt⟩,
   ⟨0x69C, 0x0, 1, 0x0, 0x0, .cnt⟩]

/-- The words of a TIL page. -/
def rowsTIL : List Row :=
  [⟨0x008, 0x0, 1, 0x0, 0x0, .wo⟩,
   ⟨0x00C, 0x0, 1, 0x0, 0x0, .ro⟩,
   ⟨0x040, 0x0, 1, 0xFF01, 0x0, .sh⟩,
   ⟨0x044, 0x0, 1, 0x3FFF3FFF, 0x0, .sh⟩,
   ⟨0x048, 0x0, 1, 0x3FF03FF, 0x0, .sh⟩,
   ⟨0x04C, 0x0, 1, 0x7FF03FF, 0x0, .sh⟩,
   ⟨0x600, 0x0, 1, 0x0, 0x0, .ro⟩,
   ⟨0x604, 0x0, 1, 0x0, 0x0, .ro⟩,
   ⟨0x680, 0x0, 1, 0x0, 0x0, .cnt⟩,
   ⟨0x684, 0x0, 1, 0x0, 0x0, .cnt⟩,
   ⟨0x688, 0x0, 1, 0x0, 0x0, .cnt⟩,
   ⟨0x68C, 0x0, 1, 0x0, 0x0, .cnt⟩,
   ⟨0x690, 0x0, 1, 0x0, 0x0, .cnt⟩,
   ⟨0x694, 0x0, 1, 0x0, 0x0, .cnt⟩,
   ⟨0x698, 0x0, 1, 0x0, 0x0, .cnt⟩,
   ⟨0x69C, 0x0, 1, 0x0, 0x0, .cnt⟩,
   ⟨0x6A0, 0x0, 1, 0x0, 0x0, .cnt⟩]

/-- The words of a LSM page. -/
def rowsLSM : List Row :=
  [⟨0x00C, 0x0, 1, 0x0, 0x0, .ro⟩,
   ⟨0x040, 0x0, 1, 0x1F, 0x0, .sh⟩,
   ⟨0x044, 0x0, 1, 0xFFFFFF, 0x0, .sh⟩,
   ⟨0x048, 0x0, 1, 0xFFFFFF, 0x0, .sh⟩,
   ⟨0x600, 0x0, 1, 0x0, 0x0, .ro⟩,
   ⟨0x604, 0x0, 1, 0x0, 0x0, .ro⟩,
   ⟨0x608, 0x0, 1, 0x0, 0x0, .ro⟩,
   ⟨0x680, 0x0, 1, 0x0, 0x0, .cnt⟩,
   ⟨0x684, 0x0, 1, 0x0, 0x0, .cnt⟩,
   ⟨0x688, 0x0, 1, 0x0, 0x0, .cnt⟩]

/-- The words of a COR page. -/
def rowsCOR : List Row :=
  [⟨0x008, 0x0, 1, 0x0, 0x0, .wo⟩,
   ⟨0x00C, 0x0, 1, 0x0, 0x0, .ro⟩,
   ⟨0x040, 0x0, 1, 0x1FFFF, 0x10000, .sh⟩,
   ⟨0x044, 0x0, 1, 0x1F, 0x8, .sh⟩,
   ⟨0x600, 0x0, 1, 0x0, 0x10000, .ro⟩,
   ⟨0x604, 0x0, 1, 0x0, 0x10000, .ro⟩,
   ⟨0x608, 0x0, 1, 0x0, 0x10000, .ro⟩,
   ⟨0x680, 0x0, 1, 0x0, 0x0, .cnt⟩,
   ⟨0x684, 0x0, 1, 0x0, 0x0, .cnt⟩]

/-- The words of a LMP page. -/
def rowsLMP : List Row :=
  [⟨0x008, 0x0, 1, 0x1, 0x0, .rw⟩,
   ⟨0x00C, 0x0, 1, 0x0, 0x2, .ro⟩,
   ⟨0x040, 0x0, 1, 0xFFFFFE, 0x7FE0, .sh⟩,
   ⟨0x044, 0x0, 1, 0xFFFFF, 0x0, .sh⟩,
   ⟨0x048, 0x0, 1, 0x1FFF, 0x0, .sh⟩,
   ⟨0x600, 0x0, 1, 0x0, 0x0, .ro⟩,
   ⟨0x604, 0x0, 1, 0x0, 0x0, .ro⟩,
   ⟨0x608, 0x0, 1, 0x0, 0x0, .ro⟩,
   ⟨0x60C, 0x0, 1, 0x0, 0x0, .ro⟩,
   ⟨0x680, 0x0, 1, 0x0, 0x0, .cnt⟩,
   ⟨0x684, 0x0, 1, 0x0, 0x0, .cnt⟩,
   ⟨0x688, 0x0, 1, 0x0, 0x0, .cnt⟩,
   ⟨0x68C, 0x0, 1, 0x0, 0x0, .cnt⟩]

/-- The words of a SGP page. -/
def rowsSGP : List Row :=
  [⟨0x00C, 0x0, 1, 0x0, 0x0, .ro⟩,
   ⟨0x040, 0x0, 1, 0x3FF, 0x10, .sh⟩,
   ⟨0x044, 0x0, 1, 0xFFFFF, 0x0, .sh⟩,
   ⟨0x600, 0x0, 1, 0x0, 0x0, .ro⟩,
   ⟨0x604, 0x0, 1, 0x0, 0x0, .ro⟩,
   ⟨0x608, 0x0, 1, 0x0, 0x0, .ro⟩,
   ⟨0x60C, 0x0, 1, 0x0, 0x0, .ro⟩,
   ⟨0x680, 0x0, 1, 0x0, 0x0, .cnt⟩,
   ⟨0x684, 0x0, 1, 0x0, 0x0, .cnt⟩]

/-- The words of a PRB page. -/
def rowsPRB : List Row :=
  [⟨0x008, 0x0, 1, 0x0, 0x0, .wo⟩,
   ⟨0x040, 0x0, 1, 0x7, 0x0, .sh⟩,
   ⟨0x044, 0x0, 1, 0x7FF, 0xC8, .sh⟩,
   ⟨0x048, 0x0, 1, 0xFFFFFF, 0x0, .sh⟩,
   ⟨0x600, 0x0, 1, 0x0, 0x0, .ro⟩,
   ⟨0x604, 0x0, 1, 0x0, 0x1, .ro⟩,
   ⟨0x608, 0x0, 1, 0x0, 0x0, .ro⟩,
   ⟨0x60C, 0x0, 1, 0x0, 0x0, .ro⟩,
   ⟨0x610, 0x0, 1, 0x0, 0x0, .ro⟩,
   ⟨0x614, 0x0, 1, 0x0, 0x0, .ro⟩,
   ⟨0x680, 0x0, 1, 0x0, 0x0, .cnt⟩,
   ⟨0x684, 0x0, 1, 0x0, 0x0, .cnt⟩,
   ⟨0x688, 0x0, 1, 0x0, 0x0, .cnt⟩,
   ⟨0x68C, 0x0, 1, 0x0, 0x0, .cnt⟩]

/-- The words of a DRP page. -/
def rowsDRP : List Row :=
  [⟨0x008, 0x0, 1, 0x0, 0x0, .wo⟩,
   ⟨0x00C, 0x0, 1, 0x0, 0x0, .ro⟩,
   ⟨0x040, 0x0, 1, 0xFF3F, 0x8, .sh⟩,
   ⟨0x044, 0x4, 8, 0x1FFF, 0x0, .sh⟩,
   ⟨0x600, 0x0, 1, 0x0, 0x1, .ro⟩,
   ⟨0x604, 0x0, 1, 0x0, 0x10000, .ro⟩,
   ⟨0x680, 0x0, 1, 0x0, 0x0, .cnt⟩,
   ⟨0x684, 0x0, 1, 0x0, 0x0, .cnt⟩,
   ⟨0x688, 0x0, 1, 0x0, 0x0, .cnt⟩]

/-- The words of a LOOP page. -/
def rowsLOOP : List Row :=
  [⟨0x008, 0x0, 1, 0x3FF, 0x3F0, .rw⟩,
   ⟨0x00C, 0x0, 1, 0x0, 0x0, .ro⟩,
   ⟨0x040, 0x20, 6, 0xFFFFFFFF, 0x0, .sh⟩,
   ⟨0x044, 0x20, 6, 0xFFFFFFFF, 0x0, .sh⟩,
   ⟨0x048, 0x20, 6, 0xFFFFFFFF, 0x0, .sh⟩,
   ⟨0x04C, 0x20, 6, 0xFFFFFFFF, 0x0, .sh⟩,
   ⟨0x050, 0x20, 6, 0xFFFFFFFF, 0x80000000, .sh⟩,
   ⟨0x054, 0x20, 6, 0xFFFFFFFF, 0x7FFFFFFF, .sh⟩,
   ⟨0x058, 0x20, 6, 0xFFFFFFFF, 0x0, .sh⟩,
   ⟨0x05C, 0x20, 6, 0x0, 0x0, .sh⟩,
   ⟨0x600, 0x8, 10, 0x0, 0x0, .ro⟩,
   ⟨0x604, 0x8, 10, 0x0, 0x0, .ro⟩,
   ⟨0x680, 0x0, 1, 0x0, 0x0, .cnt⟩]

/-- The words of a THM page. -/
def rowsTHM : List Row :=
  [⟨0x008, 0x0, 1, 0x0, 0x0, .wo⟩,
   ⟨0x00C, 0x0, 1, 0x0, 0x0, .ro⟩,
   ⟨0x040, 0x0, 1, 0x1FF, 0x0, .sh⟩,
   ⟨0x044, 0x0, 1, 0x7F7F7F7F, 0x4B4A4948, .sh⟩,
   ⟨0x048, 0x0, 1, 0x7F7F7F7F, 0x4F4E4D4C, .sh⟩,
   ⟨0x04C, 0x0, 1, 0xFFFFFFFF, 0x5F00460, .sh⟩,
   ⟨0x050, 0x0, 1, 0xFFFF, 0x666, .sh⟩,
   ⟨0x054, 0x0, 1, 0xFFFFFFFF, 0x7300640, .sh⟩,
   ⟨0x058, 0x0, 1, 0xFFFFF, 0xF0CCD, .sh⟩,
   ⟨0x05C, 0x0, 1, 0xFFFFFFFF, 0x960190, .sh⟩,
   ⟨0x060, 0x0, 1, 0xFFFF, 0x258, .sh⟩,
   ⟨0x064, 0x0, 1, 0xFFFFFF, 0xA0190, .sh⟩,
   ⟨0x068, 0x0, 1, 0xFFFFFFFF, 0x80008000, .sh⟩,
   ⟨0x06C, 0x0, 1, 0xFFFF, 0x8000, .sh⟩,
   ⟨0x600, 0x4, 8, 0x0, 0x0, .ro⟩,
   ⟨0x620, 0x0, 1, 0x0, 0x0, .ro⟩,
   ⟨0x624, 0x0, 1, 0x0, 0x0, .ro⟩,
   ⟨0x628, 0x0, 1, 0x0, 0x0, .ro⟩,
   ⟨0x62C, 0x0, 1, 0x0, 0x10000, .ro⟩,
   ⟨0x630, 0x0, 1, 0x0, 0x0, .ro⟩,
   ⟨0x634, 0x0, 1, 0x0, 0x0, .ro⟩,
   ⟨0x638, 0x0, 1, 0x0, 0x0, .ro⟩,
   ⟨0x680, 0x0, 1, 0x0, 0x0, .cnt⟩,
   ⟨0x684, 0x0, 1, 0x0, 0x0, .cnt⟩] ++
  [⟨0x688, 0x0, 1, 0x0, 0x0, .cnt⟩,
   ⟨0x68C, 0x0, 1, 0x0, 0x0, .cnt⟩]

/-- The words of a PHC page. -/
def rowsPHC : List Row :=
  [⟨0x008, 0x0, 1, 0x0, 0x0, .wo⟩,
   ⟨0x00C, 0x0, 1, 0x0, 0x0, .ro⟩,
   ⟨0x040, 0x0, 1, 0x7FFFFF, 0x20012C, .sh⟩,
   ⟨0x044, 0x0, 1, 0x3FFF3FFF, 0x0, .sh⟩,
   ⟨0x048, 0x0, 1, 0x3FFF3FFF, 0x0, .sh⟩,
   ⟨0x04C, 0x0, 1, 0xFFFF, 0x0, .sh⟩,
   ⟨0x050, 0x0, 1, 0xFFFFFFFF, 0x0, .sh⟩,
   ⟨0x054, 0x0, 1, 0xFFFFFFFF, 0x0, .sh⟩,
   ⟨0x058, 0x0, 1, 0xFFFFFFFF, 0x138800C8, .sh⟩,
   ⟨0x600, 0x0, 1, 0x0, 0x0, .ro⟩,
   ⟨0x604, 0x0, 1, 0x0, 0x0, .ro⟩,
   ⟨0x608, 0x0, 1, 0x0, 0x0, .ro⟩,
   ⟨0x60C, 0x0, 1, 0x0, 0x0, .ro⟩,
   ⟨0x610, 0x0, 1, 0x0, 0x0, .ro⟩,
   ⟨0x614, 0x0, 1, 0x0, 0x0, .ro⟩,
   ⟨0x618, 0x0, 1, 0x0, 0x0, .ro⟩,
   ⟨0x61C, 0x0, 1, 0x0, 0x0, .ro⟩,
   ⟨0x680, 0x0, 1, 0x0, 0x0, .cnt⟩,
   ⟨0x684, 0x0, 1, 0x0, 0x0, .cnt⟩,
   ⟨0x688, 0x0, 1, 0x0, 0x0, .cnt⟩]

/-- The words of a NVS page. -/
def rowsNVS : List Row :=
  [⟨0x008, 0x0, 1, 0x0, 0x0, .wo⟩,
   ⟨0x00C, 0x0, 1, 0x0, 0x0, .ro⟩,
   ⟨0x040, 0x0, 1, 0x3F, 0xA, .sh⟩,
   ⟨0x600, 0x0, 1, 0x0, 0x1, .ro⟩,
   ⟨0x604, 0x0, 1, 0x0, 0x800, .ro⟩,
   ⟨0x608, 0x0, 1, 0x0, 0x100, .ro⟩,
   ⟨0x60C, 0x0, 1, 0x0, 0x0, .ro⟩,
   ⟨0x610, 0x0, 1, 0x0, 0x0, .ro⟩,
   ⟨0x614, 0x0, 1, 0x0, 0x0, .ro⟩,
   ⟨0x680, 0x0, 1, 0x0, 0x0, .cnt⟩,
   ⟨0x684, 0x0, 1, 0x0, 0x0, .cnt⟩,
   ⟨0x688, 0x0, 1, 0x0, 0x0, .cnt⟩,
   ⟨0x68C, 0x0, 1, 0x0, 0x0, .cnt⟩,
   ⟨0x690, 0x0, 1, 0x0, 0x0, .cnt⟩,
   ⟨0x694, 0x0, 1, 0x0, 0x0, .cnt⟩,
   ⟨0x698, 0x0, 1, 0x0, 0x0, .cnt⟩]

/-- The words of a DRM page. -/
def rowsDRM : List Row :=
  [⟨0x008, 0x0, 1, 0x0, 0x0, .wo⟩,
   ⟨0x00C, 0x0, 1, 0x0, 0x0, .ro⟩,
   ⟨0x040, 0x0, 1, 0x1FF, 0xC2, .sh⟩,
   ⟨0x044, 0x0, 1, 0xFF, 0x18, .sh⟩,
   ⟨0x600, 0x0, 1, 0x0, 0x0, .ro⟩,
   ⟨0x604, 0x0, 1, 0x0, 0x0, .ro⟩,
   ⟨0x608, 0x0, 1, 0x0, 0x0, .ro⟩,
   ⟨0x60C, 0x0, 1, 0x0, 0x0, .ro⟩,
   ⟨0x610, 0x0, 1, 0x0, 0x0, .ro⟩,
   ⟨0x614, 0x0, 1, 0x0, 0x0, .ro⟩,
   ⟨0x618, 0x0, 1, 0x0, 0x0, .ro⟩,
   ⟨0x680, 0x0, 1, 0x0, 0x0, .cnt⟩,
   ⟨0x684, 0x0, 1, 0x0, 0x0, .cnt⟩,
   ⟨0x688, 0x0, 1, 0x0, 0x0, .cnt⟩,
   ⟨0x68C, 0x0, 1, 0x0, 0x0, .cnt⟩,
   ⟨0x690, 0x0, 1, 0x0, 0x0, .cnt⟩,
   ⟨0x694, 0x0, 1, 0x0, 0x0, .cnt⟩,
   ⟨0x698, 0x0, 1, 0x0, 0x0, .cnt⟩,
   ⟨0x69C, 0x0, 1, 0x0, 0x0, .cnt⟩,
   ⟨0x6A0, 0x0, 1, 0x0, 0x0, .cnt⟩,
   ⟨0x6A4, 0x0, 1, 0x0, 0x0, .cnt⟩]

/-- The words of a AUD page. -/
def rowsAUD : List Row :=
  [⟨0x008, 0x0, 1, 0x2, 0x0, .rw⟩,
   ⟨0x00C, 0x0, 1, 0x0, 0x0, .ro⟩,
   ⟨0x040, 0x0, 1, 0x1FFFF, 0x8, .sh⟩,
   ⟨0x044, 0x0, 1, 0xFFFFFFFF, 0x0, .sh⟩,
   ⟨0x048, 0x0, 1, 0xFFFFF, 0x0, .sh⟩,
   ⟨0x04C, 0x0, 1, 0xFFFFFFFF, 0x0, .sh⟩,
   ⟨0x050, 0x0, 1, 0xFFFFFFFF, 0x0, .sh⟩,
   ⟨0x054, 0x0, 1, 0xFFFFFF, 0x0, .sh⟩,
   ⟨0x058, 0x0, 1, 0x3, 0x0, .sh⟩,
   ⟨0x600, 0x0, 1, 0x0, 0x0, .ro⟩,
   ⟨0x604, 0x0, 1, 0x0, 0x0, .ro⟩,
   ⟨0x608, 0x0, 1, 0x0, 0x0, .ro⟩,
   ⟨0x680, 0x0, 1, 0x0, 0x0, .cnt⟩,
   ⟨0x684, 0x0, 1, 0x0, 0x0, .cnt⟩,
   ⟨0x688, 0x0, 1, 0x0, 0x0, .cnt⟩,
   ⟨0x68C, 0x0, 1, 0x0, 0x0, .cnt⟩,
   ⟨0x690, 0x0, 1, 0x0, 0x0, .cnt⟩]

/-- The words of a FW page. -/
def rowsFW : List Row :=
  [⟨0x008, 0x0, 1, 0x20, 0x20, .rw⟩,
   ⟨0x00C, 0x0, 1, 0x0, 0x0, .ro⟩,
   ⟨0x040, 0x0, 1, 0x103FF, 0x1E, .sh⟩,
   ⟨0x600, 0x0, 1, 0x0, 0x0, .ro⟩,
   ⟨0x604, 0x0, 1, 0x0, 0x0, .ro⟩,
   ⟨0x608, 0x0, 1, 0x0, 0x0, .ro⟩,
   ⟨0x60C, 0x0, 1, 0x0, 0x0, .ro⟩,
   ⟨0x610, 0x0, 1, 0xFF, 0x1, .rw⟩,
   ⟨0x614, 0x0, 1, 0xFFFFFFFF, 0x0, .rw⟩,
   ⟨0x618, 0x0, 1, 0xFFFFFFFF, 0x0, .rw⟩,
   ⟨0x61C, 0x0, 1, 0x1FFFFF, 0x0, .rw⟩,
   ⟨0x620, 0x0, 1, 0xFFFFFFFF, 0x0, .rw⟩,
   ⟨0x624, 0x0, 1, 0xFFFFFFFF, 0x0, .rw⟩,
   ⟨0x628, 0x0, 1, 0xFFFFFF, 0x0, .rw⟩,
   ⟨0x62C, 0x0, 1, 0xFFFFFF, 0x0, .rw⟩,
   ⟨0x630, 0x0, 1, 0xFFFFFFFF, 0x0, .rw⟩,
   ⟨0x634, 0x0, 1, 0xFFFFFFFF, 0x0, .rw⟩,
   ⟨0x638, 0x0, 1, 0x3FFFFFFF, 0x0, .rw⟩,
   ⟨0x63C, 0x0, 1, 0x0, 0x0, .ro⟩,
   ⟨0x640, 0x0, 1, 0x0, 0x0, .ro⟩,
   ⟨0x680, 0x0, 1, 0x0, 0x0, .cnt⟩,
   ⟨0x684, 0x0, 1, 0x0, 0x0, .cnt⟩,
   ⟨0x688, 0x0, 1, 0x0, 0x0, .cnt⟩,
   ⟨0x68C, 0x0, 1, 0x0, 0x0, .cnt⟩]

/-- The words of a block's page. -/
def Blk.rows : Blk → List Row
  | .glb => rowsGLB
  | .evt => rowsEVT
  | .cmt => rowsCMT
  | .sch => rowsSCH
  | .clk => rowsCLK
  | .ref => rowsREF
  | .ptp => rowsPTP
  | .tsq => rowsTSQ
  | .tun => rowsTUN
  | .net => rowsNET
  | .sdi => rowsSDI
  | .str => rowsSTR
  | .dec => rowsDEC
  | .lse => rowsLSE
  | .lyr => rowsLYR
  | .cmp => rowsCMP
  | .tg => rowsTG
  | .scl => rowsSCL
  | .sag => rowsSAG
  | .map => rowsMAP
  | .glz => rowsGLZ
  | .prv => rowsPRV
  | .coil => rowsCOIL
  | .red => rowsRED
  | .til => rowsTIL
  | .lsm => rowsLSM
  | .cor => rowsCOR
  | .lmp => rowsLMP
  | .sgp => rowsSGP
  | .prb => rowsPRB
  | .drp => rowsDRP
  | .loop => rowsLOOP
  | .thm => rowsTHM
  | .phc => rowsPHC
  | .nvs => rowsNVS
  | .drm => rowsDRM
  | .aud => rowsAUD
  | .fw => rowsFW

/-- Block type of PAGE_ID (03 R67). -/
def Blk.typeCode : Blk → Nat
  | .glb => 0x0001
  | .evt => 0x0002
  | .cmt => 0x0003
  | .sch => 0x0004
  | .clk => 0x0005
  | .ref => 0x0006
  | .ptp => 0x0007
  | .tsq => 0x0008
  | .tun => 0x0009
  | .net => 0x0010
  | .sdi => 0x0011
  | .str => 0x0012
  | .dec => 0x0013
  | .lse => 0x0014
  | .lyr => 0x0015
  | .cmp => 0x0016
  | .tg => 0x0017
  | .scl => 0x0018
  | .sag => 0x0019
  | .map => 0x001A
  | .glz => 0x001B
  | .prv => 0x001C
  | .coil => 0x0020
  | .red => 0x0021
  | .til => 0x0030
  | .lsm => 0x0031
  | .cor => 0x0032
  | .lmp => 0x0033
  | .sgp => 0x0034
  | .prb => 0x0035
  | .drp => 0x0036
  | .loop => 0x0040
  | .thm => 0x0041
  | .phc => 0x0042
  | .nvs => 0x0043
  | .drm => 0x0044
  | .aud => 0x0045
  | .fw => 0x0050

/-- First page of a block (03 R67). -/
def Blk.base : Blk → Nat
  | .glb => 0x000
  | .evt => 0x001
  | .cmt => 0x002
  | .sch => 0x003
  | .clk => 0x004
  | .ref => 0x005
  | .ptp => 0x006
  | .tsq => 0x008
  | .tun => 0x009
  | .net => 0x010
  | .sdi => 0x018
  | .str => 0x020
  | .dec => 0x030
  | .lse => 0x038
  | .lyr => 0x040
  | .cmp => 0x050
  | .tg => 0x051
  | .scl => 0x053
  | .sag => 0x05B
  | .map => 0x060
  | .glz => 0x061
  | .prv => 0x070
  | .coil => 0x080
  | .red => 0x090
  | .til => 0x0A0
  | .lsm => 0x0A1
  | .cor => 0x0A2
  | .lmp => 0x0B0
  | .sgp => 0x0B1
  | .prb => 0x0B5
  | .drp => 0x0B6
  | .loop => 0x0C0
  | .thm => 0x0D0
  | .phc => 0x0D1
  | .nvs => 0x0D2
  | .drm => 0x0E0
  | .aud => 0x0F0
  | .fw => 0x100

/-- Instances of a block on a Y96 (03 R67). -/
def Blk.count : Blk → Nat
  | .glb => 1
  | .evt => 1
  | .cmt => 1
  | .sch => 1
  | .clk => 1
  | .ref => 1
  | .ptp => 2
  | .tsq => 1
  | .tun => 1
  | .net => 8
  | .sdi => 5
  | .str => 16
  | .dec => 1
  | .lse => 1
  | .lyr => 16
  | .cmp => 1
  | .tg => 2
  | .scl => 8
  | .sag => 1
  | .map => 1
  | .glz => 8
  | .prv => 1
  | .coil => 16
  | .red => 1
  | .til => 1
  | .lsm => 1
  | .cor => 1
  | .lmp => 1
  | .sgp => 4
  | .prb => 1
  | .drp => 1
  | .loop => 1
  | .thm => 1
  | .phc => 1
  | .nvs => 1
  | .drm => 4
  | .aud => 1
  | .fw => 1

/-- The block's pages apply in this role (03 R67). -/
def Blk.inRole : Blk → Role → Bool
  | .glb, _ => true
  | .evt, _ => true
  | .cmt, _ => true
  | .sch, _ => true
  | .clk, _ => true
  | .ref, r => r == .sender
  | .ptp, r => r == .sender
  | .tsq, r => r == .sender
  | .tun, r => r == .sender
  | .net, r => r == .sender
  | .sdi, r => r == .sender
  | .str, r => r == .sender
  | .dec, r => r == .sender
  | .lse, r => r == .sender
  | .lyr, r => r == .sender
  | .cmp, r => r == .sender
  | .tg, r => r == .sender
  | .scl, r => r == .sender
  | .sag, r => r == .sender
  | .map, r => r == .sender
  | .glz, r => r == .sender
  | .prv, r => r == .sender
  | .coil, _ => true
  | .red, _ => true
  | .til, r => r == .tile
  | .lsm, r => r == .tile
  | .cor, r => r == .tile
  | .lmp, r => r == .tile
  | .sgp, r => r == .tile
  | .prb, r => r == .tile
  | .drp, r => r == .tile
  | .loop, _ => true
  | .thm, _ => true
  | .phc, r => r == .tile
  | .nvs, _ => true
  | .drm, r => r == .sender
  | .aud, r => r == .sender
  | .fw, _ => true

/-- SHADOW_END of PAGE_CAPS (03 R63). -/
def Blk.shadowEnd : Blk → Nat
  | .glb => 0x044
  | .evt => 0x040
  | .cmt => 0x040
  | .sch => 0x0C0
  | .clk => 0x05C
  | .ref => 0x054
  | .ptp => 0x054
  | .tsq => 0x040
  | .tun => 0x040
  | .net => 0x060
  | .sdi => 0x060
  | .str => 0x078
  | .dec => 0x240
  | .lse => 0x040
  | .lyr => 0x180
  | .cmp => 0x0A8
  | .tg => 0x068
  | .scl => 0x044
  | .sag => 0x04C
  | .map => 0x050
  | .glz => 0x040
  | .prv => 0x060
  | .coil => 0x050
  | .red => 0x050
  | .til => 0x050
  | .lsm => 0x04C
  | .cor => 0x048
  | .lmp => 0x04C
  | .sgp => 0x048
  | .prb => 0x04C
  | .drp => 0x064
  | .loop => 0x100
  | .thm => 0x070
  | .phc => 0x05C
  | .nvs => 0x044
  | .drm => 0x048
  | .aud => 0x05C
  | .fw => 0x044

/-- The tables of a page: bytes and how writes take effect (03 R64 and the table notes of the chapters). -/
def Blk.tables : Blk → List (Nat × TabCls)
  | .glb => []
  | .evt => [(288, .now)]
  | .cmt => []
  | .sch => []
  | .clk => []
  | .ref => []
  | .ptp => [(2048, .ro)]
  | .tsq => []
  | .tun => [(4096, .now)]
  | .net => [(256, .ro)]
  | .sdi => []
  | .str => []
  | .dec => [(2048, .pend)]
  | .lse => []
  | .lyr => []
  | .cmp => []
  | .tg => []
  | .scl => [(2048, .pend)]
  | .sag => [(8192, .pend), (4096, .ro)]
  | .map => [(8192, .pend), (4096, .pend), (16384, .pend), (262144, .pend), (2048, .ro)]
  | .glz => []
  | .prv => []
  | .coil => [(224, .now)]
  | .red => [(512, .ro)]
  | .til => [(16384, .ro), (16384, .pend), (262144, .pend), (4064, .pend)]
  | .lsm => []
  | .cor => [(8388608, .now), (4100, .pend), (16384, .pend), (1048576, .ro)]
  | .lmp => [(65536, .pend), (196608, .pend), (4096, .pend)]
  | .sgp => []
  | .prb => [(262144, .ro)]
  | .drp => [(1024, .ro)]
  | .loop => [(256, .now), (256, .now), (256, .now), (256, .now)]
  | .thm => [(32768, .ro)]
  | .phc => []
  | .nvs => [(8192, .now)]
  | .drm => [(128, .now), (128, .now)]
  | .aud => [(96, .pend), (192, .ro)]
  | .fw => [(524288, .now)]

/-- The event bits a page implements (03 R70: the same bits in EVT_RAW, EVT_EN, EVT_PEND, EVT_FORCE); 0 where HAS_EVT is 0. -/
def Blk.evtMask : Blk → Nat
  | .glb => 0x1F
  | .evt => 0x7
  | .cmt => 0x7
  | .sch => 0x1F
  | .clk => 0x3FF
  | .ref => 0x1F
  | .ptp => 0xF
  | .tsq => 0x7
  | .tun => 0x7
  | .net => 0xF
  | .sdi => 0xF
  | .str => 0xF
  | .dec => 0x7FF
  | .lse => 0x1
  | .lyr => 0xF
  | .cmp => 0x3
  | .tg => 0xF
  | .scl => 0x0
  | .sag => 0x3F
  | .map => 0x3
  | .glz => 0x1
  | .prv => 0x3
  | .coil => 0x3FF
  | .red => 0xFF
  | .til => 0x3F
  | .lsm => 0x3
  | .cor => 0x3
  | .lmp => 0x7
  | .sgp => 0x3
  | .prb => 0x7
  | .drp => 0x3
  | .loop => 0x103FF
  | .thm => 0x1F
  | .phc => 0x3
  | .nvs => 0x7F
  | .drm => 0xFF
  | .aud => 0x3F
  | .fw => 0x7F

/-- The lower words of the 64-bit values of a page: offset, stride, count (03 R61). -/
def Blk.wide : Blk → List (Nat × Nat × Nat)
  | .glb => [(0x600, 0x0, 1), (0x610, 0x0, 1)]
  | .evt => []
  | .cmt => [(0x600, 0x0, 1), (0x608, 0x0, 1), (0x610, 0x0, 1), (0x618, 0x0, 1), (0x620, 0x0, 1)]
  | .sch => []
  | .clk => [(0x600, 0x0, 1), (0x610, 0x0, 1)]
  | .ref => []
  | .ptp => [(0x608, 0x0, 1)]
  | .tsq => [(0x604, 0x0, 1)]
  | .tun => []
  | .net => [(0x600, 0x0, 1), (0x610, 0x0, 1)]
  | .sdi => [(0x050, 0x0, 1)]
  | .str => [(0x05C, 0x0, 1)]
  | .dec => [(0x048, 0x20, 16), (0x054, 0x20, 16)]
  | .lse => [(0x600, 0x0, 1), (0x608, 0x0, 1)]
  | .lyr => [(0x058, 0x0, 1)]
  | .cmp => []
  | .tg => [(0x058, 0x0, 1)]
  | .scl => []
  | .sag => [(0x040, 0x0, 1)]
  | .map => [(0x044, 0x0, 1)]
  | .glz => []
  | .prv => []
  | .coil => [(0x60C, 0x0, 1)]
  | .red => []
  | .til => []
  | .lsm => []
  | .cor => []
  | .lmp => []
  | .sgp => []
  | .prb => []
  | .drp => []
  | .loop => []
  | .thm => []
  | .phc => []
  | .nvs => []
  | .drm => [(0x600, 0x0, 1), (0x60C, 0x0, 1)]
  | .aud => [(0x04C, 0x0, 1)]
  | .fw => [(0x614, 0x0, 1), (0x620, 0x0, 1), (0x630, 0x0, 1)]

/-- All blocks, in page order. -/
def Blk.all : List Blk :=
  [.glb, .evt, .cmt, .sch, .clk, .ref, .ptp, .tsq, .tun, .net, .sdi, .str, .dec, .lse, .lyr, .cmp, .tg, .scl, .sag, .map, .glz, .prv, .coil, .red, .til, .lsm, .cor, .lmp, .sgp, .prb, .drp, .loop, .thm, .phc, .nvs, .drm, .aud, .fw]

/-- The block and instance of a page of the map (03 R67), whatever the role. -/
def blkFind (p : Nat) : List Blk → Option (Blk × Nat)
  | [] => none
  | b :: bs => if b.base ≤ p ∧ p < b.base + b.count then some (b, p - b.base) else blkFind p bs

/-- The block and instance of a page (03 R67). -/
def blkOf (p : Nat) : Option (Blk × Nat) := blkFind p Blk.all

/-- The row that holds the word at an offset. -/
def rowAt (o : Nat) : List Row → Option Row
  | [] => none
  | r :: rs =>
    if o = r.off ∨ (r.cnt > 1 ∧ r.off ≤ o ∧ (o - r.off) % r.stride = 0 ∧ (o - r.off) / r.stride < r.cnt) then some r
    else rowAt o rs

/-- Where the row of a word is looked up: a live copy is the word 0x400 below (03 R62). -/
def Blk.rowOff (b : Blk) (o : Nat) : Nat := if 0x440 ≤ o ∧ o < b.shadowEnd + 0x400 then o - 0x400 else o

/-- The reset value of the word at byte offset `key mod 0x1000` of page `key div 0x1000`; a shadow register and its live copy
    reset alike (03 R65). Values that differ between the roles stand here at the sender's value; RESET_RELEASE writes the tile's. -/
def resetWord (key : Nat) : Word32 :=
  match blkOf (key / 0x1000) with
  | none => 0
  | some (b, _) =>
    match rowAt (b.rowOff (key % 0x1000)) b.rows with
    | none => 0
    | some r => BitVec.ofNat 32 r.rst

end Sys2Proof.Machine
end

