-- ==== Sys2Proof/Machine/SMap.lean ====
section
/-!
DEFINITION. Sparse storage: a list of key and value pairs with strictly rising keys and no entry equal to what an unlisted key
reads as, so that equal contents are equal data. Registers, tables, memories and the per-instance records of the model use it.
-/

namespace Sys2Proof.Machine

/-- The value at a key; an unlisted key reads as `d k`. -/
def smGet {α : Type} (d : Nat → α) : List (Nat × α) → Nat → α
  | [], k => d k
  | (a, v) :: m, k => if a = k then v else smGet d m k

/-- The entries without those at a key. -/
def smDel {α : Type} : List (Nat × α) → Nat → List (Nat × α)
  | [], _ => []
  | (a, v) :: m, k => if a = k then smDel m k else (a, v) :: smDel m k

/-- Write a value at a key, keeping the canonical form: writing what an unlisted key reads as removes the entry. -/
def smSet {α : Type} [DecidableEq α] (d : Nat → α) : List (Nat × α) → Nat → α → List (Nat × α)
  | [], k, x => if x = d k then [] else [(k, x)]
  | (a, v) :: m, k, x =>
    if a = k then (if x = d k then smDel m k else (k, x) :: m)
    else if k < a then (if x = d k then (a, v) :: smDel m k else (k, x) :: (a, v) :: m)
    else (a, v) :: smSet d m k x

/-- Change the value at a key. -/
def smMod {α : Type} [DecidableEq α] (d : Nat → α) (m : List (Nat × α)) (k : Nat) (f : α → α) : List (Nat × α) :=
  smSet d m k (f (smGet d m k))

/-- A key lies above an optional lower bound. -/
def smAbove : Option Nat → Nat → Bool
  | none, _ => true
  | some b, a => decide (b < a)

/-- The keys rise strictly from above `lo`, and no entry holds what an unlisted key reads as. -/
def smOk {α : Type} [DecidableEq α] (d : Nat → α) : Option Nat → List (Nat × α) → Bool
  | _, [] => true
  | lo, (a, v) :: m =>
    smAbove lo a && decide (v ≠ d a) && smOk d (some a) m

/-- The canonical form of a sparse map. -/
def smWf {α : Type} [DecidableEq α] (d : Nat → α) (m : List (Nat × α)) : Bool := smOk d none m

/-- Write a list of values at consecutive keys. -/
def smSetMany {α : Type} [DecidableEq α] (d : Nat → α) (m : List (Nat × α)) (k : Nat) : List α → List (Nat × α)
  | [] => m
  | x :: xs => smSetMany d (smSet d m k x) (k + 1) xs

/-- Read `n` values at consecutive keys. -/
def smGetMany {α : Type} (d : Nat → α) (m : List (Nat × α)) (k : Nat) : Nat → List α
  | 0 => []
  | n + 1 => smGet d m k :: smGetMany d m (k + 1) n

/-- Write every entry of a list of pairs, first to last. -/
def smPutAll {α : Type} [DecidableEq α] (d : Nat → α) (m : List (Nat × α)) : List (Nat × α) → List (Nat × α)
  | [] => m
  | (k, x) :: xs => smPutAll d (smSet d m k x) xs

/-- Keep the entries whose key meets a test. -/
def smKeep {α : Type} (p : Nat → Bool) : List (Nat × α) → List (Nat × α)
  | [] => []
  | (k, x) :: m => if p k then (k, x) :: smKeep p m else smKeep p m

end Sys2Proof.Machine
end

