-- ==== Sys2Proof/Machine/State.lean ====
section
/-!
DEFINITION. The state of the Y96 as plain data, its outputs, its faults and refusals, and the state after reset.
-/

namespace Sys2Proof.Machine

/-- Why a command has no effect to give. Nothing of the spec makes this block stop with a fault: a command that names a unit
    the die does not have, or that cannot occur in the device's state, has no effect (log 3). -/
inductive Fault where
  /-- Raised by no command of this model: the spec describes no event that halts the block (safe). -/
  | halted
deriving DecidableEq, Repr

/-- Why a command is refused. -/
inductive Refusal where
  /-- Answered by the arm of an instruction whose meaning is not written yet (safe: the machine stops). -/
  | notModelled (mnemonic : String)
deriving DecidableEq, Repr

/-- A packet of the preview stream: addresses, UDP ports, DSCP, 802.1Q tag, RTP header with the extended sequence number, and one line
    segment with its data (06 R155, R160). -/
structure PrvPacket where
  srcIp : Nat
  dstIp : Nat
  srcUdp : Nat
  dstUdp : Nat
  dscp : Nat
  tag : Option (Nat × Nat)
  pt : Nat
  ssrc : Nat
  seq : Nat
  ts : Nat
  marker : Bool
  line : Nat
  offset : Nat
  data : List Byte
deriving DecidableEq, Repr

/-- A step of a row transition at the balls of a group (12 R327): rows off, pre-charge on, the row address, pre-charge off, rows on, and
    edge 0 of the window. -/
inductive RowStep where
  | rowsOff
  | prechgOn
  | rowAddress (row : Nat)
  | prechgOff
  | rowsOn
  | edge0
deriving DecidableEq, Repr

/-- What the last command sent out of the block: packets launched, messages raised, pins driven, data returned. -/
inductive Output where
  /-- A TICK on a coil port (10 R256). -/
  | tick (port : Nat) (b : TickBody)
  /-- A CONFIG marker (10 R257); `dest` is the node of a recovery marker, none a broadcast. -/
  | config (port : Nat) (dest : Option Nat) (b : ConfigBody)
  /-- A sender BEACON (10 R255). -/
  | beacon (port : Nat) (b : Beacon)
  /-- A link beacon request (10 R255). -/
  | linkReq (port : Nat) (b : LinkBeacon)
  /-- A link beacon reply (10 R255). -/
  | linkRep (port : Nat) (b : LinkBeacon)
  /-- A BAND packet (10 R258). -/
  | band (port : Nat) (b : BandPkt)
  /-- A MGMT_REQ to a node (10 R259). -/
  | mgmtReq (port dest : Nat) (r : MgmtReq)
  /-- A MGMT_RSP to the requester (10 R259). -/
  | mgmtRsp (port dest tag status : Nat) (data : List Word32)
  /-- An EVENT (10 R260). -/
  | event (port src epoch : Nat) (entries : List EvtEntry)
  /-- A STATUS (10 R463). -/
  | status (port src : Nat) (b : StatusBody)
  /-- A BOOT chunk (10 R261). -/
  | boot (port : Nat) (c : BootChunk)
  /-- A DISCOVER (10 R273); `stomped` as for `forward`. -/
  | discover (port hops : Nat) (d : Discover) (stomped : Bool)
  /-- A DISCOVER_RSP to the sender of the request (10 R274, R462). -/
  | discoverRsp (port dest : Nat) (body : List Byte)
  /-- A RELINQUISH, with its header (10 R262). -/
  | relinquish (port : Nat) (h : Header) (epoch grounds copy : Nat) (stomped : Bool)
  /-- A FEEDREQ, with its header (10 R262). -/
  | feedreq (port : Nat) (h : Header) (epoch cause : Nat) (stomped : Bool)
  /-- A packet passed on to a port, with its trailer stomped or not (10 R263, R253). -/
  | forward (port : Nat) (bytes : List Byte) (stomped : Bool)
  /-- A packet consumed here: handed to the consumer of its type (10 R263). -/
  | consume (port : Nat) (p : Packet)
  /-- An MSI-X message (03 R74). -/
  | msix (vec : Nat)
  /-- Data of a host read through PCIe; `poisoned` marks poisoned data (14 R385). -/
  | hostRead (data : List Byte) (poisoned : Bool)
  /-- The word of a register read that latched (03 R61). -/
  | regRead (w : Word32)
  /-- A CAMSYNC output changes level (05 R127). -/
  | camsync (c : Nat) (level : Bool)
  /-- A frame on a NET port (06 R142), and what a NET answer carries (06 R140); `tag` is its 802.1Q tag, VLAN and PCP (06 R157). -/
  | netFrame (port : Nat) (bytes : List Byte)
  /-- An ARP reply (06 R140). -/
  | arpReply (port ip mac : Nat) (tag : Option (Nat × Nat))
  /-- An ICMP echo reply to a requester (06 R140). -/
  | icmpReply (port dst mac ident seq : Nat) (data : List Byte) (tag : Option (Nat × Nat))
  /-- An IGMP report or leave (06 R141). -/
  | igmp (port group src : Nat) (leave : Bool) (version : Nat) (tag : Option (Nat × Nat))
  /-- A packet of the preview stream on a NET port (06 R155). -/
  | preview (port : Nat) (p : PrvPacket)
  /-- A line of the preview on SDI4, as Y, Cb, Cr of each pixel (06 R156, 08 R207). -/
  | sdiLine (y : Nat) (samples : List (Nat × Nat × Nat))
  /-- A Delay_Req of a PTP instance: the NET port, the domain, the master's port identity when it goes to it unicast, else multicast, the source
      address, and the 802.1Q tag (VLAN, PCP) if any (04 R91, R117). -/
  | delayReq (net domain : Nat) (dest : Option Nat) (srcIp : Nat) (tag : Option (Nat × Nat))
  /-- A command of the lamp bus to the drivers of a group, with its word set as it is sent: for the driver farthest from the Y96 first, the
      words of lanes 0 to 15 (12 R315, R316). -/
  | lampCmd (group : Nat) (code : Nat) (data : List Nat)
  /-- The row transition before a scan window: each step with its time in ns after edge K of the window before (12 R327). -/
  | rowSteps (group : Nat) (steps : List (Nat × RowStep))
  /-- The row enable of a group and its row (12 R327). -/
  | rows (group : Nat) (on : Bool) (row : Nat)
  /-- The on-time of a driver channel in a scan window, in 0.5 ns: group, driver row, column a (12 R319, R324, R326). -/
  | light (group row col halfNs : Nat)
  /-- One output sample of an audio channel as the delay line holds it: [23:0] sample, [24] V, [25] U (15 R397, R399). -/
  | audio (ch x : Nat)
  /-- A sample frame of TDM_DO: 16 slots of 32 bits, audio in bits [31:8], with the polarity and the data delay of TDM_WS (15 R394, R403). -/
  | tdm (wsInv wsDelay : Bool) (slots : List Nat)
  /-- The channel status of an AES3 output over a 192-frame block (15 R394). -/
  | audioStatus (port : Nat) (bytes : List Byte)
  /-- A composed line of a feed handed to mapping (08 R204). -/
  | line (feed y : Nat) (pix : List Pixel)
deriving DecidableEq, Repr

/-! Power, boot and firmware (16, 17). -/

/-- State of the AON domain, which a core reset leaves alone (16 R405, R406). -/
structure Aon where
  /-- Sources recorded since the last release of reset, one bit each (R405). -/
  cause : Nat := 0
  /-- The quench latch and its cause (13 R374). -/
  quench : Bool := false
  quenchCause : Nat := 0
  /-- The AON supply set is good and the domain runs (16 R404). -/
  on : Bool := false
  /-- The role that the ROLE ball names to the AON domain (16 R404). -/
  role : Role := .sender
  /-- How the board ties the ROLE ball, as the last release of reset sampled it; not known before the first (01 R7, log 190). -/
  strap : Strap := .floating
  /-- Ports 0 and 1 of the repeater have lane lock (16 R406, 10 R250). -/
  linkUp0 : Bool := false
  linkUp1 : Bool := false
deriving DecidableEq, Repr

/-- An image in an assembly or in a bank: its bytes and its index. -/
structure Image where
  idx : Nat := 0
  bytes : List Byte := []
deriving DecidableEq, Repr

/-- An image being assembled from BOOT chunks: the bytes received so far and the image length (16 R419). -/
structure BootAsm where
  bytes : List Byte
  len : Nat
  /-- Broadcasts of the index that a later FIRST has cut off: next byte offset and image length (16 R428). -/
  stale : List (Nat × Nat) := []
deriving DecidableEq, Repr

/-- Boot, firmware banks and update (16). -/
structure BootSt where
  /-- The five VDDIO banks: 0 none reported, 1 good at 1.8 V, 2 good at 3.3 V, 3 not good, 4 unpowered (17 R433, 18 R445). -/
  banks : List (Nat × Nat) := []
  /-- A greenware image of this device has been fired or reverted: its window has closed (16 R426). -/
  trialOver : Bool := false
  /-- The staged delta was read poisoned (14 R385, 16 R424). -/
  deltaBad : Bool := false
  /-- TEST_EN sampled high: the core does not start (17 R434). -/
  testEn : Bool := false
  /-- The BAR2 window of SRAM (16 R413). -/
  bar2 : List (Nat × Byte) := []
  /-- A verification runs on this image (16 R412). -/
  verifying : Option Image := none
  /-- Assemblies in progress, by image index (16 R419, R420). -/
  asm : List (Nat × BootAsm) := []
  /-- The images kept for the subtree (16 R420). -/
  kept : List Image := []
  /-- The running image, or the verified one whose cores are loading, and the one in the other bank (16 R414, R424). -/
  running : Image := {}
  other : Option Image := none
  /-- The delta that a reconstruction works on (16 R424). -/
  delta : List Byte := []
  /-- A revert is due at the next tick (16 R426). -/
  revertDue : Bool := false
  /-- When the new image became greenware (16 R426). -/
  greenFrom : Nat := 0
  /-- ARM accepted: the first tick is awaited (16 R416). -/
  armed : Bool := false
  /-- A commit has been accepted since reset (16 R416). -/
  anyCommit : Bool := false
  /-- The next chunk of each peer boot in progress, by port (16 R422). -/
  peer : List (Nat × Nat) := []
  /-- A soft reset through TUN acts 10 µs later (16 R407). -/
  softDue : Bool := false
  /-- A confirmed RESET resets the core once the response on this port has left (10 R274). -/
  coilDue : Option Nat := none
  /-- Boot-mode ports run (16 R420). -/
  bootMode : Bool := false
deriving DecidableEq, Repr

/-! Events and management (03). -/

/-- An entry of the tile-event queue (03 R77). -/
structure TqEntry where
  page : Nat
  port : Nat
  node : Nat
  subtree : Bool
  bits : Nat
  epoch : Nat
  more : Bool
deriving DecidableEq, Repr

/-- Events on their way to the host or the sender (03 R74, R76, R77). -/
structure EvtSt where
  /-- MSI-X vectors with a message due, once for each message, oldest first; the pending bits of masked vectors; and when each vector
      last sent a message. -/
  due : List Nat := []
  pba : List Nat := []
  last : List (Nat × Nat) := []
  /-- The tile-event queue. -/
  tq : List TqEntry := []
  /-- Tile: bits that became pending-and-enabled in the closing epoch, by page. -/
  fresh : List (Nat × Nat) := []
  /-- Pairs already reported, by page (03 R76: never a second time). -/
  sent : List (Nat × Nat) := []
deriving DecidableEq, Repr

/-- An outstanding request of the TUN page (03 R79). -/
structure TunReq where
  tag : Nat
  node : Nat
  port : Nat
  write : Bool
  len : Nat
  buf : Nat
  time : Nat
deriving DecidableEq, Repr

/-- A queued response (03 R81). -/
structure TunRsp where
  tag : Nat
  status : Nat
  word : Word32
  buf : Option Nat
deriving DecidableEq, Repr

/-- The TUN page's requests and responses (03 R79 to R81). -/
structure TunSt where
  out : List TunReq := []
  rsp : List TunRsp := []
deriving DecidableEq, Repr

/-- Management requests waiting to execute in a device (10 R259). -/
structure MgmtSt where
  queue : List (Nat × MgmtReq) := []
  /-- The port and the request that were read last: what a read of an empty queue returns (10 R265). -/
  last : Option (Nat × MgmtReq) := none
  /-- Assignments that wait for the tick of their epoch: epoch, node, ranges of ports 2 to 15 (01 R18). -/
  assign : List (Nat × Nat × List (Nat × Nat)) := []
deriving DecidableEq, Repr

/-! Commits and frames (02). -/

/-- A commit in validation or pending: the epoch at which it applies, the targets of the commits merged into it as they were written or
    as their markers carry them, and the snapshot of the shadow words. -/
structure Commit where
  target : Nat
  origins : List Nat
  snap : List (Nat × Word32)
  /-- Tile: the wall-wide words of its marker, which the snapshot holds too (02 R52, 10 R257). -/
  wide : Option (List Word32 × Word32) := none
  /-- Tile: the targets of the markers of the wall and of the recovery markers that it was taken for (02 R52), and the place of its snapshot in
      the order of taking. -/
  marks : List Nat := []
  recs : List Nat := []
  order : Nat := 0
deriving DecidableEq, Repr

/-- The commit machinery (02 R45 to R52, 03 R71). -/
structure CmtSt where
  /-- The commit in validation and the time of its write (R45, R47), and what R47 made of it at the write: the epoch at which it applies and
      the commit-wide code that it earns; none before the first tick. -/
  check : Option (Commit × Nat) := none
  judged : Option (Nat × Nat) := none
  /-- Pending commits, lowest target first (R47). -/
  pend : List Commit := []
  /-- COMMIT_TARGET of the TICKs: the target of the latest commit applied at a tick (10 R256); none reads all ones. -/
  latest : Option Nat := none
  /-- EPOCH_LOAD is armed (R72). -/
  loadArmed : Bool := false
  /-- Tile: targets applied, and targets rejected in its own part (R51, R52). -/
  applied : List Nat := []
  rejected : List Nat := []
  /-- Tile: snapshots taken so far, which orders those that apply at one tick (R52). -/
  taken : Nat := 0
  /-- R461 bit 0: the last commit received was rejected in part. -/
  lastRejected : Bool := false
  /-- EPOCH_MISS was reported in the frame that the last tick closed (01 R461 bit 9), and in the frame in progress. -/
  missed : Bool := false
  missNow : Bool := false
deriving DecidableEq, Repr

/-- The frame clock and the frame in progress (02, 04 R85 to R88, R108). Times are on the local clock. -/
structure FrmSt where
  /-- The device has taken its first tick. -/
  ticked : Bool := false
  /-- Time of the tick that began the epoch in progress, and the planned time of the next one. -/
  tickTime : Nat := 0
  nextTick : Nat := 0
  /-- Sender: the tick positions lie at cadence point j of the applied rate plus `cadBase`; the last tick took point `cadN`
      (04 R86). The next tick takes point `planN` with base `planBase`. -/
  cadN : Int := 0
  cadBase : Int := 0
  planN : Int := 0
  planBase : Int := 0
  /-- Sender: a jump re-lock: the epoch E of the moved tick, its displacement, the step of the time base in 2^-16 ns (04 R96). -/
  jump : Option (Nat × Int × Int) := none
  /-- The frame in progress is the hold frame of a jump re-lock (04 R96). -/
  hold : Bool := false
  /-- Tile: the TICK received for the next epoch, and the port on which it came. -/
  rx : Option TickBody := none
  rxPort : Nat := 0
  /-- Tile: consecutive ticks without a TICK, and held frames in a row (02 R38). -/
  missing : Nat := 0
  /-- Tile: the transition in progress is DARK (05 R133). -/
  transDark : Bool := false
  /-- Tile: the epoch of a missed commit that changed the frame period, until a commit changes it here (05 R134). -/
  stale : Option Nat := none
  /-- Frames composed late in a row (02 R44). -/
  missRun : Nat := 0
  /-- Marker copies launched for the next tick (02 R39). -/
  copies : Nat := 0
  /-- The TICK of the next epoch has been launched (02 R39 step 4). -/
  tickOut : Bool := false
  /-- Ports whose BAND traffic has stopped for this frame (02 R39 step 5). -/
  stopped : List Nat := []
deriving DecidableEq, Repr

/-! Coil ports, redundancy and hubs (01, 10). -/

/-- A packet that waits at an egress: its class, the port it came in on (none for one of the device's own), and the packet (10 R263,
    R266, R269). -/
structure Held where
  cls : Nat
  arrival : Option Nat
  out : Output
  /-- When it came to the egress, on the local clock. -/
  since : Nat
deriving DecidableEq, Repr

/-- What a coil port holds beside its registers. -/
structure CoilSt where
  /-- Uncorrectable codewords in a row (10 R251). -/
  ucRun : Nat := 0
  /-- Management requests that wait in the ingress buffer for room in their share (10 R259, R265). -/
  wait : List MgmtReq := []
  /-- The outstanding link beacon request: its sequence number and launch time (04 R105). -/
  seq : Nat := 0
  t1 : Nat := 0
  /-- The last 64 delays of the receive direction, in 2^-16 ns, newest first (04 R105). -/
  delays : List Int := []
  /-- When sender beacons of each origin last arrived (10 R462). -/
  seen : List (Nat × Nat) := []
  /-- When a valid sender beacon within ±2 µs of the tick phase last arrived (10 R284). -/
  good : Option Nat := none
  /-- The partner accepted a far-end loop (10 R272). -/
  acked : Bool := false
  /-- First epoch whose TICK a SERVING port launches (10 R283). -/
  serveFrom : Nat := 0
  /-- Largest hop count that a discovery response on this port reported (01 R34, 10 R274). -/
  depth : Nat := 0
  /-- The transit time of the port as last computed, in 2^-16 ns, and the peer delay that it was computed from (01 R34). -/
  transit : Nat := 0
  transitFrom : Int := 0
  /-- The loop this port runs for its partner ends after these seconds (10 R272). -/
  loopSecs : Nat := 0
  /-- BAND packets of a sender that wait to be launched (02 R42). -/
  bands : List BandPkt := []
  /-- Packets that the egress holds, oldest first (10 R263). -/
  egress : List Held := []
deriving DecidableEq, Repr

/-- Upstream election, fail-over and relinquishing (01 R10 to R12, 10 R278 to R285). -/
structure RedSt where
  /-- Tile: the elected upstream port. -/
  upstream : Option Nat := none
  /-- The upstream port that a fail-over left; FEEDREQs go out of the other port of the pair (10 R280). -/
  oldUp : Nat := 0
  /-- Tile in FAILOVER: the next valid ACTIVE beacon on the pair elects its port (10 R281). -/
  electing : Bool := false
  /-- Tile: its sender beacons carry SUBCOIL, and its hop count (10 R255, R463). -/
  subcoil : Bool := false
  hops : Nat := 0
  /-- Copies of RELINQUISH sent, and whether the watchdog reset follows (10 R279). -/
  relCopies : Nat := 0
  relWatchdog : Bool := false
  /-- Tile in FAILOVER: FEEDREQs repeat until an ACTIVE beacon arrives (10 R280). -/
  repeating : Bool := false
  /-- Bridging frames left in the fail-over (10 R281). -/
  bridge : Nat := 0
  /-- The tile is dark after the bridge (10 R281, R282). -/
  darkFrames : Bool := false
  /-- Last epoch for which a TICK was received (10 R262). -/
  lastTick : Nat := 0
  /-- Last COMMIT_TARGET received (10 R282). -/
  lastTarget : Option Nat := none
  /-- Sender: watched ports on which no far beacon has arrived for 1 ms (10 R285). -/
  broken : List Nat := []
  /-- Nodes to serve from an epoch on: port, node, epoch (10 R283). -/
  serve : List (Nat × Nat × Nat) := []
  /-- When the upstream port was elected (10 R281). -/
  since : Nat := 0
deriving DecidableEq, Repr

/-- The last STATUS of a child: its node, body, and the hub ticks since it arrived (01 R28). -/
structure Report where
  node : Nat
  body : StatusBody
  age : Nat
deriving DecidableEq, Repr

/-- A class raised in the subtree in the closing epoch: block type, devices seen with the count each adds, first node (01 R29). -/
structure SubClass where
  cls : Nat
  nodes : List (Nat × Nat)
  first : Nat
deriving DecidableEq, Repr

/-- What a hub keeps of its subtree (01 R28, R29). -/
structure HubSt where
  reports : List Report := []
  classes : List SubClass := []
  summary : Summary := Summary.zero
deriving DecidableEq, Repr

/-! Reference, time and the loop engine (04). -/

/-- A source of the lock: 1 PTPA, 2 PTPB, 3 REFA, 4 REFB (04 R93). -/
structure SrcSt where
  usable : Bool := false
  /-- Usable without interruption since this time, and usable measurements in a row (R93). -/
  since : Option Nat := none
  run : Nat := 0
  qualified : Bool := false
  /-- When it last qualified (R95). -/
  qualAt : Option Nat := none
  /-- REF: the last edge; edge intervals in a row that differ from k × T by more than 100 ppm, and the multiple of T that they all
      match, if any; a rate mismatch stands (R99). -/
  last : Option Nat := none
  mism : Nat := 0
  follow : Option Nat := none
  bad : Bool := false
  /-- The last measured phase against the frame phase, and for PTP the time base less the source's time, in 2^-16 ns (R94). -/
  phase : Int := 0
  tErr : Int := 0
deriving DecidableEq, Repr

/-- An instance of the loop engine: integrator, output, last input and error, feed-forward and memory term (04 R101, R102). -/
structure LoopSt where
  i : Int := 0
  u : Int := 0
  x : Int := 0
  e : Int := 0
  f : Int := 0
  m : Int := 0
deriving DecidableEq, Repr

/-- A PTP instance (04 R91). -/
structure PtpSt where
  /-- Foreign masters, at most 8, newest data of each. -/
  masters : List Announce := []
deriving DecidableEq, Repr

/-- The lock of the frame clock (04 R93 to R103, R107 to R109). -/
structure ClkSt where
  /-- The time base less the local clock, in 2^-16 ns (R82; log 4). -/
  tb : Int := 0
  /-- Sender: the frame clock has its place (R97). -/
  placed : Bool := false
  src : List (Nat × SrcSt) := []
  /-- Displaced measurements in a row that agree, newest first, in 2^-16 ns (R96). -/
  disp : List Int := []
  /-- Consecutive measurements within ±100 ns, or beacon offsets within ±10 ns (R96, R107). -/
  run : Nat := 0
  /-- A source has been taken since reset (R98). -/
  taken : Bool := false
  /-- Time spent in LOCKED since a source was taken with the output of instance 0 during it, newest first, and when the newest
      stretch began (R98). -/
  hist : List (Nat × Int) := []
  histFrom : Option Nat := none
  /-- When holdover began (R98). -/
  holdFrom : Option Nat := none
  /-- A source that is taken at its next measurement (R93). -/
  next : Option Nat := none
  /-- An armed PPS_LOAD (R83, R90). -/
  ppsArm : Bool := false
  /-- A requested step of the time base: the epoch at whose tick it applies, and the step in ns (R83). -/
  step : Option (Nat × Int) := none
  /-- Tile: the last valid beacon on the upstream port, and the next one is the first after an election (R109). -/
  beacon : Nat := 0
  fresh : Bool := false
  /-- The instances of the loop engine, and the two PTP instances. -/
  loops : List (Nat × LoopSt) := []
  ptp : List (Nat × PtpSt) := []
deriving DecidableEq, Repr

/-! DRAM (14). -/

/-- An entry of a write queue: the 64-byte line, by BAR4 offset div 64, and its byte mask (14 R382). -/
structure WEntry where
  line : Nat
  mask : Nat
deriving DecidableEq, Repr

/-- A DRAM channel (14 R382 to R391). -/
structure ChSt where
  /-- The write queue, oldest first, at most 32 lines. -/
  wq : List WEntry := []
  /-- Refreshes owed by rank (R384). -/
  owed : List (Nat × Nat) := []
  /-- Uncorrectable reads in each of the last 1,000 ms, newest first (R386). -/
  bins : List Nat := []
  /-- Refreshes pulled in ahead of time by rank, and ranks whose refresh beyond the eighth waits for a replay (R384, R392). -/
  ahead : List (Nat × Nat) := []
  urgent : List Nat := []
  /-- Open pages: by bank, one more than the open row (R382). -/
  openRows : List (Nat × Nat) := []
  /-- The retry buffer, newest first: line of each command and whether it writes (R387). -/
  retry : List (Nat × Bool) := []
  /-- An ALERT_n is being handled, and replays in a row that met another one (R387, R388). -/
  alert : Bool := false
  replays : Nat := 0
  /-- The next line of the patrol scrub within the channel, and when the last pass ended (R389). -/
  scrub : Nat := 0
  passEnd : Nat := 0
deriving DecidableEq, Repr

/-- A read of the host through BAR4: offset, length, and the errors found in it (14 R381, R385). -/
structure HostRead where
  off : Nat
  len : Nat
  errs : List (Nat × Nat)
deriving DecidableEq, Repr

/-- The DRAM controller and its memory. -/
structure DramSt where
  /-- The bytes of DRAM by BAR4 offset; an unlisted byte reads as 0 (log 14). -/
  mem : List Host.Cell := []
  /-- 64-bit words, by BAR4 offset div 8, whose check pattern reads as uncorrectable (R385). -/
  poison : List Nat := []
  /-- 64-bit words that hold a single-bit error which the scrub has not rewritten yet (R385, R389). -/
  weak : List Nat := []
  /-- Reads of the host that wait while a channel is stopped, oldest first (R391, R392). -/
  reads : List HostRead := []
  /-- Channels initialised at start-up (R380). -/
  chans : Nat := 0
  ch : List (Nat × ChSt) := []
  /-- The target set of a frequency change in progress (R391). -/
  target : Nat := 0
deriving DecidableEq, Repr

/-! MRAM, heat and light phase (13). -/

/-- The firmware record of block 2,048: format version, trim (ps), residual (10 ps) and the 12 THM words 0x040 to 0x06C (13 R355). -/
structure FwRecord where
  ver : Nat
  trim : Int
  residual : Int
  thm : List Word32
deriving DecidableEq, Repr

/-- The MRAM: it outlasts every reset (13 R349). -/
structure MramSt where
  /-- Its 32-bit words by logical block × 1,024 + index; an unlisted word reads 0 (log 16). -/
  mem : List (Nat × Word32) := []
  /-- The generation tag of each logical block; unlisted: 1, the factory's (R352). -/
  tags : List (Nat × Nat) := []
  /-- Free physical blocks of the pool, without retired ones (R359). -/
  pool : Nat := 256
  /-- The firmware record, when block 2,048 holds valid data (R355). -/
  record : Option FwRecord := none
  /-- Complete save records: slot and generation (R357). -/
  ring : List (Nat × Nat) := []
deriving DecidableEq, Repr

/-- A foreground request on the MRAM (13 R358). -/
inductive MramOp where
  /-- Write of a block through a staging buffer. -/
  | write (block buf : Nat)
  /-- Read of a block into a staging buffer. -/
  | read (block buf : Nat)
  /-- Save of the firmware record; `host` marks a SETTINGS_SAVE. -/
  | record (host : Bool)
  /-- A calibration reload (11 R303). -/
  | reload
  /-- The firmware record is rewritten with defaults for another settings format (16 R427). -/
  | defaults
deriving DecidableEq, Repr

/-- A unit of background work on the MRAM (13 R358). -/
inductive BgUnit where
  /-- One scrub read with what it finds: corrected bits and uncorrectable words (R359). -/
  | scrub (corrected uncorr : Nat)
  /-- A wear move of a block (R359). -/
  | wear (block : Nat)
  /-- Block `k` of a save record (R357). -/
  | cone (k : Nat)
  /-- The end of a scrub pass, wear moves included (R360). -/
  | passEnd
deriving DecidableEq, Repr

/-- Work in progress on the MRAM. -/
structure NvsSt where
  /-- Foreground requests, oldest first; the first one runs unless a background unit does. -/
  fg : List MramOp := []
  /-- Background units, oldest first, and whether the first one runs. -/
  bg : List BgUnit := []
  bgRun : Bool := false
  /-- The next block of the scrub, the blocks corrected in this pass and in the pass before (R359), the end of the last pass. -/
  scrub : Nat := 0
  corr : List Nat := []
  corrBefore : List Nat := []
  passEnd : Nat := 0
  /-- The slot that the save in progress writes (R357). -/
  slot : Nat := 0
  /-- A trim that is live but not yet saved (R366). -/
  trimDue : Bool := false
  /-- A record of defaults that was refused is still due (16 R427). -/
  defaultsDue : Bool := false
deriving DecidableEq, Repr

/-- A temperature sensor (13 R368, R369). Temperatures in 1/16 °C. -/
structure SensorSt where
  /-- Enabled by an applied commit and noticed; without a valid reading so far; broken. -/
  on : Bool := false
  pending : Bool := false
  broken : Bool := false
  temp : Int := 0
  /-- Attempts without acknowledge in a row; the last raw word and when it last changed. -/
  nacks : Nat := 0
  raw : Nat := 0
  changed : Nat := 0
  /-- The raw words of the last valid readings in a row that all differ, newest first. -/
  good : List Nat := []
  /-- Readings in a row at 95 °C or above. -/
  hot : Nat := 0
deriving DecidableEq, Repr

/-- Sensors, die model, throttles and cone counters (13 R361, R368 to R374). -/
structure ThmSt where
  sens : List (Nat × SensorSt) := []
  /-- Live board and die temperatures (1/16 °C) and rail power (mW): the registers hold during a light-phase run (R367). -/
  tBoard : Int := 0
  tDie : Int := 0
  power : Nat := 0
  /-- Case above ambient and junction above case in 2^-16 °C. -/
  tc : Int := 0
  tj : Int := 0
  /-- Each rail monitor's last power and its missed updates in a row. -/
  mons : List (Nat × Nat) := []
  /-- The multiplier that the die throttle asks for while it is below M, and the finest sampler mode that it allows (R373). -/
  mHeld : Option Nat := none
  modeHeld : Nat := 0
  /-- Cone counters by zone, and the sums of the frame in progress (R361). -/
  cone : List (Nat × Nat) := []
  add : List (Nat × Nat) := []
  /-- Telemetry of save records: the time in LIT, and the quenches since the core's reset (R357, R374; log 20). -/
  lit : Nat := 0
  quenches : Nat := 0
deriving DecidableEq, Repr

/-- A light-phase run in progress (13 R364, R365). Times in ps from the tile's tick. -/
structure PhcRun where
  e0 : Nat
  /-- Trim and residual before the run. -/
  oldTrim : Int
  oldResidual : Int
  /-- The edges of the flash frame in progress. -/
  refT : Option Int
  lightT : Option Int
  /-- Both edges of each flash that had them, newest first, and the flashes that lacked one. -/
  pairs : List (Int × Int)
  missed : Nat
  /-- The error found at step 3, in ps. -/
  err : Int := 0
deriving DecidableEq, Repr

/-- The light-phase trim and run (13 R362 to R367). -/
structure PhcSt where
  run : Option PhcRun := none
  /-- The applied trim and the final one that a save holds, in ps, and the residual in 10 ps. -/
  trim : Int := 0
  final : Int := 0
  residual : Int := 0
deriving DecidableEq, Repr

/-- The calibration working copy beside COR table 0 (11 R303). -/
structure CorSt where
  /-- Records that act as identity although CAL_VALID reads 1: their MRAM words were uncorrectable (13 R354). -/
  identity : List Nat := []
  /-- The latched bytes 0 to 3 of a record that the host writes: record and word. -/
  latch : Option (Nat × Word32) := none
  /-- A DEBT_CLR waits for the tick (11 R306). -/
  debtClr : Bool := false
  /-- When the reload in progress began, and the records that it has copied (11 R303). -/
  reloadAt : Nat := 0
  copied : Nat := 0
deriving DecidableEq, Repr

/-- A CAMSYNC output (05 R127, R129): the pulse in progress, its end, and when the last pulse ended. -/
structure CsSt where
  active : Bool := false
  until_ : Nat := 0
  /-- The pulse is active low, by the configuration of its frame (R128). -/
  low : Bool := false
deriving DecidableEq, Repr

/-- The display schedule beside its registers (05). -/
structure SchSt where
  cs : List (Nat × CsSt) := []
deriving DecidableEq, Repr

/-- A validation result: page, code and OFFSET (03 R68). -/
structure CfgErr where
  page : Nat
  code : Nat
  off : Nat
deriving DecidableEq, Repr

/-- A layer beside its registers (08 R189 to R192). -/
structure LayerSt where
  /-- Signalled surfaces of a stream source with the time of their signal, newest first (02 R55). -/
  sigs : List (Nat × Nat) := []
  /-- Host buffers that READY signalled, with the time of the write, newest first (08 R189). -/
  host : List (Nat × Nat) := []
  /-- What the frame in progress shows: 0 nothing, 1 the leased buffer, 2 BLACK. -/
  mode : Nat := 0
  /-- Signalled buffers that a violation marked before their latch. -/
  marked : List Nat := []
  /-- The time from the fence of the buffer latched at the last tick to that tick; none when nothing was latched (15 R398). -/
  age : Option Nat := none
deriving DecidableEq, Repr

/-! Network, streams, decoder and preview (06, 07, 08). -/

/-- A NET port beside its registers (06 R141, R142). -/
structure NetPort where
  /-- When each frame in the transmit queue was handed over, oldest first. -/
  enq : List Nat := []
  /-- When a version 1 and a version 2 querier were last heard (06 R141). -/
  igmp1 : Option Nat := none
  igmp2 : Option Nat := none
deriving DecidableEq, Repr

/-- Unsolicited reports or leaves still due for a stream leg (06 R141). -/
structure IgmpDue where
  port : Nat
  stream : Nat
  leg : Nat
  group : Nat
  src : Nat
  leave : Bool
  left : Nat
deriving DecidableEq, Repr

/-- An entry of the timestamp queue (04 R113). -/
structure TsEntry where
  id : Nat
  port : Nat
  time : Nat
deriving DecidableEq, Repr

/-- The network ports. -/
structure NetSt where
  ports : List (Nat × NetPort) := []
  reports : List IgmpDue := []
  tsq : List TsEntry := []
deriving DecidableEq, Repr

/-- A picture of a kind 0 stream in reception: its RTP timestamp, when its first packet came, its field, its runs of samples by line and first
    pixel, whether a packet of it was lost on both legs, and whether it is dropped (06 R143, R148). -/
structure PicAsm where
  rtp : Nat
  start : Nat
  bottom : Bool
  segs : List (Nat × Nat × List Pixel)
  lost : Bool
  dead : Bool
deriving DecidableEq, Repr

/-- A stream source: STR0 to 15, then SDI0 to 3 (06 R144 to R152). -/
structure StrSt where
  /-- The highest accepted sequence number, extended; the lowest one in the reorder window; the next one to deliver. -/
  hi : Option Nat := none
  low : Nat := 0
  next : Nat := 0
  /-- Numbers in the window that arrived on each leg, and packets that wait for their turn, by number, with the time of their arrival. -/
  legA : List Nat := []
  legB : List Nat := []
  buf : List (Nat × Nat × Rtp) := []
  /-- Kind 0: the picture in reception, and whole ones on their way to DRAM, oldest first (R143, R147). -/
  pic : Option PicAsm := none
  whole : List PicAsm := []
  /-- A picture that started before this time is dropped (R148). -/
  since : Nat := 0
  /-- When the last ready surface was signalled. -/
  readyAt : Nat := 0
deriving DecidableEq, Repr

/-- An access unit in a bitstream ring (07 R163, R169): it has a slice of which header data arrived, IRAP, a sub-layer non-reference picture,
    TemporalId, its first byte as counted over everything written and its bytes; slices that arrived whole; the IRAP at which a stream
    restarts after SKIP (R174). -/
structure Au where
  vcl : Bool := false
  irap : Bool := false
  nonRef : Bool := false
  tid : Nat := 0
  first : Nat := 0
  len : Nat := 0
  slices : Nat := 0
  restart : Bool := false
deriving DecidableEq, Repr

/-- A picture in the DPB (07 R164, R166, R176): its place, picture order count, whether it serves as a reference and waits for output, pictures
    decoded while it waits, its SPS, parity, timestamp and CONCEALED mark. Its samples are in DRAM. -/
structure DpbPic where
  slot : Nat
  poc : Int
  ref : Bool
  wait : Bool
  latency : Nat
  sps : Sps
  bottom : Bool
  rtp : Nat
  conc : Bool
deriving DecidableEq, Repr

/-- A decoded stream (07). -/
structure DecSt where
  /-- Whole access units not yet decoded, oldest first; the one being received; the NAL unit being put together from fragments. -/
  aus : List Au := []
  cur : Au := {}
  frag : Option (List Byte) := none
  /-- The RTP timestamp of the access unit in reception; it has been discarded and counted. -/
  ts : Option Nat := none
  gone : Bool := false
  /-- Bytes written so far, of which the ring holds the last; the receiver discards up to the next IRAP; NAL units that may belong to it. -/
  wp : Nat := 0
  skip : Bool := false
  held : List (List Byte) := []
  /-- An IRAP has started the stream; RASL pictures of the IRAP in force are discarded (R174). -/
  started : Bool := false
  rasl : Bool := false
  /-- The SPS in force is unsupported or does not match: 4 or 5 as in DSTATE, else 0 (R162). -/
  verdict : Nat := 0
  /-- The picture in decode has reached its budget (R175). -/
  late : Bool := false
  /-- The DPB, and whether the next field without a parity of its own is a bottom field (R166). -/
  dpb : List DpbPic := []
  nextBottom : Bool := false
  /-- The most recent decoded picture in output order: its order count and its 10-bit samples (R176). -/
  last : Option (Int × List (List Int) × List (List Int) × List (List Int)) := none
deriving DecidableEq, Repr

/-- The decoder: its streams, the pictures of the last 100 ms (time and luma samples), the LIVE streams that are shedding. -/
structure DecAll where
  st : List (Nat × DecSt) := []
  recent : List (Nat × Nat) := []
  shedding : List Nat := []
deriving DecidableEq, Repr

/-- The preview (06 R155, R156; 08 R205 to R207). -/
structure PrvSt where
  /-- The capture: 0 none, 1 armed, 2 running, and the surface that it writes. -/
  cap : Nat := 0
  surface : Nat := 0
  /-- The last complete surface, and the one being sent. -/
  done : Option Nat := none
  sending : Option Nat := none
  /-- Packets of the frame that wait to leave: number and launch time on the time base; the RTP timestamp of the frame. -/
  queue : List (Nat × Nat) := []
  rtp : Nat := 0
  /-- The extended sequence number of the next packet; lines of the frame that were late, with the pixels that the output stage had of each
      (06 R155; 08 R207). -/
  seq : Nat := 0
  late : List (Nat × Nat) := []
deriving DecidableEq, Repr

/-- The composition of the frame in progress (08 R199 to R204). Lines are keyed by feed × 16,384 + line. -/
structure CmpSt where
  /-- The next line of each feed. -/
  next : List (Nat × Nat) := []
  /-- Lines as composed or filled, and as handed on after sagger actions. -/
  canvas : List (Nat × List Pixel) := []
  outc : List (Nat × List Pixel) := []
  /-- A line of the frame was filled, or was uncomposed at the first T_stop (R202; 02 R44). -/
  filled : Bool := false
deriving DecidableEq, Repr

/-- A sagger region beside SAG table 1 (08 R209 to R213). -/
structure RegSt where
  /-- The last compared CRC mismatched; the action in force from that; it trips in this frame, and in the next. -/
  mism : Bool := false
  force : Bool := false
  trip : Bool := false
  tripNext : Bool := false
  /-- Its CRC of this frame is complete. -/
  done : Bool := false
  /-- The half of its saved space that holds the last frame that matched. -/
  saved : Option Nat := none
  /-- Its saved copy came back poisoned in the frame in progress (14 R385). -/
  poisoned : Bool := false
deriving DecidableEq, Repr

/-! Mapping and glaze (09). -/

/-- A segment of the frame in progress: descriptor, feed, band, SX. -/
structure SegKey where
  desc : Nat
  feed : Nat
  band : Nat
  sx : Nat
deriving DecidableEq, Repr

/-- A device as discovery reported it: lamps configured, lamp limit, region limit (10 R274). -/
structure Found where
  lamps : Nat
  lampLimit : Nat
  regionLimit : Nat
deriving DecidableEq, Repr

/-- The mapping and the glaze engines in the frame in progress, and the devices that discovery reported. -/
structure MapSt where
  /-- Segments dispatched, the segment in each busy engine, and encoded segments that no packet holds yet (R245). -/
  sent : List SegKey := []
  engines : List (Nat × SegKey) := []
  ready : List (SegKey × Seg) := []
  /-- Segments of a band that packets hold: descriptor, feed, band, count. -/
  packed : List (Nat × Nat × Nat × Nat) := []
  /-- FLOOR blocks by descriptor (R238), and busy time by engine in ns (R245). -/
  floors : List (Nat × Nat) := []
  load : List (Nat × Nat) := []
  /-- When the segment in each engine was dispatched (R245). -/
  since : List (Nat × Nat) := []
  /-- Devices by node, as discovery last reported them. -/
  found : List (Nat × Option Found) := []
deriving DecidableEq, Repr

/-! The tile pipeline (11). -/

/-- A segment in the glaze band buffer: its band (2,048 × feed + BY), FORMAT and data (11 R294). -/
structure QSeg where
  band : Nat
  format : Nat
  seg : Seg
deriving DecidableEq, Repr

/-- Field stores and reception (11 R292 to R297). Bands are numbered 2,048 × feed + BY, as in TIL table 0, which holds their selectors. -/
structure TilSt where
  /-- Rows of kept samples, columns −2 to W + 1, by (4 × band + copy) × 16 + line in the band. -/
  store : List (Nat × List Pixel) := []
  /-- FORMAT of the shown content by band, and of what was written in this epoch. -/
  fmt : List (Nat × Nat) := []
  wfmt : List (Nat × Nat) := []
  /-- Segments of this epoch whose samples are written: band, SX, width in 32 columns. -/
  written : List (Nat × Nat × Nat) := []
  /-- The glaze band buffer, oldest first. -/
  queue : List QSeg := []
  /-- Consecutive repeats by band, now and as the last tick left them, and the bands that are stale (R296). -/
  reps : List (Nat × Nat) := []
  before : List (Nat × Nat) := []
  stale : List Nat := []
  /-- A STORE_CLR waits for the tick (R297). -/
  clr : Bool := false
  /-- The frame in progress is dark as a whole, and the feeds that are dark in it (R308). -/
  dark : Bool := false
  darkFeeds : List Nat := []
  /-- The frame in progress shows the images of the frame before (02 R38; 04 R96; 05 R133). -/
  held : Bool := false
  /-- Feeds of which a band was incomplete at the last tick (10 R281). -/
  short : List Nat := []
deriving DecidableEq, Repr

/-- A slot of a frame on its way through computation and the lamp bus: epoch, slot, ordinal among the lit slots, lit, its S_k, the frame's
    first dark slot, and in DIRECT the lamp rows that are computed again (11 R308, 12 R328, R334). -/
structure SlotJob where
  epoch : Nat
  slot : Nat
  ord : Nat
  lit : Bool
  due : Nat
  firstDark : Bool := false
  rows : Option (List Nat) := none
deriving DecidableEq, Repr

/-- A slot computation in progress: its start, the calibration records and the debts of light as they stood then (11 R303, R306, R308, R310;
    12 R338). -/
structure SlotRun where
  job : SlotJob
  start : Nat
  cal : List (Nat × Word32)
  identity : List Nat
  valid : Bool
  /-- The sampler mode of the computation (11 R302, R310), and the words of COR table 3. -/
  mode : Nat
  debts : List (Nat × Word32)
deriving DecidableEq, Repr

/-- A staging bank in use: codes by lamp, and the groups that have still to load it (11 R308, 12 R325). -/
structure Staged where
  job : SlotJob
  codes : List Nat
  left : List Nat
deriving DecidableEq, Repr

/-- The sampler and correction. -/
structure LsmSt where
  /-- Slots of the frame still to compute, in order; the one in progress; the staging banks by number. -/
  todo : List SlotJob := []
  run : Option SlotRun := none
  banks : List (Nat × Staged) := []
  /-- DIRECT: lamp rows computed again in this epoch. -/
  again : List Nat := []
deriving DecidableEq, Repr

/-! The lamp bus (12). -/

/-- A probe armed in a group: driver row, SOLO, the forced columns, and whether its window can come (it was swapped in) (12 R320, R336). -/
structure Probe where
  row : Nat
  solo : Bool
  mask : List Nat
  live : Bool
deriving DecidableEq, Repr

/-- A group of the lamp bus. Codes are keyed driver row × 4,096 + column a (12 R324). -/
structure GrpSt where
  /-- The displayed and the inactive bank of the drivers. -/
  shown : List (Nat × Nat) := []
  idle : List (Nat × Nat) := []
  /-- The load in progress with its start, the slot that the inactive bank holds, DIRECT rows that wait for FLIP. -/
  load : Option (SlotJob × Nat) := none
  loaded : Option SlotJob := none
  flip : Option (List Nat) := none
  /-- Scanning: driver row, sub-period, cycles left in the slot, time scanned in the slot in 0.5 ns. -/
  scan : Bool := false
  row : Nat := 0
  sub : Nat := 0
  cycles : Nat := 0
  half : Nat := 0
  /-- When the slot shown began. -/
  start : Nat := 0
  /-- Sag trims by row (12 R340). -/
  trims : List (Nat × Int) := []
  /-- The probe armed, the one whose window has run and whose READ is due, and a solo probe that is due (12 R336). -/
  arm : Option Probe := none
  fired : Option Probe := none
  solo : Bool := false
  /-- A solo probe of this frame did not fit. -/
  tried : Bool := false
  /-- Lowest reading and largest trim of the frame in progress (12 R345). -/
  senseMin : Option Nat := none
  peak : Int := 0
deriving DecidableEq, Repr

/-- The lamp bus beside its registers. -/
structure LmpSt where
  /-- The live words of pages LMP to DRP and the LMP tables in force since S_0 (12 R333). -/
  regs : List (Nat × Word32) := []
  tabs : List (Nat × Word32) := []
  /-- Slots to come, in order. -/
  plan : List SlotJob := []
  grp : List (Nat × GrpSt) := []
  /-- The start sequence is due at S_0 (R333); CFG words are due in the first load, frames since they were sent (R348). -/
  restart : Bool := false
  cfgDue : Bool := false
  since : Nat := 0
  /-- Flags that act at the next tick or load: DRV_RESET, REINIT, STATUS_RESET (R346, R347). -/
  drvReset : Bool := false
  reinit : Bool := false
  statusReset : Bool := false
  /-- The longest load of the frame in progress, in ns (R344). -/
  longest : Nat := 0
  /-- Sum of f × (65,536 + u) over the windows of the frame in progress, and their number (R341). -/
  drive : Int := 0
  wins : Nat := 0
deriving DecidableEq, Repr

/-! Audio (15). -/

/-- A source of audio: 0 and 1 the AES3 inputs, 2 the TDM input, 3 to 18 the streams (15 R396). -/
structure AudSrc where
  /-- Frames arrive; its clock was lost and has not returned; its rate matched the output clock over the last second it was present
      for (R400, R401). -/
  here : Bool := false
  lost : Bool := false
  locked : Bool := false
  /-- Sample frames that came since the running second of the output clock began, none where it was not present for all of it. -/
  count : Option Nat := none
  /-- The ramp in sample frames: 0 silent, fs/1,000 full (R401). -/
  ramp : Nat := 0
  /-- The input buffer, oldest frame first, and the last frame taken from it (R400). -/
  buf : List (List Nat) := []
  last : List Nat := []
deriving DecidableEq, Repr

/-- The delay line, the ramps and the measurement of M (15 R397 to R402). -/
structure AudSt where
  src : List (Nat × AudSrc) := []
  /-- Ages of the latches of the reference layer, newest first, at most 64 (R398). -/
  ages : List Nat := []
  /-- M in 2^-16 ns (R398). -/
  mean : Nat := 0
  /-- Sample frames written since the ring started, the delay in force, and sample frames since the read position last moved (R399). -/
  wr : Nat := 0
  cur : Nat := 0
  slew : Nat := 0
  /-- The ramp of all outputs in sample frames; a jump and a restart of the ring wait for silence (R399, R402). -/
  ramp : Nat := 0
  jump : Bool := false
  restart : Bool := false
deriving DecidableEq, Repr


/-- The state of the Y96. -/
structure State where
  /-- The role sampled at the release of reset (00 R2, 01 R7). -/
  role : Role
  /-- The family member (00 R3). -/
  member : Member
  /-- The register words, by page × 0x1000 + offset (03 R59). -/
  regs : List (Nat × Word32)
  /-- Tables whose writes take effect at the write, and read-only tables (03 R64), by `tabKey`. -/
  imm : List (Nat × Word32)
  /-- Tables with a pending copy: the applied contents, and the pending copy (03 R64). -/
  tabs : List (Nat × Word32)
  pend : List (Nat × Word32)
  /-- A latched upper half: the word's key and value (03 R61, 04 R84). -/
  latch : List (Nat × Word32)
  /-- The local clock in 2^-16 ns: time since the core left reset; the time base is this plus `clk.tb` (04 R82; log 4). -/
  time : Nat
  aon : Aon
  boot : BootSt
  evt : EvtSt
  tun : TunSt
  mgmt : MgmtSt
  cmt : CmtSt
  frm : FrmSt
  coil : List (Nat × CoilSt)
  red : RedSt
  hub : HubSt
  clk : ClkSt
  drm : DramSt
  mram : MramSt
  nvs : NvsSt
  thm : ThmSt
  phc : PhcSt
  cor : CorSt
  sch : SchSt
  lyr : List (Nat × LayerSt)
  net : NetSt
  str : List (Nat × StrSt)
  dec : DecAll
  prv : PrvSt
  cmp : CmpSt
  sag : List (Nat × RegSt)
  map : MapSt
  til : TilSt
  lsm : LsmSt
  lmp : LmpSt
  aud : AudSt
  /-- What the last command sent out. -/
  out : List Output
  /-- The model's own counter of open values drawn (log 10); not a register of the Y96. -/
  free : Nat
  /-- Commands that wait, first in first out. -/
  pending : List Instr
deriving DecidableEq, Repr

/-- The state after a power-on reset: the core in RESET, every register at its reset value, nothing received. The role is not
    sampled before RESET_RELEASE (00 R2): it stands at sender (log 1). -/
def State.reset : State where
  role := .sender
  member := .y96
  regs := []
  imm := []
  tabs := []
  pend := []
  latch := []
  time := 0
  aon := { cause := 1 }
  boot := {}
  evt := {}
  tun := {}
  mgmt := {}
  cmt := {}
  frm := {}
  coil := []
  red := {}
  hub := {}
  clk := {}
  drm := {}
  mram := {}
  nvs := {}
  thm := {}
  phc := {}
  cor := {}
  sch := {}
  lyr := []
  net := {}
  str := []
  dec := {}
  prv := {}
  cmp := {}
  sag := []
  map := {}
  til := {}
  lsm := {}
  lmp := {}
  aud := {}
  out := []
  free := 0
  pending := []

end Sys2Proof.Machine
end

