-- ==== Sys2Proof/Machine/Ops.lean ====
section
/-!
DEFINITION. The named operations over registers, tables, events, counters, time and outputs that every command's meaning uses.
-/

namespace Sys2Proof.Machine

/-! Register words and fields. -/

/-- The key of the word at a page's byte offset. -/
def regKey (page off : Nat) : Nat := page * 0x1000 + off

/-- `w` bits of a word from bit `lo`. -/
def fieldOf (x : Word32) (lo w : Nat) : Nat := x.toNat / 2 ^ lo % 2 ^ w

/-- A word with `w` bits from bit `lo` replaced by the low bits of `v`. -/
def putField (x : Word32) (lo w v : Nat) : Word32 :=
  BitVec.ofNat 32 (x.toNat - fieldOf x lo w * 2 ^ lo + v % 2 ^ w * 2 ^ lo)

/-- The stored word at a key. -/
def State.word (s : State) (key : Nat) : Word32 := smGet resetWord s.regs key

/-- Store a word at a key. -/
def State.setWord (s : State) (key : Nat) (x : Word32) : State := { s with regs := smSet resetWord s.regs key x }

/-- The key of a field's (first) word. -/
def Fld.key (f : Fld) : Nat := regKey f.page f.off

/-- The value of a field; a field wider than a word goes on in the next word (03 R61). -/
def State.rd (s : State) (f : Fld) : Nat :=
  if f.w ≤ 32 then fieldOf (s.word f.key) f.lo f.w
  else ((s.word f.key).toNat + 2 ^ 32 * (s.word (f.key + 4)).toNat) % 2 ^ f.w

/-- Set a field. -/
def State.wr (s : State) (f : Fld) (v : Nat) : State :=
  if f.w ≤ 32 then s.setWord f.key (putField (s.word f.key) f.lo f.w v)
  else
    (s.setWord f.key (BitVec.ofNat 32 v)).setWord (f.key + 4)
      (putField (s.word (f.key + 4)) 0 (f.w - 32) (v / 2 ^ 32))

/-- Set a flag field. -/
def State.wrB (s : State) (f : Fld) (b : Bool) : State := s.wr f (b2n b)

/-- A field is nonzero. -/
def State.flag (s : State) (f : Fld) : Bool := s.rd f != 0

/-- The applied value of a shadowed field (03 R65). -/
def State.lv (s : State) (f : Fld) : Nat := s.rd f.live

/-- The applied value of a flag. -/
def State.lvB (s : State) (f : Fld) : Bool := s.lv f != 0

/-- The applied value of a signed 32-bit field. -/
def State.lvI (s : State) (f : Fld) : Int := signedOf f.w (s.lv f)

/-- A signed field. -/
def State.rdI (s : State) (f : Fld) : Int := signedOf f.w (s.rd f)

/-- Set a signed field: the two's complement pattern of its width. -/
def State.wrI (s : State) (f : Fld) (v : Int) : State := s.wr f (unsignedOf f.w v)

/-- Set a shadow field and its live copy alike. -/
def State.wrBoth (s : State) (f : Fld) (v : Nat) : State := (s.wr f v).wr f.live v

/-- Count up a 32-bit counter by `n`; it saturates at 0xFFFF_FFFF (03 R66). -/
def State.incBy (s : State) (f : Fld) (n : Nat) : State := s.wr f (min (s.rd f + n) 0xFFFFFFFF)

/-- Count up a counter by one (03 R66). -/
def State.inc (s : State) (f : Fld) : State := s.incBy f 1

/-- Apply a change only when a condition holds. -/
def State.cond (s : State) (b : Bool) (f : State → State) : State := if b then f s else s

/-- Fold a change over a list of units. -/
def State.each {α : Type} (s : State) (xs : List α) (f : State → α → State) : State := xs.foldl f s

/-! Outputs, time and free values. -/

/-- Send something out. -/
def State.emit (s : State) (o : Output) : State := { s with out := s.out ++ [o] }

/-- A command begins: the last command's outputs are gone. -/
def State.start (s : State) : State := { s with out := [] }

/-- A command begins at a reading of the local clock, which never runs backward (log 4). -/
def State.atTime (s : State) (t : Nat) : State := { s with out := [], time := max s.time t }

/-- Draw a value the spec leaves open (log 10). -/
def State.fresh (s : State) : Nat × State := (Config.freeVal s.free, { s with free := s.free + 1 })

/-- Draw an outcome the spec leaves open (log 10). -/
def State.freshB (s : State) : Bool × State := (Config.freeBit s.free, { s with free := s.free + 1 })

/-- The level of the ROLE strap: high or low, open when the ball floats (01 R7). -/
def State.strapHigh (s : State) : Strap → Bool × State
  | .low => (false, s)
  | .high => (true, s)
  | .floating => s.freshB

/-! Roles, members, states. -/

/-- GLB.STATE (16 R408). -/
def State.stateCode (s : State) : Nat := s.rd R.GLB.STATE

/-- Device state codes (16 R408). -/
def stRESET : Nat := 0
def stBISQUE : Nat := 1
def stLOADED : Nat := 2
def stARMED : Nat := 3
def stLIT : Nat := 4
def stHOLD : Nat := 5
def stQUENCHED : Nat := 6

/-- Firmware runs: LOADED or later (16 R408). -/
def State.running (s : State) : Bool := decide (2 ≤ s.stateCode)

/-- The device is in the sender role and its firmware runs. -/
def State.isSender (s : State) : Bool := s.running && (s.role == .sender)

/-- The device is in the tile role and its firmware runs. -/
def State.isTile (s : State) : Bool := s.running && (s.role == .tile)

/-- Coil ports of a member (00, family table). -/
def memberPorts : Member → Nat
  | .y96 => 16
  | .y48 => 4
  | .y24 => 2

/-- Lamp-bus data lanes of a member (00, family table). -/
def memberLanes : Member → Nat
  | .y96 => 64
  | .y48 => 32
  | .y24 => 16

/-- Scan groups of a member: one for each 16 lanes (00, 12 R314). -/
def memberGroups (m : Member) : Nat := memberLanes m / 16

/-- Lamps a member drives (00 R4, family table). -/
def memberLamps : Member → Nat
  | .y96 => 1048576
  | .y48 => 262144
  | .y24 => 65536

/-- MEMBER code (03 R70). -/
def memberCode : Member → Nat
  | .y96 => 1
  | .y48 => 2
  | .y24 => 3

/-- PART code (03 R70). -/
def memberPart : Member → Nat
  | .y96 => 0x96
  | .y48 => 0x48
  | .y24 => 0x24

/-- The die has this coil port. -/
def State.hasPort (s : State) (p : Nat) : Bool := decide (p < (memberPorts s.member))

/-- The coil ports of the die, lowest first. -/
def State.ports (s : State) : List Nat := List.range (memberPorts s.member)

/-- NET ports of a port mode (06 R138). -/
def netCount (mode : Nat) : Nat := if mode = 0 then 2 else 8

/-- The instances of a block on this die (03 R67; fewer COIL and SGP on a Y48 or Y24); the NET ports are those of the applied port mode
    (06 R138). -/
def State.instances (s : State) (b : Blk) : Nat :=
  match b with
  | .coil => (memberPorts s.member)
  | .sgp => (memberGroups s.member)
  | .net => netCount (s.lv (R.NET.PORT_MODE 0))
  | b => b.count

/-- A page answers: it is in the map, the die has the instance, it applies to the role, and in RESET none answers, in BISQUE only
    GLB and FW do (03 R59, R67, 16 R410). -/
def State.pageOn (s : State) (p : Nat) : Bool :=
  match blkOf p with
  | none => false
  | some (b, n) =>
    b.inRole s.role && decide (n < s.instances b) && (s.stateCode != 0) &&
      ((b == .glb) || (b == .fw) || s.running)

/-! Events (03 R73 to R76). -/

/-- The EVT_EN word of a page. -/
def evtEnKey (page : Nat) : Nat := regKey page 0x014

/-- The EVT_PEND word of a page. -/
def evtPendKey (page : Nat) : Nat := regKey page 0x018

/-- The EVT_RAW word of a page. -/
def evtRawKey (page : Nat) : Nat := regKey page 0x010

/-- A bit of a word. -/
def State.wbit (s : State) (key i : Nat) : Bool := (s.word key).toNat.testBit i

/-- Set or clear a bit of a word. -/
def State.setWbit (s : State) (key i : Nat) (b : Bool) : State := s.setWord key (putField (s.word key) i 1 (b2n b))

/-- What an unlisted byte of the vector map reads as: the default map (03 R75); a page that the map does not list starts at 0xFF, no vector
    (DESIGN CHOICE, log 160). -/
def vecDefault (p : Nat) : Nat :=
  match blkOf p with
  | none => 0xFF
  | some (b, n) =>
    match b with
    | .glb | .cmt | .fw => 0
    | .evt => 1
    | .clk | .ref | .ptp | .loop => 2
    | .tsq => 3
    | .tun => 4
    | .red => 5
    | .thm | .nvs => 6
    | .drm => 7
    | .net => 8
    | .sdi => 9
    | .dec => 10
    | .str => 11
    | .lse | .lyr => 12
    | .cmp | .sag => 13
    | .tg => 14 + n
    | .prv => 15
    | .coil => 16 + n
    | .glz => 32 + n
    | .scl | .map => 40
    | .aud => 41
    | .sch => 42
    | _ => 0xFF

/-- The key of a table word: page, table and word index (03 R64). -/
def tabKey (page tab i : Nat) : Nat := (page * 16 + tab) * 2 ^ 22 + i

/-- Two signed 16-bit entries of a coefficient table as a word. -/
def coefPair (a b : Nat) : Word32 := BitVec.ofNat 32 (a + 65536 * b)

/-- Word `i` of a scaler's coefficients at reset: linear interpolation (08 R197). -/
def sclDefault (i : Nat) : Word32 :=
  if i < 256 then
    let f := i / 4
    if i % 4 = 1 then coefPair 0 (1024 - 16 * f) else if i % 4 = 2 then coefPair (16 * f) 0 else 0
  else
    let f := (i - 256) / 4
    if i % 4 = 1 then coefPair (1024 - 16 * f) (16 * f) else 0

/-- Word `i` of the decoder's coefficient sets at reset: linear interpolation (07 R173). -/
def decDefault (i : Nat) : Word32 :=
  let f := i % 128 / 2
  if i % 2 = 0 then coefPair 0 (1024 - 16 * f) else coefPair (16 * f) 0

/-- The L20 value at which segment s of the code map starts (11 R307). -/
def codeSegStart (i : Nat) : Nat :=
  if i < 256 then i
  else if i < 1024 then
    let g := 1 + (i - 256) / 64
    2 ^ (7 + g) + (i - 256) % 64 * 2 ^ (g + 1)
  else 2 ^ 20

/-- C[s] of the code map at reset: a linear map (11 R307). -/
def codeDefault (i : Nat) : Nat := min 65535 ((codeSegStart i + 8) / 16)

/-- What an unlisted table word reads as: the vector map's defaults (03 R75), zone gains of 1.0 and the linear code map (11 R305, R307),
    tick lengths of 8 and UNKNOWN-DARK lamps (12 R326, R337), linear interpolation of the scalers (08 R197) and of the decoder (07 R173),
    the transport tables for 1,000 cd/m² (09 R226, 11 R298); every other table word is 0 (log 2). -/
def tabDefault (k : Nat) : Word32 :=
  if k / 2 ^ 22 = 0x001 * 16 then
    let i := k % 2 ^ 22
    BitVec.ofNat 32 (vecDefault (4 * i) + 256 * vecDefault (4 * i + 1) + 65536 * vecDefault (4 * i + 2) +
      16777216 * vecDefault (4 * i + 3))
  else if k / 2 ^ 22 = 0x0A2 * 16 + 2 then 65536
  else if k / 2 ^ 22 = 0x0A2 * 16 + 1 then (if k % 2 ^ 22 ≤ 1024 then BitVec.ofNat 32 (codeDefault (k % 2 ^ 22)) else 0)
  else if k / 2 ^ 22 = 0x0B0 * 16 + 2 then 8
  else if k / 2 ^ 22 = 0x0B5 * 16 then 0xFFFFFFFF
  else if k / 2 ^ 22 = 0x030 * 16 then decDefault (k % 2 ^ 22)
  else if k / 2 ^ 22 % 16 = 0 ∧ 0x053 ≤ k / 2 ^ 26 ∧ k / 2 ^ 26 ≤ 0x05A ∧ k % 2 ^ 22 < 512 then sclDefault (k % 2 ^ 22)
  else if k / 2 ^ 22 = 0x060 * 16 + 2 then BitVec.ofNat 32 (thrReset 12 (k % 2 ^ 22))
  else if k / 2 ^ 22 = 0x060 * 16 + 3 then BitVec.ofNat 32 (thrReset 16 (k % 2 ^ 22))
  else if k / 2 ^ 22 = 0x0A0 * 16 + 1 then BitVec.ofNat 32 (l20Reset 12 (k % 2 ^ 22))
  else if k / 2 ^ 22 = 0x0A0 * 16 + 2 then BitVec.ofNat 32 (l20Reset 16 (k % 2 ^ 22))
  else 0

/-- A word of a table that takes writes at once, or is read only. -/
def State.immW (s : State) (page tab i : Nat) : Word32 := smGet tabDefault s.imm (tabKey page tab i)

/-- Set a word of such a table. -/
def State.setImm (s : State) (page tab i : Nat) (x : Word32) : State :=
  { s with imm := smSet tabDefault s.imm (tabKey page tab i) x }

/-- The applied word of a table with a pending copy. -/
def State.tabW (s : State) (page tab i : Nat) : Word32 := smGet tabDefault s.tabs (tabKey page tab i)

/-- The word of the pending copy. -/
def State.pendW (s : State) (page tab i : Nat) : Word32 := smGet tabDefault s.pend (tabKey page tab i)

/-- Set a word of the pending copy. -/
def State.setPend (s : State) (page tab i : Nat) (x : Word32) : State :=
  { s with pend := smSet tabDefault s.pend (tabKey page tab i) x }

/-- The byte `i` of a table of bytes. -/
def State.immByte (s : State) (page tab i : Nat) : Nat := fieldOf (s.immW page tab (i / 4)) (8 * (i % 4)) 8

/-- Set a byte of a table. -/
def State.setImmByte (s : State) (page tab i v : Nat) : State :=
  s.setImm page tab (i / 4) (putField (s.immW page tab (i / 4)) (8 * (i % 4)) 8 v)

/-- The MSI-X vector of a page (03 R74). -/
def State.vector (s : State) (page : Nat) : Nat := s.immByte 0x001 0 page

/-- A bit became pending and enabled: a sender owes its page's vector one message more (03 R74), and none for a map byte from 64 to 254,
    to which the spec gives no meaning (DESIGN CHOICE, log 202); a tile notes the pair for the EVENT of the
    next tick unless it has reported that pending bit before (03 R76). -/
def State.deliver (s : State) (page bit : Nat) : State :=
  match s.role with
  | .sender =>
    let v := s.vector page
    if v < 64 then { s with evt := { s.evt with due := s.evt.due ++ [v] } } else s
  | .tile =>
    if (smGet (fun _ => 0) s.evt.sent page).testBit bit then s
    else
      { s with evt := { s.evt with fresh := smMod (fun _ => 0) s.evt.fresh page (fun m => withBit m bit true) } }

/-- Make an event bit pending (03 R73); a newly set and enabled bit is delivered. -/
def State.setPendBit (s : State) (page bit : Nat) : State :=
  let was := s.wbit (evtPendKey page) bit
  let s := s.setWbit (evtPendKey page) bit true
  s.cond (!was && s.wbit (evtEnKey page) bit) (fun s => s.deliver page bit)

/-- An edge occurrence of an event (03 R73). -/
def State.raise (s : State) (e : Evt) : State := s.setPendBit e.page e.bit

/-- The condition of a level event now reads `b`; its rise makes the event pending (03 R73). -/
def State.level (s : State) (e : Evt) (b : Bool) : State :=
  let was := s.wbit (evtRawKey e.page) e.bit
  let s := s.setWbit (evtRawKey e.page) e.bit b
  s.cond (!was && b) (fun s => s.raise e)

/-- The condition of a level event. -/
def State.raw (s : State) (e : Evt) : Bool := s.wbit (evtRawKey e.page) e.bit

/-- Count an occurrence and raise its event. -/
def State.incRaise (s : State) (f : Fld) (e : Evt) : State := (s.inc f).raise e

/-- Move to another device state; every change raises STATE_CHANGE (16 R409). -/
def State.toState (s : State) (c : Nat) : State :=
  if s.stateCode = c then s else (s.wr R.GLB.STATE c).raise R.GLB.ev_STATE_CHANGE

/-! Shadow registers and commits (02, 03 R65). -/

/-- The page of a key is one of the map's. -/
def keyBlk (k : Nat) : Option Blk :=
  match blkOf (k / 0x1000) with
  | none => none
  | some (b, _) => some b

/-- A key is a shadowed register (03 R62). -/
def isShadow (k : Nat) : Bool :=
  match keyBlk k with
  | none => false
  | some b => decide (0x40 ≤ k % 0x1000 ∧ k % 0x1000 < b.shadowEnd)

/-- A key is a live copy (03 R62). -/
def isLive (k : Nat) : Bool :=
  match keyBlk k with
  | none => false
  | some b => decide (0x440 ≤ k % 0x1000 ∧ k % 0x1000 < b.shadowEnd + 0x400)

/-- The shadow words now (02 R45). -/
def State.snapshot (s : State) : List (Nat × Word32) := smKeep isShadow s.regs

/-- A field in a snapshot. -/
def snapRd (snap : List (Nat × Word32)) (f : Fld) : Nat :=
  if f.w ≤ 32 then fieldOf (smGet resetWord snap f.key) f.lo f.w
  else ((smGet resetWord snap f.key).toNat + 2 ^ 32 * (smGet resetWord snap (f.key + 4)).toNat) % 2 ^ f.w

/-- A field written into a snapshot (field of at most one word). -/
def snapWr (snap : List (Nat × Word32)) (f : Fld) (v : Nat) : List (Nat × Word32) :=
  smSet resetWord snap f.key (putField (smGet resetWord snap f.key) f.lo f.w v)

/-- The live copies that a snapshot gives. -/
def liveOfSnap : List (Nat × Word32) → List (Nat × Word32)
  | [] => []
  | (k, x) :: m => (k + 0x400, x) :: liveOfSnap m

/-- Pages whose live copies change when a snapshot applies. -/
def changedPages (live : List (Nat × Word32)) (old : List (Nat × Word32)) : List Nat :=
  ((live.map Prod.fst ++ (smKeep isLive old).map Prod.fst).filter
    (fun k => smGet resetWord live k != smGet resetWord old k)).map (· / 0x1000) |>.dedup

/-- Set every live copy to its snapshot value at one instant and write APPLIED_EPOCH on every page that changed (02 R49, R41). -/
def State.applySnap (s : State) (snap : List (Nat × Word32)) (epoch : Nat) : State :=
  let live := liveOfSnap snap
  let pages := changedPages live s.regs
  let s : State := { s with regs := smPutAll resetWord (smKeep (fun k => !isLive k) s.regs) live }
  s.each pages (fun s p => s.setWord (regKey p 0x020) (BitVec.ofNat 32 epoch))

/-- Pages with a table whose contents in force change when the pending copy applies. -/
def changedTables (pend tabs : List (Nat × Word32)) : List Nat :=
  ((pend.map Prod.fst ++ tabs.map Prod.fst).filter (fun k => smGet tabDefault pend k != smGet tabDefault tabs k)).map
    (· / 2 ^ 26) |>.dedup

/-- The pending copy of every table comes in force (03 R64). -/
def State.putTables (s : State) : State := { s with tabs := s.pend }

/-- Put the whole pending copy of every table in force and write APPLIED_EPOCH on every page with a table that changed (03 R62, R64,
    logs 5 and 50). -/
def State.applyTables (s : State) (epoch : Nat) : State :=
  let pages := changedTables s.pend s.tabs
  s.putTables.each pages (fun s p => s.setWord (regKey p 0x020) (BitVec.ofNat 32 epoch))

/-! The clock. -/

/-- Denominator of the frame rate (04 R85, R86). -/
def rateDen (r1001 : Nat) : Nat := if r1001 = 0 then 1000 else 1001

/-- Time of cadence point n in 2^-16 ns, rounded to the nearest (04 R86). -/
def cadence (num den n : Nat) : Nat := if num = 0 then 0 else roundDiv (n * den * sec1) num

/-- The frame period in 2^-16 ns, rounded (04 R85). -/
def framePeriod (num den : Nat) : Nat := cadence num den 1

/-- Applied rate numerator. -/
def State.rateNum (s : State) : Nat := s.lv R.CLK.RATE_NUM

/-- Applied rate denominator. -/
def State.rateDen (s : State) : Nat := Machine.rateDen (s.lv R.CLK.RATE_1001)

/-- The applied frame period in 2^-16 ns. -/
def State.period (s : State) : Nat := framePeriod s.rateNum s.rateDen

/-- How a configuration is read. -/
abbrev Cfg := Fld → Nat

/-- Rate numerator and denominator of a configuration. -/
def numOf (g : Cfg) : Nat := g R.CLK.RATE_NUM
def denOf (g : Cfg) : Nat := Machine.rateDen (g R.CLK.RATE_1001)

/-- The frame period of one configuration differs from that of another: F, not the pair of fields, decides (04 R88, 05 R132). -/
def periodChanged (g h : Cfg) : Bool := numOf g * denOf h != numOf h * denOf g

/-- Time of cadence point `n` (any sign) in 2^-16 ns, rounded to the nearest (04 R86). -/
def cadI (num den : Nat) (n : Int) : Int := if num = 0 then 0 else roundDivInt (n * (den * sec1 : Nat)) num

/-- A tick position of the sender on the local clock. -/
def State.tickPos (s : State) (j : Int) : Int := cadI s.rateNum s.rateDen j + s.frm.cadBase

/-- The epoch in progress (03 R70). -/
def State.epoch (s : State) : Nat := s.rd R.GLB.EPOCH

/-- Nanoseconds of an integer time. -/
def nsOf (t : Int) : Int := roundDivInt t ns1

/-! Word lists. -/

/-- Update an element of a list by index. -/
def modNth {α : Type} : List α → Nat → (α → α) → List α
  | [], _, _ => []
  | x :: xs, 0, f => f x :: xs
  | x :: xs, n + 1, f => x :: modNth xs n f

/-- Remove the first element that meets a test. -/
def delFirst {α : Type} (p : α → Bool) : List α → List α
  | [] => []
  | x :: xs => if p x then xs else x :: delFirst p xs

end Sys2Proof.Machine
end

