-- ==== Sys2Proof/Machine/Phase.lean ====
section
/-!
DEFINITION. The end of a light-phase run, which redundancy, heat and the run itself share (13 R365 to R367, R377).
-/

namespace Sys2Proof.Machine

/-! The end of a light-phase run (13 R366, R367, R377). -/

def phOK : Nat := 1
def phABORTED : Nat := 2
def phREFUSED : Nat := 3
def phNO_EDGE : Nat := 4
def phNOISY : Nat := 5
def phTRIM_RANGE : Nat := 6

/-- A trim of so many ps in units of 2^-16 ns. -/
def trimUnits (ps : Int) : Int := roundDivInt (ps * 65536) 1000

/-- The temperature registers show the live readings, a broken sensor's as T_BROKEN, unless a run holds them (13 R367, R368). -/
def State.showTemps (s : State) : State :=
  if s.flag R.THM.STALE then s
  else
    let s := ((s.wrI R.THM.T_BOARD s.thm.tBoard).wrI R.THM.T_DIE s.thm.tDie).wr R.THM.P_DIE s.thm.power
    s.each (List.range 8) (fun s n =>
      let x := smGet (fun _ => ({} : SensorSt)) s.thm.sens n
      (s.wrI (R.THM.TEMP n) (if x.on && x.broken then s.lvI R.THM.T_BROKEN else x.temp)).wrB (R.THM.VALID n) (x.on && !x.pending && !x.broken))

/-- A run ends with a result; unless it is OK, the trim and residual before the run apply again, and the next tick moves by the change
    (13 R365 to R367). -/
def State.phcEnd (s : State) (result : Nat) : State :=
  match s.phc.run with
  | none => s
  | some r =>
    let s := ((s.wr R.PHC.RUNNING 0).wr R.PHC.PHASE 0).wr R.PHC.RESULT result
    let trim := if result = phOK then s.phc.trim else r.oldTrim
    let next := ((s.frm.nextTick : Int) + trimUnits trim - trimUnits s.phc.trim).toNat
    let s : State := { s with phc := { s.phc with run := none, trim := trim }, frm := { s.frm with nextTick := next } }
    let s := s.wrI R.PHC.TRIM s.phc.trim
    let s :=
      if result = phOK then (s.inc R.PHC.CNT_OK).raise R.PHC.ev_DONE else (s.inc R.PHC.CNT_FAILED).raise R.PHC.ev_FAILED
    (s.wr R.THM.STALE 0).showTemps

end Sys2Proof.Machine
end

