-- ==== Sys2Proof/Machine/Flags.lean ====
section
/-!
DEFINITION. The check codes the spec gives (10 R247, R252, R253; 08 R209) and the status summary bits (01 R461): the counterparts, in this
block, of a processor's flag computations.
-/

namespace Sys2Proof.Machine

/-! Check codes. -/

/-- `n` steps of a left-shifting CRC of `w` bits over the bits already folded into the register. -/
def crcMsbSteps (w poly : Nat) : Nat → Nat → Nat
  | 0, acc => acc
  | n + 1, acc =>
    crcMsbSteps w poly n (if acc.testBit (w - 1) then (acc * 2 % 2 ^ w) ^^^ poly else acc * 2 % 2 ^ w)

/-- A left-shifting CRC over bytes, most significant bit first (no reflection). -/
def crcMsb (w poly : Nat) (init : Nat) (bs : List Byte) : Nat :=
  bs.foldl (fun acc b => crcMsbSteps w poly 8 (acc ^^^ (b.toNat * 2 ^ (w - 8)))) init

/-- `n` steps of a right-shifting (reflected) CRC with the reflected polynomial. -/
def crcLsbSteps (rpoly : Nat) : Nat → Nat → Nat
  | 0, acc => acc
  | n + 1, acc => crcLsbSteps rpoly n (if acc.testBit 0 then (acc / 2) ^^^ rpoly else acc / 2)

/-- A reflected CRC of 32 bits over bytes, initial value and final XOR all ones. -/
def crcLsb32 (rpoly : Nat) (bs : List Byte) : Nat :=
  (bs.foldl (fun acc b => crcLsbSteps rpoly 8 (acc ^^^ b.toNat)) 0xFFFFFFFF) ^^^ 0xFFFFFFFF

/-- The CHK of a cell header: CRC-8, polynomial 0x07, initial value 0 (10 R247). -/
def crc8 (bs : List Byte) : Nat := crcMsb 8 0x07 0 bs

/-- The HCRC of a packet header: CRC-16, polynomial 0x1021, initial value 0xFFFF (10 R252). -/
def crc16 (bs : List Byte) : Nat := crcMsb 16 0x1021 0xFFFF bs

/-- The packet trailer: CRC-32C, polynomial 0x1EDC6F41, reflected (10 R253). -/
def crc32c (bs : List Byte) : Nat := crcLsb32 0x82F63B78 bs

/-- The sagger signature: CRC-32 of IEEE 802.3, polynomial 0x04C11DB7, reflected (08 R209). -/
def crc32 (bs : List Byte) : Nat := crcLsb32 0xEDB88320 bs

/-! Status summary (01 R461). -/

/-- The smallest eye width of the ports with link, in thousandths of a UI (10 R274, R463); 0 with no such port. -/
def State.worstEye (s : State) : Nat :=
  let w := (s.ports.filter (fun p => s.rd (R.COIL.LINK p) == 3)).map (fun p => min (s.rd (R.COIL.EYE0 p)) (s.rd (R.COIL.EYE1 p)))
  match w with
  | [] => 0
  | x :: xs => xs.foldl min x

/-- The 16 status summary bits of the device (01 R461). -/
def State.summaryBits (s : State) : Nat :=
  let bit (i : Nat) (b : Bool) : Nat := b2n b * 2 ^ i
  bit 0 s.cmt.lastRejected +
  bit 1 (s.flag R.RED.st_FAILOVER) +
  bit 2 (s.stateCode == 5) +
  bit 3 (s.stateCode == 6) +
  bit 4 (s.flag R.THM.st_THROTTLE || s.flag R.THM.st_DIE_THROTTLE) +
  bit 5 (s.flag R.PRB.N_OPEN || s.flag R.PRB.N_SHORT) +
  bit 6 (s.flag R.TIL.REPEATS_LAST) +
  bit 7 (s.ports.any (fun p => s.raw (R.COIL.ev_EYE_LOW p))) +
  bit 8 (s.rd R.CLK.LOCK_STATE != 2) +
  bit 9 s.cmt.missed +
  bit 10 (s.ports.any (fun p => s.flag (R.COIL.st_TOPOLOGY_LOOP p) || s.flag (R.COIL.OUT_OF_BUDGET p))) +
  bit 11 (!s.flag R.COR.CAL_VALID || s.flag R.NVS.st_MIXED) +
  bit 12 (s.flag R.FW.GREEN) +
  bit 13 (s.ports.any (fun p => s.raw (R.COIL.ev_LINK_DOWN p)))

end Sys2Proof.Machine
end

