-- ==== Sys2Proof/Machine/Operands.lean ====
section
/-!
DEFINITION. The operand forms of packets: the coil packet header and trailer, and the bodies of DISCOVER and of the summary, as bytes
(10 R252 to R263, R273, R274).
-/

namespace Sys2Proof.Machine

/-- Packet types (10 R254). -/
def ptIDLE : Nat := 0x0
def ptBEACON : Nat := 0x1
def ptTICK : Nat := 0x2
def ptBAND : Nat := 0x3
def ptCONFIG : Nat := 0x4
def ptMGMT_REQ : Nat := 0x5
def ptMGMT_RSP : Nat := 0x6
def ptEVENT : Nat := 0x7
def ptBOOT : Nat := 0x8
def ptRELINQUISH : Nat := 0x9
def ptFEEDREQ : Nat := 0xA
def ptDISCOVER : Nat := 0xB
def ptDISCOVER_RSP : Nat := 0xC
def ptSTATUS : Nat := 0xD

/-- The largest LEN of each type; types 0xE and 0xF are reserved (10 R254). -/
def maxLen (type : Nat) : Option Nat :=
  [0, 40, 44, 49164, 80, 264, 264, 72, 16400, 16, 16, 104, 96, 44][type]?

/-- The priority class of each type (10 R254). -/
def classOf (type : Nat) : Nat :=
  if type = ptBEACON ∨ type = ptTICK ∨ type = ptCONFIG ∨ type = ptRELINQUISH then 0
  else if type = ptIDLE ∨ type = ptBAND then 2
  else 1

/-- Header word 0 (10 R252). -/
def headerWord0 (h : Header) : Nat :=
  h.type % 16 + 16 * b2n h.bcast + 32 * b2n h.up + 64 * b2n h.stby + 256 * (h.hops % 128) + 32768 * b2n h.noid

/-- The first 8 bytes of a header (10 R252). -/
def headerBytes8 (h : Header) (len : Nat) : List Byte :=
  leBytes 2 (headerWord0 h) ++ leBytes 2 (h.dest % 16384) ++ leBytes 2 (h.src % 16384) ++ leBytes 2 len

/-- The 10 bytes of a header with its HCRC (10 R252). -/
def headerBytes (h : Header) (len : Nat) : List Byte :=
  let b := headerBytes8 h len
  b ++ leBytes 2 (crc16 b)

/-- A packet as bytes: header, body and trailer; `stomp` sends the complement of the correct CRC (10 R252, R253). -/
def packetBytes (h : Header) (body : List Byte) (stomp : Bool) : List Byte :=
  let b := headerBytes h body.length ++ body
  b ++ leBytes 4 (if stomp then 0xFFFFFFFF - crc32c b else crc32c b)

/-- The fields of a header, if its HCRC passes: the header and LEN (10 R252). -/
def parseHeader (bs : List Byte) : Option (Header × Nat) :=
  if bs.length < 10 then none
  else if leAt bs 8 2 ≠ crc16 (bs.take 8) then none
  else
    let w := leAt bs 0 2
    some ({ type := w % 16, bcast := w.testBit 4, up := w.testBit 5, stby := w.testBit 6, hops := w / 256 % 128,
            noid := w.testBit 15, dest := leAt bs 2 2 % 16384, src := leAt bs 4 2 % 16384 }, leAt bs 6 2)

/-- What the trailer of a packet shows (10 R253). -/
inductive Trailer where
  | good
  | bad
  | stomped
deriving DecidableEq, Repr

/-- Check the trailer of a packet whose header says LEN (10 R253). -/
def checkTrailer (bs : List Byte) (len : Nat) : Trailer :=
  if bs.length ≠ 10 + len + 4 then .bad
  else
    let c := crc32c (bs.take (10 + len))
    let t := leAt bs (10 + len) 4
    if t = c then .good else if t = 0xFFFFFFFF - c then .stomped else .bad

/-- The 14-byte time format: seconds, ns and 2^-16 ns (10 R255). -/
def timeBytes (t : Nat) : List Byte :=
  leBytes 8 (t / sec1) ++ leBytes 4 (t % sec1 / ns1) ++ leBytes 2 (t % ns1)

/-- A time from its 14 bytes (10 R255). -/
def timeAt (bs : List Byte) (off : Nat) : Nat :=
  leAt bs off 8 * sec1 + leAt bs (off + 8) 4 * ns1 + leAt bs (off + 12) 2

/-- A path as the 32 bytes of PATH: entry i in bits 4i+3 to 4i (10 R273). -/
def pathBytes (path : List Nat) : List Byte :=
  (List.range 32).map (fun i => BitVec.ofNat 8 (path.getD (2 * i) 0 % 16 + 16 * (path.getD (2 * i + 1) 0 % 16)))

/-- Bytes 0 to 35 of a DISCOVER body (10 R273). -/
def discoverHead (d : Discover) : List Byte :=
  leBytes 1 d.op ++ leBytes 1 d.plen ++ leBytes 1 d.ppos ++ leBytes 1 0 ++ pathBytes d.path

/-- A DISCOVER from the 104 bytes of a mailbox (10 R273, R274). -/
def discoverOf (src : Nat) (bs : List Byte) : Discover :=
  { src := src, op := leAt bs 0 1, plen := leAt bs 1 1, ppos := leAt bs 2 1,
    path := (List.range 64).map (fun i => leAt bs (4 + i / 2) 1 / 16 ^ (i % 2) % 16),
    idWord := leAt bs 36 2, epoch := leAt bs 40 8,
    ranges := (List.range 14).map (fun i => (leAt bs (48 + 4 * i) 2 % 16384, leAt bs (50 + 4 * i) 2 % 16384)) }

/-- The number that bytes spell, the first most significant (09 R232; 16 R411). -/
def beNat (bs : List Byte) : Nat := leNat bs.reverse

/-- The DISCOVER of a packet, with the flags of its header that go on with it (10 R252, R273). -/
def discoverIn (h : Header) (bs : List Byte) : Discover := { discoverOf h.src bs with noid := h.noid, stby := h.stby }

/-- Bytes 68 to 93 of a DISCOVER_RSP: the subtree summary (10 R274). -/
def summaryBytes (m : Summary) : List Byte :=
  leBytes 2 m.devices ++ leBytes 1 m.depth ++ leBytes 1 0 ++ leBytes 4 m.lamps ++ leBytes 2 m.regionW ++ leBytes 2 m.regionH ++
  leBytes 2 m.nY96 ++ leBytes 2 m.nY48 ++ leBytes 2 m.nY24 ++ leBytes 2 m.worstEye ++ leBytes 4 m.statusOr ++ leBytes 2 m.missing

end Sys2Proof.Machine
end

