-- ==== Sys2Proof/Machine/Wire.lean ====
section
/-!
DEFINITION. Coil packets on the wire: the body of every packet type as bytes, built and read; the header and body of a packet that the
device sends; and cells (10 R247, R252, R255 to R262, R273, R463; 09 R229, R230).
-/

namespace Sys2Proof.Machine

/-! Bodies (R255 to R262). -/

/-- A sender beacon (R255). -/
def beaconBytes (b : Beacon) : List Byte :=
  leBytes 1 (4 * b2n b.subcoil) ++ leBytes 1 (b.originPort % 16) ++ leBytes 2 0 ++ timeBytes b.originTime ++ leBytes 2 0 ++
    leBytes 8 (unsignedOf 64 b.correction) ++ leBytes 8 b.epoch ++ leBytes 4 0

/-- The sender beacon of a packet (R252, R255). -/
def beaconOf (h : Header) (bs : List Byte) (crcOk : Bool) : Beacon :=
  { src := h.src, hops := h.hops, stby := h.stby, subcoil := (leAt bs 0 1).testBit 2, originPort := leAt bs 1 1 % 16,
    originTime := timeAt bs 4, correction := signedOf 64 (leAt bs 20 8), epoch := leAt bs 28 8, crcOk := crcOk, noid := h.noid }

/-- A link beacon: KIND 1 a request, KIND 2 a reply (R255). -/
def linkBytes (reply : Bool) (b : LinkBeacon) : List Byte :=
  leBytes 1 ((if reply then 2 else 1) + 4 * b2n b.loopReq + 8 * b2n b.loopAck) ++ leBytes 1 (b.port % 16 + 16 * (b.role % 8)) ++
    leBytes 2 b.seq ++ timeBytes b.ta ++
    (if reply then timeBytes b.tb else leBytes 1 (if b.loopReq then b.loopSecs else 0) ++ leBytes 13 0) ++ leBytes 8 b.uid

/-- The link beacon of a body (R255). -/
def linkOf (bs : List Byte) : LinkBeacon :=
  let w := leAt bs 0 1
  let reply : Bool := w % 4 == 2
  { seq := leAt bs 2 2, port := leAt bs 1 1 % 16, role := leAt bs 1 1 / 16 % 8, ta := timeAt bs 4,
    tb := if reply then timeAt bs 18 else 0, uid := leAt bs 32 8, loopReq := w.testBit 2, loopAck := w.testBit 3,
    loopSecs := if reply then 0 else leAt bs 18 1 }

/-- The 12 bytes of a step: signed seconds and signed ns, both of the sign of the step (R256; log 156). -/
def stepBytes (ns : Int) : List Byte :=
  leBytes 8 (unsignedOf 64 (ns.tdiv 1000000000)) ++ leBytes 4 (unsignedOf 32 (ns.tmod 1000000000))

/-- A TICK body (R256). -/
def tickBytes (b : TickBody) : List Byte :=
  leBytes 8 b.epoch ++ timeBytes b.tickTime ++
    leBytes 1 (b2n b.hold + 2 * b2n b.handback + 4 * b2n b.step.isSome + 8 * b2n b.dark) ++ leBytes 1 0 ++ leBytes 8 b.commitTarget ++
    (match b.step with | some ns => stepBytes ns | none => leBytes 12 0)

/-- The TICK of a body (R256). -/
def tickOf (bs : List Byte) : TickBody :=
  let f := leAt bs 22 1
  { epoch := leAt bs 0 8, tickTime := timeAt bs 8, hold := f.testBit 0, handback := f.testBit 1, dark := f.testBit 3,
    commitTarget := leAt bs 24 8,
    step := if f.testBit 2 then some (signedOf 64 (leAt bs 32 8) * 1000000000 + signedOf 32 (leAt bs 40 4)) else none }

/-- Words as bytes, and read back (00 R5). -/
def wordBytes (ws : List Word32) : List Byte := ws.flatMap (fun w => leBytes 4 w.toNat)
def wordsOf (bs : List Byte) (off n : Nat) : List Word32 := (List.range n).map (fun i => BitVec.ofNat 32 (leAt bs (off + 4 * i) 4))

/-- A CONFIG body (R257). -/
def configBytes (b : ConfigBody) : List Byte :=
  leBytes 8 b.target ++ leBytes 1 (b.copy % 4 + 4 * b2n b.recovery) ++ leBytes 3 0 ++ wordBytes (b.sch ++ [b.clk])

/-- The CONFIG marker of a body (R257). -/
def configOf (bs : List Byte) : ConfigBody :=
  { target := leAt bs 0 8, copy := leAt bs 8 1 % 4, recovery := (leAt bs 8 1).testBit 2, sch := wordsOf bs 12 16,
    clk := BitVec.ofNat 32 (leAt bs 76 4) }

/-- A segment with its header (09 R230). -/
def segBytes (x : Seg) : List Byte :=
  leBytes 2 x.data.length ++ leBytes 2 (x.sx % 1024 + 1024 * (x.sw % 16)) ++ x.data

/-- Up to `n` segments that follow one another; data that ends early ends the list (09 R230). -/
def segsOf : Nat → List Byte → List Seg
  | 0, _ => []
  | n + 1, bs =>
    let len := leAt bs 0 2
    if bs.length < 4 + len then []
    else { sx := leAt bs 2 2 % 1024, sw := leAt bs 2 2 / 1024 % 16, data := (bs.drop 4).take len } :: segsOf n (bs.drop (4 + len))

/-- A BAND body: prefix, band header, segments (R258; 09 R229, R230). -/
def bandBytes (b : BandPkt) : List Byte :=
  leBytes 2 b.epoch16 ++ leBytes 2 0 ++ leBytes 2 (b.bandNo % 2048 + 2048 * (b.feed % 8) + 16384 * (b.format % 4)) ++
    leBytes 2 (b.segs.length % 1024) ++ b.segs.flatMap segBytes

/-- The BAND of a packet (R258; 09 R229, R230). -/
def bandOf (dest : Nat) (bs : List Byte) (crcOk : Bool) : BandPkt :=
  let w := leAt bs 4 2
  { dest := dest, epoch16 := leAt bs 0 2, bandNo := w % 2048, feed := w / 2048 % 8, format := w / 16384,
    segs := segsOf (leAt bs 6 2 % 1024) (bs.drop 8), crcOk := crcOk }

/-- A MGMT_REQ body (R259). -/
def mgmtReqBytes (r : MgmtReq) : List Byte :=
  leBytes 1 (r.tag % 64 + 64 * b2n r.write) ++ leBytes 1 (r.len % 64) ++ leBytes 3 (r.offset % 4096 + 4096 * (r.page % 4096)) ++
    leBytes 3 0 ++ wordBytes r.data

/-- The request of a MGMT_REQ packet (R259). -/
def mgmtReqOf (src : Nat) (bs : List Byte) : MgmtReq :=
  let w := leAt bs 0 1
  let len := leAt bs 1 1 % 64
  { src := src, tag := w % 64, write := w.testBit 6, len := len, offset := leAt bs 2 3 % 4096, page := leAt bs 2 3 / 4096,
    data := if w.testBit 6 then wordsOf bs 8 (len + 1) else [] }

/-- A MGMT_RSP body (R259). -/
def mgmtRspBytes (tag status : Nat) (data : List Word32) : List Byte :=
  leBytes 1 (tag % 64) ++ leBytes 1 (status % 16) ++ leBytes 6 0 ++ wordBytes data

/-- An entry of an EVENT body (R260). -/
def entryBytes (e : EvtEntry) : List Byte :=
  leBytes 2 (e.page % 4096 + 4096 * b2n e.subtree + 8192 * b2n e.more) ++ leBytes 2 0 ++ leBytes 4 e.bits

/-- An EVENT body (R260). -/
def eventBytes (epoch : Nat) (es : List EvtEntry) : List Byte :=
  leBytes 4 epoch ++ leBytes 1 es.length ++ leBytes 3 0 ++ es.flatMap entryBytes

/-- The entries of an EVENT body (R260). -/
def entriesOf (bs : List Byte) : List EvtEntry :=
  (List.range (leAt bs 4 1)).map (fun i =>
    let w := leAt bs (8 + 8 * i) 2
    { page := w % 4096, subtree := w.testBit 12, more := w.testBit 13, bits := leAt bs (12 + 8 * i) 4 })

/-- A BOOT body (R261). -/
def bootBytes (c : BootChunk) : List Byte :=
  leBytes 4 c.off ++ leBytes 2 c.data.length ++ leBytes 1 (b2n c.first + 2 * b2n c.last) ++ leBytes 1 c.idx ++ leBytes 4 c.imgLen ++
    leBytes 4 0 ++ c.data

/-- The chunk of a BOOT body (R261). -/
def bootOf (bs : List Byte) : BootChunk :=
  { off := leAt bs 0 4, data := (bs.drop 16).take (leAt bs 4 2), first := (leAt bs 6 1).testBit 0, last := (leAt bs 6 1).testBit 1,
    idx := leAt bs 7 1, imgLen := leAt bs 8 4 }

/-- A RELINQUISH body (R262). -/
def relinquishBytes (epoch grounds copy : Nat) : List Byte := leBytes 8 epoch ++ leBytes 4 grounds ++ leBytes 1 copy ++ leBytes 3 0

/-- A FEEDREQ body (R262). -/
def feedreqBytes (epoch cause : Nat) : List Byte := leBytes 8 epoch ++ leBytes 4 (cause % 4) ++ leBytes 4 0

/-- Bytes 36 to 103 of a DISCOVER body (R273). -/
def discoverTail (d : Discover) : List Byte :=
  leBytes 2 d.idWord ++ leBytes 2 0 ++ leBytes 8 d.epoch ++
    (List.range 14).flatMap (fun i => leBytes 2 ((d.ranges.getD i (0, 0)).1 % 16384) ++ leBytes 2 ((d.ranges.getD i (0, 0)).2 % 16384))

/-- A DISCOVER body (R273). -/
def discoverBytes (d : Discover) : List Byte := discoverHead d ++ discoverTail d

/-- The summary in 26 bytes of a body (R274). -/
def summaryOf (bs : List Byte) (o : Nat) : Summary :=
  { devices := leAt bs o 2, depth := leAt bs (o + 2) 1, lamps := leAt bs (o + 4) 4, regionW := leAt bs (o + 8) 2,
    regionH := leAt bs (o + 10) 2, nY96 := leAt bs (o + 12) 2, nY48 := leAt bs (o + 14) 2, nY24 := leAt bs (o + 16) 2,
    worstEye := leAt bs (o + 18) 2, statusOr := leAt bs (o + 20) 4, missing := leAt bs (o + 24) 2 }

/-- A STATUS body (R463). -/
def statusBytes (b : StatusBody) : List Byte :=
  leBytes 8 b.epoch ++ leBytes 2 b.bits ++ leBytes 1 b.member ++ leBytes 1 (b2n b.hub + 2 * (b.hops % 128)) ++ leBytes 4 b.lamps ++
    leBytes 2 b.eye ++ summaryBytes b.summary

/-- The STATUS of a body (R463). -/
def statusOf (bs : List Byte) : StatusBody :=
  { epoch := leAt bs 0 8, bits := leAt bs 8 2, member := leAt bs 10 1, hub := (leAt bs 11 1).testBit 0, hops := leAt bs 11 1 / 2,
    lamps := leAt bs 12 4, eye := leAt bs 16 2, summary := summaryOf bs 18 }

/-! A packet that leaves (R252). -/

/-- A packet with the port it leaves by; `stomp` as for `packetBytes`. -/
structure Leaving where
  port : Nat
  hdr : Header
  body : List Byte
  stomp : Bool
deriving DecidableEq, Repr

/-- Port, type and largest body of an output that is a coil packet. -/
def outKind : Output → Option (Nat × Nat × Nat)
  | .tick p _ => some (p, ptTICK, 44)
  | .config p _ _ => some (p, ptCONFIG, 80)
  | .beacon p _ => some (p, ptBEACON, 40)
  | .linkReq p _ => some (p, ptBEACON, 40)
  | .linkRep p _ => some (p, ptBEACON, 40)
  | .band p b => some (p, ptBAND, 8 + (b.segs.map (fun x => 4 + x.data.length)).sum)
  | .mgmtReq p _ r => some (p, ptMGMT_REQ, 8 + 4 * r.data.length)
  | .mgmtRsp p _ _ _ d => some (p, ptMGMT_RSP, 8 + 4 * d.length)
  | .event p _ _ es => some (p, ptEVENT, 8 + 8 * es.length)
  | .status p _ _ => some (p, ptSTATUS, 44)
  | .boot p c => some (p, ptBOOT, 16 + c.data.length)
  | .discover p _ _ _ => some (p, ptDISCOVER, 104)
  | .discoverRsp p _ b => some (p, ptDISCOVER_RSP, b.length)
  | .relinquish p _ _ _ _ _ => some (p, ptRELINQUISH, 16)
  | .feedreq p _ _ _ _ => some (p, ptFEEDREQ, 16)
  | .forward p bs _ => some (p, leAt bs 0 1 % 16, bs.length - 14)
  | _ => none

/-- The header and body of a packet that the device builds or passes on: `src` is its own node ID, if it has one, `stby` tells that
    the port is a sender's that is not ACTIVE (R252, R462). -/
def leavingOf (src : Option Nat) (stby : Nat → Bool) (o : Output) : Option Leaving :=
  let h (type : Nat) (bcast up : Bool) (dest p : Nat) : Header :=
    { type := type, bcast := bcast, up := up, stby := stby p, hops := 0, noid := src.isNone, dest := dest, src := src.getD 0 }
  match o with
  | .tick p b => some ⟨p, h ptTICK true false 0 p, tickBytes b, false⟩
  | .config p none b => some ⟨p, h ptCONFIG true false 0 p, configBytes b, false⟩
  | .config p (some d) b => some ⟨p, h ptCONFIG false false d p, configBytes b, false⟩
  | .beacon p b => some ⟨p, { h ptBEACON true false 0 p with stby := b.stby, hops := b.hops, noid := b.noid, src := b.src },
      beaconBytes b, !b.crcOk⟩
  | .linkReq p b => some ⟨p, h ptBEACON false false 0 p, linkBytes false b, false⟩
  | .linkRep p b => some ⟨p, h ptBEACON false false 0 p, linkBytes true b, false⟩
  | .band p b => some ⟨p, h ptBAND false false b.dest p, bandBytes b, !b.crcOk⟩
  | .mgmtReq p d r => some ⟨p, { h ptMGMT_REQ false false d p with src := r.src }, mgmtReqBytes r, false⟩
  | .mgmtRsp p d tag st data => some ⟨p, h ptMGMT_RSP false true d p, mgmtRspBytes tag st data, false⟩
  | .event p n e es => some ⟨p, { h ptEVENT false true 0 p with src := n }, eventBytes e es, false⟩
  | .status p n b => some ⟨p, { h ptSTATUS false true 0 p with src := n }, statusBytes b, false⟩
  | .boot p c => some ⟨p, h ptBOOT true false 0 p, bootBytes c, false⟩
  | .discover p hops d st => some ⟨p, { h ptDISCOVER false false 0 p with hops := hops, src := d.src, noid := d.noid, stby := d.stby }, discoverBytes d, st⟩
  | .discoverRsp p d b => some ⟨p, h ptDISCOVER_RSP false true d p, b, false⟩
  | .relinquish p hd e g c st => some ⟨p, hd, relinquishBytes e g c, st⟩
  | .feedreq p hd e c st => some ⟨p, hd, feedreqBytes e c, st⟩
  | .forward p bs st => (parseHeader bs).map (fun x => ⟨p, x.1, (bs.drop 10).take x.2, st⟩)
  | _ => none

/-- The bytes of a leaving packet (R252, R253). -/
def Leaving.bytes (x : Leaving) : List Byte := packetBytes x.hdr x.body x.stomp

/-! Cells (R247). -/

/-- Packet bytes in a cell. -/
def cellData : Nat := 61

/-- A cell with its header. -/
def cellBytes (sop eop xoff : Bool) (data : List Byte) : List Byte :=
  let h := leBytes 1 (b2n sop + 2 * b2n eop + 4 * b2n xoff) ++ leBytes 1 data.length
  h ++ leBytes 1 (crc8 h) ++ data ++ List.replicate (cellData - data.length) 0

/-- The cells of a packet, from cell `i` of `n` on: every packet starts at the first data byte of a cell. -/
def cellsFrom (xoff : Bool) (bs : List Byte) : Nat → Nat → List (List Byte)
  | _, 0 => []
  | i, n + 1 => cellBytes (i == 0) (n == 0) xoff ((bs.drop (cellData * i)).take cellData) :: cellsFrom xoff bs (i + 1) n

/-- The cells of a packet; every one carries the XOFF that the port asserts (R266). -/
def cellsOf (xoff : Bool) (bs : List Byte) : List (List Byte) := cellsFrom xoff bs 0 (ceilDiv bs.length cellData)

/-- What a cell header says when its CHK passes. -/
structure CellHead where
  sop : Bool
  eop : Bool
  xoff : Bool
  fill : Nat
deriving DecidableEq, Repr

/-- The header of a cell, if its CHK passes. -/
def cellHead (bs : List Byte) : Option CellHead :=
  if leAt bs 2 1 = crc8 (bs.take 2) then
    let w := leAt bs 0 1
    some { sop := w.testBit 0, eop := w.testBit 1, xoff := w.testBit 2, fill := leAt bs 1 1 }
  else none

/-- The packet bytes of a cell: all of them when its header cannot be trusted. -/
def cellPayload (bs : List Byte) : List Byte :=
  let d := (bs.drop 3).take cellData
  match cellHead bs with
  | some h => d.take h.fill
  | none => d

/-- The packet of a cell is lost with it: its codeword could not be corrected or its CHK fails (R246, R247). -/
def cellBad (c : Cell) : Bool := c.fecBad || (cellHead c.bytes).isNone

/-- The time that a packet of so many bytes takes on the line: 704 / 75 ns a cell, rounded up to 2^-16 ns (R247, R263). -/
def lineTime (bytes : Nat) : Nat := ceilDiv (ceilDiv bytes cellData * 704 * ns1) 75

end Sys2Proof.Machine
end

