-- ==== Sys2Proof/Machine/Red.lean ====
section
/-!
DEFINITION. Coil port state, the egress queues, upstream election, relinquishing and fail-over (01 R8 to R13, 10 R263, R266,
R269, R276 to R286).
-/

namespace Sys2Proof.Machine

/-! Coil ports. -/

/-- What an unlisted coil port holds. -/
def coilDefault : Nat → CoilSt := fun _ => {}

/-- The record of a coil port. -/
def State.coilSt (s : State) (p : Nat) : CoilSt := smGet coilDefault s.coil p

/-- Change the record of a coil port. -/
def State.modCoil (s : State) (p : Nat) (f : CoilSt → CoilSt) : State := { s with coil := smMod coilDefault s.coil p f }

/-- Link states (10 R287). -/
def lkDOWN : Nat := 0
def lkTRAINING : Nat := 1
def lkALIGNING : Nat := 2
def lkUP : Nat := 3

/-- The port is UP; while no firmware runs, ports 0 and 1 of a tile are the repeater's (01 R14, 10 R250). -/
def State.isUp (s : State) (p : Nat) : Bool :=
  if s.running then s.rd (R.COIL.LINK p) == lkUP
  else (s.aon.role == .tile) && ((p == 0 && s.aon.linkUp0) || (p == 1 && s.aon.linkUp1))

/-- The other port of the pair 0 and 1. -/
def otherPort (p : Nat) : Nat := 1 - p

/-- A port the role and the applied configuration put in use: any enabled port of a sender; of a tile ports 0 and 1, the enabled
    sub-coil ports, and every port in boot mode (01 R9, 16 R420). -/
def State.portOn (s : State) (p : Nat) : Bool :=
  s.running && s.hasPort p &&
    match s.role with
    | .sender => s.lvB (R.COIL.EN p)
    | .tile => decide (p < 2) || s.lvB (R.COIL.EN p) || s.boot.bootMode

/-- The enabled sub-coil ports of a tile (01 R8). -/
def State.subPorts (s : State) : List Nat := s.ports.filter (fun p => decide (2 ≤ p) && s.lvB (R.COIL.EN p))

/-- A tile with a sub-coil port enabled is a hub (01 R8). -/
def State.isHub (s : State) : Bool := s.isTile && !s.subPorts.isEmpty

/-- Port roles (10 R287). -/
def State.portRole (s : State) (p : Nat) : Nat :=
  if !s.running then (if s.aon.role == .tile && decide (p < 2) then 5 else 6)
  else if !s.portOn p then 6
  else
    match s.role with
    | .sender => 0
    | .tile =>
      if 2 ≤ p then (if s.lvB (R.COIL.EN p) then 3 else 6)
      else
        match s.red.upstream with
        | none => 4
        | some u => if u = p then 1 else 2

/-- LINK takes a value; a change raises LINK_CHANGE, and LINK_DOWN holds while an enabled port is not UP (10 R287). -/
def State.setLink (s : State) (p v : Nat) : State :=
  let s := if s.rd (R.COIL.LINK p) = v then s else (s.wr (R.COIL.LINK p) v).raise (R.COIL.ev_LINK_CHANGE p)
  s.level (R.COIL.ev_LINK_DOWN p) (s.lvB (R.COIL.EN p) && v != lkUP)

/-- A port enters TRAINING; which lanes then show loss of signal or of lock is not stated (10 R250, R251; log 10). -/
def State.train (s : State) (p : Nat) : State :=
  let s := s.setLink p lkTRAINING
  let (a, s) := s.fresh
  let (b, s) := s.fresh
  (s.wr (R.COIL.LOS p) a).wr (R.COIL.LOL p) b

/-- A partner of a forbidden role on the through-port (10 R275). -/
def badPartner (subcoil : Bool) (role : Nat) : Bool :=
  if subcoil then role == 2 || role == 3 || role == 0 else role == 3

/-- OUT_OF_BUDGET: a tile at hop 64 with a partner on its through-port or link on a sub-coil port (10 R275). -/
def State.showBudget (s : State) : State :=
  s.each s.ports (fun s p =>
    s.wrB (R.COIL.OUT_OF_BUDGET p) (decide (64 ≤ s.red.hops) && s.rd (R.COIL.LINK p) == lkUP && s.portRole p ∈ [2, 3]))

/-- TOPOLOGY_LOOP and END_OF_COIL of the pair: a forbidden partner or no link on the through-port (01 R13, 10 R275). -/
def State.showEnds (s : State) : State :=
  s.cond s.isTile (fun s => s.showBudget.each [0, 1] (fun s p =>
    let thru : Bool := s.portRole p == 2
    let bad : Bool := thru && s.flag (R.COIL.PARTNER_VALID p) && badPartner s.red.subcoil (s.rd (R.COIL.PARTNER_ROLE p))
    ((s.wrB (R.COIL.st_TOPOLOGY_LOOP p) bad).level (R.COIL.ev_TOPOLOGY_LOOP p) bad).wrB (R.COIL.END_OF_COIL p)
      (thru && (bad || s.rd (R.COIL.LINK p) != lkUP))))

/-- STATUS.ROLE of every port shows the port's role, and the pair its coil ends (10 R287). -/
def State.showRoles (s : State) : State := (s.each s.ports (fun s p => s.wr (R.COIL.ROLE p) (s.portRole p))).showEnds

/-- A packet has no way out of a port: it is dropped and counted there (01 R19). -/
def State.undeliverable (s : State) (p : Nat) : State :=
  s.incRaise (R.COIL.CNT_UNDELIVERABLE p) (R.COIL.ev_UNDELIVERABLE p)

/-- No packet but link beacons leaves a port that is not UP, or on which TOPOLOGY_LOOP holds (10 R250, R275). -/
def State.canSend (s : State) (p : Nat) : Bool := s.isUp p && !s.flag (R.COIL.st_TOPOLOGY_LOOP p)

/-- A port has left UP: counted, its partner unknown, and what its egress held has no way out (01 R19; 10 R251). -/
def State.lost (s : State) (p : Nat) : State :=
  let held := (s.coilSt p).egress
  let s := (s.inc (R.COIL.CNT_LINK_DOWN p)).modCoil p (fun c => { c with egress := [] })
  let s := (((s.wr (R.COIL.ALIGNED p) 0).wr (R.COIL.DESKEWED p) 0).wr (R.COIL.PARTNER_VALID p) 0).wr (R.COIL.XOFF_RX p) 0
  (s.each held (fun s _ => s.undeliverable p)).showEnds

/-- The port is switched off (10 R287): an UP port thereby leaves UP (10 R251). -/
def State.switchOff (s : State) (p : Nat) : State :=
  let was : Bool := s.rd (R.COIL.LINK p) == lkUP
  (s.setLink p lkDOWN).cond was (fun s => s.lost p)

/-! Sub-states of sender ports (10 R276, R288). -/

def psSTANDBY : Nat := 0
def psACTIVE : Nat := 1
def psSERVING : Nat := 2
def psOFF : Nat := 3

/-- The sub-state of a sender port in RED.PORT_STATE. -/
def State.portState (s : State) (p : Nat) : Nat := s.rd ⟨0x090, 0x600, 2 * p, 2⟩

/-- Set it. -/
def State.setPortState (s : State) (p v : Nat) : State := s.wr ⟨0x090, 0x600, 2 * p, 2⟩ v

/-- SPLIT holds while a port is SERVING (10 R283). -/
def State.splitLevel (s : State) : State := s.level R.RED.ev_SPLIT (s.ports.any (fun p => s.portState p == psSERVING))

/-- The sender serves this port's coil: ACTIVE or SERVING, not relinquished (10 R276, R279). -/
def State.serves (s : State) (p : Nat) : Bool :=
  !s.flag R.RED.RELINQUISHED && (s.portState p == psACTIVE || s.portState p == psSERVING)

/-- A configuration gives the tick at which it applies a new place on the cadence: it changes F (04 R88); or it empties the source list, or
    changes TICK_OFFSET under an empty one, and the ticks go on at the cadence points plus TICK_OFFSET (04 R86, R97; DESIGN CHOICE, log 166). -/
def State.placesAnew (s : State) (g : Cfg) : Bool :=
  periodChanged g s.lv || (g R.CLK.SRC1 == 0 && (s.lv R.CLK.SRC1 != 0 || g R.CLK.TICK_OFFSET != s.lv R.CLK.TICK_OFFSET))

/-- The time at which the next tick is judged: where it would fall without the commit that targets it (02 R459). -/
def State.judgedTick (s : State) : Nat :=
  match s.cmt.pend.find? (fun c => c.target == s.epoch + 1) with
  | some c => if s.isSender && s.frm.ticked && s.placesAnew (snapRd c.snap) then (s.tickPos (s.frm.cadN + 1)).toNat else s.frm.nextTick
  | none => s.frm.nextTick

/-- The epoch of the first tick 250 µs or more after a moment (02 R459). -/
def State.firstTick (s : State) (t : Nat) : Nat :=
  if t + 250 * us1 ≤ s.judgedTick then s.epoch + 1 else s.epoch + 2

/-! Which ports serve an epoch (10 R276, R279, R283, R284). -/

/-- The sub-state that PORT_ROLE names under a configuration (10 R276). -/
def namedOf (g : Cfg) (p : Nat) : Nat :=
  if g (R.COIL.EN p) = 0 then psOFF else if (g R.RED.PORT_ROLE).testBit p then psSTANDBY else psACTIVE

/-- A configuration changes PORT_ROLE or toggles RESTORE (10 R284). -/
def rolesChange (g old : Cfg) : Bool := g R.RED.PORT_ROLE != old R.RED.PORT_ROLE || g R.RED.RESTORE != old R.RED.RESTORE

/-- The configuration of a commit pending for an epoch, else the applied one. -/
def State.cfgAt (s : State) (e : Nat) : Cfg :=
  match s.cmt.pend.find? (fun c => c.target == e) with
  | some c => snapRd c.snap
  | none => s.lv

/-- The sub-state a port will have at an epoch (10 R284). -/
def State.portStateAt (s : State) (p e : Nat) : Nat :=
  let g := s.cfgAt e
  if rolesChange g s.lv || g (R.COIL.EN p) != s.lv (R.COIL.EN p) then namedOf g p else s.portState p

/-- The port launches the TICK of an epoch: it is or becomes ACTIVE, or SERVING from that epoch on (10 R276, R279, R283, R284). -/
def State.launchesAt (s : State) (p e : Nat) : Bool :=
  let st := s.portStateAt p e
  (!s.flag R.RED.RELINQUISHED || s.cfgAt e R.RED.RESTORE != s.lv R.RED.RESTORE) &&
    (st == psACTIVE || (st == psSERVING && decide ((s.coilSt p).serveFrom ≤ e)))

/-- The port leaves ACTIVE or SERVING at the epoch, and its TICK carries HANDBACK (10 R284). -/
def State.handbackAt (s : State) (p e : Nat) : Bool :=
  let st := s.portStateAt p e
  s.serves p && rolesChange (s.cfgAt e) s.lv && st != psACTIVE && st != psSERVING

/-- Ports that launch markers and TICKs for an epoch. -/
def State.tickPorts (s : State) (e : Nat) : List Nat :=
  s.ports.filter (fun p => s.canSend p && (s.launchesAt p e || s.handbackAt p e))

/-! The reset of the core (16 R405, R406). -/

/-- Bits of RESET_CAUSE (03 R70). -/
def rcPOWER : Nat := 0
def rcRESET_N : Nat := 1
def rcPERST : Nat := 2
def rcSOFT : Nat := 3
def rcCOIL : Nat := 4
def rcWATCHDOG : Nat := 5
def rcCORE_RAIL : Nat := 6
def rcCLOCK : Nat := 7

/-- A core reset: everything in the core takes its reset value; the MRAM, the AON domain with its link states, and the quench latch
    stay, and the cause is recorded in the AON domain, where that runs (R404 to R406). The bank levels of the boards are not the core's (17 R433). -/
def State.coreReset (s : State) (cause : Nat) : State :=
  { State.reset with
    role := s.role, member := s.member, mram := s.mram,
    boot := { banks := s.boot.banks },
    aon := { s.aon with cause := if s.aon.on then withBit s.aon.cause cause true else s.aon.cause,
                        linkUp0 := s.aon.role == .tile && s.isUp 0, linkUp1 := s.aon.role == .tile && s.isUp 1 },
    out := s.out, free := s.free, pending := s.pending }

/-! Egress (10 R263, R266, R269). -/

/-- A sender whose next tick has its place: ticking, or armed with a placed frame clock (16 R416). -/
def State.tickPlanned (s : State) : Bool := s.isSender && (s.frm.ticked || (s.boot.armed && s.clk.placed))

/-- The launch time of a sender's next TICK (02 R39 step 4). -/
def State.tickLaunchAt (s : State) : Nat := s.frm.nextTick - 100 * us1

/-- From 8 µs before the launch of the next TICK on a port that launches it, a packet of so many bytes that would not end by then waits until
    the TICK has left (10 R269). -/
def State.tickGuard (s : State) (p bytes : Nat) : Bool :=
  s.tickPlanned && !s.frm.tickOut && (s.launchesAt p (s.epoch + 1) || s.handbackAt p (s.epoch + 1)) && decide (s.tickLaunchAt ≤ s.time + 8 * us1) &&
    decide (s.tickLaunchAt < s.time + lineTime bytes)

/-- A packet of this class and size may not start on the port now: its partner asserts XOFF, or the launch of a TICK is near (10 R266,
    R269). -/
def State.barred (s : State) (p cls bytes : Nat) : Bool :=
  (decide (1 ≤ cls) && s.flag (R.COIL.XOFF_RX p)) || s.tickGuard p bytes

/-- Bytes of a packet with header and trailer (10 R252). -/
def outBytes (o : Output) : Nat :=
  match outKind o with
  | some (_, _, n) => n + 14
  | none => 0

/-- Bytes of a MGMT_REQ packet. -/
def mgmtSize (r : MgmtReq) : Nat := 10 + 8 + 4 * r.data.length + 4

/-- Bytes in the ingress buffer of a port: requests that wait for room in their share, and packets that came in here and wait at an
    egress (10 R265, R266). -/
def State.ingressBytes (s : State) (p : Nat) : Nat :=
  ((s.coilSt p).wait.map mgmtSize).sum +
    (s.ports.map (fun q => (((s.coilSt q).egress.filter (fun x => x.arrival == some p)).map (fun x => outBytes x.out)).sum)).sum

/-- A port sets XOFF while more than 128 KiB wait (10 R266). -/
def State.xoffCheck (s : State) (p : Nat) : State :=
  s.cond (decide (131072 < s.ingressBytes p) && !s.flag (R.COIL.XOFF_TX p))
    (fun s => (s.wr (R.COIL.XOFF_TX p) 1).inc (R.COIL.CNT_XOFF p))

/-- A packet that has waited so long at its egress: the times that it carries are those of its leaving (R255, R269; 04 R106). -/
def aged (dt : Nat) : Output → Output
  | .linkReq p b => .linkReq p { b with ta := b.ta + dt }
  | .linkRep p b => .linkRep p { b with tb := b.tb + dt }
  | .beacon p b => .beacon p (if b.hops = 0 then { b with originTime := b.originTime + dt } else { b with correction := b.correction + dt })
  | o => o

/-- Port and class of an output that is a coil packet. -/
def lineOf (o : Output) : Option (Nat × Nat) := (outKind o).map (fun x => (x.1, classOf x.2.1))

/-- A packet for a port takes its place among those that the command has sent: the first on the port is in progress, the others leave lowest
    class first, then oldest (R263). `first` tells that none of the port has come yet. -/
def placeAmong (p cls : Nat) (o : Output) : Bool → List Output → List Output
  | _, [] => [o]
  | first, x :: xs =>
    match lineOf x with
    | none => x :: placeAmong p cls o first xs
    | some (q, c) =>
      if q ≠ p then x :: placeAmong p cls o first xs
      else if !first && decide (cls < c) then o :: x :: xs
      else x :: placeAmong p cls o false xs

/-- The outputs with a new packet. -/
def placeOut (o : Output) (out : List Output) : List Output :=
  match lineOf o with
  | none => out ++ [o]
  | some (p, cls) => placeAmong p cls o true out

/-- A packet leaves its port: a link beacon request carries its launch time t1 (R255). -/
def State.depart (s : State) (o : Output) : State :=
  let s : State := { s with out := placeOut o s.out }
  match o with
  | .linkReq p b => s.modCoil p (fun c => { c with t1 := b.ta })
  | _ => s

/-- A packet starts on its port at once, or waits behind a barrier or behind older packets of its class or a lower one; `arrival` is the
    port it came in on (10 R263, R266, R269; log 157). -/
def State.send (s : State) (arrival : Option Nat) (o : Output) : State :=
  match lineOf o with
  | none => s.emit o
  | some (p, cls) =>
    if s.barred p cls (outBytes o) || (s.coilSt p).egress.any (fun x => decide (x.cls ≤ cls)) then
      let s := s.modCoil p (fun c => { c with egress := c.egress ++ [⟨cls, arrival, o, s.time⟩] })
      match arrival with
      | some a => s.xoffCheck a
      | none => s
    else s.depart o

/-- The packet that an egress sends next: the oldest of the lowest class (10 R263). -/
def nextHeld : List Held → Option Held
  | [] => none
  | x :: xs =>
    match nextHeld xs with
    | none => some x
    | some y => if x.cls ≤ y.cls then some x else some y

/-- A link beacon, which leaves any port that carries coded data (R250, R275). -/
def isLinkBeacon : Output → Bool
  | .linkReq _ _ => true
  | .linkRep _ _ => true
  | _ => false

/-- Send the waiting packets of a port until none may start, at most `n` of them; while the port's coil ends there, link beacons alone
    (10 R263, R275). -/
def State.drainN (p : Nat) : Nat → State → State
  | 0, s => s
  | n + 1, s =>
    match nextHeld ((s.coilSt p).egress.filter (fun x => s.canSend p || isLinkBeacon x.out)) with
    | none => s
    | some x =>
      if s.barred p x.cls (outBytes x.out) then s
      else State.drainN p n ((s.modCoil p (fun c => { c with egress := delFirst (· == x) c.egress })).depart (aged (s.time - x.since) x.out))

/-- A response is still to leave a port. -/
def Held.isRsp (x : Held) : Bool :=
  match x.out with
  | .discoverRsp _ _ _ => true
  | _ => false

/-- The reset of a confirmed RESET comes once its response has left (R274). -/
def State.resetAfterRsp (s : State) : State :=
  match s.boot.coilDue with
  | none => s
  | some p => s.cond (!(s.coilSt p).egress.any Held.isRsp) (fun s => s.coreReset rcCOIL)

/-- What waits at a port leaves, as far as it may (10 R263). -/
def State.drain (s : State) (p : Nat) : State := (State.drainN p (s.coilSt p).egress.length s).resetAfterRsp

/-- Packets of some types that wait at a port are not sent any more. -/
def State.dropHeld (s : State) (p : Nat) (types : Nat → Bool) : State :=
  s.modCoil p (fun c => { c with egress := c.egress.filter (fun x => !((outKind x.out).any (fun k => types k.2.1))) })

/-- What a STANDBY port does not send: TICK, CONFIG, BAND, BOOT (R276). -/
def outwardType (type : Nat) : Bool := type == ptTICK || type == ptCONFIG || type == ptBAND || type == ptBOOT

/-- The epoch field of a BAND packet that waits (10 R258). -/
def bandEpoch : Output → Option Nat
  | .band _ b => some (b.epoch16 % 65536)
  | .forward _ bs _ => if leAt bs 0 1 % 16 = ptBAND then some (leAt bs 10 2) else none
  | _ => none

/-- At a tick the BAND packets of the closing epoch that wait at a forwarding port are abandoned and counted there (02 R42). -/
def State.flushBands (s : State) : State :=
  s.each s.ports (fun s p =>
    let gone (x : Held) : Bool := bandEpoch x.out == some (s.epoch % 65536)
    let n := ((s.coilSt p).egress.filter gone).length
    s.cond (n != 0) (fun s => (s.modCoil p (fun c => { c with egress := c.egress.filter (fun x => !gone x) })).incBy (R.COIL.CNT_BAND_FLUSH p) n))

/-! Relinquishing (10 R278, R279). -/

/-- The own node ID that headers name as SRC; none while the device has none (10 R252). -/
def State.ownId (s : State) : Option Nat := if s.lvB R.GLB.NODE_VALID then some (s.lv R.GLB.NODE_ID) else none

/-- The header of a packet that the device launches (10 R252); the flags of RELINQUISH and FEEDREQ are DEDUCED (log 155). -/
def State.ownHeader (s : State) (type : Nat) (bcast up : Bool) (p : Nat) : Header :=
  { type := type, bcast := bcast, up := up, stby := s.isSender && !s.serves p, hops := 0, noid := s.ownId.isNone, dest := 0,
    src := s.ownId.getD 0 }

/-- The ground of RELINQUISH_NOW (10 R278). -/
def grMANUAL : Nat := 6

/-- A RELINQUISH copy on every port that is ACTIVE or SERVING (10 R279). -/
def State.sendRelinquish (s : State) (copy : Nat) : State :=
  s.each (s.ports.filter (fun p => s.portState p == psACTIVE || s.portState p == psSERVING)) (fun s p =>
    s.cond (s.canSend p) (fun s => s.send none (.relinquish p (s.ownHeader ptRELINQUISH true false p) s.epoch (s.rd R.RED.GROUNDS) copy false)))

/-- TICK, CONFIG and BAND packets that wait at the egresses of a sender that relinquishes are not sent any more (10 R279). -/
def State.stopTraffic (s : State) : State :=
  s.each s.ports (fun s p => s.dropHeld p (fun type => type == ptTICK || type == ptCONFIG || type == ptBAND))

/-- A ground of R278 is met: an enabled one (or MANUAL) makes the sender relinquish; met again while relinquished it only counts
    (10 R279). -/
def State.ground (s : State) (g : Nat) : State :=
  if s.role != .sender then s
  else if !(g == grMANUAL || (s.lv R.RED.GROUND_EN).testBit g) then s
  else
    let s := s.inc R.RED.CNT_RELINQUISH
    if s.flag R.RED.RELINQUISHED then s
    else
      let s := (((s.wr R.RED.RELINQUISHED 1).wr R.RED.GROUNDS (2 ^ g)).wr R.RED.RELINQUISH_EPOCH s.epoch).raise
        R.RED.ev_RELINQUISH
      let s : State := { s with red := { s.red with relCopies := 1, relWatchdog := decide (g = 3) } }
      s.stopTraffic.sendRelinquish 1

/-- RELINQUISH_NOW (10 R278). -/
def execRelinquishNow (t : Nat) (s : State) : Host.Outcome State Fault Refusal :=
  .next ((s.atTime t).cond s.isSender (fun s => s.ground grMANUAL))

/-- RELINQUISH_COPY: the second and third copies follow 10 µs apart (10 R279). -/
def execRelinquishCopy (t : Nat) (s : State) : Host.Outcome State Fault Refusal :=
  .next ((s.atTime t).cond (s.isSender && s.flag R.RED.RELINQUISHED && decide (1 ≤ s.red.relCopies ∧ s.red.relCopies < 3))
    (fun s => ({ s with red := { s.red with relCopies := s.red.relCopies + 1 } } : State).sendRelinquish
      (s.red.relCopies + 1)))

/-! Election and fail-over at a tile (01 R10 to R12, 10 R280, R281). -/

/-- The tile loses its election: both ports of the pair are unelected (01 R12). -/
def State.unelect (s : State) : State :=
  ({ s with red := { s.red with upstream := none, electing := false }, clk := { s.clk with run := 0 } } : State).showRoles

/-- A FEEDREQ of this tile leaves by the port away from its old upstream, when that link is UP (10 R280). -/
def State.sendFeedreq (s : State) (cause : Nat) : State :=
  let p := otherPort s.red.oldUp
  s.cond (s.canSend p) (fun s =>
    (s.send none (.feedreq p (s.ownHeader ptFEEDREQ false true p) s.red.lastTick cause false)).inc R.RED.CNT_FEEDREQ_SENT)

/-- FAILOVER causes (10 R262). -/
def fcRELINQUISH : Nat := 0
def fcTICK_MISS : Nat := 1
def fcUPSTREAM_LOST : Nat := 2

/-- The upstream is lost: the port stays upstream until a beacon elects one, and FEEDREQs go out of the other port (01 R12; 10 R280,
    R281). -/
def State.seekFeed (s : State) (cause : Nat) : State :=
  ({ s with red := { s.red with oldUp := s.red.upstream.getD 0, electing := true, repeating := true } } : State).sendFeedreq cause

/-- The tile enters FAILOVER, once it has taken its first tick (10 R280, R286). The two bridging frames are those of the next two ticks,
    or the two already held when the trigger is the second missing TICK; a jump hold frame in progress counts as one (10 R281). A tile in
    FAILOVER that has elected and loses its port again seeks a feed again, within the same fail-over. -/
def State.enterFailover (s : State) (cause : Nat) : State :=
  if !s.frm.ticked then s
  else if s.flag R.RED.st_FAILOVER then s.cond (!s.red.electing) (fun s => s.seekFeed cause)
  else
    let bridge := if cause = fcTICK_MISS then 0 else if s.frm.hold then 1 else 2
    let s := s.phcEnd phABORTED
    let s := (((s.wr R.RED.st_FAILOVER 1).wr R.RED.FAILOVER_CAUSE cause).inc R.RED.CNT_FAILOVER).raise R.RED.ev_FAILOVER
    ({ s with red := { s.red with bridge := bridge } } : State).seekFeed cause

/-- A RELINQUISH or FEEDREQ goes on along the pair with one more hop; a copy whose HOPS would exceed 64 is dropped and counted at its
    arrival port (10 R267). -/
def State.alongPair (s : State) (port : Nat) (h : Header) (f : Nat → Header → Output) : State :=
  if 64 < h.hops + 1 then s.inc (R.COIL.CNT_HOPS_DROP port)
  else s.send (some port) (f (otherPort port) { h with hops := h.hops + 1 })

/-- RELINQUISH_RECEIVE: on the upstream port it starts a fail-over; on any port it goes on along the pair, never into a sub-coil; one with a
    bad trailer is not acted on and goes on stomped (10 R253, R254, R267, R280). -/
def relinquishReceiveFx (port : Nat) (h : Header) (crcOk : Bool) (epoch grounds copy : Nat) (s : State) : State :=
  let s' := s.cond (crcOk && s.red.upstream == some port) (fun s => s.enterFailover fcRELINQUISH)
  s'.cond (s'.canSend (otherPort port)) (fun s => s.alongPair port h (fun q h => .relinquish q h epoch grounds copy (!crcOk)))

/-- RELINQUISH_RECEIVE (10 R280), on a port that is UP (10 R250). -/
def execRelinquishReceive (rx : Arrival) (h : Header) (epoch : Nat) (b : Relinquish) (t : Nat) (s : State) :
    Host.Outcome State Fault Refusal :=
  .next ((s.atTime t).cond (s.isTile && decide (rx.port < 2) && s.isUp rx.port)
    (relinquishReceiveFx rx.port h rx.crcOk epoch b.grounds b.copy))

/-- FEEDREQ_RECEIVE at a tile: on the upstream port it starts a fail-over with the same cause; it goes on along the pair, or is
    dropped and counted where it has nowhere to go; one with a bad trailer is not acted on and goes on stomped (10 R253, R280). -/
def feedreqReceiveFx (port : Nat) (h : Header) (crcOk : Bool) (epoch cause : Nat) (s : State) : State :=
  if 2 ≤ port then s.undeliverable port
  else
    let q := otherPort port
    let s := s.cond (crcOk && s.red.upstream == some port) (fun s => s.enterFailover cause)
    if s.canSend q then s.alongPair port h (fun q h => .feedreq q h epoch cause (!crcOk)) else s.undeliverable q

/-- FEEDREQ_RECEIVE (10 R280), on a port that is UP (10 R250). -/
def execFeedreqReceive (rx : Arrival) (h : Header) (epoch cause t : Nat) (s : State) : Host.Outcome State Fault Refusal :=
  .next ((s.atTime t).cond (s.isTile && s.hasPort rx.port && s.isUp rx.port) (feedreqReceiveFx rx.port h rx.crcOk epoch cause))

/-- FEEDREQ_REPEAT: every 5 ms in FAILOVER until a valid ACTIVE beacon arrives on that port (10 R280). -/
def execFeedreqRepeat (t : Nat) (s : State) : Host.Outcome State Fault Refusal :=
  .next ((s.atTime t).cond (s.isTile && s.flag R.RED.st_FAILOVER && s.red.repeating)
    (fun s => s.sendFeedreq (s.rd R.RED.FAILOVER_CAUSE)))

/-! A FEEDREQ at a sender port (10 R283). -/

/-- A port serves a node: an ACTIVE one every node in its range, a SERVING one those that asked (10 R283). -/
def State.servesNode (s : State) (port node : Nat) : Bool :=
  s.serves port &&
    if s.portState port = psACTIVE then decide (s.lv (R.COIL.ROUTE_LO port) ≤ node ∧ node ≤ s.lv (R.COIL.ROUTE_HI port))
    else s.red.serve.any (fun (c : Nat × Nat × Nat) => c.1 == port && c.2.1 == node)

/-- Word `i` of RED table 0: eight words a port, one bit a node from ROUTE_LO rounded down to a multiple of 256 on (10 R288). -/
def State.servedWord (s : State) (i : Nat) : Word32 :=
  let base := s.lv (R.COIL.ROUTE_LO (i / 8)) / 256 * 256 + 32 * (i % 8)
  BitVec.ofNat 32 (((List.range 32).filter (fun j => s.servesNode (i / 8) (base + j))).foldl (fun m j => m + 2 ^ j) 0)

/-- The node is served from the first tick 250 µs or more ahead; one that the port serves already stays as it is (10 R283). -/
def State.serveNode (s : State) (port node : Nat) : State :=
  let e := if s.frm.ticked then s.firstTick s.time else s.epoch
  if s.red.serve.any (fun (c : Nat × Nat × Nat) => c.1 == port && c.2.1 == node) then s
  else { s with red := { s.red with serve := s.red.serve ++ [(port, node, e)] } }

/-- A FEEDREQ reaches a sender port (10 R283). -/
def senderFeedreqFx (port node cause : Nat) (s : State) : State :=
  let s := ((((s.wr R.RED.FEEDREQ_NODE node).wr R.RED.FEEDREQ_CAUSE cause).wr R.RED.FEEDREQ_PORT port).inc
    R.RED.CNT_FEEDREQ_RX).raise R.RED.ev_FEEDREQ_RX
  let st := s.portState port
  if s.flag R.RED.RELINQUISHED || (st == psSTANDBY && !(s.lv R.RED.SERVE).testBit port) || st == psOFF then
    s.incRaise R.RED.CNT_FEEDREQ_REFUSED R.RED.ev_FEEDREQ_REFUSED
  else if st = psACTIVE then s
  else
    let s := s.cond (st == psSTANDBY) (fun s =>
      ((s.setPortState port psSERVING).modCoil port
        (fun c => { c with serveFrom := if s.frm.ticked then s.firstTick s.time else s.epoch })).splitLevel)
    s.serveNode port node

/-- SENDER_FEEDREQ (10 R283). -/
def execSenderFeedreq (port node _epoch cause t : Nat) (s : State) : Host.Outcome State Fault Refusal :=
  .next ((s.atTime t).cond (s.isSender && s.hasPort port && s.isUp port) (senderFeedreqFx port node cause))

/-! The far end of a looped coil (10 R285). -/

/-- LOOP_BROKEN holds while a watched port has had no far beacon for 1 ms; FAR_ACTIVE while an ACTIVE far beacon is seen (10 R285,
    R288). -/
def State.loopLevels (s : State) : State :=
  (s.level R.RED.ev_LOOP_BROKEN (s.red.broken.any (fun p => (s.lv R.RED.LOOP_CHECK).testBit p))).level R.RED.ev_FAR_ACTIVE (s.rd R.RED.FAR_ACTIVE != 0)

/-- A port that is no longer watched shows no far end, and its break is forgotten (10 R285). -/
def State.unwatch (s : State) : State :=
  let watch := s.lv R.RED.LOOP_CHECK
  let s : State := { s with red := { s.red with broken := s.red.broken.filter (fun p => watch.testBit p) } }
  (s.wr R.RED.LOOP_OK (s.rd R.RED.LOOP_OK &&& watch)).wr R.RED.FAR_ACTIVE (s.rd R.RED.FAR_ACTIVE &&& watch)

/-- LOOP_CHECK_TIMEOUT: no beacon of the far sender for 1 ms (10 R285). -/
def execLoopCheckTimeout (port : Nat) (s : State) : Host.Outcome State Fault Refusal :=
  .next (s.start.cond (s.isSender && s.hasPort port && (s.lv R.RED.LOOP_CHECK).testBit port) (fun s =>
    let s : State := { s with red := { s.red with broken := port :: s.red.broken.filter (· != port) } }
    ((s.wr R.RED.LOOP_OK (withBit (s.rd R.RED.LOOP_OK) port false)).wr R.RED.FAR_ACTIVE
      (withBit (s.rd R.RED.FAR_ACTIVE) port false)).loopLevels))

/-- The tick time a hub in FAILOVER announces: the one an upstream TICK fixed, else its previous one plus T (10 R282). -/
def State.hubTickTime (s : State) : Nat :=
  match s.frm.rx with
  | some b => b.tickTime
  | none => ((s.frm.nextTick : Int) - trimUnits s.phc.trim + s.clk.tb).toNat

/-- The TICK of a hub in FAILOVER for its next tick: HOLD when it will hold that frame, DARK after the bridge while it is dark (10 R282). -/
def State.hubTick (s : State) : TickBody :=
  let none_ : Bool := s.frm.rx.isNone
  { epoch := (s.frm.rx.map TickBody.epoch).getD (s.epoch + 1), tickTime := s.hubTickTime,
    hold := (s.frm.rx.map TickBody.hold).getD true, handback := false,
    dark := s.red.bridge == 0 && (none_ || s.red.darkFrames), commitTarget := s.red.lastTarget.getD (2 ^ 64 - 1),
    step := s.frm.rx.bind TickBody.step }

/-- HUB_TICK_LAUNCH: a hub in FAILOVER launches its own TICK on each enabled sub-coil port (10 R282). -/
def execHubTickLaunch (t : Nat) (s : State) : Host.Outcome State Fault Refusal :=
  .next ((s.atTime t).cond (s.isHub && s.flag R.RED.st_FAILOVER) (fun s =>
    s.each (s.subPorts.filter s.canSend) (fun s p => s.send none (.tick p s.hubTick))))

end Sys2Proof.Machine
end

