-- ==== Sys2Proof/Machine/Dram.lean ====
section
/-!
DEFINITION. The DRAM controller: the BAR4 map, writes and reads with their error handling, refresh, ALERT_n, patrol scrub and frequency
change (14).
-/

namespace Sys2Proof.Machine

/-- What an unlisted channel holds. -/
def chDefault : Nat → ChSt := fun _ => {}

/-- The record of a channel. -/
def State.chSt (s : State) (c : Nat) : ChSt := smGet chDefault s.drm.ch c

/-- Change the record of a channel. -/
def State.modCh (s : State) (c : Nat) (f : ChSt → ChSt) : State :=
  { s with drm := { s.drm with ch := smMod chDefault s.drm.ch c f } }

/-- Channels that the CHANNELS code enables (14 R393). -/
def channelCount (code : Nat) : Nat := if code = 0 then 1 else if code = 1 then 2 else 4

/-- Bytes of a channel of an organisation: 8 or 4 data devices of 1 or 2 GiB, one or two ranks (14 R379). -/
def channelBytes (width ranks density : Nat) : Nat :=
  (if width = 0 then 8 else 4) * (if density = 0 then 1 else 2) * (ranks + 1) * 2 ^ 30

/-- The channels that run, lowest first. -/
def State.channels (s : State) : List Nat := List.range s.drm.chans

/-- A channel is initialised (14 R379). -/
def State.chReady (s : State) (c : Nat) : Bool := s.flag (R.DRM.READY c)

/-- Installed capacity (14 R381). -/
def State.installed (s : State) : Nat := s.drm.chans * s.rd (R.DRM.CAPACITY 0)

/-- The channel of a BAR4 offset: 256-byte interleave (14 R381). -/
def dramCh (chans a : Nat) : Nat := if chans = 0 then 0 else a / 256 % chans

/-- The address within the channel (14 R381). -/
def dramAddr (chans a : Nat) : Nat := if chans = 0 then 0 else a / 256 / chans * 256 + a % 256

/-- Where an address within a channel lies in the devices: byte and column, bank group, bank, rank, row (14 R381). -/
structure DramPos where
  column : Nat
  group : Nat
  bank : Nat
  rank : Nat
  row : Nat
deriving DecidableEq, Repr

/-- The device position of an address within a channel, for x8 (width 0) or x16 devices and one or two ranks (14 R381). -/
def dramPos (width ranks addr : Nat) : DramPos :=
  let g := if width = 0 then 2 else 1
  let r := if ranks = 0 then 0 else 1
  { column := addr % 8192 / 8, group := addr / 2 ^ 13 % 2 ^ g, bank := addr / 2 ^ (13 + g) % 4,
    rank := addr / 2 ^ (15 + g) % 2 ^ r, row := addr / 2 ^ (15 + g + r) }

/-- The BAR4 offset of an address within a channel. -/
def dramOffset (chans c addr : Nat) : Nat := (addr / 256 * chans + c) * 256 + addr % 256

/-- A byte of DRAM. -/
def dramByte (mem : List Host.Cell) (a : Nat) : Byte := smGet (fun _ => 0) mem a

/-- The parts of an access by 64-byte line: line, first byte, bytes. -/
def lineParts : Nat → Nat → Nat → List (Nat × Nat × Nat)
  | 0, _, _ => []
  | fuel + 1, a, n =>
    if n = 0 then []
    else
      let k := min n (64 - a % 64)
      (a / 64, a, k) :: lineParts fuel (a + k) (n - k)

/-- The line parts of an access of `n` bytes at `a`. -/
def linesOf (a n : Nat) : List (Nat × Nat × Nat) := lineParts (n / 64 + 2) a n

/-- An access at or above installed capacity, or while a channel is not READY (14 R381). -/
def State.outOfRange (s : State) (a n : Nat) : Bool :=
  decide (s.installed < a + n) || s.channels.any (fun c => !s.chReady c) || s.drm.chans == 0

/-- Where DRAM that can be read and written ends: nowhere while a channel is not READY (14 R381). -/
def State.dramEnd (s : State) : Nat := if s.channels.all s.chReady then s.installed else 0

/-- A line has a word whose check pattern is uncorrectable. -/
def linePoisoned (poison : List Nat) (line : Nat) : Bool := poison.any (fun w => w / 8 == line)

/-- A read of a line's part comes back poisoned: its check pattern is uncorrectable, or its channel is in FAULT (14 R385, R388). -/
def State.unsoundPart (s : State) (p : Nat × Nat × Nat) : Bool :=
  linePoisoned s.drm.poison p.1 || s.flag (R.DRM.st_FAULT (dramCh s.drm.chans p.2.1))

/-- No read of the Y96 can come back poisoned (14 R385, R388). -/
def State.soundDram (s : State) : Bool := s.drm.poison.isEmpty && s.channels.all (fun c => !s.flag (R.DRM.st_FAULT c))

/-- The parts of an agent's read that come back poisoned (14 R385, R388). -/
def State.unsoundParts (s : State) (a n : Nat) : List (Nat × Nat × Nat) :=
  if s.soundDram then [] else (linesOf a n).filter s.unsoundPart

/-- An agent's read comes back poisoned (14 R385). -/
def State.unsound (s : State) (a n : Nat) : Bool := !(s.unsoundParts a n).isEmpty

/-- Bytes of DRAM as an agent of the Y96 takes them: beyond installed capacity, while a channel is not READY, and in a poisoned line they
    read 0 (14 R381, R385). -/
def State.dramBytes (s : State) (a n : Nat) : List Byte :=
  let bad := (s.unsoundParts a n).map Prod.fst
  (List.range n).map (fun i =>
    if a + i < s.dramEnd ∧ (bad = [] ∨ !bad.contains ((a + i) / 64)) then dramByte s.drm.mem (a + i) else 0)

/-! Pages, the retry buffer and the queues (14 R382, R387). -/

/-- The bank of a device position. -/
def DramPos.bankKey (p : DramPos) : Nat := (p.rank * 4 + p.bank) * 4 + p.group

/-- The device position of a line. -/
def State.linePos (s : State) (line : Nat) : DramPos :=
  dramPos (s.lv (R.DRM.WIDTH 0)) (s.lv (R.DRM.RANKS 0)) (dramAddr s.drm.chans (64 * line))

/-- The page of a line is open (14 R382). -/
def State.pageHit (s : State) (c line : Nat) : Bool :=
  smGet (fun _ => 0) (s.chSt c).openRows (s.linePos line).bankKey == (s.linePos line).row + 1

/-- A command of a line is issued: its page is open from then on, in place of another row of the bank, and the retry buffer of 64 holds it
    (14 R382, R387). -/
def State.useLine (s : State) (c line : Nat) (write : Bool) : State :=
  let p := s.linePos line
  s.modCh c (fun r => { r with
    openRows := smSet (fun _ => 0) r.openRows p.bankKey (p.row + 1), retry := ((line, write) :: r.retry).take 64 })

/-- The write that a full queue issues: the oldest that hits an open page, else the oldest (14 R382). -/
def State.nextWrite (s : State) (c : Nat) : Option WEntry :=
  match (s.chSt c).wq.find? (fun e => s.pageHit c e.line) with
  | some e => some e
  | none => (s.chSt c).wq.head?

/-- A queued write is issued. -/
def State.issueWrite (s : State) (c line : Nat) : State :=
  (s.modCh c (fun r => { r with wq := r.wq.filter (fun x => x.line != line) })).useLine c line true

/-- The write queue takes the write of a line, merged with one that waits there; the 33rd line issues another first (14 R382). -/
def State.queueWrite (s : State) (c line mask : Nat) : State :=
  if (s.chSt c).wq.any (fun e => e.line == line) then
    s.modCh c (fun r => { r with wq := r.wq.map (fun x => if x.line = line then { x with mask := x.mask ||| mask } else x) })
  else
    let s := match s.nextWrite c with
      | none => s
      | some e => s.cond (decide (32 ≤ (s.chSt c).wq.length)) (fun s => s.issueWrite c e.line)
    s.modCh c (fun r => { r with wq := r.wq ++ [⟨line, mask⟩] })

/-- A channel takes no new access now: it waits for ALERT_n, or a frequency change runs (14 R387, R391). -/
def State.chStopped (s : State) (c : Nat) : Bool := (s.chSt c).alert || s.flag (R.DRM.FREQ_BUSY c)

/-- It counts in CNT_OOR on DRM0 and raises OOR (14 R381). -/
def State.oor (s : State) : State := s.incRaise (R.DRM.CNT_OOR 0) (R.DRM.ev_OOR 0)

/-- UE_RATE holds, and the DRAM_UE ground is met, while the sum of UE_1S exceeds the threshold: from its rise on, and again for a sender
    that is not relinquished while it lasts, as after a RESTORE or a late enable (14 R386, 10 R278). -/
def State.ueRate (s : State) : State :=
  let sum := (s.channels.map (fun c => s.rd (R.DRM.UE_1S c))).foldl (· + ·) 0
  let b := decide (s.lv R.RED.DRAM_UE_THRESH < sum)
  let was := s.raw (R.DRM.ev_UE_RATE 0)
  let s := s.level (R.DRM.ev_UE_RATE 0) b
  s.cond (b && (!was || !s.flag R.RED.RELINQUISHED)) (fun s => s.ground 2)

/-- UE_1S of a channel is the sum of its bins (14 R386). -/
def State.showUe (s : State) (c : Nat) : State := s.wr (R.DRM.UE_1S c) (min ((s.chSt c).bins.foldl (· + ·) 0) 65535)

/-- An uncorrectable read of a channel: counted, raised, its offset recorded, in this millisecond's bin (14 R385, R386). -/
def State.ueRead (s : State) (c a : Nat) : State :=
  let s := (s.incRaise (R.DRM.CNT_UE c) (R.DRM.ev_UE c)).wr (R.DRM.LAST_UE_ADDR c) a
  let s := s.modCh c (fun r => { r with bins := match r.bins with | [] => [1] | b :: bs => (b + 1) :: bs })
  (s.showUe c).ueRate

/-- The byte mask of `n` bytes from byte `a` of their line. -/
def partMask (a n : Nat) : Nat := (2 ^ n - 1) * 2 ^ (a % 64)

/-- The mask covers whole 64-bit words only (14 R383). -/
def wholeWords (mask : Nat) : Bool := (List.range 8).all (fun i => mask / 256 ^ i % 256 == 0 || mask / 256 ^ i % 256 == 255)

/-- The 64-bit words of a line that a mask covers whole. -/
def coveredWords (line mask : Nat) : List Nat := ((List.range 8).filter (fun i => mask / 256 ^ i % 256 == 255)).map (8 * line + ·)

/-- Errors found in words of a line stay there: a single-bit error until the scrub or a write rewrites the word, an uncorrectable word until
    a full-word write covers it (14 R385). An error is a word (BAR4 offset div 8) with its bits. -/
def State.noteErrs (s : State) (errs : List (Nat × Nat)) (line : Nat) : State :=
  let mine := errs.filter (fun e => e.1 / 8 == line)
  let bad := (mine.filter (fun e => decide (2 ≤ e.2))).map Prod.fst
  let one := (mine.filter (fun e => e.2 == 1)).map Prod.fst
  { s with drm := { s.drm with
    poison := s.drm.poison ++ bad.filter (fun w => !s.drm.poison.contains w)
    weak := s.drm.weak ++ one.filter (fun w => !s.drm.weak.contains w) } }

/-- Words of a line that hold a single-bit error, beside those that are uncorrectable. -/
def State.weakWords (s : State) (line : Nat) : List Nat := s.drm.weak.filter (fun w => w / 8 == line && !s.drm.poison.contains w)

/-- Words rewritten by the controller hold no error any more. -/
def State.cleanWords (s : State) (ws : List Nat) : State :=
  { s with drm := { s.drm with poison := s.drm.poison.filter (fun w => !ws.contains w), weak := s.drm.weak.filter (fun w => !ws.contains w) } }

/-- The check of a line that is read: each single-bit error is corrected and counts, an uncorrectable word makes the read poisoned
    (14 R385). -/
def State.checkLine (s : State) (c line : Nat) : State × Bool :=
  let ones := (s.weakWords line).length
  let s := s.cond (ones != 0) (fun s => (s.incBy (R.DRM.CNT_CE c) ones).raise (R.DRM.ev_CE c))
  if linePoisoned s.drm.poison line then (s.ueRead c (64 * line), true) else (s, false)

/-- The write of a line's part: a write that does not cover whole words is a read-modify-write, whose read is checked as any and which
    writes the merged line, uncorrectable as a whole where its read was; whole words written hold no error (14 R383, R385). Writes to a channel
    in FAULT are discarded (14 R388). -/
def State.writePart (s : State) (p : Nat × Nat × Nat) : State :=
  let (line, a, n) := p
  let c := dramCh s.drm.chans a
  if s.flag (R.DRM.st_FAULT c) then s
  else
    let mask := partMask a n
    let s := s.queueWrite c line mask
    if wholeWords mask then s.cleanWords (coveredWords line mask)
    else
      let all := (List.range 8).map (8 * line + ·)
      let (s, bad) := ((s.inc (R.DRM.CNT_RMW c)).useLine c line false).checkLine c line
      let s := s.cleanWords all
      s.cond bad (fun s => { s with drm := { s.drm with poison := s.drm.poison ++ all } })

/-- The bytes of a line part land in DRAM, unless the channel is in FAULT (14 R388). -/
def State.storePart (s : State) (off : Nat) (data : List Byte) (p : Nat × Nat × Nat) : State :=
  let (_, a, n) := p
  if s.flag (R.DRM.st_FAULT (dramCh s.drm.chans a)) then s
  else { s with drm := { s.drm with mem := smSetMany (fun _ => 0) s.drm.mem a ((data.drop (a - off)).take n) } }

/-- A write of the host or of an agent of the Y96: all go through one map (14 R381 to R383). -/
def State.dramStore (s : State) (off : Nat) (data : List Byte) : State :=
  if data.isEmpty then s
  else if s.outOfRange off data.length then s.oor
  else s.each (linesOf off data.length) (fun s p => (s.storePart off data p).writePart p)

/-- The queued write of the line is complete: a read of the line is served from it (14 R382). -/
def WEntry.complete (e : WEntry) : Bool := e.mask == 2 ^ 64 - 1

/-- The read of a line's part: from a complete entry of the write queue, else from DRAM, after a partial entry was issued, with the errors
    found in it (word by BAR4 offset div 8, bits in error); the flag says poisoned (14 R382, R385, R388). -/
def State.readPart (s : State) (errs : List (Nat × Nat)) (p : Nat × Nat × Nat) : State × Bool :=
  let (line, a, _) := p
  let c := dramCh s.drm.chans a
  if s.flag (R.DRM.st_FAULT c) then (s.ueRead c (64 * line), true)
  else
    match (s.chSt c).wq.find? (fun e => e.line == line) with
    | some e =>
      if e.complete then (s.inc (R.DRM.CNT_FWD c), linePoisoned s.drm.poison line)
      else (((s.issueWrite c line).useLine c line false).noteErrs errs line).checkLine c line
    | none => ((s.useLine c line false).noteErrs errs line).checkLine c line

/-- Read every line part of an access; poisoned when one is. -/
def State.readParts (s : State) (errs : List (Nat × Nat)) : List (Nat × Nat × Nat) → State × Bool
  | [] => (s, false)
  | p :: ps =>
    let (s, a) := s.readPart errs p
    let (s, b) := s.readParts errs ps
    (s, a || b)

/-- An agent's read of DRAM: its bytes, 0 where they are poisoned, whether any was, and what the read counts (14 R381, R382, R385). Errors
    that the read itself would find are no operand of the agents' commands (log 188). -/
def State.dramRead (s : State) (a n : Nat) : List Byte × Bool × State :=
  if n = 0 then ([], false, s)
  else if s.outOfRange a n then (List.replicate n 0, false, s.oor)
  else
    let data := s.dramBytes a n
    let (s, bad) := s.readParts [] (linesOf a n)
    (data, bad, s)

/-- The pages of every channel that a range touches, one line of each, in order. -/
def State.pagesOf (s : State) (a n : Nat) : List (Nat × Nat) :=
  (List.range (n / (8192 * s.drm.chans) + 2)).flatMap (fun i =>
    s.channels.map (fun c => (c, dramOffset s.drm.chans c (a / (8192 * s.drm.chans) * 8192 + 8192 * i) / 64)))

/-- A range is read line by line by a streaming agent: its pages are opened, a line that a complete queued write holds is forwarded and
    counts, a partial one is issued first (14 R382). The retry buffer holds one command of each page (log 15). -/
def State.stream (s : State) (a n : Nat) : State :=
  let s := s.each s.channels (fun s c =>
    s.each ((s.chSt c).wq.filter (fun e => decide (a < 64 * e.line + 64 ∧ 64 * e.line < a + n))) (fun s e =>
      if e.complete then s.inc (R.DRM.CNT_FWD c) else s.issueWrite c e.line))
  s.each ((s.pagesOf a n).filter (fun x => decide (64 * x.2 < a + n))) (fun s x => s.useLine x.1 x.2 false)

/-- What a streaming agent's read of a range counts: out of range, or the lines of it that come back poisoned or corrected (14 R381, R382,
    R385). -/
def State.readUe (s : State) (a n : Nat) : State :=
  if n = 0 then s
  else if s.outOfRange a n then s.oor
  else
    let s := s.stream a n
    let s := s.each (s.drm.weak.filter (fun w => decide (a < 8 * w + 8 ∧ 8 * w < a + n) && !s.drm.poison.contains w)) (fun s w =>
      s.incRaise (R.DRM.CNT_CE (dramCh s.drm.chans (8 * w))) (R.DRM.ev_CE (dramCh s.drm.chans (8 * w))))
    s.each (s.unsoundParts a n) (fun s p => s.ueRead (dramCh s.drm.chans p.2.1) (64 * p.1))

/-- A host read of DRAM in range completes (14 R382, R385). -/
def State.hostReadNow (s : State) (r : HostRead) : State :=
  let data := s.dramBytes r.off r.len
  let (s, bad) := s.readParts r.errs (linesOf r.off r.len)
  s.emit (.hostRead (if bad then [] else data) bad)

/-- A host read waits: a channel that it needs is stopped, or older reads wait (14 R387, R391, R392). -/
def State.hostReadWaits (s : State) (r : HostRead) : Bool :=
  (linesOf r.off r.len).any (fun p => s.chStopped (dramCh s.drm.chans p.2.1))

/-- The reads that wait are served in order, as far as their channels run again. -/
def State.serveReads : List HostRead → State → State
  | [], s => s
  | r :: rs, s =>
    if s.hostReadWaits r then s
    else State.serveReads rs (({ s with drm := { s.drm with reads := rs } } : State).hostReadNow r)

/-- A read of the host through BAR4 (14 R381, R382, R385, R391); in BISQUE BAR4 reads 0 (16 R410). -/
def bar4ReadFx (off len : Nat) (errs : List (Nat × Nat)) (s : State) : State :=
  if !s.running then s.emit (.hostRead (List.replicate len 0) false)
  else if s.outOfRange off len then s.oor.emit (.hostRead (List.replicate len 0) false)
  else if !s.drm.reads.isEmpty || s.hostReadWaits ⟨off, len, errs⟩ then
    { s with drm := { s.drm with reads := s.drm.reads ++ [⟨off, len, errs⟩] } }
  else s.hostReadNow ⟨off, len, errs⟩

/-- BAR4_READ (14 R381). -/
def execBar4Read (off len : Nat) (biterrs : List (Nat × Nat)) (s : State) : Host.Outcome State Fault Refusal :=
  .next (s.start.cond (s.role == .sender && s.stateCode != 0) (bar4ReadFx off len biterrs))

/-! Refresh (14 R384). -/

/-- A refresh of a rank is issued: the open pages of the rank close for it (14 R382, R384). -/
def State.closeRank (s : State) (c rank : Nat) : State :=
  s.modCh c (fun r => { r with openRows := r.openRows.filter (fun (x : Nat × Nat) => x.1 / 16 != rank) })

/-- The most refreshes that a rank of the channel owes (14 R384). -/
def State.showOwed (s : State) (c : Nat) : State := s.wr (R.DRM.POSTPONED c) (((s.chSt c).owed.map Prod.snd).foldl max 0)

/-- What a rank owes. -/
def State.setOwed (s : State) (c rank n : Nat) : State := s.modCh c (fun r => { r with owed := smSet (fun _ => 0) r.owed rank n })

/-- The refresh that is due at 8 owed goes ahead of every queued access (14 R384). -/
def State.forceRefresh (s : State) (c rank : Nat) : State := (s.closeRank c rank).inc (R.DRM.CNT_POSTPONE_MAX c)

/-- Refreshes pulled in while the channel is idle, 0 to 8 in all: how many is the controller's (14 R384; log 15). -/
def State.pullIn (s : State) (c rank : Nat) : State :=
  let (v, s) := s.fresh
  s.modCh c (fun r => { r with ahead := smSet (fun _ => 0) r.ahead rank (v % 9) })

/-- REFRESH_TIMER: a refresh is due on a rank. One pulled in covers it. At 8 owed the refresh goes ahead of every access; while a replay is
    pending it follows the replay. While queued accesses hit its open pages (`hits`) it is postponed; else what is owed is issued, and an idle
    channel pulls refreshes in (14 R384, R392; log 15). -/
def refreshFx (c rank : Nat) (hits : Bool) (s : State) : State :=
  let owed := smGet (fun _ => 0) (s.chSt c).owed rank
  let ahead := smGet (fun _ => 0) (s.chSt c).ahead rank
  if ahead ≠ 0 then s.modCh c (fun r => { r with ahead := smSet (fun _ => 0) r.ahead rank (ahead - 1) })
  else if 8 ≤ owed then
    if (s.chSt c).alert then s.modCh c (fun r => { r with urgent := rank :: r.urgent.filter (· != rank) })
    else s.forceRefresh c rank
  else if hits || (s.chSt c).alert then (s.setOwed c rank (owed + 1)).showOwed c
  else
    (((s.closeRank c rank).setOwed c rank 0).showOwed c).cond ((s.chSt c).wq.isEmpty && s.drm.reads.isEmpty) (fun s => s.pullIn c rank)

/-- REFRESH_TIMER (14 R384). -/
def execRefreshTimer (ch rank : Nat) (hits : Bool) (s : State) : Host.Outcome State Fault Refusal :=
  .next (s.start.cond (s.isSender && s.chReady ch && !s.flag (R.DRM.FREQ_BUSY ch)) (refreshFx ch rank hits))

/-! ALERT_n (14 R387, R388). -/

/-- DRAM_ALERT: the controller stops and waits; the alert counts by its cause. In a frequency change the ranks leave self-refresh for the
    replay (14 R387, R392). -/
def execDramAlert (ch : Nat) (wcrc : Bool) (s : State) : Host.Outcome State Fault Refusal :=
  .next (s.start.cond (s.isSender && s.chReady ch && s.lvB (if wcrc then R.DRM.WCRC_EN ch else R.DRM.CA_PAR_EN ch)) (fun s =>
    (((s.inc (if wcrc then R.DRM.CNT_WCRC ch else R.DRM.CNT_CA_PAR ch)).raise (R.DRM.ev_ALERT ch)).wr (R.DRM.IN_SR ch) 0).modCh ch
      (fun r => { r with alert := true })))

/-- The queue of a channel drains, what is owed is issued, the banks close and the ranks enter self-refresh (14 R391 steps 1 and 2). -/
def State.enterChange (s : State) (c : Nat) : State :=
  ((((s.wr (R.DRM.FREQ_BUSY c) 1).wr (R.DRM.IN_SR c) 1).wr (R.DRM.POSTPONED c) 0).modCh c
    (fun r => { r with wq := [], owed := [], ahead := [], urgent := [], openRows := [] }))

/-- The replay: the commands that the retry buffer holds are issued again, oldest first; each opens its page (14 R387). -/
def State.replay (s : State) (c : Nat) : State :=
  s.each (s.chSt c).retry.reverse (fun s x =>
    let p := s.linePos x.1
    s.modCh c (fun r => { r with openRows := smSet (fun _ => 0) r.openRows p.bankKey (p.row + 1) }))

/-- What waited for a replay: refreshes due beyond the eighth, before any new access; a frequency change, from its first step; the host's
    reads (14 R392). -/
def State.afterReplay (s : State) (c : Nat) : State :=
  let s := s.each (s.chSt c).urgent (fun s r => s.forceRefresh c r)
  let s := s.modCh c (fun r => { r with urgent := [] })
  let s := s.cond (s.flag (R.DRM.FREQ_BUSY c)) (fun s => s.enterChange c)
  State.serveReads s.drm.reads s

/-- ALERT_N_RETURN: all banks close and the retry buffer is replayed; the eighth replay in a row that meets another ALERT_n puts the
    channel in FAULT, after which nothing is replayed (14 R387, R388). Confirmed commands leave the buffer. -/
def alertReturnFx (c : Nat) (again : Bool) (s : State) : State :=
  let s := ((s.inc (R.DRM.CNT_REPLAY c)).modCh c (fun r => { r with openRows := [] })).replay c
  if again then
    let n := (s.chSt c).replays + 1
    let s := s.modCh c (fun r => { r with replays := n, alert := decide (n < 8) })
    s.cond (decide (8 ≤ n)) (fun s => ((s.wr (R.DRM.st_FAULT c) 1).level (R.DRM.ev_FAULT c) true).afterReplay c)
  else (s.modCh c (fun r => { r with replays := 0, alert := false, retry := [] })).afterReplay c

/-- ALERT_N_RETURN (14 R387). -/
def execAlertNReturn (ch : Nat) (again : Bool) (s : State) : Host.Outcome State Fault Refusal :=
  .next (s.start.cond (s.isSender && s.chReady ch && (s.chSt ch).alert) (alertReturnFx ch again))

/-! Patrol scrub and the UE window (14 R386, R389). -/

/-- The scrub moves to its next line; after the last the pass ends (14 R389). -/
def State.scrubNext (s : State) (c : Nat) : State :=
  let n := (s.chSt c).scrub + 1
  if n < s.rd (R.DRM.CAPACITY c) / 64 then s.modCh c (fun r => { r with scrub := n })
  else (s.modCh c (fun r => { r with scrub := 0, passEnd := s.time })).level (R.DRM.ev_SCRUB_LATE c) false

/-- A line that the scrub reads: its errors are checked as by any read, and a line with a corrected word is written back and counted
    (14 R385, R386, R389). Which word of the line an error is in is open (log 188). -/
def State.scrubRead (s : State) (c line err : Nat) : State :=
  let (w, s) := s.fresh
  let s := (s.useLine c line false).noteErrs [(8 * line + w % 8, err)] line
  let weak := s.weakWords line
  let s := (s.checkLine c line).1
  s.cond (!weak.isEmpty) (fun s => (((s.cleanWords weak).useLine c line true)).inc (R.DRM.CNT_SCRUB_CORR c))

/-- PATROL_SCRUB_LINE: a line in the write queue is skipped; in a faulted channel every read is poisoned (14 R388, R389). `err` is the bits in
    error of the line's worst word. -/
def scrubLineFx (c err : Nat) (s : State) : State :=
  let line := dramOffset s.drm.chans c (64 * (s.chSt c).scrub) / 64
  let s :=
    if (s.chSt c).wq.any (fun e => e.line == line) then s
    else if s.flag (R.DRM.st_FAULT c) then s.ueRead c (64 * line)
    else s.scrubRead c line err
  s.scrubNext c

/-- PATROL_SCRUB_LINE (14 R389); a channel that is stopped reads no line. -/
def execPatrolScrubLine (ch err : Nat) (s : State) : Host.Outcome State Fault Refusal :=
  .next (s.start.cond (s.isSender && s.chReady ch && !s.chStopped ch) (scrubLineFx ch err))

/-- SCRUB_NOW starts a pass at once (14 R389). -/
def scrubNowFx (c : Nat) (s : State) : State := s.modCh c (fun r => { r with scrub := 0 })

/-- SCRUB_NOW (14 R389). -/
def execScrubNow (ch : Nat) (s : State) : Host.Outcome State Fault Refusal :=
  .next (s.start.cond (s.isSender && s.chReady ch) (scrubNowFx ch))

/-- The last complete pass of a channel ended more than 2 × SCRUB_HOURS ago (14 R389). -/
def State.scrubOverdue (s : State) (c : Nat) : Bool :=
  decide ((s.chSt c).passEnd + 2 * 3600 * sec1 * s.lv (R.DRM.SCRUB_HOURS c) < s.time)

/-- SCRUB_LATE follows the age of the last pass and SCRUB_HOURS (14 R389). -/
def State.showScrubLate (s : State) (c : Nat) : State := s.level (R.DRM.ev_SCRUB_LATE c) (s.scrubOverdue c)

/-- DRAM_SCRUB_LATE_ALARM (14 R389). -/
def execDramScrubLateAlarm (ch : Nat) (s : State) : Host.Outcome State Fault Refusal :=
  .next (s.start.cond (s.isSender && s.chReady ch) (fun s => s.showScrubLate ch))

/-- DRAM at an apply: the DRAM_UE ground and SCRUB_LATE are judged by the configuration in force (10 R278; 14 R386, R389). -/
def State.dramApplied (s : State) : State := (s.each (s.channels.filter s.chReady) State.showScrubLate).ueRate

/-- BW of a channel as measured over the last 100 ms, an open value (14 R393; log 72). -/
def State.showBw (s : State) (c : Nat) : State :=
  let (v, s) := s.fresh
  s.wr (R.DRM.BW c) (v % 1001)

/-- UE_WINDOW_STEP: a new millisecond bin on every channel; bins older than 1,000 ms drop (14 R386). BW is measured anew with it. -/
def execUeWindowStep (s : State) : Host.Outcome State Fault Refusal :=
  .next (s.start.cond s.isSender (fun s =>
    (s.each s.channels (fun s c =>
      ((s.modCh c (fun r => { r with bins := (0 :: r.bins).take 1000 })).showUe c).showBw c)).ueRate))

/-! Frequency change (14 R390, R391). -/

/-- A write of FREQ_GO on a DRM page: accepted in LOADED and ARMED toward the inactive set, with no change running; the queues drain,
    owed refreshes are issued and the ranks enter self-refresh (14 R391, R392). A refused one shows on the page that was written. -/
def freqGoFx (c : Nat) (v : Word32) (s : State) : State :=
  let target := fieldOf v 1 1
  if (s.stateCode = stLOADED ∨ s.stateCode = stARMED) ∧ target ≠ s.rd (R.DRM.ACTIVE_SET 0) ∧ s.rd (R.DRM.FREQ_BUSY 0) = 0 then
    let s := s.wr (R.DRM.FREQ_REFUSED c) 0
    let s : State := { s with drm := { s.drm with target := target } }
    s.each s.channels State.enterChange
  else s.wr (R.DRM.FREQ_REFUSED c) 1

/-- FREQ_GO (14 R391), written on page DRM0. -/
def execFreqGo (v : Word32) (s : State) : Host.Outcome State Fault Refusal :=
  .next (s.start.cond (s.isSender && v.getLsbD 0) (freqGoFx 0 v))

/-- The trained delays of a set are written at its first use; their values are the controller's own (14 R390, log 10). -/
def State.trainSet (s : State) (c set : Nat) : State :=
  if (s.immW (0x0E0 + c) set 8).getLsbD 0 then s
  else
    s.each (List.range 8) (fun s i =>
      let (v, s) := s.fresh
      s.setImm (0x0E0 + c) set (8 + i) (if i = 0 then BitVec.ofNat 32 v ||| 1 else BitVec.ofNat 32 v))

/-- FREQ_DONE: ACTIVE_SET switches on every channel that is not in FAULT, and the accesses that waited go on (14 R391, R392). -/
def freqDoneFx (s : State) : State :=
  let s := s.each s.channels (fun s c =>
    let s := ((s.wr (R.DRM.FREQ_BUSY c) 0).wr (R.DRM.IN_SR c) 0).wr (R.DRM.POSTPONED c) 0
    if s.flag (R.DRM.st_FAULT c) then s
    else ((s.trainSet c s.drm.target).wr (R.DRM.ACTIVE_SET c) s.drm.target).raise (R.DRM.ev_FREQ_DONE c))
  State.serveReads s.drm.reads s

/-- FREQ_DONE (14 R391); a change cannot end while a replay is pending (14 R392). -/
def execFreqDone (s : State) : Host.Outcome State Fault Refusal :=
  .next (s.start.cond (s.isSender && s.flag (R.DRM.FREQ_BUSY 0) && s.channels.all (fun c => !(s.chSt c).alert)) freqDoneFx)

/-! Start-up (14 R379, R390). -/

/-- Start-up initialises and trains the enabled channels, which run from set A: its first use (14 R379, R390); an untrained channel stays not READY. -/
def State.dramInit (s : State) (trained : Bool) : State :=
  let n := channelCount (s.lv (R.DRM.CHANNELS 0))
  let s : State := { s with drm := { s.drm with chans := n } }
  s.each (List.range n) (fun s c =>
    (((s.wrB (R.DRM.READY c) trained).wr (R.DRM.CAPACITY c)
      (channelBytes (s.lv (R.DRM.WIDTH 0)) (s.lv (R.DRM.RANKS 0)) (s.lv (R.DRM.DENSITY 0)))).modCh c
      (fun r => { r with passEnd := s.time })).cond trained (fun s => s.trainSet c 0))

end Sys2Proof.Machine
end

