-- ==== Sys2Proof/Machine/Eotf.lean ====
section
/-!
DEFINITION. The conversion of signal values to L20 light and back: the matrices, the transfer functions of SDR, PQ and HLG, the primaries,
the rounding, and the accuracy that the spec grants (06 R154, R155; 07 R170; 08 R187; 00 R458). The transfer functions and the coefficients are
those of BT.1886, ST 2084, BT.2100, BT.709 and BT.2020 (PRESUMED, log 177), in fixed point of 128 fraction bits.
-/

namespace Sys2Proof.Machine

/-! Fixed point. -/

/-- 1.0 in fixed point. -/
def cxOne : Nat := 2 ^ 128

/-- Product and quotient in fixed point. -/
def cxMul (a b : Nat) : Nat := a * b / cxOne
def cxDiv (a b : Nat) : Nat := a * cxOne / b

/-- A power, over the `bits` low bits of the exponent. -/
def cxPow : Nat → Nat → Nat → Nat
  | 0, _, _ => cxOne
  | bits + 1, x, e =>
    let r := cxPow bits (cxMul x x) (e / 2)
    if e % 2 = 1 then cxMul r x else r

/-- The largest number from `lo` on, below lo + 2^bits, that meets a test which holds up to some number. -/
def topMeeting (p : Nat → Bool) : Nat → Nat → Nat
  | 0, lo => lo
  | bits + 1, lo => if p (lo + 2 ^ bits) then topMeeting p bits (lo + 2 ^ bits) else topMeeting p bits lo

/-- The k-th root of a number from 0 to 1, for k below 16,384. -/
def cxRoot (k x : Nat) : Nat := topMeeting (fun y => decide (y ≤ cxOne) && decide (cxPow 14 y k ≤ x)) 129 0

/-- x to the power a / b, for x from 0 to 1. -/
def cxPowQ (x a b : Nat) : Nat := cxPow 14 (cxRoot b x) a

/-- The terms of the exponential series of x from term k on. -/
def cxExpTail (x : Nat) : Nat → Nat → Nat
  | 0, _ => cxOne
  | f + 1, k => cxOne + cxMul x (cxExpTail x f (k + 1)) / k

/-- e to the power x, for x from 0 to 4. -/
def cxExp (x : Nat) : Nat := cxPow 4 (cxExpTail (x / 8) 40 1) 8

/-- A decimal fraction n / d in fixed point. -/
def cxFrac (n d : Nat) : Nat := n * cxOne / d

/-! R′G′B′ from samples (06 R154 step 2). -/

/-- Kr and Kb in ten-thousandths: COLOR 0 BT.709, 1 BT.2020. -/
def lumaKr (color : Nat) : Int := if color = 0 then 2126 else 2627
def lumaKb (color : Nat) : Int := if color = 0 then 722 else 593

/-- A fixed-point value clipped to 0 to 1. -/
def cxClip (x : Int) : Nat := clipNat x cxOne

/-- A luma or RGB sample of d bits as a fixed-point value, at narrow or full range. -/
def lumaValue (bits : Nat) (full : Bool) (v : Int) : Int :=
  if full then v * cxOne / (2 ^ bits - 1 : Nat) else (v - 2 ^ (bits - 4)) * cxOne / (219 * 2 ^ (bits - 8) : Nat)

/-- A chroma sample of d bits, given in sixteenths, as a signed fixed-point value. -/
def chromaValue (bits : Nat) (full : Bool) (v : Int) : Int :=
  if full then (v - 2 ^ (bits + 3)) * cxOne / (16 * (2 ^ bits - 1) : Nat)
  else (v - 2 ^ (bits + 3)) * cxOne / (16 * (224 * 2 ^ (bits - 8)) : Nat)

/-- R′G′B′ of a sample triple: Y, Cb, Cr through the non-constant-luminance matrix, or R, G, B; chroma in sixteenths (06 R154 step 2). -/
def primesOf (rgb : Bool) (bits : Nat) (full : Bool) (color : Nat) (v : Int × Int × Int) : Nat × Nat × Nat :=
  if rgb then (cxClip (lumaValue bits full v.1), cxClip (lumaValue bits full v.2.1), cxClip (lumaValue bits full v.2.2))
  else
    let y := lumaValue bits full v.1
    let r := y + 2 * (10000 - lumaKr color) * chromaValue bits full v.2.2 / 10000
    let b := y + 2 * (10000 - lumaKb color) * chromaValue bits full v.2.1 / 10000
    let g := (10000 * y - lumaKr color * r - lumaKb color * b) / (10000 - lumaKr color - lumaKb color)
    (cxClip r, cxClip g, cxClip b)

/-! Light (06 R154 step 3). -/

/-- The ST 2084 EOTF: cd/m² in fixed point. -/
def pqLight (x : Nat) : Nat :=
  let p := cxPowQ x 32 2523
  10000 * cxPowQ (cxDiv (4096 * p - 3424 * cxOne) (77216 * cxOne - 76544 * p)) 8192 1305

/-- The BT.2100 HLG constants a, b, c. -/
def hlgA : Nat := cxFrac 17883277 100000000
def hlgB : Nat := cxFrac 28466892 100000000
def hlgC : Nat := cxFrac 55991073 100000000

/-- The inverse of the HLG OETF: scene light from 0 to 1. -/
def hlgScene (x : Nat) : Nat :=
  if 2 * x ≤ cxOne then cxMul x x / 3
  else (cxDiv (cxExp (cxDiv (x - cxOne / 2) hlgA)) (cxExp (cxDiv (hlgC - cxOne / 2) hlgA)) + hlgB) / 12

/-- A weighted sum with the luma weights of BT.2020. -/
def luma2020 (v : Nat × Nat × Nat) : Nat := (2627 * v.1 + 6780 * v.2.1 + 593 * v.2.2) / 10000

/-- Absolute light of R′G′B′ in cd/m², fixed point: TCS 0 SDR, 1 PQ, 2 HLG with system gamma 1.2 (06 R154 step 3). -/
def lightOf (tcs sdr hlg : Nat) (v : Nat × Nat × Nat) : Nat × Nat × Nat :=
  match tcs with
  | 0 => (sdr * cxPowQ v.1 12 5, sdr * cxPowQ v.2.1 12 5, sdr * cxPowQ v.2.2 12 5)
  | 1 => (pqLight v.1, pqLight v.2.1, pqLight v.2.2)
  | _ =>
    let e := (hlgScene v.1, hlgScene v.2.1, hlgScene v.2.2)
    let k := cxPowQ (min cxOne (luma2020 e)) 1 5
    (hlg * cxMul k e.1, hlg * cxMul k e.2.1, hlg * cxMul k e.2.2)

/-- A 3 × 3 matrix, in units of 10^-15, on light; light below 0 does not exist. -/
def matApply (m : List (List Int)) (v : Nat × Nat × Nat) : Nat × Nat × Nat :=
  let row (i : Nat) : Nat :=
    let r := m.getD i []
    ((r.getD 0 0 * (v.1 : Int) + r.getD 1 0 * (v.2.1 : Int) + r.getD 2 0 * (v.2.2 : Int)) / 10 ^ 15).toNat
  (row 0, row 1, row 2)

/-- BT.709 to BT.2020 primaries in linear light, and back (06 R154 step 4). -/
def mat709to2020 : List (List Int) :=
  [[627403895934699, 329283038377884, 43313065687417], [69097289358232, 919540395075459, 11362315566309],
   [16391438875150, 88013307877226, 895595253247624]]
def mat2020to709 : List (List Int) :=
  [[1660491002108434, -587641138788550, -72849863319885], [-124550474521591, 1132899897125960, -8349422604369],
   [-18150763354905, -100578898008007, 1118729661362913]]

/-! Codes (06 R154 step 5). -/

/-- The L20 code of light: round half up of nits × (2^20 − 1) / PEAK_NITS, moved by what the device deviates, within ±1 code or ±0.05 % of the
    exact value, whichever is larger; clipped (06 R154; 00 R458). -/
def l20Code (peak nits : Nat) (dev : Int) : Nat :=
  let e := nits * (2 ^ 20 - 1) / max 1 peak
  let tol := max cxOne (e / 2000)
  let n : Int := ((e + cxOne / 2) / cxOne : Nat)
  clipNat (clampInt (n + dev) (ceilDiv (e - tol) cxOne : Nat) ((e + tol) / cxOne : Nat)) (2 ^ 20 - 1)

/-- L20 of R′G′B′ in fixed point (06 R154 steps 3 to 5): TCS, COLOR, SDR_NITS, HLG_NITS, PEAK_NITS. -/
def primesL20 (tcs color sdr hlg peak : Nat) (v : Nat × Nat × Nat) : Nat × Nat × Nat :=
  let l := lightOf tcs sdr hlg v
  let l := if color = 0 then matApply mat709to2020 l else l
  let d := Config.l20Dev (tcs, color, sdr, hlg, peak) v
  (l20Code peak l.1 d.1, l20Code peak l.2.1 d.2.1, l20Code peak l.2.2 d.2.2)

/-! The inverse, for the preview (06 R155). -/

/-- The signal value from 0 to 1 whose transfer function gives the most light not above `x`. -/
def inverseOf (f : Nat → Nat) (x : Nat) : Nat := topMeeting (fun y => decide (y ≤ cxOne) && decide (f y ≤ x)) 129 0

/-- R′G′B′ of light in cd/m², fixed point: the inverse of `lightOf` (06 R155). -/
def primesOfLight (tcs sdr hlg : Nat) (v : Nat × Nat × Nat) : Nat × Nat × Nat :=
  match tcs with
  | 0 =>
    let f (x : Nat) : Nat := cxPowQ (min cxOne (x / max 1 sdr)) 5 12
    (f v.1, f v.2.1, f v.2.2)
  | 1 => (inverseOf pqLight v.1, inverseOf pqLight v.2.1, inverseOf pqLight v.2.2)
  | _ =>
    let n := (v.1 / max 1 hlg, v.2.1 / max 1 hlg, v.2.2 / max 1 hlg)
    let k := cxPowQ (min cxOne (luma2020 n)) 1 6
    let f (x : Nat) : Nat := inverseOf hlgScene (cxDiv x (max 1 k))
    (f n.1, f n.2.1, f n.2.2)

/-- Y, Cb, Cr of an L20 pixel as fixed-point values, luma from 0 to 1 and chroma from −1/2 to 1/2 (06 R155). -/
def previewValue (tcs color sdr hlg peak : Nat) (p : Nat × Nat × Nat) : Int × Int × Int :=
  let nits (x : Nat) : Nat := x * peak * cxOne / (2 ^ 20 - 1)
  let l := (nits p.1, nits p.2.1, nits p.2.2)
  let l := if color = 0 then matApply mat2020to709 l else l
  let v := primesOfLight tcs sdr hlg l
  let y : Int := (lumaKr color * v.1 + (10000 - lumaKr color - lumaKb color) * v.2.1 + lumaKb color * v.2.2) / 10000
  (y, ((v.2.2 : Int) - y) * 10000 / (2 * (10000 - lumaKb color)), ((v.1 : Int) - y) * 10000 / (2 * (10000 - lumaKr color)))

/-- A fixed-point value at a scale and offset as a 10-bit narrow-range sample; which of the two neighbouring codes is not stated (06 R155). -/
def sample10 (scale offset : Int) (up : Bool) (x : Int) : Nat := clipNat (offset + shrInt (scale * x) 128 + (if up then 1 else 0)) 1023

end Sys2Proof.Machine
end

