-- ==== Sys2Proof/Machine/Surface.lean ====
section
/-!
DEFINITION. Surfaces in DRAM: the slab format, host surfaces, and the conversion of received pictures to L20 (06 R153, R154;
08 R184 to R187).
-/

namespace Sys2Proof.Machine

/-- The largest L20 value. -/
def l20Max : Nat := 1048575

/-- The zero pixel. -/
def black : Pixel := ⟨0, 0, 0⟩

/-- Pixel x of line y of rows of pixels; what a row lacks is zero. -/
def pixAt (rows : List (List Pixel)) (x y : Nat) : Pixel := (rows.getD y []).getD x black

/-- The pixel of an L20 triple, clipped (06 R154). -/
def pixOf (v : Nat × Nat × Nat) : Pixel := ⟨min v.1 l20Max, min v.2.1 l20Max, min v.2.2 l20Max⟩

/-! Slab blocks (08 R184, R185). -/

/-- Blocks across a surface of this width. -/
def slabAcross (w : Nat) : Nat := ceilDiv w 64

/-- Bytes of a slab surface (08 R184). -/
def slabBytes (w h : Nat) : Nat := 2048 * slabAcross w * ceilDiv h 4

/-- The 60 bits of a pixel: R in bits [19:0], G in [39:20], B in [59:40] (08 R184, R187). -/
def pix60 (p : Pixel) : Nat := p.r % 1048576 + p.g % 1048576 * 2 ^ 20 + p.b % 1048576 * 2 ^ 40

/-- The pixel of 60 bits. -/
def pixOf60 (n : Nat) : Pixel := ⟨n % 2 ^ 20, n / 2 ^ 20 % 2 ^ 20, n / 2 ^ 40 % 2 ^ 20⟩

/-- Pixels packed LSB first into one bit stream. -/
def packPixels : List Pixel → Nat
  | [] => 0
  | p :: ps => pix60 p + 2 ^ 60 * packPixels ps

/-- An 8-byte block header (08 R184). -/
def slabHeader (len mode : Nat) : List Byte := leBytes 2 len ++ leBytes 1 mode ++ leBytes 5 0

/-- The 256 pixels of block (bx, by) of a picture, in raster order; beyond the picture they are 0. -/
def blockPixels (rows : List (List Pixel)) (w h bx by_ : Nat) : List Pixel :=
  (List.range 256).map (fun i =>
    let x := 64 * bx + i % 64
    let y := 4 * by_ + i / 64
    if x < w ∧ y < h then pixAt rows x y else black)

/-- A RAW block. -/
def rawBlock (px : List Pixel) : List Byte := slabHeader 1920 0 ++ leBytes 1920 (packPixels px)

/-- A SOLID block. -/
def solidBlock (p : Pixel) : List Byte := slabHeader 8 2 ++ leBytes 8 (pix60 p)

/-- A block as a slab writer stores it: SOLID needs one value in every pixel, CODED a lossless code that fits; with SLAB_RAW the
    writer uses RAW or SOLID only (08 R184, R185; log 27). -/
def slabBlock (raw : Bool) (px : List Pixel) : List Byte :=
  let code := Config.slabCode px
  let m := Config.slabMode px
  if m = 2 ∧ px.all (· == px.getD 0 black) then solidBlock (px.getD 0 black)
  else if m = 1 ∧ !raw ∧ code.length ≤ 2040 ∧ Config.slabDecode 1 code = px then slabHeader code.length 1 ++ code
  else rawBlock px

/-- Write the first `count` blocks of a picture's slab surface (08 R184). -/
def State.storeBlocks (s : State) (base w h count : Nat) (rows : List (List Pixel)) : State :=
  let across := slabAcross w
  s.each (List.range count) (fun s k =>
    s.dramStore (base + 2048 * k) (slabBlock (s.flag R.CMP.SLAB_RAW) (blockPixels rows w h (k % across) (k / across))))

/-- Write a picture as a slab surface (08 R184). -/
def State.storeSurface (s : State) (base w h : Nat) (rows : List (List Pixel)) : State :=
  s.storeBlocks base w h (slabAcross w * ceilDiv h 4) rows

/-- The bytes that a reader of a slab takes: its header and its payload (08 R184). -/
def State.slabLength (s : State) (slot : Nat) : Nat :=
  let head := s.dramBytes slot 8
  match leAt head 2 1 with
  | 0 => 1928
  | 2 => 16
  | _ => 8 + leAt head 0 2 % 2048

/-- Pixel (x, y) of a slab surface of this width; a sample that comes from a poisoned line reads as 0 (08 R184; 14 R385). -/
def State.slabPixel (s : State) (base w x y : Nat) : Pixel :=
  let slot := base + 2048 * (y / 4 * slabAcross w + x / 64)
  let i := y % 4 * 64 + x % 64
  let head := s.dramBytes slot 8
  let m := leAt head 2 1
  let (a, n) := if m = 0 then (slot + 8 + 60 * i / 8, 8) else if m = 2 then (slot + 8, 8) else (slot + 8, leAt head 0 2 % 2048)
  if s.unsound slot 8 || s.unsound a n then black
  else match m with
  | 0 => pixOf60 (leNat (s.dramBytes a 8) / 2 ^ (60 * i % 8) % 2 ^ 60)
  | 2 => pixOf60 (leNat (s.dramBytes a 8))
  | m => (Config.slabDecode m (s.dramBytes (slot + 8) (leAt head 0 2 % 2048))).getD i black

/-! Host surfaces (08 R187). -/

/-- Bytes per pixel of a HOST_FMT. -/
def hostBpp (fmt : Nat) : Nat := [8, 16, 4, 8].getD fmt 8

/-- A host pixel: colour and alpha (08 R187). -/
def State.hostPixel (s : State) (n a : Nat) : Pixel × Nat :=
  let bs := s.dramBytes a 16
  let conv (full : Nat) (v : Nat × Nat × Nat) : Pixel :=
    pixOf (primesL20 (s.lv (R.LYR.HOST_TCS n)) (s.lv (R.LYR.HOST_COLOR n)) (s.lv (R.LYR.SDR_NITS n)) (s.lv (R.LYR.HLG_NITS n))
      (s.lv R.CMP.PEAK_NITS) (cxFrac v.1 full, cxFrac v.2.1 full, cxFrac v.2.2 full))
  match s.lv (R.LYR.HOST_FMT n) with
  | 0 => (pixOf60 (leAt bs 0 8), 4096)
  | 1 => (⟨leAt bs 0 4 % 2 ^ 20, leAt bs 4 4 % 2 ^ 20, leAt bs 8 4 % 2 ^ 20⟩, min (leAt bs 12 4 % 2 ^ 13) 4096)
  | 2 => (conv 255 (leAt bs 0 1, leAt bs 1 1, leAt bs 2 1), (leAt bs 3 1 * 4096 + 127) / 255)
  | _ => (conv 65535 (leAt bs 0 2, leAt bs 2 2, leAt bs 4 2), (leAt bs 6 2 * 4096 + 32767) / 65535)

/-! Scans (06 R153). -/

/-- Lines of a top field, each doubled (06 R153). -/
def doubleLines {α : Type} : List α → List α
  | [] => []
  | x :: xs => x :: x :: doubleLines xs

/-- A field line-doubled into a picture of `h` lines: line k of a bottom field becomes lines 2k + 1 and 2k + 2, its last line the last
    line only; line 0 has no source, and `first` stands there (06 R153; log 28). -/
def doubleField {α : Type} (bottom : Bool) (h : Nat) (first : α) (rows : List α) : List α :=
  if bottom then (first :: doubleLines rows).take h else (doubleLines rows).take h

/-- The two segments of a PsF picture woven into one progressive picture (06 R153). -/
def weave {α : Type} : List α → List α → List α
  | [], ys => ys
  | x :: xs, ys =>
    match ys with
    | [] => x :: xs
    | y :: ys => x :: y :: weave xs ys

/-- The rows of a received picture as its scan gives them: progressive, interlaced fields, or PsF segments one after the other. -/
def scanRows {α : Type} (scan : Nat) (bottom : Bool) (h : Nat) (first : α) (rows : List α) : List α :=
  if scan = 1 then doubleField bottom h first rows
  else if scan = 2 then weave (rows.take ((h + 1) / 2)) (rows.drop ((h + 1) / 2))
  else rows

/-! Conversion (06 R154). -/

/-- How a source is converted. -/
structure Conv where
  /-- 0 YCbCr 4:2:2, 1 YCbCr 4:4:4, 2 RGB; 0 8 bits, 1 10 bits, 2 12 bits. -/
  sampling : Nat
  depth : Nat
  full : Bool
  tcs : Nat
  color : Nat
  sdr : Nat
  hlg : Nat
  peak : Nat
deriving DecidableEq, Repr

/-- Element i of a list, the edge element repeated. -/
def clampGet (xs : List Int) (i : Int) : Int := xs.getD (clampInt i 0 (xs.length - 1)).toNat 0

/-- Chroma of a line from its co-sited samples, in sixteenths: at the other positions the taps (-1, 9, 9, -1)/16 apply, with edge samples
    repeated (06 R154 step 1). -/
def chroma444 (co : List Int) (x : Nat) : Int :=
  let k : Int := (x / 2 : Nat)
  if x % 2 = 0 then 16 * clampGet co k
  else -clampGet co (k - 1) + 9 * clampGet co k + 9 * clampGet co (k + 1) - clampGet co (k + 2)

/-- The samples at the even positions of a line. -/
def evens : List Pixel → List Pixel
  | [] => []
  | [p] => [p]
  | p :: _ :: ps => p :: evens ps

/-- A line of samples with its chroma at every position, chroma in sixteenths (06 R154 step 1). -/
def line444 (sampling : Nat) (row : List Pixel) : List (Int × Int × Int) :=
  if sampling = 0 then
    let cb := (evens row).map (fun p => (p.g : Int))
    let cr := (evens row).map (fun p => (p.b : Int))
    (List.range row.length).map (fun x => (((row.getD x black).r : Int), chroma444 cb x, chroma444 cr x))
  else row.map (fun p => ((p.r : Int), 16 * (p.g : Int), 16 * (p.b : Int)))

/-- L20 of a sample triple (06 R154 steps 2 to 5). -/
def convSample (c : Conv) (v : Int × Int × Int) : Pixel :=
  let v := if c.sampling = 2 then (v.1, v.2.1 / 16, v.2.2 / 16) else v
  pixOf (primesL20 c.tcs c.color c.sdr c.hlg c.peak (primesOf (c.sampling == 2) (8 + 2 * c.depth) c.full c.color v))

/-- A line of a received picture in L20 (06 R154). -/
def convLine (c : Conv) (row : List Pixel) : List Pixel := (line444 c.sampling row).map (convSample c)

/-- A run of missing pixels written as L20 zero (06 R148). -/
def blankRun (rows : List (List Pixel)) (r : Nat × Nat × Nat) : List (List Pixel) :=
  modNth rows r.1 (fun row => (row.take r.2.1) ++ (List.replicate (min r.2.2 (row.length - r.2.1)) black) ++ row.drop (r.2.1 + r.2.2))

/-- A pixel row that the spec gives no value (log 28). -/
def State.freshRow (s : State) (w : Nat) : List Pixel × State :=
  let (v, s) := s.fresh
  ((List.range w).map (fun i => let x := Config.freeVal (v + i); pixOf (x % 2 ^ 20, x / 2 ^ 20 % 2 ^ 20, x / 2 ^ 40 % 2 ^ 20)), s)

/-- A received picture in L20 at its surface size (06 R148, R153, R154). -/
def State.convert (s : State) (c : Conv) (scan w h : Nat) (p : Picture) : List (List Pixel) × State :=
  let rows := (p.lost.foldl blankRun ((p.rows.map (convLine c))))
  let (first, s) := s.freshRow w
  (scanRows scan p.bottom h first rows, s)

end Sys2Proof.Machine
end

