-- ==== Sys2Proof/Machine/Layers.lean ====
section
/-!
DEFINITION. Layer fences, latches, leases and lease windows (02 R55; 08 R189 to R193, R215), and the surface rings of receivers (06 R147).
-/

namespace Sys2Proof.Machine

/-- What an unlisted layer holds. -/
def layerDefault : Nat → LayerSt := fun _ => {}

/-- The record of a layer. -/
def State.layer (s : State) (n : Nat) : LayerSt := smGet layerDefault s.lyr n

/-- Change the record of a layer. -/
def State.modLayer (s : State) (n : Nat) (f : LayerSt → LayerSt) : State := { s with lyr := smMod layerDefault s.lyr n f }

/-- The layers of the die. -/
def layerNos : List Nat := List.range 16

/-- A layer's lease (08 R217). -/
def State.lease (s : State) (n : Nat) : Option Nat :=
  if s.flag (R.LYR.LEASE_VALID n) then some (s.rd (R.LYR.LEASE_IDX n)) else none

/-- Set it. -/
def State.setLease (s : State) (n : Nat) (b : Option Nat) : State :=
  (s.wr (R.LYR.LEASE_IDX n) (b.getD 0)).wrB (R.LYR.LEASE_VALID n) b.isSome

/-- The signalled buffers of the layer's source: host buffers, but stream surfaces while SRC = 1 (02 R55; 08 R189). -/
def State.fences (s : State) (n : Nat) : List (Nat × Nat) :=
  if s.lv (R.LYR.SRC n) = 1 then (s.layer n).sigs else (s.layer n).host

/-- A lease window is armed: its layer has SRC = 2, and the buffer is signalled or leased (08 R190). -/
def State.windowArmed (s : State) (n b : Nat) : Bool :=
  (s.lv (R.LYR.SRC n) == 2) && ((s.layer n).host.any (fun x => x.1 == b) || (s.lease n == some b))

/-- The signalled buffer and the armed windows as the registers show them (08 R216, R217). -/
def State.showFence (s : State) (n : Nat) : State :=
  let s := match s.fences n with
    | [] => (s.wr (R.LYR.PEND_IDX n) 0).wr (R.LYR.PEND_VALID n) 0
    | x :: _ => (s.wr (R.LYR.PEND_IDX n) x.1).wr (R.LYR.PEND_VALID n) 1
  s.each (List.range 4) (fun s b =>
    s.wr R.LSE.ARMED (withBit (s.rd R.LSE.ARMED) (4 * n + b) (s.windowArmed n b)))

/-- The fence of host buffer b is signalled (08 R189). -/
def State.signalHost (s : State) (n b t : Nat) : State :=
  (s.modLayer n (fun l => { l with host := (b, t) :: l.host })).showFence n

/-- The fence of a stream surface is signalled (02 R55; 06 R147). -/
def State.signal (s : State) (n b t : Nat) : State :=
  (s.modLayer n (fun l => { l with sigs := (b, t) :: l.sigs })).showFence n

/-- Every layer that takes stream source `src` gets the fence of its ready surface (06 R147). -/
def State.signalStream (s : State) (src idx t : Nat) : State :=
  let s : State := { s with str := smMod (fun _ => {}) s.str src (fun x => { x with readyAt := t }) }
  s.each (layerNos.filter (fun n => s.lv (R.LYR.SRC n) == 1 && s.lv (R.LYR.SRC_SEL n) == src)) (fun s n => s.signal n idx t)

/-- A write of buffer b to LYRn.READY signals host buffer b, whatever the source of the layer is; a value that is not below BUF_COUNT is
    ignored (08 R189). -/
def layerReadyFx (n : Nat) (v : Word32) (s : State) : State :=
  let b := fieldOf v 0 2
  s.cond (decide (b ≤ s.lv (R.LYR.BUF_COUNT n))) (fun s => s.signalHost n b s.time)

/-- LAYER_READY (08 R189). -/
def execLayerReady (layer : Nat) (v : Word32) (t : Nat) (s : State) : Host.Outcome State Fault Refusal :=
  .next ((s.atTime t).cond (s.isSender && decide (layer < 16)) (layerReadyFx layer v))

/-! The tick (02 R55, 08 R189 to R193). -/

/-- Surface i of a decoded stream holds a concealed picture (07 R180). -/
def State.concealedSurface (s : State) (src i : Nat) : Bool :=
  decide (src < 16) && (s.rd (R.DEC.CONC_MASK src)).testBit i

/-- Buffers of a host layer released at a tick: LEASE_END, and LAST_FREED names one of them, the last of several being open
    (08 R190; log 29). -/
def State.freed (s : State) (n : Nat) (bs : List Nat) : State :=
  match bs with
  | [] => s
  | b :: rest =>
    let (k, s) := if rest = [] then (0, s) else s.fresh
    (s.wr (R.LYR.LAST_FREED n) ((b :: rest).getD (k % bs.length) b)).raise (R.LYR.ev_LEASE_END n)

/-- The registers whose change ends every lease of a layer (08 R193). -/
def sourceFields (n : Nat) : List Fld :=
  [R.LYR.SRC n, R.LYR.SRC_SEL n, R.LYR.HOST_BASE n, R.LYR.HOST_BUF_STRIDE n, R.LYR.BUF_COUNT n, R.LYR.HOST_FMT n]

/-- The newest surface that a stream source has ready (06 R147). -/
def State.streamReady (s : State) (src : Nat) : Option Nat :=
  if src < 16 then (if s.flag (R.STR.READY_VALID src) then some (s.rd (R.STR.READY_IDX src)) else none)
  else if s.flag (R.SDI.READY_VALID (src - 16)) then some (s.rd (R.SDI.READY_IDX (src - 16))) else none

/-- A commit that applied at this tick changed the source of a layer: its leases and armed windows end, nothing of it is latched, and the
    fence of the new source stands: the host buffers that READY named, or the stream's ready surface (08 R193; log 30). -/
def State.sourceChanged (s : State) (old : State) (n : Nat) : State :=
  if (sourceFields n).all (fun f => s.lv f == old.lv f) then s
  else
    let host := old.lv (R.LYR.SRC n) == 2
    let bs := (s.lease n).toList ++ (if host then (s.layer n).host.map Prod.fst else [])
    let s := ((s.freed n bs.dedup).setLease n none).wr (R.LYR.st_CONCEALED n) 0
    let s := s.modLayer n (fun l => { l with
      marked := []
      host := if host = true ∧ s.lv (R.LYR.SRC n) ≠ 2 then [] else l.host.filter (fun x => decide (x.1 ≤ s.lv (R.LYR.BUF_COUNT n)))
      sigs := if s.lv (R.LYR.SRC n) = 1 then ((s.streamReady (s.lv (R.LYR.SRC_SEL n))).map
                (fun i => (i, (smGet (fun _ => ({} : StrSt)) s.str (s.lv (R.LYR.SRC_SEL n))).readyAt))).toList
              else [] })
    s.showFence n

/-- A layer latches buffer b for the frame (02 R55, 08 R189): superseded buffers and a lease of another buffer end. -/
def State.latchBuffer (s : State) (n b epoch : Nat) (superseded : List Nat) : State :=
  let gone := ((superseded ++ (s.lease n).toList).filter (· != b)).dedup
  let s := s.cond (s.lv (R.LYR.SRC n) == 2) (fun s => s.freed n gone)
  let marked := (s.layer n).marked.contains b
  let conc := s.lv (R.LYR.SRC n) == 1 && s.concealedSurface (s.lv (R.LYR.SRC_SEL n)) b
  let s := (((s.setLease n (some b)).wr (R.LYR.LATCH_EPOCH n) (epoch % 2 ^ 32)).inc (R.LYR.CNT_LATCH n)).modLayer n
    (fun l => { l with mode := 1, marked := [] })
  let s := (((s.wr (R.LYR.REPEATING n) 0).wrB (R.LYR.st_SUSPECT n) marked).wrB (R.LYR.st_CONCEALED n) conc)
  let s := s.cond marked (fun s => s.incRaise (R.LYR.CNT_SUSPECT n) (R.LYR.ev_SUSPECT n))
  s.cond conc (fun s => s.incRaise (R.LYR.CNT_CONCEALED n) (R.LYR.ev_CONCEALED n))

/-- A layer with a fence and no newly ready buffer follows its policy (08 R192); a surface it still leases keeps its CONCEALED mark
    (R212). -/
def State.notReady (s : State) (n : Nat) : State :=
  let s := (s.incRaise (R.LYR.CNT_NOT_READY n) (R.LYR.ev_NOT_READY n)).wr (R.LYR.st_SUSPECT n) 0
  let pol := s.lv (R.LYR.POLICY n)
  let rep := pol == 0 && (s.lease n).isSome
  let m := if rep then 1 else if pol = 2 then 2 else 0
  ((s.modLayer n (fun l => { l with mode := m })).wrB (R.LYR.REPEATING n) rep).wrB (R.LYR.st_CONCEALED n)
    (s.flag (R.LYR.st_CONCEALED n) && (s.lease n).isSome)

/-- The tick of `epoch` at time t for one layer: the newest buffer signalled before the tick is latched (02 R55). -/
def State.latchLayer (s : State) (n epoch t : Nat) : State :=
  if s.lv (R.LYR.SRC n) = 1 ∨ s.lv (R.LYR.SRC n) = 2 then
    let ripe := (s.fences n).filter (fun x => decide (x.2 < t))
    let due := ripe.map Prod.fst
    let later := (s.fences n).filter (fun x => decide (t ≤ x.2))
    let str := s.lv (R.LYR.SRC n) == 1
    let s := s.modLayer n (fun l => { l with
      sigs := if str then later else l.sigs
      host := if str then l.host else later
      age := ripe.head?.map (fun x => t - x.2) })
    let s := match due with
      | [] => s.notReady n
      | b :: older => s.latchBuffer n b epoch older
    s.showFence n
  else
    ((((s.modLayer n (fun l => { l with mode := 0, age := none })).wr (R.LYR.REPEATING n) 0).wr (R.LYR.st_SUSPECT n) 0).wr
      (R.LYR.st_CONCEALED n) 0).showFence n

/-- Every layer at a sender's tick, after its commit has applied (08 R192, R193). -/
def State.latchLayers (s : State) (old : State) (epoch t : Nat) : State :=
  s.each layerNos (fun s n => (s.sourceChanged old n).latchLayer n epoch t)

/-! Lease windows (08 R190, R191). -/

/-- The first byte of a host buffer, and one past its last byte (08 R187, R190). -/
def State.window (s : State) (n b : Nat) : Nat × Nat :=
  let a := s.lv (R.LYR.HOST_BASE n) + b * s.lv (R.LYR.HOST_BUF_STRIDE n) * 4096
  (a, a + s.lv (R.LYR.HOST_STRIDE n) * s.lv (R.LYR.HOST_H n))

/-- The armed windows that a write touches, as layer and buffer (08 R191). -/
def State.touched (s : State) (off len : Nat) : List (Nat × Nat) :=
  (layerNos.flatMap (fun n => (List.range 4).map (fun b => (n, b)))).filter (fun w =>
    (s.rd R.LSE.ARMED).testBit (4 * w.1 + w.2) && decide (off < (s.window w.1 w.2).2 ∧ (s.window w.1 w.2).1 < off + len))

/-- A layer becomes SUSPECT for the frame in progress, once (08 R191). -/
def State.suspect (s : State) (n : Nat) : State :=
  s.cond (!s.flag (R.LYR.st_SUSPECT n)) (fun s =>
    (s.wr (R.LYR.st_SUSPECT n) 1).incRaise (R.LYR.CNT_SUSPECT n) (R.LYR.ev_SUSPECT n))

/-- A host write touched armed windows: it is recorded and counted once, and marks each layer, or the frame that latches a buffer only
    signalled so far (08 R191). The answer also names the layers marked in the frame in progress. -/
def State.violate (s : State) (off len : Nat) : State × List Nat :=
  let ws := if s.flag R.LSE.WATCH_EN then s.touched off len else []
  match ws.getLast? with
  | none => (s, [])
  | some w =>
    let s := (((s.incRaise R.LSE.CNT_VIOLATION R.LSE.ev_LEASE_VIOLATION).wr R.LSE.VIOL_WIN (4 * w.1 + w.2)).wr R.LSE.VIOL_ADDR off).wr
      R.LSE.VIOL_EPOCH (s.epoch % 2 ^ 32)
    let now := ((ws.filter (fun w => s.lease w.1 == some w.2)).map Prod.fst).dedup
    let s := s.each (ws.filter (fun w => s.lease w.1 != some w.2)) (fun s w =>
      s.modLayer w.1 (fun l => { l with marked := if l.marked.contains w.2 then l.marked else w.2 :: l.marked }))
    (s.each now (fun s n => s.suspect n), now)

/-! Surface rings (06 R147). -/

/-- A surface of a source is leased by some layer (02 R55). -/
def State.surfaceLeased (s : State) (src i : Nat) : Bool :=
  layerNos.any (fun n => s.lv (R.LYR.SRC n) == 1 && s.lv (R.LYR.SRC_SEL n) == src && s.lease n == some i)

/-- The surface that the next picture takes: the next in ring order that is not leased, never the one last written; none when every
    other surface is leased (06 R147). -/
def State.nextSurface (s : State) (src count : Nat) : Option Nat :=
  let ring := match s.streamReady src with
    | none => List.range count
    | some i => (List.range (count - 1)).map (fun k => (i + 1 + k) % count)
  ring.find? (fun i => !s.surfaceLeased src i)

end Sys2Proof.Machine
end

