-- ==== Sys2Proof/Machine/Coil.lean ====
section
/-!
DEFINITION. The coil links: training, loss, test loops, eye reports, link beacons, the management queue and its ingress buffer
(10 R246 to R251, R255, R259, R265, R266, R271, R272, R275; 04 R105).
-/

namespace Sys2Proof.Machine

/-! Link state (10 R250, R251). -/

/-- The chunks of an image as BOOT chunks of 16,384 bytes (16 R418). -/
def bootChunks (img : Image) : List BootChunk :=
  let n := ceilDiv img.bytes.length 16384
  (List.range n).map (fun i =>
    { off := 16384 * i, data := (img.bytes.drop (16384 * i)).take 16384, first := i == 0, last := i + 1 == n,
      idx := img.idx, imgLen := img.bytes.length })

/-- Send an image on a port as a BOOT broadcast. -/
def State.sendImage (s : State) (p : Nat) (img : Image) : State := s.each (bootChunks img) (fun s c => s.send none (.boot p c))

/-- A boot-mode port that comes UP gets every kept image repeated (16 R420). -/
def State.bootRepeat (s : State) (p : Nat) : State :=
  s.cond (s.boot.bootMode && decide (2 ≤ p) && s.isTile) (fun s => s.each s.boot.kept (fun s img => s.sendImage p img))

/-- The port is UP; SKEW reads the lane skew that it deskewed, at most 10 ns, an open value (10 R250, R287; log 10). -/
def State.bringUp (s : State) (p : Nat) : State :=
  let (v, s) := s.fresh
  let s := s.wr (R.COIL.SKEW p) (v % 10001)
  ((((((s.setLink p lkUP).wr (R.COIL.LOS p) 0).wr (R.COIL.LOL p) 0).wr (R.COIL.ALIGNED p) 3).wr (R.COIL.DESKEWED p) 1).modCoil p
    (fun c => { c with ucRun := 0 })).showEnds

/-- The port leaves UP and returns to TRAINING: counted, and by the port's use the end of a coil, a fail-over or a
    new election (10 R251, 01 R12, R13). The reset of a RESET whose response was to leave here comes at once (10 R274, log 204). -/
def State.leaveUp (s : State) (p : Nat) : State :=
  let s := (s.train p).lost p
  let s := s.cond (s.role == .tile && decide (p < 2) && s.red.upstream == some p)
    (fun s => if s.frm.ticked then s.enterFailover fcUPSTREAM_LOST else s.unelect)
  s.resetAfterRsp

/-- LINK_CDR_LOCK: TRAINING ends (10 R250). -/
def execLinkCdrLock (port : Nat) (s : State) : Host.Outcome State Fault Refusal :=
  .next (s.start.cond (s.portOn port && s.rd (R.COIL.LINK port) == lkTRAINING && !s.flag (R.COIL.TEST port))
    (fun s => ((s.setLink port lkALIGNING).wr (R.COIL.LOS port) 0).wr (R.COIL.LOL port) 0))

/-- LINK_UP: 64 clean codewords; a boot-mode port then gets the kept images (10 R250, 16 R420). A port out of service stays down (10 R271).
    While no firmware runs, ports 0 and 1 of a tile are the repeater's (01 R14). -/
def linkUpFx (port : Nat) (s : State) : State :=
  if s.running then
    s.cond (s.portOn port && s.rd (R.COIL.LINK port) == lkALIGNING && !s.flag (R.COIL.TEST port))
      (fun s => (s.bringUp port).bootRepeat port)
  else if s.aon.on ∧ s.aon.role = .tile then
    { s with aon := { s.aon with linkUp0 := s.aon.linkUp0 || port == 0, linkUp1 := s.aon.linkUp1 || port == 1 } }
  else s

/-- LINK_UP (10 R250). -/
def execLinkUp (port : Nat) (s : State) : Host.Outcome State Fault Refusal := .next (linkUpFx port s.start)

/-- LINK_LOSS (10 R251). -/
def linkLossFx (port : Nat) (s : State) : State :=
  if s.running then s.cond (s.hasPort port && s.rd (R.COIL.LINK port) == lkUP) (fun s => s.leaveUp port)
  else { s with aon := { s.aon with linkUp0 := s.aon.linkUp0 && port != 0, linkUp1 := s.aon.linkUp1 && port != 1 } }

/-- LINK_LOSS (10 R251). -/
def execLinkLoss (port t : Nat) (s : State) : Host.Outcome State Fault Refusal := .next (linkLossFx port (s.atTime t))

/-- CODEWORD_UNCORRECTABLE: counted; the fourth in a row takes the link down (10 R246, R251). `next` tells that the codeword before was
    uncorrectable too. -/
def codewordFx (port : Nat) (next : Bool) (s : State) : State :=
  let s := (s.incRaise (R.COIL.CNT_FEC_UNCORR port) (R.COIL.ev_FEC_UNCORR port)).modCoil port
    (fun c => { c with ucRun := if next then c.ucRun + 1 else 1 })
  s.cond (decide (4 ≤ (s.coilSt port).ucRun) && s.rd (R.COIL.LINK port) == lkUP)
    (fun s => (s.leaveUp port).modCoil port (fun c => { c with ucRun := 0 }))

/-- CODEWORD_UNCORRECTABLE (10 R246). -/
def execCodewordUncorrectable (cw : BadCodeword) (s : State) : Host.Outcome State Fault Refusal :=
  .next (s.start.cond (s.running && s.hasPort cw.port) (codewordFx cw.port cw.next))

/-- Writing RETRAIN returns the link to TRAINING (10 R287). -/
def retrainFx (port : Nat) (s : State) : State :=
  if s.rd (R.COIL.LINK port) = lkUP then s.leaveUp port
  else s.cond (s.rd (R.COIL.LINK port) == lkALIGNING) (fun s => s.train port)

/-- RETRAIN (10 R287). -/
def execRetrain (port : Nat) (s : State) : Host.Outcome State Fault Refusal :=
  .next (s.start.cond (s.running && s.hasPort port) (retrainFx port))

/-! Test loops (10 R271, R272). -/

/-- STATUS.TEST: a near-end loop, a far-end loop that the partner accepted, the loop of a partner's request on this port, or a PRBS setting
    takes the port out of service (10 R271, R272, R287; log 12). -/
def State.testNow (s : State) (p : Nat) : Bool :=
  s.rd (R.COIL.LOOPBACK p) == 1 || s.rd (R.COIL.LOOPBACK p) == 2 || (s.rd (R.COIL.LOOPBACK p) == 3 && (s.coilSt p).acked) ||
    s.flag (R.COIL.FAR_LOOPED p) || s.flag (R.COIL.PRBS_GEN p) || s.flag (R.COIL.PRBS_CHK p)

/-- The port goes out of service as a cut cable: it is in TRAINING for as long as a loop or PRBS setting lasts (10 R271). -/
def State.showTest (s : State) (p : Nat) : State :=
  let b := s.testNow p
  let s := s.wrB (R.COIL.TEST p) b
  if b && s.rd (R.COIL.LINK p) == lkUP then s.leaveUp p
  else s.cond (b && s.rd (R.COIL.LINK p) == lkALIGNING) (fun s => s.train p)

/-- A write of LOOPBACK; the reserved codes 4 to 7 select no loop and leave the field as it is (10 R271, log 13). -/
def loopbackFx (port : Nat) (v : Word32) (s : State) : State :=
  let c := fieldOf v 0 3
  if 4 ≤ c then s
  else ((s.wr (R.COIL.LOOPBACK port) c).modCoil port (fun r => { r with acked := false })).showTest port

/-- LOOPBACK_SELECT (10 R271). -/
def execLoopbackSelect (port : Nat) (v : Word32) (s : State) : Host.Outcome State Fault Refusal :=
  .next (s.start.cond (s.running && s.hasPort port) (loopbackFx port v))

/-- PRBS31 replaces the transmit data (10 R271). -/
def prbsGenFx (port : Nat) (on : Bool) (s : State) : State := (s.wrB (R.COIL.PRBS_GEN port) on).showTest port

/-- PRBS_GEN (10 R271). -/
def execPrbsGen (port : Nat) (on : Bool) (s : State) : Host.Outcome State Fault Refusal :=
  .next (s.start.cond (s.running && s.hasPort port) (prbsGenFx port on))

/-- The checker: PRBS_LOCK once 128 bits in a row match, then each errored bit counts (10 R271). -/
def prbsChkFx (port : Nat) (on lock : Bool) (errs : Nat) (s : State) : State :=
  let s := (s.wrB (R.COIL.PRBS_CHK port) on).showTest port
  let s := s.wrB (R.COIL.PRBS_LOCK port) (on && lock)
  s.cond (on && lock && errs != 0) (fun s => (s.incBy (R.COIL.CNT_PRBS_ERR port) errs).raise (R.COIL.ev_PRBS_ERR port))

/-- PRBS_CHK (10 R271). -/
def execPrbsChk (port : Nat) (on : Bool) (lock : Bool) (errs : Nat) (s : State) : Host.Outcome State Fault Refusal :=
  .next (s.start.cond (s.running && s.hasPort port) (prbsChkFx port on lock errs))

/-- FAR_LOOP_EXPIRY: the partner that looped returns to TRAINING (10 R272). -/
def execFarLoopExpiry (port : Nat) (s : State) : Host.Outcome State Fault Refusal :=
  .next (s.start.cond (s.running && s.hasPort port && s.flag (R.COIL.FAR_LOOPED port)) (fun s =>
    (((s.wr (R.COIL.FAR_LOOPED port) 0).modCoil port (fun c => { c with loopSecs := 0 })).showTest port).train port))

/-- EYE_REPORT: the eye widths, and EYE_LOW while one is below EYE_MIN (10 R249). -/
def execEyeReport (port eye0 eye1 : Nat) (s : State) : Host.Outcome State Fault Refusal :=
  .next (s.start.cond (s.running && s.hasPort port && s.rd (R.COIL.LINK port) == lkUP) (fun s =>
    ((s.wr (R.COIL.EYE0 port) (min eye0 1000)).wr (R.COIL.EYE1 port) (min eye1 1000)).level (R.COIL.ev_EYE_LOW port)
      (decide (min eye0 eye1 < s.lv (R.COIL.EYE_MIN port)))))

/-! Link beacons (04 R105, 10 R255, R272, R275). -/

/-- What the partner reports in a link beacon (10 R287). -/
def State.partner (s : State) (p : Nat) (b : LinkBeacon) : State :=
  (((s.wr (R.COIL.PARTNER_UID p) b.uid).wr (R.COIL.PARTNER_PORT p) b.port).wr (R.COIL.PARTNER_ROLE p) b.role).wr
    (R.COIL.PARTNER_VALID p) 1

/-- A port carries coded data, and with it link beacons: from ALIGNING on, and while no loop or PRBS setting holds (10 R250, R271). While no
    firmware runs, ports 0 and 1 of a tile are the repeater's (R270). -/
def State.coded (s : State) (p : Nat) : Bool :=
  if s.running then s.portOn p && decide (lkALIGNING ≤ s.rd (R.COIL.LINK p)) && !s.flag (R.COIL.TEST p)
  else s.aon.on && s.aon.role == .tile && decide (p < 2) && s.isUp p

/-- LINK_BEACON_TIMER: a request on each port that carries coded data; its t1 is the time at which it leaves (04 R105, 10 R255). -/
def execLinkBeaconTimer (t : Nat) (s : State) : Host.Outcome State Fault Refusal :=
  .next ((s.atTime t).cond s.running (fun s =>
    s.each (s.ports.filter s.coded) (fun s p =>
      let seq := ((s.coilSt p).seq + 1) % 65536
      (s.modCoil p (fun c => { c with seq := seq })).send none (.linkReq p
        { seq := seq, port := p, role := s.portRole p, ta := s.time, tb := 0, uid := Config.uid % 2 ^ 64,
          loopReq := s.rd (R.COIL.LOOPBACK p) == 3, loopAck := false, loopSecs := s.rd (R.COIL.FAR_LOOP_SECS p) }))))

/-- LINK_BEACON_REQUEST: answered with a reply; the repeater answers as role REPEATER; an allowed LOOP_REQ loops the port (10 R255,
    R270, R272). The reply's send time lies an open time after the receive time (log 10). -/
def linkBeaconRequestFx (port : Nat) (b : LinkBeacon) (s : State) : State :=
  let t2 := s.time
  let (d, s) := s.fresh
  let ack := s.running && b.loopReq && s.flag (R.COIL.FAR_LOOP_ALLOW port)
  let s := s.send none (.linkRep port
    { seq := b.seq, port := port, role := s.portRole port, ta := t2, tb := t2 + d, uid := Config.uid % 2 ^ 64, loopReq := false,
      loopAck := ack, loopSecs := 0 })
  let s := s.cond s.running (fun s => (s.partner port b).showEnds.drain port)
  s.cond ack (fun s =>
    ((s.wr (R.COIL.FAR_LOOPED port) 1).modCoil port (fun c => { c with loopSecs := b.loopSecs })).showTest port)

/-- LINK_BEACON_REQUEST (10 R255). -/
def execLinkBeaconRequest (port : Nat) (b : LinkBeacon) (t : Nat) (s : State) : Host.Outcome State Fault Refusal :=
  .next ((s.atTime t).cond (s.hasPort port && s.coded port) (linkBeaconRequestFx port b))

/-- The delay of the receive direction in 2^-16 ns: half of the round trip less half of the die's and the cable's asymmetry
    (04 R105). -/
def linkDelay (t1 t2 t3 t4 aDie asymPs : Int) : Int :=
  roundDivInt ((t4 - t1) - (t3 - t2) - (aDie + asymPs * 65536 / 1000)) 2

/-- The mean of the kept delays, in 2^-16 ns. -/
def meanDelay (ds : List Int) : Int := if ds = [] then 0 else roundDivInt (ds.foldl (· + ·) 0) ds.length

/-- The peer delay of a port in 2^-16 ns: the mean that PEER_DELAY reports serves correction and offset too (04 R105, R106; DESIGN CHOICE,
    log 175). -/
def State.peerDelay (s : State) (p : Nat) : Int := meanDelay (s.coilSt p).delays

/-- The transit time of a port in 2^-16 ns, as last computed (01 R34). -/
def State.transit (s : State) (p : Nat) : Nat := (s.coilSt p).transit

/-- A sender computes the transit time of a port: hops on the deepest path × 0.8 µs and the cable delays of that path, those beyond the
    first as they are measured now, an open value each time (01 R34; log 101). -/
def State.newTransit (s : State) (p : Nat) : State :=
  let (far, s) := s.fresh
  s.modCoil p (fun c =>
    { c with transit := c.depth * (800 * ns1) + (s.peerDelay p).toNat + far, transitFrom := s.peerDelay p })

/-- It does so whenever the measured peer delay has changed by more than 10 ns (01 R34). -/
def State.followTransit (s : State) (p : Nat) : State :=
  s.cond (s.isSender && decide (10 * ns1 < (s.peerDelay p - (s.coilSt p).transitFrom).natAbs)) (fun s => s.newTransit p)

/-- LINK_BEACON_REPLY: the delay of the link, and PEER_DELAY as the mean of the last 64 (04 R105). -/
def linkBeaconReplyFx (port : Nat) (b : LinkBeacon) (s : State) : State :=
  let c := s.coilSt port
  if b.seq ≠ c.seq then s
  else
    let d := linkDelay c.t1 b.ta b.tb s.time (Config.aDie port) (signedOf 16 (s.lv (R.COIL.CABLE_ASYM port)))
    let s := s.modCoil port (fun c => { c with delays := (d :: c.delays).take 64, acked := c.acked || b.loopAck })
    let s := (s.wrI (R.COIL.PEER_DELAY port) (roundDivInt (s.peerDelay port * 1000) 65536)).partner port b
    ((s.followTransit port).showEnds.drain port).cond b.loopAck (fun s => s.showTest port)

/-- LINK_BEACON_REPLY (04 R105). -/
def execLinkBeaconReply (port : Nat) (b : LinkBeacon) (t : Nat) (s : State) : Host.Outcome State Fault Refusal :=
  .next ((s.atTime t).cond (s.running && s.coded port) (linkBeaconReplyFx port b))

/-! The management queue and the ingress buffer (10 R259, R265, R266). -/

/-- Requests in the share of a port. -/
def State.share (s : State) (p : Nat) : Nat := (s.mgmt.queue.filter (fun q => q.1 == p)).length

/-- MGMT_REQ_RECEIVE: into the share of the arrival port, or into the ingress buffer while the share of 16 is full (10 R259). -/
def mgmtReqReceiveFx (port : Nat) (r : MgmtReq) (s : State) : State :=
  if s.share port < 16 ∧ (s.coilSt port).wait = [] then
    { s with mgmt := { s.mgmt with queue := s.mgmt.queue ++ [(port, r)] } }
  else (s.modCoil port (fun c => { c with wait := c.wait ++ [r] })).xoffCheck port

/-- MGMT_REQ_RECEIVE (10 R259). -/
def execMgmtReqReceive (port : Nat) (r : MgmtReq) (s : State) : Host.Outcome State Fault Refusal :=
  .next (s.start.cond (s.isTile && decide (port < 2) && s.isUp port) (mgmtReqReceiveFx port r))

/-- INGRESS_QUEUE_ROOM: a waiting request enters its share when room is free (10 R259, R265). -/
def execIngressQueueRoom (port : Nat) (s : State) : Host.Outcome State Fault Refusal :=
  .next (s.start.cond (s.isTile && decide (port < 2)) (fun s =>
    match (s.coilSt port).wait with
    | [] => s
    | r :: rs =>
      if s.share port < 16 then
        ({ s with mgmt := { s.mgmt with queue := s.mgmt.queue ++ [(port, r)] } } : State).modCoil port
          (fun c => { c with wait := rs })
      else s))

/-- XOFF_RELEASE: XOFF clears once the ingress buffer holds less than 64 KiB (10 R266). -/
def execXoffRelease (port : Nat) (s : State) : Host.Outcome State Fault Refusal :=
  .next (s.start.cond (s.running && s.hasPort port && decide (s.ingressBytes port < 65536))
    (fun s => s.wr (R.COIL.XOFF_TX port) 0))

/-- AON_RAIL_GOOD: the always-on domain starts and reads the ROLE ball; a tile's repeater trains ports 0 and 1, while ROLE is high every port
    is electrically idle (16 R404). The ball's tie is as the last release of reset found it; before the first, and for a floating ball,
    either role (01 R7, log 10, 190). -/
def aonRailFx (s : State) : State :=
  let (b, s) := s.strapHigh s.aon.strap
  { s with aon := { s.aon with on := true, role := if b then .sender else .tile } }

/-- AON_RAIL_GOOD (16 R404). -/
def execAonRailGood (s : State) : Host.Outcome State Fault Refusal := .next (aonRailFx s.start)

end Sys2Proof.Machine
end

