-- ==== Sys2Proof/Machine/Clock.lean ====
section
/-!
DEFINITION. The time base, the tick positions, the reference sources, the lock, holdover, the loop engine and sender beacons
(04 R82 to R109, R115 to R119; 01 R10 to R12; 10 R285).
-/

namespace Sys2Proof.Machine

/-! The time base (04 R82 to R84). -/

/-- The time base at a moment of the local clock. -/
def State.baseAt (s : State) (t : Nat) : Nat := ((t : Int) + s.clk.tb).toNat

/-- The time base now. -/
def State.base (s : State) : Nat := s.baseAt s.time

/-- The moment of the local clock at which the time base reads a value. -/
def State.localOf (s : State) (b : Int) : Nat := (b - s.clk.tb).toNat

/-- The last measured time errors of the PTP sources after a step of the time base by `d` in 2^-16 ns, which moves them by as much. -/
def errsAfter (d : Int) (src : List (Nat × SrcSt)) : List (Nat × SrcSt) :=
  src.map (fun p => if p.1 = 1 ∨ p.1 = 2 then (p.1, { p.2 with tErr := p.2.tErr + d }) else p)

/-- The time base steps by `d` in 2^-16 ns; filtered PTP offsets start again (04 R83; 16 R415; log 24). -/
def State.moveBase (s : State) (d : Int) : State :=
  ((({ s with clk := { s.clk with tb := s.clk.tb + d, src := errsAfter d s.clk.src } } : State).wr (R.PTP.OFFSET 0) 0).wr (R.PTP.OFFSET 1) 0).raise
    R.CLK.ev_TIME_STEP

/-- The time base steps by a number of ns, as at a tick (04 R83, R96). -/
def State.stepBase (s : State) (ns : Int) : State := s.moveBase (ns * ns1)

/-- 2 µs, 100 ns and 10 ns in units of 2^-16 ns (04 R94, R96). -/
def win2us : Int := 2 * us1
def win100 : Int := 100 * ns1
def win10 : Int := 10 * ns1

/-- An error lies within a window. -/
def within (e w : Int) : Bool := decide (-w ≤ e ∧ e ≤ w)

/-! Tick positions (04 R86 to R88). -/

/-- The first cadence point at or after a time. -/
def cadAtOrAfter (num den : Nat) (x : Int) : Int :=
  let j := x * num / (den * sec1 : Nat)
  if x ≤ cadI num den (j - 1) then j - 1
  else if x ≤ cadI num den j then j
  else if x ≤ cadI num den (j + 1) then j + 1
  else j + 2

/-- The cadence point nearest to a time, halves rounded upward (04 R87). -/
def cadNearest (num den : Nat) (x : Int) : Int := roundDivInt (x * num) (den * sec1)

/-- TICK_OFFSET in 2^-16 ns. -/
def State.tickOffset (s : State) : Int := s.lvI R.CLK.TICK_OFFSET * ns1

/-- FW.ARM_AT as a moment of the local clock (16 R416). -/
def State.armAt (s : State) : Nat :=
  let v := s.rd R.FW.ARM_AT_SEC * sec1 + s.rd R.FW.ARM_AT_NS * ns1
  if v = 0 then 0 else s.localOf v

/-- The first tick is planned at the next tick position, the first after this moment that lies at or after ARM_AT, once the sender is
    armed and its frame clock has its place (04 R97; 16 R416; DEDUCED from the example of 04 R87, log 54). -/
def State.planFirst (s : State) : State :=
  if !s.boot.armed || !s.clk.placed || s.frm.ticked then s
  else
    let j := cadAtOrAfter s.rateNum s.rateDen ((max (s.time + 1) s.armAt : Nat) - s.frm.cadBase)
    { s with frm := { s.frm with planN := j, planBase := s.frm.cadBase, nextTick := (s.tickPos j).toNat } }

/-- The displacement of a jump re-lock moves tick E and all later positions (04 R96); `plain` is the plan without it. -/
def State.planJump (s plain : State) : State :=
  match s.frm.jump with
  | some (e, d, _) =>
    if e = s.epoch + 1 then
      { s with frm := { s.frm with planN := s.frm.cadN + 1, planBase := s.frm.cadBase + d,
                                   nextTick := (s.tickPos (s.frm.cadN + 1) + d).toNat } }
    else plain
  | none => plain

/-- The next tick after one that has just begun: the next cadence point; moved by d when it is the tick E of a jump re-lock; the first
    point of the cadence at or after it, plus the TICK_OFFSET that applies with it (DEDUCED, log 54), when a commit gives it a new place, which
    ends a re-lock (04 R86, R88, R96, R99). -/
def State.planNext (s : State) : State :=
  let old := s.tickPos (s.frm.cadN + 1)
  let plain : State := { s with frm := { s.frm with planN := s.frm.cadN + 1, planBase := s.frm.cadBase, nextTick := old.toNat } }
  match s.cmt.pend.find? (fun c => c.target == s.epoch + 1) with
  | some c =>
    let g : Cfg := snapRd c.snap
    if !s.placesAnew g then s.planJump plain
    else
      let base := signedOf 32 (g R.CLK.TICK_OFFSET) * ns1 - s.clk.tb
      let j := cadAtOrAfter (numOf g) (denOf g) (old - base)
      { s with frm := { s.frm with planN := j, planBase := base, jump := none, nextTick := (cadI (numOf g) (denOf g) j + base).toNat } }
  | none => s.planJump plain

/-! The loop engine (04 R100 to R103). -/

/-- What an unlisted instance holds; the limiter's output stands at 65,536 (11 R305 G_LIMIT at reset). -/
def loopDefault : Nat → LoopSt := fun n => if n = 8 then { u := 65536 } else {}

/-- An instance of the loop engine. -/
def State.loop (s : State) (n : Nat) : LoopSt := smGet loopDefault s.clk.loops n

/-- Set an instance. -/
def State.setLoop (s : State) (n : Nat) (l : LoopSt) : State :=
  { s with clk := { s.clk with loops := smSet loopDefault s.clk.loops n l } }

/-- Saturate to signed 32 bits (04 R101). -/
def sat32 (x : Int) : Int := clampInt x (-2147483648) 2147483647

/-- Instance `n` is open (04 R102). -/
def State.isOpen (s : State) (n : Nat) : Bool := (s.rd R.LOOP.OPEN).testBit n

/-- The coefficients of an instance of the loop law. -/
structure LoopCoef where
  kp : Int
  ki : Int
  kff : Int
  kr : Int
  lo : Int
  hi : Int
  sp : Int
  slew : Option Int
deriving DecidableEq, Repr

/-- The proportional term (04 R101). -/
def loopP (c : LoopCoef) (e : Int) : Int :=
  let p := sat32 (shrInt (c.kp * e) 24)
  match c.slew with
  | none => p
  | some m => clampInt p (-m) m

/-- One sample of the loop law: integrator, memory and output (04 R101). -/
def loopLaw (c : LoopCoef) (l : LoopSt) (x f : Int) (m : Option Int) : LoopSt :=
  let e := sat32 (c.sp - x)
  let i := clampInt (sat32 (l.i + shrInt (c.ki * e) 24)) c.lo c.hi
  let m := match m with
    | none => 0
    | some m => clampInt (sat32 (m + shrInt (c.kr * e) 24)) c.lo c.hi
  { i := i, u := clampInt (sat32 (loopP c e + i + sat32 (shrInt (c.kff * f) 24) + m)) c.lo c.hi, x := sat32 x, e := e, f := f, m := m }

/-- The configured coefficients of an instance 4 to 9 (04 R119). -/
def State.loopCoef (s : State) (n : Nat) : LoopCoef :=
  let b := n - 4
  { kp := s.lvI (R.LOOP.KP b), ki := s.lvI (R.LOOP.KI b), kff := s.lvI (R.LOOP.KFF b), kr := s.lvI (R.LOOP.KR b),
    lo := s.lvI (R.LOOP.OUT_MIN b), hi := s.lvI (R.LOOP.OUT_MAX b), sp := s.lvI (R.LOOP.SETPOINT b), slew := none }

/-- SLEW_MAX and HOLDOVER_LIMIT as they act: the applied values at a sender; in a tile the fields have no effect, and it works with their
    reset values (04 R115; DESIGN CHOICE, log 168). -/
def State.slewTenths (s : State) : Nat := if s.role = .tile then 100 else s.lv R.CLK.SLEW_MAX
def State.holdLimit (s : State) : Nat := if s.role = .tile then 60 else s.lv R.CLK.HOLDOVER_LIMIT

/-- SLEW_MAX in units of 2^-16 ppb (04 R115: 0.1 ppm units). -/
def State.slewMax (s : State) : Int := (s.slewTenths * 100 * 65536 : Nat)

/-- Coefficients of instance 0: the gains of BW, or of ten times BW, at most 10 Hz, while a sender acquires (04 R97, R101). -/
def State.lockCoef (s : State) : LoopCoef :=
  let bw := s.lv R.CLK.BW
  let bw := if s.role = .sender ∧ s.rd R.CLK.LOCK_STATE = 1 then min (10 * bw) 1000 else bw
  let g := Config.loopGains bw
  { kp := g.1, ki := g.2, kff := 0, kr := 0, lo := -2147483648, hi := 2147483647, sp := 0, slew := some s.slewMax }

/-- What OUTn shows: the output of a closed instance, the input of an open one, whose output stands (04 R102, R119). -/
def State.loopOut (s : State) (n : Nat) : Int := if s.isOpen n then (s.loop n).x else (s.loop n).u

/-- OUTn, ERRn and the SAT bits follow an instance (04 R102, R119). -/
def State.showLoop (s : State) (n : Nat) (lo hi : Int) : State :=
  let l := s.loop n
  let sat : Bool := l.u == lo || l.u == hi
  (((s.wrI (R.LOOP.OUT n) (s.loopOut n)).wrI (R.LOOP.ERR n) l.e).wr R.LOOP.st_SAT (withBit (s.rd R.LOOP.st_SAT) n sat)).level
    (R.LOOP.ev_SAT n) sat

/-- A sample of an instance; an open one only updates its input and error (04 R101, R102). -/
def State.loopRun (s : State) (n : Nat) (c : LoopCoef) (x f : Int) (m : Option Int) : State :=
  let l := s.loop n
  let s := s.setLoop n (if s.isOpen n then { l with x := sat32 x, e := sat32 (c.sp - x), f := f } else loopLaw c l x f m)
  s.showLoop n c.lo c.hi

/-- The integrator value that leaves the output of an instance unchanged under coefficients `c` (04 R102, R97). -/
def bumpless (c : LoopCoef) (l : LoopSt) : LoopSt :=
  { l with i := l.u - loopP c l.e - sat32 (shrInt (c.kff * l.f) 24) - l.m }

/-- A commit would change the fields of instance n that may change only while it is open (04 R103). -/
def loopFields (role : Role) (n : Nat) : List Fld :=
  if n = 0 then (if role = .sender then [R.CLK.BW, R.CLK.SLEW_MAX] else [R.CLK.BW])
  else if n = 1 then []
  else if n < 4 then [R.PTP.FILT (n - 2)]
  else
    let b := n - 4
    [R.LOOP.KP b, R.LOOP.KI b, R.LOOP.KFF b, R.LOOP.KR b, R.LOOP.OUT_MIN b, R.LOOP.OUT_MAX b, R.LOOP.SETPOINT b]

/-- A snapshot changes coefficients of instance n against the applied ones; the rule binds every instance in either role (04 R103). -/
def State.coefChanged (s : State) (snap : List (Nat × Word32)) (n : Nat) : Bool :=
  (loopFields s.role n).any (fun f => snapRd snap f != s.lv f)

/-- A commit that changes coefficients of instance n is in validation or pending (04 R103). -/
def State.coefPending (s : State) (n : Nat) : Bool :=
  s.cmt.pend.any (fun c => s.coefChanged c.snap n) ||
    (match s.cmt.check with | some (c, _) => s.coefChanged c.snap n | none => false)

/-! Lock state and holdover (04 R96 to R98). -/

def lsFREERUN : Nat := 0
def lsACQUIRING : Nat := 1
def lsLOCKED : Nat := 2
def lsRELOCKING : Nat := 3
def lsHOLDOVER : Nat := 4
def lsEXPIRED : Nat := 5

/-- LOCK_STATE. -/
def State.lockState (s : State) : Nat := s.rd R.CLK.LOCK_STATE

/-- The device is in holdover. -/
def State.holding (s : State) : Bool := s.lockState == lsHOLDOVER || s.lockState == lsEXPIRED

/-- Whole seconds in holdover, saturating at 4,095 (04 R98). -/
def State.holdElapsed (s : State) : Nat :=
  match s.clk.holdFrom with
  | none => s.rd R.CLK.HOLD_ELAPSED
  | some t => min ((s.time - t) / sec1) 4095

/-- The stretch of LOCKED time that ends now joins the history (04 R98). -/
def State.histPush (s : State) : State :=
  match s.clk.histFrom with
  | none => s
  | some t => { s with clk := { s.clk with hist := (s.time - t, (s.loop 0).u) :: s.clk.hist, histFrom := some s.time } }

/-- LOCK_STATE takes a value; a change is raised; leaving holdover stops HOLD_ELAPSED, which keeps its value (DESIGN CHOICE, log 172); reaching LOCKED returns instance 0 to BW without a
    bump; while instance 0 or 1 is open it reads HOLDOVER (04 R96 to R98, R102). -/
def State.setLock (s : State) (c : Nat) : State :=
  if s.lockState = c ∨ ((s.isOpen 0 || s.isOpen 1) ∧ c ≤ 3) then s
  else
    let s := s.histPush
    let s : State := { s with clk := { s.clk with histFrom := if c = lsLOCKED then some s.time else none } }
    let s := s.cond (s.holding && c != lsHOLDOVER && c != lsEXPIRED) (fun s =>
      ({ s.wr R.CLK.HOLD_ELAPSED s.holdElapsed with clk := { s.clk with holdFrom := none } } : State))
    let s := ((s.wr R.CLK.LOCK_STATE c).raise R.CLK.ev_LOCK_CHANGE).level R.CLK.ev_HOLDOVER_EXPIRED (c == lsEXPIRED)
    s.cond (c == lsLOCKED && !s.isOpen 0) (fun s => s.setLoop 0 (bumpless s.lockCoef (s.loop 0)))

/-- Time and time-weighted output over the newest `left` of a history. -/
def histSum : List (Nat × Int) → Nat → Nat × Int
  | [], _ => (0, 0)
  | (dt, u) :: h, left =>
    if left = 0 then (0, 0)
    else
      let d := min dt left
      let r := histSum h (left - d)
      (d + r.1, d * u + r.2)

/-- The held frequency: the mean output in the last HOLD_AVG seconds of LOCKED; without LOCKED time the integrator; without a source
    0 (04 R98). -/
def State.heldFreq (s : State) : Int :=
  if !s.clk.taken then 0
  else
    let r := histSum s.histPush.clk.hist (s.lv R.CLK.HOLD_AVG * sec1)
    if r.1 = 0 then (s.loop 0).i else roundDivInt r.2 r.1

/-- Holdover begins; the DCO is held at HOLD_FREQ, which instance 0 then puts out (04 R98, R102). -/
def State.enterHoldover (s : State) : State :=
  if s.holding then s
  else
    let hf := s.heldFreq
    let s := s.setLock lsHOLDOVER
    let s := ((s.wrI R.CLK.HOLD_FREQ hf).wr R.CLK.HOLD_ELAPSED 0).inc R.CLK.CNT_HOLDOVER
    let s : State := { s with clk := { s.clk with holdFrom := some s.time, run := 0 } }
    s.cond (!s.isOpen 0) (fun s => s.setLoop 0 { s.loop 0 with i := hf, u := hf })

/-- HOLDOVER_EXPIRY: holdover has lasted HOLDOVER_LIMIT; an active sender may give up (04 R98, 10 R278). -/
def execHoldoverExpiry (t : Nat) (s : State) : Host.Outcome State Fault Refusal :=
  let s := s.atTime t
  .next (s.cond (s.running && s.lockState == lsHOLDOVER && decide (s.holdLimit ≤ s.holdElapsed))
    (fun s => (s.setLock lsEXPIRED).ground 1))

/-- A sample of instance 0 with a phase error in 2^-16 ns (04 R101). -/
def State.lockSample (s : State) (err : Int) : State :=
  let x := sat32 (shrInt err 12)
  let s := s.histPush
  (s.wrI R.CLK.PHASE_ERR x).loopRun 0 s.lockCoef x 0 none

/-- LOOP_INNER_SAMPLE: instance 1 moves the DCO toward the output of instance 0 by at most 1 ppb, within ±32 ppm (04 R101). -/
def loopInnerFx (s : State) : State :=
  let u0 := (s.loop 0).u
  let l := s.loop 1
  let lim : Int := 32000 * 65536
  let u := clampInt (l.u + clampInt (u0 - l.u) (-65536) 65536) (-lim) lim
  let s := s.setLoop 1 { l with u := if s.isOpen 1 then l.u else u, x := u0, e := u0 - l.u }
  (s.wrI R.CLK.FREQ (s.loop 1).u).showLoop 1 (-lim) lim

/-- LOOP_INNER_SAMPLE (04 R101). -/
def execLoopInnerSample (s : State) : Host.Outcome State Fault Refusal := .next (s.start.cond s.running loopInnerFx)

/-- Instance `n` takes over again at its last output, under the coefficients it now has (04 R102). -/
def State.closeLoop (s : State) (n : Nat) : State :=
  if n = 1 ∨ n = 2 ∨ n = 3 then s
  else s.setLoop n (bumpless (if n = 0 then s.lockCoef else s.loopCoef n) (s.loop n))

/-- The lock with both its loops closed again: a source in use is acquired; without a source ever taken, or with an empty list, it runs
    free; else it stays in holdover (04 R96, R102). -/
def State.lockClosed (s : State) : State :=
  if !s.holding then s
  else if s.rd R.CLK.ACTIVE_SRC != 0 || (s.role == .tile && s.red.upstream.isSome) then s.setLock lsACQUIRING
  else if !s.clk.taken || (s.role == .sender && s.lv R.CLK.SRC1 == 0) then s.setLock lsFREERUN
  else s

/-- A write of LOOP.CTRL: instances open; one closes without a bump unless coefficients of it are still to apply, which refuses the
    closing; while instance 0 or 1 is open the lock is in holdover (04 R102, R103). -/
def loopOpenWriteFx (v : Word32) (s : State) : State :=
  let want := v.toNat % 1024
  let old := s
  let s := s.each (List.range 10) (fun s n =>
    if want.testBit n then s.wr R.LOOP.OPEN (withBit (s.rd R.LOOP.OPEN) n true)
    else if !s.isOpen n then s
    else if s.coefPending n then s.incRaise R.LOOP.CNT_OPEN_REFUSED R.LOOP.ev_OPEN_REFUSED
    else s.wr R.LOOP.OPEN (withBit (s.rd R.LOOP.OPEN) n false))
  let s := if s.isOpen 0 || s.isOpen 1 then s.enterHoldover else s.lockClosed
  s.each ((List.range 10).filter (fun n => old.isOpen n && !s.isOpen n)) State.closeLoop

/-- LOOP_OPEN_WRITE (04 R102). -/
def execLoopOpenWrite (v : Word32) (s : State) : Host.Outcome State Fault Refusal :=
  .next (s.start.cond (s.pageOn 0x0C0) (loopOpenWriteFx v))

/-! Sources (04 R93 to R97). -/

/-- What an unlisted source holds. -/
def srcDefault : Nat → SrcSt := fun _ => {}

/-- A source by its code. -/
def State.src (s : State) (c : Nat) : SrcSt := smGet srcDefault s.clk.src c

/-- Change a source. -/
def State.modSrc (s : State) (c : Nat) (f : SrcSt → SrcSt) : State :=
  { s with clk := { s.clk with src := smMod srcDefault s.clk.src c f } }

/-- The source is a PTP domain. -/
def isPtp (c : Nat) : Bool := c == 1 || c == 2

/-- The applied source list (04 R93). -/
def State.srcList (s : State) : List Nat :=
  [s.lv R.CLK.SRC1, s.lv R.CLK.SRC2, s.lv R.CLK.SRC3, s.lv R.CLK.SRC4].takeWhile (· != 0)

/-- The active source, 0 for none. -/
def State.active (s : State) : Nat := s.rd R.CLK.ACTIVE_SRC

/-- The first qualified source of the list (04 R93). -/
def State.firstQualified (s : State) : Option Nat := s.srcList.find? (fun c => (s.src c).qualified)

/-- ACTIVE_SRC and the PTP ACTIVE flags take a source. -/
def State.setActive (s : State) (c : Nat) : State :=
  ((s.wr R.CLK.ACTIVE_SRC c).wrB (R.PTP.ACTIVE 0) (c == 1)).wrB (R.PTP.ACTIVE 1) (c == 2)

/-- A re-lock to a displaced phase starts: by slewing, or by a jump whose tick E is the second tick at least 250 µs ahead; until then
    LOCK_STATE reads ACQUIRING (04 R96; DESIGN CHOICE, log 173). -/
def State.relock (s : State) (ptp : Bool) (d tErr : Int) : State :=
  let s := s.incRaise R.CLK.CNT_RELOCK R.CLK.ev_RELOCK
  let s : State := { s with clk := { s.clk with disp := [], run := 0 } }
  if s.flag R.CLK.RELOCK_JUMP then
    ({ s with frm := { s.frm with jump := some (s.firstTick s.time + 1, d, if ptp then -tErr else 0) } } : State).setLock
      lsACQUIRING
  else s.setLock lsRELOCKING

/-- The frame clock is placed on a source before the first tick: a REF edge lies DELAY and TICK_OFFSET before a tick; a PTP source sets
    the time base to its time at once (04 R86, R97, 16 R415). -/
def State.placeOn (s : State) (c : Nat) (edge tErr : Int) : State :=
  let s := s.cond (isPtp c) (fun s => s.moveBase (-tErr))
  let base := if isPtp c then s.tickOffset - s.clk.tb else edge + s.tickOffset
  ({ s with frm := { s.frm with cadBase := base }, clk := { s.clk with placed := true } } : State).planFirst

/-- The base of the positions against which measurements are judged: the new one in the hold frame of a jump (04 R96). -/
def State.phaseBase (s : State) : Int :=
  match s.frm.jump with
  | some (e, d, _) => if s.frm.hold && e == s.epoch + 1 then s.frm.cadBase + d else s.frm.cadBase
  | none => s.frm.cadBase

/-- The delay-compensated time of the last edge of a REF source (04 R86, R89). -/
def State.srcEdge (s : State) (c : Nat) : Int :=
  (((s.src c).last.getD 0 : Nat) : Int) + s.lvI (if c = 3 then R.REF.REFA_DELAY else R.REF.REFB_DELAY) * ns1

/-- The cadence point nearest to a time, halves rounded downward. -/
def cadNearestDown (num den : Nat) (x : Int) : Int := -roundDivInt (-(x * num)) (den * sec1)

/-- The distance of a moment from the nearest tick position on a base, reduced into (−T/2, +T/2] (04 R96). -/
def State.phaseFrom (s : State) (base x : Int) : Int :=
  x - base - cadI s.rateNum s.rateDen (cadNearestDown s.rateNum s.rateDen (x - base))

/-- Where a source's last measurement puts a tick: a REF edge lies DELAY and TICK_OFFSET before one, a PTP source at a cadence point plus
    TICK_OFFSET (04 R86). -/
def State.srcTick (s : State) (c : Nat) : Int :=
  if isPtp c then s.tickOffset - s.clk.tb + (s.src c).tErr else s.srcEdge c + s.tickOffset

/-- A source is taken: compared with the tick positions on a base, without a step when it agrees within ±2 µs, else by a re-lock; the history
    of the held frequency starts anew (04 R94, R97, R98). -/
def State.takeSource (s : State) (c : Nat) (base : Int) : State :=
  let x := s.src c
  let s := s.cond (s.active != c) (fun s => (s.setActive c).incRaise R.CLK.CNT_SWITCH R.CLK.ev_SRC_SWITCH)
  let s : State := { s with clk := { s.clk with next := none, taken := true, hist := [], histFrom := none, disp := [], run := 0 } }
  let d := s.phaseFrom base (s.srcTick c)
  if !s.frm.ticked then (s.placeOn c (s.srcEdge c) x.tErr).setLock lsACQUIRING
  else if within d win2us && (!isPtp c || within x.tErr win2us) then s.setLock lsACQUIRING
  else s.relock (isPtp c) d x.tErr

/-- No source is active: the first qualified one of the list is taken at its next measurement; without one, holdover (04 R93). -/
def State.seekSource (s : State) : State :=
  let n := s.firstQualified
  let s : State := { s with clk := { s.clk with next := n, disp := [] } }
  if n.isNone then (if s.clk.taken then s.enterHoldover else s) else s

/-- The qualified flags of a source. -/
def State.showQualified (s : State) (c : Nat) : State :=
  let q := (s.src c).qualified
  let s := s.wr R.CLK.QUALIFIED (withBit (s.rd R.CLK.QUALIFIED) (c - 1) q)
  s.cond (isPtp c) (fun s => s.wrB (R.PTP.QUALIFIED (c - 1)) q)

/-- A source that has just qualified precedes another one in the list that qualified at the same time (04 R95). -/
def State.precedes (s : State) (c d : Nat) : Bool :=
  (s.src d).qualAt == some s.time && decide (s.srcList.idxOf c < s.srcList.idxOf d)

/-- A source qualifies; with no active source and none chosen it is the one to take. Of two that qualify at one time the earlier in the list
    is taken, also when the later one has been taken at that time already (04 R93, R95). -/
def State.qualify (s : State) (c : Nat) : State :=
  if (s.src c).qualified then s
  else
    let s := ((s.modSrc c (fun x => { x with qualified := true, qualAt := some s.time })).showQualified c).raise R.CLK.ev_SRC_QUALIFIED
    let rival := if s.active = 0 then s.clk.next else some s.active
    let wins : Bool := match rival with
      | none => true
      | some d => s.precedes c d
    s.cond (s.srcList.contains c && wins) (fun s => { s with clk := { s.clk with next := some c } })

/-- A source becomes unusable, and its offset is no longer measured; on loss of the active one the next qualified one follows, or holdover
    (04 R93, R96). ACTIVE_SRC going to 0 raises no SRC_SWITCH, which marks the taking of a source (DESIGN CHOICE, log 192); a jump that was
    decided already still happens at its tick (02 R459; DEDUCED, log 199). -/
def State.loseSource (s : State) (c : Nat) : State :=
  let was := (s.src c).usable
  let s := (s.modSrc c (fun x => { x with usable := false, since := none, run := 0, qualified := false })).showQualified c
  let s := (s.wr (R.CLK.SRC_OFFSET (c - 1)) 0x7FFFFFFF).cond was (fun s => s.raise R.CLK.ev_SRC_LOST)
  if s.active = c then (s.setActive 0).seekSource
  else if s.clk.next = some c then s.seekSource
  else s

/-- A usable measurement of a source: before the first tick the fourth in a row qualifies it (04 R93). -/
def State.usableNow (s : State) (c : Nat) : State :=
  let s := s.modSrc c (fun x => { x with usable := true, since := x.since.orElse (fun _ => some s.time), run := x.run + 1 })
  s.cond (!s.frm.ticked && decide (4 ≤ (s.src c).run)) (fun s => s.qualify c)

/-- SRC_OFFSETn of a source in ns (04 R95, R115). -/
def State.showOffset (s : State) (c : Nat) (e : Int) : State := s.wrI (R.CLK.SRC_OFFSET (c - 1)) (nsOf e)

/-- A displaced measurement of the active source: ignored and counted; the third in a row that agree starts a re-lock. Being ignored, it does
    not break the run of measurements within ±100 ns that leads to LOCKED (04 R96; DEDUCED, log 200). -/
def State.displaced (s : State) (c : Nat) (err d tErr : Int) : State :=
  let s := (s.inc R.CLK.CNT_DISPLACED).raise R.CLK.ev_DISPLACED
  let s := if c = 3 then s.inc R.REF.CNT_REFA_DISPLACED
    else if c = 4 then s.inc R.REF.CNT_REFB_DISPLACED
    else (s.inc (R.PTP.CNT_DISPLACED (c - 1))).raise (R.PTP.ev_DISPLACED (c - 1))
  if s.frm.jump.isSome then s
  else
    let ds := if s.clk.disp.all (fun x => within (err - x) win2us) then err :: s.clk.disp else [err]
    if ds.length < 3 then { s with clk := { s.clk with disp := ds } } else s.relock (isPtp c) d tErr

/-- A measurement within ±2 µs, or one of a slewing re-lock: instance 0 runs; 16 in a row within ±100 ns are LOCKED (04 R96, R101). -/
def State.lockOn (s : State) (err x : Int) : State :=
  let s : State := { s with clk := { s.clk with disp := [], run := if within err win100 then s.clk.run + 1 else 0 } }
  let s := s.lockSample x
  if s.lockState = lsRELOCKING ∧ within err win2us then s.setLock lsACQUIRING
  else if s.lockState = lsACQUIRING ∧ 16 ≤ s.clk.run then s.setLock lsLOCKED
  else s

/-- A measurement of a usable source: the active one is judged, a chosen one is taken, any other one only reports its offset
    (04 R93 to R96). `err` is the error that is judged, `x` the input of instance 0, `off` marks an edge inside a rate mismatch. Before a source
    is taken and before the first tick no frame phase exists: SRC_OFFSETn then reports against positions with base 0 (DESIGN CHOICE, log
    195). -/
def State.measure (s : State) (c : Nat) (err x : Int) (off : Bool) : State :=
  let m := s.src c
  let s := s.showOffset c m.phase
  if s.active = c && s.clk.next != some c then
    if s.frm.ticked && s.lockState != lsRELOCKING && !within err win2us then
      (if off then s else s.displaced c err m.phase m.tErr)
    else s.lockOn err x
  else if s.clk.next = some c ∧ (s.src c).qualified ∧ s.srcList.contains c then
    s.takeSource c s.phaseBase
  else s

/-- SOURCE_QUALIFY: usable for QUAL_TIME without interruption, from the first tick on (04 R93). -/
def execSourceQualify (src t : Nat) (s : State) : Host.Outcome State Fault Refusal :=
  let s := s.atTime t
  let ok : Bool := match (s.src src).since with
    | none => false
    | some u => decide (u + s.lv R.CLK.QUAL_TIME * sec1 ≤ s.time)
  .next (s.cond (s.isSender && s.frm.ticked && (s.src src).usable && ok && decide (1 ≤ src ∧ src ≤ 4)) (fun s => s.qualify src))

/-! REF inputs (04 R89, R93, R99). -/

/-- Two intervals agree within 100 ppm (04 R93, R99). -/
def within100ppm (x y : Nat) : Bool := decide (x * 1000000 ≤ y * 1000100 ∧ y * 999900 ≤ x * 1000000)

/-- The multiple of T from 1 to 8 that an interval matches (04 R99). -/
def multipleOf (x : Nat) (num den : Nat) : Option Nat :=
  ((List.range 8).map (· + 1)).find? (fun j => within100ppm x (cadence num den j))

/-- REF fields by input: 0 REFA, 1 REFB. -/
def refPick {α : Type} (i : Nat) (a b : α) : α := if i = 0 then a else b

/-- The effective divider k of an input (04 R99, R116). -/
def State.refDiv (s : State) (i : Nat) : Nat := s.rd (refPick i R.REF.REFA_DIV_EFF R.REF.REFB_DIV_EFF) + 1

/-- RATE_MISMATCH holds while an input shows one (04 R115). -/
def State.rateLevel (s : State) : State :=
  ((s.level R.REF.ev_REFA_RATE (s.src 3).bad).level R.REF.ev_REFB_RATE (s.src 4).bad).level R.CLK.ev_RATE_MISMATCH
    ((s.src 3).bad || (s.src 4).bad)

/-- The phase of a REF edge: its compensated time against the nearest tick position (04 R86). -/
def State.refPhase (s : State) (edge : Int) : Int :=
  s.phaseFrom s.phaseBase (edge + s.tickOffset)

/-- An edge whose interval is off: the third in a row is a rate mismatch, or makes the input follow another divider, which all three must
    match (04 R99; DEDUCED, log 174). In a mismatch each further interval is judged so: AUTO_FOLLOW set meanwhile adopts the multiple, and the input
    stays unusable until a commit ends the mismatch (DESIGN CHOICE, log 197). -/
def State.refOff (s : State) (i : Nat) (iv : Nat) : State :=
  let c := 3 + i
  let j := multipleOf iv s.rateNum s.rateDen
  let m := s.src c
  let follow := if m.mism = 0 then j else if m.follow = j then j else none
  let s := s.modSrc c (fun x => { x with mism := x.mism + 1, follow := follow })
  if m.mism + 1 < 3 then s
  else
    match follow with
    | some j =>
      if s.flag R.CLK.AUTO_FOLLOW then
        ((s.wr (refPick i R.REF.REFA_DIV_EFF R.REF.REFB_DIV_EFF) (j - 1)).raise R.CLK.ev_DIV_FOLLOW).modSrc c
          (fun x => { x with mism := 0, follow := none })
      else ((s.modSrc c (fun x => { x with bad := true })).loseSource c).rateLevel
    | none => ((s.modSrc c (fun x => { x with bad := true })).loseSource c).rateLevel

/-- REF_EDGE: an active edge, stamped to 1 ns: presence, the rate check, then the judgement as a measurement (04 R89, R93, R96, R99). -/
def refEdgeFx (i : Nat) (s : State) : State :=
  let c := 3 + i
  let edge := s.time / ns1 * ns1
  let was := s.src c
  let s := s.modSrc c (fun x => { x with last := some edge })
  match was.last with
  | none => s
  | some l =>
    let iv := edge - l
    let kT := cadence s.rateNum s.rateDen (s.refDiv i)
    let s := s.wr (refPick i R.REF.REFA_INTERVAL R.REF.REFB_INTERVAL) (iv / ns1)
    let s := s.cond (decide (2 * iv ≤ 3 * kT)) (fun s => s.wr (refPick i R.REF.REFA_PRESENT R.REF.REFB_PRESENT) 1)
    let good := within100ppm iv kT
    let s := if good then s.modSrc c (fun x => { x with mism := 0, follow := none }) else s.refOff i iv
    let m := s.src c
    if m.bad then s
    else
      let comp := (edge : Int) + s.lvI (refPick i R.REF.REFA_DELAY R.REF.REFB_DELAY) * ns1
      let ph := s.refPhase comp
      let s := (s.modSrc c (fun x => { x with phase := ph })).wrI (refPick i R.REF.REFA_ERR R.REF.REFB_ERR) (nsOf ph)
      let ok : Bool := s.rd (refPick i R.REF.REFA_PRESENT R.REF.REFB_PRESENT) != 0 && (good || s.frm.ticked)
      let s := if ok then s.usableNow c
        else s.modSrc c (fun x => { x with run := 0, usable := x.usable && x.qualified, since := if x.qualified then x.since else none })
      s.cond ok (fun s => s.measure c ph ph (!good && decide (3 ≤ was.mism + 1)))

/-- REF_EDGE (04 R96). -/
def execRefEdge (input t : Nat) (s : State) : Host.Outcome State Fault Refusal :=
  let s := s.atTime t
  .next (s.cond (s.isSender && decide (input < 2) && s.lvB (refPick input R.REF.REFA_CFG_EN R.REF.REFB_CFG_EN))
    (refEdgeFx input))

/-- REF_LOSS: no edge within 1.5 × k × T (04 R89). -/
def refLossFx (i : Nat) (s : State) : State :=
  let s := s.wr (refPick i R.REF.REFA_PRESENT R.REF.REFB_PRESENT) 0
  let s := s.incRaise (refPick i R.REF.CNT_REFA_LOST R.REF.CNT_REFB_LOST) (refPick i R.REF.ev_REFA_LOST R.REF.ev_REFB_LOST)
  (s.modSrc (3 + i) (fun x => { x with last := none, mism := 0, follow := none })).loseSource (3 + i)

/-- REF_LOSS (04 R89). -/
def execRefLoss (input t : Nat) (s : State) : Host.Outcome State Fault Refusal :=
  let s := s.atTime t
  .next (s.cond (s.isSender && decide (input < 2) && s.flag (refPick input R.REF.REFA_PRESENT R.REF.REFB_PRESENT))
    (refLossFx input))

/-! PPS and the setting of the time base (04 R83, R90, 16 R415). -/

/-- A step of the time base to a value at this moment: at once before the first tick, else at the first tick 250 µs or more ahead, chosen
    now; it replaces an earlier request (02 R459; 04 R83, R99; 16 R415). -/
def State.requestBase (s : State) (target : Nat) : State :=
  let d : Int := (target : Int) - s.base
  let s : State := { s with clk := { s.clk with ppsArm := false, step := none } }
  if s.frm.ticked then { s with clk := { s.clk with step := some (s.firstTick s.time, nsOf d) } }
  else
    let s := s.moveBase d
    (s.cond (s.clk.placed && s.srcList.isEmpty)
      (fun s => { s with frm := { s.frm with cadBase := s.tickOffset - s.clk.tb } })).planFirst

/-- TIME_SET_GO (04 R83). -/
def timeSetGoFx (s : State) : State :=
  if isPtp s.active then s.wr R.CLK.TIME_SET_REFUSED 1
  else (s.wr R.CLK.TIME_SET_REFUSED 0).requestBase (s.rd R.CLK.TIME_SET_SEC * sec1 + s.rd R.CLK.TIME_SET_NS * ns1)

/-- TIME_SET_GO (04 R83). -/
def execTimeSetGo (t : Nat) (s : State) : Host.Outcome State Fault Refusal :=
  .next ((s.atTime t).cond s.isSender timeSetGoFx)

/-- PPS_LOAD arms the load at the next PPS edge (04 R83, R99). -/
def ppsLoadFx (s : State) : State :=
  if isPtp s.active then s.wr R.CLK.TIME_SET_REFUSED 1
  else ({ s with clk := { s.clk with ppsArm := true, step := none } } : State).wr R.CLK.TIME_SET_REFUSED 0

/-- PPS_LOAD (04 R83). -/
def execPpsLoad (s : State) : Host.Outcome State Fault Refusal := .next (s.start.cond s.isSender ppsLoadFx)

/-- The signed distance of a time from the nearest whole second (04 R90). -/
def secondOffset (b : Nat) : Int := (b : Int) - roundDiv b sec1 * sec1

/-- PPS_EDGE: an armed load acts, also when a PTP source has become active since it was armed; R83 refuses the request, not its effect
    (04 R83, R90; DESIGN CHOICE, log 191). -/
def ppsEdgeFx (s : State) : State :=
  let s := (s.wrI R.REF.PPS_OFFSET (nsOf (secondOffset s.base))).wr R.REF.PPS_PRESENT 1
  s.cond s.clk.ppsArm (fun s => s.requestBase (s.rd R.CLK.TIME_SET_SEC * sec1))

/-- PPS_EDGE (04 R90). -/
def execPpsEdge (t : Nat) (s : State) : Host.Outcome State Fault Refusal :=
  .next ((s.atTime t).cond (s.isSender && s.lvB R.REF.PPS_CFG_EN) ppsEdgeFx)

/-- PPS_LOSS: no edge for 1.5 s (04 R90). -/
def execPpsLoss (t : Nat) (s : State) : Host.Outcome State Fault Refusal :=
  .next ((s.atTime t).cond (s.isSender && s.flag R.REF.PPS_PRESENT)
    (fun s => (s.wr R.REF.PPS_PRESENT 0).incRaise R.REF.CNT_PPS_LOST R.REF.ev_PPS_LOST))

/-! PTP (04 R91 to R93). -/

def ppINITIALIZING : Nat := 0
def ppLISTENING : Nat := 1
def ppUNCALIBRATED : Nat := 2
def ppSLAVE : Nat := 3
def ppFAULTY : Nat := 4
def ppDISABLED : Nat := 5

/-- What an unlisted PTP instance holds. -/
def ptpDefault : Nat → PtpSt := fun _ => {}

/-- A PTP instance. -/
def State.ptpSt (s : State) (i : Nat) : PtpSt := smGet ptpDefault s.clk.ptp i

/-- Change a PTP instance. -/
def State.modPtp (s : State) (i : Nat) (f : PtpSt → PtpSt) : State :=
  { s with clk := { s.clk with ptp := smMod ptpDefault s.clk.ptp i f } }

/-- PORT_STATE takes a value; a change is raised (04 R117). -/
def State.setPort (s : State) (i v : Nat) : State :=
  if s.rd (R.PTP.PORT_STATE i) = v then s else (s.wr (R.PTP.PORT_STATE i) v).raise (R.PTP.ev_STATE_CHANGE i)

/-- The instance loses its domain and goes to a port state (04 R92). -/
def State.ptpLost (s : State) (i st : Nat) : State :=
  let had := s.rd (R.PTP.PORT_STATE i) == ppSLAVE
  let s := s.setPort i st
  let s := s.cond had (fun s => s.incRaise (R.PTP.CNT_LOST i) (R.PTP.ev_LOST i))
  s.loseSource (1 + i)

/-- The order of the default best master algorithm: the first data set is better (04 R91; PRESUMED from IEEE 1588, log 25). -/
def announceBetter (a b : Announce) : Bool :=
  let key (x : Announce) : List Nat :=
    if a.gmId = b.gmId then [x.stepsRemoved, x.portId]
    else [x.prio1, x.clockClass, x.accuracy, x.variance, x.prio2, x.gmId]
  decide (key a < key b)

/-- The best of the foreign masters. -/
def bestMaster : List Announce → Option Announce
  | [] => none
  | a :: as =>
    match bestMaster as with
    | none => some a
    | some b => some (if announceBetter b a then b else a)

/-- The grandmaster registers follow the selected master (04 R117). -/
def State.showGm (s : State) (i : Nat) (a : Announce) : State :=
  let s := s.cond (s.rd (R.PTP.GM_IDENTITY i) != a.gmId % 2 ^ 64) (fun s => s.raise (R.PTP.ev_GM_CHANGE i))
  (((((s.wr (R.PTP.GM_IDENTITY i) a.gmId).wr (R.PTP.GM_CLASS i) a.clockClass).wr (R.PTP.GM_ACCURACY i) a.accuracy).wr
    (R.PTP.GM_VARIANCE i) a.variance).wr (R.PTP.STEPS_REMOVED i) a.stepsRemoved).wr (R.PTP.UTC_OFFSET i) a.utcOffset

/-- Table 0 of the instance: length, then the last synchronization metadata TLV (04 R91, R117). -/
def State.storeTlv (s : State) (i : Nat) (tlv : List Byte) : State :=
  if tlv = [] then s
  else
    let ws := BitVec.ofNat 32 tlv.length :: (List.range (ceilDiv tlv.length 4)).map (fun k => BitVec.ofNat 32 (leAt tlv (4 * k) 4))
    { s with imm := smSetMany tabDefault s.imm (tabKey (0x006 + i) 0 0) (ws.take 512) }

/-- PTP_ANNOUNCE: the master's data is kept (at most 8 masters), the best master selected; a clockClass above CLASS_MAX loses the
    domain (04 R91, R92). -/
def ptpAnnounceFx (i : Nat) (a : Announce) (s : State) : State :=
  let s := s.storeTlv i a.tlv
  let old := (s.ptpSt i).masters
  let ms := if old.any (fun m => m.portId == a.portId) then old.map (fun m => if m.portId = a.portId then a else m)
    else if old.length < 8 then old ++ [a] else old
  let best := bestMaster ms
  let s := s.modPtp i (fun p => { p with masters := ms })
  match best with
  | none => s
  | some b =>
    let s := s.showGm i b
    if s.lv (R.PTP.CLASS_MAX i) < b.clockClass then s.ptpLost i ppLISTENING
    else s.cond (s.rd (R.PTP.PORT_STATE i) == ppLISTENING) (fun s => s.setPort i ppUNCALIBRATED)

/-- A PTP instance works: enabled and neither faulty nor disabled. -/
def State.ptpOn (s : State) (i : Nat) : Bool :=
  s.isSender && decide (i < 2) && s.lvB (R.PTP.EN i) && decide (s.rd (R.PTP.PORT_STATE i) < ppFAULTY)

/-- PTP_ANNOUNCE (04 R91). -/
def execPtpAnnounce (inst : Nat) (a : Announce) (t : Nat) (s : State) : Host.Outcome State Fault Refusal :=
  .next ((s.atTime t).cond (s.ptpOn inst) (ptpAnnounceFx inst a))

/-- PTP_ANNOUNCE_TIMEOUT: the instance has no master any more (04 R92). -/
def execPtpAnnounceTimeout (inst t : Nat) (s : State) : Host.Outcome State Fault Refusal :=
  .next ((s.atTime t).cond (s.ptpOn inst)
    (fun s => (s.modPtp inst (fun p => { p with masters := [] })).ptpLost inst ppLISTENING))

/-- PTP_SYNC_TIMEOUT: the port leaves SLAVE (04 R92). -/
def execPtpSyncTimeout (inst t : Nat) (s : State) : Host.Outcome State Fault Refusal :=
  .next ((s.atTime t).cond (s.ptpOn inst && s.rd (R.PTP.PORT_STATE inst) == ppSLAVE)
    (fun s => s.ptpLost inst ppUNCALIBRATED))

/-- The phase of a PTP source: where its cadence puts ticks against the tick positions (04 R86, R94). -/
def State.ptpPhase (s : State) (offset : Int) : Int :=
  s.phaseFrom s.phaseBase (s.tickOffset - s.clk.tb + offset)

/-- The filter of instances 2 and 3 (04 R101), frozen while the instance is open. -/
def State.ptpFilter (s : State) (i : Nat) (x : Int) : State :=
  let y := s.rdI (R.PTP.OFFSET i)
  let y' := if s.isOpen (2 + i) then y else sat32 (y + shrInt (x - y) (s.lv (R.PTP.FILT i)))
  let s := s.setLoop (2 + i) { s.loop (2 + i) with u := y', x := x, e := sat32 (x - y) }
  ((s.wrI (R.PTP.OFFSET i) y').wrI (R.LOOP.OUT (2 + i)) (s.loopOut (2 + i))).wrI (R.LOOP.ERR (2 + i)) (sat32 (x - y))

/-- The instance asks for the path delay with a Delay_Req: multicast, or unicast to the selected master. When it asks is not stated: with each
    Sync it accepts (04 R91; DESIGN CHOICE, log 169). -/
def State.sendDelayReq (s : State) (i : Nat) : State :=
  let dest := if s.lvB (R.PTP.UNICAST_DELAY i) then (bestMaster (s.ptpSt i).masters).map Announce.portId else none
  let tag := if s.lvB (R.PTP.VLAN_EN i) then some (s.lv (R.PTP.VLAN_ID i), s.lv (R.PTP.PCP i)) else none
  s.emit (.delayReq (s.lv (R.PTP.NET i)) (s.lv (R.PTP.DOMAIN i)) dest (s.lv (R.PTP.LOCAL_IP i)) tag)

/-- PTP_SYNC: an accepted Sync with its offset from master in 2^-16 ns before delayAsymmetry, which ASYM takes from it: a measurement of
    the instance; the first one brings the port from UNCALIBRATED to SLAVE (04 R93, R96, R101; log 25). In a hold frame the time error
    is judged after the announced step. -/
def ptpSyncFx (i : Nat) (raw : Int) (pathDelay : Nat) (s : State) : State :=
  let c := 1 + i
  let offset := raw - s.lvI (R.PTP.ASYM i) * ns1
  let s := (((s.setPort i ppSLAVE).inc (R.PTP.CNT_SYNC i)).wr (R.PTP.MEAN_PATH_DELAY i) pathDelay).sendDelayReq i
  let st := match s.frm.jump with
    | some (_, _, st) => if s.frm.hold then st else 0
    | none => 0
  let tErr := offset + st
  let ph := s.ptpPhase tErr
  let s := (s.modSrc c (fun x => { x with phase := ph, tErr := tErr })).usableNow c
  let err := if within tErr win2us then ph else tErr
  let placing : Bool := !s.frm.ticked && s.active != c
  let disp : Bool := s.active == c && s.frm.ticked && s.lockState != lsRELOCKING && !within err win2us
  let s := s.cond (!disp && !placing) (fun s => s.ptpFilter i (sat32 (shrInt offset 12)))
  s.measure c err (s.rdI (R.PTP.OFFSET i) * 4096) false

/-- PTP_SYNC (04 R93). -/
def execPtpSync (inst : Nat) (offset : Int) (pathDelay t : Nat) (s : State) : Host.Outcome State Fault Refusal :=
  .next ((s.atTime t).cond (s.ptpOn inst && decide (ppUNCALIBRATED ≤ s.rd (R.PTP.PORT_STATE inst)))
    (ptpSyncFx inst offset pathDelay))

/-! What an applied configuration changes of the clock (04 R84 to R99). -/

/-- The first qualified source is taken at the apply tick, compared with the positions that this tick takes; the active one, when it is the
    first, is compared again and keeps its place (04 R88, R94; DEDUCED, log 167). Without a qualified one, and with none active, holdover
    (04 R93). -/
def State.reselect (s : State) : State :=
  match s.firstQualified with
  | none => s.cond (s.active == 0) State.seekSource
  | some c => s.takeSource c (if s.frm.ticked then s.frm.planBase else s.frm.cadBase)

/-- An empty source list: the frame clock follows the cadence points of the time base, and the lock reads FREERUN (04 R86, R97). -/
def State.freeRun (s : State) : State :=
  let s : State := { s with clk := { s.clk with next := none } }
  let s := (s.setActive 0).setLock lsFREERUN
  if s.frm.ticked then s
  else
    ({ s with frm := { s.frm with cadBase := s.tickOffset - s.clk.tb }, clk := { s.clk with placed := true } } : State).planFirst

/-- Before the first tick, a commit of TICK_OFFSET, or of the delay of the active REF input, moves the frame clock's place; one that gives
    an empty list sources takes the place away until a source is taken (04 R86, R97). -/
def State.movePlace (s old : State) : State :=
  if s.frm.ticked || !s.clk.placed then s
  else if s.active = 0 then (if old.srcList = [] then { s with clk := { s.clk with placed := false } } else s)
  else
    let edge := if isPtp s.active then 0 else s.srcEdge s.active - old.srcEdge s.active
    ({ s with frm := { s.frm with cadBase := s.frm.cadBase + (s.tickOffset - old.tickOffset) + edge } } : State).planFirst

/-- REF input `i` at an apply: a commit of its divider replaces the effective one; a commit of rate or divider starts the rate check anew, and
    ends a mismatch when it matches the input's edges; a disabled input is lost (04 R99, R116). A commit that leaves DIV as it was is no commit
    of the divider, and a followed one stands (DEDUCED, log 196). -/
def State.refApplied (s old : State) (rate : Bool) (i : Nat) : State :=
  let div := refPick i R.REF.REFA_CFG_DIV R.REF.REFB_CFG_DIV
  let newDiv : Bool := s.lv div != old.lv div
  let s := s.cond (newDiv || !s.running) (fun s => s.wr (refPick i R.REF.REFA_DIV_EFF R.REF.REFB_DIV_EFF) (s.lv div))
  let fits := within100ppm (s.rd (refPick i R.REF.REFA_INTERVAL R.REF.REFB_INTERVAL) * ns1) (cadence s.rateNum s.rateDen (s.refDiv i))
  let s := s.cond (newDiv || rate) (fun s =>
    s.modSrc (3 + i) (fun x => { x with bad := x.bad && !fits, mism := 0, follow := none, run := 0 }))
  let en := refPick i R.REF.REFA_CFG_EN R.REF.REFB_CFG_EN
  s.cond (!s.lvB en && old.lvB en) (fun s =>
    ((s.wr (refPick i R.REF.REFA_PRESENT R.REF.REFB_PRESENT) 0).modSrc (3 + i)
      (fun x => { x with last := none, bad := false })).loseSource (3 + i))

/-- PTP instance `i` at an apply: it starts or stops; a commit that moves it to another port, domain or VLAN starts it anew (DEDUCED, log
    170); a grandmaster whose class the applied CLASS_MAX no longer accepts loses the domain (04 R91, R92). -/
def State.ptpApplied (s old : State) (i : Nat) : State :=
  let moved : Bool := [R.PTP.NET i, R.PTP.DOMAIN i, R.PTP.VLAN_ID i, R.PTP.VLAN_EN i].any (fun f => s.lv f != old.lv f)
  if s.lvB (R.PTP.EN i) && !old.lvB (R.PTP.EN i) then s.setPort i ppLISTENING
  else if !s.lvB (R.PTP.EN i) then s.cond (old.lvB (R.PTP.EN i)) (fun s => (s.modPtp i (fun _ => {})).ptpLost i ppDISABLED)
  else if moved then (s.modPtp i (fun _ => {})).cond (s.ptpOn i) (fun s => s.ptpLost i ppLISTENING)
  else s.cond (s.ptpOn i && decide (s.lv (R.PTP.CLASS_MAX i) < ((bestMaster (s.ptpSt i).masters).map Announce.clockClass).getD 0))
    (fun s => s.ptpLost i ppLISTENING)

/-- A source that was chosen to be taken and that the applied list no longer names is not taken (04 R93). -/
def State.dropChosen (s : State) : State :=
  s.cond (s.clk.next.any (fun c => !s.srcList.contains c)) (fun s => { s with clk := { s.clk with next := none } })

/-- A configuration has been applied over `old` (the words before): REF and PTP inputs, the source list, and the reselection of R88, R94
    and R99, before which a slewing re-lock of a rate commit is abandoned. With no active source the first qualified one of the list follows,
    or holdover (R93, R96). An active source that the new list does not name stays active until it is lost or a reselection takes another
    (04 R93, R94; DEDUCED, log 198). -/
def State.clockApplied (s : State) (old : State) : State :=
  if s.role != .sender then s
  else
    let rate : Bool := periodChanged s.lv old.lv
    let s := (s.each [0, 1] (fun s i => s.refApplied old rate i)).rateLevel
    let mended : Bool := [3, 4].any (fun c => (old.src c).bad && !(s.src c).bad)
    let s := s.each [0, 1] (fun s i => s.ptpApplied old i)
    if s.srcList = [] then s.freeRun
    else
      let s := ((s.dropChosen).movePlace old).cond (rate && s.lockState == lsRELOCKING) (fun s => s.setLock lsACQUIRING)
      if (rate && s.frm.ticked) || mended || s.lv R.CLK.RESELECT != old.lv R.CLK.RESELECT then s.reselect
      else s.cond (s.active == 0 && s.clk.next.isNone) State.seekSource

/-! Sender beacons (04 R104, R106, R107, R109; 01 R10 to R12; 10 R285). -/

/-- BEACON_SLOT: a beacon on every port with link; it leaves at most 8 µs after the start of the slot and carries the time at which it
    leaves (04 R104, log 10). -/
def beaconSlotFx (s : State) : State :=
  s.each (s.ports.filter (fun p => s.portOn p && s.canSend p)) (fun s p =>
    let (d, s) := s.fresh
    s.send none (.beacon p {
      src := s.ownId.getD 0, noid := s.ownId.isNone, hops := 0, stby := !s.serves p, subcoil := false, originPort := p,
      originTime := s.base + d % (8 * us1 + 1), correction := 0, epoch := s.epoch, crcOk := true }))

/-- BEACON_SLOT (04 R104). -/
def execBeaconSlot (t : Nat) (s : State) : Host.Outcome State Fault Refusal :=
  .next ((s.atTime t).cond s.isSender beaconSlotFx)

/-- A beacon goes on: the correction gains the peer delay of the arrival link and the residence time, which is the device's own, and the
    hop count rises; above 64 it is dropped and counted at the arrival port (04 R106, 10 R267, logs 10 and 44). -/
def State.beaconForward (s : State) (arrival : Nat) (out : List Nat) (b : Beacon) : State :=
  let (d, s) := s.fresh
  let out := out.filter s.canSend
  if out.isEmpty then s
  else if 64 < b.hops + 1 then s.inc (R.COIL.CNT_HOPS_DROP arrival)
  else
    s.each out (fun s p =>
      s.send (some arrival) (.beacon p { b with
        hops := b.hops + 1, subcoil := b.subcoil || decide (2 ≤ p), correction := b.correction + s.peerDelay arrival + d }))

/-- The offset of the tile's time base from a beacon, in 2^-16 ns (04 R106). -/
def State.beaconOffset (s : State) (port : Nat) (b : Beacon) : Int :=
  (s.base : Int) - ((b.originTime : Int) + b.correction + s.peerDelay port)

/-- A valid beacon on the upstream port disciplines the tile. The first one after an election is compared by R94: the tile leaves LOCKED and
    counts 64 offsets again, and beyond ±2 µs, as whenever it is not LOCKED, it re-locks by slewing, a tile having no RELOCK_JUMP (04 R94, R107,
    R109, R115; 16 R421). The setting of its time base before the first tick raises no TIME_STEP, which marks a step of a running one
    (DESIGN CHOICE, log 194). -/
def State.discipline (s : State) (port : Nat) (b : Beacon) : State :=
  let off := s.beaconOffset port b
  let fresh := s.clk.fresh
  let s : State := { s with clk := { s.clk with beacon := s.time, taken := true, fresh := false },
                            red := { s.red with subcoil := b.subcoil, hops := b.hops + 1 } }
  let s := s.showEnds
  if !s.frm.ticked && !within off win2us then
    ({ s with clk := { s.clk with tb := s.clk.tb - off, run := 0 } } : State).setLock lsACQUIRING
  else
    let s : State := { s with clk := { s.clk with run := if within off win10 then s.clk.run + 1 else 0 } }
    let s := s.lockSample off
    if !within off win2us && (fresh || s.lockState != lsLOCKED) then
      (s.cond (s.lockState != lsRELOCKING && !(s.isOpen 0 || s.isOpen 1))
        (fun s => s.incRaise R.CLK.CNT_RELOCK R.CLK.ev_RELOCK)).setLock lsRELOCKING
    else if fresh then s.setLock lsACQUIRING
    else if s.lockState = lsLOCKED then s
    else if 64 ≤ s.clk.run then
      (s.setLock lsLOCKED).cond (s.stateCode == stLOADED && !(s.isOpen 0 || s.isOpen 1)) (fun s => s.toState stARMED)
    else s.setLock lsACQUIRING

/-- A tile elects a port of its pair as upstream (01 R10, 10 R281). -/
def State.elect (s : State) (port : Nat) : State :=
  let s : State := { s with red := { s.red with upstream := some port, electing := false, since := s.time },
                            clk := { s.clk with run := 0, hist := [], histFrom := none, fresh := true } }
  s.showRoles

/-- BEACON_RECEIVE at a tile. Of two first valid beacons at one reading of the clock, which stands for one core clock cycle, port 0's elects
    (DESIGN CHOICE, log 171) (01 R10, R11; 04 R106, R107; 10 R267, R281). -/
def tileBeacon (port : Nat) (b : Beacon) (s : State) : State :=
  let q := otherPort port
  let s := s.cond b.crcOk (fun s => s.modCoil port (fun c => { c with
    seen := (b.src, s.time) :: c.seen.filter (fun p => p.1 != b.src) }))
  let s := s.cond (b.crcOk && decide (b.hops ≤ 63) && within (s.beaconOffset port b) win2us)
    (fun s => s.modCoil port (fun c => { c with good := some s.time }))
  let valid : Bool := b.crcOk && decide (b.hops ≤ 63) && !b.stby
  let s := s.cond (valid && port == otherPort s.red.oldUp)
    (fun s => { s with red := { s.red with repeating := false } })
  let tie : Bool := port == 0 && s.red.upstream == some 1 && s.red.since == s.time && s.clk.beacon == s.time &&
    (!s.frm.ticked || s.flag R.RED.st_FAILOVER)
  let s := s.cond (valid && (s.red.upstream.isNone || s.red.electing || tie)) (fun s => s.elect port)
  let up : Bool := s.red.upstream == some port
  let s := s.cond (valid && up) (fun s => s.discipline port b)
  let outward := if !up then [] else if s.boot.bootMode then s.ports.filter (2 ≤ ·) else s.subPorts
  s.beaconForward port (q :: outward) b

/-- BEACON_RECEIVE at a sender: beacons of another sender on a watched port; FAR_ACTIVE shows the last one's sub-state (10 R285, log
    51). -/
def senderBeacon (port : Nat) (b : Beacon) (s : State) : State :=
  if !b.crcOk || b.src == s.lv R.GLB.NODE_ID || !(s.lv R.RED.LOOP_CHECK).testBit port then s
  else
    let s : State := { s with red := { s.red with broken := s.red.broken.filter (· != port) } }
    let s := s.wr R.RED.LOOP_OK (withBit (s.rd R.RED.LOOP_OK) port true)
    (s.wr R.RED.FAR_ACTIVE (withBit (s.rd R.RED.FAR_ACTIVE) port !b.stby)).loopLevels

/-- BEACON_RECEIVE (04 R106), on a port that is UP (10 R250). -/
def execBeaconReceive (port : Nat) (b : Beacon) (t : Nat) (s : State) : Host.Outcome State Fault Refusal :=
  let s := s.atTime t
  .next (if s.isSender && s.portOn port && s.isUp port then senderBeacon port b s
    else if s.isTile && decide (port < 2) && s.isUp port then tileBeacon port b s
    else s)

/-- BEACON_TIMEOUT: no valid upstream beacon for 1 ms: holdover after the first tick (04 R109), no election before it (01 R12). -/
def execBeaconTimeout (t : Nat) (s : State) : Host.Outcome State Fault Refusal :=
  let s := s.atTime t
  .next (s.cond (s.isTile && decide (s.clk.beacon + ms1 ≤ s.time))
    (fun s => if s.frm.ticked then s.enterHoldover else s.unelect.enterHoldover))

end Sys2Proof.Machine
end

