-- ==== Sys2Proof/Machine/Sched.lean ====
section
/-!
DEFINITION. Display schedules, slots, transitions and camera sync (05 R120 to R137; 04 R85).
A configuration is read through a function `g` from a field to its value: the applied one or a commit's snapshot.
-/

namespace Sys2Proof.Machine

/-- Validation codes (03 R69). -/
def ceRANGE : Nat := 0x01
def ceRESERVED_VALUE : Nat := 0x02
def ceLIMIT_LAMPS : Nat := 0x03
def ceLIMIT_REGION : Nat := 0x04
def ceLIMIT_LAMP_SLOT : Nat := 0x05
def ceLIMIT_FEED_PIXEL : Nat := 0x06
def ceFRAME_RATE : Nat := 0x07
def ceSCHEDULE : Nat := 0x08
def ceLINE_BUFFER : Nat := 0x09
def ceCOEF_SUM : Nat := 0x0A
def ceLOOP_CLOSED : Nat := 0x0B
def ceROUTE_BLOCK : Nat := 0x0C
def ceROUTE_OVERLAP : Nat := 0x0D
def ceHUB_SHAPE : Nat := 0x0E
def ceHUB_GRID : Nat := 0x0F
def ceHUB_CAPACITY : Nat := 0x10
def ceLATE : Nat := 0x11
def ceFAR_EPOCH : Nat := 0x12
def ceEPOCH_ORDER : Nat := 0x13
def cePENDING_FULL : Nat := 0x14
def ceDEVICE_LIMIT : Nat := 0x15
def cePORT_TRANSIT : Nat := 0x80

/-- A result of a check: one error at a field's word when the check fails. -/
def errAt (bad : Bool) (code : Nat) (f : Fld) : List CfgErr := if bad then [{ page := f.page, code := code, off := f.off }] else []

/-- A result placed at OFFSET 0x000 of a page. -/
def errPage (bad : Bool) (code page : Nat) : List CfgErr := if bad then [{ page := page, code := code, off := 0 }] else []

/-- A field outside a range. -/
def errRange (g : Cfg) (f : Fld) (lo hi : Nat) : List CfgErr := errAt (decide (g f < lo ∨ hi < g f)) ceRANGE f

/-! The schedule of a configuration (05 R120 to R124). -/

def moSINGLE : Nat := 0
def moDEEP : Nat := 1
def moHFR : Nat := 2
def moDUAL : Nat := 3
def moQUAD : Nat := 4
def moOCTO : Nat := 5
def moDIRECT : Nat := 6
def moMEASURE : Nat := 7

/-- FEED_MASK of a feed. -/
def feedMaskF (n : Nat) : Fld := ⟨0x003, 0x044 + 4 * (n / 4), 8 * (n % 4), 8⟩

/-- SLOT_START of a slot from 1 to 7. -/
def slotStartF (k : Nat) : Fld := ⟨0x003, 0x04C + 4 * ((k - 1) / 2), 16 * ((k - 1) % 2), 10⟩

/-- Slots per frame. -/
def slotsOf (g : Cfg) : Nat := g R.SCH.SLOTS + 1

/-- The feed masks. -/
def masksOf (g : Cfg) : List Nat := (List.range 8).map (fun n => g (feedMaskF n))

/-- The feed count: feeds with a nonzero mask (R120). -/
def feedsOf (g : Cfg) : Nat := ((masksOf g).filter (· != 0)).length

/-- The feed that claims a slot, if one does (R121). -/
def feedOfSlot (g : Cfg) (slot : Nat) : Option Nat := (List.range 8).find? (fun n => (g (feedMaskF n)).testBit slot)

/-- MEASURE with the tile as pattern source (R136). -/
def tileMeasure (g : Cfg) : Bool := g R.SCH.MODE == moMEASURE && g R.SCH.MEAS_SRC == 1

/-- A slot is lit: a feed claims it, or every slot in MEASURE with the tile as source (R122). -/
def slotLit (g : Cfg) (slot : Nat) : Bool := decide (slot < slotsOf g) && (tileMeasure g || (feedOfSlot g slot).isSome)

/-- Lit slots per frame (R122). -/
def litSlots (g : Cfg) : Nat := ((List.range (slotsOf g)).filter (slotLit g)).length

/-- Start of a slot in T/1,024 (R124). -/
def slotStart (g : Cfg) (slot : Nat) : Nat :=
  if g R.SCH.EQUAL = 1 then slot * 1024 / slotsOf g else if slot = 0 then 0 else g (slotStartF slot)

/-- Time of a slot start from the tick in 2^-16 ns: round(T × start / 1,024) (R124). -/
def slotTime (g : Cfg) (slot : Nat) : Nat :=
  if numOf g = 0 then 0 else roundDiv (slotStart g slot * denOf g * sec1) (numOf g * 1024)

/-- Time of the end of a slot: the start of the next one, or the frame period (R124). -/
def slotEnd (g : Cfg) (slot : Nat) : Nat :=
  if slot + 1 < slotsOf g then slotTime g (slot + 1) else framePeriod (numOf g) (denOf g)

/-- The row of a schedule: feed counts, slot counts, and the rate limits as numerator and denominator in Hz (R120). -/
structure SchRow where
  feedLo : Nat
  feedHi : Nat
  slotLo : Nat
  slotHi : Nat
  rateLo : Nat × Nat
  rateHi : Nat
deriving DecidableEq, Repr

/-- 23.976 Hz as R85 means it. -/
def rate23 : Nat × Nat := (24000, 1001)

/-- The table of R120. -/
def schRows : List SchRow :=
  [⟨1, 1, 1, 1, rate23, 120⟩, ⟨1, 1, 1, 1, rate23, 60⟩, ⟨1, 2, 1, 2, (100, 1), 240⟩, ⟨2, 2, 2, 4, rate23, 60⟩,
   ⟨3, 4, 4, 8, rate23, 60⟩, ⟨5, 8, 8, 8, rate23, 60⟩, ⟨1, 1, 1, 1, rate23, 120⟩, ⟨0, 8, 1, 8, rate23, 240⟩]

/-- The row of a MODE. -/
def schRow (mode : Nat) : SchRow := schRows.getD mode ⟨1, 1, 1, 1, rate23, 120⟩

/-- F lies in a range of the schedule, exactly (R85, R120). -/
def rateOk (g : Cfg) (lo : Nat × Nat) (hi : Nat) : Bool :=
  decide (lo.1 * denOf g ≤ numOf g * lo.2 ∧ numOf g ≤ hi * denOf g)

/-- The frame rate lies outside 23.976 to 240 Hz or outside the schedule's range (R85, R120). -/
def checkRate (g : Cfg) : List CfgErr :=
  let r := schRow (g R.SCH.MODE)
  errAt (!(rateOk g rate23 240 && rateOk g r.rateLo r.rateHi)) ceFRAME_RATE R.CLK.RATE_NUM

/-- Slot and feed counts against the row (R120). -/
def checkCounts (g : Cfg) : List CfgErr :=
  let r := schRow (g R.SCH.MODE)
  let n := feedsOf g
  let k := slotsOf g
  let feeds : Bool := tileMeasure g || decide (r.feedLo ≤ n ∧ n ≤ r.feedHi)
  errAt (!(feeds && decide (r.slotLo ≤ k ∧ k ≤ r.slotHi) && (g R.SCH.MODE != moHFR || decide (n ≤ k)))) ceSCHEDULE R.SCH.MODE

/-- The feed masks (R121): the result names the word of the first mask that breaks a rule. -/
def checkMasks (g : Cfg) : List CfgErr :=
  let single : Bool := g R.SCH.MODE == moSINGLE || g R.SCH.MODE == moDEEP || g R.SCH.MODE == moDIRECT
  (List.range 8).flatMap (fun n =>
    let m := g (feedMaskF n)
    let gap : Bool := m != 0 && (List.range n).any (fun j => g (feedMaskF j) == 0)
    let shared : Bool := (List.range 8).any (fun j => j != n && (g (feedMaskF j) &&& m) != 0)
    let high : Bool := decide (2 ^ slotsOf g ≤ m)
    errAt (gap || shared || high || (single && n == 0 && m != 1)) ceSCHEDULE (feedMaskF n))

/-- The slot starts (R124, R137). -/
def checkStarts (g : Cfg) : List CfgErr :=
  if g R.SCH.EQUAL = 1 then []
  else
    [1, 2, 3, 4, 5, 6, 7].flatMap (fun k =>
      let x := g (slotStartF k)
      let bad : Bool := if k < slotsOf g then decide (x ≤ slotStart g (k - 1)) else x != 0
      errAt bad ceSCHEDULE (slotStartF k))

/-- Reserved tile patterns (R136, R137). -/
def checkPatterns (g : Cfg) : List CfgErr :=
  (List.range 8).flatMap (fun k => errAt (decide (6 ≤ g (R.SCH.MEAS_PAT_PAT k))) ceRESERVED_VALUE (R.SCH.MEAS_PAT_PAT k))

/-- The effective mask of a CAMSYNC output (R127). -/
def csMask (g : Cfg) (c : Nat) : Nat := if g (R.SCH.FOLLOW c) = 1 then g (feedMaskF (g (R.SCH.FEED c))) else g (R.SCH.MASK c)

/-- OFFSET of a CAMSYNC output in 2^-16 ns. -/
def csOffset (g : Cfg) (c : Nat) : Int := signedOf 32 (g (R.SCH.OFFSET c)) * ns1

/-- CAMSYNC outputs: the width, and every pulse within −200,000 ns to T − 1 ns (R128, R137; log 26). -/
def checkCamsync (g : Cfg) : List CfgErr :=
  (List.range 8).flatMap (fun c =>
    if g (R.SCH.EN c) = 0 then []
    else
      let bad : Bool := (List.range (slotsOf g)).any (fun k => (csMask g c).testBit k &&
        (let x : Int := slotTime g k + csOffset g c
         decide (x < -(200000 * ns1 : Nat) ∨ (framePeriod (numOf g) (denOf g) : Int) - ns1 < x)))
      errAt (g (R.SCH.WIDTH c) == 0) ceRANGE (R.SCH.WIDTH c) ++ errAt bad ceRANGE (R.SCH.OFFSET c))

/-- The checks of a sender on the SCH and CLK pages that rest on the schedule alone (R120, R121, R124, R128). -/
def checkSched (g : Cfg) : List CfgErr :=
  checkRate g ++ checkCounts g ++ checkMasks g ++ checkStarts g ++ checkPatterns g ++ checkCamsync g

/-- The checks of the CLK page (04 R85, R93, R98, R115) and of REF and PTP (04 R116, R117). Codes after the 0 that ends the source list name no
    source, and reserved ones among them are accepted (DEDUCED, log 193). -/
def checkClock (role : Role) (g : Cfg) : List CfgErr :=
  let bwLo := if role = .sender then 10 else 1000
  let bwHi := if role = .sender then 1000 else 100000
  let srcs := [R.CLK.SRC1, R.CLK.SRC2, R.CLK.SRC3, R.CLK.SRC4]
  let list := (srcs.map g).takeWhile (· != 0)
  let off := signedOf 32 (g R.CLK.TICK_OFFSET) * ns1
  let delay (f : Fld) : List CfgErr := errAt (!(decide (-10000 ≤ signedOf 32 (g f) ∧ signedOf 32 (g f) ≤ 10000))) ceRANGE f
  errRange g R.CLK.BW bwLo bwHi ++ errRange g R.CLK.HOLD_AVG 1 255 ++
  (if role = .sender then
    errAt (list.any (fun c => decide (4 < c))) ceRESERVED_VALUE R.CLK.SRC1 ++ errAt (decide (¬ list.Nodup)) ceRANGE R.CLK.SRC1 ++
    errAt (decide ((framePeriod (numOf g) (denOf g) : Int) < 2 * off ∨ (framePeriod (numOf g) (denOf g) : Int) < -2 * off)) ceRANGE
      R.CLK.TICK_OFFSET ++
    errRange g R.CLK.HOLDOVER_LIMIT 1 3600 ++ errRange g R.CLK.SLEW_MAX 1 100 ++ errRange g R.CLK.QUAL_TIME 1 600 ++
    delay R.REF.REFA_DELAY ++ delay R.REF.REFB_DELAY ++
    (List.range 2).flatMap (fun i =>
      errRange g (R.PTP.DOMAIN i) 0 127 ++ errRange g (R.PTP.LOG_SYNC i) 3 7 ++ errRange g (R.PTP.ANN_TIMEOUT i) 2 10)
  else [])

/-- The checks of the LOOP page: coefficients of a closed instance, and OUT_MIN above OUT_MAX (04 R103). -/
def State.checkLoop (s : State) (snap : List (Nat × Word32)) : List CfgErr :=
  (List.range 10).flatMap (fun n =>
    let closed : List CfgErr := if !s.isOpen n then
        (loopFields s.role n).flatMap (fun f => errAt (snapRd snap f != s.lv f) ceLOOP_CLOSED f)
      else []
    closed ++
    (if 4 ≤ n then
      errAt (decide (signedOf 32 (snapRd snap (R.LOOP.OUT_MAX (n - 4))) < signedOf 32 (snapRd snap (R.LOOP.OUT_MIN (n - 4)))))
        ceRANGE (R.LOOP.OUT_MIN (n - 4))
     else []))

/-! The applied schedule (05 R131 to R133, R137). -/

/-- Whether two configurations differ in a field that shows the schedule. -/
def schedChanged (g h : Cfg) : Bool :=
  g R.SCH.MODE != h R.SCH.MODE || g R.SCH.SLOTS != h R.SCH.SLOTS || masksOf g != masksOf h

/-- STATUS and SLOT_Ts show the applied schedule; a change of mode, slots or masks is raised (R137). -/
def State.showSched (s : State) (old : State) : State :=
  let g := s.lv
  let s := (((s.wr R.SCH.st_MODE (g R.SCH.MODE)).wr R.SCH.st_SLOTS (g R.SCH.SLOTS)).wr R.SCH.FEEDS (feedsOf g))
  let s := s.each (List.range 8) (fun s k =>
    s.wr (R.SCH.SLOT_T k) (if k < slotsOf g then roundDiv (slotTime g k) ns1 else 0))
  s.cond (schedChanged g old.lv) (fun s => s.raise R.SCH.ev_MODE_CHANGE)

/-- TRANS_LEFT takes a value; TRANSITION holds while it is not 0 (R133, R137). -/
def State.setTrans (s : State) (n : Nat) : State :=
  ((s.wr R.SCH.TRANS_LEFT n).wrB R.SCH.st_TRANSITION (n != 0)).level R.SCH.ev_TRANSITION (n != 0)

/-- At a tick the transition moves on; a change of the frame period starts one. At a tile that missed the commit it began at the missed
    epoch (R133, R134). -/
def State.transTick (s : State) (old : State) : State :=
  if old.frm.ticked && periodChanged s.lv old.lv then
    let e := s.frm.stale.getD s.epoch
    let s : State := { s with frm := { s.frm with transDark := s.lvB R.SCH.TRANSITION, stale := none } }
    ((s.setTrans (s.lv R.SCH.TRANS_FRAMES + 1 - (s.epoch - e))).wr R.SCH.TRANS_EPOCH e).inc R.SCH.CNT_TRANSITION
  else s.setTrans (s.rd R.SCH.TRANS_LEFT - 1)

/-! Camera sync (05 R127 to R130). -/

/-- What an unlisted output holds. -/
def csDefault : Nat → CsSt := fun _ => {}

/-- An output. -/
def State.cs (s : State) (c : Nat) : CsSt := smGet csDefault s.sch.cs c

/-- Set an output. -/
def State.setCs (s : State) (c : Nat) (x : CsSt) : State := { s with sch := { s.sch with cs := smSet csDefault s.sch.cs c x } }

/-- CAMSYNC outputs are driven: a sender from LOADED on, unless CS_HIZ (R130). -/
def State.csDriven (s : State) : Bool := s.isSender && !s.flag R.SCH.CS_HIZ

/-- Drive an output to its active or inactive level. -/
def State.csEmit (s : State) (low : Bool) (c : Nat) (on : Bool) : State :=
  s.cond s.csDriven (fun s => s.emit (.camsync c (on != low)))

/-- The configuration of the next frame. -/
def State.nextSched (s : State) : Cfg :=
  match s.cmt.pend.find? (fun p => p.target == s.epoch + 1) with
  | some p => snapRd p.snap
  | none => s.lv

/-- The start of an output's pulse for a slot in a frame whose tick falls at `t0` (R127). -/
def pulseStart (g : Cfg) (c slot t0 : Nat) : Int := (t0 : Int) + slotTime g slot + csOffset g c

/-- The configuration of the frame that a pulse at time `t` belongs to: of the frame in progress and the next one, that whose pulse starts
    nearest to `t` (R127, R128). -/
def State.csCfg (s : State) (c slot t : Nat) : Cfg :=
  let next := s.nextSched
  if (pulseStart next c slot s.frm.nextTick - t).natAbs < (pulseStart s.lv c slot s.frm.tickTime - t).natAbs then next else s.lv

/-- CAMSYNC_PULSE: a pulse begins; the one before is cut short when the output would not rest for 20 ns (R127, R129). -/
def camsyncPulseFx (c slot : Nat) (s : State) : State :=
  let g := s.csCfg c slot s.time
  let late : Bool := s.frm.hold && s.frm.jump.isSome && decide (s.frm.nextTick ≤ s.time)
  if g (R.SCH.EN c) = 0 ∨ !(csMask g c).testBit slot ∨ slotsOf g ≤ slot ∨ late then s
  else
    let x := s.cs c
    let short : Bool := decide (s.time < x.until_ + 20 * ns1)
    let s := s.cond short (fun s => s.incRaise R.SCH.CNT_CS_SHORTENED R.SCH.ev_CS_SHORTENED)
    let s := s.cond x.active (fun s => s.csEmit x.low c false)
    let low : Bool := g (R.SCH.ACTIVE_LOW c) == 1
    (s.csEmit low c true).setCs c { active := true, until_ := s.time + g (R.SCH.WIDTH c) * 100 * ns1, low := low }

/-- CAMSYNC_PULSE (05 R127). -/
def execCamsyncPulse (c slot t : Nat) (s : State) : Host.Outcome State Fault Refusal :=
  .next ((s.atTime t).cond (s.isSender && s.frm.ticked && decide (c < 8)) (camsyncPulseFx c slot))

/-- When the pulses of an output begin in a frame whose tick falls at `t0` (R127). -/
def pulseStarts (g : Cfg) (c : Nat) (t0 : Int) : List Int :=
  if g (R.SCH.EN c) = 0 then []
  else ((List.range (slotsOf g)).filter (fun k => (csMask g c).testBit k)).map (fun k => t0 + slotTime g k + csOffset g c)

/-- The next pulse of an output begins 20 ns from now and before the one in progress would leave it at rest for 20 ns (R129). -/
def State.cutDue (s : State) (c : Nat) : Bool :=
  (pulseStarts s.lv c s.frm.tickTime ++ pulseStarts s.nextSched c s.frm.nextTick).any (fun x =>
    decide ((s.time : Int) < x ∧ x ≤ s.time + 20 * ns1 ∧ x < ((s.cs c).until_ : Int) + 20 * ns1))

/-- CAMSYNC_PULSE_END: after WIDTH × 100 ns, or cut short 20 ns before the next pulse, the output is inactive again (R127, R129). -/
def camsyncPulseEndFx (c : Nat) (s : State) : State :=
  let x := s.cs c
  if x.active ∧ x.until_ ≤ s.time then (s.csEmit x.low c false).setCs c { x with active := false }
  else if x.active ∧ s.cutDue c then
    ((s.incRaise R.SCH.CNT_CS_SHORTENED R.SCH.ev_CS_SHORTENED).csEmit x.low c false).setCs c { x with active := false, until_ := s.time }
  else s

/-- CAMSYNC_PULSE_END (05 R127). -/
def execCamsyncPulseEnd (c t : Nat) (s : State) : Host.Outcome State Fault Refusal :=
  .next ((s.atTime t).cond (s.isSender && decide (c < 8)) (camsyncPulseEndFx c))

/-- CS_HIZ: 1 puts the eight outputs into high-Z at once, 0 releases them (R130). -/
def csHizFx (v : Word32) (s : State) : State := s.wr R.SCH.CS_HIZ (fieldOf v 0 1)

/-- CS_HIZ (05 R130). -/
def execCsHiz (v : Word32) (s : State) : Host.Outcome State Fault Refusal :=
  .next (s.start.cond (s.pageOn 0x003) (csHizFx v))

end Sys2Proof.Machine
end

