-- ==== Sys2Proof/Machine/Audio.lean ====
section
/-!
DEFINITION. The audio alignment ports: sources, routing, the delay line and the delay (15 R394 to R403).
-/

namespace Sys2Proof.Machine

/-- The sample rate in Hz (R394). -/
def State.audioRate (s : State) : Nat := if s.lvB R.AUD.RATE_96 then 96000 else 48000

/-- Sample frames of a 1 ms ramp. -/
def State.audioRamp (s : State) : Nat := s.audioRate / 1000

/-- The audio block works: enabled on a running sender. -/
def State.audioOn (s : State) : Bool := s.isSender && s.lvB R.AUD.EN

/-! Sample words: [23:0] sample, [24] V, [25] U (R397). -/

/-- Silence with V = 1 (R394, R396). -/
def mutedWord : Nat := 2 ^ 24

/-- What an unlisted source holds. -/
def audDefault : Nat → AudSrc := fun _ => {}

/-- A source of audio. -/
def State.audSrc (s : State) (c : Nat) : AudSrc := smGet audDefault s.aud.src c

/-- Change it. -/
def State.modAud (s : State) (c : Nat) (f : AudSrc → AudSrc) : State :=
  { s with aud := { s.aud with src := smMod audDefault s.aud.src c f } }

/-- Channels that a source carries in a configuration (R394, R396). -/
def audioChannels (g : Cfg) (c : Nat) : Nat :=
  if c < 2 then 2
  else if c = 2 then 16
  else if c < 19 then
    (if g (R.STR.EN (c - 3)) = 1 ∧ g (R.STR.KIND (c - 3)) = 1 then g (R.STR.CHANNELS (c - 3)) + 1 else 0)
  else 0

/-- The source is the one that the rate converter takes (R400). -/
def State.audioAsrc (s : State) (c : Nat) : Bool := s.lvB R.AUD.ASRC_EN && s.lv R.AUD.ASRC_SRC == c

/-- A source is locked: a stream while a PTP domain is the active source, the TDM input while the Y96 drives its clocks, another input by
    its rate (R395, R400). -/
def State.audioLocked (s : State) (c : Nat) : Bool :=
  if c < 2 then (s.audSrc c).locked
  else if c = 2 then s.lvB R.AUD.TDM_MASTER || (s.audSrc c).locked
  else isPtp s.active && s.lv (R.STR.RATE_96 (c - 3)) == s.lv R.AUD.RATE_96

/-- A source is heard: present, and locked or converted (R400). -/
def State.audioHeard (s : State) (c : Nat) : Bool :=
  (s.audSrc c).here && !(s.audSrc c).lost && (s.audioLocked c || s.audioAsrc c)

/-- STATUS of the inputs and of the block, and UNLOCKED while an unlocked input is muted (R400, R403). MUTED reads 0 while the block is
    not enabled, as at reset (log 209). -/
def State.showAudio (s : State) : State :=
  let ok (c : Nat) : Bool := (s.audSrc c).here && !(s.audSrc c).lost
  let s := s.wr R.AUD.AESI_LOCK (b2n (ok 0) + 2 * b2n (ok 1))
  let s := ((s.wrB R.AUD.TDM_CLK_OK (ok 2)).wrB R.AUD.ASRC_ACTIVE (s.audioOn && s.lvB R.AUD.ASRC_EN && ok (s.lv R.AUD.ASRC_SRC))).wrB
    R.AUD.RUNNING s.audioOn
  let s := s.wrB R.AUD.MUTED (s.audioOn && s.aud.ramp == 0)
  let s := s.wrB R.AUD.OUT_CLK (s.lvB R.AUD.OUT_CLK_SRC && s.flag R.AUD.WCLK_OK)
  s.level R.AUD.ev_UNLOCKED (s.audioOn && (List.range 19).any (fun c => ok c && !s.audioHeard c))

/-! Inputs (R394, R400). -/

/-- Sample frames that an input buffer holds (R400). -/
def audioDepth : Nat := 64

/-- A sample frame of a source enters its buffer; where that is full, one whole frame is dropped: for a locked input the oldest, and the
    slip counts (R400). -/
def State.audioPush (s : State) (c : Nat) (frame : List Nat) : State :=
  let full : Bool := decide (audioDepth ≤ (s.audSrc c).buf.length)
  let slip : Bool := full && s.audioLocked c
  let s := s.modAud c (fun x => { x with
    here := true
    count := x.count.map (· + 1)
    buf := ((if slip then x.buf.drop 1 else x.buf) ++ [frame]).take audioDepth })
  (s.cond slip (fun s => s.incRaise R.AUD.CNT_SLIP_DROP R.AUD.ev_SLIP)).showAudio

/-- A TDM slot of 32 bits holds its audio in bits [31:8] (R394). -/
def tdmWord (slot : Nat) : Nat := slot % 2 ^ 32 / 256

/-- Channel status of an AES3 input, from byte 96 of table 1 (R394, R403). -/
def State.storeStatus (s : State) (c : Nat) (bytes : List Byte) : State :=
  s.each ((List.range 24).zip bytes) (fun s x => s.setImmByte 0x0F0 1 (96 + 24 * c + x.1) x.2.toNat)

/-- AUDIO_INPUT_FRAME: the samples of a frame as words [23:0] sample, [24] V, [25] U, or the 16 TDM slots; `status` is the channel
    status at the end of a 192-frame block (R394). -/
def audioInputFx (c : Nat) (samples : List Nat) (status : List Byte) (s : State) : State :=
  let frame := if c = 2 then samples.map tdmWord else samples.map (· % 2 ^ 26)
  (s.audioPush c frame).cond (decide (c < 2) && status.length == 24) (fun s => s.storeStatus c status)

/-- AUDIO_INPUT_FRAME (R394). -/
def execAudioInputFrame (src : Nat) (samples : List Nat) (status : List Byte) (s : State) : Host.Outcome State Fault Refusal :=
  .next (s.start.cond (s.isSender && decide (src < 3)) (audioInputFx src samples status))

/-- The sample of a stream: L24 or L16, most significant byte first (06 R143). -/
def pcmWord (l16 : Bool) (bs : List Byte) : Nat :=
  let v := bs.foldl (fun n b => 256 * n + b.toNat) 0
  if l16 then 256 * v else v

/-- The payload of a kind 1 packet enters the buffer of its stream, frame by frame (06 R143). -/
def State.audioPacket (s : State) (n : Nat) (body : List Byte) : State :=
  let l16 := s.lvB (R.STR.L16 n)
  let w := if l16 then 2 else 3
  let ch := s.lv (R.STR.CHANNELS n) + 1
  s.each (List.range (body.length / (w * ch))) (fun s i =>
    s.audioPush (3 + n) ((List.range ch).map (fun c => pcmWord l16 ((body.drop ((i * ch + c) * w)).take w))))

/-- AUDIO_SLIP: at a limit of a locked input's buffer one whole sample frame is dropped or repeated, before the next frame that comes or
    is taken would do so (R400). -/
def audioSlipFx (c : Nat) (dropFrame : Bool) (s : State) : State :=
  let s := s.modAud c (fun x => { x with buf := if dropFrame then x.buf.drop 1 else [x.last] })
  s.incRaise (if dropFrame then R.AUD.CNT_SLIP_DROP else R.AUD.CNT_SLIP_REPEAT) R.AUD.ev_SLIP

/-- AUDIO_SLIP (R400). -/
def execAudioSlip (src : Nat) (dropFrame : Bool) (s : State) : Host.Outcome State Fault Refusal :=
  let x := s.audSrc src
  .next (s.start.cond (s.isSender && decide (src < 19) && x.here && s.audioLocked src &&
    (if dropFrame then decide (audioDepth ≤ x.buf.length) else x.buf.isEmpty)) (audioSlipFx src dropFrame))

/-! Clocks (R401). -/

/-- A clock that can be lost is there: an AES3 input, the TDM clocks when they are inputs, a stream, or WCLK_IN (code 19). -/
def State.audioClock (s : State) (c : Nat) : Bool :=
  if c = 19 then s.flag R.AUD.WCLK_OK
  else (s.audSrc c).here && !(s.audSrc c).lost && decide (c < 19) && !(c == 2 && s.lvB R.AUD.TDM_MASTER)

/-- AUDIO_CLOCK_LOSS: the source ramps to silence, and the second that measures its rate is not whole; for WCLK_IN as output clock, every output does, and the time base takes over
    (R401). -/
def audioLossFx (c : Nat) (s : State) : State :=
  let s := if c = 19 then s.wr R.AUD.WCLK_OK 0 else s.modAud c (fun x => { x with lost := true, count := none, buf := [] })
  (s.cond (c != 19 || s.lvB R.AUD.OUT_CLK_SRC) (fun s => s.incRaise R.AUD.CNT_CLK_LOST R.AUD.ev_CLK_LOST)).showAudio

/-- AUDIO_CLOCK_LOSS (R401). -/
def execAudioClockLoss (src : Nat) (s : State) : Host.Outcome State Fault Refusal :=
  .next (s.start.cond (s.isSender && s.audioClock src) (audioLossFx src))

/-- AUDIO_CLOCK_RETURN: present for 100 ms; the channels of a source that was locked ramp back up at once, its rate being judged again
    from the next second on (log 209), and WCLK_IN takes the output clock back (R401). -/
def audioReturnFx (c : Nat) (s : State) : State :=
  (if c = 19 then s.wr R.AUD.WCLK_OK 1 else s.modAud c (fun x => { x with lost := false })).showAudio

/-- AUDIO_CLOCK_RETURN (R401). -/
def execAudioClockReturn (src : Nat) (s : State) : Host.Outcome State Fault Refusal :=
  .next (s.start.cond (s.isSender && (if src = 19 then !s.flag R.AUD.WCLK_OK else decide (src < 19) && (s.audSrc src).lost))
    (audioReturnFx src))

/-! The rate converter (R400). -/

/-- ASRC_SAMPLE: loop instance 9 takes the accumulated sample count difference and gives the ratio correction (R400). -/
def asrcFx (x : Int) (s : State) : State :=
  let s := s.loopRun 9 (s.loopCoef 9) x 0 none
  s.wrI R.AUD.RATIO (s.loop 9).u

/-- ASRC_SAMPLE (R400). -/
def execAsrcSample (x : Int) (s : State) : Host.Outcome State Fault Refusal :=
  .next (s.start.cond (s.audioOn && s.flag R.AUD.ASRC_ACTIVE) (asrcFx x))

/-! CTRL (R399, R402). -/

/-- A write of 1 to RESYNC jumps to the computed delay (R399). -/
def audioResyncFx (s : State) : State := { s with aud := { s.aud with jump := true } }

/-- AUDIO_RESYNC (R399). -/
def execAudioResync (s : State) : Host.Outcome State Fault Refusal := .next (s.start.cond s.audioOn audioResyncFx)

/-- A write of MUTE, bit 1 of CTRL (R402). -/
def audioMuteFx (v : Word32) (s : State) : State := s.wr R.AUD.MUTE (fieldOf v 1 1)

/-- AUDIO_MUTE (R402). -/
def execAudioMute (v : Word32) (s : State) : Host.Outcome State Fault Refusal := .next (s.start.cond s.isSender (audioMuteFx v))

/-! Output frames (R396 to R402). -/

/-- Sample frames that the ring holds (R397). -/
def State.ringFrames (s : State) : Nat := s.lv R.AUD.DL_SIZE * 4096 / 96

/-- The DRAM offset of a ring frame. -/
def State.ringAt (s : State) (i : Nat) : Nat := s.lv R.AUD.DL_BASE + 96 * (i % max 1 s.ringFrames)

/-- The next frame of a source: the oldest in its buffer, or the last one again, which for a locked input is a slip and counts; its ramp
    moves one step (R400, R401). -/
def State.audioTakeOne (s : State) (c : Nat) : State :=
  let a := s.audSrc c
  if !a.here then s
  else
    let up := s.audioHeard c
    let s := s.cond (a.buf.isEmpty && !a.lost && s.audioLocked c) (fun s => s.incRaise R.AUD.CNT_SLIP_REPEAT R.AUD.ev_SLIP)
    s.modAud c (fun x => { x with
      last := x.buf.headD x.last
      buf := x.buf.drop 1
      ramp := if up then min (x.ramp + 1) s.audioRamp else x.ramp - 1 })

/-- The next frame of every source. -/
def State.audioTake (s : State) : State := s.each (List.range 19) State.audioTakeOne

/-- A sample under a ramp of `full` frames: itself at full, silence with V = 1 at 0, in between a value that the shape of the ramp gives,
    which is not stated. -/
def State.underRamp (s : State) (ramp full x : Nat) : Nat × State :=
  if full ≤ ramp then (x, s)
  else if ramp = 0 then (mutedWord + x / 2 ^ 25 * 2 ^ 25, s)
  else
    let (v, s) := s.fresh
    (v % 2 ^ 24 + x / 2 ^ 24 * 2 ^ 24, s)

/-- The word that the routing gives an output channel: silence, the sample of its source, or what the rate converter makes of it, which
    is not stated (R396, R400). -/
def State.routed (s : State) (ch : Nat) : Nat × State :=
  let w := s.tabW 0x0F0 0 ch
  let c := fieldOf w 0 5
  if !w.getLsbD 15 || 19 ≤ c then (mutedWord, s)
  else
    let x := (s.audSrc c).last.getD (fieldOf w 5 5) mutedWord
    let (x, s) := if s.audioAsrc c then let (v, s) := s.fresh; (v % 2 ^ 24 + x / 2 ^ 24 * 2 ^ 24, s) else (x, s)
    s.underRamp (s.audSrc c).ramp s.audioRamp x

/-- The words of a list of output channels. -/
def State.routeAll (s : State) : List Nat → List Nat × State
  | [] => ([], s)
  | ch :: chs =>
    let (x, s) := s.routed ch
    let (xs, s) := s.routeAll chs
    (x :: xs, s)

/-- The frame at the read position; a poisoned one is zero with V = 1 on every channel (R397). -/
def State.ringRead (s : State) (a : Nat) : List Nat × State :=
  let (bs, bad, s) := s.dramRead a 96
  if bad then (List.replicate 24 mutedWord, s.incRaise R.AUD.CNT_POISON R.AUD.ev_POISON)
  else ((List.range 24).map (fun i => leAt bs (4 * i) 4), s)

/-- The read position moves toward DELAY_SAMPLES by one sample frame in every 1,000, unless a jump is due (R399). -/
def State.audioSlew (s : State) : State :=
  let d := s.rd R.AUD.DELAY_SAMPLES
  if s.aud.cur = d ∨ s.aud.jump then { s with aud := { s.aud with slew := 0 } }
  else if s.aud.slew + 1 < 1000 then { s with aud := { s.aud with slew := s.aud.slew + 1 } }
  else { s with aud := { s.aud with slew := 0, cur := if s.aud.cur < d then s.aud.cur + 1 else s.aud.cur - 1 } }

/-- The ring restarts at its first frame with the computed delay (R402). -/
def State.restartRing (s : State) : State :=
  { s with aud := { s.aud with restart := false, jump := false, wr := 0, cur := s.rd R.AUD.DELAY_SAMPLES } }

/-- The ramp of all outputs moves one step: down while they are muted, without their word clock, or wait for a jump or a restart, which
    happens at silence (R399, R401, R402). -/
def State.audioRampStep (s : State) : State :=
  let quiet : Bool := s.flag R.AUD.MUTE || (s.lvB R.AUD.OUT_CLK_SRC && !s.flag R.AUD.WCLK_OK)
  let wait : Bool := s.aud.jump || s.aud.restart
  let r := if quiet || wait then min s.aud.ramp s.audioRamp - 1 else min (s.aud.ramp + 1) s.audioRamp
  let s : State := { s with aud := { s.aud with ramp := r } }
  let s := if r = 0 ∧ s.aud.restart then
      (s.each [0, 1, 2] (fun s c => s.modAud c (fun x => { x with count := none }))).restartRing
    else if r = 0 ∧ s.aud.jump then
      ({ s with aud := { s.aud with jump := false, cur := s.rd R.AUD.DELAY_SAMPLES } } : State).incRaise
        R.AUD.CNT_DELAY_JUMP R.AUD.ev_DELAY_JUMP
    else s
  s.wrB R.AUD.MUTED (r == 0)

/-- The words of a list of output channels under the ramp of all outputs. -/
def State.rampAll (s : State) : List Nat → List Nat × State
  | [] => ([], s)
  | x :: xs =>
    let (v, s) := s.underRamp s.aud.ramp s.audioRamp x
    let (vs, s) := s.rampAll xs
    (v :: vs, s)

/-- The outputs leave: every channel's word, and channels 8 to 23 as the slots of the TDM frame (R394, R396, R403). -/
def State.audioEmit (s : State) (frame : List Nat) : State :=
  let (vs, s) := s.rampAll frame
  let s := s.each ((List.range 24).zip vs) (fun s x => s.emit (.audio x.1 x.2))
  s.emit (.tdm (s.lvB R.AUD.WS_INV) (s.lvB R.AUD.WS_DELAY) ((vs.drop 8).map (fun v => 256 * (v % 2 ^ 24))))

/-- The channel status of the AES3 outputs at the start of a block: table 1 with CRCC computed (R394). -/
def State.audioBlock (s : State) : State :=
  s.each (List.range 4) (fun s o =>
    let bs := (List.range 23).map (fun i => BitVec.ofNat 8 (s.immByte 0x0F0 1 (24 * o + i)))
    s.emit (.audioStatus o (bs ++ [Config.aesCrcc bs])))

/-- What the sample frames that came in one second of the output clock, `rate` of its own, say about a rate within ±1 ppm of it (R400):
    two or more too few or too many are more than 1 ppm for sure; the exact number or one beside it is what an input within 1 ppm
    brings, and an input a few ppm off may bring it too, so there the measurement itself decides. -/
def ratePossible (rate count : Nat) : Bool := decide (rate ≤ count + 1 ∧ count ≤ rate + 1)

/-- The lock of an input against the output clock over the second that ends; where the count of whole frames leaves it open, a free
    value (R400, log 209). The next second begins. -/
def State.audioJudge (s : State) (c : Nat) : State :=
  let a := s.audSrc c
  if !a.here || a.lost then s
  else
    let (b, s) := if a.count.any (ratePossible s.audioRate) then s.freshB else (a.count.isNone && a.locked, s)
    s.modAud c (fun x => { x with locked := b, count := some 0 })

/-- The lock of the inputs 0 to 2, once a second (R400). -/
def State.audioLock (s : State) : State := (s.each [0, 1, 2] State.audioJudge).showAudio

/-- AUDIO_OUTPUT_FRAME: ramps advance, the sources are routed into the delay line, the read position slews, the line is read and the
    outputs leave (R396 to R402). -/
def audioOutputFx (s : State) : State :=
  let s := s.cond (s.aud.wr % s.audioRate == 0) (fun s => s.audioLock)
  let s := s.audioTake.audioRampStep
  let (frame, s) := s.routeAll (List.range 24)
  let s := s.dramStore (s.ringAt s.aud.wr) (frame.flatMap (leBytes 4))
  let s := s.audioSlew
  let n := max 1 s.ringFrames
  let (out, s) := s.ringRead (s.ringAt (s.aud.wr + n - s.aud.cur % n))
  let s := s.cond (s.aud.wr % 192 == 0) (fun s => s.audioBlock)
  let s := s.audioEmit out
  { s with aud := { s.aud with wr := s.aud.wr + 1 } }

/-- AUDIO_OUTPUT_FRAME (R399). -/
def execAudioOutputFrame (s : State) : Host.Outcome State Fault Refusal := .next (s.start.cond s.audioOn audioOutputFx)

/-! The delay at a tick (R398, R399, R402). -/

/-- M: the mean of the kept ages in 2^-16 ns. -/
def meanAge (ages : List Nat) : Nat := ages.foldl (· + ·) 0 / max 1 ages.length

/-- S_f: the start of the first slot of the aligned feed; a feed without a slot has none, and then the value is open (R398). -/
def State.audioSlot (s : State) : Nat × State :=
  match (List.range (slotsOf s.lv)).find? (fun k => feedOfSlot s.lv k == some (s.lv R.AUD.FEED)) with
  | some k => (slotTime s.lv k, s)
  | none => s.fresh

/-- The delay D in 2^-16 ns, from M and S_f (R398). -/
def State.audioDelay (s : State) (m sf : Nat) : Int :=
  (m + s.period + sf + s.lv R.AUD.LIGHT_LEAD * 10 * ns1 : Nat) + s.lvI R.AUD.OFFSET * us1

/-- The reference layer's latch at this tick joins the ages of which M is the mean; a change of REF_LAYER restarts them, and while none
    is there M keeps its last value (R398, R402). -/
def State.audioMean (s : State) (old : State) : State :=
  let kept := if s.lv R.AUD.REF_LAYER = old.lv R.AUD.REF_LAYER then s.aud.ages else []
  let ages := ((s.layer (s.lv R.AUD.REF_LAYER)).age.toList ++ kept).take 64
  let m := if ages.isEmpty then s.aud.mean else meanAge ages
  ({ s with aud := { s.aud with ages := ages, mean := m } } : State).wr R.AUD.M_US (m / us1)

/-- D, DELAY_SAMPLES and the clamp of D to 0 to 2 s (R398). -/
def State.audioTarget (s : State) : State :=
  let (sf, s) := s.audioSlot
  let d := s.audioDelay s.aud.mean sf
  let lim : Int := (2 * sec1 : Nat)
  (s.level R.AUD.ev_DELAY_CLAMP (decide (d < 0 ∨ lim < d))).wr R.AUD.DELAY_SAMPLES
    (roundDiv ((clampInt d 0 lim).toNat * s.audioRate) sec1)

/-- At every tick, after its commit and its latches: M, D and DELAY_SAMPLES, enabled or not. While the block is enabled, a change of more
    than 48 samples is a jump; the start of the block and a change of RATE_96 restart the ring (R398, R399, R402). -/
def State.audioTick (s : State) (old : State) : State :=
  let s := (s.audioMean old).audioTarget
  let n := s.rd R.AUD.DELAY_SAMPLES
  let s :=
    if !s.audioOn then { s with aud := { s.aud with ramp := 0, jump := false, restart := false } }
    else if !old.lvB R.AUD.EN || s.lv R.AUD.RATE_96 != old.lv R.AUD.RATE_96 then { s with aud := { s.aud with restart := true } }
    else s.cond (decide (n + 48 < s.aud.cur ∨ s.aud.cur + 48 < n)) audioResyncFx
  s.showAudio

/-- Commit checks of the AUD page (R396, R397). -/
def State.checkAudio (s : State) (g : Cfg) : List CfgErr :=
  let need := if g R.AUD.RATE_96 = 1 then 4523 else 2262
  errAt (g R.AUD.EN == 1 && decide (g R.AUD.DL_SIZE < need)) ceRANGE R.AUD.DL_SIZE ++
  errAt (g R.AUD.DL_BASE % 4096 != 0) ceRANGE R.AUD.DL_BASE ++
  errAt (g R.AUD.ASRC_EN == 1 && decide (19 ≤ g R.AUD.ASRC_SRC)) ceRESERVED_VALUE R.AUD.ASRC_SRC ++
  errPage ((List.range 24).any (fun i =>
    let w := s.pendW 0x0F0 0 i
    w.getLsbD 15 && decide (audioChannels g (fieldOf w 0 5) ≤ fieldOf w 5 5))) ceRANGE 0x0F0

end Sys2Proof.Machine
end

