-- ==== Sys2Proof/Machine/Crypto.lean ====
section
/-!
DEFINITION. The check of an image's keys and signatures: SHA-384 and ECDSA over P-384, with big-endian byte strings (16 R411, R412). The two
algorithms are those of FIPS 180-4, FIPS 186-5 and SEC 1, which R411 names (PRESUMED, log 206).
-/

namespace Sys2Proof.Machine

/-! SHA-384. -/

/-- The largest number of at most `n` bits whose `k`-th power is not above `x`. -/
def rootBits (k x : Nat) : Nat → Nat → Nat
  | 0, r => r
  | n + 1, r => rootBits k x n (if (r + 2 ^ n) ^ k ≤ x then r + 2 ^ n else r)

/-- The first 64 bits of the fractional part of the `k`-th root of `p`. -/
def rootFrac (k p : Nat) : Nat := rootBits k (p * 2 ^ (64 * k)) 70 0 % 2 ^ 64

/-- The first 80 primes. -/
def primes80 : List Nat := (List.range 410).filter (fun n => decide (2 ≤ n) && (List.range 21).all (fun d => decide (d < 2) || n % d != 0 || n == d))

/-- The 80 round constants. -/
def shaK : List Nat := primes80.map (rootFrac 3)

/-- Rotation and sums of 64-bit words. -/
def rotr64 (x n : Nat) : Nat := x / 2 ^ n + x % 2 ^ n * 2 ^ (64 - n)
def shaBig0 (x : Nat) : Nat := rotr64 x 28 ^^^ rotr64 x 34 ^^^ rotr64 x 39
def shaBig1 (x : Nat) : Nat := rotr64 x 14 ^^^ rotr64 x 18 ^^^ rotr64 x 41
def shaSmall0 (x : Nat) : Nat := rotr64 x 1 ^^^ rotr64 x 8 ^^^ x / 2 ^ 7
def shaSmall1 (x : Nat) : Nat := rotr64 x 19 ^^^ rotr64 x 61 ^^^ x / 2 ^ 6

/-- The eight working words. -/
structure Sha where
  a : Nat
  b : Nat
  c : Nat
  d : Nat
  e : Nat
  f : Nat
  g : Nat
  h : Nat
deriving DecidableEq, Repr

/-- The initial hash value of SHA-384. -/
def shaInit : Sha :=
  let v (i : Nat) : Nat := rootFrac 2 (primes80.getD (8 + i) 0)
  ⟨v 0, v 1, v 2, v 3, v 4, v 5, v 6, v 7⟩

/-- The message schedule, newest word first, with `n` more words. -/
def shaExtend : Nat → List Nat → List Nat
  | 0, w => w
  | n + 1, w =>
    shaExtend n ((shaSmall1 (w.getD 1 0) + w.getD 6 0 + shaSmall0 (w.getD 14 0) + w.getD 15 0) % 2 ^ 64 :: w)

/-- A round with its constant and its word of the schedule. -/
def shaRound (s : Sha) (kw : Nat × Nat) : Sha :=
  let ch := (s.e &&& s.f) ^^^ ((2 ^ 64 - 1 - s.e) &&& s.g)
  let maj := (s.a &&& s.b) ^^^ (s.a &&& s.c) ^^^ (s.b &&& s.c)
  let t1 := s.h + shaBig1 s.e + ch + kw.1 + kw.2
  ⟨(t1 + shaBig0 s.a + maj) % 2 ^ 64, s.a, s.b, s.c, (s.d + t1) % 2 ^ 64, s.e, s.f, s.g⟩

/-- A block of 128 bytes enters the hash. -/
def shaBlock (s : Sha) (block : List Byte) : Sha :=
  let w := ((List.range 16).map (fun i => beNat ((block.drop (8 * i)).take 8))).reverse
  let t := (shaK.zip (shaExtend 64 w).reverse).foldl shaRound s
  let add (x y : Nat) : Nat := (x + y) % 2 ^ 64
  ⟨add s.a t.a, add s.b t.b, add s.c t.c, add s.d t.d, add s.e t.e, add s.f t.f, add s.g t.g, add s.h t.h⟩

/-- The blocks of a padded message. -/
def shaBlocks : Nat → List Byte → List (List Byte)
  | 0, _ => []
  | n + 1, bs => bs.take 128 :: shaBlocks n (bs.drop 128)

/-- SHA-384 of bytes, as a number of 384 bits. -/
def sha384 (bs : List Byte) : Nat :=
  let n := (bs.length + 17 + 127) / 128
  let padded := bs ++ [0x80] ++ List.replicate (128 * n - 17 - bs.length) 0 ++ (leBytes 16 (8 * bs.length)).reverse
  let s := (shaBlocks n padded).foldl shaBlock shaInit
  [s.a, s.b, s.c, s.d, s.e, s.f].foldl (fun x w => 2 ^ 64 * x + w) 0

/-! ECDSA over P-384. -/

/-- The field, the order of the base point, the coefficient b and the base point; a is -3. -/
def p384P : Nat := 2 ^ 384 - 2 ^ 128 - 2 ^ 96 + 2 ^ 32 - 1
def p384N : Nat := 0xFFFFFFFFFFFFFFFFFFFFFFFFFFFFFFFFFFFFFFFFFFFFFFFFC7634D81F4372DDF581A0DB248B0A77AECEC196ACCC52973
def p384B : Nat := 0xB3312FA7E23EE7E4988E056BE3F82D19181D9C6EFE8141120314088F5013875AC656398D8A2ED19D2A85C8EDD3EC2AEF
def p384G : Nat × Nat :=
  (0xAA87CA22BE8B05378EB1C71EF320AD746E1D3B628BA79B9859F741E082542A385502F25DBF55296C3A545E3872760AB7,
   0x3617DE4A96262C6F5D9E98BF9292DC29F8F41DBD289A147CE9DA3113B5F0B8C00A60B1CE1D7E819D7A431D7C90EA0E5F)

/-- A power modulo m, of an exponent of at most `n` bits. -/
def powMod (m : Nat) : Nat → Nat → Nat → Nat
  | 0, _, _ => 1
  | n + 1, b, e => (if e % 2 = 1 then b else 1) * powMod m n (b * b % m) (e / 2) % m

/-- The inverse modulo a prime of 384 bits. -/
def invMod (m a : Nat) : Nat := powMod m 384 (a % m) (m - 2)

/-- A difference in the field. -/
def subP (a b : Nat) : Nat := (a + (p384P - b % p384P)) % p384P

/-- The point of a line through two points with a slope. -/
def onLine (l : Nat) (a b : Nat × Nat) : Nat × Nat :=
  let x := subP (subP (l * l % p384P) a.1) b.1
  (x, subP (l * subP a.1 x % p384P) a.2)

/-- The sum of two points; none is the point at infinity. -/
def pointAdd : Option (Nat × Nat) → Option (Nat × Nat) → Option (Nat × Nat)
  | none, q => q
  | p, none => p
  | some a, some b =>
    if a.1 ≠ b.1 then some (onLine (subP b.2 a.2 * invMod p384P (subP b.1 a.1) % p384P) a b)
    else if a.2 ≠ b.2 ∨ a.2 = 0 then none
    else some (onLine (subP (3 * a.1 * a.1) 3 * invMod p384P (2 * a.2) % p384P) a b)

/-- A multiple of a point, of a factor of at most `n` bits. -/
def pointMul : Nat → Nat → Option (Nat × Nat) → Option (Nat × Nat)
  | 0, _, _ => none
  | n + 1, k, q =>
    let r := pointMul n (k / 2) (pointAdd q q)
    if k % 2 = 1 then pointAdd q r else r

/-- A point of the curve. -/
def onCurve (q : Nat × Nat) : Bool :=
  decide (q.1 < p384P ∧ q.2 < p384P) && q.2 * q.2 % p384P == (subP (q.1 * q.1 * q.1) (3 * q.1) + p384B) % p384P

/-- A key of 96 bytes, x then y, verifies a signature of 96 bytes, r then s, over a message with SHA-384 (R411). -/
def ecdsaOk (key msg sig : List Byte) : Bool :=
  let q := (beNat (key.take 48), beNat ((key.drop 48).take 48))
  let r := beNat (sig.take 48)
  let s := beNat ((sig.drop 48).take 48)
  if !(onCurve q && decide (0 < r ∧ r < p384N ∧ 0 < s ∧ s < p384N)) then false
  else
    let w := invMod p384N s
    match pointAdd (pointMul 384 (sha384 msg * w % p384N) (some p384G)) (pointMul 384 (r * w % p384N) (some q)) with
    | none => false
    | some x => x.1 % p384N == r

end Sys2Proof.Machine
end

