-- ==== Sys2Proof/Machine/Events.lean ====
section
/-!
DEFINITION. Event registers, the tile-event queue, MSI-X messages and the TUN page (03 R66, R73 to R81).
-/

namespace Sys2Proof.Machine

/-! Event registers (03 R73). -/

/-- The event bits that a page implements: QUAD_SKEW on SDI0 only, none on SDI4 (06 R159); OOR and UE_RATE on DRM0 only (14 R393). -/
def evtMaskOf (page : Nat) : Nat :=
  match blkOf page with
  | none => 0
  | some (.sdi, n) => if n = 0 then Blk.evtMask .sdi else if n < 4 then Blk.evtMask .sdi &&& 0xB else 0
  | some (.drm, n) => if n = 0 then Blk.evtMask .drm else Blk.evtMask .drm &&& 0x6F
  | some (b, _) => b.evtMask

/-- The set bits of a number below 32, lowest first. -/
def bitsOf (v : Nat) : List Nat := (List.range 32).filter (fun i => v.testBit i)

/-- A page signals to the vector: it is mapped to it, and an event of it is pending and enabled (03 R74). -/
def State.signals (s : State) (vec page : Nat) : Bool :=
  s.vector page == vec && (s.word (evtPendKey page) &&& s.word (evtEnKey page)) != 0

/-- The pending bit of a masked vector clears, with the message that it stood for, once no page signals to the vector any more: the events
    behind it are satisfied (03 R74 with the PCI Express base specification; log 153). -/
def State.clearPba (s : State) : State :=
  let gone := s.evt.pba.filter (fun v => !(List.range 0x120).any (s.signals v))
  { s with evt := { s.evt with pba := s.evt.pba.filter (fun v => !gone.contains v), due := s.evt.due.filter (fun v => !gone.contains v) } }

/-- A W1C write to EVT_PEND: written ones clear; a level whose condition holds stays clear until it falls and rises (03 R73). A pending
    bit that a tile has reported may be reported again once it is set anew (03 R76). -/
def evtPendClearFx (page : Nat) (v : Word32) (s : State) : State :=
  let s := s.setWord (evtPendKey page) (s.word (evtPendKey page) &&& ~~~v)
  ({ s with evt := { s.evt with sent := smMod (fun _ => 0) s.evt.sent page (fun m => m &&& (2 ^ 32 - 1 - v.toNat)) } } : State).clearPba

/-- A write to EVT_FORCE: each written one makes its event pending (03 R73). -/
def evtForceFx (page : Nat) (v : Word32) (s : State) : State :=
  s.each (bitsOf (v.toNat &&& evtMaskOf page)) (fun s i => s.setPendBit page i)

/-- A write to EVT_EN: an enable newly set while its bit is pending counts as a new occurrence for delivery (03 R73). -/
def evtEnWriteFx (page : Nat) (v : Word32) (s : State) : State :=
  let old := s.word (evtEnKey page)
  let new := v &&& BitVec.ofNat 32 (evtMaskOf page)
  let s := s.setWord (evtEnKey page) new
  s.each (bitsOf ((new &&& ~~~old) &&& s.word (evtPendKey page)).toNat) (fun s i => s.deliver page i)

/-- A write to a counter: 0 clears it, anything else is ignored (03 R66). -/
def counterClearFx (addr : Nat) (v : Word32) (s : State) : State :=
  match blkOf (addr / 0x1000) with
  | none => s
  | some (b, _) =>
    match rowAt (addr % 0x1000) b.rows with
    | none => s
    | some r => if r.cls = .cnt ∧ v = 0 then s.setWord addr 0 else s

/-- EVT_PEND_CLEAR (03 R73). -/
def execEvtPendClear (page : Nat) (v : Word32) (s : State) : Host.Outcome State Fault Refusal :=
  .next (s.start.cond (s.pageOn page) (evtPendClearFx page v))

/-- EVT_FORCE (03 R73). -/
def execEvtForce (page : Nat) (v : Word32) (s : State) : Host.Outcome State Fault Refusal :=
  .next (s.start.cond (s.pageOn page) (evtForceFx page v))

/-- EVT_EN_WRITE (03 R73). -/
def execEvtEnWrite (page : Nat) (v : Word32) (s : State) : Host.Outcome State Fault Refusal :=
  .next (s.start.cond (s.pageOn page) (evtEnWriteFx page v))

/-- COUNTER_CLEAR (03 R66). -/
def execCounterClear (addr : Nat) (v : Word32) (s : State) : Host.Outcome State Fault Refusal :=
  .next (s.start.cond (s.pageOn (addr / 0x1000)) (counterClearFx addr v))

/-- A vector's message leaves: one message for each newly set bit, or with HOLDOFF one for all that have become due since its last; the
    one message of a pending bit stands for all that its vector owes (03 R74, R78; log 153). -/
def msixSend (vec : Nat) (s : State) : State :=
  let due := if s.rd R.EVT.HOLDOFF = 0 ∧ !s.evt.pba.contains vec then delFirst (· == vec) s.evt.due else s.evt.due.filter (· != vec)
  ({ s with evt := { s.evt with due := due, pba := s.evt.pba.filter (· != vec),
                                last := (vec, s.time) :: s.evt.last.filter (fun p => p.1 != vec) } } : State).emit (.msix vec)

/-- MSIX_MESSAGE: a vector with messages due sends one, at least HOLDOFF µs (at most 1,000) after its last. While the host masks the
    vector, its pending bit is set and the message stays due (03 R74, R78; log 153). -/
def execMsixMessage (v : MsixVec) (t : Nat) (s : State) : Host.Outcome State Fault Refusal :=
  let s := s.atTime t
  let gap := min (s.rd R.EVT.HOLDOFF) 1000 * us1
  let free : Bool :=
    match s.evt.last.find? (fun p => p.1 == v.vec) with
    | none => true
    | some p => decide (p.2 + gap ≤ s.time)
  .next (s.cond (s.isSender && s.evt.due.contains v.vec) (fun s =>
    if v.masked then { s with evt := { s.evt with pba := v.vec :: s.evt.pba.filter (· != v.vec) } }
    else s.cond free (msixSend v.vec)))

/-! The tile-event queue (03 R77, R78). -/

/-- Entries the tile-event queue holds (03 R77). -/
def tqSize : Nat := 256

/-- The level events of the tile-event queue follow its level (03 R78). -/
def State.tqLevels (s : State) : State :=
  (s.level R.EVT.ev_TQ_NONEMPTY (!s.evt.tq.isEmpty)).level R.EVT.ev_TQ_HIGH (decide (192 ≤ s.evt.tq.length))

/-- One entry of an EVENT joins the queue, or is lost to a full one; the port's TILE_EVENT is raised (03 R77). -/
def State.tqPush (s : State) (e : TqEntry) : State :=
  let s :=
    if s.evt.tq.length < tqSize then { s with evt := { s.evt with tq := s.evt.tq ++ [e] } }
    else (s.inc R.EVT.CNT_TQ_DROP).raise R.EVT.ev_TQ_OVF
  (s.tqLevels).raise (R.COIL.ev_TILE_EVENT e.port)

/-- Remove the head entry; no effect when empty (03 R78). -/
def tqPopFx (s : State) : State := ({ s with evt := { s.evt with tq := s.evt.tq.drop 1 } } : State).tqLevels

/-- Empty the tile-event queue (03 R78). -/
def tqFlushFx (s : State) : State := ({ s with evt := { s.evt with tq := [] } } : State).tqLevels

/-- TQ_POP (03 R78). -/
def execTqPop (s : State) : Host.Outcome State Fault Refusal := .next (s.start.cond (s.pageOn 0x001) tqPopFx)

/-- TQ_FLUSH (03 R78). -/
def execTqFlush (s : State) : Host.Outcome State Fault Refusal := .next (s.start.cond (s.pageOn 0x001) tqFlushFx)

/-! The TUN page (03 R79 to R81). -/

/-- Response status codes (03 R81). -/
def rsOK : Nat := 0
def rsTIMEOUT : Nat := 1
def rsNO_ROUTE : Nat := 2
def rsBAD_RANGE : Nat := 3
def rsABSENT_PAGE : Nat := 4
def rsCOIL_FULL : Nat := 5
def rsSELF : Nat := 7

/-- The coil port of a sender whose applied range holds a node ID (03 R79). -/
def State.routePort (s : State) (node : Nat) : Option Nat :=
  s.ports.find? (fun p => decide (s.lv (R.COIL.ROUTE_LO p) ≤ node ∧ node ≤ s.lv (R.COIL.ROUTE_HI p)))

/-- A tag is owned from its launch or queued refusal until its response is popped (03, tunnelled access). -/
def State.tagOwned (s : State) (tag : Nat) : Bool :=
  s.tun.out.any (fun r => r.tag == tag) || s.tun.rsp.any (fun r => r.tag == tag)

/-- The level event of the response queue follows it (03 R81). -/
def State.rspLevels (s : State) : State := s.level R.TUN.ev_RSP_READY (!s.tun.rsp.isEmpty)

/-- Queue a response (03 R79). -/
def State.queueRsp (s : State) (r : TunRsp) : State :=
  ({ s with tun := { s.tun with rsp := s.tun.rsp ++ [r] } } : State).rspLevels

/-- A write of REQ_CTRL launches the request of REQ_NODE, REQ_ADDR and REQ_DATA, or refuses it (03 R79). The order among the
    refusals is the model's (log 11). A port that is not UP sends nothing, and the request times out (10 R250). -/
def tunLaunchFx (v : Word32) (s : State) : State :=
  let tag := fieldOf v 0 6
  let write := v.getLsbD 6
  let len := fieldOf v 8 6
  let buf := fieldOf v 16 4
  let node := s.rd R.TUN.REQ_NODE
  let off := s.rd R.TUN.REQ_OFFSET
  let s := s.wr R.TUN.TAG_REFUSED 0
  let refuse (st : Nat) : State := s.queueRsp { tag := tag, status := st, word := 0, buf := none }
  if s.tagOwned tag then (s.wr R.TUN.TAG_REFUSED 1).raise R.TUN.ev_TAG_BUSY
  else if node = s.lv R.GLB.NODE_ID then refuse rsSELF
  else
    match s.routePort node with
    | none => refuse rsNO_ROUTE
    | some port =>
      if 16 ≤ (s.tun.out.filter (fun r => r.port == port)).length then refuse rsCOIL_FULL
      else if 0x1000 < off + 4 * (len + 1) then refuse rsBAD_RANGE
      else
        let data :=
          if !write then []
          else if len = 0 then [s.word R.TUN.REQ_DATA.key]
          else (List.range (len + 1)).map (fun i => s.immW 0x009 0 (64 * buf + i))
        let s : State := { s with tun := { s.tun with out := s.tun.out ++
          [{ tag := tag, node := node, port := port, write := write, len := len, buf := buf, time := s.time }] } }
        s.cond (s.canSend port) (fun s => s.send none (.mgmtReq port node
          { src := s.lv R.GLB.NODE_ID, tag := tag, write := write, len := len, offset := off, page := s.rd R.TUN.REQ_PAGE, data := data }))

/-- TUN_LAUNCH (03 R79). -/
def execTunLaunch (v : Word32) (t : Nat) (s : State) : Host.Outcome State Fault Refusal :=
  .next ((s.atTime t).cond (s.pageOn 0x009) (tunLaunchFx v))

/-- A request without a response for 1 ms ends with TIMEOUT; its buffer is free, its tag when the response is popped (03 R80). -/
def tunTimeoutFx (tag : Nat) (s : State) : State :=
  match s.tun.out.find? (fun r => r.tag == tag) with
  | none => s
  | some r =>
    let s : State := { s with tun := { s.tun with out := delFirst (fun q => q.tag == tag) s.tun.out } }
    ((s.queueRsp { tag := r.tag, status := rsTIMEOUT, word := 0, buf := none }).inc R.TUN.CNT_TIMEOUT).raise R.TUN.ev_TIMEOUT

/-- TUN_TIMEOUT (03 R80). -/
def execTunTimeout (tag : Nat) (s : State) : Host.Outcome State Fault Refusal :=
  .next (s.start.cond s.isSender (tunTimeoutFx tag))

/-- Store read data in a data buffer of TUN table 0 (03 R79). -/
def State.storeBuf (s : State) (buf : Nat) (data : List Word32) : State :=
  { s with imm := smSetMany tabDefault s.imm (tabKey 0x009 0 (64 * buf)) (data.take 64) }

/-- A response answers a request: its tag, the port on which it arrives and the node that built it are those of the request (10 R252). -/
def rspAnswers (rx : RspFrom) (tag : Nat) (r : TunReq) : Bool := r.tag == tag && r.port == rx.port && r.node == rx.src

/-- A MGMT_RSP reaches the sender: it is queued with its data, or, when its request is gone, discarded and counted (03 R80). Nothing in a
    response tells two requests of one tag to one node apart: a late one whose tag has been launched again to that node answers the new
    request (DESIGN CHOICE, log 161). -/
def tunResponseFx (rx : RspFrom) (tag status : Nat) (data : List Word32) (s : State) : State :=
  match s.tun.out.find? (rspAnswers rx tag) with
  | none => s.inc R.TUN.CNT_LATE_RSP
  | some r =>
    let s : State := { s with tun := { s.tun with out := delFirst (rspAnswers rx tag) s.tun.out } }
    let s := s.cond (!r.write && r.len != 0 && status == rsOK) (fun s => s.storeBuf r.buf data)
    s.queueRsp { tag := tag, status := status, word := if r.write || r.len != 0 then 0 else data.headD 0,
                 buf := if r.len = 0 then none else some r.buf }

/-- TUN_RESPONSE (03 R80). -/
def execTunResponse (rx : RspFrom) (tag status : Nat) (data : List Word32) (s : State) : Host.Outcome State Fault Refusal :=
  .next (s.start.cond (s.isSender && s.hasPort rx.port && s.isUp rx.port) (tunResponseFx rx tag status data))

/-- Remove the head response; its tag is free (03 R81). -/
def rspPopFx (s : State) : State := ({ s with tun := { s.tun with rsp := s.tun.rsp.drop 1 } } : State).rspLevels

/-- Empty the response queue; every tag it held is free (03 R81). -/
def rspFlushFx (s : State) : State := ({ s with tun := { s.tun with rsp := [] } } : State).rspLevels

/-- RSP_POP (03 R81). -/
def execRspPop (s : State) : Host.Outcome State Fault Refusal := .next (s.start.cond (s.pageOn 0x009) rspPopFx)

/-- RSP_FLUSH (03 R81). -/
def execRspFlush (s : State) : Host.Outcome State Fault Refusal := .next (s.start.cond (s.pageOn 0x009) rspFlushFx)

end Sys2Proof.Machine
end

