-- ==== Sys2Proof/Machine/Nvs.lean ====
section
/-!
DEFINITION. The MRAM store: atomic block writes, the calibration set, the firmware record, cone saves and background work
(13 R349 to R360, R376; 11 R303).
-/

namespace Sys2Proof.Machine

/-! Blocks and tags (13 R349). -/

/-- What an unlisted MRAM word reads as (log 16). -/
def mramDefault : Nat → Word32 := fun _ => 0

/-- The tag of a block that nothing has written: the factory's generation 1 (13 R352). -/
def tagDefault : Nat → Nat := fun _ => 1

/-- Blocks of the calibration set. -/
def calBlocks : Nat := 2048

/-- The written tags of the calibration set. -/
def State.calTags (s : State) : List Nat := (s.mram.tags.filter (fun p => decide (p.1 < calBlocks))).map Prod.snd

/-- The highest tag of blocks 0 to 2,047 (13 R352). -/
def State.topTag (s : State) : Nat := s.calTags.foldl max (if s.calTags.length = calBlocks then 0 else 1)

/-- The blocks of the set that carry a tag. -/
def State.tagCount (s : State) (g : Nat) : Nat :=
  (s.calTags.filter (· == g)).length + (if g = 1 then calBlocks - s.calTags.length else 0)

/-- MIXED, FACTORY, NEW_COUNT, POOL_FREE, SPARE_LOW and SPARE_EXHAUSTED follow the MRAM (13 R353, R359). NEW_COUNT counts the blocks that
    carry SET_GEN (R376; log 17). -/
def State.showNvs (s : State) : State :=
  let mixed := s.tagCount s.topTag != calBlocks
  let s := (s.wrB R.NVS.st_MIXED mixed).level R.NVS.ev_MIXED mixed
  let s := (s.wrB R.NVS.FACTORY s.calTags.isEmpty).wr R.NVS.NEW_COUNT (s.tagCount (s.rd R.NVS.SET_GEN))
  ((s.wr R.NVS.POOL_FREE s.mram.pool).wrB R.NVS.SPARE_LOW (decide (s.mram.pool < 16))).level R.NVS.ev_SPARE_EXHAUSTED
    (decide (s.mram.pool < 2))

/-- SET_GEN takes a value. -/
def State.setGen (s : State) (g : Nat) : State := (s.wr R.NVS.SET_GEN g).showNvs

/-! Operation results (13 R376). -/

def nsOK : Nat := 0
def nsTEMP_REFUSED : Nat := 1
def nsVERIFY_FAIL : Nat := 2
def nsNOT_OPEN : Nat := 3
def nsINCOMPLETE : Nat := 4
def nsNOT_ALLOWED : Nat := 5
def nsUNCORR : Nat := 6
def nsNO_SPARE : Nat := 7

/-- A host operation ends with a status (13 R376); a refusal by temperature is counted and raised (13 R351). -/
def State.opEnd (s : State) (st : Nat) : State :=
  let s := (s.wr R.NVS.OP_STATUS st).raise R.NVS.ev_OP_DONE
  s.cond (st == nsTEMP_REFUSED) (fun s => s.incRaise R.NVS.CNT_TEMP_REFUSED R.NVS.ev_TEMP_REFUSED)

/-- Why a write of the MRAM is refused now, if it is: the window, then the pool (13 R351, R359). -/
def State.writeBar (s : State) : Option Nat :=
  if !s.flag R.NVS.IN_WINDOW then some nsTEMP_REFUSED else if s.mram.pool < 2 then some nsNO_SPARE else none

/-- Why the foreground request may not begin, if so (13 R351, R352, R356, log 18). -/
def State.fgBar (s : State) : MramOp → Option Nat
  | .write b _ =>
    if b = 2049 ∨ 2303 < b then some nsNOT_ALLOWED
    else if b < calBlocks ∧ !s.flag R.NVS.SET_OPEN then some nsNOT_OPEN
    else s.writeBar
  | .read b _ => if 2816 ≤ b then some nsNOT_ALLOWED else none
  | .record _ => s.writeBar
  | .defaults => s.writeBar
  | .reload => none

/-- A foreground request was refused: a host operation ends with the status; an internal save of the record is repeated later
    (13 R366). -/
def State.fgRefuse (s : State) (op : MramOp) (st : Nat) : State :=
  match op with
  | .record false => { s with nvs := { s.nvs with trimDue := true } }
  | .defaults => { s with nvs := { s.nvs with defaultsDue := true } }
  | _ => s.opEnd st

/-- Pass over the requests at the head that are refused as they begin; the first other one runs. -/
def State.fgSettle : Nat → State → State
  | 0, s => s
  | n + 1, s =>
    match s.nvs.fg with
    | [] => s
    | op :: ops =>
      match s.fgBar op with
      | none => s
      | some st => State.fgSettle n (({ s with nvs := { s.nvs with fg := ops } } : State).fgRefuse op st)

/-- BUSY and the calibration's RELOADING follow the foreground requests; a reload that waits for a background unit does not run yet
    (13 R376, 11 R303). A reload that begins has copied nothing. -/
def State.fgShow (s : State) : State :=
  let run : Bool := s.nvs.fg.head? == some .reload && !s.nvs.bgRun
  let s := s.cond (run && !s.flag R.COR.RELOADING) (fun s => { s with cor := { s.cor with reloadAt := s.time, copied := 0 } })
  (s.wrB R.NVS.BUSY (s.nvs.fg.any (fun op => op != .reload))).wrB R.COR.RELOADING run

/-- The request at the head begins, unless a background unit runs: one whose write is barred is refused, one in progress completes
    whatever the temperature does (13 R351, R358, R375). -/
def State.fgNext (s : State) : State := (if s.nvs.bgRun then s else s.fgSettle s.nvs.fg.length).fgShow

/-- A foreground request joins the others; the first one begins (13 R358). -/
def State.fgPut (s : State) (op : MramOp) : State :=
  let idle := s.nvs.fg.isEmpty
  let s : State := { s with nvs := { s.nvs with fg := s.nvs.fg ++ [op] } }
  if idle then s.fgNext else s.fgShow

/-! Background work (13 R358 to R360). -/

/-- A background unit waits; it yields when a foreground request is there (13 R358). -/
def State.bgPut (s : State) (us : List BgUnit) : State :=
  let s : State := { s with nvs := { s.nvs with bg := s.nvs.bg ++ us } }
  s.cond (!s.nvs.fg.isEmpty) (fun s => s.inc R.NVS.CNT_YIELD)

/-- A unit writes the MRAM. -/
def bgWrites : BgUnit → Bool
  | .scrub c _ => c != 0
  | .wear _ => true
  | .cone _ => true
  | .passEnd => false

/-- The slot that follows the last complete record (13 R357). -/
def State.nextSlot (s : State) : Nat := if s.mram.ring = [] then 0 else (s.rd R.NVS.RING_HEAD + 1) % 56

/-- The scrubbed block's result: corrections and uncorrectable words are counted; a block corrected on two consecutive passes is
    retired by a wear move; after block 3,071 the pass ends (13 R359, R360). -/
def State.scrubbed (s : State) (corrected uncorr : Nat) : State :=
  let b := s.nvs.scrub
  let s := s.incBy R.NVS.CNT_CORRECTED corrected
  let s := s.cond (uncorr != 0) (fun s => (s.incBy R.NVS.CNT_UNCORR uncorr).raise R.NVS.ev_UNCORR)
  let wear := if corrected ≠ 0 ∧ b ∈ s.nvs.corrBefore then [BgUnit.wear b] else []
  let corr := if corrected = 0 then s.nvs.corr else b :: s.nvs.corr
  let last := decide (b = 3071)
  { s with nvs := { s.nvs with
      bg := s.nvs.bg ++ wear ++ (if last then [.passEnd] else []), scrub := if last then 0 else b + 1,
      corr := if last then [] else corr, corrBefore := if last then corr else s.nvs.corrBefore } }

/-- The first background unit starts when no foreground request is pending, none runs, and the window allows its writes (13 R351, R358);
    a scrub read and the end of a pass take place at once, a writing unit runs until MRAM_WRITE_DONE. -/
def bgStart (s : State) : State :=
  if !s.nvs.fg.isEmpty ∨ s.nvs.bgRun then s
  else
    match s.nvs.bg with
    | [] => s
    | u :: us =>
      if bgWrites u ∧ s.writeBar ≠ none then s
      else
        let rest : State := { s with nvs := { s.nvs with bg := us } }
        match u with
        | .scrub c uc => rest.scrubbed c uc
        | .passEnd =>
          ({ rest with nvs := { rest.nvs with passEnd := rest.time } } : State).level R.NVS.ev_SCRUB_LATE false
        | .wear _ => { s with nvs := { s.nvs with bgRun := true } }
        | .cone k =>
          if k = 0 then
            let slot := s.nextSlot
            { s with nvs := { s.nvs with bgRun := true, slot := slot },
                     mram := { s.mram with ring := s.mram.ring.filter (fun p => p.1 != slot) } }
          else { s with nvs := { s.nvs with bgRun := true } }

/-- BACKGROUND_UNIT_START (13 R358). -/
def execBackgroundUnitStart (t : Nat) (s : State) : Host.Outcome State Fault Refusal :=
  .next ((s.atTime t).cond s.running bgStart)

/-! Writing a block (13 R350). -/

/-- Put words into a block with a tag: the map word switches (13 R350). -/
def State.blockWritten (s : State) (b : Nat) (data : List Word32) (tag : Nat) : State :=
  ({ s with mram := { s.mram with mem := smSetMany mramDefault s.mram.mem (1024 * b) data,
                                  tags := smSet tagDefault s.mram.tags b tag } } : State).inc R.NVS.CNT_WRITES

/-- Each failed read-back is counted and retires its physical block (13 R350, R359, log 19). -/
def State.mismatched (s : State) (n : Nat) : State :=
  let n := min n 2
  if n = 0 then s
  else
    ((({ s with mram := { s.mram with pool := s.mram.pool - n } } : State).incBy R.NVS.CNT_VERIFY_FAIL n).incBy R.NVS.CNT_REMAP
      n).showNvs

/-- The words of a staging buffer (13 R376). -/
def State.staging (s : State) (buf : Nat) : List Word32 := (List.range 1024).map (fun i => s.immW 0x0D2 0 (1024 * buf + i))

/-- The telemetry of a save record: powered and lit seconds, highest board and die temperatures, quenches, light-phase runs, and the counts
    of lamp statuses, since the core's reset (13 R357, log 20). -/
def State.telemetry (s : State) : List Int :=
  [(s.time / sec1 : Nat), (s.thm.lit / sec1 : Nat), s.rdI R.THM.MAX_T_BOARD, s.rdI R.THM.MAX_T_DIE, (s.thm.quenches : Nat), (s.rd R.PHC.CNT_RUNS : Nat),
    (s.rd R.PRB.N_OPEN : Nat), (s.rd R.PRB.N_SHORT : Nat), (s.rd R.PRB.N_UNKNOWN : Nat)]

/-- The words of block `k` of a save record: 512 cone counters of two words each, or, in the last block, the telemetry, whose
    layout the spec does not state (13 R357, log 20). -/
def State.saveWords (s : State) (k : Nat) : List Word32 :=
  if k < 8 then
    (List.range 1024).map (fun i =>
      BitVec.ofNat 32 (smGet (fun _ => 0) s.thm.cone (512 * k + i / 2) / 2 ^ (32 * (i % 2))))
  else (List.range 1024).map (fun i => Config.telemetryWord s.telemetry i)

/-- A block of a save record is written; after the ninth the record is complete (13 R357, R360). -/
def State.coneWritten (s : State) (k : Nat) : State :=
  let gen := (s.mram.ring.map Prod.snd).foldl max 0 + 1
  let s := s.blockWritten (2304 + 9 * s.nvs.slot + k) (s.saveWords k) gen
  s.cond (k == 8) (fun s =>
    ((({ s with mram := { s.mram with ring := (s.nvs.slot, gen) :: s.mram.ring } } : State).wr R.NVS.RING_HEAD
      s.nvs.slot)).level R.NVS.ev_SAVE_LATE false)

/-- The running background unit ends; a save record that failed twice on a block stays incomplete (13 R350, R357). -/
def State.bgDone (s : State) (mismatches : Nat) : State :=
  match s.nvs.bg with
  | [] => s
  | u :: us =>
    let ok : Bool := decide (mismatches < 2)
    let s : State := { s with nvs := { s.nvs with bg := us, bgRun := false } }
    let s :=
      match u with
      | .cone k =>
        if ok then s.coneWritten k
        else { s with nvs := { s.nvs with bg := s.nvs.bg.dropWhile (fun u => match u with | .cone j => j != 0 | _ => false) } }
      | .wear _ =>
        s.cond ok (fun s =>
          (({ s with mram := { s.mram with pool := s.mram.pool - 1 } } : State).inc R.NVS.CNT_REMAP).inc R.NVS.CNT_WRITES)
      | _ => s
    ((s.showNvs).cond (!s.nvs.fg.isEmpty && !s.nvs.bg.isEmpty) (fun s => s.inc R.NVS.CNT_YIELD)).fgNext

/-- The firmware record in force now (13 R355). -/
def State.recordNow (s : State) : FwRecord :=
  { ver := s.rd R.FW.SETTINGS_VER, trim := s.phc.final, residual := s.phc.residual,
    thm := (List.range 12).map (fun i => s.word (regKey 0x0D0 (0x440 + 4 * i))) }

/-- The record of defaults: the reset values of THM and a trim of 0 (13 R355, 16 R427). -/
def State.recordDefaults (s : State) : FwRecord :=
  { ver := s.rd R.FW.SETTINGS_VER, trim := 0, residual := 0, thm := (List.range 12).map (fun i => resetWord (regKey 0x0D0 (0x440 + 4 * i))) }

/-- A firmware record is saved; the layout of its block is not stated (13 R355, log 20). -/
def State.recordSaved (s : State) (r : FwRecord) : State :=
  let s := s.blockWritten 2048 ((List.range 1024).map (fun i => Config.recordWord (r.ver, r.trim, r.residual, r.thm) i)) (smGet tagDefault s.mram.tags 2048)
  (({ s with mram := { s.mram with record := some r }, nvs := { s.nvs with trimDue := false } } : State).wr
    R.NVS.SETTINGS_VER r.ver).wr R.PHC.SAVED 1

/-- A record from its parts. -/
def recordFrom (p : Nat × Int × Int × List Word32) : FwRecord := { ver := p.1, trim := p.2.1, residual := p.2.2.1, thm := p.2.2.2 }

/-- The running foreground write ends: its content is in place, or after a second mismatch the old one stays with VERIFY_FAIL
    (13 R350). -/
def State.fgDone (s : State) (mismatches : Nat) : State :=
  let ok : Bool := decide (mismatches < 2)
  match s.nvs.fg with
  | .write b buf :: ops =>
    let s : State := { s with nvs := { s.nvs with fg := ops } }
    let s := s.cond ok (fun s =>
      let data := s.staging buf
      let s := s.blockWritten b data (if b < calBlocks then s.rd R.NVS.SET_GEN else smGet tagDefault s.mram.tags b)
      let s := s.cond (b == 2048) (fun s => { s with mram := { s.mram with record := (Config.recordOf data).map recordFrom } })
      s.showNvs)
    (s.opEnd (if ok then nsOK else nsVERIFY_FAIL)).fgNext
  | .record host :: ops =>
    let s : State := { s with nvs := { s.nvs with fg := ops } }
    let s := if ok then s.recordSaved s.recordNow else if host then s else { s with nvs := { s.nvs with trimDue := true } }
    (s.cond host (fun s => s.opEnd (if ok then nsOK else nsVERIFY_FAIL))).fgNext
  | .defaults :: ops =>
    let s : State := { s with nvs := { s.nvs with fg := ops, defaultsDue := !ok } }
    (s.cond ok (fun s => s.recordSaved s.recordDefaults)).fgNext
  | _ => s

/-- MRAM_WRITE_DONE: the block write in progress finishes (13 R350). -/
def execMramWriteDone (mismatches t : Nat) (s : State) : Host.Outcome State Fault Refusal :=
  .next ((s.atTime t).cond s.running (fun s =>
    if s.nvs.bgRun then (s.mismatched mismatches).bgDone mismatches
    else
      match s.nvs.fg with
      | .write _ _ :: _ => (s.mismatched mismatches).fgDone mismatches
      | .record _ :: _ => (s.mismatched mismatches).fgDone mismatches
      | .defaults :: _ => (s.mismatched mismatches).fgDone mismatches
      | _ => s))

/-! Commands of the host (13 R352, R355 to R357). -/

/-- SET_BEGIN: a new generation opens (13 R352). -/
def setBeginFx (s : State) : State := (s.wr R.NVS.SET_OPEN 1).setGen (s.topTag + 1)

/-- SET_BEGIN (13 R352). -/
def execSetBegin (s : State) : Host.Outcome State Fault Refusal := .next (s.start.cond (s.pageOn 0x0D2) setBeginFx)

/-- SET_END: the set closes when every block carries SET_GEN, else INCOMPLETE (13 R352). -/
def setEndFx (s : State) : State :=
  if s.tagCount (s.rd R.NVS.SET_GEN) = calBlocks then ((s.wr R.NVS.SET_OPEN 0).showNvs).opEnd nsOK else s.opEnd nsINCOMPLETE

/-- SET_END (13 R352). -/
def execSetEnd (s : State) : Host.Outcome State Fault Refusal := .next (s.start.cond (s.pageOn 0x0D2) setEndFx)

/-- WRITE_GO: a write of block BLOCK from buffer BUF is requested (13 R350, R376). -/
def nvsWriteGoFx (v : Word32) (s : State) : State := s.fgPut (.write (fieldOf v 8 12) (fieldOf v 20 1))

/-- NVS_WRITE_GO (13 R350). -/
def execNvsWriteGo (v : Word32) (s : State) : Host.Outcome State Fault Refusal :=
  .next (s.start.cond (s.pageOn 0x0D2) (nvsWriteGoFx v))

/-- READ_GO: a read of block BLOCK into buffer BUF is requested (13 R356). -/
def nvsReadGoFx (v : Word32) (s : State) : State := s.fgPut (.read (fieldOf v 8 12) (fieldOf v 20 1))

/-- NVS_READ_GO (13 R356). -/
def execNvsReadGo (v : Word32) (s : State) : Host.Outcome State Fault Refusal :=
  .next (s.start.cond (s.pageOn 0x0D2) (nvsReadGoFx v))

/-- SETTINGS_SAVE (13 R355). -/
def settingsSaveFx (s : State) : State := s.fgPut (.record true)

/-- SETTINGS_SAVE (13 R355). -/
def execSettingsSave (s : State) : Host.Outcome State Fault Refusal := .next (s.start.cond (s.pageOn 0x0D2) settingsSaveFx)

/-- The nine units of a save record (13 R357). -/
def coneUnits : List BgUnit := (List.range 9).map BgUnit.cone

/-- CONE_SAVE_NOW: a record is written at once (13 R357). -/
def coneSaveFx (s : State) : State := bgStart (s.bgPut coneUnits)

/-- CONE_SAVE_NOW (13 R357). -/
def execConeSaveNow (s : State) : Host.Outcome State Fault Refusal := .next (s.start.cond (s.pageOn 0x0D2) coneSaveFx)

/-- CONE_SAVE_TIMER (13 R357). -/
def execConeSaveTimer (t : Nat) (s : State) : Host.Outcome State Fault Refusal :=
  .next ((s.atTime t).cond s.running coneSaveFx)

/-- The word `j` of a 64-bit word list is replaced by open values where the read found an uncorrectable word. -/
def State.readWords (s : State) (b : Nat) (bad : List Nat) : List Word32 :=
  (List.range 1024).map (fun i =>
    if bad.contains (i / 2) then BitVec.ofNat 32 (Config.freeVal (s.free + i)) else smGet mramDefault s.mram.mem (1024 * b + i))

/-- MRAM_READ_DONE: the block is in the staging buffer; `bad` lists its uncorrectable 64-bit words, whose content is open (13 R349,
    R356, log 10). -/
def mramReadDoneFx (bad : List Nat) (s : State) : State :=
  match s.nvs.fg with
  | .read b buf :: ops =>
    let n := (bad.dedup.filter (fun j => decide (j < 512))).length
    let data := s.readWords b bad
    let s : State := { s with nvs := { s.nvs with fg := ops }, free := if n = 0 then s.free else s.free + 1024,
                              imm := smSetMany tabDefault s.imm (tabKey 0x0D2 0 (1024 * buf)) data }
    let s := s.cond (n != 0) (fun s => (s.incBy R.NVS.CNT_UNCORR n).raise R.NVS.ev_UNCORR)
    (s.opEnd (if n = 0 then nsOK else nsUNCORR)).fgNext
  | _ => s

/-- MRAM_READ_DONE (13 R356). -/
def execMramReadDone (bad : List Nat) (s : State) : Host.Outcome State Fault Refusal :=
  .next (s.start.cond (s.running && !s.nvs.bgRun) (mramReadDoneFx bad))

/-! Scrub and alarms (13 R359, R360). -/

/-- SCRUB_TIMER: a scrub unit is due; it starts at once if it may (13 R359). -/
def execScrubTimer (corrected uncorr t : Nat) (s : State) : Host.Outcome State Fault Refusal :=
  .next ((s.atTime t).cond s.running (fun s => bgStart (s.bgPut [.scrub corrected uncorr])))

/-- SCRUB_LATE_ALARM (13 R360). -/
def execScrubLateAlarm (s : State) : Host.Outcome State Fault Refusal :=
  .next (s.start.cond s.running (fun s => s.level R.NVS.ev_SCRUB_LATE true))

/-- SAVE_LATE_ALARM (13 R360). -/
def execSaveLateAlarm (s : State) : Host.Outcome State Fault Refusal :=
  .next (s.start.cond s.running (fun s => s.level R.NVS.ev_SAVE_LATE true))

/-! Calibration reload (11 R303, 13 R354). -/

/-- RELOAD: a reload starts, waits for a block write, or is queued once behind a running or waiting one (11 R303). -/
def calReloadFx (s : State) : State :=
  if (s.nvs.fg.filter (· == .reload)).length < 2 then s.fgPut .reload else s

/-- CAL_RELOAD (11 R303). -/
def execCalReload (s : State) : Host.Outcome State Fault Refusal := .next (s.start.cond (s.pageOn 0x0A2) calReloadFx)

/-- Records of the calibration set, and the time in which a reload copies a block of 512 of them (11 R303). -/
def calRecords : Nat := 1048576
def calPace : Nat := 48 * us1

/-- The records that a reload has copied by now: one block every 48 µs at a steady pace, record by record; the reading of the clock at which it
    began is that of the last timed command (11 R303; logs 4 and 21). -/
def State.calReached (s : State) : Nat :=
  if s.flag R.COR.RELOADING then min calRecords ((s.time - s.cor.reloadAt) * 512 / calPace) else s.cor.copied

/-- Records `a` to `b` − 1 of the set go into table 0, each whole (11 R303). -/
def State.calCopy (s : State) (a b : Nat) : State :=
  let base := tabKey 0x0A2 0 0
  let others := smKeep (fun k => decide (k < base + 2 * a ∨ base + 2 * b ≤ k)) s.imm
  let cal := (smKeep (fun i => decide (2 * a ≤ i ∧ i < 2 * b)) s.mram.mem).map (fun p => (base + p.1, p.2))
  { s with imm := smPutAll tabDefault others cal,
           cor := { s.cor with identity := s.cor.identity.filter (fun i => decide (i < a ∨ b ≤ i)), copied := b } }

/-- A reload in progress moves on to where it stands by now (11 R303). -/
def State.calSync (s : State) : State :=
  s.cond (decide (s.cor.copied < s.calReached)) (fun s => s.calCopy s.cor.copied s.calReached)

/-- The rest of the set is copied; a record with an uncorrectable word acts as identity, held as such beside the table (13 R354, 11
    R303). -/
def State.calCopied (s : State) (bad : List Nat) : State :=
  let s := s.calCopy s.cor.copied calRecords
  let base := tabKey 0x0A2 0 0
  { s with imm := smKeep (fun k => !(decide (base ≤ k ∧ k < base + 2 * calRecords) && bad.contains ((k - base) / 2))) s.imm,
           cor := { s.cor with identity := bad, latch := none } }

/-- CAL_RELOAD_DONE: table 0 holds the set; `bad` lists the records with an uncorrectable word, which act as identity from now on (11 R303,
    13 R354, log 21). -/
def calReloadDoneFx (bad : List Nat) (s : State) : State :=
  let bad := bad.dedup
  let s : State := { s with nvs := { s.nvs with fg := s.nvs.fg.drop 1 } }
  let s := s.calCopied bad
  let s := s.cond (!bad.isEmpty) (fun s => (s.incBy R.NVS.CNT_UNCORR bad.length).raise R.NVS.ev_UNCORR)
  ((((s.wr R.COR.CAL_VALID 1).inc R.COR.CNT_RELOAD).raise R.COR.ev_RELOAD_DONE).wr R.COR.RELOADING 0).fgNext

/-- CAL_RELOAD_DONE (11 R303). -/
def execCalReloadDone (bad : List Nat) (s : State) : Host.Outcome State Fault Refusal :=
  .next (s.start.cond (s.isTile && !s.nvs.bgRun && s.nvs.fg.head? == some .reload) (calReloadDoneFx bad))

/-! Start-up (13 R353, R355, R357, R427). -/

/-- The complete record with the highest generation. -/
def bestRecord : List (Nat × Nat) → Option (Nat × Nat)
  | [] => none
  | p :: ps =>
    match bestRecord ps with
    | none => some p
    | some q => if q.2 < p.2 then some p else some q

/-- The cone counters of the best record (13 R357). -/
def State.loadCones (s : State) : State :=
  match bestRecord s.mram.ring with
  | none => s
  | some (slot, _) =>
    let b := 1024 * (2304 + 9 * slot)
    let w (i : Nat) : Nat := (smGet mramDefault s.mram.mem (b + i)).toNat
    let s := s.wr R.NVS.RING_HEAD slot
    { s with thm := { s.thm with cone := smSetMany (fun _ => 0) [] 0 ((List.range 4096).map (fun z => w (2 * z) + 2 ^ 32 * w (2 * z + 1))) } }

/-- Settings at start-up: the record's THM values and trim, when it holds valid data of this version; else the reset values, and a record
    of another version is rewritten with them (13 R355, 16 R427). -/
def State.loadSettings (s : State) : State :=
  let s := (s.setGen s.topTag).loadCones
  let ver := s.rd R.FW.SETTINGS_VER
  match s.mram.record with
  | none => s.wr R.NVS.SETTINGS_DEFAULTED 1
  | some r =>
    let s := s.wr R.NVS.SETTINGS_VER r.ver
    if r.ver ≠ ver then (s.wr R.NVS.SETTINGS_DEFAULTED 1).fgPut .defaults
    else
      let s := s.each (List.range 12) (fun s i =>
        (s.setWord (regKey 0x0D0 (0x040 + 4 * i)) (r.thm.getD i 0)).setWord (regKey 0x0D0 (0x440 + 4 * i)) (r.thm.getD i 0))
      let s : State := { s with phc := { s.phc with trim := r.trim, final := r.trim, residual := r.residual } }
      (s.wrI R.PHC.TRIM r.trim).wrI R.PHC.RESIDUAL r.residual

end Sys2Proof.Machine
end

