-- ==== Sys2Proof/Machine/Mapping.lean ====
section
/-!
DEFINITION. Wall mapping: region descriptors, geometry, slices, transport codes, the staging surface and the launch plan with its checks
(09 R222 to R227, R239 to R242).
-/

namespace Sys2Proof.Machine

/-- The canvas size of a configuration (08 R200). -/
def canvasW (g : Cfg) : Nat := g R.CMP.CANVAS_W_M1 + 1
def canvasH (g : Cfg) : Nat := g R.CMP.CANVAS_H_M1 + 1

/-- The feeds that the sender composes (05 R120, 08 R203): none in MEASURE with the tile as pattern source. -/
def composedFeeds (g : Cfg) : Nat := if tileMeasure g then 0 else feedsOf g

/-- The sender composes: it has ticked and is not quenched (08 R202; 13 R374). -/
def State.composes (s : State) : Bool := s.isSender && s.frm.ticked && s.stateCode != stQUENCHED

/-! Descriptors (09 R222). -/

/-- A region descriptor; `cw` and `ch` are the size of its canvas rectangle. -/
structure Desc where
  no : Nat
  en : Bool
  hub : Bool
  rot : Nat
  mirror : Bool
  bypass : Bool
  rate : Nat
  sliceW : Nat
  port : Nat
  node : Nat
  childFirst : Nat
  childCount : Nat
  x : Nat
  y : Nat
  cw : Nat
  ch : Nat
deriving DecidableEq, Repr

/-- Descriptor d, from a reader of MAP table 0 (R222). -/
def descOf (rd : Nat → Word32) (d : Nat) : Desc :=
  let a := rd (8 * d)
  let b := rd (8 * d + 1)
  { no := d, en := a.toNat.testBit 0, hub := a.toNat.testBit 1, rot := fieldOf a 2 2, mirror := a.toNat.testBit 4,
    bypass := a.toNat.testBit 5, rate := fieldOf a 6 6, sliceW := 32 * (fieldOf a 12 4 + 1), port := fieldOf a 16 4,
    node := fieldOf b 0 14, childFirst := fieldOf b 16 8, childCount := fieldOf b 24 8,
    x := fieldOf (rd (8 * d + 2)) 0 14, y := fieldOf (rd (8 * d + 2)) 16 14,
    cw := fieldOf (rd (8 * d + 3)) 0 14 + 1, ch := fieldOf (rd (8 * d + 3)) 16 14 + 1 }

/-- The size of the region: the rectangle after rotation (R222). -/
def Desc.w (r : Desc) : Nat := if r.rot % 2 = 0 then r.cw else r.ch
def Desc.h (r : Desc) : Nat := if r.rot % 2 = 0 then r.ch else r.cw

/-- W32 and H16 (R224). -/
def Desc.w32 (r : Desc) : Nat := ceilDiv r.w 32 * 32
def Desc.h16 (r : Desc) : Nat := ceilDiv r.h 16 * 16

/-- The size of the encoded area (R224). -/
def Desc.areaW (r : Desc) : Nat := r.w32 + 64
def Desc.areaH (r : Desc) : Nat := r.h16 + 32

/-- Bands of the encoded area (R224). -/
def Desc.bands (r : Desc) : Nat := r.h16 / 16 + 2

/-- The region is held, not streaming (R227). -/
def Desc.held (r : Desc) : Bool := r.rot != 0

/-- The enabled descriptors of a table, lowest first. -/
def descsOf (rd : Nat → Word32) : List Desc := ((List.range 256).map (descOf rd)).filter Desc.en

/-- The applied descriptors. -/
def State.descs (s : State) : List Desc := descsOf (s.tabW 0x060 0)

/-- A hub child entry, in units of 32 pixels and 16 lines (R225). -/
structure Child where
  cx : Nat
  cy : Nat
  w : Nat
  h : Nat
deriving DecidableEq, Repr

/-- Entry i of MAP table 1 (R225). -/
def childOf (rd : Nat → Word32) (i : Nat) : Child :=
  ⟨fieldOf (rd (2 * i)) 0 10, fieldOf (rd (2 * i)) 16 10, fieldOf (rd (2 * i + 1)) 0 10, fieldOf (rd (2 * i + 1)) 16 11⟩

/-- The child entries of a descriptor (R225). -/
def Desc.children (rd : Nat → Word32) (r : Desc) : List Child :=
  if r.hub then (List.range r.childCount).map (fun i => childOf rd (r.childFirst + i)) else []

/-! Geometry (R223). -/

/-- Canvas column and line of a region pixel, before the clamp. -/
def Desc.canvasXY (r : Desc) (x y : Int) : Int × Int :=
  let x' : Int := if r.mirror then (r.w : Int) - 1 - x else x
  match r.rot with
  | 0 => (r.x + x', r.y + y)
  | 1 => (r.x + y, r.y + r.ch - 1 - x')
  | 2 => (r.x + r.cw - 1 - x', r.y + r.ch - 1 - y)
  | _ => (r.x + r.cw - 1 - y, r.y + x')

/-- The canvas pixel that a region pixel takes. -/
def Desc.canvasAt (g : Cfg) (r : Desc) (x y : Int) : Nat × Nat :=
  let c := r.canvasXY x y
  (clipNat c.1 (canvasW g - 1), clipNat c.2 (canvasH g - 1))

/-- The largest clamped canvas line of a band of a streaming region (R239). -/
def Desc.bandYMax (g : Cfg) (r : Desc) (by_ : Nat) : Nat := (r.canvasAt g 0 (16 * (by_ : Int) - 1)).2

/-- The largest clamped canvas line over the whole encoded area: at one of its corners (R239). -/
def Desc.areaYMax (g : Cfg) (r : Desc) : Nat :=
  let xs : List Int := [-32, (r.w32 : Int) + 31]
  let ys : List Int := [-16, (r.h16 : Int) + 15]
  ((xs.flatMap (fun x => ys.map (fun y => (r.canvasAt g x y).2))).foldl max 0)

/-- The canvas line that a band waits for (R239). -/
def Desc.waitsFor (g : Cfg) (r : Desc) (by_ : Nat) : Nat := if r.held then r.areaYMax g else r.bandYMax g by_

/-! Slices (R224). -/

/-- A slice starts at column 32 u: at a multiple of SLICE_W, or at a vertical boundary of a child entry. -/
def Desc.startsAt (r : Desc) (kids : List Child) (u : Nat) : Bool :=
  32 * u % r.sliceW == 0 || kids.any (fun c => u == c.cx || u == c.cx + c.w)

/-- Slices between starts, as first column and width in 32-pixel units, up to column `stop`. -/
def slicesBetween (stop : Nat) : List Nat → List (Nat × Nat)
  | [] => []
  | [u] => [(u, stop - u)]
  | u :: v :: us => (u, v - u) :: slicesBetween stop (v :: us)

/-- The slices of a band: SX and width in 32-pixel units, margin slices at both ends. -/
def Desc.slices (r : Desc) (kids : List Child) : List (Nat × Nat) :=
  let n := r.w32 / 32
  (0, 1) :: (slicesBetween n ((List.range n).filter (r.startsAt kids))).map (fun (c : Nat × Nat) => (c.1 + 1, c.2)) ++ [(n + 1, 1)]

/-! Transport codes (R226). -/

/-- The width of a transport code (R226, 05 R120). -/
def transportBits (g : Cfg) : Nat := if g R.SCH.MODE = moDEEP then 16 else 12

/-- FORMAT of a region's bands (R229). -/
def Desc.format (g : Cfg) (r : Desc) : Nat := (if r.bypass then 2 else 0) + (if transportBits g = 16 then 1 else 0)

/-- The threshold table of a transport. -/
def thrTab (B : Nat) : Nat := if B = 12 then 2 else 3

/-- The largest code q below lo + 2^bits with THR[q] ≤ L, for a table that does not decrease. -/
def codeSearch (thr : Nat → Nat) (l : Nat) : Nat → Nat → Nat
  | 0, lo => lo
  | bits + 1, lo => codeSearch thr l bits (if thr (lo + 2 ^ bits) ≤ l then lo + 2 ^ bits else lo)

/-- The transport code of an L20 sample (R226). -/
def State.transportCode (s : State) (B l : Nat) : Nat :=
  codeSearch (fun q => fieldOf (s.tabW 0x060 (thrTab B) q) 0 21) l B 0

/-- The transport codes of a pixel. -/
def State.transportPixel (s : State) (B : Nat) (p : Pixel) : Pixel :=
  ⟨s.transportCode B p.r, s.transportCode B p.g, s.transportCode B p.b⟩

/-! The staging surface (R227). -/

/-- Where a converted canvas pixel lies in the staging surface. -/
def State.stageAddr (s : State) (f x y : Nat) : Nat :=
  s.lv R.MAP.STAGE_BASE + 8 * ((f * canvasH s.lv + y) * canvasW s.lv + x)

/-- While a held region is applied, a line that leaves the compositor is converted into the staging surface. -/
def State.stageLine (s : State) (f y : Nat) (row : List Pixel) : State :=
  s.cond (s.descs.any Desc.held) (fun s =>
    s.dramStore (s.stageAddr f 0 y) (row.flatMap (fun p =>
      let q := s.transportPixel (transportBits s.lv) p
      leBytes 2 q.r ++ leBytes 2 q.g ++ leBytes 2 q.b ++ leBytes 2 0)))

/-- The staged codes of a canvas pixel. -/
def State.stagedPixel (s : State) (f x y : Nat) : Pixel :=
  let b := s.dramBytes (s.stageAddr f x y) 8
  ⟨leAt b 0 2, leAt b 2 2, leAt b 4 2⟩

/-! The launch plan (R239, R240, R241). Times are exact, in units of 2^-16 ns / (408 RATE V_TOTAL). -/

/-- A planned segment: its readiness and its bits. -/
structure PlanSeg where
  ready : Nat
  desc : Nat
  feed : Nat
  band : Nat
  sx : Nat
  port : Nat
  bits : Nat
deriving DecidableEq, Repr

/-- Units of plan time in 2^-16 ns. -/
def planUnit (g : Cfg) : Nat := 408 * numOf g * g (R.TG.V_TOTAL 0)

/-- D(y) + 10 µs (R239, 08 R202). -/
def planReady (g : Cfg) (y : Nat) : Nat := (y + g (R.TG.LAG 0) + 1) * denOf g * sec1 * 408 + 10 * us1 * planUnit g

/-- E_h: samples of the held regions, over all feeds, whose last line is the same or smaller (R239). -/
def heldSamples (g : Cfg) (ds : List Desc) (y : Nat) : Nat :=
  composedFeeds g * (((ds.filter (fun r => r.held && decide (r.areaYMax g ≤ y))).map (fun r => 3 * r.areaW * r.areaH)).foldl (· + ·) 0)

/-- When the segments of a band are ready (R239). -/
def Desc.ready (g : Cfg) (ds : List Desc) (r : Desc) (by_ : Nat) : Nat :=
  let y := r.waitsFor g by_
  planReady g y + (if r.held then heldSamples g ds y * ns1 * 51 * numOf g * g (R.TG.V_TOTAL 0) else 0)

/-- The largest data of a segment of this width: S / 8, or LEN in bypass (R231, R235). -/
def Desc.segBytes (g : Cfg) (r : Desc) (sw : Nat) : Nat :=
  if r.bypass then 32 * sw * 16 * 3 * transportBits g / 8 else r.rate * 32 * sw

/-- The largest LEN of a BAND packet, and its bytes before the first segment (10 R258, R229). -/
def bandMax : Nat := 49164
def bandFixed : Nat := 8

/-- The planned sizes of a band's segments: SX and bits, 32 more for the first one of each packet (R239). -/
def planSizes (size : Nat → Nat) : Nat → List (Nat × Nat) → List (Nat × Nat)
  | _, [] => []
  | fill, (sx, sw) :: rest =>
    let n := 4 + size sw
    if fill = 0 ∨ bandMax < fill + n then (sx, 64 + 8 * size sw) :: planSizes size (bandFixed + n) rest
    else (sx, 32 + 8 * size sw) :: planSizes size (fill + n) rest

/-- Every segment of a frame, unsorted (R239). -/
def planSegs (g : Cfg) (rd1 : Nat → Word32) (ds : List Desc) : List PlanSeg :=
  ds.flatMap (fun r =>
    let sizes := planSizes (r.segBytes g) 0 (r.slices (r.children rd1))
    (List.range (composedFeeds g)).flatMap (fun f =>
      (List.range r.bands).flatMap (fun b =>
        let t := r.ready g ds b
        sizes.map (fun (c : Nat × Nat) => (⟨t, r.no, f, b, c.1, r.port, c.2⟩ : PlanSeg)))))

/-- The order of the plan: t_r, then descriptor, feed, band and column (R240). -/
def planLe (a b : PlanSeg) : Bool :=
  if a.ready != b.ready then decide (a.ready < b.ready)
  else if a.desc != b.desc then decide (a.desc < b.desc)
  else if a.feed != b.feed then decide (a.feed < b.feed)
  else if a.band != b.band then decide (a.band < b.band)
  else decide (a.sx ≤ b.sx)

/-- A segment put into its place. -/
def planInsert (x : PlanSeg) : List PlanSeg → List PlanSeg
  | [] => [x]
  | y :: ys => if planLe x y then x :: y :: ys else y :: planInsert x ys

/-- The segments in the order of the plan. -/
def planSort : List PlanSeg → List PlanSeg
  | [] => []
  | x :: xs => planInsert x (planSort xs)

/-- A plan in progress: when each port is free, its bits, the peak backlog as port time. -/
structure Plan where
  free : List Nat := List.replicate 16 0
  bits : List Nat := List.replicate 16 0
  peak : Nat := 0
deriving DecidableEq, Repr

/-- One segment is launched at 51.0 Gb/s behind those before it; what is ready and not yet launched is the time that the ports still
    need (R240). -/
def planStep (g : Cfg) (p : Plan) (x : PlanSeg) : Plan :=
  let dur := x.bits * ns1 * 8 * numOf g * g (R.TG.V_TOTAL 0)
  let free := modNth p.free x.port (fun f => max f x.ready + dur)
  { free := free, bits := modNth p.bits x.port (· + x.bits), peak := max p.peak ((free.map (· - x.ready)).foldl (· + ·) 0) }

/-- The plan of a configuration (R240). -/
def planOf (g : Cfg) (rd1 : Nat → Word32) (ds : List Desc) : Plan :=
  (planSort (planSegs g rd1 ds)).foldl (planStep g) {}

/-- The latest finish (R240). -/
def Plan.finish (p : Plan) : Nat := p.free.foldl max 0

/-- The backlog of the plan in bits, as a numerator over `ns1 × planUnit`. -/
def Plan.backlog (p : Plan) : Nat := p.peak * 51

/-- The encoded-sample rate, as numerator and denominator in samples per second (R241). -/
def encRate (g : Cfg) (ds : List Desc) : Nat × Nat :=
  ((ds.map (fun r => 3 * r.areaW * r.areaH)).foldl (· + ·) 0 * composedFeeds g * numOf g, denOf g)

/-! Checks (R242). -/

/-- A failed check of the MAP page: code, OFFSET, and the entry that it names: number, and whether it is a child entry. -/
structure MapErr where
  code : Nat
  off : Nat
  entry : Option (Nat × Bool)
deriving DecidableEq, Repr

/-- A failure that names a descriptor. -/
def mapErr (bad : Bool) (code : Nat) (r : Desc) : List MapErr := if bad then [⟨code, 0, some (r.no, false)⟩] else []

/-- The largest kept area in pixels (00 R4, R242). -/
def keptMax : Nat := 393216

/-- Two child entries overlap. -/
def Child.meets (a b : Child) : Bool :=
  decide (a.cx < b.cx + b.w ∧ b.cx < a.cx + a.w ∧ a.cy < b.cy + b.h ∧ b.cy < a.cy + a.h)

/-- The area of a child entry inside the hub region. -/
def Child.areaIn (c : Child) (w h : Nat) : Nat :=
  (min (32 * (c.cx + c.w)) w - 32 * c.cx) * (min (16 * (c.cy + c.h)) h - 16 * c.cy)

/-- The child entries of a hub: off the grid or outside (HUB_GRID), a gap or an overlap (HUB_SHAPE), too large a kept area
    (01 R23, R24; R225, R242). -/
def checkKids (r : Desc) (kids : List Child) : List MapErr :=
  mapErr (r.w % 32 != 0 || r.h % 16 != 0) ceHUB_GRID r ++
  (List.range kids.length).flatMap (fun i =>
    let c := kids.getD i ⟨0, 0, 0, 0⟩
    (if r.w < 32 * (c.cx + c.w) ∨ r.h < 16 * (c.cy + c.h) then [⟨ceHUB_GRID, 0, some (r.childFirst + i, true)⟩] else []) ++
    (if keptMax < (32 * c.w + 4) * (16 * c.h + 4) then [⟨ceLIMIT_REGION, 0, some (r.childFirst + i, true)⟩] else [])) ++
  mapErr ((kids.map (fun c => c.areaIn r.w r.h)).foldl (· + ·) 0 != r.w * r.h ||
    (List.range kids.length).any (fun i => (List.range i).any (fun j => (kids.getD i ⟨0, 0, 0, 0⟩).meets (kids.getD j ⟨0, 0, 0, 0⟩))))
    ceHUB_SHAPE r

/-- A device as discovery reported it: lamps configured, lamp limit, region limit in pixels (10 R274). -/
def State.foundDev (s : State) (node : Nat) : Option Found := smGet (fun _ => none) s.map.found node

/-- The checks of one enabled descriptor, with the descriptors before it (R242). The limits of a device hold for the canvas rectangle of a
    display device; the rectangle of a hub is that of its subtree, and DEVICE_LIMIT does not test it (DESIGN CHOICE, log 201). A descriptor
    whose node no discovery has reported is held against no limits of that device, DEVICE_LIMIT and LIMIT_LAMP_SLOT (DESIGN CHOICE, log
    201). -/
def State.checkDesc (s : State) (g : Cfg) (rd1 : Nat → Word32) (before : List Desc) (r : Desc) : List MapErr :=
  mapErr (decide (r.rate < 12 ∨ 48 < r.rate) || g (R.COIL.EN r.port) == 0 || (r.hub && r.childCount == 0)) ceRANGE r ++
  mapErr (decide (canvasW g < r.x + r.cw ∨ canvasH g < r.y + r.ch)) ceRANGE r ++
  mapErr (before.any (fun q => q.node == r.node) || decide (r.node < g (R.COIL.ROUTE_LO r.port) ∨ g (R.COIL.ROUTE_HI r.port) < r.node))
    ceRANGE r ++
  mapErr (!r.hub && decide (keptMax < (r.w + 4) * (r.h + 4))) ceLIMIT_REGION r ++
  (match s.foundDev r.node with
   | none => []
   | some d =>
     mapErr (!r.hub && decide (d.regionLimit < (r.w + 4) * (r.h + 4) ∨ d.lampLimit < 3 * r.w * r.h)) ceDEVICE_LIMIT r ++
     mapErr (decide (1000000000 * denOf g < d.lamps * litSlots g * numOf g)) ceLIMIT_LAMP_SLOT r) ++
  (if r.hub then checkKids r (r.children rd1) else [])

/-- The checks of all enabled descriptors. -/
def State.checkDescs (s : State) (g : Cfg) (rd1 : Nat → Word32) : List Desc → List Desc → List MapErr
  | _, [] => []
  | before, r :: rs => s.checkDesc g rd1 before r ++ s.checkDescs g rd1 (r :: before) rs

/-- A threshold table starts at 0, stays within 0 to 0x10_0000 and does not decrease (R226). Entries that no write has touched hold
    the reset table, which does not decrease: only those beside a written entry need a look. -/
def thrOk (rd : Nat → Word32) (listed : List Nat) (n : Nat) : Bool :=
  let v (q : Nat) : Nat := fieldOf (rd q) 0 21
  v 0 == 0 && listed.all (fun q => decide (v q ≤ 0x100000) && (q == 0 || decide (v (q - 1) ≤ v q)) &&
    (decide (n ≤ q + 1) || decide (v q ≤ v (q + 1))))

/-- The indexes of the pending copy of a table that differ from reset. -/
def State.pendListed (s : State) (page tab : Nat) : List Nat :=
  (s.pend.filter (fun (c : Nat × Word32) => c.1 / 2 ^ 22 == page * 16 + tab)).map (fun (c : Nat × Word32) => c.1 % 2 ^ 22)

/-- Everything that the mapping checks at a commit (R242); the tables are the pending copies. -/
def State.mapErrs (s : State) (g : Cfg) : List MapErr :=
  let rd1 := s.pendW 0x060 1
  let ds := descsOf (s.pendW 0x060 0)
  let plain (bad : Bool) (code off : Nat) : List MapErr := if bad then [⟨code, off, none⟩] else []
  s.checkDescs g rd1 [] ds ++
  plain (!(thrOk (s.pendW 0x060 2) (s.pendListed 0x060 2) 4096 && thrOk (s.pendW 0x060 3) (s.pendListed 0x060 3) 65536)) ceRANGE 0 ++
  plain (g R.MAP.STAGE_BASE % 4096 != 0) ceRANGE 0x044 ++
  plain (ds.any Desc.held && decide (g R.MAP.STAGE_SIZE * 4096 < canvasW g * canvasH g * 8 * composedFeeds g)) ceRANGE 0x04C ++
  (let e := encRate g ds; plain (decide (8000000000 * e.2 < e.1)) ceLIMIT_FEED_PIXEL 0) ++
  (if numOf g = 0 ∨ g (R.TG.V_TOTAL 0) = 0 then []
   else
    let p := planOf g rd1 ds
    plain (decide (denOf g * sec1 * 408 * g (R.TG.V_TOTAL 0) < p.finish + 100 * us1 * planUnit g ∨
      8 * 8388608 * ns1 * planUnit g < p.backlog)) ceRANGE 0)

/-- The entry behind the lowest code, the first one that has it (03 R68). -/
def lowestErr : List MapErr → Option MapErr
  | [] => none
  | e :: es =>
    match lowestErr es with
    | none => some e
    | some f => if f.code < e.code then some f else some e

/-- A rejected commit leaves the entry behind the MAP page's code in ERR_DESC and ERR_CHILD (R242). -/
def State.showMapErr (s : State) (es : List MapErr) : State :=
  match lowestErr es with
  | some ⟨_, _, some (n, child)⟩ => (s.wr R.MAP.ERR_DESC n).wrB R.MAP.ERR_CHILD child
  | _ => s

/-- The checks of the mapping as results on the MAP page. -/
def mapResults (es : List MapErr) : List CfgErr := es.map (fun e => { page := 0x060, code := e.code, off := e.off })

/-! What the MAP page shows of the applied configuration (R240, R241, R244). -/

/-- REGIONS, HELD and the plan at an apply tick. -/
def State.showMap (s : State) : State :=
  let g := s.lv
  let ds := s.descs
  let s := (s.wr R.MAP.REGIONS ds.length).wrB R.MAP.HELD (ds.any Desc.held)
  if numOf g = 0 ∨ g (R.TG.V_TOTAL 0) = 0 then s
  else
    let p := planOf g (s.tabW 0x060 1) ds
    let u := planUnit g
    let e := encRate g ds
    let s := (s.wr R.MAP.PLAN_FINISH (p.finish / (u * ns1))).wr R.MAP.PLAN_PORT (p.free.findIdx (· == p.finish) % 16)
    let s := (s.wr R.MAP.PLAN_BACKLOG (ceilDiv p.backlog (8192 * ns1 * u))).wr R.MAP.ENC_LOAD (min (1000 * e.1 / (8000000000 * e.2)) 65535)
    s.each (List.range 16) (fun s q => s.wr (R.MAP.PORT_BITS q) (ceilDiv (p.bits.getD q 0) 64))

/-- MAP_STATS_CLR: a write of 1 clears CRAZE_TOTAL of every region (R244). -/
def mapStatsClrFx (s : State) : State := s.each (List.range 256) (fun s d => s.setImm 0x060 4 (2 * d + 1) 0)

/-- MAP_STATS_CLR (R244). -/
def execMapStatsClr (s : State) : Host.Outcome State Fault Refusal :=
  .next (s.start.cond (s.pageOn 0x060) mapStatsClrFx)

end Sys2Proof.Machine
end

