-- ==== Sys2Proof/Machine/Packets.lean ====
section
/-!
DEFINITION. Packets on coil ports: checks, routing, forwarding, the repeater, discovery and assignment; and the reset of the core that
discovery and chapter 16 share (10 R252 to R254, R262, R263, R267, R270, R273, R274; 01 R14, R18 to R20; 16 R405, R406, R420, R421).
-/

namespace Sys2Proof.Machine

/-! What a device says of itself (01 R461, 10 R274, R463). -/

/-- Lamps that the device drives (05 R122, 11 R299). -/
def State.lampCount (s : State) : Nat :=
  if s.role == .tile && s.lvB R.TIL.EN then 3 * (s.lv R.TIL.W_M1 + 1) * (s.lv R.TIL.H_M1 + 1) else 0

/-- The region limit of a member in pixels (00 R3, R4). -/
def memberRegion : Member → Nat
  | .y96 => 393216
  | m => Config.regionLimit (memberCode m)

/-- STEPPING (03 R70). -/
def State.stepping (s : State) : Nat := s.rd R.GLB.STEPPING

/-- The applied node ID is valid (03 R70). -/
def State.hasId (s : State) : Bool := s.lvB R.GLB.NODE_VALID

/-- HAS_ID follows the applied node ID; a change of it raises ID_ASSIGNED (03 R70). -/
def State.showId (s old : State) : State :=
  (s.wrB R.GLB.HAS_ID s.hasId).cond (s.lv R.GLB.NODE_ID != old.lv R.GLB.NODE_ID || s.hasId != old.hasId)
    (fun s => s.raise R.GLB.ev_ID_ASSIGNED)

/-! Forwarding (R262, R263, R267; 01 R19, R20). -/

/-- The outward ports of a tile beyond its pair: in boot mode every port from 2 on, else the enabled sub-coil ports (16 R420, 01 R8). -/
def State.outPorts (s : State) : List Nat := if s.boot.bootMode then s.ports.filter (fun p => decide (2 ≤ p)) else s.subPorts

/-- The outward port whose range holds a node (01 R19). -/
def State.rangePort (s : State) (dest : Nat) : Option Nat :=
  s.outPorts.find? (fun p => decide (s.lv (R.COIL.ROUTE_LO p) ≤ dest ∧ dest ≤ s.lv (R.COIL.ROUTE_HI p)))

/-- Send a packet on; one whose HOPS would exceed 64 is dropped and counted at its arrival port (R267, log 44). -/
def State.passOn (s : State) (arrival : Nat) (outs : List Nat) (h : Header) (body : List Byte) (stomp : Bool) : State :=
  if outs = [] then s
  else if 64 < h.hops + 1 then s.inc (R.COIL.CNT_HOPS_DROP arrival)
  else s.each outs (fun s p => s.send (some arrival) (.forward p (packetBytes { h with hops := h.hops + 1 } body stomp) stomp))

/-- Send an addressed packet on, or drop it and count it at an egress without a partner (01 R19). -/
def State.passTo (s : State) (arrival out : Nat) (h : Header) (body : List Byte) (stomp : Bool) : State :=
  if s.canSend out then s.passOn arrival [out] h body stomp else s.undeliverable out

/-- The port of the pair toward a sender, for a packet from a sub-coil (R462). -/
def State.upPort (s : State) (dest : Nat) : Option Nat :=
  let seen (p : Nat) : Bool := (s.coilSt p).seen.any (fun (c : Nat × Nat) => c.1 == dest && decide (s.time ≤ c.2 + ms1))
  if dest = 0 ∨ seen 0 = seen 1 then s.red.upstream else if seen 0 then some 0 else some 1

/-- An UP packet at a tile (R462): along the pair, or from a sub-coil toward its sender; a hub consumes EVENT and STATUS from its
    sub-coils, but forwards EVENT in boot mode (16 R420). -/
def State.routeUp (s : State) (port : Nat) (h : Header) (body : List Byte) (stomp : Bool) : State :=
  if port < 2 then s.passTo port (otherPort port) h body stomp
  else if h.type = ptSTATUS ∨ (h.type = ptEVENT ∧ !s.boot.bootMode) then
    s.cond (!stomp) (fun s => s.emit (.consume port ⟨h, body, false⟩))
  else
    match s.upPort h.dest with
    | some u => s.passTo port u h body stomp
    | none => s.undeliverable port

/-- A broadcast from the pair (01 R20; R267, R282; 16 R420, R422): TICK and CONFIG off the upstream port only pass along the pair, a hub
    in FAILOVER keeps TICKs out of its sub-coils, boot-mode ports get BOOT alone, and after the first tick BOOT is discarded. -/
def State.routeBroadcast (s : State) (port : Nat) (h : Header) (body : List Byte) (stomp : Bool) : State :=
  let up : Bool := s.red.upstream == some port
  let guarded : Bool := h.type == ptTICK || h.type == ptCONFIG
  let acts : Bool := up || !guarded
  let outward : Bool := acts && !(h.type == ptTICK && s.flag R.RED.st_FAILOVER) && (!s.boot.bootMode || h.type == ptBOOT)
  if h.type = ptBOOT ∧ s.frm.ticked then s
  else
    let outs := (otherPort port :: (if outward then s.outPorts else [])).filter s.canSend
    (s.passOn port outs h body stomp).cond (acts && !stomp && (s.hasId || h.type == ptBOOT || h.type == ptTICK))
      (fun s => s.emit (.consume port ⟨h, body, false⟩))

/-- A packet with a destination at a tile; a hub takes a BAND of its own before the trailer has come, and stomps what it builds from a bad
    one (01 R19; R267, R268; 16 R420). -/
def State.routeDest (s : State) (port : Nat) (h : Header) (body : List Byte) (stomp : Bool) : State :=
  let up : Bool := s.red.upstream == some port
  let wrong : Bool := !up && s.red.upstream.isSome
  if s.hasId ∧ h.dest = s.lv R.GLB.NODE_ID then
    if h.type = ptBAND ∧ wrong then s.inc (R.COIL.CNT_WRONG_SIDE port)
    else if h.type = ptCONFIG ∧ !up then s.cond (decide (port < 2)) (fun s => s.passTo port (otherPort port) h body stomp)
    else s.cond (!stomp || (h.type == ptBAND && s.isHub)) (fun s => s.emit (.consume port ⟨h, body, stomp⟩))
  else
    match s.rangePort h.dest with
    | some p => if s.boot.bootMode ∧ h.type ≠ ptMGMT_REQ then s.undeliverable p else s.passTo port p h body stomp
    | none => if port < 2 then s.passTo port (otherPort port) h body stomp else s.undeliverable port

/-- Only link beacons pass a port that is not UP (R250): a BEACON whose KIND is not 0. -/
def linkBeaconBody (h : Header) (body : List Byte) : Bool := h.type == ptBEACON && leAt body 0 1 % 4 != 0

/-- Routing at a tile; of a link beacon with a bad trailer nothing is read (R265). BEACON, RELINQUISH, FEEDREQ and DISCOVER are handed to the command of their type, which passes them on (R267,
    R273, R280). -/
def tilePacket (port : Nat) (h : Header) (body : List Byte) (stomp : Bool) (s : State) : State :=
  if h.type = ptIDLE ∨ (stomp ∧ linkBeaconBody h body) then s
  else if h.type = ptBEACON ∨ h.type = ptRELINQUISH ∨ h.type = ptFEEDREQ ∨ h.type = ptDISCOVER then
    s.emit (.consume port ⟨h, body, stomp⟩)
  else if h.up then s.routeUp port h body stomp
  else if h.bcast then (if port < 2 then s.routeBroadcast port h body stomp else s.undeliverable port)
  else s.routeDest port h body stomp

/-- A packet at a sender port: what travels toward a sender is its control core's (R462); it acts on nothing else. -/
def senderPacket (port : Nat) (h : Header) (body : List Byte) (stomp : Bool) (s : State) : State :=
  s.cond (!stomp && (h.up || h.type == ptBEACON || h.type == ptFEEDREQ)) (fun s => s.emit (.consume port ⟨h, body, false⟩))

/-- A packet whose first cell has come: HCRC and type, the length of its type, the trailer, then routing. A bad trailer counts at the
    device that finds it; a packet that lost a cell counts no trailer (R252 to R254, R263; log 158). -/
def State.packetIn (s : State) (port : Nat) (bytes : List Byte) (lost : Bool) : State :=
  match parseHeader bytes with
  | none => s.inc (R.COIL.CNT_HCRC port)
  | some (h, len) =>
    match maxLen h.type with
    | none => s.inc (R.COIL.CNT_HCRC port)
    | some m =>
      let body := (bytes.drop 10).take len
      if m < len then s.inc (R.COIL.CNT_CRC port)
      else if !(s.isUp port || (s.rd (R.COIL.LINK port) == lkALIGNING && linkBeaconBody h body)) then s
      else
        let tr := checkTrailer bytes len
        let s := match tr with
          | .good => s
          | .bad => s.cond (!lost) (fun s => s.inc (R.COIL.CNT_CRC port))
          | .stomped => s.cond (!lost) (fun s => s.inc (R.COIL.CNT_STOMPED port))
        let stomp : Bool := lost || tr != .good
        match s.role with
        | .sender => senderPacket port h body stomp s
        | .tile => tilePacket port h body stomp s

/-- The partner's flow control: XOFF_RX follows the cells, and what it held leaves when it falls (R266). -/
def State.takeXoff (s : State) (p : Nat) (b : Bool) : State :=
  let was := s.flag (R.COIL.XOFF_RX p)
  (s.wrB (R.COIL.XOFF_RX p) b).cond (was && !b) (fun s => s.drain p)

/-- A cell: a corrected codeword counts with the cell that begins it; nothing is read of one in an uncorrectable codeword; a failed CHK
    counts and hides its XOFF (R246, R247, R287). -/
def cellFx (port : Nat) (s : State) (c : Cell) : State :=
  let s := s.cond c.fixed (fun s => s.inc (R.COIL.CNT_FEC_CORR port))
  if c.fecBad then s
  else
    match cellHead c.bytes with
    | none => s.inc (R.COIL.CNT_CELL_CHK port)
    | some h => s.takeXoff port h.xoff

/-- PACKET_RECEIVE: the cells of one packet. One whose first cell is lost vanishes; one that loses a later cell has begun to leave, and goes
    on stomped (R246, R247, R253, R263). -/
def packetReceiveFx (port : Nat) (cells : List Cell) (s : State) : State :=
  let s := s.each cells (cellFx port)
  match cells with
  | [] => s
  | c :: _ =>
    if cellBad c || !((cellHead c.bytes).any CellHead.sop) then s
    else s.packetIn port (cells.flatMap (fun c => cellPayload c.bytes)) (cells.any cellBad)

/-- PACKET_RECEIVE (R263). -/
def execPacketReceive (port : Nat) (cells : List Cell) (t : Nat) (s : State) : Host.Outcome State Fault Refusal :=
  .next ((s.atTime t).cond (s.portOn port) (packetReceiveFx port cells))

/-! Discovery (R273, R274). -/

/-- Bits from a list of flags, the first one bit 0. -/
def flagBits : List Bool → Nat
  | [] => 0
  | b :: bs => b2n b + 2 * flagBits bs

/-- The response of a device whose firmware runs (R274). -/
def State.discoverBody (s : State) (port : Nat) (d : Discover) (stale ok : Bool) : List Byte :=
  let thru := otherPort ((s.red.upstream).getD port)
  discoverHead d ++ leBytes 8 (Config.uid % 2 ^ 64) ++ leBytes 1 (memberCode s.member) ++ leBytes 1 s.stepping ++
  leBytes 1 (flagBits [false, s.hasId, true, true, s.red.upstream.isNone, s.ports.any (fun p => s.flag (R.COIL.st_TOPOLOGY_LOOP p)),
    s.ports.any (fun p => s.flag (R.COIL.OUT_OF_BUDGET p)), s.isHub]) ++
  leBytes 1 (flagBits [s.red.upstream == some 1, s.isUp thru, stale, ok]) ++
  leBytes 2 (s.lv R.GLB.NODE_ID) ++
  leBytes 2 (flagBits ((List.range 16).map (fun p => decide (2 ≤ p) && s.hasPort p && s.rd (R.COIL.LINK p) == lkUP))) ++
  leBytes 4 s.lampCount ++ leBytes 4 (memberLamps s.member) ++ leBytes 4 (memberRegion s.member) ++ leBytes 2 s.worstEye ++
  leBytes 1 s.red.hops ++ leBytes 1 0 ++ summaryBytes (if s.isHub then s.hub.summary else Summary.zero) ++ leBytes 2 s.summaryBits

/-- The response of the repeater alone, at the hop count at which the request arrived (R270, R274). -/
def State.repeaterBody (s : State) (port hop : Nat) (d : Discover) : List Byte :=
  discoverHead d ++ leBytes 8 (Config.uid % 2 ^ 64) ++ leBytes 1 (memberCode s.member) ++ leBytes 1 s.stepping ++
  leBytes 1 (64 * b2n (hop == 64 && s.isUp (otherPort port))) ++ leBytes 1 (port + 2 * b2n (s.isUp (otherPort port))) ++
  leBytes 18 0 ++ leBytes 1 hop ++ leBytes 29 0

/-- The words of an assignment in a snapshot (01 R18). -/
def assignSnap (ports : List Nat) (node : Nat) (ranges : List (Nat × Nat)) (snap : List (Nat × Word32)) : List (Nat × Word32) :=
  (ports.filter (fun p => decide (2 ≤ p))).foldl (fun m p =>
    let r := ranges.getD (p - 2) (1, 0)
    snapWr (snapWr m (R.COIL.ROUTE_LO p) r.1) (R.COIL.ROUTE_HI p) r.2)
    (snapWr (snapWr snap R.GLB.NODE_ID node) R.GLB.NODE_VALID 1)

/-- An assignment takes effect: node ID and ranges in shadow and live copies, and in every pending snapshot; `epoch` is what the changed
    pages read as APPLIED_EPOCH (01 R18, 16 R421; log 45). -/
def State.assignNow (s : State) (node : Nat) (ranges : List (Nat × Nat)) (epoch : Nat) : State :=
  let old := s
  let s := (s.wrBoth R.GLB.NODE_ID node).wrBoth R.GLB.NODE_VALID 1
  let s := s.each (s.ports.filter (fun p => decide (2 ≤ p))) (fun s p =>
    let r := ranges.getD (p - 2) (1, 0)
    (s.wrBoth (R.COIL.ROUTE_LO p) r.1).wrBoth (R.COIL.ROUTE_HI p) r.2)
  let s : State := { s with cmt := { s.cmt with
    pend := s.cmt.pend.map (fun c => { c with snap := assignSnap s.ports node ranges c.snap }) } }
  let s := s.each (changedPages (smKeep isLive s.regs) old.regs) (fun s p => s.setWord (regKey p 0x020) (BitVec.ofNat 32 epoch))
  s.showId old

/-- ASSIGN at its target: at once before the device has an ID or has ticked, else at the tick of its epoch; for an epoch not ahead it is
    ignored (01 R18). The state after it, STALE_ASSIGN and ASSIGN_OK. -/
def State.assign (s : State) (d : Discover) : State × Bool × Bool :=
  let node := d.idWord % 16384
  if !(s.hasId && s.frm.ticked) then (s.assignNow node d.ranges (if s.frm.ticked then s.epoch else 0), false, true)
  else if d.epoch ≤ s.epoch then (s, true, false)
  else ({ s with mgmt := { s.mgmt with assign := s.mgmt.assign ++ [(d.epoch, node, d.ranges)] } }, false, true)

/-- RESET carries its confirming value (R273). -/
def resetConfirmed (d : Discover) : Bool := d.op == 2 && d.idWord == 0xC35A

/-- A confirmed RESET resets the core after the response on the port has left, at once where none waits there (R274). -/
def State.coilReset (s : State) (port : Nat) : State :=
  ({ s with boot := { s.boot with coilDue := some port } } : State).resetAfterRsp

/-- The target of a DISCOVER whose firmware runs answers it; RESET then resets its core (R274). -/
def State.discoverTarget (s : State) (port : Nat) (d : Discover) : State :=
  let r := if d.op = 1 then s.assign d else (s, false, false)
  let s := r.1
  let s := s.cond (s.canSend port) (fun s => s.send none (.discoverRsp port d.src (s.discoverBody port d r.2.1 r.2.2)))
  s.cond (resetConfirmed d) (fun s => s.coilReset port)

/-- A DISCOVER that goes on: its path position advances (R273); one with a bad trailer goes on stomped (R253). -/
def State.discoverPass (s : State) (arrival out hops : Nat) (d : Discover) (stomp : Bool) : State :=
  if !s.canSend out then s.undeliverable out
  else if 64 < hops + 1 then s.inc (R.COIL.CNT_HOPS_DROP arrival)
  else s.send (some arrival) (.discover out (hops + 1) { d with ppos := d.ppos + 1 } stomp)

/-- The device is a tile: the role that was sampled, or, while no firmware runs, the one that the AON domain reads (16 R404). -/
def State.tileDie (s : State) : Bool := if s.running then s.role == .tile else s.aon.role == .tile

/-- DISCOVER_RECEIVE at a tile or its repeater (R270, R273). `hops` is the HOPS field of the packet. While the loader runs it acts on
    RESET and on nothing else (16 R419); a target does not act on one with a bad trailer (R253). -/
def discoverFx (port hops : Nat) (d : Discover) (crcOk : Bool) (s : State) : State :=
  let entry := d.path.getD d.ppos 0
  if d.ppos = d.plen then
    if !crcOk then s
    else if s.running then s.discoverTarget port d
    else
      let s := s.cond (s.canSend port) (fun s => s.send none (.discoverRsp port d.src (s.repeaterBody port (hops + 1) d)))
      s.cond (s.stateCode == stBISQUE && resetConfirmed d) (fun s => s.coilReset port)
  else if entry = 0 then s.discoverPass port (otherPort port) hops d (!crcOk)
  else if s.running ∧ s.outPorts.contains entry then s.discoverPass port entry hops d (!crcOk)
  else s.undeliverable (if s.running ∧ 2 ≤ entry ∧ s.hasPort entry then entry else port)

/-- DISCOVER_RECEIVE (R273). -/
def execDiscoverReceive (rx : Arrival) (hops : Nat) (d : Discover) (t : Nat) (s : State) : Host.Outcome State Fault Refusal :=
  .next ((s.atTime t).cond (s.tileDie && decide (rx.port < 2) && s.isUp rx.port) (discoverFx rx.port hops d rx.crcOk))

/-- REPEATER_FORWARD: while the core of a tile is in reset or in BISQUE, a packet passes between ports 0 and 1, with its stomp; a DISCOVER
    advances or is answered, link beacons do not pass, sender beacons gain an open correction (log 10), and the loader gets a copy of BOOT
    and DISCOVER (R270; 01 R14). -/
def repeaterFx (port : Nat) (p : Packet) (s : State) : State :=
  let q := otherPort port
  if linkBeaconBody p.hdr p.body ∨ p.hdr.type = ptIDLE then s
  else
    let copy : Bool := (p.hdr.type == ptBOOT || p.hdr.type == ptDISCOVER) && s.stateCode == stBISQUE && !p.crcBad
    let s := s.cond copy (fun s => s.emit (.consume port p))
    if p.hdr.type = ptDISCOVER then discoverFx port p.hdr.hops (discoverIn p.hdr p.body) (!p.crcBad) s
    else if p.hdr.type = ptBEACON then
      let (d, s) := s.fresh
      let corr := unsignedOf 64 (signedOf 64 (leAt p.body 20 8) + d)
      s.cond (s.canSend q) (fun s => s.passOn port [q] p.hdr (p.body.take 20 ++ leBytes 8 corr ++ p.body.drop 28) p.crcBad)
    else s.cond (s.canSend q) (fun s => s.passOn port [q] p.hdr p.body p.crcBad)

/-- REPEATER_FORWARD (R270). -/
def execRepeaterForward (port : Nat) (p : Packet) (s : State) : Host.Outcome State Fault Refusal :=
  .next (s.start.cond (s.aon.role == .tile && !s.running && decide (port < 2) && s.isUp port) (repeaterFx port p))

/-! The command that a consumed packet spells (R254, R462). -/

/-- The command of a packet that the device consumes at time `t`, by its type and by the device's role; none where the table has no row for
    it. -/
def State.commandOf (s : State) (port : Nat) (p : Packet) (t : Nat) : Option Instr :=
  let ok := !p.crcBad
  if p.hdr.type = ptBEACON then
    if !ok ∧ linkBeaconBody p.hdr p.body then none
    else if leAt p.body 0 1 % 4 = 0 then some (.beaconReceive port (beaconOf p.hdr p.body ok) t)
    else if leAt p.body 0 1 % 4 = 1 then some (.linkBeaconRequest port (linkOf p.body) t)
    else some (.linkBeaconReply port (linkOf p.body) t)
  else if p.hdr.type = ptTICK then some (.tickReceive port (tickOf p.body) t)
  else if p.hdr.type = ptBAND then
    some (if s.isHub then .hubBandReceive port (bandOf p.hdr.dest p.body ok) else .bandReceive port (bandOf p.hdr.dest p.body ok))
  else if p.hdr.type = ptCONFIG then some (.configReceive port (configOf p.body) t)
  else if p.hdr.type = ptMGMT_REQ then some (.mgmtReqReceive port (mgmtReqOf p.hdr.src p.body))
  else if p.hdr.type = ptMGMT_RSP then
    some (.tunResponse ⟨port, p.hdr.src⟩ (leAt p.body 0 1 % 64) (leAt p.body 1 1 % 16) (wordsOf p.body 8 ((p.body.length - 8) / 4)))
  else if p.hdr.type = ptEVENT then
    some (if s.role = .sender then .eventReceive port p.hdr.src (leAt p.body 0 4) (entriesOf p.body)
          else .hubEventReceive port p.hdr.src (entriesOf p.body))
  else if p.hdr.type = ptBOOT then some (.bootChunkReceive port (bootOf p.body))
  else if p.hdr.type = ptRELINQUISH then
    some (.relinquishReceive ⟨port, ok⟩ p.hdr (leAt p.body 0 8) ⟨leAt p.body 8 4, leAt p.body 12 1⟩ t)
  else if p.hdr.type = ptFEEDREQ then
    some (if s.role = .sender then .senderFeedreq port p.hdr.src (leAt p.body 0 8) (leAt p.body 8 4 % 4) t
          else .feedreqReceive ⟨port, ok⟩ p.hdr (leAt p.body 0 8) (leAt p.body 8 4 % 4) t)
  else if p.hdr.type = ptDISCOVER then some (.discoverReceive ⟨port, ok⟩ p.hdr.hops (discoverIn p.hdr p.body) t)
  else if p.hdr.type = ptDISCOVER_RSP then some (.discoverRspReceive port p.body)
  else if p.hdr.type = ptSTATUS then some (.statusReceive port p.hdr.src (statusOf p.body))
  else none

/-- The bytes of a packet that an output sends, as this device builds them (R252, R253), and its cells (R247). -/
def State.wireBytes (s : State) (o : Output) : Option (Nat × List Byte) :=
  (leavingOf s.ownId (fun p => s.isSender && !s.serves p) o).map (fun x => (x.port, x.bytes))
def State.wireCells (s : State) (o : Output) : Option (Nat × List (List Byte)) :=
  (s.wireBytes o).map (fun x => (x.1, cellsOf (s.flag (R.COIL.XOFF_TX x.1)) x.2))

/-! The mailbox of a sender port (R274). -/

/-- Bytes of the mailbox. -/
def State.mailbox (s : State) (p n : Nat) : List Byte := (List.range n).map (fun i => BitVec.ofNat 8 (s.immByte (R.COIL.page p) 0 i))

/-- A request ends with a status. -/
def State.discDone (s : State) (p status : Nat) : State :=
  ((s.wr (R.COIL.DISC_BUSY p) 0).wr (R.COIL.DISC_STATUS p) status).raise (R.COIL.ev_DISC_DONE p)

/-- DISC_GO: one request per port; the sender launches it with PPOS 1; a port that is not UP ends it with NO_LINK (R273, R274). -/
def discGoFx (port : Nat) (s : State) : State :=
  if s.flag (R.COIL.DISC_BUSY port) then s
  else if !s.canSend port then s.discDone port 2
  else (s.wr (R.COIL.DISC_BUSY port) 1).send none
    (.discover port 0 { discoverOf (s.ownId.getD 0) (s.mailbox port 104) with
      ppos := 1, noid := s.ownId.isNone, stby := !s.serves port } false)

/-- DISC_GO (R274). -/
def execDiscGo (port t : Nat) (s : State) : Host.Outcome State Fault Refusal :=
  .next ((s.atTime t).cond (s.isSender && s.hasPort port) (discGoFx port))

/-- DISCOVER_RSP_RECEIVE: the body lands from byte 128 on and ends the request; the sender notes the device's hop count for the transit
    time (01 R34) and its lamps and limits for its checks (09 R242). -/
def discoverRspFx (port : Nat) (body : List Byte) (s : State) : State :=
  let b := body.take 96
  let s := s.each ((List.range b.length).zip b) (fun s x => s.setImmByte (R.COIL.page port) 0 (128 + x.1) x.2.toNat)
  let s := s.modCoil port (fun c => { c with depth := max c.depth (leAt b 66 1 + leAt b 70 1) })
  let s := s.cond ((leAt b 46 1).testBit 1) (fun s => { s with map := { s.map with
    found := smSet (fun _ => none) s.map.found (leAt b 48 2 % 16384) (some ⟨leAt b 52 4, leAt b 56 4, leAt b 60 4⟩) } })
  s.discDone port 0

/-- DISCOVER_RSP_RECEIVE (R274). -/
def execDiscoverRspReceive (port : Nat) (body : List Byte) (s : State) : Host.Outcome State Fault Refusal :=
  .next (s.start.cond (s.isSender && s.hasPort port && s.isUp port && s.flag (R.COIL.DISC_BUSY port)) (discoverRspFx port body))

/-- DISCOVER_TIMEOUT (R274). -/
def execDiscoverTimeout (port : Nat) (s : State) : Host.Outcome State Fault Refusal :=
  .next (s.start.cond (s.isSender && s.hasPort port && s.flag (R.COIL.DISC_BUSY port)) (fun s => s.discDone port 1))

end Sys2Proof.Machine
end

