-- ==== Sys2Proof/Machine/Thm.lean ====
section
/-!
DEFINITION. Temperature sensors, the die model, throttling, quench and the cone counters (13 R361, R366 to R374, R378).
Temperatures are in 1/16 °C unless said otherwise.
-/

namespace Sys2Proof.Machine

/-! Abort of a light-phase run (13 R366). -/

/-- PHC_ABORT: a run in progress ends as ABORTED (13 R366). -/
def phcAbortFx (s : State) : State := s.phcEnd phABORTED

/-- PHC_ABORT (13 R366). -/
def execPhcAbort (s : State) : Host.Outcome State Fault Refusal := .next (s.start.cond (s.pageOn 0x0D1) phcAbortFx)

/-! Quench (13 R374). -/

/-- 95 °C and 115 °C: the fixed quench thresholds. -/
def quenchBoard : Int := 1520
def quenchDie : Int := 1840

/-- Quench causes (13 R378). -/
def qcBOARD : Nat := 1
def qcDIE : Nat := 2

/-- What an unlisted lamp-bus group holds. -/
def grpDefault : Nat → GrpSt := fun _ => {}

/-- A group of the lamp bus. -/
def State.grp (s : State) (g : Nat) : GrpSt := smGet grpDefault s.lmp.grp g

/-- Change a group. -/
def State.modGrp (s : State) (g : Nat) (f : GrpSt → GrpSt) : State :=
  { s with lmp := { s.lmp with grp := smMod grpDefault s.lmp.grp g f } }

/-- The rows of a group go low and its scan ends (12 R327, R344, R345). -/
def State.rowsLow (s : State) (g : Nat) : State :=
  let s := (s.modGrp g (fun x => { x with scan := false })).wr (R.SGP.ACTIVE g) 0
  (s.wr R.LMP.GROUPS_ON (withBit (s.rd R.LMP.GROUPS_ON) g false)).emit (.rows g false 0)

/-- The rows of a group go off, and no probe of it goes on (12 R331, R333, R343). -/
def State.rowsOff (s : State) (g : Nat) : State := (s.rowsLow g).modGrp g (fun x => { x with arm := none, fired := none })

/-- The slots still to compute are dropped; the computation in progress stops, and its end settles what it has done (11 R308). -/
def State.stopSlots (s : State) : State :=
  ({ s with lsm := { s.lsm with todo := [], again := [] } } : State).wr R.LSM.COMPUTING 0

/-- The device quenches: the AON latch holds it until a power-on reset, rows go off, a run is aborted, nothing is computed for lamps, and a
    sender stops composing and relinquishes if ground 5 (QUENCH) is enabled (13 R374, R366; 11 R308; 10 R278). -/
def State.quench (s : State) (cause : Nat) : State :=
  let s : State := { s with aon := { s.aon with quench := true, quenchCause := s.aon.quenchCause ||| cause } }
  let s := s.wr R.THM.QUENCH_CAUSE s.aon.quenchCause
  if s.flag R.THM.QUENCHED then s
  else
    let s := ((s.wr R.THM.QUENCHED 1).raise R.THM.ev_QUENCH).toState stQUENCHED
    let s : State := { s with thm := { s.thm with quenches := s.thm.quenches + 1 } }
    let s := s.phcEnd phABORTED
    match s.role with
    | .tile => (s.each (List.range (memberGroups s.member)) State.rowsOff).stopSlots
    | .sender => (s.wr R.CMP.COMPOSING 0).ground 5

/-! Sensors (13 R368 to R371). -/

/-- What an unlisted sensor holds. -/
def sensDefault : Nat → SensorSt := fun _ => {}

/-- The record of a sensor. -/
def State.sensor (s : State) (n : Nat) : SensorSt := smGet sensDefault s.thm.sens n

/-- The applied threshold fields, signed. -/
def State.tBroken (s : State) : Int := s.lvI R.THM.T_BROKEN

/-- The temperature a sensor counts with: T_BROKEN while broken, none while off or pending (13 R368 to R370). -/
def State.sensorTemp (s : State) (n : Nat) : Option Int :=
  let x := s.sensor n
  if !x.on then none else if x.broken then some s.tBroken else if x.pending then none else some x.temp

/-- The largest of a list of temperatures, if it has one. -/
def maxTemp : List Int → Option Int
  | [] => none
  | x :: xs =>
    match maxTemp xs with
    | none => some x
    | some y => some (max x y)

/-- The highest sensor temperature that counts, if one does (13 R370). -/
def State.boardTemp (s : State) : Option Int := maxTemp ((List.range 8).filterMap s.sensorTemp)

/-- T_BOARD, its highest value and BROKEN follow the sensors (13 R370, R378). -/
def State.showBoard (s : State) : State :=
  let t := s.boardTemp.getD (s.lvI R.THM.T_AMB)
  let broken := (List.range 8).foldl (fun a n => a + if (s.sensor n).broken then 2 ^ n else 0) 0
  let s : State := { s with thm := { s.thm with tBoard := t } }
  let s := (s.wr R.THM.BROKEN broken).level R.THM.ev_SENSOR_BROKEN (broken != 0)
  let s := s.cond (decide (s.rdI R.THM.MAX_T_BOARD < t)) (fun s => s.wrI R.THM.MAX_T_BOARD t)
  s.showTemps

/-- The sensors that start-up or a commit enables are pending, and those that a commit disables end their part (13 R369). -/
def State.senseEnabled (s : State) : State :=
  s.each (List.range 8) (fun s n =>
    let en := (s.lv R.THM.SENS_EN).testBit n
    if en == (s.sensor n).on then s
    else
      let x : SensorSt := if en then { on := true, pending := true, changed := s.time } else {}
      { s with thm := { s.thm with sens := smSet sensDefault s.thm.sens n x } })

/-- A broken sensor quenches while T_BROKEN is 95 °C (13 R371, R374). -/
def State.brokenQuench (s : State) : State :=
  s.cond ((List.range 8).any (fun n => (s.sensor n).broken) && decide (quenchBoard ≤ s.tBroken)) (fun s => s.quench qcBOARD)

/-- The sensors under the thermal configuration that start-up or a commit puts in force, and T_BOARD (13 R369 to R371, R374). -/
def State.sensorsEnabled (s : State) : State := s.senseEnabled.showBoard.brokenQuench

/-- The next record of a sensor after an attempt: a reading is valid when it is acknowledged and from −40 °C to 150 °C; three attempts
    without acknowledge, a reading out of range, or a raw word unchanged for 60 s break it (the last only after a first valid
    reading); 10 valid readings in a row that all differ mend it (13 R368, R369). -/
def sensorNext (x : SensorSt) (ack : Bool) (raw : Nat) (now : Nat) : SensorSt :=
  if !ack then
    let n := x.nacks + 1
    let broken := x.broken || decide (3 ≤ n)
    { x with nacks := n, broken := broken, pending := x.pending && !broken, good := [] }
  else
    let t : Int := signedOf 12 (raw / 16)
    let x := { x with nacks := 0 }
    if t < -640 ∨ 2400 < t then { x with broken := true, pending := false, good := [], hot := 0, raw := raw }
    else
      let same : Bool := !x.pending && x.raw == raw
      let changed := if same then x.changed else now
      let good := (raw :: x.good.takeWhile (· != raw)).take 10
      let stuck : Bool := decide (changed + 60 * sec1 ≤ now)
      { x with pending := false, temp := t, raw := raw, changed := changed, good := good,
               hot := if quenchBoard ≤ t then x.hot + 1 else 0,
               broken := if x.broken then decide (good.length < 10) else stuck }

/-- SENSOR_READ: one attempt on a sensor, its judgement, T_BOARD, and the board quench (13 R368 to R371, R374). -/
def sensorReadFx (n : Nat) (ack : Bool) (raw : Nat) (s : State) : State :=
  let was := s.sensor n
  let x := sensorNext was ack raw s.time
  let s : State := { s with thm := { s.thm with sens := smSet sensDefault s.thm.sens n x } }
  let s := s.cond (!was.broken && x.broken) (fun s => s.inc R.THM.CNT_BROKEN)
  let s := s.showBoard
  (s.cond (decide (2 ≤ x.hot)) (fun s => s.quench qcBOARD)).brokenQuench

/-- SENSOR_READ (13 R368). -/
def execSensorRead (n : Nat) (ack : Bool) (raw t : Nat) (s : State) : Host.Outcome State Fault Refusal :=
  .next ((s.atTime t).cond (s.running && (s.sensor n).on && decide (n < 8)) (sensorReadFx n ack raw))

/-- G_THERM of a board temperature (13 R370). -/
def gThermOf (k : Nat) (thr t : Int) : Nat := (clampInt (65536 - shrInt (k * (t - thr)) 4) 16384 65536).toNat

/-- At a tick G_THERM is latched; the throttle does not act while no sensor counts (13 R370). -/
def State.latchTherm (s : State) : State :=
  let g := match s.boardTemp with
    | none => 65536
    | some t => gThermOf (s.lv R.THM.K) (s.lvI R.THM.T_THR) t
  let thr : Bool := decide (g < 65536)
  let s := ((s.wr R.COR.G_THERM g).wrB R.THM.st_THROTTLE thr).level R.THM.ev_THROTTLE thr
  s.cond thr (fun s => s.inc R.THM.CNT_THROTTLE_FRAMES)

/-! The die model (13 R372). -/

/-- Monitors that have missed updates for 10 ms (13 R372). -/
def monFailed (mons : List (Nat × Nat)) : Bool := mons.any (fun m => decide (10 ≤ m.2))

/-- Each monitor's last power and missed updates after a step. -/
def monNext : List (Nat × Nat) → List (Option Nat) → List (Nat × Nat)
  | ms, [] => ms.map (fun m => (m.1, m.2 + 1))
  | [], p :: ps => (p.getD 0, if p.isNone then 1 else 0) :: monNext [] ps
  | m :: ms, p :: ps => (match p with | some x => (x, 0) | none => (m.1, m.2 + 1)) :: monNext ms ps

/-- One step of a time constant: `p` in mW, `r` in 0.01 °C/W, `tau` in units of `unit` ms; state in 2^-16 °C (13 R372). A step
    truncates toward minus infinity (log 23). -/
def thermStep (x : Int) (p r tauMs : Nat) : Int :=
  if tauMs = 0 then x else x + ((p * r * 65536 : Nat) - x * 100000) / (100000 * tauMs : Nat)

/-- The ambient temperature of the die model; a sensor named by AMB_SRC that has no reading gives way to T_AMB (13 R372; DESIGN CHOICE, log
    185). -/
def State.ambient (s : State) : Int :=
  let a := s.lv R.THM.AMB_SRC
  if a < 8 then (s.sensorTemp a).getD (s.lvI R.THM.T_AMB) else s.lvI R.THM.T_AMB

/-- IN_WINDOW: MRAM writes are allowed from 0 °C to 85 °C of the die model (13 R351). -/
def inWindow (t : Int) : Bool := decide (0 ≤ t ∧ t ≤ 1360)

/-- T_DIE, IN_WINDOW and the highest value follow the model; a trim save that was refused is repeated in the window
    (13 R351, R366, R372). -/
def State.showDie (s : State) (broken : Bool) : State :=
  let t := if broken then s.lvI R.THM.T_DIE_BROKEN else s.ambient + shrInt (s.thm.tc + s.thm.tj) 12
  let s : State := { s with thm := { s.thm with tDie := t } }
  let s := s.cond (decide (s.rdI R.THM.MAX_T_DIE < t)) (fun s => s.wrI R.THM.MAX_T_DIE t)
  let s := (s.wrB R.NVS.IN_WINDOW (inWindow t)).showTemps
  let s := s.cond (s.nvs.defaultsDue && inWindow t && !s.nvs.fg.contains .defaults) (fun s => s.fgPut .defaults)
  s.cond (s.nvs.trimDue && inWindow t && !s.nvs.fg.contains (.record false)) (fun s => s.fgPut (.record false))

/-- DIE_MODEL_STEP (13 R372, R374). -/
def dieModelStepFx (powers : List (Option Nat)) (outOfRange : Bool) (s : State) : State :=
  let mons := monNext s.thm.mons powers
  let p := (mons.map Prod.fst).foldl (· + ·) 0
  let broken := monFailed mons || outOfRange
  let tc := thermStep s.thm.tc p (s.lv R.THM.R_CA) (100 * s.lv R.THM.TAU_CA)
  let tj := thermStep s.thm.tj p (Config.rJc % 65536) (Config.tauJc % 65536)
  let s : State := { s with thm := { s.thm with mons := mons, power := p, tc := tc, tj := tj } }
  let s := s.cond (broken && !s.flag R.THM.st_MON_BROKEN) (fun s => s.inc R.THM.CNT_MON_FAIL)
  let s := ((s.wrB R.THM.st_MON_BROKEN broken).level R.THM.ev_MON_BROKEN broken).showDie broken
  s.cond (decide (quenchDie ≤ s.thm.tDie)) (fun s => s.quench qcDIE)

/-- DIE_MODEL_STEP (13 R372). -/
def execDieModelStep (powers : List (Option Nat)) (outOfRange : Bool) (t : Nat) (s : State) :
    Host.Outcome State Fault Refusal :=
  .next ((s.atTime t).cond s.running (dieModelStepFx powers outOfRange))

/-! Cone counters (13 R361). -/

/-- The largest `n` from `lo` up by at most 2^`bits` − 1 with (2n − 1)^b ≤ 2^e: binary search from the highest bit. -/
def rootSearch (b e : Nat) : Nat → Nat → Nat
  | 0, n => n
  | i + 1, n => rootSearch b e i (if (2 * (n + 2 ^ i) - 1) ^ b ≤ 2 ^ e then n + 2 ^ i else n)

/-- round(1,024 × 2^(a / b)), an exact half rounding upward (13 R361, 00 R458), clamped to 131,072. -/
def pow2Round (a : Int) (b : Nat) : Nat :=
  let e := 11 * b + a
  if b = 0 ∨ e < 0 then 0 else if 7 * (b : Int) ≤ a then 131072 else min 131072 (rootSearch b e.toNat 18 0)

/-- F_T at a board temperature (13 R361). -/
def fTOf (tBoard tRef : Int) (dt : Nat) : Nat := pow2Round (tBoard - tRef) (16 * dt)

/-- At a tick each zone's counter gains its sum of the frame, scaled by F_T, and saturates (13 R361). -/
def State.coneTick (s : State) : State :=
  let f := fTOf s.thm.tBoard (s.lvI R.THM.CONE_TREF) (s.lv R.THM.CONE_DT)
  let cone := s.thm.add.foldl
    (fun c p => smMod (fun _ => 0) c p.1 (fun x => min (x + p.2 * f / 2 ^ 40) (2 ^ 64 - 1))) s.thm.cone
  { s with thm := { s.thm with cone := cone, add := [] } }

/-- CONE_CLR zeroes every cone counter (13 R361). -/
def coneClrFx (s : State) : State := { s with thm := { s.thm with cone := [] } }

/-- CONE_CLR (13 R361). -/
def execConeClr (s : State) : Host.Outcome State Fault Refusal :=
  .next (s.start.cond (s.isTile && s.pageOn 0x0D0) coneClrFx)

end Sys2Proof.Machine
end

