-- ==== Sys2Proof/Machine/Boot.lean ====
section
/-!
DEFINITION. Reset, start-up, images, boot broadcasts and live update (16 R404 to R429; 17 R432 to R434, R440; 10 R279).
-/

namespace Sys2Proof.Machine

/-! Reset sources (R405, R432, R440). -/

/-- POWER_ON_RESET: the AON domain and the core are reset; the MRAM and the levels of the board's banks stay (R405, R406). -/
def powerOnResetFx (s : State) : State :=
  { State.reset with
    member := s.member, mram := s.mram, boot := { banks := s.boot.banks }, aon := { State.reset.aon with strap := s.aon.strap }, out := s.out, free := s.free, pending := s.pending }

/-- POWER_ON_RESET (R405). -/
def execPowerOnReset (s : State) : Host.Outcome State Fault Refusal := .next (powerOnResetFx s.start)

/-- RESET_N_ASSERT: low for at least 1 µs resets the core; whether a shorter pulse does is open (R405, log 10). -/
def resetNFx (ns : Nat) (s : State) : State :=
  if 1000 ≤ ns then s.coreReset rcRESET_N
  else
    let (b, s) := s.freshB
    s.cond b (fun s => s.coreReset rcRESET_N)

/-- RESET_N_ASSERT (R405). -/
def execResetNAssert (ns : Nat) (s : State) : Host.Outcome State Fault Refusal := .next (resetNFx ns s.start)

/-- PERST_ASSERT: only in the sender role, which the ROLE ball gives while the core is in reset, once the AON domain reads it (R404, R405). -/
def execPerstAssert (s : State) : Host.Outcome State Fault Refusal :=
  .next (s.start.cond (s.aon.on && (if s.stateCode = stRESET then s.aon.role else s.role) == .sender) (fun s => s.coreReset rcPERST))

/-- SOFT_RESET: 0xA5C3 written to GLB.SOFT_RESET (R405; 03 R70). -/
def softResetFx (v : Word32) (s : State) : State := s.cond (fieldOf v 0 16 == 0xA5C3) (fun s => s.coreReset rcSOFT)

/-- SOFT_RESET (03 R70). -/
def execSoftReset (v : Word32) (s : State) : Host.Outcome State Fault Refusal := .next (s.start.cond (s.pageOn 0x000) (softResetFx v))

/-- TUN_SOFT_RESET_DELAY: the tile resets 10 µs after it answered (R407). -/
def execTunSoftResetDelay (s : State) : Host.Outcome State Fault Refusal :=
  .next (s.start.cond s.boot.softDue (fun s => s.coreReset rcSOFT))

/-- CORE_RAIL_FAIL (R405, 17 R432). -/
def execCoreRailFail (s : State) : Host.Outcome State Fault Refusal := .next (s.start.coreReset rcCORE_RAIL)

/-- XO_IN_LOSS: the core is held in reset, and ports 0 and 1 go to electrical idle (17 R440). -/
def xoInLossFx (s : State) : State :=
  let s := s.coreReset rcCLOCK
  { s with aon := { s.aon with linkUp0 := false, linkUp1 := false } }

/-- XO_IN_LOSS (17 R440). -/
def execXoInLoss (s : State) : Host.Outcome State Fault Refusal := .next (xoInLossFx s.start)

/-- WATCHDOG_EXPIRY: greenware reverts at the next tick; a sender whose ground WATCHDOG makes it relinquish resets 100 µs later; any other
    device resets now (R405, R426, R428; 10 R279). -/
def watchdogFx (s : State) : State :=
  if s.flag R.FW.GREEN then { s with boot := { s.boot with revertDue := true } }
  else
    let was := s.flag R.RED.RELINQUISHED
    let s := s.ground 3
    if s.role == .sender && !was && s.flag R.RED.RELINQUISHED then s else s.coreReset rcWATCHDOG

/-- WATCHDOG_EXPIRY (R405); the watchdog runs from LOADED onward (R414). -/
def execWatchdogExpiry (t : Nat) (s : State) : Host.Outcome State Fault Refusal := .next ((s.atTime t).cond s.running watchdogFx)

/-- WATCHDOG_RESET_DELAY: 100 µs after the first copy of the RELINQUISH (10 R279). -/
def execWatchdogResetDelay (s : State) : Host.Outcome State Fault Refusal :=
  .next (s.start.cond (s.running && s.red.relWatchdog) (fun s => s.coreReset rcWATCHDOG))

/-- What a bank rail reads as: it selects 1.8 V levels from 1.62 V on and 3.3 V levels from 2.97 V on (17 R433), and is good within ±8 % of
    either (18 R445); below 1.62 V the bank is unpowered (DESIGN CHOICE, log 207). -/
def bankCode (mV : Nat) : Nat :=
  if 1656 ≤ mV ∧ mV ≤ 1944 then 1 else if 3036 ≤ mV ∧ mV ≤ 3564 then 2 else if 1620 ≤ mV then 3 else 4

/-- A bank rail of this code holds the core in reset (17 R433, 18 R445). -/
def bankBad (code : Nat) : Bool := decide (3 ≤ code)

/-- BANK_LEVEL_SELECT: banks 0 to 3 are VDDIO_LMP0 to 3, 4 is VDDIO_AUX; a rail that is not good holds the core in reset (17 R433,
    18 R445). -/
def bankLevelFx (bank mV : Nat) (s : State) : State :=
  let s : State := { s with boot := { s.boot with banks := smSet (fun _ => 0) s.boot.banks bank (bankCode mV) } }
  s.cond (bankBad (bankCode mV)) (fun s => s.coreReset rcCORE_RAIL)

/-- BANK_LEVEL_SELECT (17 R433). -/
def execBankLevelSelect (bank mV : Nat) (s : State) : Host.Outcome State Fault Refusal :=
  .next (s.start.cond (decide (bank < 5)) (bankLevelFx bank mV))

/-! The release of reset (R404, 17 R434). -/

/-- Reset values that a tile has instead of the sender's: EN of ports 0 and 1, BW of instance 0, the open loop instances
    (04 R103, R115; 10 R287). -/
def State.tileResets (s : State) : State :=
  (((s.wrBoth (R.COIL.EN 0) 1).wrBoth (R.COIL.EN 1) 1).wrBoth R.CLK.BW 20000).wr R.LOOP.OPEN 0x3FC

/-- RESET_RELEASE: the straps are sampled; with TEST_EN high the core does not start; otherwise it enters BISQUE, RESET_CAUSE takes the
    recorded sources and the record starts anew (R404, R405; 01 R7; 17 R434). A floating ROLE gives either role (log 10). -/
def resetReleaseFx (strap : Strap) (testEn : Bool) (s : State) : State :=
  let (b, s) := s.strapHigh strap
  let role : Role := if b then .sender else .tile
  let s : State := { s with role := role, boot := { s.boot with testEn := testEn }, aon := { s.aon with on := true, role := role, strap := strap } }
  if testEn then s
  else
    let s := s.wr R.GLB.RESET_CAUSE s.aon.cause
    let s : State := { s with aon := { s.aon with cause := 0 } }
    (s.cond (!b) State.tileResets).toState stBISQUE

/-- RESET_RELEASE (R404); a bank that is not good holds it (17 R433, 18 R445). -/
def execResetRelease (strap : Strap) (testEn : Bool) (s : State) : Host.Outcome State Fault Refusal :=
  .next (s.start.cond (s.stateCode == stRESET && !s.boot.testEn && !s.boot.banks.any (fun (p : Nat × Nat) => bankBad p.2))
    (resetReleaseFx strap testEn))

/-! Images and the bisque loader (R411 to R413). -/

/-- Header fields of an image (R411). -/
def imgTarget (b : List Byte) : Nat := leAt b 4 1
def imgCustSigned (b : List Byte) : Bool := (leAt b 5 1).testBit 0
def imgSettings (b : List Byte) : Nat := leAt b 6 2
def imgVersion (b : List Byte) : Nat := leAt b 8 4

def imgVendorKey (b : List Byte) : List Byte := (b.drop 16).take 96
def imgCustKey (b : List Byte) : List Byte := (b.drop 112).take 96

/-- What the signatures of an image cover, and the two signatures (R411). -/
def imgSigned (b : List Byte) : List Byte := b.take (256 + leAt b 12 4)
def imgVendorSig (b : List Byte) : List Byte := (b.drop (256 + leAt b 12 4)).take 96
def imgCustSig (b : List Byte) : List Byte := (b.drop (352 + leAt b 12 4)).take 96

/-- The length that the header gives an image (R411). -/
def imgLength (b : List Byte) : Nat := 256 + leAt b 12 4 + 96 + (if imgCustSigned b then 96 else 0)

/-- Largest image of a role: the BAR2 window for a sender (R411). -/
def imgLimit : Role → Nat
  | .sender => 8388608
  | .tile => 1048576

/-- TARGET of the images that a device takes (R411, R412). -/
def targetOf (r : Role) (m : Member) : Nat :=
  match r with
  | .sender => 0
  | .tile => memberCode m

/-- The verification of an image in the order of R412: 0, or the code of the first failure. -/
def verifyImage (r : Role) (m : Member) (b : List Byte) : Nat :=
  if b.length < 256 ∨ leAt b 0 4 ≠ 0x4D4C5946 ∨ imgLength b ≠ b.length then 1
  else if imgLimit r < b.length then 3
  else if imgTarget b ≠ targetOf r m then 2
  else if sha384 (imgVendorKey b) ≠ Config.vendorHash then 4
  else if !ecdsaOk (imgVendorKey b) (imgSigned b) (imgVendorSig b) then 5
  else if !Config.custKeySet then 0
  else if !imgCustSigned b then 6
  else if sha384 (imgCustKey b) ≠ Config.custHash then 7
  else if !ecdsaOk (imgCustKey b) (imgSigned b) (imgCustSig b) then 8
  else 0

/-- BOOT_ERR of an incomplete image (R419). -/
def beINCOMPLETE : Nat := 9

/-- BAR2_WRITE: image bytes into the 8 MiB of SRAM (R413). -/
def bar2WriteFx (off : Nat) (data : List Byte) (s : State) : State :=
  { s with boot := { s.boot with bar2 := smSetMany (fun _ => 0) s.boot.bar2 off (data.take (8388608 - off)) } }

/-- BAR2_WRITE (R413). -/
def execBar2Write (off : Nat) (data : List Byte) (s : State) : Host.Outcome State Fault Refusal :=
  .next (s.start.cond (s.role == .sender && s.stateCode == stBISQUE) (bar2WriteFx off data))

/-- BISQUE_GO: the image of BISQUE_LEN bytes in BAR2 is verified (R413). -/
def bisqueGoFx (s : State) : State :=
  let bytes := smGetMany (fun _ => 0) s.boot.bar2 0 (s.rd R.FW.BISQUE_LEN)
  { s with boot := { s.boot with verifying := some { idx := 0, bytes := bytes } } }

/-- The loader waits for an image: BISQUE, with none in verification or verified. -/
def State.loaderWaits (s : State) : Bool := s.stateCode == stBISQUE && s.boot.verifying.isNone && s.boot.running.bytes.isEmpty

/-- BISQUE_GO (R413). -/
def execBisqueGo (s : State) : Host.Outcome State Fault Refusal := .next (s.start.cond (s.role == .sender && s.loaderWaits) bisqueGoFx)

/-- IMAGE_VERIFY_DONE: BOOT_ERR takes the result; a good image's cores start to load, after a failure the device stays in BISQUE
    (R412, R414). -/
def imageVerifyDoneFx (s : State) : State :=
  match s.boot.verifying with
  | none => s
  | some img =>
    let code := verifyImage s.role s.member img.bytes
    let s := s.wr R.FW.BOOT_ERR code
    { s with boot := { s.boot with verifying := none, running := if code = 0 then img else {} } }

/-- IMAGE_VERIFY_DONE (R412). -/
def execImageVerifyDone (s : State) : Host.Outcome State Fault Refusal :=
  .next (s.start.cond (s.stateCode == stBISQUE) imageVerifyDoneFx)

/-- VERSION and SETTINGS_VER are the running image's, FALLBACK_VERSION that of the other bank (R429). -/
def State.showBanks (s : State) : State :=
  let b := s.boot.running.bytes
  ((s.wr R.FW.VERSION (imgVersion b)).wr R.FW.SETTINGS_VER (imgSettings b)).wr R.FW.FALLBACK_VERSION
    (match s.boot.other with | some i => imgVersion i.bytes | none => 0)

/-- The core takes over the coil ports of a tile: ports 0 and 1 as the repeater leaves them, the others train in boot mode
    (R406, R420). -/
def State.takePorts (s : State) (up0 up1 : Bool) : State :=
  let s : State := { s with boot := { s.boot with bootMode := true } }
  (s.each s.ports (fun s p =>
    if (p = 0 ∧ up0) ∨ (p = 1 ∧ up1) then s.bringUp p
    else s.train p)).showRoles

/-- FIRMWARE_LOADED: DRAM trains, settings and cone counters load, a tile starts the load of its calibration set and trains its ports,
    and the device enters LOADED, or QUENCHED while the quench latch is set, which is a sender's ground QUENCH (R406, R409, R414; 10 R278). -/
def firmwareLoadedFx (trained : Bool) (s : State) : State :=
  let up0 := s.isUp 0
  let up1 := s.isUp 1
  let s := s.showBanks
  let s := if s.aon.quench then
      ((s.wr R.THM.QUENCH_CAUSE s.aon.quenchCause).wr R.THM.QUENCHED 1).toState stQUENCHED
    else s.toState stLOADED
  let s := ((s.loadSettings).sensorsEnabled).showDie false
  match s.role with
  | .sender => (((s.dramInit trained).wr R.DEC.CC_OK 1).showRoles).cond (s.stateCode == stQUENCHED) (fun s => s.ground 5)
  | .tile => (s.takePorts up0 up1).fgPut .reload

/-- FIRMWARE_LOADED (R414); `trained` tells whether every DRAM channel trained. -/
def execFirmwareLoaded (trained : Bool) (t : Nat) (s : State) : Host.Outcome State Fault Refusal :=
  .next ((s.atTime t).cond (s.stateCode == stBISQUE && !s.boot.running.bytes.isEmpty) (firmwareLoadedFx trained))

/-! Arming (R416). -/

/-- ARM is refused: a BOOT broadcast runs, an enabled DRAM channel is not READY, or no commit was accepted since reset (R416). -/
def State.armBar (s : State) : Bool :=
  s.flag R.FW.BOOT_BUSY || (List.range s.drm.chans).any (fun c => !s.flag (R.DRM.READY c)) || !s.boot.anyCommit

/-- A write of ARM in LOADED, or in QUENCHED before the first tick, arms the sender or is refused (R409, R416). -/
def armFx (s : State) : State :=
  let s := s.wr R.FW.ARM_REFUSED 0
  if !(s.stateCode == stLOADED || (s.stateCode == stQUENCHED && !s.boot.armed && !s.frm.ticked)) then s
  else if s.armBar then s.wr R.FW.ARM_REFUSED 1
  else
    let s : State := { s with boot := { s.boot with armed := true } }
    (s.cond (s.stateCode == stLOADED) (fun s => s.toState stARMED)).planFirst

/-- ARM (R416). -/
def execArm (t : Nat) (s : State) : Host.Outcome State Fault Refusal := .next ((s.atTime t).cond s.isSender armFx)

/-! BOOT broadcasts (R418 to R420). -/

/-- A write of BOOT_GO: in LOADED or ARMED the image in DRAM goes out on every port that is UP and ACTIVE (R418). An image that reads back
    poisoned is not sent, and the write is refused (14 R385; DESIGN CHOICE, log 205). -/
def bootGoFx (s : State) : State :=
  if !(s.stateCode == stLOADED || s.stateCode == stARMED) || s.flag R.FW.BOOT_BUSY then s.wr R.FW.BOOT_REFUSED 1
  else
    let n := min (s.rd R.FW.BOOT_LEN) 1048576
    let bad := s.unsound (s.rd R.FW.BOOT_BASE) n
    let img : Image := { idx := s.rd R.FW.BOOT_IDX, bytes := s.dramBytes (s.rd R.FW.BOOT_BASE) n }
    let s := (s.readUe (s.rd R.FW.BOOT_BASE) n).wrB R.FW.BOOT_REFUSED bad
    if bad then s
    else (s.wr R.FW.BOOT_BUSY 1).each (s.ports.filter (fun p => s.canSend p && s.portState p == psACTIVE)) (fun s p => s.sendImage p img)

/-- BOOT_GO (R418). -/
def execBootGo (s : State) : Host.Outcome State Fault Refusal := .next (s.start.cond s.isSender bootGoFx)

/-- A packet of a type waits at the egress of a port (10 R263). -/
def State.waits (s : State) (p type : Nat) : Bool :=
  (s.coilSt p).egress.any (fun x => match outKind x.out with
    | some (_, t, _) => t == type
    | none => false)

/-- BOOT_BROADCAST_DONE: the last chunk has left on every port (R418). -/
def execBootBroadcastDone (s : State) : Host.Outcome State Fault Refusal :=
  .next (s.start.cond (s.isSender && s.flag R.FW.BOOT_BUSY && !s.ports.any (fun p => s.waits p ptBOOT))
    (fun s => (s.wr R.FW.BOOT_BUSY 0).incRaise R.FW.CNT_BOOT_SENT R.FW.ev_BOOT_DONE))

/-- What an unlisted assembly holds. -/
def asmDefault : Nat → BootAsm := fun _ => { bytes := [], len := 0 }

/-- An image is kept for the subtree, up to 8 MiB in total; a new image of an index replaces the old one (R420). -/
def keepImage (kept : List Image) (img : Image) : List Image :=
  let others := kept.filter (fun k => k.idx != img.idx)
  let total := (others.map (fun k => k.bytes.length)).foldl (· + ·) img.bytes.length
  if total ≤ 8388608 then others ++ [img] else kept

/-- An assembly ends without its image: the loader reports its own member's as INCOMPLETE (R419). -/
def State.asmLost (s : State) (idx : Nat) : State :=
  let s : State := { s with boot := { s.boot with asm := smMod asmDefault s.boot.asm idx (fun a => { a with bytes := [], len := 0 }) } }
  s.cond (s.stateCode == stBISQUE && idx == memberCode s.member) (fun s => s.wr R.FW.BOOT_ERR beINCOMPLETE)

/-- A complete image: kept for the subtree, and verified when the loader waits for it (R419, R420). -/
def State.asmDone (s : State) (img : Image) : State :=
  let s : State := { s with boot := { s.boot with asm := smMod asmDefault s.boot.asm img.idx (fun a => { a with bytes := [], len := 0 }), kept := keepImage s.boot.kept img } }
  if s.loaderWaits ∧ img.idx = memberCode s.member then { s with boot := { s.boot with verifying := some img } } else s

/-- A chunk goes on a broadcast that was cut off: that one moves on and ends with its last chunk (R428). -/
def passStale (c : BootChunk) (stale : List (Nat × Nat)) : List (Nat × Nat) :=
  let rest := delFirst (· == (c.off, c.imgLen)) stale
  if c.last then rest else rest ++ [(c.off + c.data.length, c.imgLen)]

/-- A chunk that continues its assembly: the next one in order, one of an earlier broadcast, which the assembly ignores, or a gap that ends it
    (R419, R428; log 208). -/
def State.asmTake (s : State) (a : BootAsm) (c : BootChunk) : State :=
  if c.off ≠ a.bytes.length ∨ c.imgLen ≠ a.len then
    if a.stale.contains (c.off, c.imgLen) then
      { s with boot := { s.boot with asm := smSet asmDefault s.boot.asm c.idx { a with stale := passStale c a.stale } } }
    else s.asmLost c.idx
  else
    let bytes := a.bytes ++ c.data
    if c.last then (if bytes.length = a.len then s.asmDone { idx := c.idx, bytes := bytes } else s.asmLost c.idx)
    else { s with boot := { s.boot with asm := smSet asmDefault s.boot.asm c.idx { a with bytes := bytes } } }

/-- BOOT_CHUNK_RECEIVE: FIRST starts a new assembly, and an unfinished one ends INCOMPLETE; other chunks without one are ignored
    (R419, R420, R428). -/
def bootChunkFx (c : BootChunk) (s : State) : State :=
  let a := smGet asmDefault s.boot.asm c.idx
  let open_ : Bool := !a.bytes.isEmpty
  if c.first then
    let stale := if open_ then a.stale ++ [(a.bytes.length, a.len)] else a.stale
    (s.cond open_ (fun s => s.asmLost c.idx)).asmTake { bytes := [], len := c.imgLen, stale := stale } c
  else s.cond open_ (fun s => s.asmTake a c)

/-- BOOT_CHUNK_RECEIVE (R419): a tile before its first tick; from then on BOOT is discarded (R422). -/
def execBootChunkReceive (port : Nat) (c : BootChunk) (s : State) : Host.Outcome State Fault Refusal :=
  .next (s.start.cond (s.role == .tile && decide (port < 2) && s.isUp port && (s.stateCode == stBISQUE || s.running) && !s.frm.ticked) (bootChunkFx c))

/-- The first tick of a tile ends boot mode: each port takes the use of its applied EN, and images of other members go (R420). -/
def State.leaveBoot (s : State) : State :=
  let s : State := { s with boot := { s.boot with bootMode := false,
                                                  kept := s.boot.kept.filter (fun k => k.idx == memberCode s.member) } }
  (s.each (s.ports.filter (fun p => decide (2 ≤ p) && !s.lvB (R.COIL.EN p))) State.switchOff).showRoles

/-! Peer boot (R422). -/

/-- A port on which a tile peer boots: of its pair or an enabled sub-coil port, whose partner reports role REPEATER (R422). -/
def State.peerPort (s : State) (p : Nat) : Bool :=
  s.isTile && s.frm.ticked && s.portOn p && s.flag R.FW.PEER_BOOT && s.flag (R.COIL.PARTNER_VALID p) &&
    s.rd (R.COIL.PARTNER_ROLE p) == 5

/-- PEER_BOOT_BROADCAST: a broadcast of the running image begins and counts (R422). -/
def peerBootFx (port : Nat) (s : State) : State :=
  let s : State := { s with boot := { s.boot with peer := (port, 0) :: s.boot.peer.filter (fun (q : Nat × Nat) => q.1 != port) } }
  s.inc R.FW.CNT_PEER_BOOT

/-- PEER_BOOT_BROADCAST (R422). -/
def execPeerBootBroadcast (port t : Nat) (s : State) : Host.Outcome State Fault Refusal :=
  .next ((s.atTime t).cond (s.peerPort port && s.canSend port) (peerBootFx port))

/-- PEER_BOOT_CHUNK: the next chunk of a peer boot, while no BAND packet waits at that egress; the last one raises PEER_BOOTED
    (R422). -/
def peerChunkFx (port : Nat) (s : State) : State :=
  match s.boot.peer.find? (fun (q : Nat × Nat) => q.1 == port) with
  | none => s
  | some q =>
    let chunks := bootChunks { s.boot.running with idx := memberCode s.member }
    let rest := s.boot.peer.filter (fun (x : Nat × Nat) => x.1 != port)
    match chunks[q.2]? with
    | none => { s with boot := { s.boot with peer := rest } }
    | some c =>
      let s := s.send none (.boot port c)
      if c.last then ({ s with boot := { s.boot with peer := rest } } : State).raise R.FW.ev_PEER_BOOTED
      else { s with boot := { s.boot with peer := (port, q.2 + 1) :: rest } }

/-- PEER_BOOT_CHUNK (R422). -/
def execPeerBootChunk (port : Nat) (s : State) : Host.Outcome State Fault Refusal :=
  .next (s.start.cond (s.isTile && s.canSend port && !s.waits port ptBAND) (peerChunkFx port))

/-! Live update (R424 to R427). -/

/-- Values of UPD_STATE (R429). -/
def upIDLE : Nat := 0
def upAPPLYING : Nat := 1
def upREADY : Nat := 2
def upGREEN : Nat := 3
def upFIRED : Nat := 4
def upREVERTED : Nat := 5
def upFAILED : Nat := 6

/-- The delta as staged: in DRAM at UPD_BASE for a sender, in table 0 for a tile (R424). -/
def State.stagedDelta (s : State) : List Byte :=
  let n := s.rd R.FW.UPD_LEN
  match s.role with
  | .sender => s.dramBytes (s.rd R.FW.UPD_BASE) (min n 8388608)
  | .tile => (List.range (min n 524288)).map (fun i => BitVec.ofNat 8 (s.immByte 0x100 0 i))

/-- A write of UPD_GO starts the reconstruction, or is refused while one runs, is ready or is greenware, and in BISQUE (R424). The delta is
    read then (log 133); one that reads back poisoned is not used (14 R385). -/
def updGoFx (s : State) : State :=
  let u := s.rd R.FW.UPD_STATE
  if !s.running || u == upAPPLYING || u == upREADY || u == upGREEN then s.wr R.FW.UPD_REFUSED 1
  else
    let s := (s.wr R.FW.UPD_REFUSED 0).wr R.FW.UPD_STATE upAPPLYING
    let a := s.rd R.FW.UPD_BASE
    let n := min (s.rd R.FW.UPD_LEN) 8388608
    let s : State := { s with boot := { s.boot with delta := s.stagedDelta, deltaBad := s.role == .sender && s.unsound a n } }
    s.cond (s.role == .sender) (fun s => s.readUe a n)

/-- UPD_GO (R424). -/
def execUpdGo (s : State) : Host.Outcome State Fault Refusal := .next (s.start.cond (s.pageOn 0x100) updGoFx)

/-- The update ends as FAILED with a code; the banks are untouched (R424). -/
def State.updFail (s : State) (code : Nat) : State :=
  ((s.wr R.FW.BOOT_ERR code).wr R.FW.UPD_STATE upFAILED).incRaise R.FW.CNT_UPD_FAILED R.FW.ev_UPD_FAILED

/-- UPD_RECONSTRUCT_DONE: the image is in the inactive banks and verified, or the update failed. The code of a delta based on another
    version, of a failed reconstruction, or of a poisoned delta, is not stated (R424, log 10). -/
def updDoneFx (s : State) : State :=
  let base : Bool := Config.deltaBase s.boot.delta == imgVersion s.boot.running.bytes
  match (if base && !s.boot.deltaBad then Config.reconstruct s.boot.running.bytes s.boot.delta else none) with
  | none =>
    let (code, s) := s.fresh
    s.updFail (code % 16)
  | some b =>
    let code := verifyImage s.role s.member b
    if code ≠ 0 then s.updFail code
    else
      let s : State := { s with boot := { s.boot with other := some { idx := s.boot.running.idx, bytes := b } } }
      (((s.wr R.FW.BOOT_ERR 0).showBanks).wr R.FW.UPD_STATE upREADY).raise R.FW.ev_UPD_READY

/-- UPD_RECONSTRUCT_DONE (R424). -/
def execUpdReconstructDone (s : State) : Host.Outcome State Fault Refusal :=
  .next (s.start.cond (s.running && s.rd R.FW.UPD_STATE == upAPPLYING) updDoneFx)

/-- The other banks run: BANK toggles and the versions follow (R425, R426). -/
def State.swapBanks (s : State) : State :=
  match s.boot.other with
  | none => s
  | some i =>
    let s : State := { s with boot := { s.boot with running := i, other := some s.boot.running } }
    (s.wr R.FW.BANK (1 - s.rd R.FW.BANK)).showBanks

/-- A commit that toggles ACTIVATE has applied: every core runs its inactive bank, as greenware (R425, R426). -/
def State.bankApplied (s old : State) : State :=
  if s.lv R.FW.ACTIVATE = old.lv R.FW.ACTIVATE ∨ s.rd R.FW.UPD_STATE ≠ upREADY then s
  else
    let s : State := { s with boot := { s.boot with greenFrom := s.time, revertDue := false, trialOver := false } }
    ((((s.swapBanks).wr R.FW.GREEN 1).wr R.FW.UPD_STATE upGREEN).wr R.FW.CONFIRM_LEFT (s.lv R.FW.CONFIRM_SECS)).raise
      R.FW.ev_SWITCHED

/-- CONFIRM_LEFT: seconds left of CONFIRM_SECS while the image is greenware (R426). -/
def State.confirmLeft (s : State) : Nat :=
  if s.flag R.FW.GREEN then s.rd R.FW.CONFIRM_LEFT - (s.time - s.boot.greenFrom) / sec1 else s.rd R.FW.CONFIRM_LEFT

/-- FW_HEALTH_WRITE: within the window the image is fired, and the record is rewritten with defaults where the image it replaced has another
    settings format; after the window has closed the write is ignored (R426, R427). -/
def healthFx (v : Word32) (s : State) : State :=
  if s.flag R.FW.GREEN then
    if s.boot.revertDue then s
    else
      let s := ((((s.wr R.FW.CONFIRM_LEFT s.confirmLeft).wr R.FW.GREEN 0).wr R.FW.HEALTH v.toNat).wr R.FW.UPD_STATE upFIRED).raise
        R.FW.ev_FIRED
      let s : State := { s with boot := { s.boot with trialOver := true } }
      s.cond (s.boot.other.any (fun i => imgSettings i.bytes != imgSettings s.boot.running.bytes)) (fun s => s.fgPut .defaults)
  else s.cond (!s.boot.trialOver) (fun s => s.wr R.FW.HEALTH v.toNat)

/-- FW_HEALTH_WRITE (R426). -/
def execFwHealthWrite (v : Word32) (s : State) : Host.Outcome State Fault Refusal := .next (s.start.cond s.running (healthFx v))

/-- The greenware image gives way at the next tick (R426). -/
def revertFx (s : State) : State := s.cond (s.flag R.FW.GREEN) (fun s => { s with boot := { s.boot with revertDue := true } })

/-- CONFIRM_EXPIRY: CONFIRM_LEFT has reached 0 before HEALTH was written (R426). -/
def execConfirmExpiry (s : State) : Host.Outcome State Fault Refusal := .next (s.start.cond s.running revertFx)

/-- REVERT: written while the image is greenware (R426). -/
def execRevert (s : State) : Host.Outcome State Fault Refusal := .next (s.start.cond (s.pageOn 0x100) revertFx)

/-- The revert at a tick: the old banks run again (R426). -/
def State.revertTick (s : State) : State :=
  if !s.boot.revertDue then s
  else
    let s : State := { s with boot := { s.boot with revertDue := false, trialOver := true } }
    ((((s.swapBanks).wr R.FW.GREEN 0).wr R.FW.CONFIRM_LEFT 0).wr R.FW.UPD_STATE upREVERTED).incRaise R.FW.CNT_REVERT R.FW.ev_REVERTED

/-- Commit checks of the FW page: CONFIRM_SECS, and a toggle of ACTIVATE while no image is ready (R425, R429). -/
def State.checkFw (s : State) (g : Fld → Nat) : List CfgErr :=
  let err (bad : Bool) (f : Fld) : List CfgErr := if bad then [{ page := f.page, code := 1, off := f.off }] else []
  err (decide (g R.FW.CONFIRM_SECS < 5 ∨ 600 < g R.FW.CONFIRM_SECS)) R.FW.CONFIRM_SECS ++
  err (g R.FW.ACTIVATE != s.lv R.FW.ACTIVATE && s.rd R.FW.UPD_STATE != upREADY) R.FW.ACTIVATE

end Sys2Proof.Machine
end

