-- ==== Sys2Proof/Machine/Dec.lean ====
section
/-!
DEFINITION. The stream decoder: the bitstream ring, shedding, concealment, output processing and delivery (07 R161 to R183). The decoding
of slice data is that of ITU-T H.265; the decoded samples of a picture come with the command.
-/

namespace Sys2Proof.Machine

/-- DSTATE codes (07 R183). -/
def dsAWAIT : Nat := 1
def dsRUN : Nat := 2
def dsSKIP : Nat := 3
def dsUNSUPPORTED : Nat := 4
def dsFORMAT : Nat := 5

/-- What an unlisted stream holds. -/
def decDefaultSt : Nat → DecSt := fun _ => {}

/-- The record of a stream. -/
def State.decSt (s : State) (n : Nat) : DecSt := smGet decDefaultSt s.dec.st n

/-- Change it. -/
def State.modDec (s : State) (n : Nat) (f : DecSt → DecSt) : State :=
  { s with dec := { s.dec with st := smMod decDefaultSt s.dec.st n f } }

/-- The decoder serves this stream: enabled, KIND 3 (07 R183). -/
def State.decOn (s : State) (n : Nat) : Bool := decide (n < 16) && s.lvB (R.STR.EN n) && s.lv (R.STR.KIND n) == 3

/-- An event of a stream is raised, and LAST_STREAM names it (07 R183). -/
def State.decRaise (s : State) (n : Nat) (e : Evt) : State := (s.wr R.DEC.LAST_STREAM n).raise e

/-- The stream is in SKIP: the receiver discards, or the IRAP at which it restarts has not been taken up (07 R163, R169, R174). -/
def DecSt.inSkip (d : DecSt) : Bool := d.skip || d.cur.restart || d.aus.any Au.restart

/-- DSTATE of a stream, with its RUNNING bit: an SPS that it cannot decode, SKIP, the wait for its first IRAP, or running (07 R162, R163, R174,
    R183). -/
def State.showDstate (s : State) (n : Nat) : State :=
  let d := s.decSt n
  let st := if !s.decOn n then 0 else if d.verdict ≠ 0 then d.verdict else if d.inSkip then dsSKIP else if d.started then dsRUN else dsAWAIT
  (s.wr (R.DEC.DSTATE n) st).wr R.DEC.RUNNING (withBit (s.rd R.DEC.RUNNING) n (st == dsRUN))

/-- BACKLOG shows the access units in the ring (07 R169, R183). -/
def State.showBacklog (s : State) (n : Nat) : State := s.wr (R.DEC.BACKLOG n) (min (s.decSt n).aus.length 255)

/-! Shedding (07 R169). -/

/-- A LIVE stream sheds, or no longer does; OVERLOAD, which names the stream that began to (07 R169, R183). -/
def State.setShedding (s : State) (n : Nat) (b : Bool) : State :=
  let on := b && s.lvB (R.STR.LIVE n)
  let l := s.dec.shedding.filter (· != n)
  let s := s.cond (on && s.dec.shedding.isEmpty) (fun s => s.wr R.DEC.LAST_STREAM n)
  let l := if on then n :: l else l
  let s : State := { s with dec := { s.dec with shedding := l } }
  (s.wrB R.DEC.st_OVERLOAD (l != [])).level R.DEC.ev_OVERLOAD (l != [])

/-- The highest TemporalId among the non-reference access units, if any. -/
def topTid : List Au → Option Nat
  | [] => none
  | a :: as =>
    match topTid as with
    | none => if a.nonRef then some a.tid else none
    | some t => some (if a.nonRef then max a.tid t else t)

/-- The access units that may be discarded: a picture that has reached its budget is in decode, and stays (07 R175). -/
def DecSt.open (d : DecSt) : List Au := d.aus.drop (b2n d.late)

/-- Other access units behind the picture in decode. -/
def DecSt.setOpen (d : DecSt) (l : List Au) : DecSt := { d with aus := d.aus.take (b2n d.late) ++ l }

/-- The stream enters SKIP: every undecoded access unit before the next IRAP goes and counts, beside the entry itself; the stream restarts at
    that IRAP (07 R169, R174; DEDUCED, log 181). -/
def State.skipToIrap (s : State) (n : Nat) : State :=
  let d := s.decSt n
  let gone := d.open.takeWhile (fun a => !a.irap)
  let s := (s.cond (!d.skip) (fun s => s.decRaise n R.DEC.ev_SKIP)).incBy R.DEC.CNT_SKIP (gone.length + 1)
  match d.open.drop gone.length with
  | a :: rest => s.modDec n (fun d => d.setOpen ({ a with restart := true } :: rest))
  | [] =>
    if d.cur.irap && !d.gone then s.modDec n (fun d => { d.setOpen [] with cur := { d.cur with restart := true } })
    else
      let lost := d.cur.vcl && !d.gone
      (s.cond lost (fun s => s.inc R.DEC.CNT_SKIP)).modDec n (fun d =>
        { d.setOpen [] with skip := true, gone := d.gone || lost, wp := if lost then d.cur.first else d.wp,
                            cur := if lost then { vcl := true } else d.cur })

/-- Shed until the backlog is DROP_THRESH or below: non-reference pictures, highest TemporalId first and oldest first, then the skip, unless
    the stream waits for its IRAP in SKIP already (07 R169). -/
def State.shed (s : State) (n : Nat) : Nat → State
  | 0 => s
  | fuel + 1 =>
    let d := s.decSt n
    if d.aus.length ≤ s.lv (R.DEC.DROP_THRESH n) then s
    else
      match topTid d.open with
      | some t =>
        let s := (s.inc (R.DEC.CNT_SHED n)).decRaise n R.DEC.ev_SHED
        (s.modDec n (fun d => d.setOpen (delFirst (fun a => a.nonRef && a.tid == t) d.open))).shed n fuel
      | none => if (d.open.getD 0 {}).restart then s else s.skipToIrap n

/-- A stream is above its threshold. -/
def State.behind (s : State) (n : Nat) : Bool := decide (s.lv (R.DEC.DROP_THRESH n) < (s.decSt n).aus.length)

/-- The backlog changed: a stream above its threshold sheds, and OVERLOAD holds while a LIVE one does and as long as it stays above
    (07 R169). -/
def State.backlog (s : State) (n : Nat) : State :=
  let s := s.cond (s.behind n) (fun s => (s.setShedding n true).shed n (s.decSt n).aus.length)
  ((s.setShedding n (s.behind n)).showBacklog n).showDstate n

/-! The bitstream ring (07 R163). -/

/-- Types of the NAL units that the rules name (ITU-T H.265; log 31). -/
def nalType (nal : List Byte) : Nat := leAt nal 0 1 / 2 % 64
def nalTid (nal : List Byte) : Nat := leAt nal 1 1 % 8 - 1
def isVcl (t : Nat) : Bool := decide (t < 32)
def isIrap (t : Nat) : Bool := decide (16 ≤ t ∧ t ≤ 23)
def isNonRef (t : Nat) : Bool := t == 0 || t == 2 || t == 4 || t == 6 || t == 8

/-- The bytes of a stream's ring. -/
def State.ringSize (s : State) (n : Nat) : Nat := s.lv (R.DEC.BS_SIZE n) * 4096

/-- Bytes in use: all from the oldest access unit that the ring holds. -/
def DecSt.used (d : DecSt) : Nat :=
  match d.aus with
  | a :: _ => d.wp - a.first
  | [] => d.cur.len

/-- The access unit in reception is whole; one that has been discarded is at its end (07 R163). -/
def State.auDone (s : State) (n : Nat) : State :=
  let d := s.decSt n
  if d.gone then s.modDec n (fun d => { d with gone := false, cur := {} })
  else if !d.cur.vcl then s
  else (s.modDec n (fun d => { d with aus := d.aus ++ [d.cur], cur := {} })).backlog n

/-- The pieces of a ring that `len` bytes from `first` on lie in, as offsets. -/
def ringPieces (size first len : Nat) : List (Nat × Nat) :=
  let p := first % size
  let k := min len (size - p)
  [(p, k), (0, len - k)]

/-- The bytes of a NAL unit land in the ring. -/
def State.ringStore (s : State) (n : Nat) (nal : List Byte) : State :=
  let wp := (s.decSt n).wp
  let room := s.ringSize n - wp % s.ringSize n
  let s := (s.dramStore (s.lv (R.DEC.BS_BASE n) + wp % s.ringSize n) (nal.take room)).dramStore (s.lv (R.DEC.BS_BASE n)) (nal.drop room)
  s.modDec n (fun d => { d with
    wp := wp + nal.length, cur := { d.cur with first := if d.cur.len = 0 then wp else d.cur.first, len := d.cur.len + nal.length } })

/-- The decoder reads an access unit from the ring; the answer tells that some of it came back poisoned, and so read 0 (14 R381, R385). -/
def State.auRead (s : State) (n : Nat) (a : Au) : State × Bool :=
  let parts := (ringPieces (s.ringSize n) a.first a.len).map (fun p => (s.lv (R.DEC.BS_BASE n) + p.1, p.2))
  (s.each parts (fun s p => s.readUe p.1 p.2), parts.any (fun p => s.unsound p.1 p.2))

/-- A slice begins or goes on with an access unit; `whole` tells that the slice is in the ring, not only its header data (07 R163, R177). -/
def State.sliceIn (s : State) (n : Nat) (nal : List Byte) (whole : Bool) : State :=
  let t := nalType nal
  s.modDec n (fun d => { d with cur := { d.cur with
    vcl := true, first := if d.cur.len = 0 then d.wp else d.cur.first, irap := d.cur.irap || isIrap t, nonRef := isNonRef t, tid := nalTid nal, slices := d.cur.slices + b2n whole } })

/-- The first slice of a picture: the access unit before it is whole. -/
def firstSlice (nal : List Byte) : Bool := isVcl (nalType nal) && (leAt nal 2 1).testBit 7

/-- The first slice of a picture ends an access unit that has slices. -/
def State.auNext (s : State) (n : Nat) (nal : List Byte) : State :=
  s.cond (firstSlice nal && (s.decSt n).cur.vcl) (fun s => s.auDone n)

/-- A NAL unit is written, or discarded on overflow, which puts the stream in SKIP; the access unit that it belongs to is discarded with it
    (07 R163, R182, R183). -/
def State.ringPut (s : State) (n : Nat) (nal : List Byte) : State :=
  if s.ringSize n < (s.decSt n).used + nal.length then
    let s := (s.inc R.DEC.CNT_BS_OVERFLOW).decRaise n R.DEC.ev_BS_OVERFLOW
    let s := (s.cond (!(s.decSt n).inSkip) (fun s => s.decRaise n R.DEC.ev_SKIP)).inc R.DEC.CNT_SKIP
    (s.modDec n (fun d => { d with
      skip := true, gone := true, held := [], wp := if d.cur.len = 0 then d.wp else d.cur.first,
      cur := { vcl := d.cur.vcl || isVcl (nalType nal) } })).showDstate n
  else
    let s := s.ringStore n nal
    s.cond (isVcl (nalType nal)) (fun s => s.sliceIn n nal true)

/-- A slice that comes in SKIP: that of an IRAP access unit ends the discarding, and the NAL units before it that belong to that unit are
    written; any other access unit is discarded and counts once (07 R163, R174). -/
def State.skipSlice (s : State) (n : Nat) (nal : List Byte) : State :=
  let d := s.decSt n
  if !d.skip || d.gone || !isVcl (nalType nal) then s
  else if isIrap (nalType nal) then
    (s.modDec n (fun d => { d with skip := false, held := [], cur := { d.cur with restart := true } })).each d.held (fun s x =>
      s.cond (!(s.decSt n).skip) (fun s => s.ringPut n x))
  else (s.inc R.DEC.CNT_SKIP).modDec n (fun d => { d with
    gone := true, held := [], wp := if d.cur.len = 0 then d.wp else d.cur.first, cur := {} })

/-- A complete NAL unit from the receiver. In SKIP those before the next IRAP access unit are discarded, and so is what follows of an access
    unit that was discarded (07 R163, R174). -/
def State.nalIn (s : State) (n : Nat) (nal : List Byte) : State :=
  let s := (s.auNext n nal).skipSlice n nal
  let d := s.decSt n
  if d.gone then s.modDec n (fun d => { d with cur := { d.cur with vcl := d.cur.vcl || isVcl (nalType nal) } })
  else if d.skip then s.modDec n (fun d => { d with held := d.held ++ [nal] })
  else s.ringPut n nal

/-- A slice of which a fragment was lost is discarded whole; its picture is known by the header data that arrived (07 R163, R177). -/
def State.sliceLost (s : State) (n : Nat) (nal : List Byte) : State :=
  if !isVcl (nalType nal) then s
  else
    let s := (s.auNext n nal).skipSlice n nal
    if (s.decSt n).gone || (s.decSt n).skip then s.modDec n (fun d => { d with cur := { d.cur with vcl := true } })
    else s.sliceIn n nal false

/-- The NAL units of an aggregation packet's body: a 16-bit size before each, most significant byte first (RFC 7798; log 31). -/
def aggregated : Nat → List Byte → List (List Byte)
  | 0, _ => []
  | fuel + 1, bs =>
    if bs.length < 3 then []
    else
      let k := 256 * leAt bs 0 1 + leAt bs 1 1
      (bs.drop 2).take k :: aggregated fuel (bs.drop (2 + k))

/-- The header of a fragmented NAL unit: the payload header with the fragment's type (RFC 7798; log 31). -/
def fragHeader (body : List Byte) : List Byte :=
  leBytes 1 (leAt body 0 1 / 128 * 128 + leAt body 2 1 % 64 * 2 + leAt body 0 1 % 2) ++ (body.drop 1).take 1

/-- A packet of a kind 3 stream in order: single NAL unit, aggregation packet (48) or fragmentation unit (49); `gap`: the number before
    it was lost on both legs, and the NAL unit that lacks a fragment is discarded whole (06 R143, 07 R163). The marker and another
    timestamp end the access unit (RFC 7798; log 31). -/
def State.depacket (s : State) (n : Nat) (r : Rtp) (gap : Bool) : State :=
  let s := match gap, (s.decSt n).frag with
    | true, some nal => (s.modDec n (fun d => { d with frag := none })).sliceLost n nal
    | _, _ => s
  let s := (s.cond ((s.decSt n).ts != some r.ts) (fun s => s.auDone n)).modDec n (fun d => { d with ts := some r.ts })
  let t := nalType r.body
  let s :=
    if t = 48 then s.each (aggregated r.body.length (r.body.drop 2)) (fun s nal => s.nalIn n nal)
    else if t = 49 then
      let h := leAt r.body 2 1
      let d := r.body.drop 3
      let frag := if h.testBit 7 then some (fragHeader r.body ++ d) else (s.decSt n).frag.map (· ++ d)
      if h.testBit 6 then
        match frag with
        | none => s.modDec n (fun x => { x with frag := none })
        | some nal => (s.modDec n (fun x => { x with frag := none })).nalIn n nal
      else s.modDec n (fun x => { x with frag := frag })
    else s.nalIn n r.body
  s.cond r.marker (fun s => s.auDone n)

/-! Flush and restart (07 R174, R179, R181). -/

/-- A stream is flushed: it starts anew at its next IRAP; its surface ring and signalled fences stay (07 R174, R181). -/
def State.decFlush (s : State) (n : Nat) : State :=
  let s : State := { s with dec := { s.dec with st := smSet decDefaultSt s.dec.st n { wp := (s.decSt n).wp } } }
  (((s.showDstate n).wr (R.DEC.DPB_USED n) 0).setShedding n false).showBacklog n

/-- A write of 1 bits to DEC.CTRL.FLUSH (07 R181). -/
def decFlushFx (v : Word32) (s : State) : State :=
  s.each ((List.range 16).filter (fun n => v.toNat.testBit n && s.decOn n)) (fun s n => s.decFlush n)

/-- DEC_FLUSH (07 R181). -/
def execDecFlush (v : Word32) (s : State) : Host.Outcome State Fault Refusal := .next (s.start.cond s.isSender (decFlushFx v))

/-- DEC_CORE_TIMEOUT: the control core is reset and every stream is flushed (07 R179). -/
def execDecCoreTimeout (s : State) : Host.Outcome State Fault Refusal :=
  .next (s.start.cond s.isSender (fun s =>
    (s.each ((List.range 16).filter s.decOn) (fun s n => s.decFlush n)).incRaise R.DEC.CNT_RESTART R.DEC.ev_DEC_RESTART))

/-- DECODE_BUDGET_EXPIRY: the picture in decode is stopped; it counts once (07 R175, R182). -/
def execDecodeBudgetExpiry (stream : Nat) (s : State) : Host.Outcome State Fault Refusal :=
  .next (s.start.cond (s.isSender && s.decOn stream && !(s.decSt stream).late && !(s.decSt stream).aus.isEmpty) (fun s =>
    ((s.modDec stream (fun d => { d with late := true })).inc (R.DEC.CNT_BUDGET stream)).decRaise stream R.DEC.ev_BUDGET))

/-! The DPB and the SPS (07 R161 to R164). -/

/-- 4 KiB units of one stored picture (07 R164). -/
def dpbUnits (sps : Sps) : Nat :=
  ceilDiv (ceilDiv sps.width 64 * 64 * sps.height * (if sps.chroma = 0 then 2 else if sps.chroma = 1 then 3 else 4)) 4096

/-- The stream's DPB holds what the SPS needs (07 R164). -/
def State.dpbFits (s : State) (n : Nat) (sps : Sps) : Bool :=
  decide ((sps.decBufMinus1 + 2) * dpbUnits sps ≤ s.lv (R.DEC.DPB_SIZE n))

/-- Chroma and bit depth that a profile allows (07 R161). -/
def profileOk (sps : Sps) : Bool :=
  match sps.profile with
  | 1 => sps.chroma == 1 && sps.depth == 8
  | 2 => sps.chroma == 1 && (sps.depth == 8 || sps.depth == 10)
  | 4 => sps.main422 && decide (sps.chroma ≤ 2) && (sps.depth == 8 || sps.depth == 10)
  | _ => false

/-- The SPS is one that the decoder supports, under the SCAN of its stream (07 R161). -/
def spsOk (scan : Nat) (sps : Sps) : Bool :=
  profileOk sps && !sps.otherTools && sps.chromaLoc == 0 && (!sps.fields || scan == 1) &&
    decide (sps.tier ≤ 1 ∧ sps.level ≤ 186 ∧ 64 ≤ sps.width ∧ sps.width ≤ 8192 ∧ 64 ≤ sps.height ∧ sps.height ≤ 8192 ∧
      sps.width * sps.height ≤ 35651584)

/-- The SPS is activated by an IRAP picture (07 R162). -/
def State.activate (s : State) (n : Nat) (sps : Sps) : State :=
  let h := if s.lv (R.STR.SCAN n) = 1 then s.lv (R.STR.HEIGHT n) / 2 else s.lv (R.STR.HEIGHT n)
  let s := ((((s.wr (R.DEC.CHROMA n) sps.chroma).wrB (R.DEC.DEPTH10 n) (sps.depth == 10)).wr (R.DEC.PROFILE n) sps.profile).wr
    (R.DEC.TIER n) sps.tier).wr (R.DEC.LEVEL n) sps.level
  let was := (s.decSt n).verdict
  let put (v : Nat) (s : State) : State := (s.modDec n (fun d => { d with verdict := v })).showDstate n
  if !spsOk (s.lv (R.STR.SCAN n)) sps || !s.dpbFits n sps then
    put dsUNSUPPORTED (s.cond (was != dsUNSUPPORTED) (fun s => (s.inc R.DEC.CNT_UNSUPPORTED).decRaise n R.DEC.ev_UNSUPPORTED))
  else if sps.width ≠ s.lv (R.STR.WIDTH n) ∨ sps.height ≠ h then put dsFORMAT (s.cond (was != dsFORMAT) (fun s => s.decRaise n R.DEC.ev_FORMAT))
  else put 0 s

/-! Concealment (07 R175 to R178). -/

/-- Planes of 10-bit samples. -/
abbrev Planes := List (List Int) × List (List Int) × List (List Int)

/-- A sample of the substitute picture: of the most recent decoded picture, else mid-grey (07 R176). -/
def substitute (last : Option (List (List Int))) (x y : Nat) : Int :=
  match last with
  | none => 512
  | some rows => (rows.getD y []).getD x 512

/-- A plane with the samples of its uncovered CTUs copied from the substitute; a CTU spans `cw` by `ch` samples of the plane
    (07 R177). -/
def patchPlane (bad : List (Nat × Nat)) (ctu dx dy : Nat) (last : Option (List (List Int))) (rows : List (List Int)) :
    List (List Int) :=
  (List.range rows.length).map (fun y =>
    let row := rows.getD y []
    (List.range row.length).map (fun x =>
      if bad.any (fun c => decide (c.1 ≤ x * dx ∧ x * dx < c.1 + ctu ∧ c.2 ≤ y * dy ∧ y * dy < c.2 + ctu)) then substitute last x y
      else row.getD x 0))

/-- Samples widened to 10 bits (07 R170 step 1). -/
def widen (depth10 : Bool) (rows : List (List Nat)) : List (List Int) :=
  rows.map (fun r => r.map (fun (v : Nat) => if depth10 then (v : Int) else 4 * (v : Int)))

/-- A plane of a whole picture, of mid-grey. -/
def greyPlane (w h : Nat) : List (List Int) := List.replicate h (List.replicate w 512)

/-- Columns and lines of a chroma plane (07 R161). -/
def chromaSize (sps : Sps) : Nat × Nat :=
  if sps.chroma = 0 then (0, 0) else (ceilDiv sps.width 2, if sps.chroma = 1 then ceilDiv sps.height 2 else sps.height)

/-- The substitute picture: the most recent decoded picture in output order, that of the highest picture order count of its sequence, else
    mid-grey (07 R176; DEDUCED, log 183). -/
def substitutePlanes (sps : Sps) (last : Option Planes) : Planes :=
  let c := chromaSize sps
  last.getD (greyPlane sps.width sps.height, greyPlane c.1 c.2, greyPlane c.1 c.2)

/-- The picture as decoded or concealed; one without a whole slice is the substitute (07 R177). -/
def decPlanes (p : DecPic) (slices : Nat) (last : Option Planes) : Planes :=
  if slices = 0 then substitutePlanes p.sps last
  else
    let dx := if p.sps.chroma = 0 then 1 else 2
    let dy := if p.sps.chroma = 1 then 2 else 1
    let wide := widen (p.sps.depth == 10)
    (patchPlane p.badCtus p.ctu 1 1 (last.map (·.1)) (wide p.luma), patchPlane p.badCtus p.ctu dx dy (last.map (·.2.1)) (wide p.cb),
     patchPlane p.badCtus p.ctu dx dy (last.map (·.2.2)) (wide p.cr))

/-! Output processing (07 R170 to R172). -/

/-- A line of rows with the edge lines repeated. -/
def clampRow (rows : List (List Int)) (i : Int) : List Int := rows.getD (clampInt i 0 (rows.length - 1)).toNat []

/-- clip(x, 0, 1023). -/
def clip10 (x : Int) : Int := clampInt x 0 1023

/-- Luma line y of vertically upsampled chroma (07 R170 step 2). -/
def chromaUp (rows : List (List Int)) (y : Nat) : List Int :=
  let m : Int := (y / 2 : Nat)
  let taps : List (Int × Int) :=
    if y % 2 = 0 then [(-1, m - 2), (7, m - 1), (28, m), (-2, m + 1)] else [(-2, m - 1), (28, m), (7, m + 1), (-1, m + 2)]
  (List.range (clampRow rows m).length).map (fun x =>
    clip10 (shrInt ((taps.map (fun t => t.1 * (clampRow rows t.2).getD x 0)).foldl (· + ·) 0 + 16) 5))

/-- A chroma plane at 4:4:4 of a picture of `w` by `h` luma samples; a sum that is no whole number of sixteenths becomes one of the two
    values beside it (07 R170 steps 1 to 3; log 104). -/
def chromaPlane (chroma w h : Nat) (rows : List (List Int)) : List (List Int) :=
  if chroma = 0 then List.replicate h (List.replicate w 512)
  else
    let rows := if chroma = 1 then (List.range h).map (chromaUp rows) else rows
    rows.map (fun r => (List.range w).map (fun x =>
      let v := chroma444 r x
      clip10 (v / 16 + (if v % 16 ≠ 0 ∧ Config.chromaRoundUp v = true then 1 else 0))))

/-- A coefficient of the decoder's scaler (07 R173). -/
def State.decCoef (s : State) (set phi j : Nat) : Int :=
  signedOf 16 (fieldOf (s.tabW 0x030 0 (128 * set + 2 * phi + j / 2)) (16 * (j % 2)) 16)

/-- One scaled line or column (07 R171). -/
def State.decScale (s : State) (set nOut : Nat) (xs : List Int) : List Int :=
  let step := xs.length * 65536 / nOut
  (List.range nOut).map (fun i =>
    let p : Int := ((i * step + step / 2 : Nat) : Int) - 32768
    let k := shrInt p 16
    let phi := (p % 65536).toNat / 1024
    clip10 (shrInt (((List.range 4).map (fun j => s.decCoef set phi j * clampGet xs (k - 1 + j))).foldl (· + ·) 0 + 512) 10))

/-- Rows as columns. -/
def transpose (w : Nat) (rows : List (List Int)) : List (List Int) :=
  (List.range w).map (fun x => rows.map (fun r => r.getD x 0))

/-- Scaling of a plane, horizontal pass first (07 R171). -/
def State.decScalePlane (s : State) (n : Nat) (rows : List (List Int)) : List (List Int) :=
  if !s.lvB (R.DEC.SCALE_EN n) then rows
  else
    let w := s.lv (R.DEC.OUT_W n)
    let h := s.lv (R.DEC.OUT_H n)
    let rows := rows.map (s.decScale (s.lv (R.DEC.HSET n)) w)
    let cols := (transpose w rows).map (s.decScale (s.lv (R.DEC.VSET n)) h)
    transpose h cols

/-- Rotation clockwise by `rot` quarter turns (07 R172). -/
def rotate (rot : Nat) (rows : List (List Int)) : List (List Int) :=
  let w := (rows.getD 0 []).length
  match rot with
  | 0 => rows
  | 1 => (transpose w rows).map List.reverse
  | 2 => (rows.map List.reverse).reverse
  | _ => (transpose w rows).reverse

/-- The size of a decoded stream's surface (07 R165, R170 to R172), from a configuration. -/
def decSize (g : Fld → Nat) (n : Nat) : Nat × Nat :=
  let w := if g (R.DEC.SCALE_EN n) = 1 then g (R.DEC.OUT_W n) else g (R.STR.WIDTH n)
  let h := if g (R.DEC.SCALE_EN n) = 1 then g (R.DEC.OUT_H n) else g (R.STR.HEIGHT n)
  if g (R.DEC.ROT n) % 2 = 1 then (h, w) else (w, h)

/-- How the pictures of a stream are converted (06 R154, 07 R162). -/
def State.strConv (s : State) (n : Nat) (sampling depth : Nat) : Conv :=
  { sampling := sampling, depth := depth, full := s.lvB (R.STR.FULL n), tcs := s.lv (R.STR.TCS n), color := s.lv (R.STR.COLOR n),
    sdr := s.lv (R.STR.SDR_NITS n), hlg := s.lv (R.STR.HLG_NITS n), peak := s.lv R.CMP.PEAK_NITS }

/-- Steps 2 to 7 of R170 on a plane, up to the conversion. -/
def State.decPlane (s : State) (n : Nat) (bottom : Bool) (first : List Int) (rows : List (List Int)) : List (List Int) :=
  let rows := if s.lv (R.STR.SCAN n) = 1 then doubleField bottom (s.lv (R.STR.HEIGHT n)) first rows else rows
  rotate (s.lv (R.DEC.ROT n)) (s.decScalePlane n rows)

/-- The L20 rows of a decoded picture (07 R170). -/
def State.decRows (s : State) (n : Nat) (q : DpbPic) (pl : Planes) (open_ : Nat) : List (List Pixel) :=
  let w := q.sps.width
  let h := q.sps.height
  let first (k : Nat) : List Int := (List.range w).map (fun x => ((Config.freeVal (open_ + 3 * x + k) % 1024 : Nat) : Int))
  let y := s.decPlane n q.bottom (first 0) pl.1
  let cb := s.decPlane n q.bottom (first 1) (chromaPlane q.sps.chroma w h pl.2.1)
  let cr := s.decPlane n q.bottom (first 2) (chromaPlane q.sps.chroma w h pl.2.2)
  let c := s.strConv n 1 1
  (List.range y.length).map (fun i =>
    let r := y.getD i []
    (List.range r.length).map (fun x =>
      convSample c (r.getD x 0, 16 * (cb.getD i []).getD x 512, 16 * (cr.getD i []).getD x 512)))

/-! Delivery (06 R147, 07 R165). -/

/-- A stream's surface is ready: READY_IDX and the fences (06 R147). -/
def State.strReady (s : State) (n idx rtp : Nat) : State :=
  (((s.wr (R.STR.READY_IDX n) idx).wr (R.STR.READY_VALID n) 1).wr (R.STR.READY_RTP n) (rtp % 2 ^ 32)).signalStream n idx s.time

/-- A write of the decoder outside its bounds is suppressed and counts (07 R178). -/
def State.outOfBounds (s : State) (n k : Nat) : State :=
  s.cond (k != 0) (fun s => (s.incBy R.DEC.CNT_BOUNDS k).decRaise n R.DEC.ev_BOUNDS)

/-- A picture is marked CONCEALED: it counts once (07 R176, R183). -/
def State.concealed (s : State) (n : Nat) : State := (s.inc (R.DEC.CNT_CONCEALED n)).decRaise n R.DEC.ev_CONCEALED

/-- The layout of a stored picture: for luma, Cb and Cr the offset in bytes, the samples and lines, and the samples from line to line
    (07 R164; DESIGN CHOICE, log 182). -/
def dpbLayout (sps : Sps) : List (Nat × Nat × Nat × Nat) :=
  let w64 := ceilDiv sps.width 64 * 64
  let c := chromaSize sps
  let cb := 2 * w64 * sps.height
  [(0, sps.width, sps.height, w64), (cb, c.1, c.2, w64 / 2), (cb + w64 * c.2, c.1, c.2, w64 / 2)]

/-- Bytes that a picture takes in its place. -/
def dpbLength (sps : Sps) : Nat := 2 * (ceilDiv sps.width 64 * 64) * (sps.height + (chromaSize sps).2)

/-- The offset of a picture's place, and the bytes of it that lie in the stream's DPB (07 R164, R178). -/
def dpbPlace (sps : Sps) (slot : Nat) : Nat := slot * dpbUnits sps * 4096
def State.dpbRoom (s : State) (n : Nat) (sps : Sps) (slot : Nat) : Nat :=
  min (dpbLength sps) (s.lv (R.DEC.DPB_SIZE n) * 4096 - dpbPlace sps slot)

/-- A picture lies whole in the stream's DPB. -/
def State.dpbInside (s : State) (n : Nat) (sps : Sps) (slot : Nat) : Bool := s.dpbRoom n sps slot == dpbLength sps

/-- The 10-bit samples of a stored picture as DRAM gives them: what lies outside the DPB, or in a poisoned line, reads 0 (07 R164, R178;
    14 R385). -/
def State.dpbPlanes (s : State) (n : Nat) (q : DpbPic) : Planes :=
  let at_ := dpbPlace q.sps q.slot
  let room := s.dpbRoom n q.sps q.slot
  let plane (l : Nat × Nat × Nat × Nat) : List (List Int) := (List.range l.2.2.1).map (fun y =>
    let o := l.1 + 2 * l.2.2.2 * y
    let bs := s.dramBytes (s.lv (R.DEC.DPB_BASE n) + at_ + o) (min (2 * l.2.1) (room - o))
    (List.range l.2.1).map (fun x => ((leAt bs (2 * x) 2 * (if q.sps.depth = 10 then 1 else 4) : Nat) : Int)))
  match (dpbLayout q.sps).map plane with
  | [y, cb, cr] => (y, cb, cr)
  | _ => ([], [], [])

/-- The decoder reads a stored picture; the answer tells that some of it came back poisoned (14 R381, R385). -/
def State.dpbRead (s : State) (n : Nat) (q : DpbPic) : State × Bool :=
  let a := s.lv (R.DEC.DPB_BASE n) + dpbPlace q.sps q.slot
  let k := s.dpbRoom n q.sps q.slot
  (s.readUe a k, s.unsound a k)

/-- A decoded picture is output: the surface, its CONCEALED mark, the fence; or NOBUF (07 R165, R178, R180, R182). -/
def State.decOutput (s : State) (n : Nat) (q : DpbPic) : State :=
  match s.nextSurface n (s.lv (R.STR.BUF_COUNT n)) with
  | none => s.incRaise (R.STR.CNT_NOBUF n) (R.STR.ev_NOBUF n)
  | some i =>
    let (v, s) := s.fresh
    let size := decSize s.lv n
    let room := s.lv (R.STR.BUF_STRIDE n) * 4096
    let fits : Bool := decide (slabBytes size.1 size.2 ≤ room)
    let pl := s.dpbPlanes n q
    let (s, bad) := s.dpbRead n q
    let s := s.storeBlocks (s.lv (R.STR.BUF_BASE n) + i * room) size.1 size.2 (min (slabBytes size.1 size.2) room / 2048)
      (s.decRows n q pl v)
    let s := s.outOfBounds n (b2n (!fits))
    let s := s.cond (!q.conc && (bad || !fits)) (fun s => s.concealed n)
    let s := s.wr (R.DEC.CONC_MASK n) (withBit (s.rd (R.DEC.CONC_MASK n)) i (q.conc || bad || !fits))
    ((s.inc (R.DEC.CNT_PICTURES n)).wr (R.STR.STATE n) 3).strReady n i q.rtp

/-- A picture has been decoded: its samples count in LOAD for 100 ms (07 R168). -/
def State.noteLoad (s : State) (samples : Nat) : State :=
  { s with dec := { s.dec with recent := (s.time, samples) :: s.dec.recent.filter (fun x => decide (s.time < x.1 + 100 * ms1)) } }

/-- The luma samples delivered over the last 100 ms, in 10^6 a second (07 R168). -/
def State.decLoad (s : State) : Nat :=
  min (((s.dec.recent.filter (fun x => decide (s.time < x.1 + 100 * ms1))).map Prod.snd).sum * 10 / 1000000) 8191

/-! The DPB (07 R164, R166, R176). -/

/-- DPB_USED shows the pictures held. -/
def State.showDpb (s : State) (n : Nat) : State := s.wr (R.DEC.DPB_USED n) (min (s.decSt n).dpb.length 255)

/-- The first in output order of the pictures that wait for output. -/
def firstOut : List DpbPic → Option DpbPic
  | [] => none
  | q :: qs =>
    if !q.wait then firstOut qs
    else match firstOut qs with
      | none => some q
      | some r => if q.poc ≤ r.poc then some q else some r

/-- Bumping: the first picture in output order is output; it leaves the DPB unless it is a reference (07 R166). -/
def State.bump (s : State) (n : Nat) : State :=
  match firstOut (s.decSt n).dpb with
  | none => s
  | some q =>
    (s.decOutput n q).modDec n (fun d => { d with
      dpb := (d.dpb.map (fun x => if x.slot = q.slot then { x with wait := false } else x)).filter (fun x => x.wait || x.ref) })

/-- More pictures wait than the SPS reorders, or one has waited too long (07 R166). -/
def outputDue (sps : Sps) (dpb : List DpbPic) : Bool :=
  let w := dpb.filter DpbPic.wait
  decide (sps.reorder < w.length) ||
    (sps.latencyPlus1 != 0 && w.any (fun q => decide (sps.reorder + sps.latencyPlus1 - 1 ≤ q.latency)))

/-- Bump as long as output is due, or, where `full`, the DPB has no place for another picture (07 R166). -/
def State.bumpWhile (s : State) (n : Nat) (sps : Sps) (full : Bool) : Nat → State
  | 0 => s
  | fuel + 1 =>
    let dpb := (s.decSt n).dpb
    if outputDue sps dpb || (full && decide (sps.decBufMinus1 + 1 ≤ dpb.length) && dpb.any DpbPic.wait) then
      (s.bump n).bumpWhile n sps full fuel
    else s

/-- Every picture that waits is output, and the DPB is empty. -/
def State.bumpAll (s : State) (n : Nat) : State :=
  ((s.each (s.decSt n).dpb (fun s _ => s.bump n)).modDec n (fun d => { d with dpb := [] })).showDpb n

/-- Before a picture: at the start of a coded video sequence the DPB empties, with output unless the bitstream says otherwise; else the
    pictures outside its reference picture set stop being references, and what is due is output (07 R166). -/
def State.dpbBefore (s : State) (n : Nat) (p : DecPic) (start : Bool) : State :=
  if start then (if p.noOutputPrior then s.modDec n (fun d => { d with dpb := [] }) else s.bumpAll n)
  else
    let s := s.modDec n (fun d => { d with
      dpb := (d.dpb.map (fun q => { q with ref := p.refs.contains q.poc })).filter (fun q => q.wait || q.ref) })
    s.bumpWhile n p.sps true (s.decSt n).dpb.length

/-- The first place of the DPB that no picture holds. -/
def freeSlot (dpb : List DpbPic) : Nat :=
  ((List.range (dpb.length + 1)).find? (fun i => dpb.all (fun q => q.slot != i))).getD dpb.length

/-- A plane as 16-bit samples with a line length. -/
def planeBytes (depth10 : Bool) (stride : Nat) (rows : List (List Int)) : List Byte :=
  rows.flatMap (fun r => (List.range stride).flatMap (fun x => leBytes 2 ((if depth10 then r.getD x 0 else r.getD x 0 / 4).toNat)))

/-- A picture joins the DPB, and its samples its place in DRAM: luma, Cb and Cr one after the other; what would lie outside the stream's DPB
    is suppressed (07 R164, R178; DESIGN CHOICE, log 182). -/
def State.dpbStore (s : State) (n : Nat) (q : DpbPic) (pl : Planes) : State :=
  let w64 := ceilDiv q.sps.width 64 * 64
  let ten := q.sps.depth == 10
  let bytes := planeBytes ten w64 pl.1 ++ planeBytes ten (w64 / 2) pl.2.1 ++ planeBytes ten (w64 / 2) pl.2.2
  let s := s.dramStore (s.lv (R.DEC.DPB_BASE n) + dpbPlace q.sps q.slot) (bytes.take (s.dpbRoom n q.sps q.slot))
  let s := s.outOfBounds n (b2n (!s.dpbInside n q.sps q.slot))
  (s.modDec n (fun d => { d with dpb := d.dpb ++ [q] })).showDpb n

/-- The reference pictures that the DPB lacks are replaced by the substitute (07 R176). -/
def State.dpbMissing (s : State) (n : Nat) (p : DecPic) (missing : List Int) : State :=
  s.each missing (fun s k =>
    let d := s.decSt n
    s.dpbStore n { slot := freeSlot d.dpb, poc := k, ref := true, wait := false, latency := 0, sps := p.sps, bottom := false, rtp := p.rtp,
                   conc := true } (substitutePlanes p.sps (d.last.map Prod.snd)))

/-- The reference pictures of a picture are read, each of them whole (14 R381, R385; DESIGN CHOICE, log 188): the answer tells that some
    came back poisoned. -/
def State.refsRead (s : State) (n : Nat) (p : DecPic) : State × Bool :=
  let refs := (s.decSt n).dpb.filter (fun q => q.ref && p.refs.contains q.poc)
  (s.each refs (fun s q => (s.dpbRead n q).1), refs.any (fun q => (s.dpbRead n q).2))

/-- A picture that the stream decodes: the DPB before it, missing references, concealment, events, storage as a reference, output in order
    (07 R162 to R180). Its own parity, or the alternation that a top field begins at each IRAP; those that follow it in output order have
    waited for one more picture (07 R166; ITU-T H.265 C.5.2.3). `bad`: its access unit came back poisoned from the ring. -/
def State.decPicture (s : State) (n : Nat) (a : Au) (p : DecPic) (start bad : Bool) : State :=
  let s := s.dpbBefore n p start
  let missing := if start then [] else p.refs.filter (fun k => (s.decSt n).dpb.all (fun q => q.poc != k))
  let s := s.dpbMissing n p missing
  let (s, badRef) := s.refsRead n p
  let d := s.decSt n
  let slot := freeSlot d.dpb
  let conc := d.late || !missing.isEmpty || !p.badCtus.isEmpty || a.slices == 0 || decide (0 < p.bounds) || p.poisoned || bad || badRef ||
    !s.dpbInside n p.sps slot
  let s := s.outOfBounds n p.bounds
  let s := s.cond conc (fun s => s.concealed n)
  let pl := decPlanes p a.slices (d.last.map Prod.snd)
  let bottom := p.parity.getD (!a.irap && d.nextBottom)
  let newest : Bool := start || d.last.all (fun l => decide (l.1 ≤ p.poc))
  let s := s.modDec n (fun d => { d with
    late := false, nextBottom := !bottom, last := if newest then some (p.poc, pl) else d.last,
    dpb := d.dpb.map (fun q => if q.wait && p.outputFlag && decide (p.poc < q.poc) then { q with latency := q.latency + 1 } else q) })
  let s := s.dpbStore n { slot := slot, poc := p.poc, ref := true, wait := p.outputFlag, latency := 0, sps := p.sps, bottom := bottom,
                          rtp := p.rtp, conc := conc } pl
  ((s.noteLoad (p.sps.width * p.sps.height)).bumpWhile n p.sps false (s.decSt n).dpb.length).showDpb n

/-- DECODE_PICTURE_DONE: the oldest access unit of the ring has been taken up (07 R162, R174, R177, R182). -/
def decodeDoneFx (n : Nat) (p : DecPic) (s : State) : State :=
  match (s.decSt n).aus with
  | [] => s
  | a :: rest =>
    let d := s.decSt n
    let (s, bad) := s.auRead n a
    let s := s.modDec n (fun d => { d with aus := rest })
    let drop (s : State) : State := (s.modDec n (fun d => { d with late := false })).backlog n
    if !d.started && !a.irap then drop (s.inc R.DEC.CNT_SKIP)
    else if p.paramsMissing then drop ((s.inc R.DEC.CNT_PARAM_MISSING).decRaise n R.DEC.ev_PARAM_MISSING)
    else
      let restart := a.irap && (a.restart || !d.started)
      let s := s.cond a.irap (fun s =>
        (s.modDec n (fun d => { d with rasl := restart, started := true })).activate n p.sps)
      if p.rasl && (s.decSt n).rasl then drop s
      else if (s.decSt n).verdict ≠ 0 then drop (s.cond a.irap (fun s => s.bumpAll n))
      else (s.decPicture n a p (restart || (a.irap && p.newCvs)) bad).backlog n

/-- DECODE_PICTURE_DONE (07 R170). -/
def execDecodePictureDone (stream : Nat) (p : DecPic) (t : Nat) (s : State) : Host.Outcome State Fault Refusal :=
  .next ((s.atTime t).cond (s.isSender && s.decOn stream && !(s.decSt stream).aus.isEmpty) (decodeDoneFx stream p))

/-! Commits (07 R168, R171, R173, R181). -/

/-- The registers whose change flushes a stream (07 R181). -/
def flushFields (n : Nat) : List Fld :=
  [R.DEC.BS_BASE n, R.DEC.BS_SIZE n, R.DEC.DPB_BASE n, R.DEC.DPB_SIZE n, R.STR.WIDTH n, R.STR.HEIGHT n, R.STR.SCAN n, R.STR.KIND n,
   R.STR.PORT_A n, R.STR.PORT_B n, R.STR.LEG_B_EN n, R.STR.GROUP_A n, R.STR.SRC_A n, R.STR.UDP_A n, R.STR.UDP_B n, R.STR.GROUP_B n,
   R.STR.SRC_B n, R.STR.EN n, R.NET.PORT_MODE 0]

/-- The status block of a stream that the decoder does not serve reads 0 (07 R183). -/
def State.clearDecStat (s : State) (n : Nat) : State :=
  s.each (List.range 6) (fun s i => s.setWord (regKey 0x030 (0x640 + 0x18 * n + 4 * i)) 0)

/-- A commit applied (07 R181). -/
def State.decApplied (s old : State) : State :=
  let s := s.each (List.range 16) (fun s n =>
    if (flushFields n).all (fun f => s.lv f == old.lv f) then s
    else if s.decOn n then s.decFlush n
    else s.cond (old.decOn n) (fun s => (s.decFlush n).clearDecStat n))
  let live := (List.range 16).filter (fun n => s.decOn n && s.lvB (R.STR.LIVE n))
  let s := s.wr R.DEC.LIVE_SUM ((live.map (fun n => s.lv (R.DEC.SHARE n))).foldl (· + ·) 0)
  s.each ((List.range 16).filter s.decOn) (fun s n => s.backlog n)

end Sys2Proof.Machine
end

