-- ==== Sys2Proof/Machine/GlazeCodec.lean ====
section
/-!
DEFINITION. The segment codec: glazed blocks and bypass packing, decoder and encoder (09 R228 to R237).
-/

namespace Sys2Proof.Machine

/-! Bit strings (09 R228): the first bit of each field is its most significant bit, bits fill each byte from bit 7 down. -/

/-- A bit string: its bits as a number, first bit most significant, and its length. -/
structure Bits where
  val : Nat := 0
  len : Nat := 0
deriving DecidableEq, Repr

/-- A field of `w` bits after a bit string. -/
def Bits.put (b : Bits) (w v : Nat) : Bits := ⟨b.val * 2 ^ w + v % 2 ^ w, b.len + w⟩

/-- The low `k` bytes of a number, the most significant first. -/
def beBytes (k n : Nat) : List Byte := (leBytes k n).reverse

/-- A bit string as bytes, with zero bits up to a whole byte. -/
def Bits.bytes (b : Bits) : List Byte :=
  let k := ceilDiv b.len 8
  beBytes k (b.val * 2 ^ (8 * k - b.len))

/-- The bit string of bytes. -/
def dataBits (bs : List Byte) : Bits := ⟨beNat bs, 8 * bs.length⟩

/-- bits(w) at a position, if the string holds them. -/
def Bits.get (b : Bits) (pos w : Nat) : Option Nat :=
  if b.len < pos + w then none else some (b.val / 2 ^ (b.len - pos - w) % 2 ^ w)

/-- signed(u, w) of the manual (09 R228). -/
def signedBits (u w : Nat) : Int := if w = 0 then u else if 2 ^ (w - 1) ≤ u then (u : Int) - (2 ^ w : Nat) else u

/-! Reconstruction (09 R233). `B` is 12 or 16. -/

/-- recon(v, k). -/
def recon (v k : Nat) : Nat := if v = 0 then 0 else v * 2 ^ k + (if k = 0 then 0 else 2 ^ (k - 1))

/-- floorval(m). -/
def floorval (B m : Nat) : Nat := if m = 0 then 0 else m * 2 ^ (B - 10) + 2 ^ (B - 11)

/-- pred from the reconstructed neighbours at the left, above and above left; none at an edge of the segment. -/
def predict (B k : Nat) (a b d : Option Nat) : Nat :=
  match a, b, d with
  | none, none, _ => 2 ^ (B - k - 1)
  | some a, none, _ => a / 2 ^ k
  | none, some b, _ => b / 2 ^ k
  | some a, some b, none => max (a / 2 ^ k) (b / 2 ^ k)
  | some a, some b, some d =>
    let a := a / 2 ^ k
    let b := b / 2 ^ k
    let d := d / 2 ^ k
    if max a b ≤ d then min a b else if d ≤ min a b then max a b else a + b - d

/-- The value that a residual gives. -/
def codedValue (B k p : Nat) (r : Int) : Nat := (((p : Int) + r) % (2 ^ (B - k) : Nat)).toNat

/-- A line of a block, sample by sample: left neighbour, above left, the samples above (none in the first line of the segment), and the
    residuals. -/
def decodeLine (B k : Nat) : Option Nat → Option Nat → List (Option Nat) → List Int → List Nat
  | _, _, _, [] => []
  | left, ul, ups, r :: rs =>
    let up := ups.headD none
    let v := recon (codedValue B k (predict B k left up ul) r) k
    v :: decodeLine B k (some v) up ups.tail rs

/-- One component of the block row in progress. -/
structure Comp where
  /-- The line above, from the column of the next block on (empty in the first block row), and its sample left of that column. -/
  up : List Nat := []
  ul : Option Nat := none
  /-- The two lines so far, last sample first. -/
  l0 : List Nat := []
  l1 : List Nat := []
deriving DecidableEq, Repr

/-- The samples above the next block. -/
def Comp.ups (c : Comp) : List (Option Nat) := (c.up.take 8).map some

/-- The component after a block with these two lines. -/
def Comp.push (c : Comp) (a b : List Nat) : Comp :=
  { up := c.up.drop 8, ul := (c.up.take 8).getLast?, l0 := a.reverse ++ c.l0, l1 := b.reverse ++ c.l1 }

/-- The two lines of a block that 16 residuals give. -/
def Comp.decode (B k : Nat) (c : Comp) (rs : List Int) : List Nat × List Nat :=
  let a := decodeLine B k c.l0.head? c.ul c.ups (rs.take 8)
  (a, decodeLine B k c.l1.head? c.l0.head? (a.map some) (rs.drop 8))

/-- A new block row below the one that is complete. -/
def Comp.nextRow (c : Comp) : Comp := { up := c.l1.reverse }

/-- A read of n fields of w bits. -/
def Bits.gets (b : Bits) (pos w : Nat) : Nat → Option (List Nat)
  | 0 => some []
  | n + 1 =>
    match b.get pos w, b.gets (pos + w) w n with
    | some x, some xs => some (x :: xs)
    | _, _ => none

/-- Bits of a width field (09 R232). -/
def widthBits (B : Nat) : Nat := if B = 12 then 4 else 5

/-- The component after a CODED block whose residuals start at `pos`. -/
def codedComp (B k w pos : Nat) (b : Bits) (c : Comp) : Option Comp :=
  match b.gets pos w 16 with
  | none => none
  | some us =>
    let l := c.decode B k (us.map (fun u => signedBits u w))
    some (c.push l.1 l.2)

/-- The three components. -/
structure Comps where
  r : Comp := {}
  g : Comp := {}
  b : Comp := {}
deriving DecidableEq, Repr

/-- Decode one block at a bit position: the components after it and the next position; none when the segment is corrupt (09 R232 to
    R234). -/
def decodeBlock (B : Nat) (b : Bits) (pos : Nat) (c : Comps) : Option (Comps × Nat) :=
  let wb := widthBits B
  match b.get pos 2 with
  | some 1 =>
    match b.gets (pos + 2) 10 3 with
    | some [m0, m1, m2] =>
      let f (x : Comp) (m : Nat) : Comp := x.push (List.replicate 8 (floorval B m)) (List.replicate 8 (floorval B m))
      some (⟨f c.r m0, f c.g m1, f c.b m2⟩, pos + 32)
    | _ => none
  | some 0 =>
    match b.get (pos + 2) 3, b.gets (pos + 5) wb 3 with
    | some k, some [w0, w1, w2] =>
      if B - k < w0 ∨ B - k < w1 ∨ B - k < w2 then none
      else
        let p := pos + 5 + 3 * wb
        match codedComp B k w0 p b c.r, codedComp B k w1 (p + 16 * w0) b c.g, codedComp B k w2 (p + 16 * (w0 + w1)) b c.b with
        | some x, some y, some z => some (⟨x, y, z⟩, p + 16 * (w0 + w1 + w2))
        | _, _, _ => none
    | _, _ => none
  | _ => none

/-- Decode `n` blocks of a block row. -/
def decodeBlocks (B : Nat) (b : Bits) : Nat → Nat → Comps → Option (Comps × Nat)
  | 0, pos, c => some (c, pos)
  | n + 1, pos, c =>
    match decodeBlock B b pos c with
    | none => none
    | some (c, pos) => decodeBlocks B b n pos c

/-- The pixels of the two lines of a complete block row. -/
def rowPixels (c : Comps) : List (List Pixel) :=
  let line (f : Comp → List Nat) : List Pixel :=
    ((f c.r).reverse.zip ((f c.g).reverse.zip (f c.b).reverse)).map (fun (p : Nat × Nat × Nat) => ⟨p.1, p.2.1, p.2.2⟩)
  [line Comp.l0, line Comp.l1]

/-- Decode `n` block rows of `cols` blocks. -/
def decodeRows (B cols : Nat) (b : Bits) : Nat → Nat → Comps → Option (List (List Pixel))
  | 0, _, _ => some []
  | n + 1, pos, c =>
    match decodeBlocks B b cols pos c with
    | none => none
    | some (c, pos) =>
      match decodeRows B cols b n pos ⟨c.r.nextRow, c.g.nextRow, c.b.nextRow⟩ with
      | none => none
      | some rows => some (rowPixels c ++ rows)

/-- Decode a glazed segment `ws` pixels wide into its 16 lines (09 R233, R234). -/
def decodeSegment (B ws : Nat) (data : List Byte) : Option (List (List Pixel)) := decodeRows B (ws / 8) (dataBits data) 8 0 {}

/-! Bypass (09 R231). -/

/-- LEN of a bypass segment. -/
def bypassLen (B ws : Nat) : Nat := ws * 16 * 3 * B / 8

/-- Pack pixels as R, G and B codes of B bits. -/
def packBypass (B : Nat) (px : List Pixel) : List Byte :=
  (px.foldl (fun (b : Bits) p => ((b.put B p.r).put B p.g).put B p.b) {}).bytes

/-- The lines of a bypass segment. -/
def unpackBypass (B ws : Nat) (data : List Byte) : Option (List (List Pixel)) :=
  if data.length ≠ bypassLen B ws then none
  else
    let b := dataBits data
    let code (i : Nat) : Nat := (b.get (B * i) B).getD 0
    some ((List.range 16).map (fun y => (List.range ws).map (fun x =>
      let i := 3 * (y * ws + x)
      ⟨code i, code (i + 1), code (i + 2)⟩)))

/-! The encoder (09 R235, R236). -/

/-- The data budget of a segment in bits (09 R235). -/
def segmentBudget (rate ws : Nat) : Nat := rate * 8 * ws

/-- A residual in its range: (v - pred) mod 2^(B-k), taken into -2^(B-k-1) .. 2^(B-k-1) - 1 (09 R236). -/
def residual (B k v p : Nat) : Int := signedOf (B - k) (unsignedOf (B - k) ((v : Int) - p))

/-- The residuals of a line of a block: as `decodeLine`, on the samples to encode. -/
def encodeLine (B k : Nat) : Option Nat → Option Nat → List (Option Nat) → List Nat → List Int
  | _, _, _, [] => []
  | left, ul, ups, x :: xs =>
    let up := ups.headD none
    let v := x / 2 ^ k
    residual B k v (predict B k left up ul) :: encodeLine B k (some (recon v k)) up ups.tail xs

/-- The 16 residuals of a component's block. -/
def Comp.residuals (B k : Nat) (c : Comp) (xs : List Nat) : List Int :=
  encodeLine B k c.l0.head? c.ul c.ups (xs.take 8) ++
    encodeLine B k c.l1.head? c.l0.head? ((xs.take 8).map (fun x => some (recon (x / 2 ^ k) k))) (xs.drop 8)

/-- A width holds a residual (09 R228). -/
def fitsWidth (w : Nat) (r : Int) : Bool :=
  if w = 0 then r == 0 else decide (-(2 ^ (w - 1) : Nat) ≤ r ∧ r < (2 ^ (w - 1) : Nat))

/-- The smallest width that holds every residual (09 R236). -/
def minWidth (B : Nat) (rs : List Int) : Nat := ((List.range (B + 1)).find? (fun w => rs.all (fitsWidth w))).getD B

/-- A block to encode: the 16 samples of each component. -/
structure Block where
  r : List Nat
  g : List Nat
  b : List Nat
deriving DecidableEq, Repr

/-- A choice for a block: residuals and widths at one step. -/
structure Coded where
  k : Nat
  rs : List (List Int)
  ws : List Nat
deriving DecidableEq, Repr

/-- The block coded at step 2^k. -/
def codeAt (B : Nat) (c : Comps) (x : Block) (k : Nat) : Coded :=
  let rs := [c.r.residuals B k x.r, c.g.residuals B k x.g, c.b.residuals B k x.b]
  ⟨k, rs, rs.map (minWidth B)⟩

/-- cost(k): the bits of the block (09 R232, R236). -/
def Coded.cost (B : Nat) (c : Coded) : Nat := 5 + 3 * widthBits B + 16 * c.ws.foldl (· + ·) 0

/-- Append a CODED block. -/
def putCoded (B : Nat) (b : Bits) (c : Coded) : Bits :=
  let b := c.ws.foldl (fun (b : Bits) w => b.put (widthBits B) w) ((b.put 2 0).put 3 c.k)
  (c.rs.zip c.ws).foldl (fun (b : Bits) p => p.1.foldl (fun (b : Bits) r => b.put p.2 (unsignedOf p.2 r)) b) b

/-- The component after its block has been coded at step 2^k: its own reconstructions. -/
def Comp.coded (k : Nat) (c : Comp) (xs : List Nat) : Comp :=
  c.push ((xs.take 8).map (fun x => recon (x / 2 ^ k) k)) ((xs.drop 8).map (fun x => recon (x / 2 ^ k) k))

/-- The mean of a FLOOR block (09 R236). -/
def floorMean (B : Nat) (xs : List Nat) : Nat := xs.foldl (· + ·) 0 / 2 ^ (B - 6)

/-- The encoder's state in a segment: bits, components, FLOOR blocks. -/
structure Enc where
  bits : Bits := {}
  comps : Comps := {}
  floors : Nat := 0
deriving DecidableEq, Repr

/-- Encode block n of N (09 R236). -/
def encodeBlock (B S N n : Nat) (e : Enc) (x : Block) : Enc :=
  let rn := S - e.bits.len
  let a := rn - 32 * (N - n - 1)
  let soft := min a (2 * rn / (N - n))
  let cs := (List.range 8).map (codeAt B e.comps x)
  let pick := match cs.find? (fun c => decide (c.cost B ≤ soft)) with
    | some c => some c
    | none => cs.find? (fun c => decide (c.cost B ≤ a))
  match pick with
  | some c =>
    { e with bits := putCoded B e.bits c, comps := ⟨e.comps.r.coded c.k x.r, e.comps.g.coded c.k x.g, e.comps.b.coded c.k x.b⟩ }
  | none =>
    let m := [floorMean B x.r, floorMean B x.g, floorMean B x.b]
    let f (y : Comp) (i : Nat) : Comp :=
      let v := List.replicate 8 (floorval B (m.getD i 0))
      y.push v v
    { bits := m.foldl (fun (b : Bits) v => b.put 10 v) (e.bits.put 2 1),
      comps := ⟨f e.comps.r 0, f e.comps.g 1, f e.comps.b 2⟩, floors := e.floors + 1 }

/-- The block at block column bx and block row br of a segment. -/
def blockAt (rows : List (List Pixel)) (bx br : Nat) : Block :=
  let px := [2 * br, 2 * br + 1].flatMap (fun y => ((rows.getD y []).drop (8 * bx)).take 8)
  ⟨px.map Pixel.r, px.map Pixel.g, px.map Pixel.b⟩

/-- Encode a segment of 16 lines: its data bytes and its FLOOR blocks (09 R235, R236). -/
def encodeSegment (B rate ws : Nat) (rows : List (List Pixel)) : List Byte × Nat :=
  let cols := ws / 8
  let e := (List.range 8).foldl (fun (e : Enc) br =>
    let e := (List.range cols).foldl (fun (e : Enc) bx =>
      encodeBlock B (segmentBudget rate ws) ws (br * cols + bx) e (blockAt rows bx br)) e
    { e with comps := ⟨e.comps.r.nextRow, e.comps.g.nextRow, e.comps.b.nextRow⟩ }) {}
  (e.bits.bytes, e.floors)

end Sys2Proof.Machine
end

