-- ==== Sys2Proof/Machine/Rtp.lean ====
section
/-!
DEFINITION. ST 2110-20 payloads: the line segments of a received packet, the picture that they make up, and the pixel groups of the preview
(06 R143, R148, R155). The payload format is that of the standard (PRESUMED, log 178).
-/

namespace Sys2Proof.Machine

/-! Received pictures (06 R143, R148). -/

/-- A header of a line segment: data bytes, field, line, first pixel. -/
structure SegHead where
  len : Nat
  field : Bool
  line : Nat
  first : Nat
deriving DecidableEq, Repr

/-- The headers of the at most three line segments of a payload, and the data after them; bit 15 of the offset word says that another header
    follows. GPM and BPM payloads carry the same headers. -/
def segHeads : Nat → List Byte → List SegHead × List Byte
  | 0, bs => ([], bs)
  | f + 1, bs =>
    let w (i : Nat) : Nat := beNat ((bs.drop i).take 2)
    let h : SegHead := { len := w 0, field := (w 2).testBit 15, line := w 2 % 2 ^ 15, first := w 4 % 2 ^ 15 }
    if (w 4).testBit 15 then
      let r := segHeads f (bs.drop 6)
      (h :: r.1, r.2)
    else ([h], bs.drop 6)

/-- The data of segments, cut in the order of their headers. -/
def segData : List SegHead → List Byte → List (SegHead × List Byte)
  | [], _ => []
  | h :: hs, bs => (h, bs.take h.len) :: segData hs (bs.drop h.len)

/-- Pixels and bytes of a pixel group: SAMPLING 0 4:2:2, 1 4:4:4, 2 RGB; DEPTH 0, 1, 2 for 8, 10, 12 bits. -/
def pgroup (sampling depth : Nat) : Nat × Nat :=
  if sampling = 0 then (2, 4 + depth)
  else match depth with
    | 0 => (1, 3)
    | 1 => (4, 15)
    | _ => (2, 9)

/-- Sample i of a pixel group, the first one in its highest bits. -/
def groupSample (bits : Nat) (bs : List Byte) (i : Nat) : Nat := beNat bs / 2 ^ (8 * bs.length - bits * (i + 1)) % 2 ^ bits

/-- The pixels of a pixel group: Cb, Y, Cr, Y in 4:2:2; Cb, Y, Cr of each pixel in 4:4:4; R, G, B of each in RGB. A pixel of a YCbCr picture
    holds Y, Cb, Cr. -/
def groupPixels (sampling depth : Nat) (bs : List Byte) : List Pixel :=
  let v := groupSample (8 + 2 * depth) bs
  if sampling = 0 then [⟨v 1, v 0, v 2⟩, ⟨v 3, v 0, v 2⟩]
  else (List.range (pgroup sampling depth).1).map (fun k =>
    if sampling = 1 then ⟨v (3 * k + 1), v (3 * k), v (3 * k + 2)⟩ else ⟨v (3 * k), v (3 * k + 1), v (3 * k + 2)⟩)

/-- The pixels of a segment's data. -/
def segPixels (sampling depth : Nat) (bs : List Byte) : List Pixel :=
  let n := (pgroup sampling depth).2
  (List.range (bs.length / n)).flatMap (fun k => groupPixels sampling depth ((bs.drop (n * k)).take n))

/-- The line segments of a payload with their pixels. -/
def segmentsOf (sampling depth : Nat) (body : List Byte) : List (SegHead × List Pixel) :=
  let r := segHeads 3 body
  (segData r.1 r.2).map (fun x => (x.1, segPixels sampling depth x.2))

/-- A line with the pixels of a segment put in. -/
def putRun (row : List (Option Pixel)) (x : Nat) (px : List Pixel) : List (Option Pixel) :=
  (List.range row.length).map (fun i => if x ≤ i ∧ i < x + px.length then px[i - x]? else row.getD i none)

/-- The lines of a picture in reception, as far as its packets have come. -/
def PicAsm.lines (p : PicAsm) (w h : Nat) : List (List (Option Pixel)) :=
  (List.range h).map (fun y =>
    (p.segs.filter (fun g => g.1 == y)).foldl (fun row g => putRun row g.2.1 g.2.2) (List.replicate w none))

/-- The received picture, with its missing pixels (06 R148): a field has half the lines. -/
def PicAsm.picture (p : PicAsm) (scan w h : Nat) : Picture :=
  let n := if scan = 1 then (if p.bottom then h / 2 else (h + 1) / 2) else h
  let ls := p.lines w n
  let gaps := (List.range n).flatMap (fun y =>
    ((List.range w).filter (fun x => ((ls.getD y []).getD x none).isNone)).map (fun x => (y, x, 1)))
  { width := w, height := n, rows := ls.map (fun l => l.map (fun x => x.getD black)), rtp := p.rtp, bottom := p.bottom, lost := gaps,
    startMissed := p.dead, start := p.start }

/-- The line of a picture in reception on which a segment lands: the second segment of a PsF picture follows the first (06 R153). -/
def segLine (scan h : Nat) (x : SegHead) : Nat := if scan = 2 ∧ x.field then (h + 1) / 2 + x.line else x.line

/-- A payload joins the picture of its timestamp, or begins one. A picture that ends without its last packet has lost it; one whose first
    packet is not that of its first pixel has its start missed, and one whose first packet arrived before `since` began before the source
    waited for a start. What is whole comes first in the answer (06 R138, R148). -/
def picturePacket (since scan h : Nat) (segs : List (SegHead × List Pixel)) (r : Rtp) (arrived : Nat) (gap : Bool) (cur : Option PicAsm) :
    List PicAsm × Option PicAsm :=
  match segs with
  | [] => ([], cur)
  | (x, _) :: _ =>
    let runs := segs.map (fun g => (segLine scan h g.1, g.1.first, g.2))
    let fresh : PicAsm :=
      { rtp := r.ts, start := arrived, bottom := x.field, segs := runs, lost := false,
        dead := !(segLine scan h x == 0 && x.first == 0) || decide (arrived < since) }
    let (old, p) := match cur with
      | none => ([], fresh)
      | some p => if p.rtp = r.ts then ([], { p with segs := p.segs ++ runs, lost := p.lost || gap }) else ([{ p with lost := true }], fresh)
    let last : Bool := r.marker && !(scan == 2 && !x.field)
    let out := (if last then old ++ [p] else old).filter (fun q => !q.dead)
    (out, if last then none else some p)

/-! The preview (06 R155). -/

/-- Pixels that a preview packet carries: 2 in 5 bytes. -/
def previewPixels (payload : Nat) : Nat := payload / 5 * 2

/-- Y, Cb, Cr of a preview line at 10 bits, narrow range, chroma at every second pixel (06 R155). -/
def previewSamples (vals : List (Int × Int × Int)) : List (Nat × Nat × Nat) :=
  let cb := vals.map (fun v => v.2.1)
  let cr := vals.map (fun v => v.2.2)
  let q (scale offset x : Int) : Nat := sample10 scale offset (Config.previewUp x) x
  (List.range vals.length).map (fun x =>
    (q 876 64 (vals.getD x (0, 0, 0)).1, q 896 512 (Config.previewChroma cb (x / 2)), q 896 512 (Config.previewChroma cr (x / 2))))

/-- The pixel groups of a run of an even number of samples: Cb, Y, Cr, Y of 10 bits each. -/
def previewBytes : List (Nat × Nat × Nat) → List Byte
  | a :: b :: rest => beBytes 5 (((a.2.1 * 1024 + a.1) * 1024 + a.2.2) * 1024 + b.1) ++ previewBytes rest
  | _ => []

end Sys2Proof.Machine
end

