-- ==== Sys2Proof/Machine/Net.lean ====
section
/-!
DEFINITION. Network ports, host queues, timestamps and launch times, stream receivers and SDI (04 R112 to R114, R118; 06 R138 to R152).
-/

namespace Sys2Proof.Machine

/-! Ports (06 R138, R139). -/

/-- What an unlisted port and an unlisted source hold. -/
def netDefault : Nat → NetPort := fun _ => {}
def strDefault : Nat → StrSt := fun _ => {}

/-- The record of a NET port. -/
def State.netSt (s : State) (p : Nat) : NetPort := smGet netDefault s.net.ports p

/-- Change it. -/
def State.modNet (s : State) (p : Nat) (f : NetPort → NetPort) : State :=
  { s with net := { s.net with ports := smMod netDefault s.net.ports p f } }

/-- The record of a source: STR0 to 15, SDI0 to 3. -/
def State.strSt (s : State) (n : Nat) : StrSt := smGet strDefault s.str n

/-- Change it. -/
def State.modStr (s : State) (n : Nat) (f : StrSt → StrSt) : State := { s with str := smMod strDefault s.str n f }

/-- The port exists in the applied port mode (06 R138). -/
def State.netPort (s : State) (p : Nat) : Bool := decide (p < netCount (s.lv (R.NET.PORT_MODE 0)))

/-- LINK_DOWN holds while an enabled port has no link (06 R157). -/
def State.netLevel (s : State) (p : Nat) : State :=
  s.level (R.NET.ev_LINK_DOWN p) (s.netPort p && s.lvB (R.NET.EN p) && !s.flag (R.NET.LINK_UP p))

/-! Launch times and timestamps (04 R112 to R114, R118). -/

/-- The 64-bit format of a time of the time base (04 R114). -/
def launchWord (b : Nat) : Nat := b % sec1 / ns1 + 2 ^ 30 * (b / sec1 % 2 ^ 34)

/-- The time of a launch word, in the seconds around `now` (04 R114). -/
def launchTime (now w : Nat) : Nat := (now / sec1 / 2 ^ 34 * 2 ^ 34 + w / 2 ^ 30 % 2 ^ 34) * sec1 + w % 2 ^ 30 * ns1

/-- A launch is late: enqueued more than 1 µs after its time, or sent more than 8 ns after the later of both (04 R114). -/
def launchLate (launch enq now : Nat) : Bool := decide (launch + us1 < enq) || decide (max launch enq + 8 * ns1 < now)

/-- TSQ levels (04 R118). -/
def State.tsqLevels (s : State) : State :=
  let n := s.net.tsq.length
  ((s.wr R.TSQ.LEVEL n).level R.TSQ.ev_NONEMPTY (n != 0)).level R.TSQ.ev_HIGH (decide (48 ≤ n))

/-- A timestamp enters the queue; the 65th is lost (04 R113). -/
def State.tsqPush (s : State) (e : TsEntry) : State :=
  if s.net.tsq.length < 64 then ({ s with net := { s.net with tsq := s.net.tsq ++ [e] } } : State).tsqLevels
  else ((s.wr R.TSQ.OVF 1).inc R.TSQ.CNT_LOST).raise R.TSQ.ev_OVERFLOW

/-- Effects of the TSQ page's writes (04 R118). -/
def tsqPopFx (s : State) : State := ({ s with net := { s.net with tsq := s.net.tsq.drop 1 } } : State).tsqLevels
def tsqFlushFx (s : State) : State := ({ s with net := { s.net with tsq := [] } } : State).tsqLevels
def tsqOvfClrFx (s : State) : State := s.wr R.TSQ.OVF 0

/-- TSQ_POP (04 R118). -/
def execTsqPop (s : State) : Host.Outcome State Fault Refusal := .next (s.start.cond (s.pageOn 0x008) tsqPopFx)

/-- TSQ_FLUSH (04 R118). -/
def execTsqFlush (s : State) : Host.Outcome State Fault Refusal := .next (s.start.cond (s.pageOn 0x008) tsqFlushFx)

/-- TSQ_OVF_CLR (04 R118). -/
def execTsqOvfClr (s : State) : Host.Outcome State Fault Refusal := .next (s.start.cond (s.pageOn 0x008) tsqOvfClrFx)

/-! Host queues (06 R142). -/

/-- The address of a descriptor. -/
def descAt (base i : Nat) : Nat := base + 32 * i

/-- TXQ_TAIL_WRITE: the host hands over the frames up to the new tail (06 R142). -/
def txqTailFx (p : Nat) (v : Word32) (s : State) : State :=
  let tail := fieldOf v 0 8
  let n := (tail + 256 - s.rd (R.NET.TXQ_TAIL p)) % 256
  (s.wr (R.NET.TXQ_TAIL p) tail).modNet p (fun x => { x with enq := x.enq ++ List.replicate n s.time })

/-- TXQ_TAIL_WRITE (06 R142). -/
def execTxqTailWrite (port : Nat) (v : Word32) (t : Nat) (s : State) : Host.Outcome State Fault Refusal :=
  .next ((s.atTime t).cond (s.isSender && s.netPort port) (txqTailFx port v))

/-- The launch time of the descriptor at the head of a transmit queue, 0 when it asks for none. -/
def State.txLaunch (s : State) (p : Nat) : Nat :=
  let d := s.dramBytes (descAt (s.rd (R.NET.TXQ_BASE p)) (s.rd (R.NET.TXQ_HEAD p))) 32
  if (leAt d 10 1).testBit 0 then launchTime s.base (leAt d 16 8) else 0

/-- The transmit queue has a frame that may leave now (04 R114, 06 R142). -/
def State.txReady (s : State) (p : Nat) : Bool :=
  s.flag (R.NET.TXQ_EN p) && (s.rd (R.NET.TXQ_HEAD p) != s.rd (R.NET.TXQ_TAIL p)) && decide (s.txLaunch p ≤ s.base)

/-- The descriptor at the head of the transmit queue is done with (06 R142). -/
def State.txPop (s : State) (p : Nat) : State :=
  (s.wr (R.NET.TXQ_HEAD p) ((s.rd (R.NET.TXQ_HEAD p) + 1) % 256)).modNet p (fun x => { x with enq := x.enq.drop 1 })

/-- A frame or descriptor that comes back poisoned is dropped and counted as a ring drop (14 R385; log 189). -/
def State.ringDrop (s : State) (p : Nat) : State := s.incRaise (R.NET.CNT_RXQ_DROP p) (R.NET.ev_RXQ_DROP p)

/-- The frame at the head of the transmit queue leaves with its FCS; its descriptor is written back (04 R113, R114; 06 R142). -/
def State.txHost (s : State) (p : Nat) : State :=
  let a := descAt (s.rd (R.NET.TXQ_BASE p)) (s.rd (R.NET.TXQ_HEAD p))
  let launch := s.txLaunch p
  let (d, bad, s) := s.dramRead a 32
  let flags := leAt d 10 1
  let (frame, lost, s) := s.dramRead (leAt d 0 8) (if bad then 0 else leAt d 8 2)
  if bad || lost then (s.ringDrop p).txPop p
  else
  let enq := s.baseAt ((s.netSt p).enq.getD 0 0)
  let late := flags.testBit 0 && launchLate launch enq s.base
  let s := s.emit (.netFrame p (frame ++ leBytes 4 (crc32 frame)))
  let s := s.dramStore (a + 11) (leBytes 1 (1 + 2 * b2n late))
  let s := s.cond late (fun s => s.incRaise (R.NET.CNT_TX_LATE p) (R.NET.ev_TX_LATE p))
  let s := s.cond (flags.testBit 1) (fun s => s.tsqPush { id := leAt d 12 2, port := p, time := s.base })
  (s.inc (R.NET.CNT_TX_FRAMES p)).txPop p

/-- A preview packet may leave by this port now (06 R155). -/
def State.prvReady (s : State) (p : Nat) : Bool :=
  s.lvB R.PRV.NET_EN && s.lv R.PRV.NET == p &&
    (match s.prv.queue with
     | [] => false
     | x :: _ => decide (x.2 ≤ s.base))

/-- Packets of a line of the preview (06 R155): PKT_PAYLOAD bytes of 2 pixels in 5 bytes. -/
def State.prvPerLine (s : State) : Nat := ceilDiv ((s.lv (R.TG.ACT_W_M1 1) + 1) * 5 / 2) (max 1 (s.lv R.PRV.PKT_PAYLOAD))

/-- A pixel of the frame that the preview sends; black before the first complete frame (06 R156). -/
def State.prvRow (s : State) (y : Nat) : List Pixel :=
  let w := s.lv (R.TG.ACT_W_M1 1) + 1
  match s.prv.sending with
  | none => List.replicate w black
  | some i => (List.range w).map (fun x => s.slabPixel (s.lv (R.TG.BUF_BASE 1) + i * s.lv (R.TG.BUF_STRIDE 1) * 4096) w x y)

/-- The lines of the frame that the preview sends as Y, Cb, Cr: by the inverse of the conversion; a line that was late repeats the last pixel
    that the output stage had to the end of the line (06 R155; 08 R207). -/
def State.prvLine (s : State) (y : Nat) : List (Nat × Nat × Nat) :=
  let row := previewSamples ((s.prvRow y).map (fun p =>
    previewValue (s.lv R.PRV.TCS) (s.lv R.PRV.COLOR) (s.lv R.PRV.SDR_NITS) (s.lv R.PRV.HLG_NITS) (s.lv R.CMP.PEAK_NITS) (p.r, p.g, p.b)))
  match s.prv.late.find? (fun x => x.1 == y) with
  | none => row
  | some x => row.take x.2 ++ List.replicate (row.length - x.2) (row.getD (x.2 - 1) (64, 512, 512))

/-- The slabs that hold pixels `x` to `x + n - 1` of a line of the frame that the preview sends are read (14 R381, R385, R388). -/
def State.prvRead (s : State) (y x n : Nat) : State :=
  match s.prv.sending with
  | none => s
  | some i =>
    let base := s.lv (R.TG.BUF_BASE 1) + i * s.lv (R.TG.BUF_STRIDE 1) * 4096
    let across := slabAcross (s.lv (R.TG.ACT_W_M1 1) + 1)
    s.each ((List.range across).filter (fun c => decide (x < 64 * c + 64 ∧ 64 * c < x + n))) (fun s c =>
      let slot := base + 2048 * (y / 4 * across + c)
      s.readUe slot (s.slabLength slot))

/-- Packet j of the frame that the preview sends (06 R155, R160). -/
def State.prvPacket (s : State) (p j : Nat) : PrvPacket :=
  let n := previewPixels (s.lv R.PRV.PKT_PAYLOAD)
  let y := j / s.prvPerLine
  let k := n * (j % s.prvPerLine)
  { srcIp := s.lv (R.NET.LOCAL_IP p), dstIp := s.lv R.PRV.DEST_IP, srcUdp := s.lv R.PRV.SRC_UDP, dstUdp := s.lv R.PRV.DST_UDP,
    dscp := s.lv R.PRV.DSCP,
    tag := if s.lvB R.PRV.VLAN_EN then some (s.lv R.PRV.VLAN_ID, s.lv R.PRV.PCP) else none,
    pt := s.lv R.PRV.PT, ssrc := s.lv R.PRV.SSRC, seq := s.prv.seq, ts := s.prv.rtp,
    marker := j + 1 == (s.lv (R.TG.ACT_H_M1 1) + 1) * s.prvPerLine, line := y, offset := k,
    data := previewBytes (((s.prvLine y).drop k).take n) }

/-- The next preview packet leaves (06 R155). -/
def State.txPreview (s : State) (p : Nat) : State :=
  match s.prv.queue with
  | [] => s
  | (j, launch) :: rest =>
    let packet := s.prvPacket p j
    let s := (s.prvRead packet.line packet.offset (previewPixels (s.lv R.PRV.PKT_PAYLOAD))).emit (.preview p packet)
    let s := ((s.inc R.PRV.CNT_TX_PKTS).inc (R.NET.CNT_TX_FRAMES p)).cond (decide (launch + 8 * ns1 < s.base))
      (fun s => s.incRaise R.PRV.CNT_TX_LATE R.PRV.ev_TX_LATE)
    { s with prv := { s.prv with queue := rest, seq := (s.prv.seq + 1) % 2 ^ 32 } }

/-- TX_FRAME_LAUNCH: a frame or a preview packet leaves the ball, never before its launch time; which of the two goes first is open
    (04 R114; log 32). -/
def txLaunchFx (p : Nat) (s : State) : State :=
  if s.txReady p && s.prvReady p then
    let (b, s) := s.freshB
    if b then s.txHost p else s.txPreview p
  else if s.txReady p then s.txHost p
  else if s.prvReady p then s.txPreview p
  else s

/-- TX_FRAME_LAUNCH (04 R114). -/
def execTxFrameLaunch (port t : Nat) (s : State) : Host.Outcome State Fault Refusal :=
  .next ((s.atTime t).cond (s.isSender && s.netPort port && s.flag (R.NET.LINK_UP port)) (txLaunchFx port))

/-- A frame enters the host receive queue, or finds the ring full (06 R142). -/
def State.rxHost (s : State) (p : Nat) (bytes : List Byte) : State :=
  let head := s.rd (R.NET.RXQ_HEAD p)
  if head = s.rd (R.NET.RXQ_TAIL p) then s.ringDrop p
  else
    let a := descAt (s.rd (R.NET.RXQ_BASE p)) head
    let long := decide (9212 < bytes.length)
    let (d, bad, s) := s.dramRead a 8
    if bad then (s.ringDrop p).wr (R.NET.RXQ_HEAD p) ((head + 1) % 256)
    else
    let s := s.dramStore (leAt d 0 8) (bytes.take 9212)
    let s := s.dramStore (a + 8) (leBytes 2 bytes.length)
    let s := s.dramStore (a + 11) (leBytes 1 (1 + 2 * b2n long))
    let s := s.dramStore (a + 16) (leBytes 8 (launchWord s.base))
    s.wr (R.NET.RXQ_HEAD p) ((head + 1) % 256)

/-! IGMP (06 R141). -/

/-- A leg of a stream: port, group, source, UDP port. -/
structure Leg where
  port : Nat
  group : Nat
  src : Nat
  udp : Nat
deriving DecidableEq, Repr

/-- A leg of a stream that is enabled, from a configuration. -/
def legOf (g : Fld → Nat) (n leg : Nat) : Option Leg :=
  if g (R.STR.EN n) = 0 then none
  else if leg = 0 then some ⟨g (R.STR.PORT_A n), g (R.STR.GROUP_A n), g (R.STR.SRC_A n), g (R.STR.UDP_A n)⟩
  else if g (R.STR.LEG_B_EN n) = 0 then none
  else some ⟨g (R.STR.PORT_B n), g (R.STR.GROUP_B n), g (R.STR.SRC_B n), g (R.STR.UDP_B n)⟩

/-- All legs by stream and number. -/
def allLegs : List (Nat × Nat) := (List.range 16).flatMap (fun n => [(n, 0), (n, 1)])

/-- The IGMP version that the queriers allow a port now: a querier of a version counts as gone 260 s after its last query
    (RFC 3376; log 33). -/
def State.igmpVersion (s : State) (p : Nat) : Nat :=
  let here (heard : Option Nat) : Bool := heard.any (fun t => decide (s.time < t + 260 * sec1))
  if here (s.netSt p).igmp1 then 1 else if here (s.netSt p).igmp2 then 2 else 3

/-- The 802.1Q tag that a port sends, if any: VLAN and PCP (06 R157). -/
def State.netTag (s : State) (p : Nat) : Option (Nat × Nat) :=
  if s.lvB (R.NET.VLAN_EN p) then some (s.lv (R.NET.VLAN_ID p), s.lv (R.NET.PCP p)) else none

/-- A report or leave for a leg's group goes out in the version that the queriers allow (06 R141). -/
def State.sendReport (s : State) (r : IgmpDue) : State :=
  let v := s.igmpVersion r.port
  s.cond (s.flag (R.NET.LINK_UP r.port)) (fun s =>
    s.emit (.igmp r.port r.group (if v < 3 then 0 else r.src) r.leave v (s.netTag r.port)))

/-- Unsolicited reports or leaves for a leg begin: IGMP_ROBUST of them (06 R141). -/
def State.startReports (s : State) (n leg : Nat) (l : Leg) (leave : Bool) : State :=
  let k := s.lv (R.NET.IGMP_ROBUST l.port)
  let r : IgmpDue := { port := l.port, stream := n, leg := leg, group := l.group, src := l.src, leave := leave, left := k - 1 }
  let s : State := { s with net := { s.net with
    reports := (s.net.reports.filter (fun x => !(x.stream == n && x.leg == leg && x.leave == leave))) ++ (if 1 < k then [r] else []) } }
  s.cond (k != 0) (fun s => s.sendReport r)

/-- A source-filtered leg of a stream is joined for any source, as an older querier is present (06 R141). -/
def State.asmNow (s : State) (n : Nat) : Bool :=
  [0, 1].any (fun leg =>
    match legOf s.lv n leg with
    | none => false
    | some l => l.src != 0 && decide (s.igmpVersion l.port < 3))

/-- An IGMP query: a version 1 or 2 querier puts the port in its version; every leg on the port, or in the queried group, is reported
    (06 R141). -/
def State.igmpQuery (s : State) (p version group : Nat) : State :=
  let s := s.modNet p (fun x => if version ≤ 1 then { x with igmp1 := some s.time } else if version = 2 then { x with igmp2 := some s.time } else x)
  s.each allLegs (fun s x =>
    match legOf s.lv x.1 x.2 with
    | none => s
    | some l => s.cond (l.port == p && (group == 0 || l.group == group)) (fun s => s.sendReport ⟨p, x.1, x.2, l.group, l.src, false, 0⟩))

/-- IGMP_REPORT_TIMER: the next unsolicited report or leave of a leg (06 R141). -/
def igmpTimerFx (port stream leg : Nat) (s : State) : State :=
  let mine (r : IgmpDue) : Bool := r.port == port && r.stream == stream && r.leg == leg
  let s := s.each (s.net.reports.filter mine) (fun s r => s.sendReport r)
  { s with net := { s.net with
    reports := (s.net.reports.map (fun r => if mine r then { r with left := r.left - 1 } else r)).filter (fun r => r.left != 0) } }

/-- IGMP_REPORT_TIMER (06 R141). -/
def execIgmpReportTimer (port stream leg : Nat) (s : State) : Host.Outcome State Fault Refusal :=
  .next (s.start.cond (s.isSender && s.netPort port) (igmpTimerFx port stream leg))

/-! Streams (06 R144 to R149). -/

/-- LEG_DOWN holds while an enabled leg is not OK after it has gone silent (06 R145). -/
def State.legLevel (s : State) (n : Nat) : State :=
  s.cond (s.flag (R.STR.LEG_A_OK n) && (s.flag (R.STR.LEG_B_OK n) || !s.lvB (R.STR.LEG_B_EN n)))
    (fun s => s.level (R.STR.ev_LEG_DOWN n) false)

/-- LEG_DOWN: a leg has delivered nothing for 10 ms (06 R145). -/
def legDownFx (n leg : Nat) (s : State) : State :=
  (s.wr (if leg = 0 then R.STR.LEG_A_OK n else R.STR.LEG_B_OK n) 0).level (R.STR.ev_LEG_DOWN n) true

/-- LEG_DOWN (06 R145). -/
def execLegDown (stream leg : Nat) (s : State) : Host.Outcome State Fault Refusal :=
  .next (s.start.cond (s.isSender && decide (stream < 16 ∧ leg < 2) && (legOf s.lv stream leg).isSome) (legDownFx stream leg))

/-- A kind 2 payload lands in its ring entry, with the time at which it arrived (06 R149; log 34). -/
def State.ancStore (s : State) (n arrived : Nat) (body : List Byte) : State :=
  let count := s.lv (R.STR.BUF_COUNT n) * 8
  let i := if s.flag (R.STR.READY_VALID n) then (s.rd (R.STR.READY_IDX n) + 1) % count else 0
  let entry := leBytes 8 (launchWord (s.baseAt arrived)) ++ leBytes 4 0 ++ leBytes 2 body.length ++ leBytes 2 0 ++ body.take 1008
  ((s.dramStore (s.lv (R.STR.BUF_BASE n) + 1024 * i) entry).wr (R.STR.READY_IDX n) i).wr (R.STR.READY_VALID n) 1

/-- A payload of a kind 0 stream: its line segments join their picture; STATE reads running from the start of one on (06 R143, R148, R158). -/
def State.pictureIn (s : State) (n arrived : Nat) (r : Rtp) (gap : Bool) : State :=
  let scan := s.lv (R.STR.SCAN n)
  let segs := segmentsOf (s.lv (R.STR.SAMPLING n)) (s.lv (R.STR.DEPTH n)) r.body
  let out := picturePacket (s.strSt n).since scan (s.lv (R.STR.HEIGHT n)) segs r arrived gap (s.strSt n).pic
  let s := s.modStr n (fun x => { x with pic := out.2, whole := x.whole ++ out.1 })
  s.cond (s.rd (R.STR.STATE n) == 2 && (!out.1.isEmpty || out.2.any (fun p => !p.dead))) (fun s => s.wr (R.STR.STATE n) 3)

/-- A packet of a stream in sequence order, with the time of its arrival; `gap`: the number before it was lost on both legs (06 R143). -/
def State.strDeliver (s : State) (n arrived : Nat) (r : Rtp) (gap : Bool) : State :=
  match s.lv (R.STR.KIND n) with
  | 0 => s.pictureIn n arrived r gap
  | 1 => s.audioPacket n r.body
  | 2 => s.ancStore n arrived r.body
  | _ => s.depacket n r gap

/-- Packets in order: those that wait, and over the numbers that have left the window without one (06 R145, R146). -/
def State.strDrain (s : State) (n : Nat) (gap : Bool) : Nat → State
  | 0 => s
  | fuel + 1 =>
    let x := s.strSt n
    match x.buf.find? (fun e => e.1 == x.next) with
    | some e =>
      let s := s.modStr n (fun x => { x with next := x.next + 1, buf := x.buf.filter (fun y => y.1 != e.1) })
      (s.strDeliver n e.2.1 e.2.2 gap).strDrain n false fuel
    | none => if x.next < x.low then (s.modStr n (fun x => { x with next := x.next + 1 })).strDrain n true fuel else s

/-- A number leaves the reorder window: what each leg, and both, lacked (06 R145). -/
def State.strLeave (s : State) (n k : Nat) : State :=
  let x := s.strSt n
  let a := x.legA.contains k
  let b := x.legB.contains k
  let two := s.lvB (R.STR.LEG_B_EN n)
  let s := s.cond (!a) (fun s => s.inc (R.STR.CNT_LEG_A_LOST n))
  let s := s.cond (two && !b) (fun s => s.inc (R.STR.CNT_LEG_B_LOST n))
  if !a && !b then s.incRaise (R.STR.CNT_LOST n) (R.STR.ev_LOSS n)
  else s.cond (two && a != b) (fun s => s.inc (R.STR.CNT_MERGED n))

/-- The reorder window moves up to a new lowest number (06 R146). -/
def State.strWindow (s : State) (n low : Nat) : State :=
  let old := (s.strSt n).low
  let s := s.each ((List.range (low - old)).map (old + ·)) (fun s k => s.strLeave n k)
  s.modStr n (fun x => { x with low := max x.low low, legA := x.legA.filter (fun k => decide (low ≤ k)),
                                legB := x.legB.filter (fun k => decide (low ≤ k)) })

/-- An accepted number and its packet: D_MAX_US follows the measured rate, whose measurement is not stated; a stream of kind 0 or 3 then waits
    for a start, one of kind 1 or 2 runs (06 R144 to R146, R158; log 35). -/
def State.strTake (s : State) (n ext : Nat) (r : Rtp) : State :=
  let (rate, s) := s.fresh
  let s := (s.inc (R.STR.CNT_PKT n)).wr (R.STR.D_MAX_US n) (s.lv (R.STR.REORDER n) * 524288 * 1000000 / rate)
  let win := max 1 (s.lv (R.STR.REORDER n) * 65536 / max 1 r.body.length)
  let hi := max ((s.strSt n).hi.getD ext) ext
  let s := s.modStr n (fun x => { x with hi := some hi, buf := x.buf ++ [(ext, s.time, r)] })
  let s := s.cond (decide ((s.strSt n).low + win ≤ hi)) (fun s => s.strWindow n (hi + 1 - win))
  let s := s.cond (decide (s.rd (R.STR.STATE n) ≤ 1)) (fun s =>
    s.wr (R.STR.STATE n) (if s.lv (R.STR.KIND n) = 1 ∨ s.lv (R.STR.KIND n) = 2 then 3 else 2))
  s.strDrain n false (hi + 2 - (s.strSt n).next)

/-- An RTP packet reaches a stream on a leg: the checks of R144, the window of R146 and the merging of R145. -/
def State.rtpIn (s : State) (n leg : Nat) (r : Rtp) : State :=
  if r.version ≠ 2 ∨ r.pt ≠ s.lv (R.STR.PT n) then s.inc (R.STR.CNT_PT_DROP n)
  else
    let s := (s.wr (if leg = 0 then R.STR.LEG_A_OK n else R.STR.LEG_B_OK n) 1).legLevel n
    let kind0 := s.lv (R.STR.KIND n) == 0
    let m := if kind0 then 2 ^ 32 else 2 ^ 16
    let x := (if kind0 then r.extHi * 65536 + r.seq else r.seq) % m
    let st := s.strSt n
    let s := match st.hi with
      | none => s.modStr n (fun y => { y with hi := some (x + m), low := x + m, next := x + m })
      | some _ => s
    let hi := (s.strSt n).hi.getD 0
    let d := (x + m - hi % m) % m
    let ext := if d < m / 2 then hi + d else hi + d - m
    if ext + 32768 < hi ∨ ext < (s.strSt n).low then s.inc (R.STR.CNT_REORDER_LATE n)
    else
      let st := s.strSt n
      let seen := st.legA.contains ext || st.legB.contains ext
      let s := s.modStr n (fun y =>
        if leg = 0 then { y with legA := if y.legA.contains ext then y.legA else ext :: y.legA }
        else { y with legB := if y.legB.contains ext then y.legB else ext :: y.legB })
      if seen then s else s.strTake n ext r

/-- The stream and leg that take a datagram: the lowest-numbered match (06 R140; log 36). -/
def State.strMatch (s : State) (p dst src udp : Nat) : Option (Nat × Nat) :=
  allLegs.find? (fun x =>
    match legOf s.lv x.1 x.2 with
    | none => false
    | some l => l.port == p && l.group == dst && l.udp == udp && (l.src == 0 || l.src == src))

/-! Frame reception (06 R139, R140). -/

/-- The PTP instance bound to this port that takes the frame (06 R140, 04 R91). -/
def State.ptpOf (s : State) (p : Nat) (vlan : Option Nat) (domain : Nat) : Option Nat :=
  [0, 1].find? (fun i => s.lvB (R.PTP.EN i) && s.lv (R.PTP.NET i) == p && s.lv (R.PTP.DOMAIN i) == domain &&
    vlan == (if s.lvB (R.PTP.VLAN_EN i) then some (s.lv (R.PTP.VLAN_ID i)) else none))

/-- The frame's tag is the one that the port accepts (06 R157). -/
def State.tagFits (s : State) (p : Nat) (vlan : Option Nat) : Bool :=
  vlan == (if s.lvB (R.NET.VLAN_EN p) then some (s.lv (R.NET.VLAN_ID p)) else none)

/-- Entry i of the ARP cache: four words, the address in the first and the MAC in the next two (06 R157; log 37). -/
def State.arpEntry (s : State) (p i : Nat) : Nat := (s.immW (0x010 + p) 0 (4 * i)).toNat

/-- The cache learns an address; a full cache drops an entry that the spec does not name (06 R139; log 37). -/
def State.arpLearn (s : State) (p ip mac : Nat) : State :=
  let pick := (List.range 16).find? (fun i => s.arpEntry p i == ip || s.arpEntry p i == 0)
  let (i, s) := match pick with
    | some i => (i, s)
    | none => let (v, s) := s.fresh; (v % 16, s)
  ((s.setImm (0x010 + p) 0 (4 * i) (BitVec.ofNat 32 ip)).setImm (0x010 + p) 0 (4 * i + 1) (BitVec.ofNat 32 mac)).setImm (0x010 + p) 0
    (4 * i + 2) (BitVec.ofNat 32 (mac / 2 ^ 32))

/-- A frame that nothing before the host queue takes (06 R140). -/
def State.rxRest (s : State) (p : Nat) (f : NetFrame) : State :=
  if s.flag (R.NET.RXQ_EN p) then s.rxHost p f.bytes else s.inc (R.NET.CNT_RX_UNMATCHED p)

/-- A datagram goes to the stream that takes it (06 R140). -/
def State.rxUdp (s : State) (p : Nat) (f : NetFrame) (dst src udp : Nat) (rtp : Rtp) : State :=
  match (if s.tagFits p f.vlan then s.strMatch p dst src udp else none) with
  | some (n, leg) => s.rtpIn n leg rtp
  | none => s.rxRest p f

/-- The first match of R140. A PTP message that its instance cannot read counts there (04 R117). -/
def State.rxMatch (s : State) (p : Nat) (f : NetFrame) : State :=
  let ours := s.tagFits p f.vlan
  match f.kind with
  | .pause => s.inc (R.NET.CNT_PAUSE p)
  | .fragment => s.inc (R.NET.CNT_RX_UNMATCHED p)
  | .ptp domain ok dst src udp rtp =>
    match s.ptpOf p f.vlan domain with
    | some i => s.cond (!ok) (fun s => s.inc (R.PTP.CNT_BAD_MSG i))
    | none => s.rxUdp p f dst src udp rtp
  | .arp ip mac target request =>
    if !ours then s.rxRest p f
    else
      let s := s.arpLearn p ip mac
      s.cond (request && target == s.lv (R.NET.LOCAL_IP p)) (fun s => s.emit (.arpReply p ip mac (s.netTag p)))
  | .icmpEcho dst src mac ident seq data =>
    if ours && dst == s.lv (R.NET.LOCAL_IP p) then s.emit (.icmpReply p src mac ident seq data (s.netTag p)) else s.rxRest p f
  | .igmpQuery v group => if ours then s.igmpQuery p v group else s.rxRest p f
  | .udp dst src udp rtp => s.rxUdp p f dst src udp rtp
  | .other => s.rxRest p f

/-- NET_FRAME_RECEIVE: counters first, a bad FCS drops the frame, then the first match. A frame of fewer than 64 bytes with its FCS is none
    that the port supports: it matches nothing (06 R139, R140; DESIGN CHOICE, log 179). -/
def netFrameFx (p : Nat) (f : NetFrame) (s : State) : State :=
  let s := (s.inc (R.NET.CNT_RX_FRAMES p)).incBy (R.NET.CNT_FEC_CORR p) f.fecCorr
  let s := s.cond (f.fecUncorr != 0) (fun s => (s.incBy (R.NET.CNT_FEC_UNCORR p) f.fecUncorr).raise (R.NET.ev_FEC_UNCORR p))
  if !f.fcsOk then s.inc (R.NET.CNT_RX_FCS p)
  else if f.bytes.length < 60 then s.inc (R.NET.CNT_RX_UNMATCHED p)
  else s.rxMatch p f

/-- NET_FRAME_RECEIVE (06 R140). -/
def execNetFrameReceive (port : Nat) (f : NetFrame) (t : Nat) (s : State) : Host.Outcome State Fault Refusal :=
  .next ((s.atTime t).cond (s.isSender && s.netPort port && s.lvB (R.NET.EN port) && s.flag (R.NET.LINK_UP port))
    (netFrameFx port f))

/-! Dropped pictures and link changes (06 R138, R148, R151). -/

/-- A source drops the picture in progress and waits for the next start (06 R148). -/
def State.srcDrop (s : State) (src : Nat) : State :=
  let s := s.modStr src (fun x => { x with since := s.time, whole := [], pic := x.pic.map (fun p => { p with dead := true }) })
  s.cond (decide (src < 16) && s.rd (R.STR.STATE src) == 3 && s.lv (R.STR.KIND src) == 0) (fun s => s.wr (R.STR.STATE src) 2)

/-- STREAM_RESYNC (06 R148, R158, R159). -/
def execStreamResync (src t : Nat) (s : State) : Host.Outcome State Fault Refusal :=
  .next ((s.atTime t).cond (s.isSender && decide (src < 20)) (fun s => s.srcDrop src))

/-- The other leg of a stream is in use: enabled, its port's link up, and not silent (06 R145). -/
def State.otherLegRuns (s : State) (n leg : Nat) : Bool :=
  match legOf s.lv n (1 - leg) with
  | none => false
  | some l => s.flag (R.NET.LINK_UP l.port) && s.flag (if leg = 0 then R.STR.LEG_B_OK n else R.STR.LEG_A_OK n)

/-- The legs on a port join their groups anew; a stream that goes on by its other leg keeps its picture (06 R138, R141, R145). -/
def State.rejoin (s : State) (p : Nat) : State :=
  s.each allLegs (fun s x =>
    match legOf s.lv x.1 x.2 with
    | none => s
    | some l => s.cond (l.port == p) (fun s =>
      (s.cond (!s.otherLegRuns x.1 x.2) (fun s => s.srcDrop x.1)).startReports x.1 x.2 l false))

/-- NET_LINK_CHANGE: the link of an enabled port comes up or goes down; its PTP instances follow, and its streams rejoin (06 R138,
    R139; 04 R91). -/
def netLinkFx (p : Nat) (up : Bool) (s : State) : State :=
  let s := ((s.wrB (R.NET.LINK_UP p) up).wrB (R.NET.FEC_LOCK p) up).netLevel p
  let s := s.each ([0, 1].filter (fun i => s.lvB (R.PTP.EN i) && s.lv (R.PTP.NET i) == p)) (fun s i =>
    s.ptpLost i (if up then ppLISTENING else ppFAULTY))
  s.cond up (fun s => s.rejoin p)

/-- NET_LINK_CHANGE (06 R139). -/
def execNetLinkChange (port : Nat) (up : Bool) (t : Nat) (s : State) : Host.Outcome State Fault Refusal :=
  .next ((s.atTime t).cond (s.isSender && s.netPort port && s.lvB (R.NET.EN port)) (netLinkFx port up))

/-! SDI (06 R150 to R152). -/

/-- QUAD is applied on SDI0 (06 R152). -/
def State.quad (s : State) : Bool := s.lvB (R.SDI.QUAD 0)

/-- SDI_LOCK_CHANGE: a receiver gains or loses lock; loss, and in quad link the loss of any link, drops the picture (06 R151, R152). -/
def sdiLockFx (n : Nat) (lock : Bool) (rate : Nat) (s : State) : State :=
  let s := ((s.wrB (R.SDI.LOCKED n) lock).wr (R.SDI.RATE n) (if lock then rate else 0)).raise (R.SDI.ev_LOCK_CHANGE n)
  let s := s.cond (!lock) (fun s => (s.inc (R.SDI.CNT_LOCK_LOST n)).wr (R.SDI.VPID_VALID n) 0)
  s.srcDrop (if s.quad then 16 else 16 + n)

/-- SDI_LOCK_CHANGE (06 R151). -/
def execSdiLockChange (n : Nat) (lock : Bool) (rate t : Nat) (s : State) : Host.Outcome State Fault Refusal :=
  .next ((s.atTime t).cond (s.isSender && decide (n < 4) && (s.lvB (R.SDI.EN n) || (s.quad && s.lvB (R.SDI.EN 0))) &&
    s.flag (R.SDI.LOCKED n) != lock) (sdiLockFx n lock rate))

/-- A frame of this link rate, raster, scan and rate is one of the formats that a receiver supports; `fps` is the whole rate of its pictures
    (fields when interlaced), `r1001` its 1/1.001 family (06 R150). -/
def sdiRaster (quad : Bool) (rate w h scan fps : Nat) (r1001 : Bool) : Bool :=
  let fast := fps == 48 || fps == 50 || fps == 60
  let family := !r1001 || (fps != 25 && fps != 50)
  family && (match rate with
    | 1 => (w == 1920 && h == 1080 && (if scan = 1 then fps == 50 || fps == 60 else fps == 24 || fps == 25 || fps == 30)) ||
      (w == 1280 && h == 720 && scan == 0 && (fps == 50 || fps == 60))
    | 2 => w == 1920 && h == 1080 && scan == 0 && fast
    | 3 => scan == 0 && fast && (if quad then w == 7680 && h == 4320 else h == 2160 && (w == 3840 || w == 4096))
    | _ => false)

/-- SDI_FRAME_RECEIVE: CRC errors count; raster, rate and VPID are judged against the configured format; quad-link skew above 100 µs
    (06 R150 to R152). -/
def sdiFrameFx (n w h scan fps : Nat) (r1001 : Bool) (vpid skewUs crcErrs : Nat) (s : State) : State :=
  let s := s.incBy (R.SDI.CNT_CRC n) crcErrs
  if s.quad && n != 0 then s
  else
    let s := (s.wr (R.SDI.VPID n) vpid).wrB (R.SDI.VPID_VALID n) (vpid != 0)
    let bad := decide (w ≠ s.lv (R.SDI.WIDTH n) ∨ h ≠ s.lv (R.SDI.HEIGHT n) ∨ scan ≠ s.lv (R.SDI.SCAN n)) ||
      s.rd (R.SDI.RATE n) != s.lv (R.SDI.EXP_RATE n) || r1001 != s.lvB (R.SDI.RATE_1001 n) ||
      !sdiRaster s.quad (s.rd (R.SDI.RATE n)) w h scan fps r1001 ||
      (vpid != 0 && !Config.vpidFits vpid (s.lv (R.SDI.EXP_RATE n)) (s.lv (R.SDI.RATE_1001 n)) w h scan)
    let was := s.raw (R.SDI.ev_FORMAT_ERR n)
    let s := (s.cond (bad && !was) (fun s => s.inc (R.SDI.CNT_FORMAT_ERR n))).level (R.SDI.ev_FORMAT_ERR n) bad
    s.cond (n == 0) (fun s => s.level (R.SDI.ev_QUAD_SKEW 0) (s.quad && decide (100 < skewUs)))

/-- SDI_FRAME_RECEIVE (06 R150). -/
def execSdiFrameReceive (n width height : Nat) (scan : SdiScan) (vpid skewUs crcErrs : Nat) (s : State) :
    Host.Outcome State Fault Refusal :=
  .next (s.start.cond (s.isSender && decide (n < 4) && s.flag (R.SDI.LOCKED n) && (s.lvB (R.SDI.EN n) || s.quad))
    (sdiFrameFx n width height scan.scan scan.fps scan.r1001 vpid skewUs crcErrs))

/-! Pictures (06 R147, R148, R153). -/

/-- SDI n delivers pictures now (06 R150 to R152). -/
def State.sdiDelivers (s : State) (n : Nat) : Bool :=
  s.lvB (R.SDI.EN n) && !(s.quad && n != 0) && !s.raw (R.SDI.ev_FORMAT_ERR n) &&
    (if s.quad then !s.raw (R.SDI.ev_QUAD_SKEW 0) && (List.range 4).all (fun k => s.flag (R.SDI.LOCKED k)) else s.flag (R.SDI.LOCKED n))

/-- A whole picture of a kind 0 stream is in DRAM, or is dropped; it is incomplete when a packet of it was lost on both legs (06 R147,
    R148). -/
def State.strPicture (s : State) (n : Nat) (a : PicAsm) : State :=
  let s := s.cond a.lost (fun s => s.incRaise (R.STR.CNT_INCOMPLETE n) (R.STR.ev_INCOMPLETE n))
  if a.lost && !s.lvB (R.STR.INCOMPLETE n) then s
  else
    match s.nextSurface n (s.lv (R.STR.BUF_COUNT n)) with
    | none => s.incRaise (R.STR.CNT_NOBUF n) (R.STR.ev_NOBUF n)
    | some i =>
      let w := s.lv (R.STR.WIDTH n)
      let h := s.lv (R.STR.HEIGHT n)
      let scan := s.lv (R.STR.SCAN n)
      let (rows, s) := s.convert (s.strConv n (s.lv (R.STR.SAMPLING n)) (s.lv (R.STR.DEPTH n))) scan w h (a.picture scan w h)
      let s := s.storeSurface (s.lv (R.STR.BUF_BASE n) + i * s.lv (R.STR.BUF_STRIDE n) * 4096) w h rows
      (((s.wr (R.STR.READY_IDX n) i).wr (R.STR.READY_VALID n) 1).wr (R.STR.READY_RTP n) (a.rtp % 2 ^ 32)).signalStream n i s.time

/-- A picture of an SDI receiver (06 R147, R151). -/
def State.sdiPicture (s : State) (n : Nat) (p : Picture) : State :=
  match s.nextSurface (16 + n) (s.lv (R.SDI.BUF_COUNT n)) with
  | none => s.incRaise (R.SDI.CNT_NOBUF n) (R.SDI.ev_NOBUF n)
  | some i =>
    let w := s.lv (R.SDI.WIDTH n)
    let h := s.lv (R.SDI.HEIGHT n)
    let c : Conv := { sampling := 0, depth := 1, full := s.lvB (R.SDI.FULL n), tcs := s.lv (R.SDI.TCS n), color := s.lv (R.SDI.COLOR n),
                      sdr := s.lv (R.SDI.SDR_NITS n), hlg := s.lv (R.SDI.HLG_NITS n), peak := s.lv R.CMP.PEAK_NITS }
    let (rows, s) := s.convert c (s.lv (R.SDI.SCAN n)) w h p
    let s := s.storeSurface (s.lv (R.SDI.BUF_BASE n) + i * s.lv (R.SDI.BUF_STRIDE n) * 4096) w h rows
    ((s.wr (R.SDI.READY_IDX n) i).wr (R.SDI.READY_VALID n) 1).signalStream (16 + n) i s.time

/-- PICTURE_READY: the oldest whole picture of a stream is in DRAM; an SDI receiver's comes with the command, and is dropped when its start
    was missed or lies before the source began to wait for one (06 R147, R148, R151). -/
def pictureFx (src : Nat) (p : Picture) (s : State) : State :=
  if src < 16 then
    match (s.strSt src).whole with
    | [] => s
    | a :: rest => (s.modStr src (fun x => { x with whole := rest })).strPicture src a
  else if p.startMissed || decide (p.start < (s.strSt src).since) then s
  else s.sdiPicture (src - 16) p

/-- PICTURE_READY (06 R147). -/
def execPictureReady (src : Nat) (p : Picture) (t : Nat) (s : State) : Host.Outcome State Fault Refusal :=
  .next ((s.atTime t).cond (s.isSender &&
    (if src < 16 then s.lvB (R.STR.EN src) && s.lv (R.STR.KIND src) == 0 else decide (src < 20) && s.sdiDelivers (src - 16)))
    (pictureFx src p))

/-! A commit applied (06 R138, R141, R148). -/

/-- The live words of a page changed. -/
def State.pageChanged (s old : State) (page words : Nat) : Bool :=
  (List.range words).any (fun i => s.word (regKey page (0x440 + 4 * i)) != old.word (regKey page (0x440 + 4 * i)))

/-- The reports and leaves of a leg that a commit enabled, disabled or changed (06 R141). -/
def State.legApplied (s old : State) (x : Nat × Nat) : State :=
  let a := legOf old.lv x.1 x.2
  let b := legOf s.lv x.1 x.2
  if a = b then s
  else
    let s := match a with
      | none => s
      | some l => s.startReports x.1 x.2 l true
    match b with
    | none => s.wr (if x.2 = 0 then R.STR.LEG_A_OK x.1 else R.STR.LEG_B_OK x.1) 0
    | some l => s.startReports x.1 x.2 l false

/-- A stream receiver at an apply tick: its picture in progress is dropped, whatever the commit holds (06 R148; log 38); STATE follows a
    changed page (06 R158). -/
def State.strApplied (s old : State) (n : Nat) : State :=
  let s := s.srcDrop n
  if !s.pageChanged old (0x020 + n) 14 then s
  else
    if !s.lvB (R.STR.EN n) then (s.wr (R.STR.STATE n) 0).level (R.STR.ev_LEG_DOWN n) false
    else if old.lvB (R.STR.EN n) ∧ s.lv (R.STR.KIND n) = old.lv (R.STR.KIND n) then s
    else
      let since := (s.strSt n).since
      (s.modStr n (fun _ => { since := since })).wr (R.STR.STATE n) 1

/-- The NET ports, streams and SDI receivers at an apply tick (06 R138, R141, R148). -/
def State.netApplied (s old : State) : State :=
  let mode := s.lv (R.NET.PORT_MODE 0) != old.lv (R.NET.PORT_MODE 0)
  let s := s.each (List.range 8) (fun s p =>
    let retrain := mode || s.lv (R.NET.EN p) != old.lv (R.NET.EN p) || s.lv (R.NET.FEC p) != old.lv (R.NET.FEC p) ||
      s.lv (R.NET.AN p) != old.lv (R.NET.AN p)
    let s := s.cond retrain (fun s => (s.wr (R.NET.LINK_UP p) 0).wr (R.NET.FEC_LOCK p) 0)
    let s := s.cond mode (fun s => (s.wr (R.NET.TXQ_HEAD p) (s.rd (R.NET.TXQ_TAIL p))).modNet p (fun x => { x with enq := [] }))
    s.netLevel p)
  let s := s.each (List.range 16) (fun s n => s.strApplied old n)
  let s := s.each allLegs (fun s x => s.legApplied old x)
  s.each (List.range 4) (fun s n => s.srcDrop (16 + n))

end Sys2Proof.Machine
end

