-- ==== Sys2Proof/Machine/Compose.lean ====
section
/-!
DEFINITION. Composition: layer pixels, scalers, blending, line pacing, sagger regions, the hidden region and the preview (08 R186, R188,
R194 to R215).
-/

namespace Sys2Proof.Machine

/-! Layer pixels (08 R188, R192, R195, R196). -/

/-- A layer pixel: colour and alpha. -/
abbrev LayPix := Pixel × Nat

/-- A component lit or not. -/
def lit (b : Bool) (c : Nat) : Nat := if b then c else 0

/-- A test pattern's pixel at (u, v) of a destination of w by h, in epoch e (08 R188). -/
def patternPixel (pat sz w h e : Nat) (col : Pixel) (u v : Nat) : Pixel :=
  let all (b : Bool) : Pixel := ⟨lit b col.r, lit b col.g, lit b col.b⟩
  match pat with
  | 0 => if w = 1 then black else ⟨u * col.r / (w - 1), u * col.g / (w - 1), u * col.b / (w - 1)⟩
  | 1 => all ((u / 2 ^ sz + v / 2 ^ sz) % 2 == 0)
  | 2 => all (u % 2 ^ sz == 0 || v % 2 ^ sz == 0 || u == w - 1 || v == h - 1)
  | 3 =>
    let b := 8 * u / w
    ⟨lit ([0, 1, 4, 5].contains b) col.r, lit ([0, 1, 2, 3].contains b) col.g, lit ([0, 2, 4, 6].contains b) col.b⟩
  | _ => all (u / 2 ^ sz == e % ceilDiv w (2 ^ sz))

/-- The size of a layer's picture from a configuration (08 R186). -/
def pictureSize (g : Cfg) (n : Nat) : Nat × Nat :=
  if g (R.LYR.SRC n) = 2 then (g (R.LYR.HOST_W n), g (R.LYR.HOST_H n))
  else
    let k := g (R.LYR.SRC_SEL n)
    if k < 16 then (if g (R.STR.KIND k) = 3 then decSize g k else if g (R.STR.KIND k) = 0 then (g (R.STR.WIDTH k), g (R.STR.HEIGHT k)) else (0, 0))
    else (g (R.SDI.WIDTH (k - 16)), g (R.SDI.HEIGHT (k - 16)))

/-- Where surface i of a stream source begins (06 R147). -/
def State.surfaceBase (s : State) (k i : Nat) : Nat :=
  if k < 16 then s.lv (R.STR.BUF_BASE k) + i * s.lv (R.STR.BUF_STRIDE k) * 4096
  else s.lv (R.SDI.BUF_BASE (k - 16)) + i * s.lv (R.SDI.BUF_STRIDE (k - 16)) * 4096

/-- Pixel (x, y) of the buffer that a layer has leased (08 R184, R187). -/
def State.sourcePixel (s : State) (n x y : Nat) : LayPix :=
  let b := (s.lease n).getD 0
  if s.lv (R.LYR.SRC n) = 2 then
    s.hostPixel n ((s.window n b).1 + y * s.lv (R.LYR.HOST_STRIDE n) + x * hostBpp (s.lv (R.LYR.HOST_FMT n)))
  else
    let k := s.lv (R.LYR.SRC_SEL n)
    (s.slabPixel (s.surfaceBase k b) (pictureSize s.lv n).1 x y, 4096)

/-- The components of a layer pixel, alpha last. -/
def comps (p : LayPix) : List Int := [(p.1.r : Int), (p.1.g : Int), (p.1.b : Int), (p.2 : Int)]

/-- A filtered component: rounded, shifted and clipped, and whether it was clipped (08 R196). -/
def sclClip (acc : Int) (alpha : Bool) : Nat × Bool :=
  let v := shrInt (acc + 512) 10
  let m : Nat := if alpha then 4096 else l20Max
  (clipNat v m, decide (v < 0 ∨ (m : Int) < v))

/-- A coefficient of a scaler: horizontal at byte 16 phi + 2 j, vertical at 1,024 + 16 phi + 2 j (08 R197). -/
def sclCoef (rd : Nat → Word32) (vert : Bool) (phi j : Nat) : Int :=
  signedOf 16 (fieldOf (rd ((if vert then 256 else 0) + 4 * phi + j / 2)) (16 * (j % 2)) 16)

/-- Where output sample i falls: source pixel k and phase (08 R196). -/
def sclPos (nIn nOut i : Nat) (phase : Int) : Int × Nat :=
  let step := nIn * 65536 / nOut
  let p : Int := ((i * step + step / 2 : Nat) : Int) - 32768 + phase
  (shrInt p 16, (p % 65536).toNat / 1024)

/-- One pass of a scaler over its taps: the samples as component lists, first tap first (08 R196). -/
def sclPass (coef : Nat → Int) (taps : List (List Int)) : List (Nat × Bool) :=
  (List.range 4).map (fun c =>
    sclClip (((List.range taps.length).map (fun j => coef j * (taps.getD j []).getD c 0)).foldl (· + ·) 0) (c == 3))

/-- Output pixel (u, v) of a scaled placement, with the output samples that were clipped (08 R196). -/
def State.scaledPixel (s : State) (n f u v : Nat) : LayPix × Nat :=
  let k := s.lv (R.LYR.SCL n f)
  let rd := s.tabW (0x053 + k) 0
  let (w, h) := pictureSize s.lv n
  let px := sclPos (s.lv (R.LYR.SRC_W_M1 n f) + 1) (s.lv (R.LYR.DST_W_M1 n f) + 1) u (s.lvI (R.LYR.PHASE_X n f))
  let py := sclPos (s.lv (R.LYR.SRC_H_M1 n f) + 1) (s.lv (R.LYR.DST_H_M1 n f) + 1) v (s.lvI (R.LYR.PHASE_Y n f))
  let horiz (y : Nat) : List Int :=
    (sclPass (sclCoef rd false px.2) ((List.range 8).map (fun (j : Nat) =>
      comps (s.sourcePixel n (clipNat (s.lv (R.LYR.SRC_X n f) + px.1 - 3 + j) (w - 1)) y)))).map (fun (c : Nat × Bool) => (c.1 : Int))
  let out := sclPass (sclCoef rd true py.2) ((List.range 6).map (fun (j : Nat) =>
    horiz (clipNat (s.lv (R.LYR.SRC_Y n f) + py.1 - 2 + j) (h - 1))))
  let c (i : Nat) : Nat := (out.getD i (0, false)).1
  ((⟨c 0, c 1, c 2⟩, c 3), (out.filter (fun (x : Nat × Bool) => x.2)).length)

/-- What layer n shows at (u, v) of its placement in feed f, and scaler samples clipped; none where it contributes nothing
    (08 R186, R188, R192, R195). -/
def State.layerPixel (s : State) (n f u v : Nat) : Option LayPix × Nat :=
  let col : Pixel := ⟨s.lv (R.LYR.COLOR_R n), s.lv (R.LYR.COLOR_G n), s.lv (R.LYR.COLOR_B n)⟩
  match s.lv (R.LYR.SRC n) with
  | 3 => (some (col, s.lv (R.LYR.ALPHA_PIX n)), 0)
  | 4 => (some (patternPixel (s.lv (R.LYR.PATTERN n)) (s.lv (R.LYR.PAT_SIZE n)) (s.lv (R.LYR.DST_W_M1 n f) + 1)
      (s.lv (R.LYR.DST_H_M1 n f) + 1) s.epoch col u v, 4096), 0)
  | 0 => (none, 0)
  | _ =>
    match (s.layer n).mode with
    | 0 => (none, 0)
    | 2 => (some (black, 4096), 0)
    | _ =>
      if s.lvB (R.LYR.SCL_EN n f) then
        let x := s.scaledPixel n f u v
        (some x.1, x.2)
      else (some (s.sourcePixel n (s.lv (R.LYR.SRC_X n f) + u) (s.lv (R.LYR.SRC_Y n f) + v)), 0)

/-! Blending (08 R199). -/

/-- The weight of a layer pixel (08 R199). -/
def blendAlpha (aPix alpha : Nat) : Nat := (aPix * alpha + 2048) / 4096

/-- One blended component (08 R199). -/
def blend (c d a : Nat) : Nat := (c * a + d * (4096 - a) + 2048) / 4096

/-- A pixel with a layer pixel over it (08 R199). -/
def blendPixel (d : Pixel) (p : LayPix) (alpha : Nat) : Pixel :=
  let a := blendAlpha p.2 alpha
  ⟨blend p.1.r d.r a, blend p.1.g d.g a, blend p.1.b d.b a⟩

/-- The enabled placement of layer n in feed f covers a canvas pixel (08 R194). -/
def covers (g : Cfg) (n f x y : Nat) : Bool :=
  g (R.LYR.EN n f) == 1 &&
    decide (g (R.LYR.DST_X n f) ≤ x ∧ x ≤ g (R.LYR.DST_X n f) + g (R.LYR.DST_W_M1 n f) ∧
      g (R.LYR.DST_Y n f) ≤ y ∧ y ≤ g (R.LYR.DST_Y n f) + g (R.LYR.DST_H_M1 n f))

/-- The background of a feed (08 R199). -/
def State.background (s : State) (f : Nat) : Pixel := ⟨s.lv (R.CMP.BG_R f), s.lv (R.CMP.BG_G f), s.lv (R.CMP.BG_B f)⟩

/-- A composed pixel of a feed, bottom layer first, and the scaler samples clipped by scaler (08 R199). -/
def State.composePixel (s : State) (f x y : Nat) : Pixel × List (Nat × Nat) :=
  layerNos.foldl (fun acc n =>
    if covers s.lv n f x y then
      let r := s.layerPixel n f (x - s.lv (R.LYR.DST_X n f)) (y - s.lv (R.LYR.DST_Y n f))
      let clips := if r.2 = 0 then acc.2 else (s.lv (R.LYR.SCL n f), r.2) :: acc.2
      match r.1 with
      | none => (acc.1, clips)
      | some p => (blendPixel acc.1 p (s.lv (R.LYR.ALPHA n f)), clips)
    else acc) (s.background f, [])

/-! Sagger descriptors (08 R208). -/

/-- Word i of the descriptor of region k = 32 f + r, from a reader of SAG table 0. -/
structure Region where
  x : Nat
  y : Nat
  w : Nat
  h : Nat
  mode : Nat
  action : Nat
  flagTrip : Bool
  expected : Word32
  repl : Pixel
deriving DecidableEq, Repr

/-- The descriptor of region k (08 R208). -/
def regionOf (rd : Nat → Word32) (k : Nat) : Region :=
  let d (i : Nat) : Word32 := rd (8 * k + i)
  { x := fieldOf (d 0) 0 14, y := fieldOf (d 0) 16 14, w := fieldOf (d 1) 0 14 + 1, h := fieldOf (d 1) 16 14 + 1,
    mode := fieldOf (d 2) 0 2, action := fieldOf (d 2) 2 2, flagTrip := (d 2).toNat.testBit 4, expected := d 3,
    repl := ⟨fieldOf (d 4) 0 20, fieldOf (d 5) 0 20, fieldOf (d 6) 0 20⟩ }

/-- The applied descriptor. -/
def State.region (s : State) (k : Nat) : Region := regionOf (s.tabW 0x05B 0) k

/-- All regions. -/
def regionNos : List Nat := List.range 256

/-- What an unlisted region holds. -/
def regDefault : Nat → RegSt := fun _ => {}

/-- The record of a region. -/
def State.regSt (s : State) (k : Nat) : RegSt := smGet regDefault s.sag k

/-- Change it. -/
def State.modReg (s : State) (k : Nat) (f : RegSt → RegSt) : State := { s with sag := smMod regDefault s.sag k f }

/-- A flag of SAG table 1 (08 R221). -/
def State.sagFlag (s : State) (k i : Nat) : Bool := (s.immW 0x05B 1 (4 * k + 1)).toNat.testBit i

/-- Set it. -/
def State.setSagFlag (s : State) (k i : Nat) (b : Bool) : State :=
  s.setImm 0x05B 1 (4 * k + 1) (putField (s.immW 0x05B 1 (4 * k + 1)) i 1 (b2n b))

/-- 4 KiB units of one copy of a HOLD region (08 R213). -/
def holdUnits (r : Region) : Nat := if r.mode ≠ 0 ∧ r.action = 2 then ceilDiv (r.w * r.h * 8) 4096 else 0

/-- Units that the HOLD regions below k take, two copies each (08 R213). -/
def holdBefore (rd : Nat → Word32) (k : Nat) : Nat := ((List.range k).map (fun j => 2 * holdUnits (regionOf rd j))).foldl (· + ·) 0

/-- Where a copy of a HOLD region begins. -/
def State.holdBase (s : State) (k half : Nat) : Nat :=
  s.lv R.SAG.SAVE_BASE + 4096 * (holdBefore (s.tabW 0x05B 0) k + half * holdUnits (s.region k))

/-- The action of a region is in force (08 R210, R212). -/
def RegSt.inForce (r : RegSt) : Bool := r.force || r.trip

/-- The actions as ACTIONf, table 1 and ACTIVE show them; an action that leaves force raises RECOVER (08 R221). -/
def State.showAction (s : State) (k : Nat) : State :=
  let b := (s.regSt k).inForce
  let was := s.sagFlag k 2
  let s := (s.wr (R.SAG.ACTION (k / 32)) (withBit (s.rd (R.SAG.ACTION (k / 32))) (k % 32) b)).setSagFlag k 2 b
  let s := s.cond (was && !b) (fun s => s.raise R.SAG.ev_RECOVER)
  s.level R.SAG.ev_ACTIVE ((List.range 8).any (fun f => s.rd (R.SAG.ACTION f) != 0))

/-- The pixel that an action puts out at (x, y): the replacement colour, or the saved copy unless it came back poisoned in this frame
    (08 R213; 14 R385). -/
def State.actionPixel (s : State) (k x y : Nat) : Pixel :=
  let r := s.region k
  match (if r.action = 2 ∧ r.mode ≠ 3 ∧ !(s.regSt k).poisoned then (s.regSt k).saved else none) with
  | none => r.repl
  | some half => pixOf60 (leNat (s.dramBytes (s.holdBase k half + 8 * ((y - r.y) * r.w + (x - r.x))) 8))

/-- A pixel lies in a region. -/
def Region.holds (r : Region) (x y : Nat) : Bool := decide (r.x ≤ x ∧ x < r.x + r.w ∧ r.y ≤ y ∧ y < r.y + r.h)

/-- The regions whose saved copy puts out pixels of a line of a feed, with the range of the copy that the line takes (08 R213). -/
def State.heldRows (s : State) (f y : Nat) : List (Nat × Nat × Nat) :=
  ((List.range 32).map (32 * f + ·)).filterMap (fun k =>
    let r := s.region k
    if (s.regSt k).inForce ∧ r.action = 2 ∧ (r.mode = 1 ∨ r.mode = 2) ∧ r.y ≤ y ∧ y < r.y + r.h then
      (s.regSt k).saved.map (fun half => (k, s.holdBase k half + 8 * ((y - r.y) * r.w), 8 * r.w))
    else none)

/-- The saved copies that a line takes are read: a poisoned one makes its region act as REPLACE for the frame (14 R385). -/
def State.readHeld (s : State) (f y : Nat) : State :=
  s.each (s.heldRows f y) (fun s (x : Nat × Nat × Nat) =>
    let bad := s.unsound x.2.1 x.2.2
    (s.readUe x.2.1 x.2.2).cond bad (fun s => s.modReg x.1 (fun r => { r with poisoned := true })))

/-- A line of a feed after the actions in force (08 R213; log 39). -/
def State.sagLine (s : State) (f y : Nat) (row : List Pixel) : List Pixel :=
  let ks := ((List.range 32).map (32 * f + ·)).filter (fun k =>
    (s.regSt k).inForce && (s.region k).mode != 0 && ((s.region k).action == 1 || (s.region k).action == 2))
  if ks = [] then row
  else
    (List.range row.length).map (fun x =>
      match ks.filter (fun k => (s.region k).holds x y) with
      | [] => row.getD x black
      | c :: cs => s.actionPixel ((c :: cs).getD (Config.sagPick (c :: cs) % (c :: cs).length) c) x y)

/-! Trips (08 R212). -/

/-- An enabled placement of a layer meets a region (08 R212). -/
def State.meets (s : State) (n k : Nat) : Bool :=
  let f := k / 32
  let r := s.region k
  s.lvB (R.LYR.EN n f) &&
    decide (s.lv (R.LYR.DST_X n f) < r.x + r.w ∧ r.x ≤ s.lv (R.LYR.DST_X n f) + s.lv (R.LYR.DST_W_M1 n f) ∧
      s.lv (R.LYR.DST_Y n f) < r.y + r.h ∧ r.y ≤ s.lv (R.LYR.DST_Y n f) + s.lv (R.LYR.DST_H_M1 n f))

/-- The regions that the flags of a layer trip: mode 3, or FLAG_TRIP in modes 1 and 2 (08 R212). -/
def State.tripped (s : State) (n : Nat) : List Nat :=
  regionNos.filter (fun k => ((s.region k).mode == 3 || ((s.region k).mode != 0 && (s.region k).flagTrip)) && s.meets n k)

/-- Regions trip in this frame, each counted once, and also in the next when the cause is SUSPECT (08 R212, R215). -/
def State.trip (s : State) (ks : List Nat) (suspect : Bool) (counted : List Nat) : State :=
  s.each ks (fun s k =>
    let s := s.cond (!counted.contains k) (fun s => s.incRaise R.SAG.CNT_TRIP R.SAG.ev_TRIP)
    (s.modReg k (fun r => { r with trip := true, tripNext := r.tripNext || suspect })).showAction k)

/-- The regions that have tripped in the frame in progress by a flag of this frame: those that a flagged layer meets. -/
def State.trippedNow (s : State) : List Nat :=
  (layerNos.filter (fun n => s.flag (R.LYR.st_SUSPECT n) || s.flag (R.LYR.st_CONCEALED n))).flatMap (fun n => s.tripped n)

/-! Poisoned layer surfaces (14 R385). -/

/-- First and last of a row of positions. -/
def spanOf (lo hi : Int) (size : Nat) : Nat × Nat := (clipNat lo (size - 1), clipNat hi (size - 1))

/-- The rows and the columns of a layer's picture that line y of its placement in feed f reads (08 R195, R196). -/
def State.readSpan (s : State) (n f y : Nat) : (Nat × Nat) × Nat × Nat :=
  let (w, h) := pictureSize s.lv n
  let v := y - s.lv (R.LYR.DST_Y n f)
  let x0 := s.lv (R.LYR.SRC_X n f)
  let y0 := s.lv (R.LYR.SRC_Y n f)
  let dw := s.lv (R.LYR.DST_W_M1 n f)
  if s.lvB (R.LYR.SCL_EN n f) then
    let px (u : Nat) : Int := (sclPos (s.lv (R.LYR.SRC_W_M1 n f) + 1) (dw + 1) u (s.lvI (R.LYR.PHASE_X n f))).1
    let py := (sclPos (s.lv (R.LYR.SRC_H_M1 n f) + 1) (s.lv (R.LYR.DST_H_M1 n f) + 1) v (s.lvI (R.LYR.PHASE_Y n f))).1
    (spanOf (y0 + py - 2) (y0 + py + 3) h, spanOf (x0 + px 0 - 3) (x0 + px dw + 4) w)
  else ((y0 + v, y0 + v), (x0, x0 + dw))

/-- The numbers of a span. -/
def spanList (p : Nat × Nat) : List Nat := (List.range (p.2 + 1 - p.1)).map (p.1 + ·)

/-- The DRAM ranges that line y of feed f reads of layer n's buffer: rows of a host buffer, or whole slabs (08 R184, R187, R196). -/
def State.layerReads (s : State) (n f y : Nat) : List (Nat × Nat) :=
  let (rows, cols) := s.readSpan n f y
  let b := (s.lease n).getD 0
  if s.lv (R.LYR.SRC n) = 2 then
    let bpp := hostBpp (s.lv (R.LYR.HOST_FMT n))
    (spanList rows).map (fun r => ((s.window n b).1 + r * s.lv (R.LYR.HOST_STRIDE n) + cols.1 * bpp, (cols.2 + 1 - cols.1) * bpp))
  else
    let base := s.surfaceBase (s.lv (R.LYR.SRC_SEL n)) b
    let w := slabAcross (pictureSize s.lv n).1
    (spanList (rows.1 / 4, rows.2 / 4)).flatMap (fun r => (spanList (cols.1 / 64, cols.2 / 64)).map (fun c =>
      (base + 2048 * (r * w + c), s.slabLength (base + 2048 * (r * w + c)))))

/-- The layers that read a buffer for line y of feed f. -/
def State.readingLayers (s : State) (f y : Nat) : List Nat :=
  layerNos.filter (fun n => (s.lv (R.LYR.SRC n) == 1 || s.lv (R.LYR.SRC n) == 2) && (s.layer n).mode == 1 &&
    s.lvB (R.LYR.EN n f) && decide (s.lv (R.LYR.DST_Y n f) ≤ y ∧ y ≤ s.lv (R.LYR.DST_Y n f) + s.lv (R.LYR.DST_H_M1 n f)))

/-- The surfaces that a line reads are read: a layer whose surface comes back poisoned is SUSPECT for the frame, and regions with flag trips
    act on it (14 R385; 08 R191, R212). A line reads each of its slabs or rows once (log 188). -/
def State.readLayers (s : State) (f y : Nat) : State :=
  s.each (s.readingLayers f y) (fun s n =>
    let rs := s.layerReads n f y
    let bad := rs.any (fun r => s.unsound r.1 r.2)
    let s := s.each rs (fun s r => s.readUe r.1 r.2)
    s.cond bad (fun s => let before := s.trippedNow; (s.suspect n).trip (s.tripped n) true before))

/-! Lines (08 R202, R204). -/

/-- The key of a line of a feed. -/
def lineKey (f y : Nat) : Nat := 16384 * f + y

/-- A line of the frame as composed, and as handed on. -/
def State.rawLine (s : State) (f y : Nat) : List Pixel := smGet (fun _ => []) s.cmp.canvas (lineKey f y)
def State.outLine (s : State) (f y : Nat) : List Pixel := smGet (fun _ => []) s.cmp.outc (lineKey f y)

/-- The next line of a feed. -/
def State.nextLine (s : State) (f : Nat) : Nat := smGet (fun _ => 0) s.cmp.next f

/-- The line in work: the first that some feed has not done (08 R202, R218). -/
def State.lineInWork (s : State) : Nat :=
  ((List.range (composedFeeds s.lv)).map s.nextLine).foldl min (canvasH s.lv)

/-- A line leaves for mapping and the preview write-back; CMP.LINE is the line in work then (08 R204, R218). -/
def State.lineOut (s : State) (f y : Nat) (row : List Pixel) : State :=
  let s := s.readHeld f y
  let out := s.sagLine f y row
  let s : State := { s with cmp := { s.cmp with
    next := smSet (fun _ => 0) s.cmp.next f (y + 1),
    canvas := smSet (fun _ => []) s.cmp.canvas (lineKey f y) row,
    outc := smSet (fun _ => []) s.cmp.outc (lineKey f y) out } }
  let s := s.stageLine f y out
  (s.wr R.CMP.LINE (min s.lineInWork (s.lv R.CMP.CANVAS_H_M1))).emit (.line f y out)

/-- Line y is the next one of the feed: the sender composes and the line has not left (08 R202). -/
def State.lineNext (s : State) (y f : Nat) : Bool :=
  s.composes && decide (f < composedFeeds s.lv ∧ y < canvasH s.lv) && s.nextLine f == y

/-- A line of a feed can be composed now: it is the feed's next line, every earlier line of every feed has left, and slot y - 32 has
    begun (08 R202). -/
def State.lineDue (s : State) (y f : Nat) : Bool :=
  s.lineNext y f && decide (y ≤ s.lineInWork) && decide (y ≤ s.rd (R.TG.LINE 0) + 32)

/-- The clipped output samples of composed pixels, counted by scaler (08 R220). -/
def State.countClips (s : State) (px : List (Pixel × List (Nat × Nat))) : State :=
  s.each (px.flatMap Prod.snd) (fun s c => s.incBy (R.SCL.CNT_CLIP c.1) c.2)

/-- LINE_COMPOSED (08 R199, R202). -/
def lineComposedFx (y f : Nat) (s : State) : State :=
  let s := s.readLayers f y
  let px := (List.range (canvasW s.lv)).map (fun x => s.composePixel f x y)
  (s.countClips px).lineOut f y (px.map Prod.fst)

/-- LINE_COMPOSED (08 R202). -/
def execLineComposed (line feed : Nat) (s : State) : Host.Outcome State Fault Refusal :=
  .next (s.start.cond (s.lineDue line feed) (lineComposedFx line feed))

/-- An incomplete line is filled by the output stage with its last composed pixel; how many pixels were composed is not fixed
    (08 R202; log 40). -/
def State.fillLine (s : State) (y f : Nat) : State :=
  let w := canvasW s.lv
  let (n, s) := s.fresh
  let n := n % w
  let s := s.cond (n != 0) (fun s => s.readLayers f y)
  let px := (List.range n).map (fun x => s.composePixel f x y)
  let done := px.map Prod.fst
  let s := s.countClips px
  let last := done.getLast?.getD (s.background f)
  let s := (s.incRaise (R.TG.CNT_UNDERRUN 0) (R.TG.ev_UNDERRUN 0)).wr (R.TG.UNDERRUN_LINE 0) y
  let s := s.wr (R.TG.UNDERRUN_FEED 0) f
  let s : State := { s with cmp := { s.cmp with filled := true } }
  s.lineOut f y (done ++ List.replicate (w - n) last)

/-- LINE_DEADLINE: the end of slot y + LAG; each feed's line y that is incomplete is filled (08 R202). -/
def execLineDeadline (line : Nat) (s : State) : Host.Outcome State Fault Refusal :=
  .next (s.start.cond s.isSender (fun s =>
    s.each ((List.range (composedFeeds s.lv)).filter (fun f => s.lineNext line f)) (fun s f => s.fillLine line f)))

/-- TGW_LINE_SLOT: LINE and BLANK; BLANK_START at the end of the last canvas slot, LINE_MATCH at its line (08 R201, R204). -/
def tgwSlotFx (y : Nat) (s : State) : State :=
  let s := (s.wr (R.TG.LINE 0) y).wrB (R.TG.BLANK 0) (decide (canvasH s.lv ≤ y))
  let s := s.cond (y == canvasH s.lv) (fun s => s.raise (R.TG.ev_BLANK_START 0))
  s.cond (y == s.lv (R.TG.LINE_MATCH 0)) (fun s => s.raise (R.TG.ev_LINE_MATCH 0))

/-- TGW_LINE_SLOT (08 R201). -/
def execTgwLineSlot (line t : Nat) (s : State) : Host.Outcome State Fault Refusal :=
  .next ((s.atTime t).cond (s.isSender && s.frm.ticked && decide (line < s.lv (R.TG.V_TOTAL 0))) (tgwSlotFx line))

/-- COMPOSITION_FRAME_DONE: the last line of the last feed has left the compositor (08 R204). -/
def compositionDoneFx (s : State) : State :=
  (((s.wr R.CMP.COMPOSING 0).inc R.CMP.CNT_FRAMES).inc (R.TG.CNT_FRAMES 0)).raise (R.TG.ev_FRAME_DONE 0)

/-- COMPOSITION_FRAME_DONE (08 R204). -/
def execCompositionFrameDone (s : State) : Host.Outcome State Fault Refusal :=
  .next (s.start.cond (s.isSender && s.flag R.CMP.COMPOSING &&
    (List.range (composedFeeds s.lv)).all (fun f => s.nextLine f == canvasH s.lv)) compositionDoneFx)

/-! Signatures (08 R209, R210). -/

/-- The 9 bytes of a pixel in a signature (08 R209). -/
def sigBytes (p : Pixel) : List Byte := leBytes 3 p.r ++ leBytes 3 p.g ++ leBytes 3 p.b

/-- The pixels of a region in raster order, before any sagger action (08 R209). -/
def State.regionPixels (s : State) (k : Nat) : List Pixel :=
  let r := s.region k
  (List.range r.h).flatMap (fun j => ((s.rawLine (k / 32) (r.y + j)).drop r.x).take r.w)

/-- The signature of a region (08 R209). -/
def State.signature (s : State) (k : Nat) : Word32 := BitVec.ofNat 32 (crc32 ((s.regionPixels k).flatMap sigBytes))

/-- A matching frame of a HOLD region becomes its saved copy (08 R213; log 41). -/
def State.saveCopy (s : State) (k : Nat) : State :=
  if (s.region k).action ≠ 2 then s
  else
    let half := match (s.regSt k).saved with
      | some h => 1 - h
      | none => 0
    let s := s.dramStore (s.holdBase k half) ((s.regionPixels k).flatMap (fun p => leBytes 8 (pix60 p)))
    s.modReg k (fun r => { r with saved := some half })

/-- A comparison: a mismatch is counted, and its action is in force from the next frame; a match ends it likewise (08 R210). -/
def State.compare (s : State) (k : Nat) (crc want : Word32) : State :=
  if crc = want then (s.modReg k (fun r => { r with mism := false })).saveCopy k
  else ((s.incRaise R.SAG.CNT_MISMATCH R.SAG.ev_MISMATCH).wr R.SAG.LAST_REGION k).modReg k (fun r => { r with mism := true })

/-- SAGGER_CRC_COMPLETE: the CRC of the frame, compared, learned or ignored by mode (08 R209, R210). -/
def sagCrcFx (k : Nat) (s : State) : State :=
  let crc := s.signature k
  let s := ((s.setImm 0x05B 1 (4 * k) crc).setSagFlag k 0 true).modReg k (fun r => { r with done := true })
  match (s.region k).mode with
  | 1 => s.compare k crc (s.region k).expected
  | 2 => if s.sagFlag k 1 then s.compare k crc (s.immW 0x05B 1 (4 * k + 2))
         else (s.setImm 0x05B 1 (4 * k + 2) crc).setSagFlag k 1 true
  | _ => s

/-- SAGGER_CRC_COMPLETE (08 R210): the region's last line has been composed, and its CRC of this frame is not complete yet. -/
def execSaggerCrcComplete (region : Nat) (s : State) : Host.Outcome State Fault Refusal :=
  .next (s.start.cond (s.isSender && s.frm.ticked && decide (region < 256) && (s.region region).mode != 0 &&
    !(s.regSt region).done && decide (region / 32 < composedFeeds s.lv) &&
    decide ((s.region region).y + (s.region region).h ≤ s.nextLine (region / 32))) (sagCrcFx region))

/-- A write of 1 to RELEARN (08 R210). -/
def sagRelearnFx (s : State) : State :=
  s.each (regionNos.filter (fun k => (s.region k).mode == 2)) (fun s k => s.setSagFlag k 1 false)

/-- SAG_RELEARN (08 R210). -/
def execSagRelearn (s : State) : Host.Outcome State Fault Refusal := .next (s.start.cond s.isSender sagRelearnFx)

/-- The ground SELF_CHECK (10 R278). -/
def grSELF_CHECK : Nat := 4

/-- HIDDEN_REGION_COMPARE: the CRC against the fused value; a mismatch is a self-diagnosis ground (08 R214). -/
def hiddenFx (crc : Word32) (s : State) : State :=
  if crc = Config.hiddenCrc then s.wr R.SAG.SELF_OK 1
  else ((s.wr R.SAG.SELF_OK 0).incRaise R.SAG.CNT_SELF_FAIL R.SAG.ev_SELF_FAIL).ground grSELF_CHECK

/-- HIDDEN_REGION_COMPARE (08 R214). -/
def execHiddenRegionCompare (crc : Word32) (s : State) : Host.Outcome State Fault Refusal :=
  .next (s.start.cond s.composes (hiddenFx crc))

/-! BAR4 writes (08 R191, R212). -/

/-- BAR4_WRITE: DRAM first, then the lease windows; a layer marked in the frame in progress trips its regions for the lines composed
    from here on and for the next frame (14 R381 to R383; 08 R191, R212). -/
def bar4WriteFx (off : Nat) (data : List Byte) (s : State) : State :=
  if s.outOfRange off data.length then s.oor
  else
    let before := s.trippedNow
    let r := (s.dramStore off data).violate off data.length
    r.1.trip ((r.2.flatMap (fun n => r.1.tripped n)).dedup) true before

/-- BAR4_WRITE (14 R381); before the firmware runs BAR4 ignores writes (16 R410). -/
def execBar4Write (off : Nat) (data : List Byte) (s : State) : Host.Outcome State Fault Refusal :=
  .next (s.start.cond s.isSender (bar4WriteFx off data))

/-! The tick (02 R42, R44; 08 R202, R205, R209, R212). -/

/-- The ground DEADLINE (10 R278). -/
def grDEADLINE : Nat := 0

/-- A tick closes the frame: abandoned lines, a missed deadline, regions without a complete CRC, a capture cut short (02 R42, R44;
    08 R202, R205, R209). -/
def State.closeFrame (s : State) : State :=
  let feeds := List.range (composedFeeds s.lv)
  let late := if s.composes then (feeds.map (fun f => canvasH s.lv - s.nextLine f)).foldl (· + ·) 0 else 0
  let s := s.cond (late != 0) (fun s => (s.incBy R.CMP.CNT_LATE_LINES late).raise R.CMP.ev_LATE_LINES)
  let miss := s.cmp.filled || (late != 0 && s.ports.any s.serves)
  let s := s.cond miss (fun s => s.incRaise R.CMP.CNT_DEADLINE_MISS R.CMP.ev_DEADLINE_MISS)
  let run := if miss then s.frm.missRun + 1 else 0
  let s : State := { s with frm := { s.frm with missRun := run } }
  let s := s.cond (decide (3 ≤ run)) (fun s => s.ground grDEADLINE)
  let s := s.each (regionNos.filter (fun k => (s.region k).mode != 0)) (fun s k =>
    let d := (s.regSt k).done
    (s.setSagFlag k 3 (!d)).cond (!d) (fun s => s.incRaise R.SAG.CNT_INCOMPLETE R.SAG.ev_INCOMPLETE))
  let s := s.cond (s.prv.cap == 2) (fun s => s.incRaise R.PRV.CNT_ABANDON R.PRV.ev_ABANDON)
  { s with cmp := {} }

/-- A region whose descriptor changed restarts (08 R208). -/
def State.sagRestart (s old : State) (k : Nat) : State :=
  if (List.range 8).all (fun i => s.tabW 0x05B 0 (8 * k + i) == old.tabW 0x05B 0 (8 * k + i)) then s
  else
    let s : State := { s with sag := smSet regDefault s.sag k {} }
    (((s.setSagFlag k 0 false).setSagFlag k 1 false).setSagFlag k 3 false)

/-- A tick opens a frame, after the commit has applied and the layers have latched: the actions of the closed frame's comparisons, the
    trips of the flags, the armed capture; line 0 is in work and slot 0 begins (08 R201, R205, R210, R212, R218). -/
def State.openFrame (s old : State) : State :=
  let s := s.each regionNos (fun s k =>
    let s := s.sagRestart old k
    let r := s.regSt k
    s.cond (r != {}) (fun s => s.modReg k (fun r => { r with force := r.mism, trip := r.tripNext, tripNext := false, done := false, poisoned := false })))
  let by_ (f : Nat → Fld) (s : State) : List Nat := (layerNos.filter (fun n => s.flag (f n))).flatMap (fun n => s.tripped n)
  let sus := (by_ R.LYR.st_SUSPECT s).dedup
  let con := ((by_ R.LYR.st_CONCEALED s).dedup).filter (fun k => !sus.contains k)
  let s := (s.trip sus true []).trip con false []
  let s := s.each (regionNos.filter (fun k => s.sagFlag k 2 != (s.regSt k).inForce)) (fun s k => s.showAction k)
  let s := s.cond (s.prv.cap != 1) (fun s => s.inc (R.TG.CNT_CAPTURE_SKIP 1))
  let s : State := { s with prv := { s.prv with cap := if s.prv.cap = 1 then 2 else 0 } }
  let s := ((s.wr R.CMP.LINE 0).wr (R.TG.LINE 0) 0).wr (R.TG.BLANK 0) 0
  s.wrB R.CMP.COMPOSING (s.composes && decide (0 < composedFeeds s.lv))

/-! Preview (06 R155, R156; 08 R205 to R207). -/

/-- The outputs of PRV run (06 R160). -/
def State.prvOn (s : State) : Bool := s.lvB R.PRV.NET_EN || s.lvB R.PRV.SDI_EN

/-- The surface that a new capture writes: none of those complete or being sent (08 R205). -/
def State.prvFree (s : State) : Nat :=
  ((List.range 3).find? (fun i => s.prv.done != some i && s.prv.sending != some i)).getD 0

/-- TGP_FRAME_START: a capture is armed unless one is armed or running; PRV sends the last complete frame (08 R205; 06 R155, R156). -/
def tgpStartFx (s : State) : State :=
  let s : State := if s.prv.cap = 0 then { s with prv := { s.prv with cap := 1, surface := s.prvFree } } else s
  if !s.prvOn then (s.wr R.PRV.RUNNING 0).wr ⟨0x01C, 0x00C, 0, 1⟩ 0
  else
    let n := if s.lvB R.PRV.NET_EN then (s.lv (R.TG.ACT_H_M1 1) + 1) * s.prvPerLine else 0
    let q := (List.range n).map (fun j => (j, s.base + Config.previewLaunch n j))
    let s : State := { s with prv := { s.prv with sending := s.prv.done, queue := q, late := [], rtp := s.base * 9 / (sec1 / 10000) % 2 ^ 32 } }
    (s.wr R.PRV.RUNNING 1).wrB ⟨0x01C, 0x00C, 0, 1⟩ (s.lvB R.PRV.SDI_EN)

/-- TGP_FRAME_START (08 R205). -/
def execTgpFrameStart (t : Nat) (s : State) : Host.Outcome State Fault Refusal := .next ((s.atTime t).cond s.isSender tgpStartFx)

/-- One bilinear pass over n samples (08 R206). -/
def bilinear (get : Nat → List Int) (nIn nOut i : Nat) : List Int :=
  let step := nIn * 65536 / nOut
  let p : Int := ((i * step + step / 2 : Nat) : Int) - 32768
  let k := shrInt p 16
  let w : Int := (p % 65536).toNat / 256
  let a := get (clipNat k (nIn - 1))
  let b := get (clipNat (k + 1) (nIn - 1))
  (List.range 3).map (fun c => shrInt (a.getD c 0 * (256 - w) + b.getD c 0 * w + 128) 8)

/-- Pixel (i, j) of the preview, from the lines handed on of the feed shown (08 R205, R206). -/
def State.previewPixel (s : State) (i j : Nat) : Pixel :=
  let wIn := s.lv (R.TG.SRC_W_M1 1) + 1
  let hIn := s.lv (R.TG.SRC_H_M1 1) + 1
  let row (y : Nat) : List Int :=
    bilinear (fun x =>
      let p := (s.outLine (s.lv R.PRV.FEED) (s.lv (R.TG.SRC_Y 1) + y)).getD (s.lv (R.TG.SRC_X 1) + x) black
      [(p.r : Int), (p.g : Int), (p.b : Int)]) wIn (s.lv (R.TG.ACT_W_M1 1) + 1) i
  let c := bilinear row hIn (s.lv (R.TG.ACT_H_M1 1) + 1) j
  ⟨(c.getD 0 0).toNat, (c.getD 1 0).toNat, (c.getD 2 0).toNat⟩

/-- PREVIEW_CAPTURE_DONE: the frame is a complete slab surface (08 R205). -/
def captureDoneFx (s : State) : State :=
  let w := s.lv (R.TG.ACT_W_M1 1) + 1
  let h := s.lv (R.TG.ACT_H_M1 1) + 1
  let rows := (List.range h).map (fun j => (List.range w).map (fun i => s.previewPixel i j))
  let s := s.storeSurface (s.lv (R.TG.BUF_BASE 1) + s.prv.surface * s.lv (R.TG.BUF_STRIDE 1) * 4096) w h rows
  let s : State := { s with prv := { s.prv with cap := 0, done := some s.prv.surface } }
  ((s.inc (R.TG.CNT_FRAMES 1)).raise (R.TG.ev_FRAME_DONE 1)).wr R.PRV.HAVE_FRAME 1

/-- PREVIEW_CAPTURE_DONE (08 R205): the capture runs and the lines of its rectangle have been composed. -/
def execPreviewCaptureDone (s : State) : Host.Outcome State Fault Refusal :=
  .next (s.start.cond (s.isSender && s.prv.cap == 2 &&
    decide (s.lv (R.TG.SRC_Y 1) + s.lv (R.TG.SRC_H_M1 1) < s.nextLine (s.lv R.PRV.FEED))) captureDoneFx)

/-- TGP_LINE_START: LINE and BLANK, BLANK_START and LINE_MATCH; a line that is not in the output buffer is underrun, and of its pixels the
    output stage has a number that the spec does not state (log 180); SDI4 sends the line (08 R207, R219; 06 R156). -/
def tgpLineFx (y : Nat) (late : Bool) (s : State) : State :=
  let h := s.lv (R.TG.ACT_H_M1 1) + 1
  let s := (s.wr (R.TG.LINE 1) y).wrB (R.TG.BLANK 1) (decide (h ≤ y))
  let s := s.cond (y == h) (fun s => s.raise (R.TG.ev_BLANK_START 1))
  let s := s.cond (y == s.lv (R.TG.LINE_MATCH 1)) (fun s => s.raise (R.TG.ev_LINE_MATCH 1))
  let s := s.cond (late && decide (y < h) && s.flag R.PRV.RUNNING) (fun s =>
    let (v, s) := s.fresh
    let s := ((s.incRaise (R.TG.CNT_UNDERRUN 1) (R.TG.ev_UNDERRUN 1)).wr (R.TG.UNDERRUN_LINE 1) y).wr (R.TG.UNDERRUN_FEED 1)
      (s.lv R.PRV.FEED)
    let s : State := { s with prv := { s.prv with late := (y, v % (s.lv (R.TG.ACT_W_M1 1) + 1)) :: s.prv.late } }
    s.cond (s.lvB R.PRV.SDI_EN) (fun s => (s.inc ⟨0x01C, 0x680, 0, 32⟩).inc R.PRV.CNT_SDI_UNDERRUN))
  s.cond (decide (y < h) && s.flag R.PRV.RUNNING && s.lvB R.PRV.SDI_EN) (fun s =>
    (s.prvRead y 0 (s.lv (R.TG.ACT_W_M1 1) + 1)).emit (.sdiLine y (s.prvLine y)))

/-- TGP_LINE_START (08 R207). -/
def execTgpLineStart (line : Nat) (late : Bool) (s : State) : Host.Outcome State Fault Refusal :=
  .next (s.start.cond (s.isSender && decide (line < s.lv (R.TG.V_TOTAL 1))) (tgpLineFx line late))

/-! Registers at an apply tick (08 R203, R220). -/

/-- A fraction as numerator and denominator. -/
def fracAdd (a b : Nat × Nat) : Nat × Nat := (a.1 * b.2 + b.1 * a.2, a.2 * b.2)

/-- The cost of a placement in the band that begins at line y0 (08 R203). -/
def bandCost (g : Cfg) (n f y0 : Nat) : Nat × Nat :=
  if g (R.LYR.EN n f) = 0 ∨ g (R.LYR.SRC n) = 0 then (0, 1)
  else
    let dw := g (R.LYR.DST_W_M1 n f) + 1
    let dh := g (R.LYR.DST_H_M1 n f) + 1
    let visW := min dw (canvasW g - g (R.LYR.DST_X n f))
    let top := g (R.LYR.DST_Y n f)
    let visH := min (min (top + dh) (canvasH g)) (y0 + 16) - max top y0
    if g (R.LYR.SRC n) = 1 ∨ g (R.LYR.SRC n) = 2 then
      (visW * visH * max dw (g (R.LYR.SRC_W_M1 n f) + 1) * max dh (g (R.LYR.SRC_H_M1 n f) + 1), dw * dh)
    else (visW * visH, 1)

/-- The cost of a band over the feeds that the schedule has (08 R203). -/
def costOf (g : Cfg) (y0 : Nat) : Nat × Nat :=
  ((List.range (composedFeeds g)).flatMap (fun f => layerNos.map (fun n => bandCost g n f y0))).foldl fracAdd (0, 1)

/-- The capacity of a band in layer-pixels: 16 per ns over 16 T_line (08 R203). -/
def bandCapacity (g : Cfg) : Nat × Nat := (256 * denOf g * 1000000000, numOf g * g (R.TG.V_TOTAL 0))

/-- The bands of the canvas by their first line. -/
def bandStarts (g : Cfg) : List Nat := (List.range (ceilDiv (canvasH g) 16)).map (16 * ·)

/-- The load of a band in 0.1 % of capacity, rounded (08 R203, R218). -/
def bandLoad (g : Cfg) (y0 : Nat) : Nat :=
  let c := costOf g y0
  let k := bandCapacity g
  if c.2 * k.1 = 0 then 0 else roundDiv (1000 * c.1 * k.2) (c.2 * k.1)

/-- VTAPS as lines (08 R198). -/
def vtapLines (g : Cfg) (k : Nat) : Nat := [6, 4, 2].getD (g (R.SCL.VTAPS k)) 6

/-- Visible width of a placement (08 R198). -/
def visWidth (g : Cfg) (n f : Nat) : Nat := min (g (R.LYR.DST_W_M1 n f) + 1) (canvasW g - g (R.LYR.DST_X n f))

/-- The layer draws its pixels at the destination: solid colour or test pattern, which ignore SCL_EN and the source rectangle
    (08 R188, R194). -/
def drawn (src : Nat) : Bool := src == 3 || src == 4

/-- The placement that uses a scaler: layer and feed (08 R194). -/
def usesScaler (g : Cfg) (n f k : Nat) : Bool :=
  g (R.LYR.EN n f) == 1 && g (R.LYR.SCL_EN n f) == 1 && g (R.LYR.SCL n f) == k && !drawn (g (R.LYR.SRC n))

/-- All placements by layer and feed. -/
def placements : List (Nat × Nat) := layerNos.flatMap (fun n => (List.range 8).map (fun f => (n, f)))

/-- CMP.LOAD and the scaler pages at an apply tick (08 R203, R220). -/
def State.showCompose (s : State) : State :=
  let s := s.wr R.CMP.LOAD (min (((bandStarts s.lv).map (bandLoad s.lv)).foldl max 0) 65535)
  s.each (List.range 8) (fun s k =>
    match placements.find? (fun p => usesScaler s.lv p.1 p.2 k) with
    | none => (((s.wr (R.SCL.IN_USE k) 0).wr (R.SCL.LAYER k) 0).wr (R.SCL.FEED k) 0).wr (R.SCL.LB_USED k) 0
    | some (n, f) =>
      (((s.wr (R.SCL.IN_USE k) 1).wr (R.SCL.LAYER k) n).wr (R.SCL.FEED k) f).wr (R.SCL.LB_USED k) (visWidth s.lv n f * vtapLines s.lv k))

end Sys2Proof.Machine
end

