-- ==== Sys2Proof/Machine/CheckSrc.lean ====
section
/-!
DEFINITION. What a sender checks at a commit on its source and composition pages (05 R123; 06 R138, R146, R147, R155, R156, R158 to R160;
07 R168, R171, R173, R183; 08 R187, R188, R194, R197, R198, R200, R201, R203, R206, R208, R213, R217, R218).
-/

namespace Sys2Proof.Machine

/-- A field holds an encoding marked reserved (03 R69). -/
def errReserved (bad : Bool) (f : Fld) : List CfgErr := errAt bad ceRESERVED_VALUE f

/-- A field breaks a rule whose code is RANGE. -/
def errIf (bad : Bool) (f : Fld) : List CfgErr := errAt bad ceRANGE f

/-- A surface of this size does not fit a stride of 4 KiB units (06 R147). -/
def strideShort (units : Nat) (size : Nat × Nat) : Bool := decide (units * 4096 < slabBytes size.1 size.2)

/-- NET pages (06 R157). -/
def checkNet (g : Cfg) : List CfgErr :=
  (List.range 8).flatMap (fun p => errReserved (g (R.NET.PORT_MODE 0) == 1 && g (R.NET.FEC p) == 3) (R.NET.FEC p) ++
    errIf (decide (32 < g (R.NET.PREFIX p))) (R.NET.PREFIX p))

/-- A NET port named by a field is absent in the port mode (06 R138, R158). -/
def absentPort (g : Cfg) (f : Fld) : List CfgErr := errIf (decide (netCount (g (R.NET.PORT_MODE 0)) ≤ g f)) f

/-- One STR page (06 R147, R158). -/
def checkStrPage (g : Cfg) (n : Nat) : List CfgErr :=
  let kind := g (R.STR.KIND n)
  let on := g (R.STR.EN n) == 1
  absentPort g (R.STR.PORT_A n) ++ absentPort g (R.STR.PORT_B n) ++ errRange g (R.STR.PT n) 96 127 ++
  errRange g (R.STR.REORDER n) 1 192 ++ errRange g (R.STR.BUF_COUNT n) 3 8 ++
  errIf (g (R.STR.BUF_BASE n) % 4096 != 0) (R.STR.BUF_BASE n) ++
  errIf (on && ((kind == 0 && strideShort (g (R.STR.BUF_STRIDE n)) (g (R.STR.WIDTH n), g (R.STR.HEIGHT n))) ||
    (kind == 3 && strideShort (g (R.STR.BUF_STRIDE n)) (decSize g n)))) (R.STR.BUF_STRIDE n) ++
  errReserved (g (R.STR.SAMPLING n) == 3) (R.STR.SAMPLING n) ++ errReserved (g (R.STR.DEPTH n) == 3) (R.STR.DEPTH n) ++
  errReserved (g (R.STR.SCAN n) == 3) (R.STR.SCAN n) ++ errReserved (g (R.STR.TCS n) == 3) (R.STR.TCS n)

/-- The enabled streams. -/
def enabledStreams (g : Cfg) : List Nat := (List.range 16).filter (fun n => g (R.STR.EN n) == 1)

/-- The reserves of the reorder SRAM: 192 units, the fault on the page of the highest-numbered enabled stream (06 R146). -/
def checkReorder (g : Cfg) : List CfgErr :=
  match (enabledStreams g).getLast? with
  | none => []
  | some n => errIf (decide (192 < ((enabledStreams g).map (fun k => g (R.STR.REORDER k))).foldl (· + ·) 0)) (R.STR.REORDER n)

/-- SDI pages (06 R147, R151, R159). -/
def checkSdi (g : Cfg) : List CfgErr :=
  (List.range 4).flatMap (fun n =>
    if g (R.SDI.QUAD 0) = 1 ∧ n ≠ 0 then []
    else
      errReserved (g (R.SDI.SCAN n) == 3) (R.SDI.SCAN n) ++ errReserved (g (R.SDI.TCS n) == 3) (R.SDI.TCS n) ++
      errIf (g (R.SDI.BUF_BASE n) % 4096 != 0) (R.SDI.BUF_BASE n) ++
      errIf (g (R.SDI.EN n) == 1 && strideShort (g (R.SDI.BUF_STRIDE n)) (g (R.SDI.WIDTH n), g (R.SDI.HEIGHT n))) (R.SDI.BUF_STRIDE n) ++
      errRange g (R.SDI.BUF_COUNT n) 3 8)

/-- The decoder serves a stream in this configuration (07 R183). -/
def decServes (g : Cfg) (n : Nat) : Bool := g (R.STR.EN n) == 1 && g (R.STR.KIND n) == 3

/-- One stream's block of the DEC page (07 R168, R171, R183). -/
def checkDecStream (g : Cfg) (n : Nat) : List CfgErr :=
  if !decServes g n then []
  else
    let axis (nin nout : Nat) : Bool := decide (nin < nout ∨ 8 * nout < nin)
    errRange g (R.DEC.SHARE n) 1 4250 ++ errRange g (R.DEC.DROP_THRESH n) 1 15 ++
    errIf (g (R.DEC.SCALE_EN n) == 1 && (axis (g (R.STR.WIDTH n)) (g (R.DEC.OUT_W n)) || axis (g (R.STR.HEIGHT n)) (g (R.DEC.OUT_H n))))
      (R.DEC.OUT_W n) ++
    errIf (g (R.DEC.BS_BASE n) % 4096 != 0) (R.DEC.BS_BASE n) ++ errIf (g (R.DEC.BS_SIZE n) == 0) (R.DEC.BS_SIZE n) ++
    errIf (g (R.DEC.DPB_BASE n) % 4096 != 0) (R.DEC.DPB_BASE n)

/-- Shares of the enabled LIVE streams: at most 4,250 (07 R168). -/
def checkShares (g : Cfg) : List CfgErr :=
  let live := (List.range 16).filter (fun n => decServes g n && g (R.STR.LIVE n) == 1)
  match live with
  | [] => []
  | n :: _ => errIf (decide (4250 < (live.map (fun k => g (R.DEC.SHARE k))).foldl (· + ·) 0)) (R.DEC.SHARE n)

/-- A phase of a coefficient table sums to 1,024 (07 R173, 08 R197). -/
def sumIs (coef : Nat → Int) (taps : Nat) : Bool := decide (((List.range taps).map coef).foldl (· + ·) 0 = 1024)

/-- The decoder's pending coefficient sets (07 R173). -/
def checkDecTable (rd : Nat → Word32) : List CfgErr :=
  let coef (set phi j : Nat) : Int := signedOf 16 (fieldOf (rd (128 * set + 2 * phi + j / 2)) (16 * (j % 2)) 16)
  errPage ((List.range 256).any (fun k => !sumIs (coef (k / 64) (k % 64)) 4)) ceCOEF_SUM 0x030 ++
  errPage ((List.range 1024).any (fun k => let c := coef (k / 256) (k / 4 % 64) (k % 4); decide (c < -2048 ∨ 2047 < c))) ceRANGE 0x030

/-- The raster of the preview as width, height and rate (06 R155, R156). -/
def previewRaster (g : Cfg) : Nat × Nat := (g (R.TG.ACT_W_M1 1) + 1, g (R.TG.ACT_H_M1 1) + 1)

/-- The preview rate lies from `lo` to `hi`, as numerators over 1,001 and 1,000 (06 R150, R155). -/
def previewRate (g : Cfg) (lo hi : Nat) : Bool :=
  let num := g (R.TG.RATE_NUM 1)
  let den := rateDen (g (R.TG.RATE_1001 1))
  decide (lo * den ≤ num * 1001 ∧ num * 1000 ≤ hi * den)

/-- The preview raster is a single-link SDI format at the rate code (06 R150, R156). -/
def sdiFormat (g : Cfg) : Bool :=
  let r := previewRaster g
  match g R.PRV.SDI_RATE with
  | 1 => (r == (1920, 1080) && previewRate g 24000 30000) || (r == (1280, 720) && previewRate g 50050 60000)
  | 2 => r == (1920, 1080) && previewRate g 48000 60000
  | 3 => (r == (3840, 2160) || r == (4096, 2160)) && previewRate g 48000 60000
  | _ => false

/-- The PRV page and the preview fields of TGP (06 R155, R156, R160; 08 R206). -/
def checkPrv (g : Cfg) : List CfgErr :=
  let net := g R.PRV.NET_EN == 1
  let sdi := g R.PRV.SDI_EN == 1
  let r := previewRaster g
  let axis (nin nout : Nat) : Bool := decide (nin < nout ∨ 8 * nout < nin)
  errIf (net && (decide (r.1 < 1280 ∨ r.2 < 720 ∨ 3840 < r.1 ∨ 2160 < r.2) || !previewRate g 24000 60000)) R.PRV.NET_EN ++
  errIf (sdi && !sdiFormat g) R.PRV.SDI_EN ++ (if net then absentPort g R.PRV.NET else []) ++
  errReserved (g R.PRV.TCS == 3) R.PRV.TCS ++
  errIf (g R.PRV.PKT_PAYLOAD % 5 != 0 || decide (g R.PRV.PKT_PAYLOAD < 200 ∨ 1440 < g R.PRV.PKT_PAYLOAD)) R.PRV.PKT_PAYLOAD ++
  (if net || sdi then
    errIf (axis (g (R.TG.SRC_W_M1 1) + 1) r.1 || axis (g (R.TG.SRC_H_M1 1) + 1) r.2) (R.TG.ACT_W_M1 1) ++
    errIf (g (R.TG.BUF_BASE 1) % 4096 != 0) (R.TG.BUF_BASE 1) ++ errIf (strideShort (g (R.TG.BUF_STRIDE 1)) r) (R.TG.BUF_STRIDE 1)
  else [])

/-- The source of a layer (08 R186 to R188, R217); the four results of R187 do not depend on SRC. -/
def checkLayer (g : Cfg) (n : Nat) : List CfgErr :=
  let src := g (R.LYR.SRC n)
  let sel := g (R.LYR.SRC_SEL n)
  let stride := g (R.LYR.HOST_STRIDE n)
  errReserved (decide (4 < src)) (R.LYR.SRC n) ++ errReserved (g (R.LYR.POLICY n) == 3) (R.LYR.POLICY n) ++
  errReserved (decide (4 < g (R.LYR.PATTERN n))) (R.LYR.PATTERN n) ++
  errReserved (g (R.LYR.HOST_TCS n) == 3) (R.LYR.HOST_TCS n) ++
  errIf (decide (12 < g (R.LYR.PAT_SIZE n))) (R.LYR.PAT_SIZE n) ++
  errIf (src == 1 && (decide (19 < sel) || (decide (17 ≤ sel) && g (R.SDI.QUAD 0) == 1))) (R.LYR.SRC_SEL n) ++
  errIf (src == 3 && decide (4096 < g (R.LYR.ALPHA_PIX n))) (R.LYR.ALPHA_PIX n) ++
  errIf (g (R.LYR.HOST_BASE n) % 4096 != 0) (R.LYR.HOST_BASE n) ++
  errIf (stride % 64 != 0 || decide (stride < g (R.LYR.HOST_W n) * hostBpp (g (R.LYR.HOST_FMT n)))) (R.LYR.HOST_STRIDE n) ++
  errIf (decide (g (R.LYR.HOST_BUF_STRIDE n) * 4096 < stride * g (R.LYR.HOST_H n))) (R.LYR.HOST_BUF_STRIDE n)

/-- A scaler serves another placement as well (08 R194). -/
def scalerShared (g : Cfg) (n f : Nat) : Bool :=
  usesScaler g n f (g (R.LYR.SCL n f)) &&
    decide (1 < (placements.filter (fun p => usesScaler g p.1 p.2 (g (R.LYR.SCL n f)))).length)

/-- A placement (08 R194, R198): only solid colour and pattern layers are free of the size rules and of scalers. -/
def checkPlacement (g : Cfg) (n f : Nat) : List CfgErr :=
  if g (R.LYR.EN n f) = 0 then []
  else
    let src := g (R.LYR.SRC n)
    let surf := src == 1 || src == 2
    let sized := !drawn src
    let scl := g (R.LYR.SCL_EN n f) == 1
    let sw := g (R.LYR.SRC_W_M1 n f) + 1
    let sh := g (R.LYR.SRC_H_M1 n f) + 1
    let dw := g (R.LYR.DST_W_M1 n f) + 1
    let dh := g (R.LYR.DST_H_M1 n f) + 1
    let size := pictureSize g n
    errIf (decide (4096 < g (R.LYR.ALPHA n f)) || scalerShared g n f) (R.LYR.EN n f) ++
    errIf (decide (canvasW g ≤ g (R.LYR.DST_X n f) ∨ canvasH g ≤ g (R.LYR.DST_Y n f))) (R.LYR.DST_X n f) ++
    errIf (surf && decide (size.1 < g (R.LYR.SRC_X n f) + sw ∨ size.2 < g (R.LYR.SRC_Y n f) + sh)) (R.LYR.SRC_X n f) ++
    errIf (sized && ((!scl && decide (sw ≠ dw ∨ sh ≠ dh)) || decide (8 * dw < sw ∨ 8 * dh < sh))) (R.LYR.SRC_W_M1 n f) ++
    errAt (sized && scl && decide (49152 < visWidth g n f * vtapLines g (g (R.LYR.SCL n f)))) ceLINE_BUFFER (R.LYR.DST_W_M1 n f)

/-- A scaler's VTAPS and its pending coefficients (08 R197, R220). -/
def checkScaler (g : Cfg) (rd : Nat → Word32) (k : Nat) : List CfgErr :=
  let page := 0x053 + k
  let v := g (R.SCL.VTAPS k)
  let unused (j : Nat) : Bool := (v == 1 && (j == 0 || j == 5)) || (v == 2 && (decide (j < 2 ∨ 3 < j)))
  let out (c : Int) : Bool := decide (c < -2048 ∨ 2047 < c)
  errReserved (v == 3) (R.SCL.VTAPS k) ++
  errPage ((List.range 64).any (fun p => !sumIs (sclCoef rd false p) 8 || !sumIs (sclCoef rd true p) 6)) ceCOEF_SUM page ++
  errPage ((List.range 64).any (fun p => (List.range 8).any (fun j => out (sclCoef rd false p j)) ||
    (List.range 6).any (fun j => out (sclCoef rd true p j) || (unused j && sclCoef rd true p j != 0)))) ceRANGE page

/-- The canvas, the wall raster and its load (05 R123; 08 R200, R201, R203, R218). -/
def checkCanvas (g : Cfg) : List CfgErr :=
  let w := canvasW g
  let h := canvasH g
  let vt := g (R.TG.V_TOTAL 0)
  let t := denOf g * 1000000000
  errIf (w % 32 != 0 || h % 16 != 0 || decide (w < 64 ∨ h < 16)) R.CMP.CANVAS_W_M1 ++ errRange g R.CMP.PEAK_NITS 100 10000 ++
  errIf (vt == 0) (R.TG.V_TOTAL 0) ++ errRange g (R.TG.LAG 0) 1 255 ++
  (if vt = 0 ∨ numOf g = 0 then []
  else
    errIf (decide (vt < h) || decide ((vt - h) * t < 200000 * vt * numOf g)) (R.TG.V_TOTAL 0) ++
    errIf (decide (vt * t < (h + g (R.TG.LAG 0)) * t + 100000 * vt * numOf g)) (R.TG.LINE_MATCH 0) ++
    errPage ((bandStarts g).any (fun y => let c := costOf g y; let k := bandCapacity g; decide (k.1 * c.2 < c.1 * k.2)))
      ceLIMIT_FEED_PIXEL 0x050) ++
  errPage (decide (2400000000 * denOf g < w * h * composedFeeds g * numOf g)) ceLIMIT_FEED_PIXEL 0x050

/-- Sagger descriptors, and the space of the HOLD regions, in the pending copy (08 R208, R213). -/
def checkSagger (g : Cfg) (rd : Nat → Word32) : List CfgErr :=
  errIf (g R.SAG.SAVE_BASE % 4096 != 0) R.SAG.SAVE_BASE ++
  errIf (decide (g R.SAG.SAVE_SIZE < holdBefore rd 256)) R.SAG.SAVE_SIZE ++
  errPage (regionNos.any (fun k => let r := regionOf rd k
    decide (canvasW g < r.x + r.w ∨ canvasH g < r.y + r.h))) ceRANGE 0x05B ++
  errPage (regionNos.any (fun k => (regionOf rd k).action == 3)) ceRESERVED_VALUE 0x05B

/-- The pending copy of a table. -/
def State.pendRd (s : State) (page tab : Nat) : Nat → Word32 := fun i => s.pendW page tab i

/-- All checks of this file. -/
def State.checkSources (s : State) (g : Cfg) : List CfgErr :=
  checkNet g ++ (List.range 16).flatMap (checkStrPage g) ++ checkReorder g ++ checkSdi g ++
  (List.range 16).flatMap (checkDecStream g) ++ checkShares g ++ checkDecTable (s.pendRd 0x030 0) ++ checkPrv g ++
  layerNos.flatMap (checkLayer g) ++ placements.flatMap (fun p => checkPlacement g p.1 p.2) ++
  (List.range 8).flatMap (fun k => checkScaler g (s.pendRd (0x053 + k) 0) k) ++ checkCanvas g ++
  checkSagger g (s.pendRd 0x05B 0)

end Sys2Proof.Machine
end

