-- ==== Sys2Proof/Machine/Glaze.lean ====
section
/-!
DEFINITION. The glaze engines, the BAND packets of a sender and their launch, and what a tick does to them (09 R227, R238, R240, R243 to
R245; 10 R258; 02 R42).
-/

namespace Sys2Proof.Machine

/-- An applied descriptor by number, if it is enabled. -/
def State.descNo (s : State) (d : Nat) : Option Desc :=
  let r := descOf (s.tabW 0x060 0) d
  if r.en then some r else none

/-- The slices of an applied region. -/
def State.slicesOf (s : State) (r : Desc) : List (Nat × Nat) := r.slices (r.children (s.tabW 0x060 1))

/-- The lines that a band needs have left the compositor (R227, R239). -/
def State.bandReady (s : State) (r : Desc) (f b : Nat) : Bool := decide (r.waitsFor s.lv b < s.nextLine f)

/-- Whether BAND traffic of a node may leave a port: the port serves it (10 R276, R279, R283). -/
def State.mayBand (s : State) (p node : Nat) : Bool :=
  s.serves p && s.stateCode != stQUENCHED && (s.portState p != psSERVING || s.red.serve.any (fun (c : Nat × Nat × Nat) => c.1 == p && c.2.1 == node && decide (c.2.2 ≤ s.epoch)))

/-! Dispatch (R245). -/

/-- Segments that are ready and not dispatched, with their plan order. -/
def State.readySegs (s : State) : List PlanSeg :=
  (planSegs s.lv (s.tabW 0x060 1) s.descs).filter (fun x =>
    match s.descNo x.desc with
    | none => false
    | some r => s.bandReady r x.feed x.band && !s.map.sent.contains ⟨x.desc, x.feed, x.band, x.sx⟩)

/-- The first of some segments in the order of R240. -/
def firstSeg : List PlanSeg → Option PlanSeg
  | [] => none
  | x :: xs =>
    match firstSeg xs with
    | none => some x
    | some y => if planLe x y then some x else some y

/-- The segment that an engine works on. -/
def State.engineSeg (s : State) (e : Nat) : Option SegKey := (s.map.engines.find? (fun (c : Nat × SegKey) => c.1 == e)).map Prod.snd

/-- SEGMENT_DISPATCH: the first ready segment goes to the lowest idle engine (R245). -/
def segmentDispatchFx (s : State) : State :=
  match (List.range 8).find? (fun e => (s.engineSeg e).isNone), firstSeg s.readySegs with
  | some e, some x =>
    let k : SegKey := ⟨x.desc, x.feed, x.band, x.sx⟩
    let s : State := { s with map := { s.map with sent := k :: s.map.sent, engines := (e, k) :: s.map.engines,
                                                  since := smSet (fun _ => 0) s.map.since e s.time } }
    ((s.wr (R.GLZ.BUSY e) 1).wr (R.GLZ.PORT e) x.port).wr (R.GLZ.DESC e) x.desc
  | _, _ => s

/-- SEGMENT_DISPATCH (R245). -/
def execSegmentDispatch (s : State) : Host.Outcome State Fault Refusal :=
  .next (s.start.cond (s.isSender && s.frm.ticked) segmentDispatchFx)

/-! Encoding (R226, R227, R231, R235 to R238). -/

/-- The transport codes of a segment of `ws` columns: 16 lines. A streaming region converts the lines that left the compositor; a held
    one reads the staging surface. -/
def State.segRows (s : State) (r : Desc) (f b sx ws : Nat) : List (List Pixel) :=
  let bits := transportBits s.lv
  (List.range 16).map (fun (i : Nat) => (List.range ws).map (fun (j : Nat) =>
    let c := r.canvasAt s.lv (32 * (sx : Int) - 32 + (j : Int)) (16 * (b : Int) - 16 + (i : Int))
    if r.held then s.stagedPixel f c.1 c.2 else s.transportPixel bits ((s.outLine f c.2).getD c.1 black)))

/-- The staging surface is read for a held segment; samples that come back poisoned read as code 0 (14 R385). -/
def State.readStage (s : State) (r : Desc) (f b sx ws : Nat) : State :=
  if !r.held then s
  else
    let lines := ((List.range 16).flatMap (fun (i : Nat) => (List.range ws).map (fun (j : Nat) =>
      let c := r.canvasAt s.lv (32 * (sx : Int) - 32 + (j : Int)) (16 * (b : Int) - 16 + (i : Int))
      s.stageAddr f c.1 c.2 / 64))).dedup
    s.each lines (fun s l => s.readUe (64 * l) 64)

/-- The segment and its FLOOR blocks. -/
def State.encodeSeg (s : State) (r : Desc) (k : SegKey) (sw : Nat) : Seg × Nat :=
  let bits := transportBits s.lv
  let rows := s.segRows r k.feed k.band k.sx (32 * sw)
  if r.bypass then (⟨k.sx, sw - 1, packBypass bits rows.flatten⟩, 0)
  else
    let e := encodeSegment bits r.rate (32 * sw) rows
    (⟨k.sx, sw - 1, e.1⟩, e.2)

/-! Packets (R227, R229; 10 R258). -/

/-- Bytes of a segment with its header (R230). -/
def segSize (x : Seg) : Nat := 4 + x.data.length

/-- Split segments greedily into packets: those that are full, and the last one. -/
def splitPackets : Nat → List Seg → List Seg → List (List Seg) × List Seg
  | _, cur, [] => ([], cur)
  | fill, cur, x :: xs =>
    if bandMax < fill + segSize x ∧ cur ≠ [] then
      let r := splitPackets (bandFixed + segSize x) [x] xs
      (cur :: r.1, r.2)
    else splitPackets (fill + segSize x) (cur ++ [x]) xs

/-- Segments of a band that packets hold. -/
def State.packedOf (s : State) (k : SegKey) : Nat :=
  ((s.map.packed.find? (fun (c : Nat × Nat × Nat × Nat) => c.1 == k.desc && c.2.1 == k.feed && c.2.2.1 == k.band)).map (fun c => c.2.2.2)).getD 0

/-- Encoded segments of a band from column `i` of its slices on, without a gap. -/
def takeReady (ready : List (SegKey × Seg)) (k : SegKey) : List (Nat × Nat) → List Seg
  | [] => []
  | (sx, _) :: rest =>
    match ready.find? (fun (c : SegKey × Seg) => c.1 == { k with sx := sx }) with
    | none => []
    | some c => c.2 :: takeReady ready k rest

/-- A BAND packet of a region (10 R258). -/
def State.bandPkt (s : State) (r : Desc) (k : SegKey) (segs : List Seg) : BandPkt :=
  { dest := r.node, epoch16 := s.epoch % 65536, bandNo := k.band, feed := k.feed, format := r.format s.lv, segs := segs, crcOk := true }

/-- Encoded segments of a band enter packets in order of column: each packet that is full, and the last one when the band is complete;
    packets wait at their port when it carries the node. -/
def State.packBand (s : State) (r : Desc) (k : SegKey) : State :=
  let done := s.packedOf k
  let slices := s.slicesOf r
  let segs := takeReady s.map.ready k (slices.drop done)
  let x := splitPackets bandFixed [] segs
  let pkts := if done + segs.length = slices.length ∧ x.2 ≠ [] then x.1 ++ [x.2] else x.1
  if pkts = [] then s
  else
    let n := done + (pkts.map List.length).foldl (· + ·) 0
    let gone := (slices.take n).map Prod.fst
    let s : State := { s with map := { s.map with
      ready := s.map.ready.filter (fun (c : SegKey × Seg) => !(c.1.desc == k.desc && c.1.feed == k.feed && c.1.band == k.band && gone.contains c.1.sx)),
      packed := (k.desc, k.feed, k.band, n) :: s.map.packed.filter (fun (c : Nat × Nat × Nat × Nat) => !(c.1 == k.desc && c.2.1 == k.feed && c.2.2.1 == k.band)) } }
    s.cond (s.mayBand r.port r.node) (fun s => s.modCoil r.port (fun c => { c with bands := c.bands ++ pkts.map (s.bandPkt r k) }))

/-- SEGMENT_ENCODE_DONE: the segment is counted, its FLOOR blocks craze, and it enters a packet of its band (R236, R238, R245). -/
def segmentEncodeDoneFx (e : Nat) (k : SegKey) (s : State) : State :=
  let s : State := { s with map := { s.map with engines := s.map.engines.filter (fun (c : Nat × SegKey) => c.1 != e) } }
  let s := s.wr (R.GLZ.BUSY e) 0
  match s.descNo k.desc with
  | none => s
  | some r =>
    match (s.slicesOf r).find? (fun (c : Nat × Nat) => c.1 == k.sx) with
    | none => s
    | some (_, sw) =>
      let x := s.encodeSeg r k sw
      let s := s.readStage r k.feed k.band k.sx (32 * sw)
      let s := s.inc (if r.bypass then R.GLZ.CNT_BYPASS_SEGMENTS e else R.GLZ.CNT_SEGMENTS e)
      let s := s.cond (x.2 != 0) (fun s => (s.incBy (R.GLZ.CNT_FLOOR e) x.2).incBy (R.MAP.CNT_CRAZE_PORT r.port) x.2)
      let s : State := { s with map := { s.map with
        ready := (k, x.1) :: s.map.ready,
        floors := smMod (fun _ => 0) s.map.floors k.desc (· + x.2),
        load := smMod (fun _ => 0) s.map.load e (· + 48 * 32 * sw) } }
      s.packBand r k

/-- SEGMENT_ENCODE_DONE (R236). -/
def execSegmentEncodeDone (engine : Nat) (s : State) : Host.Outcome State Fault Refusal :=
  .next (match s.engineSeg engine with
    | none => s.start
    | some k => s.start.cond s.isSender (segmentEncodeDoneFx engine k))

/-! Launch (R240; 02 R39). -/

/-- BAND_LAUNCH: the packet at the front of a port leaves while its BAND traffic runs: not after T_stop, which lies T_transit or more before
    the tick, not while XOFF holds the port, not where it would delay a TICK, and not before a packet of its class or a lower one that waits at
    the port (R240; 01 R34; 10 R250, R263, R266, R269, R279). -/
def bandLaunchFx (port : Nat) (s : State) : State :=
  match (s.coilSt port).bands with
  | [] => s
  | b :: bs =>
    let open_ : Bool := !s.frm.stopped.contains port && decide (s.time + s.transit port ≤ s.frm.nextTick)
    s.cond (open_ && s.mayBand port b.dest && s.canSend port && !s.barred port 2 (outBytes (.band port b)) &&
        (s.coilSt port).egress.all (fun x => decide (2 < x.cls))) (fun s =>
      ((s.modCoil port (fun c => { c with bands := bs })).emit (.band port b)).incBy R.MAP.CNT_SEGMENTS b.segs.length)

/-- BAND_LAUNCH (R240). -/
def execBandLaunch (port t : Nat) (s : State) : Host.Outcome State Fault Refusal :=
  .next ((s.atTime t).cond (s.isSender && s.hasPort port) (bandLaunchFx port))

/-- BAND packets of a port that a tick abandons (02 R42). -/
def State.dropBands (s : State) (p : Nat) : State :=
  let n := (s.coilSt p).bands.length
  s.cond (n != 0) (fun s => (s.modCoil p (fun c => { c with bands := [] })).incBy (R.COIL.CNT_BAND_ABANDON p) n)

/-- BAND_STOP: at T_stop a serving port launches no more BAND packets of the epoch; what it has not launched is abandoned at the tick. A line
    of the frame that is uncomposed at the first T_stop misses the deadline (01 R34; 02 R39 step 5, R42, R44). -/
def bandStopFx (port : Nat) (s : State) : State :=
  let late : Bool := s.composes && s.frm.stopped.isEmpty && (List.range (composedFeeds s.lv)).any (fun f => decide (s.nextLine f < canvasH s.lv))
  let s := s.cond late (fun s => { s with cmp := { s.cmp with filled := true } })
  if s.frm.stopped.contains port then s else { s with frm := { s.frm with stopped := port :: s.frm.stopped } }

/-- BAND_STOP (01 R34). -/
def execBandStop (port t : Nat) (s : State) : Host.Outcome State Fault Refusal :=
  .next ((s.atTime t).cond (s.isSender && s.frm.ticked && s.hasPort port && s.serves port) (bandStopFx port))

/-! The tick (02 R42; R238, R243, R245). -/

/-- The bands of the frame that are not fully encoded. -/
def State.unfinished (s : State) : List (Nat × Nat × Nat) :=
  s.descs.flatMap (fun r =>
    let xs := (s.slicesOf r).map Prod.fst
    (List.range (composedFeeds s.lv)).flatMap (fun f =>
      ((List.range r.bands).filter (fun b =>
        xs.any (fun sx => !s.map.sent.contains ⟨r.no, f, b, sx⟩) ||
          s.map.engines.any (fun (c : Nat × SegKey) => c.2.desc == r.no && c.2.feed == f && c.2.band == b))).map (fun b => (r.no, f, b))))

/-- An abandoned band is counted at an engine that holds a segment of it; where none does, which engine counts it is open (log 43). -/
def State.abandonBand (s : State) (b : Nat × Nat × Nat) : State :=
  match (List.range 8).find? (fun e => s.map.engines.any (fun (c : Nat × SegKey) => c.1 == e && c.2.desc == b.1 && c.2.feed == b.2.1 && c.2.band == b.2.2)) with
  | some e => s.incRaise (R.GLZ.CNT_ABANDON_BANDS e) (R.GLZ.ev_ABANDON e)
  | none =>
    let (v, s) := s.fresh
    s.incRaise (R.GLZ.CNT_ABANDON_BANDS (v % 8)) (R.GLZ.ev_ABANDON (v % 8))

/-- CRAZE_LAST and CRAZE_TOTAL of a region, and CRAZE when its count exceeds a nonzero threshold (R238). -/
def State.crazeDesc (s : State) (r : Desc) : State :=
  let n := min (smGet (fun _ => 0) s.map.floors r.no) 0xFFFFFFFF
  let total := min ((s.immW 0x060 4 (2 * r.no + 1)).toNat + n) 0xFFFFFFFF
  let s := (s.setImm 0x060 4 (2 * r.no) (BitVec.ofNat 32 n)).setImm 0x060 4 (2 * r.no + 1) (BitVec.ofNat 32 total)
  let th := s.lv R.MAP.CRAZE_THRESH
  s.cond (th != 0 && decide (th < n)) (fun s => (s.wr R.MAP.CRAZE_DESC r.no).raise R.MAP.ev_CRAZE)

/-- Busy time in ns of an engine on the segment that the tick abandons: since its dispatch, at most the time that the segment takes
    (R236, R245). -/
def State.engineBusy (s : State) (e : Nat) : Nat :=
  match s.engineSeg e with
  | none => 0
  | some k =>
    match s.descNo k.desc with
    | none => 0
    | some r =>
      match (s.slicesOf r).find? (fun (c : Nat × Nat) => c.1 == k.sx) with
      | none => 0
      | some (_, sw) => min (48 * 32 * sw) ((s.time - smGet (fun _ => 0) s.map.since e) / ns1)

/-- A tick closes the frame of the mapping and the engines, under the geometry of the closing epoch (R243). -/
def State.closeMap (s : State) : State :=
  let lost := s.unfinished
  let s := s.each lost State.abandonBand
  let s := s.cond (lost != [] || s.ports.any (fun p => (s.coilSt p).bands != [])) (fun s => s.raise R.MAP.ev_ABANDON)
  let s := s.each s.ports State.dropBands
  let s := s.each s.descs State.crazeDesc
  let s := s.each (List.range 8) (fun s e =>
    let ns := smGet (fun _ => 0) s.map.load e + s.engineBusy e
    (s.wr (R.GLZ.BUSY e) 0).wr (R.GLZ.LOAD e) (if s.period = 0 then 0 else min (1000 * ns * ns1 / s.period) 1000))
  { s with map := { found := s.map.found }, frm := { s.frm with stopped := [] } }

end Sys2Proof.Machine
end

