-- ==== Sys2Proof/Machine/Tile.lean ====
section
/-!
DEFINITION. The tile pipeline: reception of bands into the field stores, sampling, per-lamp correction and the computation of slots
(11 R289 to R308).
-/

namespace Sys2Proof.Machine

/-! Geometry (R290). -/

/-- Size of the received area. -/
def tilW (g : Cfg) : Nat := g R.TIL.W_M1 + 1
def tilH (g : Cfg) : Nat := g R.TIL.H_M1 + 1

/-- The first received column of a segment at SX, and the first received line of a band (R290). -/
def segCol0 (g : Cfg) (sx : Nat) : Int := 32 * (sx : Int) - 32 - 32 * (g R.TIL.OFF_X : Int)
def bandLine0 (g : Cfg) (band : Nat) : Int := 16 * (band : Int) - 16 - 16 * (g R.TIL.OFF_Y : Int)

/-- The bands that hold kept lines, −2 to H + 1 (R290). -/
def keptBands (g : Cfg) : List Nat := (List.range ((tilH g + 17) / 16 + 1)).map (fun k => g R.TIL.OFF_Y + k)

/-- The 32-pixel columns that hold kept columns, −2 to W + 1, as values of SX (R290). -/
def keptCols (g : Cfg) : List Nat := (List.range ((tilW g + 33) / 32 + 1)).map (fun k => g R.TIL.OFF_X + k)

/-- The band that holds a received line, and the line's place in it. -/
def bandOfLine (g : Cfg) (v : Int) : Nat × Nat :=
  let n := (v + 16 + 16 * (g R.TIL.OFF_Y : Int)).toNat
  (n / 16, n % 16)

/-! Selectors (R292, R311). -/

/-- The byte of a band in TIL table 0. -/
def State.selByte (s : State) (band : Nat) : Nat := s.immByte 0x0A0 0 band

/-- The shown copy of a band: 0 A, 1 B, 2 P16 A, 3 P16 B. -/
def State.selCopy (s : State) (band : Nat) : Nat := s.selByte band % 4

/-- The VALID bit of a band. -/
def State.selValid (s : State) (band : Nat) : Bool := (s.selByte band).testBit 2

/-- Set a band's byte: copy, VALID, repeated at the last flipping tick, consecutive repeats. -/
def State.setSel (s : State) (band copy : Nat) (valid rep : Bool) (reps : Nat) : State :=
  s.setImmByte 0x0A0 0 band (copy % 4 + 4 * b2n valid + 8 * b2n rep + 16 * min reps 15)

/-- The bands whose VALID bit is set. -/
def State.validBands (s : State) : List Nat :=
  (s.imm.filter (fun (e : Nat × Word32) => e.1 / 2 ^ 22 == 0x0A0 * 16)).flatMap (fun (e : Nat × Word32) =>
    ((List.range 4).filter (fun j => e.2.toNat.testBit (8 * j + 2))).map (fun j => 4 * (e.1 % 2 ^ 22) + j))

/-- FEED_VALID and P16_SHOWN follow the selectors (R311). -/
def State.showStore (s : State) : State :=
  let v := s.validBands
  (s.wr R.TIL.FEED_VALID (flagBits ((List.range 8).map (fun f => v.any (fun b => b / 2048 == f))))).wrB R.TIL.P16_SHOWN
    (v.any (fun b => decide (2 ≤ s.selCopy b)))

/-! Reception (R293 to R295). -/

/-- FORMAT names a P16 transport, or bypass (09 R229). -/
def fmtP16 (format : Nat) : Bool := format % 2 == 1
def fmtBypass (format : Nat) : Bool := decide (2 ≤ format)

/-- The lines of a segment, or none when the segment breaks a rule of its coding (09 R231, R233, R234). -/
def segLines (format : Nat) (g : Seg) : Option (List (List Pixel)) :=
  let B := if fmtP16 format then 16 else 12
  let ws := 32 * (g.sw + 1)
  if fmtBypass format then unpackBypass B ws g.data else decodeSegment B ws g.data

/-- A segment is corrupt (R293; 09 R234). -/
def segCorrupt (g : Cfg) (by_ feed format : Nat) (sg : Seg) : Bool :=
  decide (g R.TIL.TOP_W_U + 2 < sg.sx + sg.sw + 1) || decide (g R.TIL.TOP_H_U + 1 < by_) ||
    (fmtP16 format != (g R.SCH.MODE == moDEEP)) || (fmtP16 format && feed != 0) || (segLines format sg).isNone

/-- Two column ranges overlap: SX and width in 32 columns. -/
def colsMeet (a b : Nat × Nat) : Bool := decide (a.1 < b.1 + b.2 ∧ b.1 < a.1 + a.2)

/-- Bytes in the glaze band buffer (R294): each segment with its header. -/
def State.bandBuffer (s : State) : Nat := s.til.queue.foldl (fun n q => n + 4 + q.seg.data.length) 0

/-- A segment joins the glaze band buffer, or finds it full (R294). -/
def State.queueSeg (s : State) (band format : Nat) (sg : Seg) : State :=
  if 2 ^ 21 < s.bandBuffer + 4 + sg.data.length then s.incRaise R.TIL.CNT_BUF_DROP R.TIL.ev_BUF_DROP
  else
    ({ s with til := { s.til with queue := s.til.queue ++ [⟨band, format, sg⟩] } } : State).wr R.TIL.RECEIVING 1

/-- The columns of a segment overlap columns already written for its band in this epoch (R293). -/
def State.overlaps (s : State) (band : Nat) (sg : Seg) : Bool :=
  s.til.written.any (fun (a : Nat × Nat × Nat) => a.1 == band && colsMeet a.2 (sg.sx, sg.sw + 1))

/-- One segment of a band (R293). -/
def State.takeSeg (s : State) (by_ feed format : Nat) (sg : Seg) : State :=
  let g := s.lv
  let band := 2048 * feed + by_
  if segCorrupt g by_ feed format sg then s.incRaise R.TIL.CNT_SEG_CORRUPT R.TIL.ev_SEG_CORRUPT
  else if s.overlaps band sg then s.inc R.TIL.CNT_SEG_DUP
  else if !((keptBands g).contains by_ && (keptCols g).any (fun c => decide (sg.sx ≤ c ∧ c ≤ sg.sx + sg.sw))) then s
  else s.queueSeg band format sg

/-- The part of a BAND for the device's own lamp region (R293; 10 R258). -/
def State.acceptBand (s : State) (b : BandPkt) : State :=
  if !(s.frm.ticked && s.lvB R.TIL.EN) then s.inc R.TIL.CNT_BAND_IDLE
  else if b.epoch16 % 65536 ≠ s.epoch % 65536 then s.incRaise R.TIL.CNT_BAND_LATE R.TIL.ev_BAND_LATE
  else s.each b.segs (fun s sg => s.takeSeg b.bandNo b.feed b.format sg)

/-- BAND_RECEIVE: a BAND for this tile on its upstream port; on the other port of the pair it is discarded and counted (10 R267), as is one
    whose trailer is bad, which PACKET_RECEIVE counted (10 R253). -/
def bandReceiveFx (port : Nat) (b : BandPkt) (s : State) : State :=
  if s.red.upstream ≠ some port then s.cond s.red.upstream.isSome (fun s => s.inc (R.COIL.CNT_WRONG_SIDE port))
  else s.cond b.crcOk (fun s => s.acceptBand b)

/-- BAND_RECEIVE (R293). -/
def execBandReceive (port : Nat) (b : BandPkt) (s : State) : Host.Outcome State Fault Refusal :=
  .next (s.start.cond (s.isTile && decide (port < 2) && s.isUp port && s.hasId && b.dest == s.lv R.GLB.NODE_ID) (bandReceiveFx port b))

/-- The writing copy of a band for an arriving transport (R294). -/
def State.writingCopy (s : State) (band format : Nat) : Nat :=
  let base := if fmtP16 format then 2 else 0
  if s.selValid band ∧ s.selCopy band / 2 * 2 = base then base + (1 - s.selCopy band % 2) else base

/-- What an unlisted row holds. -/
def rowDefault : Nat → List Pixel := fun _ => []

/-- Key of a row of a field store. -/
def rowKey (band copy line : Nat) : Nat := (4 * band + copy) * 16 + line

/-- A row of `n` kept samples with received columns from `c0` on replaced by `px`; index 0 is column −2. -/
def rowPatch (n : Nat) (old px : List Pixel) (c0 : Int) : List Pixel :=
  (List.range n).map (fun (j : Nat) =>
    let k : Int := (j : Int) - 2 - c0
    if 0 ≤ k ∧ k < px.length then px.getD k.toNat ⟨0, 0, 0⟩ else old.getD j ⟨0, 0, 0⟩)

/-- The kept samples of a decoded segment go into the writing copy (R290, R294). -/
def State.writeSeg (s : State) (q : QSeg) (lines : List (List Pixel)) : State :=
  let g := s.lv
  let copy := s.writingCopy q.band q.format
  s.each ((List.range 16).zip lines) (fun s (x : Nat × List Pixel) =>
    let v := bandLine0 g (q.band % 2048) + x.1
    if v < -2 ∨ (tilH g : Int) + 1 < v then s
    else { s with til := { s.til with
      store := smMod rowDefault s.til.store (rowKey q.band copy x.1) (fun old => rowPatch (tilW g + 4) old x.2 (segCol0 g q.seg.sx)) } })

/-- Every kept column of a band has been written in this epoch (R295). -/
def State.bandComplete (s : State) (band : Nat) : Bool :=
  (keptCols s.lv).all (fun c => s.til.written.any (fun (a : Nat × Nat × Nat) => a.1 == band && decide (a.2.1 ≤ c ∧ c < a.2.1 + a.2.2)))

/-- A band restarts its count of consecutive repeats (R295, R296, R311). -/
def State.endRepeat (s : State) (band : Nat) : State :=
  let s := s.setSel band (s.selCopy band) (s.selValid band) false 0
  { s with til := { s.til with reps := smSet (fun _ => 0) s.til.reps band 0 } }

/-- The selector of a complete band moves to its writing copy (R295). -/
def State.moveBand (s : State) (band : Nat) : State :=
  let f := smGet (fun _ => 0) s.til.wfmt band
  let b := s.selByte band
  let s := s.setSel band (s.writingCopy band f) true (b.testBit 3) (b / 16)
  { s with til := { s.til with fmt := smSet (fun _ => 0) s.til.fmt band f } }

/-- A flipping tick shows a complete band, which ends its repeats (R295). -/
def State.flipBand (s : State) (band : Nat) : State := (s.moveBand band).endRepeat band

/-- DIRECT shows a band as soon as it is complete, a stale one again; what table 0 says of the last flipping tick stands until the next
    (R295, R296, R311). -/
def State.showDirect (s : State) (band : Nat) : State :=
  let s := s.moveBand band
  let s : State := { s with til := { s.til with stale := s.til.stale.filter (· != band) } }
  s.level R.TIL.ev_BAND_STALE (!s.til.stale.isEmpty)

/-- The received lines of a lamp row (R300): those of the whole area when the grid stands on its side. -/
def recvLines (g : Cfg) (py : Nat) : Int × Int :=
  match g R.LSM.ROT with
  | 0 => (py, py)
  | 2 => ((tilH g : Int) - 1 - py, (tilH g : Int) - 1 - py)
  | _ => (0, (tilH g : Int) - 1)

/-- Height and width of the lamp grid (R299). -/
def gridW (g : Cfg) : Nat := if g R.LSM.ROT % 2 = 0 then tilW g else tilH g
def gridH (g : Cfg) : Nat := if g R.LSM.ROT % 2 = 0 then tilH g else tilW g

/-- DIRECT: lamp rows of which every band within 2 lines is complete in this epoch, and which have not been computed again yet (R308). -/
def State.directRows (s : State) : List Nat :=
  let g := s.lv
  (List.range (gridH g)).filter (fun py =>
    let r := recvLines g py
    let lo := (bandOfLine g (r.1 - 2)).1
    let hi := (bandOfLine g (r.2 + 2)).1
    !s.lsm.again.contains py && (List.range (hi + 1 - lo)).all (fun k => s.bandComplete (lo + k)))

/-- Nothing is computed for the slots of feed 0, the only one of DIRECT: a dark frame, a new feed that is dark, a QUENCHED tile (R308). -/
def State.directDark (s : State) : Bool := s.til.dark || s.til.darkFeeds.contains 0 || s.stateCode == stQUENCHED

/-- DIRECT: those rows are queued for computation; a row computed again repays the debt of light again (R308; DEDUCED, log 186). -/
def State.queueDirect (s : State) : State :=
  let rows := s.directRows
  if rows.isEmpty ∨ s.directDark then s
  else { s with lsm := { s.lsm with
    again := s.lsm.again ++ rows,
    todo := s.lsm.todo ++ [{ epoch := s.epoch, slot := 0, ord := 0, lit := true, due := s.time, rows := some rows }] } }

/-- SEGMENT_DECODE_DONE: the oldest segment of the buffer is decoded and written, unless one written meanwhile has its columns (R293,
    log 46); in DIRECT a band that it completes is shown at once
    (R294, R295), but for a frame that holds its images (05 R133). -/
def segmentDecodeFx (s : State) : State :=
  match s.til.queue with
  | [] => s
  | q :: rest =>
    let s : State := { s with til := { s.til with queue := rest } }
    match segLines q.format q.seg with
    | none => s
    | some lines =>
     if s.overlaps q.band q.seg then s.inc R.TIL.CNT_SEG_DUP
     else
      let was := s.bandComplete q.band
      let s := s.writeSeg q lines
      let s : State := { s with til := { s.til with written := s.til.written ++ [(q.band, q.seg.sx, q.seg.sw + 1)],
                                                    wfmt := smSet (fun _ => 0) s.til.wfmt q.band q.format } }
      if s.lv R.SCH.MODE = moDIRECT ∧ !s.til.held ∧ !was ∧ s.bandComplete q.band then ((s.showDirect q.band).showStore).queueDirect else s

/-- SEGMENT_DECODE_DONE (R294). -/
def execSegmentDecodeDone (s : State) : Host.Outcome State Fault Refusal := .next (s.start.cond s.isTile segmentDecodeFx)

/-! The stores at the tick (02 R41; R295 to R297). -/

/-- Bands of the feeds present under a configuration (R295). -/
def feedBands (g : Cfg) : List Nat :=
  if g R.TIL.EN = 0 ∨ tileMeasure g then []
  else ((List.range 8).filter (fun f => g (feedMaskF f) != 0)).flatMap (fun f => (keptBands g).map (fun b => 2048 * f + b))

/-- The bands that TIL table 0 shows as repeated at the last flipping tick, or with consecutive repeats (R311). -/
def State.repeatedBands (s : State) : List Nat :=
  (s.imm.filter (fun (e : Nat × Word32) => e.1 / 2 ^ 22 == 0x0A0 * 16)).flatMap (fun (e : Nat × Word32) =>
    ((List.range 4).filter (fun j => fieldOf e.2 (8 * j + 3) 5 != 0)).map (fun j => 4 * (e.1 % 2 ^ 22) + j))

/-- A flipping tick: complete bands are shown, the others repeat; those of a feed that the closing epoch did not have neither flip nor repeat,
    which ends their repeats (R295, R296). `direct`: the complete ones are shown already. -/
def State.flipBands (s : State) (bands : List Nat) (direct : Bool) : State :=
  let s := s.each ((s.repeatedBands ++ s.til.reps.map Prod.fst).filter (fun b => !bands.contains b)) State.endRepeat
  let done := bands.filter s.bandComplete
  let bad := bands.filter (fun b => !s.bandComplete b)
  let s := s.each done (if direct then State.endRepeat else State.flipBand)
  let s := s.each bad (fun s b =>
    let n := smGet (fun _ => 0) s.til.reps b + 1
    let s : State := { s with til := { s.til with reps := smSet (fun _ => 0) s.til.reps b n } }
    s.setSel b (s.selCopy b) (s.selValid b) true n)
  let s : State := { s with til := { s.til with short := (bad.map (· / 2048)).dedup } }
  let s := ((s.wr R.TIL.BANDS_LAST done.length).wr R.TIL.REPEATS_LAST bad.length).incBy R.TIL.CNT_BANDS done.length
  s.cond (!bad.isEmpty) (fun s => (s.incBy R.TIL.CNT_BAND_REPEAT bad.length).raise R.TIL.ev_BAND_REPEAT)

/-- Stale bands (R296): those of the applied feeds and geometry that have repeated at n consecutive flipping ticks, outside a fail-over. The
    frame that the n-th of these ticks starts still shows the repeat; from the next one on the band is dark. -/
def State.showStale (s : State) : State :=
  let n := s.lv R.TIL.REPEAT_MAX
  let now := if n = 0 ∨ s.flag R.RED.st_FAILOVER then []
    else
      let bands := feedBands s.lv
      (s.til.reps.filter (fun (r : Nat × Nat) =>
        decide (n ≤ r.2 ∧ n ≤ smGet (fun _ => 0) s.til.before r.1) && bands.contains r.1)).map Prod.fst
  let s := s.incBy R.TIL.CNT_BAND_STALE (now.filter (fun b => !s.til.stale.contains b)).length
  ({ s with til := { s.til with stale := now, before := s.til.reps } } : State).level R.TIL.ev_BAND_STALE (!now.isEmpty)

/-- Clear the VALID bits of bands; bands not VALID are dark until they are received again (R297). -/
def State.clearBands (s : State) (p : Nat → Bool) : State :=
  let s := s.each (s.validBands.filter p) (fun s b => s.setSel b (s.selCopy b) false ((s.selByte b).testBit 3) (s.selByte b / 16))
  (s.inc R.TIL.CNT_STORE_CLEAR).raise R.TIL.ev_STORE_CLEARED

/-- A configuration changes the geometry of the stores (R297). -/
def geometryFields : List Fld :=
  [R.TIL.W_M1, R.TIL.H_M1, R.TIL.OFF_X, R.TIL.OFF_Y, R.TIL.TOP_W_U, R.TIL.TOP_H_U, R.TIL.EN]

/-- The clears of an apply tick, and of STORE_CLR (R297). -/
def State.applyClears (s : State) (old : Cfg) : State :=
  let g := s.lv
  let gone := (List.range 8).filter (fun f => old (feedMaskF f) != 0 && g (feedMaskF f) == 0)
  let s :=
    if geometryFields.any (fun f => old f != g f) || s.til.clr then s.clearBands (fun _ => true)
    else s.cond (!gone.isEmpty) (fun s => s.clearBands (fun b => gone.contains (b / 2048)))
  { s with til := { s.til with clr := false } }

/-- The tick closes reception: bands flip or repeat unless a held frame starts, what waits is discarded, and writing restarts from empty
    (R295; 02 R41). `bands` are those of the closing epoch and `direct` its mode. -/
def State.closeBands (s : State) (bands : List Nat) (direct held : Bool) : State :=
  let s := if held then { s with til := { s.til with short := [] } } else s.flipBands bands direct
  ({ s with til := { s.til with written := [], wfmt := [], queue := [] } } : State).wr R.TIL.RECEIVING 0

/-- STORE_CLR: at the next tick every band is cleared (R297). -/
def storeClrFx (s : State) : State := { s with til := { s.til with clr := true } }

/-- STORE_CLR (R297). -/
def execStoreClr (s : State) : Host.Outcome State Fault Refusal := .next (s.start.cond (s.pageOn 0x0A0) storeClrFx)

/-! Sampling (R298 to R301). -/

/-- L20 of a transport code by the table of its tag (R298). -/
def State.l20Of (s : State) (p16 : Bool) (code : Nat) : Nat := fieldOf (s.tabW 0x0A0 (if p16 then 2 else 1) code) 0 20

/-- The tap of a feed at a received pixel: 0 where its band is not VALID or stale (R292, R296, R298). -/
def State.tap (s : State) (feed : Nat) (u v : Int) : Nat × Nat × Nat :=
  let at_ := bandOfLine s.lv v
  let band := 2048 * feed + at_.1
  if !s.selValid band || s.til.stale.contains band then (0, 0, 0)
  else
    let p := (smGet rowDefault s.til.store (rowKey band (s.selCopy band) at_.2)).getD (u + 2).toNat ⟨0, 0, 0⟩
    let l := s.l20Of (fmtP16 (smGet (fun _ => 0) s.til.fmt band))
    (l p.r, l p.g, l p.b)

/-- Catmull–Rom weights at f (R301). -/
def crWeights (f : Int) : List Int :=
  let w0 := shrInt (-f ^ 3 + 256 * f ^ 2 - 16384 * f + 2048) 12
  let w1 := shrInt (3 * f ^ 3 - 640 * f ^ 2 + 4194304 + 2048) 12
  let w3 := shrInt (f ^ 3 - 128 * f ^ 2 + 2048) 12
  [w0, w1, 1024 - w0 - w1 - w3, w3]

/-- A weighted sum of taps from (u, v) on. -/
def tapSum (P : Int → Int → Nat) (wx wy : List Int) (u v : Int) : Int :=
  ((List.range wy.length).map (fun j => ((List.range wx.length).map (fun k =>
    wy.getD j 0 * wx.getD k 0 * (P (u + k) (v + j) : Int))).sum)).sum

/-- The sample of one plane at (U, V) in 1/128 pixel (R301). -/
def sampleAt (mode : Nat) (P : Int → Int → Nat) (U V : Int) : Nat :=
  let u := shrInt U 7
  let v := shrInt V 7
  let fx := U - 128 * u
  let fy := V - 128 * v
  match mode with
  | 0 => clipNat (shrInt (tapSum P (crWeights fx) (crWeights fy) (u - 1) (v - 1) + 2 ^ 19) 20) 1048575
  | 1 => (shrInt (tapSum P [128 - fx, fx] [128 - fy, fy] u v + 8192) 14).toNat
  | _ => P (shrInt (U + 64) 7) (shrInt (V + 64) 7)

/-- The place in the received area of a grid position, in 1/128 pixel (R300; 09 R223). -/
def recvAt (g : Cfg) (X Y : Int) : Int × Int :=
  let x' : Int := if g R.LSM.MIRROR = 1 then 128 * ((gridW g : Int) - 1) - X else X
  let w : Int := 128 * ((tilW g : Int) - 1)
  let h : Int := 128 * ((tilH g : Int) - 1)
  match g R.LSM.ROT with
  | 0 => (x', Y)
  | 1 => (Y, h - x')
  | 2 => (w - x', h - Y)
  | _ => (w - Y, x')

/-! Correction (R303 to R307). -/

/-- A calibration record: A_R, A_G, A_B, DX, DY (R303). -/
structure CalRec where
  aR : Int
  aG : Int
  aB : Int
  dx : Int
  dy : Int
deriving DecidableEq, Repr

/-- The record that acts as identity for a lamp of colour c (R303). -/
def calIdentity (c : Nat) : CalRec := ⟨if c = 0 then 8192 else 0, if c = 1 then 8192 else 0, if c = 2 then 8192 else 0, 0, 0⟩

/-- A record from its two words (R303). -/
def calOf (w0 w1 : Word32) : CalRec :=
  ⟨signedOf 16 (fieldOf w0 0 16), signedOf 16 (fieldOf w0 16 16), signedOf 16 (fieldOf w1 0 16), signedOf 8 (fieldOf w1 16 8),
    signedOf 8 (fieldOf w1 24 8)⟩

/-- The record of lamp i in a working copy (R303; 13 R354). -/
def calRecord (tab : List (Nat × Word32)) (identity : List Nat) (valid : Bool) (i : Nat) : CalRec :=
  if !valid || identity.contains i then calIdentity (i % 3)
  else calOf (smGet tabDefault tab (tabKey 0x0A2 0 (2 * i))) (smGet tabDefault tab (tabKey 0x0A2 0 (2 * i + 1)))

/-- The words of COR table 0. -/
def State.calWords (s : State) : List (Nat × Word32) := smKeep (fun k => k / 2 ^ 22 == 0x0A2 * 16) s.imm

/-- Nominal offsets of colour c (R300, R312). -/
def nomDx (g : Cfg) (c : Nat) : Int :=
  signedOf 8 (g (if c = 0 then R.LSM.NOM_DX_R else if c = 1 then R.LSM.NOM_DX_G else R.LSM.NOM_DX_B))
def nomDy (g : Cfg) (c : Nat) : Int :=
  signedOf 8 (g (if c = 0 then R.LSM.NOM_DY_R else if c = 1 then R.LSM.NOM_DY_G else R.LSM.NOM_DY_B))

/-- The tile pattern of a slot at a pixel (05 R136). -/
def patternAt (g : Cfg) (slot : Nat) (x y : Int) : Nat × Nat × Nat :=
  let l := g (R.SCH.MEAS_PAT_LEVEL slot)
  match g (R.SCH.MEAS_PAT_PAT slot) with
  | 1 => (l, l, l)
  | 2 => (l, 0, 0)
  | 3 => (0, l, 0)
  | 4 => (0, 0, l)
  | 5 => if (x / 32 + y / 16) % 2 = 0 then (l, l, l) else (0, 0, 0)
  | _ => (0, 0, 0)

/-- The corrected value of a record and samples (R304). -/
def correct (r : CalRec) (p : Nat × Nat × Nat) : Nat :=
  clipNat (shrInt (r.aR * p.1 + r.aG * p.2.1 + r.aB * p.2.2 + 4096) 13) 1048575

/-- The value of lamp i in a slot before the gains, under sampler mode `m` (R299 to R304). -/
def State.lampLight (s : State) (m slot i : Nat) (r : CalRec) : Nat :=
  let g := s.lv
  let c := i % 3
  let px : Int := (i / 3 % gridW g : Nat)
  let py : Int := (i / 3 / gridW g : Nat)
  let X := 128 * px + clampInt (nomDx g c + r.dx) (-127) 127
  let Y := 128 * py + clampInt (nomDy g c + r.dy) (-127) 127
  if tileMeasure g then
    if g R.SCH.MEAS_RAW = 1 then
      let p := patternAt g slot px py
      if c = 0 then p.1 else if c = 1 then p.2.1 else p.2.2
    else correct r (patternAt g slot (shrInt (X + 64) 7) (shrInt (Y + 64) 7))
  else
    let f := (feedOfSlot g slot).getD 0
    let uv := recvAt g X Y
    let sample (k : Nat × Nat × Nat → Nat) : Nat := sampleAt m (fun u v => k (s.tap f u v)) uv.1 uv.2
    correct r (sample (fun p => p.1), sample (fun p => p.2.1), sample (fun p => p.2.2))

/-- The zone of a lamp (R305). -/
def zoneOf (g : Cfg) (i : Nat) : Nat :=
  64 * (64 * (i / 3 / gridW g) / gridH g) + 64 * (i / 3 % gridW g) / gridW g

/-- The gains (R305). -/
def State.gained (s : State) (i v : Nat) : Nat :=
  let g := s.rd R.COR.G_FRAME
  let gi := if s.lvB R.COR.AGE_EN then (g * fieldOf (s.tabW 0x0A2 2 (zoneOf s.lv i)) 0 17 + 32768) / 65536 else g
  (v * gi + 32768) / 65536

/-- Light debt: the value and the count after repayment (R306). -/
def repay (shift d v : Nat) : Nat × Nat :=
  let u := min d (v / 2 ^ shift)
  (v - u * 2 ^ shift, d - u)

/-- The driver code of a value (R307). -/
def codeOf (C : Nat → Nat) (v : Nat) : Nat :=
  if v < 256 then C v
  else
    let e := v.log2
    let g := e - 7
    let s := 256 + 64 * (g - 1) + (v - 2 ^ e) / 2 ^ (g + 1)
    let frac := (v - 2 ^ e) % 2 ^ (g + 1)
    C s + ((C (s + 1) - C s) * frac + 2 ^ g) / 2 ^ (g + 1)

/-- The applied code map (R307). -/
def State.codeMap (s : State) (i : Nat) : Nat := fieldOf (s.tabW 0x0A2 1 i) 0 16

/-- The light-debt count of a lamp (R306). -/
def State.debt (s : State) (i : Nat) : Nat := s.immByte 0x0A2 3 i

/-- Add to a lamp's debt; it saturates at 255 (R306). -/
def State.addDebt (s : State) (i n : Nat) : State :=
  let d := s.debt i + n
  let s := s.setImmByte 0x0A2 3 i (min d 255)
  s.cond (decide (255 < d)) (fun s => s.incRaise R.COR.CNT_DEBT_SAT R.COR.ev_DEBT_SAT)

/-- Current weight of colour c (13 R361). -/
def curOf (g : Cfg) (c : Nat) : Nat := g (if c = 0 then R.THM.CUR_R else if c = 1 then R.THM.CUR_G else R.THM.CUR_B)

/-! Markers of the light phase (13 R363). -/

/-- The driver place of lamp i by ROWMAP and COLMAP words: group, row, column (12 R324). -/
def placeOf (rowmap colmap : Nat → Word32) (qstride gw i : Nat) : Nat × Nat × Nat :=
  let w := rowmap (i / 3 / gw)
  (fieldOf w 6 2, fieldOf w 0 6, fieldOf w 8 4 * qstride + fieldOf (colmap (3 * (i / 3 % gw) + i % 3)) 0 12)

/-- The applied place of a lamp. -/
def State.lampPlace (s : State) (i : Nat) : Nat × Nat × Nat :=
  placeOf (s.tabW 0x0B0 0) (s.tabW 0x0B0 1) (s.lv R.LMP.QSTRIDE) (gridW s.lv) i

/-- A lamp lies in the marker rectangle. -/
def inMark (g : Cfg) (i : Nat) : Bool :=
  let px := i / 3 % gridW g
  let py := i / 3 / gridW g
  decide (g R.PHC.MARK_X ≤ px ∧ px ≤ g R.PHC.MARK_X + g R.PHC.MARK_W_M1 ∧ g R.PHC.MARK_Y ≤ py ∧ py ≤ g R.PHC.MARK_Y + g R.PHC.MARK_H_M1)

/-- An epoch of a run is a flash frame: of the M measuring ones or of the 16 of the verification (13 R364). -/
def flashFrame (e0 m epoch : Nat) : Bool :=
  let k := epoch - e0
  decide (e0 < epoch) && ((k % 2 == 1 && decide (k ≤ 2 * m - 1)) || (k % 2 == 1 && decide (2 * m + 3 ≤ k ∧ k ≤ 2 * m + 33)))

/-- The code of a lamp during a light-phase run, at its place in the frame that is computed (13 R363). -/
def State.markCode (s : State) (slot i code : Nat) : Nat :=
  match s.phc.run with
  | none => code
  | some r =>
    let g := s.lv
    if s.epoch < r.e0 ∨ !inMark g i then code
    else if (s.lampPlace i).2.1 = 0 ∧ flashFrame r.e0 (g R.PHC.MARKS) s.epoch ∧ slot = g R.PHC.MARK_SLOT then g R.PHC.MARK_CODE
    else 0

/-! Slot computations (R302, R308). -/

/-- What a computation has gathered: codes (last lamp first), zone sums (13 R361). -/
structure SlotAcc where
  s : State
  codes : List Nat
  sums : List (Nat × Nat)

/-- The lamps of a job: all of them, or those of its lamp rows (R308). -/
def State.jobLamps (s : State) (j : SlotJob) : List Nat :=
  match j.rows with
  | none => List.range s.lampCount
  | some rows => rows.flatMap (fun py => (List.range (3 * gridW s.lv)).map (fun k => 3 * gridW s.lv * py + k))

/-- The debt of a lamp as COR table 3 held it (R306). -/
def debtIn (debts : List (Nat × Word32)) (i : Nat) : Nat := fieldOf (smGet tabDefault debts (tabKey 0x0A2 3 (i / 4))) (8 * (i % 4)) 8

/-- One lamp: a record written during the computation is used old or new, whole (R310; log 10); it repays what it owed when the computation
    began (R306; 12 R338). -/
def SlotAcc.lamp (r : SlotRun) (a : SlotAcc) (i : Nat) : SlotAcc :=
  let s := a.s
  let old := calRecord r.cal r.identity r.valid i
  let new := calRecord s.imm s.cor.identity (s.flag R.COR.CAL_VALID) i
  let rec_ := if Config.freeBit (s.free + i) then old else new
  let v := s.gained i (s.lampLight r.mode r.job.slot i rec_)
  let d := debtIn r.debts i
  let p := repay (s.lv R.COR.DEBT_SHIFT) d v
  let s := s.cond (p.2 != d) (fun s => s.setImmByte 0x0A2 3 i (s.debt i - (d - p.2)))
  { s := s, codes := s.markCode r.job.slot i (codeOf s.codeMap p.1) :: a.codes,
    sums := smMod (fun _ => 0) a.sums (zoneOf s.lv i) (· + p.1 * curOf s.lv (i % 3)) }

/-- The scan multiplier M of the applied configuration (12 R318). -/
def State.mult (s : State) : Nat := s.lv R.LMP.MULT + 1

/-- The zone sums of a slot, scaled by M_eff / M, join those of the frame (13 R361). -/
def State.addSums (s : State) (sums : List (Nat × Nat)) : State :=
  let add := sums.foldl (fun m (z : Nat × Nat) => smMod (fun _ => 0) m z.1 (· + z.2 * s.rd R.LMP.M_EFF / s.mult)) s.thm.add
  { s with thm := { s.thm with add := add } }

/-- The words of COR table 3. -/
def State.debtWords (s : State) : List (Nat × Word32) := smKeep (fun k => k / 2 ^ 22 == 0x0A2 * 16 + 3) s.imm

/-- Nothing is computed now: a dark frame, a QUENCHED tile (R308). -/
def State.noCompute (s : State) : Bool := s.til.dark || s.stateCode == stQUENCHED

/-- SLOT_COMPUTE_START: the next slot begins when the computation before has ended and its staging bank is free, unless its slot has become
    dark (R308). -/
def slotComputeStartFx (s : State) : State :=
  match s.lsm.todo with
  | [] => s
  | j :: rest =>
    if s.noCompute ∨ s.lsm.run.isSome ∨ s.lsm.banks.any (fun (b : Nat × Staged) => b.1 == j.ord % 2) then s
    else
      let s := s.calSync
      let run : SlotRun :=
        { job := j, start := s.time, cal := s.calWords, identity := s.cor.identity, valid := s.flag R.COR.CAL_VALID,
          mode := s.rd R.LSM.MODE_EFF, debts := s.debtWords }
      ({ s with lsm := { s.lsm with todo := rest, run := some run } } : State).wr R.LSM.COMPUTING 1

/-- SLOT_COMPUTE_START (R308). -/
def execSlotComputeStart (t : Nat) (s : State) : Host.Outcome State Fault Refusal :=
  .next ((s.atTime t).cond (s.isTile && s.lvB R.TIL.EN) slotComputeStartFx)

/-- The scan groups in use. -/
def State.groupsOn (s : State) : List Nat :=
  (List.range (memberGroups s.member)).filter (fun g => (s.lv R.LMP.GROUP_EN).testBit g)

/-- A slot still waits for its start on the lamp bus, or is a DIRECT recomputation. -/
def State.slotAhead (s : State) (j : SlotJob) : Bool :=
  j.rows.isSome || s.lmp.plan.any (fun p => p.epoch == j.epoch && p.slot == j.slot)

/-- The computation in progress ends with part of its lamps uncomputed, which `n` counts, at least one: those computed have repaid their debts;
    nothing is staged, and its zone sums are not added. How many they were is open (R306; DESIGN CHOICE, log 115). -/
def State.stopRun (s : State) : Nat × State :=
  match s.lsm.run with
  | none => (0, s)
  | some r =>
    let (v, s) := s.calSync.fresh
    let lamps := s.jobLamps r.job
    let n := if lamps.isEmpty then 0 else v % lamps.length + 1
    let a := (lamps.take (lamps.length - n)).foldl (SlotAcc.lamp r) { s := s, codes := [], sums := [] }
    let s : State := { a.s with free := s.free + s.lampCount, lsm := { s.lsm with run := none } }
    (n, s.wr R.LSM.COMPUTING 0)

/-- SLOT_COMPUTE_DONE: codes, debts and zone sums of every lamp; the codes stay staged for the groups to load, unless their slot has
    started without them (R303 to R308; 12 R332). A tile that has gone dark meanwhile has stopped the computation (R308; 13 R375). -/
def slotComputeDoneFx (s : State) : State :=
  match s.lsm.run with
  | none => s
  | some r =>
   if s.noCompute then s.stopRun.2
   else
    let s := s.calSync
    let lamps := s.jobLamps r.job
    let a := lamps.foldl (SlotAcc.lamp r) { s := s, codes := [], sums := [] }
    let s := (({ a.s with free := s.free + s.lampCount } : State).addSums a.sums)
    let s : State := { s with lsm := { s.lsm with run := none } }
    let s := s.cond (s.slotAhead r.job) (fun s => { s with lsm := { s.lsm with
      banks := (r.job.ord % 2, { job := r.job, codes := a.codes.reverse, left := s.groupsOn }) :: s.lsm.banks } })
    ((s.wr R.LSM.COMPUTING 0).wr R.LSM.SLOT_NS ((s.time - r.start) / ns1)).inc R.LSM.CNT_SLOTS

/-- SLOT_COMPUTE_DONE (R308). -/
def execSlotComputeDone (t : Nat) (s : State) : Host.Outcome State Fault Refusal :=
  .next ((s.atTime t).cond s.isTile slotComputeDoneFx)

/-- At the tick, lamps not yet computed are abandoned and counted, those of a frame that went dark excepted, which computes none (02 R42;
    R306, R308). -/
def State.abandonSlots (s : State) : State :=
  let waiting := (s.lsm.todo.map (fun j => (s.jobLamps j).length)).sum
  let (part, s) := s.stopRun
  let n := if s.noCompute then 0 else waiting + part
  let s : State := { s with lsm := { s.lsm with todo := [], again := [] } }
  s.cond (n != 0) (fun s => (s.incBy R.LSM.CNT_ABANDON n).raise R.LSM.ev_ABANDON)

/-- Lamp-slots per second of a sampler mode (R302). -/
def modeRate (mode : Nat) : Nat := if mode = 0 then 1003921568 else 1600000000

/-- MODE_EFF, LAMPS and LOAD follow the applied configuration and the die model, the mode never finer than the latter allows; a change of the
    mode is raised (R302, R312; 13 R373). -/
def State.showLsm (s : State) : State :=
  let g := s.lv
  let mode := max (g R.LSM.MODE) s.thm.modeHeld
  let s := s.cond (s.rd R.LSM.MODE_EFF != mode) (fun s => (s.wr R.LSM.MODE_EFF mode).raise R.LSM.ev_MODE_STEP)
  let load := if denOf g = 0 then 0 else s.lampCount * litSlots g * numOf g * 1000 / (denOf g * modeRate (s.rd R.LSM.MODE_EFF))
  (s.wr R.LSM.LAMPS s.lampCount).wr R.LSM.LOAD (min load 65535)

/-! Die throttling (13 R373). -/

/-- q at a die temperature (13 R373). -/
def qOf (k : Nat) (thr t : Int) : Nat := (clampInt (65536 - shrInt (k * (t - thr)) 4) 0 65536).toNat

/-- The multiplier that q allows (13 R373). -/
def mEffOf (m seg q : Nat) : Nat := max (2 ^ seg) (m * q / (65536 * 2 ^ seg) * 2 ^ seg)

/-- The sampler mode that q allows: 0 bicubic, 1 bilinear, 2 nearest; never finer than the configured one (13 R373, 11 R311). -/
def modeOf (mode q : Nat) : Nat := max mode (if 49152 ≤ q then 0 else if 32768 ≤ q then 1 else 2)

/-- DIE_THROTTLE_EVAL: q, then the multiplier and the sampler mode; a step down acts at once, a step up only when it would hold 2 °C
    hotter (13 R373). A sender only raises DIE_THROTTLE. -/
def dieThrottleFx (s : State) : State :=
  let k := s.lv R.THM.K_DIE
  let thr := s.lvI R.THM.T_DIE_THR
  let q := qOf k thr s.thm.tDie
  let hotter := qOf k thr (s.thm.tDie + 32)
  let on : Bool := decide (q < 65536)
  let s := (s.wrB R.THM.st_DIE_THROTTLE on).level R.THM.ev_DIE_THROTTLE on
  if s.role = .sender then s
  else
    let s := s.wr R.THM.Q_DIE q
    let m := s.mult
    let seg := s.lv R.LMP.SEG
    let was := min m (s.thm.mHeld.getD m)
    let now := if mEffOf m seg q < was then mEffOf m seg q else max was (mEffOf m seg hotter)
    let held := s.thm.modeHeld
    let hold := if held < modeOf 0 q then modeOf 0 q else min held (modeOf 0 hotter)
    let mode := s.lv R.LSM.MODE
    let step : Bool := max mode hold != max mode held
    let s := s.cond (now != was || step) (fun s => s.inc R.THM.CNT_DIE_STEP)
    let s : State := { s with thm := { s.thm with mHeld := if now < m then some now else none, modeHeld := hold } }
    s.cond step (fun s => (s.inc R.LSM.CNT_MODE_STEP).showLsm)

/-- DIE_THROTTLE_EVAL (13 R373). -/
def execDieThrottleEval (s : State) : Host.Outcome State Fault Refusal := .next (s.start.cond s.running dieThrottleFx)

/-! The gains and the working copy (R303, R305, R306). -/

/-- The frame gain of a tick (R305). -/
def frameGain (bright limit therm : Nat) : Nat := bright * limit / 65536 * therm / 65536

/-- At the tick the gains are latched (R305; 13 R370). -/
def State.latchGain (s : State) : State :=
  s.wr R.COR.G_FRAME (frameGain (s.lv R.COR.BRIGHT) (s.rd R.COR.G_LIMIT) (s.rd R.COR.G_THERM))

/-! Commands on the working copy (R303, R306). -/

/-- A host write to COR table 0: bytes 0 to 3 of a record wait in the latch, bytes 4 to 7 commit both words; nothing is written during a
    reload (R303). `w` is the word index. -/
def calWriteFx (w : Nat) (v : Word32) (s : State) : State :=
  if s.flag R.COR.RELOADING then s
  else if w % 2 = 0 then { s with cor := { s.cor with latch := some (w / 2, v) } }
  else
    let s := match s.cor.latch with
      | some (i, lo) => s.cond (i == w / 2) (fun s => s.setImm 0x0A2 0 (w - 1) lo)
      | none => s
    let s := s.setImm 0x0A2 0 w v
    { s with cor := { s.cor with latch := none, identity := s.cor.identity.filter (· != w / 2) } }

/-- CAL_RECORD_WRITE (R303): `addr` is the byte offset in COR table 0. -/
def execCalRecordWrite (addr : Nat) (v : Word32) (s : State) : Host.Outcome State Fault Refusal :=
  .next (s.start.cond (s.pageOn 0x0A2 && decide (addr < 8 * 1048576)) (calWriteFx (addr / 4) v))

/-- DEBT_CLR acts at the next tick (R306). -/
def debtClrFx (s : State) : State := { s with cor := { s.cor with debtClr := true } }

/-- DEBT_CLR (R306). -/
def execDebtClr (s : State) : Host.Outcome State Fault Refusal := .next (s.start.cond (s.pageOn 0x0A2) debtClrFx)

/-- The light debts are cleared at the tick when DEBT_CLR asked for it (R306). -/
def State.clearDebts (s : State) : State :=
  if s.cor.debtClr then
    { s with imm := smKeep (fun k => k / 2 ^ 22 != 0x0A2 * 16 + 3) s.imm, cor := { s.cor with debtClr := false } }
  else s

/-! Checks of the tile (R291; 05 R122). -/

/-- Lamps of a configuration. -/
def lampsOf (g : Cfg) : Nat := 3 * tilW g * tilH g

/-- The lamp-slot rate holds (05 R122). -/
def lampRateOk (g : Cfg) (lamps : Nat) : Bool := decide (lamps * litSlots g * numOf g ≤ 1000000000 * denOf g)

/-- The geometry and limits of R291, with EN = 1. -/
def checkTil (m : Member) (g : Cfg) : List CfgErr :=
  if g R.TIL.EN = 0 then []
  else
    errAt (decide (32 * g R.TIL.TOP_W_U < 32 * g R.TIL.OFF_X + tilW g)) ceRANGE R.TIL.W_M1 ++
    errAt (decide (16 * g R.TIL.TOP_H_U < 16 * g R.TIL.OFF_Y + tilH g)) ceRANGE R.TIL.W_M1 ++
    errAt (decide (min 393216 (memberRegion m) < (tilW g + 4) * (tilH g + 4))) ceLIMIT_REGION R.TIL.W_M1 ++
    errAt (decide (min 1048576 (memberLamps m) < lampsOf g)) ceLIMIT_LAMPS R.TIL.W_M1 ++
    errPage (!lampRateOk g (lampsOf g)) ceLIMIT_LAMP_SLOT 0x0A0

/-- The correction rules: code map, zone gains, BRIGHT, DEBT_SHIFT, and the reserved sampler mode (R305, R307, R312, R313); a table rule
    reports on the TIL page (R291; 03 R460). -/
def checkCor (tab1 tab2 : Nat → Word32) (g : Cfg) : List CfgErr :=
  let C (i : Nat) : Nat := fieldOf (tab1 i) 0 16
  errRange g R.COR.BRIGHT 0 65536 ++ errRange g R.COR.DEBT_SHIFT 0 12 ++
  errAt (g R.LSM.MODE == 3) ceRESERVED_VALUE R.LSM.MODE ++
  errPage (C 0 != 0 || (List.range 1024).any (fun i => decide (C (i + 1) < C i)) ||
    (List.range 4096).any (fun z => decide (65536 < fieldOf (tab2 z) 0 17))) ceRANGE 0x0A0

end Sys2Proof.Machine
end

