-- ==== Sys2Proof/Machine/Lamp.lean ====
section
/-!
DEFINITION. The lamp bus: driver images, loads, slots and scan windows, probes, supply sag and the brightness limiter (12 R314 to R348).
-/

namespace Sys2Proof.Machine

/-! The drivers (R316 to R320). -/

/-- Codes of the driver commands (R316). -/
def dcWRITE : Nat := 1
def dcSWAP : Nat := 2
def dcRESYNC : Nat := 3
def dcCLEAR : Nat := 4
def dcCFG : Nat := 5
def dcDET_ROW : Nat := 6
def dcDET_MASK : Nat := 7
def dcREAD : Nat := 8
def dcRESET : Nat := 9
def dcFLIP : Nat := 10

/-- The `n` low bits of j reversed. -/
def bitRev : Nat → Nat → Nat
  | 0, _ => 0
  | n + 1, j => j % 2 * 2 ^ n + bitRev n (j / 2)

/-- The on-count of a code in sub-period j (R319). -/
def onCount (s code j : Nat) : Nat := code / 2 ^ s + (if bitRev s j < code % 2 ^ s then 1 else 0)

/-! A bus configuration: fields through `g`, tick lengths through `P` (R324 to R330). -/

/-- Chain length N, scan ratio, segment exponent s and ticks per window K. -/
def busN (g : Cfg) : Nat := g R.LMP.CHAIN + 1
def busScan (g : Cfg) : Nat := g R.LMP.SCAN + 1
def busSeg (g : Cfg) : Nat := min (g R.LMP.SEG) 6
def busK (g : Cfg) : Nat := 2 ^ (16 - busSeg g)
def busM (g : Cfg) : Nat := g R.LMP.MULT + 1

/-- LEAD in 2^-16 ns (R328). -/
def busLead (g : Cfg) : Nat := g R.LMP.LEAD * 10 * ns1

/-- Σ i<n P[e(i)] with e(t) = t >> (6 − s) (R326). -/
def tickSum (s : Nat) (P : Nat → Nat) (n : Nat) : Nat :=
  let w := 2 ^ (6 - s)
  ((List.range (n / w)).map P).sum * w + n % w * P (n / w)

/-- T_edge(n) under trim u in 0.5 ns units (R326). -/
def edgeAt (s : Nat) (P : Nat → Nat) (n : Nat) (u : Int) : Nat := (roundDivInt ((tickSum s P n : Int) * (65536 + u)) 65536).toNat

/-- The pre-charge width W of a group in ns (R327). -/
def prechgNs (g : Cfg) (grp : Nat) : Nat := 20 + 5 * g (R.SGP.PRECHG grp)

/-- T_row in 0.5 ns units (R327). -/
def rowHalf (g : Cfg) (P : Nat → Nat) (grp : Nat) (u : Int) : Nat := 2 * (40 + prechgNs g grp) + edgeAt (busSeg g) P (busK g) u

/-- The groups that a configuration uses. -/
def busGroups (g : Cfg) : List Nat := (List.range 4).filter (fun n => (g R.LMP.GROUP_EN).testBit n)

/-- T_cycle_max, the largest over the groups, in 0.5 ns units (R327). -/
def cycleMaxHalf (g : Cfg) (P : Nat → Nat) : Nat := ((busGroups g).map (fun n => busScan g * rowHalf g P n 3932)).foldl max 0

/-- D in periods of LDCLK (R329). -/
def loadPeriods (g : Cfg) : Nat :=
  let n := busN g
  16 * busScan g * (8 * n + 24) + 11 * (8 * n + 28) + (8 * n + 29) + (8 * n + 30) + (8 * n + 24 + 136 * n * g R.DRP.RB_DIV)

/-- Units of 1/12 ns in a period of 150 MHz, 0.5 ns, 1 ns. -/
def u12Period : Nat := 80
def u12Half : Nat := 6
def u12Ns : Nat := 12

/-- A time in 1/12 ns fits into a time in 2^-16 ns. -/
def fits12 (u12 t : Nat) : Bool := decide (u12 * 65536 ≤ t * 12)

/-- C in 1/12 ns: the computation time of a slot in the committed mode (R330). -/
def computeU12 (g : Cfg) (lamps : Nat) : Nat := (if g R.LSM.MODE = 0 then ceilDiv (lamps * 51) 64 else ceilDiv lamps 2) * 15

/-- D and LEAD_MIN in 1/12 ns (R329, R330). -/
def loadU12 (g : Cfg) : Nat := loadPeriods g * u12Period
def leadMinU12 (g : Cfg) (lamps : Nat) : Nat := computeU12 g lamps + loadU12 g + 1000 * u12Ns

/-- The largest n below 2^bits, from `lo` up, at which a falling test still holds. -/
def lastTrue (p : Nat → Bool) : Nat → Nat → Nat
  | 0, lo => lo
  | i + 1, lo => lastTrue p i (if p (lo + 2 ^ i) then lo + 2 ^ i else lo)

/-- The detection count: the smallest n whose first n ticks last T_DET at the −6 % trim; above K when none does (R336). -/
def detTicks (g : Cfg) (P : Nat → Nat) : Nat :=
  1 + lastTrue (fun n => decide (n ≤ busK g ∧ tickSum (busSeg g) P n * 61604 < 2 * g R.PRB.T_DET * 65536)) 17 0

/-- The detection count as the register and the drivers hold it, and DET_CODE (R336, R347). -/
def detCount (g : Cfg) (P : Nat → Nat) : Nat := min (detTicks g P) 4095
def detCode (g : Cfg) (P : Nat → Nat) : Nat := detCount g P * 2 ^ busSeg g

/-- The CFG words: SCAN, SEG, DET_TICKS, and the maker's registers with SEND (R348). -/
def cfgWords (g : Cfg) (P : Nat → Nat) : List Nat :=
  [g R.LMP.SCAN, 4096 + busSeg g, 8192 + detCount g P] ++
    ((List.range 8).filter (fun k => g (R.DRP.SEND k) == 1)).map (fun k => (8 + k) * 4096 + g (R.DRP.VALUE k))

/-- A word set in the order in which it is sent: the driver farthest from the Y96 first, on every lane at once (R315). `w` gives the word of
    the driver at position d of a lane. -/
def wordSet (g : Cfg) (w : Nat → Nat → Nat) : List Nat :=
  (List.range (busN g)).reverse.flatMap (fun d => (List.range 16).map (fun lane => w lane d))

/-- The force mask of the driver at position d of a lane, bit k for channel k, from the columns to force (R316, R324). -/
def maskWord (g : Cfg) (cols : List Nat) (lane d : Nat) : Nat :=
  ((List.range 16).filter (fun k => cols.contains (lane * 16 * busN g + 16 * d + k))).foldl (fun m k => m + 2 ^ k) 0

/-- One period of LDCLK at a group's balls: the bits of its 16 lanes at the rising and at the falling edge, and LLAT (R315). -/
structure BusPeriod where
  rise : List Bool
  fall : List Bool
  lat : Bool
deriving DecidableEq, Repr

/-- A lane word in the eight periods that it takes: MSB first, the bit of the rising edge before that of the falling edge (R315). `ws` gives the
    words of lanes 0 to 15. -/
def wordPeriods (ws : List Nat) : List BusPeriod :=
  (List.range 8).map (fun p => { rise := ws.map (fun w => w.testBit (15 - 2 * p)), fall := ws.map (fun w => w.testBit (14 - 2 * p)), lat := false })

/-- A period in which every lane carries 0 (R315, R317). -/
def zeroPeriod (lat : Bool) : BusPeriod := { rise := List.replicate 16 false, fall := List.replicate 16 false, lat := lat }

/-- Periods from the fall of LLAT to the next data bit: 23, 1 µs after CLEAR, 10 µs after RESET, and the readback after READ, at 150 MHz (R317,
    R321). `n` is the chain length and `rb` RB_DIV. -/
def quietPeriods (code n rb : Nat) : Nat :=
  if code = dcCLEAR then 150 else if code = dcRESET then 1500 else if code = dcREAD then 16 + 136 * n * rb else 23

/-- The words of a word set in groups of 16: one per lane for each driver (R315). -/
def laneWords : Nat → List Nat → List (List Nat)
  | 0, _ => []
  | n + 1, ws => ws.take 16 :: laneWords n (ws.drop 16)

/-- What a lamp-bus command puts on the balls of its group: its word set, if it has one, LLAT high for as many periods as its code says, with
    every lane at 0, and the quiet interval (R315 to R317). `data` is the word set as `Output.lampCmd` holds it. -/
def busPeriods (code : Nat) (data : List Nat) (rb : Nat) : List BusPeriod :=
  (laneWords (data.length / 16) data).flatMap wordPeriods ++ List.replicate code (zeroPeriod true) ++
    List.replicate (quietPeriods code (data.length / 16) rb) (zeroPeriod false)

/-- The readback slot of the driver at position d of a lane: q = i × N + d with i the lane among the four of its line (R322). -/
def readSlot (g : Cfg) (lane d : Nat) : Nat := lane % 4 * busN g + d

/-- The transition to a row (R327). -/
def rowSteps (w row : Nat) : List (Nat × RowStep) :=
  [(10, .rowsOff), (20, .prechgOn), (25, .rowAddress row), (20 + w, .prechgOff), (30 + w, .rowsOn), (40 + w, .edge0)]

/-- What R348 compares to find CFG words due: SCAN, SEG, the detection count and every MAKER_CFG field. -/
def cfgFields (g : Cfg) (P : Nat → Nat) : List Nat :=
  [g R.LMP.SCAN, busSeg g, detCount g P] ++ (List.range 8).flatMap (fun k => [g (R.DRP.SEND k), g (R.DRP.VALUE k)])

/-! Checks (R291, R314, R324, R326, R330, R334, R336). -/

/-- The table rule of ROWMAP and COLMAP (R324). -/
def mapBad (g : Cfg) (rowmap colmap : Nat → Word32) : Bool :=
  let ps := (List.range (lampsOf g)).map (placeOf rowmap colmap (g R.LMP.QSTRIDE) (gridW g))
  ps.any (fun (p : Nat × Nat × Nat) => decide (256 * busN g ≤ p.2.2) || decide (busScan g ≤ p.2.1) || !(g R.LMP.GROUP_EN).testBit p.1) ||
    !decide ps.Nodup

/-- How long a slot lasts in 2^-16 ns. -/
def slotLast (g : Cfg) (k : Nat) : Nat := slotEnd g k - slotTime g k

/-- The lit slots of a configuration, in order. -/
def litList (g : Cfg) : List Nat := (List.range (slotsOf g)).filter (slotLit g)

/-- Every other element, from the first. -/
def everyOther {α : Type} : List α → List α
  | [] => []
  | [x] => [x]
  | x :: _ :: xs => x :: everyOther xs

/-- The lamp rows of a band in the received area (R300, R334). -/
def bandRows (g : Cfg) (band : Nat) : List Nat :=
  (List.range (gridH g)).filter (fun py =>
    let r := recvLines g py
    decide ((bandOfLine g r.1).1 ≤ band ∧ band ≤ (bandOfLine g r.2).1))

/-- DIRECT: the lamps of a band can be computed and their driver rows loaded twice within T_band (R334; 05 R135). -/
def directFits (g : Cfg) (rowmap : Nat → Word32) (band : Nat) : Bool :=
  let rows := bandRows g band
  let drv := (rows.map (fun py => (fieldOf (rowmap py) 6 2, fieldOf (rowmap py) 0 6))).dedup
  let most := ((List.range 4).map (fun n => (drv.filter (fun (d : Nat × Nat) => d.1 == n)).length)).foldl max 0
  decide ((computeU12 g (rows.length * 3 * gridW g) + 2 * 16 * most * (8 * busN g + 24) * u12Period) * 65536 * Config.directLines ≤
    16 * framePeriod (numOf g) (denOf g) * 12)

/-- The slot times (R330, R334). -/
def busTimeBad (g : Cfg) (P : Nat → Nat) (rowmap : Nat → Word32) : Bool :=
  let lit := litList g
  let c := computeU12 g (lampsOf g)
  let t := framePeriod (numOf g) (denOf g)
  lit.any (fun k => !(fits12 (100 * u12Ns + busM g * cycleMaxHalf g P * u12Half) (slotLast g k) &&
      fits12 (max c (loadU12 g + 1000 * u12Ns)) (slotLast g k))) ||
    !fits12 (leadMinU12 g (lampsOf g)) (busLead g) ||
    (match (everyOther lit).getLast? with
     | none => false
     | some k => decide (t < busLead g + slotTime g k)) ||
    (g R.SCH.MODE == moDIRECT && (keptBands g).any (fun b => !directFits g rowmap b))

/-- The checks of the lamp-bus pages. `tab` reads the LMP tables. -/
def checkBus (m : Member) (tab : Nat → Nat → Word32) (g : Cfg) : List CfgErr :=
  let P (e : Nat) : Nat := fieldOf (tab 2 e) 0 16
  errAt (g R.LMP.SEG == 7) ceRANGE R.LMP.SEG ++
  (List.range (memberGroups m)).flatMap (fun n => errRange g (R.SGP.PRECHG n) 0 396) ++
  errRange g R.DRP.RB_DIV 1 63 ++ errRange g R.PRB.T_DET 50 2000 ++
  errPage ((List.range 1024).any (fun e => decide (P e < 5))) ceRANGE 0x0B0 ++
  errAt (g R.PRB.EN == 1 && decide (min (busK g) 4095 < detTicks g P)) ceRANGE R.PRB.T_DET ++
  (if g R.TIL.EN = 0 then []
   else
    errAt (busM g % 2 ^ busSeg g != 0 || decide (2 ^ memberGroups m ≤ g R.LMP.GROUP_EN)) ceRANGE R.LMP.GROUP_EN ++
    errPage (mapBad g (tab 0) (tab 1)) ceRANGE 0x0B0 ++ errPage (busTimeBad g P (tab 0)) ceSCHEDULE 0x0B0)

/-! The configuration in force (R333). -/

/-- The applied tick lengths. -/
def State.tickLen (s : State) (e : Nat) : Nat := fieldOf (s.tabW 0x0B0 2 e) 0 16

/-- The lamp-bus fields in force since S_0; other fields read as applied (R333). -/
def State.bus (s : State) : Cfg := fun f =>
  if 0x0B0 ≤ f.page ∧ f.page ≤ 0x0B6 then snapRd s.lmp.regs f.live else s.lv f

/-- The tick lengths in force. -/
def State.busP (s : State) (e : Nat) : Nat := fieldOf (smGet tabDefault s.lmp.tabs (tabKey 0x0B0 2 e)) 0 16

/-- A load for a frame takes the values applied at its tick; one of an earlier frame still takes those in force (R333). -/
def State.jobCfg (s : State) (j : SlotJob) : Cfg := if j.epoch = s.epoch then s.lv else s.bus

/-- A table word of LMP for a job. -/
def State.jobTab (s : State) (j : SlotJob) (tab i : Nat) : Word32 :=
  if j.epoch = s.epoch then s.tabW 0x0B0 tab i else smGet tabDefault s.lmp.tabs (tabKey 0x0B0 tab i)

/-- The driver place of lamp i for a job (R324). -/
def State.jobPlace (s : State) (j : SlotJob) (i : Nat) : Nat × Nat × Nat :=
  placeOf (s.jobTab j 0) (s.jobTab j 1) (s.jobCfg j R.LMP.QSTRIDE) (gridW s.lv) i

/-- The key of a code in a driver image. -/
def imgKey (row a : Nat) : Nat := row * 4096 + a

/-- The code at a place of an image. -/
def imgCode (m : List (Nat × Nat)) (row a : Nat) : Nat := smGet (fun _ => 0) m (imgKey row a)

/-- The figures of the applied configuration: D, LEAD_MIN, T_cycle_max, K and the detection code (R330, R336, R344, R347). -/
def State.showBus (s : State) : State :=
  let g := s.lv
  let s := (s.wr R.LMP.D_NS (loadU12 g / 12)).wr R.LMP.LEAD_MIN (leadMinU12 g s.lampCount / 12)
  let s := (s.wr R.LMP.CYCLE_MAX_NS (cycleMaxHalf g s.tickLen / 2)).wr R.DRP.K (busK g)
  s.wr R.PRB.DET_CODE (detCode g s.tickLen)

/-! Lamp status (R337, R346). -/

/-- The status of a lamp: 0 OK, 1 OPEN, 2 SHORT, 3 UNKNOWN-DARK (R346). -/
def State.lampStatus (s : State) (i : Nat) : Nat := fieldOf (s.immW 0x0B5 0 (i / 16)) (2 * (i % 16)) 2

/-- Set the status of a lamp. -/
def State.setStatus (s : State) (i v : Nat) : State :=
  s.setImm 0x0B5 0 (i / 16) (putField (s.immW 0x0B5 0 (i / 16)) (2 * (i % 16)) 2 v)

/-- The statuses of the device's lamps that are not UNKNOWN-DARK, and perhaps some that are. -/
def State.knownStatus (s : State) : List Nat :=
  (s.imm.filter (fun (e : Nat × Word32) => e.1 / 2 ^ 22 == 0x0B5 * 16)).flatMap (fun (e : Nat × Word32) =>
    ((List.range 16).filter (fun j => decide (16 * (e.1 % 2 ^ 22) + j < s.lampCount))).map (fun j => fieldOf e.2 (2 * j) 2))

/-- N_OPEN, N_SHORT and N_UNKNOWN follow the statuses (R346). -/
def State.showStatus (s : State) : State :=
  let k := s.knownStatus
  let n (v : Nat) : Nat := (k.filter (· == v)).length
  ((s.wr R.PRB.N_OPEN (n 1)).wr R.PRB.N_SHORT (n 2)).wr R.PRB.N_UNKNOWN (s.lampCount - n 0 - n 1 - n 2)

/-- Every status becomes UNKNOWN-DARK (R337). -/
def State.forgetStatus (s : State) : State :=
  ({ s with imm := smKeep (fun k => k / 2 ^ 22 != 0x0B5 * 16) s.imm } : State).showStatus

/-- NEXT_ROW of a group. -/
def nextRowF (g : Nat) : Fld := ⟨0x0B5, 0x600, 8 * g, 6⟩

/-! Slots of a frame (R328, R331; 11 R308). -/

/-- The slots of a frame from slot k on: lit ones are numbered in order. `dark` says which slots are not computed. -/
def framePlan (g : Cfg) (epoch tick : Nat) (dark : Nat → Bool) : List Nat → Nat → Bool → List SlotJob
  | [], _, _ => []
  | k :: ks, ord, first =>
    let lit := slotLit g k && !dark k
    { epoch := epoch, slot := k, ord := ord, lit := lit, due := tick + busLead g + slotTime g k, firstDark := !lit && first } ::
      framePlan g epoch tick dark ks (if lit then ord + 1 else ord) (first && lit)

/-- The slots of the frame that begins: none with TIL.EN = 0; dark ones by R331. Lit ones are to be computed (11 R308). -/
def State.openSlots (s : State) : State :=
  if !s.lvB R.TIL.EN then s
  else
    let g := s.lv
    let off : Bool := s.til.dark || s.lmp.restart || s.stateCode == stQUENCHED
    let dark (k : Nat) : Bool := off || (!tileMeasure g && (match feedOfSlot g k with | some f => s.til.darkFeeds.contains f | none => true))
    let plan := framePlan g s.epoch s.frm.tickTime dark (List.range (slotsOf g)) 0 true
    let lit := plan.filter SlotJob.lit
    let s : State := { s with lmp := { s.lmp with plan := s.lmp.plan ++ plan }, lsm := { s.lsm with todo := lit } }
    s.cond (lit.isEmpty && s.lvB R.PRB.EN && (g R.PRB.POLICY == 1 || g R.PRB.POLICY == 3))
      (fun s => s.each s.groupsOn (fun s n => s.modGrp n (fun x => { x with solo := true })))

/-- Lamps that a tile's configuration drives (11 R299). -/
def lampCountOf (g : Cfg) : Nat := if g R.TIL.EN = 1 then lampsOf g else 0

/-- The frame in progress turns dark: nothing more of it is computed, its slots to come are dark, and when it has begun on the lamp bus, rows go
    off (05 R134; 11 R308; 12 R331). -/
def State.darkNow (s : State) : State :=
  if s.til.dark then s
  else
    let here (j : SlotJob) : Bool := j.epoch == s.epoch
    let begun : Bool := !s.lmp.plan.any (fun j => here j && j.slot == 0)
    let s := s.stopRun.2.stopSlots
    let s : State := { s with
      til := { s.til with dark := true },
      lmp := { s.lmp with plan := s.lmp.plan.map (fun j => if here j then { j with lit := false } else j) } }
    s.cond begun (fun s =>
      let on := (List.range (memberGroups s.member)).filter (fun n => (s.grp n).scan)
      (s.each on State.rowsLow).cond (!on.isEmpty) (fun s => s.wr R.LMP.DARK 1))

/-- The frame's part of the lamp bus at a tick: flags that waited, due CFG words, a restart, the frame's figures, the counts of statuses when
    the lamp grid has changed (R333, R337, R344 to R348).
    `old` is the configuration before the tick. -/
def State.busTick (s : State) (old : Cfg) (oldP : Nat → Nat) : State :=
  let g := s.lv
  let start : Bool := g R.TIL.EN == 1 && (old R.TIL.EN == 0 || old R.LMP.CHAIN != g R.LMP.CHAIN || old R.LMP.GROUP_EN != g R.LMP.GROUP_EN)
  let stop : Bool := g R.TIL.EN == 0 && old R.TIL.EN == 1
  let sent : Bool := s.lmp.since == 0
  let since := s.lmp.since + 1
  let due : Bool := cfgFields g s.tickLen != cfgFields old oldP || s.lmp.reinit ||
    (g R.DRP.REFRESH_FRAMES != 0 && decide (g R.DRP.REFRESH_FRAMES ≤ since))
  let reset := s.lmp.statusReset
  let s : State := { s with lmp := { s.lmp with
    cfgDue := due || (s.lmp.cfgDue && !sent), since := since, reinit := false, statusReset := false, drvReset := false,
    restart := g R.TIL.EN == 1 && (start || s.lmp.drvReset || s.lmp.restart) } }
  let s := s.cond (old R.TIL.EN == 0 && start) (fun s => s.wr R.DRP.INIT_DONE 0)
  let s := s.cond stop (fun s =>
    let s := s.each (List.range (memberGroups s.member)) State.rowsOff
    (({ s with lmp := { s.lmp with plan := [] }, lsm := { s.lsm with banks := [] } } : State).wr R.LMP.RUNNING 0).wr R.LMP.GROUPS_ON 0)
  let s := s.cond (lampCountOf old != s.lampCount) State.showStatus
  let s := s.cond reset (fun s => (s.each (s.imm.filter (fun (e : Nat × Word32) => e.1 / 2 ^ 22 == 0x0B6 * 16)) (fun s e =>
    s.setImm 0x0B6 0 (e.1 % 2 ^ 22) (e.2 &&& 0x01010101))).forgetStatus)
  let stale : Bool := s.flag R.THM.STALE
  let s := (s.wr R.LMP.LOAD_NS s.lmp.longest)
  let s := s.each (List.range (memberGroups s.member)) (fun s n =>
    let x := s.grp n
    let s := s.cond (x.solo && x.tried) (fun s => s.incRaise R.PRB.CNT_DEFERRED R.PRB.ev_DEFERRED)
    let s := s.cond (!stale) (fun s => (s.wr (R.SGP.SENSE_MIN n) (x.senseMin.getD 0)).wrI (R.SGP.TRIM_PEAK n) x.peak)
    s.modGrp n (fun x => { x with tried := false, senseMin := none, peak := 0 }))
  { s with lmp := { s.lmp with longest := 0 } }

/-- The brightness limiter runs once at the tick, and G_LIMIT is latched (R341). -/
def State.brightTick (s : State) : State :=
  let x : Int := if s.lmp.wins = 0 then 0 else s.lmp.drive / (65536 * s.lmp.wins : Nat)
  let s := s.loopRun 8 (s.loopCoef 8) x 0 none
  let s := s.wr R.COR.G_LIMIT (clampInt (s.loop 8).u 0 65536).toNat
  { s with lmp := { s.lmp with drive := 0, wins := 0 } }

/-! Loads (R325, R336). -/

/-- Probes run: enabled, no light-phase run, not quenched, not forced dark (R336, R343; 13 R364). -/
def State.probing (s : State) : Bool :=
  s.bus R.PRB.EN == 1 && !s.flag R.THM.STALE && s.stateCode != stQUENCHED && !s.flag R.LMP.FORCE_DARK

/-- The next slot to start on the lamp bus. -/
def State.busNext (s : State) : Option SlotJob := s.lmp.plan.head?

/-- A staged slot may be loaded by a group: the next slot to start, whose inactive bank is free, or a DIRECT recomputation. -/
def State.loadable (s : State) (n : Nat) (b : Staged) : Bool :=
  b.left.contains n &&
    (if b.job.rows.isSome then (s.grp n).flip.isNone && (s.grp n).loaded.isNone
     else (s.grp n).loaded.isNone && (match s.busNext with | some j => j.epoch == b.job.epoch && j.slot == b.job.slot | none => false))

/-- Send the CFG words to a group; DET_TICKS shows the value sent (R336, R347, R348). -/
def State.sendCfg (s : State) (n : Nat) (g : Cfg) (ws : List Nat) : State :=
  let s := s.each ws (fun s w => s.emit (.lampCmd n dcCFG (wordSet g (fun _ _ => w))))
  (s.wr R.DRP.DET_TICKS (ws.getD 2 0)).incBy R.DRP.CNT_CFG ws.length

/-- The commands that arm a detection window: the row with SOLO, then the force masks (R316, R320, R336). -/
def State.sendProbe (s : State) (n : Nat) (g : Cfg) (row : Nat) (solo : Bool) (cols : List Nat) : State :=
  (s.emit (.lampCmd n dcDET_ROW (wordSet g (fun _ _ => row + 64 * solo.toNat)))).emit (.lampCmd n dcDET_MASK (wordSet g (maskWord g cols)))

/-- Columns of a driver row in a group whose code in a staged slot is from 1 to below `top` (R336). -/
def State.forceMask (s : State) (b : Staged) (n row top : Nat) : List Nat :=
  ((List.range s.lampCount).zip b.codes).filterMap (fun (x : Nat × Nat) =>
    let p := s.jobPlace b.job x.1
    if p.1 = n ∧ p.2.1 = row ∧ 1 ≤ x.2 ∧ x.2 < top then some p.2.2 else none)

/-- SLOT_LOAD_START: a group begins to load the staged codes of its next slot; in a frame's first load the CFG words that are due and the
    commands of the lit probe go first (R325, R333, R336, R348). -/
def slotLoadStartFx (n : Nat) (s : State) : State :=
  match s.lsm.banks.find? (fun (b : Nat × Staged) => s.loadable n b.2) with
  | none => s
  | some (_, b) =>
    if (s.grp n).load.isSome then s
    else
      let first : Bool := b.job.rows.isNone && b.job.ord == 0
      let g := s.jobCfg b.job
      let P (e : Nat) : Nat := fieldOf (s.jobTab b.job 2 e) 0 16
      let s := s.modGrp n (fun x => { x with load := some (b.job, s.time) })
      let s := s.cond (first && s.lmp.cfgDue) (fun s =>
        ({ s with lmp := { s.lmp with since := 0 } } : State).sendCfg n g (cfgWords g P))
      let x := s.grp n
      s.cond (first && s.probing && !x.solo && x.fired.isNone) (fun s =>
        let row := s.rd (nextRowF n)
        let mask := s.forceMask b n row (detCode g P)
        let s := s.sendProbe n g row false mask
        s.modGrp n (fun x => { x with arm := some { row := row, solo := false, mask := mask, live := false } }))

/-- SLOT_LOAD_START (R325). -/
def execSlotLoadStart (group t : Nat) (s : State) : Host.Outcome State Fault Refusal :=
  .next ((s.atTime t).cond (s.isTile && s.flag R.LMP.RUNNING && decide (group < memberGroups s.member)) (slotLoadStartFx group))

/-- The driver image of a staged slot in a group: from `base`, with the codes of the job's lamps (R324, R325). -/
def State.imageOf (s : State) (b : Staged) (n : Nat) (base : List (Nat × Nat)) : List (Nat × Nat) :=
  ((s.jobLamps b.job).zip b.codes).foldl (fun m (x : Nat × Nat) =>
    let p := s.jobPlace b.job x.1
    if p.1 = n then smSet (fun _ => 0) m (imgKey p.2.1 p.2.2) x.2 else m) base

/-- The driver rows of lamp rows in a group (R334). -/
def State.driverRows (s : State) (j : SlotJob) (n : Nat) (rows : List Nat) : List Nat :=
  ((rows.filter (fun py => fieldOf (s.jobTab j 0 py) 6 2 == n)).map (fun py => fieldOf (s.jobTab j 0 py) 0 6)).dedup

/-- An image with some driver rows taken from another one. -/
def copyRows (rows : List Nat) (src dst : List (Nat × Nat)) : List (Nat × Nat) :=
  smPutAll (fun _ => 0) (smKeep (fun k => !rows.contains (k / 4096)) dst) (smKeep (fun k => rows.contains (k / 4096)) src)

/-- The WRITE word sets of driver rows: the driver farthest from the Y96 first, on every lane (R315, R316, R325). -/
def State.emitWrites (s : State) (g : Cfg) (n : Nat) (rows : List Nat) (img : List (Nat × Nat)) : State :=
  s.each rows (fun s row => s.each (List.range 16) (fun s ch =>
    s.emit (.lampCmd n dcWRITE (wordSet g (fun lane d => imgCode img row (lane * 16 * busN g + 16 * d + ch))))))

/-- A group is done with a staged slot; the bank is released when every group is (R325; 11 R308). -/
def State.releaseBank (s : State) (n : Nat) (j : SlotJob) : State :=
  let banks := s.lsm.banks.map (fun (b : Nat × Staged) =>
    if b.2.job = j then (b.1, { b.2 with left := b.2.left.filter (· != n) }) else b)
  { s with lsm := { s.lsm with banks := banks.filter (fun (b : Nat × Staged) => !b.2.left.isEmpty) } }

/-- SLOT_LOAD_DONE: the codes stand in the inactive bank of the group (R325, R334, R344). -/
def slotLoadDoneFx (n : Nat) (s : State) : State :=
  match (s.grp n).load with
  | none => s
  | some (j, t0) =>
    match s.lsm.banks.find? (fun (b : Nat × Staged) => b.2.job == j) with
    | none => s.modGrp n (fun x => { x with load := none })
    | some (_, b) =>
      let g := s.jobCfg j
      let x := s.grp n
      let s := match j.rows with
        | none =>
          let img := s.imageOf b n []
          (s.emitWrites g n (List.range (busScan g)) img).modGrp n (fun x => { x with load := none, loaded := some j, idle := img })
        | some rows =>
          let drv := s.driverRows j n rows
          let img := s.imageOf b n (copyRows drv x.shown x.idle)
          (s.emitWrites g n drv img).modGrp n (fun x => { x with load := none, flip := some drv, idle := img })
      let ns := (s.time - t0) / ns1
      ({ s with lmp := { s.lmp with longest := max s.lmp.longest ns } } : State).releaseBank n j

/-- SLOT_LOAD_DONE (R325). -/
def execSlotLoadDone (group t : Nat) (s : State) : Host.Outcome State Fault Refusal :=
  .next ((s.atTime t).cond (s.isTile && decide (group < memberGroups s.member)) (slotLoadDoneFx group))

/-! The light and the drive of a window (R319, R326, R327, R339, R341). -/

/-- The drive fraction of on-counts in 2^-16 (R339). -/
def driveFraction (g : Cfg) (ns : List Nat) : Nat := ns.sum * 65536 / (256 * busN g * busK g)

/-- A window of a row with the on-counts of its channels: the row transition, the light of every channel that conducts, its drive, and the
    count (R319, R326, R327, R339, R341, R345). A solo probe's window is one too (DEDUCED; log 187). -/
def State.lightWindow (s : State) (n row : Nat) (counts : List Nat) : State :=
  let g := s.bus
  let u := smGet (fun _ => 0) (s.grp n).trims row
  let s := (s.emit (.rowSteps n (rowSteps (prechgNs g n) row))).emit (.rows n true row)
  let s := s.each (((List.range counts.length).zip counts).filter (fun (c : Nat × Nat) => c.2 != 0)) (fun s c =>
    s.emit (.light n row c.1 (edgeAt (busSeg g) s.busP c.2 u)))
  let s : State := { s with lmp := { s.lmp with
    drive := s.lmp.drive + driveFraction g counts * (65536 + u), wins := s.lmp.wins + 1 } }
  s.inc (R.SGP.CNT_WINDOWS n)

/-- The window of a solo probe: forced channels conduct for the detection count, the others not at all, and the rows go off again
    (R320, R327, R336). -/
def State.soloWindow (s : State) (n row : Nat) (cols : List Nat) : State :=
  let det := detCount s.bus s.busP
  (s.lightWindow n row ((List.range (256 * busN s.bus)).map (fun a => if cols.contains a then det else 0))).emit (.rows n false 0)

/-! Solo probes (R336). -/

/-- When the slot after the one shown starts: the next one planned, or the first of the next frame. -/
def State.nextStart (s : State) : Nat :=
  match s.busNext with
  | some j => j.due
  | none => s.frm.nextTick + busLead s.bus

/-- Periods of the word sets that arm a probe, and of a READ with its readback (R317, R321). -/
def probePeriods (g : Cfg) : Nat := (8 * busN g + 29) + (8 * busN g + 30)
def readPeriods (g : Cfg) : Nat := 8 * busN g + 24 + 136 * busN g * g R.DRP.RB_DIV

/-- Periods of a slot's load in a configuration: its code words, and in a frame's first one the CFG words that are due and the commands of the
    lit probe (R325, R329, R348). -/
def loadLast (g : Cfg) (first cfg : Bool) : Nat :=
  16 * busScan g * (8 * busN g + 24) +
    (if first then probePeriods g + (if cfg then (cfgWords g (fun _ => 0)).length * (8 * busN g + 28) else 0) else 0)

/-- CFG words are due in the next frame's first load, as far as is known before its tick (R348). -/
def State.cfgNext (s : State) : Bool :=
  let n := s.lv R.DRP.REFRESH_FRAMES
  s.lmp.reinit || (s.lmp.cfgDue && s.lmp.since != 0) || (n != 0 && decide (n ≤ s.lmp.since + 1))

/-- Periods of the load that is due before the next slot start in a group: of the next slot planned, unless it is loaded; before the tick, that
    of the next frame's first slot (R336; DEDUCED, log 121). -/
def State.loadAhead (s : State) (n : Nat) : Nat :=
  match s.busNext with
  | some j => if j.lit ∧ (s.grp n).loaded.isNone then loadLast (s.jobCfg j) (j.ord == 0) s.lmp.cfgDue else 0
  | none => if (litList s.lv).isEmpty then 0 else loadLast s.lv true s.cfgNext

/-- The solo probe of a group fits from a time on: commands, window, readback, and the load that is due before the next slot, 1 µs clear. -/
def State.soloFits (s : State) (n now : Nat) : Bool :=
  let g := s.bus
  let periods := probePeriods g + readPeriods g + s.loadAhead n
  let row := rowHalf g s.busP n (smGet (fun _ => 0) (s.grp n).trims (s.rd (nextRowF n)))
  decide (now ≤ s.nextStart) && fits12 (periods * u12Period + row * u12Half + 1000 * u12Ns) (s.nextStart - now)

/-- The driver place of lamp i by the map in force on the bus since S_0 (R324, R333). -/
def State.busPlace (s : State) (i : Nat) : Nat × Nat × Nat :=
  placeOf (fun k => smGet tabDefault s.lmp.tabs (tabKey 0x0B0 0 k)) (fun k => smGet tabDefault s.lmp.tabs (tabKey 0x0B0 1 k)) (s.bus R.LMP.QSTRIDE)
    (gridW s.lv) i

/-- The lamps of a driver row, each with its column (R324). -/
def State.rowLamps (s : State) (n row : Nat) : List (Nat × Nat) :=
  (List.range s.lampCount).filterMap (fun i =>
    let p := s.busPlace i
    if p.1 = n ∧ p.2.1 = row then some (i, p.2.2) else none)

/-- Columns of a driver row that have a lamp (R336). -/
def State.lampColumns (s : State) (n row : Nat) : List Nat := (s.rowLamps n row).map Prod.snd

/-- A solo probe that is due runs if it fits, else it has been tried (R336). -/
def State.soloTry (s : State) (n now : Nat) : State :=
  if !((s.grp n).solo && s.probing && (s.grp n).fired.isNone) then s
  else if s.soloFits n now then
    let row := s.rd (nextRowF n)
    let mask := s.lampColumns n row
    let s := (s.sendProbe n s.bus row true mask).soloWindow n row mask
    s.modGrp n (fun x => { x with fired := some { row := row, solo := true, mask := mask, live := true }, arm := none })
  else s.modGrp n (fun x => { x with tried := true })

/-- POLICY lets a solo probe run in a dark slot, or in blanking: in blanking under EITHER only when the frame has no dark slot (R336). -/
def soloInDark (g : Cfg) : Bool := g R.PRB.POLICY == 1 || g R.PRB.POLICY == 3
def hasDarkSlot (g : Cfg) : Bool := (List.range (slotsOf g)).any (fun k => !slotLit g k)
def soloInBlank (g : Cfg) : Bool := g R.PRB.POLICY == 2 || (g R.PRB.POLICY == 3 && !hasDarkSlot g)

/-- A solo probe can run in some frame of the configuration. -/
def soloAllowed (g : Cfg) : Bool := (soloInDark g && hasDarkSlot g) || soloInBlank g

/-! Slot starts (R328, R331 to R333, R335). -/

/-- The planned slot that a start at time t names: the last one of that number that is due, else the first; earlier ones are dropped
    (04 R96). -/
def planPick (slot t : Nat) : List SlotJob → Option (SlotJob × List SlotJob)
  | [] => none
  | j :: js =>
    match planPick slot t js with
    | some (k, rest) => if k.due ≤ t ∨ j.slot ≠ slot then some (k, rest) else some (j, js)
    | none => if j.slot = slot then some (j, js) else none

/-- Fields of the lamp map (R337). -/
def mapFields : List Fld := [R.LMP.QSTRIDE, R.LMP.CHAIN, R.LMP.SCAN, R.LMP.GROUP_EN]

/-- The multiplier that the configuration and the die model give: a multiple of 2^s from 2^s to M (R335; 13 R373). -/
def State.mNow (s : State) : Nat :=
  let m := busM s.bus
  let step := 2 ^ busSeg s.bus
  match s.thm.mHeld with
  | none => m
  | some h => min m (max step (h / step * step))

/-- At S_0 the applied lamp-bus fields and tables come into force; a new M is no step of the die model; a change of the lamp map forgets
    every status (R333, R337). -/
def State.busLatch (s : State) : State :=
  let old := s.bus
  let was := s.lmp.tabs
  let regs := smKeep (fun k => isLive k && decide (0x0B0 ≤ k / 0x1000 ∧ k / 0x1000 ≤ 0x0B6)) s.regs
  let tabs := smKeep (fun k => decide (k / 2 ^ 26 = 0x0B0)) s.tabs
  let s : State := { s with lmp := { s.lmp with regs := regs, tabs := tabs } }
  let map (m : List (Nat × Word32)) : List (Nat × Word32) := smKeep (fun k => decide (k / 2 ^ 22 % 16 < 2)) m
  let s := s.cond (busM old != busM s.bus) (fun s => s.wr R.LMP.M_EFF s.mNow)
  s.cond (mapFields.any (fun f => old f != s.bus f) || map was != map tabs) (fun s => (s.forgetStatus).wr ⟨0x0B5, 0x600, 0, 32⟩ 0)

/-- With TIL.EN = 0 no slot starts, and the values in force follow at the tick (R333, R344). -/
def State.idleLatch (s : State) : State := s.cond (!s.lvB R.TIL.EN) State.busLatch

/-- The start sequence of the drivers (R323, R333): RESET, every CFG word, CLEAR, SWAP, CLEAR. -/
def State.startBus (s : State) : State :=
  let ws := cfgWords s.bus s.busP
  let s := s.each ((List.range (memberGroups s.member)).filter (fun n => !(busGroups s.bus).contains n || (s.grp n).scan)) State.rowsOff
  let s := s.each (busGroups s.bus) (fun s n =>
    let s := (s.emit (.lampCmd n dcRESET [])).sendCfg n s.bus ws
    let s := ((s.emit (.lampCmd n dcCLEAR [])).emit (.lampCmd n dcSWAP [])).emit (.lampCmd n dcCLEAR [])
    s.modGrp n (fun x => { trims := x.trims }))
  let s : State := { s with lmp := { s.lmp with restart := false, cfgDue := false, since := 0 }, lsm := { s.lsm with banks := [] } }
  ((s.wr R.DRP.INIT_DONE 1).raise R.DRP.ev_INIT).wr R.LMP.RUNNING 1

/-- A slot starts with the multiplier that the die model asks for (R335; 13 R373). -/
def State.stepM (s : State) : State :=
  if s.rd R.LMP.M_EFF = s.mNow then s else (s.wr R.LMP.M_EFF s.mNow).incRaise R.LMP.CNT_M_STEP R.LMP.ev_M_STEP

/-- A group begins to scan (R328). -/
def State.beginScan (s : State) (n : Nat) : State :=
  ((s.modGrp n (fun x => { x with scan := true, row := 0, sub := 0, cycles := s.rd R.LMP.M_EFF, half := 0, start := s.time })).wr
    (R.SGP.ACTIVE n) 1).wr (R.SGP.ROW n) 0

/-- The slot before ends at the start of this one: a group still scanning sets its rows low (R327, R333). -/
def State.endScan (s : State) (n : Nat) : State := s.cond (s.grp n).scan (fun s => s.rowsLow n)

/-- A dark slot of a group: CLEAR, then SWAP, whatever the inactive bank holds (R331). -/
def State.darkSlot (s : State) (n : Nat) : State :=
  let s := s.endScan n
  let s := (s.emit (.lampCmd n dcCLEAR [])).emit (.lampCmd n dcSWAP [])
  let s := s.modGrp n (fun x =>
    { x with shown := [], idle := x.shown, loaded := none, load := none, flip := none, scan := false, arm := none })
  s.wr (R.SGP.ACTIVE n) 0

/-- A lit slot of a group: SWAP to the loaded bank; with the load incomplete, RESYNC on the bank of the slot before (R328, R332). -/
def State.litSlot (s : State) (n : Nat) (j : SlotJob) : State :=
  let s := s.endScan n
  let x := s.grp n
  let ready : Bool := match x.loaded with | some k => k.epoch == j.epoch && k.slot == j.slot | none => false
  let s :=
    if ready then
      (s.emit (.lampCmd n dcSWAP [])).modGrp n (fun x => { x with
        shown := x.idle, idle := x.shown, loaded := none, flip := none,
        arm := match x.arm with | some p => if p.live then none else some { p with live := true } | none => none })
    else
      let s := ((s.emit (.lampCmd n dcRESYNC [])).incRaise R.LMP.CNT_LOAD_ABANDON R.LMP.ev_LOAD_ABANDON).modGrp n (fun x =>
        { x with loaded := none, load := none, flip := none, arm := none })
      { s with lsm := { s.lsm with banks := s.lsm.banks.filterMap (fun (b : Nat × Staged) =>
          if b.2.job.epoch = j.epoch ∧ b.2.job.slot = j.slot ∧ b.2.job.rows.isNone then
            (if (b.2.left.filter (· != n)).isEmpty then none else some (b.1, { b.2 with left := b.2.left.filter (· != n) }))
          else some b) } }
  s.beginScan n

/-- A staged slot whose start has been dark is released (R331). -/
def State.dropStaged (s : State) (j : SlotJob) : State :=
  { s with lsm := { s.lsm with banks := s.lsm.banks.filter (fun (b : Nat × Staged) =>
      !(b.2.job.epoch == j.epoch && b.2.job.slot == j.slot)) } }

/-- SLOT_START: S_k of a planned slot (R328, R331 to R333). -/
def slotStartFx (slot : Nat) (s : State) : State :=
  match planPick slot s.time s.lmp.plan with
  | none => s
  | some (j, rest) =>
    let s : State := { s with lmp := { s.lmp with plan := rest } }
    let s := s.cond (j.slot == 0) State.busLatch
    let fresh : Bool := s.lmp.restart && j.slot == 0
    let s := s.cond fresh State.startBus
    let s := s.stepM
    let dark : Bool := !j.lit || s.flag R.LMP.FORCE_DARK || s.stateCode == stQUENCHED
    let on := busGroups s.bus
    let s := if fresh then s else s.each on (fun s n => if dark then s.darkSlot n else s.litSlot n j)
    let s := s.cond dark (fun s => (s.dropStaged j).inc R.LMP.CNT_DARK_SLOTS)
    let s := s.cond (dark && j.firstDark && soloInDark s.bus && !fresh) (fun s => s.each on (fun s n => s.soloTry n s.time))
    let mask := if dark then 0 else on.foldl (fun m n => m + 2 ^ n) 0
    ((((s.wr R.LMP.SLOT slot).wrB R.LMP.DARK dark).wr R.LMP.GROUPS_ON mask).wr R.LMP.RUNNING 1).inc R.LMP.CNT_SLOTS

/-- SLOT_START (R328). -/
def execSlotStart (slot t : Nat) (s : State) : Host.Outcome State Fault Refusal :=
  .next ((s.atTime t).cond (s.isTile && s.lvB R.TIL.EN) (slotStartFx slot))

/-! Scan windows (R326, R327, R339, R340). -/

/-- The on-counts of a window: forced channels of an armed lit probe reach the detection count (R319, R320). -/
def windowCounts (g : Cfg) (det : Nat) (img : List (Nat × Nat)) (row sub : Nat) (force : List Nat) : List Nat :=
  (List.range (256 * busN g)).map (fun a =>
    let n := onCount (busSeg g) (imgCode img row a) sub
    if force.contains a then max n det else n)

/-- The drive fraction of the next window of a row: in the next cycle, or in the next slot's first one; a FLIP that is due comes before the next
    cycle (R334, R340). -/
def nextDrive (g : Cfg) (det : Nat) (x : GrpSt) : Nat :=
  let img := if x.flip.isSome then x.idle else if 1 < x.cycles then x.shown else if x.loaded.isSome then x.idle else x.shown
  driveFraction g (windowCounts g det img x.row (if 1 < x.cycles then (x.sub + 1) % 2 ^ busSeg g else 0) [])

/-- A sample of SENSE as the 12-bit converter reads it: 4,095 from 1.2 V up (R339; 18 R455). -/
def senseCode (x : Nat) : Nat := min x 4095

/-- The mean of the samples in 1/16 codes (R339). -/
def mean16 (xs : List Nat) : Nat := 16 * (xs.map senseCode).sum / xs.length

/-- The sag loop of a group at the end of a window (R340, R342). -/
def State.sagLoop (s : State) (n : Nat) (x : GrpSt) (samples : List Nat) (fNext : Nat) : State :=
  let g := s.bus
  if g (R.SGP.SENSE_EN n) = 0 ∨ samples.isEmpty then s
  else
    let a := mean16 samples
    let stale : Bool := s.flag R.THM.STALE
    let s := s.cond (a == 0 || a == 16 * 4095) (fun s => s.raise (R.SGP.ev_SENSE_RANGE n))
    let relax := (65536 - s.rd R.COR.G_LIMIT) * g (R.SGP.SP_RELAX n) / 65536
    let m := signedOf 32 (s.immW 0x0C0 n x.row).toNat
    let s := s.loopRun (4 + n) (s.loopCoef (4 + n)) (a + relax : Nat) fNext (some m)
    let l := s.loop (4 + n)
    let s := if s.isOpen (4 + n) then s else
      (s.setImm 0x0C0 n x.row (BitVec.ofInt 32 l.m)).modGrp n (fun x =>
        { x with trims := smSet (fun _ => 0) x.trims x.row (clampInt l.u (-3932) 3932) })
    let u := smGet (fun _ => 0) (s.grp n).trims x.row
    let s := s.cond (u == 3932 || u == -3932) (fun s => s.incRaise (R.SGP.CNT_TRIM_SAT n) (R.SGP.ev_TRIM_SAT n))
    let s := s.cond (!stale) (fun s => (s.wr (R.SGP.SENSE_LAST n) a).wrI (R.SGP.TRIM_LAST n) u)
    s.modGrp n (fun x => { x with senseMin := some (min a (x.senseMin.getD a)), peak := if x.peak.natAbs < u.natAbs then u else x.peak })

/-- FLIP after the last window of a scan cycle shows rows that DIRECT has computed again; they are then written to the other bank too
    (R334). -/
def State.flipRows (s : State) (n : Nat) : State :=
  match (s.grp n).flip with
  | none => s
  | some rows =>
    let x := s.grp n
    let s := (s.emit (.lampCmd n dcFLIP [])).emitWrites s.bus n rows x.idle
    s.modGrp n (fun x => { x with shown := x.idle, idle := copyRows rows x.idle x.shown, flip := none })

/-- The next row, cycle or end of scan of a group (R319, R328). -/
def State.advanceScan (s : State) (n : Nat) : State :=
  let x := s.grp n
  let g := s.bus
  if x.row + 1 < busScan g then (s.modGrp n (fun x => { x with row := x.row + 1 })).wr (R.SGP.ROW n) (x.row + 1)
  else
    let s := (s.flipRows n).modGrp n (fun x =>
      { x with row := 0, sub := (x.sub + 1) % 2 ^ busSeg g, cycles := x.cycles - 1, scan := decide (1 < x.cycles) })
    let s := s.wr (R.SGP.ROW n) 0
    if 1 < x.cycles then s
    else
      let s := ((s.wr (R.SGP.ACTIVE n) 0).wr R.LMP.GROUPS_ON (withBit (s.rd R.LMP.GROUPS_ON) n false)).emit (.rows n false 0)
      s.cond (soloInBlank g) (fun s => s.soloTry n (x.start + 100 * ns1 + (s.grp n).half * ns1 / 2))

/-- SCAN_WINDOW_END: the light of the window, its drive, the supply reading and the trim of the row's next window (R326, R339 to R341). -/
def scanWindowEndFx (n : Nat) (samples : List Nat) (s : State) : State :=
  let x := s.grp n
  if !x.scan then s
  else
    let g := s.bus
    let det := detCount g s.busP
    let fire : Option Probe := match x.arm with | some p => if p.live ∧ p.row = x.row then some p else none | none => none
    let u := smGet (fun _ => 0) x.trims x.row
    let counts := windowCounts g det x.shown x.row x.sub (match fire with | some p => p.mask | none => [])
    let s := s.lightWindow n x.row counts
    let s := s.modGrp n (fun y => { y with half := y.half + rowHalf g s.busP n u,
                                           arm := if fire.isSome then none else y.arm,
                                           fired := if fire.isSome then fire else y.fired })
    (s.sagLoop n x samples (nextDrive g det x)).advanceScan n

/-- SCAN_WINDOW_END (R340). -/
def execScanWindowEnd (group : Nat) (samples : List Nat) (s : State) : Host.Outcome State Fault Refusal :=
  .next (s.start.cond (s.isTile && decide (group < memberGroups s.member)) (scanWindowEndFx group samples))

/-- A write to a repetitive memory takes effect while its instance is open (R342). -/
def sagMemoryWriteFx (inst entry : Nat) (v : Word32) (s : State) : State :=
  if s.isOpen (4 + inst) then s.setImm 0x0C0 inst entry v else s

/-- SAG_MEMORY_WRITE (R342). -/
def execSagMemoryWrite (inst entry : Nat) (v : Word32) (s : State) : Host.Outcome State Fault Refusal :=
  .next (s.start.cond (s.isTile && s.pageOn 0x0C0 && decide (inst < memberGroups s.member ∧ entry < 64)) (sagMemoryWriteFx inst entry v))

/-! Readback (R321, R322, R337, R338). -/

/-- The new status of a lamp by its flag (R337). -/
def nextStatus (old flag : Nat) : Nat := if flag < 3 then flag else if old = 1 ∨ old = 2 then old else 3

/-- A lamp's status changes: a fault is new, or has gone (R337). -/
def State.updateStatus (s : State) (i new : Nat) : State :=
  let old := s.lampStatus i
  let bad (v : Nat) : Bool := v == 1 || v == 2
  let s := s.setStatus i new
  let s := s.cond (bad new && old != new) (fun s =>
    ((s.incRaise R.PRB.CNT_NEW_FAULT R.PRB.ev_NEW_FAULT).wr R.PRB.LAST_FAULT i).wr R.PRB.LAST_STATUS new)
  s.cond (bad old && new == 0) (fun s => s.raise R.PRB.ev_FAULT_CLEARED)

/-- DEBT_c of a lamp (R338). -/
def debtOf (g : Cfg) (i : Nat) : Nat := g (if i % 3 = 0 then R.PRB.DEBT_R else if i % 3 = 1 then R.PRB.DEBT_G else R.PRB.DEBT_B)

/-- The driver that holds a column: 16 × lane + position (R322, R324, R347). -/
def driverOf (g : Cfg) (a : Nat) : Nat := 16 * (a / (16 * busN g)) + a % (16 * busN g) / 16

/-- The readback of a group, as sampled on LRB lines 4g and 4g + 1, and 4g + 2 and 4g + 3: a bit beyond the samples reads 1, the level of
    a released line (R314, R321). -/
structure Readback where
  low : List (List Bool)
  high : List (List Bool)
deriving DecidableEq, Repr

/-- Bit `b` of readback line `j`. -/
def Readback.bit (r : Readback) (j b : Nat) : Bool := ((r.low ++ r.high).getD j []).getD b true

/-- Bit `b` of the slot of the driver at position d of a lane: 34 bits from 34q on, on the line of the lane (R321, R322). -/
def Readback.slot (r : Readback) (g : Cfg) (lane d b : Nat) : Bool := r.bit (lane / 4) (34 * readSlot g lane d + b)

/-- The driver at position d of a lane is present: its slot reads 0 and then 1 (R321, R322). -/
def Readback.present (r : Readback) (g : Cfg) (lane d : Nat) : Bool := !r.slot g lane d 0 && r.slot g lane d 1

/-- The flag of the channel that holds column a: bits 2 + 2k and 3 + 2k of its driver's slot are flag bits 1 and 0 (R320, R321). -/
def Readback.flag (r : Readback) (g : Cfg) (a : Nat) : Nat :=
  let lane := a / (16 * busN g)
  let d := a % (16 * busN g) / 16
  2 * b2n (r.slot g lane d (2 + 2 * (a % 16))) + b2n (r.slot g lane d (3 + 2 * (a % 16)))

/-- The drivers of a group that a readback misses, as 16 × lane + position (R322, R347). -/
def Readback.absent (r : Readback) (g : Cfg) : List Nat :=
  (List.range 16).flatMap (fun lane => ((List.range (busN g)).filter (fun d => !r.present g lane d)).map (fun d => 16 * lane + d))

/-- Presence of the drivers of a group after a readback (R337, R347). -/
def State.presence (s : State) (n : Nat) (absent : List Nat) : State :=
  let g := s.bus
  let s := s.each ((List.range 16).flatMap (fun lane => (List.range (busN g)).map (fun d => 16 * lane + d))) (fun s k =>
    let was := s.immByte 0x0B6 0 (256 * n + k)
    s.setImmByte 0x0B6 0 (256 * n + k) (if absent.contains k then 2 else 1 + was / 2 % 2 * 2))
  let s := (s.wrB R.DRP.ABSENT_ANY (!absent.isEmpty)).inc R.DRP.CNT_READ
  s.cond (!absent.isEmpty) (fun s => (s.incBy R.DRP.CNT_ABSENT absent.length).raise R.DRP.ev_DRIVER_ABSENT)

/-- PROBE_READ_DONE: the readback of the probe whose window has run in a group: statuses, debts, presence, and the row to probe next
    (R321, R322, R336 to R338). -/
def probeReadDoneFx (n : Nat) (r : Readback) (s : State) : State :=
  match (s.grp n).fired with
  | none => s
  | some p =>
    let g := s.bus
    let lamps := s.rowLamps n p.row
    let absent := r.absent g
    let gone (a : Nat) : Bool := absent.contains (driverOf g a)
    let s := (s.emit (.lampCmd n dcREAD (wordSet g (readSlot g)))).presence n absent
    let s := s.each lamps (fun s (l : Nat × Nat) =>
      if gone l.2 then s.setStatus l.1 3 else s.updateStatus l.1 (nextStatus (s.lampStatus l.1) (r.flag g l.2)))
    let s := s.each (lamps.filter (fun l => p.mask.contains l.2)) (fun s l => s.addDebt l.1 (debtOf g l.1))
    let left : Bool := lamps.any (fun l => !gone l.2 && r.flag g l.2 == 3)
    let again : Bool := !p.solo && left && soloAllowed g
    let s := s.inc (if p.solo then R.PRB.CNT_SOLO else R.PRB.CNT_PROBES)
    let s := s.modGrp n (fun x => { x with fired := none, solo := again })
    let s := s.cond (!again) (fun s => s.wr (nextRowF n) ((p.row + 1) % busScan g))
    s.showStatus

/-- PROBE_READ_DONE (R337): the bits sampled on the group's readback lines 0 and 1, and 2 and 3. -/
def execProbeReadDone (group : Nat) (low high : List (List Bool)) (s : State) : Host.Outcome State Fault Refusal :=
  .next (s.start.cond (s.isTile && decide (group < memberGroups s.member) && s.stateCode != stQUENCHED)
    (probeReadDoneFx group { low := low, high := high }))

/-! Flags that wait (R346, R347). -/

/-- PROBE_STATUS_RESET: at the next tick every status is UNKNOWN-DARK (R346). -/
def probeStatusResetFx (s : State) : State := { s with lmp := { s.lmp with statusReset := true } }

/-- DRP_REINIT: the next frame's first load carries every CFG word (R347). -/
def drpReinitFx (s : State) : State := { s with lmp := { s.lmp with reinit := true } }

/-- DRV_RESET: at the next tick the drivers restart by the sequence of R333 (R347). -/
def drvResetFx (s : State) : State := { s with lmp := { s.lmp with drvReset := true } }

/-- PROBE_STATUS_RESET (R346). -/
def execProbeStatusReset (s : State) : Host.Outcome State Fault Refusal := .next (s.start.cond (s.pageOn 0x0B5) probeStatusResetFx)

/-- DRP_REINIT (R347). -/
def execDrpReinit (s : State) : Host.Outcome State Fault Refusal := .next (s.start.cond (s.pageOn 0x0B6) drpReinitFx)

/-- DRV_RESET (R347). -/
def execDrvReset (s : State) : Host.Outcome State Fault Refusal := .next (s.start.cond (s.pageOn 0x0B6) drvResetFx)

end Sys2Proof.Machine
end

