-- ==== Sys2Proof/Machine/Phc.lean ====
section
/-!
DEFINITION. The light-phase run: request, edges, steps at the tick, the trim (13 R362 to R367).
-/

namespace Sys2Proof.Machine

/-- The lamps of the marker rectangle whose driver row is 0 (R363). -/
def State.markers (s : State) : List Nat :=
  (List.range s.lampCount).filter (fun i => inMark s.lv i && (s.lampPlace i).2.1 == 0)

/-- The group of the marker, when its lamps exist and lie in one (R363, R364). -/
def State.markGroup (s : State) : Option Nat :=
  match s.markers with
  | [] => none
  | i :: is => if is.all (fun k => (s.lampPlace k).1 == (s.lampPlace i).1) then some (s.lampPlace i).1 else none

/-- N: the nominal onset from the tick, in ps (R363). -/
def State.nominal (s : State) : Int :=
  ((s.lv R.LMP.LEAD * 10 + s.rd (R.SCH.SLOT_T (s.lv R.PHC.MARK_SLOT)) + 140 + prechgNs s.lv (s.markGroup.getD 0)) * 1000 : Nat)

/-- A run may start (R364). -/
def State.phcMay (s : State) : Bool :=
  s.stateCode == stLIT && s.rd R.CLK.LOCK_STATE == lsLOCKED && !s.flag R.RED.st_FAILOVER && s.rd R.SCH.TRANS_LEFT == 0 &&
    s.lv R.SCH.MODE != moDIRECT && slotLit s.lv (s.lv R.PHC.MARK_SLOT) && s.markGroup.isSome && s.lv R.PHC.MARK_CODE != 0 &&
    decide (16 ≤ s.lv R.PHC.MARKS)

/-- PHC_GO: a run is requested; its E0 is the first tick at least 250 µs ahead (R364). -/
def phcGoFx (s : State) : State :=
  if s.phc.run.isSome then s
  else if !s.phcMay then ((s.wr R.PHC.RESULT phREFUSED).inc R.PHC.CNT_FAILED).raise R.PHC.ev_FAILED
  else { s with phc := { s.phc with run := some { e0 := s.firstTick s.time, oldTrim := s.phc.trim, oldResidual := s.phc.residual,
                                                  refT := none, lightT := none, pairs := [], missed := 0 } } }

/-- PHC_GO (R364). -/
def execPhcGo (t : Nat) (s : State) : Host.Outcome State Fault Refusal :=
  .next ((s.atTime t).cond (s.isTile && s.pageOn 0x0D1) phcGoFx)

/-- A time stamp of the converter: steps of 25 ps (R362). -/
def stamp25 (t : Int) : Int := t / 25 * 25

/-- An edge lies within ±WINDOW of a place, in ps (R362). -/
def State.inEdgeWindow (s : State) (t place : Int) : Bool := decide ((t - place).natAbs ≤ s.lv R.PHC.WINDOW * 1000)

/-- The stamp of a flash after a further edge inside the window: a reflected edge counts as a second edge, and which of the two the flash's onset
    is taken from is open (18 R454; DESIGN CHOICE, log 203). -/
def State.edgeStamp (s : State) (old : Option Int) (t : Int) : Option Int × State :=
  match old with
  | none => (some t, s)
  | some u =>
    let (second, s) := s.freshB
    (some (if second then t else u), s)

/-- PHASE_EDGE: an edge of its kind inside its window of a flash frame counts (R362; 18 R454). `stamp` is in ps from the tile's tick. -/
def phaseEdgeFx (light : Bool) (stamp : Int) (s : State) : State :=
  match s.phc.run with
  | none => s
  | some r =>
    let t := stamp25 stamp
    if !flashFrame r.e0 (s.lv R.PHC.MARKS) s.epoch then s
    else if light then
      if !s.inEdgeWindow t (s.nominal + s.lv R.PHC.PD_DELAY) then s
      else
        let (x, s) := s.edgeStamp r.lightT t
        { s with phc := { s.phc with run := some { r with lightT := x } } }
    else if !s.inEdgeWindow t (s.lvI R.PHC.REF_DELAY) then s
    else
      let (x, s) := s.edgeStamp r.refT t
      { s with phc := { s.phc with run := some { r with refT := x } } }

/-- PHASE_EDGE (R362). -/
def execPhaseEdge (light : Bool) (stamp : Int) (s : State) : Host.Outcome State Fault Refusal :=
  .next (s.start.cond s.isTile (phaseEdgeFx light stamp))

/-! The steps of a run at the tick (R364 to R366). -/

/-- The onset of a flash against the house reference, in ps (R365). -/
def State.onset (s : State) (p : Int × Int) : Int := (p.2 - s.lv R.PHC.PD_DELAY) - (p.1 - s.lvI R.PHC.REF_DELAY)

/-- A rounded mean; 0 of no values. -/
def meanInt (xs : List Int) : Int := if xs.isEmpty then 0 else roundDivInt xs.sum xs.length

/-- Largest less smallest of a list. -/
def spreadInt : List Int → Int
  | [] => 0
  | x :: xs => xs.foldl max x - xs.foldl min x

/-- A flash frame has ended: its two edges join the pairs, or it is missed (R365). -/
def closeFlash (r : PhcRun) : PhcRun :=
  match r.refT, r.lightT with
  | some a, some b => { r with pairs := (a, b) :: r.pairs, refT := none, lightT := none }
  | _, _ => { r with missed := r.missed + 1, refT := none, lightT := none }

/-- The run begins at E0 (R364, R367). -/
def State.phcBegin (s : State) (e0 : Nat) : State :=
  let s := (((s.wr R.PHC.RUNNING 1).wr R.PHC.PHASE 1).wr R.PHC.RUN_EPOCH e0).wr R.PHC.MISSED 0
  ((s.wr R.THM.STALE 1).inc R.PHC.CNT_RUNS)

/-- Step 3: means, spread, error and checks; a run that fails ends here (R364, R365). -/
def State.phcJudge (s : State) (r : PhcRun) : State :=
  let m := s.lv R.PHC.MARKS
  let onsets := r.pairs.map s.onset
  let e := meanInt onsets - s.nominal
  let spread := spreadInt onsets
  let s := ((s.wrI R.PHC.LAST_ERR (roundDivInt e 10)).wrI R.PHC.SPREAD (roundDivInt spread 10)).wr R.PHC.MISSED (min r.missed 255)
  let s := (s.wrI R.PHC.T_REF_MEAN (roundDivInt (meanInt (r.pairs.map Prod.fst)) 10)).wrI R.PHC.T_LIGHT_MEAN
    (roundDivInt (meanInt (r.pairs.map Prod.snd)) 10)
  if m < 4 * r.missed then s.phcEnd phNO_EDGE
  else if (s.lv R.PHC.SPREAD_MAX * 10 : Nat) < spread then s.phcEnd phNOISY
  else if 1000000 < (s.phc.trim - e).natAbs then s.phcEnd phTRIM_RANGE
  else { s with phc := { s.phc with run := some { r with pairs := [], missed := 0, err := e } } }

/-- Step 4: the provisional trim applies (R364, R366). -/
def State.phcTrim (s : State) (r : PhcRun) : State :=
  let t := s.phc.trim - r.err
  let s : State := { s with phc := { s.phc with trim := t } }
  (s.wrI R.PHC.TRIM t).wr R.PHC.PHASE 2

/-- Step 6: the residual is reported, the trim is final and is saved, the run ends (R364 to R366). -/
def State.phcFinish (s : State) (r : PhcRun) : State :=
  let ok : Bool := decide (r.missed ≤ 4)
  let res := if r.pairs.isEmpty then r.oldResidual else roundDivInt (meanInt (r.pairs.map s.onset) - s.nominal) 10
  let s : State := { s with phc := { s.phc with final := s.phc.trim, residual := res } }
  let s := ((s.wrI R.PHC.RESIDUAL res).wrB R.PHC.RESIDUAL_VALID ok).wr R.PHC.SAVED 0
  (s.phcEnd phOK).fgPut (.record false)

/-- The run's part of a tick; the epoch has just begun (R364). -/
def State.phcTick (s : State) : State :=
  match s.phc.run with
  | none => s
  | some r =>
    let m := s.lv R.PHC.MARKS
    let s := s.cond (s.epoch == r.e0) (fun s => s.phcBegin r.e0)
    let r := if flashFrame r.e0 m (s.epoch - 1) then closeFlash r else r
    let s : State := { s with phc := { s.phc with run := some r } }
    let k := s.epoch - r.e0
    if s.epoch < r.e0 then s
    else if k = 2 * m + 1 then s.phcJudge r
    else if k = 2 * m + 2 then s.phcTrim r
    else if 2 * m + 35 ≤ k then s.phcFinish r
    else s

/-- A light-phase run holds the frame of an epoch, from its first tick to the one that ends it (R364; 11 R295). -/
def State.phcHolds (s : State) (e : Nat) : Bool :=
  match s.phc.run with
  | none => false
  | some r => decide (r.e0 ≤ e ∧ e < r.e0 + 2 * s.lv R.PHC.MARKS + 35)

/-- Fields whose change by an applied commit aborts a run (R366): pages LMP, SGP, SCH and PHC, the TIL geometry, the frame rate. -/
def phcGuarded (k : Nat) : Bool :=
  let p := k / 0x1000
  let o := k % 0x1000
  (0x0B0 ≤ p && p ≤ 0x0B4) || p == 0x003 || p == 0x0D1 || (p == 0x0A0 && (0x444 ≤ o && o < 0x450)) || (p == 0x004 && o == 0x440)

/-- A commit has changed something that a run may not see change (R366). -/
def State.phcDisturbed (s old : State) : Bool :=
  smKeep (fun k => isLive k && phcGuarded k) s.regs != smKeep (fun k => isLive k && phcGuarded k) old.regs ||
    smKeep (fun k => k / 2 ^ 22 == 0x0B0 * 16) s.tabs != smKeep (fun k => k / 2 ^ 22 == 0x0B0 * 16) old.tabs

end Sys2Proof.Machine
end

