-- ==== Sys2Proof/Machine/Hub.lean ====
section
/-!
DEFINITION. Hubs: BAND packets rebuilt for the children, STATUS and EVENT of the subtree, the summary, and the checks of the layout
(01 R21, R23 to R31, R464; 10 R268, R462, R463); and what every tile sends at its tick (03 R76; 10 R463).
-/

namespace Sys2Proof.Machine

/-! The child layout (R464). -/

/-- An enabled entry of the child layout table, in units of 32 pixels and 16 lines. -/
structure Kid where
  cx : Nat
  cy : Nat
  w : Nat
  h : Nat
  node : Nat
  port : Nat
deriving DecidableEq, Repr

/-- Entry j of a table, if it is in use. -/
def kidOf (rd : Nat → Word32) (j : Nat) : Option Kid :=
  let a := rd (4 * j)
  let b := rd (4 * j + 1)
  let c := rd (4 * j + 2)
  if c.toNat.testBit 31 then some ⟨fieldOf a 0 10, fieldOf a 16 10, fieldOf b 0 10, fieldOf b 16 11, fieldOf c 0 14, fieldOf c 16 4⟩ else none

/-- The enabled entries of a table. -/
def kidsOf (rd : Nat → Word32) : List Kid := (List.range 254).filterMap (kidOf rd)

/-- The applied entries. -/
def State.kids (s : State) : List Kid := kidsOf (s.tabW 0x0A0 3)

/-! BAND packets (R26; 10 R268). -/

/-- A segment of a band touches a rectangle of units that is extended by 2 pixels on each side (R26). -/
def touches (k : Kid) (by_ : Nat) (sg : Seg) : Bool :=
  let x0 : Int := 32 * (sg.sx : Int) - 32
  let x1 : Int := 32 * ((sg.sx : Int) + sg.sw + 1) - 33
  let y0 : Int := 16 * (by_ : Int) - 16
  decide (x0 ≤ 32 * ((k.cx : Int) + k.w) + 1 ∧ 32 * (k.cx : Int) - 2 ≤ x1 ∧
    y0 ≤ 16 * ((k.cy : Int) + k.h) + 1 ∧ 16 * (k.cy : Int) - 2 ≤ y0 + 15)

/-- HUB_BAND_RECEIVE: the segments go on, by position, in new BAND packets to the children that they touch, and to the hub's own pipeline; with
    a bad trailer, which PACKET_RECEIVE counted, the new packets are stomped and the hub takes nothing (R26; 10 R258, R267, R268). -/
def hubBandReceiveFx (port : Nat) (b : BandPkt) (s : State) : State :=
  if s.red.upstream ≠ some port then s.cond s.red.upstream.isSome (fun s => s.inc (R.COIL.CNT_WRONG_SIDE port))
  else
    let s := s.each s.kids (fun s k =>
      let segs := b.segs.filter (touches k b.bandNo)
      if segs.isEmpty then s
      else if s.canSend k.port then s.send (some port) (.band k.port { b with dest := k.node, segs := segs })
      else s.undeliverable k.port)
    let g := s.lv
    let own (sg : Seg) : Bool := (keptBands g).contains b.bandNo && (keptCols g).any (fun c => decide (sg.sx ≤ c ∧ c ≤ sg.sx + sg.sw))
    let segs := b.segs.filter own
    s.cond (b.crcOk && s.lvB R.TIL.EN && !segs.isEmpty) (fun s => s.acceptBand { b with segs := segs })

/-- HUB_BAND_RECEIVE (10 R268). -/
def execHubBandReceive (port : Nat) (b : BandPkt) (s : State) : Host.Outcome State Fault Refusal :=
  .next (s.start.cond (s.isHub && decide (port < 2) && s.isUp port && s.hasId && b.dest == s.lv R.GLB.NODE_ID) (hubBandReceiveFx port b))

/-! Reports from the subtree (R28, R29; 10 R463). -/

/-- The last report of each child is kept by node ID (R28). -/
def putReport (r : Report) : List Report → List Report
  | [] => [r]
  | q :: qs => if q.node = r.node then r :: qs else q :: putReport r qs

/-- STATUS_RECEIVE (10 R463). -/
def statusReceiveFx (src : Nat) (b : StatusBody) (s : State) : State :=
  { s with hub := { s.hub with reports := putReport { node := src, body := b, age := 0 } s.hub.reports } }

/-- STATUS_RECEIVE (10 R463). -/
def execStatusReceive (port src : Nat) (b : StatusBody) (s : State) : Host.Outcome State Fault Refusal :=
  .next (s.start.cond (s.isHub && s.subPorts.contains port && s.isUp port) (statusReceiveFx src b))

/-- A device joins the classes raised, once in each class; a child hub's subtree entry (`dev` false) adds the count that it carries, every
    time (R29). -/
def putClass (cls key : Nat) (dev : Bool) (count first : Nat) : List SubClass → List SubClass
  | [] => [{ cls := cls, nodes := [(key, count)], first := first }]
  | c :: cs =>
    if c.cls = cls then
      (if dev && c.nodes.any (fun (n : Nat × Nat) => n.1 == key) then c else { c with nodes := c.nodes ++ [(key, count)] }) :: cs
    else c :: putClass cls key dev count first cs

/-- The block type of a page; 0 off the map (03 R67). -/
def pageType (page : Nat) : Nat :=
  match blkOf page with
  | some (b, _) => b.typeCode
  | none => 0

/-- HUB_EVENT_RECEIVE: a hub notes each entry for its subtree event; a child hub's subtree is a reporter beside the child hub itself, under
    key node + 16,384 (R29). -/
def hubEventFx (src : Nat) (entries : List EvtEntry) (s : State) : State :=
  s.each entries (fun s e =>
    let classes :=
      if e.subtree then putClass e.page (src + 16384) false (e.bits % 65536) (e.bits / 65536 % 16384) s.hub.classes
      else putClass (pageType e.page) src true 1 src s.hub.classes
    { s with hub := { s.hub with classes := classes } })

/-- HUB_EVENT_RECEIVE (R29). -/
def execHubEventReceive (port src : Nat) (entries : List EvtEntry) (s : State) : Host.Outcome State Fault Refusal :=
  .next (s.start.cond (s.isHub && s.subPorts.contains port && s.isUp port) (hubEventFx src entries))

/-! What a hub says at its tick (R28, R29). -/

/-- A rectangle in pixels: first column and line, width and height. -/
structure Rect where
  x : Nat
  y : Nat
  w : Nat
  h : Nat
deriving DecidableEq, Repr

/-- The children's rectangles and the hub's own lamp region (R23). -/
def hubRects (kids : List Kid) (g : Cfg) : List Rect :=
  kids.map (fun k => ⟨32 * k.cx, 16 * k.cy, 32 * k.w, 16 * k.h⟩) ++
    (if g R.TIL.EN = 1 then [⟨32 * g R.TIL.OFF_X, 16 * g R.TIL.OFF_Y, tilW g, tilH g⟩] else [])

/-- The rectangle around a list of rectangles. -/
def bounds : List Rect → Rect
  | [] => ⟨0, 0, 0, 0⟩
  | r :: rs =>
    let x := rs.foldl (fun a q => min a q.x) r.x
    let y := rs.foldl (fun a q => min a q.y) r.y
    ⟨x, y, rs.foldl (fun a q => max a (q.x + q.w)) (r.x + r.w) - x, rs.foldl (fun a q => max a (q.y + q.h)) (r.y + r.h) - y⟩

/-- The smallest of a list that is not empty, else 0. -/
def minOr0 : List Nat → Nat
  | [] => 0
  | x :: xs => xs.foldl min x

/-- The eye widths of the sub-coil ports with link (R28). -/
def State.subEyes (s : State) : List Nat :=
  (s.subPorts.filter (fun p => s.rd (R.COIL.LINK p) == lkUP)).map (fun p => min (s.rd (R.COIL.EYE0 p)) (s.rd (R.COIL.EYE1 p)))

/-- The summary from the reports (R28). `age` counts the hub's ticks since a report came. -/
def State.buildSummary (s : State) : Summary :=
  let rs := s.hub.reports
  let hubs := rs.filter (fun r => r.body.hub)
  let box := bounds (hubRects s.kids s.lv)
  let mix (m : Nat) (f : Summary → Nat) : Nat := (rs.filter (fun r => r.body.member == m)).length + (hubs.map (fun r => f r.body.summary)).sum
  { devices := rs.length + (hubs.map (fun r => r.body.summary.devices)).sum,
    depth := (rs.map (fun r => r.body.hops - s.red.hops + (if r.body.hub then r.body.summary.depth else 0))).foldl max 0,
    lamps := s.lampCount + (rs.map (fun r => if r.body.hub then r.body.summary.lamps else r.body.lamps)).sum,
    regionW := box.w, regionH := box.h,
    nY96 := mix 1 Summary.nY96, nY48 := mix 2 Summary.nY48, nY24 := mix 3 Summary.nY24,
    worstEye := minOr0 (s.subEyes ++ rs.map (fun r => r.body.eye) ++ (hubs.filter (fun r => r.body.summary.devices != 0)).map (fun r => r.body.summary.worstEye)),
    statusOr := rs.foldl (fun a r => a ||| r.body.bits ||| (if r.body.hub then r.body.summary.statusOr else 0)) s.summaryBits,
    missing := (rs.filter (fun r => decide (2 ≤ r.age))).length + (hubs.map (fun r => r.body.summary.missing)).sum }

/-- At its tick a hub rebuilds its summary (R28). -/
def State.rebuildSummary (s : State) : State :=
  if !s.isHub then s
  else { s with hub := { s.hub with summary := s.buildSummary, reports := s.hub.reports.map (fun r => { r with age := r.age + 1 }) } }

/-- Insert a class in ascending order of block type. -/
def insClass (c : SubClass) : List SubClass → List SubClass
  | [] => [c]
  | d :: ds => if c.cls ≤ d.cls then c :: d :: ds else d :: insClass c ds

/-- Set MORE on the eighth entry when more than eight exist, and keep eight (R29; 03 R76). -/
def firstEight (es : List EvtEntry) : List EvtEntry :=
  if es.length ≤ 8 then es else es.take 7 ++ ((es.drop 7).take 1).map (fun e => { e with more := true })

/-- A packet of the tile's own goes out of its upstream port, or is dropped and counted there (01 R19; 10 R250, R463). -/
def State.sendUp (s : State) (f : Nat → Output) : State :=
  match s.red.upstream with
  | some u => if s.canSend u then s.send none (f u) else s.undeliverable u
  | none => s

/-- The subtree EVENT of a hub, if anything was raised (R29). -/
def State.sendSubtree (s : State) (epoch : Nat) : State :=
  let classes := s.hub.classes.foldr insClass []
  let es := classes.map (fun c =>
    { page := c.cls, subtree := true, more := false, bits := min 65535 ((c.nodes.map Prod.snd).sum) + 65536 * (c.first % 16384) : EvtEntry })
  let s : State := { s with hub := { s.hub with classes := [] } }
  s.cond (!es.isEmpty) (fun s => s.sendUp (fun u => .event u (s.lv R.GLB.NODE_ID) epoch (firstEight es)))

/-- The device's own EVENT: the pairs that became pending and enabled in the closing epoch, and no bit that is still pending ever
    again (03 R76). Pages are sent in the order in which they first became so; of more than eight the first eight (DESIGN CHOICE, log 162). -/
def State.sendEvents (s : State) (epoch : Nat) : State :=
  let fresh := s.evt.fresh
  let es := fresh.map (fun (p : Nat × Nat) => { page := p.1, subtree := false, more := false, bits := p.2 : EvtEntry })
  let sent := fresh.foldl (fun m (p : Nat × Nat) =>
    smMod (fun _ => 0) m p.1 (· ||| (p.2 &&& (s.word (evtPendKey p.1)).toNat))) s.evt.sent
  let s : State := { s with evt := { s.evt with fresh := [], sent := sent } }
  s.cond (!es.isEmpty) (fun s => s.sendUp (fun u => .event u (s.lv R.GLB.NODE_ID) epoch (firstEight es)))

/-- The STATUS of a tile below a hub (10 R463). -/
def State.sendStatus (s : State) : State :=
  s.cond (s.hasId && s.red.subcoil) (fun s => s.sendUp (fun u => .status u (s.lv R.GLB.NODE_ID)
    { epoch := s.epoch, bits := s.summaryBits, member := memberCode s.member, hub := s.isHub, hops := s.red.hops,
      lamps := s.lampCount, eye := s.worstEye, summary := if s.isHub then s.hub.summary else Summary.zero }))

/-- A commit that changes the EN or the range of a port from 2 on makes a hub forget its children's reports (R28). -/
def State.forgetReports (s : State) (old : Cfg) : State :=
  let changed : Bool := (s.ports.filter (fun p => decide (2 ≤ p))).any (fun p =>
    [R.COIL.EN p, R.COIL.ROUTE_LO p, R.COIL.ROUTE_HI p].any (fun f => old f != s.lv f))
  s.cond changed (fun s => { s with hub := { s.hub with reports := [] } })

/-! Checks of a hub (R21, R25, R31). -/

/-- Sub-coil ports of a configuration. -/
def subsOf (m : Member) (g : Cfg) : List Nat := (List.range (memberPorts m)).filter (fun p => decide (2 ≤ p) && g (R.COIL.EN p) == 1)

/-- The range of a port, when it is not empty. -/
def rangeOf (g : Cfg) (p : Nat) : Option (Nat × Nat) :=
  if g (R.COIL.ROUTE_LO p) ≤ g (R.COIL.ROUTE_HI p) then some (g (R.COIL.ROUTE_LO p), g (R.COIL.ROUTE_HI p)) else none

/-- A node lies in a port's range. -/
def inRange (g : Cfg) (p node : Nat) : Bool := decide (g (R.COIL.ROUTE_LO p) ≤ node ∧ node ≤ g (R.COIL.ROUTE_HI p))

/-- Two ports' ranges overlap. -/
def rangesMeet (g : Cfg) (p q : Nat) : Bool :=
  match rangeOf g p, rangeOf g q with
  | some a, some b => decide (a.1 ≤ b.2 ∧ b.1 ≤ a.2)
  | _, _ => false

/-- Devices that a hub may have below it (R31). -/
def hubDevices : Member → Nat
  | .y96 => 254
  | _ => 64

/-- Overlap and capacity (R21, R31; 03 R460). -/
def checkRanges (m : Member) (g : Cfg) : List CfgErr :=
  let subs := subsOf m g
  let bad := subs.filter (fun p => (g R.GLB.NODE_VALID == 1 && inRange g p (g R.GLB.NODE_ID)) || subs.any (fun q => q != p && rangesMeet g p q))
  let ids := (subs.filterMap (rangeOf g)).map (fun (r : Nat × Nat) => r.2 + 1 - r.1)
  (match bad with | p :: _ => errAt true ceROUTE_OVERLAP (R.COIL.ROUTE_LO p) | [] => []) ++
  (match subs.getLast? with | some p => errAt (decide (hubDevices m < ids.sum)) ceHUB_CAPACITY (R.COIL.EN p) | none => [])

/-- Two rectangles overlap. -/
def rectsMeet (a b : Rect) : Bool := decide (a.x < b.x + b.w ∧ b.x < a.x + a.w ∧ a.y < b.y + b.h ∧ b.y < a.y + a.h)

/-- Some two rectangles of a list overlap. -/
def anyMeet : List Rect → Bool
  | [] => false
  | r :: rs => rs.any (rectsMeet r) || anyMeet rs

/-- The rectangles do not cover one rectangle exactly, or not the whole top-level region (R25). -/
def shapeBad (subcoil : Bool) (g : Cfg) (rs : List Rect) : Bool :=
  let b := bounds rs
  anyMeet rs || (rs.map (fun r => r.w * r.h)).sum != b.w * b.h ||
    (!subcoil && (if rs.isEmpty then g R.TIL.TOP_W_U * g R.TIL.TOP_H_U != 0
                  else decide (b ≠ ⟨0, 0, 32 * g R.TIL.TOP_W_U, 16 * g R.TIL.TOP_H_U⟩)))

/-- The layout checks of a hub (R25). -/
def checkLayout (m : Member) (subcoil : Bool) (kids : List Kid) (g : Cfg) : List CfgErr :=
  let subs := subsOf m g
  let own := if g R.TIL.EN = 1 then tilW g % 32 != 0 || tilH g % 16 != 0 else false
  errPage (kids.any (fun k => !(subs.contains k.port && inRange g k.port k.node))) ceRANGE 0x0A0 ++
  errPage (shapeBad subcoil g (hubRects kids g)) ceHUB_SHAPE 0x0A0 ++ errPage own ceHUB_GRID 0x0A0

/-- The child layout table, whatever its entries enable, differs from the applied one (R25). -/
def State.layoutChanged (s : State) : Bool := (List.range 1016).any (fun i => s.pendW 0x0A0 3 i != s.tabW 0x0A0 3 i)

/-- The checks that a device makes as a hub of a configuration; the layout is checked when something it rests on changes. A hub that a
    commit ends still checks that no enabled entry names a port that is not enabled (R25; log 163). -/
def State.checkHub (s : State) (g : Cfg) : List CfgErr :=
  let hub : Bool := !(subsOf s.member g).isEmpty
  let was : Bool := !(subsOf s.member s.lv).isEmpty
  let kids := kidsOf (s.pendW 0x0A0 3)
  let changed : Bool := s.layoutChanged || geometryFields.any (fun f => g f != s.lv f) ||
    ((List.range (memberPorts s.member)).filter (fun p => decide (2 ≤ p))).any (fun p => g (R.COIL.EN p) != s.lv (R.COIL.EN p))
  if hub then checkRanges s.member g ++ (if changed then checkLayout s.member s.red.subcoil kids g else [])
  else errPage (was && changed && !kids.isEmpty) ceRANGE 0x0A0

end Sys2Proof.Machine
end

