-- ==== Sys2Proof/Machine/Commit.lean ====
section
/-!
DEFINITION. Commits: the write, validation, acceptance, rejection, what an apply changes, the tile's part, and EPOCH_LOAD
(02 R45 to R54; 03 R68 to R72; 10 R284; 16 R415).
-/

namespace Sys2Proof.Machine

/-! Validation (02 R46; 03 R68, R69, R460). -/

/-- The state as it will be at an epoch: the live copies of the last commit that is pending for it (02 R46). -/
def State.inForce (s : State) (t : Nat) : State :=
  match (s.cmt.pend.filter (fun c => decide (c.target ≤ t))).getLast? with
  | none => s
  | some c => { s with regs := smPutAll resetWord (smKeep (fun k => !isLive k) s.regs) (liveOfSnap c.snap) }

/-- PORT_TRANSIT of each active port whose transit time exceeds 100 µs (02 R40). -/
def State.checkTransit (s : State) (g : Cfg) : List CfgErr :=
  s.ports.flatMap (fun p =>
    errPage (g (R.COIL.EN p) == 1 && !(g R.RED.PORT_ROLE).testBit p && decide (100 * us1 < s.transit p)) cePORT_TRANSIT (R.COIL.page p))

/-- A sender's port ranges lie in the block it routes (01 R16): the lowest-numbered port that leaves it. -/
def checkRoute (m : Member) (g : Cfg) : List CfgErr :=
  let b := 256 * g R.GLB.ROUTE_BLK
  let bad (p : Nat) : Bool :=
    let lo := g (R.COIL.ROUTE_LO p)
    let hi := g (R.COIL.ROUTE_HI p)
    decide (lo ≤ hi) && (decide (lo < b + 1) || decide (b + 255 < hi))
  match (List.range (memberPorts m)).find? bad with
  | none => []
  | some p => errAt true ceROUTE_BLOCK (R.COIL.ROUTE_LO p)

/-- The three taps of a transmitter sum to at most 63 (10 R248). -/
def checkTaps (m : Member) (g : Cfg) : List CfgErr :=
  (List.range (memberPorts m)).flatMap (fun p =>
    errAt (decide (63 < g (R.COIL.TX_PRE p) + g (R.COIL.TX_MAIN p) + g (R.COIL.TX_POST p))) ceRANGE (R.COIL.TX_PRE p))

/-- Sensors, throttles and cone sensitivity (13 R371, R372, R378), and the cone save period (13 R376). -/
def checkHeat (role : Role) (g : Cfg) : List CfgErr :=
  let t (f : Fld) : Int := signedOf 16 (g f)
  errAt (decide (t R.THM.T_BROKEN < t R.THM.T_THR + 160 ∨ 1520 < t R.THM.T_BROKEN)) ceRANGE R.THM.T_BROKEN ++
  errAt (decide (t R.THM.T_DIE_BROKEN < t R.THM.T_DIE_THR + 160 ∨ 1840 < t R.THM.T_DIE_BROKEN)) ceRANGE R.THM.T_DIE_BROKEN ++
  errAt (decide (7 < g R.THM.AMB_SRC ∧ g R.THM.AMB_SRC < 15)) ceRANGE R.THM.AMB_SRC ++
  (if role = .tile then errRange g R.THM.CONE_DT 1 64 else []) ++
  errRange g R.NVS.CONE_PERIOD 1 60

/-- The organisation of the DRAM does not change while a channel is READY (14 R380, R393). -/
def State.checkDram (s : State) (g : Cfg) : List CfgErr :=
  let ready : Bool := (List.range 4).any (fun c => s.flag (R.DRM.READY c))
  errAt (g (R.DRM.CHANNELS 0) == 3) ceRESERVED_VALUE (R.DRM.CHANNELS 0) ++
  (List.range 4).flatMap (fun n =>
    errAt (decide (2 ≤ g (R.DRM.DENSITY n))) ceRESERVED_VALUE (R.DRM.DENSITY n) ++
    errRange g (R.DRM.SCRUB_HOURS n) 1 168 ++
    errAt (ready && [R.DRM.CHANNELS n, R.DRM.WIDTH n, R.DRM.RANKS n, R.DRM.DENSITY n].any (fun f => g f != s.lv f)) ceRANGE
      (R.DRM.CHANNELS n))

/-- A PTP instance names a NET port that the port mode has (04 R117). -/
def checkPtpNet (g : Cfg) : List CfgErr :=
  (List.range 2).flatMap (fun i => errAt (decide (netCount (g (R.NET.PORT_MODE 0)) ≤ g (R.PTP.NET i))) ceRANGE (R.PTP.NET i))

/-- What only a sender or only a tile checks beside its units' own checks: RED's threshold (10 R288), the ports of a tile's pair
    (10 R287), the light-phase fields (13 R362, R364). -/
def checkRole (role : Role) (g : Cfg) : List CfgErr :=
  match role with
  | .sender => errRange g R.RED.DRAM_UE_THRESH 1 65535
  | .tile =>
    errAt (g (R.COIL.EN 0) == 0) ceRANGE (R.COIL.EN 0) ++ errAt (g (R.COIL.EN 1) == 0) ceRANGE (R.COIL.EN 1) ++
    errRange g R.PHC.THRESH 0 1200 ++ errRange g R.PHC.MARKS 16 255

/-- Everything that a sender checks on the configuration `g` but its mapping (02 R46). -/
def State.senderErrs (s : State) (snap : List (Nat × Word32)) : List CfgErr :=
  let g : Cfg := snapRd snap
  checkSched g ++ checkClock .sender g ++ s.checkLoop snap ++ checkPtpNet g ++ s.checkSources g ++ s.checkAudio g ++ s.checkFw g ++
    s.checkDram g ++ checkHeat .sender g ++ checkRoute s.member g ++ checkTaps s.member g ++ checkRole .sender g ++ s.checkTransit g

/-- Everything that a tile checks on its own part (02 R51). -/
def State.tileErrs (s : State) (snap : List (Nat × Word32)) : List CfgErr :=
  let g : Cfg := snapRd snap
  checkClock .tile g ++ s.checkLoop snap ++ checkTil s.member g ++ checkCor (s.pendW 0x0A2 1) (s.pendW 0x0A2 2) g ++
    checkBus s.member (s.pendW 0x0B0) g ++ s.checkHub g ++ s.checkFw g ++ checkHeat .tile g ++ checkTaps s.member g ++ checkRole .tile g

/-- The results that reject a commit: codes 0x01 to 0x7F (03 R68). -/
def failures (es : List CfgErr) : List CfgErr := es.filter (fun e => decide (0 < e.code ∧ e.code < 0x80))

/-- The smallest of a list of numbers; 0 of none. -/
def leastOf : List Nat → Nat
  | [] => 0
  | x :: xs => xs.foldl min x

/-- The CFG_ERR word of a page: the lowest code, and the first register, in offset order, that causes it (03 R68). -/
def cfgErrWord (es : List CfgErr) (page : Nat) : Nat :=
  let here := es.filter (fun e => e.page == page)
  let code := leastOf (here.map CfgErr.code)
  code + 256 * leastOf (((here.filter (fun e => e.code == code)).map CfgErr.off).filter (· != 0))

/-- Write CFG_ERR of a page. -/
def State.setCfgErr (s : State) (page v : Nat) : State := s.setWord (regKey page 0x024) (BitVec.ofNat 32 v)

/-- A rejected commit writes CFG_ERR on every page that fails it and leaves the others; ERR_PAGE names the lowest (03 R68). -/
def State.showReject (s : State) (es : List CfgErr) : State :=
  let pages := (es.map CfgErr.page).dedup
  let s := s.each pages (fun s p => s.setCfgErr p (cfgErrWord es p))
  (((s.wr R.CMT.REJECTED 1).wr R.CMT.ERR_PAGE (leastOf pages)).inc R.CMT.CNT_REJECT).raise R.CMT.ev_REJECT

/-- The pages of the device. -/
def State.pages (s : State) : List Nat :=
  (List.range 0x101).filter (fun p =>
    match blkOf p with
    | none => false
    | some (b, n) => b.inRole s.role && decide (n < s.instances b))

/-- An accepted commit rewrites CFG_ERR on every page; a page without a warning reads 0 (03 R68). -/
def State.showAccept (s : State) (es : List CfgErr) : State :=
  let s := s.each s.pages (fun s p => s.setCfgErr p (cfgErrWord es p))
  ({ s with boot := { s.boot with anyCommit := true } } : State).inc R.CMT.CNT_ACCEPT

/-! Pending commits (02 R47, R48). -/

/-- A commit joins the pending ones in the order of targets; one of the same target merges with it, and the later write wins (R48). -/
def addCommit (c : Commit) : List Commit → List Commit
  | [] => [c]
  | d :: ds =>
    if c.target = d.target then
      { c with origins := d.origins ++ c.origins, wide := c.wide <|> d.wide, marks := d.marks ++ c.marks, recs := d.recs ++ c.recs } :: ds
    else if c.target < d.target then c :: d :: ds
    else d :: addCommit c ds

/-- The wall-wide words of a snapshot: SCH 0x040 to 0x07C and CLK 0x040 (10 R257). -/
def wideOf (rd : Nat → Word32) : List Word32 × Word32 := ((List.range 16).map (fun i => rd (regKey 0x003 (0x040 + 4 * i))), rd (regKey 0x004 0x040))

/-- A snapshot with the wall-wide words of a marker (02 R52, 05 R131). -/
def overlay (w : Option (List Word32 × Word32)) (snap : List (Nat × Word32)) : List (Nat × Word32) :=
  match w with
  | none => snap
  | some (sch, clk) =>
    smSet resetWord (((List.range 16).zip sch).foldl (fun m (x : Nat × Word32) => smSet resetWord m (regKey 0x003 (0x040 + 4 * x.1)) x.2) snap)
      (regKey 0x004 0x040) clk

/-! What an apply changes (02 R49). -/

/-- A port takes the sub-state that PORT_ROLE names; it serves nobody by FEEDREQ any more (10 R284, R286), and one that is not ACTIVE then
    sends no TICK, CONFIG, BAND or BOOT that still waits there (10 R276). -/
def State.takeRole (s : State) (p : Nat) : State :=
  let s : State := { s with red := { s.red with serve := s.red.serve.filter (fun (c : Nat × Nat × Nat) => c.1 != p) } }
  (s.setPortState p (namedOf s.lv p)).cond (namedOf s.lv p != psACTIVE) (fun s => s.dropHeld p outwardType)

/-- RED at an apply: a commit that changes PORT_ROLE or toggles RESTORE gives every port its planned sub-state, and RESTORE ends the
    relinquished state (10 R279, R284). Every other port shows the sub-state that PORT_ROLE and its EN name, but a SERVING one goes on (10 R276,
    R283). -/
def State.rolesApplied (s old : State) : State :=
  let s := s.cond (s.lv R.RED.RESTORE != old.lv R.RED.RESTORE) (fun s => s.wr R.RED.RELINQUISHED 0)
  let all : Bool := rolesChange s.lv old.lv
  let s := s.each (s.ports.filter (fun p => all || s.lv (R.COIL.EN p) != old.lv (R.COIL.EN p) || s.portState p != psSERVING))
    State.takeRole
  s.splitLevel.unwatch.loopLevels

/-- Ports at an apply: a port newly in use starts to train, one taken out of use goes DOWN (10 R250, R287). -/
def State.portsApplied (s old : State) : State :=
  let s := s.each s.ports (fun s p =>
    if s.portOn p && s.rd (R.COIL.LINK p) == lkDOWN then s.train p
    else if !s.portOn p && s.rd (R.COIL.LINK p) != lkDOWN then s.switchOff p
    else s.cond (s.lv (R.COIL.EN p) != old.lv (R.COIL.EN p)) (fun s => s.setLink p (s.rd (R.COIL.LINK p))))
  s.showRoles

/-- A sender puts a snapshot and the pending tables in force at one instant; `tag` is what the changed pages read as APPLIED_EPOCH
    (02 R49, 16 R415). -/
def State.senderApply (s : State) (snap : List (Nat × Word32)) (tag : Nat) : State :=
  let old := s
  let s := (s.applySnap snap tag).applyTables tag
  let s := ((s.clockApplied old).netApplied old).decApplied old
  let s := (((s.showSched old).showCompose).showMap).sensorsEnabled
  let s := ((s.bankApplied old).showId old).rolesApplied old
  ((s.portsApplied old).dramApplied).raise R.CMT.ev_APPLIED

/-! COMMIT at a sender (02 R45 to R48; 16 R415). -/

/-- A write of COMMIT is dropped (02 R46, 03 R72). -/
def State.dropCommit (s : State) : State := (s.wr R.CMT.DROPPED 1).inc R.CMT.CNT_DROPPED

/-- The apply point of a commit written at time `w`, and the commit-wide code it earns, 0 for none (R47, R48; 03 R68). -/
def State.judge (s : State) (target w : Nat) : Nat × Nat :=
  let ok := s.firstTick w
  let e := if target < ok then ok else target
  let code :=
    if target < ok ∧ s.flag R.CMT.LATE_REJECT then ceLATE
    else if s.epoch + 2 ^ 20 < target then ceFAR_EPOCH
    else if s.cmt.pend.any (fun c => decide (e < c.target)) then ceEPOCH_ORDER
    else if decide (4 ≤ s.cmt.pend.length) && !s.cmt.pend.any (fun c => c.target == e) then cePENDING_FULL
    else 0
  (e, code)

/-- The write of bits [63:32] snapshots every shadow register and starts validation, or is dropped; from the first tick on the table of R47 is
    judged at the write (R45 to R47, R459; 03 R72). -/
def commitFx (hi : Word32) (s : State) : State :=
  if s.role = .tile ∨ s.flag R.CMT.BUSY then s.dropCommit
  else
    let s := s.setWord (regKey 0x002 0x604) hi
    let s := (((s.wr R.CMT.st_LATE 0).wr R.CMT.DROPPED 0).wr R.CMT.REJECTED 0).wr R.CMT.BUSY 1
    let target := s.rd R.CMT.COMMIT
    { s with cmt := { s.cmt with
        check := some ({ target := target, origins := [target], snap := s.snapshot }, s.time)
        judged := if s.frm.ticked then some (s.judge target s.time) else none } }

/-- COMMIT (R45). -/
def execCommit (hi : Word32) (t : Nat) (s : State) : Host.Outcome State Fault Refusal :=
  .next ((s.atTime t).cond (s.pageOn 0x002) (commitFx hi))

/-- A sender's check of a commit for an epoch: accepted with `next`, or rejected (R46). -/
def State.verdict (s : State) (snap : List (Nat × Word32)) (t : Nat) (next : State → State) : State :=
  let f := s.inForce t
  let g : Cfg := snapRd snap
  let ms := f.mapErrs g
  let es := f.senderErrs snap ++ mapResults ms
  if (failures es).isEmpty then next (s.showAccept es) else (s.showReject (failures es)).showMapErr ms

/-- The sender once validation has ended: nothing is being validated, and the transit time of every port is computed anew (R46; 01 R34). -/
def State.validated (s : State) : State :=
  let s : State := ({ s with cmt := { s.cmt with check := none, judged := none } } : State).wr R.CMT.BUSY 0
  s.each s.ports State.newTransit

/-- COMMIT_VALIDATION_DONE. Before the first tick an accepted commit applies at once; from then on it waits for the epoch that the write
    earned, or, written before the first tick, the one that R47 gives it now (R46 to R48; 16 R415, R428). -/
def commitDoneFx (s : State) : State :=
  match s.cmt.check with
  | none => s
  | some (c, w) =>
    let j := s.cmt.judged.getD (s.judge c.target w)
    let s := s.validated
    if !s.frm.ticked then s.verdict c.snap 0 (fun old => ((old.senderApply c.snap 0).each layerNos (fun s n => s.sourceChanged old n)).planFirst)
    else if j.2 ≠ 0 then s.showReject [{ page := 0x002, code := j.2, off := 0 }]
    else
      s.verdict c.snap j.1 (fun s =>
        let s := s.cond (j.1 != c.target) (fun s =>
          ((s.wr R.CMT.st_LATE 1).wr R.CMT.LATE_EPOCH j.1).incRaise R.CMT.CNT_LATE R.CMT.ev_LATE)
        let s : State := { s with cmt := { s.cmt with pend := addCommit { c with target := j.1, origins := [j.1] } s.cmt.pend } }
        s.cond (j.1 == s.epoch + 1) State.planNext)

/-- COMMIT_VALIDATION_DONE (R46). -/
def execCommitValidationDone (t : Nat) (s : State) : Host.Outcome State Fault Refusal :=
  .next ((s.atTime t).cond s.isSender commitDoneFx)

/-- A write of bits [63:32] of EPOCH_LOAD arms the number, in LOADED and ARMED only (03 R71, R72). -/
def epochLoadFx (hi : Word32) (s : State) : State :=
  let s := s.setWord (regKey 0x002 0x624) hi
  if s.stateCode = stLOADED ∨ s.stateCode = stARMED then { s with cmt := { s.cmt with loadArmed := true } }
  else s.wr R.CMT.LOAD_REFUSED 1

/-- EPOCH_LOAD (03 R72). -/
def execEpochLoad (hi : Word32) (s : State) : Host.Outcome State Fault Refusal := .next (s.start.cond (s.pageOn 0x002) (epochLoadFx hi))

/-! Markers at a sender (02 R39, R51, R52; 10 R256, R284). -/

/-- CONFIG_MARKER_LAUNCH: copy 1 or 2 of the marker of the commit that targets the next epoch (02 R39 steps 2 and 3). -/
def markerFx (copy : Nat) (s : State) : State :=
  match s.cmt.pend.find? (fun c => c.target == s.epoch + 1) with
  | none => s
  | some c =>
    if !s.frm.ticked || copy < 1 || 2 < copy || copy ≤ s.frm.copies then s
    else
      let w := wideOf (smGet resetWord c.snap)
      let s : State := { s with frm := { s.frm with copies := copy } }
      s.each (s.tickPorts (s.epoch + 1)) (fun s p =>
        s.send none (.config p none { target := c.target, copy := copy, recovery := false, sch := w.1, clk := w.2 }))

/-- CONFIG_MARKER_LAUNCH (R39). -/
def execConfigMarkerLaunch (copy t : Nat) (s : State) : Host.Outcome State Fault Refusal :=
  .next ((s.atTime t).cond s.isSender (markerFx copy))

/-- The recovery marker of a tile that reported EPOCH_MISS: the wall-wide data of the applied state, for the first tick 250 µs or more
    ahead (R52; 10 R257). -/
def State.sendRecovery (s : State) (node : Nat) : State :=
  match s.routePort node with
  | none => s
  | some p =>
    let w := wideOf (fun k => s.word (k + 0x400))
    s.cond (s.frm.ticked && s.canSend p && s.serves p) (fun s =>
      s.send none (.config p (some node) { target := s.firstTick s.time, copy := 0, recovery := true, sch := w.1, clk := w.2 }))

/-- The entry reports EPOCH_MISS of a single tile (R52). An EPOCH_MISS inside a hub's subtree entry names a class and a first node, not the
    tiles that missed: it gets no marker (DESIGN CHOICE, log 159). -/
def isMissEntry (e : EvtEntry) : Bool := !e.subtree && e.page == 0x000 && e.bits.testBit 1

/-- EVENT_RECEIVE at a sender: each entry joins the tile-event queue in arrival order (03 R77); an EPOCH_MISS is answered with a recovery
    marker (R52). -/
def eventReceiveFx (port src epoch : Nat) (entries : List EvtEntry) (s : State) : State :=
  let s := s.each entries (fun s e =>
    s.tqPush { page := e.page, port := port, node := src, subtree := e.subtree, bits := e.bits, epoch := epoch % 2 ^ 32,
               more := e.more })
  s.cond (entries.any isMissEntry) (fun s => s.sendRecovery src)

/-- EVENT_RECEIVE (03 R77), on a port that is UP (10 R250). -/
def execEventReceive (port src epoch : Nat) (entries : List EvtEntry) (s : State) : Host.Outcome State Fault Refusal :=
  .next (s.start.cond (s.isSender && s.isUp port) (eventReceiveFx port src epoch entries))

/-! The tile's part (02 R41, R51, R52; 05 R134). -/

/-- EPOCH_MISS of a target (R52). -/
def State.epochMiss (s : State) (target : Nat) : State :=
  let s : State := { s with cmt := { s.cmt with missNow := true } }
  (s.wr R.GLB.MISSED_EPOCH target).incRaise R.GLB.CNT_EPOCH_MISS R.GLB.ev_EPOCH_MISS

/-- The frame of a missed commit: its epoch is kept, so that a transition that the commit starts ends with the wall's (05 R134). -/
def State.maskStale (s : State) (target : Nat) : State :=
  let s := s.incRaise R.SCH.CNT_MASK_STALE R.SCH.ev_MASK_STALE
  { s with frm := { s.frm with stale := some target } }

/-- The frame in progress is that of a commit which the tile has missed (05 R134). -/
def State.inMissed (s : State) : Bool := s.frm.ticked && s.frm.stale == some s.epoch

/-- The tile takes its snapshot for a commit, to apply at an epoch, and checks its own part (R41, R51); `recov` tells a recovery marker,
    whose target names no commit of the wall, and no wall-wide data a snapshot that a TICK starts (R52; DEDUCED, log 165). On a tile no write
    starts a commit, so REJECTED, once a part was rejected, stays 1 and tells nothing of later markers, as DROPPED does (DESIGN CHOICE,
    log 94). -/
def State.tileCommit (s : State) (target apply : Nat) (wide : Option (List Word32 × Word32)) (recov : Bool) : State :=
  let snap := overlay wide s.snapshot
  let es := (s.inForce apply).tileErrs snap
  let wall := if recov then [] else [target]
  if (failures es).isEmpty then
    let s := s.showAccept es
    let c : Commit := { target := apply, origins := wall, snap := snap, wide := wide, marks := if wide.isSome then wall else [],
                        recs := if recov then [target] else [], order := s.cmt.taken }
    { s with cmt := { s.cmt with pend := addCommit c s.cmt.pend, taken := s.cmt.taken + 1, lastRejected := false } }
  else
    let s := (s.showReject (failures es)).raise R.GLB.ev_LOCAL_REJECT
    { s with cmt := { s.cmt with rejected := wall ++ s.cmt.rejected, lastRejected := true } }

/-- The tile has dealt with a target: applied it, rejected its part, or holds its snapshot (R52). -/
def State.knows (s : State) (target : Nat) : Bool :=
  s.cmt.applied.contains target || s.cmt.rejected.contains target || s.cmt.pend.any (fun c => c.origins.contains target)

/-- The tile ignores a marker: its target is applied or rejected, or, for a marker of the wall, a copy of it has come (R41, R52). A snapshot that
    a TICK started is no copy: a marker that arrives while it is pending is a commit of its own. -/
def State.ignores (s : State) (b : ConfigBody) : Bool :=
  s.cmt.applied.contains b.target || s.cmt.rejected.contains b.target ||
    (!b.recovery && s.cmt.pend.any (fun c => c.marks.contains b.target))

/-- CONFIG_RECEIVE: the first copy of a marker makes the tile take its snapshot; a late one is an EPOCH_MISS, unless a TICK has already shown
    that miss (R41, R52). A recovery marker is a commit of its own, and a marker of the wall's commit for the same target another (R52, log
    165). In the frame of a missed commit a marker with another frame period turns the tile dark (05 R134). -/
def configReceiveFx (b : ConfigBody) (s : State) : State :=
  if s.ignores b then s
  else
    let wide := some (b.sch, b.clk)
    let late : Bool := s.frm.ticked && decide (b.target ≤ s.epoch)
    let s := s.cond (late && !s.knows b.target) (fun s => (s.epochMiss b.target).maskStale b.target)
    let s := s.cond ((late || b.recovery) && s.inMissed && periodChanged (snapRd (overlay wide [])) s.lv) State.darkNow
    s.tileCommit b.target (if late then s.epoch + 1 else b.target) wide b.recovery

/-- CONFIG_RECEIVE (R52): a tile with a node ID, on its upstream port (01 R20, 10 R267), which is UP (10 R250). -/
def execConfigReceive (port : Nat) (b : ConfigBody) (t : Nat) (s : State) : Host.Outcome State Fault Refusal :=
  .next ((s.atTime t).cond (s.isTile && s.red.upstream == some port && s.isUp port && s.hasId) (configReceiveFx b))

end Sys2Proof.Machine
end

