-- ==== Sys2Proof/Machine/Tick.lean ====
section
/-!
DEFINITION. The tick of a sender and of a tile: TICK packets, the end of an epoch, the apply, the new frame, missing TICKs and the
frames of a fail-over (02 R35 to R44, R49, R52; 04 R87, R96, R108; 05 R132 to R134; 10 R269, R281, R284; 16 R408, R409).
-/

namespace Sys2Proof.Machine

/-! TICK_LAUNCH (02 R39 step 4; 10 R256, R269). -/

/-- The epoch number of a sender's next tick: at the first one the loaded number, else the index of the nearest cadence point (04 R87). -/
def State.nextEpoch (s : State) : Nat :=
  if s.frm.ticked then s.epoch + 1
  else if s.cmt.loadArmed then s.rd R.CMT.EPOCH_LOAD
  else (cadNearest s.rateNum s.rateDen ((s.frm.nextTick : Int) + s.clk.tb - s.tickOffset)).toNat

/-- The step of the time base that applies at the next tick, in ns: a requested one that is due, and that of a jump re-lock
    (04 R83, R96). -/
def State.stepDue (s : State) (e : Nat) : Option Int :=
  let a := match s.clk.step with
    | some (due, ns) => if due ≤ e then some ns else none
    | none => none
  let b := match s.frm.jump with
    | some (j, _, st) => if j = e ∧ st ≠ 0 then some (nsOf st) else none
    | none => none
  match a, b with
  | some x, some y => some (x + y)
  | some x, none => some x
  | none, b => b

/-- The tick of a jump re-lock follows the next one: the next frame is a hold frame (04 R96). -/
def State.holdNext (s : State) (e : Nat) : Bool :=
  match s.frm.jump with
  | some (j, _, _) => j == e + 1
  | none => false

/-- COMMIT_TARGET of the TICK of an epoch: the latest commit whose target is that epoch or less; none before one has applied at a tick
    (02 R39; 10 R256). -/
def State.commitTarget (s : State) (e : Nat) : Nat :=
  match (s.cmt.pend.filter (fun c => decide (c.target ≤ e))).getLast? with
  | some c => c.target
  | none => s.cmt.latest.getD (2 ^ 64 - 1)

/-- The TICK of the next epoch on a port (10 R256). -/
def State.tickBody (s : State) (p : Nat) : TickBody :=
  let e := s.nextEpoch
  let step := s.stepDue e
  { epoch := e, tickTime := ((s.frm.nextTick : Int) + s.clk.tb + step.getD 0 * ns1).toNat, hold := s.holdNext e,
    handback := s.frm.ticked && s.handbackAt p e, dark := false, commitTarget := s.commitTarget e, step := step }

/-- TICK_LAUNCH: the TICK leaves on every port that serves; one that leaves more than 8 ns after its launch time counts, and what waited
    for it follows (10 R269). -/
def tickLaunchFx (s : State) : State :=
  let late : Bool := decide (s.frm.nextTick + 8 * ns1 < s.time + 100 * us1)
  let ports := s.tickPorts s.nextEpoch
  let s := s.each ports (fun s p =>
    (s.emit (.tick p (s.tickBody p))).cond late (fun s => s.incRaise (R.COIL.CNT_LAUNCH_LATE p) (R.COIL.ev_LAUNCH_LATE p)))
  let s : State := { s with frm := { s.frm with tickOut := true } }
  s.each s.ports State.drain

/-- TICK_LAUNCH (10 R269). -/
def execTickLaunch (t : Nat) (s : State) : Host.Outcome State Fault Refusal :=
  .next ((s.atTime t).cond (s.tickPlanned && !s.frm.tickOut) tickLaunchFx)

/-! SENDER_TICK (02 R39 step 6). -/

/-- Pending commits whose target is an epoch or less, and the rest. -/
def State.dueCommits (s : State) (e : Nat) : List Commit := s.cmt.pend.filter (fun c => decide (c.target ≤ e))
def State.laterCommits (s : State) (e : Nat) : List Commit := s.cmt.pend.filter (fun c => decide (e < c.target))

/-- The sender's commit applies at its tick (02 R49). -/
def State.applyDue (s : State) (e : Nat) : State :=
  match (s.dueCommits e).getLast? with
  | none => s
  | some c =>
    let s := (s.senderApply c.snap e).wr R.CMT.APPLIED_EPOCH c.target
    { s with cmt := { s.cmt with pend := s.laterCommits e, latest := some c.target } }

/-- HAS_EPOCH and EPOCH show the epoch that begins (02 R35; 03 R70). -/
def State.beginEpoch (s : State) (e : Nat) : State := (s.wr R.GLB.EPOCH e).wr R.GLB.HAS_EPOCH 1

/-- LIT, or HOLD in a held or dark frame; a quenched device stays so (16 R408, R409). -/
def State.showFrame (s : State) (held : Bool) : State :=
  if s.stateCode = stQUENCHED then s
  else
    let s := s.cond (s.stateCode == stARMED) (fun s => s.toState stLIT)
    s.toState (if held then stHOLD else stLIT)

/-- The frame that ends was LIT: its time joins the telemetry's lit time (13 R357, log 20). -/
def State.litFrame (s : State) : State :=
  if s.frm.ticked ∧ s.stateCode = stLIT then
    { s with thm := { s.thm with lit := s.thm.lit + (s.frm.nextTick - s.frm.tickTime) } }
  else s

/-- The time base steps at the tick (04 R83). -/
def State.stepAtTick (s : State) (step : Option Int) : State :=
  match step with
  | none => s
  | some ns => s.stepBase ns

/-- The frame clock moves to the tick that begins (04 R86, R88, R96). -/
def State.turnClock (s : State) (e : Nat) : State :=
  let due : Bool := match s.clk.step with
    | some (d, _) => decide (d ≤ e)
    | none => false
  let jumped : Bool := match s.frm.jump with
    | some (j, _, _) => j == e
    | none => false
  { s with
    clk := { s.clk with step := if due then none else s.clk.step }
    frm := { s.frm with ticked := true, tickTime := s.frm.nextTick, cadN := s.frm.planN, cadBase := s.frm.planBase, copies := 0,
                        tickOut := false, jump := if jumped then none else s.frm.jump } }

/-- SENDER_TICK: the epoch closes and drains, the commit applies, fences are sampled, the new frame begins (02 R39, R42, R55). -/
def senderTickFx (s : State) : State :=
  let e := s.nextEpoch
  let step := s.stepDue e
  let first := !s.frm.ticked
  let s := s.litFrame
  let s := (s.cond (!first) (fun s => s.closeFrame.closeMap)).revertTick
  let old := s
  let s := (s.applyDue e).beginEpoch e
  let s := ((s.turnClock e).stepAtTick step).transTick old
  let hold := s.holdNext e
  let s : State := { s with frm := { s.frm with hold := hold }, cmt := { s.cmt with loadArmed := false } }
  let s := (s.wrB R.CLK.HOLD_FRAME hold).showFrame hold
  let s := (s.latchLayers old e s.frm.tickTime).openFrame old
  (s.audioTick (if first then State.reset else old)).planNext

/-- SENDER_TICK (02 R39). -/
def execSenderTick (t : Nat) (s : State) : Host.Outcome State Fault Refusal :=
  .next ((s.atTime t).cond s.tickPlanned senderTickFx)

/-! TICK_RECEIVE (02 R37; 04 R107, R108). -/

/-- The local moment of the tick that a TICK announces: its tick time, before its step, plus the light-phase trim (04 R108). -/
def State.tickMoment (s : State) (b : TickBody) : Int :=
  (b.tickTime : Int) - b.step.getD 0 * ns1 - s.clk.tb + trimUnits s.phc.trim

/-- The TICKs show a spacing other than the applied period's, beyond ±2 µs (05 R134, 04 R109; DEDUCED, log 176). -/
def State.newSpacing (s : State) : Bool :=
  s.frm.ticked && decide (2 * us1 < ((s.frm.nextTick : Int) - s.frm.tickTime - s.period).natAbs)

/-- TICK_RECEIVE: the TICK for the next tick; one that arrives after its tick time counts as missing (04 R108). In the frame of a missed commit
    the spacing that it shows may turn the tile dark (05 R134). -/
def tickReceiveFx (port : Nat) (b : TickBody) (s : State) : State :=
  let m := s.tickMoment b
  if m < (s.time : Int) then s.inc R.CLK.CNT_TICK_LATE
  else
    let s : State :=
      { s with frm := { s.frm with rx := some b, rxPort := port, nextTick := m.toNat },
               red := { s.red with lastTick := b.epoch, lastTarget := if b.commitTarget = 2 ^ 64 - 1 then none else some b.commitTarget } }
    s.cond (s.inMissed && s.newSpacing) State.darkNow

/-- TICK_RECEIVE (02 R37): only the upstream port's TICKs count (10 R286). -/
def execTickReceive (port : Nat) (b : TickBody) (t : Nat) (s : State) : Host.Outcome State Fault Refusal :=
  .next ((s.atTime t).cond (s.isTile && s.red.upstream == some port && s.isUp port) (tickReceiveFx port b))

/-! The tick of a tile (02 R41). -/

/-- Events of the closing epoch leave (03 R76, 01 R29). -/
def State.reportEpoch (s : State) : State :=
  let s := (s.sendEvents s.epoch).sendSubtree s.epoch
  { s with cmt := { s.cmt with missed := s.cmt.missNow, missNow := false } }

/-- Assignments whose epoch has come take effect (01 R18). -/
def State.assignDue (s : State) (e : Nat) : State :=
  let due := s.mgmt.assign.filter (fun (a : Nat × Nat × List (Nat × Nat)) => decide (a.1 ≤ e))
  let s : State := { s with mgmt := { s.mgmt with assign := s.mgmt.assign.filter (fun (a : Nat × Nat × List (Nat × Nat)) => decide (e < a.1)) } }
  s.each due (fun s a => s.assignNow a.2.1 a.2.2 e)

/-- A snapshot goes into a list that is sorted by the order of taking. -/
def insertTaken (c : Commit) : List Commit → List Commit
  | [] => [c]
  | d :: ds => if c.order < d.order then c :: d :: ds else d :: insertTaken c ds

/-- The snapshots that apply at a tile's tick, in the order in which they were taken (02 R52). -/
def State.dueTaken (s : State) (e : Nat) : List Commit := (s.dueCommits e).foldr insertTaken []

/-- The configuration in force in an epoch that begins: the last due commit's, else the applied one. -/
def State.cfgFrom (s : State) (e : Nat) : Cfg :=
  match (s.dueTaken e).getLast? with
  | some c => snapRd c.snap
  | none => s.lv

/-- The frame that begins is a transition frame (05 R133, R134). -/
def State.transNext (s : State) (e : Nat) : Bool :=
  let g := s.cfgFrom e
  s.frm.ticked && (if periodChanged g s.lv then decide (e - s.frm.stale.getD e ≤ g R.SCH.TRANS_FRAMES) else decide (2 ≤ s.rd R.SCH.TRANS_LEFT))

/-- A TICK shows a commit target that the tile has neither applied nor rejected nor holds (02 R52). -/
def State.missedTarget (s : State) (b : TickBody) : Bool :=
  b.commitTarget != 2 ^ 64 - 1 && decide (b.commitTarget ≤ b.epoch) && !s.knows b.commitTarget

/-- HANDBACK on a TICK moves the upstream from the port on which the TICK came to the other port of the pair, when that port has delivered a
    valid sender beacon within ±2 µs of the tick phase in the last 1 ms; else the port stays and HANDBACK_FAILED is raised. A tile that has
    elected the other port meanwhile is there already (10 R284). -/
def State.handBack (s : State) : State :=
  let q := otherPort s.frm.rxPort
  if s.red.upstream = some q then s
  else
    match (s.coilSt q).good with
    | some t => if s.time ≤ t + ms1 then (s.elect q).inc R.RED.CNT_HANDBACK else s.raise R.RED.ev_HANDBACK_FAILED
    | none => s.raise R.RED.ev_HANDBACK_FAILED

/-- The recovery of a missed commit ends with its recovery marker, or with a later commit: its epoch is forgotten (02 R52, 05 R134). -/
def State.staleDone (s : State) (due : List Commit) : State :=
  match s.frm.stale with
  | none => s
  | some m =>
    s.cond (due.any (fun c => !c.recs.isEmpty || c.origins.any (fun o => decide (m < o))))
      (fun s => { s with frm := { s.frm with stale := none } })

/-- A tile's commits apply at its tick: the snapshot taken last, or at the first tick the whole shadow (02 R38, R41, R49, R52). -/
def State.tileApply (s : State) (e : Nat) : State :=
  let old := s
  let first := !s.frm.ticked
  let due := s.dueTaken e
  let wide := due.reverse.findSome? Commit.wide
  let snap := if first then some (overlay wide s.snapshot) else due.getLast?.map Commit.snap
  let s : State := { s with cmt := { s.cmt with pend := s.laterCommits e, applied := due.flatMap Commit.origins ++ s.cmt.applied } }
  match snap with
  | none => s
  | some snap =>
    let s := (s.applySnap snap e).applyTables e
    let s := s.cond (!due.isEmpty) (fun s =>
      let s : State := { s with cmt := { s.cmt with lastRejected := false } }
      (s.wr R.CMT.APPLIED_EPOCH ((due.flatMap (fun c => c.origins ++ c.recs)).foldl max 0)).raise R.CMT.ev_APPLIED)
    let s := ((s.showSched old).sensorsEnabled).bankApplied old
    let s := s.showId old
    let s := s.forgetReports old.lv
    let s := s.cond first (fun s => s.leaveBoot)
    let s := s.portsApplied old
    s.cond (s.phcDisturbed old) (fun s => s.phcEnd phABORTED)

/-- Feeds that a commit that keeps the period adds: dark in this frame (05 R132). -/
def State.newFeeds (s old : State) : List Nat :=
  if !old.frm.ticked || periodChanged s.lv old.lv then []
  else (List.range 8).filter (fun f => s.lv (feedMaskF f) != 0 && old.lv (feedMaskF f) == 0)

/-- The frame that begins is a bridging one of a fail-over (10 R281). -/
def State.bridging (s : State) (entered : Bool) : Bool := s.flag R.RED.st_FAILOVER && (decide (0 < s.red.bridge) || entered)

/-- A frame held for a missing TICK, and a frame of a tile in FAILOVER that is dark after its bridge (02 R38; 10 R281, R288, log 53). -/
def State.failFrame (s : State) (entered miss : Bool) : State :=
  let fo := s.flag R.RED.st_FAILOVER
  let dark := fo && !s.bridging entered && (miss || !s.til.short.isEmpty)
  let hold := miss && !dark
  let s : State := { s with red := { s.red with bridge := s.red.bridge - 1, darkFrames := dark } }
  let s := (s.wrB R.RED.HOLDING hold).wr R.RED.HOLD_COUNT (min 2 s.frm.missing)
  let s := s.cond hold (fun s => s.inc R.RED.CNT_HOLD_FRAMES)
  s.cond dark (fun s => s.inc R.RED.CNT_DARK_FRAMES)

/-- A tile leaves FAILOVER at the tick from which it shows a frame entirely from bands of its new upstream port (10 R281, R285, log
    52). -/
def State.leaveFailover (s : State) (full : Bool) : State :=
  s.cond (s.flag R.RED.st_FAILOVER && full) (fun s =>
    ({ s with red := { s.red with repeating := false, electing := false, bridge := 0, darkFrames := false } } : State).wr R.RED.st_FAILOVER 0)

/-- The frame clock of a tile moves to the tick that begins; the next one is due a period later until a TICK fixes it (04 R108). -/
def State.turnTile (s : State) (tick missing : Nat) (hold : Bool) : State :=
  { s with frm := { s.frm with ticked := true, tickTime := tick, nextTick := tick, rx := none, missing := missing, hold := hold } }

/-- The planned time of the next tick without a TICK: the previous one plus T, and a change of the trim (04 R108; 13 R366). -/
def State.planTile (s : State) (oldTrim : Int) : State :=
  { s with frm := { s.frm with
    nextTick := ((s.frm.tickTime : Int) + s.period + trimUnits s.phc.trim - trimUnits oldTrim).toNat } }

/-- What a tile latches and shows at its tick, once the configuration is in force (11 R295 to R297, R305, R308; 12 R333, R341;
    13 R361, R364, R370). -/
def State.tileFrame (s old : State) : State :=
  let s := (((s.busTick old.lv old.tickLen).idleLatch).showStale).showStore
  let s := ((s.latchTherm.coneTick).brightTick).clearDebts
  let s := ((s.latchGain).showLsm).showBus
  s.phcTick.openSlots

/-- The tick of a tile that starts epoch `e`, with the TICK that came for it, if any (02 R38, R41). -/
def tileTickFx (s : State) : State :=
  let rx := s.frm.rx
  let e := (rx.map TickBody.epoch).getD (s.epoch + 1)
  let first := !s.frm.ticked
  let tick := s.frm.nextTick
  let trim := s.phc.trim
  let miss := rx.isNone
  let missing := if miss then s.frm.missing + 1 else 0
  let spaced := s.newSpacing
  let s := s.litFrame
  let s := s.cond (!first) (fun s => s.reportEpoch.flushBands)
  let jumpHold : Bool := (rx.map (fun b => b.hold && !b.dark)).getD false
  let s := s.cond (miss || jumpHold) (fun s => s.phcEnd phABORTED)
  let entered : Bool := missing == 2 && !s.flag R.RED.st_FAILOVER
  let s := s.cond (missing == 2) (fun s => s.enterFailover fcTICK_MISS)
  let missedT := (rx.filter (fun b => s.missedTarget b)).map TickBody.commitTarget
  let spacing : Bool := !first && missedT.isSome && spaced
  let held : Bool := miss || (rx.map TickBody.hold).getD false || s.transNext e || s.phcHolds e || spacing
  let s := (s.assignDue e).revertTick
  let s := s.cond (!first) (fun s => (s.closeBands (feedBands s.lv) (s.lv R.SCH.MODE == moDIRECT && !s.til.held) held).abandonSlots)
  let s := s.cond ((rx.map TickBody.handback).getD false) State.handBack
  let old := s
  let s := ((s.tileApply e).applyClears old.lv).beginEpoch e
  let s := s.cond (!first && (rx.map (fun b => b.epoch != old.epoch + 1)).getD false)
    (fun s => s.incRaise R.GLB.CNT_EPOCH_JUMP R.GLB.ev_EPOCH_JUMP)
  let full := !held && s.til.short.isEmpty && !s.red.electing && decide (s.red.since ≤ old.frm.tickTime)
  let s := (((s.turnTile tick missing jumpHold).stepAtTick (rx.bind TickBody.step)).transTick old).staleDone (old.dueCommits e)
  let s := (s.failFrame entered miss).leaveFailover full
  let fresh := s.newFeeds old
  let s := s.cond (!fresh.isEmpty) (fun s => (s.incRaise R.SCH.CNT_NEW_FEED_DARK R.SCH.ev_NEW_FEED_DARK))
  let lost : Bool := decide (2 < missing) || (s.red.darkFrames && miss) || (rx.map TickBody.dark).getD false
  let trans : Bool := !miss && s.rd R.SCH.TRANS_LEFT != 0 && s.frm.transDark
  let short := if s.red.darkFrames then s.til.short else []
  let s : State := { s with til := { s.til with dark := lost || trans || spacing, held := held, darkFeeds := fresh ++ short } }
  let s := s.showFrame (miss || jumpHold || lost || s.red.darkFrames)
  let s := match missedT with
    | none => s
    | some t =>
      ((s.epochMiss t).maskStale t).tileCommit t (e + 1) none false
  let s := s.tileFrame old
  ((s.planTile trim).rebuildSummary).sendStatus

/-- A tile without its first tick that is not LOCKED or has no node ID only tracks the epoch, and obeys HANDBACK (04 R107; 10 R284). -/
def trackFx (s : State) : State :=
  match s.frm.rx with
  | none => s
  | some b =>
    let s := ((s.wr R.GLB.EPOCH b.epoch).stepAtTick b.step).cond b.handback State.handBack
    { s with frm := { s.frm with rx := none } }

/-- TILE_TICK: the tick of a TICK that has come (02 R41; 04 R107). -/
def execTileTick (t : Nat) (s : State) : Host.Outcome State Fault Refusal :=
  .next ((s.atTime t).cond (s.isTile && s.frm.rx.isSome) (fun s =>
    if s.frm.ticked || (s.lockState == lsLOCKED && s.hasId && s.red.upstream.isSome) then tileTickFx s else trackFx s))

/-- TICK_MISSING: the tick of a tile for which no TICK has come (02 R38). -/
def execTickMissing (t : Nat) (s : State) : Host.Outcome State Fault Refusal :=
  .next ((s.atTime t).cond (s.isTile && s.frm.ticked && s.frm.rx.isNone) tileTickFx)

end Sys2Proof.Machine
end

