-- ==== Sys2Proof/Machine/RegAccess.lean ====
section
/-!
DEFINITION. Access to the register pages: reads with their views and latches, writes with the behaviour of each register, the table
windows, and management requests that execute in a tile (03 R59 to R66, R74, R78, R79, R81; 04 R84; 10 R259).
-/

namespace Sys2Proof.Machine

/-! Tables and their windows (03 R64). -/

/-- The SDI4 page shares its block type but holds two registers only (06 R159). -/
def isSdi4 (b : Blk) (n : Nat) : Bool := b == .sdi && n == 4

/-- The tables of a page on a member: a Y24, which cannot be a hub, has no child layout table (01 R31, R464). -/
def tablesOf (m : Member) (b : Blk) : List (Nat × TabCls) :=
  if b = .til ∧ m = .y24 then b.tables.take 3 else b.tables

/-- A page's table serves the device's role: the mailbox only a sender, the cone counters and the update staging only a tile
    (10 R287, 13 R378, 16 R429). -/
def tableInRole : Blk → Role → Bool
  | .coil, r => r == .sender
  | .thm, r => r == .tile
  | .fw, r => r == .tile
  | _, _ => true

/-- The table, the word in it and the table's kind that an offset of the window selects; none beyond TABLES or the table's end
    (03 R64). -/
def State.tblWindow (s : State) (page off : Nat) : Option (Nat × Nat × TabCls) :=
  match blkOf page with
  | none => none
  | some (b, n) =>
    let sel := s.word (regKey page 0x03C)
    let at_ := fieldOf sel 8 20 * 2048 + (off - 0x800)
    match (tablesOf s.member b)[fieldOf sel 0 8]? with
    | none => none
    | some (size, cls) =>
      if at_ + 4 ≤ size ∧ tableInRole b s.role ∧ !isSdi4 b n then some (fieldOf sel 0 8, at_ / 4, cls) else none

/-- The word of the window (03 R64): the nodes that each port serves (10 R288), the cone counters as 64-bit words (13 R378), the calibration
    records copied so far (11 R303). -/
def State.windowWord (s : State) (page off : Nat) : Word32 :=
  match s.tblWindow page off with
  | none => 0
  | some (tab, i, cls) =>
    if page = 0x090 then s.servedWord i
    else if page = 0x0D0 then BitVec.ofNat 32 (smGet (fun _ => 0) s.thm.cone (i / 2) / 2 ^ (32 * (i % 2)))
    else if cls = .pend then s.pendW page tab i
    else if page = 0x0A2 ∧ tab = 0 then s.calSync.immW page tab i
    else s.immW page tab i

/-- The bits of a table word that hold a field; a write ignores the reserved ones (00 R6; the table notes of the chapters). -/
def tabMask (page tab i : Nat) : Nat :=
  if 0x053 ≤ page ∧ page < 0x05B then (if 256 ≤ i ∧ i % 4 = 3 then 0 else 0xFFFFFFFF)
  else if page = 0x05B then [0x3FFF3FFF, 0x3FFF3FFF, 0x1F, 0xFFFFFFFF, 0xFFFFF, 0xFFFFF, 0xFFFFF, 0].getD (i % 8) 0
  else if page = 0x060 then
    (if tab = 0 then [0x000FFFFF, 0xFFFF3FFF, 0x3FFF3FFF, 0x3FFF3FFF].getD (i % 8) 0
     else if tab = 1 then (if i % 2 = 0 then 0x03FF03FF else 0x07FF03FF)
     else 0x1FFFFF)
  else if page = 0x0A0 then (if tab = 3 then [0x03FF03FF, 0x07FF03FF, 0x800F3FFF, 0].getD (i % 4) 0 else 0xFFFFF)
  else if page = 0x0A2 ∧ tab = 1 then 0xFFFF
  else if page = 0x0A2 ∧ tab = 2 then 0x1FFFF
  else if page = 0x0B0 then (if tab = 2 then 0xFFFF else 0xFFF)
  else if 0x0E0 ≤ page ∧ page < 0x0E4 then
    [0x0F1F1F03, 0xFFFFFF, 0xFFFFFF, 0xFFFFFFFF, 0xFFFF, 0xFFF, 0xFFFF, 0xFFF].getD i 0
  else if page = 0x0F0 ∧ tab = 0 then 0x83FF
  else if 0x080 ≤ page ∧ page < 0x090 then
    (if i = 0 then 0xFFFFFF else if i = 9 then 0xFFFF else if 12 ≤ i then 0x3FFF3FFF else 0xFFFFFFFF)
  else 0xFFFFFFFF

/-- A write to a word of a table (03 R64), under the table's own rules: calibration records (11 R303), sagger memories (12 R342), timing
    sets (14 R390), the mailbox's request bytes (10 R274), channel status (15 R394). -/
def State.tableWord (s : State) (page tab i : Nat) (cls : TabCls) (v : Word32) : State :=
  if page = 0x0A2 ∧ tab = 0 then calWriteFx i v s
  else if page = 0x0C0 then (if s.role = .tile ∧ tab < memberGroups s.member then sagMemoryWriteFx tab i v s else s)
  else if 0x0E0 ≤ page ∧ page < 0x0E4 then
    (if tab ≠ s.rd (R.DRM.ACTIVE_SET (page - 0x0E0)) ∧ i < 8 then s.setImm page tab i v else s)
  else if 0x080 ≤ page ∧ page < 0x090 then (if i < 26 then s.setImm page tab i v else s)
  else if page = 0x0F0 ∧ tab = 1 then (if i < 24 then s.setImm page tab i v else s)
  else
    match cls with
    | .ro => s
    | .now => s.setImm page tab i v
    | .pend => s.setPend page tab i v

/-- A write through the window (03 R64). -/
def State.windowWrite (s : State) (page off : Nat) (v : Word32) : State :=
  match s.tblWindow page off with
  | none => s
  | some (tab, i, cls) => s.tableWord page tab i cls (v &&& BitVec.ofNat 32 (tabMask page tab i))

/-! Reads (03 R60, R61, R63, R65). -/

/-- PAGE_ID (03 R62, R67). -/
def pageId (b : Blk) (n : Nat) : Nat := b.typeCode * 65536 + n * 256 + 1

/-- PAGE_CAPS (03 R63; 06 R159). -/
def pageCaps (m : Member) (b : Blk) (n : Nat) : Nat :=
  if isSdi4 b n then 0x040
  else b.shadowEnd + 2 ^ 12 * (tablesOf m b).length + (if b.evtMask = 0 then 0 else 2 ^ 20)

/-- Seconds since a time of the local clock. -/
def State.secondsSince (s : State) (t : Nat) : Nat := min ((s.time - t) / sec1) 0xFFFFFFFF

/-- Bit i of SUMk: page 32k + i has an enabled pending event (03 R74). -/
def State.pageSummary (s : State) (k : Nat) : Nat :=
  ((List.range 32).filter (fun i =>
    s.pageOn (32 * k + i) && (s.word (evtPendKey (32 * k + i)) &&& s.word (evtEnKey (32 * k + i))) != 0)).foldl (fun m i => m + 2 ^ i) 0

/-- The head of the tile-event queue as its registers show it (03 R78). -/
def State.tqViews (s : State) : List (Fld × Nat) :=
  (R.EVT.TQ_LEVEL, s.evt.tq.length) ::
  match s.evt.tq with
  | [] => []
  | e :: _ =>
    [(R.EVT.TQ_PAGE, e.page), (R.EVT.TQ_PORT, e.port), (R.EVT.TQ_NODE, e.node), (R.EVT.TQ_SUBTREE, b2n e.subtree), (R.EVT.TQ_VALID, 1),
     (R.EVT.TQ_BITS, e.bits), (R.EVT.TQ_EPOCH, e.epoch), (R.EVT.TQ_MORE, b2n e.more)]

/-- One bit per owned data buffer: that of a burst in flight, and of a response not yet popped (03 R79, R81). -/
def State.bufBusy (s : State) : Nat :=
  (List.range 16).foldl (fun m b =>
    if s.tun.out.any (fun r => r.len != 0 && r.buf == b) || s.tun.rsp.any (fun r => r.buf == some b) then m + 2 ^ b else m) 0

/-- The response queue as its registers show it (03 R81). -/
def State.tunViews (s : State) : List (Fld × Nat) :=
  [(R.TUN.RSP_LEVEL, s.tun.rsp.length), (R.TUN.BUF_BUSY, s.bufBusy)] ++
  match s.tun.rsp with
  | [] => []
  | r :: _ => [(R.TUN.RSP_TAG, r.tag), (R.TUN.RSP_STATUS, r.status), (R.TUN.RSP_VALID, 1), (R.TUN.RSP_WORD, r.word.toNat)]

/-- The timestamp queue as its registers show it (04 R113, R118). -/
def State.tsqViews (s : State) : List (Fld × Nat) :=
  match s.net.tsq with
  | [] => []
  | e :: _ =>
    [(R.TSQ.HEAD_ID, e.id), (R.TSQ.HEAD_PORT, e.port), (R.TSQ.HEAD_VALID, 1), (R.TSQ.HEAD_SEC, e.time / sec1),
     (R.TSQ.HEAD_NS, e.time % sec1 / ns1), (R.TSQ.HEAD_FRAC, e.time % ns1)]

/-- The commits pending (03 R71). -/
def State.cmtViews (s : State) : List (Fld × Nat) :=
  [(R.CMT.PENDING, s.cmt.pend.length),
   (R.CMT.NEXT_EPOCH, match s.cmt.pend with | [] => 2 ^ 64 - 1 | c :: cs => cs.foldl (fun m d => min m d.target) c.target)]

/-- The station address of a port at reset: fused, plus the port number (06 R157). -/
def macReset (n : Nat) : Nat := (Config.macBase + n) % 2 ^ 48

/-- Fields of a page whose value follows other state and is not stored in the register words: queue heads, clocks, ages, identity. -/
def State.views (s : State) : Blk → Nat → List (Fld × Nat)
  | .glb, _ =>
    [(R.GLB.ROLE, if s.role = .sender then 1 else 0), (R.GLB.MEMBER, memberCode s.member), (R.GLB.PART, memberPart s.member),
     (R.GLB.UID, Config.uid)]
  | .evt, _ => (List.range 9).map (fun k => (R.EVT.SUM k, s.pageSummary k)) ++ s.tqViews
  | .cmt, _ => s.cmtViews
  | .clk, _ =>
    [(R.CLK.TIME_SEC, s.base / sec1), (R.CLK.TIME_NS, s.base % sec1 / ns1), (R.CLK.TIME_FRAC, s.base % ns1),
     (R.CLK.HOLD_ELAPSED, s.holdElapsed)]
  | .tsq, _ => s.tsqViews
  | .tun, _ => s.tunViews
  | .dec, _ => [(R.DEC.LOAD, s.decLoad)]
  | .str, n => [(R.STR.ASM_FALLBACK n, b2n (s.asmNow n))]
  | .net, n =>
    [(R.NET.IGMP_COMPAT n, b2n (decide (s.igmpVersion n < 3))), (R.NET.MAC n, s.rd (R.NET.MAC n) ^^^ macReset n), ((R.NET.MAC n).live, s.lv (R.NET.MAC n) ^^^ macReset n)]
  | .thm, _ => [(R.THM.R_JC, Config.rJc), (R.THM.TAU_JC, Config.tauJc)]
  | .nvs, _ => [(R.NVS.SCRUB_AGE, s.secondsSince s.nvs.passEnd)]
  | .drm, n =>
    [(R.DRM.SCRUB_AGE n, s.secondsSince (s.chSt n).passEnd)] ++
    (if n = 0 then [] else [(R.DRM.CHANNELS n, 0), ((R.DRM.CHANNELS n).live, 0)])
  | .fw, _ => [(R.FW.CONFIRM_LEFT, s.confirmLeft), (R.FW.FUSE_CUST_KEY_SET, b2n Config.custKeySet)]
  | _, _ => []

/-- A word with the part of a view that lies in it. -/
def viewIn (key : Nat) (x : Word32) (v : Fld × Nat) : Word32 :=
  if v.1.key = key then putField x v.1.lo (min v.1.w 32) v.2
  else if 32 < v.1.w ∧ v.1.key + 4 = key then putField x 0 (v.1.w - 32) (v.2 / 2 ^ 32)
  else x

/-- The word at an offset of a page that answers (03 R59 to R65); SDI4 holds ACTIVE and CNT_UNDERRUN only (06 R159). -/
def State.pageWord (s : State) (page off : Nat) : Word32 :=
  match blkOf page with
  | none => 0
  | some (b, n) =>
    if off = 0x000 then BitVec.ofNat 32 (pageId b n)
    else if off = 0x004 then BitVec.ofNat 32 (pageCaps s.member b n)
    else if isSdi4 b n then (if off = 0x00C then s.word (regKey page off) &&& 1 else if off = 0x680 then s.word (regKey page off) else 0)
    else if 0x800 ≤ off then s.windowWord page off
    else (s.views b n).foldl (viewIn (regKey page off)) (s.word (regKey page off))

/-- The word that a read of an address returns without any latch; absent pages read 0 (03 R59, R60). -/
def State.busWord (s : State) (addr : Nat) : Word32 :=
  if s.pageOn (addr / 0x1000) then s.pageWord (addr / 0x1000) (addr % 0x1000 / 4 * 4) else 0

/-- A word is the lower word of a 64-bit value; the live copy of a wide shadow register is one as well (03 R61). -/
def isLowWord (page off : Nat) : Bool :=
  match blkOf page with
  | none => false
  | some (b, _) =>
    let o := b.rowOff off
    b.wide.any (fun (w : Nat × Nat × Nat) =>
      o == w.1 || (decide (1 < w.2.2 ∧ w.1 ≤ o) && decide ((o - w.1) % w.2.1 = 0 ∧ (o - w.1) / w.2.1 < w.2.2)))

/-- The offset shows the lower half of a 64-bit word of a table: the cone counters (03 R61, 13 R378). -/
def State.lowInWindow (s : State) (page off : Nat) : Bool :=
  page == 0x0D0 && decide (0x800 ≤ off) && off % 8 == 0 && (s.tblWindow page off).isSome

/-- The words that a read of a word latches: the upper half of a 64-bit value; for CLK.TIME_SEC also TIME_NS and TIME_FRAC (03 R61,
    04 R84). -/
def State.latchedBy (s : State) (page off : Nat) : List Nat :=
  if page = 0x004 ∧ off = 0x600 then [0x604, 0x608, 0x60C]
  else if isLowWord page off ∨ s.lowInWindow page off then [off + 4]
  else []

/-- Hold the value that a word reads as now. -/
def State.holdWord (s : State) (key : Nat) : State :=
  { s with latch := (key, s.busWord key) :: s.latch.filter (fun (p : Nat × Word32) => p.1 != key) }

/-- A read of the aligned word at an address: a latched half is returned once; a lower half latches what belongs to it (03 R60, R61,
    04 R84). -/
def State.busRead (s : State) (addr : Nat) : Word32 × State :=
  let key := addr / 4 * 4
  match s.latch.find? (fun (p : Nat × Word32) => p.1 == key) with
  | some (_, x) => (x, { s with latch := s.latch.filter (fun (p : Nat × Word32) => p.1 != key) })
  | none =>
    (s.busWord key,
     if s.pageOn (key / 0x1000) then s.each ((s.latchedBy (key / 0x1000) (key % 0x1000)).map (regKey (key / 0x1000))) State.holdWord else s)

/-! Writes (03 R60, R62, R65, R66). -/

/-- Store the writable bits of a word; the others stay. -/
def State.maskedWrite (s : State) (page off mask : Nat) (v : Word32) : State :=
  let key := regKey page off
  s.setWord key ((s.word key &&& ~~~(BitVec.ofNat 32 mask)) ||| (v &&& BitVec.ofNat 32 mask))

/-- CTRL of a coil port (10 R287): the plain fields, then the loops and the PRBS where they change, then the two actions. -/
def coilCtrlFx (n : Nat) (v : Word32) (s : State) : State :=
  let s := ((s.wr (R.COIL.ADAPT_FREEZE n) (fieldOf v 5 1)).wr (R.COIL.FAR_LOOP_ALLOW n) (fieldOf v 6 1)).wr (R.COIL.FAR_LOOP_SECS n)
    (fieldOf v 16 8)
  let s := s.cond (fieldOf v 0 3 != s.rd (R.COIL.LOOPBACK n)) (loopbackFx n v)
  let s := s.cond (fieldOf v 3 1 != s.rd (R.COIL.PRBS_GEN n)) (prbsGenFx n (v.getLsbD 3))
  let s := s.cond (fieldOf v 4 1 != s.rd (R.COIL.PRBS_CHK n)) (prbsChkFx n (v.getLsbD 4) false 0)
  let s := s.cond (v.getLsbD 7) (retrainFx n)
  s.cond (v.getLsbD 8 && s.isSender) (discGoFx n)

/-- CTRL of the MRAM page (13 R376), lowest action first. -/
def nvsCtrlFx (v : Word32) (s : State) : State :=
  let s := s.cond (v.getLsbD 0) setBeginFx
  let s := s.cond (v.getLsbD 1) setEndFx
  let s := s.cond (v.getLsbD 2) (nvsWriteGoFx v)
  let s := s.cond (v.getLsbD 3) (nvsReadGoFx v)
  let s := s.cond (v.getLsbD 4) settingsSaveFx
  s.cond (v.getLsbD 5) coneSaveFx

/-- CTRL of the firmware page (16 R429), lowest action first. -/
def fwCtrlFx (v : Word32) (s : State) : State :=
  let s := s.wr R.FW.PEER_BOOT (fieldOf v 5 1)
  let s := s.cond (v.getLsbD 0 && s.role == .sender && s.loaderWaits) bisqueGoFx
  let s := s.cond (v.getLsbD 1 && s.isSender) armFx
  let s := s.cond (v.getLsbD 2 && s.isSender) bootGoFx
  let s := s.cond (v.getLsbD 3) updGoFx
  s.cond (v.getLsbD 4) revertFx

/-- The actions of a CTRL write beyond its stored bits (03 R62: they take effect at the write). -/
def ctrlFx (b : Blk) (n : Nat) (v : Word32) (s : State) : State :=
  match b with
  | .glb => softResetFx v s
  | .evt => s.cond (v.getLsbD 16) tqFlushFx
  | .clk => (s.cond (v.getLsbD 2 && s.isSender) timeSetGoFx).cond (v.getLsbD 3 && s.isSender) ppsLoadFx
  | .tsq => (s.cond (v.getLsbD 0) tsqOvfClrFx).cond (v.getLsbD 1) tsqFlushFx
  | .tun => s.cond (v.getLsbD 0) rspFlushFx
  | .str => s.cond (v.getLsbD 0) (fun s => s.srcDrop n)
  | .sdi => s.cond (v.getLsbD 0) (fun s => s.srcDrop (16 + n))
  | .dec => decFlushFx v s
  | .sag => s.cond (v.getLsbD 0) sagRelearnFx
  | .map => s.cond (v.getLsbD 0) mapStatsClrFx
  | .coil => coilCtrlFx n v s
  | .red => s.cond (v.getLsbD 0 && s.isSender) (fun s => s.ground grMANUAL)
  | .til => s.cond (v.getLsbD 0) storeClrFx
  | .cor => (s.cond (v.getLsbD 0) calReloadFx).cond (v.getLsbD 1) debtClrFx
  | .lmp => s.level R.LMP.ev_FORCED_DARK (s.flag R.LMP.FORCE_DARK)
  | .prb => s.cond (v.getLsbD 0) probeStatusResetFx
  | .drp => (s.cond (v.getLsbD 0) drpReinitFx).cond (v.getLsbD 1) drvResetFx
  | .loop => loopOpenWriteFx v s
  | .thm => s.cond (v.getLsbD 0 && s.isTile) coneClrFx
  | .phc => (s.cond (v.getLsbD 0) phcGoFx).cond (v.getLsbD 1) phcAbortFx
  | .nvs => nvsCtrlFx v s
  | .drm => (s.cond (v.getLsbD 0) (freqGoFx n v)).cond (v.getLsbD 2 && s.chReady n) (scrubNowFx n)
  | .aud => s.cond (v.getLsbD 0 && s.audioOn) audioResyncFx
  | .fw => fwCtrlFx v s
  | _ => s

/-- Blocks whose CTRL fields are stored by their action. -/
def ctrlOwn : Blk → Bool
  | .coil => true
  | .loop => true
  | .fw => true
  | _ => false

/-- A write of CTRL (03 R62). -/
def ctrlWriteFx (b : Blk) (n page : Nat) (v : Word32) (s : State) : State :=
  match rowAt 0x008 b.rows with
  | none => s
  | some r => ctrlFx b n v (s.cond (!ctrlOwn b && r.mask != 0) (fun s => s.maskedWrite page 0x008 r.mask v))

/-- A write of an RW register outside CTRL: those with an effect of their own, and the bases of enabled host queues, which ignore it
    (03 R71, R72; 06 R142). While a COMMIT write is dropped, the write of its lower word is dropped as well and sets DROPPED; the
    upper word counts CNT_DROPPED (DEDUCED, log 94). -/
def rwWriteFx (b : Blk) (n page off mask : Nat) (v : Word32) (s : State) : State :=
  match b with
  | .cmt =>
    if off = 0x604 then commitFx v s
    else if off = 0x624 then epochLoadFx v s
    else if off = 0x600 ∧ (s.role = .tile ∨ s.flag R.CMT.BUSY) then s.wr R.CMT.DROPPED 1
    else s.maskedWrite page off mask v
  | .net =>
    if off = 0x608 ∧ s.netPort n then txqTailFx n v s
    else if (off = 0x600 ∨ off = 0x604) ∧ s.flag (R.NET.TXQ_EN n) then s
    else if (off = 0x610 ∨ off = 0x614) ∧ s.flag (R.NET.RXQ_EN n) then s
    else s.maskedWrite page off mask v
  | _ => s.maskedWrite page off mask v

/-- A write of a WO register (03 R78, R81; 04 R118; 08 R217). -/
def woWriteFx (b : Blk) (n off : Nat) (v : Word32) (s : State) : State :=
  match b with
  | .evt => s.cond (off == 0x650) tqPopFx
  | .tun => if off = 0x60C then tunLaunchFx v s else s.cond (off == 0x618) rspPopFx
  | .tsq => s.cond (off == 0x614) tsqPopFx
  | .lyr => s.cond (off == 0x600) (layerReadyFx n v)
  | _ => s

/-- A write of a shadow register; the words of a station address are held against its reset value; PORT_MODE, QUAD and CHANNELS are fields
    of instance 0 only (06 R157, R159; 14 R393). -/
def shadowWriteFx (b : Blk) (n page off mask : Nat) (v : Word32) (s : State) : State :=
  let v :=
    if b = .net ∧ off = 0x044 then v ^^^ BitVec.ofNat 32 (macReset n)
    else if b = .net ∧ off = 0x048 then v ^^^ BitVec.ofNat 32 (macReset n / 2 ^ 32)
    else if b = .net ∧ off = 0x040 ∧ n ≠ 0 then v &&& 0xFFFFFFFE
    else if b = .sdi ∧ off = 0x040 ∧ n ≠ 0 then v &&& 0xFFFFFFFD
    else v
  let absent := if b = .drm ∧ n ≠ 0 ∧ off = (R.DRM.CHANNELS n).off then (2 ^ (R.DRM.CHANNELS n).w - 1) * 2 ^ (R.DRM.CHANNELS n).lo else 0
  s.maskedWrite page off (mask - (mask &&& absent)) v

/-- A write of a word of a page that answers (03 R62 to R66). -/
def pageWriteFx (b : Blk) (n page off : Nat) (v : Word32) (s : State) : State :=
  if isSdi4 b n then s.cond (off == 0x680) (counterClearFx (regKey page off) v)
  else if 0x800 ≤ off then s.windowWrite page off v
  else if off = 0x008 then ctrlWriteFx b n page v s
  else if off = 0x014 then evtEnWriteFx page v s
  else if off = 0x018 then evtPendClearFx page v s
  else if off = 0x01C then evtForceFx page v s
  else if off = 0x03C then s.maskedWrite page off 0x0FFFFFFF v
  else
    match rowAt off b.rows with
    | none => s
    | some r =>
      match r.cls with
      | .ro => s
      | .cnt => counterClearFx (regKey page off) v s
      | .rw => rwWriteFx b n page off r.mask v s
      | .wo => woWriteFx b n off v s
      | .sh => shadowWriteFx b n page off r.mask v s

/-- A register write: one that is not an aligned word with all byte enables is ignored and counted; one to an absent page is ignored
    (03 R59, R60). -/
def registerWriteFx (addr be : Nat) (v : Word32) (s : State) : State :=
  if addr % 4 ≠ 0 ∨ be % 16 ≠ 15 then s.cond (s.pageOn 0x000) (fun s => s.inc R.GLB.CNT_PARTIAL_WRITE)
  else
    match blkOf (addr / 0x1000) with
    | none => s
    | some (b, n) => s.cond (s.pageOn (addr / 0x1000)) (pageWriteFx b n (addr / 0x1000) (addr % 0x1000) v)

/-- REGISTER_WRITE (03 R60). -/
def execRegisterWrite (addr be : Nat) (v : Word32) (t : Nat) (s : State) : Host.Outcome State Fault Refusal :=
  .next (registerWriteFx addr be v (s.atTime t))

/-- A read of `len` bytes by the host returns the addressed bytes of the aligned word, in the low bits (R60). -/
def registerReadFx (addr len : Nat) (s : State) : State :=
  let x := s.busRead addr
  x.2.emit (.regRead (BitVec.ofNat 32 (fieldOf x.1 (8 * (addr % 4)) (8 * min len (4 - addr % 4)))))

/-- REGISTER_READ_LATCH (03 R60, R61). -/
def execRegisterReadLatch (r : BusRead) (t : Nat) (s : State) : Host.Outcome State Fault Refusal :=
  .next (registerReadFx r.addr r.len (s.atTime t))

/-- TIME_READ_LATCH: a read of CLK.TIME_SEC bits [31:0] (04 R84). -/
def execTimeReadLatch (t : Nat) (s : State) : Host.Outcome State Fault Refusal :=
  .next (registerReadFx (regKey 0x004 0x600) 4 (s.atTime t))

/-- TABLE_WRITE: a write to an address in a page's table window (03 R64). -/
def execTableWrite (addr : Nat) (v : Word32) (s : State) : Host.Outcome State Fault Refusal :=
  .next (s.start.cond (s.pageOn (addr / 0x1000) && decide (0x800 ≤ addr % 0x1000))
    (fun s => s.windowWrite (addr / 0x1000) (addr % 0x1000 / 4 * 4) v))

/-- VECTOR_MAP_WRITE: a word of EVT table 0, four pages' vectors (03 R74); `addr` is the byte offset in the table. -/
def execVectorMapWrite (addr : Nat) (v : Word32) (s : State) : Host.Outcome State Fault Refusal :=
  .next (s.start.cond (s.pageOn 0x001 && decide (addr < 288)) (fun s => s.setImm 0x001 0 (addr / 4) v))

/-! Management requests in a tile (10 R259; 03 R79; 16 R407). -/

/-- Read consecutive words, lowest first. -/
def State.readMany (s : State) (addr : Nat) : Nat → List Word32 × State
  | 0 => ([], s)
  | n + 1 =>
    let x := s.busRead addr
    let r := x.2.readMany (addr + 4) n
    (x.1 :: r.1, r.2)

/-- A write that reaches a tile through TUN; a soft reset acts after its answer (16 R407). -/
def mgmtWordFx (addr : Nat) (v : Word32) (s : State) : State :=
  if addr = regKey 0x000 0x008 then s.cond (fieldOf v 0 16 == 0xA5C3) (fun s => { s with boot := { s.boot with softDue := true } })
  else registerWriteFx addr 15 v s

/-- Write consecutive words, lowest first. -/
def State.writeMany (s : State) (addr : Nat) : List Word32 → State
  | [] => s
  | v :: vs => (mgmtWordFx addr v s).writeMany (addr + 4) vs

/-- A request executes: its status, its read data and the state after it (10 R259). Where REQ_OFFSET breaks the rule that its bits [1:0] are
    0, the sender's range check takes it as it is and the tile rounds it down to its word (DESIGN CHOICE, log 164). -/
def State.mgmtRun (s : State) (r : MgmtReq) : Nat × List Word32 × State :=
  let addr := regKey r.page (r.offset / 4 * 4)
  if !s.pageOn r.page then (rsABSENT_PAGE, [], s)
  else if 0x1000 < r.offset / 4 * 4 + 4 * (r.len + 1) then (rsBAD_RANGE, [], s)
  else if r.write then (rsOK, [], s.writeMany addr (r.data.take (r.len + 1)))
  else
    let x := s.readMany addr (r.len + 1)
    (rsOK, x.1, x.2)

/-- MGMT_REQ_EXECUTE: the oldest queued request executes, and its response leaves by its arrival port (10 R259, R462). With no request
    queued the read of an empty queue counts at the port that was read last, port 0 at first, and returns the last value, which is no new
    request (10 R265; log 71). -/
def mgmtExecuteFx (s : State) : State :=
  match s.mgmt.queue with
  | [] => s.inc (R.COIL.CNT_RXQ_UNDERRUN ((s.mgmt.last.map Prod.fst).getD 0))
  | (port, r) :: q =>
    let x := ({ s with mgmt := { s.mgmt with queue := q, last := some (port, r) } } : State).mgmtRun r
    if x.2.2.canSend port then x.2.2.send none (.mgmtRsp port r.src r.tag x.1 x.2.1) else x.2.2.undeliverable port

/-- MGMT_REQ_EXECUTE (10 R259). -/
def execMgmtReqExecute (t : Nat) (s : State) : Host.Outcome State Fault Refusal :=
  .next ((s.atTime t).cond s.isTile mgmtExecuteFx)

end Sys2Proof.Machine
end

