-- ==== Sys2Proof/Machine/Dispatch.lean ====
section
/-!
DEFINITION. What each command does: one arm per command, each one call of its meaning.
-/

namespace Sys2Proof.Machine

/-- The effect of a command on everything but the queue. -/
def exec (i : Instr) (s : State) : Host.Outcome State Fault Refusal :=
  match i with
  | .powerOnReset => Sys2Proof.Machine.execPowerOnReset s
  | .resetNAssert ns => Sys2Proof.Machine.execResetNAssert ns s
  | .perstAssert => Sys2Proof.Machine.execPerstAssert s
  | .softReset v => Sys2Proof.Machine.execSoftReset v s
  | .tunSoftResetDelay => Sys2Proof.Machine.execTunSoftResetDelay s
  | .coreRailFail => Sys2Proof.Machine.execCoreRailFail s
  | .xoInLoss => Sys2Proof.Machine.execXoInLoss s
  | .watchdogExpiry t => Sys2Proof.Machine.execWatchdogExpiry t s
  | .resetRelease strap testEn => Sys2Proof.Machine.execResetRelease strap testEn s
  | .bankLevelSelect bank mV => Sys2Proof.Machine.execBankLevelSelect bank mV s
  | .bisqueGo => Sys2Proof.Machine.execBisqueGo s
  | .imageVerifyDone => Sys2Proof.Machine.execImageVerifyDone s
  | .firmwareLoaded trained t => Sys2Proof.Machine.execFirmwareLoaded trained t s
  | .arm t => Sys2Proof.Machine.execArm t s
  | .bootGo => Sys2Proof.Machine.execBootGo s
  | .bootBroadcastDone => Sys2Proof.Machine.execBootBroadcastDone s
  | .bootChunkReceive port c => Sys2Proof.Machine.execBootChunkReceive port c s
  | .peerBootBroadcast port t => Sys2Proof.Machine.execPeerBootBroadcast port t s
  | .updGo => Sys2Proof.Machine.execUpdGo s
  | .updReconstructDone => Sys2Proof.Machine.execUpdReconstructDone s
  | .fwHealthWrite v => Sys2Proof.Machine.execFwHealthWrite v s
  | .confirmExpiry => Sys2Proof.Machine.execConfirmExpiry s
  | .revert => Sys2Proof.Machine.execRevert s
  | .commit hi t => Sys2Proof.Machine.execCommit hi t s
  | .commitValidationDone t => Sys2Proof.Machine.execCommitValidationDone t s
  | .epochLoad hi => Sys2Proof.Machine.execEpochLoad hi s
  | .registerWrite addr be v t => Sys2Proof.Machine.execRegisterWrite addr be v t s
  | .registerReadLatch r t => Sys2Proof.Machine.execRegisterReadLatch r t s
  | .timeReadLatch t => Sys2Proof.Machine.execTimeReadLatch t s
  | .counterClear addr v => Sys2Proof.Machine.execCounterClear addr v s
  | .tableWrite addr v => Sys2Proof.Machine.execTableWrite addr v s
  | .evtPendClear page v => Sys2Proof.Machine.execEvtPendClear page v s
  | .evtForce page v => Sys2Proof.Machine.execEvtForce page v s
  | .evtEnWrite page v => Sys2Proof.Machine.execEvtEnWrite page v s
  | .vectorMapWrite addr v => Sys2Proof.Machine.execVectorMapWrite addr v s
  | .msixMessage v t => Sys2Proof.Machine.execMsixMessage v t s
  | .eventReceive port src epoch entries => Sys2Proof.Machine.execEventReceive port src epoch entries s
  | .tqPop => Sys2Proof.Machine.execTqPop s
  | .tqFlush => Sys2Proof.Machine.execTqFlush s
  | .tunLaunch v t => Sys2Proof.Machine.execTunLaunch v t s
  | .tunTimeout tag => Sys2Proof.Machine.execTunTimeout tag s
  | .tunResponse rx tag status data => Sys2Proof.Machine.execTunResponse rx tag status data s
  | .rspPop => Sys2Proof.Machine.execRspPop s
  | .rspFlush => Sys2Proof.Machine.execRspFlush s
  | .mgmtReqReceive port r => Sys2Proof.Machine.execMgmtReqReceive port r s
  | .mgmtReqExecute t => Sys2Proof.Machine.execMgmtReqExecute t s
  | .configMarkerLaunch copy t => Sys2Proof.Machine.execConfigMarkerLaunch copy t s
  | .tickLaunch t => Sys2Proof.Machine.execTickLaunch t s
  | .bandStop port t => Sys2Proof.Machine.execBandStop port t s
  | .senderTick t => Sys2Proof.Machine.execSenderTick t s
  | .tickReceive port b t => Sys2Proof.Machine.execTickReceive port b t s
  | .configReceive port b t => Sys2Proof.Machine.execConfigReceive port b t s
  | .tileTick t => Sys2Proof.Machine.execTileTick t s
  | .tickMissing t => Sys2Proof.Machine.execTickMissing t s
  | .bandReceive port b => Sys2Proof.Machine.execBandReceive port b s
  | .segmentDecodeDone => Sys2Proof.Machine.execSegmentDecodeDone s
  | .hubBandReceive port b => Sys2Proof.Machine.execHubBandReceive port b s
  | .statusReceive port src b => Sys2Proof.Machine.execStatusReceive port src b s
  | .hubEventReceive port src entries => Sys2Proof.Machine.execHubEventReceive port src entries s
  | .beaconSlot t => Sys2Proof.Machine.execBeaconSlot t s
  | .beaconReceive port b t => Sys2Proof.Machine.execBeaconReceive port b t s
  | .beaconTimeout t => Sys2Proof.Machine.execBeaconTimeout t s
  | .linkBeaconTimer t => Sys2Proof.Machine.execLinkBeaconTimer t s
  | .linkBeaconRequest port b t => Sys2Proof.Machine.execLinkBeaconRequest port b t s
  | .linkBeaconReply port b t => Sys2Proof.Machine.execLinkBeaconReply port b t s
  | .refEdge input t => Sys2Proof.Machine.execRefEdge input t s
  | .refLoss input t => Sys2Proof.Machine.execRefLoss input t s
  | .ppsEdge t => Sys2Proof.Machine.execPpsEdge t s
  | .ppsLoss t => Sys2Proof.Machine.execPpsLoss t s
  | .ptpSync inst offset pathDelay t => Sys2Proof.Machine.execPtpSync inst offset pathDelay t s
  | .ptpAnnounce inst a t => Sys2Proof.Machine.execPtpAnnounce inst a t s
  | .ptpAnnounceTimeout inst t => Sys2Proof.Machine.execPtpAnnounceTimeout inst t s
  | .ptpSyncTimeout inst t => Sys2Proof.Machine.execPtpSyncTimeout inst t s
  | .sourceQualify src t => Sys2Proof.Machine.execSourceQualify src t s
  | .holdoverExpiry t => Sys2Proof.Machine.execHoldoverExpiry t s
  | .timeSetGo t => Sys2Proof.Machine.execTimeSetGo t s
  | .ppsLoad => Sys2Proof.Machine.execPpsLoad s
  | .loopInnerSample => Sys2Proof.Machine.execLoopInnerSample s
  | .loopOpenWrite v => Sys2Proof.Machine.execLoopOpenWrite v s
  | .sagMemoryWrite inst entry v => Sys2Proof.Machine.execSagMemoryWrite inst entry v s
  | .camsyncPulse c slot t => Sys2Proof.Machine.execCamsyncPulse c slot t s
  | .camsyncPulseEnd c t => Sys2Proof.Machine.execCamsyncPulseEnd c t s
  | .csHiz v => Sys2Proof.Machine.execCsHiz v s
  | .netFrameReceive port f t => Sys2Proof.Machine.execNetFrameReceive port f t s
  | .netLinkChange port up t => Sys2Proof.Machine.execNetLinkChange port up t s
  | .igmpReportTimer port stream leg => Sys2Proof.Machine.execIgmpReportTimer port stream leg s
  | .txqTailWrite port v t => Sys2Proof.Machine.execTxqTailWrite port v t s
  | .txFrameLaunch port t => Sys2Proof.Machine.execTxFrameLaunch port t s
  | .tsqPop => Sys2Proof.Machine.execTsqPop s
  | .tsqFlush => Sys2Proof.Machine.execTsqFlush s
  | .tsqOvfClr => Sys2Proof.Machine.execTsqOvfClr s
  | .legDown stream leg => Sys2Proof.Machine.execLegDown stream leg s
  | .pictureReady src p t => Sys2Proof.Machine.execPictureReady src p t s
  | .streamResync src t => Sys2Proof.Machine.execStreamResync src t s
  | .sdiLockChange n lock rate t => Sys2Proof.Machine.execSdiLockChange n lock rate t s
  | .decodePictureDone stream p t => Sys2Proof.Machine.execDecodePictureDone stream p t s
  | .decodeBudgetExpiry stream => Sys2Proof.Machine.execDecodeBudgetExpiry stream s
  | .decCoreTimeout => Sys2Proof.Machine.execDecCoreTimeout s
  | .decFlush v => Sys2Proof.Machine.execDecFlush v s
  | .layerReady layer v t => Sys2Proof.Machine.execLayerReady layer v t s
  | .bar4Write off data => Sys2Proof.Machine.execBar4Write off data s
  | .bar4Read off len biterrs => Sys2Proof.Machine.execBar4Read off len biterrs s
  | .tgwLineSlot line t => Sys2Proof.Machine.execTgwLineSlot line t s
  | .lineDeadline line => Sys2Proof.Machine.execLineDeadline line s
  | .compositionFrameDone => Sys2Proof.Machine.execCompositionFrameDone s
  | .saggerCrcComplete region => Sys2Proof.Machine.execSaggerCrcComplete region s
  | .hiddenRegionCompare crc => Sys2Proof.Machine.execHiddenRegionCompare crc s
  | .sagRelearn => Sys2Proof.Machine.execSagRelearn s
  | .tgpFrameStart t => Sys2Proof.Machine.execTgpFrameStart t s
  | .previewCaptureDone => Sys2Proof.Machine.execPreviewCaptureDone s
  | .tgpLineStart line late => Sys2Proof.Machine.execTgpLineStart line late s
  | .segmentDispatch => Sys2Proof.Machine.execSegmentDispatch s
  | .segmentEncodeDone engine => Sys2Proof.Machine.execSegmentEncodeDone engine s
  | .bandLaunch port t => Sys2Proof.Machine.execBandLaunch port t s
  | .mapStatsClr => Sys2Proof.Machine.execMapStatsClr s
  | .linkCdrLock port => Sys2Proof.Machine.execLinkCdrLock port s
  | .linkUp port => Sys2Proof.Machine.execLinkUp port s
  | .linkLoss port t => Sys2Proof.Machine.execLinkLoss port t s
  | .codewordUncorrectable cw => Sys2Proof.Machine.execCodewordUncorrectable cw s
  | .packetReceive port cells t => Sys2Proof.Machine.execPacketReceive port cells t s
  | .xoffRelease port => Sys2Proof.Machine.execXoffRelease port s
  | .ingressQueueRoom port => Sys2Proof.Machine.execIngressQueueRoom port s
  | .repeaterForward port p => Sys2Proof.Machine.execRepeaterForward port p s
  | .retrain port => Sys2Proof.Machine.execRetrain port s
  | .loopbackSelect port v => Sys2Proof.Machine.execLoopbackSelect port v s
  | .prbsGen port on => Sys2Proof.Machine.execPrbsGen port on s
  | .prbsChk port on lock errs => Sys2Proof.Machine.execPrbsChk port on lock errs s
  | .farLoopExpiry port => Sys2Proof.Machine.execFarLoopExpiry port s
  | .eyeReport port eye0 eye1 => Sys2Proof.Machine.execEyeReport port eye0 eye1 s
  | .discGo port t => Sys2Proof.Machine.execDiscGo port t s
  | .discoverReceive rx hops d t => Sys2Proof.Machine.execDiscoverReceive rx hops d t s
  | .discoverRspReceive port body => Sys2Proof.Machine.execDiscoverRspReceive port body s
  | .discoverTimeout port => Sys2Proof.Machine.execDiscoverTimeout port s
  | .relinquishNow t => Sys2Proof.Machine.execRelinquishNow t s
  | .relinquishReceive rx h epoch b t => Sys2Proof.Machine.execRelinquishReceive rx h epoch b t s
  | .feedreqReceive rx h epoch cause t => Sys2Proof.Machine.execFeedreqReceive rx h epoch cause t s
  | .feedreqRepeat t => Sys2Proof.Machine.execFeedreqRepeat t s
  | .senderFeedreq port node epoch cause t => Sys2Proof.Machine.execSenderFeedreq port node epoch cause t s
  | .loopCheckTimeout port => Sys2Proof.Machine.execLoopCheckTimeout port s
  | .hubTickLaunch t => Sys2Proof.Machine.execHubTickLaunch t s
  | .storeClr => Sys2Proof.Machine.execStoreClr s
  | .slotComputeStart t => Sys2Proof.Machine.execSlotComputeStart t s
  | .slotComputeDone t => Sys2Proof.Machine.execSlotComputeDone t s
  | .calReload => Sys2Proof.Machine.execCalReload s
  | .calReloadDone bad => Sys2Proof.Machine.execCalReloadDone bad s
  | .calRecordWrite addr v => Sys2Proof.Machine.execCalRecordWrite addr v s
  | .debtClr => Sys2Proof.Machine.execDebtClr s
  | .slotStart slot t => Sys2Proof.Machine.execSlotStart slot t s
  | .slotLoadStart group t => Sys2Proof.Machine.execSlotLoadStart group t s
  | .slotLoadDone group t => Sys2Proof.Machine.execSlotLoadDone group t s
  | .scanWindowEnd group samples => Sys2Proof.Machine.execScanWindowEnd group samples s
  | .probeReadDone group flags absent => Sys2Proof.Machine.execProbeReadDone group flags absent s
  | .probeStatusReset => Sys2Proof.Machine.execProbeStatusReset s
  | .drpReinit => Sys2Proof.Machine.execDrpReinit s
  | .drvReset => Sys2Proof.Machine.execDrvReset s
  | .setBegin => Sys2Proof.Machine.execSetBegin s
  | .setEnd => Sys2Proof.Machine.execSetEnd s
  | .nvsWriteGo v => Sys2Proof.Machine.execNvsWriteGo v s
  | .nvsReadGo v => Sys2Proof.Machine.execNvsReadGo v s
  | .settingsSave => Sys2Proof.Machine.execSettingsSave s
  | .coneSaveNow => Sys2Proof.Machine.execConeSaveNow s
  | .mramWriteDone mismatches t => Sys2Proof.Machine.execMramWriteDone mismatches t s
  | .coneSaveTimer t => Sys2Proof.Machine.execConeSaveTimer t s
  | .scrubTimer corrected uncorr t => Sys2Proof.Machine.execScrubTimer corrected uncorr t s
  | .scrubLateAlarm => Sys2Proof.Machine.execScrubLateAlarm s
  | .saveLateAlarm => Sys2Proof.Machine.execSaveLateAlarm s
  | .backgroundUnitStart t => Sys2Proof.Machine.execBackgroundUnitStart t s
  | .phcGo t => Sys2Proof.Machine.execPhcGo t s
  | .phcAbort => Sys2Proof.Machine.execPhcAbort s
  | .phaseEdge light stamp => Sys2Proof.Machine.execPhaseEdge light stamp s
  | .sensorRead n ack raw t => Sys2Proof.Machine.execSensorRead n ack raw t s
  | .dieModelStep powers outOfRange t => Sys2Proof.Machine.execDieModelStep powers outOfRange t s
  | .dieThrottleEval => Sys2Proof.Machine.execDieThrottleEval s
  | .coneClr => Sys2Proof.Machine.execConeClr s
  | .refreshTimer ch rank hits => Sys2Proof.Machine.execRefreshTimer ch rank hits s
  | .patrolScrubLine ch err => Sys2Proof.Machine.execPatrolScrubLine ch err s
  | .scrubNow ch => Sys2Proof.Machine.execScrubNow ch s
  | .dramAlert ch wcrc => Sys2Proof.Machine.execDramAlert ch wcrc s
  | .freqGo v => Sys2Proof.Machine.execFreqGo v s
  | .freqDone => Sys2Proof.Machine.execFreqDone s
  | .audioResync => Sys2Proof.Machine.execAudioResync s
  | .audioMute v => Sys2Proof.Machine.execAudioMute v s
  | .audioClockLoss src => Sys2Proof.Machine.execAudioClockLoss src s
  | .audioClockReturn src => Sys2Proof.Machine.execAudioClockReturn src s
  | .asrcSample x => Sys2Proof.Machine.execAsrcSample x s
  | .audioSlip src dropFrame => Sys2Proof.Machine.execAudioSlip src dropFrame s
  | .aonRailGood => Sys2Proof.Machine.execAonRailGood s
  | .bar2Write off data => Sys2Proof.Machine.execBar2Write off data s
  | .relinquishCopy t => Sys2Proof.Machine.execRelinquishCopy t s
  | .watchdogResetDelay => Sys2Proof.Machine.execWatchdogResetDelay s
  | .mramReadDone bad => Sys2Proof.Machine.execMramReadDone bad s
  | .alertNReturn ch again => Sys2Proof.Machine.execAlertNReturn ch again s
  | .ueWindowStep => Sys2Proof.Machine.execUeWindowStep s
  | .dramScrubLateAlarm ch => Sys2Proof.Machine.execDramScrubLateAlarm ch s
  | .lineComposed line feed => Sys2Proof.Machine.execLineComposed line feed s
  | .peerBootChunk port => Sys2Proof.Machine.execPeerBootChunk port s
  | .audioOutputFrame => Sys2Proof.Machine.execAudioOutputFrame s
  | .audioInputFrame src samples status => Sys2Proof.Machine.execAudioInputFrame src samples status s
  | .sdiFrameReceive n width height scan vpid skewUs crcErrs => Sys2Proof.Machine.execSdiFrameReceive n width height scan vpid skewUs crcErrs s

end Sys2Proof.Machine
end

