-- ==== Sys2Proof/Machine/Pins.lean ====
section
/-!
DEFINITION. The states of the balls, group by group, as a view of the state: nothing is stored twice (17 R438; 05 R130; 16 R404).
-/

namespace Sys2Proof.Machine

/-- The groups of balls of the pin-state table, with their instance (17 R430, R438). -/
inductive PinGroup where
  /-- The two lanes of a coil port. -/
  | coil (p : Nat)
  /-- The lanes of a NET port. -/
  | net (p : Nat)
  /-- The SDI output. -/
  | sdi4
  | pcie
  /-- CKE and RESET_n of a DRAM channel. -/
  | dramKeep (c : Nat)
  /-- The other outputs, DQ, CB and DQS of a DRAM channel. -/
  | dramBus (c : Nat)
  /-- ROWEN, PRECHG and GCLK of a lamp group. -/
  | rows (g : Nat)
  /-- LD, LDCLK, LLAT and ROWA of a lamp group. -/
  | lampData (g : Nat)
  /-- LRB, SENSE and PHASE_IN. -/
  | lampIn
  | camsync (c : Nat)
  /-- AESO, WCLK_OUT and TDM_DO. -/
  | audioOut
  /-- TDM_WS and TDM_BCLK: outputs with TDM_MASTER, else clock inputs (15 R395). -/
  | tdmClock
  | smbus
  /-- REFA, REFB, PPS, AESI, TDM_DI and WCLK_IN. -/
  | houseIn
  | tdo
deriving DecidableEq, Repr

/-- What the device does with a group of balls (17 R438). -/
inductive PinState where
  /-- The die of this member has no such balls (00, family table; 12 R314). -/
  | absent
  /-- Unpowered: no output, no current. -/
  | failsafe
  | highZ
  /-- High-Z, with the termination off. -/
  | unterminated
  | released
  | idle
  | low
  /-- An input that nothing looks at. -/
  | ignored
  /-- The AON repeater forwards. -/
  | repeater
  /-- The PCIe endpoint, before firmware for BAR2 alone. -/
  | endpoint (bar2Only : Bool)
  /-- The unit of the core that the group belongs to drives or uses it. -/
  | inUse
  /-- A coil port that sends PRBS31, the TRAINING pattern, on both lanes (10 R250, R271). -/
  | prbs31
  /-- A coil port that sends coded data (10 R246, R250). -/
  | coded
  /-- A coil port that sends the bits it receives back, retimed (10 R272). -/
  | retimed
  /-- A camera sync output, driven high or low. -/
  | sync (high : Bool)
deriving DecidableEq, Repr

/-- XO_IN has stopped since the last release, and the port's lanes have not locked since (17 R438, R440). -/
def State.repeaterIdle (s : State) (p : Nat) : Bool :=
  (s.aon.cause).testBit rcCLOCK && !(if p = 0 then s.aon.linkUp0 else s.aon.linkUp1)

/-- What a port in use sends: the TRAINING pattern in TRAINING, under PRBS_GEN and on the balls of a near-end loop, the received bits while it
    is a far-end loop, else coded data (10 R250, R271, R272). -/
def State.portSends (s : State) (p : Nat) : PinState :=
  if s.flag (R.COIL.FAR_LOOPED p) then .retimed
  else if s.flag (R.COIL.PRBS_GEN p) || s.rd (R.COIL.LOOPBACK p) == 1 || s.rd (R.COIL.LOOPBACK p) == 2 then .prbs31
  else if s.rd (R.COIL.LINK p) = lkTRAINING && !(s.rd (R.COIL.LOOPBACK p) == 3 && (s.coilSt p).acked) then .prbs31
  else .coded

/-- A coil port's lanes (17 R438; 01 R9, R14; 16 R404). -/
def State.coilPins (s : State) (p : Nat) : PinState :=
  if s.running then (if s.portOn p then s.portSends p else .idle)
  else if s.aon.role = .tile ∧ p < 2 then (if s.stateCode == stRESET && s.repeaterIdle p then .idle else .repeater)
  else .idle

/-- A CAMSYNC output: high-Z unless the sender drives it, else at its active level during a pulse and at its inactive level otherwise
    (05 R127, R130). -/
def State.camsyncPin (s : State) (c : Nat) : PinState :=
  if s.csDriven then .sync (if (s.cs c).active then !(s.cs c).low else s.lvB (R.SCH.ACTIVE_LOW c)) else .highZ

/-- The state of a group while the AON supply set is off (17 R438). -/
def PinGroup.unpowered : PinGroup → PinState
  | .coil _ | .net _ | .sdi4 | .pcie | .lampIn | .houseIn => .failsafe
  | .smbus => .released
  | .dramKeep _ | .dramBus _ | .rows _ | .lampData _ | .camsync _ | .audioOut | .tdmClock | .tdo => .highZ

/-- The state of a group in the core's reset and in BISQUE, and from LOADED on by role, while the AON supply set is good
    (17 R438; 06 R156; 15 R394, R395). -/
def State.powered (s : State) : PinGroup → PinState
  | .coil p => s.coilPins p
  | .net p => if s.isSender && s.netPort p && s.lvB (R.NET.EN p) then .inUse else .idle
  | .sdi4 => if s.isSender && s.lvB R.PRV.SDI_EN then .inUse else .idle
  | .pcie => if s.role = .sender ∧ s.stateCode ≠ stRESET then .endpoint (!s.running) else .idle
  | .dramKeep _ => if s.isSender then .inUse else .low
  | .dramBus _ => if s.isSender then .inUse else .unterminated
  | .rows _ | .lampData _ => if s.isTile then .inUse else .low
  | .lampIn => if s.isTile then .inUse else .ignored
  | .camsync c => s.camsyncPin c
  | .audioOut => if s.isSender && s.lvB R.AUD.EN then .inUse else .low
  | .tdmClock => if s.isSender && s.lvB R.AUD.EN then .inUse else .ignored
  | .smbus => if s.running then .inUse else .released
  | .houseIn => if s.isSender then .inUse else .ignored
  | .tdo => .highZ

/-- The die has the balls of a group: a Y48 has 4 coil ports and 2 lamp groups, a Y24 2 and 1 (00, family table; 12 R314). -/
def State.hasBalls (s : State) : PinGroup → Bool
  | .coil p => s.hasPort p
  | .rows g | .lampData g => decide (g < memberGroups s.member)
  | _ => true

/-- The VDDIO bank of a group: 0 to 3 are VDDIO_LMP0 to 3, 4 is VDDIO_AUX (17 R430). -/
def PinGroup.bank : PinGroup → Option Nat
  | .rows g | .lampData g => some g
  | .camsync _ | .audioOut | .tdmClock | .smbus | .houseIn => some 4
  | _ => none

/-- The bank of a group has lost its rail: the group is unpowered while the rest of the device is not (17 R442). -/
def State.bankOff (s : State) (g : PinGroup) : Bool := g.bank.any (fun b => smGet (fun _ => 0) s.boot.banks b == 4)

/-- After a release of reset with TEST_EN high no ball outside the AON domain is driven (17 R434). -/
def undriven : PinState → PinState
  | .low => .highZ
  | x => x

/-- The state of a group of balls (17 R434, R438, R442). -/
def State.pins (s : State) (g : PinGroup) : PinState :=
  if !s.hasBalls g then .absent
  else if !s.aon.on || s.bankOff g then g.unpowered
  else if s.boot.testEn then undriven (s.powered g)
  else s.powered g

end Sys2Proof.Machine
end

