-- ==== Sys2Proof/Safety.lean ====
section
/-!
DEFINITION. What counts as a sound state and a safe run: the storage of the block keeps its canonical form, its queues keep the sizes
the spec gives them, and no owned tag of the TUN page is shared; and a command that completes.
-/

namespace Sys2Proof.Machine

/-- A byte memory is in canonical form: addresses strictly rising, no entry equal to what an unlisted address reads as. -/
def Memory.wf (m : List Host.Cell) : Bool := smWf (fun _ => 0) m

/-- Every store of words and bytes is in canonical form: the registers, the three tables, the DRAM, the MRAM and the BAR2 window. -/
def State.stored (s : State) : Bool :=
  smWf resetWord s.regs && smWf tabDefault s.imm && smWf tabDefault s.tabs && smWf tabDefault s.pend && Memory.wf s.drm.mem &&
    smWf mramDefault s.mram.mem && Memory.wf s.boot.bar2

/-- The tags that requests in flight and queued responses own (03, tunnelled access). -/
def State.ownedTags (s : State) : List Nat := s.tun.out.map TunReq.tag ++ s.tun.rsp.map TunRsp.tag

/-- Owned tags are distinct 6-bit numbers (03: every queued response holds a distinct owned tag). -/
def State.tagsOk (s : State) : Bool := decide s.ownedTags.Nodup && s.ownedTags.all (fun t => decide (t < 64))

/-- The tile-event queue holds at most 256 entries and the timestamp queue at most 64 (03 R77, 04 R113). -/
def State.queuesOk (s : State) : Bool := decide (s.evt.tq.length ≤ 256 ∧ s.net.tsq.length ≤ 64)

/-- The state is sound. -/
def State.sound (s : State) : Prop := s.stored = true ∧ s.queuesOk = true ∧ s.tagsOk = true

/-- A command completes on a state with a next state that has a property. -/
def Completes (c : Instr) (s : State) (P : State → Prop) : Prop := ∃ t, exec c s = .next t ∧ P t

/-- A step is safe: it ends in a next state, not in a fault or a refusal. -/
def Safe (s : State) : Prop := ∃ t, step s = .next t

/-- Two states agree outside the register words, the events, the outputs and the reading of the local clock. -/
def OnlyRegs (s t : State) : Prop := t = { s with regs := t.regs, evt := t.evt, out := t.out, time := t.time }

/-- Every register word outside a list of keys reads as before. -/
def WordsKept (s t : State) (ks : List Nat) : Prop := ∀ k, k ∉ ks → t.word k = s.word k

/-- A counter after an occurrence: it saturates (03 R66). -/
def Counted (s t : State) (f : Fld) : Prop := t.rd f = min (s.rd f + 1) 0xFFFFFFFF

/-- An event is pending (03 R73). -/
def Pending (t : State) (e : Evt) : Prop := t.wbit (evtPendKey e.page) e.bit = true

/-- The key of the EVT_PEND word of an event. -/
def pendKey (e : Evt) : Nat := evtPendKey e.page

/-- Nothing holds a packet back on a port at a time: its egress is empty, its partner asserts no XOFF, and no launch of a TICK on it is near
    (10 R263, R266, R269). -/
def State.egressFree (s : State) (p t : Nat) : Bool :=
  (s.coilSt p).egress.isEmpty && !s.flag (R.COIL.XOFF_RX p) &&
    !(s.tickPlanned && !s.frm.tickOut && (s.launchesAt p (s.epoch + 1) || s.handbackAt p (s.epoch + 1)) &&
      decide (s.tickLaunchAt ≤ max s.time t + 8 * us1))

/-- A packet has left by its port or waits at its egress (10 R263). -/
def Sends (t : State) (p : Nat) (o : Output) : Prop := o ∈ t.out ∨ ∃ x ∈ (t.coilSt p).egress, x.out = o

/-- Nothing changed but the outputs and the reading of the local clock. -/
def Quiet (s t : State) : Prop := t = { s with out := t.out, time := t.time }

/-- The core has been reset with a cause: every register word and table reads its reset value, commits, latches, queues, the frame clock
    and the DRAM are as at power-on; the role, the member, the MRAM and the quench latch stay; while the AON domain runs, the cause joins
    those recorded (16 R405, R406). -/
def CoreWasReset (s t : State) (cause : Nat) : Prop :=
  (∀ k, t.word k = resetWord k) ∧ t.imm = [] ∧ t.tabs = [] ∧ t.pend = [] ∧ t.latch = [] ∧ t.cmt = {} ∧ t.evt = {} ∧ t.tun = {} ∧
    t.frm = {} ∧ t.drm = {} ∧ t.role = s.role ∧ t.member = s.member ∧ t.mram = s.mram ∧ t.aon.quench = s.aon.quench ∧
    t.aon.quenchCause = s.aon.quenchCause ∧ t.aon.cause = (if s.aon.on then withBit s.aon.cause cause true else s.aon.cause)

/-- What a group of balls outside the AON domain does while the core is in reset and powered: rows, clocks and lamp data low, no DRAM device
    out of reset, no camera sync pulse, every lane of the core idle (17 R438). -/
def PinGroup.inReset (role : Role) : PinGroup → Option PinState
  | .rows _ | .lampData _ | .dramKeep _ | .audioOut => some .low
  | .dramBus _ => some .unterminated
  | .camsync _ | .tdo => some .highZ
  | .net _ | .sdi4 | .pcie => some .idle
  | .coil p => if role = .sender ∨ 2 ≤ p then some .idle else none
  | .lampIn | .tdmClock | .houseIn => some .ignored
  | .smbus => some .released

/-- Every group of balls outside the AON domain is in its state for a core in reset; without power it is as unpowered, and what the member
    lacks is absent (17 R438, R439, R442). -/
def PinsInReset (t : State) : Prop :=
  ∀ g x, g.inReset t.aon.role = some x →
    t.pins g = if !t.hasBalls g then .absent else if !t.aon.on || t.bankOff g then g.unpowered else x

/-! What a command may change: everything else it leaves alone. -/

/-- The parts of the state besides the register words: one for each field, and the shadow registers and the live copies as wholes. -/
inductive Part where
  | role
  | imm
  | tabs
  | pend
  | latch
  | aon
  | boot
  | evt
  | tun
  | mgmt
  | cmt
  | frm
  | coil
  | red
  | hub
  | clk
  | drm
  | mram
  | nvs
  | thm
  | phc
  | cor
  | sch
  | lyr
  | net
  | str
  | dec
  | prv
  | cmp
  | sag
  | map
  | til
  | lsm
  | lmp
  | aud
  | shadow
  | live
deriving DecidableEq, Repr

/-- A part is the same in two states. -/
def Part.kept (s t : State) : Part → Prop
  | .role => t.role = s.role
  | .imm => t.imm = s.imm
  | .tabs => t.tabs = s.tabs
  | .pend => t.pend = s.pend
  | .latch => t.latch = s.latch
  | .aon => t.aon = s.aon
  | .boot => t.boot = s.boot
  | .evt => t.evt = s.evt
  | .tun => t.tun = s.tun
  | .mgmt => t.mgmt = s.mgmt
  | .cmt => t.cmt = s.cmt
  | .frm => t.frm = s.frm
  | .coil => t.coil = s.coil
  | .red => t.red = s.red
  | .hub => t.hub = s.hub
  | .clk => t.clk = s.clk
  | .drm => t.drm = s.drm
  | .mram => t.mram = s.mram
  | .nvs => t.nvs = s.nvs
  | .thm => t.thm = s.thm
  | .phc => t.phc = s.phc
  | .cor => t.cor = s.cor
  | .sch => t.sch = s.sch
  | .lyr => t.lyr = s.lyr
  | .net => t.net = s.net
  | .str => t.str = s.str
  | .dec => t.dec = s.dec
  | .prv => t.prv = s.prv
  | .cmp => t.cmp = s.cmp
  | .sag => t.sag = s.sag
  | .map => t.map = s.map
  | .til => t.til = s.til
  | .lsm => t.lsm = s.lsm
  | .lmp => t.lmp = s.lmp
  | .aud => t.aud = s.aud
  | .shadow => ∀ k, isShadow k = true → t.word k = s.word k
  | .live => ∀ k, isLive k = true → t.word k = s.word k

/-- The words of the pages of a block are the same in two states. -/
def Blk.kept (s t : State) (b : Blk) : Prop := ∀ k, keyBlk k = some b → t.word k = s.word k

/-- What a command may change: parts of the state, and blocks whose register words it may write. -/
structure Reach where
  parts : List Part
  blks : List Blk
deriving DecidableEq, Repr

/-- What a reset of the core changes: everything but the member, the role and the MRAM (16 R405). -/
def resetParts : List Part :=
  [.imm, .tabs, .pend, .latch, .aon, .boot, .evt, .tun, .mgmt, .cmt, .frm, .coil, .red, .hub, .clk, .drm, .nvs, .thm, .phc, .cor,
   .sch, .lyr, .net, .str, .dec, .prv, .cmp, .sag, .map, .til, .lsm, .lmp, .aud, .shadow, .live]

/-- The block of a page, if the map has it. -/
def pageBlk (page : Nat) : List Blk :=
  match blkOf page with
  | none => []
  | some (b, _) => [b]

/-- The reach of each command by the rules of its family: a command on an event register reaches the page it names, one that can reset
    the core reaches what a reset does, a tick and a commit what an apply does. -/
def reach : Instr → Reach
  | .powerOnReset => ⟨resetParts ++ [.role], Blk.all⟩
  | .resetNAssert _ => ⟨resetParts, Blk.all⟩
  | .perstAssert => ⟨resetParts, Blk.all⟩
  | .softReset _ => ⟨resetParts, Blk.all⟩
  | .tunSoftResetDelay => ⟨resetParts, Blk.all⟩
  | .coreRailFail => ⟨resetParts, Blk.all⟩
  | .xoInLoss => ⟨resetParts, Blk.all⟩
  | .watchdogExpiry _ => ⟨resetParts, Blk.all⟩
  | .resetRelease _ _ => ⟨[.role, .aon, .boot, .evt, .shadow, .live], [.clk, .coil, .glb, .loop]⟩
  | .bankLevelSelect _ _ => ⟨resetParts, Blk.all⟩
  | .bisqueGo => ⟨[.boot], []⟩
  | .imageVerifyDone => ⟨[.boot], [.fw]⟩
  | .firmwareLoaded _ _ => ⟨[.imm, .aon, .boot, .evt, .frm, .coil, .red, .drm, .nvs, .thm, .phc, .cor, .lsm, .lmp, .shadow, .live], [.cmp, .coil, .cor, .dec, .drm, .fw, .glb, .lmp, .lsm, .nvs, .phc, .red, .sgp, .thm]⟩
  | .arm _ => ⟨[.boot, .evt, .frm], [.fw, .glb]⟩
  | .bootGo => ⟨[.evt, .coil, .red, .drm], [.coil, .drm, .fw, .red]⟩
  | .bootBroadcastDone => ⟨[.evt], [.fw]⟩
  | .bootChunkReceive _ _ => ⟨[.boot], [.fw]⟩
  | .peerBootBroadcast _ _ => ⟨[.boot], [.fw]⟩
  | .updGo => ⟨[.boot, .evt, .coil, .red, .drm], [.coil, .drm, .fw, .red]⟩
  | .updReconstructDone => ⟨[.boot, .evt], [.fw]⟩
  | .fwHealthWrite _ => ⟨[.boot, .evt, .nvs, .cor], [.cor, .fw, .nvs]⟩
  | .confirmExpiry => ⟨[.boot], []⟩
  | .revert => ⟨[.boot], []⟩
  | .commit _ _ => ⟨[.cmt], [.cmt, .glb]⟩
  | .commitValidationDone _ => ⟨[.imm, .tabs, .aon, .boot, .evt, .cmt, .frm, .coil, .red, .clk, .thm, .phc, .lyr, .net, .str, .dec, .sag, .lsm, .lmp, .live], Blk.all⟩
  | .epochLoad _ => ⟨[.cmt], [.cmt]⟩
  | .registerWrite _ _ _ _ => ⟨resetParts ++ [.mram], Blk.all⟩
  | .registerReadLatch _ _ => ⟨[.latch], []⟩
  | .timeReadLatch _ => ⟨[.latch], []⟩
  | .counterClear addr _ => ⟨[], pageBlk (addr / 0x1000)⟩
  | .tableWrite _ _ => ⟨[.imm, .pend, .cor], []⟩
  | .evtPendClear page _ => ⟨[.evt], pageBlk page⟩
  | .evtForce page _ => ⟨[.evt], pageBlk page⟩
  | .evtEnWrite page _ => ⟨[.evt], pageBlk page⟩
  | .vectorMapWrite _ _ => ⟨[.imm], []⟩
  | .msixMessage _ _ => ⟨[.evt], []⟩
  | .eventReceive _ _ _ _ => ⟨[.evt, .coil], [.coil, .evt]⟩
  | .tqPop => ⟨[.evt], [.evt]⟩
  | .tqFlush => ⟨[.evt], [.evt]⟩
  | .tunLaunch _ _ => ⟨[.evt, .tun, .coil], [.coil, .tun]⟩
  | .tunTimeout _ => ⟨[.evt, .tun], [.tun]⟩
  | .tunResponse _ _ _ _ => ⟨[.imm, .evt, .tun], [.tun]⟩
  | .rspPop => ⟨[.evt, .tun], [.tun]⟩
  | .rspFlush => ⟨[.evt, .tun], [.tun]⟩
  | .mgmtReqReceive _ _ => ⟨[.mgmt, .coil], [.coil]⟩
  | .mgmtReqExecute _ => ⟨resetParts ++ [.mram], Blk.all⟩
  | .configMarkerLaunch _ _ => ⟨[.frm, .coil], [.coil]⟩
  | .tickLaunch _ => ⟨[.evt, .frm, .coil], [.coil]⟩
  | .bandStop _ _ => ⟨[.frm, .cmp], []⟩
  | .senderTick _ => ⟨[.imm, .tabs, .aon, .boot, .evt, .cmt, .frm, .coil, .red, .clk, .thm, .phc, .lyr, .net, .str, .dec, .prv, .cmp, .sag, .map, .lsm, .lmp, .aud, .live], Blk.all⟩
  | .tickReceive _ _ _ => ⟨[.imm, .frm, .red, .cor, .til, .lsm, .lmp], [.clk, .lmp, .lsm, .sgp]⟩
  | .configReceive _ _ _ => ⟨[.imm, .boot, .evt, .cmt, .frm, .cor, .sag, .til, .lsm, .lmp], Blk.all⟩
  | .tileTick _ => ⟨[.imm, .tabs, .aon, .boot, .evt, .mgmt, .cmt, .frm, .coil, .red, .hub, .clk, .nvs, .thm, .phc, .cor, .sag, .til, .lsm, .lmp, .shadow, .live], Blk.all⟩
  | .tickMissing _ => ⟨[.imm, .tabs, .aon, .boot, .evt, .mgmt, .cmt, .frm, .coil, .red, .hub, .clk, .nvs, .thm, .phc, .cor, .sag, .til, .lsm, .lmp, .shadow, .live], Blk.all⟩
  | .bandReceive _ _ => ⟨[.evt, .til], [.coil, .til]⟩
  | .segmentDecodeDone => ⟨[.imm, .evt, .til, .lsm], [.til]⟩
  | .hubBandReceive _ _ => ⟨[.evt, .coil, .til], [.coil, .til]⟩
  | .statusReceive _ _ _ => ⟨[.hub], []⟩
  | .hubEventReceive _ _ _ => ⟨[.hub], []⟩
  | .beaconSlot _ => ⟨[.coil], [.coil]⟩
  | .beaconReceive _ _ _ => ⟨[.evt, .coil, .red, .clk], [.clk, .coil, .glb, .loop, .red]⟩
  | .beaconTimeout _ => ⟨[.evt, .red, .clk], [.clk, .coil]⟩
  | .linkBeaconTimer _ => ⟨[.coil], [.coil]⟩
  | .linkBeaconRequest _ _ _ => ⟨[.evt, .frm, .coil, .red, .clk, .phc], [.coil, .phc, .red, .thm]⟩
  | .linkBeaconReply _ _ _ => ⟨[.evt, .frm, .coil, .red, .clk, .phc], [.coil, .phc, .red, .thm]⟩
  | .refEdge _ _ => ⟨[.evt, .frm, .clk], [.clk, .loop, .ptp, .ref]⟩
  | .refLoss _ _ => ⟨[.evt, .clk], [.clk, .ptp, .ref]⟩
  | .ppsEdge _ => ⟨[.evt, .frm, .clk], [.clk, .ptp, .ref]⟩
  | .ppsLoss _ => ⟨[.evt], [.ref]⟩
  | .ptpSync _ _ _ _ => ⟨[.evt, .frm, .clk], [.clk, .loop, .ptp, .ref]⟩
  | .ptpAnnounce _ _ _ => ⟨[.imm, .evt, .clk], [.clk, .ptp]⟩
  | .ptpAnnounceTimeout _ _ => ⟨[.evt, .clk], [.clk, .ptp]⟩
  | .ptpSyncTimeout _ _ => ⟨[.evt, .clk], [.clk, .ptp]⟩
  | .sourceQualify _ _ => ⟨[.evt, .clk], [.clk, .ptp]⟩
  | .holdoverExpiry _ => ⟨[.evt, .coil, .red, .clk], [.clk, .coil, .red]⟩
  | .timeSetGo _ => ⟨[.evt, .frm, .clk], [.clk, .ptp]⟩
  | .ppsLoad => ⟨[.clk], [.clk]⟩
  | .loopInnerSample => ⟨[.evt, .clk], [.clk, .loop]⟩
  | .loopOpenWrite _ => ⟨[.evt, .clk], [.clk, .loop]⟩
  | .sagMemoryWrite _ _ _ => ⟨[.imm], []⟩
  | .camsyncPulse _ _ _ => ⟨[.evt, .sch], [.sch]⟩
  | .camsyncPulseEnd _ _ => ⟨[.evt, .sch], [.sch]⟩
  | .csHiz _ => ⟨[], [.sch]⟩
  | .netFrameReceive _ _ _ => ⟨[.imm, .evt, .coil, .red, .drm, .net, .str, .dec, .aud], [.aud, .coil, .dec, .drm, .net, .ptp, .red, .str]⟩
  | .netLinkChange _ _ _ => ⟨[.evt, .clk, .net, .str], [.clk, .net, .ptp, .str]⟩
  | .igmpReportTimer _ _ _ => ⟨[.net], []⟩
  | .txqTailWrite _ _ _ => ⟨[.net], [.net]⟩
  | .txFrameLaunch _ _ => ⟨[.evt, .coil, .red, .drm, .net, .prv], [.coil, .drm, .net, .prv, .red, .tsq]⟩
  | .tsqPop => ⟨[.evt, .net], [.tsq]⟩
  | .tsqFlush => ⟨[.evt, .net], [.tsq]⟩
  | .tsqOvfClr => ⟨[], [.tsq]⟩
  | .legDown _ _ => ⟨[.evt], [.str]⟩
  | .pictureReady _ _ _ => ⟨[.evt, .coil, .red, .drm, .lyr, .str], [.coil, .drm, .lse, .lyr, .red, .sdi, .str]⟩
  | .streamResync _ _ => ⟨[.str], [.str]⟩
  | .sdiLockChange _ _ _ _ => ⟨[.evt, .str], [.sdi, .str]⟩
  | .decodePictureDone _ _ _ => ⟨[.evt, .coil, .red, .drm, .lyr, .str, .dec], [.coil, .dec, .drm, .lse, .lyr, .red, .str]⟩
  | .decodeBudgetExpiry _ => ⟨[.evt, .dec], [.dec]⟩
  | .decCoreTimeout => ⟨[.evt, .dec], [.dec]⟩
  | .decFlush _ => ⟨[.evt, .dec], [.dec]⟩
  | .layerReady _ _ _ => ⟨[.lyr], [.lse, .lyr]⟩
  | .bar4Write _ _ => ⟨[.imm, .evt, .coil, .red, .drm, .lyr, .sag], [.coil, .drm, .lse, .lyr, .red, .sag]⟩
  | .bar4Read _ _ _ => ⟨[.evt, .coil, .red, .drm], [.coil, .drm, .red]⟩
  | .tgwLineSlot _ _ => ⟨[.evt], [.tg]⟩
  | .lineDeadline _ => ⟨[.imm, .evt, .coil, .red, .drm, .cmp, .sag], [.cmp, .coil, .drm, .lyr, .red, .sag, .scl, .tg]⟩
  | .compositionFrameDone => ⟨[.evt], [.cmp, .tg]⟩
  | .saggerCrcComplete _ => ⟨[.imm, .evt, .coil, .red, .drm, .sag], [.coil, .drm, .red, .sag]⟩
  | .hiddenRegionCompare _ => ⟨[.evt, .coil, .red], [.coil, .red, .sag]⟩
  | .sagRelearn => ⟨[.imm], []⟩
  | .tgpFrameStart _ => ⟨[.prv], [.prv, .sdi]⟩
  | .previewCaptureDone => ⟨[.evt, .coil, .red, .drm, .prv], [.coil, .drm, .prv, .red, .tg]⟩
  | .tgpLineStart _ _ => ⟨[.evt, .coil, .red, .drm, .prv], [.coil, .drm, .prv, .red, .sdi, .tg]⟩
  | .segmentDispatch => ⟨[.map], [.glz]⟩
  | .segmentEncodeDone _ => ⟨[.evt, .coil, .red, .drm, .map], [.coil, .drm, .glz, .map, .red]⟩
  | .bandLaunch _ _ => ⟨[.coil], [.map]⟩
  | .mapStatsClr => ⟨[.imm], []⟩
  | .linkCdrLock _ => ⟨[.evt], [.coil]⟩
  | .linkUp _ => ⟨[.aon, .evt, .coil], [.coil]⟩
  | .linkLoss _ _ => ⟨[.aon, .evt, .frm, .coil, .red, .clk, .phc], [.coil, .phc, .red, .thm]⟩
  | .codewordUncorrectable _ => ⟨[.evt, .frm, .coil, .red, .clk, .phc], [.coil, .phc, .red, .thm]⟩
  | .packetReceive _ _ _ => ⟨[.evt, .coil], [.coil]⟩
  | .xoffRelease _ => ⟨[], [.coil]⟩
  | .ingressQueueRoom _ => ⟨[.mgmt, .coil], []⟩
  | .repeaterForward _ _ => ⟨resetParts, Blk.all⟩
  | .retrain _ => ⟨[.evt, .frm, .coil, .red, .clk, .phc], [.coil, .phc, .red, .thm]⟩
  | .loopbackSelect _ _ => ⟨[.evt, .frm, .coil, .red, .clk, .phc], [.coil, .phc, .red, .thm]⟩
  | .prbsGen _ _ => ⟨[.evt, .frm, .coil, .red, .clk, .phc], [.coil, .phc, .red, .thm]⟩
  | .prbsChk _ _ _ _ => ⟨[.evt, .frm, .coil, .red, .clk, .phc], [.coil, .phc, .red, .thm]⟩
  | .farLoopExpiry _ => ⟨[.evt, .frm, .coil, .red, .clk, .phc], [.coil, .phc, .red, .thm]⟩
  | .eyeReport _ _ _ => ⟨[.evt], [.coil]⟩
  | .discGo _ _ => ⟨[.evt, .coil], [.coil]⟩
  | .discoverReceive _ _ _ _ => ⟨resetParts, Blk.all⟩
  | .discoverRspReceive _ _ => ⟨[.imm, .evt, .coil, .map], [.coil]⟩
  | .discoverTimeout _ => ⟨[.evt], [.coil]⟩
  | .relinquishNow _ => ⟨[.evt, .coil, .red], [.coil, .red]⟩
  | .relinquishReceive _ _ _ _ _ => ⟨[.evt, .frm, .coil, .red, .phc], [.coil, .phc, .red, .thm]⟩
  | .feedreqReceive _ _ _ _ _ => ⟨[.evt, .frm, .coil, .red, .phc], [.coil, .phc, .red, .thm]⟩
  | .feedreqRepeat _ => ⟨[.coil], [.coil, .red]⟩
  | .senderFeedreq _ _ _ _ _ => ⟨[.evt, .coil, .red], [.red]⟩
  | .loopCheckTimeout _ => ⟨[.evt, .red], [.red]⟩
  | .hubTickLaunch _ => ⟨[.coil], [.coil]⟩
  | .storeClr => ⟨[.til], []⟩
  | .slotComputeStart _ => ⟨[.imm, .cor, .lsm], [.lsm]⟩
  | .slotComputeDone _ => ⟨[.imm, .thm, .cor, .lsm], [.lsm]⟩
  | .calReload => ⟨[.evt, .nvs, .cor], [.cor, .nvs]⟩
  | .calReloadDone _ => ⟨[.imm, .evt, .nvs, .cor], [.cor, .nvs]⟩
  | .calRecordWrite _ _ => ⟨[.imm, .cor], []⟩
  | .debtClr => ⟨[.cor], []⟩
  | .slotStart _ _ => ⟨[.imm, .evt, .lsm, .lmp], [.drp, .lmp, .prb, .sgp]⟩
  | .slotLoadStart _ _ => ⟨[.lmp], [.drp]⟩
  | .slotLoadDone _ _ => ⟨[.lsm, .lmp], []⟩
  | .scanWindowEnd _ _ => ⟨[.imm, .evt, .clk, .lmp], [.lmp, .loop, .sgp]⟩
  | .probeReadDone _ _ _ => ⟨[.imm, .evt, .lmp], [.cor, .drp, .prb]⟩
  | .probeStatusReset => ⟨[.lmp], []⟩
  | .drpReinit => ⟨[.lmp], []⟩
  | .drvReset => ⟨[.lmp], []⟩
  | .setBegin => ⟨[.evt], [.nvs]⟩
  | .setEnd => ⟨[.evt], [.nvs]⟩
  | .nvsWriteGo _ => ⟨[.evt, .nvs, .cor], [.cor, .nvs]⟩
  | .nvsReadGo _ => ⟨[.evt, .nvs, .cor], [.cor, .nvs]⟩
  | .settingsSave => ⟨[.evt, .nvs, .cor], [.cor, .nvs]⟩
  | .coneSaveNow => ⟨[.evt, .mram, .nvs], [.nvs]⟩
  | .mramWriteDone _ _ => ⟨[.evt, .mram, .nvs, .cor], [.cor, .nvs, .phc]⟩
  | .coneSaveTimer _ => ⟨[.evt, .mram, .nvs], [.nvs]⟩
  | .scrubTimer _ _ _ => ⟨[.evt, .mram, .nvs], [.nvs]⟩
  | .scrubLateAlarm => ⟨[.evt], [.nvs]⟩
  | .saveLateAlarm => ⟨[.evt], [.nvs]⟩
  | .backgroundUnitStart _ => ⟨[.evt, .mram, .nvs], [.nvs]⟩
  | .phcGo _ => ⟨[.evt, .phc], [.phc]⟩
  | .phcAbort => ⟨[.evt, .frm, .phc], [.phc, .thm]⟩
  | .phaseEdge _ _ => ⟨[.phc], []⟩
  | .sensorRead _ _ _ _ => ⟨[.aon, .evt, .frm, .coil, .red, .thm, .phc, .lsm, .lmp], [.cmp, .coil, .glb, .lmp, .lsm, .phc, .red, .sgp, .thm]⟩
  | .dieModelStep _ _ _ => ⟨[.aon, .evt, .frm, .coil, .red, .nvs, .thm, .phc, .cor, .lsm, .lmp], [.cmp, .coil, .cor, .glb, .lmp, .lsm, .nvs, .phc, .red, .sgp, .thm]⟩
  | .dieThrottleEval => ⟨[.evt, .thm], [.lsm, .thm]⟩
  | .coneClr => ⟨[.thm], []⟩
  | .refreshTimer _ _ _ => ⟨[.drm], [.drm]⟩
  | .patrolScrubLine _ _ => ⟨[.evt, .coil, .red, .drm], [.coil, .drm, .red]⟩
  | .scrubNow _ => ⟨[.drm], []⟩
  | .dramAlert _ _ => ⟨[.evt, .drm], [.drm]⟩
  | .freqGo _ => ⟨[.drm], [.drm]⟩
  | .freqDone => ⟨[.imm, .evt, .coil, .red, .drm], [.coil, .drm, .red]⟩
  | .audioResync => ⟨[.aud], []⟩
  | .audioMute _ => ⟨[], [.aud]⟩
  | .audioClockLoss _ => ⟨[.evt, .aud], [.aud]⟩
  | .audioClockReturn _ => ⟨[.evt, .aud], [.aud]⟩
  | .asrcSample _ => ⟨[.evt, .clk], [.aud, .loop]⟩
  | .audioSlip _ _ => ⟨[.evt, .aud], [.aud]⟩
  | .aonRailGood => ⟨[.aon], []⟩
  | .bar2Write _ _ => ⟨[.boot], []⟩
  | .relinquishCopy _ => ⟨[.coil, .red], [.coil]⟩
  | .watchdogResetDelay => ⟨resetParts, Blk.all⟩
  | .mramReadDone _ => ⟨[.imm, .evt, .nvs, .cor], [.cor, .nvs]⟩
  | .alertNReturn _ _ => ⟨[.evt, .coil, .red, .drm], [.coil, .drm, .red]⟩
  | .ueWindowStep => ⟨[.evt, .coil, .red, .drm], [.coil, .drm, .red]⟩
  | .dramScrubLateAlarm _ => ⟨[.evt], [.drm]⟩
  | .lineComposed _ _ => ⟨[.imm, .evt, .coil, .red, .drm, .cmp, .sag], [.cmp, .coil, .drm, .lyr, .red, .sag, .scl]⟩
  | .peerBootChunk _ => ⟨[.boot, .evt, .coil], [.coil, .fw]⟩
  | .audioOutputFrame => ⟨[.evt, .coil, .red, .drm, .aud], [.aud, .coil, .drm, .red]⟩
  | .audioInputFrame _ _ _ => ⟨[.imm, .evt, .aud], [.aud]⟩
  | .sdiFrameReceive _ _ _ _ _ _ _ => ⟨[.evt], [.sdi]⟩

/-- The commands in which packets that waited leave a port, or a link goes down: the response of a confirmed DISCOVER reset may be one of
    them, and the core is reset after it (10 R274; log 204). -/
def canReset : Instr → Bool
  | .tickLaunch _ | .linkBeaconRequest _ _ _ | .linkBeaconReply _ _ _ | .linkLoss _ _ | .codewordUncorrectable _ | .packetReceive _ _ _
  | .retrain _ | .loopbackSelect _ _ | .prbsGen _ _ | .prbsChk _ _ _ _ | .farLoopExpiry _ => true
  | _ => false

/-- The reach of a command in a state: that of its family, and that of a reset of the core where one is due after a response. -/
def reachIn (s : State) (c : Instr) : Reach := if s.boot.coilDue.isSome ∧ canReset c then ⟨resetParts, Blk.all⟩ else reach c

/-- The commands that can run many others' effects: an apply, a tick and a write through the bus or a request. -/
def isWide : Instr → Bool
  | .senderTick _ | .tileTick _ | .tickMissing _ | .commitValidationDone _ | .registerWrite _ _ _ _ | .mgmtReqExecute _ => true
  | _ => false

/-- A command keeps to its reach: the member and the queue stay, and so do every part and every block outside it. -/
def KeepsTo (c : Instr) (s t : State) : Prop :=
  t.member = s.member ∧ t.pending = s.pending ∧ (∀ p : Part, p ∉ (reachIn s c).parts → p.kept s t) ∧
    (∀ b : Blk, b ∉ (reachIn s c).blks → b.kept s t)

end Sys2Proof.Machine
end

