-- ==== Sys2Proof/Certificates/Slice0/Obligations.lean ====
section
/-!
DEFINITION. The statements for the provers. A command's statement names the states and operands on which it has its own effect, what
that effect leaves, and what it leaves alone.
-/

open Sys2Proof Sys2Proof.Machine

/-- A step of a state whose queue begins with a command c runs exactly c, on the state with the rest of the queue. -/
def Obligations.FrontCommandRuns : Prop :=
  ∀ (s : State) (c : Instr) (q : List Instr), s.pending = c :: q → step s = exec c { s with pending := q }

/-- A step of a state with an empty queue leaves the state as it is. This is the model's choice (log 6): no rule of the spec speaks of it. -/
def Obligations.EmptyQueueIdles : Prop :=
  ∀ s : State, s.pending = [] → step s = .next s

/-- Whatever the state and the operands, a command ends in a next state, never in a fault or a refusal; the spec names no command that stops the block (that commands on an absent unit or in the wrong state have no effect is the model's choice, log 3). -/
def Obligations.EveryCommandAnswersANextState : Prop :=
  ∀ (c : Instr) (s : State), ∃ t, exec c s = .next t

/-- A register write that is not aligned, or has not all four byte enables set, changes no register word but CNT_PARTIAL_WRITE of the GLB page, which counts it up to saturation (R60). A write through the window of a page that answers, to a table with a pending copy, changes the bits of that word of the pending copy that hold a field, and nothing else, so not the contents in force (R6, R64). A write of the vector map sets the vectors of four pages (R74). That reserved bits of a table word stay 0 is the model's reading (log 48). -/
def Obligations.PartialWritesAndTableWrites : Prop :=
  (∀ (addr be : Nat) (v : Word32) (t : Nat) (s : State), addr % 4 ≠ 0 ∨ be % 16 ≠ 15 → s.pageOn 0x000 = true →
    Completes (.registerWrite addr be v t) s (fun u =>
      OnlyRegs s u ∧ Counted s u R.GLB.CNT_PARTIAL_WRITE ∧ WordsKept s u [R.GLB.CNT_PARTIAL_WRITE.key])) ∧
  (∀ (page off tab i : Nat) (v : Word32) (s : State), s.pageOn page = true → off % 4 = 0 → 0x800 ≤ off → off < 0x1000 →
    s.tblWindow page off = some (tab, i, .pend) →
    Completes (.tableWrite (regKey page off) v) s (fun u => u = { s with out := [], pend := u.pend } ∧
      ∀ p k j, u.pendW p k j = if tabKey p k j = tabKey page tab i then v &&& BitVec.ofNat 32 (tabMask page tab i) else s.pendW p k j)) ∧
  (∀ (addr : Nat) (v : Word32) (s : State), s.pageOn 0x001 = true → addr < 288 →
    Completes (.vectorMapWrite addr v) s (fun u => u = { s with out := [], imm := u.imm } ∧
      ∀ k j, u.immW 0x001 k j = if tabKey 0x001 k j = tabKey 0x001 0 (addr / 4) then v else s.immW 0x001 k j))

/-- A full aligned write to a shadow register of a page that answers stores the writable bits of that word and of no other, so no live copy changes; the word that it then reads as is the one stored (the station address of a NET port is held against its reset value and reads as written; bit 0 of the configuration word of NET1 to NET7 and bit 1 of that of SDI1 to SDI3 are reserved there). A write to a live copy changes nothing. At reset every shadow register and its live copy hold the same value, the reset value, and an unwritten register reads as it. -/
def Obligations.ShadowRegistersAndLiveCopies : Prop :=
  (∀ (b : Blk) (n page off : Nat) (r : Row) (v : Word32) (t : Nat) (s : State), blkOf page = some (b, n) → s.pageOn page = true →
    isSdi4 b n = false → off % 4 = 0 → off < 0x1000 → rowAt off b.rows = some r → r.cls = .sh →
    Completes (.registerWrite (regKey page off) 15 v t) s (fun u =>
      OnlyRegs s u ∧ WordsKept s u [regKey page off] ∧
      (b ≠ .net ∨ (off ≠ 0x044 ∧ off ≠ 0x048) → ¬(off = 0x040 ∧ n ≠ 0 ∧ (b = .net ∨ b = .sdi)) →
        u.word (regKey page off) = (s.word (regKey page off) &&& ~~~(BitVec.ofNat 32 r.mask)) ||| (v &&& BitVec.ofNat 32 r.mask)) ∧
      (off = 0x040 → n ≠ 0 → b = .net ∨ b = .sdi → u.word (regKey page off) = (s.word (regKey page off) &&& ~~~(BitVec.ofNat 32 r.mask)) |||
        (v &&& BitVec.ofNat 32 (if b = .net then 0xFFFFFFFE else 0xFFFFFFFD) &&& BitVec.ofNat 32 r.mask)) ∧
      (b = .net → off = 0x044 → u.busWord (regKey page off) = v) ∧
      ((∀ x ∈ u.views b n, x.1.key ≠ regKey page off ∧ x.1.key + 4 ≠ regKey page off) →
        u.busWord (regKey page off) = u.word (regKey page off)))) ∧
  (∀ (b : Blk) (n page off : Nat) (v : Word32) (t : Nat) (s : State), blkOf page = some (b, n) → s.pageOn page = true →
    off % 4 = 0 → 0x440 ≤ off → off < b.shadowEnd + 0x400 →
    Completes (.registerWrite (regKey page off) 15 v t) s (fun u => u = s.atTime t)) ∧
  (∀ k, isShadow k = true → State.reset.word k = resetWord k ∧ State.reset.word (k + 0x400) = resetWord k)

/-- A read of 1 to 4 bytes of an aligned word whose latched half is not held returns the addressed bytes of the word as it reads now (R60); when the word is the lower half of a 64-bit value, of a register or of the cone counters in their table window, the half above it is latched as it reads now, and else nothing is (R61). A read of a latched half returns what was latched, and drops the latch. No read changes a register word. -/
def Obligations.ReadsReturnAndLatch : Prop :=
  (∀ (addr len t : Nat) (s : State), 1 ≤ len → addr % 4 + len ≤ 4 → (∀ p ∈ s.latch, p.1 ≠ addr / 4 * 4) →
    Completes (.registerReadLatch ⟨addr, len⟩ t) s (fun u =>
      u = { s with out := u.out, time := u.time, latch := u.latch } ∧
      u.out = [.regRead (BitVec.ofNat 32 (fieldOf ((s.atTime t).busWord (addr / 4 * 4)) (8 * (addr % 4)) (8 * len)))] ∧
      (isLowWord (addr / 4 * 4 / 0x1000) (addr / 4 * 4 % 0x1000) = true ∨
          s.lowInWindow (addr / 4 * 4 / 0x1000) (addr / 4 * 4 % 0x1000) = true → addr / 4 * 4 ≠ 0x4600 →
        s.pageOn (addr / 4 * 4 / 0x1000) = true → (addr / 4 * 4 + 4, (s.atTime t).busWord (addr / 4 * 4 + 4)) ∈ u.latch) ∧
      (s.latchedBy (addr / 4 * 4 / 0x1000) (addr / 4 * 4 % 0x1000) = [] → u.latch = s.latch))) ∧
  (∀ (addr len t : Nat) (x : Word32) (s : State), 1 ≤ len → addr % 4 + len ≤ 4 →
    s.latch.find? (fun p => p.1 == addr / 4 * 4) = some (addr / 4 * 4, x) →
    Completes (.registerReadLatch ⟨addr, len⟩ t) s (fun u =>
      u = { s with out := [.regRead (BitVec.ofNat 32 (fieldOf x (8 * (addr % 4)) (8 * len)))], time := max s.time t, latch := s.latch.filter (fun p => p.1 != addr / 4 * 4) }))

/-- A read of CLK.TIME_SEC bits [31:0] returns them as they read now and latches the upper seconds word, TIME_NS and TIME_FRAC: the next read of each of those three, at any later time, returns what it read as then. -/
def Obligations.TimeReadsAreOneTime : Prop :=
  ∀ (t : Nat) (s : State), s.latch = [] → s.pageOn 0x004 = true →
    Completes (.timeReadLatch t) s (fun u =>
      u = { s with out := u.out, time := u.time, latch := u.latch } ∧ u.out = [.regRead ((s.atTime t).busWord 0x4600)] ∧
      ∀ k ∈ [0x4604, 0x4608, 0x460C], ∀ t2 : Nat,
        Completes (.registerReadLatch ⟨k, 4⟩ t2) u (fun w =>
          w = { u with out := [.regRead ((s.atTime t).busWord k)], time := w.time, latch := w.latch }))

/-- The oldest queued request of a tile leaves the queue and is kept as the value read last (R265). A request for a page that does not answer, or beyond the page's end, changes nothing else and is answered with ABSENT_PAGE or BAD_RANGE; a read of one word is answered with that word; each answer leaves by the arrival port, when that can send and nothing holds its packets back (R259). A single-word write to a shadow register stores its writable bits, changes no other word, and is answered with OK. That the page is judged before the range is the model's reading (log 75). -/
def Obligations.ManagementReadsAnswer : Prop :=
  (∀ (port : Nat) (r : MgmtReq) (q : List (Nat × MgmtReq)) (t : Nat) (s : State), s.isTile = true → s.mgmt.queue = (port, r) :: q →
    s.canSend port = true → s.egressFree port t = true → s.pageOn r.page = false →
    Completes (.mgmtReqExecute t) s (fun u =>
      u = { s with time := max s.time t, mgmt := { s.mgmt with queue := q, last := some (port, r) }, out := [.mgmtRsp port r.src r.tag rsABSENT_PAGE []] })) ∧
  (∀ (port : Nat) (r : MgmtReq) (q : List (Nat × MgmtReq)) (t : Nat) (s : State), s.isTile = true → s.mgmt.queue = (port, r) :: q →
    s.canSend port = true → s.egressFree port t = true → s.pageOn r.page = true → 0x1000 < r.offset / 4 * 4 + 4 * (r.len + 1) →
    Completes (.mgmtReqExecute t) s (fun u =>
      u = { s with time := max s.time t, mgmt := { s.mgmt with queue := q, last := some (port, r) }, out := [.mgmtRsp port r.src r.tag rsBAD_RANGE []] })) ∧
  (∀ (port : Nat) (r : MgmtReq) (q : List (Nat × MgmtReq)) (t : Nat) (s : State), s.isTile = true → s.mgmt.queue = (port, r) :: q →
    s.canSend port = true → s.egressFree port t = true → s.pageOn r.page = true → r.offset < 0x1000 → r.write = false → r.len = 0 →
    s.latch = [] →
    Completes (.mgmtReqExecute t) s (fun u =>
      u = { s with time := max s.time t, mgmt := { s.mgmt with queue := q, last := some (port, r) }, out := u.out, latch := u.latch } ∧
      u.out = [.mgmtRsp port r.src r.tag rsOK
        [({ s with out := [], time := max s.time t, mgmt := { s.mgmt with queue := q, last := some (port, r) } } : State).busWord (regKey r.page (r.offset / 4 * 4))]])) ∧
  (∀ (port n off : Nat) (b : Blk) (x : Row) (r : MgmtReq) (v : Word32) (q : List (Nat × MgmtReq)) (t : Nat) (s : State), s.isTile = true →
    s.mgmt.queue = (port, r) :: q → s.canSend port = true → s.egressFree port t = true → s.pageOn r.page = true →
    blkOf r.page = some (b, n) → r.offset = off → off % 4 = 0 → off < 0x1000 → rowAt off b.rows = some x → x.cls = .sh → r.write = true →
    r.len = 0 → r.data = [v] →
    Completes (.mgmtReqExecute t) s (fun u =>
      u = { s with time := max s.time t, mgmt := { s.mgmt with queue := q, last := some (port, r) }, regs := u.regs, out := [.mgmtRsp port r.src r.tag rsOK []] } ∧
      WordsKept s u [regKey r.page off] ∧
      u.word (regKey r.page off) = (s.word (regKey r.page off) &&& ~~~(BitVec.ofNat 32 x.mask)) ||| (v &&& BitVec.ofNat 32 x.mask)))

/-- On a page that answers, a write to EVT_PEND clears the written ones and nothing else of the page (R73), and lets them be reported again (R76); the pending bit of a masked vector, with the message that it stands for, goes where no page signals to the vector any more (R74; log 153); a write to EVT_FORCE makes pending exactly the written ones that the page implements, besides those pending already; a write to EVT_EN stores the enables that the page implements, and changes no pending bit. An event that becomes pending and is enabled leaves its page's vector one message more to send on a sender whose map gives a vector below 64 (R73, R74). MSIX_MESSAGE sends one message of an owed vector that has sent none before: one of those owed, or with HOLDOFF, or for a vector whose pending bit was set, one for all (R74, R78). A map byte from 64 to 254 names no vector (the model's choice, log 202). While the host masks the vector its pending bit is set instead and the message stays owed (log 153); a vector that sent one less than HOLDOFF µs ago waits (R78). -/
def Obligations.EventsArePostedAndDelivered : Prop :=
  (∀ (page : Nat) (v : Word32) (s : State), s.pageOn page = true →
    Completes (.evtPendClear page v) s (fun u =>
      OnlyRegs s u ∧ WordsKept s u [evtPendKey page] ∧ u.word (evtPendKey page) = s.word (evtPendKey page) &&& ~~~v ∧
      u.out = [] ∧ u.evt.tq = s.evt.tq ∧
      (∀ vec, vec ∈ u.evt.pba ↔ vec ∈ s.evt.pba ∧ ∃ p, p < 0x120 ∧ u.signals vec p = true) ∧
      (∀ vec, u.evt.due.count vec = if vec ∈ s.evt.pba ∧ vec ∉ u.evt.pba then 0 else s.evt.due.count vec) ∧
      ∀ i, v.getLsbD i = true → (smGet (fun _ => 0) u.evt.sent page).testBit i = false)) ∧
  (∀ (page : Nat) (v : Word32) (s : State), s.pageOn page = true →
    Completes (.evtForce page v) s (fun u =>
      OnlyRegs s u ∧ WordsKept s u [evtPendKey page] ∧
      ∀ i, i < 32 → u.wbit (evtPendKey page) i =
        (s.wbit (evtPendKey page) i || (v.getLsbD i && (evtMaskOf page).testBit i)))) ∧
  (∀ (page : Nat) (v : Word32) (s : State), s.pageOn page = true →
    Completes (.evtEnWrite page v) s (fun u =>
      OnlyRegs s u ∧ WordsKept s u [evtEnKey page] ∧ u.word (evtEnKey page) = v &&& BitVec.ofNat 32 (evtMaskOf page))) ∧
  (∀ (e : Evt) (s : State), s.role = .sender → e.bit < 32 → s.wbit (evtPendKey e.page) e.bit = false →
    s.wbit (evtEnKey e.page) e.bit = true → 
    (s.raise e).evt.due = (if s.vector e.page < 64 then s.evt.due ++ [s.vector e.page] else s.evt.due) ∧ Pending (s.raise e) e) ∧
  (∀ (vec t : Nat) (s : State), s.isSender = true → vec ∈ s.evt.due → (∀ p ∈ s.evt.last, p.1 ≠ vec) →
    Completes (.msixMessage ⟨vec, false⟩ t) s (fun u =>
      u = { s with time := max s.time t, evt := u.evt, out := [.msix vec] } ∧ (vec, max s.time t) ∈ u.evt.last ∧ vec ∉ u.evt.pba ∧
      u.evt.due = if s.rd R.EVT.HOLDOFF = 0 ∧ vec ∉ s.evt.pba then delFirst (· == vec) s.evt.due else s.evt.due.filter (· != vec))) ∧
  (∀ (vec t : Nat) (s : State), s.isSender = true → vec ∈ s.evt.due →
    Completes (.msixMessage ⟨vec, true⟩ t) s (fun u =>
      u = { s with time := max s.time t, out := [], evt := { s.evt with pba := u.evt.pba } } ∧ vec ∈ u.evt.pba)) ∧
  (∀ (vec t last : Nat) (s : State), s.isSender = true → s.evt.last.find? (fun p => p.1 == vec) = some (vec, last) →
    max s.time t < last + min (s.rd R.EVT.HOLDOFF) 1000 * us1 →
    Completes (.msixMessage ⟨vec, false⟩ t) s (fun u => u = s.atTime t))

/-- A write of 0 to a counter of a page that answers clears it and changes nothing else; any other value is ignored (R66). Counting a 32-bit field up never passes 0xFFFF_FFFF and never lowers it. -/
def Obligations.CountersClearAndSaturate : Prop :=
  (∀ (b : Blk) (n page off : Nat) (r : Row) (s : State), blkOf page = some (b, n) → s.pageOn page = true → off < 0x1000 →
    rowAt off b.rows = some r → r.cls = .cnt →
    Completes (.counterClear (regKey page off) 0) s (fun u =>
      u = { s with out := [], regs := u.regs } ∧ WordsKept s u [regKey page off] ∧ u.word (regKey page off) = 0)) ∧
  (∀ (addr : Nat) (v : Word32) (s : State), v ≠ 0 → Completes (.counterClear addr v) s (fun u => u = s.start)) ∧
  (∀ (f : Fld) (k : Nat) (s : State), f.w = 32 → f.lo = 0 →
    (s.incBy f k).rd f = min (s.rd f + k) 0xFFFFFFFF ∧ s.rd f ≤ (s.incBy f k).rd f)

/-- TQ_POP removes the oldest entry and TQ_FLUSH all; TQ_NONEMPTY and TQ_HIGH hold as R78 says for what is left, and no word but EVT_RAW and EVT_PEND of the EVT page changes. An entry that arrives joins at the end while the queue holds fewer than 256, and is lost and counted when it is full (R77). -/
def Obligations.TileEventQueue : Prop :=
  (∀ (s : State), s.pageOn 0x001 = true →
    Completes .tqPop s (fun u => OnlyRegs s u ∧ u.evt.tq = s.evt.tq.drop 1 ∧ WordsKept s u [evtRawKey 0x001, evtPendKey 0x001] ∧
      u.raw R.EVT.ev_TQ_NONEMPTY = decide (1 < s.evt.tq.length) ∧ u.raw R.EVT.ev_TQ_HIGH = decide (193 ≤ s.evt.tq.length))) ∧
  (∀ (s : State), s.pageOn 0x001 = true →
    Completes .tqFlush s (fun u => OnlyRegs s u ∧ u.evt.tq = [] ∧ WordsKept s u [evtRawKey 0x001, evtPendKey 0x001] ∧
      u.raw R.EVT.ev_TQ_NONEMPTY = false ∧ u.raw R.EVT.ev_TQ_HIGH = false)) ∧
  (∀ (e : TqEntry) (s : State), s.evt.tq.length < 256 →
    (s.tqPush e).evt.tq = s.evt.tq ++ [e] ∧ (s.tqPush e).rd R.EVT.CNT_TQ_DROP = s.rd R.EVT.CNT_TQ_DROP) ∧
  (∀ (e : TqEntry) (s : State), 256 ≤ s.evt.tq.length →
    (s.tqPush e).evt.tq = s.evt.tq ∧ Counted s (s.tqPush e) R.EVT.CNT_TQ_DROP)

/-- A request whose tag is free, whose node a coil port's range holds, and that stays inside the page, is in flight after its launch and is sent with its operands when the port can send and nothing holds its packets back. A tag that is owned is refused with TAG_REFUSED, and the sender's own node ID is refused with status SELF (R79), before the range is judged (the model's order, log 11). A request in flight ends with a queued TIMEOUT response and CNT_TIMEOUT counts it; a response that arrives on the port and from the node of its request is queued with its status, the word of a single-word read, and the buffer of a burst, whose read data the buffer holds; one that finds no request is discarded and counted (R80), while a late one whose tag is in flight again to the same node answers that request (the model's choice, log 161); popping the head response or flushing the queue frees what they held (R81). -/
def Obligations.TunnelRequests : Prop :=
  (∀ (v : Word32) (t port : Nat) (s : State), s.pageOn 0x009 = true → s.tagOwned (fieldOf v 0 6) = false →
    s.rd R.TUN.REQ_NODE ≠ s.lv R.GLB.NODE_ID → s.routePort (s.rd R.TUN.REQ_NODE) = some port →
    (s.tun.out.filter (fun r => r.port == port)).length < 16 → s.rd R.TUN.REQ_OFFSET + 4 * (fieldOf v 8 6 + 1) ≤ 0x1000 →
    Completes (.tunLaunch v t) s (fun u =>
      u.tun.out = s.tun.out ++ [{ tag := fieldOf v 0 6, node := s.rd R.TUN.REQ_NODE, port := port, write := v.getLsbD 6,
                                  len := fieldOf v 8 6, buf := fieldOf v 16 4, time := max s.time t }] ∧
      u.tun.rsp = s.tun.rsp ∧ u.rd R.TUN.TAG_REFUSED = 0 ∧ WordsKept s u [R.TUN.TAG_REFUSED.key] ∧
      (s.canSend port = true → s.egressFree port t = true → ∃ r, u.out = [.mgmtReq port (s.rd R.TUN.REQ_NODE) r] ∧
        r.tag = fieldOf v 0 6 ∧ r.write = v.getLsbD 6 ∧ r.len = fieldOf v 8 6 ∧ r.offset = s.rd R.TUN.REQ_OFFSET ∧
        r.page = s.rd R.TUN.REQ_PAGE ∧ r.src = s.lv R.GLB.NODE_ID ∧ (v.getLsbD 6 = true → r.data.length = fieldOf v 8 6 + 1) ∧
        (v.getLsbD 6 = true → fieldOf v 8 6 = 0 → r.data = [s.word R.TUN.REQ_DATA.key])))) ∧
  (∀ (v : Word32) (t : Nat) (s : State), s.pageOn 0x009 = true → s.tagOwned (fieldOf v 0 6) = true →
    Completes (.tunLaunch v t) s (fun u => OnlyRegs s u ∧ u.rd R.TUN.TAG_REFUSED = 1 ∧ Pending u R.TUN.ev_TAG_BUSY)) ∧
  (∀ (v : Word32) (t : Nat) (s : State), s.pageOn 0x009 = true → s.tagOwned (fieldOf v 0 6) = false →
    s.rd R.TUN.REQ_NODE = s.lv R.GLB.NODE_ID →
    Completes (.tunLaunch v t) s (fun u => u.tun.out = s.tun.out ∧ u.out = [] ∧
      u.tun.rsp = s.tun.rsp ++ [{ tag := fieldOf v 0 6, status := rsSELF, word := 0, buf := none }])) ∧
  (∀ (tag : Nat) (r : TunReq) (s : State), s.isSender = true → s.tun.out.find? (fun r => r.tag == tag) = some r →
    Completes (.tunTimeout tag) s (fun u =>
      u.tun.rsp = s.tun.rsp ++ [{ tag := r.tag, status := rsTIMEOUT, word := 0, buf := none }] ∧
      u.tun.out.length + 1 = s.tun.out.length ∧ Counted s u R.TUN.CNT_TIMEOUT ∧ Pending u R.TUN.ev_TIMEOUT)) ∧
  (∀ (rx : RspFrom) (tag status : Nat) (data : List Word32) (s : State), s.isSender = true → s.hasPort rx.port = true →
    s.isUp rx.port = true → (∀ r ∈ s.tun.out, ¬ (r.tag = tag ∧ r.port = rx.port ∧ r.node = rx.src)) →
    Completes (.tunResponse rx tag status data) s (fun u =>
      OnlyRegs s u ∧ Counted s u R.TUN.CNT_LATE_RSP ∧ WordsKept s u [R.TUN.CNT_LATE_RSP.key])) ∧
  (∀ (rx : RspFrom) (tag status : Nat) (data : List Word32) (r : TunReq) (s : State), s.isSender = true → s.hasPort rx.port = true →
    s.isUp rx.port = true → s.tun.out.find? (fun r => r.tag == tag && r.port == rx.port && r.node == rx.src) = some r →
    Completes (.tunResponse rx tag status data) s (fun u => u.tun.out.length + 1 = s.tun.out.length ∧
      u.tun.rsp = s.tun.rsp ++ [{ tag := tag, status := status, word := if r.write || r.len != 0 then 0 else data.headD 0, buf := if r.len = 0 then none else some r.buf }] ∧
      (r.write = true ∨ r.len = 0 ∨ status ≠ rsOK → u.imm = s.imm) ∧
      (r.write = false → r.len ≠ 0 → status = rsOK → ∀ i, i < min 64 data.length → u.immW 0x009 0 (64 * r.buf + i) = data.getD i 0))) ∧
  (∀ (s : State), s.pageOn 0x009 = true →
    Completes .rspPop s (fun u => u.tun.rsp = s.tun.rsp.drop 1 ∧ u.tun.out = s.tun.out ∧
      u.raw R.TUN.ev_RSP_READY = decide (1 < s.tun.rsp.length) ∧ WordsKept s u [evtRawKey 0x009, evtPendKey 0x009])) ∧
  (∀ (s : State), s.pageOn 0x009 = true →
    Completes .rspFlush s (fun u => u.tun.rsp = [] ∧ u.tun.out = s.tun.out ∧ u.raw R.TUN.ev_RSP_READY = false ∧
      WordsKept s u [evtRawKey 0x009, evtPendKey 0x009]))

/-- RESET_N low for 1 µs, PERST in the sender role while the AON domain runs, the soft-reset value written to GLB.SOFT_RESET, a due soft reset through TUN, the loss of the core rail or of XO_IN, a bank rail further than 8 % from both levels, the end of the watchdog's 100 µs, and a watchdog expiry of a tile, or of a sender that the ground does not make relinquish, whose image is not greenware, each leave the core reset, with their own cause recorded while the AON domain runs (R405 to R407, R433, R440; 18 R445; 10 R279). That a watchdog expiry resets at once a sender which has relinquished already or does not have the ground is the model's reading (log 137); a bank rail below 1.62 V resets the core and leaves its balls unpowered, as the model takes it (log 207). RESET_N, the loss of the core rail and that of XO_IN put every group of balls into its state for a core in reset, or unpowered; while the AON supply set is good ports 0 and 1 of a tile forward through the repeater unless XO_IN stopped (R438 to R440, R442). -/
def Obligations.CoreResets : Prop :=
  (∀ (ns : Nat) (s : State), 1000 ≤ ns → Completes (.resetNAssert ns) s (fun t => CoreWasReset s t rcRESET_N)) ∧
  (∀ (s : State), s.aon.on = true → (if s.stateCode = stRESET then s.aon.role else s.role) = .sender → Completes .perstAssert s (fun t => CoreWasReset s t rcPERST)) ∧
  (∀ (v : Word32) (s : State), s.pageOn 0x000 = true → fieldOf v 0 16 = 0xA5C3 →
    Completes (.softReset v) s (fun t => CoreWasReset s t rcSOFT)) ∧
  (∀ (s : State), s.boot.softDue = true → Completes .tunSoftResetDelay s (fun t => CoreWasReset s t rcSOFT)) ∧
  (∀ (s : State), Completes .coreRailFail s (fun t => CoreWasReset s t rcCORE_RAIL)) ∧
  (∀ (s : State), Completes .xoInLoss s (fun t => CoreWasReset s t rcCLOCK ∧ t.aon.linkUp0 = false ∧ t.aon.linkUp1 = false)) ∧
  (∀ (s : State), s.running = true → s.red.relWatchdog = true →
    Completes .watchdogResetDelay s (fun t => CoreWasReset s t rcWATCHDOG)) ∧
  (∀ (t0 : Nat) (s : State), s.running = true → s.role = .tile → s.flag R.FW.GREEN = false →
    Completes (.watchdogExpiry t0) s (fun t => CoreWasReset s t rcWATCHDOG)) ∧
  (∀ (t0 : Nat) (s : State), s.running = true → s.role = .sender → s.flag R.FW.GREEN = false →
    s.flag R.RED.RELINQUISHED = true ∨ (s.lv R.RED.GROUND_EN).testBit 3 = false →
    Completes (.watchdogExpiry t0) s (fun t => CoreWasReset s t rcWATCHDOG)) ∧
  (∀ (bank mV : Nat) (s : State), bank < 5 → ¬ (1656 ≤ mV ∧ mV ≤ 1944) → ¬ (3036 ≤ mV ∧ mV ≤ 3564) →
    Completes (.bankLevelSelect bank mV) s (fun t => CoreWasReset s t rcCORE_RAIL ∧ PinsInReset t)) ∧
  (∀ (ns : Nat) (s : State), 1000 ≤ ns → Completes (.resetNAssert ns) s (fun t => PinsInReset t ∧
    (s.aon.on = true → s.aon.role = .tile → s.aon.cause.testBit rcCLOCK = false → t.pins (.coil 0) = .repeater ∧ t.pins (.coil 1) = .repeater))) ∧
  (∀ (s : State), Completes .coreRailFail s (fun t => PinsInReset t ∧
    (s.aon.on = true → s.aon.role = .tile → s.aon.cause.testBit rcCLOCK = false → t.pins (.coil 0) = .repeater ∧ t.pins (.coil 1) = .repeater))) ∧
  (∀ (s : State), Completes .xoInLoss s (fun t => PinsInReset t ∧ (s.aon.on = true → t.pins (.coil 0) = .idle ∧ t.pins (.coil 1) = .idle)))

/-- After power-on every register reads its reset value, the MRAM holds what it held, the quench latch is clear and POWER is the recorded cause; the ROLE ball's tie is as the last release found it (the model's choice, log 190). A bank supply within 8 % of a level selects that level and changes nothing else (17 R433, 18 R445). The release of reset samples ROLE, enters BISQUE, moves the recorded causes into RESET_CAUSE and starts the record anew; in a tile ports 0 and 1 are enabled and loop instances 2 to 9 are open (R404, R405; 01 R7). With TEST_EN high the core stays in RESET (17 R434). A floating ROLE gives one of the two roles, and the device enters BISQUE in it (01 R7; log 10). -/
def Obligations.PowerOnAndRelease : Prop :=
  (∀ (s : State), Completes .powerOnReset s (fun t => (∀ k, t.word k = resetWord k) ∧ t.imm = [] ∧ t.tabs = [] ∧ t.pend = [] ∧
    t.drm = {} ∧ t.cmt = {} ∧ t.mram = s.mram ∧ t.member = s.member ∧ t.aon.quench = false ∧ t.aon.cause = 1 ∧ t.aon.strap = s.aon.strap)) ∧
  (∀ (bank mV : Nat) (s : State), bank < 5 → (1656 ≤ mV ∧ mV ≤ 1944) ∨ (3036 ≤ mV ∧ mV ≤ 3564) →
    Completes (.bankLevelSelect bank mV) s (fun t => t = { s with out := [], boot := { s.boot with banks := t.boot.banks } } ∧
      smGet (fun _ => 0) t.boot.banks bank = (if mV ≤ 1944 then 1 else 2))) ∧
  (∀ (s : State), s.stateCode = stRESET → s.boot.testEn = false → (∀ p ∈ s.boot.banks, p.2 < 3) →
    Completes (.resetRelease .high false) s (fun t => t.role = .sender ∧ t.aon.strap = .high ∧ t.stateCode = stBISQUE ∧
      t.rd R.GLB.RESET_CAUSE = s.aon.cause % 256 ∧ t.aon.cause = 0 ∧ Pending t R.GLB.ev_STATE_CHANGE ∧ t.mram = s.mram ∧
      WordsKept s t [R.GLB.RESET_CAUSE.key, R.GLB.STATE.key, pendKey R.GLB.ev_STATE_CHANGE]) ∧
    Completes (.resetRelease .low false) s (fun t => t.role = .tile ∧ t.aon.strap = .low ∧ t.stateCode = stBISQUE ∧
      t.rd R.GLB.RESET_CAUSE = s.aon.cause % 256 ∧ t.aon.cause = 0 ∧ t.lv (R.COIL.EN 0) = 1 ∧ t.lv (R.COIL.EN 1) = 1 ∧
      t.rd R.LOOP.OPEN = 0x3FC) ∧
    Completes (.resetRelease .high true) s (fun t => t.stateCode = stRESET ∧ t.boot.testEn = true ∧ t.regs = s.regs) ∧
    Completes (.resetRelease .floating false) s (fun t => t.aon.role = t.role ∧ t.stateCode = stBISQUE ∧
      t.rd R.GLB.RESET_CAUSE = s.aon.cause % 256 ∧ t.aon.cause = 0 ∧ t.mram = s.mram))

/-- In BISQUE a sender's BAR2 takes image bytes and nothing else changes; BISQUE_GO starts the verification of BISQUE_LEN bytes; the end of a verification shows its code in BOOT_ERR and keeps the image only when the code is 0 (R412, R413). When the verified image's cores have loaded, the device is LOADED, or QUENCHED while the quench latch is set (R409, R414). From then on a staged delta is rebuilt while the image runs: UPD_GO starts that in IDLE, the delta being the one staged then (log 133), and its end shows READY, or FAILED with the other bank as it was (R424). HEALTH stores what is written while no image is on trial and none has been, as the model takes it (log 134), and ignores it once a window has closed (R426); the end of the window and REVERT make the greenware image give way at the next tick (R426). -/
def Obligations.ImagesBootTheDevice : Prop :=
  (∀ (off : Nat) (data : List Byte) (s : State), s.role = .sender → s.stateCode = stBISQUE → off + data.length ≤ 8388608 →
    Completes (.bar2Write off data) s (fun t => t = { s with out := [], boot := { s.boot with bar2 := t.boot.bar2 } } ∧
      (∀ i, i < data.length → smGet (fun _ => 0) t.boot.bar2 (off + i) = data.getD i 0) ∧
      (∀ a, a < off ∨ off + data.length ≤ a → smGet (fun _ => 0) t.boot.bar2 a = smGet (fun _ => 0) s.boot.bar2 a))) ∧
  (∀ (s : State), s.role = .sender → s.loaderWaits = true →
    Completes .bisqueGo s (fun t => t.regs = s.regs ∧
      t.boot.verifying = some { idx := 0, bytes := smGetMany (fun _ => 0) s.boot.bar2 0 (s.rd R.FW.BISQUE_LEN) })) ∧
  (∀ (img : Image) (s : State), s.stateCode = stBISQUE → s.boot.verifying = some img →
    Completes .imageVerifyDone s (fun t => t.rd R.FW.BOOT_ERR = verifyImage s.role s.member img.bytes ∧ t.stateCode = stBISQUE ∧
      t.boot.verifying = none ∧ WordsKept s t [R.FW.BOOT_ERR.key] ∧
      t.boot.running = (if verifyImage s.role s.member img.bytes = 0 then img else {}))) ∧
  (∀ (trained : Bool) (t0 : Nat) (s : State), s.stateCode = stBISQUE → s.boot.running.bytes ≠ [] →
    Completes (.firmwareLoaded trained t0) s (fun t => t.role = s.role ∧
      t.stateCode = (if s.aon.quench then stQUENCHED else stLOADED))) ∧
  (∀ (s : State), s.pageOn 0x100 = true → s.running = true → s.rd R.FW.UPD_STATE = upIDLE →
    Completes .updGo s (fun t => t.rd R.FW.UPD_STATE = upAPPLYING ∧ t.boot.delta = s.stagedDelta ∧ t.boot.running = s.boot.running)) ∧
  (∀ (s : State), s.running = true → s.rd R.FW.UPD_STATE = upAPPLYING →
    Completes .updReconstructDone s (fun t => t.boot.running = s.boot.running ∧ t.mram = s.mram ∧
      (t.rd R.FW.UPD_STATE = upREADY ∧ t.rd R.FW.BOOT_ERR = 0 ∨ t.rd R.FW.UPD_STATE = upFAILED ∧ t.boot.other = s.boot.other))) ∧
  (∀ (v : Word32) (s : State), s.running = true → s.flag R.FW.GREEN = false →
    (s.boot.trialOver = false → Completes (.fwHealthWrite v) s (fun t => t = { s with out := [], regs := t.regs } ∧
      t.rd R.FW.HEALTH = v.toNat ∧ WordsKept s t [R.FW.HEALTH.key])) ∧
    (s.boot.trialOver = true → Completes (.fwHealthWrite v) s (fun t => t = s.start))) ∧
  (∀ (s : State), s.running = true → s.flag R.FW.GREEN = true →
    Completes .confirmExpiry s (fun t => t.boot.revertDue = true ∧ t.boot.running = s.boot.running ∧ t.regs = s.regs)) ∧
  (∀ (s : State), s.pageOn 0x100 = true → s.flag R.FW.GREEN = true →
    Completes .revert s (fun t => t.boot.revertDue = true ∧ t.boot.running = s.boot.running ∧ t.regs = s.regs))

/-- ARM written in LOADED, with no BOOT broadcast running, every enabled DRAM channel READY and a commit accepted since reset, makes the sender ARMED; with one of these missing it is refused with ARM_REFUSED and changes no other word (R416). Written in QUENCHED before the first tick it arms the sender, which stays QUENCHED (R409). That ARM acts in QUENCHED so is the model's reading (log 135). -/
def Obligations.ArmingASender : Prop :=
  (∀ (t0 : Nat) (s : State), s.role = .sender → s.stateCode = stLOADED → s.armBar = false →
    Completes (.arm t0) s (fun t => t.stateCode = stARMED ∧ t.boot.armed = true ∧ t.rd R.FW.ARM_REFUSED = 0 ∧
      Pending t R.GLB.ev_STATE_CHANGE ∧ t.mram = s.mram ∧ t.drm = s.drm)) ∧
  (∀ (t0 : Nat) (s : State), s.role = .sender → s.stateCode = stLOADED → s.armBar = true →
    Completes (.arm t0) s (fun t => OnlyRegs s t ∧ t.rd R.FW.ARM_REFUSED = 1 ∧ WordsKept s t [R.FW.ARM_REFUSED.key])) ∧
  (∀ (t0 : Nat) (s : State), s.role = .sender → s.stateCode = stQUENCHED → s.boot.armed = false → s.frm.ticked = false → s.armBar = false →
    Completes (.arm t0) s (fun t => t.stateCode = stQUENCHED ∧ t.boot.armed = true ∧ t.rd R.FW.ARM_REFUSED = 0 ∧ t.mram = s.mram ∧
      t.drm = s.drm))

/-- BOOT_GO in LOADED or ARMED with none running starts a broadcast: every chunk of the image in DRAM leaves, or waits at its egress, on every port that is UP and ACTIVE; an image that reads back poisoned is refused (the model's choice, log 205); its end, when no chunk waits, clears BOOT_BUSY and counts it (R418). A FIRST chunk starts the assembly of its image, a chunk that continues it in order joins it, one that continues a broadcast which a later FIRST has cut off is ignored (R428; that such a chunk is known by its place and length is the model's choice, log 208), and the last one of a whole image ends it: the image is kept for the subtree, and verified where the loader waits for it (R419, R420). A peer boot counts; its next chunk goes to its port, and the last one raises PEER_BOOTED (R422). -/
def Obligations.BootBroadcasts : Prop :=
  (∀ (s : State), s.role = .sender → s.stateCode = stLOADED ∨ s.stateCode = stARMED → s.flag R.FW.BOOT_BUSY = false →
    Completes .bootGo s (fun t =>
      (s.unsound (s.rd R.FW.BOOT_BASE) (min (s.rd R.FW.BOOT_LEN) 1048576) = true → t.rd R.FW.BOOT_REFUSED = 1 ∧ t.rd R.FW.BOOT_BUSY = 0) ∧
      (s.unsound (s.rd R.FW.BOOT_BASE) (min (s.rd R.FW.BOOT_LEN) 1048576) = false → t.rd R.FW.BOOT_BUSY = 1 ∧ t.rd R.FW.BOOT_REFUSED = 0 ∧
        t.boot = s.boot ∧ t.mram = s.mram ∧ t.red = s.red ∧
        ∀ p ∈ s.ports, s.canSend p = true → s.portState p = psACTIVE →
          ∀ c ∈ bootChunks { idx := s.rd R.FW.BOOT_IDX, bytes := s.dramBytes (s.rd R.FW.BOOT_BASE) (min (s.rd R.FW.BOOT_LEN) 1048576) },
            Sends t p (.boot p c)))) ∧
  (∀ (s : State), s.isSender = true → s.flag R.FW.BOOT_BUSY = true → (∀ p ∈ s.ports, s.waits p ptBOOT = false) →
    Completes .bootBroadcastDone s (fun t => OnlyRegs s t ∧ t.rd R.FW.BOOT_BUSY = 0 ∧ Counted s t R.FW.CNT_BOOT_SENT ∧
      Pending t R.FW.ev_BOOT_DONE ∧ WordsKept s t [R.FW.BOOT_BUSY.key, R.FW.CNT_BOOT_SENT.key, pendKey R.FW.ev_BOOT_DONE])) ∧
  (∀ (port : Nat) (c : BootChunk) (s : State), s.role = .tile → port < 2 → s.isUp port = true →
    s.stateCode = stBISQUE ∨ s.running = true → s.frm.ticked = false → (smGet asmDefault s.boot.asm c.idx).bytes = [] → c.first = true → c.last = false → c.off = 0 →
    Completes (.bootChunkReceive port c) s (fun t => t = { s with out := [], boot := { s.boot with asm := t.boot.asm } } ∧
      ∀ i, smGet asmDefault t.boot.asm i = if i = c.idx then { smGet asmDefault s.boot.asm c.idx with bytes := c.data, len := c.imgLen } else smGet asmDefault s.boot.asm i)) ∧
  (∀ (port : Nat) (c : BootChunk) (a : BootAsm) (s : State), s.role = .tile → port < 2 → s.isUp port = true →
    s.stateCode = stBISQUE ∨ s.running = true → s.frm.ticked = false → smGet asmDefault s.boot.asm c.idx = a → a.bytes ≠ [] → c.first = false →
    (¬ (c.off = a.bytes.length ∧ c.imgLen = a.len) → (c.off, c.imgLen) ∈ a.stale →
      Completes (.bootChunkReceive port c) s (fun t => t = { s with out := [], boot := { s.boot with asm := t.boot.asm } } ∧
        ∀ i, smGet asmDefault t.boot.asm i = if i = c.idx then { a with stale := passStale c a.stale } else smGet asmDefault s.boot.asm i)) ∧
    (c.off = a.bytes.length → c.imgLen = a.len → c.last = false → Completes (.bootChunkReceive port c) s (fun t => t = { s with out := [], boot := { s.boot with asm := t.boot.asm } } ∧
      ∀ i, smGet asmDefault t.boot.asm i = if i = c.idx then { a with bytes := a.bytes ++ c.data } else smGet asmDefault s.boot.asm i)) ∧
    (c.off = a.bytes.length → c.imgLen = a.len → c.last = true → a.bytes.length + c.data.length = a.len → Completes (.bootChunkReceive port c) s (fun t =>
      t = { s with out := [], boot := { s.boot with asm := t.boot.asm, kept := t.boot.kept, verifying := t.boot.verifying } } ∧
      t.boot.kept = keepImage s.boot.kept { idx := c.idx, bytes := a.bytes ++ c.data } ∧ smGet asmDefault t.boot.asm c.idx = { a with bytes := [], len := 0 } ∧
      (s.loaderWaits = true → c.idx = memberCode s.member → t.boot.verifying = some { idx := c.idx, bytes := a.bytes ++ c.data })))) ∧
  (∀ (port t0 : Nat) (s : State), s.peerPort port = true → s.canSend port = true →
    Completes (.peerBootBroadcast port t0) s (fun t => Counted s t R.FW.CNT_PEER_BOOT ∧ WordsKept s t [R.FW.CNT_PEER_BOOT.key] ∧
      t.boot.peer.find? (fun q => q.1 == port) = some (port, 0))) ∧
  (∀ (port k : Nat) (c : BootChunk) (s : State), s.isTile = true → s.canSend port = true → s.waits port ptBAND = false →
    s.boot.peer.find? (fun q => q.1 == port) = some (port, k) →
    (bootChunks { s.boot.running with idx := memberCode s.member })[k]? = some c →
    Completes (.peerBootChunk port) s (fun t => Sends t port (.boot port c) ∧ (s.egressFree port 0 = true → t.out = [.boot port c]) ∧
      (c.last = true → Pending t R.FW.ev_PEER_BOOTED) ∧
      (c.last = false → t.regs = s.regs ∧ t.boot.peer.find? (fun q => q.1 == port) = some (port, k + 1))))

/-- UPD_GO starts a reconstruction of the staged delta, read then (the model's reading, log 133), unless one runs, is ready or is greenware, or the device is in BISQUE, when it is refused; the images stay (R424). The end of a reconstruction with a good image makes the update READY, with that image in the other bank; a delta for another version, a poisoned one, one that gives no image, or an image that does not verify makes it FAILED, with the other bank as it was; the running image is untouched (R424). HEALTH written while the image is greenware fires it; the record stays as it is unless the image it replaced has another settings format (R426, R427). Once the window has closed a write is ignored (R426). CONFIRM_EXPIRY, REVERT, and a watchdog expiry while the image is greenware each make the revert due, and change nothing else (R426, R428). -/
def Obligations.LiveUpdates : Prop :=
  (∀ (s : State), s.pageOn 0x100 = true →
    (s.running = true → s.rd R.FW.UPD_STATE ≠ upAPPLYING → s.rd R.FW.UPD_STATE ≠ upREADY → s.rd R.FW.UPD_STATE ≠ upGREEN →
      Completes .updGo s (fun t => t.rd R.FW.UPD_STATE = upAPPLYING ∧ t.rd R.FW.UPD_REFUSED = 0 ∧
        t.boot = { s.boot with delta := s.stagedDelta, deltaBad := s.role == .sender && s.unsound (s.rd R.FW.UPD_BASE) (min (s.rd R.FW.UPD_LEN) 8388608) } ∧
        (s.role = .tile → t = { s with out := [], regs := t.regs, boot := t.boot } ∧
          WordsKept s t [R.FW.UPD_STATE.key, R.FW.UPD_REFUSED.key]))) ∧
    (s.running = false ∨ s.rd R.FW.UPD_STATE = upAPPLYING ∨ s.rd R.FW.UPD_STATE = upREADY ∨ s.rd R.FW.UPD_STATE = upGREEN →
      Completes .updGo s (fun t => t = { s with out := [], regs := t.regs } ∧ t.rd R.FW.UPD_REFUSED = 1 ∧
        t.rd R.FW.UPD_STATE = s.rd R.FW.UPD_STATE ∧ WordsKept s t [R.FW.UPD_REFUSED.key]))) ∧
  (∀ (s : State), s.running = true → s.rd R.FW.UPD_STATE = upAPPLYING →
    Completes .updReconstructDone s (fun t => t.boot.running = s.boot.running ∧ t.stateCode = s.stateCode ∧
      let img := (if Config.deltaBase s.boot.delta = imgVersion s.boot.running.bytes ∧ s.boot.deltaBad = false then Config.reconstruct s.boot.running.bytes s.boot.delta
        else none).filter (fun b => verifyImage s.role s.member b == 0)
      t.rd R.FW.UPD_STATE = (if img.isSome then upREADY else upFAILED) ∧
      Pending t (if img.isSome then R.FW.ev_UPD_READY else R.FW.ev_UPD_FAILED) ∧
      t.boot.other = (match img with | some b => some { idx := s.boot.running.idx, bytes := b } | none => s.boot.other) ∧
      t.rd R.FW.CNT_UPD_FAILED = (if img.isSome then s.rd R.FW.CNT_UPD_FAILED else min (s.rd R.FW.CNT_UPD_FAILED + 1) 0xFFFFFFFF))) ∧
  (∀ (v : Word32) (s : State), s.running = true → s.flag R.FW.GREEN = true → s.boot.revertDue = false →
    Completes (.fwHealthWrite v) s (fun t => t.rd R.FW.GREEN = 0 ∧ t.rd R.FW.HEALTH = v.toNat ∧ t.rd R.FW.UPD_STATE = upFIRED ∧
      Pending t R.FW.ev_FIRED ∧ t.boot = { s.boot with trialOver := true } ∧ t.mram = s.mram ∧
      ((∀ i, s.boot.other = some i → imgSettings i.bytes = imgSettings s.boot.running.bytes) →
        t = { s with regs := t.regs, evt := t.evt, out := [], boot := t.boot } ∧
        WordsKept s t [R.FW.GREEN.key, R.FW.HEALTH.key, R.FW.UPD_STATE.key, R.FW.CONFIRM_LEFT.key, pendKey R.FW.ev_FIRED]))) ∧
  (∀ (v : Word32) (s : State), s.running = true →
    (s.flag R.FW.GREEN = true ∧ s.boot.revertDue = true) ∨ (s.flag R.FW.GREEN = false ∧ s.boot.trialOver = true) →
    Completes (.fwHealthWrite v) s (fun t => t = s.start)) ∧
  (∀ (s : State), s.running = true → s.flag R.FW.GREEN = true →
    Completes .confirmExpiry s (fun t => t = { s with out := [], boot := { s.boot with revertDue := true } })) ∧
  (∀ (s : State), s.pageOn 0x100 = true → s.flag R.FW.GREEN = true →
    Completes .revert s (fun t => t = { s with out := [], boot := { s.boot with revertDue := true } })) ∧
  (∀ (t0 : Nat) (s : State), s.running = true → s.flag R.FW.GREEN = true →
    Completes (.watchdogExpiry t0) s (fun t => t = { s with out := [], time := max s.time t0, boot := { s.boot with revertDue := true } }))

/-- A cell whose CHK fails is counted in CNT_CELL_CHK of its port, and a packet that begins with it is lost (R247); a codeword in which errors were corrected counts in CNT_FEC_CORR with the cell that begins it (R287). A packet whose header check fails is dropped and counted in CNT_HCRC (R252, R263). A packet of the pair for another node leaves by the other port of the pair, one hop older, and is otherwise unchanged; one whose trailer is bad counts in CNT_CRC and goes on stomped (R253, 01 R19, R267). While the core is not running, the repeater passes a packet on in the same way (R270). -/
def Obligations.PacketsAreCheckedAndPassedOn : Prop :=
  (∀ (port t0 : Nat) (c : Cell) (s : State), s.portOn port = true → c.fecBad = false → cellHead c.bytes = none →
    (c.fixed = false → Completes (.packetReceive port [c] t0) s (fun t =>
      OnlyRegs s t ∧ Counted s t (R.COIL.CNT_CELL_CHK port) ∧ t.out = [] ∧ WordsKept s t [(R.COIL.CNT_CELL_CHK port).key])) ∧
    (c.fixed = true → Completes (.packetReceive port [c] t0) s (fun t =>
      OnlyRegs s t ∧ Counted s t (R.COIL.CNT_CELL_CHK port) ∧ Counted s t (R.COIL.CNT_FEC_CORR port) ∧ t.out = [] ∧
      WordsKept s t [(R.COIL.CNT_CELL_CHK port).key, (R.COIL.CNT_FEC_CORR port).key]))) ∧
  (∀ (port t0 : Nat) (c : Cell) (cs : List Cell) (s : State), s.portOn port = true → s.flag (R.COIL.XOFF_RX port) = false →
    (∀ x ∈ c :: cs, cellBad x = false ∧ x.fixed = false ∧ (cellHead x.bytes).any CellHead.xoff = false) → (cellHead c.bytes).any CellHead.sop = true →
    parseHeader ((c :: cs).flatMap (fun x => cellPayload x.bytes)) = none →
    Completes (.packetReceive port (c :: cs) t0) s (fun t =>
      OnlyRegs s t ∧ Counted s t (R.COIL.CNT_HCRC port) ∧ t.out = [] ∧ WordsKept s t [(R.COIL.CNT_HCRC port).key])) ∧
  (∀ (port t0 m len : Nat) (h : Header) (c : Cell) (cs : List Cell) (bytes : List Byte) (s : State), s.portOn port = true →
    s.flag (R.COIL.XOFF_RX port) = false → (∀ x ∈ c :: cs, cellBad x = false ∧ x.fixed = false ∧ (cellHead x.bytes).any CellHead.xoff = false) →
    (cellHead c.bytes).any CellHead.sop = true → (c :: cs).flatMap (fun x => cellPayload x.bytes) = bytes → s.role = .tile → port < 2 →
    parseHeader bytes = some (h, len) → maxLen h.type = some m → len ≤ m → s.isUp port = true → h.type = ptBAND → h.up = false →
    h.bcast = false → (s.hasId = true → h.dest ≠ s.lv R.GLB.NODE_ID) → s.rangePort h.dest = none → s.canSend (otherPort port) = true →
    s.egressFree (otherPort port) t0 = true → h.hops < 64 →
    (checkTrailer bytes len = .good → Completes (.packetReceive port (c :: cs) t0) s (fun t => t = { s with
      time := max s.time t0, regs := t.regs, out := [.forward (otherPort port) (packetBytes { h with hops := h.hops + 1 } ((bytes.drop 10).take len) false) false] } ∧
      WordsKept s t [])) ∧
    (checkTrailer bytes len = .bad → Completes (.packetReceive port (c :: cs) t0) s (fun t => t = { s with
      time := max s.time t0, regs := t.regs, out := [.forward (otherPort port) (packetBytes { h with hops := h.hops + 1 } ((bytes.drop 10).take len) true) true] } ∧
      Counted s t (R.COIL.CNT_CRC port) ∧ WordsKept s t [(R.COIL.CNT_CRC port).key]))) ∧
  (∀ (port : Nat) (p : Packet) (s : State), s.aon.role = .tile → s.running = false → port < 2 → s.isUp port = true →
    p.hdr.type = ptBAND → s.canSend (otherPort port) = true → s.egressFree (otherPort port) 0 = true → p.hdr.hops < 64 →
    Completes (.repeaterForward port p) s (fun t => t = { s with
      out := [.forward (otherPort port) (packetBytes { p.hdr with hops := p.hdr.hops + 1 } p.body p.crcBad) p.crcBad] }))

/-- A DISCOVER that has path left leaves by the other port of the pair with its path position advanced, stomped if its trailer was bad, and changes nothing else (R253, R273). An ASSIGN that reaches a device without an ID gives it its node ID at once, in the shadow and the live copy, and makes it valid (01 R18). DISC_GO on a port that can send, and at which nothing holds it back, makes it busy and launches the request; the response's bytes lie in the mailbox from byte 128 on and end the request with OK, as no response does with TIMEOUT (R274); that DISC_DONE is pending then too is the model's reading (log 56). That an assignment shows in the shadow and the live copy is the model's reading (log 45). -/
def Obligations.DiscoveryAndAssignment : Prop :=
  (∀ (port hops t0 : Nat) (d : Discover) (crcOk : Bool) (s : State), s.tileDie = true → port < 2 → s.isUp port = true → d.ppos ≠ d.plen →
    d.path.getD d.ppos 0 = 0 → s.canSend (otherPort port) = true → s.egressFree (otherPort port) t0 = true → hops < 64 →
    Completes (.discoverReceive ⟨port, crcOk⟩ hops d t0) s (fun t => t = { s with
      time := max s.time t0, out := [.discover (otherPort port) (hops + 1) { d with ppos := d.ppos + 1 } (!crcOk)] })) ∧
  (∀ (port hops t0 : Nat) (d : Discover) (s : State), s.isTile = true → port < 2 → s.isUp port = true → d.ppos = d.plen → d.op = 1 →
    s.hasId = false →
    Completes (.discoverReceive ⟨port, true⟩ hops d t0) s (fun t => t.rd R.GLB.NODE_ID = d.idWord % 16384 ∧
      t.lv R.GLB.NODE_ID = d.idWord % 16384 ∧ t.hasId = true ∧ t.stateCode = s.stateCode)) ∧
  (∀ (port t0 : Nat) (s : State), s.isSender = true → s.hasPort port = true → s.flag (R.COIL.DISC_BUSY port) = false →
    s.canSend port = true → s.egressFree port t0 = true →
    Completes (.discGo port t0) s (fun t => OnlyRegs s t ∧ t.rd (R.COIL.DISC_BUSY port) = 1 ∧
      WordsKept s t [(R.COIL.DISC_BUSY port).key] ∧
      t.out = [.discover port 0 { discoverOf (s.ownId.getD 0) (s.mailbox port 104) with ppos := 1, noid := s.ownId.isNone, stby := !s.serves port } false])) ∧
  (∀ (port : Nat) (body : List Byte) (s : State), s.isSender = true → s.hasPort port = true → s.isUp port = true →
    s.flag (R.COIL.DISC_BUSY port) = true →
    Completes (.discoverRspReceive port body) s (fun t => t.rd (R.COIL.DISC_BUSY port) = 0 ∧ t.rd (R.COIL.DISC_STATUS port) = 0 ∧
      Pending t (R.COIL.ev_DISC_DONE port) ∧
      ∀ i, i < min 96 body.length → t.immByte (R.COIL.page port) 0 (128 + i) = (body.getD i 0).toNat)) ∧
  (∀ (port : Nat) (s : State), s.isSender = true → s.hasPort port = true → s.flag (R.COIL.DISC_BUSY port) = true →
    Completes (.discoverTimeout port) s (fun t => OnlyRegs s t ∧ t.rd (R.COIL.DISC_BUSY port) = 0 ∧
      t.rd (R.COIL.DISC_STATUS port) = 1 ∧ Pending t (R.COIL.ev_DISC_DONE port)))

/-- The always-on rails start the repeater's domain, which reads ROLE (R404), tied as the last release of reset found it (the model's choice, log 190). Lane lock takes a port from TRAINING to ALIGNING, 64 clean codewords take it to UP with both lanes aligned (R250). A loss of a port that is UP returns it to TRAINING, counts it (R251) and forgets the partner (the model's reading, log 63), also when it is written as RETRAIN (R287) and at the fourth uncorrectable codeword in a row, of which each counts (R246, R251); the reset of a RESET whose response was to leave by that port comes at once (the model's choice, log 204). Eye widths show, and EYE_LOW holds while one is below EYE_MIN (R249). -/
def Obligations.LinksTrainAndDrop : Prop :=
  (∀ (s : State), Completes .aonRailGood s (fun t =>
    t = { s with out := [], free := t.free, aon := { s.aon with on := true, role := t.aon.role } } ∧
    (s.aon.strap = .low → t.aon.role = .tile) ∧ (s.aon.strap = .high → t.aon.role = .sender))) ∧
  (∀ (port : Nat) (s : State), s.portOn port = true → s.rd (R.COIL.LINK port) = lkTRAINING → s.flag (R.COIL.TEST port) = false →
    Completes (.linkCdrLock port) s (fun t => OnlyRegs s t ∧ t.rd (R.COIL.LINK port) = lkALIGNING ∧ t.rd (R.COIL.LOS port) = 0 ∧
      t.rd (R.COIL.LOL port) = 0 ∧ Pending t (R.COIL.ev_LINK_CHANGE port))) ∧
  (∀ (port : Nat) (s : State), s.portOn port = true → s.rd (R.COIL.LINK port) = lkALIGNING → s.flag (R.COIL.TEST port) = false →
    Completes (.linkUp port) s (fun t => t.rd (R.COIL.LINK port) = lkUP ∧ t.rd (R.COIL.ALIGNED port) = 3 ∧
      t.rd (R.COIL.DESKEWED port) = 1 ∧ Pending t (R.COIL.ev_LINK_CHANGE port) ∧ t.mram = s.mram ∧ t.stateCode = s.stateCode)) ∧
  (∀ (port t0 : Nat) (s : State), s.running = true → s.hasPort port = true → s.rd (R.COIL.LINK port) = lkUP →
    (s.boot.coilDue = none → Completes (.linkLoss port t0) s (fun t => t.rd (R.COIL.LINK port) = lkTRAINING ∧
      Counted s t (R.COIL.CNT_LINK_DOWN port) ∧ t.rd (R.COIL.PARTNER_VALID port) = 0 ∧ t.mram = s.mram ∧ t.stateCode = s.stateCode)) ∧
    (s.boot.coilDue = some port → Completes (.linkLoss port t0) s (fun t => CoreWasReset s t rcCOIL))) ∧
  (∀ (port : Nat) (s : State), s.running = true → s.hasPort port = true → s.rd (R.COIL.LINK port) = lkUP → s.boot.coilDue = none →
    Completes (.retrain port) s (fun t => t.rd (R.COIL.LINK port) = lkTRAINING ∧ Counted s t (R.COIL.CNT_LINK_DOWN port) ∧
      t.rd (R.COIL.PARTNER_VALID port) = 0)) ∧
  (∀ (port : Nat) (next : Bool) (s : State), s.running = true → s.hasPort port = true → next = false ∨ (s.coilSt port).ucRun < 3 →
    Completes (.codewordUncorrectable ⟨port, next⟩) s (fun t => Counted s t (R.COIL.CNT_FEC_UNCORR port) ∧
      Pending t (R.COIL.ev_FEC_UNCORR port) ∧ t.rd (R.COIL.LINK port) = s.rd (R.COIL.LINK port) ∧
      (t.coilSt port).ucRun = (if next then (s.coilSt port).ucRun + 1 else 1))) ∧
  (∀ (port : Nat) (s : State), s.running = true → s.hasPort port = true → 3 ≤ (s.coilSt port).ucRun →
    s.rd (R.COIL.LINK port) = lkUP → s.boot.coilDue = none →
    Completes (.codewordUncorrectable ⟨port, true⟩) s (fun t => Counted s t (R.COIL.CNT_FEC_UNCORR port) ∧
      t.rd (R.COIL.LINK port) = lkTRAINING ∧ Counted s t (R.COIL.CNT_LINK_DOWN port))) ∧
  (∀ (port eye0 eye1 : Nat) (s : State), s.running = true → s.hasPort port = true → s.rd (R.COIL.LINK port) = lkUP →
    Completes (.eyeReport port eye0 eye1) s (fun t => OnlyRegs s t ∧ t.rd (R.COIL.EYE0 port) = min eye0 1000 ∧
      t.rd (R.COIL.EYE1 port) = min eye1 1000 ∧
      t.raw (R.COIL.ev_EYE_LOW port) = decide (min eye0 eye1 < s.lv (R.COIL.EYE_MIN port))))

/-- A near-end loop, the PRBS generator and the checker each set TEST and take a port that has link or aligns to TRAINING (R271); while none of them, no accepted far loop and no partner's loop is there, TEST clears: code 3 sets it only once the partner has accepted (the model's reading, log 12). A write that names the setting in force leaves the link as it is (log 68), and a reserved loop code changes nothing (log 13). With PRBS_LOCK the checker counts every errored bit, else none (R271). The loop that a port runs for its partner ends in TRAINING (R272). -/
def Obligations.TestLoopsTakePortsOutOfService : Prop :=
  (∀ (port : Nat) (v : Word32) (s : State), s.running = true → s.hasPort port = true → s.boot.coilDue = none →
    (fieldOf v 0 3 = 1 ∨ fieldOf v 0 3 = 2 → Completes (.loopbackSelect port v) s (fun t => t.rd (R.COIL.LOOPBACK port) = fieldOf v 0 3 ∧
      t.rd (R.COIL.TEST port) = 1 ∧
      (s.rd (R.COIL.LINK port) = lkUP ∨ s.rd (R.COIL.LINK port) = lkALIGNING → t.rd (R.COIL.LINK port) = lkTRAINING))) ∧
    (fieldOf v 0 3 = 0 ∨ fieldOf v 0 3 = 3 → s.flag (R.COIL.PRBS_GEN port) = false → s.flag (R.COIL.PRBS_CHK port) = false →
      s.flag (R.COIL.FAR_LOOPED port) = false → Completes (.loopbackSelect port v) s (fun t =>
        t.rd (R.COIL.LOOPBACK port) = fieldOf v 0 3 ∧ t.rd (R.COIL.TEST port) = 0 ∧ t.rd (R.COIL.LINK port) = s.rd (R.COIL.LINK port))) ∧
    (4 ≤ fieldOf v 0 3 → Completes (.loopbackSelect port v) s (fun t => t = { s with out := [] }))) ∧
  (∀ (port : Nat) (on : Bool) (s : State), s.running = true → s.hasPort port = true → s.boot.coilDue = none →
    Completes (.prbsGen port on) s (fun t => t.rd (R.COIL.PRBS_GEN port) = b2n on ∧ (on = true → t.rd (R.COIL.TEST port) = 1 ∧
      (s.rd (R.COIL.LINK port) = lkUP ∨ s.rd (R.COIL.LINK port) = lkALIGNING → t.rd (R.COIL.LINK port) = lkTRAINING)) ∧
      (on = false → s.rd (R.COIL.LOOPBACK port) = 0 → s.flag (R.COIL.PRBS_CHK port) = false →
        s.flag (R.COIL.FAR_LOOPED port) = false → t.rd (R.COIL.TEST port) = 0))) ∧
  (∀ (port errs : Nat) (on lock : Bool) (s : State), s.running = true → s.hasPort port = true → s.boot.coilDue = none →
    Completes (.prbsChk port on lock errs) s (fun t => t.rd (R.COIL.PRBS_CHK port) = b2n on ∧ (on = true → t.rd (R.COIL.TEST port) = 1) ∧
      t.rd (R.COIL.PRBS_LOCK port) = b2n (on && lock) ∧
      t.rd (R.COIL.CNT_PRBS_ERR port) = (if on && lock then min (s.rd (R.COIL.CNT_PRBS_ERR port) + errs) 0xFFFFFFFF else s.rd (R.COIL.CNT_PRBS_ERR port)) ∧
      (on = true → lock = true → 0 < errs → Pending t (R.COIL.ev_PRBS_ERR port)))) ∧
  (∀ (port : Nat) (s : State), s.running = true → s.hasPort port = true → s.flag (R.COIL.FAR_LOOPED port) = true → s.boot.coilDue = none →
    Completes (.farLoopExpiry port) s (fun t => t.rd (R.COIL.FAR_LOOPED port) = 0 ∧ t.rd (R.COIL.LINK port) = lkTRAINING))

/-- The link-beacon timer launches a request with the next sequence number on every port that carries coded data, and its t1 is the time at which it leaves (R105, R255). A request is answered by one reply that carries its sequence number, the port's role and the device's identity, and the partner's report shows (R255, R275); one that asks for a loop loops the port where that is allowed (R272). While no firmware runs, the repeater answers as role REPEATER (R270). A reply to the outstanding request adds the receive-direction delay of R105 to the last 64, whose mean PEER_DELAY shows, in ps (that fewer than 64 give the mean of those, and the rounding, are the model's reading, log 67); any other is ignored. -/
def Obligations.LinkBeaconsMeasureTheLink : Prop :=
  (∀ (port t0 : Nat) (s : State), s.portOn port = true → lkALIGNING ≤ s.rd (R.COIL.LINK port) → s.flag (R.COIL.TEST port) = false →
    Completes (.linkBeaconTimer t0) s (fun t => t.regs = s.regs ∧
      (s.egressFree port t0 = true → (t.coilSt port).t1 = max s.time t0) ∧ (t.coilSt port).seq = ((s.coilSt port).seq + 1) % 65536 ∧
      ∃ b, Sends t port (.linkReq port b) ∧ b.seq = ((s.coilSt port).seq + 1) % 65536 ∧ b.ta = max s.time t0)) ∧
  (∀ (port t0 : Nat) (b : LinkBeacon) (s : State), s.portOn port = true → lkALIGNING ≤ s.rd (R.COIL.LINK port) →
    s.flag (R.COIL.TEST port) = false → b.role < 8 → s.boot.coilDue = none →
    Completes (.linkBeaconRequest port b t0) s (fun t => (s.rd (R.COIL.LINK port) ≠ lkUP ∨ t.rd (R.COIL.LINK port) = lkUP → t.rd (R.COIL.PARTNER_VALID port) = 1) ∧
      t.rd (R.COIL.PARTNER_ROLE port) = b.role ∧
      (∃ d, let r := Output.linkRep port {
          seq := b.seq, port := port, role := s.portRole port, ta := max s.time t0, tb := max s.time t0 + d, uid := Config.uid % 2 ^ 64,
          loopReq := false, loopAck := b.loopReq && s.flag (R.COIL.FAR_LOOP_ALLOW port), loopSecs := 0 }
        (s.egressFree port t0 = true → r ∈ t.out) ∧ (b.loopReq = false ∨ s.flag (R.COIL.FAR_LOOP_ALLOW port) = false → Sends t port r)) ∧
      (b.loopReq = true → s.flag (R.COIL.FAR_LOOP_ALLOW port) = true → t.rd (R.COIL.FAR_LOOPED port) = 1 ∧ t.rd (R.COIL.TEST port) = 1) ∧
      (b.loopReq = false ∨ s.flag (R.COIL.FAR_LOOP_ALLOW port) = false → t.rd (R.COIL.LINK port) = s.rd (R.COIL.LINK port) ∧
        t.rd (R.COIL.FAR_LOOPED port) = s.rd (R.COIL.FAR_LOOPED port)))) ∧
  (∀ (port t0 : Nat) (b : LinkBeacon) (s : State), s.running = false → s.aon.on = true → s.aon.role = .tile → port < 2 → s.isUp port = true →
    Completes (.linkBeaconRequest port b t0) s (fun t => t.regs = s.regs ∧ ∃ d, Sends t port (.linkRep port {
      seq := b.seq, port := port, role := 5, ta := max s.time t0, tb := max s.time t0 + d, uid := Config.uid % 2 ^ 64,
      loopReq := false, loopAck := false, loopSecs := 0 }))) ∧
  (∀ (port t0 : Nat) (b : LinkBeacon) (s : State), s.portOn port = true → lkALIGNING ≤ s.rd (R.COIL.LINK port) →
    s.flag (R.COIL.TEST port) = false → s.boot.coilDue = none →
    (b.seq = (s.coilSt port).seq → b.loopAck = false → Completes (.linkBeaconReply port b t0) s (fun t =>
      (t.coilSt port).delays = (linkDelay (s.coilSt port).t1 b.ta b.tb (max s.time t0 : Nat) (Config.aDie port)
        (signedOf 16 (s.lv (R.COIL.CABLE_ASYM port))) :: (s.coilSt port).delays).take 64 ∧
      t.rd (R.COIL.PEER_DELAY port) = unsignedOf 32 (roundDivInt (meanDelay (t.coilSt port).delays * 1000) 65536) ∧
      t.rd (R.COIL.PARTNER_VALID port) = 1)) ∧
    (b.seq ≠ (s.coilSt port).seq → Completes (.linkBeaconReply port b t0) s (fun t => t = s.atTime t0)))

/-- A MGMT_REQ joins the queue of a tile while its port's share holds fewer than 16 and none waits, else it waits in the ingress buffer (R259); the oldest waiting one enters when there is room (R265). XOFF is set while more than 128 KiB wait and clears once less than 64 KiB do (R266). -/
def Obligations.ManagementQueues : Prop :=
  (∀ (port : Nat) (r : MgmtReq) (s : State), s.isTile = true → port < 2 → s.isUp port = true → s.share port < 16 →
    (s.coilSt port).wait = [] →
    Completes (.mgmtReqReceive port r) s (fun t => t = { s with out := [], mgmt := { s.mgmt with queue := s.mgmt.queue ++ [(port, r)] } })) ∧
  (∀ (port : Nat) (r : MgmtReq) (s : State), s.isTile = true → port < 2 → s.isUp port = true →
    16 ≤ s.share port ∨ (s.coilSt port).wait ≠ [] →
    Completes (.mgmtReqReceive port r) s (fun t => t.mgmt = s.mgmt ∧ (t.coilSt port).wait = (s.coilSt port).wait ++ [r] ∧
      (131072 < t.ingressBytes port → t.rd (R.COIL.XOFF_TX port) ≠ 0))) ∧
  (∀ (port : Nat) (r : MgmtReq) (rs : List MgmtReq) (s : State), s.isTile = true → port < 2 → (s.coilSt port).wait = r :: rs →
    s.share port < 16 →
    Completes (.ingressQueueRoom port) s (fun t => t.mgmt.queue = s.mgmt.queue ++ [(port, r)] ∧ (t.coilSt port).wait = rs ∧
      t.regs = s.regs)) ∧
  (∀ (port : Nat) (s : State), s.running = true → s.hasPort port = true → s.ingressBytes port < 65536 →
    Completes (.xoffRelease port) s (fun t => OnlyRegs s t ∧ t.rd (R.COIL.XOFF_TX port) = 0 ∧ WordsKept s t [(R.COIL.XOFF_TX port).key]))

/-- RELINQUISH_NOW makes a sender relinquish with the ground MANUAL and the epoch, and a copy leaves, or waits at its egress, on every port that is ACTIVE or SERVING and can send, and on no other; two further copies follow (R278, R279). The flags of their header, BCAST 1 and UP 0, are the model's reading (log 155). A feed request at a STANDBY port whose SERVE bit is set makes the port SERVING; one at an ACTIVE port counts; one at a relinquished sender, at a STANDBY port without its SERVE bit is refused and counted (R283), and so is one at a port whose sub-state is OFF (the model's choice, log 210). A watched port without a far beacon for 1 ms shows no loop and raises LOOP_BROKEN (R285); that FAR_ACTIVE clears with it is the model's reading (log 51). -/
def Obligations.SendersRelinquish : Prop :=
  (∀ (t0 : Nat) (s : State), s.isSender = true → s.flag R.RED.RELINQUISHED = false →
    Completes (.relinquishNow t0) s (fun t => t.rd R.RED.RELINQUISHED = 1 ∧ t.rd R.RED.GROUNDS = 64 ∧
      t.rd R.RED.RELINQUISH_EPOCH = s.epoch % 2 ^ 32 ∧ Counted s t R.RED.CNT_RELINQUISH ∧ Pending t R.RED.ev_RELINQUISH ∧
      t.red.relCopies = 1 ∧
      (∀ p ∈ s.ports, s.portState p = psACTIVE ∨ s.portState p = psSERVING → s.canSend p = true →
        Sends t p (.relinquish p (t.ownHeader ptRELINQUISH true false p) s.epoch 64 1 false)) ∧
      ∀ o ∈ t.out, ∃ p, o = .relinquish p (t.ownHeader ptRELINQUISH true false p) s.epoch 64 1 false ∧
        (s.portState p = psACTIVE ∨ s.portState p = psSERVING))) ∧
  (∀ (t0 : Nat) (s : State), s.isSender = true → s.flag R.RED.RELINQUISHED = true → 1 ≤ s.red.relCopies → s.red.relCopies < 3 →
    Completes (.relinquishCopy t0) s (fun t => t.regs = s.regs ∧ t.red.relCopies = s.red.relCopies + 1 ∧
      (∀ p ∈ s.ports, s.portState p = psACTIVE ∨ s.portState p = psSERVING → s.canSend p = true →
        Sends t p (.relinquish p (s.ownHeader ptRELINQUISH true false p) s.epoch (s.rd R.RED.GROUNDS) (s.red.relCopies + 1) false)) ∧
      ∀ o ∈ t.out, ∃ p, o = .relinquish p (s.ownHeader ptRELINQUISH true false p) s.epoch (s.rd R.RED.GROUNDS) (s.red.relCopies + 1) false)) ∧
  (∀ (port node epoch cause t0 : Nat) (s : State), s.isSender = true → s.hasPort port = true → s.isUp port = true →
    node < 16384 → cause < 4 →
    s.flag R.RED.RELINQUISHED = false → s.portState port = psSTANDBY → (s.lv R.RED.SERVE).testBit port = true →
    Completes (.senderFeedreq port node epoch cause t0) s (fun t => t.portState port = psSERVING ∧ t.rd R.RED.FEEDREQ_NODE = node ∧
      t.rd R.RED.FEEDREQ_CAUSE = cause ∧ t.rd R.RED.FEEDREQ_PORT = port ∧ Counted s t R.RED.CNT_FEEDREQ_RX ∧
      t.rd R.RED.CNT_FEEDREQ_REFUSED = s.rd R.RED.CNT_FEEDREQ_REFUSED)) ∧
  (∀ (port node epoch cause t0 : Nat) (s : State), s.isSender = true → s.hasPort port = true → s.isUp port = true →
    s.flag R.RED.RELINQUISHED = true ∨ (s.portState port = psSTANDBY ∧ (s.lv R.RED.SERVE).testBit port = false) ∨ s.portState port = psOFF →
    Completes (.senderFeedreq port node epoch cause t0) s (fun t => t.portState port = s.portState port ∧
      Counted s t R.RED.CNT_FEEDREQ_RX ∧ Counted s t R.RED.CNT_FEEDREQ_REFUSED ∧ Pending t R.RED.ev_FEEDREQ_REFUSED)) ∧
  (∀ (port node epoch cause t0 : Nat) (s : State), s.isSender = true → s.hasPort port = true → s.isUp port = true →
    s.flag R.RED.RELINQUISHED = false → s.portState port = psACTIVE →
    Completes (.senderFeedreq port node epoch cause t0) s (fun t => OnlyRegs s t ∧ t.portState port = psACTIVE ∧
      Counted s t R.RED.CNT_FEEDREQ_RX ∧ t.rd R.RED.CNT_FEEDREQ_REFUSED = s.rd R.RED.CNT_FEEDREQ_REFUSED ∧ Pending t R.RED.ev_FEEDREQ_RX)) ∧
  (∀ (port : Nat) (s : State), s.isSender = true → s.hasPort port = true → (s.lv R.RED.LOOP_CHECK).testBit port = true →
    Completes (.loopCheckTimeout port) s (fun t => (t.rd R.RED.LOOP_OK).testBit port = false ∧
      (t.rd R.RED.FAR_ACTIVE).testBit port = false ∧ t.raw R.RED.ev_LOOP_BROKEN = true ∧ t.mram = s.mram))

/-- A tile that has ticked and is not in FAILOVER enters it when the link of its upstream port drops, with cause UPSTREAM_LOST, and counts it (R12, R280), the lost port standing as upstream until another is elected (the model's reading, log 66); before its first tick it loses its election instead. A RELINQUISH off the upstream port only goes on along the pair, one hop older, or is dropped and counted after 64 hops (R267), at the port it came in on (log 44); on the upstream port of a ticked tile a good one starts a fail-over with its own cause (R280). A FEEDREQ off the upstream port goes on in the same way, or is counted where it cannot (R280). A repeated FEEDREQ of a tile in FAILOVER leaves by the port away from the old upstream, while one is sought, with BCAST 0 and UP 1 (log 155). A hub in FAILOVER sends its own TICK of the next epoch into every sub-coil that can take it (R282), with HOLD where none has come for that epoch (log 90). -/
def Obligations.FailoversStartAndPassOn : Prop :=
  (∀ (port t0 : Nat) (s : State), s.isTile = true → port < 2 → s.rd (R.COIL.LINK port) = lkUP → s.red.upstream = some port →
    s.frm.ticked = true → s.flag R.RED.st_FAILOVER = false → s.boot.coilDue = none →
    Completes (.linkLoss port t0) s (fun t => t.rd R.RED.st_FAILOVER = 1 ∧ t.rd R.RED.FAILOVER_CAUSE = fcUPSTREAM_LOST ∧
      Counted s t R.RED.CNT_FAILOVER ∧ Pending t R.RED.ev_FAILOVER ∧ t.red.upstream = some port ∧ t.red.electing = true)) ∧
  (∀ (port t0 : Nat) (s : State), s.isTile = true → port < 2 → s.rd (R.COIL.LINK port) = lkUP → s.red.upstream = some port →
    s.frm.ticked = false → s.boot.coilDue = none →
    Completes (.linkLoss port t0) s (fun t => t.red.upstream = none ∧ t.rd R.RED.st_FAILOVER = s.rd R.RED.st_FAILOVER)) ∧
  (∀ (port epoch grounds copy t0 : Nat) (h : Header) (crcOk : Bool) (s : State), s.isTile = true → port < 2 → s.isUp port = true →
    s.red.upstream ≠ some port → s.canSend (otherPort port) = true →
    (h.hops < 64 → s.egressFree (otherPort port) t0 = true → Completes (.relinquishReceive ⟨port, crcOk⟩ h epoch ⟨grounds, copy⟩ t0) s (fun t =>
      t = { s with time := max s.time t0, out := [.relinquish (otherPort port) { h with hops := h.hops + 1 } epoch grounds copy (!crcOk)] })) ∧
    (64 ≤ h.hops → Completes (.relinquishReceive ⟨port, crcOk⟩ h epoch ⟨grounds, copy⟩ t0) s (fun t => OnlyRegs s t ∧ t.out = [] ∧
      Counted s t (R.COIL.CNT_HOPS_DROP port) ∧ WordsKept s t [(R.COIL.CNT_HOPS_DROP port).key]))) ∧
  (∀ (port epoch grounds copy t0 : Nat) (h : Header) (s : State), s.isTile = true → port < 2 → s.isUp port = true →
    s.red.upstream = some port → s.frm.ticked = true → s.flag R.RED.st_FAILOVER = false →
    Completes (.relinquishReceive ⟨port, true⟩ h epoch ⟨grounds, copy⟩ t0) s (fun t => t.rd R.RED.st_FAILOVER = 1 ∧
      t.rd R.RED.FAILOVER_CAUSE = fcRELINQUISH ∧ Counted s t R.RED.CNT_FAILOVER ∧ t.red.electing = true)) ∧
  (∀ (port epoch cause t0 : Nat) (h : Header) (crcOk : Bool) (s : State), s.isTile = true → port < 2 → s.isUp port = true →
    s.red.upstream ≠ some port →
    Completes (.feedreqReceive ⟨port, crcOk⟩ h epoch cause t0) s (fun t => t.red = s.red ∧
      (s.canSend (otherPort port) = true → h.hops < 64 → s.egressFree (otherPort port) t0 = true → t.regs = s.regs ∧
        t.out = [.feedreq (otherPort port) { h with hops := h.hops + 1 } epoch cause (!crcOk)]) ∧
      (s.canSend (otherPort port) = false → t.out = [] ∧ Counted s t (R.COIL.CNT_UNDELIVERABLE (otherPort port))))) ∧
  (∀ (t0 : Nat) (s : State), s.isTile = true → s.flag R.RED.st_FAILOVER = true → s.red.repeating = true →
    s.canSend (otherPort s.red.oldUp) = true → s.egressFree (otherPort s.red.oldUp) t0 = true →
    Completes (.feedreqRepeat t0) s (fun t => OnlyRegs s t ∧ Counted s t R.RED.CNT_FEEDREQ_SENT ∧ t.out =
      [.feedreq (otherPort s.red.oldUp) (s.ownHeader ptFEEDREQ false true (otherPort s.red.oldUp)) s.red.lastTick (s.rd R.RED.FAILOVER_CAUSE) false])) ∧
  (∀ (t0 : Nat) (s : State), s.isHub = true → s.flag R.RED.st_FAILOVER = true →
    Completes (.hubTickLaunch t0) s (fun t => t = { s with time := max s.time t0, coil := t.coil, out := t.out } ∧
      (∀ p ∈ s.subPorts, s.canSend p = true → Sends t p (.tick p s.hubTick)) ∧ s.hubTick.handback = false ∧
      (s.frm.rx = none → s.hubTick.epoch = s.epoch + 1 ∧ s.hubTick.hold = true)))

/-- A band on a hub's upstream port goes, as a new packet with the segments that touch it, to every child with a port that can send, and to no other; for a child whose port cannot it counts as undeliverable; a hub without lamps changes nothing else. On the other port of the pair it is counted as from the wrong side (R26, R267, R268). A STATUS from a sub-coil is kept as its sender's last report and changes no register (R28). An entry of an EVENT from a sub-coil is noted under its device by the type of its page, a child hub's subtree entry with the count it carries, and nothing else changes (R29). -/
def Obligations.HubsServeTheirChildren : Prop :=
  (∀ (port : Nat) (b : BandPkt) (s : State), s.isHub = true → port < 2 → s.hasId = true → b.dest = s.lv R.GLB.NODE_ID →
    s.isUp port = true → s.red.upstream = some port →
    Completes (.hubBandReceive port b) s (fun t =>
      (s.lvB R.TIL.EN = false → t = { s with regs := t.regs, evt := t.evt, coil := t.coil, out := t.out }) ∧
      (∀ k ∈ s.kids, (b.segs.filter (touches k b.bandNo)) ≠ [] → s.canSend k.port = true →
        Sends t k.port (.band k.port { b with dest := k.node, segs := b.segs.filter (touches k b.bandNo) })) ∧
      (∀ k ∈ s.kids, (b.segs.filter (touches k b.bandNo)) ≠ [] → s.canSend k.port = false →
        min (s.rd (R.COIL.CNT_UNDELIVERABLE k.port) + 1) 0xFFFFFFFF ≤ t.rd (R.COIL.CNT_UNDELIVERABLE k.port)) ∧
      (∀ o ∈ t.out, ∃ k ∈ s.kids, o = .band k.port { b with dest := k.node, segs := b.segs.filter (touches k b.bandNo) }))) ∧
  (∀ (port u : Nat) (b : BandPkt) (s : State), s.isHub = true → port < 2 → s.hasId = true → b.dest = s.lv R.GLB.NODE_ID →
    s.isUp port = true → s.red.upstream = some u → u ≠ port →
    Completes (.hubBandReceive port b) s (fun t => OnlyRegs s t ∧ t.out = [] ∧ Counted s t (R.COIL.CNT_WRONG_SIDE port) ∧
      WordsKept s t [(R.COIL.CNT_WRONG_SIDE port).key])) ∧
  (∀ (port src : Nat) (b : StatusBody) (s : State), s.isHub = true → port ∈ s.subPorts → s.isUp port = true →
    Completes (.statusReceive port src b) s (fun t => t = { s with out := [], hub := { s.hub with reports := t.hub.reports } } ∧
      ⟨src, b, 0⟩ ∈ t.hub.reports ∧ (∀ r ∈ s.hub.reports, r.node ≠ src → r ∈ t.hub.reports))) ∧
  (∀ (port src : Nat) (e : EvtEntry) (s : State), s.isHub = true → port ∈ s.subPorts → s.isUp port = true →
    Completes (.hubEventReceive port src [e]) s (fun t => t = { s with out := [], hub := { s.hub with classes := t.hub.classes } } ∧
      (e.subtree = false → ∃ c ∈ t.hub.classes, c.cls = pageType e.page ∧ ∃ n ∈ c.nodes, n.1 = src) ∧
      (e.subtree = true → ∃ c ∈ t.hub.classes, c.cls = e.page ∧ (src + 16384, e.bits % 65536) ∈ c.nodes)))

/-- Writing bits [63:32] of COMMIT, after bits [31:0], starts a commit for the 64-bit target they form: at that moment a snapshot of every shadow register of every page is taken, and nothing comes in force. From the first tick on the epoch and the verdict that the table of R47 gives are fixed at the write. A shadow write made afterwards changes neither the commit that is being validated nor one that is pending. -/
def Obligations.CommitsSnapshotTheShadow : Prop :=
  (∀ (hi : Word32) (t0 : Nat) (s : State), s.role = .sender → s.pageOn 0x002 = true → s.flag R.CMT.BUSY = false →
    Completes (.commit hi t0) s (fun t =>
      (∃ c, t.cmt = { s.cmt with check := some (c, max s.time t0),
                                 judged := if s.frm.ticked then some (s.judge c.target (max s.time t0)) else none } ∧
        c.target = (s.word R.CMT.COMMIT.key).toNat + 2 ^ 32 * hi.toNat ∧ ∀ k, isShadow k = true → smGet resetWord c.snap k = s.word k) ∧
      OnlyRegs { s with cmt := t.cmt } t ∧ t.rd R.CMT.BUSY = 1 ∧ ∀ k, isShadow k = true ∨ isLive k = true → t.word k = s.word k)) ∧
  (∀ (b : Blk) (n page off : Nat) (r : Row) (v : Word32) (t0 : Nat) (s : State), blkOf page = some (b, n) → s.pageOn page = true →
    isSdi4 b n = false → off % 4 = 0 → off < 0x1000 → rowAt off b.rows = some r → r.cls = .sh →
    Completes (.registerWrite (regKey page off) 15 v t0) s (fun t => t.cmt = s.cmt))

/-- A write of bits [63:32] of EPOCH_LOAD arms the number in LOADED and in ARMED; in any other state nothing is armed and LOAD_REFUSED is set. A write of COMMIT in a tile, also as a register write (so also one made through TUN), starts nothing and sets DROPPED; what a tile commits comes from a CONFIG marker. -/
def Obligations.EpochLoadsAndTileCommits : Prop :=
  (∀ (hi : Word32) (s : State), s.pageOn 0x002 = true → s.stateCode = stLOADED ∨ s.stateCode = stARMED →
    Completes (.epochLoad hi) s (fun t => t.cmt = { s.cmt with loadArmed := true } ∧
      t.rd R.CMT.EPOCH_LOAD = (s.word R.CMT.EPOCH_LOAD.key).toNat + 2 ^ 32 * hi.toNat ∧ WordsKept s t [R.CMT.EPOCH_LOAD.key + 4])) ∧
  (∀ (hi : Word32) (s : State), s.pageOn 0x002 = true → s.stateCode ≠ stLOADED → s.stateCode ≠ stARMED →
    Completes (.epochLoad hi) s (fun t => t.cmt = s.cmt ∧ t.rd R.CMT.LOAD_REFUSED = 1)) ∧
  (∀ (hi : Word32) (t0 : Nat) (s : State), s.isTile = true →
    Completes (.commit hi t0) s (fun t => OnlyRegs s t ∧ t.rd R.CMT.DROPPED = 1 ∧
      WordsKept s t [R.CMT.DROPPED.key, R.CMT.CNT_DROPPED.key]) ∧
    Completes (.registerWrite 0x2604 15 hi t0) s (fun t => OnlyRegs s t ∧ t.rd R.CMT.DROPPED = 1 ∧
      WordsKept s t [R.CMT.DROPPED.key, R.CMT.CNT_DROPPED.key])) ∧
  (∀ (port t0 : Nat) (b : ConfigBody) (s : State), s.isTile = true → s.red.upstream = some port → s.hasId = true →
    s.isUp port = true → s.ignores b = false → s.epoch < b.target →
    failures ((s.inForce b.target).tileErrs (overlay (some (b.sch, b.clk)) s.snapshot)) = [] →
    Completes (.configReceive port b t0) s (fun t => (∃ c ∈ t.cmt.pend, c.target = b.target ∧
      c.snap = overlay (some (b.sch, b.clk)) s.snapshot) ∧ Counted s t R.CMT.CNT_ACCEPT ∧
      ∀ k, isShadow k = true ∨ isLive k = true → t.word k = s.word k))

/-- The write of a commit on a ticking sender fixes the epoch that it earns and its verdict: the target, or the first tick that can still be met when the target comes earlier, with code LATE when LATE_REJECT is 1, FAR_EPOCH beyond 2^20 epochs, EPOCH_ORDER behind a later pending commit, PENDING_FULL with four pending for other epochs, and 0 else (R46 to R48). The end of validation clears BUSY. A commit with verdict 0 whose checks pass is pending for that epoch with its snapshot and counts as accepted; one that was moved counts as late too (R47). One with another verdict, or whose checks fail on a page, is rejected and counted, and the pending commits stay (R46, R68). None of these changes a shadow register or a live copy. Before the first tick an accepted commit applies at the end of validation: every live copy takes its value in the snapshot, and nothing is pending (16 R415). While validation runs a further COMMIT is dropped and counted (R46). That commits of one epoch merge while four are pending, the configuration a commit is checked against, the transit times computed for it, and which word of a dropped write counts are the model's (logs 82, 83, 101, 94). -/
def Obligations.CommitsAreJudged : Prop :=
  (∀ (hi : Word32) (t0 : Nat) (s : State), s.isSender = true → s.pageOn 0x002 = true → s.flag R.CMT.BUSY = false → s.frm.ticked = true →
    Completes (.commit hi t0) s (fun t => ∃ c e code, t.cmt.check = some (c, max s.time t0) ∧ t.cmt.judged = some (e, code) ∧
      e = max c.target (s.firstTick (max s.time t0)) ∧
      (c.target < s.firstTick (max s.time t0) → s.flag R.CMT.LATE_REJECT = true → code = ceLATE) ∧
      ((c.target < s.firstTick (max s.time t0) → s.flag R.CMT.LATE_REJECT = false) →
        (s.epoch + 2 ^ 20 < c.target → code = ceFAR_EPOCH) ∧
        (c.target ≤ s.epoch + 2 ^ 20 → (∃ d ∈ s.cmt.pend, e < d.target) → code = ceEPOCH_ORDER) ∧
        (c.target ≤ s.epoch + 2 ^ 20 → (∀ d ∈ s.cmt.pend, d.target < e) → 4 ≤ s.cmt.pend.length → code = cePENDING_FULL) ∧
        (c.target ≤ s.epoch + 2 ^ 20 → (∀ d ∈ s.cmt.pend, d.target ≤ e) →
          (s.cmt.pend.length < 4 ∨ ∃ d ∈ s.cmt.pend, d.target = e) → code = 0)))) ∧
  (∀ (t0 w e : Nat) (c : Commit) (s : State), s.isSender = true → s.frm.ticked = true → s.cmt.check = some (c, w) →
    s.cmt.judged = some (e, 0) → e < 2 ^ 64 →
    failures (((s.atTime t0).validated.inForce e).senderErrs c.snap ++
      mapResults (((s.atTime t0).validated.inForce e).mapErrs (snapRd c.snap))) = [] →
    Completes (.commitValidationDone t0) s (fun t => t.rd R.CMT.BUSY = 0 ∧ t.cmt.check = none ∧ Counted s t R.CMT.CNT_ACCEPT ∧
      (∃ d ∈ t.cmt.pend, d.target = e ∧ d.snap = c.snap) ∧ t.boot.anyCommit = true ∧
      (e ≠ c.target → Counted s t R.CMT.CNT_LATE ∧ Pending t R.CMT.ev_LATE ∧ t.rd R.CMT.LATE_EPOCH = e) ∧
      ∀ k, isShadow k = true ∨ isLive k = true → t.word k = s.word k)) ∧
  (∀ (t0 w e code : Nat) (c : Commit) (s : State), s.isSender = true → s.frm.ticked = true → s.cmt.check = some (c, w) →
    s.cmt.judged = some (e, code) → code ≠ 0 → code < 256 →
    Completes (.commitValidationDone t0) s (fun t => t.rd R.CMT.BUSY = 0 ∧ t.cmt = { s.cmt with check := none, judged := none } ∧
      t.rd R.CMT.REJECTED = 1 ∧ Counted s t R.CMT.CNT_REJECT ∧ Pending t R.CMT.ev_REJECT ∧
      t.word 0x2024 = BitVec.ofNat 32 code ∧
      ∀ k, isShadow k = true ∨ isLive k = true → t.word k = s.word k)) ∧
  (∀ (t0 w e : Nat) (c : Commit) (s : State), s.isSender = true → s.frm.ticked = true → s.cmt.check = some (c, w) →
    s.cmt.judged = some (e, 0) →
    failures (((s.atTime t0).validated.inForce e).senderErrs c.snap ++
      mapResults (((s.atTime t0).validated.inForce e).mapErrs (snapRd c.snap))) ≠ [] →
    Completes (.commitValidationDone t0) s (fun t => t.rd R.CMT.BUSY = 0 ∧ t.cmt = { s.cmt with check := none, judged := none } ∧
      t.rd R.CMT.REJECTED = 1 ∧ Counted s t R.CMT.CNT_REJECT ∧ Pending t R.CMT.ev_REJECT ∧
      ∀ k, isShadow k = true ∨ isLive k = true → t.word k = s.word k)) ∧
  (∀ (t0 w : Nat) (c : Commit) (s : State), s.isSender = true → s.frm.ticked = false → s.cmt.check = some (c, w) →
    c.snap = s.snapshot → smWf resetWord s.regs = true →
    failures (((s.atTime t0).validated.inForce 0).senderErrs c.snap ++
      mapResults (((s.atTime t0).validated.inForce 0).mapErrs (snapRd c.snap))) = [] →
    Completes (.commitValidationDone t0) s (fun t => t.rd R.CMT.BUSY = 0 ∧ t.cmt = { s.cmt with check := none, judged := none } ∧
      Counted s t R.CMT.CNT_ACCEPT ∧ t.boot.anyCommit = true ∧
      ∀ k, isShadow k = true → t.word k = s.word k ∧ t.word (k + 0x400) = s.word k)) ∧
  (∀ (hi : Word32) (t0 : Nat) (s : State), s.pageOn 0x002 = true → s.flag R.CMT.BUSY = true →
    Completes (.commit hi t0) s (fun t => OnlyRegs s t ∧ Counted s t R.CMT.CNT_DROPPED ∧ t.rd R.CMT.DROPPED = 1))

/-- Applying a snapshot of shadow registers sets the live copy of every one of them to its value in the snapshot, and no word but live copies and APPLIED_EPOCH words changes (R49, R62). Applying tables puts the whole pending copy of each in force and leaves the pending copies as they are (R64). That the pending copies apply as they stand then, and that a page whose tables change shows APPLIED_EPOCH, are the model's reading (logs 5, 50). -/
def Obligations.AnApplyIsOneInstant : Prop :=
  (∀ (m : List (Nat × Word32)) (e k : Nat) (s : State), smWf resetWord s.regs = true → smWf resetWord m = true →
    isShadow k = true → (s.applySnap (smKeep isShadow m) e).word (k + 0x400) = smGet resetWord m k) ∧
  (∀ (m : List (Nat × Word32)) (e k : Nat) (s : State), smWf resetWord s.regs = true → isLive k = false → k % 0x1000 ≠ 0x020 →
    (s.applySnap (smKeep isShadow m) e).word k = s.word k) ∧
  (∀ (e : Nat) (s : State), (s.applyTables e).tabs = s.pend ∧ (s.applyTables e).pend = s.pend ∧
    ∀ k, k % 0x1000 ≠ 0x020 → (s.applyTables e).word k = s.word k)

/-- A copy of the marker of the commit that targets the next epoch is sent, once, on every port that launches its TICK (R39). TICK_LAUNCH sends the TICK of the next epoch on each of those ports (R39, R269), and no reset that waits for a response to leave is due (log 204). At its tick a sender's epoch becomes the next one: the count goes on by one, and at the first tick a loaded number comes in (R35, R87). Which ports a marker leaves by is the model's reading (log 84). -/
def Obligations.SenderTicks : Prop :=
  (∀ (copy t0 : Nat) (c : Commit) (s : State), s.isSender = true → s.frm.ticked = true → s.cmt.pend.find? (fun c => c.target == s.epoch + 1) = some c →
    1 ≤ copy → copy ≤ 2 → s.frm.copies < copy →
    Completes (.configMarkerLaunch copy t0) s (fun t => t.regs = s.regs ∧ t.cmt = s.cmt ∧ t.frm.copies = copy ∧
      (∀ p ∈ s.tickPorts (s.epoch + 1), ∃ b, Sends t p (.config p none b) ∧ b.target = c.target ∧ b.copy = copy ∧ b.recovery = false))) ∧
  (∀ (t0 : Nat) (s : State), s.tickPlanned = true → s.frm.tickOut = false → s.boot.coilDue = none →
    Completes (.tickLaunch t0) s (fun t => t.frm = { s.frm with tickOut := true } ∧ t.mram = s.mram ∧ t.cmt = s.cmt ∧
      (∀ p ∈ s.tickPorts s.nextEpoch, ∃ b, Output.tick p b ∈ t.out ∧ b.epoch = s.nextEpoch ∧
        b.commitTarget = s.commitTarget s.nextEpoch))) ∧
  (∀ (t0 : Nat) (s : State), s.tickPlanned = true → s.frm.ticked = true → s.epoch + 1 < 2 ^ 64 →
    Completes (.senderTick t0) s (fun t => t.epoch = s.epoch + 1 ∧ t.frm.ticked = true ∧ t.frm.tickOut = false ∧
      t.cmt.loadArmed = false ∧ t.role = .sender)) ∧
  (∀ (t0 : Nat) (s : State), s.tickPlanned = true → s.frm.ticked = false → s.cmt.loadArmed = true →
    Completes (.senderTick t0) s (fun t => t.epoch = s.rd R.CMT.EPOCH_LOAD ∧ t.frm.ticked = true))

/-- A TICK on the upstream port that has not come too late is kept for the next tick, whose time it fixes; a late one only counts (R37, R108). In the frame of a missed commit a TICK whose spacing is not the applied period's turns the tile dark (05 R134; that the tile tells it by a spacing more than 2 µs off is log 176). At the tick that it announced a ticking tile's epoch is the TICK's. A tile that before its first tick is not LOCKED, or has no node ID or no upstream port, only tracks the number, and one that is LOCKED with both starts its first frame (R107). Without a TICK the epoch counts on by one, and the second tick in a row without one starts a fail-over with cause TICK_MISS (R38, R280). An EVENT's entries join the sender's queue in order, as far as its 256 entries have room (R77). What a tile shows while it only tracks is the model's reading (log 95). -/
def Obligations.TileTicks : Prop :=
  (∀ (port t0 : Nat) (b : TickBody) (s : State), s.isTile = true → s.red.upstream = some port → s.isUp port = true →
    (max s.time t0 : Nat) ≤ s.tickMoment b →
    Completes (.tickReceive port b t0) s (fun t =>
      t.frm = { s.frm with rx := some b, rxPort := port, nextTick := (s.tickMoment b).toNat } ∧
      t.red.upstream = some port ∧ t.red.lastTick = b.epoch ∧ (s.inMissed = false → t.regs = s.regs) ∧
      (s.inMissed = true → 2 * us1 < (s.tickMoment b - s.frm.tickTime - s.period).natAbs → t.til.dark = true))) ∧
  (∀ (port t0 : Nat) (b : TickBody) (s : State), s.isTile = true → s.red.upstream = some port → s.isUp port = true →
    s.tickMoment b < (max s.time t0 : Nat) →
    Completes (.tickReceive port b t0) s (fun t => OnlyRegs s t ∧ Counted s t R.CLK.CNT_TICK_LATE ∧
      WordsKept s t [R.CLK.CNT_TICK_LATE.key])) ∧
  (∀ (t0 : Nat) (b : TickBody) (s : State), s.isTile = true → s.frm.ticked = true → s.frm.rx = some b → b.epoch < 2 ^ 64 →
    Completes (.tileTick t0) s (fun t => t.epoch = b.epoch ∧ t.frm.ticked = true ∧ t.frm.rx = none ∧ t.frm.missing = 0 ∧
      t.role = .tile)) ∧
  (∀ (t0 : Nat) (b : TickBody) (s : State), s.isTile = true → s.frm.ticked = false → s.lockState ≠ lsLOCKED ∨ s.hasId = false ∨ s.red.upstream = none → s.frm.rx = some b →
    b.epoch < 2 ^ 64 → Completes (.tileTick t0) s (fun t => t.epoch = b.epoch ∧ t.frm.ticked = false ∧ t.frm.rx = none)) ∧
  (∀ (t0 u : Nat) (b : TickBody) (s : State), s.isTile = true → s.frm.ticked = false → s.lockState = lsLOCKED → s.hasId = true →
    s.red.upstream = some u → s.frm.rx = some b → b.epoch < 2 ^ 64 →
    Completes (.tileTick t0) s (fun t => t.epoch = b.epoch ∧ t.frm.ticked = true ∧ t.frm.rx = none)) ∧
  (∀ (t0 : Nat) (s : State), s.isTile = true → s.frm.ticked = true → s.frm.rx = none → s.epoch + 1 < 2 ^ 64 →
    Completes (.tickMissing t0) s (fun t => t.epoch = s.epoch + 1 ∧ t.frm.missing = s.frm.missing + 1 ∧
      (s.frm.missing = 1 → s.flag R.RED.st_FAILOVER = false →
        t.rd R.RED.st_FAILOVER = 1 ∧ t.rd R.RED.FAILOVER_CAUSE = fcTICK_MISS))) ∧
  (∀ (port src epoch : Nat) (es : List EvtEntry) (s : State), s.isSender = true → s.isUp port = true →
    s.evt.tq.length ≤ 256 →
    Completes (.eventReceive port src epoch es) s (fun t => t.evt.tq = (s.evt.tq ++ es.map (fun e =>
      ({ page := e.page, port := port, node := src, subtree := e.subtree, bits := e.bits, epoch := epoch % 2 ^ 32, more := e.more } : TqEntry))).take 256))

/-- Before the first tick TIME_SET_GO steps the time base at once to the requested time (16 R415), and on a ticking sender it asks for that step, in whole ns as a TICK carries it, at the first tick 250 µs or more ahead (R83, 02 R459). On a PTP source both it and PPS_LOAD are refused and change nothing else (R83). PPS_LOAD arms the load; a PPS edge shows its distance from the nearest whole second, when armed asks a ticking sender's time base to step to TIME_SET_SEC, and unarmed does nothing else, so it is never a lock source; a lost PPS counts (R83, R90). That an armed edge acts also when a PTP source has become active since is the model's choice (log 191). That edges count in whole ns is the model's reading (log 96). -/
def Obligations.TheTimeBaseIsSet : Prop :=
  (∀ (t0 : Nat) (s : State), s.isSender = true → isPtp s.active = false → s.frm.ticked = false →
    Completes (.timeSetGo t0) s (fun t => t.rd R.CLK.TIME_SET_REFUSED = 0 ∧ Pending t R.CLK.ev_TIME_STEP ∧ t.clk.step = none ∧
      t.clk.tb = s.clk.tb + (((s.rd R.CLK.TIME_SET_SEC * sec1 + s.rd R.CLK.TIME_SET_NS * ns1 : Nat) : Int) - (s.atTime t0).base))) ∧
  (∀ (t0 : Nat) (s : State), s.isSender = true → isPtp s.active = false → s.frm.ticked = true →
    Completes (.timeSetGo t0) s (fun t => t.clk = { s.clk with ppsArm := false, step := some ((s.atTime t0).firstTick (max s.time t0), nsOf (((s.rd R.CLK.TIME_SET_SEC * sec1 + s.rd R.CLK.TIME_SET_NS * ns1 : Nat) : Int) - (s.atTime t0).base)) })) ∧
  (∀ (t0 : Nat) (s : State), s.isSender = true → isPtp s.active = true →
    Completes (.timeSetGo t0) s (fun t => OnlyRegs s t ∧ t.rd R.CLK.TIME_SET_REFUSED = 1 ∧ WordsKept s t [R.CLK.TIME_SET_REFUSED.key]) ∧
    Completes .ppsLoad s (fun t => OnlyRegs s t ∧ t.rd R.CLK.TIME_SET_REFUSED = 1 ∧ WordsKept s t [R.CLK.TIME_SET_REFUSED.key])) ∧
  (∀ (s : State), s.isSender = true → isPtp s.active = false →
    Completes .ppsLoad s (fun t => t.clk = { s.clk with ppsArm := true, step := none } ∧ t.rd R.CLK.TIME_SET_REFUSED = 0)) ∧
  (∀ (t0 : Nat) (s : State), s.isSender = true → s.lvB R.REF.PPS_CFG_EN = true → s.clk.ppsArm = false →
    Completes (.ppsEdge t0) s (fun t => OnlyRegs s t ∧ t.rd R.REF.PPS_PRESENT = 1 ∧
      t.rd R.REF.PPS_OFFSET = unsignedOf R.REF.PPS_OFFSET.w (nsOf (secondOffset (s.atTime t0).base)) ∧
      WordsKept s t [R.REF.PPS_PRESENT.key, R.REF.PPS_OFFSET.key])) ∧
  (∀ (t0 : Nat) (s : State), s.isSender = true → s.lvB R.REF.PPS_CFG_EN = true → s.clk.ppsArm = true → s.frm.ticked = true →
    Completes (.ppsEdge t0) s (fun t => t.rd R.REF.PPS_PRESENT = 1 ∧
      t.rd R.REF.PPS_OFFSET = unsignedOf R.REF.PPS_OFFSET.w (nsOf (secondOffset (s.atTime t0).base)) ∧
      t.clk = { s.clk with ppsArm := false, step := some ((s.atTime t0).firstTick (max s.time t0),
        nsOf (((s.rd R.CLK.TIME_SET_SEC * sec1 : Nat) : Int) - (s.atTime t0).base)) })) ∧
  (∀ (t0 : Nat) (s : State), s.isSender = true → s.flag R.REF.PPS_PRESENT = true →
    Completes (.ppsLoss t0) s (fun t => OnlyRegs s t ∧ t.rd R.REF.PPS_PRESENT = 0 ∧ Counted s t R.REF.CNT_PPS_LOST ∧
      Pending t R.REF.ev_PPS_LOST))

/-- The first edge of a REF input is only noted, and a later one shows its interval (R89, R99). The loss of an input shows it absent, counts, makes it unusable and unqualified, and its offset reads as not measured (R89, R93, R115). On a ticking sender a source that qualifies after QUAL_TIME is qualified and never displaces the active one (R93, R95). Holdover that has lasted HOLDOVER_LIMIT expires (R98); in a tile the limit is the field's reset value, the model's choice (log 168). That edges count in whole ns is the model's reading (log 96). -/
def Obligations.SourcesQualifyAndAreLost : Prop :=
  (∀ (input t0 : Nat) (s : State), s.isSender = true → input < 2 → s.lvB (refPick input R.REF.REFA_CFG_EN R.REF.REFB_CFG_EN) = true →
    (s.src (3 + input)).last = none →
    Completes (.refEdge input t0) s (fun t => t.regs = s.regs ∧ (t.src (3 + input)).last = some (max s.time t0 / ns1 * ns1))) ∧
  (∀ (input t0 l : Nat) (s : State), s.isSender = true → input < 2 → s.lvB (refPick input R.REF.REFA_CFG_EN R.REF.REFB_CFG_EN) = true →
    (s.src (3 + input)).last = some l →
    Completes (.refEdge input t0) s (fun t =>
      t.rd (refPick input R.REF.REFA_INTERVAL R.REF.REFB_INTERVAL) = (max s.time t0 / ns1 * ns1 - l) / ns1 % 2 ^ 32 ∧
      t.role = .sender ∧ t.mram = s.mram)) ∧
  (∀ (input t0 : Nat) (s : State), s.isSender = true → input < 2 → s.flag (refPick input R.REF.REFA_PRESENT R.REF.REFB_PRESENT) = true →
    Completes (.refLoss input t0) s (fun t => t.rd (refPick input R.REF.REFA_PRESENT R.REF.REFB_PRESENT) = 0 ∧
      Counted s t (refPick input R.REF.CNT_REFA_LOST R.REF.CNT_REFB_LOST) ∧
      Pending t (refPick input R.REF.ev_REFA_LOST R.REF.ev_REFB_LOST) ∧ (t.src (3 + input)).usable = false ∧
      (t.src (3 + input)).qualified = false ∧ t.rd (R.CLK.SRC_OFFSET (2 + input)) = 0x7FFFFFFF ∧ (s.active ≠ 3 + input → t.active = s.active ∧ t.lockState = s.lockState ∨
        s.clk.next = some (3 + input)))) ∧
  (∀ (src t0 u : Nat) (s : State), s.isSender = true → s.frm.ticked = true → 1 ≤ src → src ≤ 4 → (s.src src).usable = true → (s.src src).since = some u →
    u + s.lv R.CLK.QUAL_TIME * sec1 ≤ max s.time t0 → (s.src src).qualified = false →
    Completes (.sourceQualify src t0) s (fun t => (t.src src).qualified = true ∧ (t.rd R.CLK.QUALIFIED).testBit (src - 1) = true ∧
      Pending t R.CLK.ev_SRC_QUALIFIED ∧ t.active = s.active ∧ t.lockState = s.lockState)) ∧
  (∀ (t0 : Nat) (s : State), s.running = true → s.lockState = lsHOLDOVER → s.holdLimit ≤ (s.atTime t0).holdElapsed →
    Completes (.holdoverExpiry t0) s (fun t => t.lockState = lsEXPIRED ∧ t.raw R.CLK.ev_HOLDOVER_EXPIRED = true ∧ t.role = s.role))

/-- A sample of the closed instance 1 moves its output toward that of instance 0 by at most 1 ppb, keeps it within ±32 ppm, and reaches it when it is that near (R101); FREQ shows it. While it is open its output stands, and it takes its input, which OUT1 shows (R102). A write of LOOP.CTRL opens every instance whose bit is set, and closes one whose bit is clear unless a commit of its coefficients is in validation or pending, which leaves it open (R102, R103). -/
def Obligations.LoopsOpenCloseAndSlew : Prop :=
  (∀ (s : State), s.running = true → s.isOpen 1 = false → -(32000 * 65536) ≤ (s.loop 1).u → (s.loop 1).u ≤ 32000 * 65536 →
    Completes .loopInnerSample s (fun t => -65536 ≤ (t.loop 1).u - (s.loop 1).u ∧ (t.loop 1).u - (s.loop 1).u ≤ 65536 ∧
      -(32000 * 65536) ≤ (t.loop 1).u ∧ (t.loop 1).u ≤ 32000 * 65536 ∧
      (-65536 ≤ (s.loop 0).u - (s.loop 1).u → (s.loop 0).u - (s.loop 1).u ≤ 65536 → -(32000 * 65536) ≤ (s.loop 0).u →
        (s.loop 0).u ≤ 32000 * 65536 → (t.loop 1).u = (s.loop 0).u) ∧
      t.rdI R.CLK.FREQ = (t.loop 1).u ∧ (t.loop 0) = s.loop 0)) ∧
  (∀ (s : State), s.running = true → s.isOpen 1 = true → -(2 ^ 31) ≤ (s.loop 0).u → (s.loop 0).u < 2 ^ 31 →
    Completes .loopInnerSample s (fun t => (t.loop 1).u = (s.loop 1).u ∧ (t.loop 1).x = (s.loop 0).u ∧
      t.rdI (R.LOOP.OUT 1) = (s.loop 0).u)) ∧
  (∀ (v : Word32) (s : State), s.pageOn 0x0C0 = true →
    Completes (.loopOpenWrite v) s (fun t => ∀ n, n < 10 →
      (v.getLsbD n = true → t.isOpen n = true) ∧
      (v.getLsbD n = false → t.isOpen n = (s.isOpen n && s.coefPending n))))

/-- An Announce of an acceptable first master brings a listening instance to UNCALIBRATED and shows its grandmaster (R91). The first accepted Sync makes it a slave; each Sync counts and shows its path delay (R93). The announce receipt timeout leaves it without a master in LISTENING, and a Sync timeout takes a slave to UNCALIBRATED; both lose the domain, which counts when it was a slave (R92). The order of data sets and the step to slave at the first Sync are those of IEEE 1588 as the model presumes them (log 25). -/
def Obligations.PtpInstances : Prop :=
  (∀ (inst t0 : Nat) (a : Announce) (s : State), s.ptpOn inst = true → (s.ptpSt inst).masters = [] →
    s.rd (R.PTP.PORT_STATE inst) = ppLISTENING → a.clockClass ≤ s.lv (R.PTP.CLASS_MAX inst) →
    Completes (.ptpAnnounce inst a t0) s (fun t => (t.ptpSt inst).masters = [a] ∧ t.rd (R.PTP.PORT_STATE inst) = ppUNCALIBRATED ∧
      t.rd (R.PTP.GM_IDENTITY inst) = a.gmId % 2 ^ 64 ∧ Pending t (R.PTP.ev_STATE_CHANGE inst) ∧ t.lockState = s.lockState)) ∧
  (∀ (inst pathDelay t0 : Nat) (offset : Int) (s : State), s.ptpOn inst = true → ppUNCALIBRATED ≤ s.rd (R.PTP.PORT_STATE inst) →
    Completes (.ptpSync inst offset pathDelay t0) s (fun t => t.rd (R.PTP.PORT_STATE inst) = ppSLAVE ∧
      Counted s t (R.PTP.CNT_SYNC inst) ∧ t.rd (R.PTP.MEAN_PATH_DELAY inst) = pathDelay % 2 ^ 32 ∧
      (t.src (1 + inst)).usable = true)) ∧
  (∀ (inst t0 : Nat) (s : State), s.ptpOn inst = true →
    Completes (.ptpAnnounceTimeout inst t0) s (fun t => (t.ptpSt inst).masters = [] ∧ t.rd (R.PTP.PORT_STATE inst) = ppLISTENING ∧
      (s.rd (R.PTP.PORT_STATE inst) = ppSLAVE → Counted s t (R.PTP.CNT_LOST inst)) ∧ (t.src (1 + inst)).qualified = false)) ∧
  (∀ (inst t0 : Nat) (s : State), s.ptpOn inst = true → s.rd (R.PTP.PORT_STATE inst) = ppSLAVE →
    Completes (.ptpSyncTimeout inst t0) s (fun t => t.rd (R.PTP.PORT_STATE inst) = ppUNCALIBRATED ∧
      Counted s t (R.PTP.CNT_LOST inst) ∧ Pending t (R.PTP.ev_LOST inst) ∧ (t.src (1 + inst)).qualified = false))

/-- In each beacon slot a sender sends a beacon on every port in use that can send, which carries its node ID, or NOID while it has none, its epoch, whether the port stands by, and the time at which it leaves, at most 8 µs after the start of the slot (R104; the delay is a free value, log 10). A valid beacon elects its port at a tile that has none (R10); one from a port in STANDBY elects nothing, and goes on by the other port of the pair one hop older (R11, R106). Without a beacon for 1 ms a tile is in holdover, and before its first tick it is unelected (R12, R109). At a sender, a far beacon on a watched port shows the loop (R285), and FAR_ACTIVE the sub-state that this beacon carries (log 51). -/
def Obligations.BeaconsElectAndDiscipline : Prop :=
  (∀ (t0 : Nat) (s : State), s.isSender = true →
    Completes (.beaconSlot t0) s (fun t => t.regs = s.regs ∧
      (∀ p ∈ s.ports, s.portOn p = true → s.canSend p = true → ∃ b, Sends t p (.beacon p b) ∧ (s.lvB R.GLB.NODE_VALID = true → b.src = s.lv R.GLB.NODE_ID) ∧
        b.noid = !s.lvB R.GLB.NODE_VALID ∧ (s.atTime t0).base ≤ b.originTime ∧ b.originTime ≤ (s.atTime t0).base + 8 * us1 ∧
        b.hops = 0 ∧ b.stby = !s.serves p ∧ b.epoch = s.epoch ∧ b.originPort = p))) ∧
  (∀ (port t0 : Nat) (b : Beacon) (s : State), s.isTile = true → port < 2 → s.isUp port = true → b.crcOk = true → b.hops ≤ 63 → b.stby = false →
    s.red.upstream = none →
    Completes (.beaconReceive port b t0) s (fun t => t.red.upstream = some port ∧ t.red.hops = b.hops + 1 ∧
      t.red.subcoil = b.subcoil ∧ t.role = .tile)) ∧
  (∀ (port t0 : Nat) (b : Beacon) (s : State), s.isTile = true → port < 2 → s.isUp port = true → b.stby = true → b.hops ≤ 63 → s.red.upstream = none →
    s.canSend (otherPort port) = true →
    Completes (.beaconReceive port b t0) s (fun t => t.red = s.red ∧ t.regs = s.regs ∧
      ∃ c, Sends t (otherPort port) (.beacon (otherPort port) c) ∧ c.hops = b.hops + 1 ∧ c.src = b.src ∧ c.stby = true ∧ c.originTime = b.originTime)) ∧
  (∀ (t0 : Nat) (s : State), s.isTile = true → s.clk.beacon + ms1 ≤ max s.time t0 →
    Completes (.beaconTimeout t0) s (fun t => t.holding = true ∧ (s.frm.ticked = false → t.red.upstream = none) ∧
      (s.frm.ticked = true → t.red = s.red))) ∧
  (∀ (port t0 : Nat) (b : Beacon) (s : State), s.isSender = true → s.portOn port = true → s.isUp port = true → b.crcOk = true →
    b.src ≠ s.lv R.GLB.NODE_ID → (s.lv R.RED.LOOP_CHECK).testBit port = true →
    Completes (.beaconReceive port b t0) s (fun t => (t.rd R.RED.LOOP_OK).testBit port = true ∧
      (t.rd R.RED.FAR_ACTIVE).testBit port = !b.stby ∧ port ∉ t.red.broken))

/-- A host write in range, with no channel in FAULT, changes the DRAM bytes it covers and no other byte (R381 to R383, R388); a host read in range returns the bytes and changes no byte when memory is sound and no word that it finds has more than one bit in error, and comes back poisoned when one that it reads from DRAM has (R382, R385); while a channel that it needs is stopped, or older reads wait, it waits behind them (R391, R392). An access at or above installed capacity, or while a channel is not ready, reads zeros or is discarded, counts in CNT_OOR on DRM0, raises OOR, and does nothing else (R381). In BISQUE BAR4 reads 0 and ignores writes (R410). That unwritten DRAM reads 0 is the model's choice (log 14). -/
def Obligations.DramKeepsWhatTheHostWrites : Prop :=
  (∀ (off : Nat) (data : List Byte) (s : State), s.isSender = true → s.outOfRange off data.length = false → s.drm.chans ≤ 4 →
    (∀ c ∈ List.range 4, s.flag (R.DRM.st_FAULT c) = false) →
    Completes (.bar4Write off data) s (fun t => t.role = s.role ∧ t.mram = s.mram ∧ t.tabs = s.tabs ∧
      ∀ a, dramByte t.drm.mem a = if off ≤ a ∧ a < off + data.length then data.getD (a - off) 0 else dramByte s.drm.mem a)) ∧
  (∀ (off len e : Nat) (errs : List (Nat × Nat)) (s : State), s.isSender = true → s.outOfRange off len = false → 0 < len →
    s.drm.reads = [] → s.hostReadWaits ⟨off, len, errs⟩ = false →
    (∀ x ∈ s.drm.ch, x.2.wq = []) → e ∈ errs.map (fun x => x.1 / 8) → (∀ x ∈ errs, 2 ≤ x.2) → off / 64 ≤ e → e ≤ (off + len - 1) / 64 →
    Completes (.bar4Read off len errs) s (fun t => Output.hostRead [] true ∈ t.out ∧ t.drm.mem = s.drm.mem ∧
      Pending t (R.DRM.ev_UE (dramCh s.drm.chans (64 * e))))) ∧
  (∀ (off len : Nat) (errs : List (Nat × Nat)) (s : State), s.isSender = true → s.outOfRange off len = false → s.drm.chans ≤ 4 →
    s.drm.reads = [] → s.hostReadWaits ⟨off, len, errs⟩ = false →
    (∀ c ∈ List.range 4, s.flag (R.DRM.st_FAULT c) = false) → s.drm.poison = [] → (∀ e ∈ errs, e.2 ≤ 1) →
    Completes (.bar4Read off len errs) s (fun t => t.out = [.hostRead ((List.range len).map (fun i => dramByte s.drm.mem (off + i))) false] ∧
      t.drm.mem = s.drm.mem ∧ t.drm.poison = [])) ∧
  (∀ (off len : Nat) (errs : List (Nat × Nat)) (s : State), s.isSender = true → s.outOfRange off len = false →
    s.drm.reads ≠ [] ∨ s.hostReadWaits ⟨off, len, errs⟩ = true →
    Completes (.bar4Read off len errs) s (fun t =>
      t = { s with out := [], drm := { s.drm with reads := s.drm.reads ++ [⟨off, len, errs⟩] } })) ∧
  (∀ (off : Nat) (data : List Byte) (s : State), s.isSender = true → data ≠ [] → s.outOfRange off data.length = true →
    Completes (.bar4Write off data) s (fun t => OnlyRegs s t ∧ t.out = [] ∧ Counted s t (R.DRM.CNT_OOR 0) ∧
      Pending t (R.DRM.ev_OOR 0) ∧ WordsKept s t [(R.DRM.CNT_OOR 0).key, pendKey (R.DRM.ev_OOR 0)])) ∧
  (∀ (off len : Nat) (errs : List (Nat × Nat)) (s : State), s.isSender = true → s.outOfRange off len = true →
    Completes (.bar4Read off len errs) s (fun t => OnlyRegs s t ∧ t.out = [.hostRead (List.replicate len 0) false] ∧
      Counted s t (R.DRM.CNT_OOR 0) ∧ Pending t (R.DRM.ev_OOR 0) ∧ WordsKept s t [(R.DRM.CNT_OOR 0).key, pendKey (R.DRM.ev_OOR 0)])) ∧
  (∀ (off len : Nat) (errs : List (Nat × Nat)) (data : List Byte) (s : State), s.role = .sender → s.stateCode = stBISQUE →
    Completes (.bar4Read off len errs) s (fun t => t = { s with out := [.hostRead (List.replicate len 0) false] }) ∧
    Completes (.bar4Write off data) s (fun t => t = { s with out := [] }))

/-- A rank owes 8 refreshes at most: a postponed one joins them, the one due at 8 owed counts in CNT_POSTPONE_MAX, or waits for a replay that is pending (R392), a refresh pulled in ahead covers one that is due, and a rank with no access that hits its pages issues all it owes (R384; log 15). An alert counts by its cause and stops the channel until it is answered; the eighth replay in a row that meets another puts the channel in FAULT (R387, R388). The scrub goes line by line, skips what the write queue holds, counts and rewrites the words that it corrects, counts uncorrectable lines, and starts anew at SCRUB_NOW; which word of the line an error is in is open (log 188); its alarm shows the age of the last pass (R385, R389). UE_1S holds the last 1,000 steps of 1 ms (R386). FREQ_GO toward the inactive set in LOADED or ARMED puts every enabled channel in self-refresh with empty queues, any other is refused, and its end, with no replay pending, switches the set and raises FREQ_DONE (R391, R392). -/
def Obligations.DramRefreshAlertsAndScrub : Prop :=
  (∀ (ch rank : Nat) (hits : Bool) (s : State), s.isSender = true → ch < 4 → s.chReady ch = true → s.flag (R.DRM.FREQ_BUSY ch) = false →
    Completes (.refreshTimer ch rank hits) s (fun t =>
      let owed := smGet (fun _ => 0) (s.chSt ch).owed rank
      let ahead := smGet (fun _ => 0) (s.chSt ch).ahead rank
      t.drm.mem = s.drm.mem ∧
      (ahead ≠ 0 → (t.chSt ch).owed = (s.chSt ch).owed ∧ smGet (fun _ => 0) (t.chSt ch).ahead rank = ahead - 1) ∧
      (ahead = 0 → 8 ≤ owed → (t.chSt ch).owed = (s.chSt ch).owed ∧
        ((s.chSt ch).alert = false → Counted s t (R.DRM.CNT_POSTPONE_MAX ch)) ∧
        ((s.chSt ch).alert = true → rank ∈ (t.chSt ch).urgent)) ∧
      (ahead = 0 → owed < 8 → (hits || (s.chSt ch).alert) = true → smGet (fun _ => 0) (t.chSt ch).owed rank = owed + 1) ∧
      (ahead = 0 → owed < 8 → (hits || (s.chSt ch).alert) = false → smGet (fun _ => 0) (t.chSt ch).owed rank = 0 ∧
        smGet (fun _ => 0) (t.chSt ch).ahead rank ≤ 8))) ∧
  (∀ (ch : Nat) (wcrc : Bool) (s : State), s.isSender = true → ch < 4 → s.chReady ch = true →
    s.lvB (if wcrc then R.DRM.WCRC_EN ch else R.DRM.CA_PAR_EN ch) = true →
    Completes (.dramAlert ch wcrc) s (fun t => (t.chSt ch).alert = true ∧ t.drm.mem = s.drm.mem ∧
      Counted s t (if wcrc then R.DRM.CNT_WCRC ch else R.DRM.CNT_CA_PAR ch) ∧ Pending t (R.DRM.ev_ALERT ch))) ∧
  (∀ (ch : Nat) (again : Bool) (s : State), s.isSender = true → ch < 4 → s.chReady ch = true → (s.chSt ch).alert = true →
    Completes (.alertNReturn ch again) s (fun t => Counted s t (R.DRM.CNT_REPLAY ch) ∧ t.drm.mem = s.drm.mem ∧
      (again = false → (t.chSt ch).alert = false ∧ (t.chSt ch).replays = 0 ∧ t.flag (R.DRM.st_FAULT ch) = s.flag (R.DRM.st_FAULT ch)) ∧
      (again = true → (s.chSt ch).replays < 7 → (t.chSt ch).alert = true ∧ (t.chSt ch).replays = (s.chSt ch).replays + 1 ∧
        t.flag (R.DRM.st_FAULT ch) = s.flag (R.DRM.st_FAULT ch)) ∧
      (again = true → 7 ≤ (s.chSt ch).replays → t.flag (R.DRM.st_FAULT ch) = true ∧ t.raw (R.DRM.ev_FAULT ch) = true))) ∧
  (∀ (ch err : Nat) (s : State), s.isSender = true → ch < 4 → s.chReady ch = true → s.chStopped ch = false →
    Completes (.patrolScrubLine ch err) s (fun t => ∃ w, w < 8 ∧
      (let line := dramOffset s.drm.chans ch (64 * (s.chSt ch).scrub) / 64
      let queued := (s.chSt ch).wq.any (fun e => e.line == line)
      let fault := s.flag (R.DRM.st_FAULT ch)
      let weak := ((s.noteErrs [(8 * line + w, err)] line).weakWords line).length
      t.drm.mem = s.drm.mem ∧
      (t.chSt ch).scrub = (if (s.chSt ch).scrub + 1 < s.rd (R.DRM.CAPACITY ch) / 64 then (s.chSt ch).scrub + 1 else 0) ∧
      (queued = true → t.rd (R.DRM.CNT_CE ch) = s.rd (R.DRM.CNT_CE ch) ∧ t.rd (R.DRM.CNT_UE ch) = s.rd (R.DRM.CNT_UE ch)) ∧
      (queued = false → fault = false → t.rd (R.DRM.CNT_CE ch) = min (s.rd (R.DRM.CNT_CE ch) + weak) 0xFFFFFFFF ∧
        (0 < weak → Counted s t (R.DRM.CNT_SCRUB_CORR ch) ∧ Pending t (R.DRM.ev_CE ch) ∧ t.weakWords line = [])) ∧
      (err = 1 → linePoisoned s.drm.poison line = false → 0 < weak) ∧
      (queued = false → (fault || linePoisoned s.drm.poison line || decide (2 ≤ err)) = true →
        Counted s t (R.DRM.CNT_UE ch) ∧ Pending t (R.DRM.ev_UE ch))))) ∧
  (∀ (ch : Nat) (s : State), s.isSender = true → ch < 4 → s.chReady ch = true →
    Completes (.scrubNow ch) s (fun t => t = { s with out := [], drm := t.drm } ∧ (t.chSt ch).scrub = 0 ∧ t.drm.mem = s.drm.mem) ∧
    Completes (.dramScrubLateAlarm ch) s (fun t => OnlyRegs s t ∧ t.raw (R.DRM.ev_SCRUB_LATE ch) = s.scrubOverdue ch ∧
      WordsKept s t [evtRawKey (R.DRM.page ch), evtPendKey (R.DRM.page ch)])) ∧
  (∀ (ch : Nat) (s : State), s.isSender = true → s.drm.chans ≤ 4 → ch < s.drm.chans →
    Completes .ueWindowStep s (fun t => (t.chSt ch).bins = (0 :: (s.chSt ch).bins).take 1000 ∧
      t.rd (R.DRM.UE_1S ch) = min (((0 :: (s.chSt ch).bins).take 1000).foldl (· + ·) 0) 65535)) ∧
  (∀ (v : Word32) (s : State), s.isSender = true → v.getLsbD 0 = true →
    ((s.stateCode = stLOADED ∨ s.stateCode = stARMED) ∧ fieldOf v 1 1 ≠ s.rd (R.DRM.ACTIVE_SET 0) ∧ s.rd (R.DRM.FREQ_BUSY 0) = 0 →
      s.drm.chans ≤ 4 → Completes (.freqGo v) s (fun t => t.rd (R.DRM.FREQ_REFUSED 0) = 0 ∧ t.drm.target = fieldOf v 1 1 ∧
        t.drm.mem = s.drm.mem ∧ ∀ c, c < s.drm.chans → t.rd (R.DRM.FREQ_BUSY c) = 1 ∧ t.rd (R.DRM.IN_SR c) = 1 ∧
          (t.chSt c).wq = [] ∧ (t.chSt c).owed = [])) ∧
    (¬((s.stateCode = stLOADED ∨ s.stateCode = stARMED) ∧ fieldOf v 1 1 ≠ s.rd (R.DRM.ACTIVE_SET 0) ∧ s.rd (R.DRM.FREQ_BUSY 0) = 0) →
      Completes (.freqGo v) s (fun t => OnlyRegs s t ∧ t.rd (R.DRM.FREQ_REFUSED 0) = 1 ∧
        WordsKept s t [(R.DRM.FREQ_REFUSED 0).key]))) ∧
  (∀ (s : State), s.isSender = true → s.flag (R.DRM.FREQ_BUSY 0) = true → s.drm.chans ≤ 4 →
    (∀ c, c < s.drm.chans → (s.chSt c).alert = false) →
    Completes .freqDone s (fun t => ∀ c, c < s.drm.chans → t.rd (R.DRM.FREQ_BUSY c) = 0 ∧ t.rd (R.DRM.IN_SR c) = 0 ∧
      (s.flag (R.DRM.st_FAULT c) = false → t.rd (R.DRM.ACTIVE_SET c) = s.drm.target % 2 ∧ Pending t (R.DRM.ev_FREQ_DONE c))))

/-- Frames that the host hands over join the transmit queue and leave in ring order, with the FCS, when their launch time has come; each is counted, its descriptor shows it done, and the head advances (R114, R142). One whose descriptor comes back poisoned is dropped (R385); where that counts is the model's choice (log 189). A preview packet whose time has come leaves by the same port and counts (R155). One that requests a timestamp passes its identifier to the TSQ, which holds 64 entries in order; the 65th is lost, counts in CNT_LOST and sets OVF (R113). TSQ entries are popped one by one or flushed, and OVF_CLR clears OVF (R118). A received frame that nothing else takes enters the receive ring, or is dropped and counted when the ring is full or off (R140, R142). -/
def Obligations.HostQueuesAndTimestamps : Prop :=
  (∀ (port t0 : Nat) (v : Word32) (s : State), s.isSender = true → s.netPort port = true →
    Completes (.txqTailWrite port v t0) s (fun t => t.rd (R.NET.TXQ_TAIL port) = fieldOf v 0 8 ∧
      (t.netSt port).enq = (s.netSt port).enq ++
        List.replicate ((fieldOf v 0 8 + 256 - s.rd (R.NET.TXQ_TAIL port)) % 256) (max s.time t0) ∧
      WordsKept s t [(R.NET.TXQ_TAIL port).key] ∧ t.drm = s.drm)) ∧
  (∀ (port t0 : Nat) (s : State), s.isSender = true → s.netPort port = true → s.flag (R.NET.LINK_UP port) = true →
    (s.atTime t0).txReady port = true → (s.atTime t0).prvReady port = false → s.soundDram = true →
    s.outOfRange (descAt (s.rd (R.NET.TXQ_BASE port)) (s.rd (R.NET.TXQ_HEAD port))) 32 = false →
    Completes (.txFrameLaunch port t0) s (fun t =>
      let a := descAt (s.rd (R.NET.TXQ_BASE port)) (s.rd (R.NET.TXQ_HEAD port))
      let d := s.dramBytes a 32
      let n := leAt d 8 2
      let frame := if n ≠ 0 ∧ s.outOfRange (leAt d 0 8) n = true then List.replicate n 0 else s.dramBytes (leAt d 0 8) n
      t.out = [.netFrame port (frame ++ leBytes 4 (crc32 frame))] ∧ Counted s t (R.NET.CNT_TX_FRAMES port) ∧
      t.rd (R.NET.TXQ_HEAD port) = (s.rd (R.NET.TXQ_HEAD port) + 1) % 256 ∧
      (dramByte t.drm.mem (a + 11)).toNat % 2 = 1 ∧
      (∀ b, b ≠ a + 11 → dramByte t.drm.mem b = dramByte s.drm.mem b) ∧
      ((leAt d 10 1).testBit 1 = false → t.net.tsq = s.net.tsq) ∧
      ((leAt d 10 1).testBit 1 = true → s.net.tsq.length < 64 →
        t.net.tsq = s.net.tsq ++ [{ id := leAt d 12 2, port := port, time := (s.atTime t0).base }] ∧
        t.rd R.TSQ.LEVEL = s.net.tsq.length + 1 ∧ t.raw R.TSQ.ev_NONEMPTY = true) ∧
      ((leAt d 10 1).testBit 1 = true → 64 ≤ s.net.tsq.length →
        t.net.tsq = s.net.tsq ∧ t.rd R.TSQ.OVF = 1 ∧ Counted s t R.TSQ.CNT_LOST ∧ Pending t R.TSQ.ev_OVERFLOW))) ∧
  (∀ (port t0 : Nat) (s : State), s.isSender = true → s.netPort port = true → s.flag (R.NET.LINK_UP port) = true →
    (s.atTime t0).txReady port = true → (s.atTime t0).prvReady port = false →
    s.outOfRange (descAt (s.rd (R.NET.TXQ_BASE port)) (s.rd (R.NET.TXQ_HEAD port))) 32 = false →
    linePoisoned s.drm.poison (descAt (s.rd (R.NET.TXQ_BASE port)) (s.rd (R.NET.TXQ_HEAD port)) / 64) = true → (∀ x ∈ s.drm.ch, x.2.wq = []) →
    Completes (.txFrameLaunch port t0) s (fun t => (∀ f, Output.netFrame port f ∉ t.out) ∧
      t.drm.mem = s.drm.mem ∧ Counted s t (R.NET.CNT_RXQ_DROP port) ∧
      t.rd (R.NET.TXQ_HEAD port) = (s.rd (R.NET.TXQ_HEAD port) + 1) % 256)) ∧
  (∀ (port t0 j launch : Nat) (rest : List (Nat × Nat)) (s : State), s.isSender = true → s.netPort port = true →
    s.flag (R.NET.LINK_UP port) = true → (s.atTime t0).txReady port = false → s.lvB R.PRV.NET_EN = true → s.lv R.PRV.NET = port →
    s.prv.queue = (j, launch) :: rest → launch ≤ (s.atTime t0).base →
    Completes (.txFrameLaunch port t0) s (fun t => Output.preview port (s.prvPacket port j) ∈ t.out ∧ Counted s t R.PRV.CNT_TX_PKTS ∧
      Counted s t (R.NET.CNT_TX_FRAMES port) ∧ t.prv = { s.prv with queue := rest, seq := (s.prv.seq + 1) % 2 ^ 32 })) ∧
  (∀ (s : State), s.pageOn 0x008 = true → s.net.tsq.length ≤ 64 →
    Completes .tsqPop s (fun t => t.net = { s.net with tsq := s.net.tsq.drop 1 } ∧ t.rd R.TSQ.LEVEL = s.net.tsq.length - 1 ∧
      t.raw R.TSQ.ev_NONEMPTY = decide (1 < s.net.tsq.length) ∧ t.rd R.TSQ.OVF = s.rd R.TSQ.OVF) ∧
    Completes .tsqFlush s (fun t => t.net = { s.net with tsq := [] } ∧ t.rd R.TSQ.LEVEL = 0 ∧ t.raw R.TSQ.ev_NONEMPTY = false ∧
      t.rd R.TSQ.OVF = s.rd R.TSQ.OVF)) ∧
  (∀ (s : State), s.pageOn 0x008 = true →
    Completes .tsqOvfClr s (fun t => OnlyRegs s t ∧ t.rd R.TSQ.OVF = 0 ∧ WordsKept s t [R.TSQ.OVF.key])) ∧
  (∀ (port t0 : Nat) (f : NetFrame) (s : State), s.isSender = true → s.netPort port = true → s.lvB (R.NET.EN port) = true →
    s.flag (R.NET.LINK_UP port) = true → f.fcsOk = true → 60 ≤ f.bytes.length → f.kind = .other →
    Completes (.netFrameReceive port f t0) s (fun t => Counted s t (R.NET.CNT_RX_FRAMES port) ∧ t.net = s.net ∧
      (s.flag (R.NET.RXQ_EN port) = false → Counted s t (R.NET.CNT_RX_UNMATCHED port) ∧ t.drm = s.drm) ∧
      (s.flag (R.NET.RXQ_EN port) = true → s.rd (R.NET.RXQ_HEAD port) = s.rd (R.NET.RXQ_TAIL port) →
        Counted s t (R.NET.CNT_RXQ_DROP port) ∧ Pending t (R.NET.ev_RXQ_DROP port) ∧ t.drm = s.drm) ∧
      (s.flag (R.NET.RXQ_EN port) = true → s.rd (R.NET.RXQ_HEAD port) ≠ s.rd (R.NET.RXQ_TAIL port) →
        t.rd (R.NET.RXQ_HEAD port) = (s.rd (R.NET.RXQ_HEAD port) + 1) % 256)))

/-- A frame with a bad FCS is counted and dropped before it can match (R140). PAUSE frames and fragments count and go no further (R139); an ARP request and an ICMP echo to the port's address are answered (R139). A report that is due goes out and is owed once less (R141). A silent leg reads not OK and raises LEG_DOWN, and the other leg is left alone (R145). RESYNC makes a source wait for the next start of picture (R148). The link of an enabled port shows as LINK_UP and FEC_LOCK, and LINK_DOWN holds while it is down (R138, R157). How long an older querier counts is presumed from RFC 3376 (log 33). -/
def Obligations.NetworkPortsAndStreams : Prop :=
  (∀ (port t0 : Nat) (f : NetFrame) (s : State), s.isSender = true → s.netPort port = true → s.lvB (R.NET.EN port) = true →
    s.flag (R.NET.LINK_UP port) = true →
    Completes (.netFrameReceive port f t0) s (fun t => Counted s t (R.NET.CNT_RX_FRAMES port) ∧
      (f.fcsOk = false → Counted s t (R.NET.CNT_RX_FCS port) ∧ OnlyRegs s t ∧ t.out = []) ∧
      (f.fcsOk = true → 60 ≤ f.bytes.length → f.kind = .pause → Counted s t (R.NET.CNT_PAUSE port) ∧ OnlyRegs s t ∧ t.out = []) ∧
      (f.fcsOk = true → 60 ≤ f.bytes.length → f.kind = .fragment → Counted s t (R.NET.CNT_RX_UNMATCHED port) ∧ OnlyRegs s t ∧ t.out = []) ∧
      (∀ ip mac, f.fcsOk = true → 60 ≤ f.bytes.length → f.kind = .arp ip mac (s.lv (R.NET.LOCAL_IP port)) true → s.tagFits port f.vlan = true →
        t.out = [.arpReply port ip mac (s.netTag port)] ∧ t.drm = s.drm ∧ t.net = s.net) ∧
      (∀ src mac ident seq data, f.fcsOk = true → 60 ≤ f.bytes.length →
        f.kind = .icmpEcho (s.lv (R.NET.LOCAL_IP port)) src mac ident seq data → s.tagFits port f.vlan = true →
        OnlyRegs s t ∧ t.out = [.icmpReply port src mac ident seq data (s.netTag port)]))) ∧
  (∀ (port stream leg : Nat) (r : IgmpDue) (s : State), s.isSender = true → s.netPort port = true →
    s.flag (R.NET.LINK_UP port) = true → r ∈ s.net.reports → r.port = port → r.stream = stream → r.leg = leg →
    Completes (.igmpReportTimer port stream leg) s (fun t => t.regs = s.regs ∧ 
      Output.igmp port r.group (if s.igmpVersion port < 3 then 0 else r.src) r.leave (s.igmpVersion port) (s.netTag port) ∈ t.out ∧
      ∀ x ∈ t.net.reports, x.port = port → x.stream = stream → x.leg = leg → { x with left := x.left + 1 } ∈ s.net.reports)) ∧
  (∀ (stream leg : Nat) (s : State), s.isSender = true → stream < 16 → leg < 2 → (legOf s.lv stream leg).isSome = true →
    Completes (.legDown stream leg) s (fun t => OnlyRegs s t ∧ t.rd (if leg = 0 then R.STR.LEG_A_OK stream else R.STR.LEG_B_OK stream) = 0 ∧
      t.raw (R.STR.ev_LEG_DOWN stream) = true ∧
      t.rd (if leg = 0 then R.STR.LEG_B_OK stream else R.STR.LEG_A_OK stream) =
        s.rd (if leg = 0 then R.STR.LEG_B_OK stream else R.STR.LEG_A_OK stream))) ∧
  (∀ (src t0 : Nat) (s : State), s.isSender = true → src < 20 →
    Completes (.streamResync src t0) s (fun t => (t.strSt src).since = max s.time t0 ∧ t.lyr = s.lyr ∧
      (src < 16 → s.rd (R.STR.STATE src) = 3 → s.lv (R.STR.KIND src) = 0 → t.rd (R.STR.STATE src) = 2) ∧
      (16 ≤ src → t.regs = s.regs))) ∧
  (∀ (port t0 : Nat) (up : Bool) (s : State), s.isSender = true → s.netPort port = true → s.lvB (R.NET.EN port) = true →
    Completes (.netLinkChange port up t0) s (fun t => t.rd (R.NET.LINK_UP port) = b2n up ∧ t.rd (R.NET.FEC_LOCK port) = b2n up ∧
      t.raw (R.NET.ev_LINK_DOWN port) = !up ∧ t.role = s.role ∧ t.drm = s.drm))

/-- A whole picture of a stream or of an SDI receiver takes the next free surface, shows it in READY, and signals every layer that takes the source (R147, R151); with no free surface it counts NOBUF and signals nothing. An incomplete picture counts, and with INCOMPLETE = 0 is dropped (R148); an SDI picture whose start was missed is dropped. An SDI lock change raises LOCK_CHANGE, and a loss counts (R151); CRC errors count, a raster or rate that is not the configured format or no supported one, or a VPID that contradicts it, holds FORMAT_ERR, and in quad link only SDI0 judges the picture and a skew above 100 µs holds QUAD_SKEW (R150 to R152). Which identifiers fit a format is an open function (log 107). -/
def Obligations.SourcesDeliverPictures : Prop :=
  (∀ (src t0 i l : Nat) (p : Picture) (a : PicAsm) (rest : List PicAsm) (s : State), s.isSender = true → src < 16 → s.lvB (R.STR.EN src) = true →
    s.lv (R.STR.KIND src) = 0 → (s.strSt src).whole = a :: rest → a.lost = false ∨ s.lvB (R.STR.INCOMPLETE src) = true →
    s.nextSurface src (s.lv (R.STR.BUF_COUNT src)) = some i → l < 16 → s.lv (R.LYR.SRC l) = 1 → s.lv (R.LYR.SRC_SEL l) = src →
    Completes (.pictureReady src p t0) s (fun t => t.rd (R.STR.READY_IDX src) = i ∧ t.rd (R.STR.READY_VALID src) = 1 ∧
      t.rd (R.STR.READY_RTP src) = a.rtp % 2 ^ 32 ∧ (t.layer l).sigs = (i, max s.time t0) :: (s.layer l).sigs ∧
      (t.strSt src).whole = rest ∧ (a.lost = true → Counted s t (R.STR.CNT_INCOMPLETE src) ∧ Pending t (R.STR.ev_INCOMPLETE src)))) ∧
  (∀ (src t0 : Nat) (p : Picture) (a : PicAsm) (rest : List PicAsm) (s : State), s.isSender = true → src < 16 → s.lvB (R.STR.EN src) = true →
    s.lv (R.STR.KIND src) = 0 → (s.strSt src).whole = a :: rest →
    (a.lost = false ∨ s.lvB (R.STR.INCOMPLETE src) = true → s.nextSurface src (s.lv (R.STR.BUF_COUNT src)) = none →
      Completes (.pictureReady src p t0) s (fun t => Counted s t (R.STR.CNT_NOBUF src) ∧ Pending t (R.STR.ev_NOBUF src) ∧
        t.lyr = s.lyr ∧ t.drm = s.drm ∧ (t.strSt src).whole = rest)) ∧
    (a.lost = true → s.lvB (R.STR.INCOMPLETE src) = false →
      Completes (.pictureReady src p t0) s (fun t => Counted s t (R.STR.CNT_INCOMPLETE src) ∧ Pending t (R.STR.ev_INCOMPLETE src) ∧
        t.lyr = s.lyr ∧ t.drm = s.drm ∧ t.rd (R.STR.READY_IDX src) = s.rd (R.STR.READY_IDX src) ∧ (t.strSt src).whole = rest))) ∧
  (∀ (n t0 i l : Nat) (p : Picture) (s : State), s.isSender = true → n < 4 → s.sdiDelivers n = true → p.startMissed = false →
    (s.strSt (16 + n)).since ≤ p.start → s.lv (R.SDI.BUF_COUNT n) ≤ 8 → l < 16 → s.lv (R.LYR.SRC l) = 1 → s.lv (R.LYR.SRC_SEL l) = 16 + n →
    (s.nextSurface (16 + n) (s.lv (R.SDI.BUF_COUNT n)) = some i →
      Completes (.pictureReady (16 + n) p t0) s (fun t => t.rd (R.SDI.READY_IDX n) = i ∧ t.rd (R.SDI.READY_VALID n) = 1 ∧
        (t.layer l).sigs = (i, max s.time t0) :: (s.layer l).sigs)) ∧
    (s.nextSurface (16 + n) (s.lv (R.SDI.BUF_COUNT n)) = none →
      Completes (.pictureReady (16 + n) p t0) s (fun t => Counted s t (R.SDI.CNT_NOBUF n) ∧ Pending t (R.SDI.ev_NOBUF n) ∧
        t.lyr = s.lyr ∧ t.drm = s.drm))) ∧
  (∀ (n t0 : Nat) (p : Picture) (s : State), s.isSender = true → n < 4 → s.sdiDelivers n = true →
    p.startMissed = true ∨ p.start < (s.strSt (16 + n)).since → Completes (.pictureReady (16 + n) p t0) s (fun t => Quiet s t ∧ t.out = [])) ∧
  (∀ (n rate t0 : Nat) (lock : Bool) (s : State), s.isSender = true → n < 4 → (s.lvB (R.SDI.EN n) || (s.quad && s.lvB (R.SDI.EN 0))) = true →
    s.flag (R.SDI.LOCKED n) = !lock →
    Completes (.sdiLockChange n lock rate t0) s (fun t => t.flag (R.SDI.LOCKED n) = lock ∧ Pending t (R.SDI.ev_LOCK_CHANGE n) ∧
      t.rd (R.SDI.RATE n) = (if lock then rate % 4 else 0) ∧ (lock = false → Counted s t (R.SDI.CNT_LOCK_LOST n) ∧
        t.rd (R.SDI.VPID_VALID n) = 0) ∧
      (t.strSt (if s.quad then 16 else 16 + n)).since = max s.time t0)) ∧
  (∀ (n w h scan fps vpid skew errs : Nat) (r1001 : Bool) (s : State), s.isSender = true → n < 4 →
    (s.lvB (R.SDI.EN n) || s.quad) = true → s.flag (R.SDI.LOCKED n) = true →
    Completes (.sdiFrameReceive n w h ⟨scan, fps, r1001⟩ vpid skew errs) s (fun t => OnlyRegs s t ∧
      t.rd (R.SDI.CNT_CRC n) = min (s.rd (R.SDI.CNT_CRC n) + errs) 0xFFFFFFFF ∧
      (s.quad = true → n ≠ 0 → t.raw (R.SDI.ev_FORMAT_ERR n) = s.raw (R.SDI.ev_FORMAT_ERR n) ∧
        t.rd (R.SDI.VPID_VALID n) = s.rd (R.SDI.VPID_VALID n)) ∧
      (s.quad = false ∨ n = 0 → t.rd (R.SDI.VPID_VALID n) = b2n (vpid != 0) ∧
        t.raw (R.SDI.ev_FORMAT_ERR n) = !decide (w = s.lv (R.SDI.WIDTH n) ∧ h = s.lv (R.SDI.HEIGHT n) ∧ scan = s.lv (R.SDI.SCAN n) ∧
          s.rd (R.SDI.RATE n) = s.lv (R.SDI.EXP_RATE n) ∧ r1001 = s.lvB (R.SDI.RATE_1001 n) ∧
          sdiRaster s.quad (s.rd (R.SDI.RATE n)) w h scan fps r1001 = true ∧
          (vpid = 0 ∨ Config.vpidFits vpid (s.lv (R.SDI.EXP_RATE n)) (s.lv (R.SDI.RATE_1001 n)) w h scan = true)) ∧
        (n = 0 → t.raw (R.SDI.ev_QUAD_SKEW 0) = (s.quad && decide (100 < skew))))))

/-- A flushed stream that the decoder serves holds no picture and no access unit and waits for its next IRAP; a control core timeout flushes every one and counts (R174, R179, R181). A picture that has spent its budget counts once and is marked late (R175). A picture of a started stream that is decoded is concealed, which counts, when it was late, lacked a reference or CTUs or every slice, or read out of bounds or poisoned data, and not otherwise, in memory that is sound and large enough for its DPB and its surfaces (R165, R176 to R180); it is concealed too when its access unit came back poisoned from the ring, or the DPB has no room for it (R178; 14 R385). The decoding of H.265 itself comes with the command (log 151), and the layout of the DPB is the model's (log 182). One that need not wait for reordering, in an empty DPB, is counted and its surface is READY, marked CONCEALED if it is (R147, R166). Before the first IRAP a picture that is none is passed over and counts, one without its parameter sets counts and is not output, and a RASL picture of the IRAP that started the stream is discarded (R162, R174). An IRAP picture whose SPS the decoder does not support counts and shows UNSUPPORTED (R161, R162). When a surface is chosen is the model's reading (log 105). -/
def Obligations.DecoderFlushesAndConceals : Prop :=
  (∀ (v : Word32) (n : Nat) (s : State), s.isSender = true → s.decOn n = true →
    (v.toNat.testBit n = true → Completes (.decFlush v) s (fun t => t.decSt n = { wp := (s.decSt n).wp } ∧
      t.rd (R.DEC.DSTATE n) = dsAWAIT ∧ t.rd (R.DEC.DPB_USED n) = 0 ∧ t.rd (R.DEC.BACKLOG n) = 0 ∧ t.drm = s.drm)) ∧
    (v.toNat.testBit n = false → Completes (.decFlush v) s (fun t => t.decSt n = s.decSt n ∧ t.drm = s.drm)) ∧
    Completes .decCoreTimeout s (fun t => t.decSt n = { wp := (s.decSt n).wp } ∧ t.rd (R.DEC.DSTATE n) = dsAWAIT ∧
      Counted s t R.DEC.CNT_RESTART ∧ Pending t R.DEC.ev_DEC_RESTART ∧ t.drm = s.drm)) ∧
  (∀ (stream : Nat) (s : State), s.isSender = true → s.decOn stream = true → (s.decSt stream).late = false → (s.decSt stream).aus ≠ [] →
    Completes (.decodeBudgetExpiry stream) s (fun t => t.decSt stream = { s.decSt stream with late := true } ∧
      Counted s t (R.DEC.CNT_BUDGET stream) ∧ Pending t R.DEC.ev_BUDGET ∧ t.rd R.DEC.LAST_STREAM = stream)) ∧
  (∀ (stream t0 : Nat) (p : DecPic) (a : Au) (rest : List Au) (s : State), s.isSender = true → s.decOn stream = true →
    (s.decSt stream).aus = a :: rest → a.irap = false → (s.decSt stream).started = true → (s.decSt stream).verdict = 0 →
    p.paramsMissing = false → (p.rasl && (s.decSt stream).rasl) = false → s.soundDram = true →
    slabBytes (decSize s.lv stream).1 (decSize s.lv stream).2 ≤ s.lv (R.STR.BUF_STRIDE stream) * 4096 →
    (List.range ((s.decSt stream).dpb.length + p.refs.length + 1)).all (fun k => s.dpbInside stream p.sps k) = true →
    Completes (.decodePictureDone stream p t0) s (fun t =>
      let d := s.decSt stream
      let conc := d.late || p.refs.any (fun k => d.dpb.all (fun q => q.poc != k)) || !p.badCtus.isEmpty || a.slices == 0 ||
        decide (0 < p.bounds) || p.poisoned
      (t.decSt stream).late = false ∧
      (conc = true → Counted s t (R.DEC.CNT_CONCEALED stream) ∧ Pending t R.DEC.ev_CONCEALED) ∧
      (conc = false → t.rd (R.DEC.CNT_CONCEALED stream) = s.rd (R.DEC.CNT_CONCEALED stream)) ∧
      (∀ i, d.dpb = [] → p.refs = [] → p.outputFlag = true → p.sps.reorder = 0 → s.lv (R.STR.BUF_COUNT stream) ≤ 8 →
        s.nextSurface stream (s.lv (R.STR.BUF_COUNT stream)) = some i →
        Counted s t (R.DEC.CNT_PICTURES stream) ∧ t.rd (R.STR.READY_IDX stream) = i ∧ t.rd (R.STR.READY_VALID stream) = 1 ∧
        (conc = true → (t.rd (R.DEC.CONC_MASK stream)).testBit i = true)))) ∧
  (∀ (stream t0 : Nat) (p : DecPic) (a : Au) (rest : List Au) (s : State), s.isSender = true → s.decOn stream = true →
    (s.decSt stream).aus = a :: rest → a.irap = false → (s.decSt stream).started = true → (s.decSt stream).verdict = 0 →
    p.paramsMissing = false → (p.rasl && (s.decSt stream).rasl) = false →
    (s.auRead stream a).2 = true ∨ (s.lv (R.DEC.DPB_SIZE stream) = 0 ∧ 0 < dpbLength p.sps) →
    Completes (.decodePictureDone stream p t0) s (fun t => Pending t R.DEC.ev_CONCEALED ∧
      (s.lv (R.DEC.DPB_SIZE stream) = 0 → 0 < dpbLength p.sps → Pending t R.DEC.ev_BOUNDS))) ∧
  (∀ (stream t0 : Nat) (p : DecPic) (a : Au) (rest : List Au) (s : State), s.isSender = true → s.decOn stream = true →
    (s.decSt stream).aus = a :: rest →
    ((s.decSt stream).started = false → a.irap = false → rest.length ≤ s.lv (R.DEC.DROP_THRESH stream) →
      Completes (.decodePictureDone stream p t0) s (fun t => Counted s t R.DEC.CNT_SKIP ∧ (t.decSt stream).aus = rest ∧
        t.rd (R.DEC.CNT_PICTURES stream) = s.rd (R.DEC.CNT_PICTURES stream) ∧ t.lyr = s.lyr ∧ t.drm.mem = s.drm.mem)) ∧
    ((s.decSt stream).started = true ∨ a.irap = true → p.paramsMissing = true →
      Completes (.decodePictureDone stream p t0) s (fun t => Counted s t R.DEC.CNT_PARAM_MISSING ∧ Pending t R.DEC.ev_PARAM_MISSING ∧
        t.rd (R.DEC.CNT_PICTURES stream) = s.rd (R.DEC.CNT_PICTURES stream) ∧ t.lyr = s.lyr ∧ t.drm.mem = s.drm.mem)) ∧
    ((s.decSt stream).started = true → a.irap = false → p.paramsMissing = false → p.rasl = true → (s.decSt stream).rasl = true →
      Completes (.decodePictureDone stream p t0) s (fun t =>
        t.rd (R.DEC.CNT_PICTURES stream) = s.rd (R.DEC.CNT_PICTURES stream) ∧ t.lyr = s.lyr ∧ t.drm.mem = s.drm.mem)) ∧
    (a.irap = true → p.paramsMissing = false → (spsOk (s.lv (R.STR.SCAN stream)) p.sps && s.dpbFits stream p.sps) = false →
      Completes (.decodePictureDone stream p t0) s (fun t => t.rd (R.DEC.DSTATE stream) = dsUNSUPPORTED ∧
        ((s.decSt stream).verdict ≠ dsUNSUPPORTED → Counted s t R.DEC.CNT_UNSUPPORTED ∧ Pending t R.DEC.ev_UNSUPPORTED))))

/-- A write of READY below BUF_COUNT signals the fence of that host buffer, whatever the layer's source, and any other is ignored (R189). A line that is due leaves the compositor and moves its feed to the next line; with no poisoned word in DRAM it leaves as the sagger lets it through (R202, R204, R213); at its deadline each feed's incomplete line is filled, moves on, and counts one UNDERRUN (R202); how much of a late line was composed is a free value (log 40). A line slot shows LINE and BLANK and raises BLANK_START and LINE_MATCH at their lines (R201). After the last line of the last feed the frame is done and counted (R204). Which of several regions decides a pixel is open (log 39). -/
def Obligations.LayersSignalAndLinesCompose : Prop :=
  (∀ (layer t0 : Nat) (v : Word32) (s : State), s.isSender = true → layer < 16 →
    (fieldOf v 0 2 ≤ s.lv (R.LYR.BUF_COUNT layer) → Completes (.layerReady layer v t0) s (fun t =>
      (t.layer layer).host = (fieldOf v 0 2, max s.time t0) :: (s.layer layer).host ∧ (t.layer layer).sigs = (s.layer layer).sigs ∧
      (s.lv (R.LYR.SRC layer) ≠ 1 → t.rd (R.LYR.PEND_IDX layer) = fieldOf v 0 2 ∧ t.rd (R.LYR.PEND_VALID layer) = 1) ∧ t.drm = s.drm ∧ t.rd (R.LYR.LEASE_IDX layer) = s.rd (R.LYR.LEASE_IDX layer))) ∧
    (s.lv (R.LYR.BUF_COUNT layer) < fieldOf v 0 2 → Completes (.layerReady layer v t0) s (fun t => Quiet s t))) ∧
  (∀ (line feed : Nat) (s : State), s.lineDue line feed = true →
    Completes (.lineComposed line feed) s (fun t =>
      let row := (List.range (canvasW s.lv)).map (fun x => (s.composePixel feed x line).1)
      t.nextLine feed = line + 1 ∧ (∀ f, f ≠ feed → t.nextLine f = s.nextLine f) ∧ Output.line feed line (t.outLine feed line) ∈ t.out ∧
      t.rd R.CMP.LINE = min t.lineInWork (s.lv R.CMP.CANVAS_H_M1) ∧ t.tabs = s.tabs ∧
      (s.soundDram = true → t.rawLine feed line = row ∧ t.outLine feed line = s.sagLine feed line row ∧
        t.out = [.line feed line (s.sagLine feed line row)] ∧ t.lyr = s.lyr))) ∧
  (∀ (line : Nat) (s : State), s.isSender = true →
    Completes (.lineDeadline line) s (fun t =>
      let due := (List.range (composedFeeds s.lv)).filter (fun f => s.lineNext line f)
      t.rd (R.TG.CNT_UNDERRUN 0) = min (s.rd (R.TG.CNT_UNDERRUN 0) + due.length) 0xFFFFFFFF ∧
      (∀ f, t.nextLine f = if f ∈ due then line + 1 else s.nextLine f) ∧ (due ≠ [] → t.cmp.filled = true ∧
        Pending t (R.TG.ev_UNDERRUN 0) ∧ t.rd (R.TG.UNDERRUN_LINE 0) = line))) ∧
  (∀ (line t0 : Nat) (s : State), s.isSender = true → s.frm.ticked = true → line < s.lv (R.TG.V_TOTAL 0) →
    Completes (.tgwLineSlot line t0) s (fun t => OnlyRegs s t ∧ t.rd (R.TG.LINE 0) = line ∧
      t.rd (R.TG.BLANK 0) = b2n (decide (canvasH s.lv ≤ line)) ∧ (line = canvasH s.lv → Pending t (R.TG.ev_BLANK_START 0)) ∧
      (line = s.lv (R.TG.LINE_MATCH 0) → Pending t (R.TG.ev_LINE_MATCH 0)) ∧
      WordsKept s t [(R.TG.LINE 0).key, evtPendKey (R.TG.page 0)])) ∧
  (∀ (s : State), s.isSender = true → s.flag R.CMP.COMPOSING = true →
    (∀ f, f < composedFeeds s.lv → s.nextLine f = canvasH s.lv) →
    Completes .compositionFrameDone s (fun t => OnlyRegs s t ∧ t.rd R.CMP.COMPOSING = 0 ∧ Counted s t R.CMP.CNT_FRAMES ∧
      Counted s t (R.TG.CNT_FRAMES 0) ∧ Pending t (R.TG.ev_FRAME_DONE 0)))

/-- A complete signature is stored; in mode 1 it is compared with the expected value and in mode 2 with the learned one, a mismatch counts, names its region and sets its action for the next frame, and a match ends it; in mode 2 the first one is learned, and mode 3 compares nothing (R209, R210). RELEARN forgets the learned signatures of mode 2 regions alone (R210). The hidden region's CRC that equals the fused value shows SELF_OK; another counts, raises SELF_FAIL and meets the SELF_CHECK ground (R214, R278). The fused value is an open constant (log 9). -/
def Obligations.SaggerRegionsActOnWhatTheyCompare : Prop :=
  (∀ (region : Nat) (s : State), s.isSender = true → s.frm.ticked = true → region < 256 → (s.regSt region).done = false →
    region / 32 < composedFeeds s.lv → (s.region region).y + (s.region region).h ≤ s.nextLine (region / 32) →
    (s.region region).mode ≠ 0 → Completes (.saggerCrcComplete region) s (fun t =>
      t.immW 0x05B 1 (4 * region) = s.signature region ∧ (t.regSt region).done = true ∧ t.sagFlag region 0 = true ∧
      (∀ want, (s.region region).mode = 1 ∧ want = (s.region region).expected ∨
          (s.region region).mode = 2 ∧ s.sagFlag region 1 = true ∧ want = s.immW 0x05B 1 (4 * region + 2) →
        (t.regSt region).mism = decide (s.signature region ≠ want) ∧
        (s.signature region ≠ want → Counted s t R.SAG.CNT_MISMATCH ∧ Pending t R.SAG.ev_MISMATCH ∧ t.rd R.SAG.LAST_REGION = region) ∧
        (s.signature region = want → t.rd R.SAG.CNT_MISMATCH = s.rd R.SAG.CNT_MISMATCH)) ∧
      ((s.region region).mode = 2 → s.sagFlag region 1 = false → t.immW 0x05B 1 (4 * region + 2) = s.signature region ∧
        t.sagFlag region 1 = true ∧ t.regs = s.regs ∧ (t.regSt region).mism = (s.regSt region).mism) ∧
      ((s.region region).mode = 3 → t.regs = s.regs ∧ (t.regSt region).mism = (s.regSt region).mism))) ∧
  (∀ (s : State), s.isSender = true → Completes .sagRelearn s (fun t => t.regs = s.regs ∧ t.sag = s.sag ∧
    ∀ k, k < 256 → t.sagFlag k 1 = if (s.region k).mode = 2 then false else s.sagFlag k 1)) ∧
  (∀ (s : State), s.composes = true → Completes (.hiddenRegionCompare Config.hiddenCrc) s (fun t =>
    OnlyRegs s t ∧ t.rd R.SAG.SELF_OK = 1 ∧ WordsKept s t [R.SAG.SELF_OK.key])) ∧
  (∀ (crc : Word32) (s : State), s.composes = true → crc ≠ Config.hiddenCrc →
    Completes (.hiddenRegionCompare crc) s (fun t => t.rd R.SAG.SELF_OK = 0 ∧ Counted s t R.SAG.CNT_SELF_FAIL ∧
      Pending t R.SAG.ev_SELF_FAIL ∧ ((s.lv R.RED.GROUND_EN).testBit grSELF_CHECK = true → s.flag R.RED.RELINQUISHED = false →
        t.rd R.RED.RELINQUISHED = 1 ∧ t.rd R.RED.GROUNDS = 2 ^ grSELF_CHECK ∧ Counted s t R.RED.CNT_RELINQUISH)))

/-- The start of a preview frame arms a capture unless one is armed or running, and shows whether the outputs run; they send the last complete frame (R205, R155, R156). A capture whose lines have been composed becomes the last complete frame, counted and announced (R205). A preview line shows LINE and BLANK, a late active one counts an UNDERRUN with its line and feed, and SDI4 sends each active line while it runs (R156, R207); how many pixels of a late line are in the output buffer is a free value (log 180). -/
def Obligations.PreviewCapturesAndSends : Prop :=
  (∀ (t0 : Nat) (s : State), s.isSender = true → Completes (.tgpFrameStart t0) s (fun t =>
    t.prv.cap = (if s.prv.cap = 0 then 1 else s.prv.cap) ∧ t.prv.done = s.prv.done ∧ t.rd R.PRV.RUNNING = b2n s.prvOn ∧
    (s.prvOn = true → t.prv.sending = s.prv.done) ∧ t.drm = s.drm)) ∧
  (∀ (s : State), s.isSender = true → s.prv.cap = 2 →
    s.lv (R.TG.SRC_Y 1) + s.lv (R.TG.SRC_H_M1 1) < s.nextLine (s.lv R.PRV.FEED) →
    Completes .previewCaptureDone s (fun t => t.prv = { s.prv with cap := 0, done := some s.prv.surface } ∧ t.rd R.PRV.HAVE_FRAME = 1 ∧
      Counted s t (R.TG.CNT_FRAMES 1) ∧ Pending t (R.TG.ev_FRAME_DONE 1) ∧ t.cmp = s.cmp)) ∧
  (∀ (line : Nat) (late : Bool) (s : State), s.isSender = true → line < s.lv (R.TG.V_TOTAL 1) →
    Completes (.tgpLineStart line late) s (fun t => t.drm.mem = s.drm.mem ∧ t.rd (R.TG.LINE 1) = line ∧
      t.rd (R.TG.BLANK 1) = b2n (decide (s.lv (R.TG.ACT_H_M1 1) + 1 ≤ line)) ∧
      (line = s.lv (R.TG.LINE_MATCH 1) → Pending t (R.TG.ev_LINE_MATCH 1)) ∧
      (late = true → line ≤ s.lv (R.TG.ACT_H_M1 1) → s.flag R.PRV.RUNNING = true → Counted s t (R.TG.CNT_UNDERRUN 1) ∧
        t.rd (R.TG.UNDERRUN_LINE 1) = line ∧ t.rd (R.TG.UNDERRUN_FEED 1) = s.lv R.PRV.FEED ∧ Pending t (R.TG.ev_UNDERRUN 1) ∧
        ∃ k, t.prv.late = (line, k) :: s.prv.late) ∧
      (late = false → t.prv = s.prv ∧ t.rd (R.TG.CNT_UNDERRUN 1) = s.rd (R.TG.CNT_UNDERRUN 1) ∧
        (s.flag R.PRV.RUNNING = false ∨ s.lvB R.PRV.SDI_EN = false → OnlyRegs s t)) ∧
      (line ≤ s.lv (R.TG.ACT_H_M1 1) → s.flag R.PRV.RUNNING = true → s.lvB R.PRV.SDI_EN = true →
        Output.sdiLine line (t.prvLine line) ∈ t.out)))

/-- The first ready segment goes to the lowest idle engine, which shows it (R245). A finished segment leaves its engine idle and counts there by its kind (R236, R245). The packet at the front of a port leaves while the port may carry it and nothing holds it back, and counts its segments (R240, R263, R266, R269; that it leaves within the command is log 157). At T_stop a serving port launches no more of the epoch, and a line then uncomposed misses the deadline (R34, R44); what a port still holds at the tick is abandoned and counted (R42). STATS_CLR clears CRAZE_TOTAL of every region and nothing else (R244). What CNT_SEGMENTS counts, the transit time of T_stop and the bands of a port that is not UP are the model's (logs 113, 101, 69). -/
def Obligations.SegmentsAreGlazedAndLaunched : Prop :=
  (∀ (e : Nat) (x : PlanSeg) (s : State), s.isSender = true → s.frm.ticked = true →
    (List.range 8).find? (fun e => (s.engineSeg e).isNone) = some e → firstSeg s.readySegs = some x →
    Completes .segmentDispatch s (fun t => t.engineSeg e = some ⟨x.desc, x.feed, x.band, x.sx⟩ ∧
      t.map.sent = ⟨x.desc, x.feed, x.band, x.sx⟩ :: s.map.sent ∧ t.rd (R.GLZ.BUSY e) = 1 ∧ t.rd (R.GLZ.PORT e) = x.port % 16 ∧
      t.rd (R.GLZ.DESC e) = x.desc % 256 ∧ WordsKept s t [(R.GLZ.BUSY e).key])) ∧
  (∀ (engine : Nat) (k : SegKey) (r : Desc) (sl : Nat × Nat) (s : State), s.isSender = true → engine < 8 → s.engineSeg engine = some k →
    s.descNo k.desc = some r → (s.slicesOf r).find? (fun (c : Nat × Nat) => c.1 == k.sx) = some sl →
    Completes (.segmentEncodeDone engine) s (fun t => t.engineSeg engine = none ∧ t.rd (R.GLZ.BUSY engine) = 0 ∧
      Counted s t (if r.bypass then R.GLZ.CNT_BYPASS_SEGMENTS engine else R.GLZ.CNT_SEGMENTS engine) ∧
      t.rd (if r.bypass then R.GLZ.CNT_SEGMENTS engine else R.GLZ.CNT_BYPASS_SEGMENTS engine) =
        s.rd (if r.bypass then R.GLZ.CNT_SEGMENTS engine else R.GLZ.CNT_BYPASS_SEGMENTS engine) ∧ t.map.sent = s.map.sent)) ∧
  (∀ (port t0 : Nat) (b : BandPkt) (bs : List BandPkt) (s : State), s.isSender = true → s.hasPort port = true →
    (s.coilSt port).bands = b :: bs →
    Completes (.bandLaunch port t0) s (fun t =>
      let may := s.mayBand port b.dest && s.canSend port && !s.frm.stopped.contains port &&
        decide (max s.time t0 + s.transit port ≤ s.frm.nextTick) && !(s.atTime t0).barred port 2 (outBytes (.band port b)) &&
        (s.coilSt port).egress.all (fun x => decide (2 < x.cls))
      (may = true → t.out = [.band port b] ∧ (t.coilSt port).bands = bs ∧
        t.rd R.MAP.CNT_SEGMENTS = min (s.rd R.MAP.CNT_SEGMENTS + b.segs.length) 0xFFFFFFFF ∧
        WordsKept s t [R.MAP.CNT_SEGMENTS.key] ∧ t.frm = s.frm) ∧
      (may = false → Quiet s t ∧ t.out = []))) ∧
  (∀ (port t0 : Nat) (s : State), s.isSender = true → s.frm.ticked = true → s.hasPort port = true → s.serves port = true →
    Completes (.bandStop port t0) s (fun t => port ∈ t.frm.stopped ∧ t.out = [] ∧ t.coil = s.coil ∧ t.regs = s.regs ∧
      (s.composes = true → s.frm.stopped = [] → (∃ f, f < composedFeeds s.lv ∧ s.nextLine f < canvasH s.lv) → t.cmp.filled = true))) ∧
  (∀ (port : Nat) (s : State), ((s.dropBands port).coilSt port).bands = [] ∧
    (s.dropBands port).rd (R.COIL.CNT_BAND_ABANDON port) =
      min (s.rd (R.COIL.CNT_BAND_ABANDON port) + (s.coilSt port).bands.length) 0xFFFFFFFF) ∧
  (∀ (s : State), s.pageOn 0x060 = true → Completes .mapStatsClr s (fun t => t = { s with out := [], imm := t.imm } ∧
    (∀ d, d < 256 → t.immW 0x060 4 (2 * d + 1) = 0) ∧ (∀ d, d < 256 → t.immW 0x060 4 (2 * d) = s.immW 0x060 4 (2 * d)) ∧
    ∀ page tab i, i < 2 ^ 22 → tab < 16 → ¬(page = 0x060 ∧ tab = 4) → t.immW page tab i = s.immW page tab i))

/-- A BAND that reaches a tile idle counts, one of another epoch counts and is dropped, and one of this epoch queues its good segments for decoding, of which a corrupt one counts, one for columns already written counts, and one without room counts and is dropped (R293, R294); one with a bad trailer does nothing here, and one on the other port of the pair counts (R253, R267). The oldest segment is decoded and its columns are written, unless others hold them (R293, R294). STORE_CLR and DEBT_CLR wait for the next tick (R297, R306). The next slot is computed when the one before has ended and its staging bank is free, and its codes stay staged for the groups (R308); a dark or QUENCHED tile computes nothing, and a computation in progress then ends without codes or sums (R308; 13 R375; how many of its lamps had been computed is a free value, log 115). A record is written by its second word, with the first one if it was written just before (R303). A reload begins when the MRAM is free, one more may wait, and when it is done the records not copied before hold the set of the MRAM, records with uncorrectable words apart (R303, R354; the pace of the copy is log 21). The columns against which a duplicate is judged are the model's reading (log 46). -/
def Obligations.TilesTakeBandsAndCompute : Prop :=
  (∀ (port : Nat) (b : BandPkt) (s : State), s.isTile = true → port < 2 → s.isUp port = true → s.hasId = true → b.dest = s.lv R.GLB.NODE_ID →
    s.red.upstream = some port →
    (b.crcOk = false → Completes (.bandReceive port b) s (fun t => Quiet s t ∧ t.out = [])) ∧
    (b.crcOk = true → (s.frm.ticked && s.lvB R.TIL.EN) = false → Completes (.bandReceive port b) s (fun t => OnlyRegs s t ∧
      Counted s t R.TIL.CNT_BAND_IDLE ∧ WordsKept s t [R.TIL.CNT_BAND_IDLE.key])) ∧
    (b.crcOk = true → (s.frm.ticked && s.lvB R.TIL.EN) = true → b.epoch16 % 65536 ≠ s.epoch % 65536 →
      Completes (.bandReceive port b) s (fun t => OnlyRegs s t ∧ Counted s t R.TIL.CNT_BAND_LATE ∧ Pending t R.TIL.ev_BAND_LATE)) ∧
    (b.crcOk = true → (s.frm.ticked && s.lvB R.TIL.EN) = true → b.epoch16 % 65536 = s.epoch % 65536 → b.segs ≠ [] →
      (∀ sg ∈ b.segs, segCorrupt s.lv b.bandNo b.feed b.format sg = false ∧ s.overlaps (2048 * b.feed + b.bandNo) sg = false ∧
        ((keptBands s.lv).contains b.bandNo && (keptCols s.lv).any (fun c => decide (sg.sx ≤ c ∧ c ≤ sg.sx + sg.sw))) = true) →
      s.bandBuffer + (b.segs.map (fun sg => 4 + sg.data.length)).sum ≤ 2 ^ 21 →
      Completes (.bandReceive port b) s (fun t =>
        t.til = { s.til with queue := s.til.queue ++ b.segs.map (fun sg => ⟨2048 * b.feed + b.bandNo, b.format, sg⟩) } ∧
        t.rd R.TIL.RECEIVING = 1 ∧ WordsKept s t [R.TIL.RECEIVING.key])) ∧
    (∀ sg, b.crcOk = true → (s.frm.ticked && s.lvB R.TIL.EN) = true → b.epoch16 % 65536 = s.epoch % 65536 → b.segs = [sg] →
      Completes (.bandReceive port b) s (fun t =>
        let corrupt := segCorrupt s.lv b.bandNo b.feed b.format sg
        let dup := s.overlaps (2048 * b.feed + b.bandNo) sg
        let kept := (keptBands s.lv).contains b.bandNo && (keptCols s.lv).any (fun c => decide (sg.sx ≤ c ∧ c ≤ sg.sx + sg.sw))
        (corrupt = true → OnlyRegs s t ∧ Counted s t R.TIL.CNT_SEG_CORRUPT ∧ Pending t R.TIL.ev_SEG_CORRUPT) ∧
        (corrupt = false → dup = true → OnlyRegs s t ∧ Counted s t R.TIL.CNT_SEG_DUP) ∧
        (corrupt = false → dup = false → kept = false → t = { s with out := [] }) ∧
        (corrupt = false → dup = false → kept = true → 2 ^ 21 < s.bandBuffer + 4 + sg.data.length →
          OnlyRegs s t ∧ Counted s t R.TIL.CNT_BUF_DROP ∧ Pending t R.TIL.ev_BUF_DROP)))) ∧
  (∀ (port q : Nat) (b : BandPkt) (s : State), s.isTile = true → port < 2 → s.isUp port = true → s.hasId = true → b.dest = s.lv R.GLB.NODE_ID →
    s.red.upstream = some q → q ≠ port →
    Completes (.bandReceive port b) s (fun t => OnlyRegs s t ∧ Counted s t (R.COIL.CNT_WRONG_SIDE port) ∧
      WordsKept s t [(R.COIL.CNT_WRONG_SIDE port).key])) ∧
  (∀ (q : QSeg) (rest : List QSeg) (s : State), s.isTile = true → s.til.queue = q :: rest →
    Completes .segmentDecodeDone s (fun t => t.til.queue = rest ∧
      (segLines q.format q.seg = none → OnlyRegs { s with til := t.til } t ∧ t.regs = s.regs ∧ t.til.written = s.til.written) ∧
      ((segLines q.format q.seg).isSome = true → s.overlaps q.band q.seg = true → Counted s t R.TIL.CNT_SEG_DUP ∧
        t.til.written = s.til.written) ∧
      ((segLines q.format q.seg).isSome = true → s.overlaps q.band q.seg = false →
        t.til.written = s.til.written ++ [(q.band, q.seg.sx, q.seg.sw + 1)] ∧
        (s.lv R.SCH.MODE ≠ moDIRECT → t.regs = s.regs ∧ t.imm = s.imm ∧ t.lsm = s.lsm)))) ∧
  (∀ (s : State), s.pageOn 0x0A0 = true → Completes .storeClr s (fun t => t = { s with out := [], til := { s.til with clr := true } })) ∧
  (∀ (s : State), s.pageOn 0x0A2 = true → Completes .debtClr s (fun t => t = { s with out := [], cor := { s.cor with debtClr := true } })) ∧
  (∀ (t0 : Nat) (j : SlotJob) (rest : List SlotJob) (s : State), s.isTile = true → s.lvB R.TIL.EN = true → s.lsm.todo = j :: rest →
    s.noCompute = false → s.lsm.run = none → (∀ b ∈ s.lsm.banks, b.1 ≠ j.ord % 2) →
    Completes (.slotComputeStart t0) s (fun t => t.lsm.todo = rest ∧ t.lsm.banks = s.lsm.banks ∧ t.rd R.LSM.COMPUTING = 1 ∧
      ∃ r, t.lsm.run = some r ∧ r.job = j ∧ r.start = max s.time t0)) ∧
  (∀ (t0 : Nat) (r : SlotRun) (s : State), s.isTile = true → s.noCompute = true →
    (s.lsm.run = none → Completes (.slotComputeStart t0) s (fun t => Quiet s t)) ∧
    (s.lsm.run = some r → Completes (.slotComputeDone t0) s (fun t => t.lsm = { s.lsm with run := none } ∧ t.rd R.LSM.COMPUTING = 0 ∧
      t.thm = s.thm ∧ t.rd R.LSM.CNT_SLOTS = s.rd R.LSM.CNT_SLOTS))) ∧
  (∀ (t0 : Nat) (r : SlotRun) (s : State), s.isTile = true → s.noCompute = false → s.lsm.run = some r →
    Completes (.slotComputeDone t0) s (fun t => t.lsm.run = none ∧ t.rd R.LSM.COMPUTING = 0 ∧ Counted s t R.LSM.CNT_SLOTS ∧
      (s.slotAhead r.job = false → t.lsm.banks = s.lsm.banks) ∧
      (s.slotAhead r.job = true → ∃ codes, t.lsm.banks = (r.job.ord % 2, { job := r.job, codes := codes, left := s.groupsOn }) :: s.lsm.banks ∧
        codes.length = (s.jobLamps r.job).length))) ∧
  (∀ (addr : Nat) (v : Word32) (s : State), s.pageOn 0x0A2 = true → addr < 8 * 1048576 → s.flag R.COR.RELOADING = false →
    (addr / 4 % 2 = 0 → Completes (.calRecordWrite addr v) s (fun t =>
      t = { s with out := [], cor := { s.cor with latch := some (addr / 4 / 2, v) } })) ∧
    (∀ lo, addr / 4 % 2 = 1 → s.cor.latch = some (addr / 4 / 2, lo) → Completes (.calRecordWrite addr v) s (fun t =>
      t.immW 0x0A2 0 (addr / 4) = v ∧ t.immW 0x0A2 0 (addr / 4 - 1) = lo ∧ t.cor.latch = none ∧ addr / 4 / 2 ∉ t.cor.identity ∧
      t.regs = s.regs))) ∧
  (∀ (s : State), s.pageOn 0x0A2 = true →
    ((s.nvs.fg.filter (· == .reload)).length < 2 → Completes .calReload s (fun t => t.nvs = { s.nvs with fg := s.nvs.fg ++ [.reload] } ∧
      t.rd R.COR.RELOADING = b2n ((s.nvs.fg ++ [MramOp.reload]).head? == some MramOp.reload && !s.nvs.bgRun) ∧
      t.rd R.NVS.BUSY = b2n (s.nvs.fg.any (fun op => op != .reload)))) ∧
    (2 ≤ (s.nvs.fg.filter (· == .reload)).length → Completes .calReload s (fun t => t = { s with out := [] }))) ∧
  (∀ (bad : List Nat) (s : State), s.isTile = true → s.nvs.bgRun = false → s.nvs.fg.head? = some .reload → smWf mramDefault s.mram.mem = true →
    smWf tabDefault s.imm = true →
    Completes (.calReloadDone bad) s (fun t => (s.nvs.fg = [.reload] → t.nvs.fg = [] ∧ t.rd R.COR.RELOADING = 0) ∧ t.rd R.COR.CAL_VALID = 1 ∧
      Counted s t R.COR.CNT_RELOAD ∧ Pending t R.COR.ev_RELOAD_DONE ∧
      ∀ i, i < 2097152 → t.immW 0x0A2 0 i =
        if i / 2 ∈ bad then 0 else if i / 2 < s.cor.copied then s.immW 0x0A2 0 i else smGet mramDefault s.mram.mem i))

/-- A group begins to load the staged codes of its next slot, and a finished load leaves them as the image of its inactive bank (R324, R325). A lit slot that starts scans every group in use, a dark one clears them all and counts (R328, R331); each start is counted and shown, and the first slot after a restart runs the start sequence of the drivers instead (R333). A window lights its row, counts, and moves its group to the next row, and after the last row to the next scan cycle, or ends the scan (R319, R326 to R328). A repetitive memory takes a write only while its instance is open (R342). What a restart does in its first frame is the model's reading (log 122). -/
def Obligations.LampSlotsLoadAndScan : Prop :=
  (∀ (group t0 k : Nat) (b : Staged) (s : State), s.isTile = true → s.flag R.LMP.RUNNING = true → s.groupsOn.contains group = true →
    s.lsm.banks.find? (fun (b : Nat × Staged) => s.loadable group b.2) = some (k, b) → (s.grp group).load = none →
    Completes (.slotLoadStart group t0) s (fun t => (t.grp group).load = some (b.job, max s.time t0) ∧ t.lsm = s.lsm ∧
      (t.grp group).shown = (s.grp group).shown ∧ (b.job.ord ≠ 0 → t.regs = s.regs ∧ t.out = []))) ∧
  (∀ (group t0 t1 k : Nat) (j : SlotJob) (b : Staged) (s : State), s.isTile = true → group < memberGroups s.member →
    (s.grp group).load = some (j, t1) → s.lsm.banks.find? (fun (b : Nat × Staged) => b.2.job == j) = some (k, b) →
    Completes (.slotLoadDone group t0) s (fun t => (t.grp group).load = none ∧ (t.grp group).shown = (s.grp group).shown ∧ t.regs = s.regs ∧
      (j.rows = none → (t.grp group).loaded = some j ∧ (t.grp group).idle = s.imageOf b group []) ∧
      (∀ rows, j.rows = some rows → (t.grp group).flip = some (s.driverRows j group rows) ∧
        (t.grp group).idle = s.imageOf b group (copyRows (s.driverRows j group rows) (s.grp group).shown (s.grp group).idle)))) ∧
  (∀ (group t0 t1 : Nat) (j : SlotJob) (s : State), s.isTile = true → group < memberGroups s.member →
    (s.grp group).load = some (j, t1) → s.lsm.banks.find? (fun (b : Nat × Staged) => b.2.job == j) = none →
    Completes (.slotLoadDone group t0) s (fun t => (t.grp group).load = none ∧ (t.grp group).idle = (s.grp group).idle ∧ t.regs = s.regs)) ∧
  (∀ (slot t0 : Nat) (j : SlotJob) (rest : List SlotJob) (s : State), s.isTile = true → s.lvB R.TIL.EN = true →
    planPick slot (max s.time t0) s.lmp.plan = some (j, rest) →
    Completes (.slotStart slot t0) s (fun t =>
      let dark := !j.lit || s.flag R.LMP.FORCE_DARK || s.stateCode == stQUENCHED
      let fresh := decide (slot = 0) && s.lmp.restart
      t.lmp.plan = rest ∧ t.rd R.LMP.SLOT = slot % 8 ∧ t.rd R.LMP.DARK = b2n dark ∧ t.rd R.LMP.RUNNING = 1 ∧ Counted s t R.LMP.CNT_SLOTS ∧
      (dark = true → Counted s t R.LMP.CNT_DARK_SLOTS ∧ t.rd R.LMP.GROUPS_ON = 0) ∧
      (dark = false → t.rd R.LMP.CNT_DARK_SLOTS = s.rd R.LMP.CNT_DARK_SLOTS) ∧
      (slot ≠ 0 → t.bus = s.bus) ∧
      (fresh = true → t.lmp.restart = false ∧ t.rd R.DRP.INIT_DONE = 1 ∧ Pending t R.DRP.ev_INIT) ∧
      (fresh = false → dark = false → ∀ g ∈ busGroups t.bus, (t.grp g).scan = true ∧ (t.grp g).row = 0 ∧ t.rd (R.SGP.ACTIVE g) = 1) ∧
      (fresh = false → dark = true → ∀ g ∈ busGroups t.bus, (t.grp g).scan = false ∧ (t.grp g).shown = [] ∧ t.rd (R.SGP.ACTIVE g) = 0))) ∧
  (∀ (group : Nat) (samples : List Nat) (s : State), s.isTile = true → group < memberGroups s.member → (s.grp group).scan = true →
    Completes (.scanWindowEnd group samples) s (fun t => Output.rows group true (s.grp group).row ∈ t.out ∧
      ((s.grp group).row + 1 < busScan s.bus → (t.grp group).row = (s.grp group).row + 1 ∧ (t.grp group).scan = true ∧
        (t.grp group).cycles = (s.grp group).cycles ∧ t.rd (R.SGP.ROW group) = (s.grp group).row + 1 ∧
        Counted s t (R.SGP.CNT_WINDOWS group) ∧ t.lmp.wins = s.lmp.wins + 1) ∧
      (busScan s.bus ≤ (s.grp group).row + 1 → (t.grp group).row = 0 ∧ (t.grp group).cycles = (s.grp group).cycles - 1 ∧
        t.rd (R.SGP.ROW group) = 0 ∧ (t.grp group).scan = decide (1 < (s.grp group).cycles) ∧
        (1 < (s.grp group).cycles → Counted s t (R.SGP.CNT_WINDOWS group)) ∧
        ((s.grp group).cycles ≤ 1 → t.rd (R.SGP.ACTIVE group) = 0)))) ∧
  (∀ (inst entry : Nat) (v : Word32) (s : State), s.isTile = true → s.pageOn 0x0C0 = true → inst < memberGroups s.member → entry < 64 →
    Completes (.sagMemoryWrite inst entry v) s (fun t => t = { s with out := [], imm := t.imm } ∧
      t.immW 0x0C0 inst entry = (if s.isOpen (4 + inst) then v else s.immW 0x0C0 inst entry) ∧
      ∀ i, i ≠ entry → i < 2 ^ 22 → t.immW 0x0C0 inst i = s.immW 0x0C0 inst i))

/-- The readback of a probe whose window has run sends READ and counts the probe by its kind and the drivers whose slots in the readback do not show them present; it gives each lamp of its row in the group the status that the flag in its driver's slot says, but leaves one of an absent driver unknown (R320 to R322, R337, R347); a solo probe moves on to the next row, in the order of log 121. STATUS_RESET, REINIT and DRV_RESET wait for the next tick or load (R346, R347). That READ counts for each group is the model's reading (log 120). -/
def Obligations.ProbesFindLampFaults : Prop :=
  (∀ (group i : Nat) (p : Probe) (low high : List (List Bool)) (s : State), s.isTile = true → group < memberGroups s.member →
    s.stateCode ≠ stQUENCHED → (s.grp group).fired = some p → i < s.lampCount → (s.lampPlace i).1 = group → (s.lampPlace i).2.1 = p.row →
    Completes (.probeReadDone group low high) s (fun t =>
      let r : Readback := { low := low, high := high }
      let absent := r.absent s.bus
      (t.grp group).fired = none ∧ Output.lampCmd group dcREAD (wordSet s.bus (readSlot s.bus)) ∈ t.out ∧
      t.rd R.DRP.ABSENT_ANY = b2n (!absent.isEmpty) ∧
      t.rd R.DRP.CNT_ABSENT = min (s.rd R.DRP.CNT_ABSENT + absent.length) 0xFFFFFFFF ∧
      Counted s t R.DRP.CNT_READ ∧ Counted s t (if p.solo then R.PRB.CNT_SOLO else R.PRB.CNT_PROBES) ∧
      t.lampStatus i = (if absent.contains (driverOf s.bus (s.lampPlace i).2.2) then 3
        else nextStatus (s.lampStatus i) (r.flag s.bus (s.lampPlace i).2.2)) ∧
      (p.solo = true → (t.grp group).solo = false ∧ t.rd (nextRowF group) = (p.row + 1) % busScan s.bus))) ∧
  (∀ (s : State), s.pageOn 0x0B5 = true →
    Completes .probeStatusReset s (fun t => t = { s with out := [], lmp := { s.lmp with statusReset := true } })) ∧
  (∀ (s : State), s.pageOn 0x0B6 = true →
    Completes .drpReinit s (fun t => t = { s with out := [], lmp := { s.lmp with reinit := true } }) ∧
    Completes .drvReset s (fun t => t = { s with out := [], lmp := { s.lmp with drvReset := true } }))

/-- A pulse of an enabled output begins at its slot and lasts WIDTH × 100 ns, driven at its active level unless the outputs float (R127, R130); one that leaves no 20 ns of rest after the pulse before counts as shortened, and ends the other first (R129). An output that is not enabled, a slot without a pulse, or a held frame before a jump past the place of its next tick, does nothing. A pulse ends when its time has come, or is cut short and counted when the next one is 20 ns away (R127, R129). A write of CS_HIZ takes effect at once and changes nothing else (R130). -/
def Obligations.CameraSyncPulses : Prop :=
  (∀ (c slot t0 : Nat) (s : State), s.isSender = true → s.frm.ticked = true → c < 8 →
    Completes (.camsyncPulse c slot t0) s (fun t =>
      let g := (s.atTime t0).csCfg c slot (max s.time t0)
      let low := g (R.SCH.ACTIVE_LOW c) == 1
      let now := decide (g (R.SCH.EN c) ≠ 0 ∧ slot < slotsOf g) && (csMask g c).testBit slot &&
        !(s.frm.hold && s.frm.jump.isSome && decide (s.frm.nextTick ≤ max s.time t0))
      (now = false → Quiet s t ∧ t.out = []) ∧
      (now = true → t.cs c = { active := true, until_ := max s.time t0 + g (R.SCH.WIDTH c) * 100 * ns1, low := low } ∧
        t.out = (if s.flag R.SCH.CS_HIZ then [] else (if (s.cs c).active then [.camsync c (s.cs c).low] else []) ++ [.camsync c (!low)]) ∧
        ((s.cs c).until_ + 20 * ns1 ≤ max s.time t0 → t.regs = s.regs) ∧
        (max s.time t0 < (s.cs c).until_ + 20 * ns1 → Counted s t R.SCH.CNT_CS_SHORTENED ∧ Pending t R.SCH.ev_CS_SHORTENED)))) ∧
  (∀ (c t0 : Nat) (s : State), s.isSender = true → c < 8 → (s.cs c).active = true →
    ((s.cs c).until_ ≤ max s.time t0 → Completes (.camsyncPulseEnd c t0) s (fun t => t.cs c = { s.cs c with active := false } ∧
      t.regs = s.regs ∧ t.out = (if s.flag R.SCH.CS_HIZ then [] else [.camsync c (s.cs c).low]))) ∧
    (max s.time t0 < (s.cs c).until_ → (s.atTime t0).cutDue c = true → Completes (.camsyncPulseEnd c t0) s (fun t =>
      t.cs c = { s.cs c with active := false, until_ := max s.time t0 } ∧ Counted s t R.SCH.CNT_CS_SHORTENED ∧
      Pending t R.SCH.ev_CS_SHORTENED ∧ t.out = (if s.flag R.SCH.CS_HIZ then [] else [.camsync c (s.cs c).low])))) ∧
  (∀ (v : Word32) (s : State), s.pageOn 0x003 = true →
    Completes (.csHiz v) s (fun t => OnlyRegs s t ∧ t.rd R.SCH.CS_HIZ = b2n (v.getLsbD 0) ∧ t.out = [] ∧
      WordsKept s t [R.SCH.CS_HIZ.key]))

/-- A reading of an enabled sensor updates its record alone, and one that breaks it counts (R368, R369); a second reading in a row at 95 °C or more quenches the device, which latches the cause outside the core (R374). Each step of the die model counts the power of its monitors and judges the window of MRAM writes, and 115 °C quenches (R351, R372, R374). The throttle shows itself on any device; on a tile it shows q, and never lets the multiplier exceed the configured one (R373). CONE_CLR zeroes the cone counters alone (R361). The rounding of a model step is the model's reading (log 23). -/
def Obligations.HeatThrottlesAndQuenches : Prop :=
  (∀ (n raw t0 : Nat) (ack : Bool) (s : State), s.running = true → n < 8 → (s.sensor n).on = true →
    Completes (.sensorRead n ack raw t0) s (fun t => t.sensor n = sensorNext (s.sensor n) ack raw (max s.time t0) ∧
      (∀ m, m ≠ n → t.sensor m = s.sensor m) ∧
      ((s.sensor n).broken = false → (sensorNext (s.sensor n) ack raw (max s.time t0)).broken = true → Counted s t R.THM.CNT_BROKEN) ∧
      (2 ≤ (sensorNext (s.sensor n) ack raw (max s.time t0)).hot → t.aon.quench = true ∧ (s.flag R.THM.QUENCHED = false →
        t.rd R.THM.QUENCHED = 1 ∧ t.stateCode = stQUENCHED ∧ Pending t R.THM.ev_QUENCH)))) ∧
  (∀ (powers : List (Option Nat)) (range : Bool) (t0 : Nat) (s : State), s.running = true →
    Completes (.dieModelStep powers range t0) s (fun t => t.thm.mons = monNext s.thm.mons powers ∧
      t.thm.power = ((monNext s.thm.mons powers).map Prod.fst).foldl (· + ·) 0 ∧ t.thm.sens = s.thm.sens ∧
      t.flag R.THM.st_MON_BROKEN = (monFailed (monNext s.thm.mons powers) || range) ∧
      t.flag R.NVS.IN_WINDOW = decide (0 ≤ t.thm.tDie ∧ t.thm.tDie ≤ 1360) ∧
      (quenchDie ≤ t.thm.tDie → t.aon.quench = true ∧ (s.flag R.THM.QUENCHED = false → t.stateCode = stQUENCHED)))) ∧
  (∀ (s : State), s.running = true → Completes .dieThrottleEval s (fun t =>
    let q := qOf (s.lv R.THM.K_DIE) (s.lvI R.THM.T_DIE_THR) s.thm.tDie
    t.rd R.THM.st_DIE_THROTTLE = b2n (decide (q < 65536)) ∧ t.raw R.THM.ev_DIE_THROTTLE = decide (q < 65536) ∧
    (s.role = .sender → OnlyRegs s t ∧ WordsKept s t [R.THM.st_DIE_THROTTLE.key, evtRawKey R.THM.page, evtPendKey R.THM.page]) ∧
    (s.role = .tile → t.rd R.THM.Q_DIE = q ∧ (t.thm.mHeld.getD s.mult) ≤ s.mult ∧ t.thm.tDie = s.thm.tDie))) ∧
  (∀ (s : State), s.isTile = true → s.pageOn 0x0D0 = true →
    Completes .coneClr s (fun t => t = { s with out := [], thm := { s.thm with cone := [] } }))

/-- GO asks for a run that begins at the first tick 250 µs or more ahead, or, where a condition fails, ends REFUSED and counts (R364). The first light edge inside its window of a flash frame is kept, in steps of 25 ps (R362; 18 R454); which of two the onset is taken from is open (log 203). ABORT ends the run as ABORTED with the trim of before, and without a run does nothing (R366). That a refused GO counts as failed is the model's reading (log 125). -/
def Obligations.LightPhaseRuns : Prop :=
  (∀ (t0 : Nat) (s : State), s.isTile = true → s.pageOn 0x0D1 = true → s.phc.run = none →
    ((s.atTime t0).phcMay = true → Completes (.phcGo t0) s (fun t => t.regs = s.regs ∧ t.phc.trim = s.phc.trim ∧
      ∃ r, t.phc.run = some r ∧ r.e0 = s.firstTick (max s.time t0) ∧ r.oldTrim = s.phc.trim ∧ r.pairs = [])) ∧
    ((s.atTime t0).phcMay = false → Completes (.phcGo t0) s (fun t => OnlyRegs s t ∧ t.rd R.PHC.RESULT = phREFUSED ∧
      Counted s t R.PHC.CNT_FAILED ∧ Pending t R.PHC.ev_FAILED))) ∧
  (∀ (stamp : Int) (r : PhcRun) (s : State), s.isTile = true → s.phc.run = some r →
    flashFrame r.e0 (s.lv R.PHC.MARKS) s.epoch = true →
    s.inEdgeWindow (stamp / 25 * 25) (s.nominal + s.lv R.PHC.PD_DELAY) = true →
    Completes (.phaseEdge true stamp) s (fun t => t = { s with out := [], phc := t.phc, free := t.free } ∧ t.phc.trim = s.phc.trim ∧
      ∃ x, t.phc.run = some { r with lightT := some x } ∧ (x = stamp / 25 * 25 ∨ r.lightT = some x))) ∧
  (∀ (r : PhcRun) (s : State), s.pageOn 0x0D1 = true → s.phc.run = some r →
    Completes .phcAbort s (fun t => t.phc = { s.phc with run := none, trim := r.oldTrim } ∧ t.rd R.PHC.RESULT = phABORTED ∧
      t.rd R.PHC.RUNNING = 0 ∧ t.rd R.THM.STALE = 0 ∧ Counted s t R.PHC.CNT_FAILED ∧ Pending t R.PHC.ev_FAILED)) ∧
  (∀ (s : State), s.pageOn 0x0D1 = true → s.phc.run = none → Completes .phcAbort s (fun t => t = { s with out := [] }))

/-- SET_BEGIN opens a new generation; SET_END closes the set when every block carries it, else ends INCOMPLETE (R352). A host write becomes the running request or waits behind others; one that may run at once ends TEMP_REFUSED outside the window, NOT_OPEN without an open set, and NOT_ALLOWED for a block that the host may not write (R350 to R352); done, the block holds the buffer and carries the generation, and after two mismatches it keeps its content and ends VERIFY_FAIL (R350). A read fills the buffer, and ends UNCORR when words of the block were uncorrectable (R356). A settings save and a cone save begin when nothing else runs (R355, R357); so does a scrub unit, which counts what it corrected and what it could not, and moves on (R359). While a request of the host is there background units yield, which counts, and a unit that writes waits for the window (R351, R358). The end of a pass clears SCRUB_LATE (R360), which the alarms set. The order in which refusals are tested, and that each mismatch retires a block, are the model's reading (logs 18, 19). -/
def Obligations.MramKeepsWhatIsSaved : Prop :=
  (∀ (s : State), s.pageOn 0x0D2 = true →
    Completes .setBegin s (fun t => t.rd R.NVS.SET_OPEN = 1 ∧ t.rd R.NVS.SET_GEN = (s.topTag + 1) % 2 ^ 32 ∧ t.mram = s.mram) ∧
    Completes .setEnd s (fun t => t.mram = s.mram ∧
      (s.tagCount (s.rd R.NVS.SET_GEN) = calBlocks → t.rd R.NVS.SET_OPEN = 0 ∧ t.rd R.NVS.OP_STATUS = nsOK) ∧
      (s.tagCount (s.rd R.NVS.SET_GEN) ≠ calBlocks → t.rd R.NVS.SET_OPEN = s.rd R.NVS.SET_OPEN ∧ t.rd R.NVS.OP_STATUS = nsINCOMPLETE) ∧
      Pending t R.NVS.ev_OP_DONE)) ∧
  (∀ (v : Word32) (s : State), s.pageOn 0x0D2 = true → s.nvs.fg = [] → fieldOf v 8 12 < calBlocks → s.flag R.NVS.SET_OPEN = true →
    (s.writeBar = none → Completes (.nvsWriteGo v) s (fun t => t.nvs = { s.nvs with fg := [.write (fieldOf v 8 12) (fieldOf v 20 1)] } ∧
      t.rd R.NVS.BUSY = 1 ∧ t.mram = s.mram)) ∧
    (s.nvs.bgRun = false → s.flag R.NVS.IN_WINDOW = false → Completes (.nvsWriteGo v) s (fun t => t.nvs = s.nvs ∧ t.rd R.NVS.OP_STATUS = nsTEMP_REFUSED ∧
      Counted s t R.NVS.CNT_TEMP_REFUSED ∧ Pending t R.NVS.ev_TEMP_REFUSED ∧ t.rd R.NVS.BUSY = 0 ∧ t.mram = s.mram))) ∧
  (∀ (v : Word32) (s : State), s.pageOn 0x0D2 = true →
    (s.nvs.fg ≠ [] → Completes (.nvsWriteGo v) s (fun t => t.nvs = { s.nvs with fg := s.nvs.fg ++ [.write (fieldOf v 8 12) (fieldOf v 20 1)] } ∧
      t.rd R.NVS.BUSY = 1 ∧ t.mram = s.mram)) ∧
    (s.nvs.fg = [] → s.nvs.bgRun = false → fieldOf v 8 12 < calBlocks → s.flag R.NVS.SET_OPEN = false →
      Completes (.nvsWriteGo v) s (fun t => t.nvs = s.nvs ∧ t.rd R.NVS.OP_STATUS = nsNOT_OPEN ∧ t.mram = s.mram)) ∧
    (s.nvs.fg = [] → s.nvs.bgRun = false → fieldOf v 8 12 = 2049 ∨ 2303 < fieldOf v 8 12 →
      Completes (.nvsWriteGo v) s (fun t => t.nvs = s.nvs ∧ t.rd R.NVS.OP_STATUS = nsNOT_ALLOWED ∧ t.mram = s.mram)) ∧
    (s.nvs.fg = [] → s.nvs.bgRun = false → 2816 ≤ fieldOf v 8 12 →
      Completes (.nvsReadGo v) s (fun t => t.nvs = s.nvs ∧ t.rd R.NVS.OP_STATUS = nsNOT_ALLOWED ∧ t.mram = s.mram)) ∧
    (∀ st, s.nvs.fg = [] → s.nvs.bgRun = false → s.writeBar = some st →
      Completes .settingsSave s (fun t => t.nvs = s.nvs ∧ t.rd R.NVS.OP_STATUS = st ∧ t.mram = s.mram))) ∧
  (∀ (b buf t0 : Nat) (s : State), s.running = true → s.nvs.bgRun = false → s.nvs.fg = [.write b buf] → b < calBlocks →
    Completes (.mramWriteDone 0 t0) s (fun t => t.nvs.fg = [] ∧ t.rd R.NVS.OP_STATUS = nsOK ∧ Counted s t R.NVS.CNT_WRITES ∧
      smGet tagDefault t.mram.tags b = s.rd R.NVS.SET_GEN ∧
      (∀ i, i < 1024 → smGet mramDefault t.mram.mem (1024 * b + i) = s.immW 0x0D2 0 (1024 * buf + i)) ∧
      (∀ k, k < 1024 * b ∨ 1024 * b + 1024 ≤ k → smGet mramDefault t.mram.mem k = smGet mramDefault s.mram.mem k)) ∧
    Completes (.mramWriteDone 2 t0) s (fun t => t.nvs.fg = [] ∧ t.rd R.NVS.OP_STATUS = nsVERIFY_FAIL ∧ t.mram.mem = s.mram.mem ∧
      t.mram.tags = s.mram.tags ∧ t.mram.pool = s.mram.pool - 2)) ∧
  (∀ (v : Word32) (s : State), s.pageOn 0x0D2 = true → s.nvs.fg = [] → fieldOf v 8 12 < 2816 →
    Completes (.nvsReadGo v) s (fun t => t.nvs = { s.nvs with fg := [.read (fieldOf v 8 12) (fieldOf v 20 1)] } ∧ t.rd R.NVS.BUSY = 1)) ∧
  (∀ (b buf : Nat) (bad : List Nat) (s : State), s.running = true → s.nvs.bgRun = false → s.nvs.fg = [.read b buf] →
    Completes (.mramReadDone bad) s (fun t => t.nvs.fg = [] ∧ t.rd R.NVS.BUSY = 0 ∧ t.mram = s.mram ∧
      t.rd R.NVS.OP_STATUS = (if bad.all (fun j => decide (512 ≤ j)) then nsOK else nsUNCORR) ∧
      ∀ i, i < 1024 → i / 2 ∉ bad → t.immW 0x0D2 0 (1024 * buf + i) = smGet mramDefault s.mram.mem (1024 * b + i))) ∧
  (∀ (s : State), s.pageOn 0x0D2 = true → s.nvs.fg = [] → s.writeBar = none →
    Completes .settingsSave s (fun t => t.nvs = { s.nvs with fg := [.record true] } ∧ t.rd R.NVS.BUSY = 1 ∧ t.mram = s.mram)) ∧
  (∀ (t0 : Nat) (s : State), s.pageOn 0x0D2 = true → s.running = true → s.nvs.fg = [] → s.nvs.bg = [] → s.nvs.bgRun = false →
    s.writeBar = none →
    Completes .coneSaveNow s (fun t => t.nvs = { s.nvs with bg := coneUnits, bgRun := true, slot := s.nextSlot } ∧ t.regs = s.regs ∧
      t.mram.mem = s.mram.mem) ∧
    Completes (.coneSaveTimer t0) s (fun t => t.nvs = { s.nvs with bg := coneUnits, bgRun := true, slot := s.nextSlot } ∧
      t.regs = s.regs ∧ t.mram.mem = s.mram.mem)) ∧
  (∀ (corrected uncorr t0 : Nat) (s : State), s.running = true → s.nvs.fg ≠ [] →
    Completes (.coneSaveTimer t0) s (fun t => t.nvs = { s.nvs with bg := s.nvs.bg ++ coneUnits } ∧ Counted s t R.NVS.CNT_YIELD) ∧
    Completes (.scrubTimer corrected uncorr t0) s (fun t => t.nvs = { s.nvs with bg := s.nvs.bg ++ [.scrub corrected uncorr] } ∧
      Counted s t R.NVS.CNT_YIELD)) ∧
  (∀ (corrected uncorr t0 : Nat) (s : State), s.running = true → s.nvs.fg = [] → s.nvs.bg = [] → s.nvs.bgRun = false →
    corrected = 0 ∨ s.writeBar = none →
    Completes (.scrubTimer corrected uncorr t0) s (fun t => t.mram = s.mram ∧
      t.rd R.NVS.CNT_UNCORR = min (s.rd R.NVS.CNT_UNCORR + uncorr) 0xFFFFFFFF ∧
      t.nvs.scrub = (if s.nvs.scrub = 3071 then 0 else s.nvs.scrub + 1) ∧
      t.rd R.NVS.CNT_CORRECTED = min (s.rd R.NVS.CNT_CORRECTED + corrected) 0xFFFFFFFF ∧
      (corrected = 0 → s.nvs.scrub = 3071 → t.nvs.bg = [.passEnd]))) ∧
  (∀ (t0 : Nat) (u : BgUnit) (us : List BgUnit) (s : State), s.running = true → s.nvs.fg = [] → s.nvs.bg = u :: us → s.nvs.bgRun = false →
    Completes (.backgroundUnitStart t0) s (fun t =>
      (u = .passEnd → t.nvs = { s.nvs with bg := us, passEnd := max s.time t0 } ∧ t.raw R.NVS.ev_SCRUB_LATE = false) ∧
      (bgWrites u = true → s.writeBar ≠ none → Quiet s t) ∧
      (∀ b, u = .wear b → s.writeBar = none → t.nvs = { s.nvs with bgRun := true } ∧ t.mram = s.mram))) ∧
  (∀ (s : State), s.running = true →
    Completes .scrubLateAlarm s (fun t => OnlyRegs s t ∧ t.raw R.NVS.ev_SCRUB_LATE = true) ∧
    Completes .saveLateAlarm s (fun t => OnlyRegs s t ∧ t.raw R.NVS.ev_SAVE_LATE = true))

/-- An input frame makes its source present and waits in its buffer of 64 (R400). At a limit of a locked input's buffer one frame is dropped or repeated, counted and announced (R400): a frame that finds it full drops the oldest. A lost clock empties its input and counts, and its return ends the loss, the lock as it was until the next second judges it (log 209); so it is with WCLK_IN, which counts while it is the output clock (R401). RESYNC asks for a jump, MUTE is taken as written (R399, R402), and a sample of the rate converter shows the new ratio (R400). Each output frame advances the delay line by one frame, puts a word on each of the 24 outputs and sends a TDM frame of 16 slots, and shows MUTED at silence (R394, R396, R397, R402). Where a mute acts, and that EN restarts the ring, are the model's reading (log 138). -/
def Obligations.AudioFlowsAndAligns : Prop :=
  (∀ (src : Nat) (samples : List Nat) (status : List Byte) (s : State), s.isSender = true → src < 3 → (s.audSrc src).buf.length ≤ 64 →
    Completes (.audioInputFrame src samples status) s (fun t =>
      let frame := if src = 2 then samples.map tdmWord else samples.map (· % 2 ^ 26)
      let slip := decide (64 ≤ (s.audSrc src).buf.length) && s.audioLocked src
      t.audSrc src = { s.audSrc src with here := true, count := (s.audSrc src).count.map (· + 1),
                                         buf := (if slip then (s.audSrc src).buf.drop 1 ++ [frame] else ((s.audSrc src).buf ++ [frame]).take 64) } ∧
      (slip = true → Counted s t R.AUD.CNT_SLIP_DROP ∧ Pending t R.AUD.ev_SLIP) ∧
      (slip = false → t.rd R.AUD.CNT_SLIP_DROP = s.rd R.AUD.CNT_SLIP_DROP) ∧
      (status = [] → t.imm = s.imm) ∧ t.out = [])) ∧
  (∀ (src : Nat) (s : State), s.isSender = true → src < 19 → (s.audSrc src).here = true → s.audioLocked src = true →
    (64 ≤ (s.audSrc src).buf.length → Completes (.audioSlip src true) s (fun t =>
      t.audSrc src = { s.audSrc src with buf := (s.audSrc src).buf.drop 1 } ∧ Counted s t R.AUD.CNT_SLIP_DROP ∧ Pending t R.AUD.ev_SLIP)) ∧
    ((s.audSrc src).buf = [] → Completes (.audioSlip src false) s (fun t =>
      t.audSrc src = { s.audSrc src with buf := [(s.audSrc src).last] } ∧ Counted s t R.AUD.CNT_SLIP_REPEAT ∧ Pending t R.AUD.ev_SLIP))) ∧
  (∀ (src : Nat) (s : State), s.isSender = true → src < 19 →
    (s.audioClock src = true → Completes (.audioClockLoss src) s (fun t =>
      t.audSrc src = { s.audSrc src with lost := true, count := none, buf := [] } ∧ Counted s t R.AUD.CNT_CLK_LOST ∧
      Pending t R.AUD.ev_CLK_LOST)) ∧
    ((s.audSrc src).lost = true → Completes (.audioClockReturn src) s (fun t => t.audSrc src = { s.audSrc src with lost := false } ∧
      t.rd R.AUD.CNT_CLK_LOST = s.rd R.AUD.CNT_CLK_LOST))) ∧
  (∀ (s : State), s.isSender = true →
    (s.flag R.AUD.WCLK_OK = true → Completes (.audioClockLoss 19) s (fun t => t.rd R.AUD.WCLK_OK = 0 ∧
      (s.lvB R.AUD.OUT_CLK_SRC = true → Counted s t R.AUD.CNT_CLK_LOST ∧ Pending t R.AUD.ev_CLK_LOST))) ∧
    (s.flag R.AUD.WCLK_OK = false → Completes (.audioClockReturn 19) s (fun t => t.rd R.AUD.WCLK_OK = 1))) ∧
  (∀ (s : State), s.audioOn = true →
    Completes .audioResync s (fun t => t = { s with out := [], aud := { s.aud with jump := true } })) ∧
  (∀ (v : Word32) (s : State), s.isSender = true →
    Completes (.audioMute v) s (fun t => OnlyRegs s t ∧ t.rd R.AUD.MUTE = b2n (v.getLsbD 1) ∧ WordsKept s t [R.AUD.MUTE.key])) ∧
  (∀ (x : Int) (s : State), s.audioOn = true → s.flag R.AUD.ASRC_ACTIVE = true →
    Completes (.asrcSample x) s (fun t => t.rd R.AUD.RATIO = unsignedOf 32 (t.loop 9).u ∧ t.aud = s.aud ∧
      (s.isOpen 9 = true → (t.loop 9).u = (s.loop 9).u))) ∧
  (∀ (s : State), s.audioOn = true →
    Completes .audioOutputFrame s (fun t => (s.aud.restart = false → t.aud.wr = s.aud.wr + 1) ∧
      (∃ slots, Output.tdm (s.lvB R.AUD.WS_INV) (s.lvB R.AUD.WS_DELAY) slots ∈ t.out ∧ slots.length = 16) ∧ t.rd R.AUD.MUTED = b2n (t.aud.ramp == 0) ∧
      t.aud.ramp ≤ s.audioRamp ∧ ∀ ch, ch < 24 → ∃ x, Output.audio ch x ∈ t.out))

/-- State.reset holds canonical empty stores, queues within their sizes and no owned tag, no waiting command, and state RESET (R405, R408); its registers read their reset values. That values without a stated reset value read 0 is the model's choice (log 2). -/
def Obligations.SoundAtReset : Prop :=
  State.reset.sound ∧ State.reset.pending = [] ∧ State.reset.stateCode = stRESET ∧ State.reset.drm.mem = [] ∧
    ∀ k, State.reset.word k = resetWord k

/-- From every sound state, a step that answers a next state answers a sound one: the seven stores keep their canonical form, the tile-event queue its 256 entries and the timestamp queue its 64 (R77, R113), and no two owned tags of the TUN page are equal (03, tunnelled access). -/
def Obligations.EveryStepKeepsStateSound : Prop :=
  ∀ (s t : State), s.sound → step s = .next t → t.sound

/-- A command other than an apply, a tick, a register write and the execution of a request leaves alone every part of the state outside its reach (the table `reach`: the fields of the state and the blocks of registers that the rules of the command's family let it change), the member of the family and the queue. For most commands that takes in the shadow registers, the configuration and the tables in force, the lamps and the stores; a reset reaches everything but the role and the MRAM, and so does a command in which the response leaves that a core reset waits for (log 204). -/
def Obligations.CommandsKeepToTheirReach : Prop :=
  ∀ (c : Instr) (s t : State), isWide c = false → exec c s = .next t → KeepsTo c s t

/-- The end of a commit's validation, a sender's tick, a tile's tick or missing tick, a register write and the execution of a request leave alone every part of the state outside their reach, the member and the queue: no tick or commit touches the tunnelled requests, the MRAM, the DRAM or the role, a commit's validation writes no shadow register. -/
def Obligations.AppliesAndTicksKeepToTheirReach : Prop :=
  ∀ (c : Instr) (s t : State), isWide c = true → exec c s = .next t → KeepsTo c s t
end

