-- ==== Sys2Proof/Laws/SMap.lean ====
section
/-!
SUPPORT. Reading after writing a sparse map, and that every write keeps its canonical form.
-/

namespace Sys2Proof.Laws
open Sys2Proof.Machine

variable {α : Type}

/-- A lower bound on the keys of a canonical list. -/
theorem smOk_weaken [DecidableEq α] {d : Nat → α} {lo lo' : Option Nat} {m : List (Nat × α)}
    (h : smOk d lo m = true) (hl : ∀ b', lo' = some b' → ∃ b, lo = some b ∧ b' ≤ b) : smOk d lo' m = true := by
  cases m with
  | nil => rfl
  | cons p m =>
    obtain ⟨a, v⟩ := p
    simp only [smOk, Bool.and_eq_true, decide_eq_true_eq] at h ⊢
    refine ⟨⟨?_, h.1.2⟩, h.2⟩
    cases lo' with
    | none => rfl
    | some b' =>
      obtain ⟨b, hb, hle⟩ := hl b' rfl
      subst hb
      have h1 := h.1.1
      simp only [smAbove, decide_eq_true_eq] at h1 ⊢
      omega

theorem smGet_of_lt [DecidableEq α] {d : Nat → α} {b k : Nat} {m : List (Nat × α)}
    (h : smOk d (some b) m = true) (hk : k ≤ b) : smGet d m k = d k := by
  induction m generalizing b with
  | nil => rfl
  | cons p m ih =>
    obtain ⟨a, v⟩ := p
    simp only [smOk, smAbove, Bool.and_eq_true, decide_eq_true_eq] at h
    have hne : a ≠ k := by omega
    simp only [smGet, hne, if_false]
    exact ih h.2 (by omega)

theorem smGet_del_other (d : Nat → α) (m : List (Nat × α)) {k j : Nat} (h : j ≠ k) :
    smGet d (smDel m k) j = smGet d m j := by
  induction m with
  | nil => rfl
  | cons p m ih =>
    obtain ⟨a, v⟩ := p
    simp only [smDel]
    split
    · subst a; simp [smGet, Ne.symm h, ih]
    · simp [smGet, ih]

theorem smGet_del_same (d : Nat → α) (m : List (Nat × α)) (k : Nat) : smGet d (smDel m k) k = d k := by
  induction m with
  | nil => rfl
  | cons p m ih =>
    obtain ⟨a, v⟩ := p
    simp only [smDel]
    split
    · exact ih
    · next hak => simp only [smGet, hak, if_false]; exact ih

/-- A read of the key just written gives the value written. -/
theorem smGet_set_same [DecidableEq α] (d : Nat → α) (m : List (Nat × α)) (k : Nat) (x : α) :
    smGet d (smSet d m k x) k = x := by
  induction m with
  | nil =>
    simp only [smSet]
    split
    · next h => simp [smGet, h]
    · simp [smGet]
  | cons p m ih =>
    obtain ⟨a, v⟩ := p
    simp only [smSet]
    split
    · split
      · next h => rw [smGet_del_same, h]
      · simp [smGet]
    · next hak =>
      split
      · split
        · next h => simp only [smGet, hak, if_false, smGet_del_same, h]
        · simp [smGet]
      · simp only [smGet, hak, if_false]; exact ih

/-- A write leaves every other key alone. -/
theorem smGet_set_other [DecidableEq α] (d : Nat → α) (m : List (Nat × α)) {k j : Nat} (x : α) (h : j ≠ k) :
    smGet d (smSet d m k x) j = smGet d m j := by
  induction m with
  | nil =>
    simp only [smSet]
    split
    · rfl
    · simp [smGet, Ne.symm h]
  | cons p m ih =>
    obtain ⟨a, v⟩ := p
    simp only [smSet]
    split
    · next hak =>
      subst hak
      split
      · simp [smGet, Ne.symm h, smGet_del_other d m h]
      · simp [smGet, Ne.symm h]
    · split
      · split
        · simp [smGet, smGet_del_other d m h]
        · simp [smGet, Ne.symm h]
      · simp [smGet, ih]

theorem smOk_del [DecidableEq α] {d : Nat → α} {lo : Option Nat} {m : List (Nat × α)} (k : Nat)
    (h : smOk d lo m = true) : smOk d lo (smDel m k) = true := by
  induction m generalizing lo with
  | nil => rfl
  | cons p m ih =>
    obtain ⟨a, v⟩ := p
    simp only [smOk, Bool.and_eq_true, decide_eq_true_eq] at h
    simp only [smDel]
    split
    · refine smOk_weaken (ih h.2) ?_
      intro b' hb
      subst hb
      have h1 := h.1.1
      simp only [smAbove, decide_eq_true_eq] at h1
      exact ⟨a, rfl, by omega⟩
    · simp only [smOk, Bool.and_eq_true, decide_eq_true_eq]
      exact ⟨h.1, ih h.2⟩

theorem smOk_set [DecidableEq α] {d : Nat → α} {lo : Option Nat} {m : List (Nat × α)} {k : Nat} {x : α}
    (h : smOk d lo m = true) (hl : ∀ b, lo = some b → b < k) : smOk d lo (smSet d m k x) = true := by
  have above : smAbove lo k = true := by
    cases lo with
    | none => rfl
    | some b => simpa [smAbove] using hl b rfl
  induction m generalizing lo with
  | nil =>
    simp only [smSet]
    split
    · rfl
    · next hx => simp [smOk, above, hx]
  | cons p m ih =>
    obtain ⟨a, v⟩ := p
    have h' := h
    simp only [smOk, Bool.and_eq_true, decide_eq_true_eq] at h
    simp only [smSet]
    split
    · next hak =>
      subst hak
      split
      · have := smOk_del a h'
        simpa [smDel] using this
      · next hx => simp [smOk, above, hx, h.2]
    · next hak =>
      split
      · next hka =>
        split
        · simp only [smOk, Bool.and_eq_true, decide_eq_true_eq]
          exact ⟨h.1, smOk_del k h.2⟩
        · next hx =>
          simp only [smOk, above, Bool.true_and, Bool.and_eq_true, decide_eq_true_eq]
          exact ⟨hx, ⟨by simpa [smAbove] using hka, h.1.2⟩, h.2⟩
      · next hka =>
        simp only [smOk, Bool.and_eq_true, decide_eq_true_eq]
        refine ⟨h.1, ih h.2 ?_ ?_⟩
        · intro b hb; cases hb; omega
        · simp only [smAbove, decide_eq_true_eq]; omega

/-- A write keeps the canonical form. -/
theorem smWf_set [DecidableEq α] {d : Nat → α} {m : List (Nat × α)} (k : Nat) (x : α) (h : smWf d m = true) :
    smWf d (smSet d m k x) = true := smOk_set h (by simp)

theorem smWf_mod [DecidableEq α] {d : Nat → α} {m : List (Nat × α)} (k : Nat) (f : α → α) (h : smWf d m = true) :
    smWf d (smMod d m k f) = true := smWf_set k _ h

theorem smWf_setMany [DecidableEq α] {d : Nat → α} {m : List (Nat × α)} (k : Nat) (xs : List α) (h : smWf d m = true) :
    smWf d (smSetMany d m k xs) = true := by
  induction xs generalizing m k with
  | nil => exact h
  | cons x xs ih => exact ih (k + 1) (smWf_set k x h)

theorem smWf_putAll [DecidableEq α] {d : Nat → α} {m : List (Nat × α)} (xs : List (Nat × α)) (h : smWf d m = true) :
    smWf d (smPutAll d m xs) = true := by
  induction xs generalizing m with
  | nil => exact h
  | cons x xs ih => exact ih (smWf_set x.1 x.2 h)

theorem smOk_keep [DecidableEq α] {d : Nat → α} {lo : Option Nat} {m : List (Nat × α)} (p : Nat → Bool)
    (h : smOk d lo m = true) : smOk d lo (smKeep p m) = true := by
  induction m generalizing lo with
  | nil => rfl
  | cons q m ih =>
    obtain ⟨a, v⟩ := q
    simp only [smOk, Bool.and_eq_true, decide_eq_true_eq] at h
    simp only [smKeep]
    split
    · simp only [smOk, Bool.and_eq_true, decide_eq_true_eq]
      exact ⟨h.1, ih h.2⟩
    · refine smOk_weaken (ih h.2) ?_
      intro b' hb
      subst hb
      have h1 := h.1.1
      simp only [smAbove, decide_eq_true_eq] at h1
      exact ⟨a, rfl, by omega⟩

/-- Reading after writing, as one equation. -/
theorem smGet_set [DecidableEq α] (d : Nat → α) (m : List (Nat × α)) (k j : Nat) (x : α) :
    smGet d (smSet d m k x) j = if j = k then x else smGet d m j := by
  split
  · next h => subst h; exact smGet_set_same d m j x
  · next h => exact smGet_set_other d m x h

/-- Reading after a write of consecutive keys: the written value, or what was there. -/
theorem smGet_setMany [DecidableEq α] (d : Nat → α) (m : List (Nat × α)) (k j : Nat) (xs : List α) :
    smGet d (smSetMany d m k xs) j = if h : k ≤ j ∧ j - k < xs.length then xs[j - k]'h.2 else smGet d m j := by
  induction xs generalizing m k with
  | nil => simp [smSetMany]
  | cons x xs ih =>
    rw [smSetMany, ih, smGet_set]
    by_cases hjk : j = k
    · subst hjk; simp
    · by_cases hk : k ≤ j
      · have e : j - k = (j - (k + 1)) + 1 := by omega
        by_cases hl : j - (k + 1) < xs.length
        · simp [hl, hk, e, show k + 1 ≤ j by omega]
        · simp [hl, hk, e, hjk]
      · simp [hk, hjk, show ¬ k + 1 ≤ j by omega]

/-- Reading the kept entries. -/
theorem smGet_keep (d : Nat → α) (p : Nat → Bool) (m : List (Nat × α)) (j : Nat) :
    smGet d (smKeep p m) j = if p j then smGet d m j else d j := by
  induction m with
  | nil => simp [smKeep, smGet]
  | cons q m ih =>
    obtain ⟨a, v⟩ := q
    simp only [smKeep]
    by_cases hp : p a
    · simp only [hp, if_true, smGet]
      by_cases ha : a = j
      · subst ha; simp [hp]
      · simp [ha, ih]
    · simp only [hp, Bool.false_eq_true, if_false, smGet]
      by_cases ha : a = j
      · subst ha; simp [hp, ih]
      · simp [ha, ih]

theorem smWf_keep [DecidableEq α] {d : Nat → α} {m : List (Nat × α)} (p : Nat → Bool) (h : smWf d m = true) :
    smWf d (smKeep p m) = true := smOk_keep p h

end Sys2Proof.Laws
end

