-- ==== Sys2Proof/Laws/State.lean ====
section
/-!
SUPPORT. One lemma per field of the state and per update of it: what an update leaves alone, true by unfolding it once.
-/

namespace Sys2Proof.Laws
open Sys2Proof.Machine

@[simp] theorem setWord_role (s : State) (k : Nat) (x : Word32) : (s.setWord k x).role = s.role := rfl
@[simp] theorem setWord_member (s : State) (k : Nat) (x : Word32) : (s.setWord k x).member = s.member := rfl
@[simp] theorem setWord_imm (s : State) (k : Nat) (x : Word32) : (s.setWord k x).imm = s.imm := rfl
@[simp] theorem setWord_tabs (s : State) (k : Nat) (x : Word32) : (s.setWord k x).tabs = s.tabs := rfl
@[simp] theorem setWord_pend (s : State) (k : Nat) (x : Word32) : (s.setWord k x).pend = s.pend := rfl
@[simp] theorem setWord_latch (s : State) (k : Nat) (x : Word32) : (s.setWord k x).latch = s.latch := rfl
@[simp] theorem setWord_time (s : State) (k : Nat) (x : Word32) : (s.setWord k x).time = s.time := rfl
@[simp] theorem setWord_aon (s : State) (k : Nat) (x : Word32) : (s.setWord k x).aon = s.aon := rfl
@[simp] theorem setWord_boot (s : State) (k : Nat) (x : Word32) : (s.setWord k x).boot = s.boot := rfl
@[simp] theorem setWord_evt (s : State) (k : Nat) (x : Word32) : (s.setWord k x).evt = s.evt := rfl
@[simp] theorem setWord_tun (s : State) (k : Nat) (x : Word32) : (s.setWord k x).tun = s.tun := rfl
@[simp] theorem setWord_mgmt (s : State) (k : Nat) (x : Word32) : (s.setWord k x).mgmt = s.mgmt := rfl
@[simp] theorem setWord_cmt (s : State) (k : Nat) (x : Word32) : (s.setWord k x).cmt = s.cmt := rfl
@[simp] theorem setWord_frm (s : State) (k : Nat) (x : Word32) : (s.setWord k x).frm = s.frm := rfl
@[simp] theorem setWord_coil (s : State) (k : Nat) (x : Word32) : (s.setWord k x).coil = s.coil := rfl
@[simp] theorem setWord_red (s : State) (k : Nat) (x : Word32) : (s.setWord k x).red = s.red := rfl
@[simp] theorem setWord_hub (s : State) (k : Nat) (x : Word32) : (s.setWord k x).hub = s.hub := rfl
@[simp] theorem setWord_clk (s : State) (k : Nat) (x : Word32) : (s.setWord k x).clk = s.clk := rfl
@[simp] theorem setWord_drm (s : State) (k : Nat) (x : Word32) : (s.setWord k x).drm = s.drm := rfl
@[simp] theorem setWord_mram (s : State) (k : Nat) (x : Word32) : (s.setWord k x).mram = s.mram := rfl
@[simp] theorem setWord_nvs (s : State) (k : Nat) (x : Word32) : (s.setWord k x).nvs = s.nvs := rfl
@[simp] theorem setWord_thm (s : State) (k : Nat) (x : Word32) : (s.setWord k x).thm = s.thm := rfl
@[simp] theorem setWord_phc (s : State) (k : Nat) (x : Word32) : (s.setWord k x).phc = s.phc := rfl
@[simp] theorem setWord_cor (s : State) (k : Nat) (x : Word32) : (s.setWord k x).cor = s.cor := rfl
@[simp] theorem setWord_sch (s : State) (k : Nat) (x : Word32) : (s.setWord k x).sch = s.sch := rfl
@[simp] theorem setWord_lyr (s : State) (k : Nat) (x : Word32) : (s.setWord k x).lyr = s.lyr := rfl
@[simp] theorem setWord_net (s : State) (k : Nat) (x : Word32) : (s.setWord k x).net = s.net := rfl
@[simp] theorem setWord_str (s : State) (k : Nat) (x : Word32) : (s.setWord k x).str = s.str := rfl
@[simp] theorem setWord_dec (s : State) (k : Nat) (x : Word32) : (s.setWord k x).dec = s.dec := rfl
@[simp] theorem setWord_prv (s : State) (k : Nat) (x : Word32) : (s.setWord k x).prv = s.prv := rfl
@[simp] theorem setWord_cmp (s : State) (k : Nat) (x : Word32) : (s.setWord k x).cmp = s.cmp := rfl
@[simp] theorem setWord_sag (s : State) (k : Nat) (x : Word32) : (s.setWord k x).sag = s.sag := rfl
@[simp] theorem setWord_map (s : State) (k : Nat) (x : Word32) : (s.setWord k x).map = s.map := rfl
@[simp] theorem setWord_til (s : State) (k : Nat) (x : Word32) : (s.setWord k x).til = s.til := rfl
@[simp] theorem setWord_lsm (s : State) (k : Nat) (x : Word32) : (s.setWord k x).lsm = s.lsm := rfl
@[simp] theorem setWord_lmp (s : State) (k : Nat) (x : Word32) : (s.setWord k x).lmp = s.lmp := rfl
@[simp] theorem setWord_aud (s : State) (k : Nat) (x : Word32) : (s.setWord k x).aud = s.aud := rfl
@[simp] theorem setWord_out (s : State) (k : Nat) (x : Word32) : (s.setWord k x).out = s.out := rfl
@[simp] theorem setWord_free (s : State) (k : Nat) (x : Word32) : (s.setWord k x).free = s.free := rfl
@[simp] theorem setWord_pending (s : State) (k : Nat) (x : Word32) : (s.setWord k x).pending = s.pending := rfl

@[simp] theorem setImm_role (s : State) (p t i : Nat) (x : Word32) : (s.setImm p t i x).role = s.role := rfl
@[simp] theorem setImm_member (s : State) (p t i : Nat) (x : Word32) : (s.setImm p t i x).member = s.member := rfl
@[simp] theorem setImm_regs (s : State) (p t i : Nat) (x : Word32) : (s.setImm p t i x).regs = s.regs := rfl
@[simp] theorem setImm_tabs (s : State) (p t i : Nat) (x : Word32) : (s.setImm p t i x).tabs = s.tabs := rfl
@[simp] theorem setImm_pend (s : State) (p t i : Nat) (x : Word32) : (s.setImm p t i x).pend = s.pend := rfl
@[simp] theorem setImm_latch (s : State) (p t i : Nat) (x : Word32) : (s.setImm p t i x).latch = s.latch := rfl
@[simp] theorem setImm_time (s : State) (p t i : Nat) (x : Word32) : (s.setImm p t i x).time = s.time := rfl
@[simp] theorem setImm_aon (s : State) (p t i : Nat) (x : Word32) : (s.setImm p t i x).aon = s.aon := rfl
@[simp] theorem setImm_boot (s : State) (p t i : Nat) (x : Word32) : (s.setImm p t i x).boot = s.boot := rfl
@[simp] theorem setImm_evt (s : State) (p t i : Nat) (x : Word32) : (s.setImm p t i x).evt = s.evt := rfl
@[simp] theorem setImm_tun (s : State) (p t i : Nat) (x : Word32) : (s.setImm p t i x).tun = s.tun := rfl
@[simp] theorem setImm_mgmt (s : State) (p t i : Nat) (x : Word32) : (s.setImm p t i x).mgmt = s.mgmt := rfl
@[simp] theorem setImm_cmt (s : State) (p t i : Nat) (x : Word32) : (s.setImm p t i x).cmt = s.cmt := rfl
@[simp] theorem setImm_frm (s : State) (p t i : Nat) (x : Word32) : (s.setImm p t i x).frm = s.frm := rfl
@[simp] theorem setImm_coil (s : State) (p t i : Nat) (x : Word32) : (s.setImm p t i x).coil = s.coil := rfl
@[simp] theorem setImm_red (s : State) (p t i : Nat) (x : Word32) : (s.setImm p t i x).red = s.red := rfl
@[simp] theorem setImm_hub (s : State) (p t i : Nat) (x : Word32) : (s.setImm p t i x).hub = s.hub := rfl
@[simp] theorem setImm_clk (s : State) (p t i : Nat) (x : Word32) : (s.setImm p t i x).clk = s.clk := rfl
@[simp] theorem setImm_drm (s : State) (p t i : Nat) (x : Word32) : (s.setImm p t i x).drm = s.drm := rfl
@[simp] theorem setImm_mram (s : State) (p t i : Nat) (x : Word32) : (s.setImm p t i x).mram = s.mram := rfl
@[simp] theorem setImm_nvs (s : State) (p t i : Nat) (x : Word32) : (s.setImm p t i x).nvs = s.nvs := rfl
@[simp] theorem setImm_thm (s : State) (p t i : Nat) (x : Word32) : (s.setImm p t i x).thm = s.thm := rfl
@[simp] theorem setImm_phc (s : State) (p t i : Nat) (x : Word32) : (s.setImm p t i x).phc = s.phc := rfl
@[simp] theorem setImm_cor (s : State) (p t i : Nat) (x : Word32) : (s.setImm p t i x).cor = s.cor := rfl
@[simp] theorem setImm_sch (s : State) (p t i : Nat) (x : Word32) : (s.setImm p t i x).sch = s.sch := rfl
@[simp] theorem setImm_lyr (s : State) (p t i : Nat) (x : Word32) : (s.setImm p t i x).lyr = s.lyr := rfl
@[simp] theorem setImm_net (s : State) (p t i : Nat) (x : Word32) : (s.setImm p t i x).net = s.net := rfl
@[simp] theorem setImm_str (s : State) (p t i : Nat) (x : Word32) : (s.setImm p t i x).str = s.str := rfl
@[simp] theorem setImm_dec (s : State) (p t i : Nat) (x : Word32) : (s.setImm p t i x).dec = s.dec := rfl
@[simp] theorem setImm_prv (s : State) (p t i : Nat) (x : Word32) : (s.setImm p t i x).prv = s.prv := rfl
@[simp] theorem setImm_cmp (s : State) (p t i : Nat) (x : Word32) : (s.setImm p t i x).cmp = s.cmp := rfl
@[simp] theorem setImm_sag (s : State) (p t i : Nat) (x : Word32) : (s.setImm p t i x).sag = s.sag := rfl
@[simp] theorem setImm_map (s : State) (p t i : Nat) (x : Word32) : (s.setImm p t i x).map = s.map := rfl
@[simp] theorem setImm_til (s : State) (p t i : Nat) (x : Word32) : (s.setImm p t i x).til = s.til := rfl
@[simp] theorem setImm_lsm (s : State) (p t i : Nat) (x : Word32) : (s.setImm p t i x).lsm = s.lsm := rfl
@[simp] theorem setImm_lmp (s : State) (p t i : Nat) (x : Word32) : (s.setImm p t i x).lmp = s.lmp := rfl
@[simp] theorem setImm_aud (s : State) (p t i : Nat) (x : Word32) : (s.setImm p t i x).aud = s.aud := rfl
@[simp] theorem setImm_out (s : State) (p t i : Nat) (x : Word32) : (s.setImm p t i x).out = s.out := rfl
@[simp] theorem setImm_free (s : State) (p t i : Nat) (x : Word32) : (s.setImm p t i x).free = s.free := rfl
@[simp] theorem setImm_pending (s : State) (p t i : Nat) (x : Word32) : (s.setImm p t i x).pending = s.pending := rfl

@[simp] theorem setPend_role (s : State) (p t i : Nat) (x : Word32) : (s.setPend p t i x).role = s.role := rfl
@[simp] theorem setPend_member (s : State) (p t i : Nat) (x : Word32) : (s.setPend p t i x).member = s.member := rfl
@[simp] theorem setPend_regs (s : State) (p t i : Nat) (x : Word32) : (s.setPend p t i x).regs = s.regs := rfl
@[simp] theorem setPend_imm (s : State) (p t i : Nat) (x : Word32) : (s.setPend p t i x).imm = s.imm := rfl
@[simp] theorem setPend_tabs (s : State) (p t i : Nat) (x : Word32) : (s.setPend p t i x).tabs = s.tabs := rfl
@[simp] theorem setPend_latch (s : State) (p t i : Nat) (x : Word32) : (s.setPend p t i x).latch = s.latch := rfl
@[simp] theorem setPend_time (s : State) (p t i : Nat) (x : Word32) : (s.setPend p t i x).time = s.time := rfl
@[simp] theorem setPend_aon (s : State) (p t i : Nat) (x : Word32) : (s.setPend p t i x).aon = s.aon := rfl
@[simp] theorem setPend_boot (s : State) (p t i : Nat) (x : Word32) : (s.setPend p t i x).boot = s.boot := rfl
@[simp] theorem setPend_evt (s : State) (p t i : Nat) (x : Word32) : (s.setPend p t i x).evt = s.evt := rfl
@[simp] theorem setPend_tun (s : State) (p t i : Nat) (x : Word32) : (s.setPend p t i x).tun = s.tun := rfl
@[simp] theorem setPend_mgmt (s : State) (p t i : Nat) (x : Word32) : (s.setPend p t i x).mgmt = s.mgmt := rfl
@[simp] theorem setPend_cmt (s : State) (p t i : Nat) (x : Word32) : (s.setPend p t i x).cmt = s.cmt := rfl
@[simp] theorem setPend_frm (s : State) (p t i : Nat) (x : Word32) : (s.setPend p t i x).frm = s.frm := rfl
@[simp] theorem setPend_coil (s : State) (p t i : Nat) (x : Word32) : (s.setPend p t i x).coil = s.coil := rfl
@[simp] theorem setPend_red (s : State) (p t i : Nat) (x : Word32) : (s.setPend p t i x).red = s.red := rfl
@[simp] theorem setPend_hub (s : State) (p t i : Nat) (x : Word32) : (s.setPend p t i x).hub = s.hub := rfl
@[simp] theorem setPend_clk (s : State) (p t i : Nat) (x : Word32) : (s.setPend p t i x).clk = s.clk := rfl
@[simp] theorem setPend_drm (s : State) (p t i : Nat) (x : Word32) : (s.setPend p t i x).drm = s.drm := rfl
@[simp] theorem setPend_mram (s : State) (p t i : Nat) (x : Word32) : (s.setPend p t i x).mram = s.mram := rfl
@[simp] theorem setPend_nvs (s : State) (p t i : Nat) (x : Word32) : (s.setPend p t i x).nvs = s.nvs := rfl
@[simp] theorem setPend_thm (s : State) (p t i : Nat) (x : Word32) : (s.setPend p t i x).thm = s.thm := rfl
@[simp] theorem setPend_phc (s : State) (p t i : Nat) (x : Word32) : (s.setPend p t i x).phc = s.phc := rfl
@[simp] theorem setPend_cor (s : State) (p t i : Nat) (x : Word32) : (s.setPend p t i x).cor = s.cor := rfl
@[simp] theorem setPend_sch (s : State) (p t i : Nat) (x : Word32) : (s.setPend p t i x).sch = s.sch := rfl
@[simp] theorem setPend_lyr (s : State) (p t i : Nat) (x : Word32) : (s.setPend p t i x).lyr = s.lyr := rfl
@[simp] theorem setPend_net (s : State) (p t i : Nat) (x : Word32) : (s.setPend p t i x).net = s.net := rfl
@[simp] theorem setPend_str (s : State) (p t i : Nat) (x : Word32) : (s.setPend p t i x).str = s.str := rfl
@[simp] theorem setPend_dec (s : State) (p t i : Nat) (x : Word32) : (s.setPend p t i x).dec = s.dec := rfl
@[simp] theorem setPend_prv (s : State) (p t i : Nat) (x : Word32) : (s.setPend p t i x).prv = s.prv := rfl
@[simp] theorem setPend_cmp (s : State) (p t i : Nat) (x : Word32) : (s.setPend p t i x).cmp = s.cmp := rfl
@[simp] theorem setPend_sag (s : State) (p t i : Nat) (x : Word32) : (s.setPend p t i x).sag = s.sag := rfl
@[simp] theorem setPend_map (s : State) (p t i : Nat) (x : Word32) : (s.setPend p t i x).map = s.map := rfl
@[simp] theorem setPend_til (s : State) (p t i : Nat) (x : Word32) : (s.setPend p t i x).til = s.til := rfl
@[simp] theorem setPend_lsm (s : State) (p t i : Nat) (x : Word32) : (s.setPend p t i x).lsm = s.lsm := rfl
@[simp] theorem setPend_lmp (s : State) (p t i : Nat) (x : Word32) : (s.setPend p t i x).lmp = s.lmp := rfl
@[simp] theorem setPend_aud (s : State) (p t i : Nat) (x : Word32) : (s.setPend p t i x).aud = s.aud := rfl
@[simp] theorem setPend_out (s : State) (p t i : Nat) (x : Word32) : (s.setPend p t i x).out = s.out := rfl
@[simp] theorem setPend_free (s : State) (p t i : Nat) (x : Word32) : (s.setPend p t i x).free = s.free := rfl
@[simp] theorem setPend_pending (s : State) (p t i : Nat) (x : Word32) : (s.setPend p t i x).pending = s.pending := rfl

@[simp] theorem emit_role (s : State) (o : Output) : (s.emit o).role = s.role := rfl
@[simp] theorem emit_member (s : State) (o : Output) : (s.emit o).member = s.member := rfl
@[simp] theorem emit_regs (s : State) (o : Output) : (s.emit o).regs = s.regs := rfl
@[simp] theorem emit_imm (s : State) (o : Output) : (s.emit o).imm = s.imm := rfl
@[simp] theorem emit_tabs (s : State) (o : Output) : (s.emit o).tabs = s.tabs := rfl
@[simp] theorem emit_pend (s : State) (o : Output) : (s.emit o).pend = s.pend := rfl
@[simp] theorem emit_latch (s : State) (o : Output) : (s.emit o).latch = s.latch := rfl
@[simp] theorem emit_time (s : State) (o : Output) : (s.emit o).time = s.time := rfl
@[simp] theorem emit_aon (s : State) (o : Output) : (s.emit o).aon = s.aon := rfl
@[simp] theorem emit_boot (s : State) (o : Output) : (s.emit o).boot = s.boot := rfl
@[simp] theorem emit_evt (s : State) (o : Output) : (s.emit o).evt = s.evt := rfl
@[simp] theorem emit_tun (s : State) (o : Output) : (s.emit o).tun = s.tun := rfl
@[simp] theorem emit_mgmt (s : State) (o : Output) : (s.emit o).mgmt = s.mgmt := rfl
@[simp] theorem emit_cmt (s : State) (o : Output) : (s.emit o).cmt = s.cmt := rfl
@[simp] theorem emit_frm (s : State) (o : Output) : (s.emit o).frm = s.frm := rfl
@[simp] theorem emit_coil (s : State) (o : Output) : (s.emit o).coil = s.coil := rfl
@[simp] theorem emit_red (s : State) (o : Output) : (s.emit o).red = s.red := rfl
@[simp] theorem emit_hub (s : State) (o : Output) : (s.emit o).hub = s.hub := rfl
@[simp] theorem emit_clk (s : State) (o : Output) : (s.emit o).clk = s.clk := rfl
@[simp] theorem emit_drm (s : State) (o : Output) : (s.emit o).drm = s.drm := rfl
@[simp] theorem emit_mram (s : State) (o : Output) : (s.emit o).mram = s.mram := rfl
@[simp] theorem emit_nvs (s : State) (o : Output) : (s.emit o).nvs = s.nvs := rfl
@[simp] theorem emit_thm (s : State) (o : Output) : (s.emit o).thm = s.thm := rfl
@[simp] theorem emit_phc (s : State) (o : Output) : (s.emit o).phc = s.phc := rfl
@[simp] theorem emit_cor (s : State) (o : Output) : (s.emit o).cor = s.cor := rfl
@[simp] theorem emit_sch (s : State) (o : Output) : (s.emit o).sch = s.sch := rfl
@[simp] theorem emit_lyr (s : State) (o : Output) : (s.emit o).lyr = s.lyr := rfl
@[simp] theorem emit_net (s : State) (o : Output) : (s.emit o).net = s.net := rfl
@[simp] theorem emit_str (s : State) (o : Output) : (s.emit o).str = s.str := rfl
@[simp] theorem emit_dec (s : State) (o : Output) : (s.emit o).dec = s.dec := rfl
@[simp] theorem emit_prv (s : State) (o : Output) : (s.emit o).prv = s.prv := rfl
@[simp] theorem emit_cmp (s : State) (o : Output) : (s.emit o).cmp = s.cmp := rfl
@[simp] theorem emit_sag (s : State) (o : Output) : (s.emit o).sag = s.sag := rfl
@[simp] theorem emit_map (s : State) (o : Output) : (s.emit o).map = s.map := rfl
@[simp] theorem emit_til (s : State) (o : Output) : (s.emit o).til = s.til := rfl
@[simp] theorem emit_lsm (s : State) (o : Output) : (s.emit o).lsm = s.lsm := rfl
@[simp] theorem emit_lmp (s : State) (o : Output) : (s.emit o).lmp = s.lmp := rfl
@[simp] theorem emit_aud (s : State) (o : Output) : (s.emit o).aud = s.aud := rfl
@[simp] theorem emit_free (s : State) (o : Output) : (s.emit o).free = s.free := rfl
@[simp] theorem emit_pending (s : State) (o : Output) : (s.emit o).pending = s.pending := rfl

@[simp] theorem start_role (s : State) : (s.start).role = s.role := rfl
@[simp] theorem start_member (s : State) : (s.start).member = s.member := rfl
@[simp] theorem start_regs (s : State) : (s.start).regs = s.regs := rfl
@[simp] theorem start_imm (s : State) : (s.start).imm = s.imm := rfl
@[simp] theorem start_tabs (s : State) : (s.start).tabs = s.tabs := rfl
@[simp] theorem start_pend (s : State) : (s.start).pend = s.pend := rfl
@[simp] theorem start_latch (s : State) : (s.start).latch = s.latch := rfl
@[simp] theorem start_time (s : State) : (s.start).time = s.time := rfl
@[simp] theorem start_aon (s : State) : (s.start).aon = s.aon := rfl
@[simp] theorem start_boot (s : State) : (s.start).boot = s.boot := rfl
@[simp] theorem start_evt (s : State) : (s.start).evt = s.evt := rfl
@[simp] theorem start_tun (s : State) : (s.start).tun = s.tun := rfl
@[simp] theorem start_mgmt (s : State) : (s.start).mgmt = s.mgmt := rfl
@[simp] theorem start_cmt (s : State) : (s.start).cmt = s.cmt := rfl
@[simp] theorem start_frm (s : State) : (s.start).frm = s.frm := rfl
@[simp] theorem start_coil (s : State) : (s.start).coil = s.coil := rfl
@[simp] theorem start_red (s : State) : (s.start).red = s.red := rfl
@[simp] theorem start_hub (s : State) : (s.start).hub = s.hub := rfl
@[simp] theorem start_clk (s : State) : (s.start).clk = s.clk := rfl
@[simp] theorem start_drm (s : State) : (s.start).drm = s.drm := rfl
@[simp] theorem start_mram (s : State) : (s.start).mram = s.mram := rfl
@[simp] theorem start_nvs (s : State) : (s.start).nvs = s.nvs := rfl
@[simp] theorem start_thm (s : State) : (s.start).thm = s.thm := rfl
@[simp] theorem start_phc (s : State) : (s.start).phc = s.phc := rfl
@[simp] theorem start_cor (s : State) : (s.start).cor = s.cor := rfl
@[simp] theorem start_sch (s : State) : (s.start).sch = s.sch := rfl
@[simp] theorem start_lyr (s : State) : (s.start).lyr = s.lyr := rfl
@[simp] theorem start_net (s : State) : (s.start).net = s.net := rfl
@[simp] theorem start_str (s : State) : (s.start).str = s.str := rfl
@[simp] theorem start_dec (s : State) : (s.start).dec = s.dec := rfl
@[simp] theorem start_prv (s : State) : (s.start).prv = s.prv := rfl
@[simp] theorem start_cmp (s : State) : (s.start).cmp = s.cmp := rfl
@[simp] theorem start_sag (s : State) : (s.start).sag = s.sag := rfl
@[simp] theorem start_map (s : State) : (s.start).map = s.map := rfl
@[simp] theorem start_til (s : State) : (s.start).til = s.til := rfl
@[simp] theorem start_lsm (s : State) : (s.start).lsm = s.lsm := rfl
@[simp] theorem start_lmp (s : State) : (s.start).lmp = s.lmp := rfl
@[simp] theorem start_aud (s : State) : (s.start).aud = s.aud := rfl
@[simp] theorem start_free (s : State) : (s.start).free = s.free := rfl
@[simp] theorem start_pending (s : State) : (s.start).pending = s.pending := rfl

@[simp] theorem atTime_role (s : State) (t : Nat) : (s.atTime t).role = s.role := rfl
@[simp] theorem atTime_member (s : State) (t : Nat) : (s.atTime t).member = s.member := rfl
@[simp] theorem atTime_regs (s : State) (t : Nat) : (s.atTime t).regs = s.regs := rfl
@[simp] theorem atTime_imm (s : State) (t : Nat) : (s.atTime t).imm = s.imm := rfl
@[simp] theorem atTime_tabs (s : State) (t : Nat) : (s.atTime t).tabs = s.tabs := rfl
@[simp] theorem atTime_pend (s : State) (t : Nat) : (s.atTime t).pend = s.pend := rfl
@[simp] theorem atTime_latch (s : State) (t : Nat) : (s.atTime t).latch = s.latch := rfl
@[simp] theorem atTime_aon (s : State) (t : Nat) : (s.atTime t).aon = s.aon := rfl
@[simp] theorem atTime_boot (s : State) (t : Nat) : (s.atTime t).boot = s.boot := rfl
@[simp] theorem atTime_evt (s : State) (t : Nat) : (s.atTime t).evt = s.evt := rfl
@[simp] theorem atTime_tun (s : State) (t : Nat) : (s.atTime t).tun = s.tun := rfl
@[simp] theorem atTime_mgmt (s : State) (t : Nat) : (s.atTime t).mgmt = s.mgmt := rfl
@[simp] theorem atTime_cmt (s : State) (t : Nat) : (s.atTime t).cmt = s.cmt := rfl
@[simp] theorem atTime_frm (s : State) (t : Nat) : (s.atTime t).frm = s.frm := rfl
@[simp] theorem atTime_coil (s : State) (t : Nat) : (s.atTime t).coil = s.coil := rfl
@[simp] theorem atTime_red (s : State) (t : Nat) : (s.atTime t).red = s.red := rfl
@[simp] theorem atTime_hub (s : State) (t : Nat) : (s.atTime t).hub = s.hub := rfl
@[simp] theorem atTime_clk (s : State) (t : Nat) : (s.atTime t).clk = s.clk := rfl
@[simp] theorem atTime_drm (s : State) (t : Nat) : (s.atTime t).drm = s.drm := rfl
@[simp] theorem atTime_mram (s : State) (t : Nat) : (s.atTime t).mram = s.mram := rfl
@[simp] theorem atTime_nvs (s : State) (t : Nat) : (s.atTime t).nvs = s.nvs := rfl
@[simp] theorem atTime_thm (s : State) (t : Nat) : (s.atTime t).thm = s.thm := rfl
@[simp] theorem atTime_phc (s : State) (t : Nat) : (s.atTime t).phc = s.phc := rfl
@[simp] theorem atTime_cor (s : State) (t : Nat) : (s.atTime t).cor = s.cor := rfl
@[simp] theorem atTime_sch (s : State) (t : Nat) : (s.atTime t).sch = s.sch := rfl
@[simp] theorem atTime_lyr (s : State) (t : Nat) : (s.atTime t).lyr = s.lyr := rfl
@[simp] theorem atTime_net (s : State) (t : Nat) : (s.atTime t).net = s.net := rfl
@[simp] theorem atTime_str (s : State) (t : Nat) : (s.atTime t).str = s.str := rfl
@[simp] theorem atTime_dec (s : State) (t : Nat) : (s.atTime t).dec = s.dec := rfl
@[simp] theorem atTime_prv (s : State) (t : Nat) : (s.atTime t).prv = s.prv := rfl
@[simp] theorem atTime_cmp (s : State) (t : Nat) : (s.atTime t).cmp = s.cmp := rfl
@[simp] theorem atTime_sag (s : State) (t : Nat) : (s.atTime t).sag = s.sag := rfl
@[simp] theorem atTime_map (s : State) (t : Nat) : (s.atTime t).map = s.map := rfl
@[simp] theorem atTime_til (s : State) (t : Nat) : (s.atTime t).til = s.til := rfl
@[simp] theorem atTime_lsm (s : State) (t : Nat) : (s.atTime t).lsm = s.lsm := rfl
@[simp] theorem atTime_lmp (s : State) (t : Nat) : (s.atTime t).lmp = s.lmp := rfl
@[simp] theorem atTime_aud (s : State) (t : Nat) : (s.atTime t).aud = s.aud := rfl
@[simp] theorem atTime_free (s : State) (t : Nat) : (s.atTime t).free = s.free := rfl
@[simp] theorem atTime_pending (s : State) (t : Nat) : (s.atTime t).pending = s.pending := rfl

@[simp] theorem putTables_role (s : State) : (s.putTables).role = s.role := rfl
@[simp] theorem putTables_member (s : State) : (s.putTables).member = s.member := rfl
@[simp] theorem putTables_regs (s : State) : (s.putTables).regs = s.regs := rfl
@[simp] theorem putTables_imm (s : State) : (s.putTables).imm = s.imm := rfl
@[simp] theorem putTables_pend (s : State) : (s.putTables).pend = s.pend := rfl
@[simp] theorem putTables_latch (s : State) : (s.putTables).latch = s.latch := rfl
@[simp] theorem putTables_time (s : State) : (s.putTables).time = s.time := rfl
@[simp] theorem putTables_aon (s : State) : (s.putTables).aon = s.aon := rfl
@[simp] theorem putTables_boot (s : State) : (s.putTables).boot = s.boot := rfl
@[simp] theorem putTables_evt (s : State) : (s.putTables).evt = s.evt := rfl
@[simp] theorem putTables_tun (s : State) : (s.putTables).tun = s.tun := rfl
@[simp] theorem putTables_mgmt (s : State) : (s.putTables).mgmt = s.mgmt := rfl
@[simp] theorem putTables_cmt (s : State) : (s.putTables).cmt = s.cmt := rfl
@[simp] theorem putTables_frm (s : State) : (s.putTables).frm = s.frm := rfl
@[simp] theorem putTables_coil (s : State) : (s.putTables).coil = s.coil := rfl
@[simp] theorem putTables_red (s : State) : (s.putTables).red = s.red := rfl
@[simp] theorem putTables_hub (s : State) : (s.putTables).hub = s.hub := rfl
@[simp] theorem putTables_clk (s : State) : (s.putTables).clk = s.clk := rfl
@[simp] theorem putTables_drm (s : State) : (s.putTables).drm = s.drm := rfl
@[simp] theorem putTables_mram (s : State) : (s.putTables).mram = s.mram := rfl
@[simp] theorem putTables_nvs (s : State) : (s.putTables).nvs = s.nvs := rfl
@[simp] theorem putTables_thm (s : State) : (s.putTables).thm = s.thm := rfl
@[simp] theorem putTables_phc (s : State) : (s.putTables).phc = s.phc := rfl
@[simp] theorem putTables_cor (s : State) : (s.putTables).cor = s.cor := rfl
@[simp] theorem putTables_sch (s : State) : (s.putTables).sch = s.sch := rfl
@[simp] theorem putTables_lyr (s : State) : (s.putTables).lyr = s.lyr := rfl
@[simp] theorem putTables_net (s : State) : (s.putTables).net = s.net := rfl
@[simp] theorem putTables_str (s : State) : (s.putTables).str = s.str := rfl
@[simp] theorem putTables_dec (s : State) : (s.putTables).dec = s.dec := rfl
@[simp] theorem putTables_prv (s : State) : (s.putTables).prv = s.prv := rfl
@[simp] theorem putTables_cmp (s : State) : (s.putTables).cmp = s.cmp := rfl
@[simp] theorem putTables_sag (s : State) : (s.putTables).sag = s.sag := rfl
@[simp] theorem putTables_map (s : State) : (s.putTables).map = s.map := rfl
@[simp] theorem putTables_til (s : State) : (s.putTables).til = s.til := rfl
@[simp] theorem putTables_lsm (s : State) : (s.putTables).lsm = s.lsm := rfl
@[simp] theorem putTables_lmp (s : State) : (s.putTables).lmp = s.lmp := rfl
@[simp] theorem putTables_aud (s : State) : (s.putTables).aud = s.aud := rfl
@[simp] theorem putTables_out (s : State) : (s.putTables).out = s.out := rfl
@[simp] theorem putTables_free (s : State) : (s.putTables).free = s.free := rfl
@[simp] theorem putTables_pending (s : State) : (s.putTables).pending = s.pending := rfl

@[simp] theorem start_out (s : State) : s.start.out = [] := rfl
@[simp] theorem atTime_out (s : State) (t : Nat) : (s.atTime t).out = [] := rfl
@[simp] theorem atTime_time (s : State) (t : Nat) : (s.atTime t).time = max s.time t := rfl
@[simp] theorem emit_out (s : State) (o : Output) : (s.emit o).out = s.out ++ [o] := rfl
@[simp] theorem putTables_tabs (s : State) : s.putTables.tabs = s.pend := rfl

/-- A field write changes register words alone. -/
theorem wr_eq (s : State) (f : Fld) (v : Nat) : s.wr f v = { s with regs := (s.wr f v).regs } := by
  unfold State.wr; split <;> rfl

@[simp] theorem wr_role (s : State) (f : Fld) (v : Nat) : (s.wr f v).role = s.role := by rw [wr_eq]
@[simp] theorem wr_member (s : State) (f : Fld) (v : Nat) : (s.wr f v).member = s.member := by rw [wr_eq]
@[simp] theorem wr_imm (s : State) (f : Fld) (v : Nat) : (s.wr f v).imm = s.imm := by rw [wr_eq]
@[simp] theorem wr_tabs (s : State) (f : Fld) (v : Nat) : (s.wr f v).tabs = s.tabs := by rw [wr_eq]
@[simp] theorem wr_pend (s : State) (f : Fld) (v : Nat) : (s.wr f v).pend = s.pend := by rw [wr_eq]
@[simp] theorem wr_latch (s : State) (f : Fld) (v : Nat) : (s.wr f v).latch = s.latch := by rw [wr_eq]
@[simp] theorem wr_time (s : State) (f : Fld) (v : Nat) : (s.wr f v).time = s.time := by rw [wr_eq]
@[simp] theorem wr_aon (s : State) (f : Fld) (v : Nat) : (s.wr f v).aon = s.aon := by rw [wr_eq]
@[simp] theorem wr_boot (s : State) (f : Fld) (v : Nat) : (s.wr f v).boot = s.boot := by rw [wr_eq]
@[simp] theorem wr_evt (s : State) (f : Fld) (v : Nat) : (s.wr f v).evt = s.evt := by rw [wr_eq]
@[simp] theorem wr_tun (s : State) (f : Fld) (v : Nat) : (s.wr f v).tun = s.tun := by rw [wr_eq]
@[simp] theorem wr_mgmt (s : State) (f : Fld) (v : Nat) : (s.wr f v).mgmt = s.mgmt := by rw [wr_eq]
@[simp] theorem wr_cmt (s : State) (f : Fld) (v : Nat) : (s.wr f v).cmt = s.cmt := by rw [wr_eq]
@[simp] theorem wr_frm (s : State) (f : Fld) (v : Nat) : (s.wr f v).frm = s.frm := by rw [wr_eq]
@[simp] theorem wr_coil (s : State) (f : Fld) (v : Nat) : (s.wr f v).coil = s.coil := by rw [wr_eq]
@[simp] theorem wr_red (s : State) (f : Fld) (v : Nat) : (s.wr f v).red = s.red := by rw [wr_eq]
@[simp] theorem wr_hub (s : State) (f : Fld) (v : Nat) : (s.wr f v).hub = s.hub := by rw [wr_eq]
@[simp] theorem wr_clk (s : State) (f : Fld) (v : Nat) : (s.wr f v).clk = s.clk := by rw [wr_eq]
@[simp] theorem wr_drm (s : State) (f : Fld) (v : Nat) : (s.wr f v).drm = s.drm := by rw [wr_eq]
@[simp] theorem wr_mram (s : State) (f : Fld) (v : Nat) : (s.wr f v).mram = s.mram := by rw [wr_eq]
@[simp] theorem wr_nvs (s : State) (f : Fld) (v : Nat) : (s.wr f v).nvs = s.nvs := by rw [wr_eq]
@[simp] theorem wr_thm (s : State) (f : Fld) (v : Nat) : (s.wr f v).thm = s.thm := by rw [wr_eq]
@[simp] theorem wr_phc (s : State) (f : Fld) (v : Nat) : (s.wr f v).phc = s.phc := by rw [wr_eq]
@[simp] theorem wr_cor (s : State) (f : Fld) (v : Nat) : (s.wr f v).cor = s.cor := by rw [wr_eq]
@[simp] theorem wr_sch (s : State) (f : Fld) (v : Nat) : (s.wr f v).sch = s.sch := by rw [wr_eq]
@[simp] theorem wr_lyr (s : State) (f : Fld) (v : Nat) : (s.wr f v).lyr = s.lyr := by rw [wr_eq]
@[simp] theorem wr_net (s : State) (f : Fld) (v : Nat) : (s.wr f v).net = s.net := by rw [wr_eq]
@[simp] theorem wr_str (s : State) (f : Fld) (v : Nat) : (s.wr f v).str = s.str := by rw [wr_eq]
@[simp] theorem wr_dec (s : State) (f : Fld) (v : Nat) : (s.wr f v).dec = s.dec := by rw [wr_eq]
@[simp] theorem wr_prv (s : State) (f : Fld) (v : Nat) : (s.wr f v).prv = s.prv := by rw [wr_eq]
@[simp] theorem wr_cmp (s : State) (f : Fld) (v : Nat) : (s.wr f v).cmp = s.cmp := by rw [wr_eq]
@[simp] theorem wr_sag (s : State) (f : Fld) (v : Nat) : (s.wr f v).sag = s.sag := by rw [wr_eq]
@[simp] theorem wr_map (s : State) (f : Fld) (v : Nat) : (s.wr f v).map = s.map := by rw [wr_eq]
@[simp] theorem wr_til (s : State) (f : Fld) (v : Nat) : (s.wr f v).til = s.til := by rw [wr_eq]
@[simp] theorem wr_lsm (s : State) (f : Fld) (v : Nat) : (s.wr f v).lsm = s.lsm := by rw [wr_eq]
@[simp] theorem wr_lmp (s : State) (f : Fld) (v : Nat) : (s.wr f v).lmp = s.lmp := by rw [wr_eq]
@[simp] theorem wr_aud (s : State) (f : Fld) (v : Nat) : (s.wr f v).aud = s.aud := by rw [wr_eq]
@[simp] theorem wr_out (s : State) (f : Fld) (v : Nat) : (s.wr f v).out = s.out := by rw [wr_eq]
@[simp] theorem wr_free (s : State) (f : Fld) (v : Nat) : (s.wr f v).free = s.free := by rw [wr_eq]
@[simp] theorem wr_pending (s : State) (f : Fld) (v : Nat) : (s.wr f v).pending = s.pending := by rw [wr_eq]

end Sys2Proof.Laws
end

