-- ==== Sys2Proof/Laws/Ops.lean ====
section
/-!
SUPPORT. What each named operation of the machine does to register words, fields and events: once for each operation, to be cited
instead of unfolding it.
-/

namespace Sys2Proof.Laws
open Sys2Proof.Machine

/-! Words. -/

/-- A word after a word was stored. -/
theorem word_setWord (s : State) (k j : Nat) (x : Word32) : (s.setWord k x).word j = if j = k then x else s.word j :=
  smGet_set resetWord s.regs k j x

@[simp] theorem word_setWord_same (s : State) (k : Nat) (x : Word32) : (s.setWord k x).word k = x := by
  rw [word_setWord, if_pos rfl]

theorem word_setWord_ne (s : State) {k j : Nat} (x : Word32) (h : j ≠ k) : (s.setWord k x).word j = s.word j := by
  rw [word_setWord, if_neg h]

/-- Words follow the register list alone. -/
theorem word_congr {s t : State} (h : s.regs = t.regs) (k : Nat) : s.word k = t.word k := by
  simp only [State.word, h]

@[simp] theorem word_start (s : State) (k : Nat) : s.start.word k = s.word k := rfl
@[simp] theorem word_atTime (s : State) (t k : Nat) : (s.atTime t).word k = s.word k := rfl
@[simp] theorem word_emit (s : State) (o : Output) (k : Nat) : (s.emit o).word k = s.word k := rfl

/-! Bits of a word. -/

/-- The parts of a word around a field, and of the word with the field replaced. -/
theorem putField_parts (x : Word32) {lo w : Nat} (h : lo + w ≤ 32) (v : Nat) :
    ∃ q f r, f < 2 ^ w ∧ r < 2 ^ lo ∧ x.toNat = 2 ^ lo * (2 ^ w * q + f) + r ∧
      (putField x lo w v).toNat = 2 ^ lo * (2 ^ w * q + v % 2 ^ w) + r := by
  have hx := x.isLt
  have hp : 0 < 2 ^ lo := Nat.pow_pos (by omega)
  have hw : 0 < 2 ^ w := Nat.pow_pos (by omega)
  obtain ⟨d, hd⟩ : 2 ^ lo * 2 ^ w ∣ 2 ^ 32 := by rw [← Nat.pow_add]; exact pow_dvd_pow 2 h
  simp only [putField, fieldOf, BitVec.toNat_ofNat]
  generalize 2 ^ lo = A at *
  generalize 2 ^ w = B at *
  generalize x.toNat = n at *
  have e1 : n = A * (n / A) + n % A := (Nat.div_add_mod n A).symm
  have e2 : n / A = B * (n / A / B) + n / A % B := (Nat.div_add_mod (n / A) B).symm
  have hf := Nat.mod_lt (n / A) hw
  have hr := Nat.mod_lt n hp
  have hu := Nat.mod_lt v hw
  generalize n / A / B = q at *
  generalize n / A % B = f at *
  generalize n % A = r at *
  generalize v % B = u at *
  have hn : n = A * (B * q + f) + r := by rw [← e2]; exact e1
  have hn' : n = A * (B * q) + A * f + r := by rw [hn]; ring
  refine ⟨q, f, r, hf, hr, hn, ?_⟩
  have hM : n - f * A + u * A = A * (B * q + u) + r := by
    have : n - f * A = A * (B * q) + r := by rw [hn', Nat.mul_comm f A]; omega
    rw [this, Nat.mul_comm u A]; ring
  have hq : q < d := by
    by_contra hc
    have : A * B * d ≤ A * (B * q) := by rw [← Nat.mul_assoc]; exact Nat.mul_le_mul_left _ (by omega)
    omega
  have hlt : A * (B * q + u) + r < 2 ^ 32 :=
    calc A * (B * q + u) + r < A * (B * q + u + 1) := by rw [Nat.mul_add A _ 1]; omega
      _ ≤ A * (B * q + B) := Nat.mul_le_mul_left _ (by omega)
      _ = A * B * (q + 1) := by ring
      _ ≤ A * B * d := Nat.mul_le_mul_left _ hq
      _ = 2 ^ 32 := hd.symm
  rw [hM, Nat.mod_eq_of_lt hlt]

/-- A put field reads back. -/
theorem fieldOf_putField_same (x : Word32) {lo w : Nat} (h : lo + w ≤ 32) (v : Nat) :
    fieldOf (putField x lo w v) lo w = v % 2 ^ w := by
  obtain ⟨q, f, r, -, hr, -, e⟩ := putField_parts x h v
  rw [fieldOf, e, Nat.mul_add_div (Nat.pow_pos (by omega)), Nat.div_eq_of_lt hr, Nat.add_zero, Nat.mul_add_mod, Nat.mod_mod]

/-- A field below a put field keeps its value. -/
theorem fieldOf_putField_below (x : Word32) {lo w lo' w' : Nat} (h : lo + w ≤ 32) (hd : lo' + w' ≤ lo) (v : Nat) :
    fieldOf (putField x lo w v) lo' w' = fieldOf x lo' w' := by
  obtain ⟨q, f, r, -, -, e1, e2⟩ := putField_parts x h v
  have key (n : Nat) : n / 2 ^ lo' % 2 ^ w' = n % 2 ^ lo % 2 ^ (lo' + w') / 2 ^ lo' := by
    rw [Nat.mod_mod_of_dvd _ (pow_dvd_pow 2 hd), Nat.pow_add, Nat.mod_mul_right_div_self]
  rw [fieldOf, fieldOf, key, key, e1, e2, Nat.mul_add_mod, Nat.mul_add_mod]

/-- A field above a put field keeps its value. -/
theorem fieldOf_putField_above (x : Word32) {lo w lo' w' : Nat} (h : lo + w ≤ 32) (hd : lo + w ≤ lo') (v : Nat) :
    fieldOf (putField x lo w v) lo' w' = fieldOf x lo' w' := by
  obtain ⟨q, f, r, hf, hr, e1, e2⟩ := putField_parts x h v
  have hp : 0 < 2 ^ lo := Nat.pow_pos (by omega)
  have key (n : Nat) : n / 2 ^ lo' = n / 2 ^ lo / 2 ^ w / 2 ^ (lo' - (lo + w)) := by
    rw [Nat.div_div_eq_div_mul, Nat.div_div_eq_div_mul, ← Nat.pow_add, ← Nat.pow_add]
    congr 2; omega
  have hi (u : Nat) (hu : u < 2 ^ w) : (2 ^ lo * (2 ^ w * q + u) + r) / 2 ^ lo / 2 ^ w = q := by
    rw [Nat.mul_add_div hp, Nat.div_eq_of_lt hr, Nat.add_zero, Nat.mul_add_div (Nat.pow_pos (by omega)), Nat.div_eq_of_lt hu,
      Nat.add_zero]
  rw [fieldOf, fieldOf, key, key x.toNat, e1, e2, hi _ (Nat.mod_lt _ (Nat.pow_pos (by omega))), hi _ hf]

/-! Fields. -/

/-- A field lies in its words: in one, or from bit 0 over two. -/
def Fld.ok (f : Fld) : Prop := f.lo + f.w ≤ 32 ∨ (f.lo = 0 ∧ 32 < f.w ∧ f.w ≤ 64)

/-- A field shares no bit with the words from a key on that another field occupies. -/
def Fld.apart (f g : Fld) : Prop :=
  (f.key ≠ g.key ∧ (32 < g.w → f.key ≠ g.key + 4) ∧ (32 < f.w → f.key + 4 ≠ g.key) ∧ (32 < f.w → 32 < g.w → f.key + 4 ≠ g.key + 4)) ∨
  (f.w ≤ 32 ∧ g.w ≤ 32 ∧ f.key = g.key ∧ (f.lo + f.w ≤ g.lo ∨ g.lo + g.w ≤ f.lo))

/-- A field reads back what was written, reduced to its width. -/
theorem rd_wr_same (s : State) {f : Fld} (h : Fld.ok f) (v : Nat) : (s.wr f v).rd f = v % 2 ^ f.w := by
  unfold State.rd State.wr
  by_cases hw : f.w ≤ 32
  · rcases h with h | h
    · simp only [hw, if_true, word_setWord_same]
      exact fieldOf_putField_same _ h v
    · omega
  · rcases h with h | ⟨-, h1, h2⟩
    · omega
    simp only [hw, if_false, word_setWord_same]
    rw [word_setWord_ne _ _ (show f.key ≠ f.key + 4 by omega), word_setWord_same]
    obtain ⟨q, g, r, hg, hr, -, e⟩ := putField_parts (s.word (f.key + 4)) (lo := 0) (w := f.w - 32) (by omega) (v / 2 ^ 32)
    have hr0 : r = 0 := by simpa using hr
    have hs : 2 ^ f.w = 2 ^ 32 * 2 ^ (f.w - 32) := by rw [← Nat.pow_add]; congr 1; omega
    have hm : v % 2 ^ f.w = v % 2 ^ 32 + 2 ^ 32 * (v / 2 ^ 32 % 2 ^ (f.w - 32)) := by rw [hs, Nat.mod_mul]
    have hV : (BitVec.ofNat 32 v).toNat + 2 ^ 32 * (2 ^ 0 * (2 ^ (f.w - 32) * q + v / 2 ^ 32 % 2 ^ (f.w - 32)) + r) =
        2 ^ f.w * q + v % 2 ^ f.w := by
      rw [hm, hr0, hs, BitVec.toNat_ofNat]; ring
    rw [e, hV, Nat.mul_add_mod, Nat.mod_mod]

/-- Writing a field leaves a field apart from it alone. -/
theorem rd_wr_apart (s : State) {f g : Fld} (hg : Fld.ok g) (h : Fld.apart f g) (v : Nat) : (s.wr g v).rd f = s.rd f := by
  have hword : ∀ k, k ≠ g.key → (32 < g.w → k ≠ g.key + 4) → (s.wr g v).word k = s.word k := by
    intro k h1 h2
    unfold State.wr
    split
    · rw [word_setWord_ne _ _ h1]
    · rw [word_setWord_ne _ _ (h2 (by omega)), word_setWord_ne _ _ h1]
  unfold State.rd
  rcases h with ⟨h1, h2, h3, h4⟩ | ⟨hf, hgw, hk, hd⟩
  · rw [hword f.key h1 h2]
    split
    · rfl
    · rw [hword (f.key + 4) (h3 (by omega)) (h4 (by omega))]
  · rcases hg with hg | hg
    · simp only [hf, if_true, State.wr, hgw, hk, word_setWord_same]
      rcases hd with hd | hd
      · exact fieldOf_putField_below _ hg hd v
      · exact fieldOf_putField_above _ hg hd v
    · omega

/-- A field follows the register list alone. -/
theorem rd_congr {s t : State} (h : s.regs = t.regs) (f : Fld) : s.rd f = t.rd f := by
  simp only [State.rd, word_congr h]

/-- A field keeps its value when a word outside it is stored. -/
theorem rd_setWord_ne (s : State) {f : Fld} {k : Nat} (x : Word32) (h1 : f.key ≠ k) (h2 : 32 < f.w → f.key + 4 ≠ k) :
    (s.setWord k x).rd f = s.rd f := by
  unfold State.rd
  rw [word_setWord_ne _ _ h1]
  split
  · rfl
  · rw [word_setWord_ne _ _ (h2 (by omega))]

@[simp] theorem rd_start (s : State) (f : Fld) : s.start.rd f = s.rd f := rfl
@[simp] theorem rd_atTime (s : State) (t : Nat) (f : Fld) : (s.atTime t).rd f = s.rd f := rfl
@[simp] theorem rd_emit (s : State) (o : Output) (f : Fld) : (s.emit o).rd f = s.rd f := rfl

/-- A word outside a written field. -/
theorem word_wr_ne (s : State) {g : Fld} {k : Nat} (v : Nat) (h1 : k ≠ g.key) (h2 : 32 < g.w → k ≠ g.key + 4) :
    (s.wr g v).word k = s.word k := by
  unfold State.wr
  split
  · rw [word_setWord_ne _ _ h1]
  · rw [word_setWord_ne _ _ (h2 (by omega)), word_setWord_ne _ _ h1]

/-! Conditions and folds. -/

@[simp] theorem cond_true (s : State) (f : State → State) : s.cond true f = f s := rfl
@[simp] theorem cond_false (s : State) (f : State → State) : s.cond false f = s := rfl

/-- A property that a change keeps, a conditional change keeps. -/
theorem cond_keeps {P : State → Prop} {s : State} (b : Bool) {f : State → State} (h : P s) (hf : P s → P (f s)) : P (s.cond b f) := by
  cases b
  · exact h
  · exact hf h

/-- A property that every change of a fold keeps, the fold keeps. -/
theorem each_keeps {α : Type} {P : State → Prop} (xs : List α) {f : State → α → State} (hf : ∀ s x, P s → P (f s x)) {s : State}
    (h : P s) : P (s.each xs f) := by
  unfold State.each
  induction xs generalizing s with
  | nil => exact h
  | cons x xs ih => exact ih (hf s x h)

/-! Events (03 R73). -/

/-- Delivery changes the event machinery alone. -/
theorem deliver_eq (s : State) (p b : Nat) : s.deliver p b = { s with evt := (s.deliver p b).evt } := by
  unfold State.deliver
  split
  · dsimp only; split <;> rfl
  · split <;> rfl

@[simp] theorem deliver_regs (s : State) (p b : Nat) : (s.deliver p b).regs = s.regs := by rw [deliver_eq]

/-- Making an event pending changes one register word, its page's EVT_PEND, and the event machinery. -/
theorem setPendBit_eq (s : State) (p b : Nat) :
    s.setPendBit p b = { s with regs := (s.setPendBit p b).regs, evt := (s.setPendBit p b).evt } := by
  unfold State.setPendBit
  simp only [State.cond]
  split
  · rw [deliver_eq]; rfl
  · rfl

theorem word_setPendBit_ne (s : State) {p b k : Nat} (h : k ≠ evtPendKey p) : (s.setPendBit p b).word k = s.word k := by
  have h0 : (s.setPendBit p b).regs = (s.setWbit (evtPendKey p) b true).regs := by
    unfold State.setPendBit
    simp only [State.cond]
    split
    · rw [deliver_regs]
    · rfl
  rw [word_congr h0, State.setWbit, word_setWord_ne _ _ h]

/-- An event that is raised is pending (03 R73). -/
theorem wbit_setPendBit_same (s : State) (p : Nat) {b : Nat} (h : b < 32) : (s.setPendBit p b).wbit (evtPendKey p) b = true := by
  have h0 : (s.setPendBit p b).regs = (s.setWbit (evtPendKey p) b true).regs := by
    unfold State.setPendBit
    simp only [State.cond]
    split
    · rw [deliver_regs]
    · rfl
  have := fieldOf_putField_same (s.word (evtPendKey p)) (lo := b) (w := 1) (by omega) 1
  rw [State.wbit, word_congr h0, State.setWbit, word_setWord_same, Nat.testBit_eq_decide_div_mod_eq]
  simpa [fieldOf, b2n] using this

/-- Raising an event is making its bit pending. -/
theorem raise_def (s : State) (e : Evt) : s.raise e = s.setPendBit e.page e.bit := rfl

/-- Raising an event leaves every register field off the page's EVT_PEND word alone. -/
theorem rd_raise_ne (s : State) {f : Fld} {e : Evt} (h1 : f.key ≠ evtPendKey e.page) (h2 : 32 < f.w → f.key + 4 ≠ evtPendKey e.page) :
    (s.raise e).rd f = s.rd f := by
  unfold State.rd State.raise
  rw [word_setPendBit_ne _ h1]
  split
  · rfl
  · rw [word_setPendBit_ne _ (h2 (by omega))]

/-- A level event changes the EVT_RAW and EVT_PEND words of its page and the event machinery alone. -/
theorem level_eq (s : State) (e : Evt) (b : Bool) :
    s.level e b = { s with regs := (s.level e b).regs, evt := (s.level e b).evt } := by
  unfold State.level
  simp only [State.cond]
  split
  · rw [State.raise, setPendBit_eq]; rfl
  · rfl

theorem word_level_ne (s : State) {e : Evt} {b : Bool} {k : Nat} (h1 : k ≠ evtRawKey e.page) (h2 : k ≠ evtPendKey e.page) :
    (s.level e b).word k = s.word k := by
  unfold State.level
  simp only [State.cond]
  split
  · rw [State.raise, word_setPendBit_ne _ h2, State.setWbit, word_setWord_ne _ _ h1]
  · rw [State.setWbit, word_setWord_ne _ _ h1]

theorem rd_level_ne (s : State) {f : Fld} {e : Evt} {b : Bool} (h1 : f.key ≠ evtRawKey e.page) (h2 : f.key ≠ evtPendKey e.page)
    (h3 : 32 < f.w → f.key + 4 ≠ evtRawKey e.page ∧ f.key + 4 ≠ evtPendKey e.page) : (s.level e b).rd f = s.rd f := by
  unfold State.rd
  rw [word_level_ne _ h1 h2]
  split
  · rfl
  · rw [word_level_ne _ (h3 (by omega)).1 (h3 (by omega)).2]

end Sys2Proof.Laws
end

