-- ==== Sys2Proof/Laws/Commit.lean ====
section
/-!
SUPPORT. What the end of a validation does before the verdict: BUSY clears, nothing is being validated, and the transit time of every port
is computed anew; no other word and no other part of the state changes.
-/

namespace Sys2Proof.Laws
open Sys2Proof.Machine

/-- A new transit time changes the record of its port and draws a free value. -/
theorem newTransit_frame (s : State) (p : Nat) :
    s.newTransit p = { s with coil := (s.newTransit p).coil, free := (s.newTransit p).free } := rfl

/-- So do new transit times of several ports. -/
theorem newTransits_frame (s : State) (ps : List Nat) :
    s.each ps State.newTransit = { s with coil := (s.each ps State.newTransit).coil, free := (s.each ps State.newTransit).free } := by
  refine each_keeps (P := fun t => t = { s with coil := t.coil, free := t.free }) ps (fun t p h => ?_) rfl
  rw [newTransit_frame t p, h]

/-- The end of a validation in full. -/
theorem validated_frame (s : State) :
    s.validated = { s with cmt := { s.cmt with check := none, judged := none }, regs := (s.wr R.CMT.BUSY 0).regs,
                           coil := s.validated.coil, free := s.validated.free } := by
  unfold State.validated
  rw [newTransits_frame]
  rfl

@[simp] theorem validated_cmt (s : State) : s.validated.cmt = { s.cmt with check := none, judged := none } := by rw [validated_frame]
@[simp] theorem validated_frm (s : State) : s.validated.frm = s.frm := by rw [validated_frame]
@[simp] theorem validated_role (s : State) : s.validated.role = s.role := by rw [validated_frame]

/-- BUSY is the only field that changes. -/
theorem validated_word {s : State} {k : Nat} (h : k ≠ R.CMT.BUSY.key) : s.validated.word k = s.word k := by
  have hr : s.validated.regs = (s.wr R.CMT.BUSY 0).regs := by rw [validated_frame]
  rw [word_congr hr]
  exact word_wr_ne s 0 h (fun hw => absurd hw (by decide))

end Sys2Proof.Laws
end

