-- ==== Sys2Proof/Laws/Egress.lean ====
section
/-!
SUPPORT. What the egress of a port does: a packet that nothing holds back leaves at once, another waits and changes only its port's record
and flow control, and draining sends waiting packets only.
-/

namespace Sys2Proof.Laws
open Sys2Proof.Machine

/-- An output that is no packet leaves at once. -/
theorem send_plain (s : State) (a : Option Nat) {o : Output} (h : lineOf o = none) : s.send a o = s.emit o := by simp [State.send, h]

/-- A packet leaves at once when its egress is empty and nothing bars it. -/
theorem send_now (s : State) (a : Option Nat) {o : Output} {p cls : Nat} (h : lineOf o = some (p, cls)) (he : (s.coilSt p).egress = [])
    (hb : s.barred p cls (outBytes o) = false) : s.send a o = s.depart o := by
  simp [State.send, h, he, hb]

/-- A packet takes its place among those of its port: they stay, and it joins them. -/
theorem mem_placeAmong (p cls : Nat) (o x : Output) (first : Bool) (out : List Output) :
    x ∈ placeAmong p cls o first out ↔ x = o ∨ x ∈ out := by
  induction out generalizing first with
  | nil => simp [placeAmong]
  | cons y ys ih =>
    unfold placeAmong
    split
    · simp only [List.mem_cons, ih]; tauto
    · split
      · simp only [List.mem_cons, ih]; tauto
      · split
        · simp only [List.mem_cons]
        · simp only [List.mem_cons, ih]; tauto

/-- The outputs after a packet are those before it and the packet. -/
theorem mem_placeOut (o x : Output) (out : List Output) : x ∈ placeOut o out ↔ x = o ∨ x ∈ out := by
  unfold placeOut
  split
  · simp only [List.mem_append, List.mem_singleton]; tauto
  · exact mem_placeAmong _ _ _ _ _ _

/-- A first packet stands alone. -/
@[simp] theorem placeOut_nil (o : Output) : placeOut o [] = [o] := by
  unfold placeOut; split <;> rfl

/-- The outputs after a packet has left. -/
@[simp] theorem depart_out (s : State) (o : Output) : (s.depart o).out = placeOut o s.out := by
  unfold State.depart; split <;> rfl

/-- Leaving changes the outputs, and for a link beacon request the time that it left at. -/
theorem depart_frame (s : State) (o : Output) : s.depart o = { s with out := (s.depart o).out, coil := (s.depart o).coil } := by
  unfold State.depart; split <;> rfl

/-- A free egress bars no packet. -/
theorem egressFree_barred {s : State} {p t : Nat} (h : s.egressFree p t = true) (cls n : Nat) :
    (s.atTime t).barred p cls n = false := by
  simp only [State.egressFree, Bool.and_eq_true, Bool.not_eq_true'] at h
  obtain ⟨⟨-, hx⟩, hg⟩ := h
  have ht : (s.atTime t).tickGuard p n = false := by
    have hc : ((s.atTime t).tickPlanned && !(s.atTime t).frm.tickOut && ((s.atTime t).launchesAt p ((s.atTime t).epoch + 1) ||
        (s.atTime t).handbackAt p ((s.atTime t).epoch + 1)) && decide ((s.atTime t).tickLaunchAt ≤ (s.atTime t).time + 8 * us1)) = false := hg
    rw [State.tickGuard, hc]; rfl
  have hf : (s.atTime t).flag (R.COIL.XOFF_RX p) = false := hx
  simp [State.barred, ht, hf]

/-- A packet on a port whose egress is free leaves at once. -/
theorem send_of_egressFree {s : State} {p t cls : Nat} (hs : s.egressFree p t = true) (a : Option Nat) {o : Output}
    (h : lineOf o = some (p, cls)) : (s.atTime t).send a o = (s.atTime t).depart o := by
  have he : (s.coilSt p).egress = [] := by
    simp only [State.egressFree, Bool.and_eq_true, List.isEmpty_iff] at hs
    exact hs.1.1
  exact send_now _ a h he (egressFree_barred hs _ _)

/-- A packet that may not leave puts out nothing. -/
theorem send_held_out (s : State) (a : Option Nat) {o : Output} {p cls : Nat} (h : lineOf o = some (p, cls))
    (hb : (s.barred p cls (outBytes o) || (s.coilSt p).egress.any (fun x => decide (x.cls ≤ cls))) = true) :
    (s.send a o).out = s.out := by
  simp only [State.send, h, hb, if_true]
  cases a with
  | none => rfl
  | some q =>
    simp only [State.xoffCheck, State.cond, State.inc, State.incBy]
    split
    · rw [wr_out, wr_out]; rfl
    · rfl

/-- A packet handed to an egress puts out itself or nothing. -/
theorem send_out (s : State) (a : Option Nat) (o : Output) : (s.send a o).out = placeOut o s.out ∨ (s.send a o).out = s.out := by
  cases h : lineOf o with
  | none => exact .inl (by rw [send_plain s a h, placeOut, h]; rfl)
  | some k =>
    obtain ⟨p, cls⟩ := k
    cases hb : s.barred p cls (outBytes o) || (s.coilSt p).egress.any (fun x => decide (x.cls ≤ cls)) with
    | true => exact .inr (send_held_out s a h hb)
    | false => exact .inl (by simp [State.send, h, hb])

/-- Draining with an empty egress does nothing, unless a reset waited for what has left. -/
theorem drain_empty {s : State} {p : Nat} (h : (s.coilSt p).egress = []) : s.drain p = s.resetAfterRsp := by
  simp [State.drain, h, State.drainN]

end Sys2Proof.Laws
end

