-- ==== Sys2Proof/Machine/Line.lean ====
section
/-!
DEFINITION. The line of a coil port: the scrambler, the 257-bit blocks, the RS(528,514) code, the two lanes, the alignment codewords and
the PRBS31 pattern (10 R246, R247, R250, R271). A receiver's result reaches the model as the cells that it delivers, each with the mark of a
codeword that could not be corrected (`Cell.fecBad`).
-/

namespace Sys2Proof.Machine

/-- The bits of bytes, least significant first. -/
def lineBits (bs : List Byte) : List Bool := bs.flatMap (fun b => (List.range 8).map (fun i => b.toNat.testBit i))

/-- Bits, least significant first, as a number. -/
def natOfBits (bs : List Bool) : Nat := bs.foldr (fun b n => b2n b + 2 * n) 0

/-- The bits of a 10-bit symbol, least significant first. -/
def symbolBits (x : Nat) : List Bool := (List.range 10).map (fun i => x.testBit i)

/-- Bits cut into `n` groups of `k`. -/
def groupBits (k : Nat) : Nat → List Bool → List (List Bool)
  | 0, _ => []
  | n + 1, bs => bs.take k :: groupBits k n (bs.drop k)

/-! The scrambler x^58 + x^39 + 1 (R246). Its state is the last 58 bits sent, bit 0 the newest. -/

/-- Scramble bits from a state: the bits sent and the state after them. -/
def scramble : Nat → List Bool → List Bool × Nat
  | st, [] => ([], st)
  | st, d :: ds =>
    let b := d ^^ (st.testBit 38 ^^ st.testBit 57)
    let r := scramble ((2 * st + b2n b) % 2 ^ 58) ds
    (b :: r.1, r.2)

/-- Descramble bits from the last 58 bits received. -/
def descramble : Nat → List Bool → List Bool × Nat
  | st, [] => ([], st)
  | st, b :: bs =>
    let r := descramble ((2 * st + b2n b) % 2 ^ 58) bs
    ((b ^^ (st.testBit 38 ^^ st.testBit 57)) :: r.1, r.2)

/-! Blocks: 257 bits, the first 1 for cell data and 0 for an alignment block; two blocks carry one cell (R246, R247). -/

/-- The two blocks of a cell of 64 bytes, whose bits are scrambled from a state, and the state after them. -/
def cellBlocks (st : Nat) (cell : List Byte) : List (List Bool) × Nat :=
  let r := scramble st (lineBits cell)
  ((groupBits 256 2 r.1).map (true :: ·), r.2)

/-- The blocks of consecutive cells. -/
def blocksOf : Nat → List (List Byte) → List (List Bool) × Nat
  | st, [] => ([], st)
  | st, c :: cs =>
    let a := cellBlocks st c
    let r := blocksOf a.2 cs
    (a.1 ++ r.1, r.2)

/-- The 20 blocks of an alignment codeword: their first bits are 0, and they carry the lane number in a layout that the spec does not state
    (R246). -/
def alignBlocks : List (List Bool) := (List.range 20).map (fun i => false :: (List.range 256).map (Config.alignBit i))

/-! The code RS(528,514) over 10-bit symbols of IEEE 802.3 Clause 91: the field of x^10 + x^3 + 1, the generator with the roots alpha^0 to
    alpha^13, data symbols first (R246; log 184). -/

/-- A symbol times alpha. -/
def gfDouble (a : Nat) : Nat := if 512 ≤ a then (2 * a) ^^^ 0x409 else 2 * a

/-- The product of two symbols. -/
def gfMul (a b : Nat) : Nat :=
  ((List.range 10).foldl (fun (acc : Nat × Nat) i => (if b.testBit i then acc.1 ^^^ acc.2 else acc.1, gfDouble acc.2)) (0, a)).1

/-- alpha to a power. -/
def gfPow : Nat → Nat
  | 0 => 1
  | n + 1 => gfDouble (gfPow n)

/-- A polynomial, highest power first, times x + r. -/
def gfTimesRoot (p : List Nat) (r : Nat) : List Nat :=
  List.zipWith (· ^^^ ·) (p ++ [0]) (0 :: p.map (gfMul · r))

/-- The generator polynomial, highest power first. -/
def rsGenerator : List Nat := (List.range 14).foldl (fun p j => gfTimesRoot p (gfPow j)) [1]

/-- One data symbol into the 14 parity symbols of the division by the generator. -/
def rsShift (par : List Nat) (d : Nat) : List Nat :=
  let q := d ^^^ par.headD 0
  List.zipWith (fun p g => p ^^^ gfMul q g) (par.drop 1 ++ [0]) (rsGenerator.drop 1)

/-- The 14 parity symbols of 514 data symbols. -/
def rsParity (ds : List Nat) : List Nat := ds.foldl rsShift (List.replicate 14 0)

/-- The 528 symbols of the codeword of 20 blocks (R246). -/
def codeword (blocks : List (List Bool)) : List Nat :=
  let ds := (groupBits 10 514 blocks.flatten).map natOfBits
  ds ++ rsParity ds

/-- A syndrome of received symbols: their polynomial at alpha^j. -/
def rsSyndrome (xs : List Nat) (j : Nat) : Nat := xs.foldl (fun acc x => gfMul acc (gfPow j) ^^^ x) 0

/-- Received symbols are a codeword as they stand. -/
def rsClean (xs : List Nat) : Bool := (List.range 14).all (fun j => rsSyndrome xs j == 0)

/-- Received symbols can be corrected: some codeword differs from them in at most 7 symbols. -/
def Correctable (xs : List Nat) : Prop :=
  ∃ ds : List Nat, ds.length = 514 ∧ ((List.zipWith (fun a b => decide (a ≠ b)) (ds ++ rsParity ds) xs).count true ≤ 7)

/-- Even-numbered symbols go to lane 0 and odd-numbered ones to lane 1 (R246). -/
def laneSymbols : List Nat → List Nat × List Nat
  | [] => ([], [])
  | [a] => ([a], [])
  | a :: b :: xs => let r := laneSymbols xs; (a :: r.1, b :: r.2)

/-- What both lanes send for codeword `k` of a port: every 16,384th is the alignment codeword and carries no cells, every other one carries
    ten cells (R246). The answer also gives the state of the scrambler after it. -/
def lineCodeword (k st : Nat) (cells : List (List Byte)) : (List Nat × List Nat) × Nat :=
  if k % 16384 = 16383 then (laneSymbols (codeword alignBlocks), st)
  else
    let r := blocksOf st cells
    (laneSymbols (codeword r.1), r.2)

/-! PRBS31, the training pattern: x^31 + x^28 + 1 (R250, R271; log 184). -/

/-- `n` bits of PRBS31 from the last 31 bits, bit 0 the newest. -/
def prbs31 : Nat → Nat → List Bool
  | _, 0 => []
  | st, n + 1 =>
    let b := st.testBit 30 ^^ st.testBit 27
    b :: prbs31 ((2 * st + b2n b) % 2 ^ 31) n

/-- The bits of a lane that the checker counts as errored: those that differ from PRBS31 continued from the 31 bits before them (R271). -/
def prbsErrors (st : Nat) (bits : List Bool) : Nat :=
  (List.zipWith (fun a b => a != b) bits (prbs31 st bits.length)).count true

end Sys2Proof.Machine
end

