-- ==== Sys2Proof/WellFormed.lean ====
section
/-!
DEFINITION. Which commands are well formed: each operand lies in the range that its field of the spec has. A command that is not
well formed can arise from no register write, packet or pin of the hardware; the machine still gives each a next state.
-/

namespace Sys2Proof

/-- `x` fits in `w` bits. -/
def fits (w x : Nat) : Bool := decide (x < 2 ^ w)

/-- A coil port number (00, family table: at most 16 ports). -/
def portOk (p : Nat) : Bool := decide (p < 16)

/-- A port of the coil pair of a tile (01 R7). -/
def pairOk (p : Nat) : Bool := decide (p < 2)

/-- An aligned BAR0 address of a word (03 R59, R60). -/
def wordAddrOk (a : Nat) : Bool := decide (a < 0x1000000 ∧ a % 4 = 0)

/-- A page number (03 R59). -/
def pageOk (p : Nat) : Bool := decide (p < 0x1000)

/-- A node ID (03 R70). -/
def nodeOk (n : Nat) : Bool := fits 14 n

/-- A FAILOVER cause (10 R262). -/
def causeOk (c : Nat) : Bool := decide (c < 3)

/-- EVENT entries: 12-bit page or class, 32 bits of events (10 R260). -/
def entryOk (e : EvtEntry) : Bool := fits 12 e.page && fits 32 e.bits

/-- A body of EVENT: at most 8 entries (03 R76, 10 R260). -/
def entriesOk (es : List EvtEntry) : Bool := decide (es.length ≤ 8) && es.all entryOk

/-- The fields of a TICK body (10 R256). -/
def TickBody.ok (b : TickBody) : Bool := fits 64 b.epoch && fits 64 b.commitTarget

/-- A CONFIG body carries 16 SCH words (10 R257). -/
def ConfigBody.ok (b : ConfigBody) : Bool := fits 64 b.target && fits 2 b.copy && decide (b.sch.length = 16)

/-- The fields of a sender BEACON (10 R252, R255). -/
def Beacon.ok (b : Beacon) : Bool := nodeOk b.src && fits 7 b.hops && portOk b.originPort && fits 64 b.epoch

/-- The fields of a link beacon (10 R255). -/
def LinkBeacon.ok (b : LinkBeacon) : Bool := fits 16 b.seq && fits 4 b.port && fits 3 b.role && fits 64 b.uid && fits 8 b.loopSecs

/-- The fields of a MGMT_REQ: a burst of LEN + 1 words at an aligned offset (03 R81, 10 R259). -/
def MgmtReq.ok (r : MgmtReq) : Bool :=
  nodeOk r.src && fits 6 r.tag && fits 6 r.len && fits 12 r.offset && decide (r.offset % 4 = 0) && fits 12 r.page &&
    decide (r.data.length = if r.write then r.len + 1 else 0)

/-- A DISCOVER carries 14 ranges of outward ports (10 R273). -/
def Discover.ok (d : Discover) : Bool := nodeOk d.src && fits 16 d.idWord && decide (d.ranges.length = 14)

/-- The fields of a segment (09 R230). -/
def Seg.ok (g : Seg) : Bool := fits 10 g.sx && fits 4 g.sw && fits 16 g.data.length

/-- The fields of a BAND: 1 to 514 segments (09 R229, 10 R258). -/
def BandPkt.ok (b : BandPkt) : Bool :=
  nodeOk b.dest && fits 16 b.epoch16 && fits 11 b.bandNo && fits 3 b.feed && fits 2 b.format &&
    decide (1 ≤ b.segs.length ∧ b.segs.length ≤ 514) && b.segs.all Seg.ok

/-- The copies of a RELINQUISH are numbered 1 to 3 (10 R262). -/
def copyOk (c : Nat) : Bool := decide (1 ≤ c ∧ c ≤ 3)

/-- A cell has 64 bytes (10 R247). -/
def Cell.ok (c : Cell) : Bool := decide (c.bytes.length = 64)

/-- The fields of a packet header (10 R252). -/
def Header.ok (h : Header) : Bool := nodeOk h.dest && nodeOk h.src && fits 7 h.hops

/-- The fields of a packet (10 R252, R253). -/
def Packet.ok (p : Packet) : Bool := p.hdr.ok

/-- The operands of a command lie in their ranges. -/
def Instr.wf : Instr → Bool
  | .powerOnReset => true
  | .resetNAssert _ => true
  | .perstAssert => true
  | .softReset _ => true
  | .tunSoftResetDelay => true
  | .coreRailFail => true
  | .xoInLoss => true
  | .watchdogExpiry _ => true
  | .resetRelease _ _ => true
  | .bankLevelSelect bank _ => decide (bank < 5)
  | .bisqueGo => true
  | .imageVerifyDone => true
  | .firmwareLoaded _ _ => true
  | .arm _ => true
  | .bootGo => true
  | .bootBroadcastDone => true
  | .bootChunkReceive port c => pairOk port && fits 8 c.idx
  | .peerBootBroadcast port _ => portOk port
  | .updGo => true
  | .updReconstructDone => true
  | .fwHealthWrite _ => true
  | .confirmExpiry => true
  | .revert => true
  | .commit _ _ => true
  | .commitValidationDone _ => true
  | .epochLoad _ => true
  | .registerWrite addr be _ _ => fits 24 addr && fits 4 be
  | .registerReadLatch r _ => fits 24 r.addr && decide (1 ≤ r.len ∧ r.len ≤ 4)
  | .timeReadLatch _ => true
  | .counterClear addr _ => wordAddrOk addr
  | .tableWrite addr _ => wordAddrOk addr && decide (0x800 ≤ addr % 0x1000)
  | .evtPendClear page _ => pageOk page
  | .evtForce page _ => pageOk page
  | .evtEnWrite page _ => pageOk page
  | .vectorMapWrite addr _ => decide (addr < 288 ∧ addr % 4 = 0)
  | .msixMessage v _ => decide (v.vec < 64)
  | .eventReceive port src epoch entries => portOk port && nodeOk src && fits 64 epoch && entriesOk entries
  | .tqPop => true
  | .tqFlush => true
  | .tunLaunch _ _ => true
  | .tunTimeout tag => fits 6 tag
  | .tunResponse rx tag status data => portOk rx.port && fits 14 rx.src && fits 6 tag && fits 4 status && decide (data.length ≤ 64)
  | .rspPop => true
  | .rspFlush => true
  | .mgmtReqReceive port r => pairOk port && r.ok
  | .mgmtReqExecute _ => true
  | .configMarkerLaunch copy _ => decide (copy = 1 ∨ copy = 2)
  | .tickLaunch _ => true
  | .bandStop port _ => portOk port
  | .senderTick _ => true
  | .tickReceive port b _ => portOk port && b.ok
  | .configReceive port b _ => portOk port && b.ok
  | .tileTick _ => true
  | .tickMissing _ => true
  | .bandReceive port b => pairOk port && b.ok
  | .segmentDecodeDone => true
  | .hubBandReceive port b => pairOk port && b.ok
  | .statusReceive port src _ => portOk port && nodeOk src
  | .hubEventReceive port src entries => portOk port && nodeOk src && entriesOk entries
  | .beaconSlot _ => true
  | .beaconReceive port b _ => portOk port && b.ok
  | .beaconTimeout _ => true
  | .linkBeaconTimer _ => true
  | .linkBeaconRequest port b _ => portOk port && b.ok
  | .linkBeaconReply port b _ => portOk port && b.ok
  | .refEdge input _ => decide (input < 2)
  | .refLoss input _ => decide (input < 2)
  | .ppsEdge _ => true
  | .ppsLoss _ => true
  | .ptpSync inst _ _ _ => decide (inst < 2)
  | .ptpAnnounce inst _ _ => decide (inst < 2)
  | .ptpAnnounceTimeout inst _ => decide (inst < 2)
  | .ptpSyncTimeout inst _ => decide (inst < 2)
  | .sourceQualify src _ => decide (1 ≤ src ∧ src ≤ 4)
  | .holdoverExpiry _ => true
  | .timeSetGo _ => true
  | .ppsLoad => true
  | .loopInnerSample => true
  | .loopOpenWrite _ => true
  | .sagMemoryWrite inst entry _ => decide (inst < 4 ∧ entry < 64)
  | .camsyncPulse c slot _ => decide (c < 8 ∧ slot < 8)
  | .camsyncPulseEnd c _ => decide (c < 8)
  | .csHiz _ => true
  | .netFrameReceive port f _ => decide (port < 8) && decide (f.bytes.length ≤ 9216)
  | .netLinkChange port _ _ => decide (port < 8)
  | .igmpReportTimer port stream leg => decide (port < 8 ∧ stream < 16 ∧ leg < 2)
  | .txqTailWrite port _ _ => decide (port < 8)
  | .txFrameLaunch port _ => decide (port < 8)
  | .tsqPop => true
  | .tsqFlush => true
  | .tsqOvfClr => true
  | .legDown stream leg => decide (stream < 16 ∧ leg < 2)
  | .pictureReady src p _ => decide (src < 20) && decide (p.rows.length = p.height)
  | .streamResync src _ => decide (src < 20)
  | .sdiLockChange n _ rate _ => decide (n < 4) && fits 4 rate
  | .decodePictureDone stream _ _ => decide (stream < 16)
  | .decodeBudgetExpiry stream => decide (stream < 16)
  | .decCoreTimeout => true
  | .decFlush _ => true
  | .layerReady layer _ _ => decide (layer < 16)
  | .bar4Write off data => decide (off + data.length ≤ 2 ^ 40)
  | .bar4Read off len _ => decide (off + len ≤ 2 ^ 40)
  | .tgwLineSlot line _ => decide (line < 16384)
  | .lineDeadline line => decide (line < 16384)
  | .compositionFrameDone => true
  | .saggerCrcComplete region => decide (region < 256)
  | .hiddenRegionCompare _ => true
  | .sagRelearn => true
  | .tgpFrameStart _ => true
  | .previewCaptureDone => true
  | .tgpLineStart line _ => decide (line < 16384)
  | .segmentDispatch => true
  | .segmentEncodeDone engine => decide (engine < 8)
  | .bandLaunch port _ => portOk port
  | .mapStatsClr => true
  | .linkCdrLock port => portOk port
  | .linkUp port => portOk port
  | .linkLoss port _ => portOk port
  | .codewordUncorrectable cw => portOk cw.port
  | .packetReceive port cells _ => portOk port && cells.all Cell.ok
  | .xoffRelease port => portOk port
  | .ingressQueueRoom port => pairOk port
  | .repeaterForward port p => pairOk port && p.ok
  | .retrain port => portOk port
  | .loopbackSelect port _ => portOk port
  | .prbsGen port _ => portOk port
  | .prbsChk port _ _ _ => portOk port
  | .farLoopExpiry port => portOk port
  | .eyeReport port eye0 eye1 => portOk port && fits 8 eye0 && fits 8 eye1
  | .discGo port _ => portOk port
  | .discoverReceive rx hops d _ => pairOk rx.port && fits 7 hops && d.ok
  | .discoverRspReceive port body => portOk port && decide (body.length ≤ 96)
  | .discoverTimeout port => portOk port
  | .relinquishNow _ => true
  | .relinquishReceive rx h epoch b _ => portOk rx.port && h.ok && fits 64 epoch && copyOk b.copy
  | .feedreqReceive rx h epoch cause _ => portOk rx.port && h.ok && fits 64 epoch && causeOk cause
  | .feedreqRepeat _ => true
  | .senderFeedreq port node _ cause _ => portOk port && nodeOk node && causeOk cause
  | .loopCheckTimeout port => portOk port
  | .hubTickLaunch _ => true
  | .storeClr => true
  | .slotComputeStart _ => true
  | .slotComputeDone _ => true
  | .calReload => true
  | .calReloadDone bad => bad.all (fun i => decide (i < 1048576))
  | .calRecordWrite addr _ => decide (addr < 8388608 ∧ addr % 4 = 0)
  | .debtClr => true
  | .slotStart slot _ => decide (slot < 8)
  | .slotLoadStart group _ => decide (group < 4)
  | .slotLoadDone group _ => decide (group < 4)
  | .scanWindowEnd group _ => decide (group < 4)
  | .probeReadDone group low high => decide (group < 4 ∧ low.length = 2 ∧ high.length = 2)
  | .probeStatusReset => true
  | .drpReinit => true
  | .drvReset => true
  | .setBegin => true
  | .setEnd => true
  | .nvsWriteGo _ => true
  | .nvsReadGo _ => true
  | .settingsSave => true
  | .coneSaveNow => true
  | .mramWriteDone _ _ => true
  | .coneSaveTimer _ => true
  | .scrubTimer _ _ _ => true
  | .scrubLateAlarm => true
  | .saveLateAlarm => true
  | .backgroundUnitStart _ => true
  | .phcGo _ => true
  | .phcAbort => true
  | .phaseEdge _ _ => true
  | .sensorRead n _ raw _ => decide (n < 8) && fits 16 raw
  | .dieModelStep powers _ _ => decide (powers.length ≤ 8)
  | .dieThrottleEval => true
  | .coneClr => true
  | .refreshTimer ch rank _ => decide (ch < 4 ∧ rank < 2)
  | .patrolScrubLine ch err => decide (ch < 4 ∧ err < 3)
  | .scrubNow ch => decide (ch < 4)
  | .dramAlert ch _ => decide (ch < 4)
  | .freqGo _ => true
  | .freqDone => true
  | .audioResync => true
  | .audioMute _ => true
  | .audioClockLoss src => decide (src < 20)
  | .audioClockReturn src => decide (src < 20)
  | .asrcSample _ => true
  | .audioSlip src _ => decide (src < 19)
  | .aonRailGood => true
  | .bar2Write off data => decide (off + data.length ≤ 8388608)
  | .relinquishCopy _ => true
  | .watchdogResetDelay => true
  | .mramReadDone bad => bad.all (fun j => decide (j < 512))
  | .alertNReturn ch _ => decide (ch < 4)
  | .ueWindowStep => true
  | .dramScrubLateAlarm ch => decide (ch < 4)
  | .lineComposed line feed => decide (line < 16384 ∧ feed < 8)
  | .peerBootChunk port => portOk port
  | .audioOutputFrame => true
  | .audioInputFrame src samples status => decide (src < 3) && samples.all (fits (if src = 2 then 32 else 26)) && decide (status.length ≤ 24)
  | .sdiFrameReceive n _ _ scan _ _ _ => decide (n < 4) && decide (scan.scan < 3)

end Sys2Proof
end

