-- ==== Sys2Proof/Tests/Slice0.lean ====
section
/-!
SUPPORT. Tests: the hypotheses of every statement are met, the well-formedness check refuses, and the spec's worked examples.
-/

open Sys2Proof Sys2Proof.Machine
namespace Sys2Proof.Tests

set_option Elab.async false

/-- Set fields. -/
def wdr (s : State) (xs : List (Fld × Nat)) : State := xs.foldl (fun s x => s.wr x.1 x.2) s
/-- A sender in LOADED with some fields set. -/
def snd (xs : List (Fld × Nat)) : State := wdr { State.reset with role := .sender } ((R.GLB.STATE, stLOADED) :: xs)
/-- A tile in LOADED. -/
def til (xs : List (Fld × Nat)) : State := wdr { State.reset with role := .tile } ((R.GLB.STATE, stLOADED) :: xs)
/-- A device in BISQUE. -/
def bisq (r : Role) : State := wdr { State.reset with role := r } [(R.GLB.STATE, stBISQUE)]
/-- The link of a port is up. -/
def up (p : Nat) : Fld × Nat := (R.COIL.LINK p, lkUP)
/-- A sender that has ticked. -/
def tsnd (xs : List (Fld × Nat)) : State := { snd xs with frm := { ticked := true, nextTick := 100 * ms1 } }
/-- A tile that has ticked, with port 1 elected. -/
def ctile (xs : List (Fld × Nat)) : State := { til xs with frm := { ticked := true }, red := { upstream := some 1 } }
/-- A sender with DRAM channels ready. -/
def dsnd (n : Nat) : State := { snd ((List.range 4).map (fun c => (R.DRM.READY c, 1)) ++ [(R.DRM.CAPACITY 0, 2 ^ 30)]) with drm := { chans := n } }
/-- A sender with one mapped tile, its frame composed. -/
def msnd : State :=
  { tsnd [] with
    tabs := smSet tabDefault (smSet tabDefault (smSet tabDefault [] (tabKey 0x060 0 0) 1) (tabKey 0x060 0 1) 5) (tabKey 0x060 0 3) 0x000F001F,
    cmp := { next := [(0, 5000)] } }
/-- A dark segment 32 pixels wide, glazed. -/
def dark32 : List Byte := (encodeSegment 12 63 32 (List.replicate 16 (List.replicate 32 ⟨0, 0, 0⟩))).1
/-- A hub with node ID 5, port 1 elected and one sub-coil. -/
def hub (xs : List (Fld × Nat)) : State :=
  { til ([((R.COIL.EN 2).live, 1), (R.GLB.NODE_VALID.live, 1), (R.GLB.NODE_ID.live, 5)] ++ xs) with red := { upstream := some 1 } }
/-- A hub with a child, node 6, on the sub-coil of port 2. -/
def hubk (xs : List (Fld × Nat)) : State :=
  { hub xs with tabs := smSet tabDefault (smSet tabDefault [] (tabKey 0x0A0 3 1) 0x00040004) (tabKey 0x0A0 3 2) 0x80020006 }
/-- A tile with node ID 5, port 1 elected, enabled. -/
def etile (t : Bool) : State :=
  { til [(R.TIL.EN.live, 1), (R.GLB.NODE_VALID.live, 1), (R.GLB.NODE_ID.live, 5)] with red := { upstream := some 1 }, frm := { ticked := t } }
/-- The same tile with port 1 UP, before its first tick. -/
def etile0 : State := wdr (etile false) [up 1]
/-- The same after its first tick. -/
def etile1 : State := wdr (etile true) [up 1]
/-- A sender whose stream 15 decodes. -/
def dec15 (aus : List Au) : State :=
  { snd [((R.STR.EN 15).live, 1), ((R.STR.KIND 15).live, 3)] with dec := { st := [(15, { aus := aus })] } }
/-- A queue entry. -/
def tqe : TqEntry := ⟨2, 0, 4, false, 1, 5, false⟩
/-- A request in flight. -/
def treq : TunReq := ⟨63, 9, 0, false, 0, 0, 0⟩
/-- A request. -/
def mreq : MgmtReq := ⟨1, 2, false, 0, 0, 2, []⟩
/-- The header of a BAND. -/
def bandHdr : Header := ⟨ptBAND, false, false, false, 63, false, 9, 0⟩
/-- A BAND. -/
def bpk : BandPkt := ⟨9, 0, 0, 0, 0, [], true⟩
/-- A commit for epoch 3. -/
def cmt3 : Commit := { target := 3, origins := [3], snap := [] }
/-- A commit for epoch 3 that changes nothing. -/
def cmtSnd : Commit := { cmt3 with snap := (snd []).snapshot }
/-- A commit for epoch 3 whose rate is out of range. -/
def cmtBad : Commit := { cmt3 with snap := smSet resetWord (snd []).snapshot 0x4040 0xFFFFFFFF }
/-- A commit is in validation since time 0. -/
def judge (s : State) (c : Commit) : State := { s with cmt := { check := some (c, 0), judged := if s.frm.ticked then some (s.judge c.target 0) else none } }
/-- A TICK of epoch 5. -/
def tick5 : TickBody := ⟨5, 1000000, false, false, false, 0, none⟩
/-- A beacon. -/
def bcn : Beacon := ⟨9, 63, false, false, 0, 0, 0, 0, true, false⟩
/-- A picture. -/
def pic : Picture := ⟨0, 0, [], 0, false, [], false, 0⟩
/-- A decoded picture. -/
def dpic : DecPic :=
  ⟨⟨1, false, 0, 0, 1, 8, 0, 0, false, 0, false, 0, 0, 0⟩, true, false, false, 0, true, [], false, [], 16, 0, false, [], [], [], none, 0⟩
/-- A slot. -/
def job0 : SlotJob := { epoch := 0, slot := 0, ord := 0, lit := true, due := 0 }
/-- A light-phase run. -/
def prun : PhcRun := { e0 := 0, oldTrim := 0, oldResidual := 0, refT := none, lightT := none, pairs := [], missed := 0 }
/-- A cell that holds a whole packet. -/
def cell1 (bs : List Byte) : Cell := ⟨cellBytes true true false bs, false, false⟩
/-- The state after a command. -/
def after (c : Instr) (s : State) : State :=
  match exec c s with
  | .next t => t
  | _ => s
/-- The state after a step. -/
def afterStep (s : State) : State :=
  match step s with
  | .next t => t
  | _ => s

/-- The hypotheses of FrontCommandRuns are met. -/
theorem test_hyps_FrontCommandRuns :
    (∃ (s : State) (c : Instr) (q : List Instr), s.pending = c :: q) :=
  ⟨{ snd [] with pending := [.tqPop, .tqFlush] }, .tqPop, [.tqFlush], by decide +kernel⟩

/-- The hypotheses of EmptyQueueIdles are met. -/
theorem test_hyps_EmptyQueueIdles :
    (∃ (s : State), s.pending = []) :=
  ⟨snd [], by decide +kernel⟩

/-- The hypotheses of PartialWritesAndTableWrites are met. -/
theorem test_hyps_PartialWritesAndTableWrites :
    (∃ (addr : Nat) (be : Nat) (s : State), (addr % 4 ≠ 0 ∨ be % 16 ≠ 15) ∧ s.pageOn 0x000 = true) ∧
    (∃ (addr : Nat) (be : Nat) (s : State), (addr % 4 ≠ 0 ∨ be % 16 ≠ 15) ∧ s.pageOn 0x000 = true) ∧
    (∃ (page : Nat) (off : Nat) (tab : Nat) (i : Nat) (s : State), s.pageOn page = true ∧ off % 4 = 0 ∧ 0x800 ≤ off ∧ off < 0x1000 ∧
      s.tblWindow page off = some (tab, i, .pend)) ∧
    (∃ (addr : Nat) (s : State), s.pageOn 0x001 = true ∧ addr < 288) :=
  ⟨⟨0x2601, 15, snd [], by decide +kernel⟩,
   ⟨0x2600, 7, til [], by decide +kernel⟩,
   ⟨0x060, 0x804, 0, 1, snd [], by decide +kernel⟩,
   ⟨287, snd [], by decide +kernel⟩⟩

/-- The hypotheses of ShadowRegistersAndLiveCopies are met. -/
theorem test_hyps_ShadowRegistersAndLiveCopies :
    (∃ (b : Blk) (n : Nat) (page : Nat) (off : Nat) (r : Row) (s : State), blkOf page = some (b, n) ∧ s.pageOn page = true ∧ isSdi4 b n =
      false ∧ off % 4 = 0 ∧ off < 0x1000 ∧ rowAt off b.rows = some r ∧ r.cls = .sh) ∧
    (∃ (b : Blk) (n : Nat) (page : Nat) (off : Nat) (s : State), blkOf page = some (b, n) ∧ s.pageOn page = true ∧ off % 4 = 0 ∧ 0x440 ≤
      off ∧ off < b.shadowEnd + 0x400) ∧
    (∃ (k : Nat), isShadow k = true) :=
  ⟨⟨.sch, 0, 0x003, 0x040, (rowAt 0x040 Blk.sch.rows).getD ⟨0, 0, 0, 0, 0, .ro⟩, snd [], by decide +kernel⟩,
   ⟨.sch, 0, 0x003, 0x440, til [], by decide +kernel⟩,
   ⟨0x3040, by decide +kernel⟩⟩

/-- The hypotheses of ReadsReturnAndLatch are met. -/
theorem test_hyps_ReadsReturnAndLatch :
    (∃ (addr : Nat) (len : Nat) (s : State), 1 ≤ len ∧ addr % 4 + len ≤ 4 ∧ ((∀ p ∈ s.latch, p.1 ≠ addr / 4 * 4))) ∧
    (∃ (addr : Nat) (len : Nat) (s : State), 1 ≤ len ∧ addr % 4 + len ≤ 4 ∧ ((∀ p ∈ s.latch, p.1 ≠ addr / 4 * 4))) ∧
    (∃ (addr : Nat) (len : Nat) (x : Word32) (s : State), 1 ≤ len ∧ addr % 4 + len ≤ 4 ∧ s.latch.find? (fun p => p.1 == addr / 4 * 4) =
      some (addr / 4 * 4, x)) :=
  ⟨⟨0x2603, 1, { snd [] with latch := [(0x4604, 9)] }, by decide +kernel⟩,
   ⟨0x2600, 4, til [], by decide +kernel⟩,
   ⟨0x2606, 2, 9, { snd [] with latch := [(0x2604, 9)] }, by decide +kernel⟩⟩

/-- The hypotheses of TimeReadsAreOneTime are met. -/
theorem test_hyps_TimeReadsAreOneTime :
    (∃ (s : State), s.latch = [] ∧ s.pageOn 0x004 = true) :=
  ⟨snd [], by decide +kernel⟩

/-- The hypotheses of ManagementReadsAnswer are met. -/
theorem test_hyps_ManagementReadsAnswer :
    (∃ (port : Nat) (r : MgmtReq) (q : List (Nat × MgmtReq)) (t : Nat) (s : State), s.isTile = true ∧ s.mgmt.queue = (port, r) :: q ∧
      s.canSend port = true ∧ s.egressFree port t = true ∧ s.pageOn r.page = false) ∧
    (∃ (port : Nat) (r : MgmtReq) (q : List (Nat × MgmtReq)) (t : Nat) (s : State), s.isTile = true ∧ s.mgmt.queue = (port, r) :: q ∧
      s.canSend port = true ∧ s.egressFree port t = true ∧ s.pageOn r.page = true ∧ 0x1000 < r.offset / 4 * 4 + 4 * (r.len + 1)) ∧
    (∃ (port : Nat) (r : MgmtReq) (q : List (Nat × MgmtReq)) (t : Nat) (s : State), s.isTile = true ∧ s.mgmt.queue = (port, r) :: q ∧
      s.canSend port = true ∧ s.egressFree port t = true ∧ s.pageOn r.page = true ∧ r.offset < 0x1000 ∧ r.write = false ∧ r.len = 0 ∧
      s.latch = []) ∧
    (∃ (port : Nat) (n : Nat) (off : Nat) (b : Blk) (x : Row) (r : MgmtReq) (v : Word32) (q : List (Nat × MgmtReq)) (t : Nat) (s : State),
      s.isTile = true ∧ s.mgmt.queue = (port, r) :: q ∧ s.canSend port = true ∧ s.egressFree port t = true ∧ s.pageOn r.page = true ∧
      blkOf r.page = some (b, n) ∧ r.offset = off ∧ off % 4 = 0 ∧ off < 0x1000 ∧ rowAt off b.rows = some x ∧ x.cls = .sh ∧ r.write = true
      ∧ r.len = 0 ∧ r.data = [v]) :=
  ⟨⟨1, ⟨1, 2, false, 0, 0, 0x002F, []⟩, [], 1, { til [up 1] with mgmt := { queue := [(1, ⟨1, 2, false, 0, 0, 0x002F, []⟩)] } },
     by decide +kernel⟩,
   ⟨0, ⟨1, 2, false, 1, 0xFFC, 0x002, []⟩, [], 1, { til [up 0] with mgmt := { queue := [(0, ⟨1, 2, false, 1, 0xFFC, 0x002, []⟩)] } },
     by decide +kernel⟩,
   ⟨0, ⟨1, 63, false, 0, 0xFFC, 0x002, []⟩, [(1, ⟨1, 2, true, 0, 0, 2, [7]⟩)], 1,
     { til [up 0] with mgmt := { queue := [(0, ⟨1, 63, false, 0, 0xFFC, 0x002, []⟩), (1, ⟨1, 2, true, 0, 0, 2, [7]⟩)] } },
     by decide +kernel⟩,
   ⟨1, 0, 0x040, .til, (rowAt 0x040 Blk.til.rows).getD ⟨0, 0, 0, 0, 0, .ro⟩, ⟨1, 63, true, 0, 0x040, 0x0A0, [1]⟩, 1, [], 1,
     { til [up 1] with mgmt := { queue := [(1, ⟨1, 63, true, 0, 0x040, 0x0A0, [1]⟩)] } }, by decide +kernel⟩⟩

/-- The hypotheses of EventsArePostedAndDelivered are met. -/
theorem test_hyps_EventsArePostedAndDelivered :
    (∃ (page : Nat) (s : State), s.pageOn page = true) ∧
    (∃ (page : Nat) (s : State), s.pageOn page = true) ∧
    (∃ (page : Nat) (s : State), s.pageOn page = true) ∧
    (∃ (e : Evt) (s : State), s.role = .sender ∧ e.bit < 32 ∧ s.wbit (evtPendKey e.page) e.bit = false ∧ s.wbit (evtEnKey e.page) e.bit =
      true) ∧
    (∃ (vec : Nat) (s : State), s.isSender = true ∧ vec ∈ s.evt.due ∧ ((∀ p ∈ s.evt.last, p.1 ≠ vec))) ∧
    (∃ (vec : Nat) (s : State), s.isSender = true ∧ vec ∈ s.evt.due) ∧
    (∃ (vec : Nat) (t : Nat) (last : Nat) (s : State), s.isSender = true ∧ s.evt.last.find? (fun p => p.1 == vec) = some (vec, last) ∧ max
      s.time t < last + min (s.rd R.EVT.HOLDOFF) 1000 * us1) :=
  ⟨⟨0x001, snd [], by decide +kernel⟩,
   ⟨0x100, til [], by decide +kernel⟩,
   ⟨0x000, snd [], by decide +kernel⟩,
   ⟨R.CMT.ev_REJECT, (snd []).setWbit (evtEnKey 0x002) R.CMT.ev_REJECT.bit true, by decide +kernel⟩,
   ⟨0, { snd [] with evt := { due := [3, 0], last := [(3, 1)] } }, by decide +kernel⟩,
   ⟨63, { snd [] with evt := { due := [63] } }, by decide +kernel⟩,
   ⟨3, 655359, 0, { snd [(R.EVT.HOLDOFF, 10)] with evt := { due := [3], last := [(3, 0)] } }, by decide +kernel⟩⟩

/-- The hypotheses of CountersClearAndSaturate are met. -/
theorem test_hyps_CountersClearAndSaturate :
    (∃ (b : Blk) (n : Nat) (page : Nat) (off : Nat) (r : Row) (s : State), blkOf page = some (b, n) ∧ s.pageOn page = true ∧ off < 0x1000
      ∧ rowAt off b.rows = some r ∧ r.cls = .cnt) ∧
    (∃ (v : Word32), v ≠ 0) ∧
    (∃ (f : Fld), f.w = 32 ∧ f.lo = 0) :=
  ⟨⟨.cmt, 0, 0x002, R.CMT.CNT_REJECT.off, (rowAt R.CMT.CNT_REJECT.off Blk.cmt.rows).getD ⟨0, 0, 0, 0, 0, .ro⟩, snd [(R.CMT.CNT_REJECT,
     5)], by decide +kernel⟩,
   ⟨1, by decide +kernel⟩,
   ⟨R.CMT.CNT_REJECT, by decide +kernel⟩⟩

/-- The hypotheses of TileEventQueue are met. -/
theorem test_hyps_TileEventQueue :
    (∃ (s : State), s.pageOn 0x001 = true) ∧
    (∃ (s : State), s.pageOn 0x001 = true) ∧
    (∃ (s : State), s.evt.tq.length < 256) ∧
    (∃ (s : State), 256 ≤ s.evt.tq.length) :=
  ⟨⟨snd [], by decide +kernel⟩,
   ⟨{ snd [] with evt := { tq := List.replicate 256 tqe } }, by decide +kernel⟩,
   ⟨{ snd [] with evt := { tq := List.replicate 255 tqe } }, by decide +kernel⟩,
   ⟨{ snd [] with evt := { tq := List.replicate 256 tqe } }, by decide +kernel⟩⟩

/-- The hypotheses of TunnelRequests are met. -/
theorem test_hyps_TunnelRequests :
    (∃ (v : Word32) (port : Nat) (s : State), s.pageOn 0x009 = true ∧ s.tagOwned (fieldOf v 0 6) = false ∧ s.rd R.TUN.REQ_NODE ≠ s.lv
      R.GLB.NODE_ID ∧ s.routePort (s.rd R.TUN.REQ_NODE) = some port ∧ (s.tun.out.filter (fun r => r.port == port)).length < 16 ∧ s.rd
      R.TUN.REQ_OFFSET + 4 * (fieldOf v 8 6 + 1) ≤ 0x1000) ∧
    (∃ (v : Word32) (s : State), s.pageOn 0x009 = true ∧ s.tagOwned (fieldOf v 0 6) = true) ∧
    (∃ (v : Word32) (s : State), s.pageOn 0x009 = true ∧ s.tagOwned (fieldOf v 0 6) = false ∧ s.rd R.TUN.REQ_NODE = s.lv R.GLB.NODE_ID) ∧
    (∃ (tag : Nat) (r : TunReq) (s : State), s.isSender = true ∧ s.tun.out.find? (fun r => r.tag == tag) = some r) ∧
    (∃ (rx : RspFrom) (tag : Nat) (s : State), s.isSender = true ∧ s.hasPort rx.port = true ∧ s.isUp rx.port = true ∧ ((∀ r ∈ s.tun.out, ¬
      (r.tag = tag ∧ r.port = rx.port ∧ r.node = rx.src)))) ∧
    (∃ (rx : RspFrom) (tag : Nat) (r : TunReq) (s : State), s.isSender = true ∧ s.hasPort rx.port = true ∧ s.isUp rx.port = true ∧
      s.tun.out.find? (fun r => r.tag == tag && r.port == rx.port && r.node == rx.src) = some r) ∧
    (∃ (s : State), s.pageOn 0x009 = true) ∧
    (∃ (s : State), s.pageOn 0x009 = true) :=
  ⟨⟨0x00003F3F, 15, snd [up 15, (R.TUN.REQ_NODE, 9), ((R.COIL.ROUTE_LO 15).live, 9), ((R.COIL.ROUTE_HI 15).live, 9), (R.TUN.REQ_OFFSET,
     0xF00)], by decide +kernel⟩,
   ⟨0x3F, { snd [] with tun := { out := [treq] } }, by decide +kernel⟩,
   ⟨0x01, snd [(R.GLB.NODE_ID.live, 7), (R.TUN.REQ_NODE, 7)], by decide +kernel⟩,
   ⟨63, treq, { snd [] with tun := { out := [treq] } }, by decide +kernel⟩,
   ⟨⟨15, 9⟩, 63, { snd [up 15] with tun := { out := [treq] } }, by decide +kernel⟩,
   ⟨⟨0, 9⟩, 63, treq, { snd [up 0] with tun := { out := [treq] } }, by decide +kernel⟩,
   ⟨snd [], by decide +kernel⟩,
   ⟨snd [], by decide +kernel⟩⟩

/-- The hypotheses of CoreResets are met. -/
theorem test_hyps_CoreResets :
    (∃ (ns : Nat), 1000 ≤ ns) ∧
    (∃ (s : State), s.aon.on = true ∧ (if s.stateCode = stRESET then s.aon.role else s.role) = .sender) ∧
    (∃ (s : State), s.aon.on = true ∧ (if s.stateCode = stRESET then s.aon.role else s.role) = .sender) ∧
    (∃ (v : Word32) (s : State), s.pageOn 0x000 = true ∧ fieldOf v 0 16 = 0xA5C3) ∧
    (∃ (s : State), s.boot.softDue = true) ∧
    (∃ (s : State), s.running = true ∧ s.red.relWatchdog = true) ∧
    (∃ (s : State), s.running = true ∧ s.role = .tile ∧ s.flag R.FW.GREEN = false) ∧
    (∃ (s : State), s.running = true ∧ s.role = .sender ∧ s.flag R.FW.GREEN = false ∧ (s.flag R.RED.RELINQUISHED = true ∨ (s.lv
      R.RED.GROUND_EN).testBit 3 = false)) ∧
    (∃ (s : State), s.running = true ∧ s.role = .sender ∧ s.flag R.FW.GREEN = false ∧ (s.flag R.RED.RELINQUISHED = true ∨ (s.lv
      R.RED.GROUND_EN).testBit 3 = false)) ∧
    (∃ (bank : Nat) (mV : Nat), bank < 5 ∧ (¬ (1656 ≤ mV ∧ mV ≤ 1944)) ∧ (¬ (3036 ≤ mV ∧ mV ≤ 3564))) ∧
    (∃ (bank : Nat) (mV : Nat), bank < 5 ∧ (¬ (1656 ≤ mV ∧ mV ≤ 1944)) ∧ (¬ (3036 ≤ mV ∧ mV ≤ 3564))) ∧
    (∃ (bank : Nat) (mV : Nat), bank < 5 ∧ (¬ (1656 ≤ mV ∧ mV ≤ 1944)) ∧ (¬ (3036 ≤ mV ∧ mV ≤ 3564))) ∧
    (∃ (bank : Nat) (mV : Nat), bank < 5 ∧ (¬ (1656 ≤ mV ∧ mV ≤ 1944)) ∧ (¬ (3036 ≤ mV ∧ mV ≤ 3564))) ∧
    (∃ (ns : Nat), 1000 ≤ ns) ∧
    (∃ (ns : Nat), 1000 ≤ ns) :=
  ⟨⟨1000, by decide +kernel⟩,
   ⟨{ snd [] with aon := { on := true } }, by decide +kernel⟩,
   ⟨{ State.reset with aon := { on := true, role := .sender } }, by decide +kernel⟩,
   ⟨0xA5C3, til [], by decide +kernel⟩,
   ⟨{ til [] with boot := { softDue := true } }, by decide +kernel⟩,
   ⟨{ til [] with red := { relWatchdog := true } }, by decide +kernel⟩,
   ⟨til [], by decide +kernel⟩,
   ⟨snd [(R.RED.RELINQUISHED, 1)], by decide +kernel⟩,
   ⟨snd [(R.RED.GROUND_EN.live, 0)], by decide +kernel⟩,
   ⟨4, 1655, by decide +kernel⟩,
   ⟨0, 1945, by decide +kernel⟩,
   ⟨0, 3035, by decide +kernel⟩,
   ⟨0, 3565, by decide +kernel⟩,
   ⟨1000, by decide +kernel⟩,
   ⟨1000, by decide +kernel⟩⟩

/-- The hypotheses of PowerOnAndRelease are met. -/
theorem test_hyps_PowerOnAndRelease :
    (∃ (bank : Nat) (mV : Nat), bank < 5 ∧ ((1656 ≤ mV ∧ mV ≤ 1944) ∨ (3036 ≤ mV ∧ mV ≤ 3564))) ∧
    (∃ (bank : Nat) (mV : Nat), bank < 5 ∧ ((1656 ≤ mV ∧ mV ≤ 1944) ∨ (3036 ≤ mV ∧ mV ≤ 3564))) ∧
    (∃ (bank : Nat) (mV : Nat), bank < 5 ∧ ((1656 ≤ mV ∧ mV ≤ 1944) ∨ (3036 ≤ mV ∧ mV ≤ 3564))) ∧
    (∃ (bank : Nat) (mV : Nat), bank < 5 ∧ ((1656 ≤ mV ∧ mV ≤ 1944) ∨ (3036 ≤ mV ∧ mV ≤ 3564))) ∧
    (∃ (s : State), s.stateCode = stRESET ∧ s.boot.testEn = false ∧ ((∀ p ∈ s.boot.banks, p.2 < 3))) :=
  ⟨⟨4, 1656, by decide +kernel⟩,
   ⟨0, 1944, by decide +kernel⟩,
   ⟨0, 3036, by decide +kernel⟩,
   ⟨0, 3564, by decide +kernel⟩,
   ⟨State.reset, by decide +kernel⟩⟩

/-- The hypotheses of ImagesBootTheDevice are met. -/
theorem test_hyps_ImagesBootTheDevice :
    (∃ (off : Nat) (data : List Byte) (s : State), s.role = .sender ∧ s.stateCode = stBISQUE ∧ off + data.length ≤ 8388608) ∧
    (∃ (s : State), s.role = .sender ∧ s.loaderWaits = true) ∧
    (∃ (img : Image) (s : State), s.stateCode = stBISQUE ∧ s.boot.verifying = some img) ∧
    (∃ (s : State), s.stateCode = stBISQUE ∧ s.boot.running.bytes ≠ []) ∧
    (∃ (s : State), s.pageOn 0x100 = true ∧ s.running = true ∧ s.rd R.FW.UPD_STATE = upIDLE) ∧
    (∃ (s : State), s.running = true ∧ s.rd R.FW.UPD_STATE = upAPPLYING) ∧
    (∃ (s : State), s.running = true ∧ s.flag R.FW.GREEN = false) ∧
    (∃ (s : State), s.running = true ∧ s.flag R.FW.GREEN = true) ∧
    (∃ (s : State), s.pageOn 0x100 = true ∧ s.flag R.FW.GREEN = true) :=
  ⟨⟨8388606, [1, 2], bisq .sender, by decide +kernel⟩,
   ⟨bisq .sender, by decide +kernel⟩,
   ⟨{ idx := 0, bytes := [1] }, { bisq .sender with boot := { verifying := some { idx := 0, bytes := [1] } } }, by decide +kernel⟩,
   ⟨{ bisq .tile with boot := { running := { idx := 1, bytes := [1] } } }, by decide +kernel⟩,
   ⟨snd [], by decide +kernel⟩,
   ⟨snd [(R.FW.UPD_STATE, upAPPLYING)], by decide +kernel⟩,
   ⟨snd [], by decide +kernel⟩,
   ⟨til [(R.FW.GREEN, 1)], by decide +kernel⟩,
   ⟨til [(R.FW.GREEN, 1)], by decide +kernel⟩⟩

/-- The hypotheses of ArmingASender are met. -/
theorem test_hyps_ArmingASender :
    (∃ (s : State), s.role = .sender ∧ s.stateCode = stLOADED ∧ s.armBar = false) ∧
    (∃ (s : State), s.role = .sender ∧ s.stateCode = stLOADED ∧ s.armBar = true) ∧
    (∃ (s : State), s.role = .sender ∧ s.stateCode = stQUENCHED ∧ s.boot.armed = false ∧ s.frm.ticked = false ∧ s.armBar = false) :=
  ⟨⟨{ snd [] with boot := { anyCommit := true } }, by decide +kernel⟩,
   ⟨snd [], by decide +kernel⟩,
   ⟨wdr { State.reset with role := .sender, boot := { anyCommit := true } } [(R.GLB.STATE, stQUENCHED)], by decide +kernel⟩⟩

/-- The hypotheses of BootBroadcasts are met. -/
theorem test_hyps_BootBroadcasts :
    (∃ (s : State), s.role = .sender ∧ (s.stateCode = stLOADED ∨ s.stateCode = stARMED) ∧ s.flag R.FW.BOOT_BUSY = false) ∧
    (∃ (s : State), s.role = .sender ∧ (s.stateCode = stLOADED ∨ s.stateCode = stARMED) ∧ s.flag R.FW.BOOT_BUSY = false) ∧
    (∃ (s : State), s.isSender = true ∧ s.flag R.FW.BOOT_BUSY = true ∧ ((∀ p ∈ s.ports, s.waits p ptBOOT = false))) ∧
    (∃ (port : Nat) (c : BootChunk) (s : State), s.role = .tile ∧ port < 2 ∧ s.isUp port = true ∧ (s.stateCode = stBISQUE ∨ s.running =
      true) ∧ s.frm.ticked = false ∧ (smGet asmDefault s.boot.asm c.idx).bytes = [] ∧ c.first = true ∧ c.last = false ∧ c.off = 0) ∧
    (∃ (port : Nat) (c : BootChunk) (s : State), s.role = .tile ∧ port < 2 ∧ s.isUp port = true ∧ (s.stateCode = stBISQUE ∨ s.running =
      true) ∧ s.frm.ticked = false ∧ (smGet asmDefault s.boot.asm c.idx).bytes = [] ∧ c.first = true ∧ c.last = false ∧ c.off = 0) ∧
    (∃ (port : Nat) (c : BootChunk) (a : BootAsm) (s : State), s.role = .tile ∧ port < 2 ∧ s.isUp port = true ∧ (s.stateCode = stBISQUE ∨
      s.running = true) ∧ s.frm.ticked = false ∧ smGet asmDefault s.boot.asm c.idx = a ∧ a.bytes ≠ [] ∧ c.first = false ∧ (c.off =
      a.bytes.length ∧ c.imgLen = a.len)) ∧
    (∃ (port : Nat) (c : BootChunk) (a : BootAsm) (s : State), s.role = .tile ∧ port < 2 ∧ s.isUp port = true ∧ (s.stateCode = stBISQUE ∨
      s.running = true) ∧ s.frm.ticked = false ∧ smGet asmDefault s.boot.asm c.idx = a ∧ a.bytes ≠ [] ∧ c.first = false ∧ (c.last = true ∧
      a.bytes.length + c.data.length = a.len)) ∧
    (∃ (port : Nat) (c : BootChunk) (a : BootAsm) (s : State), s.role = .tile ∧ port < 2 ∧ s.isUp port = true ∧ (s.stateCode = stBISQUE ∨
      s.running = true) ∧ s.frm.ticked = false ∧ smGet asmDefault s.boot.asm c.idx = a ∧ a.bytes ≠ [] ∧ c.first = false ∧ (¬(c.off =
      a.bytes.length ∧ c.imgLen = a.len) ∧ (c.off, c.imgLen) ∈ a.stale)) ∧
    (∃ (port : Nat) (c : BootChunk) (a : BootAsm) (s : State), s.role = .tile ∧ port < 2 ∧ s.isUp port = true ∧ (s.stateCode = stBISQUE ∨
      s.running = true) ∧ s.frm.ticked = false ∧ smGet asmDefault s.boot.asm c.idx = a ∧ a.bytes ≠ [] ∧ c.first = false ∧ (¬(c.off =
      a.bytes.length ∧ c.imgLen = a.len) ∧ (c.off, c.imgLen) ∉ a.stale)) ∧
    (∃ (port : Nat) (s : State), s.peerPort port = true ∧ s.canSend port = true) ∧
    (∃ (port : Nat) (k : Nat) (c : BootChunk) (s : State), s.isTile = true ∧ s.canSend port = true ∧ s.waits port ptBAND = false ∧
      s.boot.peer.find? (fun q => q.1 == port) = some (port, k) ∧ ((bootChunks { s.boot.running with idx := memberCode s.member })[k]? =
      some c)) :=
  ⟨⟨snd [], by decide +kernel⟩,
   ⟨{ snd [(R.GLB.STATE, stARMED), up 0] with red := { } }, by decide +kernel⟩,
   ⟨snd [(R.FW.BOOT_BUSY, 1)], by decide +kernel⟩,
   ⟨1, ⟨0, [2], true, false, 1, 4⟩, til [up 1], by decide +kernel⟩,
   ⟨0, ⟨0, [2], true, false, 1, 4⟩, { bisq .tile with aon := { on := true, role := .tile, linkUp0 := true, linkUp1 := true } },
     by decide +kernel⟩,
   ⟨1, ⟨1, [2], false, false, 1, 4⟩, ⟨[1], 4, []⟩, { til [up 1] with boot := { asm := [(1, ⟨[1], 4, []⟩)] } }, by decide +kernel⟩,
   ⟨0, ⟨1, [2], false, true, 1, 2⟩, ⟨[1], 2, []⟩,
     { bisq .tile with aon := { on := true, role := .tile, linkUp0 := true, linkUp1 := true }, boot := { asm := [(1, ⟨[1], 2, []⟩)] } },
     by decide +kernel⟩,
   ⟨0, ⟨3, [2], false, true, 1, 9⟩, ⟨[1], 2, [(3, 9)]⟩,
     { bisq .tile with aon := { on := true, role := .tile, linkUp0 := true, linkUp1 := true }, boot := { asm := [(1, ⟨[1], 2, [(3, 9)]⟩)] } },
     by decide +kernel⟩,
   ⟨0, ⟨3, [2], false, true, 1, 9⟩, ⟨[1], 2, []⟩,
     { bisq .tile with aon := { on := true, role := .tile, linkUp0 := true, linkUp1 := true }, boot := { asm := [(1, ⟨[1], 2, []⟩)] } },
     by decide +kernel⟩,
   ⟨1, { til [up 1, (R.FW.PEER_BOOT, 1), (R.COIL.PARTNER_VALID 1, 1), (R.COIL.PARTNER_ROLE 1, 5)] with frm := { ticked := true } },
     by decide +kernel⟩,
   ⟨1, 0, ⟨0, [7], true, true, 1, 1⟩, { til [up 1] with boot := { running := { idx := 1, bytes := [7] }, peer := [(1, 0)] } },
     by decide +kernel⟩⟩

/-- The hypotheses of LiveUpdates are met. -/
theorem test_hyps_LiveUpdates :
    (∃ (s : State), s.pageOn 0x100 = true) ∧
    (∃ (s : State), s.running = true ∧ s.rd R.FW.UPD_STATE = upAPPLYING) ∧
    (∃ (s : State), s.running = true ∧ s.flag R.FW.GREEN = true ∧ s.boot.revertDue = false) ∧
    (∃ (s : State), s.running = true ∧ ((s.flag R.FW.GREEN = true ∧ s.boot.revertDue = true) ∨ (s.flag R.FW.GREEN = false ∧
      s.boot.trialOver = true))) ∧
    (∃ (s : State), s.running = true ∧ ((s.flag R.FW.GREEN = true ∧ s.boot.revertDue = true) ∨ (s.flag R.FW.GREEN = false ∧
      s.boot.trialOver = true))) ∧
    (∃ (s : State), s.running = true ∧ s.flag R.FW.GREEN = true) ∧
    (∃ (s : State), s.pageOn 0x100 = true ∧ s.flag R.FW.GREEN = true) ∧
    (∃ (s : State), s.running = true ∧ s.flag R.FW.GREEN = true) :=
  ⟨⟨snd [], by decide +kernel⟩,
   ⟨snd [(R.FW.UPD_STATE, upAPPLYING)], by decide +kernel⟩,
   ⟨til [(R.FW.GREEN, 1)], by decide +kernel⟩,
   ⟨{ til [(R.FW.GREEN, 1)] with boot := { revertDue := true } }, by decide +kernel⟩,
   ⟨{ til [] with boot := { trialOver := true } }, by decide +kernel⟩,
   ⟨til [(R.FW.GREEN, 1)], by decide +kernel⟩,
   ⟨til [(R.FW.GREEN, 1)], by decide +kernel⟩,
   ⟨til [(R.FW.GREEN, 1)], by decide +kernel⟩⟩

/-- The hypotheses of PacketsAreCheckedAndPassedOn are met. -/
theorem test_hyps_PacketsAreCheckedAndPassedOn :
    (∃ (port : Nat) (c : Cell) (s : State), s.portOn port = true ∧ c.fecBad = false ∧ cellHead c.bytes = none ∧ c.fixed = false) ∧
    (∃ (port : Nat) (c : Cell) (s : State), s.portOn port = true ∧ c.fecBad = false ∧ cellHead c.bytes = none ∧ c.fixed = true) ∧
    (∃ (port : Nat) (c : Cell) (cs : List Cell) (s : State), s.portOn port = true ∧ s.flag (R.COIL.XOFF_RX port) = false ∧ ((∀ x ∈ c ::
      cs, cellBad x = false ∧ x.fixed = false ∧ (cellHead x.bytes).any CellHead.xoff = false)) ∧ (cellHead c.bytes).any CellHead.sop =
      true ∧ parseHeader ((c :: cs).flatMap (fun x => cellPayload x.bytes)) = none) ∧
    (∃ (port : Nat) (t0 : Nat) (m : Nat) (len : Nat) (h : Header) (c : Cell) (cs : List Cell) (bytes : List Byte) (s : State), s.portOn
      port = true ∧ s.flag (R.COIL.XOFF_RX port) = false ∧ ((∀ x ∈ c :: cs, cellBad x = false ∧ x.fixed = false ∧ (cellHead x.bytes).any
      CellHead.xoff = false)) ∧ (cellHead c.bytes).any CellHead.sop = true ∧ (c :: cs).flatMap (fun x => cellPayload x.bytes) = bytes ∧
      s.role = .tile ∧ port < 2 ∧ parseHeader bytes = some (h, len) ∧ maxLen h.type = some m ∧ len ≤ m ∧ s.isUp port = true ∧ h.type =
      ptBAND ∧ h.up = false ∧ h.bcast = false ∧ ((s.hasId = true → h.dest ≠ s.lv R.GLB.NODE_ID)) ∧ s.rangePort h.dest = none ∧ s.canSend
      (otherPort port) = true ∧ s.egressFree (otherPort port) t0 = true ∧ h.hops < 64 ∧ checkTrailer bytes len = .good) ∧
    (∃ (port : Nat) (t0 : Nat) (m : Nat) (len : Nat) (h : Header) (c : Cell) (cs : List Cell) (bytes : List Byte) (s : State), s.portOn
      port = true ∧ s.flag (R.COIL.XOFF_RX port) = false ∧ ((∀ x ∈ c :: cs, cellBad x = false ∧ x.fixed = false ∧ (cellHead x.bytes).any
      CellHead.xoff = false)) ∧ (cellHead c.bytes).any CellHead.sop = true ∧ (c :: cs).flatMap (fun x => cellPayload x.bytes) = bytes ∧
      s.role = .tile ∧ port < 2 ∧ parseHeader bytes = some (h, len) ∧ maxLen h.type = some m ∧ len ≤ m ∧ s.isUp port = true ∧ h.type =
      ptBAND ∧ h.up = false ∧ h.bcast = false ∧ ((s.hasId = true → h.dest ≠ s.lv R.GLB.NODE_ID)) ∧ s.rangePort h.dest = none ∧ s.canSend
      (otherPort port) = true ∧ s.egressFree (otherPort port) t0 = true ∧ h.hops < 64 ∧ checkTrailer bytes len = .bad) ∧
    (∃ (port : Nat) (p : Packet) (s : State), s.aon.role = .tile ∧ s.running = false ∧ port < 2 ∧ s.isUp port = true ∧ p.hdr.type = ptBAND
      ∧ s.canSend (otherPort port) = true ∧ s.egressFree (otherPort port) 0 = true ∧ p.hdr.hops < 64) :=
  ⟨⟨0, ⟨List.replicate 64 1, false, false⟩, til [up 0], by decide +kernel⟩,
   ⟨0, ⟨List.replicate 64 1, false, true⟩, til [up 0], by decide +kernel⟩,
   ⟨0, cell1 [1, 2, 3], [], til [up 0], by decide +kernel⟩,
   ⟨1, 0, 49164, 1, bandHdr, cell1 (packetBytes bandHdr [5] false), [], packetBytes bandHdr [5] false, til [up 0, up 1],
     by decide +kernel⟩,
   ⟨1, 0, 49164, 1, bandHdr, cell1 (headerBytes bandHdr 1 ++ [5, 0, 0, 0, 0]), [], headerBytes bandHdr 1 ++ [5, 0, 0, 0, 0], til [up 0, up
     1], by decide +kernel⟩,
   ⟨1, ⟨bandHdr, [5], false⟩, { bisq .tile with aon := { role := .tile, linkUp0 := true, linkUp1 := true } }, by decide +kernel⟩⟩

/-- The hypotheses of DiscoveryAndAssignment are met. -/
theorem test_hyps_DiscoveryAndAssignment :
    (∃ (port : Nat) (hops : Nat) (t0 : Nat) (d : Discover) (s : State), s.tileDie = true ∧ port < 2 ∧ s.isUp port = true ∧ d.ppos ≠ d.plen
      ∧ d.path.getD d.ppos 0 = 0 ∧ s.canSend (otherPort port) = true ∧ s.egressFree (otherPort port) t0 = true ∧ hops < 64) ∧
    (∃ (port : Nat) (d : Discover) (s : State), s.isTile = true ∧ port < 2 ∧ s.isUp port = true ∧ d.ppos = d.plen ∧ d.op = 1 ∧ s.hasId =
      false) ∧
    (∃ (port : Nat) (t0 : Nat) (s : State), s.isSender = true ∧ s.hasPort port = true ∧ s.flag (R.COIL.DISC_BUSY port) = false ∧ s.canSend
      port = true ∧ s.egressFree port t0 = true) ∧
    (∃ (port : Nat) (s : State), s.isSender = true ∧ s.hasPort port = true ∧ s.isUp port = true ∧ s.flag (R.COIL.DISC_BUSY port) = true) ∧
    (∃ (port : Nat) (s : State), s.isSender = true ∧ s.hasPort port = true ∧ s.flag (R.COIL.DISC_BUSY port) = true) :=
  ⟨⟨1, 63, 0, ⟨0, 0, 1, 0, [0], 0, 0, [], false, false⟩, til [up 0, up 1], by decide +kernel⟩,
   ⟨0, ⟨0, 1, 0, 0, [], 5, 0, [], false, false⟩, til [up 0], by decide +kernel⟩,
   ⟨15, 0, snd [up 15], by decide +kernel⟩,
   ⟨15, snd [up 15, (R.COIL.DISC_BUSY 15, 1)], by decide +kernel⟩,
   ⟨15, snd [(R.COIL.DISC_BUSY 15, 1)], by decide +kernel⟩⟩

/-- The hypotheses of LinksTrainAndDrop are met. -/
theorem test_hyps_LinksTrainAndDrop :
    (∃ (port : Nat) (s : State), s.portOn port = true ∧ s.rd (R.COIL.LINK port) = lkTRAINING ∧ s.flag (R.COIL.TEST port) = false) ∧
    (∃ (port : Nat) (s : State), s.portOn port = true ∧ s.rd (R.COIL.LINK port) = lkALIGNING ∧ s.flag (R.COIL.TEST port) = false) ∧
    (∃ (port : Nat) (s : State), s.running = true ∧ s.hasPort port = true ∧ s.rd (R.COIL.LINK port) = lkUP) ∧
    (∃ (port : Nat) (s : State), s.running = true ∧ s.hasPort port = true ∧ s.rd (R.COIL.LINK port) = lkUP ∧ s.boot.coilDue = none) ∧
    (∃ (port : Nat) (next : Bool) (s : State), s.running = true ∧ s.hasPort port = true ∧ (next = false ∨ (s.coilSt port).ucRun < 3)) ∧
    (∃ (port : Nat) (next : Bool) (s : State), s.running = true ∧ s.hasPort port = true ∧ (next = false ∨ (s.coilSt port).ucRun < 3)) ∧
    (∃ (port : Nat) (s : State), s.running = true ∧ s.hasPort port = true ∧ 3 ≤ (s.coilSt port).ucRun ∧ s.rd (R.COIL.LINK port) = lkUP ∧
      s.boot.coilDue = none) ∧
    (∃ (port : Nat) (s : State), s.running = true ∧ s.hasPort port = true ∧ s.rd (R.COIL.LINK port) = lkUP) :=
  ⟨⟨15, snd [((R.COIL.EN 15).live, 1), (R.COIL.LINK 15, lkTRAINING)], by decide +kernel⟩,
   ⟨1, til [(R.COIL.LINK 1, lkALIGNING)], by decide +kernel⟩,
   ⟨15, snd [up 15], by decide +kernel⟩,
   ⟨0, til [up 0], by decide +kernel⟩,
   ⟨0, true, { til [up 0] with coil := [(0, { ucRun := 2 })] }, by decide +kernel⟩,
   ⟨0, false, { til [up 0] with coil := [(0, { ucRun := 3 })] }, by decide +kernel⟩,
   ⟨0, { til [up 0] with coil := [(0, { ucRun := 3 })] }, by decide +kernel⟩,
   ⟨0, til [up 0], by decide +kernel⟩⟩

/-- The hypotheses of TestLoopsTakePortsOutOfService are met. -/
theorem test_hyps_TestLoopsTakePortsOutOfService :
    (∃ (port : Nat) (v : Word32) (s : State), s.running = true ∧ s.hasPort port = true ∧ s.boot.coilDue = none ∧ (fieldOf v 0 3 = 1 ∨
      fieldOf v 0 3 = 2)) ∧
    (∃ (port : Nat) (v : Word32) (s : State), s.running = true ∧ s.hasPort port = true ∧ s.boot.coilDue = none ∧ ((fieldOf v 0 3 = 0 ∨
      fieldOf v 0 3 = 3) ∧ s.flag (R.COIL.PRBS_GEN port) = false ∧ s.flag (R.COIL.PRBS_CHK port) = false ∧ s.flag (R.COIL.FAR_LOOPED port)
      = false)) ∧
    (∃ (port : Nat) (v : Word32) (s : State), s.running = true ∧ s.hasPort port = true ∧ s.boot.coilDue = none ∧ 4 ≤ fieldOf v 0 3) ∧
    (∃ (port : Nat) (s : State), s.running = true ∧ s.hasPort port = true ∧ s.boot.coilDue = none) ∧
    (∃ (port : Nat) (s : State), s.running = true ∧ s.hasPort port = true ∧ s.boot.coilDue = none) ∧
    (∃ (port : Nat) (s : State), s.running = true ∧ s.hasPort port = true ∧ s.boot.coilDue = none) ∧
    (∃ (port : Nat) (s : State), s.running = true ∧ s.hasPort port = true ∧ s.flag (R.COIL.FAR_LOOPED port) = true ∧ s.boot.coilDue =
      none) :=
  ⟨⟨0, 1, snd [], by decide +kernel⟩,
   ⟨15, 3, snd [], by decide +kernel⟩,
   ⟨0, 4, snd [], by decide +kernel⟩,
   ⟨1, til [], by decide +kernel⟩,
   ⟨1, til [], by decide +kernel⟩,
   ⟨1, til [], by decide +kernel⟩,
   ⟨1, til [(R.COIL.FAR_LOOPED 1, 1)], by decide +kernel⟩⟩

/-- The hypotheses of LinkBeaconsMeasureTheLink are met. -/
theorem test_hyps_LinkBeaconsMeasureTheLink :
    (∃ (port : Nat) (s : State), s.portOn port = true ∧ lkALIGNING ≤ s.rd (R.COIL.LINK port) ∧ s.flag (R.COIL.TEST port) = false) ∧
    (∃ (port : Nat) (b : LinkBeacon) (s : State), s.portOn port = true ∧ lkALIGNING ≤ s.rd (R.COIL.LINK port) ∧ s.flag (R.COIL.TEST port)
      = false ∧ b.role < 8 ∧ s.boot.coilDue = none) ∧
    (∃ (port : Nat) (b : LinkBeacon) (s : State), s.portOn port = true ∧ lkALIGNING ≤ s.rd (R.COIL.LINK port) ∧ s.flag (R.COIL.TEST port)
      = false ∧ b.role < 8 ∧ s.boot.coilDue = none) ∧
    (∃ (port : Nat) (s : State), s.running = false ∧ s.aon.on = true ∧ s.aon.role = .tile ∧ port < 2 ∧ s.isUp port = true) ∧
    (∃ (port : Nat) (b : LinkBeacon) (s : State), s.portOn port = true ∧ lkALIGNING ≤ s.rd (R.COIL.LINK port) ∧ s.flag (R.COIL.TEST port)
      = false ∧ s.boot.coilDue = none ∧ (b.seq = (s.coilSt port).seq ∧ b.loopAck = false)) ∧
    (∃ (port : Nat) (b : LinkBeacon) (s : State), s.portOn port = true ∧ lkALIGNING ≤ s.rd (R.COIL.LINK port) ∧ s.flag (R.COIL.TEST port)
      = false ∧ s.boot.coilDue = none ∧ b.seq ≠ (s.coilSt port).seq) :=
  ⟨⟨1, til [(R.COIL.LINK 1, lkALIGNING)], by decide +kernel⟩,
   ⟨1, ⟨1, 2, 7, 3, 0, 9, true, false, 0⟩, til [up 1, (R.COIL.FAR_LOOP_ALLOW 1, 1)], by decide +kernel⟩,
   ⟨15, ⟨1, 2, 7, 3, 0, 9, false, false, 0⟩, snd [up 15, ((R.COIL.EN 15).live, 1)], by decide +kernel⟩,
   ⟨1, { bisq .tile with aon := { on := true, role := .tile, linkUp0 := true, linkUp1 := true } }, by decide +kernel⟩,
   ⟨1, ⟨0, 2, 5, 3, 4, 9, false, false, 0⟩, til [up 1], by decide +kernel⟩,
   ⟨1, ⟨1, 2, 5, 3, 4, 9, false, false, 0⟩, til [up 1], by decide +kernel⟩⟩

/-- The hypotheses of ManagementQueues are met. -/
theorem test_hyps_ManagementQueues :
    (∃ (port : Nat) (s : State), s.isTile = true ∧ port < 2 ∧ s.isUp port = true ∧ s.share port < 16 ∧ (s.coilSt port).wait = []) ∧
    (∃ (port : Nat) (s : State), s.isTile = true ∧ port < 2 ∧ s.isUp port = true ∧ (16 ≤ s.share port ∨ (s.coilSt port).wait ≠ [])) ∧
    (∃ (port : Nat) (r : MgmtReq) (rs : List MgmtReq) (s : State), s.isTile = true ∧ port < 2 ∧ (s.coilSt port).wait = r :: rs ∧ s.share
      port < 16) ∧
    (∃ (port : Nat) (s : State), s.running = true ∧ s.hasPort port = true ∧ s.ingressBytes port < 65536) :=
  ⟨⟨1, { til [up 1] with mgmt := { queue := List.replicate 15 (1, mreq) } }, by decide +kernel⟩,
   ⟨1, { til [up 1] with mgmt := { queue := List.replicate 16 (1, mreq) } }, by decide +kernel⟩,
   ⟨1, mreq, [], { til [] with coil := [(1, { wait := [mreq] })] }, by decide +kernel⟩,
   ⟨1, til [(R.COIL.XOFF_TX 1, 1)], by decide +kernel⟩⟩

/-- The hypotheses of SendersRelinquish are met. -/
theorem test_hyps_SendersRelinquish :
    (∃ (s : State), s.isSender = true ∧ s.flag R.RED.RELINQUISHED = false) ∧
    (∃ (s : State), s.isSender = true ∧ s.flag R.RED.RELINQUISHED = true ∧ 1 ≤ s.red.relCopies ∧ s.red.relCopies < 3) ∧
    (∃ (port : Nat) (node : Nat) (cause : Nat) (s : State), s.isSender = true ∧ s.hasPort port = true ∧ s.isUp port = true ∧ node < 16384
      ∧ cause < 4 ∧ s.flag R.RED.RELINQUISHED = false ∧ s.portState port = psSTANDBY ∧ (s.lv R.RED.SERVE).testBit port = true) ∧
    (∃ (port : Nat) (s : State), s.isSender = true ∧ s.hasPort port = true ∧ s.isUp port = true ∧ (s.flag R.RED.RELINQUISHED = true ∨
      (s.portState port = psSTANDBY ∧ (s.lv R.RED.SERVE).testBit port = false) ∨ s.portState port = psOFF)) ∧
    (∃ (port : Nat) (s : State), s.isSender = true ∧ s.hasPort port = true ∧ s.isUp port = true ∧ (s.flag R.RED.RELINQUISHED = true ∨
      (s.portState port = psSTANDBY ∧ (s.lv R.RED.SERVE).testBit port = false) ∨ s.portState port = psOFF)) ∧
    (∃ (port : Nat) (s : State), s.isSender = true ∧ s.hasPort port = true ∧ s.isUp port = true ∧ (s.flag R.RED.RELINQUISHED = true ∨
      (s.portState port = psSTANDBY ∧ (s.lv R.RED.SERVE).testBit port = false) ∨ s.portState port = psOFF) ∧ s.portState port = psOFF) ∧
    (∃ (port : Nat) (s : State), s.isSender = true ∧ s.hasPort port = true ∧ s.isUp port = true ∧ s.flag R.RED.RELINQUISHED = false ∧
      s.portState port = psACTIVE) ∧
    (∃ (port : Nat) (s : State), s.isSender = true ∧ s.hasPort port = true ∧ (s.lv R.RED.LOOP_CHECK).testBit port = true) :=
  ⟨⟨snd [], by decide +kernel⟩,
   ⟨{ snd [(R.RED.RELINQUISHED, 1)] with red := { relCopies := 2 } }, by decide +kernel⟩,
   ⟨15, 16383, 3, snd [up 15, (R.RED.SERVE.live, 32768), (⟨0x090, 0x600, 30, 2⟩, psSTANDBY)], by decide +kernel⟩,
   ⟨0, snd [up 0, (R.RED.RELINQUISHED, 1)], by decide +kernel⟩,
   ⟨0, snd [up 0, (⟨0x090, 0x600, 0, 2⟩, psSTANDBY), (R.RED.SERVE.live, 0)], by decide +kernel⟩,
   ⟨15, snd [up 15, (⟨0x090, 0x600, 30, 2⟩, psOFF)], by decide +kernel⟩,
   ⟨0, snd [up 0, (⟨0x090, 0x600, 0, 2⟩, psACTIVE)], by decide +kernel⟩,
   ⟨0, snd [(R.RED.LOOP_CHECK.live, 1)], by decide +kernel⟩⟩

/-- The hypotheses of FailoversStartAndPassOn are met. -/
theorem test_hyps_FailoversStartAndPassOn :
    (∃ (port : Nat) (s : State), s.isTile = true ∧ port < 2 ∧ s.rd (R.COIL.LINK port) = lkUP ∧ s.red.upstream = some port ∧ s.frm.ticked =
      true ∧ s.flag R.RED.st_FAILOVER = false ∧ s.boot.coilDue = none) ∧
    (∃ (port : Nat) (s : State), s.isTile = true ∧ port < 2 ∧ s.rd (R.COIL.LINK port) = lkUP ∧ s.red.upstream = some port ∧ s.frm.ticked =
      false ∧ s.boot.coilDue = none) ∧
    (∃ (port : Nat) (t0 : Nat) (h : Header) (s : State), s.isTile = true ∧ port < 2 ∧ s.isUp port = true ∧ s.red.upstream ≠ some port ∧
      s.canSend (otherPort port) = true ∧ (h.hops < 64 ∧ s.egressFree (otherPort port) t0 = true)) ∧
    (∃ (port : Nat) (h : Header) (s : State), s.isTile = true ∧ port < 2 ∧ s.isUp port = true ∧ s.red.upstream ≠ some port ∧ s.canSend
      (otherPort port) = true ∧ 64 ≤ h.hops) ∧
    (∃ (port : Nat) (s : State), s.isTile = true ∧ port < 2 ∧ s.isUp port = true ∧ s.red.upstream = some port ∧ s.frm.ticked = true ∧
      s.flag R.RED.st_FAILOVER = false) ∧
    (∃ (port : Nat) (t0 : Nat) (h : Header) (s : State), s.isTile = true ∧ port < 2 ∧ s.isUp port = true ∧ s.red.upstream ≠ some port ∧
      (s.canSend (otherPort port) = true ∧ h.hops < 64 ∧ s.egressFree (otherPort port) t0 = true)) ∧
    (∃ (port : Nat) (s : State), s.isTile = true ∧ port < 2 ∧ s.isUp port = true ∧ s.red.upstream ≠ some port ∧ s.canSend (otherPort port)
      = false) ∧
    (∃ (t0 : Nat) (s : State), s.isTile = true ∧ s.flag R.RED.st_FAILOVER = true ∧ s.red.repeating = true ∧ s.canSend (otherPort
      s.red.oldUp) = true ∧ s.egressFree (otherPort s.red.oldUp) t0 = true) ∧
    (∃ (s : State), s.isHub = true ∧ s.flag R.RED.st_FAILOVER = true) :=
  ⟨⟨1, ctile [up 1], by decide +kernel⟩,
   ⟨1, { til [up 1] with red := { upstream := some 1 } }, by decide +kernel⟩,
   ⟨0, 0, { bandHdr with type := ptRELINQUISH }, ctile [up 0, up 1], by decide +kernel⟩,
   ⟨0, { bandHdr with type := ptRELINQUISH, hops := 64 }, ctile [up 0, up 1], by decide +kernel⟩,
   ⟨1, ctile [up 1], by decide +kernel⟩,
   ⟨0, 0, { bandHdr with type := ptFEEDREQ }, ctile [up 0, up 1], by decide +kernel⟩,
   ⟨0, ctile [up 0], by decide +kernel⟩,
   ⟨0, { til [up 0, (R.RED.st_FAILOVER, 1)] with red := { repeating := true, oldUp := 1 } }, by decide +kernel⟩,
   ⟨til [((R.COIL.EN 2).live, 1), (R.RED.st_FAILOVER, 1)], by decide +kernel⟩⟩

/-- The hypotheses of HubsServeTheirChildren are met. -/
theorem test_hyps_HubsServeTheirChildren :
    (∃ (port : Nat) (b : BandPkt) (s : State), s.isHub = true ∧ port < 2 ∧ s.hasId = true ∧ b.dest = s.lv R.GLB.NODE_ID ∧ s.isUp port =
      true ∧ s.red.upstream = some port) ∧
    (∃ (port : Nat) (b : BandPkt) (s : State), s.isHub = true ∧ port < 2 ∧ s.hasId = true ∧ b.dest = s.lv R.GLB.NODE_ID ∧ s.isUp port =
      true ∧ s.red.upstream = some port) ∧
    (∃ (port : Nat) (u : Nat) (b : BandPkt) (s : State), s.isHub = true ∧ port < 2 ∧ s.hasId = true ∧ b.dest = s.lv R.GLB.NODE_ID ∧ s.isUp
      port = true ∧ s.red.upstream = some u ∧ u ≠ port) ∧
    (∃ (port : Nat) (s : State), s.isHub = true ∧ port ∈ s.subPorts ∧ s.isUp port = true) ∧
    (∃ (port : Nat) (s : State), s.isHub = true ∧ port ∈ s.subPorts ∧ s.isUp port = true) :=
  ⟨⟨1, { bpk with dest := 5, segs := [⟨0, 0, dark32⟩] }, hubk [up 1, up 2], by decide +kernel⟩,
   ⟨1, { bpk with dest := 5, segs := [⟨0, 0, dark32⟩] }, hubk [up 1, (R.TIL.EN.live, 1)], by decide +kernel⟩,
   ⟨0, 1, { bpk with dest := 5 }, hub [up 0], by decide +kernel⟩,
   ⟨2, hub [up 2], by decide +kernel⟩,
   ⟨2, hub [up 2], by decide +kernel⟩⟩

/-- The hypotheses of CommitsSnapshotTheShadow are met. -/
theorem test_hyps_CommitsSnapshotTheShadow :
    (∃ (s : State), s.role = .sender ∧ s.pageOn 0x002 = true ∧ s.flag R.CMT.BUSY = false) ∧
    (∃ (b : Blk) (n : Nat) (page : Nat) (off : Nat) (r : Row) (s : State), blkOf page = some (b, n) ∧ s.pageOn page = true ∧ isSdi4 b n =
      false ∧ off % 4 = 0 ∧ off < 0x1000 ∧ rowAt off b.rows = some r ∧ r.cls = .sh) :=
  ⟨⟨snd [], by decide +kernel⟩,
   ⟨.sch, 0, 0x003, 0x040, (rowAt 0x040 Blk.sch.rows).getD ⟨0, 0, 0, 0, 0, .ro⟩, { snd [] with cmt := { pend := [cmt3] } },
     by decide +kernel⟩⟩

/-- The hypotheses of EpochLoadsAndTileCommits are met. -/
theorem test_hyps_EpochLoadsAndTileCommits :
    (∃ (s : State), s.pageOn 0x002 = true ∧ (s.stateCode = stLOADED ∨ s.stateCode = stARMED)) ∧
    (∃ (s : State), s.pageOn 0x002 = true ∧ (s.stateCode = stLOADED ∨ s.stateCode = stARMED)) ∧
    (∃ (s : State), s.pageOn 0x002 = true ∧ s.stateCode ≠ stLOADED ∧ s.stateCode ≠ stARMED) ∧
    (∃ (s : State), s.isTile = true) ∧
    (∃ (port : Nat) (b : ConfigBody) (s : State), s.isTile = true ∧ s.red.upstream = some port ∧ s.hasId = true ∧ s.isUp port = true ∧
      s.ignores b = false ∧ s.epoch < b.target ∧ failures ((s.inForce b.target).tileErrs (overlay (some (b.sch, b.clk)) s.snapshot)) = []) :=
  ⟨⟨snd [], by decide +kernel⟩,
   ⟨snd [(R.GLB.STATE, stARMED)], by decide +kernel⟩,
   ⟨snd [(R.GLB.STATE, stLIT)], by decide +kernel⟩,
   ⟨til [], by decide +kernel⟩,
   ⟨0, ⟨1, 1, false, (wideOf resetWord).1, (wideOf resetWord).2⟩,
     { (til [up 0, (R.GLB.NODE_VALID.live, 1)]).tileResets with red := { upstream := some 0 } }, by decide +kernel⟩⟩

/-- Clause 1 of CommitsAreJudged has a state. -/
theorem test_commit_judged_0 :
    ∃ (s : State), s.isSender = true ∧ s.pageOn 0x002 = true ∧ s.flag R.CMT.BUSY = false ∧ s.frm.ticked = true :=
  ⟨tsnd [], by decide +kernel⟩

/-- Clause 2 of CommitsAreJudged has a state. -/
theorem test_commit_judged_1 :
    ∃ (s : State), s.isSender = true ∧ s.pageOn 0x002 = true ∧ s.flag R.CMT.BUSY = false ∧ s.frm.ticked = true :=
  ⟨{ tsnd [] with cmt := { pend := [cmt3] } }, by decide +kernel⟩

/-- Clause 4 of CommitsAreJudged has a state. -/
theorem test_commit_judged_3 :
    ∃ (t0 : Nat) (w : Nat) (e : Nat) (c : Commit) (s : State), s.isSender = true ∧ s.frm.ticked = true ∧ s.cmt.check = some (c, w) ∧
      s.cmt.judged = some (e, 0) ∧ e < 2 ^ 64 ∧ failures (((s.atTime t0).validated.inForce e).senderErrs c.snap ++ mapResults (((s.atTime
      t0).validated.inForce e).mapErrs (snapRd c.snap))) = [] ∧ e ≠ c.target :=
  ⟨0, 0, 1, { cmtSnd with target := 0 }, judge (tsnd []) { cmtSnd with target := 0 }, by decide +kernel⟩

/-- Clause 5 of CommitsAreJudged has a state. -/
theorem test_commit_judged_4 :
    ∃ (w : Nat) (e : Nat) (code : Nat) (c : Commit) (s : State), s.isSender = true ∧ s.frm.ticked = true ∧ s.cmt.check = some (c, w) ∧
      s.cmt.judged = some (e, code) ∧ code ≠ 0 ∧ code < 256 :=
  ⟨0, 2 ^ 20 + 1, ceFAR_EPOCH, { cmt3 with target := 2 ^ 20 + 1 }, judge (tsnd []) { cmt3 with target := 2 ^ 20 + 1 }, by decide +kernel⟩

/-- The hypotheses of CommitsAreJudged are met. -/
theorem test_hyps_CommitsAreJudged :
    (∃ (s : State), s.isSender = true ∧ s.pageOn 0x002 = true ∧ s.flag R.CMT.BUSY = false ∧ s.frm.ticked = true) ∧
    (∃ (s : State), s.isSender = true ∧ s.pageOn 0x002 = true ∧ s.flag R.CMT.BUSY = false ∧ s.frm.ticked = true) ∧
    (∃ (t0 : Nat) (w : Nat) (e : Nat) (c : Commit) (s : State), s.isSender = true ∧ s.frm.ticked = true ∧ s.cmt.check = some (c, w) ∧
      s.cmt.judged = some (e, 0) ∧ e < 2 ^ 64 ∧ failures (((s.atTime t0).validated.inForce e).senderErrs c.snap ++ mapResults (((s.atTime
      t0).validated.inForce e).mapErrs (snapRd c.snap))) = []) ∧
    (∃ (t0 : Nat) (w : Nat) (e : Nat) (c : Commit) (s : State), s.isSender = true ∧ s.frm.ticked = true ∧ s.cmt.check = some (c, w) ∧
      s.cmt.judged = some (e, 0) ∧ e < 2 ^ 64 ∧ failures (((s.atTime t0).validated.inForce e).senderErrs c.snap ++ mapResults (((s.atTime
      t0).validated.inForce e).mapErrs (snapRd c.snap))) = [] ∧ e ≠ c.target) ∧
    (∃ (w : Nat) (e : Nat) (code : Nat) (c : Commit) (s : State), s.isSender = true ∧ s.frm.ticked = true ∧ s.cmt.check = some (c, w) ∧
      s.cmt.judged = some (e, code) ∧ code ≠ 0 ∧ code < 256) ∧
    (∃ (t0 : Nat) (w : Nat) (e : Nat) (c : Commit) (s : State), s.isSender = true ∧ s.frm.ticked = true ∧ s.cmt.check = some (c, w) ∧
      s.cmt.judged = some (e, 0) ∧ failures (((s.atTime t0).validated.inForce e).senderErrs c.snap ++ mapResults (((s.atTime
      t0).validated.inForce e).mapErrs (snapRd c.snap))) ≠ []) ∧
    (∃ (t0 : Nat) (w : Nat) (c : Commit) (s : State), s.isSender = true ∧ s.frm.ticked = false ∧ s.cmt.check = some (c, w) ∧ c.snap =
      s.snapshot ∧ smWf resetWord s.regs = true ∧ failures (((s.atTime t0).validated.inForce 0).senderErrs c.snap ++ mapResults
      (((s.atTime t0).validated.inForce 0).mapErrs (snapRd c.snap))) = []) ∧
    (∃ (s : State), s.pageOn 0x002 = true ∧ s.flag R.CMT.BUSY = true) :=
  ⟨test_commit_judged_0,
   test_commit_judged_1,
   ⟨0, 0, 3, cmtSnd, judge (tsnd []) cmtSnd, by decide +kernel⟩,
   test_commit_judged_3,
   test_commit_judged_4,
   ⟨0, 0, 3, cmtBad, judge (tsnd []) cmtBad, by decide +kernel⟩,
   ⟨0, 0, cmtSnd, judge (snd []) cmtSnd, by decide +kernel⟩,
   ⟨snd [(R.CMT.BUSY, 1)], by decide +kernel⟩⟩

/-- The hypotheses of AnApplyIsOneInstant are met. -/
theorem test_hyps_AnApplyIsOneInstant :
    (∃ (m : List (Nat × Word32)) (k : Nat) (s : State), smWf resetWord s.regs = true ∧ smWf resetWord m = true ∧ isShadow k = true) ∧
    (∃ (k : Nat) (s : State), smWf resetWord s.regs = true ∧ isLive k = false ∧ k % 0x1000 ≠ 0x020) :=
  ⟨⟨[(0x3040, 1)], 0x3040, snd [], by decide +kernel⟩,
   ⟨0x3040, snd [], by decide +kernel⟩⟩

/-- The hypotheses of SenderTicks are met. -/
theorem test_hyps_SenderTicks :
    (∃ (copy : Nat) (c : Commit) (s : State), s.isSender = true ∧ s.frm.ticked = true ∧ s.cmt.pend.find? (fun c => c.target == s.epoch +
      1) = some c ∧ 1 ≤ copy ∧ copy ≤ 2 ∧ s.frm.copies < copy) ∧
    (∃ (s : State), s.tickPlanned = true ∧ s.frm.tickOut = false ∧ s.boot.coilDue = none) ∧
    (∃ (s : State), s.tickPlanned = true ∧ s.frm.ticked = true ∧ s.epoch + 1 < 2 ^ 64) ∧
    (∃ (s : State), s.tickPlanned = true ∧ s.frm.ticked = false ∧ s.cmt.loadArmed = true) :=
  ⟨⟨2, cmt3, { tsnd [(R.GLB.EPOCH, 2)] with cmt := { pend := [cmt3] } }, by decide +kernel⟩,
   ⟨tsnd [], by decide +kernel⟩,
   ⟨tsnd [], by decide +kernel⟩,
   ⟨{ snd [] with boot := { armed := true }, clk := { placed := true }, cmt := { loadArmed := true } }, by decide +kernel⟩⟩

/-- The hypotheses of TileTicks are met. -/
theorem test_hyps_TileTicks :
    (∃ (port : Nat) (t0 : Nat) (b : TickBody) (s : State), s.isTile = true ∧ s.red.upstream = some port ∧ s.isUp port = true ∧ (max s.time
      t0 : Nat) ≤ s.tickMoment b) ∧
    (∃ (port : Nat) (t0 : Nat) (b : TickBody) (s : State), s.isTile = true ∧ s.red.upstream = some port ∧ s.isUp port = true ∧ (max s.time
      t0 : Nat) ≤ s.tickMoment b) ∧
    (∃ (port : Nat) (t0 : Nat) (b : TickBody) (s : State), s.isTile = true ∧ s.red.upstream = some port ∧ s.isUp port = true ∧ (max s.time
      t0 : Nat) ≤ s.tickMoment b ∧ (s.inMissed = true ∧ 2 * us1 < (s.tickMoment b - s.frm.tickTime - s.period).natAbs)) ∧
    (∃ (port : Nat) (t0 : Nat) (b : TickBody) (s : State), s.isTile = true ∧ s.red.upstream = some port ∧ s.isUp port = true ∧
      s.tickMoment b < (max s.time t0 : Nat)) ∧
    (∃ (b : TickBody) (s : State), s.isTile = true ∧ s.frm.ticked = true ∧ s.frm.rx = some b ∧ b.epoch < 2 ^ 64) ∧
    (∃ (b : TickBody) (s : State), s.isTile = true ∧ s.frm.ticked = false ∧ (s.lockState ≠ lsLOCKED ∨ s.hasId = false ∨ s.red.upstream =
      none) ∧ s.frm.rx = some b ∧ b.epoch < 2 ^ 64) ∧
    (∃ (u : Nat) (b : TickBody) (s : State), s.isTile = true ∧ s.frm.ticked = false ∧ s.lockState = lsLOCKED ∧ s.hasId = true ∧
      s.red.upstream = some u ∧ s.frm.rx = some b ∧ b.epoch < 2 ^ 64) ∧
    (∃ (s : State), s.isTile = true ∧ s.frm.ticked = true ∧ s.frm.rx = none ∧ s.epoch + 1 < 2 ^ 64) ∧
    (∃ (s : State), s.isTile = true ∧ s.frm.ticked = true ∧ s.frm.rx = none ∧ s.epoch + 1 < 2 ^ 64) ∧
    (∃ (port : Nat) (s : State), s.isSender = true ∧ s.isUp port = true ∧ s.evt.tq.length ≤ 256) :=
  ⟨⟨1, 0, tick5, ctile [up 1], by decide +kernel⟩,
   ⟨1, 9, tick5, { til [up 1] with red := { upstream := some 1 } }, by decide +kernel⟩,
   ⟨1, 0, tick5, { ctile [up 1] with frm := { ticked := true, stale := some 0 } }, by decide +kernel⟩,
   ⟨1, 1000001, tick5, ctile [up 1], by decide +kernel⟩,
   ⟨tick5, { ctile [] with frm := { ticked := true, rx := some tick5 } }, by decide +kernel⟩,
   ⟨tick5, { til [] with frm := { rx := some tick5 } }, by decide +kernel⟩,
   ⟨1, tick5,
     { til [(R.CLK.LOCK_STATE, lsLOCKED), (R.GLB.NODE_VALID.live, 1)] with frm := { rx := some tick5 }, red := { upstream := some 1 } },
     by decide +kernel⟩,
   ⟨ctile [], by decide +kernel⟩,
   ⟨{ ctile [] with frm := { ticked := true, missing := 1 } }, by decide +kernel⟩,
   ⟨15, { snd [up 15] with evt := { tq := List.replicate 255 tqe } }, by decide +kernel⟩⟩

/-- The hypotheses of TheTimeBaseIsSet are met. -/
theorem test_hyps_TheTimeBaseIsSet :
    (∃ (s : State), s.isSender = true ∧ isPtp s.active = false ∧ s.frm.ticked = false) ∧
    (∃ (s : State), s.isSender = true ∧ isPtp s.active = false ∧ s.frm.ticked = true) ∧
    (∃ (s : State), s.isSender = true ∧ isPtp s.active = true) ∧
    (∃ (s : State), s.isSender = true ∧ isPtp s.active = false) ∧
    (∃ (s : State), s.isSender = true ∧ s.lvB R.REF.PPS_CFG_EN = true ∧ s.clk.ppsArm = false) ∧
    (∃ (s : State), s.isSender = true ∧ s.lvB R.REF.PPS_CFG_EN = true ∧ s.clk.ppsArm = true ∧ s.frm.ticked = true) ∧
    (∃ (s : State), s.isSender = true ∧ s.flag R.REF.PPS_PRESENT = true) :=
  ⟨⟨snd [], by decide +kernel⟩,
   ⟨tsnd [], by decide +kernel⟩,
   ⟨snd [(R.CLK.ACTIVE_SRC, 1)], by decide +kernel⟩,
   ⟨snd [], by decide +kernel⟩,
   ⟨snd [(R.REF.PPS_CFG_EN.live, 1)], by decide +kernel⟩,
   ⟨{ snd [(R.REF.PPS_CFG_EN.live, 1)] with frm := { ticked := true }, clk := { ppsArm := true } }, by decide +kernel⟩,
   ⟨snd [(R.REF.PPS_PRESENT, 1)], by decide +kernel⟩⟩

/-- The hypotheses of SourcesQualifyAndAreLost are met. -/
theorem test_hyps_SourcesQualifyAndAreLost :
    (∃ (input : Nat) (s : State), s.isSender = true ∧ input < 2 ∧ s.lvB (refPick input R.REF.REFA_CFG_EN R.REF.REFB_CFG_EN) = true ∧
      (s.src (3 + input)).last = none) ∧
    (∃ (input : Nat) (l : Nat) (s : State), s.isSender = true ∧ input < 2 ∧ s.lvB (refPick input R.REF.REFA_CFG_EN R.REF.REFB_CFG_EN) =
      true ∧ (s.src (3 + input)).last = some l) ∧
    (∃ (input : Nat) (s : State), s.isSender = true ∧ input < 2 ∧ s.flag (refPick input R.REF.REFA_PRESENT R.REF.REFB_PRESENT) = true) ∧
    (∃ (src : Nat) (t0 : Nat) (u : Nat) (s : State), s.isSender = true ∧ s.frm.ticked = true ∧ 1 ≤ src ∧ src ≤ 4 ∧ (s.src src).usable =
      true ∧ (s.src src).since = some u ∧ u + s.lv R.CLK.QUAL_TIME * sec1 ≤ max s.time t0 ∧ (s.src src).qualified = false) ∧
    (∃ (t0 : Nat) (s : State), s.running = true ∧ s.lockState = lsHOLDOVER ∧ s.holdLimit ≤ (s.atTime t0).holdElapsed) :=
  ⟨⟨1, snd [(R.REF.REFB_CFG_EN.live, 1)], by decide +kernel⟩,
   ⟨0, 1, { snd [(R.REF.REFA_CFG_EN.live, 1)] with clk := { src := [(3, { last := some 1 })] } }, by decide +kernel⟩,
   ⟨1, snd [(R.REF.REFB_PRESENT, 1)], by decide +kernel⟩,
   ⟨4, 1000 * sec1, 0, { tsnd [] with clk := { src := [(4, { usable := true, since := some 0 })] } }, by decide +kernel⟩,
   ⟨100000 * sec1, { til [(R.CLK.LOCK_STATE, lsHOLDOVER)] with clk := { holdFrom := some 0 } }, by decide +kernel⟩⟩

/-- The hypotheses of LoopsOpenCloseAndSlew are met. -/
theorem test_hyps_LoopsOpenCloseAndSlew :
    (∃ (s : State), s.running = true ∧ s.isOpen 1 = false ∧ -(32000 * 65536) ≤ (s.loop 1).u ∧ (s.loop 1).u ≤ 32000 * 65536) ∧
    (∃ (s : State), s.running = true ∧ s.isOpen 1 = true ∧ -(2 ^ 31) ≤ (s.loop 0).u ∧ (s.loop 0).u < 2 ^ 31) ∧
    (∃ (s : State), s.pageOn 0x0C0 = true) :=
  ⟨⟨til [(R.LOOP.OPEN, 0)], by decide +kernel⟩,
   ⟨til [(R.LOOP.OPEN, 2)], by decide +kernel⟩,
   ⟨til [], by decide +kernel⟩⟩

/-- The hypotheses of PtpInstances are met. -/
theorem test_hyps_PtpInstances :
    (∃ (inst : Nat) (a : Announce) (s : State), s.ptpOn inst = true ∧ (s.ptpSt inst).masters = [] ∧ s.rd (R.PTP.PORT_STATE inst) =
      ppLISTENING ∧ a.clockClass ≤ s.lv (R.PTP.CLASS_MAX inst)) ∧
    (∃ (inst : Nat) (s : State), s.ptpOn inst = true ∧ ppUNCALIBRATED ≤ s.rd (R.PTP.PORT_STATE inst)) ∧
    (∃ (inst : Nat) (s : State), s.ptpOn inst = true) ∧
    (∃ (inst : Nat) (s : State), s.ptpOn inst = true ∧ s.rd (R.PTP.PORT_STATE inst) = ppSLAVE) :=
  ⟨⟨1, ⟨1, 2, 128, 6, 0x20, 0, 128, 0, 37, []⟩, snd [((R.PTP.EN 1).live, 1), ((R.PTP.CLASS_MAX 1).live, 6), (R.PTP.PORT_STATE 1,
     ppLISTENING)], by decide +kernel⟩,
   ⟨0, snd [((R.PTP.EN 0).live, 1), (R.PTP.PORT_STATE 0, ppUNCALIBRATED)], by decide +kernel⟩,
   ⟨0, snd [((R.PTP.EN 0).live, 1)], by decide +kernel⟩,
   ⟨1, snd [((R.PTP.EN 1).live, 1), (R.PTP.PORT_STATE 1, ppSLAVE)], by decide +kernel⟩⟩

/-- The hypotheses of BeaconsElectAndDiscipline are met. -/
theorem test_hyps_BeaconsElectAndDiscipline :
    (∃ (s : State), s.isSender = true) ∧
    (∃ (port : Nat) (b : Beacon) (s : State), s.isTile = true ∧ port < 2 ∧ s.isUp port = true ∧ b.crcOk = true ∧ b.hops ≤ 63 ∧ b.stby =
      false ∧ s.red.upstream = none) ∧
    (∃ (port : Nat) (b : Beacon) (s : State), s.isTile = true ∧ port < 2 ∧ s.isUp port = true ∧ b.stby = true ∧ b.hops ≤ 63 ∧
      s.red.upstream = none ∧ s.canSend (otherPort port) = true) ∧
    (∃ (t0 : Nat) (s : State), s.isTile = true ∧ s.clk.beacon + ms1 ≤ max s.time t0) ∧
    (∃ (port : Nat) (b : Beacon) (s : State), s.isSender = true ∧ s.portOn port = true ∧ s.isUp port = true ∧ b.crcOk = true ∧ b.src ≠
      s.lv R.GLB.NODE_ID ∧ (s.lv R.RED.LOOP_CHECK).testBit port = true) :=
  ⟨⟨snd [((R.COIL.EN 0).live, 1)], by decide +kernel⟩,
   ⟨1, bcn, til [up 0, up 1], by decide +kernel⟩,
   ⟨1, { bcn with stby := true }, til [up 0, up 1], by decide +kernel⟩,
   ⟨ms1, til [], by decide +kernel⟩,
   ⟨1, bcn, snd [up 1, ((R.COIL.EN 1).live, 1), (R.RED.LOOP_CHECK.live, 2)], by decide +kernel⟩⟩

/-- The hypotheses of DramKeepsWhatTheHostWrites are met. -/
theorem test_hyps_DramKeepsWhatTheHostWrites :
    (∃ (off : Nat) (data : List Byte) (s : State), s.isSender = true ∧ s.outOfRange off data.length = false ∧ s.drm.chans ≤ 4 ∧ ((∀ c ∈
      List.range 4, s.flag (R.DRM.st_FAULT c) = false))) ∧
    (∃ (off : Nat) (len : Nat) (e : Nat) (errs : List (Nat × Nat)) (s : State), s.isSender = true ∧ s.outOfRange off len = false ∧ 0 < len
      ∧ s.drm.reads = [] ∧ s.hostReadWaits ⟨off, len, errs⟩ = false ∧ ((∀ x ∈ s.drm.ch, x.2.wq = [])) ∧ e ∈ errs.map (fun x => x.1 / 8) ∧
      ((∀ x ∈ errs, 2 ≤ x.2)) ∧ off / 64 ≤ e ∧ e ≤ (off + len - 1) / 64) ∧
    (∃ (off : Nat) (len : Nat) (errs : List (Nat × Nat)) (s : State), s.isSender = true ∧ s.outOfRange off len = false ∧ s.drm.chans ≤ 4 ∧
      s.drm.reads = [] ∧ s.hostReadWaits ⟨off, len, errs⟩ = false ∧ ((∀ c ∈ List.range 4, s.flag (R.DRM.st_FAULT c) = false)) ∧
      s.drm.poison = [] ∧ ((∀ e ∈ errs, e.2 ≤ 1))) ∧
    (∃ (off : Nat) (len : Nat) (errs : List (Nat × Nat)) (s : State), s.isSender = true ∧ s.outOfRange off len = false ∧ (s.drm.reads ≠ []
      ∨ s.hostReadWaits ⟨off, len, errs⟩ = true) ∧ s.hostReadWaits ⟨off, len, errs⟩ = true) ∧
    (∃ (off : Nat) (len : Nat) (errs : List (Nat × Nat)) (s : State), s.isSender = true ∧ s.outOfRange off len = false ∧ (s.drm.reads ≠ []
      ∨ s.hostReadWaits ⟨off, len, errs⟩ = true) ∧ s.drm.reads ≠ []) ∧
    (∃ (off : Nat) (data : List Byte) (s : State), s.isSender = true ∧ data ≠ [] ∧ s.outOfRange off data.length = true) ∧
    (∃ (off : Nat) (len : Nat) (s : State), s.isSender = true ∧ s.outOfRange off len = true) ∧
    (∃ (s : State), s.role = .sender ∧ s.stateCode = stBISQUE) :=
  ⟨⟨5, [1, 2], dsnd 1, by decide +kernel⟩,
   ⟨5, 2, 0, [(7, 2)], dsnd 4, by decide +kernel⟩,
   ⟨5, 2, [(0, 1)], dsnd 4, by decide +kernel⟩,
   ⟨5, 1, [], wdr (dsnd 4) [(R.DRM.FREQ_BUSY 0, 1)], by decide +kernel⟩,
   ⟨5, 1, [], { dsnd 4 with drm := { chans := 4, reads := [⟨0, 1, []⟩] } }, by decide +kernel⟩,
   ⟨5, [1], snd [], by decide +kernel⟩,
   ⟨5, 1, snd [], by decide +kernel⟩,
   ⟨bisq .sender, by decide +kernel⟩⟩

/-- The hypotheses of DramRefreshAlertsAndScrub are met. -/
theorem test_hyps_DramRefreshAlertsAndScrub :
    (∃ (ch : Nat) (s : State), s.isSender = true ∧ ch < 4 ∧ s.chReady ch = true ∧ s.flag (R.DRM.FREQ_BUSY ch) = false) ∧
    (∃ (ch : Nat) (rank : Nat) (s : State), s.isSender = true ∧ ch < 4 ∧ s.chReady ch = true ∧ s.flag (R.DRM.FREQ_BUSY ch) = false ∧
      (smGet (fun _ => 0) (s.chSt ch).ahead rank = 0 ∧ 8 ≤ smGet (fun _ => 0) (s.chSt ch).owed rank)) ∧
    (∃ (ch : Nat) (rank : Nat) (s : State), s.isSender = true ∧ ch < 4 ∧ s.chReady ch = true ∧ s.flag (R.DRM.FREQ_BUSY ch) = false ∧ smGet
      (fun _ => 0) (s.chSt ch).ahead rank ≠ 0) ∧
    (∃ (ch : Nat) (hits : Bool) (s : State), s.isSender = true ∧ ch < 4 ∧ s.chReady ch = true ∧ s.flag (R.DRM.FREQ_BUSY ch) = false ∧
      (hits || (s.chSt ch).alert) = false) ∧
    (∃ (ch : Nat) (wcrc : Bool) (s : State), s.isSender = true ∧ ch < 4 ∧ s.chReady ch = true ∧ s.lvB (if wcrc then R.DRM.WCRC_EN ch else
      R.DRM.CA_PAR_EN ch) = true) ∧
    (∃ (ch : Nat) (wcrc : Bool) (s : State), s.isSender = true ∧ ch < 4 ∧ s.chReady ch = true ∧ s.lvB (if wcrc then R.DRM.WCRC_EN ch else
      R.DRM.CA_PAR_EN ch) = true) ∧
    (∃ (ch : Nat) (s : State), s.isSender = true ∧ ch < 4 ∧ s.chReady ch = true ∧ (s.chSt ch).alert = true) ∧
    (∃ (ch : Nat) (s : State), s.isSender = true ∧ ch < 4 ∧ s.chReady ch = true ∧ (s.chSt ch).alert = true) ∧
    (∃ (ch : Nat) (s : State), s.isSender = true ∧ ch < 4 ∧ s.chReady ch = true ∧ s.chStopped ch = false) ∧
    (∃ (ch : Nat) (s : State), s.isSender = true ∧ ch < 4 ∧ s.chReady ch = true) ∧
    (∃ (ch : Nat) (s : State), s.isSender = true ∧ s.drm.chans ≤ 4 ∧ ch < s.drm.chans) ∧
    (∃ (v : Word32) (s : State), s.isSender = true ∧ v.getLsbD 0 = true ∧ ((s.stateCode = stLOADED ∧ fieldOf v 1 1 ≠ s.rd
      (R.DRM.ACTIVE_SET 0) ∧ s.rd (R.DRM.FREQ_BUSY 0) = 0 ∧ s.drm.chans ≤ 4))) ∧
    (∃ (v : Word32) (s : State), s.isSender = true ∧ v.getLsbD 0 = true ∧ fieldOf v 1 1 = s.rd (R.DRM.ACTIVE_SET 0)) ∧
    (∃ (s : State), s.isSender = true ∧ s.flag (R.DRM.FREQ_BUSY 0) = true ∧ s.drm.chans ≤ 4 ∧ ((∀ c, c < s.drm.chans → (s.chSt c).alert =
      false))) :=
  ⟨⟨3, dsnd 4, by decide +kernel⟩,
   ⟨3, 1, { dsnd 4 with drm := { chans := 4, ch := [(3, { owed := [(1, 8)] })] } }, by decide +kernel⟩,
   ⟨3, 1, { dsnd 4 with drm := { chans := 4, ch := [(3, { ahead := [(1, 2)] })] } }, by decide +kernel⟩,
   ⟨3, false, dsnd 4, by decide +kernel⟩,
   ⟨3, true, wdr (dsnd 4) [((R.DRM.WCRC_EN 3).live, 1)], by decide +kernel⟩,
   ⟨3, false, wdr (dsnd 4) [((R.DRM.CA_PAR_EN 3).live, 1)], by decide +kernel⟩,
   ⟨3, { dsnd 4 with drm := { chans := 4, ch := [(3, { alert := true, replays := 7 })] } }, by decide +kernel⟩,
   ⟨3, { dsnd 4 with drm := { chans := 4, ch := [(3, { alert := true })] } }, by decide +kernel⟩,
   ⟨3, dsnd 4, by decide +kernel⟩,
   ⟨3, dsnd 4, by decide +kernel⟩,
   ⟨3, dsnd 4, by decide +kernel⟩,
   ⟨3, dsnd 4, by decide +kernel⟩,
   ⟨1, dsnd 4, by decide +kernel⟩,
   ⟨wdr (dsnd 4) [(R.DRM.FREQ_BUSY 0, 1)], by decide +kernel⟩⟩

/-- The hypotheses of HostQueuesAndTimestamps are met. -/
theorem test_hyps_HostQueuesAndTimestamps :
    (∃ (port : Nat) (s : State), s.isSender = true ∧ s.netPort port = true) ∧
    (∃ (port : Nat) (t0 : Nat) (s : State), s.isSender = true ∧ s.netPort port = true ∧ s.flag (R.NET.LINK_UP port) = true ∧ (s.atTime
      t0).txReady port = true ∧ (s.atTime t0).prvReady port = false ∧ s.soundDram = true ∧ s.outOfRange (descAt (s.rd (R.NET.TXQ_BASE
      port)) (s.rd (R.NET.TXQ_HEAD port))) 32 = false) ∧
    (∃ (port : Nat) (t0 : Nat) (s : State), s.isSender = true ∧ s.netPort port = true ∧ s.flag (R.NET.LINK_UP port) = true ∧ (s.atTime
      t0).txReady port = true ∧ (s.atTime t0).prvReady port = false ∧ s.outOfRange (descAt (s.rd (R.NET.TXQ_BASE port)) (s.rd
      (R.NET.TXQ_HEAD port))) 32 = false ∧ linePoisoned s.drm.poison (descAt (s.rd (R.NET.TXQ_BASE port)) (s.rd (R.NET.TXQ_HEAD port)) /
      64) = true ∧ ((∀ x ∈ s.drm.ch, x.2.wq = []))) ∧
    (∃ (port : Nat) (t0 : Nat) (j : Nat) (launch : Nat) (rest : List (Nat × Nat)) (s : State), s.isSender = true ∧ s.netPort port = true ∧
      s.flag (R.NET.LINK_UP port) = true ∧ (s.atTime t0).txReady port = false ∧ s.lvB R.PRV.NET_EN = true ∧ s.lv R.PRV.NET = port ∧
      s.prv.queue = (j, launch) :: rest ∧ launch ≤ (s.atTime t0).base) ∧
    (∃ (s : State), s.pageOn 0x008 = true ∧ s.net.tsq.length ≤ 64) ∧
    (∃ (s : State), s.pageOn 0x008 = true) ∧
    (∃ (port : Nat) (f : NetFrame) (s : State), s.isSender = true ∧ s.netPort port = true ∧ s.lvB (R.NET.EN port) = true ∧ s.flag
      (R.NET.LINK_UP port) = true ∧ f.fcsOk = true ∧ 60 ≤ f.bytes.length ∧ f.kind = .other) :=
  ⟨⟨0, snd [], by decide +kernel⟩,
   ⟨0, 5,
     { wdr (dsnd 4) [(R.NET.LINK_UP 0, 1), (R.NET.TXQ_TAIL 0, 1), (R.NET.TXQ_EN 0, 1)] with net := { ports := [(0, { enq := [3] })] } },
     by decide +kernel⟩,
   ⟨0, 5,
     { wdr (dsnd 4) [(R.NET.LINK_UP 0, 1), (R.NET.TXQ_TAIL 0, 1), (R.NET.TXQ_EN 0, 1)] with net := { ports := [(0, { enq := [3] })] }, drm := { chans := 4, poison := [0] } },
     by decide +kernel⟩,
   ⟨0, 5, 0, 5, [], { snd [(R.NET.LINK_UP 0, 1), (R.PRV.NET_EN.live, 1), (R.PRV.NET.live, 0)] with prv := { queue := [(0, 5)] } },
     by decide +kernel⟩,
   ⟨{ snd [] with net := { tsq := [⟨1, 2, 3⟩] } }, by decide +kernel⟩,
   ⟨snd [(R.TSQ.OVF, 1)], by decide +kernel⟩,
   ⟨0, ⟨true, none, .other, List.replicate 60 1, 0, 0⟩, snd [((R.NET.EN 0).live, 1), (R.NET.LINK_UP 0, 1)], by decide +kernel⟩⟩

/-- The hypotheses of NetworkPortsAndStreams are met. -/
theorem test_hyps_NetworkPortsAndStreams :
    (∃ (port : Nat) (f : NetFrame) (s : State), s.isSender = true ∧ s.netPort port = true ∧ s.lvB (R.NET.EN port) = true ∧ s.flag
      (R.NET.LINK_UP port) = true ∧ f.fcsOk = false) ∧
    (∃ (port : Nat) (f : NetFrame) (s : State), s.isSender = true ∧ s.netPort port = true ∧ s.lvB (R.NET.EN port) = true ∧ s.flag
      (R.NET.LINK_UP port) = true ∧ (f.fcsOk = true ∧ 60 ≤ f.bytes.length ∧ f.kind = .pause)) ∧
    (∃ (port : Nat) (f : NetFrame) (s : State), s.isSender = true ∧ s.netPort port = true ∧ s.lvB (R.NET.EN port) = true ∧ s.flag
      (R.NET.LINK_UP port) = true ∧ (f.fcsOk = true ∧ 60 ≤ f.bytes.length ∧ f.kind = .fragment)) ∧
    (∃ (port : Nat) (f : NetFrame) (s : State), s.isSender = true ∧ s.netPort port = true ∧ s.lvB (R.NET.EN port) = true ∧ s.flag
      (R.NET.LINK_UP port) = true ∧ (f.fcsOk = true ∧ 60 ≤ f.bytes.length ∧ f.kind = .arp 1 2 (s.lv (R.NET.LOCAL_IP port)) true ∧
      s.tagFits port f.vlan = true)) ∧
    (∃ (port : Nat) (f : NetFrame) (s : State), s.isSender = true ∧ s.netPort port = true ∧ s.lvB (R.NET.EN port) = true ∧ s.flag
      (R.NET.LINK_UP port) = true ∧ (f.fcsOk = true ∧ 60 ≤ f.bytes.length ∧ f.kind = .icmpEcho (s.lv (R.NET.LOCAL_IP port)) 1 2 3 4 [5] ∧
      s.tagFits port f.vlan = true)) ∧
    (∃ (port : Nat) (stream : Nat) (leg : Nat) (r : IgmpDue) (s : State), s.isSender = true ∧ s.netPort port = true ∧ s.flag
      (R.NET.LINK_UP port) = true ∧ r ∈ s.net.reports ∧ r.port = port ∧ r.stream = stream ∧ r.leg = leg) ∧
    (∃ (stream : Nat) (leg : Nat) (s : State), s.isSender = true ∧ stream < 16 ∧ leg < 2 ∧ (legOf s.lv stream leg).isSome = true) ∧
    (∃ (src : Nat) (s : State), s.isSender = true ∧ src < 20) ∧
    (∃ (port : Nat) (s : State), s.isSender = true ∧ s.netPort port = true ∧ s.lvB (R.NET.EN port) = true) :=
  ⟨⟨0, ⟨false, none, .other, List.replicate 60 1, 0, 0⟩, snd [((R.NET.EN 0).live, 1), (R.NET.LINK_UP 0, 1)], by decide +kernel⟩,
   ⟨0, ⟨true, none, .pause, List.replicate 60 1, 0, 0⟩, snd [((R.NET.EN 0).live, 1), (R.NET.LINK_UP 0, 1)], by decide +kernel⟩,
   ⟨0, ⟨true, none, .fragment, List.replicate 60 1, 0, 0⟩, snd [((R.NET.EN 0).live, 1), (R.NET.LINK_UP 0, 1)], by decide +kernel⟩,
   ⟨0, ⟨true, none, .arp 1 2 0 true, List.replicate 60 1, 0, 0⟩, snd [((R.NET.EN 0).live, 1), (R.NET.LINK_UP 0, 1)], by decide +kernel⟩,
   ⟨0, ⟨true, none, .icmpEcho 0 1 2 3 4 [5], List.replicate 60 1, 0, 0⟩, snd [((R.NET.EN 0).live, 1), (R.NET.LINK_UP 0, 1)],
     by decide +kernel⟩,
   ⟨0, 1, 0, ⟨0, 1, 0, 5, 6, false, 1⟩, { snd [(R.NET.LINK_UP 0, 1)] with net := { reports := [⟨0, 1, 0, 5, 6, false, 1⟩] } },
     by decide +kernel⟩,
   ⟨15, 1, snd [((R.STR.EN 15).live, 1), ((R.STR.LEG_B_EN 15).live, 1)], by decide +kernel⟩,
   ⟨19, snd [], by decide +kernel⟩,
   ⟨0, snd [((R.NET.EN 0).live, 1)], by decide +kernel⟩⟩

/-- The hypotheses of SourcesDeliverPictures are met. -/
theorem test_hyps_SourcesDeliverPictures :
    (∃ (src : Nat) (i : Nat) (l : Nat) (a : PicAsm) (rest : List PicAsm) (s : State), s.isSender = true ∧ src < 16 ∧ s.lvB (R.STR.EN src)
      = true ∧ s.lv (R.STR.KIND src) = 0 ∧ (s.strSt src).whole = a :: rest ∧ (a.lost = false ∨ s.lvB (R.STR.INCOMPLETE src) = true) ∧
      s.nextSurface src (s.lv (R.STR.BUF_COUNT src)) = some i ∧ l < 16 ∧ s.lv (R.LYR.SRC l) = 1 ∧ s.lv (R.LYR.SRC_SEL l) = src) ∧
    (∃ (src : Nat) (a : PicAsm) (rest : List PicAsm) (s : State), s.isSender = true ∧ src < 16 ∧ s.lvB (R.STR.EN src) = true ∧ s.lv
      (R.STR.KIND src) = 0 ∧ (s.strSt src).whole = a :: rest ∧ (a.lost = false ∧ s.nextSurface src (s.lv (R.STR.BUF_COUNT src)) = none)) ∧
    (∃ (src : Nat) (a : PicAsm) (rest : List PicAsm) (s : State), s.isSender = true ∧ src < 16 ∧ s.lvB (R.STR.EN src) = true ∧ s.lv
      (R.STR.KIND src) = 0 ∧ (s.strSt src).whole = a :: rest ∧ (a.lost = true ∧ s.lvB (R.STR.INCOMPLETE src) = false)) ∧
    (∃ (n : Nat) (i : Nat) (l : Nat) (p : Picture) (s : State), s.isSender = true ∧ n < 4 ∧ s.sdiDelivers n = true ∧ p.startMissed = false
      ∧ (s.strSt (16 + n)).since ≤ p.start ∧ s.lv (R.SDI.BUF_COUNT n) ≤ 8 ∧ l < 16 ∧ s.lv (R.LYR.SRC l) = 1 ∧ s.lv (R.LYR.SRC_SEL l) = 16
      + n ∧ s.nextSurface (16 + n) (s.lv (R.SDI.BUF_COUNT n)) = some i) ∧
    (∃ (n : Nat) (l : Nat) (p : Picture) (s : State), s.isSender = true ∧ n < 4 ∧ s.sdiDelivers n = true ∧ p.startMissed = false ∧
      (s.strSt (16 + n)).since ≤ p.start ∧ s.lv (R.SDI.BUF_COUNT n) ≤ 8 ∧ l < 16 ∧ s.lv (R.LYR.SRC l) = 1 ∧ s.lv (R.LYR.SRC_SEL l) = 16 +
      n ∧ s.nextSurface (16 + n) (s.lv (R.SDI.BUF_COUNT n)) = none) ∧
    (∃ (n : Nat) (p : Picture) (s : State), s.isSender = true ∧ n < 4 ∧ s.sdiDelivers n = true ∧ (p.startMissed = true ∨ p.start <
      (s.strSt (16 + n)).since)) ∧
    (∃ (n : Nat) (p : Picture) (s : State), s.isSender = true ∧ n < 4 ∧ s.sdiDelivers n = true ∧ (p.startMissed = true ∨ p.start <
      (s.strSt (16 + n)).since)) ∧
    (∃ (n : Nat) (lock : Bool) (s : State), s.isSender = true ∧ n < 4 ∧ (s.lvB (R.SDI.EN n) || (s.quad && s.lvB (R.SDI.EN 0))) = true ∧
      s.flag (R.SDI.LOCKED n) = !lock) ∧
    (∃ (n : Nat) (lock : Bool) (s : State), s.isSender = true ∧ n < 4 ∧ (s.lvB (R.SDI.EN n) || (s.quad && s.lvB (R.SDI.EN 0))) = true ∧
      s.flag (R.SDI.LOCKED n) = !lock) ∧
    (∃ (n : Nat) (s : State), s.isSender = true ∧ n < 4 ∧ (s.lvB (R.SDI.EN n) || s.quad) = true ∧ s.flag (R.SDI.LOCKED n) = true) ∧
    (∃ (n : Nat) (s : State), s.isSender = true ∧ n < 4 ∧ (s.lvB (R.SDI.EN n) || s.quad) = true ∧ s.flag (R.SDI.LOCKED n) = true ∧ (s.quad
      = true ∧ n ≠ 0)) :=
  ⟨⟨15, 0, 15, ⟨9, 0, false, [], false, false⟩, [],
     { snd [((R.STR.EN 15).live, 1), ((R.STR.BUF_COUNT 15).live, 2), ((R.LYR.SRC 15).live, 1), ((R.LYR.SRC_SEL 15).live, 15)] with str := [(15, { whole := [⟨9, 0, false, [], false, false⟩] })] },
     by decide +kernel⟩,
   ⟨15, ⟨9, 0, false, [], false, false⟩, [],
     { snd [((R.STR.EN 15).live, 1), ((R.STR.BUF_COUNT 15).live, 0)] with str := [(15, { whole := [⟨9, 0, false, [], false, false⟩] })] },
     by decide +kernel⟩,
   ⟨15, ⟨9, 0, false, [], true, false⟩, [],
     { snd [((R.STR.EN 15).live, 1)] with str := [(15, { whole := [⟨9, 0, false, [], true, false⟩] })] }, by decide +kernel⟩,
   ⟨3, 0, 15, pic, snd [((R.SDI.EN 3).live, 1), (R.SDI.LOCKED 3, 1), ((R.SDI.BUF_COUNT 3).live, 8), ((R.LYR.SRC 15).live, 1),
     ((R.LYR.SRC_SEL 15).live, 19)], by decide +kernel⟩,
   ⟨3, 15, pic, snd [((R.SDI.EN 3).live, 1), (R.SDI.LOCKED 3, 1), ((R.SDI.BUF_COUNT 3).live, 0), ((R.LYR.SRC 15).live, 1), ((R.LYR.SRC_SEL
     15).live, 19)], by decide +kernel⟩,
   ⟨3, { pic with startMissed := true }, snd [((R.SDI.EN 3).live, 1), (R.SDI.LOCKED 3, 1)], by decide +kernel⟩,
   ⟨3, pic, { snd [((R.SDI.EN 3).live, 1), (R.SDI.LOCKED 3, 1)] with str := [(19, { since := 1 })] }, by decide +kernel⟩,
   ⟨3, true, snd [((R.SDI.EN 3).live, 1)], by decide +kernel⟩,
   ⟨3, false, snd [((R.SDI.EN 0).live, 1), ((R.SDI.QUAD 0).live, 1), (R.SDI.LOCKED 3, 1)], by decide +kernel⟩,
   ⟨3, snd [((R.SDI.EN 3).live, 1), (R.SDI.LOCKED 3, 1)], by decide +kernel⟩,
   ⟨3, snd [((R.SDI.QUAD 0).live, 1), (R.SDI.LOCKED 3, 1)], by decide +kernel⟩⟩

/-- The hypotheses of DecoderFlushesAndConceals are met. -/
theorem test_hyps_DecoderFlushesAndConceals :
    (∃ (v : Word32) (n : Nat) (s : State), s.isSender = true ∧ s.decOn n = true ∧ v.toNat.testBit n = true) ∧
    (∃ (v : Word32) (n : Nat) (s : State), s.isSender = true ∧ s.decOn n = true ∧ v.toNat.testBit n = false) ∧
    (∃ (stream : Nat) (s : State), s.isSender = true ∧ s.decOn stream = true ∧ (s.decSt stream).late = false ∧ (s.decSt stream).aus ≠ []) ∧
    (∃ (stream : Nat) (p : DecPic) (a : Au) (rest : List Au) (s : State), s.isSender = true ∧ s.decOn stream = true ∧ (s.decSt stream).aus
      = a :: rest ∧ a.irap = false ∧ (s.decSt stream).started = true ∧ (s.decSt stream).verdict = 0 ∧ p.paramsMissing = false ∧ (p.rasl &&
      (s.decSt stream).rasl) = false ∧ s.soundDram = true ∧ slabBytes (decSize s.lv stream).1 (decSize s.lv stream).2 ≤ s.lv
      (R.STR.BUF_STRIDE stream) * 4096 ∧ (List.range ((s.decSt stream).dpb.length + p.refs.length + 1)).all (fun k => s.dpbInside stream
      p.sps k) = true) ∧
    (∃ (stream : Nat) (p : DecPic) (a : Au) (rest : List Au) (s : State), s.isSender = true ∧ s.decOn stream = true ∧ (s.decSt stream).aus
      = a :: rest ∧ a.irap = false ∧ (s.decSt stream).started = true ∧ (s.decSt stream).verdict = 0 ∧ p.paramsMissing = false ∧ (p.rasl &&
      (s.decSt stream).rasl) = false ∧ s.soundDram = true ∧ slabBytes (decSize s.lv stream).1 (decSize s.lv stream).2 ≤ s.lv
      (R.STR.BUF_STRIDE stream) * 4096 ∧ (List.range ((s.decSt stream).dpb.length + p.refs.length + 1)).all (fun k => s.dpbInside stream
      p.sps k) = true) ∧
    (∃ (stream : Nat) (p : DecPic) (a : Au) (rest : List Au) (s : State), s.isSender = true ∧ s.decOn stream = true ∧ (s.decSt stream).aus
      = a :: rest ∧ a.irap = false ∧ (s.decSt stream).started = true ∧ (s.decSt stream).verdict = 0 ∧ p.paramsMissing = false ∧ (p.rasl &&
      (s.decSt stream).rasl) = false ∧ ((s.auRead stream a).2 = true ∨ (s.lv (R.DEC.DPB_SIZE stream) = 0 ∧ 0 < dpbLength p.sps))) ∧
    (∃ (stream : Nat) (a : Au) (rest : List Au) (s : State), s.isSender = true ∧ s.decOn stream = true ∧ (s.decSt stream).aus = a :: rest
      ∧ ((s.decSt stream).started = false ∧ a.irap = false ∧ rest.length ≤ s.lv (R.DEC.DROP_THRESH stream))) ∧
    (∃ (stream : Nat) (p : DecPic) (a : Au) (rest : List Au) (s : State), s.isSender = true ∧ s.decOn stream = true ∧ (s.decSt stream).aus
      = a :: rest ∧ (((s.decSt stream).started = true ∨ a.irap = true) ∧ p.paramsMissing = true)) ∧
    (∃ (stream : Nat) (p : DecPic) (a : Au) (rest : List Au) (s : State), s.isSender = true ∧ s.decOn stream = true ∧ (s.decSt stream).aus
      = a :: rest ∧ ((s.decSt stream).started = true ∧ a.irap = false ∧ p.paramsMissing = false ∧ p.rasl = true ∧ (s.decSt stream).rasl =
      true)) ∧
    (∃ (stream : Nat) (p : DecPic) (a : Au) (rest : List Au) (s : State), s.isSender = true ∧ s.decOn stream = true ∧ (s.decSt stream).aus
      = a :: rest ∧ (a.irap = true ∧ p.paramsMissing = false ∧ (spsOk (s.lv (R.STR.SCAN stream)) p.sps && s.dpbFits stream p.sps) =
      false)) :=
  ⟨⟨0x8000, 15, dec15 [], by decide +kernel⟩,
   ⟨0x7FFF, 15, dec15 [{ vcl := true }], by decide +kernel⟩,
   ⟨15, dec15 [{ vcl := true }], by decide +kernel⟩,
   ⟨15, dpic, { vcl := true, slices := 1 }, [],
     { snd ([((R.STR.BUF_COUNT 15).live, 2), ((R.STR.EN 15).live, 1), ((R.STR.KIND 15).live, 3)]) with dec := { st := [(15, { aus := [{ vcl := true, slices := 1 }], started := true })] } },
     by decide +kernel⟩,
   ⟨15, { dpic with poisoned := true }, { vcl := true, slices := 1 }, [],
     { snd ([((R.STR.BUF_COUNT 15).live, 2), ((R.STR.EN 15).live, 1), ((R.STR.KIND 15).live, 3)]) with dec := { st := [(15, { aus := [{ vcl := true, slices := 1 }], started := true })] } },
     by decide +kernel⟩,
   ⟨15, { dpic with sps := { dpic.sps with width := 64, height := 64 } }, { vcl := true, slices := 1 }, [],
     { snd ([((R.STR.BUF_COUNT 15).live, 2), ((R.STR.EN 15).live, 1), ((R.STR.KIND 15).live, 3)]) with dec := { st := [(15, { aus := [{ vcl := true, slices := 1 }], started := true })] } },
     by decide +kernel⟩,
   ⟨15, { vcl := true }, [], dec15 [{ vcl := true }], by decide +kernel⟩,
   ⟨15, { dpic with paramsMissing := true }, { vcl := true, irap := true }, [], dec15 [{ vcl := true, irap := true }], by decide +kernel⟩,
   ⟨15, { dpic with rasl := true }, { vcl := true }, [],
     { snd ([((R.STR.EN 15).live, 1), ((R.STR.KIND 15).live, 3)]) with dec := { st := [(15, { aus := [{ vcl := true }], started := true, rasl := true })] } },
     by decide +kernel⟩,
   ⟨15, { dpic with sps := { dpic.sps with chroma := 3 } }, { vcl := true, irap := true }, [], dec15 [{ vcl := true, irap := true }],
     by decide +kernel⟩⟩

/-- The hypotheses of LayersSignalAndLinesCompose are met. -/
theorem test_hyps_LayersSignalAndLinesCompose :
    (∃ (layer : Nat) (v : Word32) (s : State), s.isSender = true ∧ layer < 16 ∧ fieldOf v 0 2 ≤ s.lv (R.LYR.BUF_COUNT layer)) ∧
    (∃ (layer : Nat) (v : Word32) (s : State), s.isSender = true ∧ layer < 16 ∧ s.lv (R.LYR.BUF_COUNT layer) < fieldOf v 0 2) ∧
    (∃ (line : Nat) (feed : Nat) (s : State), s.lineDue line feed = true) ∧
    (∃ (s : State), s.isSender = true) ∧
    (∃ (line : Nat) (s : State), s.isSender = true ∧ s.frm.ticked = true ∧ line < s.lv (R.TG.V_TOTAL 0)) ∧
    (∃ (s : State), s.isSender = true ∧ s.flag R.CMP.COMPOSING = true ∧ ((∀ f, f < composedFeeds s.lv → s.nextLine f = canvasH s.lv))) :=
  ⟨⟨15, 2, snd [((R.LYR.BUF_COUNT 15).live, 2)], by decide +kernel⟩,
   ⟨15, 3, snd [((R.LYR.BUF_COUNT 15).live, 2)], by decide +kernel⟩,
   ⟨0, 0, tsnd [], by decide +kernel⟩,
   ⟨snd [], by decide +kernel⟩,
   ⟨(tsnd []).lv (R.TG.V_TOTAL 0) - 1, tsnd [], by decide +kernel⟩,
   ⟨{ snd [(R.CMP.COMPOSING, 1)] with cmp := { next := (List.range (composedFeeds (snd []).lv)).map (fun f => (f, canvasH (snd []).lv)) } },
     by decide +kernel⟩⟩

/-- The hypotheses of SaggerRegionsActOnWhatTheyCompare are met. -/
theorem test_hyps_SaggerRegionsActOnWhatTheyCompare :
    (∃ (region : Nat) (s : State), s.isSender = true ∧ s.frm.ticked = true ∧ region < 256 ∧ (s.regSt region).done = false ∧ region / 32 <
      composedFeeds s.lv ∧ (s.region region).y + (s.region region).h ≤ s.nextLine (region / 32) ∧ (s.region region).mode ≠ 0 ∧ (s.region
      region).mode = 1) ∧
    (∃ (region : Nat) (s : State), s.isSender = true ∧ s.frm.ticked = true ∧ region < 256 ∧ (s.regSt region).done = false ∧ region / 32 <
      composedFeeds s.lv ∧ (s.region region).y + (s.region region).h ≤ s.nextLine (region / 32) ∧ (s.region region).mode ≠ 0 ∧ (s.region
      region).mode = 2 ∧ s.sagFlag region 1 = false) ∧
    (∃ (region : Nat) (s : State), s.isSender = true ∧ s.frm.ticked = true ∧ region < 256 ∧ (s.regSt region).done = false ∧ region / 32 <
      composedFeeds s.lv ∧ (s.region region).y + (s.region region).h ≤ s.nextLine (region / 32) ∧ (s.region region).mode ≠ 0 ∧ (s.region
      region).mode = 3) ∧
    (∃ (s : State), s.isSender = true) ∧
    (∃ (s : State), s.composes = true) ∧
    (∃ (crc : Word32) (s : State), s.isSender = true ∧ s.frm.ticked = true ∧ crc ≠ Config.hiddenCrc) :=
  ⟨⟨0, { tsnd [] with tabs := smSet tabDefault [] (tabKey 0x05B 0 2) 1, cmp := { next := [(0, 1)] } }, by decide +kernel⟩,
   ⟨0, { tsnd [] with tabs := smSet tabDefault [] (tabKey 0x05B 0 2) 2, cmp := { next := [(0, 1)] } }, by decide +kernel⟩,
   ⟨0, { tsnd [] with tabs := smSet tabDefault [] (tabKey 0x05B 0 2) 3, cmp := { next := [(0, 1)] } }, by decide +kernel⟩,
   ⟨snd [], by decide +kernel⟩,
   ⟨tsnd [], by decide +kernel⟩,
   ⟨Config.hiddenCrc + 1, tsnd [], by decide +kernel, by decide +kernel, by bv_omega⟩⟩

/-- The hypotheses of PreviewCapturesAndSends are met. -/
theorem test_hyps_PreviewCapturesAndSends :
    (∃ (s : State), s.isSender = true) ∧
    (∃ (s : State), s.isSender = true ∧ s.prv.cap = 2 ∧ s.lv (R.TG.SRC_Y 1) + s.lv (R.TG.SRC_H_M1 1) < s.nextLine (s.lv R.PRV.FEED)) ∧
    (∃ (line : Nat) (late : Bool) (s : State), s.isSender = true ∧ line < s.lv (R.TG.V_TOTAL 1) ∧ (late = true ∧ line ≤ s.lv
      (R.TG.ACT_H_M1 1) ∧ s.flag R.PRV.RUNNING = true ∧ s.lvB R.PRV.SDI_EN = true)) ∧
    (∃ (line : Nat) (s : State), s.isSender = true ∧ line < s.lv (R.TG.V_TOTAL 1)) :=
  ⟨⟨snd [], by decide +kernel⟩,
   ⟨{ snd [] with prv := { cap := 2 }, cmp := { next := [((snd []).lv R.PRV.FEED, 5000)] } }, by decide +kernel⟩,
   ⟨0, true, snd [(R.PRV.RUNNING, 1), (R.PRV.SDI_EN.live, 1)], by decide +kernel⟩,
   ⟨(snd []).lv (R.TG.V_TOTAL 1) - 1, snd [], by decide +kernel⟩⟩

/-- The hypotheses of SegmentsAreGlazedAndLaunched are met. -/
theorem test_hyps_SegmentsAreGlazedAndLaunched :
    (∃ (e : Nat) (x : PlanSeg) (s : State), s.isSender = true ∧ s.frm.ticked = true ∧ (List.range 8).find? (fun e => (s.engineSeg
      e).isNone) = some e ∧ firstSeg s.readySegs = some x) ∧
    (∃ (engine : Nat) (k : SegKey) (r : Desc) (sl : Nat × Nat) (s : State), s.isSender = true ∧ engine < 8 ∧ s.engineSeg engine = some k ∧
      s.descNo k.desc = some r ∧ (s.slicesOf r).find? (fun (c : Nat × Nat) => c.1 == k.sx) = some sl) ∧
    (∃ (port : Nat) (b : BandPkt) (bs : List BandPkt) (s : State), s.isSender = true ∧ s.hasPort port = true ∧ (s.coilSt port).bands = b
      :: bs) ∧
    (∃ (port : Nat) (s : State), s.isSender = true ∧ s.frm.ticked = true ∧ s.hasPort port = true ∧ s.serves port = true) ∧
    (∃ (s : State), s.pageOn 0x060 = true) :=
  ⟨⟨0, (firstSeg msnd.readySegs).getD ⟨0, 0, 0, 0, 0, 0, 0⟩, msnd, by decide +kernel⟩,
   ⟨7, ⟨0, 0, 0, 0⟩, descOf (msnd.tabW 0x060 0) 0, (0, 1), { msnd with map := { engines := [(7, ⟨0, 0, 0, 0⟩)] } }, by decide +kernel⟩,
   ⟨15, bpk, [], { tsnd [up 15, (⟨0x090, 0x600, 30, 2⟩, psACTIVE)] with coil := [(15, { bands := [bpk] })] }, by decide +kernel⟩,
   ⟨15, tsnd [(⟨0x090, 0x600, 30, 2⟩, psACTIVE)], by decide +kernel⟩,
   ⟨snd [], by decide +kernel⟩⟩

/-- The hypotheses of TilesTakeBandsAndCompute are met. -/
theorem test_hyps_TilesTakeBandsAndCompute :
    (∃ (port : Nat) (b : BandPkt) (s : State), s.isTile = true ∧ port < 2 ∧ s.isUp port = true ∧ s.hasId = true ∧ b.dest = s.lv
      R.GLB.NODE_ID ∧ s.red.upstream = some port ∧ b.crcOk = false) ∧
    (∃ (port : Nat) (b : BandPkt) (s : State), s.isTile = true ∧ port < 2 ∧ s.isUp port = true ∧ s.hasId = true ∧ b.dest = s.lv
      R.GLB.NODE_ID ∧ s.red.upstream = some port ∧ (b.crcOk = true ∧ (s.frm.ticked && s.lvB R.TIL.EN) = false)) ∧
    (∃ (port : Nat) (b : BandPkt) (s : State), s.isTile = true ∧ port < 2 ∧ s.isUp port = true ∧ s.hasId = true ∧ b.dest = s.lv
      R.GLB.NODE_ID ∧ s.red.upstream = some port ∧ (b.crcOk = true ∧ (s.frm.ticked && s.lvB R.TIL.EN) = true ∧ b.epoch16 % 65536 ≠ s.epoch
      % 65536)) ∧
    (∃ (port : Nat) (b : BandPkt) (s : State) (sg : Seg), s.isTile = true ∧ port < 2 ∧ s.isUp port = true ∧ s.hasId = true ∧ b.dest = s.lv
      R.GLB.NODE_ID ∧ s.red.upstream = some port ∧ (b.crcOk = true ∧ (s.frm.ticked && s.lvB R.TIL.EN) = true ∧ b.epoch16 % 65536 = s.epoch
      % 65536 ∧ b.segs = [sg] ∧ segCorrupt s.lv b.bandNo b.feed b.format sg = false ∧ s.overlaps (2048 * b.feed + b.bandNo) sg = false ∧
      ((keptBands s.lv).contains b.bandNo && (keptCols s.lv).any (fun c => decide (sg.sx ≤ c ∧ c ≤ sg.sx + sg.sw))) = true ∧ s.bandBuffer
      + 4 + sg.data.length ≤ 2 ^ 21)) ∧
    (∃ (port : Nat) (b : BandPkt) (s : State) (sg : Seg), s.isTile = true ∧ port < 2 ∧ s.isUp port = true ∧ s.hasId = true ∧ b.dest = s.lv
      R.GLB.NODE_ID ∧ s.red.upstream = some port ∧ (b.segs = [sg] ∧ segCorrupt s.lv b.bandNo b.feed b.format sg = true)) ∧
    (∃ (port : Nat) (b : BandPkt) (s : State) (sg : Seg), s.isTile = true ∧ port < 2 ∧ s.isUp port = true ∧ s.hasId = true ∧ b.dest = s.lv
      R.GLB.NODE_ID ∧ s.red.upstream = some port ∧ (b.segs = [sg] ∧ segCorrupt s.lv b.bandNo b.feed b.format sg = false ∧ s.overlaps (2048
      * b.feed + b.bandNo) sg = true)) ∧
    (∃ (port : Nat) (q : Nat) (b : BandPkt) (s : State), s.isTile = true ∧ port < 2 ∧ s.isUp port = true ∧ s.hasId = true ∧ b.dest = s.lv
      R.GLB.NODE_ID ∧ s.red.upstream = some q ∧ q ≠ port) ∧
    (∃ (q : QSeg) (rest : List QSeg) (s : State), s.isTile = true ∧ s.til.queue = q :: rest ∧ ((segLines q.format q.seg).isSome = true ∧
      s.overlaps q.band q.seg = false)) ∧
    (∃ (q : QSeg) (rest : List QSeg) (s : State), s.isTile = true ∧ s.til.queue = q :: rest ∧ segLines q.format q.seg = none) ∧
    (∃ (s : State), s.pageOn 0x0A0 = true) ∧
    (∃ (s : State), s.pageOn 0x0A2 = true) ∧
    (∃ (j : SlotJob) (rest : List SlotJob) (s : State), s.isTile = true ∧ s.lvB R.TIL.EN = true ∧ s.lsm.todo = j :: rest ∧ s.noCompute =
      false ∧ s.lsm.run = none ∧ ((∀ b ∈ s.lsm.banks, b.1 ≠ j.ord % 2))) ∧
    (∃ (s : State), s.isTile = true ∧ s.noCompute = true ∧ s.lsm.run = none) ∧
    (∃ (r : SlotRun) (s : State), s.isTile = true ∧ s.noCompute = true ∧ s.lsm.run = some r) ∧
    (∃ (r : SlotRun) (s : State), s.isTile = true ∧ s.noCompute = false ∧ s.lsm.run = some r ∧ s.slotAhead r.job = false) ∧
    (∃ (r : SlotRun) (s : State), s.isTile = true ∧ s.noCompute = false ∧ s.lsm.run = some r ∧ s.slotAhead r.job = true) ∧
    (∃ (addr : Nat) (s : State), s.pageOn 0x0A2 = true ∧ addr < 8 * 1048576 ∧ s.flag R.COR.RELOADING = false ∧ addr / 4 % 2 = 0) ∧
    (∃ (addr : Nat) (s : State) (lo : Word32), s.pageOn 0x0A2 = true ∧ addr < 8 * 1048576 ∧ s.flag R.COR.RELOADING = false ∧ addr / 4 % 2
      = 1 ∧ s.cor.latch = some (addr / 4 / 2, lo)) ∧
    (∃ (s : State), s.pageOn 0x0A2 = true ∧ (s.nvs.fg.filter (· == .reload)).length < 2) ∧
    (∃ (s : State), s.pageOn 0x0A2 = true ∧ 2 ≤ (s.nvs.fg.filter (· == .reload)).length) ∧
    (∃ (s : State), s.isTile = true ∧ s.nvs.bgRun = false ∧ s.nvs.fg.head? = some .reload ∧ smWf mramDefault s.mram.mem = true ∧ smWf
      tabDefault s.imm = true) :=
  ⟨⟨1, { bpk with dest := 5, crcOk := false }, etile0, by decide +kernel⟩,
   ⟨1, { bpk with dest := 5 }, etile0, by decide +kernel⟩,
   ⟨1, { bpk with dest := 5, epoch16 := 1 }, etile1, by decide +kernel⟩,
   ⟨1, { bpk with dest := 5, segs := [⟨0, 0, dark32⟩] }, etile1, ⟨0, 0, dark32⟩, by decide +kernel⟩,
   ⟨1, { bpk with dest := 5, segs := [⟨0, 0, []⟩] }, etile1, ⟨0, 0, []⟩, by decide +kernel⟩,
   ⟨1, { bpk with dest := 5, segs := [⟨0, 0, dark32⟩] }, { etile1 with til := { written := [(0, 0, 1)] } }, ⟨0, 0, dark32⟩,
     by decide +kernel⟩,
   ⟨0, 1, { bpk with dest := 5 }, wdr etile1 [up 0], by decide +kernel⟩,
   ⟨⟨0, 0, ⟨0, 0, dark32⟩⟩, [], { til [] with til := { queue := [⟨0, 0, ⟨0, 0, dark32⟩⟩] } }, by decide +kernel⟩,
   ⟨⟨0, 0, ⟨0, 0, []⟩⟩, [], { til [] with til := { queue := [⟨0, 0, ⟨0, 0, []⟩⟩] } }, by decide +kernel⟩,
   ⟨til [], by decide +kernel⟩,
   ⟨til [], by decide +kernel⟩,
   ⟨job0, [], { til [(R.TIL.EN.live, 1)] with lsm := { todo := [job0] } }, by decide +kernel⟩,
   ⟨{ til [] with til := { dark := true } }, by decide +kernel⟩,
   ⟨⟨job0, 0, [], [], true, 0, []⟩, { til [(R.GLB.STATE, stQUENCHED)] with lsm := { run := some ⟨job0, 0, [], [], true, 0, []⟩ } },
     by decide +kernel⟩,
   ⟨⟨job0, 0, [], [], true, 0, []⟩, { til [] with lsm := { run := some ⟨job0, 0, [], [], true, 0, []⟩ } }, by decide +kernel⟩,
   ⟨⟨job0, 0, [], [], true, 0, []⟩, { til [] with lsm := { run := some ⟨job0, 0, [], [], true, 0, []⟩ }, lmp := { plan := [job0] } },
     by decide +kernel⟩,
   ⟨8388600, til [], by decide +kernel⟩,
   ⟨8388604, { til [] with cor := { latch := some (1048575, 9) } }, 9, by decide +kernel⟩,
   ⟨til [], by decide +kernel⟩,
   ⟨{ til [] with nvs := { fg := [.reload, .reload] } }, by decide +kernel⟩,
   ⟨{ til [] with nvs := { fg := [.reload] }, cor := { copied := 2 } }, by decide +kernel⟩⟩

/-- The hypotheses of LampSlotsLoadAndScan are met. -/
theorem test_hyps_LampSlotsLoadAndScan :
    (∃ (group : Nat) (k : Nat) (b : Staged) (s : State), s.isTile = true ∧ s.flag R.LMP.RUNNING = true ∧ s.groupsOn.contains group = true
      ∧ s.lsm.banks.find? (fun (b : Nat × Staged) => s.loadable group b.2) = some (k, b) ∧ (s.grp group).load = none) ∧
    (∃ (group : Nat) (t1 : Nat) (k : Nat) (j : SlotJob) (b : Staged) (s : State), s.isTile = true ∧ group < memberGroups s.member ∧ (s.grp
      group).load = some (j, t1) ∧ s.lsm.banks.find? (fun (b : Nat × Staged) => b.2.job == j) = some (k, b)) ∧
    (∃ (group : Nat) (t1 : Nat) (j : SlotJob) (s : State), s.isTile = true ∧ group < memberGroups s.member ∧ (s.grp group).load = some (j,
      t1) ∧ s.lsm.banks.find? (fun (b : Nat × Staged) => b.2.job == j) = none) ∧
    (∃ (slot : Nat) (t0 : Nat) (j : SlotJob) (rest : List SlotJob) (s : State), s.isTile = true ∧ s.lvB R.TIL.EN = true ∧ planPick slot
      (max s.time t0) s.lmp.plan = some (j, rest)) ∧
    (∃ (slot : Nat) (t0 : Nat) (j : SlotJob) (rest : List SlotJob) (s : State), s.isTile = true ∧ s.lvB R.TIL.EN = true ∧ planPick slot
      (max s.time t0) s.lmp.plan = some (j, rest)) ∧
    (∃ (slot : Nat) (t0 : Nat) (j : SlotJob) (rest : List SlotJob) (s : State), s.isTile = true ∧ s.lvB R.TIL.EN = true ∧ planPick slot
      (max s.time t0) s.lmp.plan = some (j, rest) ∧ (decide (slot = 0) && s.lmp.restart) = true) ∧
    (∃ (group : Nat) (s : State), s.isTile = true ∧ group < memberGroups s.member ∧ (s.grp group).scan = true ∧ (s.grp group).row + 1 <
      busScan s.bus) ∧
    (∃ (group : Nat) (s : State), s.isTile = true ∧ group < memberGroups s.member ∧ (s.grp group).scan = true ∧ busScan s.bus ≤ (s.grp
      group).row + 1) ∧
    (∃ (inst : Nat) (entry : Nat) (s : State), s.isTile = true ∧ s.pageOn 0x0C0 = true ∧ inst < memberGroups s.member ∧ entry < 64) :=
  ⟨⟨3, 0, ⟨job0, [], [3]⟩,
     { til [(R.LMP.RUNNING, 1), (R.LMP.GROUP_EN.live, 8)] with lsm := { banks := [(0, ⟨job0, [], [3]⟩)] }, lmp := { plan := [job0] } },
     by decide +kernel⟩,
   ⟨3, 0, 1, job0, ⟨job0, [], [3]⟩,
     { til [] with lsm := { banks := [(1, ⟨job0, [], [3]⟩)] }, lmp := { grp := [(3, { load := some (job0, 0) })] } }, by decide +kernel⟩,
   ⟨3, 0, job0, { til [] with lmp := { grp := [(3, { load := some (job0, 0) })] } }, by decide +kernel⟩,
   ⟨1, 0, { job0 with slot := 1 }, [], { til [(R.TIL.EN.live, 1)] with lmp := { plan := [{ job0 with slot := 1 }] } }, by decide +kernel⟩,
   ⟨1, 0, { job0 with slot := 1, lit := false }, [],
     { til [(R.TIL.EN.live, 1)] with lmp := { plan := [{ job0 with slot := 1, lit := false }] } }, by decide +kernel⟩,
   ⟨0, 0, job0, [], { til [(R.TIL.EN.live, 1)] with lmp := { plan := [job0], restart := true } }, by decide +kernel⟩,
   ⟨3, { til [] with lmp := { grp := [(3, { scan := true, cycles := 2 })] } }, by decide +kernel⟩,
   ⟨3, { til [] with lmp := { grp := [(3, { scan := true, cycles := 2, row := 63 })] } }, by decide +kernel⟩,
   ⟨3, 63, til [], by decide +kernel⟩⟩

/-- The hypotheses of ProbesFindLampFaults are met. -/
theorem test_hyps_ProbesFindLampFaults :
    (∃ (group : Nat) (i : Nat) (p : Probe) (s : State), s.isTile = true ∧ group < memberGroups s.member ∧ s.stateCode ≠ stQUENCHED ∧
      (s.grp group).fired = some p ∧ i < s.lampCount ∧ (s.lampPlace i).1 = group ∧ (s.lampPlace i).2.1 = p.row) ∧
    (∃ (group : Nat) (i : Nat) (p : Probe) (s : State), s.isTile = true ∧ group < memberGroups s.member ∧ s.stateCode ≠ stQUENCHED ∧
      (s.grp group).fired = some p ∧ i < s.lampCount ∧ (s.lampPlace i).1 = group ∧ (s.lampPlace i).2.1 = p.row ∧ p.solo = true) ∧
    (∃ (s : State), s.pageOn 0x0B5 = true) ∧
    (∃ (s : State), s.pageOn 0x0B6 = true) :=
  ⟨⟨0, 0, ⟨0, false, [], true⟩, { til [(R.TIL.EN.live, 1)] with lmp := { grp := [(0, { fired := some ⟨0, false, [], true⟩ })] } },
     by decide +kernel⟩,
   ⟨0, 0, ⟨0, true, [], true⟩, { til [(R.TIL.EN.live, 1)] with lmp := { grp := [(0, { fired := some ⟨0, true, [], true⟩ })] } },
     by decide +kernel⟩,
   ⟨til [], by decide +kernel⟩,
   ⟨til [], by decide +kernel⟩⟩

/-- The hypotheses of CameraSyncPulses are met. -/
theorem test_hyps_CameraSyncPulses :
    (∃ (c : Nat) (s : State), s.isSender = true ∧ s.frm.ticked = true ∧ c < 8) ∧
    (∃ (c : Nat) (t0 : Nat) (s : State), s.isSender = true ∧ c < 8 ∧ (s.cs c).active = true ∧ (s.cs c).until_ ≤ max s.time t0) ∧
    (∃ (s : State), s.pageOn 0x003 = true) :=
  ⟨⟨7, tsnd [((R.SCH.EN 7).live, 1), ((R.SCH.MASK 7).live, 1)], by decide +kernel⟩,
   ⟨7, 9, { snd [] with sch := { cs := [(7, { active := true, until_ := 9 })] } }, by decide +kernel⟩,
   ⟨snd [], by decide +kernel⟩⟩

/-- The hypotheses of HeatThrottlesAndQuenches are met. -/
theorem test_hyps_HeatThrottlesAndQuenches :
    (∃ (n : Nat) (s : State), s.running = true ∧ n < 8 ∧ (s.sensor n).on = true) ∧
    (∃ (s : State), s.running = true) ∧
    (∃ (s : State), s.running = true) ∧
    (∃ (s : State), s.isTile = true ∧ s.pageOn 0x0D0 = true) :=
  ⟨⟨7, { til [] with thm := { sens := [(7, { on := true })] } }, by decide +kernel⟩,
   ⟨snd [], by decide +kernel⟩,
   ⟨til [], by decide +kernel⟩,
   ⟨til [], by decide +kernel⟩⟩

/-- The hypotheses of LightPhaseRuns are met. -/
theorem test_hyps_LightPhaseRuns :
    (∃ (t0 : Nat) (s : State), s.isTile = true ∧ s.pageOn 0x0D1 = true ∧ s.phc.run = none ∧ (s.atTime t0).phcMay = false) ∧
    (∃ (stamp : Int) (r : PhcRun) (s : State), s.isTile = true ∧ s.phc.run = some r ∧ flashFrame r.e0 (s.lv R.PHC.MARKS) s.epoch = true ∧
      s.inEdgeWindow (stamp / 25 * 25) (s.nominal + s.lv R.PHC.PD_DELAY) = true) ∧
    (∃ (r : PhcRun) (s : State), s.pageOn 0x0D1 = true ∧ s.phc.run = some r) ∧
    (∃ (s : State), s.pageOn 0x0D1 = true ∧ s.phc.run = none) :=
  ⟨⟨0, til [], by decide +kernel⟩,
   ⟨0, prun, { til [(R.GLB.EPOCH, 1)] with phc := { run := some prun } }, by decide +kernel⟩,
   ⟨prun, { til [] with phc := { run := some prun } }, by decide +kernel⟩,
   ⟨til [], by decide +kernel⟩⟩

/-- The hypotheses of MramKeepsWhatIsSaved are met. -/
theorem test_hyps_MramKeepsWhatIsSaved :
    (∃ (s : State), s.pageOn 0x0D2 = true) ∧
    (∃ (v : Word32) (s : State), s.pageOn 0x0D2 = true ∧ s.nvs.fg = [] ∧ fieldOf v 8 12 < calBlocks ∧ s.flag R.NVS.SET_OPEN = true ∧
      s.writeBar = none) ∧
    (∃ (v : Word32) (s : State), s.pageOn 0x0D2 = true ∧ s.nvs.fg = [] ∧ fieldOf v 8 12 < calBlocks ∧ s.flag R.NVS.SET_OPEN = true ∧
      (s.nvs.bgRun = false ∧ s.flag R.NVS.IN_WINDOW = false)) ∧
    (∃ (s : State), s.pageOn 0x0D2 = true ∧ s.nvs.fg ≠ []) ∧
    (∃ (v : Word32) (s : State), s.pageOn 0x0D2 = true ∧ (s.nvs.fg = [] ∧ s.nvs.bgRun = false ∧ fieldOf v 8 12 < calBlocks ∧ s.flag
      R.NVS.SET_OPEN = false)) ∧
    (∃ (v : Word32) (s : State), s.pageOn 0x0D2 = true ∧ (s.nvs.fg = [] ∧ s.nvs.bgRun = false ∧ fieldOf v 8 12 = 2049)) ∧
    (∃ (v : Word32) (s : State), s.pageOn 0x0D2 = true ∧ (s.nvs.fg = [] ∧ s.nvs.bgRun = false ∧ 2816 ≤ fieldOf v 8 12)) ∧
    (∃ (b : Nat) (buf : Nat) (s : State), s.running = true ∧ s.nvs.bgRun = false ∧ s.nvs.fg = [.write b buf] ∧ b < calBlocks) ∧
    (∃ (v : Word32) (s : State), s.pageOn 0x0D2 = true ∧ s.nvs.fg = [] ∧ fieldOf v 8 12 < 2816) ∧
    (∃ (b : Nat) (buf : Nat) (s : State), s.running = true ∧ s.nvs.bgRun = false ∧ s.nvs.fg = [.read b buf]) ∧
    (∃ (s : State), s.pageOn 0x0D2 = true ∧ s.nvs.fg = [] ∧ s.writeBar = none) ∧
    (∃ (s : State), s.pageOn 0x0D2 = true ∧ s.running = true ∧ s.nvs.fg = [] ∧ s.nvs.bg = [] ∧ s.nvs.bgRun = false ∧ s.writeBar = none) ∧
    (∃ (s : State), s.running = true ∧ s.nvs.fg ≠ []) ∧
    (∃ (corrected : Nat) (s : State), s.running = true ∧ s.nvs.fg = [] ∧ s.nvs.bg = [] ∧ s.nvs.bgRun = false ∧ (corrected = 0 ∨ s.writeBar
      = none)) ∧
    (∃ (corrected : Nat) (s : State), s.running = true ∧ s.nvs.fg = [] ∧ s.nvs.bg = [] ∧ s.nvs.bgRun = false ∧ (corrected = 0 ∨ s.writeBar
      = none)) ∧
    (∃ (u : BgUnit) (us : List BgUnit) (s : State), s.running = true ∧ s.nvs.fg = [] ∧ s.nvs.bg = u :: us ∧ s.nvs.bgRun = false) ∧
    (∃ (u : BgUnit) (us : List BgUnit) (s : State), s.running = true ∧ s.nvs.fg = [] ∧ s.nvs.bg = u :: us ∧ s.nvs.bgRun = false ∧
      s.writeBar = none) ∧
    (∃ (s : State), s.running = true) :=
  ⟨⟨til [], by decide +kernel⟩,
   ⟨BitVec.ofNat 32 (256 * (calBlocks - 1)), til [(R.NVS.SET_OPEN, 1), (R.NVS.IN_WINDOW, 1)], by decide +kernel⟩,
   ⟨0, til [(R.NVS.SET_OPEN, 1)], by decide +kernel⟩,
   ⟨{ til [] with nvs := { fg := [.reload] } }, by decide +kernel⟩,
   ⟨0, til [], by decide +kernel⟩,
   ⟨BitVec.ofNat 32 (256 * 2049), til [], by decide +kernel⟩,
   ⟨BitVec.ofNat 32 (256 * 2816), til [], by decide +kernel⟩,
   ⟨calBlocks - 1, 1, { til [] with nvs := { fg := [.write (calBlocks - 1) 1] } }, by decide +kernel⟩,
   ⟨BitVec.ofNat 32 (256 * 2815), til [], by decide +kernel⟩,
   ⟨2815, 1, { til [] with nvs := { fg := [.read 2815 1] } }, by decide +kernel⟩,
   ⟨til [(R.NVS.IN_WINDOW, 1)], by decide +kernel⟩,
   ⟨til [(R.NVS.IN_WINDOW, 1)], by decide +kernel⟩,
   ⟨{ til [] with nvs := { fg := [.reload] } }, by decide +kernel⟩,
   ⟨1, til [(R.NVS.IN_WINDOW, 1)], by decide +kernel⟩,
   ⟨0, { til [] with nvs := { scrub := 3071 } }, by decide +kernel⟩,
   ⟨.passEnd, [], { til [] with nvs := { bg := [.passEnd] } }, by decide +kernel⟩,
   ⟨.wear 3, [], { til [(R.NVS.IN_WINDOW, 1)] with nvs := { bg := [.wear 3] } }, by decide +kernel⟩,
   ⟨til [], by decide +kernel⟩⟩

/-- The hypotheses of AudioFlowsAndAligns are met. -/
theorem test_hyps_AudioFlowsAndAligns :
    (∃ (src : Nat) (s : State), s.isSender = true ∧ src < 3 ∧ (s.audSrc src).buf.length ≤ 64) ∧
    (∃ (src : Nat) (s : State), s.isSender = true ∧ src < 3 ∧ (s.audSrc src).buf.length ≤ 64 ∧ (decide (64 ≤ (s.audSrc src).buf.length) &&
      s.audioLocked src) = true) ∧
    (∃ (src : Nat) (s : State), s.isSender = true ∧ src < 19 ∧ (s.audSrc src).here = true ∧ s.audioLocked src = true ∧ 64 ≤ (s.audSrc
      src).buf.length) ∧
    (∃ (src : Nat) (s : State), s.isSender = true ∧ src < 19 ∧ (s.audSrc src).here = true ∧ s.audioLocked src = true ∧ (s.audSrc src).buf
      = []) ∧
    (∃ (src : Nat) (s : State), s.isSender = true ∧ src < 19 ∧ s.audioClock src = true) ∧
    (∃ (src : Nat) (s : State), s.isSender = true ∧ src < 19 ∧ (s.audSrc src).lost = true) ∧
    (∃ (s : State), s.isSender = true ∧ s.flag R.AUD.WCLK_OK = true) ∧
    (∃ (s : State), s.isSender = true ∧ s.flag R.AUD.WCLK_OK = false) ∧
    (∃ (s : State), s.audioOn = true) ∧
    (∃ (s : State), s.isSender = true) ∧
    (∃ (s : State), s.audioOn = true ∧ s.flag R.AUD.ASRC_ACTIVE = true) ∧
    (∃ (s : State), s.audioOn = true) :=
  ⟨⟨1, snd [], by decide +kernel⟩,
   ⟨2, { snd [(R.AUD.TDM_MASTER.live, 1)] with aud := { src := [(2, { here := true, buf := List.replicate 64 [1] })] } },
     by decide +kernel⟩,
   ⟨18, { snd [(R.CLK.ACTIVE_SRC, 1)] with aud := { src := [(18, { here := true, buf := List.replicate 64 [1] })] } }, by decide +kernel⟩,
   ⟨0, { snd [] with aud := { src := [(0, { here := true, locked := true })] } }, by decide +kernel⟩,
   ⟨18, { snd [] with aud := { src := [(18, { here := true })] } }, by decide +kernel⟩,
   ⟨18, { snd [] with aud := { src := [(18, { lost := true })] } }, by decide +kernel⟩,
   ⟨snd [(R.AUD.WCLK_OK, 1)], by decide +kernel⟩,
   ⟨snd [], by decide +kernel⟩,
   ⟨snd [(R.AUD.EN.live, 1)], by decide +kernel⟩,
   ⟨snd [], by decide +kernel⟩,
   ⟨snd [(R.AUD.EN.live, 1), (R.AUD.ASRC_ACTIVE, 1)], by decide +kernel⟩,
   ⟨snd [(R.AUD.EN.live, 1)], by decide +kernel⟩⟩

/-- The hypotheses of EveryStepKeepsStateSound are met. -/
theorem test_hyps_EveryStepKeepsStateSound :
    (∃ (s : State) (t : State), s.sound ∧ step s = .next t) :=
  ⟨{ snd [] with pending := [.tqPop] }, afterStep { snd [] with pending := [.tqPop] }, ⟨⟨by decide +kernel, by decide +kernel,
    by decide +kernel⟩, rfl⟩⟩

/-- The hypotheses of CommandsKeepToTheirReach are met. -/
theorem test_hyps_CommandsKeepToTheirReach :
    (∃ (c : Instr) (s : State) (t : State), isWide c = false ∧ exec c s = .next t) :=
  ⟨.tqPop, snd [], after .tqPop (snd []), ⟨rfl, rfl⟩⟩

/-- The hypotheses of AppliesAndTicksKeepToTheirReach are met. -/
theorem test_hyps_AppliesAndTicksKeepToTheirReach :
    (∃ (c : Instr) (s : State) (t : State), isWide c = true ∧ exec c s = .next t) :=
  ⟨.registerWrite 0x3040 15 1 0, snd [], after (.registerWrite 0x3040 15 1 0) (snd []), ⟨rfl, rfl⟩⟩

/-! Well-formedness: each check refuses a term that breaks it. -/

/-- A port, a pair port, a node ID, a bank, an instance, a length or a field out of its range is refused. -/
theorem test_wf_refuses_instances :
    (([.bankLevelSelect 5 0, .bootChunkReceive 2 ⟨0, [], true, true, 0, 0⟩, .bootChunkReceive 1 ⟨0, [], true, true, 256, 0⟩, .peerBootBroadcast 16 0,
       .peerBootChunk 16, .tickLaunch 0, .bandStop 16 0, .bandLaunch 16 0, .linkCdrLock 16, .linkUp 16, .linkLoss 16 0, .codewordUncorrectable ⟨16, false⟩,
       .xoffRelease 16, .ingressQueueRoom 2, .retrain 16, .loopbackSelect 16 0, .prbsGen 16 true, .prbsChk 16 true true 0, .farLoopExpiry 16,
       .discGo 16 0, .discoverTimeout 16, .loopCheckTimeout 16, .refEdge 2 0, .refLoss 2 0, .ptpSync 2 0 0 0, .ptpAnnounceTimeout 2 0,
       .ptpSyncTimeout 2 0, .sourceQualify 0 0, .sourceQualify 5 0, .legDown 16 0, .legDown 0 2, .streamResync 20 0, .decodeBudgetExpiry 16,
       .layerReady 16 0 0, .segmentEncodeDone 8, .slotLoadStart 4 0, .slotLoadDone 4 0, .scanWindowEnd 4 [], .scrubNow 4, .dramAlert 4 true,
       .alertNReturn 4 true, .dramScrubLateAlarm 4, .audioClockLoss 20, .audioClockReturn 20, .audioSlip 19 true] : List Instr).filter
      (fun c => c.wf)) = [.tickLaunch 0] := by decide +kernel

/-- Operands with more than one field are refused on each. -/
theorem test_wf_refuses_fields :
    (([.registerWrite 0x1000000 15 0 0, .registerWrite 0 16 0 0, .registerReadLatch ⟨0x1000000, 4⟩ 0, .registerReadLatch ⟨0, 0⟩ 0, .registerReadLatch ⟨0, 5⟩ 0, .counterClear 2 0, .counterClear 0x1000000 0,
       .tableWrite 0x7FC 0, .tableWrite 0x802 0, .evtPendClear 0x1000 0, .evtForce 0x1000 0, .evtEnWrite 0x1000 0, .vectorMapWrite 288 0,
       .vectorMapWrite 2 0, .msixMessage ⟨64, false⟩ 0, .eventReceive 16 0 0 [], .eventReceive 0 16384 0 [], .eventReceive 0 0 (2 ^ 64) [],
       .eventReceive 0 0 0 (List.replicate 9 ⟨0, false, false, 0⟩), .hubEventReceive 0 0 [⟨0x1000, false, false, 0⟩],
       .hubEventReceive 0 0 [⟨0, false, false, 2 ^ 32⟩], .tunTimeout 64, .tunResponse ⟨0, 0⟩ 64 0 [], .tunResponse ⟨0, 0⟩ 0 16 [],
       .tunResponse ⟨0, 0⟩ 0 0 (List.replicate 65 0), .tunResponse ⟨16, 0⟩ 0 0 [], .tunResponse ⟨0, 16384⟩ 0 0 [], .mgmtReqReceive 2 mreq, .mgmtReqReceive 0 { mreq with tag := 64 },
       .mgmtReqReceive 0 { mreq with len := 64 }, .mgmtReqReceive 0 { mreq with offset := 2 }, .mgmtReqReceive 0 { mreq with page := 0x1000 },
       .mgmtReqReceive 0 { mreq with src := 16384 }, .mgmtReqReceive 0 { mreq with write := true }, .configMarkerLaunch 3 0,
       .tickReceive 0 { tick5 with epoch := 2 ^ 64 } 0, .tickReceive 0 { tick5 with commitTarget := 2 ^ 64 } 0, .configReceive 0 ⟨0, 1, false, [], 0⟩ 0,
       .configReceive 0 ⟨2 ^ 64, 1, false, List.replicate 16 0, 0⟩ 0, .configReceive 0 ⟨0, 4, false, List.replicate 16 0, 0⟩ 0,
       .statusReceive 0 16384 ⟨0, 0, 0, false, 0, 0, 0, Summary.zero⟩, .beaconReceive 0 { bcn with hops := 128 } 0,
       .beaconReceive 0 { bcn with originPort := 16 } 0, .beaconReceive 0 { bcn with src := 16384 } 0, .beaconReceive 0 { bcn with epoch := 2 ^ 64 } 0,
       .linkBeaconRequest 0 ⟨65536, 0, 0, 0, 0, 0, false, false, 0⟩ 0, .linkBeaconReply 0 ⟨0, 16, 0, 0, 0, 0, false, false, 0⟩ 0,
       .linkBeaconReply 0 ⟨0, 0, 8, 0, 0, 0, false, false, 0⟩ 0, .linkBeaconReply 0 ⟨0, 0, 0, 0, 0, 2 ^ 64, false, false, 0⟩ 0,
       .linkBeaconReply 0 ⟨0, 0, 0, 0, 0, 0, false, false, 256⟩ 0] : List Instr).filter (fun c => c.wf)) = [] := by decide +kernel

/-- The same for bands, pictures, discovery, memories and the rest. -/
theorem test_wf_refuses_data :
    (([.bandReceive 2 { bpk with segs := [⟨0, 0, []⟩] }, .bandReceive 0 bpk, .bandReceive 0 { bpk with dest := 16384, segs := [⟨0, 0, []⟩] },
       .bandReceive 0 { bpk with epoch16 := 65536, segs := [⟨0, 0, []⟩] }, .bandReceive 0 { bpk with bandNo := 2048, segs := [⟨0, 0, []⟩] },
       .bandReceive 0 { bpk with feed := 8, segs := [⟨0, 0, []⟩] }, .bandReceive 0 { bpk with format := 4, segs := [⟨0, 0, []⟩] },
       .hubBandReceive 0 { bpk with segs := [⟨1024, 0, []⟩] }, .hubBandReceive 0 { bpk with segs := [⟨0, 16, []⟩] },
       .sagMemoryWrite 4 0 0, .sagMemoryWrite 0 64 0, .camsyncPulse 8 0 0, .camsyncPulse 0 8 0, .camsyncPulseEnd 8 0,
       .netFrameReceive 8 ⟨true, none, .other, [], 0, 0⟩ 0, .netLinkChange 8 true 0, .igmpReportTimer 8 0 0, .igmpReportTimer 0 16 0,
       .igmpReportTimer 0 0 2, .txqTailWrite 8 0 0, .txFrameLaunch 8 0, .pictureReady 20 pic 0, .pictureReady 0 { pic with height := 1 } 0,
       .sdiLockChange 4 true 0 0, .sdiLockChange 0 true 16 0, .sdiFrameReceive 4 0 0 ⟨0, 0, false⟩ 0 0 0, .sdiFrameReceive 0 0 0 ⟨3, 0, false⟩ 0 0 0,
       .decodePictureDone 16 dpic 0, .bar4Write (2 ^ 40) [0], .bar4Read (2 ^ 40) 1 [], .bar2Write 8388608 [0], .tgwLineSlot 16384 0,
       .lineDeadline 16384, .lineComposed 16384 0, .lineComposed 0 8, .tgpLineStart 16384 true, .saggerCrcComplete 256, .eyeReport 16 0 0,
       .eyeReport 0 256 0, .eyeReport 0 0 256, .discoverReceive ⟨2, true⟩ 0 ⟨0, 0, 0, 0, [], 0, 0, List.replicate 14 (1, 0), false, false⟩ 0,
       .discoverReceive ⟨0, true⟩ 128 ⟨0, 0, 0, 0, [], 0, 0, List.replicate 14 (1, 0), false, false⟩ 0, .discoverReceive ⟨0, true⟩ 0 ⟨0, 0, 0, 0, [], 0, 0, [], false, false⟩ 0,
       .discoverReceive ⟨0, true⟩ 0 ⟨0, 0, 0, 0, [], 65536, 0, List.replicate 14 (1, 0), false, false⟩ 0, .discoverRspReceive 0 (List.replicate 97 0),
       .relinquishReceive ⟨0, true⟩ bandHdr 0 ⟨0, 0⟩ 0, .relinquishReceive ⟨0, true⟩ bandHdr 0 ⟨0, 4⟩ 0,
       .relinquishReceive ⟨0, true⟩ { bandHdr with hops := 128 } 0 ⟨0, 1⟩ 0, .feedreqReceive ⟨0, true⟩ { bandHdr with src := 16384 } 0 0 0,
       .feedreqReceive ⟨0, true⟩ bandHdr 0 3 0, .packetReceive 0 [⟨[], false, false⟩] 0,
       .senderFeedreq 0 16384 0 0 0, .senderFeedreq 0 0 0 3 0, .calReloadDone [1048576], .calRecordWrite 8388608 0, .calRecordWrite 2 0,
       .slotStart 8 0, .probeReadDone 4 [[], []] [[], []], .probeReadDone 0 [[]] [[], []], .probeReadDone 0 [[], []] [], .mramReadDone [512], .sensorRead 8 true 0 0, .sensorRead 0 true 65536 0,
       .dieModelStep (List.replicate 9 none) true 0, .refreshTimer 4 0 true, .refreshTimer 0 2 true, .patrolScrubLine 4 0, .patrolScrubLine 0 3,
       .audioInputFrame 3 [] [], .audioInputFrame 0 [2 ^ 26] [], .audioInputFrame 2 [2 ^ 32] [], .audioInputFrame 0 [] (List.replicate 25 0)] : List Instr).filter
      (fun c => c.wf)) = [] := by decide +kernel

/-! Worked examples and check values of the spec. -/

/-- The check values of the CRCs over the bytes "123456789" (10 R251, R252, R253; 08 R210). -/
theorem test_crc_check_values :
    (let b : List Byte := [0x31, 0x32, 0x33, 0x34, 0x35, 0x36, 0x37, 0x38, 0x39]
     (crc8 b, crc16 b, crc32c b, crc32 b)) = (0xF4, 0x29B1, 0xE3069283, 0xCBF43926) := by decide +kernel

/-- The digest of "abc" in FIPS 180-4 (log 206). -/
theorem test_sha384 :
    sha384 [0x61, 0x62, 0x63] =
      0xCB00753F45A35E8BB5A03D699AC65007272C32AB0EDED1631A8B605A43FF5BED8086072BA1E7CC2358BAECA134C825A7 := by decide +kernel

/-- The example of 08 R199. -/
theorem test_blend_example : (blendAlpha 2056 3072, blend 800000 300000 1542) = (1542, 488232) := by decide +kernel

/-- The example of 14 R381: four channels of x8 at one rank. -/
theorem test_dram_map_example :
    dramCh 4 0x123456780 = 3 ∧ dramAddr 4 0x123456780 = 0x48D15980 ∧
      dramPos 0 0 0x48D15980 = { column := 816, group := 2, bank := 2, rank := 0, row := 9320 } ∧ dramOffset 4 3 0x48D15980 = 0x123456780 := by
  decide +kernel

/-- The example of 04 R87: at 1,750,000,000 s and 59.94 Hz the next cadence point is number 104,895,104,896. -/
theorem test_cadence_example :
    cadNearest 60000 1001 (1750000000 * sec1 : Nat) = 104895104895 ∧ cadAtOrAfter 60000 1001 (1750000000 * sec1 : Nat) = 104895104896 := by
  decide +kernel

/-- The example of 13 R370: 78 °C with the default throttle. -/
theorem test_throttle_example : gThermOf 1638 (70 * 16) (78 * 16) = 52432 := by decide +kernel

/-- The budget of the example of 09 R237. -/
theorem test_budget_example : segmentBudget 12 32 = 3072 := by decide

/-- A glazed segment decodes to what was encoded where the coding is exact (09 R233, R236): a dark one reads the code that block 1 of k = 0
    gives. -/
theorem test_dark_segment : segLines 0 ⟨0, 0, dark32⟩ = some (List.replicate 16 (List.replicate 32 ⟨0, 0, 0⟩)) := by decide +kernel

/-! Commands. -/

/-- The default vector map: COIL3 is vector 19, a page off the map none (03 R75). -/
theorem test_default_vectors : (State.reset.vector 0x083, State.reset.vector 0x002, State.reset.vector 0x200) = (19, 0, 0xFF) := by decide +kernel

/-- A counter at its highest value stays there; writing 0 clears it (03 R66). -/
theorem test_counter :
    ((snd [(R.CMT.CNT_REJECT, 0xFFFFFFFF)]).inc R.CMT.CNT_REJECT).rd R.CMT.CNT_REJECT = 0xFFFFFFFF ∧
      (after (.counterClear R.CMT.CNT_REJECT.key 0) (snd [(R.CMT.CNT_REJECT, 7)])).rd R.CMT.CNT_REJECT = 0 := by decide +kernel

/-- A shadow write leaves the live copy as it is (03 R65). -/
theorem test_shadow_write :
    (let t := after (.registerWrite 0x4040 15 0x12 0) (snd [])
     (t.word 0x4040 != (snd []).word 0x4040, t.word 0x4440 == (snd []).word 0x4440)) = (true, true) := by decide +kernel

/-- At reset no page answers (16 R410), and a released sender answers only GLB and FW. -/
theorem test_release :
    State.reset.pageOn 0 = false ∧
      (let t := after (.resetRelease .high false) State.reset
       (t.pageOn 0, t.pageOn 0x100, t.pageOn 0x002, t.rd R.GLB.STATE)) = (true, true, false, stBISQUE) := by decide +kernel

/-- A SOFT_RESET needs the key 0xA5C3 (16 R407). -/
theorem test_soft_reset_key :
    (after (.softReset 0xA5C3) (snd [])).stateCode = stRESET ∧ (after (.softReset 0xA5C2) (snd [])).stateCode = stLOADED := by decide +kernel

/-- A device without firmware: a tile's ports 0 and 1 repeat, a sender's stay idle, and its endpoint serves BAR2 alone (17 R438). -/
theorem test_pins_bisque :
    (let t := { bisq .tile with aon := { on := true, role := .tile } }
     (t.pins (.coil 1), t.pins (.coil 2), t.pins .pcie)) = (.repeater, .idle, .idle) ∧
      (let t := { bisq .sender with aon := { on := true } }
       (t.pins (.coil 1), t.pins .pcie, t.pins (.camsync 0))) = (.idle, .endpoint true, .highZ) := by decide +kernel

/-- A CAMSYNC output of a loaded sender rests at its inactive level; CS_HIZ floats it (05 R130). -/
theorem test_pins_camsync :
    (let t (xs : List (Fld × Nat)) : State := { snd xs with aon := { on := true } }
     ((t []).pins (.camsync 7), (t [((R.SCH.ACTIVE_LOW 7).live, 1)]).pins (.camsync 7), (t [(R.SCH.CS_HIZ, 1)]).pins (.camsync 7))) =
      (.sync false, .sync true, .highZ) := by decide +kernel

end Sys2Proof.Tests
end

/-!
The write of COMMIT (02 R45): the registers that it writes, the snapshot that it takes and the verdict that it fixes; and that a write of a
shadow register reaches no commit (03 R62, R65).
-/

namespace Sys2Proof.Proofs.Commits
open Sys2Proof.Machine Sys2Proof.Laws

/-! Fields and judgements follow the words that they read. -/

/-- A field whose words lie outside the changed keys reads as before. -/
theorem rd_of_wordsKept {s t : State} {ks : List Nat} (h : WordsKept s t ks) {f : Fld} (h1 : f.key ∉ ks)
    (h2 : 32 < f.w → f.key + 4 ∉ ks) : t.rd f = s.rd f := by
  unfold State.rd
  rw [h _ h1]
  split
  · rfl
  · rw [h _ (h2 (by omega))]

/-- The judgement of a commit reads the role, the commits, the frame clock and registers outside bits [63:32] of COMMIT and the STATUS word
    of the CMT page (02 R47, R459). -/
theorem judge_of_wordsKept {s t : State} (hw : WordsKept s t [R.CMT.COMMIT.key + 4, R.CMT.BUSY.key]) (hr : t.role = s.role)
    (hc : t.cmt = s.cmt) (hf : t.frm = s.frm) (target w : Nat) : t.judge target w = s.judge target w := by
  have hepoch : t.epoch = s.epoch := rd_of_wordsKept hw (by decide) (by decide)
  have hstate : t.rd R.GLB.STATE = s.rd R.GLB.STATE := rd_of_wordsKept hw (by decide) (by decide)
  have hlate : t.rd R.CMT.LATE_REJECT = s.rd R.CMT.LATE_REJECT := rd_of_wordsKept hw (by decide) (by decide)
  have hnum : t.rd R.CLK.RATE_NUM.live = s.rd R.CLK.RATE_NUM.live := rd_of_wordsKept hw (by decide) (by decide)
  have hden : t.rd R.CLK.RATE_1001.live = s.rd R.CLK.RATE_1001.live := rd_of_wordsKept hw (by decide) (by decide)
  have hsrc : t.rd R.CLK.SRC1.live = s.rd R.CLK.SRC1.live := rd_of_wordsKept hw (by decide) (by decide)
  have hoff : t.rd R.CLK.TICK_OFFSET.live = s.rd R.CLK.TICK_OFFSET.live := rd_of_wordsKept hw (by decide) (by decide)
  have hsender : t.isSender = s.isSender := by
    unfold State.isSender State.running State.stateCode
    rw [hstate, hr]
  have hplaces : t.placesAnew = s.placesAnew := by
    funext g
    unfold State.placesAnew periodChanged numOf denOf State.lv
    rw [hnum, hden, hsrc, hoff]
  have hpos : t.tickPos = s.tickPos := by
    funext j
    unfold State.tickPos State.rateNum State.rateDen State.lv
    rw [hnum, hden, hf]
  have hfirst : t.firstTick w = s.firstTick w := by
    unfold State.firstTick State.judgedTick
    rw [hepoch, hsender, hplaces, hpos, hc, hf]
  unfold State.judge State.flag
  rw [hfirst, hepoch, hlate, hc]

/-! The registers that an accepted write of COMMIT sets (03 R71, R72). -/

/-- The state once the write of bits [63:32] of COMMIT is stored and its STATUS bits are set, before the snapshot. -/
def commitRegs (hi : Word32) (s : State) : State :=
  ((((s.setWord (R.CMT.COMMIT.key + 4) hi).wr R.CMT.st_LATE 0).wr R.CMT.DROPPED 0).wr R.CMT.REJECTED 0).wr R.CMT.BUSY 1

/-- The commit that the write starts. -/
def startedCommit (hi : Word32) (s : State) : Commit :=
  { target := (commitRegs hi s).rd R.CMT.COMMIT, origins := [(commitRegs hi s).rd R.CMT.COMMIT], snap := (commitRegs hi s).snapshot }

/-- An accepted write of COMMIT, in full: registers, a snapshot and the judgement from the first tick on. -/
theorem commitFx_accepted (hi : Word32) {s : State} (hr : s.role = .sender) (hb : s.flag R.CMT.BUSY = false) :
    commitFx hi s = { commitRegs hi s with cmt := { s.cmt with
      check := some (startedCommit hi s, s.time)
      judged := if s.frm.ticked then some ((commitRegs hi s).judge (startedCommit hi s).target s.time) else none } } := by
  unfold commitFx
  rw [if_neg (by simp [hr, hb])]
  rfl

/-- Only register words change. -/
theorem commitRegs_eq (hi : Word32) (s : State) : commitRegs hi s = { s with regs := (commitRegs hi s).regs } := by
  unfold commitRegs
  rw [wr_eq, wr_eq, wr_eq, wr_eq]
  rfl

/-- Outside STATUS the only write is that of bits [63:32] of COMMIT. -/
theorem commitRegs_word (hi : Word32) (s : State) {k : Nat} (h : k ≠ R.CMT.BUSY.key) :
    (commitRegs hi s).word k = if k = R.CMT.COMMIT.key + 4 then hi else s.word k := by
  have hstatus (f : Fld) (hf : f.key = R.CMT.BUSY.key) (hw : f.w ≤ 32) (u : State) (v : Nat) : (u.wr f v).word k = u.word k :=
    word_wr_ne u v (by rwa [hf]) (by omega)
  unfold commitRegs
  rw [hstatus R.CMT.BUSY rfl (by decide), hstatus R.CMT.REJECTED rfl (by decide), hstatus R.CMT.DROPPED rfl (by decide),
    hstatus R.CMT.st_LATE rfl (by decide), word_setWord]

/-- Two words change: bits [63:32] of COMMIT and STATUS. -/
theorem commitRegs_wordsKept (hi : Word32) (s : State) : WordsKept s (commitRegs hi s) [R.CMT.COMMIT.key + 4, R.CMT.BUSY.key] := by
  intro k hk
  obtain ⟨hhi, hst⟩ : k ≠ R.CMT.COMMIT.key + 4 ∧ k ≠ R.CMT.BUSY.key := by simpa using hk
  rw [commitRegs_word hi s hst, if_neg hhi]

/-- BUSY reads 1. -/
theorem commitRegs_busy (hi : Word32) (s : State) : (commitRegs hi s).rd R.CMT.BUSY = 1 := rd_wr_same _ (.inl (by decide)) 1

/-- The target is formed of the stored lower word and the written upper word. -/
theorem commitRegs_target (hi : Word32) (s : State) :
    (commitRegs hi s).rd R.CMT.COMMIT = (s.word R.CMT.COMMIT.key).toNat + 2 ^ 32 * hi.toNat := by
  have hlow : (commitRegs hi s).word R.CMT.COMMIT.key = s.word R.CMT.COMMIT.key := commitRegs_wordsKept hi s _ (by decide)
  have hhigh : (commitRegs hi s).word (R.CMT.COMMIT.key + 4) = hi :=
    (commitRegs_word hi s (by decide)).trans (if_pos rfl)
  have hl := (s.word R.CMT.COMMIT.key).isLt
  have hh := hi.isLt
  rw [State.rd, if_neg (by decide), hlow, hhigh]
  exact Nat.mod_eq_of_lt (show _ < 2 ^ 64 by omega)

/-- No shadow register and no live copy is among the words that change (03 R62). -/
theorem commitRegs_shadow_live (hi : Word32) (s : State) {k : Nat} (h : isShadow k = true ∨ isLive k = true) :
    (commitRegs hi s).word k = s.word k := by
  refine commitRegs_wordsKept hi s k fun hk => ?_
  have hk : k = R.CMT.COMMIT.key + 4 ∨ k = R.CMT.BUSY.key := by simpa using hk
  rcases hk with rfl | rfl
  · exact absurd h (by decide)
  · exact absurd h (by decide)

/-- A snapshot holds the value of every shadow register (02 R45). -/
theorem snapshot_get (s : State) {k : Nat} (h : isShadow k = true) : smGet resetWord s.snapshot k = s.word k := by
  rw [State.snapshot, smGet_keep, if_pos h]
  rfl

/-- The judgement at the write is that of the state before it. -/
theorem commitRegs_judge (hi : Word32) (s : State) (target w : Nat) : (commitRegs hi s).judge target w = s.judge target w := by
  have h := commitRegs_eq hi s
  exact judge_of_wordsKept (commitRegs_wordsKept hi s) (by rw [h]) (by rw [h]) (by rw [h]) target w

/-! Writes of shadow registers (03 R62, R65). -/

/-- A word that has a row lies within the words of a row of the list. -/
theorem rowAt_some {o : Nat} {rs : List Row} {r : Row} (h : rowAt o rs = some r) :
    r ∈ rs ∧ r.off ≤ o ∧ o ≤ r.off + r.cnt * r.stride := by
  induction rs with
  | nil => cases h
  | cons x xs ih =>
    simp only [rowAt] at h
    split at h
    next hx =>
      obtain rfl : x = r := Option.some.inj h
      refine ⟨List.mem_cons_self, ?_⟩
      rcases hx with rfl | ⟨-, hle, hmod, hlt⟩
      · omega
      · have hdiv := Nat.div_add_mod (o - x.off) x.stride
        have hbound := Nat.mul_le_mul_left x.stride hlt.le
        rw [Nat.mul_comm x.stride x.cnt] at hbound
        omega
    next =>
      obtain ⟨hmem, hle⟩ := ih h
      exact ⟨List.mem_cons_of_mem _ hmem, hle⟩

/-- On every page the rows of class SH lie between the common head and the table window (03 R62). -/
theorem shadowRows_range (b : Blk) :
    b.rows.all (fun r => r.cls != .sh || (decide (0x40 ≤ r.off) && decide (r.off + r.cnt * r.stride < 0x800))) = true := by
  cases b <;> decide

/-- So does every word of class SH. -/
theorem rowAt_shadow_range {b : Blk} {off : Nat} {r : Row} (h : rowAt off b.rows = some r) (hr : r.cls = .sh) :
    0x40 ≤ off ∧ off < 0x800 := by
  obtain ⟨hmem, hlo, hhi⟩ := rowAt_some h
  have hrow := List.all_eq_true.mp (shadowRows_range b) r hmem
  simp only [hr, bne_self_eq_false, Bool.false_or, Bool.and_eq_true, decide_eq_true_eq] at hrow
  omega

/-- A write of a word of class SH is a shadow write, under the mask of its row. -/
theorem pageWriteFx_shadow {b : Blk} {n page off : Nat} {r : Row} (v : Word32) (s : State) (hsdi : isSdi4 b n = false)
    (h : rowAt off b.rows = some r) (hr : r.cls = .sh) :
    pageWriteFx b n page off v s = shadowWriteFx b n page off r.mask v s := by
  obtain ⟨hlo, hhi⟩ := rowAt_shadow_range h hr
  unfold pageWriteFx
  rw [hsdi, if_neg (by decide), if_neg (by omega), if_neg (by omega), if_neg (by omega), if_neg (by omega), if_neg (by omega),
    if_neg (by omega), h]
  simp only [hr]

/-- A shadow write stores one register word: it leaves the commits alone. -/
theorem shadowWriteFx_cmt (b : Blk) (n page off mask : Nat) (v : Word32) (s : State) :
    (shadowWriteFx b n page off mask v s).cmt = s.cmt := rfl

/-- A full write of an aligned word of a page that answers is a write of that page's word. -/
theorem registerWriteFx_page {b : Blk} {n page off : Nat} (v : Word32) (s : State) (hb : blkOf page = some (b, n))
    (hp : s.pageOn page = true) (ha : off % 4 = 0) (ho : off < 0x1000) :
    registerWriteFx (regKey page off) 15 v s = pageWriteFx b n page off v s := by
  have haligned : regKey page off % 4 = 0 := by unfold regKey; omega
  have hpage : regKey page off / 0x1000 = page := by unfold regKey; omega
  have hoff : regKey page off % 0x1000 = off := by unfold regKey; omega
  unfold registerWriteFx
  rw [if_neg (by omega), hpage, hoff, hb]
  simp only [hp, State.cond, if_true]

/-! The two commands. -/

/-- COMMIT on a page that answers. -/
theorem exec_commit_on {hi : Word32} {t0 : Nat} {s : State} (hp : s.pageOn 0x002 = true) :
    exec (.commit hi t0) s = .next (commitFx hi (s.atTime t0)) := by
  change execCommit hi t0 s = _
  unfold execCommit
  rw [hp]
  rfl

/-- REGISTER_WRITE is a write after its time is read. -/
theorem exec_registerWrite (addr be : Nat) (v : Word32) (t0 : Nat) (s : State) :
    exec (.registerWrite addr be v t0) s = .next (registerWriteFx addr be v (s.atTime t0)) := rfl

/-- A write of a shadow register leaves the commit in validation and the pending ones alone (02 R45). -/
theorem shadowWrite_keeps_cmt {b : Blk} {n page off : Nat} {r : Row} (v : Word32) (t0 : Nat) {s : State} (hb : blkOf page = some (b, n))
    (hp : s.pageOn page = true) (hsdi : isSdi4 b n = false) (ha : off % 4 = 0) (ho : off < 0x1000) (h : rowAt off b.rows = some r)
    (hr : r.cls = .sh) : Completes (.registerWrite (regKey page off) 15 v t0) s (fun t => t.cmt = s.cmt) := by
  refine ⟨_, exec_registerWrite _ _ _ _ _, ?_⟩
  rw [registerWriteFx_page v (s.atTime t0) hb hp ha ho, pageWriteFx_shadow v _ hsdi h hr]
  exact shadowWriteFx_cmt b n page off r.mask v (s.atTime t0)

/-- Settles O28: the write changes two words, neither of them a shadow register or a live copy, so its snapshot and its judgement are those
    of the state before it; a shadow write stores one register word and reaches no commit. -/
theorem commitsSnapshotTheShadow : Obligations.CommitsSnapshotTheShadow := by
  unfold Obligations.CommitsSnapshotTheShadow
  refine ⟨fun hi t0 s hr hp hb => ?_, fun _ _ _ _ _ v t0 _ hb hp hsdi ha ho h hc => shadowWrite_keeps_cmt v t0 hb hp hsdi ha ho h hc⟩
  refine ⟨commitFx hi (s.atTime t0), exec_commit_on hp, ?_⟩
  rw [commitFx_accepted hi (s := s.atTime t0) hr hb]
  refine ⟨⟨startedCommit hi (s.atTime t0), ?verdict, commitRegs_target hi (s.atTime t0), ?snapshot⟩, ?frame,
    commitRegs_busy hi (s.atTime t0), fun _ hk => commitRegs_shadow_live hi (s.atTime t0) hk⟩
  case verdict =>
    simp only [commitRegs_judge]
    rfl
  case snapshot =>
    intro k hk
    calc smGet resetWord (commitRegs hi (s.atTime t0)).snapshot k
      _ = (commitRegs hi (s.atTime t0)).word k := snapshot_get _ hk
      _ = s.word k := commitRegs_shadow_live hi (s.atTime t0) (.inl hk)
  case frame =>
    unfold OnlyRegs
    rw [commitRegs_eq]
    rfl

end Sys2Proof.Proofs.Commits

/-!
A shadow register that does not store its whole row: the configuration word of DRM1 to DRM3 (14 R393; 03 R65).
-/

namespace Sys2Proof.Proofs.ShadowWrites
open Sys2Proof.Machine Sys2Proof.Laws Sys2Proof.Proofs.Commits

/-- The word of a masked write. -/
theorem word_maskedWrite (s : State) (page off mask : Nat) (v : Word32) :
    (s.maskedWrite page off mask v).word (regKey page off) =
      (s.word (regKey page off) &&& ~~~(BitVec.ofNat 32 mask)) ||| (v &&& BitVec.ofNat 32 mask) := word_setWord_same s _ _

/-- The row of the configuration word of a DRM page. -/
theorem rowAt_drm_config : rowAt 0x040 Blk.drm.rows = some ⟨0x040, 0x0, 1, 0x1FF, 0xC2, .sh⟩ := rfl

/-- DRM1 to DRM3 store every field of their configuration word but CHANNELS, which exists on DRM0 only (14 R393). -/
theorem shadowWriteFx_drm_config {n : Nat} (hn : n ≠ 0) (page : Nat) (v : Word32) (s : State) :
    shadowWriteFx .drm n page 0x040 0x1FF v s = s.maskedWrite page 0x040 0x1FC v := by
  simp [shadowWriteFx, hn, R.DRM.CHANNELS]

/-- A write of the configuration word of DRM1 to DRM3. -/
theorem exec_drm_config_write {n page : Nat} (hn : n ≠ 0) (hb : blkOf page = some (.drm, n)) (v : Word32) (t0 : Nat) {s : State}
    (hp : s.pageOn page = true) :
    exec (.registerWrite (regKey page 0x040) 15 v t0) s = .next ((s.atTime t0).maskedWrite page 0x040 0x1FC v) := by
  rw [exec_registerWrite, registerWriteFx_page v (s.atTime t0) hb hp (by decide) (by decide),
    pageWriteFx_shadow v _ rfl rowAt_drm_config rfl, shadowWriteFx_drm_config hn]

/-- A sender whose firmware runs; every other register reads its reset value. -/
def loadedSender : State := State.reset.wr R.GLB.STATE stLOADED

/-- Page 0x0E1 is DRM1 (03 R67). -/
theorem blkOf_drm1 : blkOf 0x0E1 = some (.drm, 1) := by decide

/-- It answers on that sender (03 R59). -/
theorem loadedSender_drm1 : loadedSender.pageOn 0x0E1 = true := by decide

/-- Its configuration word reads its reset value. -/
theorem loadedSender_config : loadedSender.word (regKey 0x0E1 0x040) = 0xC2 := by decide

/-- Refutes O5: the statement leaves out that CHANNELS exists on DRM0 only (14 R393). With 1 written to the configuration word of DRM1, which
    reads 0xC2, the row's mask 0x1FF promises the word 1; but CHANNELS keeps its 2, and the word reads 2. -/
theorem not_shadowRegistersAndLiveCopies : ¬ Obligations.ShadowRegistersAndLiveCopies := by
  unfold Obligations.ShadowRegistersAndLiveCopies
  rintro ⟨hshadow, -, -⟩
  obtain ⟨u, hexec, -, -, hword, -⟩ :=
    hshadow .drm 1 0x0E1 0x040 _ 1 0 loadedSender blkOf_drm1 loadedSender_drm1 rfl rfl (by decide) rowAt_drm_config rfl
  obtain rfl : (loadedSender.atTime 0).maskedWrite 0x0E1 0x040 0x1FC 1 = u :=
    Host.Outcome.next.inj ((exec_drm_config_write one_ne_zero blkOf_drm1 1 0 loadedSender_drm1).symm.trans hexec)
  have hpromised := hword (.inl (by decide)) (by decide)
  rw [word_maskedWrite, word_atTime, loadedSender_config] at hpromised
  exact absurd hpromised (by decide)

end Sys2Proof.Proofs.ShadowWrites

/-!
Which words of the sparse register list a change leaves alone: the rules about `smKeep` and `smPutAll` that snapshots and pending commits
rest on.
-/

namespace Sys2Proof.Proofs.KeptWords
open Sys2Proof.Machine Sys2Proof.Laws

/-- The kept entries do not notice that an entry outside them goes. -/
theorem smKeep_del {α : Type} {p : Nat → Bool} {k : Nat} (hk : p k = false) (m : List (Nat × α)) :
    smKeep p (smDel m k) = smKeep p m := by
  induction m with
  | nil => rfl
  | cons q m ih =>
    obtain ⟨a, v⟩ := q
    by_cases ha : a = k
    · subst ha
      simp [smDel, smKeep, hk, ih]
    · simp [smDel, smKeep, ha, ih]

/-- Nor that one outside them is written. -/
theorem smKeep_set {α : Type} [DecidableEq α] (d : Nat → α) {p : Nat → Bool} {k : Nat} (hk : p k = false) (x : α) (m : List (Nat × α)) :
    smKeep p (smSet d m k x) = smKeep p m := by
  induction m with
  | nil =>
    by_cases hx : x = d k
    · simp [smSet, hx]
    · simp [smSet, smKeep, hx, hk]
  | cons q m ih =>
    obtain ⟨a, v⟩ := q
    by_cases ha : a = k
    · subst ha
      by_cases hx : x = d a
      · simp [smSet, smKeep, hx, hk, smKeep_del hk]
      · simp [smSet, smKeep, hx, hk]
    · by_cases hlt : k < a
      · by_cases hx : x = d k
        · simp [smSet, smKeep, ha, hlt, hx, smKeep_del hk]
        · simp [smSet, smKeep, ha, hlt, hx, hk]
      · simp [smSet, smKeep, ha, hlt, ih]

/-- What a key reads as after a list of entries was written depends on what that key read as before, and on nothing else before. -/
theorem smGet_putAll_congr {α : Type} [DecidableEq α] (d : Nat → α) (xs : List (Nat × α)) {m m' : List (Nat × α)} {k : Nat}
    (h : smGet d m k = smGet d m' k) : smGet d (smPutAll d m xs) k = smGet d (smPutAll d m' xs) k := by
  induction xs generalizing m m' with
  | nil => exact h
  | cons x xs ih => exact ih (by rw [smGet_set, smGet_set, h])

/-- A snapshot does not notice a write outside the shadow registers (02 R45). -/
theorem snapshot_wr (s : State) {f : Fld} (hw : f.w ≤ 32) (hf : isShadow f.key = false) (v : Nat) :
    (s.wr f v).snapshot = s.snapshot := by
  unfold State.wr
  rw [if_pos hw]
  exact smKeep_set resetWord hf _ _

/-- The configuration in force at an epoch differs from the state in register words alone (02 R46). -/
theorem inForce_eq (s : State) (e : Nat) : s.inForce e = { s with regs := (s.inForce e).regs } := by
  unfold State.inForce
  split <;> rfl

/-- States with the same pending commits keep the same words when the commits are put in force (02 R46). -/
theorem inForce_wordsKept {s t : State} {ks : List Nat} (h : WordsKept s t ks) (hc : t.cmt = s.cmt) (e : Nat) :
    WordsKept (s.inForce e) (t.inForce e) ks := by
  intro k hk
  unfold State.inForce
  rw [hc]
  split
  · exact h k hk
  · refine smGet_putAll_congr resetWord _ ?_
    rw [smGet_keep, smGet_keep]
    exact if_congr Iff.rfl (h k hk) rfl

end Sys2Proof.Proofs.KeptWords

/-!
A tile that turns dark in mid-frame (05 R134; 11 R308; 12 R331): the parts of the state and the words that change, none of which a snapshot
holds or the check of a commit reads.
-/

namespace Sys2Proof.Proofs.DarkFrames
open Sys2Proof.Machine Sys2Proof.Laws Sys2Proof.Proofs.Commits Sys2Proof.Proofs.KeptWords

/-- The STATUS words that turning dark writes: of the sampler, of the lamp bus and of its groups. -/
def darkKeys : List Nat := [R.LSM.COMPUTING.key, R.LMP.DARK.key] ++ (List.range 4).map (fun g => (R.SGP.ACTIVE g).key)

/-- Each is at the offset of STATUS. -/
theorem mod_of_mem_darkKeys {k : Nat} (h : k ∈ darkKeys) : k % 0x1000 = 0x00C := by
  have hall : darkKeys.all (fun k => k % 0x1000 == 0x00C) = true := by decide
  exact beq_iff_eq.mp (List.all_eq_true.mp hall k h)

/-- A word at another offset is none of them. -/
theorem not_mem_darkKeys {k : Nat} (h : k % 0x1000 ≠ 0x00C) : k ∉ darkKeys := fun hk => h (mod_of_mem_darkKeys hk)

/-- A shadow register lies above the common head of its page (03 R62). -/
theorem isShadow_offset {k : Nat} (h : isShadow k = true) : 0x40 ≤ k % 0x1000 := by
  unfold isShadow at h
  split at h
  · cases h
  · exact (of_decide_eq_true h).1

/-- So does a live copy. -/
theorem isLive_offset {k : Nat} (h : isLive k = true) : 0x440 ≤ k % 0x1000 := by
  unfold isLive at h
  split at h
  · cases h
  · exact (of_decide_eq_true h).1

/-- What turning dark may change: the field stores, the sampler, the lamp bus, debts and calibration records, the STATUS words of these units,
    outputs and free values. -/
structure DarkChange (s t : State) : Prop where
  frame : t = { s with regs := t.regs, til := t.til, lsm := t.lsm, lmp := t.lmp, imm := t.imm, cor := t.cor, out := t.out, free := t.free }
  words : WordsKept s t darkKeys
  snapshot : t.snapshot = s.snapshot

/-- A change of the named parts that leaves the registers alone. -/
theorem DarkChange.of_regs {s t : State}
    (h : t = { s with til := t.til, lsm := t.lsm, lmp := t.lmp, imm := t.imm, cor := t.cor, out := t.out, free := t.free }) :
    DarkChange s t where
  frame := by rw [h]
  words := fun k _ => word_congr (by rw [h]) k
  snapshot := by rw [h]; rfl

theorem DarkChange.refl (s : State) : DarkChange s s := .of_regs rfl

theorem DarkChange.trans {s t u : State} (h : DarkChange s t) (h' : DarkChange t u) : DarkChange s u where
  frame := by rw [h'.frame, h.frame]
  words := fun k hk => (h'.words k hk).trans (h.words k hk)
  snapshot := h'.snapshot.trans h.snapshot

/-- A write of a field in one of the STATUS words. -/
theorem DarkChange.wr (s : State) {f : Fld} (hk : f.key ∈ darkKeys) (hw : f.w ≤ 32) (v : Nat) : DarkChange s (s.wr f v) where
  frame := by rw [wr_eq]
  words := fun k hne => word_wr_ne s v (fun h => hne (h ▸ hk)) (by omega)
  snapshot := by
    refine snapshot_wr s hw (Bool.eq_false_iff.mpr fun h => ?_) v
    have := isShadow_offset h
    have := mod_of_mem_darkKeys hk
    omega

/-- A conditional change. -/
theorem DarkChange.cond {s : State} (b : Bool) {f : State → State} (h : DarkChange s (f s)) : DarkChange s (s.cond b f) :=
  cond_keeps (P := DarkChange s) b (.refl s) fun _ => h

/-- Calibration records that a reload has reached are copied (11 R303). -/
theorem calSync_dark (s : State) : DarkChange s s.calSync := .cond _ (.of_regs rfl)

/-- A byte of a table is written. -/
theorem setImmByte_dark (s : State) (page tab i v : Nat) : DarkChange s (s.setImmByte page tab i v) := .of_regs rfl

/-- A lamp that was computed repays its debt (11 R306). -/
theorem lamp_dark (r : SlotRun) (a : SlotAcc) (i : Nat) : DarkChange a.s (SlotAcc.lamp r a i).s := by
  unfold SlotAcc.lamp
  dsimp only
  exact .cond _ (setImmByte_dark ..)

/-- So do several. -/
theorem lamps_dark (r : SlotRun) (is : List Nat) (a : SlotAcc) : DarkChange a.s (is.foldl (SlotAcc.lamp r) a).s := by
  induction is generalizing a with
  | nil => exact .refl _
  | cons i is ih => exact (lamp_dark r a i).trans (ih _)

/-- COMPUTING is shown. -/
theorem computing_dark (s : State) (v : Nat) : DarkChange s (s.wr R.LSM.COMPUTING v) := .wr s (by decide) (by decide) v

/-- The computation in progress stops (11 R306). -/
theorem stopRun_dark (s : State) : DarkChange s s.stopRun.2 := by
  unfold State.stopRun
  split
  · exact .refl s
  · have hfresh : DarkChange s s.calSync.fresh.2 := (calSync_dark s).trans (.of_regs rfl)
    exact ((hfresh.trans (lamps_dark _ _ ⟨_, [], []⟩)).trans (.of_regs rfl)).trans (computing_dark _ 0)

/-- The slots still to compute are dropped (11 R308). -/
theorem stopSlots_dark (s : State) : DarkChange s s.stopSlots := DarkChange.trans (.of_regs rfl) (computing_dark _ 0)

/-- The STATUS word of a group of the lamp bus is among those that turning dark writes. -/
theorem active_mem_darkKeys {m : Member} {g : Nat} (h : g < memberGroups m) : (R.SGP.ACTIVE g).key ∈ darkKeys := by
  have h4 : memberGroups m ≤ 4 := by cases m <;> decide
  exact List.mem_append_right _ (List.mem_map.mpr ⟨g, List.mem_range.mpr (by omega), rfl⟩)

/-- The rows of a group go low (12 R327). -/
theorem rowsLow_dark (s : State) {g : Nat} (hg : (R.SGP.ACTIVE g).key ∈ darkKeys) : DarkChange s (s.rowsLow g) := by
  have hscan : DarkChange s (s.modGrp g (fun x => { x with scan := false })) := .of_regs rfl
  have hactive := hscan.trans (.wr _ hg (by decide : 1 ≤ 32) 0)
  exact (hactive.trans (.wr _ (f := R.LMP.GROUPS_ON) (by decide) (by decide) _)).trans (.of_regs rfl)

/-- The rows of several groups go low. -/
theorem rowsLows_dark (s : State) {gs : List Nat} (hgs : ∀ g ∈ gs, (R.SGP.ACTIVE g).key ∈ darkKeys) :
    DarkChange s (s.each gs State.rowsLow) := by
  unfold State.each
  induction gs generalizing s with
  | nil => exact .refl s
  | cons g gs ih =>
    exact (rowsLow_dark s (hgs g List.mem_cons_self)).trans (ih _ fun x hx => hgs x (List.mem_cons_of_mem g hx))

/-- The frame in progress turns dark (05 R134). -/
theorem darkNow_dark (s : State) : DarkChange s s.darkNow := by
  unfold State.darkNow
  split
  · exact .refl s
  · have hstopped := (stopRun_dark s).trans (stopSlots_dark _)
    refine (hstopped.trans (.of_regs rfl)).trans (.cond _ ?_)
    refine (rowsLows_dark _ fun g hg => ?_).trans (.cond _ (.wr _ (by decide) (by decide) 1))
    exact active_mem_darkKeys (List.mem_range.mp (List.mem_filter.mp hg).1)

end Sys2Proof.Proofs.DarkFrames

/-!
The check of a tile's own part (02 R51): which parts of the state it reads, and that turning dark changes none of them.
-/

namespace Sys2Proof.Proofs.TileChecks
open Sys2Proof.Machine Sys2Proof.Laws Sys2Proof.Proofs.Commits Sys2Proof.Proofs.KeptWords Sys2Proof.Proofs.DarkFrames

section
variable {s t : State} (hw : WordsKept s t darkKeys)
include hw

/-- The applied value of a field of at most one word reads as before (03 R62). -/
theorem lv_kept {f : Fld} (hk : f.live.key % 0x1000 ≠ 0x00C) (h32 : f.w ≤ 32) : t.lv f = s.lv f :=
  rd_of_wordsKept hw (not_mem_darkKeys hk) fun h => absurd h (by simpa [Fld.live] using h32)

/-- The enable of a coil port reads as before. -/
theorem coilEn_kept (p : Nat) : t.lv (R.COIL.EN p) = s.lv (R.COIL.EN p) := by
  refine lv_kept hw ?_ (by decide : 1 ≤ 32)
  simp only [Fld.live, Fld.key, regKey, R.COIL.EN]
  omega

/-- So does every field of a list, once the list is seen to hold fields of at most one word outside STATUS. -/
theorem lvs_kept {fs : List Fld} (h : fs.all (fun f => f.live.key % 0x1000 != 0x00C && decide (f.w ≤ 32)) = true) {f : Fld}
    (hf : f ∈ fs) : t.lv f = s.lv f := by
  have hone := List.all_eq_true.mp h f hf
  simp only [Bool.and_eq_true, bne_iff_ne, decide_eq_true_eq] at hone
  exact lv_kept hw hone.1 hone.2

/-- So do the fields that need an open loop to change (04 R103). -/
theorem loopFields_kept (role : Role) {n : Nat} (hn : n < 10) {f : Fld} (hf : f ∈ loopFields role n) : t.lv f = s.lv f := by
  have hall (role : Role) : ∀ n < 10, (loopFields role n).all (fun f => f.live.key % 0x1000 != 0x00C && decide (f.w ≤ 32)) = true := by
    cases role <;> decide
  exact lvs_kept hw (hall role n hn) hf

/-- So does the geometry of a tile (11 R297). -/
theorem geometry_kept {f : Fld} (hf : f ∈ geometryFields) : t.lv f = s.lv f := lvs_kept hw (by decide) hf

/-- The checks of the LOOP page read the role, which loops are open and applied coefficients (04 R103). -/
theorem checkLoop_kept (hr : t.role = s.role) (snap : List (Nat × Word32)) : t.checkLoop snap = s.checkLoop snap := by
  have hopen (n : Nat) : t.isOpen n = s.isOpen n := by
    unfold State.isOpen
    rw [rd_of_wordsKept hw (by decide) (by decide)]
  have hclosed (n : Nat) (hn : n < 10) :
      (loopFields s.role n).flatMap (fun f => errAt (snapRd snap f != t.lv f) ceLOOP_CLOSED f) =
        (loopFields s.role n).flatMap (fun f => errAt (snapRd snap f != s.lv f) ceLOOP_CLOSED f) :=
    List.flatMap_congr fun f hf => by rw [loopFields_kept hw s.role hn hf]
  unfold State.checkLoop
  refine List.flatMap_congr fun n hn => ?_
  rw [hopen, hr, hclosed n (List.mem_range.mp hn)]

/-- The checks of the firmware page read the update state and ACTIVATE (16 R429). -/
theorem checkFw_kept (g : Cfg) : t.checkFw g = s.checkFw g := by
  have hstate : t.rd R.FW.UPD_STATE = s.rd R.FW.UPD_STATE := rd_of_wordsKept hw (by decide) (by decide)
  have hact : t.lv R.FW.ACTIVATE = s.lv R.FW.ACTIVATE := lv_kept hw (by decide) (by decide)
  unfold State.checkFw
  rw [hstate, hact]

/-- The checks of a hub read the applied ports and geometry, the child layout tables and the sub-coil flag (01 R25). -/
theorem checkHub_kept (hm : t.member = s.member) (hp : t.pendW = s.pendW) (ht : t.tabs = s.tabs) (hred : t.red = s.red) (g : Cfg) :
    t.checkHub g = s.checkHub g := by
  have hsubs : subsOf s.member t.lv = subsOf s.member s.lv := by
    unfold subsOf
    simp only [coilEn_kept hw]
  have hlayout : t.layoutChanged = s.layoutChanged := by
    unfold State.layoutChanged State.tabW
    rw [hp, ht]
  have hgeo : geometryFields.any (fun f => g f != t.lv f) = geometryFields.any (fun f => g f != s.lv f) := by
    rw [Bool.eq_iff_iff, List.any_eq_true, List.any_eq_true]
    exact exists_congr fun f => and_congr_right fun hf => by rw [geometry_kept hw hf]
  unfold State.checkHub
  simp only [hm, hsubs, hlayout, hgeo, hp, coilEn_kept hw, hred]

/-- The check of a tile's own part (02 R51). -/
theorem tileErrs_kept (hr : t.role = s.role) (hm : t.member = s.member) (hp : t.pend = s.pend) (ht : t.tabs = s.tabs)
    (hred : t.red = s.red) (snap : List (Nat × Word32)) : t.tileErrs snap = s.tileErrs snap := by
  have hpend : t.pendW = s.pendW := by
    unfold State.pendW
    rw [hp]
  unfold State.tileErrs
  simp only [checkLoop_kept hw hr, checkFw_kept hw, checkHub_kept hw hm hpend ht hred, hm, hpend]

/-- The same against the configuration in force at an epoch (02 R46). -/
theorem tileErrs_inForce_kept (hr : t.role = s.role) (hm : t.member = s.member) (hp : t.pend = s.pend) (ht : t.tabs = s.tabs)
    (hred : t.red = s.red) (hc : t.cmt = s.cmt) (e : Nat) (snap : List (Nat × Word32)) :
    (t.inForce e).tileErrs snap = (s.inForce e).tileErrs snap := by
  have hforce := inForce_wordsKept hw hc e
  rw [inForce_eq t, inForce_eq s] at hforce ⊢
  exact tileErrs_kept hforce hr hm hp ht hred snap

end

/-- The check does not notice that the frame turned dark. -/
theorem darkChange_tileErrs {s t : State} (h : DarkChange s t) (e : Nat) (snap : List (Nat × Word32)) :
    (t.inForce e).tileErrs snap = (s.inForce e).tileErrs snap :=
  tileErrs_inForce_kept h.words (by rw [h.frame]) (by rw [h.frame]) (by rw [h.frame]) (by rw [h.frame]) (by rw [h.frame])
    (by rw [h.frame]) e snap

/-- Nor that the clock was read. -/
theorem atTime_tileErrs (s : State) (t0 e : Nat) (snap : List (Nat × Word32)) :
    ((s.atTime t0).inForce e).tileErrs snap = (s.inForce e).tileErrs snap :=
  tileErrs_inForce_kept (fun k _ => word_atTime s t0 k) rfl rfl rfl rfl rfl rfl e snap

end Sys2Proof.Proofs.TileChecks

/-!
EPOCH_LOAD, and the commits of a tile: a write of COMMIT is dropped, a CONFIG marker is taken (02 R51, R52; 03 R72).
-/

namespace Sys2Proof.Proofs.TileCommits
open Sys2Proof.Machine Sys2Proof.Laws Sys2Proof.Proofs.Commits Sys2Proof.Proofs.KeptWords Sys2Proof.Proofs.DarkFrames
  Sys2Proof.Proofs.TileChecks

/-! EPOCH_LOAD (03 R72). -/

/-- EPOCH_LOAD on a page that answers. -/
theorem exec_epochLoad_on {hi : Word32} {s : State} (hp : s.pageOn 0x002 = true) :
    exec (.epochLoad hi) s = .next (epochLoadFx hi s.start) := by
  change execEpochLoad hi s = _
  unfold execEpochLoad
  rw [hp]
  rfl

/-- Storing bits [63:32] leaves the device state as it reads. -/
theorem stateCode_setLoad (hi : Word32) (s : State) : (s.setWord (R.CMT.EPOCH_LOAD.key + 4) hi).stateCode = s.stateCode :=
  rd_setWord_ne s hi (by decide) (fun h => absurd h (by decide))

/-- In LOADED and ARMED the number is armed. -/
theorem epochLoadFx_armed (hi : Word32) {s : State} (h : s.stateCode = stLOADED ∨ s.stateCode = stARMED) :
    epochLoadFx hi s = { s.setWord (R.CMT.EPOCH_LOAD.key + 4) hi with cmt := { s.cmt with loadArmed := true } } :=
  if_pos (by rwa [← stateCode_setLoad hi s] at h)

/-- In any other state LOAD_REFUSED is set. -/
theorem epochLoadFx_refused (hi : Word32) {s : State} (h1 : s.stateCode ≠ stLOADED) (h2 : s.stateCode ≠ stARMED) :
    epochLoadFx hi s = (s.setWord (R.CMT.EPOCH_LOAD.key + 4) hi).wr R.CMT.LOAD_REFUSED 1 := by
  rw [← stateCode_setLoad hi s] at h1 h2
  exact if_neg fun h => h.elim h1 h2

/-- The number is formed of the stored lower word and the written upper word. -/
theorem epochLoad_number (hi : Word32) (s : State) : (s.setWord (R.CMT.EPOCH_LOAD.key + 4) hi).rd R.CMT.EPOCH_LOAD =
    (s.word R.CMT.EPOCH_LOAD.key).toNat + 2 ^ 32 * hi.toNat := by
  have hl := (s.word R.CMT.EPOCH_LOAD.key).isLt
  have hh := hi.isLt
  rw [State.rd, if_neg (by decide), word_setWord_ne _ _ (by decide), word_setWord_same]
  exact Nat.mod_eq_of_lt (show _ < 2 ^ 64 by omega)

/-! A write of COMMIT in a tile (03 R72). -/

/-- A tile runs its firmware and stands in the tile role. -/
theorem isTile_iff (s : State) : s.isTile = true ↔ s.running = true ∧ s.role = .tile := by
  simp [State.isTile]

/-- Its CMT page answers (03 R59). -/
theorem isTile_cmt_on {s : State} (h : s.isTile = true) : s.pageOn 0x002 = true := by
  obtain ⟨hrun, -⟩ := (isTile_iff s).mp h
  have hstate : 2 ≤ s.stateCode := of_decide_eq_true hrun
  have hblk : blkOf 0x002 = some (.cmt, 0) := by decide
  unfold State.pageOn
  rw [hblk]
  simp [hrun, Blk.inRole, State.instances, Blk.count]
  omega

/-- A dropped write changes register words alone. -/
theorem dropCommit_eq (s : State) : s.dropCommit = { s with regs := s.dropCommit.regs } := by
  unfold State.dropCommit State.inc State.incBy
  rw [wr_eq, wr_eq s]

/-- It sets DROPPED. -/
theorem dropCommit_dropped (s : State) : s.dropCommit.rd R.CMT.DROPPED = 1 := by
  have hapart : Fld.apart R.CMT.DROPPED R.CMT.CNT_DROPPED := .inl (by decide)
  exact (rd_wr_apart _ (.inl (by decide)) hapart _).trans (rd_wr_same s (.inl (by decide)) 1)

/-- It changes the words of DROPPED and of its counter. -/
theorem dropCommit_wordsKept (s : State) : WordsKept s s.dropCommit [R.CMT.DROPPED.key, R.CMT.CNT_DROPPED.key] := by
  intro k hk
  obtain ⟨hst, hcnt⟩ : k ≠ R.CMT.DROPPED.key ∧ k ≠ R.CMT.CNT_DROPPED.key := by simpa using hk
  exact (word_wr_ne _ _ hcnt (fun h => absurd h (by decide))).trans (word_wr_ne _ _ hst (fun h => absurd h (by decide)))

/-- In a tile every write of COMMIT is dropped. -/
theorem commitFx_tile (hi : Word32) {s : State} (h : s.role = .tile) : commitFx hi s = s.dropCommit := if_pos (.inl h)

/-- A register write of bits [63:32] of COMMIT is a write of COMMIT. -/
theorem registerWriteFx_commit (hi : Word32) {s : State} (hp : s.pageOn 0x002 = true) : registerWriteFx 0x2604 15 hi s = commitFx hi s :=
  registerWriteFx_page (b := .cmt) (n := 0) (page := 0x002) (off := 0x604) hi s (by decide) hp (by decide) (by decide)

/-- What the write of COMMIT comes to in a tile. -/
theorem dropped_at (s : State) (t0 : Nat) : OnlyRegs s (s.atTime t0).dropCommit ∧ (s.atTime t0).dropCommit.rd R.CMT.DROPPED = 1 ∧
    WordsKept s (s.atTime t0).dropCommit [R.CMT.DROPPED.key, R.CMT.CNT_DROPPED.key] := by
  refine ⟨?_, dropCommit_dropped _, dropCommit_wordsKept (s.atTime t0)⟩
  unfold OnlyRegs
  rw [dropCommit_eq]
  rfl

/-! A CONFIG marker in a tile (02 R51, R52). -/

/-- The CFG_ERR words of a device are rewritten (03 R68). -/
def showCfgErrs (es : List CfgErr) (s : State) : State := s.each s.pages (fun s p => s.setCfgErr p (cfgErrWord es p))

/-- No other word changes. -/
theorem showCfgErrs_word (es : List CfgErr) (s : State) {k : Nat} (hk : k % 0x1000 ≠ 0x024) : (showCfgErrs es s).word k = s.word k := by
  have hne (p : Nat) : k ≠ regKey p 0x024 := fun h => hk (by subst h; unfold regKey; omega)
  exact each_keeps (P := fun t => t.word k = s.word k) s.pages
    (f := fun s p => s.setCfgErr p (cfgErrWord es p)) (fun t p ht => (word_setWord_ne t _ (hne p)).trans ht) rfl

/-- What an acceptance shows before it is counted (02 R49; 03 R68). -/
def acceptShown (es : List CfgErr) (s : State) : State :=
  { showCfgErrs es s with boot := { (showCfgErrs es s).boot with anyCommit := true } }

/-- An acceptance is shown, then counted. -/
theorem showAccept_eq (s : State) (es : List CfgErr) : s.showAccept es = (acceptShown es s).inc R.CMT.CNT_ACCEPT := rfl

/-- Showing it changes CFG_ERR words alone. -/
theorem acceptShown_word (es : List CfgErr) (s : State) {k : Nat} (hk : k % 0x1000 ≠ 0x024) : (acceptShown es s).word k = s.word k := by
  have hregs : (acceptShown es s).regs = (showCfgErrs es s).regs := rfl
  rw [word_congr hregs, showCfgErrs_word es s hk]

/-- An acceptance keeps every word but CFG_ERR and its counter. -/
theorem showAccept_word (s : State) (es : List CfgErr) {k : Nat} (hk : k % 0x1000 ≠ 0x024) (hcnt : k ≠ R.CMT.CNT_ACCEPT.key) :
    (s.showAccept es).word k = s.word k := by
  rw [showAccept_eq]
  exact (word_wr_ne _ _ hcnt (fun h => absurd h (by decide))).trans (acceptShown_word es s hk)

/-- It is counted (03 R66). -/
theorem showAccept_counted (s : State) (es : List CfgErr) : Counted s (s.showAccept es) R.CMT.CNT_ACCEPT := by
  have hbefore : (acceptShown es s).rd R.CMT.CNT_ACCEPT = s.rd R.CMT.CNT_ACCEPT := by
    rw [State.rd, State.rd, acceptShown_word es s (by decide), if_pos (by decide), if_pos (by decide)]
  have hcount : (s.showAccept es).rd R.CMT.CNT_ACCEPT = min ((acceptShown es s).rd R.CMT.CNT_ACCEPT + 1) 0xFFFFFFFF % 2 ^ 32 :=
    rd_wr_same _ (.inl (by decide)) _
  rw [Counted, hcount, hbefore]
  exact Nat.mod_eq_of_lt (by omega)

/-- A commit that joins the pending ones is among them, alone or merged, with its own snapshot (02 R48). -/
theorem mem_addCommit (c : Commit) (cs : List Commit) : ∃ d ∈ addCommit c cs, d.target = c.target ∧ d.snap = c.snap := by
  induction cs with
  | nil => exact ⟨c, List.mem_cons_self, rfl, rfl⟩
  | cons d ds ih =>
    unfold addCommit
    split
    · exact ⟨_, List.mem_cons_self, rfl, rfl⟩
    · split
      · exact ⟨c, List.mem_cons_self, rfl, rfl⟩
      · obtain ⟨x, hx, hxc⟩ := ih
        exact ⟨x, List.mem_cons_of_mem d hx, hxc⟩

/-- A tile whose part passes its check shows the acceptance and holds its snapshot as a pending commit (02 R51). -/
theorem tileCommit_accepted {s : State} (target apply : Nat) (wide : Option (List Word32 × Word32)) (recov : Bool)
    (hok : failures ((s.inForce apply).tileErrs (overlay wide s.snapshot)) = []) :
    ∃ es cmt, s.tileCommit target apply wide recov = { s.showAccept es with cmt := cmt } ∧
      ∃ c ∈ cmt.pend, c.target = apply ∧ c.snap = overlay wide s.snapshot := by
  unfold State.tileCommit
  simp only [hok, List.isEmpty_nil, if_true]
  exact ⟨_, _, rfl, mem_addCommit _ _⟩

/-- A marker that comes in time and is not ignored: where the tile has missed a commit that changes the frame period its frame turns dark,
    and it takes its commit (02 R52; 05 R134). -/
theorem configReceiveFx_inTime {b : ConfigBody} {s : State} (hig : s.ignores b = false) (hlt : s.epoch < b.target) :
    ∃ t, DarkChange s t ∧ configReceiveFx b s = t.tileCommit b.target b.target (some (b.sch, b.clk)) b.recovery := by
  have hlate : (s.frm.ticked && decide (b.target ≤ s.epoch)) = false := by
    rw [decide_eq_false (by omega), Bool.and_false]
  unfold configReceiveFx
  rw [if_neg (by rw [hig]; decide)]
  simp only [hlate, Bool.false_and, Laws.cond_false, Bool.false_eq_true, if_false]
  exact ⟨_, .cond _ (darkNow_dark s), rfl⟩

/-- CONFIG_RECEIVE at a tile with a node ID, on its upstream port, which is UP. -/
theorem exec_configReceive_up {port : Nat} (b : ConfigBody) (t0 : Nat) {s : State} (ht : s.isTile = true)
    (hup : s.red.upstream = some port) (hid : s.hasId = true) (hlink : s.isUp port = true) :
    exec (.configReceive port b t0) s = .next (configReceiveFx b (s.atTime t0)) := by
  change execConfigReceive port b t0 s = _
  unfold execConfigReceive
  rw [ht, hup, hid, hlink, beq_self_eq_true]
  rfl

/-- A marker in time for a part that passes its check: a pending commit holds the snapshot with the marker's wall-wide words, the acceptance is
    counted, and no shadow register and no live copy changes (02 R51, R52). -/
theorem configReceiveFx_accepted {b : ConfigBody} {s : State} (hig : s.ignores b = false) (hlt : s.epoch < b.target)
    (hok : failures ((s.inForce b.target).tileErrs (overlay (some (b.sch, b.clk)) s.snapshot)) = []) :
    (∃ c ∈ (configReceiveFx b s).cmt.pend, c.target = b.target ∧ c.snap = overlay (some (b.sch, b.clk)) s.snapshot) ∧
      Counted s (configReceiveFx b s) R.CMT.CNT_ACCEPT ∧
      ∀ k, isShadow k = true ∨ isLive k = true → (configReceiveFx b s).word k = s.word k := by
  obtain ⟨t, hdark, ht⟩ := configReceiveFx_inTime hig hlt
  rw [← darkChange_tileErrs hdark, ← hdark.snapshot] at hok
  obtain ⟨es, cmt, hcommit, hpend⟩ := tileCommit_accepted b.target b.target (some (b.sch, b.clk)) b.recovery hok
  have hregs : ({ t.showAccept es with cmt := cmt } : State).regs = (t.showAccept es).regs := rfl
  rw [ht, hcommit, ← hdark.snapshot]
  refine ⟨hpend, ?_, fun k hk => ?_⟩
  · have hcount : t.rd R.CMT.CNT_ACCEPT = s.rd R.CMT.CNT_ACCEPT := rd_of_wordsKept hdark.words (by decide) (by decide)
    unfold Counted
    rw [rd_congr hregs, showAccept_counted t es, hcount]
  · have hoff : 0x40 ≤ k % 0x1000 := hk.elim isShadow_offset fun h => le_trans (by decide) (isLive_offset h)
    have hcnt : k ≠ R.CMT.CNT_ACCEPT.key := by
      rintro rfl
      exact absurd hk (by decide)
    rw [word_congr hregs, showAccept_word t es (by omega) hcnt]
    exact hdark.words k (not_mem_darkKeys (by omega))

/-- Settles O29: a load is armed or refused by the device state; in a tile both ways of writing COMMIT drop it; and a marker in time makes a
    pending commit, before which the frame may turn dark without touching what is checked and kept. -/
theorem epochLoadsAndTileCommits : Obligations.EpochLoadsAndTileCommits := by
  unfold Obligations.EpochLoadsAndTileCommits
  refine ⟨fun hi s hp hst => ?armed, fun hi s hp h1 h2 => ?refused, fun hi t0 s ht => ?dropped,
    fun port t0 b s ht hup hid hlink hig hlt hok => ?marker⟩
  case armed =>
    refine ⟨_, exec_epochLoad_on hp, ?_⟩
    rw [epochLoadFx_armed hi (s := s.start) hst]
    exact ⟨rfl, epochLoad_number hi s, fun k hk => word_setWord_ne s hi (by simpa using hk)⟩
  case refused =>
    refine ⟨_, exec_epochLoad_on hp, ?_⟩
    rw [epochLoadFx_refused hi (s := s.start) h1 h2]
    exact ⟨wr_cmt _ _ _, rd_wr_same _ (.inl (by decide)) 1⟩
  case dropped =>
    obtain ⟨-, hrole⟩ := (isTile_iff s).mp ht
    have hon := isTile_cmt_on ht
    have hdrop : commitFx hi (s.atTime t0) = (s.atTime t0).dropCommit := commitFx_tile hi hrole
    refine ⟨⟨_, exec_commit_on hon, ?_⟩, ⟨_, exec_registerWrite _ _ _ _ _, ?_⟩⟩
    · rw [hdrop]
      exact dropped_at s t0
    · rw [registerWriteFx_commit hi (s := s.atTime t0) hon, hdrop]
      exact dropped_at s t0
  case marker =>
    rw [← atTime_tileErrs s t0] at hok
    exact ⟨_, exec_configReceive_up b t0 ht hup hid hlink, configReceiveFx_accepted (s := s.atTime t0) hig hlt hok⟩

end Sys2Proof.Proofs.TileCommits

/-!
Reads of register words that hold other words back (03 R60, R61; 04 R84): a read of a word that is not held holds what belongs to it, and a
read of a held word returns what was held.
-/

namespace Sys2Proof.Proofs.LatchedReads
open Sys2Proof.Machine Sys2Proof.Laws

/-! What a word reads as does not depend on the words held. -/

/-- The calibration records copied so far (11 R303) do not depend on them. -/
theorem calSync_immW_latch (s : State) (l : List (Nat × Word32)) (page tab i : Nat) :
    ({ s with latch := l } : State).calSync.immW page tab i = s.calSync.immW page tab i := by
  unfold State.calSync
  have hcond : decide (({ s with latch := l } : State).cor.copied < State.calReached { s with latch := l }) =
      decide (s.cor.copied < s.calReached) := rfl
  rw [hcond]
  cases decide (s.cor.copied < s.calReached) <;> rfl

/-- So no word of a table window does (03 R64). -/
theorem windowWord_latch (s : State) (l : List (Nat × Word32)) (page off : Nat) :
    ({ s with latch := l } : State).windowWord page off = s.windowWord page off := by
  have hwin : ({ s with latch := l } : State).tblWindow page off = s.tblWindow page off := rfl
  unfold State.windowWord
  rw [hwin]
  simp only [calSync_immW_latch]
  rfl

/-- And no word that a read without a latch returns (03 R60). -/
theorem busWord_latch (s : State) (l : List (Nat × Word32)) (addr : Nat) :
    ({ s with latch := l } : State).busWord addr = s.busWord addr := by
  unfold State.busWord State.pageWord
  simp only [windowWord_latch]
  rfl

/-! Holding words. -/

/-- To hold a word changes the words held alone. -/
theorem holdWord_eq (s : State) (k : Nat) : s.holdWord k = { s with latch := (s.holdWord k).latch } := rfl

/-- So every word reads as before. -/
@[simp] theorem busWord_holdWord (s : State) (j k : Nat) : (s.holdWord j).busWord k = s.busWord k := busWord_latch s _ k

/-- To hold several words changes the words held alone. -/
theorem holdWords_eq (s : State) (ks : List Nat) :
    s.each ks State.holdWord = { s with latch := (s.each ks State.holdWord).latch } := by
  refine each_keeps (P := fun t => t = { s with latch := t.latch }) ks (fun t k h => ?_) rfl
  rw [holdWord_eq t k, h]

/-- The word held for a key once one more is held: the new one for its own key, and what was held for any other. -/
theorem find?_holdWord (s : State) (k j : Nat) :
    (s.holdWord j).latch.find? (fun p => p.1 == k) = if k = j then some (k, s.busWord k) else s.latch.find? (fun p => p.1 == k) := by
  by_cases hkj : k = j
  · subst hkj
    simp [State.holdWord]
  · have hskip : (fun p : Nat × Word32 => decide ((p.1 != j) = true ∧ (p.1 == k) = true)) = fun p => p.1 == k := by
      funext p
      by_cases hp : p.1 = k
      · simp [hp, hkj]
      · simp [hp]
    rw [State.holdWord, List.find?_cons_of_neg (by simpa using Ne.symm hkj), List.find?_filter, hskip, if_neg hkj]

/-- The word held for a key once several are held: as it read before, when the key is one of theirs. -/
theorem find?_holdWords (s : State) (ks : List Nat) (k : Nat) :
    (s.each ks State.holdWord).latch.find? (fun p => p.1 == k) =
      if k ∈ ks then some (k, s.busWord k) else s.latch.find? (fun p => p.1 == k) := by
  induction ks generalizing s with
  | nil => rfl
  | cons j ks ih =>
    change ((s.holdWord j).each ks State.holdWord).latch.find? (fun p => p.1 == k) = _
    rw [ih, find?_holdWord, busWord_holdWord]
    by_cases hks : k ∈ ks <;> simp [hks]

/-! Reads of an aligned word (03 R60, R61). -/

/-- A read of a word that is held returns what was held, and drops it. -/
theorem busRead_held {s : State} {k : Nat} {x : Word32} (ha : k % 4 = 0) (h : s.latch.find? (fun p => p.1 == k) = some (k, x)) :
    s.busRead k = (x, { s with latch := s.latch.filter (fun p => p.1 != k) }) := by
  have hkey : k / 4 * 4 = k := by omega
  simp only [State.busRead, hkey, h]

/-- A read of a word that is not held, on a page that answers, returns it as it reads now and holds the words that belong to it. -/
theorem busRead_free {s : State} {page off : Nat} (ha : off % 4 = 0) (ho : off < 0x1000) (hp : s.pageOn page = true)
    (h : s.latch.find? (fun p => p.1 == regKey page off) = none) :
    s.busRead (regKey page off) =
      (s.busWord (regKey page off), s.each ((s.latchedBy page off).map (regKey page)) State.holdWord) := by
  have hkey : regKey page off / 4 * 4 = regKey page off := by unfold regKey; omega
  have hpage : regKey page off / 0x1000 = page := by unfold regKey; omega
  have hoff : regKey page off % 0x1000 = off := by unfold regKey; omega
  simp only [State.busRead, hkey, h, hpage, hoff, hp, if_true]

/-- All 32 bits of a word are the word. -/
theorem ofNat_fieldOf_all (x : Word32) : BitVec.ofNat 32 (fieldOf x 0 32) = x := by
  have hlt : x.toNat < 2 ^ 32 := x.isLt
  rw [fieldOf, pow_zero, Nat.div_one, Nat.mod_eq_of_lt hlt, BitVec.ofNat_toNat, BitVec.setWidth_eq]

/-- A read of all four bytes of an aligned word answers with the word. -/
theorem registerReadFx_word {k : Nat} (ha : k % 4 = 0) (s : State) :
    registerReadFx k 4 s = (s.busRead k).2.emit (.regRead (s.busRead k).1) := by
  have hwhole : BitVec.ofNat 32 (fieldOf (s.busRead k).1 (8 * (k % 4)) (8 * min 4 (4 - k % 4))) = (s.busRead k).1 := by
    rw [ha]
    exact ofNat_fieldOf_all _
  rw [registerReadFx, hwhole]

/-! REGISTER_READ_LATCH. -/

/-- A read of a held word, at any time: it is answered with what was held, and nothing else but the clock's reading and the words held
    changes. -/
theorem completes_read_held {s : State} {k : Nat} {x : Word32} (ha : k % 4 = 0) (h : s.latch.find? (fun p => p.1 == k) = some (k, x))
    (t : Nat) : Completes (.registerReadLatch ⟨k, 4⟩ t) s (fun u =>
      u = { s with out := [.regRead x], time := u.time, latch := u.latch }) := by
  refine ⟨registerReadFx k 4 (s.atTime t), rfl, ?_⟩
  rw [registerReadFx_word ha, busRead_held (s := s.atTime t) ha h]
  rfl

end Sys2Proof.Proofs.LatchedReads

/-!
The time of day is read as one time (04 R84).
-/

namespace Sys2Proof.Proofs.TimeReads
open Sys2Proof.Machine Sys2Proof.Laws Sys2Proof.Proofs.LatchedReads

/-- The words that a read of TIME_SEC bits [31:0] holds: the upper seconds word, TIME_NS and TIME_FRAC. -/
def timeKeys : List Nat := [0x4604, 0x4608, 0x460C]

/-- They are what the model latches at that read. -/
theorem latchedBy_timeSec (s : State) : (s.latchedBy 0x004 0x600).map (regKey 0x004) = timeKeys := rfl

/-- Each is the key of an aligned word. -/
theorem timeKeys_aligned {k : Nat} (h : k ∈ timeKeys) : k % 4 = 0 := by
  have hall : timeKeys.all (fun k => k % 4 == 0) = true := by decide
  exact beq_iff_eq.mp (List.all_eq_true.mp hall k h)

/-- TIME_READ_LATCH while no word is held: TIME_SEC bits [31:0] are returned and the other three words held. -/
theorem exec_timeReadLatch (t : Nat) {s : State} (hl : s.latch = []) (hp : s.pageOn 0x004 = true) :
    exec (.timeReadLatch t) s =
      .next (((s.atTime t).each timeKeys State.holdWord).emit (.regRead ((s.atTime t).busWord 0x4600))) := by
  have hfree : (s.atTime t).latch.find? (fun p => p.1 == regKey 0x004 0x600) = none := by rw [atTime_latch, hl]; rfl
  have hread := busRead_free (s := s.atTime t) (page := 0x004) (off := 0x600) (by decide) (by decide) hp hfree
  rw [latchedBy_timeSec] at hread
  change execTimeReadLatch t s = _
  rw [execTimeReadLatch, registerReadFx_word (by decide), hread]
  rfl

/-- Settles O7: the read holds the three words as they read at its own time, and a later read of each finds it held. -/
theorem timeReadsAreOneTime : Obligations.TimeReadsAreOneTime := by
  unfold Obligations.TimeReadsAreOneTime
  intro t s hl hp
  refine ⟨_, exec_timeReadLatch t hl hp, ?frame, ?answer, fun k hk t2 => ?later⟩
  case frame =>
    rw [holdWords_eq]
    rfl
  case answer =>
    rw [holdWords_eq]
    rfl
  case later =>
    exact completes_read_held (timeKeys_aligned hk) ((find?_holdWords (s.atTime t) timeKeys k).trans (if_pos hk)) t2

end Sys2Proof.Proofs.TimeReads

/-!
What holds of every command, and of the machine right after reset.
-/

namespace Sys2Proof.Proofs.Totality
open Sys2Proof.Machine Sys2Proof.Laws

/-- Settles O1: the step takes the command off the queue and executes it. -/
theorem frontCommandRuns : Obligations.FrontCommandRuns := by
  unfold Obligations.FrontCommandRuns
  intro s c q hpending
  rw [step, hpending]

/-- Settles O2: a step with no command in the queue is the idle step. -/
theorem emptyQueueIdles : Obligations.EmptyQueueIdles := by
  unfold Obligations.EmptyQueueIdles
  intro s hpending
  rw [step, hpending]

/-- Settles O3: the meaning of every command is a next state by its definition. -/
theorem everyCommandAnswersANextState : Obligations.EveryCommandAnswersANextState := by
  unfold Obligations.EveryCommandAnswersANextState
  intro c s
  cases c <;> exact ⟨_, rfl⟩

/-- Settles O57: every store and queue of the reset state is empty, so each word reads its reset value. -/
theorem soundAtReset : Obligations.SoundAtReset := by
  unfold Obligations.SoundAtReset
  have hstores : State.reset.stored = true := by decide
  have hqueues : State.reset.queuesOk = true := by decide
  have htags : State.reset.tagsOk = true := by decide
  exact ⟨⟨hstores, hqueues, htags⟩, rfl, by decide, rfl, fun _ => rfl⟩

end Sys2Proof.Proofs.Totality

/-!
Two commands write outside the reach that the table names for them, so neither frame holds of every state.
-/

namespace Sys2Proof.Proofs.Reach
open Sys2Proof.Machine

/-- A sender in LOADED whose AUD page holds a 1 where the DRM page of a sixteenth channel would show READY. -/
def misreadChannel : State := { (State.reset.wr R.GLB.STATE stLOADED).wr (R.DRM.READY 16) 1 with time := 1 }

/-- Refutes O59: DRAM_SCRUB_LATE_ALARM does not judge its channel, and what it takes for the DRM page of channel 16 is the AUD page, whose
    EVT_RAW it writes, while the command reaches no block but DRM. -/
theorem not_commandsKeepToTheirReach : ¬ Obligations.CommandsKeepToTheirReach := by
  unfold Obligations.CommandsKeepToTheirReach
  intro h
  obtain ⟨-, -, -, hblks⟩ := h (.dramScrubLateAlarm 16) misreadChannel _ rfl rfl
  have haud := hblks .aud (by decide) (evtRawKey (R.DRM.page 16)) (by decide)
  exact absurd haud (by decide +kernel)

/-- The key of a shadow register of SCH (offset 0x040). -/
def schShadowKey : Nat := regKey 0x003 0x040

/-- A ticking sender with a pending commit whose snapshot lists a word that is no shadow register: 0x400 below one of SCH. -/
def misplacedSnapshot : State :=
  { State.reset.wr R.GLB.STATE stLIT with
    member := .y24
    frm := { ticked := true }
    cmt := { pend := [{ target := 1, origins := [1], snap := [(schShadowKey - 0x400, 1)] }] } }

/-- That sender as its tick leaves it. -/
def misplacedTicked : State := senderTickFx (misplacedSnapshot.atTime 0)

/-- Its next tick comes. -/
theorem exec_misplacedSnapshot : exec (.senderTick 0) misplacedSnapshot = .next misplacedTicked := by
  have hplanned : misplacedSnapshot.tickPlanned = true := by decide +kernel
  change execSenderTick 0 misplacedSnapshot = _
  rw [execSenderTick, State.cond, hplanned, if_pos rfl, misplacedTicked]

set_option maxRecDepth 1000 in
/-- The tick changes the shadow register. -/
theorem misplacedTicked_word : misplacedTicked.word schShadowKey ≠ misplacedSnapshot.word schShadowKey := by decide +kernel

/-- Refutes O60: the tick puts every listed word of the snapshot 0x400 above its key, here into a shadow register, while a sender's tick
    reaches none. -/
theorem not_appliesAndTicksKeepToTheirReach : ¬ Obligations.AppliesAndTicksKeepToTheirReach := by
  unfold Obligations.AppliesAndTicksKeepToTheirReach
  intro h
  obtain ⟨-, -, hparts, -⟩ := h (.senderTick 0) misplacedSnapshot misplacedTicked rfl exec_misplacedSnapshot
  exact misplacedTicked_word (hparts .shadow (by decide +kernel) schShadowKey (by decide))

end Sys2Proof.Proofs.Reach

/-!
What the shared operations on counters, events and levels leave alone and what they show: one rule for each operation, which the proofs
about commands cite (03 R66, R73).
-/

namespace Sys2Proof.Proofs.Frames
open Sys2Proof.Machine Sys2Proof.Laws

/-! The parts of the state that an event leaves alone. -/

/-- Raising an event changes register words and the event machinery alone. -/
theorem raise_eq (s : State) (e : Evt) : s.raise e = { s with regs := (s.raise e).regs, evt := (s.raise e).evt } :=
  setPendBit_eq s e.page e.bit

@[simp] theorem raise_role (s : State) (e : Evt) : (s.raise e).role = s.role := by rw [raise_eq]
@[simp] theorem raise_member (s : State) (e : Evt) : (s.raise e).member = s.member := by rw [raise_eq]
@[simp] theorem raise_imm (s : State) (e : Evt) : (s.raise e).imm = s.imm := by rw [raise_eq]
@[simp] theorem raise_tabs (s : State) (e : Evt) : (s.raise e).tabs = s.tabs := by rw [raise_eq]
@[simp] theorem raise_pend (s : State) (e : Evt) : (s.raise e).pend = s.pend := by rw [raise_eq]
@[simp] theorem raise_latch (s : State) (e : Evt) : (s.raise e).latch = s.latch := by rw [raise_eq]
@[simp] theorem raise_time (s : State) (e : Evt) : (s.raise e).time = s.time := by rw [raise_eq]
@[simp] theorem raise_aon (s : State) (e : Evt) : (s.raise e).aon = s.aon := by rw [raise_eq]
@[simp] theorem raise_boot (s : State) (e : Evt) : (s.raise e).boot = s.boot := by rw [raise_eq]
@[simp] theorem raise_tun (s : State) (e : Evt) : (s.raise e).tun = s.tun := by rw [raise_eq]
@[simp] theorem raise_mgmt (s : State) (e : Evt) : (s.raise e).mgmt = s.mgmt := by rw [raise_eq]
@[simp] theorem raise_cmt (s : State) (e : Evt) : (s.raise e).cmt = s.cmt := by rw [raise_eq]
@[simp] theorem raise_frm (s : State) (e : Evt) : (s.raise e).frm = s.frm := by rw [raise_eq]
@[simp] theorem raise_coil (s : State) (e : Evt) : (s.raise e).coil = s.coil := by rw [raise_eq]
@[simp] theorem raise_red (s : State) (e : Evt) : (s.raise e).red = s.red := by rw [raise_eq]
@[simp] theorem raise_hub (s : State) (e : Evt) : (s.raise e).hub = s.hub := by rw [raise_eq]
@[simp] theorem raise_clk (s : State) (e : Evt) : (s.raise e).clk = s.clk := by rw [raise_eq]
@[simp] theorem raise_drm (s : State) (e : Evt) : (s.raise e).drm = s.drm := by rw [raise_eq]
@[simp] theorem raise_mram (s : State) (e : Evt) : (s.raise e).mram = s.mram := by rw [raise_eq]
@[simp] theorem raise_nvs (s : State) (e : Evt) : (s.raise e).nvs = s.nvs := by rw [raise_eq]
@[simp] theorem raise_thm (s : State) (e : Evt) : (s.raise e).thm = s.thm := by rw [raise_eq]
@[simp] theorem raise_phc (s : State) (e : Evt) : (s.raise e).phc = s.phc := by rw [raise_eq]
@[simp] theorem raise_cor (s : State) (e : Evt) : (s.raise e).cor = s.cor := by rw [raise_eq]
@[simp] theorem raise_sch (s : State) (e : Evt) : (s.raise e).sch = s.sch := by rw [raise_eq]
@[simp] theorem raise_lyr (s : State) (e : Evt) : (s.raise e).lyr = s.lyr := by rw [raise_eq]
@[simp] theorem raise_net (s : State) (e : Evt) : (s.raise e).net = s.net := by rw [raise_eq]
@[simp] theorem raise_str (s : State) (e : Evt) : (s.raise e).str = s.str := by rw [raise_eq]
@[simp] theorem raise_dec (s : State) (e : Evt) : (s.raise e).dec = s.dec := by rw [raise_eq]
@[simp] theorem raise_prv (s : State) (e : Evt) : (s.raise e).prv = s.prv := by rw [raise_eq]
@[simp] theorem raise_cmp (s : State) (e : Evt) : (s.raise e).cmp = s.cmp := by rw [raise_eq]
@[simp] theorem raise_sag (s : State) (e : Evt) : (s.raise e).sag = s.sag := by rw [raise_eq]
@[simp] theorem raise_map (s : State) (e : Evt) : (s.raise e).map = s.map := by rw [raise_eq]
@[simp] theorem raise_til (s : State) (e : Evt) : (s.raise e).til = s.til := by rw [raise_eq]
@[simp] theorem raise_lsm (s : State) (e : Evt) : (s.raise e).lsm = s.lsm := by rw [raise_eq]
@[simp] theorem raise_lmp (s : State) (e : Evt) : (s.raise e).lmp = s.lmp := by rw [raise_eq]
@[simp] theorem raise_aud (s : State) (e : Evt) : (s.raise e).aud = s.aud := by rw [raise_eq]
@[simp] theorem raise_out (s : State) (e : Evt) : (s.raise e).out = s.out := by rw [raise_eq]
@[simp] theorem raise_free (s : State) (e : Evt) : (s.raise e).free = s.free := by rw [raise_eq]
@[simp] theorem raise_pending (s : State) (e : Evt) : (s.raise e).pending = s.pending := by rw [raise_eq]

@[simp] theorem level_role (s : State) (e : Evt) (b : Bool) : (s.level e b).role = s.role := by rw [level_eq]
@[simp] theorem level_member (s : State) (e : Evt) (b : Bool) : (s.level e b).member = s.member := by rw [level_eq]
@[simp] theorem level_imm (s : State) (e : Evt) (b : Bool) : (s.level e b).imm = s.imm := by rw [level_eq]
@[simp] theorem level_tabs (s : State) (e : Evt) (b : Bool) : (s.level e b).tabs = s.tabs := by rw [level_eq]
@[simp] theorem level_pend (s : State) (e : Evt) (b : Bool) : (s.level e b).pend = s.pend := by rw [level_eq]
@[simp] theorem level_latch (s : State) (e : Evt) (b : Bool) : (s.level e b).latch = s.latch := by rw [level_eq]
@[simp] theorem level_time (s : State) (e : Evt) (b : Bool) : (s.level e b).time = s.time := by rw [level_eq]
@[simp] theorem level_aon (s : State) (e : Evt) (b : Bool) : (s.level e b).aon = s.aon := by rw [level_eq]
@[simp] theorem level_boot (s : State) (e : Evt) (b : Bool) : (s.level e b).boot = s.boot := by rw [level_eq]
@[simp] theorem level_tun (s : State) (e : Evt) (b : Bool) : (s.level e b).tun = s.tun := by rw [level_eq]
@[simp] theorem level_mgmt (s : State) (e : Evt) (b : Bool) : (s.level e b).mgmt = s.mgmt := by rw [level_eq]
@[simp] theorem level_cmt (s : State) (e : Evt) (b : Bool) : (s.level e b).cmt = s.cmt := by rw [level_eq]
@[simp] theorem level_frm (s : State) (e : Evt) (b : Bool) : (s.level e b).frm = s.frm := by rw [level_eq]
@[simp] theorem level_coil (s : State) (e : Evt) (b : Bool) : (s.level e b).coil = s.coil := by rw [level_eq]
@[simp] theorem level_red (s : State) (e : Evt) (b : Bool) : (s.level e b).red = s.red := by rw [level_eq]
@[simp] theorem level_hub (s : State) (e : Evt) (b : Bool) : (s.level e b).hub = s.hub := by rw [level_eq]
@[simp] theorem level_clk (s : State) (e : Evt) (b : Bool) : (s.level e b).clk = s.clk := by rw [level_eq]
@[simp] theorem level_drm (s : State) (e : Evt) (b : Bool) : (s.level e b).drm = s.drm := by rw [level_eq]
@[simp] theorem level_mram (s : State) (e : Evt) (b : Bool) : (s.level e b).mram = s.mram := by rw [level_eq]
@[simp] theorem level_nvs (s : State) (e : Evt) (b : Bool) : (s.level e b).nvs = s.nvs := by rw [level_eq]
@[simp] theorem level_thm (s : State) (e : Evt) (b : Bool) : (s.level e b).thm = s.thm := by rw [level_eq]
@[simp] theorem level_phc (s : State) (e : Evt) (b : Bool) : (s.level e b).phc = s.phc := by rw [level_eq]
@[simp] theorem level_cor (s : State) (e : Evt) (b : Bool) : (s.level e b).cor = s.cor := by rw [level_eq]
@[simp] theorem level_sch (s : State) (e : Evt) (b : Bool) : (s.level e b).sch = s.sch := by rw [level_eq]
@[simp] theorem level_lyr (s : State) (e : Evt) (b : Bool) : (s.level e b).lyr = s.lyr := by rw [level_eq]
@[simp] theorem level_net (s : State) (e : Evt) (b : Bool) : (s.level e b).net = s.net := by rw [level_eq]
@[simp] theorem level_str (s : State) (e : Evt) (b : Bool) : (s.level e b).str = s.str := by rw [level_eq]
@[simp] theorem level_dec (s : State) (e : Evt) (b : Bool) : (s.level e b).dec = s.dec := by rw [level_eq]
@[simp] theorem level_prv (s : State) (e : Evt) (b : Bool) : (s.level e b).prv = s.prv := by rw [level_eq]
@[simp] theorem level_cmp (s : State) (e : Evt) (b : Bool) : (s.level e b).cmp = s.cmp := by rw [level_eq]
@[simp] theorem level_sag (s : State) (e : Evt) (b : Bool) : (s.level e b).sag = s.sag := by rw [level_eq]
@[simp] theorem level_map (s : State) (e : Evt) (b : Bool) : (s.level e b).map = s.map := by rw [level_eq]
@[simp] theorem level_til (s : State) (e : Evt) (b : Bool) : (s.level e b).til = s.til := by rw [level_eq]
@[simp] theorem level_lsm (s : State) (e : Evt) (b : Bool) : (s.level e b).lsm = s.lsm := by rw [level_eq]
@[simp] theorem level_lmp (s : State) (e : Evt) (b : Bool) : (s.level e b).lmp = s.lmp := by rw [level_eq]
@[simp] theorem level_aud (s : State) (e : Evt) (b : Bool) : (s.level e b).aud = s.aud := by rw [level_eq]
@[simp] theorem level_out (s : State) (e : Evt) (b : Bool) : (s.level e b).out = s.out := by rw [level_eq]
@[simp] theorem level_free (s : State) (e : Evt) (b : Bool) : (s.level e b).free = s.free := by rw [level_eq]
@[simp] theorem level_pending (s : State) (e : Evt) (b : Bool) : (s.level e b).pending = s.pending := by rw [level_eq]

/-! Bits of a word. -/

/-- A bit is a field of width 1. -/
theorem testBit_eq_fieldOf (x : Word32) (i : Nat) : x.toNat.testBit i = decide (fieldOf x i 1 = 1) := by
  rw [Nat.testBit_eq_decide_div_mod_eq, fieldOf, pow_one]

/-- The bits of a word in which one bit was put. -/
theorem testBit_putField (x : Word32) {i : Nat} (hi : i < 32) (b : Bool) (j : Nat) :
    (putField x i 1 (b2n b)).toNat.testBit j = if j = i then b else x.toNat.testBit j := by
  rw [testBit_eq_fieldOf, testBit_eq_fieldOf]
  rcases Nat.lt_trichotomy j i with h | rfl | h
  · rw [fieldOf_putField_below x (by omega) (by omega), if_neg (by omega)]
  · rw [fieldOf_putField_same x (by omega), if_pos rfl]
    cases b <;> rfl
  · rw [fieldOf_putField_above x (by omega) (by omega), if_neg (by omega)]

/-- A bit after a bit was set or cleared. -/
theorem wbit_setWbit (s : State) (k : Nat) {i : Nat} (hi : i < 32) (b : Bool) (j i' : Nat) :
    (s.setWbit k i b).wbit j i' = if j = k ∧ i' = i then b else s.wbit j i' := by
  unfold State.setWbit State.wbit
  rw [word_setWord]
  by_cases hj : j = k
  · subst hj
    rw [if_pos rfl, testBit_putField _ hi]
    simp
  · simp [hj]

/-- Bits follow the register list alone. -/
theorem wbit_congr {s t : State} (h : s.regs = t.regs) (k i : Nat) : s.wbit k i = t.wbit k i := by
  unfold State.wbit
  rw [word_congr h]

/-- A bit of a word that a field write leaves alone. -/
theorem wbit_wr_ne (s : State) {g : Fld} {k : Nat} (v i : Nat) (h1 : k ≠ g.key) (h2 : 32 < g.w → k ≠ g.key + 4) :
    (s.wr g v).wbit k i = s.wbit k i := by
  unfold State.wbit
  rw [word_wr_ne s v h1 h2]

/-! Events (03 R73). -/

/-- The register words after an event bit was made pending. -/
theorem setPendBit_regs (s : State) (p b : Nat) : (s.setPendBit p b).regs = (s.setWbit (evtPendKey p) b true).regs := by
  unfold State.setPendBit
  simp only [State.cond]
  split
  · exact deliver_regs _ _ _
  · rfl

/-- The bits after an event bit was made pending. -/
theorem wbit_setPendBit (s : State) (p : Nat) {b : Nat} (hb : b < 32) (k i : Nat) :
    (s.setPendBit p b).wbit k i = if k = evtPendKey p ∧ i = b then true else s.wbit k i := by
  rw [wbit_congr (setPendBit_regs s p b), wbit_setWbit s _ hb]

/-- The bits after an event was raised. -/
theorem wbit_raise (s : State) {e : Evt} (hb : e.bit < 32) (k i : Nat) :
    (s.raise e).wbit k i = if k = evtPendKey e.page ∧ i = e.bit then true else s.wbit k i := wbit_setPendBit s e.page hb k i

/-- An event that was raised is pending. -/
theorem pending_raise (s : State) {e : Evt} (hb : e.bit < 32) : Pending (s.raise e) e := by
  rw [Pending, wbit_raise s hb, if_pos ⟨rfl, rfl⟩]

/-- Raising an event leaves a pending one pending. -/
theorem pending_raise_of {s : State} {e e' : Evt} (h : Pending s e) (hb : e'.bit < 32) : Pending (s.raise e') e := by
  rw [Pending, wbit_raise s hb]
  split
  · rfl
  · exact h

/-- The EVT_RAW and the EVT_PEND word of two pages are two words. -/
theorem evtRawKey_ne_evtPendKey (p q : Nat) : evtRawKey p ≠ evtPendKey q := by
  unfold evtRawKey evtPendKey regKey
  omega

/-- The EVT_RAW bits after a level event's condition was shown. -/
theorem wbit_raw_level (s : State) {e : Evt} (hb : e.bit < 32) (b : Bool) (p i : Nat) :
    (s.level e b).wbit (evtRawKey p) i = if evtRawKey p = evtRawKey e.page ∧ i = e.bit then b else s.wbit (evtRawKey p) i := by
  unfold State.level
  simp only [State.cond]
  split
  · rw [wbit_raise _ hb, if_neg (fun h => evtRawKey_ne_evtPendKey _ _ h.1), wbit_setWbit s _ hb]
  · rw [wbit_setWbit s _ hb]

/-- The condition of a level event once it was shown. -/
theorem raw_level (s : State) {e : Evt} (hb : e.bit < 32) (b : Bool) : (s.level e b).raw e = b := by
  rw [State.raw, wbit_raw_level s hb, if_pos ⟨rfl, rfl⟩]

/-- The condition of another level event of a page once one was shown. -/
theorem raw_level_ne (s : State) {e e' : Evt} (hb : e.bit < 32) (h : e'.bit ≠ e.bit) (b : Bool) : (s.level e b).raw e' = s.raw e' := by
  rw [State.raw, wbit_raw_level s hb, if_neg (fun hc => h hc.2), State.raw]

/-! Counters (03 R66). -/

/-- A counter counted up saturates. -/
theorem rd_incBy_same (s : State) {f : Fld} (hw : f.w = 32) (hlo : f.lo = 0) (n : Nat) :
    (s.incBy f n).rd f = min (s.rd f + n) 0xFFFFFFFF := by
  rw [State.incBy, rd_wr_same s (.inl (by omega)), hw]
  exact Nat.mod_eq_of_lt (by omega)

/-- A counter counted once has been counted. -/
theorem counted_inc (s : State) {f : Fld} (hw : f.w = 32) (hlo : f.lo = 0) : Counted s (s.inc f) f := rd_incBy_same s hw hlo 1

/-! Fields of different pages. -/

/-- The word at an offset of one page is none of another. -/
theorem regKey_ne_of_page {p q o o' : Nat} (hpq : p ≠ q) (ho : o < 0x1000) (ho' : o' < 0x1000) : regKey p o ≠ regKey q o' := by
  unfold regKey
  omega

/-- The word of a field is none of another page's. -/
theorem key_ne_of_page {f : Fld} {q o : Nat} (hpage : f.page ≠ q) (hf : f.off + 4 < 0x1000) (ho : o < 0x1000) :
    f.key ≠ regKey q o ∧ f.key + 4 ≠ regKey q o := by
  unfold Fld.key regKey
  omega

/-- A field keeps its value when one of another page is written. -/
theorem rd_wr_page (s : State) {f g : Fld} (v : Nat) (hpage : f.page ≠ g.page) (hf : f.off + 4 < 0x1000) (hg : g.off + 4 < 0x1000) :
    (s.wr g v).rd f = s.rd f := by
  obtain ⟨h1, h2⟩ := key_ne_of_page hpage hf (show g.off < 0x1000 by omega)
  obtain ⟨h3, h4⟩ := key_ne_of_page hpage hf hg
  have hhi : g.key + 4 = regKey g.page (g.off + 4) := by unfold Fld.key regKey; omega
  rw [← hhi] at h3 h4
  unfold State.rd
  rw [word_wr_ne s v h1 (fun _ => h3), word_wr_ne s v h2 (fun _ => h4)]

/-- A field keeps its value when an event of another page is raised. -/
theorem rd_raise_page (s : State) {f : Fld} {e : Evt} (hpage : f.page ≠ e.page) (hf : f.off + 4 < 0x1000) :
    (s.raise e).rd f = s.rd f := by
  obtain ⟨h1, h2⟩ := key_ne_of_page hpage hf (show 0x018 < 0x1000 by decide)
  exact rd_raise_ne s h1 (fun _ => h2)

/-- A field keeps its value when a level event of another page is shown. -/
theorem rd_level_page (s : State) {f : Fld} {e : Evt} (b : Bool) (hpage : f.page ≠ e.page) (hf : f.off + 4 < 0x1000) :
    (s.level e b).rd f = s.rd f := by
  obtain ⟨h1, h2⟩ := key_ne_of_page hpage hf (show 0x018 < 0x1000 by decide)
  obtain ⟨h3, h4⟩ := key_ne_of_page hpage hf (show 0x010 < 0x1000 by decide)
  exact rd_level_ne s h3 h1 (fun _ => ⟨h4, h2⟩)

/-! A condition that is known. -/

theorem cond_of {b : Bool} (h : b = true) (s : State) (f : State → State) : s.cond b f = f s := by rw [h]; rfl

theorem cond_of_not {b : Bool} (h : b = false) (s : State) (f : State → State) : s.cond b f = s := by rw [h]; rfl

/-! Only registers and events change. -/

theorem onlyRegs_refl (s : State) : OnlyRegs s s := rfl

theorem onlyRegs_trans {s t u : State} (h : OnlyRegs s t) (h' : OnlyRegs t u) : OnlyRegs s u := by
  unfold OnlyRegs at *
  rw [h', h]

theorem onlyRegs_start (s : State) : OnlyRegs s s.start := rfl
theorem onlyRegs_atTime (s : State) (t : Nat) : OnlyRegs s (s.atTime t) := rfl
theorem onlyRegs_setWord (s : State) (k : Nat) (x : Word32) : OnlyRegs s (s.setWord k x) := rfl
theorem onlyRegs_wr (s : State) (f : Fld) (v : Nat) : OnlyRegs s (s.wr f v) := by rw [OnlyRegs, wr_eq]
theorem onlyRegs_inc (s : State) (f : Fld) : OnlyRegs s (s.inc f) := onlyRegs_wr s f _
theorem onlyRegs_raise (s : State) (e : Evt) : OnlyRegs s (s.raise e) := by rw [OnlyRegs, raise_eq]
theorem onlyRegs_level (s : State) (e : Evt) (b : Bool) : OnlyRegs s (s.level e b) := by rw [OnlyRegs, level_eq]
theorem onlyRegs_emit (s : State) (o : Output) : OnlyRegs s (s.emit o) := rfl
theorem onlyRegs_setPendBit (s : State) (p b : Nat) : OnlyRegs s (s.setPendBit p b) := by rw [OnlyRegs, setPendBit_eq]
theorem onlyRegs_deliver (s : State) (p b : Nat) : OnlyRegs s (s.deliver p b) := by rw [OnlyRegs, deliver_eq]

theorem onlyRegs_cond {s : State} {b : Bool} {f : State → State} (h : OnlyRegs s (f s)) : OnlyRegs s (s.cond b f) := by
  cases b
  · exact onlyRegs_refl s
  · exact h

theorem onlyRegs_each {α : Type} (s : State) (xs : List α) {f : State → α → State} (h : ∀ s x, OnlyRegs s (f s x)) :
    OnlyRegs s (s.each xs f) :=
  each_keeps (P := OnlyRegs s) xs (fun t x ht => onlyRegs_trans ht (h t x)) (onlyRegs_refl s)

/-! Words kept. -/

theorem wordsKept_refl (s : State) (ks : List Nat) : WordsKept s s ks := fun _ _ => rfl

theorem wordsKept_trans {s t u : State} {ks : List Nat} (h : WordsKept s t ks) (h' : WordsKept t u ks) : WordsKept s u ks :=
  fun k hk => (h' k hk).trans (h k hk)

theorem wordsKept_mono {s t : State} {ks ks' : List Nat} (h : WordsKept s t ks) (hks : ∀ k ∈ ks, k ∈ ks') : WordsKept s t ks' :=
  fun k hk => h k fun hc => hk (hks k hc)

theorem wordsKept_of_regs {s t : State} (h : t.regs = s.regs) (ks : List Nat) : WordsKept s t ks := fun k _ => word_congr h k

theorem wordsKept_setWord (s : State) (k : Nat) (x : Word32) : WordsKept s (s.setWord k x) [k] :=
  fun _ hj => word_setWord_ne s x (by simpa using hj)

theorem wordsKept_wr (s : State) {f : Fld} (hw : f.w ≤ 32) (v : Nat) : WordsKept s (s.wr f v) [f.key] :=
  fun _ hk => word_wr_ne s v (by simpa using hk) (by omega)

theorem wordsKept_inc (s : State) {f : Fld} (hw : f.w ≤ 32) : WordsKept s (s.inc f) [f.key] := wordsKept_wr s hw _

theorem wordsKept_setPendBit (s : State) (p b : Nat) : WordsKept s (s.setPendBit p b) [evtPendKey p] :=
  fun _ hk => word_setPendBit_ne s (by simpa using hk)

theorem wordsKept_raise (s : State) (e : Evt) : WordsKept s (s.raise e) [evtPendKey e.page] := wordsKept_setPendBit s e.page e.bit

theorem wordsKept_level (s : State) (e : Evt) (b : Bool) : WordsKept s (s.level e b) [evtRawKey e.page, evtPendKey e.page] := by
  intro k hk
  obtain ⟨h1, h2⟩ : k ≠ evtRawKey e.page ∧ k ≠ evtPendKey e.page := by simpa using hk
  exact word_level_ne s h1 h2

theorem wordsKept_each {α : Type} (s : State) (xs : List α) {f : State → α → State} {ks : List Nat} (h : ∀ s x, WordsKept s (f s x) ks) :
    WordsKept s (s.each xs f) ks :=
  each_keeps (P := fun t => WordsKept s t ks) xs (fun t x ht => wordsKept_trans ht (h t x)) (wordsKept_refl s ks)

/-! Roles and pages. -/

/-- The sender role with firmware running. -/
theorem isSender_iff (s : State) : s.isSender = true ↔ s.running = true ∧ s.role = .sender := by
  unfold State.isSender
  rw [Bool.and_eq_true, beq_iff_eq]

end Sys2Proof.Proofs.Frames

/-!
Event registers, counters and the tile-event queue (03 R66, R73 to R78).
-/

namespace Sys2Proof.Proofs.Events
open Sys2Proof.Machine Sys2Proof.Laws Sys2Proof.Proofs.Commits Sys2Proof.Proofs.Frames

/-! Counters (03 R66). -/

/-- A write of 0 to a counter of a page that answers clears its word. -/
theorem exec_counterClear_zero {b : Blk} {n page off : Nat} {r : Row} {s : State} (hb : blkOf page = some (b, n))
    (hp : s.pageOn page = true) (ho : off < 0x1000) (hrow : rowAt off b.rows = some r) (hcls : r.cls = .cnt) :
    exec (.counterClear (regKey page off) 0) s = .next (s.start.setWord (regKey page off) 0) := by
  have hpage : regKey page off / 0x1000 = page := by unfold regKey; omega
  have hoff : regKey page off % 0x1000 = off := by unfold regKey; omega
  have hfx : counterClearFx (regKey page off) 0 s.start = s.start.setWord (regKey page off) 0 := by
    simp [counterClearFx, hpage, hoff, hb, hrow, hcls]
  change execCounterClear (regKey page off) 0 s = _
  rw [execCounterClear, hpage, cond_of hp, hfx]

/-- A write of another value to a counter does nothing. -/
theorem counterClearFx_nonzero {v : Word32} (hv : v ≠ 0) (addr : Nat) (s : State) : counterClearFx addr v s = s := by
  unfold counterClearFx
  split
  · rfl
  · split
    · rfl
    · rw [if_neg (fun h => hv h.2)]

/-- Settles O10: a write of 0 stores 0 in the one word, and counting takes the minimum with the largest count. -/
theorem countersClearAndSaturate : Obligations.CountersClearAndSaturate := by
  unfold Obligations.CountersClearAndSaturate
  refine ⟨fun b n page off r s hb hp ho hrow hcls => ?cleared, fun addr v s hv => ?ignored, fun f k s hw hlo => ?counted⟩
  case cleared =>
    exact ⟨_, exec_counterClear_zero hb hp ho hrow hcls, rfl, wordsKept_setWord s.start _ _, word_setWord_same _ _ _⟩
  case ignored =>
    refine ⟨_, rfl, ?_⟩
    cases s.pageOn (addr / 0x1000)
    · rfl
    · exact counterClearFx_nonzero hv addr s.start
  case counted =>
    have hcount := rd_incBy_same s hw hlo k
    have hrd : s.rd f < 2 ^ 32 := by
      rw [State.rd, if_pos (by omega), fieldOf, hw]
      exact Nat.mod_lt _ (by decide)
    exact ⟨hcount, by omega⟩

/-! The tile-event queue (03 R77, R78). -/

/-- Delivery of an event leaves the tile-event queue alone. -/
theorem deliver_tq (s : State) (p b : Nat) : (s.deliver p b).evt.tq = s.evt.tq := by
  unfold State.deliver
  split
  · dsimp only; split <;> rfl
  · split <;> rfl

@[simp] theorem setPendBit_tq (s : State) (p b : Nat) : (s.setPendBit p b).evt.tq = s.evt.tq := by
  unfold State.setPendBit
  simp only [State.cond]
  split
  · exact deliver_tq _ p b
  · rfl

@[simp] theorem raise_tq (s : State) (e : Evt) : (s.raise e).evt.tq = s.evt.tq := setPendBit_tq s e.page e.bit

@[simp] theorem level_tq (s : State) (e : Evt) (b : Bool) : (s.level e b).evt.tq = s.evt.tq := by
  unfold State.level
  simp only [State.cond]
  split
  · exact raise_tq _ e
  · rfl

@[simp] theorem tqLevels_tq (s : State) : s.tqLevels.evt.tq = s.evt.tq := by simp [State.tqLevels]

theorem onlyRegs_tqLevels (s : State) : OnlyRegs s s.tqLevels := onlyRegs_trans (onlyRegs_level s _ _) (onlyRegs_level _ _ _)

theorem wordsKept_tqLevels (s : State) : WordsKept s s.tqLevels [evtRawKey 0x001, evtPendKey 0x001] :=
  wordsKept_trans (wordsKept_level s R.EVT.ev_TQ_NONEMPTY _) (wordsKept_level _ R.EVT.ev_TQ_HIGH _)

theorem tqLevels_nonempty (s : State) : s.tqLevels.raw R.EVT.ev_TQ_NONEMPTY = !s.evt.tq.isEmpty := by
  rw [State.tqLevels, raw_level_ne _ (by decide) (by decide), raw_level _ (by decide)]

theorem tqLevels_high (s : State) : s.tqLevels.raw R.EVT.ev_TQ_HIGH = decide (192 ≤ s.evt.tq.length) := by
  rw [State.tqLevels, raw_level _ (by decide)]

/-- A change of the queue alone, and then its level events. -/
theorem tqLevels_of_queue (s : State) (q : List TqEntry) (u : State)
    (hu : u = ({ s.start with evt := { s.evt with tq := q } } : State).tqLevels) :
    OnlyRegs s u ∧ u.evt.tq = q ∧ WordsKept s u [evtRawKey 0x001, evtPendKey 0x001] ∧
      u.raw R.EVT.ev_TQ_NONEMPTY = !q.isEmpty ∧ u.raw R.EVT.ev_TQ_HIGH = decide (192 ≤ q.length) := by
  subst hu
  exact ⟨onlyRegs_trans (show OnlyRegs s { s.start with evt := { s.evt with tq := q } } from rfl) (onlyRegs_tqLevels _), tqLevels_tq _,
    wordsKept_tqLevels { s.start with evt := { s.evt with tq := q } }, tqLevels_nonempty _, tqLevels_high _⟩

/-- What joins the queue, or is counted as lost, before the events are shown. -/
def tqJoin (s : State) (e : TqEntry) : State :=
  if s.evt.tq.length < tqSize then { s with evt := { s.evt with tq := s.evt.tq ++ [e] } }
  else (s.inc R.EVT.CNT_TQ_DROP).raise R.EVT.ev_TQ_OVF

theorem tqPush_eq (s : State) (e : TqEntry) : s.tqPush e = (tqJoin s e).tqLevels.raise (R.COIL.ev_TILE_EVENT e.port) := rfl

theorem tqPush_tq (s : State) (e : TqEntry) : (s.tqPush e).evt.tq = (tqJoin s e).evt.tq := by
  rw [tqPush_eq, raise_tq, tqLevels_tq]

/-- The count of lost entries is not touched by the events. -/
theorem tqPush_drops (s : State) (e : TqEntry) : (s.tqPush e).rd R.EVT.CNT_TQ_DROP = (tqJoin s e).rd R.EVT.CNT_TQ_DROP := by
  have hoff : R.EVT.CNT_TQ_DROP.key ≠ evtPendKey (R.COIL.ev_TILE_EVENT e.port).page := by
    simp only [Fld.key, R.EVT.CNT_TQ_DROP, evtPendKey, regKey]
    omega
  rw [tqPush_eq, rd_raise_ne _ hoff (fun hw => absurd hw (by decide))]
  exact rd_of_wordsKept (wordsKept_tqLevels (tqJoin s e)) (by decide) (by decide)

/-- Settles O11: the queue loses its head or all, its level events follow, and an entry that arrives joins it or is counted. -/
theorem tileEventQueue : Obligations.TileEventQueue := by
  unfold Obligations.TileEventQueue
  refine ⟨fun s hp => ?pop, fun s hp => ?flush, fun e s hroom => ?joins, fun e s hfull => ?lost⟩
  case pop =>
    refine ⟨s.start.cond (s.pageOn 0x001) tqPopFx, rfl, ?_⟩
    rw [cond_of hp]
    obtain ⟨honly, htq, hwords, hnonempty, hhigh⟩ := tqLevels_of_queue s (s.evt.tq.drop 1) (tqPopFx s.start) rfl
    refine ⟨honly, htq, hwords, hnonempty.trans ?_, hhigh.trans ?_⟩
    · rcases s.evt.tq with - | ⟨e, - | ⟨f, q⟩⟩ <;> simp
    · rw [List.length_drop]
      exact decide_eq_decide.mpr (by omega)
  case flush =>
    refine ⟨s.start.cond (s.pageOn 0x001) tqFlushFx, rfl, ?_⟩
    rw [cond_of hp]
    exact tqLevels_of_queue s [] (tqFlushFx s.start) rfl
  case joins =>
    rw [tqPush_tq, tqPush_drops, tqJoin, if_pos (show s.evt.tq.length < tqSize from hroom)]
    exact ⟨rfl, rfl⟩
  case lost =>
    unfold Counted
    rw [tqPush_tq, tqPush_drops, tqJoin, if_neg (show ¬ s.evt.tq.length < tqSize from Nat.not_lt.mpr hfull), raise_tq, rd_raise_ne _ (by decide) (by decide)]
    exact ⟨congrArg EvtSt.tq (wr_evt s R.EVT.CNT_TQ_DROP _), counted_inc s rfl rfl⟩

end Sys2Proof.Proofs.Events

/-!
The event registers and the messages that they owe (03 R73, R74, R76, R78).
-/

namespace Sys2Proof.Proofs.Messages
open Sys2Proof.Machine Sys2Proof.Laws Sys2Proof.Proofs.Frames

/-! EVT_PEND (03 R73, R76). -/

/-- A page signals to a vector by the vector map and its register words alone. -/
theorem signals_congr {s t : State} (hi : t.imm = s.imm) (hr : t.regs = s.regs) (vec p : Nat) : t.signals vec p = s.signals vec p := by
  unfold State.signals State.vector State.immByte State.immW
  rw [hi, word_congr hr, word_congr hr]

/-- A pending bit of a masked vector stays exactly while a page signals to the vector. -/
theorem mem_clearPba (s : State) (vec : Nat) :
    vec ∈ s.clearPba.evt.pba ↔ vec ∈ s.evt.pba ∧ ∃ p, p < 0x120 ∧ s.signals vec p = true := by
  simp only [State.clearPba, List.mem_filter, Bool.not_eq_true', List.contains_eq_mem, decide_eq_false_iff_not, not_and,
    Bool.not_eq_false, List.any_eq_true, List.mem_range]
  tauto

/-- The messages of a vector go with its pending bit. -/
theorem count_due_clearPba (s : State) (vec : Nat) :
    s.clearPba.evt.due.count vec = if vec ∈ s.evt.pba ∧ vec ∉ s.clearPba.evt.pba then 0 else s.evt.due.count vec := by
  have hgone : (s.evt.pba.filter (fun v => !(List.range 0x120).any (s.signals v))).contains vec = true ↔
      vec ∈ s.evt.pba ∧ vec ∉ s.clearPba.evt.pba := by
    rw [mem_clearPba, List.contains_iff_mem, List.mem_filter]
    simp only [Bool.not_eq_true', ← Bool.not_eq_true, List.any_eq_true, List.mem_range]
    exact ⟨fun ⟨hv, hno⟩ => ⟨hv, fun h => hno h.2⟩, fun ⟨hv, hno⟩ => ⟨hv, fun h => hno ⟨hv, h⟩⟩⟩
  by_cases hv : vec ∈ s.evt.pba ∧ vec ∉ s.clearPba.evt.pba
  · rw [if_pos hv, List.count_eq_zero]
    intro hmem
    have hkept := List.of_mem_filter (p := fun v => !(s.evt.pba.filter (fun v => !(List.range 0x120).any (s.signals v))).contains v) hmem
    rw [hgone.mpr hv] at hkept
    cases hkept
  · rw [if_neg hv]
    refine List.count_filter ?_
    rw [Bool.eq_false_iff.mpr (fun hc => hv (hgone.mp hc))]
    rfl

/-- The bits of the complement of a word. -/
theorem testBit_cleared (m : Nat) (v : Word32) {i : Nat} (h : v.getLsbD i = true) : (m &&& (2 ^ 32 - 1 - v.toNat)).testBit i = false := by
  have hv : (2 ^ 32 - 1 - v.toNat).testBit i = false := by
    rw [show 2 ^ 32 - 1 - v.toNat = 2 ^ 32 - (v.toNat + 1) by omega, Nat.testBit_two_pow_sub_succ v.isLt]
    rw [show v.toNat.testBit i = true from h]
    simp
  rw [Nat.testBit_and, hv, Bool.and_false]

/-- The state between the write of EVT_PEND and what follows for masked vectors. -/
def pendCleared (page : Nat) (v : Word32) (s : State) : State :=
  { s.setWord (evtPendKey page) (s.word (evtPendKey page) &&& ~~~v) with
    evt := { s.evt with sent := smMod (fun _ => 0) s.evt.sent page (fun m => m &&& (2 ^ 32 - 1 - v.toNat)) } }

theorem evtPendClearFx_eq (page : Nat) (v : Word32) (s : State) : evtPendClearFx page v s = (pendCleared page v s).clearPba := rfl

/-! EVT_FORCE and EVT_EN (03 R73). -/

/-- The bits after some bits of a page were made pending. -/
theorem wbit_each_setPendBit (page : Nat) (bs : List Nat) (hbs : ∀ b ∈ bs, b < 32) (s : State) (i : Nat) :
    (s.each bs (fun s b => s.setPendBit page b)).wbit (evtPendKey page) i = (s.wbit (evtPendKey page) i || decide (i ∈ bs)) := by
  induction bs generalizing s with
  | nil => simp [State.each]
  | cons b bs ih =>
    have hb : b < 32 := hbs b List.mem_cons_self
    change ((s.setPendBit page b).each bs (fun s b => s.setPendBit page b)).wbit (evtPendKey page) i = _
    rw [ih (fun b' hb' => hbs b' (List.mem_cons_of_mem _ hb')), wbit_setPendBit s page hb]
    by_cases hib : i = b <;> simp [hib]

/-- The listed bits are the set bits below 32. -/
theorem mem_bitsOf (v i : Nat) : i ∈ bitsOf v ↔ i < 32 ∧ v.testBit i = true := by
  rw [bitsOf, List.mem_filter, List.mem_range]

/-- What the write of EVT_EN does after the word is stored: deliveries alone. -/
theorem evtEnWriteFx_eq (page : Nat) (v : Word32) (s : State) :
    ∃ bs, evtEnWriteFx page v s =
      (s.setWord (evtEnKey page) (v &&& BitVec.ofNat 32 (evtMaskOf page))).each bs (fun s i => s.deliver page i) := ⟨_, rfl⟩

/-- Deliveries leave the registers alone. -/
theorem regs_each_deliver (page : Nat) (bs : List Nat) (s : State) : (s.each bs (fun s i => s.deliver page i)).regs = s.regs :=
  each_keeps (P := fun t => t.regs = s.regs) bs (fun t b ht => (deliver_regs t page b).trans ht) rfl

/-! Delivery to a sender (03 R74; log 202). -/

/-- A sender's delivery owes the page's vector one message more, if it names one. -/
theorem deliver_sender_due {s : State} (hr : s.role = .sender) (page b : Nat) :
    (s.deliver page b).evt.due = if s.vector page < 64 then s.evt.due ++ [s.vector page] else s.evt.due := by
  unfold State.deliver
  rw [hr]
  dsimp only
  split <;> rfl

/-- The EVT_EN and the EVT_PEND word of a page are two words. -/
theorem evtEnKey_ne_evtPendKey (p q : Nat) : evtEnKey p ≠ evtPendKey q := by
  unfold evtEnKey evtPendKey regKey
  omega

/-- An event that becomes pending and is enabled is delivered. -/
theorem raise_sender_due {e : Evt} {s : State} (hr : s.role = .sender) (hb : e.bit < 32)
    (hpend : s.wbit (evtPendKey e.page) e.bit = false) (hen : s.wbit (evtEnKey e.page) e.bit = true) :
    (s.raise e).evt.due = if s.vector e.page < 64 then s.evt.due ++ [s.vector e.page] else s.evt.due := by
  have hen' : (s.setWbit (evtPendKey e.page) e.bit true).wbit (evtEnKey e.page) e.bit = true := by
    rw [wbit_setWbit s _ hb, if_neg (fun h => evtEnKey_ne_evtPendKey _ _ h.1), hen]
  have hdel : (!s.wbit (evtPendKey e.page) e.bit && (s.setWbit (evtPendKey e.page) e.bit true).wbit (evtEnKey e.page) e.bit) = true := by
    rw [hpend, hen']; rfl
  unfold State.raise State.setPendBit
  rw [cond_of hdel]
  exact deliver_sender_due (s := s.setWbit (evtPendKey e.page) e.bit true) hr e.page e.bit

/-! MSIX_MESSAGE (03 R74, R78; log 153). -/

/-- The command on a sender that owes the vector a message. -/
theorem exec_msix_owed {vec t : Nat} (masked : Bool) {s : State} (hs : s.isSender = true) (hdue : vec ∈ s.evt.due) :
    exec (.msixMessage ⟨vec, masked⟩ t) s = .next
      (if masked then { s.atTime t with evt := { s.evt with pba := vec :: s.evt.pba.filter (· != vec) } }
       else (s.atTime t).cond
         (match s.evt.last.find? (fun p => p.1 == vec) with
          | none => true
          | some p => decide (p.2 + min (s.rd R.EVT.HOLDOFF) 1000 * us1 ≤ max s.time t)) (msixSend vec)) := by
  have hgo : ((s.atTime t).isSender && (s.atTime t).evt.due.contains vec) = true := by
    rw [Bool.and_eq_true]
    exact ⟨hs, List.contains_iff_mem.mpr hdue⟩
  change execMsixMessage ⟨vec, masked⟩ t s = _
  rw [execMsixMessage, cond_of hgo]
  rfl

/-- Settles O9: each register write in turn, the delivery of an event, and the message that is sent, masked or held off. -/
theorem eventsArePostedAndDelivered : Obligations.EventsArePostedAndDelivered := by
  unfold Obligations.EventsArePostedAndDelivered
  refine ⟨fun page v s hp => ?cleared, fun page v s hp => ?forced, fun page v s hp => ?enabled, fun e s hr hb hpend hen => ?delivered,
    fun vec t s hs hdue hlast => ?sent, fun vec t s hs hdue => ?masked, fun vec t last s hs hlast hlt => ?heldOff⟩
  case cleared =>
    refine ⟨s.start.cond (s.pageOn page) (evtPendClearFx page v), rfl, ?_⟩
    rw [cond_of hp, evtPendClearFx_eq]
    have hsignals (vec p : Nat) : (pendCleared page v s.start).clearPba.signals vec p = (pendCleared page v s.start).signals vec p :=
      signals_congr rfl rfl vec p
    refine ⟨rfl, wordsKept_setWord s.start _ _, word_setWord_same _ _ _, rfl, rfl, fun vec => ?_, fun vec => ?_, fun i hi => ?_⟩
    · simp only [hsignals]
      exact mem_clearPba _ vec
    · exact count_due_clearPba (pendCleared page v s.start) vec
    · change (smGet (fun _ => 0) (smMod (fun _ => 0) s.evt.sent page (fun m => m &&& (2 ^ 32 - 1 - v.toNat))) page).testBit i = false
      rw [smMod, smGet_set_same]
      exact testBit_cleared _ v hi
  case forced =>
    refine ⟨s.start.cond (s.pageOn page) (evtForceFx page v), rfl, ?_⟩
    rw [cond_of hp]
    refine ⟨onlyRegs_trans (onlyRegs_start s) (onlyRegs_each _ _ fun u b => onlyRegs_setPendBit u page b),
      wordsKept_each s.start _ fun u b => wordsKept_setPendBit u page b, fun i hi => ?_⟩
    rw [evtForceFx, wbit_each_setPendBit page _ (fun b hb => ((mem_bitsOf _ b).mp hb).1)]
    congr 1
    rw [Bool.eq_iff_iff, decide_eq_true_iff, mem_bitsOf, Nat.testBit_and]
    exact ⟨fun h => h.2, fun h => ⟨hi, h⟩⟩
  case enabled =>
    refine ⟨s.start.cond (s.pageOn page) (evtEnWriteFx page v), rfl, ?_⟩
    obtain ⟨bs, hfx⟩ := evtEnWriteFx_eq page v s.start
    have hregs := regs_each_deliver page bs (s.start.setWord (evtEnKey page) (v &&& BitVec.ofNat 32 (evtMaskOf page)))
    rw [cond_of hp, hfx]
    refine ⟨onlyRegs_trans (onlyRegs_setWord s.start _ _) (onlyRegs_each _ _ fun u b => onlyRegs_deliver u page b),
      wordsKept_trans (wordsKept_setWord s.start _ _) (wordsKept_of_regs hregs _), ?_⟩
    rw [word_congr hregs, word_setWord_same]
  case delivered =>
    exact ⟨raise_sender_due hr hb hpend hen, pending_raise s hb⟩
  case sent =>
    have hnone : s.evt.last.find? (fun p => p.1 == vec) = none := by
      rw [List.find?_eq_none]
      exact fun p hp => by simpa using hlast p hp
    refine ⟨_, exec_msix_owed false hs hdue, ?_⟩
    rw [hnone]
    refine ⟨rfl, List.mem_cons_self, ?_, ?_⟩
    · change vec ∉ s.evt.pba.filter (· != vec)
      simp
    · change (if s.rd R.EVT.HOLDOFF = 0 ∧ (!s.evt.pba.contains vec) = true then _ else _) = _
      simp
  case masked =>
    exact ⟨_, exec_msix_owed true hs hdue, rfl, List.mem_cons_self⟩
  case heldOff =>
    refine ⟨_, rfl, ?_⟩
    change State.cond _ _ _ = _
    cases hgo : ((s.atTime t).isSender && (s.atTime t).evt.due.contains vec)
    · rfl
    · have hwait : decide (last + min (s.rd R.EVT.HOLDOFF) 1000 * us1 ≤ max s.time t) = false := decide_eq_false (by omega)
      change State.cond _ (match s.evt.last.find? (fun p => p.1 == vec) with
          | none => true
          | some p => decide (p.2 + min (s.rd R.EVT.HOLDOFF) 1000 * us1 ≤ max s.time t)) (msixSend vec) = _
      rw [hlast]
      exact cond_of_not hwait _ _

end Sys2Proof.Proofs.Messages

/-!
Malformed register writes, and writes through a table window (03 R60, R64, R74).
-/

namespace Sys2Proof.Proofs.TableWrites
open Sys2Proof.Machine Sys2Proof.Laws Sys2Proof.Proofs.Commits Sys2Proof.Proofs.Frames

/-! Tables with a rule of their own have no pending copy (11 R303; 12 R342; 14 R390; 10 R274; 15 R394). -/

/-- The pages all of whose tables take their writes by a rule of their own: the sagger memories, the timing sets and the mailboxes. -/
def ownRulePages : List Nat := 0x0C0 :: ((List.range 4).map (0x0E0 + ·) ++ (List.range 16).map (0x080 + ·))

/-- A table is of the pending kind. -/
def isPendTable (t : Nat × TabCls) : Bool := decide (t.2 = .pend)

/-- None of those tables is. -/
theorem ownRulePages_tables : ownRulePages.all (fun p => (blkOf p).all (fun x => !x.1.tables.any isPendTable)) = true := by decide

/-- A page with a table of the pending kind is none of those. -/
theorem not_mem_ownRulePages {page n tab size : Nat} {b : Blk} (hb : blkOf page = some (b, n))
    (h : b.tables[tab]? = some (size, .pend)) : page ∉ ownRulePages := by
  intro hmem
  have hnone := List.all_eq_true.mp ownRulePages_tables page hmem
  have hany : b.tables.any isPendTable = true := List.any_eq_true.mpr ⟨_, List.mem_of_getElem? h, rfl⟩
  rw [hb, Option.all_some, hany] at hnone
  cases hnone

/-- The window selects a table of the page's block. -/
theorem tables_of_window {s : State} {page off tab i : Nat} {cls : TabCls} (h : s.tblWindow page off = some (tab, i, cls)) :
    ∃ b n size, blkOf page = some (b, n) ∧ b.tables[tab]? = some (size, cls) := by
  unfold State.tblWindow at h
  cases hb : blkOf page with
  | none => simp [hb] at h
  | some x =>
    obtain ⟨b, n⟩ := x
    simp only [hb] at h
    cases ht : (tablesOf s.member b)[fieldOf (s.word (regKey page 0x03C)) 0 8]? with
    | none => simp [ht] at h
    | some y =>
      obtain ⟨size, cls'⟩ := y
      simp only [ht] at h
      split at h
      · simp only [Option.some.injEq, Prod.mk.injEq] at h
        obtain ⟨rfl, -, rfl⟩ := h
        refine ⟨b, n, size, rfl, ?_⟩
        unfold tablesOf at ht
        split at ht
        · rw [List.getElem?_take] at ht
          split at ht
          · exact ht
          · cases ht
        · exact ht
      · cases h

/-- A write of a word of a table with a pending copy stores it there. -/
theorem tableWord_pend {s : State} {page off tab i : Nat} (h : s.tblWindow page off = some (tab, i, .pend)) (v : Word32) :
    s.tableWord page tab i .pend v = s.setPend page tab i v := by
  obtain ⟨b, n, size, hb, ht⟩ := tables_of_window h
  have hpages : page ∉ ownRulePages := not_mem_ownRulePages hb ht
  simp only [ownRulePages, List.mem_cons, List.mem_append, List.mem_map, List.mem_range, not_or, not_exists, not_and] at hpages
  obtain ⟨hsag, hdrm, hcoil⟩ := hpages
  have hcal : ¬(page = 0x0A2 ∧ tab = 0) := by
    rintro ⟨rfl, rfl⟩
    obtain ⟨rfl, -⟩ : Blk.cor = b ∧ 0 = n := by simpa using (show blkOf 0x0A2 = some (.cor, 0) by decide).symm.trans hb
    simp [Blk.tables] at ht
  have haud : ¬(page = 0x0F0 ∧ tab = 1) := by
    rintro ⟨rfl, rfl⟩
    obtain ⟨rfl, -⟩ : Blk.aud = b ∧ 0 = n := by simpa using (show blkOf 0x0F0 = some (.aud, 0) by decide).symm.trans hb
    simp [Blk.tables] at ht
  have htiming : ¬(0x0E0 ≤ page ∧ page < 0x0E4) := fun hp => hdrm (page - 0x0E0) (by omega) (by omega)
  have hmail : ¬(0x080 ≤ page ∧ page < 0x090) := fun hp => hcoil (page - 0x080) (by omega) (by omega)
  unfold State.tableWord
  rw [if_neg hcal, if_neg hsag, if_neg htiming, if_neg hmail, if_neg haud]

/-- TABLE_WRITE to a table with a pending copy. -/
theorem exec_tableWrite_pend {page off tab i : Nat} (v : Word32) {s : State} (hp : s.pageOn page = true) (ha : off % 4 = 0)
    (hlo : 0x800 ≤ off) (hhi : off < 0x1000) (h : s.tblWindow page off = some (tab, i, .pend)) :
    exec (.tableWrite (regKey page off) v) s = .next (s.start.setPend page tab i (v &&& BitVec.ofNat 32 (tabMask page tab i))) := by
  have hpage : regKey page off / 0x1000 = page := by unfold regKey; omega
  have hoff : regKey page off % 0x1000 = off := by unfold regKey; omega
  have hword : off / 4 * 4 = off := by omega
  have hstart : s.start.tblWindow page off = some (tab, i, .pend) := h
  have hgo : (s.pageOn page && decide (0x800 ≤ off)) = true := by rw [hp, decide_eq_true hlo]; rfl
  change execTableWrite (regKey page off) v s = _
  rw [execTableWrite, hpage, hoff, cond_of hgo, hword, State.windowWrite, hstart]
  exact congrArg _ (tableWord_pend hstart _)

/-- Settles O4: a malformed write counts alone, a write of a pending table stores one word of its pending copy, and one of the vector map
    one of its words. -/
theorem partialWritesAndTableWrites : Obligations.PartialWritesAndTableWrites := by
  unfold Obligations.PartialWritesAndTableWrites
  refine ⟨fun addr be v t s hbad hp => ?malformed, fun page off tab i v s hp ha hlo hhi hwin => ?pending, fun addr v s hp hlt => ?vectors⟩
  case malformed =>
    refine ⟨_, exec_registerWrite addr be v t s, ?_⟩
    rw [registerWriteFx, if_pos hbad, cond_of (b := (s.atTime t).pageOn 0x000) hp]
    exact ⟨onlyRegs_trans (onlyRegs_atTime s t) (onlyRegs_inc _ _), counted_inc (s.atTime t) rfl rfl, wordsKept_inc (s.atTime t) (by decide)⟩
  case pending =>
    exact ⟨_, exec_tableWrite_pend v hp ha hlo hhi hwin, rfl, fun p k j => smGet_set tabDefault s.pend _ _ _⟩
  case vectors =>
    have hgo : (s.pageOn 0x001 && decide (addr < 288)) = true := by rw [hp, decide_eq_true hlt]; rfl
    refine ⟨_, rfl, ?_⟩
    rw [cond_of hgo]
    exact ⟨rfl, fun k j => smGet_set tabDefault s.imm _ _ _⟩

end Sys2Proof.Proofs.TableWrites

/-!
Reads of 1 to 4 bytes of an aligned word (03 R60, R61).
-/

namespace Sys2Proof.Proofs.ByteReads
open Sys2Proof.Machine Sys2Proof.Laws Sys2Proof.Proofs.LatchedReads

/-- A read at an address is one at its aligned word. -/
theorem busRead_aligned (s : State) (addr : Nat) : s.busRead addr = s.busRead (addr / 4 * 4) := by
  have hkey : addr / 4 * 4 / 4 * 4 = addr / 4 * 4 := by omega
  simp only [State.busRead, hkey]

/-- A read that stays inside its word answers with the addressed bytes of what the word's read returns. -/
theorem registerReadFx_bytes {addr len : Nat} (h : addr % 4 + len ≤ 4) (s : State) :
    registerReadFx addr len s = (s.busRead (addr / 4 * 4)).2.emit
      (.regRead (BitVec.ofNat 32 (fieldOf (s.busRead (addr / 4 * 4)).1 (8 * (addr % 4)) (8 * len)))) := by
  have hlen : min len (4 - addr % 4) = len := by omega
  rw [registerReadFx, busRead_aligned, hlen]

/-- The words that a read of the word with this key holds back, none on a page that does not answer. -/
def heldBy (s : State) (k : Nat) : List Nat :=
  if s.pageOn (k / 0x1000) then (s.latchedBy (k / 0x1000) (k % 0x1000)).map (regKey (k / 0x1000)) else []

/-- A read of a word that is not held returns it as it reads now and holds the words that belong to it. -/
theorem busRead_unheld {s : State} {k : Nat} (ha : k % 4 = 0) (h : s.latch.find? (fun p => p.1 == k) = none) :
    s.busRead k = (s.busWord k, s.each (heldBy s k) State.holdWord) := by
  have hkey : k / 4 * 4 = k := by omega
  unfold heldBy
  simp only [State.busRead, hkey, h]
  split <;> rfl

/-- The word above a lower half is among those held, on a page that answers. -/
theorem heldBy_low {s : State} {k : Nat} (hp : s.pageOn (k / 0x1000) = true) (hne : k ≠ 0x4600)
    (h : isLowWord (k / 0x1000) (k % 0x1000) = true ∨ s.lowInWindow (k / 0x1000) (k % 0x1000) = true) : heldBy s k = [k + 4] := by
  have htime : ¬(k / 0x1000 = 0x004 ∧ k % 0x1000 = 0x600) := by omega
  have hupper : regKey (k / 0x1000) (k % 0x1000 + 4) = k + 4 := by unfold regKey; omega
  rw [heldBy, if_pos hp, State.latchedBy, if_neg htime, if_pos h, List.map_singleton, hupper]

/-- Nothing is held where nothing belongs to the word. -/
theorem heldBy_none {s : State} {k : Nat} (h : s.latchedBy (k / 0x1000) (k % 0x1000) = []) : heldBy s k = [] := by
  rw [heldBy, h, List.map_nil, ite_self]

/-- Settles O6: a word that is not held is read as it is and holds its upper half, and a held one is returned and dropped. -/
theorem readsReturnAndLatch : Obligations.ReadsReturnAndLatch := by
  unfold Obligations.ReadsReturnAndLatch
  refine ⟨fun addr len t s _ hin hfree => ?unheld, fun addr len t x s _ hin hheld => ?held⟩
  case unheld =>
    have hnone : (s.atTime t).latch.find? (fun p => p.1 == addr / 4 * 4) = none := by
      rw [List.find?_eq_none]
      exact fun p hp => by simpa using hfree p hp
    refine ⟨registerReadFx addr len (s.atTime t), rfl, ?_⟩
    rw [registerReadFx_bytes hin, busRead_unheld (by omega) hnone, holdWords_eq]
    refine ⟨rfl, rfl, fun hlow hne hp => ?_, fun hnothing => ?_⟩
    · have hkeys : heldBy (s.atTime t) (addr / 4 * 4) = [addr / 4 * 4 + 4] := heldBy_low hp hne hlow
      rw [hkeys]
      exact List.mem_cons_self
    · have hkeys : heldBy (s.atTime t) (addr / 4 * 4) = [] := heldBy_none hnothing
      rw [hkeys]
      rfl
  case held =>
    refine ⟨registerReadFx addr len (s.atTime t), rfl, ?_⟩
    rw [registerReadFx_bytes hin, busRead_held (s := s.atTime t) (by omega) hheld]
    rfl

end Sys2Proof.Proofs.ByteReads

/-!
Management requests that a tile executes (10 R259, R265; 03 R79).
-/

namespace Sys2Proof.Proofs.Requests
open Sys2Proof.Machine Sys2Proof.Laws Sys2Proof.Proofs.Commits Sys2Proof.Proofs.ShadowWrites Sys2Proof.Proofs.LatchedReads
  Sys2Proof.Proofs.TileCommits Sys2Proof.Proofs.ByteReads

/-! The answer leaves (10 R259). -/

/-- A tile that has taken its oldest request. -/
def taken (s : State) (port : Nat) (r : MgmtReq) (q : List (Nat × MgmtReq)) : State :=
  { s with mgmt := { s.mgmt with queue := q, last := some (port, r) } }

/-- A port of a tile by which a packet can leave now. -/
structure Clear (s : State) (port : Nat) : Prop where
  tile : s.role = .tile
  sends : s.canSend port = true
  egress : (s.coilSt port).egress = []
  open_ : s.flag (R.COIL.XOFF_RX port) = false

/-- What the statement's hypotheses say of the port. -/
theorem clear_of_free {s : State} {port t : Nat} (ht : s.isTile = true) (hs : s.canSend port = true)
    (hf : s.egressFree port t = true) : Clear s port := by
  obtain ⟨-, hrole⟩ := (isTile_iff s).mp ht
  simp only [State.egressFree, Bool.and_eq_true, Bool.not_eq_true', List.isEmpty_iff] at hf
  obtain ⟨⟨hegress, hxoff⟩, -⟩ := hf
  exact ⟨hrole, hs, hegress, hxoff⟩

/-- It stays clear when time is read and the request is taken. -/
theorem clear_taken {s : State} {port : Nat} (h : Clear s port) (t : Nat) (r : MgmtReq) (q : List (Nat × MgmtReq)) :
    Clear (taken (s.atTime t) port r q) port := ⟨h.tile, h.sends, h.egress, h.open_⟩

/-- An answer on such a port leaves at once, and nothing else happens: a tile launches no TICK of its own. -/
theorem send_mgmtRsp {s : State} {port : Nat} (h : Clear s port) (a : Option Nat) (dest tag status : Nat) (data : List Word32)
    (hout : s.out = []) :
    s.send a (.mgmtRsp port dest tag status data) = { s with out := [.mgmtRsp port dest tag status data] } := by
  have hplanned : s.tickPlanned = false := by simp [State.tickPlanned, State.isSender, h.tile]
  have hbarred : s.barred port (classOf ptMGMT_RSP) (outBytes (.mgmtRsp port dest tag status data)) = false := by
    simp [State.barred, State.tickGuard, hplanned, h.open_]
  rw [send_now s a rfl h.egress hbarred]
  change ({ s with out := placeOut _ s.out } : State) = _
  rw [hout, placeOut_nil]

/-- The oldest request executes and its answer leaves, when its run leaves the port clear. -/
theorem mgmtExecuteFx_answers {s u : State} {port status : Nat} {r : MgmtReq} {q : List (Nat × MgmtReq)} {data : List Word32}
    (hq : s.mgmt.queue = (port, r) :: q) (hrun : (taken s port r q).mgmtRun r = (status, data, u)) (h : Clear u port) (hout : u.out = []) :
    mgmtExecuteFx s = { u with out := [.mgmtRsp port r.src r.tag status data] } := by
  unfold taken at hrun
  unfold mgmtExecuteFx
  simp only [hq, hrun, h.sends, if_true]
  exact send_mgmtRsp h none _ _ _ _ hout

/-- MGMT_REQ_EXECUTE in a tile. -/
theorem exec_mgmtReqExecute {s : State} (t : Nat) (ht : s.isTile = true) :
    exec (.mgmtReqExecute t) s = .next (mgmtExecuteFx (s.atTime t)) := by
  change execMgmtReqExecute t s = _
  rw [execMgmtReqExecute]
  exact congrArg _ (Frames.cond_of (b := (s.atTime t).isTile) ht _ _)

/-! What a request's run does (10 R259; log 75). -/

theorem mgmtRun_absent {s : State} {r : MgmtReq} (h : s.pageOn r.page = false) : s.mgmtRun r = (rsABSENT_PAGE, [], s) := by
  rw [State.mgmtRun, h]
  rfl

theorem mgmtRun_beyond {s : State} {r : MgmtReq} (h : s.pageOn r.page = true) (hr : 0x1000 < r.offset / 4 * 4 + 4 * (r.len + 1)) :
    s.mgmtRun r = (rsBAD_RANGE, [], s) := by
  rw [State.mgmtRun, h, if_neg (by decide), if_pos hr]

/-- A read of one word. -/
theorem mgmtRun_read {s : State} {r : MgmtReq} (h : s.pageOn r.page = true) (ho : r.offset < 0x1000) (hw : r.write = false)
    (hl : r.len = 0) : s.mgmtRun r = (rsOK, [(s.busRead (regKey r.page (r.offset / 4 * 4))).1],
      (s.busRead (regKey r.page (r.offset / 4 * 4))).2) := by
  rw [State.mgmtRun, h, if_neg (by decide), if_neg (by omega), hw, if_neg (by decide), hl]
  rfl

/-- A write of one word of a shadow register. -/
theorem mgmtRun_shadow {s : State} {r : MgmtReq} {b : Blk} {n : Nat} {x : Row} {v : Word32} (h : s.pageOn r.page = true)
    (hb : blkOf r.page = some (b, n)) (hsdi : isSdi4 b n = false) (ha : r.offset % 4 = 0) (ho : r.offset < 0x1000)
    (hrow : rowAt r.offset b.rows = some x) (hcls : x.cls = .sh) (hw : r.write = true) (hl : r.len = 0) (hd : r.data = [v]) :
    s.mgmtRun r = (rsOK, [], shadowWriteFx b n r.page r.offset x.mask v s) := by
  have hoff : r.offset / 4 * 4 = r.offset := by omega
  obtain ⟨hlo, hhi⟩ := rowAt_shadow_range hrow hcls
  have hreset : regKey r.page r.offset ≠ regKey 0x000 0x008 := by unfold regKey; omega
  rw [State.mgmtRun, h, if_neg (by decide), hoff, hl, if_neg (by omega), hw, if_pos rfl, hd]
  change (rsOK, [], mgmtWordFx (regKey r.page r.offset) v s) = _
  rw [mgmtWordFx, if_neg hreset, registerWriteFx_page v s hb h ha ho, pageWriteFx_shadow v s hsdi hrow hcls]

/-- In a tile a shadow write is a masked write: the registers with an exception are a sender's. -/
theorem shadowWriteFx_tile {b : Blk} {n page off mask : Nat} (v : Word32) (s : State) (hb : b.inRole .tile = true) :
    shadowWriteFx b n page off mask v s = s.maskedWrite page off mask v := by
  have hnet : b ≠ .net := by rintro rfl; cases hb
  have hsdi : b ≠ .sdi := by rintro rfl; cases hb
  have hdrm : b ≠ .drm := by rintro rfl; cases hb
  simp [shadowWriteFx, hnet, hsdi, hdrm]

/-- A page that answers is one of the role's. -/
theorem inRole_of_pageOn {s : State} {page n : Nat} {b : Blk} (hb : blkOf page = some (b, n)) (hp : s.pageOn page = true) :
    b.inRole s.role = true := by
  simp only [State.pageOn, hb, Bool.and_eq_true] at hp
  exact hp.1.1.1

/-- A shadow write leaves a port clear: what decides that lies in the common heads of the pages. -/
theorem clear_setWord {s : State} {port k : Nat} (h : Clear s port) (hk : 0x40 ≤ k % 0x1000) (x : Word32) : Clear (s.setWord k x) port := by
  have hstate : (s.setWord k x).rd R.GLB.STATE = s.rd R.GLB.STATE :=
    rd_setWord_ne s x (by rw [show R.GLB.STATE.key = 0x00C from rfl]; omega) (fun hw => absurd hw (by decide))
  have hstatus (f : Fld) (hf : f.key = regKey (0x080 + port) 0x00C) (hw : f.w ≤ 32) : (s.setWord k x).rd f = s.rd f :=
    rd_setWord_ne s x (by rw [hf]; unfold regKey; omega) (by omega)
  have hlink := hstatus (R.COIL.LINK port) rfl (Nat.le_of_ble_eq_true rfl)
  have hloop := hstatus (R.COIL.st_TOPOLOGY_LOOP port) rfl (Nat.le_of_ble_eq_true rfl)
  have hxoff := hstatus (R.COIL.XOFF_RX port) rfl (Nat.le_of_ble_eq_true rfl)
  refine ⟨h.tile, ?_, h.egress, ?_⟩
  · have hup : (s.setWord k x).isUp port = s.isUp port := by
      unfold State.isUp State.running State.stateCode
      rw [hstate, hlink]
      rfl
    rw [State.canSend, hup, State.flag, hloop]
    exact h.sends
  · rw [State.flag, hxoff]
    exact h.open_

/-- Settles O8: what the run of each kind of request does, and that its answer leaves. -/
theorem managementReadsAnswer : Obligations.ManagementReadsAnswer := by
  unfold Obligations.ManagementReadsAnswer
  refine ⟨fun port r q t s ht hq hs hf hp => ?absent, fun port r q t s ht hq hs hf hp hr => ?beyond,
    fun port r q t s ht hq hs hf hp ho hw hl hlatch => ?read,
    fun port n off b x r v q t s ht hq hs hf hp hb hoff ha ho hrow hcls hw hl hd => ?write⟩
  case absent =>
    refine ⟨_, exec_mgmtReqExecute t ht, ?_⟩
    have hclear := clear_taken (clear_of_free ht hs hf) t r q
    rw [mgmtExecuteFx_answers (s := s.atTime t) hq (mgmtRun_absent hp) hclear rfl]
    rfl
  case beyond =>
    refine ⟨_, exec_mgmtReqExecute t ht, ?_⟩
    have hclear := clear_taken (clear_of_free ht hs hf) t r q
    rw [mgmtExecuteFx_answers (s := s.atTime t) hq (mgmtRun_beyond hp hr) hclear rfl]
    rfl
  case read =>
    refine ⟨_, exec_mgmtReqExecute t ht, ?_⟩
    have hfree : (taken (s.atTime t) port r q).latch.find? (fun p => p.1 == regKey r.page (r.offset / 4 * 4)) = none := by
      change s.latch.find? _ = none
      rw [hlatch]
      rfl
    have hrun := mgmtRun_read (s := taken (s.atTime t) port r q) hp ho hw hl
    rw [busRead_unheld (by unfold regKey; omega) hfree, holdWords_eq] at hrun
    have hclear := clear_taken (clear_of_free ht hs hf) t r q
    rw [mgmtExecuteFx_answers (s := s.atTime t) hq hrun ⟨hclear.tile, hclear.sends, hclear.egress, hclear.open_⟩ rfl]
    exact ⟨rfl, rfl⟩
  case write =>
    subst hoff
    obtain ⟨-, hrole⟩ := (isTile_iff s).mp ht
    have hin : b.inRole .tile = true := hrole ▸ inRole_of_pageOn hb hp
    have hne : b ≠ .sdi := by rintro rfl; cases hin
    have hsdi : isSdi4 b n = false := by simp [isSdi4, hne]
    obtain ⟨hlo, -⟩ := rowAt_shadow_range hrow hcls
    refine ⟨_, exec_mgmtReqExecute t ht, ?_⟩
    have hrun := mgmtRun_shadow (s := taken (s.atTime t) port r q) hp hb hsdi ha ho hrow hcls hw hl hd
    rw [shadowWriteFx_tile v _ hin] at hrun
    have hclear := clear_taken (clear_of_free ht hs hf) t r q
    have hkept := clear_setWord (k := regKey r.page r.offset) hclear (by unfold regKey; omega)
      (((taken (s.atTime t) port r q).word (regKey r.page r.offset) &&& ~~~(BitVec.ofNat 32 x.mask)) ||| (v &&& BitVec.ofNat 32 x.mask))
    rw [mgmtExecuteFx_answers (s := s.atTime t) hq hrun hkept rfl]
    exact ⟨rfl, fun k hk => word_setWord_ne s _ (by simpa using hk), word_setWord_same s _ _⟩

end Sys2Proof.Proofs.Requests

/-!
When a packet may leave a port: the fields and records that decide it (10 R250, R263, R266, R269, R276), and that a packet which nothing
holds back leaves at once.
-/

namespace Sys2Proof.Proofs.Ports
open Sys2Proof.Machine Sys2Proof.Laws Sys2Proof.Proofs.Frames

/-- The register fields that decide whether a packet may leave a port. -/
def gateFields (p : Nat) : List Fld :=
  [R.GLB.STATE, R.GLB.EPOCH, R.RED.RELINQUISHED, ⟨0x090, 0x600, 2 * p, 2⟩, R.COIL.LINK p, R.COIL.XOFF_RX p, R.COIL.st_TOPOLOGY_LOOP p,
   (R.COIL.EN p).live, R.RED.PORT_ROLE.live, R.RED.RESTORE.live]

/-- Two states agree on all that decides whether a packet may leave a port. -/
structure SameGate (s t : State) (p : Nat) : Prop where
  role : t.role = s.role
  time : t.time = s.time
  aon : t.aon = s.aon
  frm : t.frm = s.frm
  armed : t.boot.armed = s.boot.armed
  placed : t.clk.placed = s.clk.placed
  pend : t.cmt.pend = s.cmt.pend
  coil : t.coilSt p = s.coilSt p
  rd : ∀ f ∈ gateFields p, t.rd f = s.rd f

variable {s t : State} {p : Nat}

/-- The port is UP in both. -/
theorem SameGate.isUp (h : SameGate s t p) : t.isUp p = s.isUp p := by
  have hstate := h.rd R.GLB.STATE (by simp [gateFields])
  have hlink := h.rd (R.COIL.LINK p) (by simp [gateFields])
  unfold State.isUp State.running State.stateCode
  rw [hstate, hlink, h.aon]

/-- It can send in both. -/
theorem SameGate.canSend (h : SameGate s t p) : t.canSend p = s.canSend p := by
  have hloop := h.rd (R.COIL.st_TOPOLOGY_LOOP p) (by simp [gateFields])
  rw [State.canSend, State.canSend, h.isUp, State.flag, State.flag, hloop]

/-- The next tick is planned in both. -/
theorem SameGate.tickPlanned (h : SameGate s t p) : t.tickPlanned = s.tickPlanned := by
  have hstate := h.rd R.GLB.STATE (by simp [gateFields])
  unfold State.tickPlanned State.isSender State.running State.stateCode
  rw [hstate, h.role, h.frm, h.armed, h.placed]

/-- The same configuration is pending for an epoch, or none is. -/
theorem SameGate.cfgAt (h : SameGate s t p) (e : Nat) {f : Fld} (hf : t.lv f = s.lv f) : t.cfgAt e f = s.cfgAt e f := by
  unfold State.cfgAt
  rw [h.pend]
  cases s.cmt.pend.find? (fun c => c.target == e) with
  | none => exact hf
  | some c => rfl

/-- PORT_ROLE, RESTORE and the port's EN are the same now and at an epoch. -/
theorem SameGate.roles (h : SameGate s t p) (e : Nat) :
    rolesChange (t.cfgAt e) t.lv = rolesChange (s.cfgAt e) s.lv ∧ namedOf (t.cfgAt e) p = namedOf (s.cfgAt e) p ∧
      t.cfgAt e (R.COIL.EN p) = s.cfgAt e (R.COIL.EN p) ∧ t.lv (R.COIL.EN p) = s.lv (R.COIL.EN p) := by
  have hen : t.lv (R.COIL.EN p) = s.lv (R.COIL.EN p) := h.rd (R.COIL.EN p).live (by simp [gateFields])
  have hrole : t.lv R.RED.PORT_ROLE = s.lv R.RED.PORT_ROLE := h.rd R.RED.PORT_ROLE.live (by simp [gateFields])
  have hrestore : t.lv R.RED.RESTORE = s.lv R.RED.RESTORE := h.rd R.RED.RESTORE.live (by simp [gateFields])
  unfold rolesChange namedOf
  rw [h.cfgAt e hen, h.cfgAt e hrole, h.cfgAt e hrestore, hen, hrole, hrestore]
  exact ⟨rfl, rfl, rfl, rfl⟩

/-- The port launches the TICK of an epoch in both. -/
theorem SameGate.launchesAt (h : SameGate s t p) (e : Nat) :
    t.launchesAt p e = s.launchesAt p e ∧ t.handbackAt p e = s.handbackAt p e := by
  have hrel : t.flag R.RED.RELINQUISHED = s.flag R.RED.RELINQUISHED := by
    unfold State.flag
    rw [h.rd R.RED.RELINQUISHED (by simp [gateFields])]
  have hrestore : t.lv R.RED.RESTORE = s.lv R.RED.RESTORE := h.rd R.RED.RESTORE.live (by simp [gateFields])
  have hport : t.portState p = s.portState p := h.rd ⟨0x090, 0x600, 2 * p, 2⟩ (by simp [gateFields])
  obtain ⟨hroles, hnamed, hen, hlv⟩ := h.roles e
  have hat : t.portStateAt p e = s.portStateAt p e := by
    simp only [State.portStateAt, hroles, hnamed, hen, hlv, hport]
  unfold State.launchesAt State.handbackAt State.serves
  simp only [hat, hrel, h.cfgAt e hrestore, hrestore, h.coil, hport, hroles]
  exact ⟨trivial, trivial⟩

/-- A packet is barred in both. -/
theorem SameGate.barred (h : SameGate s t p) (cls n : Nat) : t.barred p cls n = s.barred p cls n := by
  have hxoff : t.flag (R.COIL.XOFF_RX p) = s.flag (R.COIL.XOFF_RX p) := by
    unfold State.flag
    rw [h.rd (R.COIL.XOFF_RX p) (by simp [gateFields])]
  have hepoch : t.epoch = s.epoch := h.rd R.GLB.EPOCH (by simp [gateFields])
  obtain ⟨hlaunch, hback⟩ := h.launchesAt (s.epoch + 1)
  unfold State.barred State.tickGuard State.tickLaunchAt
  rw [hxoff, hepoch, h.tickPlanned, hlaunch, hback, h.frm, h.time]

/-- A register write that spares those fields leaves the gate as it is. -/
theorem sameGate_of_regs (s : State) {t : State} (ht : t = { s with regs := t.regs, evt := t.evt, out := t.out })
    (h : ∀ f ∈ gateFields p, t.rd f = s.rd f) : SameGate s t p := by
  rw [ht] at h ⊢
  exact ⟨rfl, rfl, rfl, rfl, rfl, rfl, rfl, rfl, h⟩

/-- A packet leaves at once by a port whose egress was free when the command began, while the gate stays the same. -/
theorem send_of_sameGate {t0 cls : Nat} (hf : s.egressFree p t0 = true) (h : SameGate (s.atTime t0) t p) (a : Option Nat) {o : Output}
    (ho : lineOf o = some (p, cls)) : t.send a o = t.depart o := by
  have hegress : (t.coilSt p).egress = [] := by
    rw [h.coil]
    simp only [State.egressFree, Bool.and_eq_true, List.isEmpty_iff] at hf
    exact hf.1.1
  refine send_now t a ho hegress ?_
  rw [h.barred]
  exact egressFree_barred hf _ _

/-- Every field of the gate lies on the GLB page or from the COIL pages on. -/
theorem gateFields_page {f : Fld} (hf : f ∈ gateFields p) : (f.page = 0 ∨ 0x080 ≤ f.page) ∧ f.off + 4 < 0x1000 := by
  simp only [gateFields, List.mem_cons, List.not_mem_nil, or_false] at hf
  rcases hf with rfl | rfl | rfl | rfl | rfl | rfl | rfl | rfl | rfl | rfl <;>
    simp [R.GLB.STATE, R.GLB.EPOCH, R.RED.RELINQUISHED, R.COIL.LINK, R.COIL.XOFF_RX, R.COIL.st_TOPOLOGY_LOOP, R.COIL.EN,
      R.RED.PORT_ROLE, R.RED.RESTORE, Fld.live]

end Sys2Proof.Proofs.Ports

/-!
The TUN page: launches, refusals, responses and the response queue (03 R79 to R81).
-/

namespace Sys2Proof.Proofs.Tunnel
open Sys2Proof.Machine Sys2Proof.Laws Sys2Proof.Proofs.Commits Sys2Proof.Proofs.Frames Sys2Proof.Proofs.Ports

/-! The launch (03 R79). -/

/-- The request that a launch sends. -/
def launched (v : Word32) (s : State) : MgmtReq :=
  { src := s.lv R.GLB.NODE_ID, tag := fieldOf v 0 6, write := v.getLsbD 6, len := fieldOf v 8 6, offset := s.rd R.TUN.REQ_OFFSET,
    page := s.rd R.TUN.REQ_PAGE,
    data := if !v.getLsbD 6 then [] else if fieldOf v 8 6 = 0 then [s.word R.TUN.REQ_DATA.key]
            else (List.range (fieldOf v 8 6 + 1)).map (fun i => s.immW 0x009 0 (64 * fieldOf v 16 4 + i)) }

/-- The record of the request in flight. -/
def inFlight (v : Word32) (port : Nat) (s : State) : TunReq :=
  { tag := fieldOf v 0 6, node := s.rd R.TUN.REQ_NODE, port := port, write := v.getLsbD 6, len := fieldOf v 8 6, buf := fieldOf v 16 4,
    time := s.time }

/-- The state of a launch before its packet leaves. -/
def underway (v : Word32) (port : Nat) (s : State) : State :=
  { s.wr R.TUN.TAG_REFUSED 0 with tun := { s.tun with out := s.tun.out ++ [inFlight v port s] } }

/-- A field of another word than STATUS keeps its value when TAG_REFUSED is written. -/
theorem rd_refused (s : State) (x : Nat) {f : Fld} (hf : f.key ≠ R.TUN.TAG_REFUSED.key) (hf' : f.key + 4 ≠ R.TUN.TAG_REFUSED.key) :
    (s.wr R.TUN.TAG_REFUSED x).rd f = s.rd f :=
  rd_of_wordsKept (wordsKept_wr s (by decide) x) (by simpa using hf) (fun _ => by simpa using hf')

/-- So does every field that decides whether a packet may leave. -/
theorem sameGate_refused (s : State) (x p : Nat) : SameGate s (s.wr R.TUN.TAG_REFUSED x) p := by
  refine sameGate_of_regs s (by rw [wr_eq]) fun f hf => ?_
  obtain ⟨hpage, hoff⟩ := gateFields_page hf
  exact rd_wr_page s x (show f.page ≠ 0x009 by omega) hoff (by decide)

/-- The range of a port is on its COIL page. -/
theorem routePort_refused (s : State) (x node : Nat) : (s.wr R.TUN.TAG_REFUSED x).routePort node = s.routePort node := by
  have hrange (f : Fld) (p : Nat) (hpage : f.page = 0x080 + p) (hoff : f.off + 4 < 0x1000) :
      (s.wr R.TUN.TAG_REFUSED x).rd f = s.rd f := rd_wr_page s x (show f.page ≠ 0x009 by omega) hoff (by decide)
  have hlo (p : Nat) : (s.wr R.TUN.TAG_REFUSED x).lv (R.COIL.ROUTE_LO p) = s.lv (R.COIL.ROUTE_LO p) :=
    hrange _ p rfl (by simp [R.COIL.ROUTE_LO, Fld.live])
  have hhi (p : Nat) : (s.wr R.TUN.TAG_REFUSED x).lv (R.COIL.ROUTE_HI p) = s.lv (R.COIL.ROUTE_HI p) :=
    hrange _ p rfl (by simp [R.COIL.ROUTE_HI, Fld.live])
  unfold State.routePort State.ports
  simp only [hlo, hhi, wr_member]

/-- A tag is owned by the queues alone. -/
theorem tagOwned_refused (s : State) (x tag : Nat) : (s.wr R.TUN.TAG_REFUSED x).tagOwned tag = s.tagOwned tag := by
  unfold State.tagOwned
  rw [wr_tun]

/-- A launch that nothing refuses. -/
theorem tunLaunchFx_launches {v : Word32} {port : Nat} {s : State} (htag : s.tagOwned (fieldOf v 0 6) = false)
    (hself : s.rd R.TUN.REQ_NODE ≠ s.lv R.GLB.NODE_ID) (hroute : s.routePort (s.rd R.TUN.REQ_NODE) = some port)
    (hroom : (s.tun.out.filter (fun r => r.port == port)).length < 16) (hrange : s.rd R.TUN.REQ_OFFSET + 4 * (fieldOf v 8 6 + 1) ≤ 0x1000) :
    tunLaunchFx v s = (underway v port s).cond (s.canSend port)
      (fun u => u.send none (.mgmtReq port (s.rd R.TUN.REQ_NODE) (launched v s))) := by
  have hnode : (s.wr R.TUN.TAG_REFUSED 0).lv R.GLB.NODE_ID = s.lv R.GLB.NODE_ID := rd_refused s 0 (by decide) (by decide)
  have hpage : (s.wr R.TUN.TAG_REFUSED 0).rd R.TUN.REQ_PAGE = s.rd R.TUN.REQ_PAGE := rd_refused s 0 (by decide) (by decide)
  have hdata : (s.wr R.TUN.TAG_REFUSED 0).word R.TUN.REQ_DATA.key = s.word R.TUN.REQ_DATA.key := word_wr_ne s 0 (by decide) (fun h => absurd h (by decide))
  have himm (i : Nat) : (s.wr R.TUN.TAG_REFUSED 0).immW 0x009 0 i = s.immW 0x009 0 i := by rw [State.immW, wr_imm]; rfl
  have hcan : (underway v port s).canSend port = s.canSend port := (sameGate_refused s 0 port).canSend
  have hnode' : (underway v port s).lv R.GLB.NODE_ID = s.lv R.GLB.NODE_ID := hnode
  have hpage' : (underway v port s).rd R.TUN.REQ_PAGE = s.rd R.TUN.REQ_PAGE := hpage
  unfold tunLaunchFx
  simp only [tagOwned_refused, htag, hnode, routePort_refused, hroute, wr_tun, hdata, himm]
  rw [if_neg (by decide), if_neg hself, if_neg (by omega), if_neg (by omega), ← hcan]
  cases hgo : (underway v port s).canSend port
  · exact (cond_of_not hgo _ _).trans rfl
  · refine (cond_of hgo _ _).trans ?_
    change (underway v port s).send none (.mgmtReq port (s.rd R.TUN.REQ_NODE)
      { launched v s with src := (underway v port s).lv R.GLB.NODE_ID, page := (underway v port s).rd R.TUN.REQ_PAGE }) = _
    rw [hnode', hpage']
    rfl

/-- A tag that is owned is refused. -/
theorem tunLaunchFx_owned {v : Word32} {s : State} (htag : s.tagOwned (fieldOf v 0 6) = true) :
    tunLaunchFx v s = ((s.wr R.TUN.TAG_REFUSED 0).wr R.TUN.TAG_REFUSED 1).raise R.TUN.ev_TAG_BUSY := by
  unfold tunLaunchFx
  simp only [tagOwned_refused, htag, if_true]

/-- The sender's own node ID is refused with a response. -/
theorem tunLaunchFx_self {v : Word32} {s : State} (htag : s.tagOwned (fieldOf v 0 6) = false)
    (hself : s.rd R.TUN.REQ_NODE = s.lv R.GLB.NODE_ID) :
    tunLaunchFx v s = (s.wr R.TUN.TAG_REFUSED 0).queueRsp { tag := fieldOf v 0 6, status := rsSELF, word := 0, buf := none } := by
  have hnode : (s.wr R.TUN.TAG_REFUSED 0).lv R.GLB.NODE_ID = s.lv R.GLB.NODE_ID := rd_refused s 0 (by decide) (by decide)
  unfold tunLaunchFx
  simp only [tagOwned_refused, htag, hnode]
  rw [if_neg (by decide), if_pos hself]

/-- A packet of a launch leaves the tunnel state and the registers alone. -/
theorem send_tun_regs (s : State) (port node : Nat) (r : MgmtReq) :
    (s.send none (.mgmtReq port node r)).tun = s.tun ∧ (s.send none (.mgmtReq port node r)).regs = s.regs := by
  unfold State.send
  simp only [show lineOf (.mgmtReq port node r) = some (port, classOf ptMGMT_REQ) from rfl]
  split
  · exact ⟨rfl, rfl⟩
  · exact ⟨rfl, rfl⟩

/-- So a launch leaves the request in flight, and TAG_REFUSED clear, whether its packet leaves or not. -/
theorem launch_tun_regs (v : Word32) (port : Nat) (s : State) (b : Bool) :
    ((underway v port s).cond b (fun u => u.send none (.mgmtReq port (s.rd R.TUN.REQ_NODE) (launched v s)))).tun =
        (underway v port s).tun ∧
      ((underway v port s).cond b (fun u => u.send none (.mgmtReq port (s.rd R.TUN.REQ_NODE) (launched v s)))).regs =
        (s.wr R.TUN.TAG_REFUSED 0).regs := by
  cases b
  · exact ⟨rfl, rfl⟩
  · exact send_tun_regs (underway v port s) _ _ _

/-- A write is sent with all its words. -/
theorem launched_length {v : Word32} (s : State) (hw : v.getLsbD 6 = true) : (launched v s).data.length = fieldOf v 8 6 + 1 := by
  unfold launched
  rw [hw]
  by_cases hl : fieldOf v 8 6 = 0
  · simp [hl]
  · simp [hl]

/-! Responses (03 R80, R81). -/

/-- The level event of the response queue leaves the queue alone. -/
theorem rspLevels_tun (s : State) : s.rspLevels.tun = s.tun := level_tun _ _ _

theorem queueRsp_tun (s : State) (r : TunRsp) : (s.queueRsp r).tun = { s.tun with rsp := s.tun.rsp ++ [r] } := rspLevels_tun _

theorem queueRsp_imm (s : State) (r : TunRsp) : (s.queueRsp r).imm = s.imm := level_imm _ _ _

theorem queueRsp_out (s : State) (r : TunRsp) : (s.queueRsp r).out = s.out := level_out _ _ _

theorem queueRsp_wordsKept (s : State) (r : TunRsp) : WordsKept s (s.queueRsp r) [evtRawKey 0x009, evtPendKey 0x009] :=
  wordsKept_level ({ s with tun := { s.tun with rsp := s.tun.rsp ++ [r] } } : State) R.TUN.ev_RSP_READY _

/-- Taking the first element that meets a test makes a list one shorter. -/
theorem length_delFirst {α : Type} {p : α → Bool} {xs : List α} {x : α} (h : xs.find? p = some x) :
    (delFirst p xs).length + 1 = xs.length := by
  induction xs with
  | nil => cases h
  | cons y ys ih =>
    rw [delFirst]
    split
    · rfl
    next hy =>
      rw [List.find?_cons_of_neg hy] at h
      rw [List.length_cons, List.length_cons, ih h]

/-- The words of a data buffer hold the read data. -/
theorem storeBuf_word (s : State) (buf : Nat) (data : List Word32) {i : Nat} (hi : i < min 64 data.length) :
    (s.storeBuf buf data).immW 0x009 0 (64 * buf + i) = data.getD i 0 := by
  have hkey : tabKey 0x009 0 (64 * buf + i) = tabKey 0x009 0 (64 * buf) + i := by unfold tabKey; omega
  have hlen : i < (data.take 64).length := by rw [List.length_take]; exact hi
  have hidx : tabKey 0x009 0 (64 * buf) + i - tabKey 0x009 0 (64 * buf) = i := by omega
  unfold State.storeBuf State.immW
  rw [hkey, smGet_setMany, dif_pos ⟨by omega, by rw [hidx]; exact hlen⟩]
  simp only [hidx, List.getElem_take]
  rw [List.getD_eq_getElem?_getD, List.getElem?_eq_getElem (by omega)]
  rfl

/-- TUN_RESPONSE on a port that is UP. -/
theorem exec_tunResponse {rx : RspFrom} {s : State} (tag status : Nat) (data : List Word32) (hs : s.isSender = true)
    (hport : s.hasPort rx.port = true) (hup : s.isUp rx.port = true) :
    exec (.tunResponse rx tag status data) s = .next (tunResponseFx rx tag status data s.start) := by
  have hgo : (s.start.isSender && s.start.hasPort rx.port && s.start.isUp rx.port) = true := by
    rw [Bool.and_eq_true, Bool.and_eq_true]
    exact ⟨⟨hs, hport⟩, hup⟩
  change execTunResponse rx tag status data s = _
  rw [execTunResponse]
  exact congrArg _ (cond_of hgo _ _)

/-- A response that finds its request. -/
theorem tunResponseFx_found {rx : RspFrom} {tag status : Nat} {data : List Word32} {r : TunReq} {s : State}
    (h : s.tun.out.find? (rspAnswers rx tag) = some r) :
    tunResponseFx rx tag status data s =
      (({ s with tun := { s.tun with out := delFirst (rspAnswers rx tag) s.tun.out } } : State).cond
        (!r.write && r.len != 0 && status == rsOK) (fun s => s.storeBuf r.buf data)).queueRsp
        { tag := tag, status := status, word := if r.write || r.len != 0 then 0 else data.headD 0,
          buf := if r.len = 0 then none else some r.buf } := by
  unfold tunResponseFx
  simp only [h]

/-- The buffer is written or not, the queues are not touched by it. -/
theorem cond_storeBuf_tun (s : State) (b : Bool) (buf : Nat) (data : List Word32) :
    (s.cond b (fun s => s.storeBuf buf data)).tun = s.tun := by
  cases b <;> rfl

/-- A change of the response queue alone, and then its level event. -/
theorem rspLevels_of_queue (s : State) (q : List TunRsp) :
    (({ s.start with tun := { s.tun with rsp := q } } : State).rspLevels.tun = { s.tun with rsp := q }) ∧
      ({ s.start with tun := { s.tun with rsp := q } } : State).rspLevels.raw R.TUN.ev_RSP_READY = !q.isEmpty ∧
      WordsKept s ({ s.start with tun := { s.tun with rsp := q } } : State).rspLevels [evtRawKey 0x009, evtPendKey 0x009] :=
  ⟨rspLevels_tun _, raw_level _ (by decide) _, wordsKept_level { s.start with tun := { s.tun with rsp := q } } R.TUN.ev_RSP_READY _⟩

/-- Settles O12: a launch goes through or is refused, a response ends its request or counts as late, and the queue gives up its head or
    all. -/
theorem tunnelRequests : Obligations.TunnelRequests := by
  unfold Obligations.TunnelRequests
  refine ⟨fun v t port s hp htag hself hroute hroom hrange => ?launch, fun v t s hp htag => ?owned, fun v t s hp htag hself => ?self,
    fun tag r s hs hfind => ?timeout, fun rx tag status data s hs hport hup hnone => ?late,
    fun rx tag status data r s hs hport hup hfind => ?found, fun s hp => ?pop, fun s hp => ?flush⟩
  case launch =>
    refine ⟨(s.atTime t).cond (s.pageOn 0x009) (tunLaunchFx v), rfl, ?_⟩
    rw [cond_of hp, tunLaunchFx_launches (s := s.atTime t) htag hself hroute hroom hrange]
    obtain ⟨htun, hregs⟩ := launch_tun_regs v port (s.atTime t) ((s.atTime t).canSend port)
    refine ⟨(congrArg TunSt.out htun).trans rfl, (congrArg TunSt.rsp htun).trans rfl, ?_, ?_, fun hsend hfree => ?_⟩
    · rw [rd_congr hregs, rd_wr_same _ (.inl (by decide)), Nat.zero_mod]
    · exact wordsKept_trans (wordsKept_wr (s.atTime t) (by decide) 0) (wordsKept_of_regs hregs _)
    · have hgate : SameGate (s.atTime t) (underway v port (s.atTime t)) port :=
        { sameGate_refused (s.atTime t) 0 port with }
      refine ⟨launched v (s.atTime t), ?_, rfl, rfl, rfl, rfl, rfl, rfl, launched_length (s.atTime t), fun hw hl => ?_⟩
      · rw [cond_of (b := (s.atTime t).canSend port) hsend, send_of_sameGate hfree hgate none rfl, depart_out]
        exact congrArg _ (wr_out _ _ _)
      · simp [launched, hw, hl]
  case owned =>
    refine ⟨(s.atTime t).cond (s.pageOn 0x009) (tunLaunchFx v), rfl, ?_⟩
    rw [cond_of hp, tunLaunchFx_owned (s := s.atTime t) htag]
    refine ⟨onlyRegs_trans (onlyRegs_wr (s.atTime t) _ _) (onlyRegs_trans (onlyRegs_wr _ _ _) (onlyRegs_raise _ _)), ?_,
      pending_raise _ (by decide)⟩
    rw [rd_raise_ne _ (by decide) (fun h => absurd h (by decide)), rd_wr_same _ (.inl (by decide))]
    rfl
  case self =>
    refine ⟨(s.atTime t).cond (s.pageOn 0x009) (tunLaunchFx v), rfl, ?_⟩
    rw [cond_of hp, tunLaunchFx_self (s := s.atTime t) htag hself]
    beta_reduce
    rw [queueRsp_tun, queueRsp_out, wr_tun, wr_out]
    exact ⟨rfl, rfl, rfl⟩
  case timeout =>
    refine ⟨s.start.cond s.isSender (tunTimeoutFx tag), rfl, ?_⟩
    have hfind' : s.start.tun.out.find? (fun r => r.tag == tag) = some r := hfind
    rw [cond_of hs, tunTimeoutFx]
    simp only [hfind']
    refine ⟨?_, ?_, ?_, pending_raise _ (by decide)⟩
    · rw [raise_tun, State.inc, State.incBy, wr_tun, queueRsp_tun]
      rfl
    · rw [raise_tun, State.inc, State.incBy, wr_tun, queueRsp_tun]
      exact length_delFirst hfind
    · unfold Counted
      rw [rd_raise_ne _ (by decide) (fun h => absurd h (by decide)), counted_inc _ rfl rfl,
        rd_of_wordsKept (queueRsp_wordsKept _ _) (by decide) (fun h => absurd h (by decide))]
      rfl
  case late =>
    have hlate : s.start.tun.out.find? (rspAnswers rx tag) = none := by
      rw [List.find?_eq_none]
      intro r hr
      simp only [rspAnswers, Bool.and_eq_true, beq_iff_eq]
      exact fun h => hnone r hr ⟨h.1.1, h.1.2, h.2⟩
    refine ⟨_, exec_tunResponse tag status data hs hport hup, ?_⟩
    rw [tunResponseFx]
    simp only [hlate]
    exact ⟨onlyRegs_inc s.start _, counted_inc s.start rfl rfl, wordsKept_inc s.start (by decide)⟩
  case found =>
    refine ⟨_, exec_tunResponse tag status data hs hport hup, ?_⟩
    rw [tunResponseFx_found (s := s.start) hfind]
    beta_reduce
    rw [queueRsp_tun, cond_storeBuf_tun]
    refine ⟨length_delFirst (p := rspAnswers rx tag) hfind, rfl, fun hno => ?_, fun hw hl hok i hi => ?_⟩
    · have hskip : (!r.write && r.len != 0 && status == rsOK) = false := by
        rcases hno with h | h | h <;> simp [h]
      rw [queueRsp_imm, cond_of_not hskip]
      rfl
    · have hstore : (!r.write && r.len != 0 && status == rsOK) = true := by simp [hw, hl, hok]
      rw [cond_of hstore, State.immW, queueRsp_imm]
      exact storeBuf_word _ r.buf data hi
  case pop =>
    refine ⟨s.start.cond (s.pageOn 0x009) rspPopFx, rfl, ?_⟩
    obtain ⟨htun, hraw, hwords⟩ := rspLevels_of_queue s (s.tun.rsp.drop 1)
    rw [cond_of hp]
    refine ⟨(congrArg TunSt.rsp htun).trans rfl, (congrArg TunSt.out htun).trans rfl, hraw.trans ?_, hwords⟩
    rcases s.tun.rsp with - | ⟨r, - | ⟨r', q⟩⟩ <;> simp
  case flush =>
    refine ⟨s.start.cond (s.pageOn 0x009) rspFlushFx, rfl, ?_⟩
    obtain ⟨htun, hraw, hwords⟩ := rspLevels_of_queue s []
    rw [cond_of hp]
    exact ⟨(congrArg TunSt.rsp htun).trans rfl, (congrArg TunSt.out htun).trans rfl, hraw, hwords⟩

end Sys2Proof.Proofs.Tunnel

/-!
The reset of the core: what every source of it leaves (16 R405 to R407, R440; 17 R433, R438; 18 R445).
-/

namespace Sys2Proof.Proofs.Resets
open Sys2Proof.Machine Sys2Proof.Laws Sys2Proof.Proofs.Frames

/-! Bits of a record of causes. -/

/-- The bits of a number in which one bit was set. -/
theorem testBit_withBit_true (n i j : Nat) : (withBit n i true).testBit j = (decide (j = i) || n.testBit j) := by
  unfold withBit
  by_cases hset : n.testBit i = true
  · rw [if_pos hset]
    by_cases hj : j = i
    · subst hj
      rw [hset, Bool.or_true]
    · simp [hj]
  · rw [if_neg hset, if_pos rfl, Nat.add_comm]
    rcases Nat.lt_trichotomy j i with hlt | rfl | hgt
    · rw [Nat.testBit_two_pow_add_gt hlt]
      simp [Nat.ne_of_lt hlt]
    · rw [Nat.testBit_two_pow_add_eq]
      simp [hset]
    · have hlow : n % 2 ^ (i + 1) < 2 ^ i := by
        have hbit := Nat.testBit_eq_decide_div_mod_eq (x := n) (i := i)
        have hlt : n % 2 ^ (i + 1) < 2 ^ (i + 1) := Nat.mod_lt _ (Nat.two_pow_pos _)
        have hmod : n % 2 ^ (i + 1) = n % 2 ^ i + 2 ^ i * (n / 2 ^ i % 2) := by rw [pow_succ, Nat.mod_mul]
        have hzero : n / 2 ^ i % 2 = 0 := by
          rw [hbit, decide_eq_true_eq] at hset
          omega
        rw [hmod, hzero, Nat.mul_zero, Nat.add_zero]
        exact Nat.mod_lt _ (Nat.two_pow_pos _)
      have hsplit : 2 ^ i + n = 2 ^ (i + 1) * (n / 2 ^ (i + 1)) + (2 ^ i + n % 2 ^ (i + 1)) := by
        have := Nat.div_add_mod n (2 ^ (i + 1))
        omega
      have hfits : 2 ^ i + n % 2 ^ (i + 1) < 2 ^ (i + 1) := by
        have hpow : 2 ^ (i + 1) = 2 * 2 ^ i := by rw [pow_succ, Nat.mul_comm]
        omega
      have hn : n.testBit j = (n / 2 ^ (i + 1)).testBit (j - (i + 1)) := by
        conv_lhs => rw [← Nat.div_add_mod n (2 ^ (i + 1))]
        rw [Nat.testBit_two_pow_mul_add _ (Nat.mod_lt _ (Nat.two_pow_pos _)), if_neg (by omega)]
      rw [hsplit, Nat.testBit_two_pow_mul_add _ hfits, if_neg (by omega), hn]
      simp [Nat.ne_of_gt hgt]

/-! The reset itself (16 R405, R406). -/

/-- A core reset leaves the core reset, with its cause recorded. -/
theorem coreReset_reset (s : State) (cause : Nat) : CoreWasReset s (s.coreReset cause) cause :=
  ⟨fun _ => rfl, rfl, rfl, rfl, rfl, rfl, rfl, rfl, rfl, rfl, rfl, rfl, rfl, rfl, rfl, rfl⟩

/-- So does one of a state that agrees with the state before on what a reset keeps. -/
theorem coreReset_of_kept {s u : State} (cause : Nat) (hrole : u.role = s.role) (hmember : u.member = s.member) (hmram : u.mram = s.mram)
    (haon : u.aon = s.aon) : CoreWasReset s (u.coreReset cause) cause := by
  have h := coreReset_reset u cause
  unfold CoreWasReset at h ⊢
  rwa [hrole, hmember, hmram, haon] at h

/-! The watchdog (16 R405; 10 R279; log 137). -/

/-- A ground that a device does not have, or a sender that has relinquished meets again, counts at most. -/
theorem ground_of_not {s : State} {g : Nat}
    (h : s.role = .tile ∨ s.flag R.RED.RELINQUISHED = true ∨ (g ≠ grMANUAL ∧ (s.lv R.RED.GROUND_EN).testBit g = false)) :
    s.ground g = s ∨ s.ground g = s.inc R.RED.CNT_RELINQUISH := by
  unfold State.ground
  by_cases hrole : s.role = .sender
  · by_cases hen : (g == grMANUAL || (s.lv R.RED.GROUND_EN).testBit g) = true
    · have hrel : s.flag R.RED.RELINQUISHED = true := by
        rcases h with h | h | ⟨hg, h⟩
        · rw [hrole] at h; cases h
        · exact h
        · simp [hg, h] at hen
      have hrel' : (s.inc R.RED.CNT_RELINQUISH).flag R.RED.RELINQUISHED = true := by
        rw [State.flag, State.inc, State.incBy, rd_wr_apart s (.inl (by decide)) (.inl (by decide))]
        exact hrel
      right
      simp [hrole, hen, hrel']
    · left
      simp [hrole, hen]
  · left
    simp [hrole]

/-- A device that a watchdog expiry does not make relinquish resets with cause WATCHDOG. -/
theorem watchdogFx_resets {s : State} (hgreen : s.flag R.FW.GREEN = false)
    (h : s.role = .tile ∨ s.flag R.RED.RELINQUISHED = true ∨ (s.lv R.RED.GROUND_EN).testBit 3 = false) :
    ∃ u, watchdogFx s = u.coreReset rcWATCHDOG ∧ (u = s ∨ u = s.inc R.RED.CNT_RELINQUISH) := by
  have hg := ground_of_not (s := s) (g := 3) (by
    rcases h with h | h | h
    · exact .inl h
    · exact .inr (.inl h)
    · exact .inr (.inr ⟨by decide, h⟩))
  have hrel : (s.ground 3).flag R.RED.RELINQUISHED = s.flag R.RED.RELINQUISHED := by
    rcases hg with hg | hg <;> rw [hg]
    rw [State.flag, State.inc, State.incBy, rd_wr_apart s (.inl (by decide)) (.inl (by decide))]
    rfl
  refine ⟨s.ground 3, ?_, hg⟩
  unfold watchdogFx
  simp only [hgreen, hrel]
  cases s.flag R.RED.RELINQUISHED <;> simp

/-- The core is reset then. -/
theorem watchdog_reset {s : State} {t0 : Nat} (hrun : s.running = true) (hgreen : s.flag R.FW.GREEN = false)
    (h : s.role = .tile ∨ s.flag R.RED.RELINQUISHED = true ∨ (s.lv R.RED.GROUND_EN).testBit 3 = false) :
    Completes (.watchdogExpiry t0) s (fun t => CoreWasReset s t rcWATCHDOG) := by
  obtain ⟨u, hfx, hu⟩ := watchdogFx_resets (s := s.atTime t0) hgreen h
  refine ⟨(s.atTime t0).cond (s.atTime t0).running watchdogFx, rfl, ?_⟩
  rw [cond_of (b := (s.atTime t0).running) hrun, hfx]
  rcases hu with rfl | rfl
  · exact coreReset_of_kept _ rfl rfl rfl rfl
  · unfold State.inc State.incBy
    exact coreReset_of_kept _ (wr_role _ _ _) (wr_member _ _ _) (wr_mram _ _ _) (wr_aon _ _ _)

/-! The balls of a core in reset (17 R438, R442). -/

/-- What every group of balls looks at in a core that was reset. -/
structure InReset (t : State) : Prop where
  state : t.stateCode = stRESET
  testEn : t.boot.testEn = false

/-- With every register at its reset value the device state is RESET. -/
theorem stateCode_of_reset {t : State} (h : t.regs = []) : t.stateCode = stRESET := by
  have hreset : State.reset.stateCode = stRESET := by decide
  exact (rd_congr (s := t) (t := State.reset) h R.GLB.STATE).trans hreset

theorem coreReset_inReset (s : State) (cause : Nat) : InReset (s.coreReset cause) := ⟨stateCode_of_reset rfl, rfl⟩

theorem xoInLoss_inReset (s : State) : InReset (xoInLossFx s) := ⟨stateCode_of_reset rfl, rfl⟩

/-- Every die has the pair. -/
theorem hasPort_pair (s : State) {p : Nat} (hp : p < 2) : s.hasPort p = true := by
  have htwo : 2 ≤ memberPorts s.member := by cases s.member <;> decide
  exact decide_eq_true (by omega)

/-- No firmware runs in it. -/
theorem InReset.stopped {t : State} (h : InReset t) : t.running = false := by rw [State.running, h.state]; rfl

theorem InReset.notSender {t : State} (h : InReset t) : t.isSender = false := by rw [State.isSender, h.stopped]; rfl

theorem InReset.notTile {t : State} (h : InReset t) : t.isTile = false := by rw [State.isTile, h.stopped]; rfl

/-- The lanes of a coil port: the repeater's pair of a tile forwards unless XO_IN stopped, any other lane is idle. -/
theorem InReset.coilPins {t : State} (h : InReset t) (p : Nat) : t.coilPins p =
    if t.aon.role = .tile ∧ p < 2 then (if t.repeaterIdle p then .idle else .repeater) else .idle := by
  unfold State.coilPins
  rw [h.stopped, h.state]
  simp

/-- Each group with a state of its own for a core in reset has it. -/
theorem InReset.powered {t : State} (h : InReset t) {g : PinGroup} {x : PinState} (hx : g.inReset t.aon.role = some x) :
    t.powered g = x := by
  cases g with
  | coil p =>
    simp only [PinGroup.inReset, Option.ite_none_right_eq_some, Option.some.injEq] at hx
    obtain ⟨hp, rfl⟩ := hx
    have hno : ¬(t.aon.role = .tile ∧ p < 2) := by
      rintro ⟨hrole, hlt⟩
      rcases hp with hp | hp
      · rw [hrole] at hp; cases hp
      · omega
    rw [State.powered, h.coilPins, if_neg hno]
  | camsync c =>
    obtain rfl : PinState.highZ = x := by simpa [PinGroup.inReset] using hx
    simp [State.powered, State.camsyncPin, State.csDriven, h.notSender]
  | _ =>
    simp only [PinGroup.inReset, Option.some.injEq] at hx
    subst hx
    simp [State.powered, h.notSender, h.notTile, h.stopped, h.state]

/-- So the balls of a core that was reset are as the pin-state table says. -/
theorem InReset.pins {t : State} (h : InReset t) : PinsInReset t := by
  intro g x hx
  unfold State.pins
  rw [h.testEn, h.powered hx]
  simp

/-- While the AON supply set is good the pair of a tile forwards through the repeater, unless XO_IN stopped. -/
theorem repeaters_of_reset {s : State} {cause : Nat} (hon : s.aon.on = true) (hrole : s.aon.role = .tile)
    (hclock : s.aon.cause.testBit rcCLOCK = false) (hcause : cause ≠ rcCLOCK) {p : Nat} (hp : p < 2) :
    (s.coreReset cause).pins (.coil p) = .repeater := by
  have hreset := coreReset_inReset s cause
  have hcauses : (s.coreReset cause).aon.cause = withBit s.aon.cause cause true := if_pos hon
  have hidle : (s.coreReset cause).repeaterIdle p = false := by
    rw [State.repeaterIdle, hcauses, testBit_withBit_true, hclock, decide_eq_false (Ne.symm hcause)]
    rfl
  have hball : (s.coreReset cause).hasBalls (.coil p) = true := hasPort_pair s hp
  have hpins : (s.coreReset cause).coilPins p = .repeater := by
    rw [hreset.coilPins, if_pos ⟨hrole, hp⟩, hidle]
    rfl
  have hup : (!(s.coreReset cause).aon.on || (s.coreReset cause).bankOff (.coil p)) = false := by
    change (!s.aon.on || false) = false
    rw [hon]
    rfl
  rw [State.pins, hball, hup, hreset.testEn]
  exact hpins

/-- After the loss of XO_IN no lane of the pair is driven (17 R440). -/
theorem idle_of_xoInLoss {s : State} (hon : s.aon.on = true) {p : Nat} (hp : p < 2) : (xoInLossFx s).pins (.coil p) = .idle := by
  have hreset := xoInLoss_inReset s
  have hcauses : (xoInLossFx s).aon.cause = withBit s.aon.cause rcCLOCK true := if_pos hon
  have hlink : (if p = 0 then (xoInLossFx s).aon.linkUp0 else (xoInLossFx s).aon.linkUp1) = false := ite_self _
  have hidle : (xoInLossFx s).repeaterIdle p = true := by
    rw [State.repeaterIdle, hcauses, testBit_withBit_true, hlink]
    rfl
  have hball : (xoInLossFx s).hasBalls (.coil p) = true := hasPort_pair s hp
  have hpins : (xoInLossFx s).coilPins p = .idle := by
    rw [hreset.coilPins, hidle]
    split <;> rfl
  have hup : (!(xoInLossFx s).aon.on || (xoInLossFx s).bankOff (.coil p)) = false := by
    change (!s.aon.on || false) = false
    rw [hon]
    rfl
  rw [State.pins, hball, hup, hreset.testEn]
  exact hpins

/-- A bank rail further than 8 % from both levels is bad (17 R433, 18 R445). -/
theorem bankBad_of_off {mV : Nat} (h1 : ¬(1656 ≤ mV ∧ mV ≤ 1944)) (h2 : ¬(3036 ≤ mV ∧ mV ≤ 3564)) : bankBad (bankCode mV) = true := by
  unfold bankCode
  rw [if_neg h1, if_neg h2]
  split <;> rfl

/-- RESET_N low for 1 µs. -/
theorem exec_resetN {ns : Nat} (s : State) (h : 1000 ≤ ns) : exec (.resetNAssert ns) s = .next (s.start.coreReset rcRESET_N) := by
  change execResetNAssert ns s = _
  rw [execResetNAssert, resetNFx, if_pos h]

/-- Settles O13: every source ends in the one reset of the core, and a core in reset leaves every ball as the table says. -/
theorem coreResets : Obligations.CoreResets := by
  unfold Obligations.CoreResets
  refine ⟨fun ns s hns => ?resetN, fun s hon hrole => ?perst, fun v s hp hv => ?soft, fun s hdue => ?tunSoft, fun s => ?rail, fun s => ?xoIn,
    fun s hrun hrel => ?delay, fun t0 s hrun hrole hgreen => ?tile, fun t0 s hrun hrole hgreen hg => ?sender,
    fun bank mV s hbank h1 h2 => ?bank, fun ns s hns => ?resetNPins, fun s => ?railPins, fun s => ?xoInPins⟩
  case resetN =>
    exact ⟨_, exec_resetN s hns, coreReset_reset s.start _⟩
  case perst =>
    refine ⟨_, rfl, ?_⟩
    have hgo : (s.aon.on && (if s.stateCode = stRESET then s.aon.role else s.role) == .sender) = true := by
      rw [hon, hrole]
      rfl
    rw [cond_of hgo]
    exact coreReset_reset s.start _
  case soft =>
    refine ⟨_, rfl, ?_⟩
    have hmagic : (fieldOf v 0 16 == 0xA5C3) = true := beq_iff_eq.mpr hv
    rw [cond_of hp, softResetFx, cond_of hmagic]
    exact coreReset_reset s.start _
  case tunSoft =>
    refine ⟨_, rfl, ?_⟩
    rw [cond_of hdue]
    exact coreReset_reset s.start _
  case rail =>
    exact ⟨_, rfl, coreReset_reset s.start _⟩
  case xoIn =>
    exact ⟨_, rfl, coreReset_reset s.start _, rfl, rfl⟩
  case delay =>
    refine ⟨_, rfl, ?_⟩
    have hgo : (s.running && s.red.relWatchdog) = true := by rw [hrun, hrel]; rfl
    rw [cond_of hgo]
    exact coreReset_reset s.start _
  case tile =>
    exact watchdog_reset hrun hgreen (.inl hrole)
  case sender =>
    exact watchdog_reset hrun hgreen (.inr hg)
  case bank =>
    refine ⟨_, rfl, ?_⟩
    rw [cond_of (decide_eq_true hbank), bankLevelFx, cond_of (bankBad_of_off h1 h2)]
    exact ⟨coreReset_of_kept _ rfl rfl rfl rfl, (coreReset_inReset _ _).pins⟩
  case resetNPins =>
    exact ⟨_, exec_resetN s hns, (coreReset_inReset _ _).pins, fun hon hrole hclock =>
      ⟨repeaters_of_reset (s := s.start) hon hrole hclock (by decide) (by decide),
        repeaters_of_reset (s := s.start) hon hrole hclock (by decide) (by decide)⟩⟩
  case railPins =>
    exact ⟨_, rfl, (coreReset_inReset _ _).pins, fun hon hrole hclock =>
      ⟨repeaters_of_reset (s := s.start) hon hrole hclock (by decide) (by decide),
        repeaters_of_reset (s := s.start) hon hrole hclock (by decide) (by decide)⟩⟩
  case xoInPins =>
    exact ⟨_, rfl, (xoInLoss_inReset s.start).pins, fun hon =>
      ⟨idle_of_xoInLoss (s := s.start) hon (by decide), idle_of_xoInLoss (s := s.start) hon (by decide)⟩⟩

end Sys2Proof.Proofs.Resets

/-!
Fields that share no bit, as a test that evaluates: what a field reads as after another was written or an event was shown.
-/

namespace Sys2Proof.Proofs.FieldRules
open Sys2Proof.Machine Sys2Proof.Laws Sys2Proof.Proofs.Frames

/-- A field lies inside its words. -/
def fits (f : Fld) : Bool := decide (f.lo + f.w ≤ 32 ∨ (f.lo = 0 ∧ 32 < f.w ∧ f.w ≤ 64))

/-- Two fields share no word, or lie in one word side by side. -/
def sep (f g : Fld) : Bool :=
  decide (f.key ≠ g.key ∧ (32 < f.w → f.key + 4 ≠ g.key) ∧ (32 < g.w → f.key ≠ g.key + 4)) ||
    (fits g && decide (f.w ≤ 32 ∧ g.w ≤ 32 ∧ f.key = g.key ∧ (f.lo + f.w ≤ g.lo ∨ g.lo + g.w ≤ f.lo)))

/-- A field shares no word with a key. -/
def offKey (f : Fld) (k : Nat) : Bool := decide (f.key ≠ k ∧ (32 < f.w → f.key + 4 ≠ k))

theorem ok_of_fits {f : Fld} (h : fits f = true) : Fld.ok f := by
  unfold Fld.ok
  exact of_decide_eq_true h

/-- A field reads what was written to it, reduced to its width. -/
theorem rd_wr_own (s : State) {f : Fld} (v : Nat) (h : fits f = true) : (s.wr f v).rd f = v % 2 ^ f.w :=
  rd_wr_same s (ok_of_fits h) v

/-- A field keeps its value when a separate one is written. -/
theorem rd_wr_sep (s : State) {f g : Fld} (v : Nat) (h : sep f g = true) : (s.wr g v).rd f = s.rd f := by
  rw [sep, Bool.or_eq_true, Bool.and_eq_true, decide_eq_true_eq, decide_eq_true_eq] at h
  rcases h with ⟨h1, h2, h3⟩ | ⟨hfits, hsame⟩
  · unfold State.rd
    rw [word_wr_ne s v h1 h3]
    split
    · rfl
    · next hw => rw [word_wr_ne s v (h2 (by omega)) (fun _ => by omega)]
  · exact rd_wr_apart s (ok_of_fits hfits) (.inr hsame) v

/-- A field keeps its value when a word apart from it is stored. -/
theorem rd_setWord_sep (s : State) {f : Fld} {k : Nat} (x : Word32) (h : offKey f k = true) : (s.setWord k x).rd f = s.rd f :=
  rd_setWord_ne s x (of_decide_eq_true h).1 (of_decide_eq_true h).2

/-- A field keeps its value when an event is raised whose EVT_PEND word is apart from it. -/
theorem rd_raise_sep (s : State) {f : Fld} {e : Evt} (h : offKey f (evtPendKey e.page) = true) : (s.raise e).rd f = s.rd f :=
  rd_raise_ne s (of_decide_eq_true h).1 (of_decide_eq_true h).2

/-- A field keeps its value when a level event is shown whose EVT_RAW and EVT_PEND words are apart from it. -/
theorem rd_level_sep (s : State) {f : Fld} {e : Evt} {b : Bool} (hraw : offKey f (evtRawKey e.page) = true)
    (hpend : offKey f (evtPendKey e.page) = true) : (s.level e b).rd f = s.rd f :=
  rd_level_ne s (of_decide_eq_true hraw).1 (of_decide_eq_true hpend).1
    (fun hw => ⟨(of_decide_eq_true hraw).2 hw, (of_decide_eq_true hpend).2 hw⟩)

/-- A bit of a word apart from a field keeps its value when the field is written. -/
theorem wbit_wr_sep (s : State) {g : Fld} {k : Nat} (v i : Nat) (h : decide (k ≠ g.key ∧ k ≠ g.key + 4) = true) :
    (s.wr g v).wbit k i = s.wbit k i :=
  wbit_wr_ne s v i (of_decide_eq_true h).1 (fun _ => (of_decide_eq_true h).2)

/-- A pending event stays pending when a field of another word is written. -/
theorem pending_wr {s : State} {e : Evt} (h : Pending s e) {g : Fld} (v : Nat) (hg : decide (evtPendKey e.page ≠ g.key ∧ evtPendKey e.page ≠ g.key + 4) = true) :
    Pending (s.wr g v) e := (wbit_wr_sep s v e.bit hg).trans h

end Sys2Proof.Proofs.FieldRules

/-!
Power-on, the levels of the banks, and the release of reset (16 R404, R405; 17 R433, R434; 18 R445; 01 R7).
-/

namespace Sys2Proof.Proofs.Release
open Sys2Proof.Machine Sys2Proof.Laws Sys2Proof.Proofs.Frames Sys2Proof.Proofs.FieldRules

/-! BANK_LEVEL_SELECT within 8 % of a level (17 R433). -/

/-- A rail near a level selects it. -/
theorem bankCode_good {mV : Nat} (h : (1656 ≤ mV ∧ mV ≤ 1944) ∨ (3036 ≤ mV ∧ mV ≤ 3564)) :
    bankCode mV = (if mV ≤ 1944 then 1 else 2) ∧ bankBad (bankCode mV) = false := by
  unfold bankCode
  rcases h with h | h
  · rw [if_pos h, if_pos h.2]
    exact ⟨rfl, rfl⟩
  · rw [if_neg (by omega), if_pos h, if_neg (by omega)]
    exact ⟨rfl, rfl⟩

/-! The release (16 R404, R405). -/

/-- The state of a release in which the straps are sampled. -/
def sampled (s : State) (strap : Strap) (testEn b : Bool) : State :=
  { s with role := if b then .sender else .tile, boot := { s.boot with testEn := testEn },
           aon := { s.aon with on := true, role := if b then .sender else .tile, strap := strap } }

/-- Sampling the straps leaves the registers alone. -/
theorem sampled_stateCode (s : State) (strap : Strap) (testEn b : Bool) : (sampled s strap testEn b).stateCode = s.stateCode := rd_congr rfl _

/-- The state in which RESET_CAUSE shows the record, and the record starts anew. -/
def caused (s : State) : State := { s.wr R.GLB.RESET_CAUSE s.aon.cause with aon := { s.aon with cause := 0 } }

/-- A release that nothing holds back. -/
theorem exec_resetRelease (strap : Strap) (testEn : Bool) {s : State} (hst : s.stateCode = stRESET) (ht : s.boot.testEn = false)
    (hb : ∀ p ∈ s.boot.banks, p.2 < 3) : exec (.resetRelease strap testEn) s = .next (resetReleaseFx strap testEn s.start) := by
  have hbanks : s.boot.banks.any (fun p => bankBad p.2) = false := by
    rw [List.any_eq_false]
    intro p hp
    have := hb p hp
    simp [bankBad]
    omega
  have hgo : (s.stateCode == stRESET && !s.boot.testEn && !s.boot.banks.any (fun p => bankBad p.2)) = true := by
    rw [hst, ht, hbanks]
    rfl
  change execResetRelease strap testEn s = _
  rw [execResetRelease, cond_of hgo]

/-- A release with TEST_EN low, once the level of the strap is known. -/
theorem resetReleaseFx_starts {strap : Strap} {b : Bool} {s u : State} (hb : s.strapHigh strap = (b, u)) :
    resetReleaseFx strap false s = ((caused (sampled u strap false b)).cond (!b) State.tileResets).toState stBISQUE := by
  unfold resetReleaseFx
  simp only [hb]
  rfl

/-- A change of the device state shows it and raises STATE_CHANGE. -/
theorem toState_change {s : State} {c : Nat} (h : s.stateCode ≠ c) : s.toState c = (s.wr R.GLB.STATE c).raise R.GLB.ev_STATE_CHANGE := if_neg h

/-- What the tile's reset values show: EN of the pair and the open loop instances, with RESET_CAUSE and STATE as before. -/
theorem tileResets_shows (s : State) :
    s.tileResets.lv (R.COIL.EN 0) = 1 ∧ s.tileResets.lv (R.COIL.EN 1) = 1 ∧ s.tileResets.rd R.LOOP.OPEN = 0x3FC ∧
      s.tileResets.rd R.GLB.RESET_CAUSE = s.rd R.GLB.RESET_CAUSE ∧ s.tileResets.stateCode = s.stateCode := by
  unfold State.tileResets State.wrBoth State.lv State.stateCode
  simp (disch := decide) only [rd_wr_own, rd_wr_sep]
  decide

/-- The tile's reset values are register words. -/
theorem tileResets_frame (s : State) :
    s.tileResets.role = s.role ∧ s.tileResets.aon = s.aon ∧ s.tileResets.mram = s.mram := by
  unfold State.tileResets State.wrBoth
  simp only [wr_role, wr_aon, wr_mram, and_self]

/-- What entering BISQUE leaves of the fields apart from STATE. -/
theorem enterBisque_rd {s : State} (h : s.stateCode ≠ stBISQUE) {f : Fld} (hf : sep f R.GLB.STATE = true)
    (hp : offKey f (evtPendKey R.GLB.ev_STATE_CHANGE.page) = true) : (s.toState stBISQUE).rd f = s.rd f := by
  rw [toState_change h, rd_raise_sep _ hp, rd_wr_sep s _ hf]

/-- BISQUE is shown. -/
theorem enterBisque_state {s : State} (h : s.stateCode ≠ stBISQUE) : (s.toState stBISQUE).stateCode = stBISQUE := by
  rw [toState_change h]
  unfold State.stateCode
  simp (disch := decide) only [rd_raise_sep, rd_wr_own]
  decide

/-- What a release shows of RESET_CAUSE and STATE before BISQUE. -/
theorem caused_shows (s : State) : (caused s).rd R.GLB.RESET_CAUSE = s.aon.cause % 256 ∧ (caused s).stateCode = s.stateCode :=
  ⟨rd_wr_own s _ (by decide), rd_wr_sep s _ (by decide)⟩

/-- A release with TEST_EN low enters BISQUE with the causes moved into RESET_CAUSE. -/
theorem released {strap : Strap} {b : Bool} {s u : State} (hb : s.strapHigh strap = (b, u)) (hst : u.stateCode = stRESET) :
    (resetReleaseFx strap false s).stateCode = stBISQUE ∧
      (resetReleaseFx strap false s).rd R.GLB.RESET_CAUSE = u.aon.cause % 256 ∧ (resetReleaseFx strap false s).aon.cause = 0 ∧
      (resetReleaseFx strap false s).aon.role = (resetReleaseFx strap false s).role ∧
      (resetReleaseFx strap false s).role = (if b then .sender else .tile) ∧ (resetReleaseFx strap false s).aon.strap = strap ∧
      (resetReleaseFx strap false s).mram = u.mram := by
  obtain ⟨hcause, hstate⟩ := caused_shows (sampled u strap false b)
  obtain ⟨-, -, -, htcause, htstate⟩ := tileResets_shows (caused (sampled u strap false b))
  obtain ⟨hrole, haon, hmram⟩ := tileResets_frame (caused (sampled u strap false b))
  have hne : ((caused (sampled u strap false b)).cond (!b) State.tileResets).stateCode ≠ stBISQUE := by
    have hcode : ((caused (sampled u strap false b)).cond (!b) State.tileResets).stateCode = stRESET := by
      cases b
      · exact htstate.trans (hstate.trans ((sampled_stateCode u strap false false).trans hst))
      · exact hstate.trans ((sampled_stateCode u strap false true).trans hst)
    rw [hcode]
    decide
  rw [resetReleaseFx_starts hb]
  refine ⟨enterBisque_state hne, ?_, ?_⟩
  · rw [enterBisque_rd hne (by decide) (by decide)]
    cases b
    · exact htcause.trans hcause
    · exact hcause
  · rw [toState_change hne]
    simp only [raise_aon, raise_role, raise_mram, wr_aon, wr_role, wr_mram]
    cases b
    · change (State.tileResets _).aon.cause = 0 ∧ (State.tileResets _).aon.role = (State.tileResets _).role ∧ (State.tileResets _).role = _ ∧
        (State.tileResets _).aon.strap = strap ∧ (State.tileResets _).mram = _
      rw [hrole, haon, hmram]
      simp only [caused, sampled, wr_role, wr_mram]
      exact ⟨trivial, trivial, trivial, trivial, trivial⟩
    · change (caused _).aon.cause = 0 ∧ (caused _).aon.role = (caused _).role ∧ (caused _).role = _ ∧ (caused _).aon.strap = strap ∧ (caused _).mram = _
      simp only [caused, sampled, wr_role, wr_mram]
      exact ⟨trivial, trivial, trivial, trivial, trivial⟩

/-- A release into the sender role raises STATE_CHANGE and changes three words. -/
theorem released_high {s : State} (hst : s.stateCode = stRESET) :
    Pending (resetReleaseFx .high false s) R.GLB.ev_STATE_CHANGE ∧
      WordsKept s (resetReleaseFx .high false s) [R.GLB.RESET_CAUSE.key, R.GLB.STATE.key, pendKey R.GLB.ev_STATE_CHANGE] := by
  have hfx : resetReleaseFx .high false s = (caused (sampled s .high false true)).toState stBISQUE := resetReleaseFx_starts rfl
  have hne : (caused (sampled s .high false true)).stateCode ≠ stBISQUE := by
    rw [(caused_shows _).2, sampled_stateCode, hst]
    decide
  rw [hfx, toState_change hne]
  refine ⟨pending_raise _ (by decide), fun k hk => ?_⟩
  obtain ⟨h1, h2, h3⟩ : k ≠ R.GLB.RESET_CAUSE.key ∧ k ≠ R.GLB.STATE.key ∧ k ≠ pendKey R.GLB.ev_STATE_CHANGE := by simpa using hk
  rw [State.raise, word_setPendBit_ne _ h3, word_wr_ne _ _ h2 (fun h => absurd h (by decide))]
  exact word_wr_ne _ _ h1 (fun h => absurd h (by decide))

/-- A release into the tile role shows the tile's reset values. -/
theorem released_low {s : State} (hst : s.stateCode = stRESET) :
    (resetReleaseFx .low false s).lv (R.COIL.EN 0) = 1 ∧ (resetReleaseFx .low false s).lv (R.COIL.EN 1) = 1 ∧
      (resetReleaseFx .low false s).rd R.LOOP.OPEN = 0x3FC := by
  have hfx := resetReleaseFx_starts (strap := .low) (b := false) (s := s) (u := s) rfl
  rw [cond_of Bool.not_false] at hfx
  obtain ⟨hen0, hen1, hopen, -, htstate⟩ := tileResets_shows (caused (sampled s .low false false))
  have hne : (caused (sampled s .low false false)).tileResets.stateCode ≠ stBISQUE := by
    rw [htstate, (caused_shows _).2, sampled_stateCode, hst]
    decide
  rw [hfx]
  exact ⟨(enterBisque_rd hne (by decide) (by decide)).trans hen0, (enterBisque_rd hne (by decide) (by decide)).trans hen1,
    (enterBisque_rd hne (by decide) (by decide)).trans hopen⟩

/-- Settles O14: power-on and a good rail by what they store, and each tie of ROLE by the release that it gives. -/
theorem powerOnAndRelease : Obligations.PowerOnAndRelease := by
  unfold Obligations.PowerOnAndRelease
  refine ⟨fun s => ?powerOn, fun bank mV s hbank hmV => ?level, fun s hst ht hbanks => ?release⟩
  case powerOn =>
    exact ⟨_, rfl, fun _ => rfl, rfl, rfl, rfl, rfl, rfl, rfl, rfl, rfl, rfl, rfl⟩
  case level =>
    obtain ⟨hcode, hgood⟩ := bankCode_good hmV
    refine ⟨_, rfl, ?_⟩
    rw [cond_of (decide_eq_true hbank), bankLevelFx, cond_of_not hgood]
    refine ⟨rfl, ?_⟩
    change smGet (fun _ => 0) (smSet (fun _ => 0) s.boot.banks bank (bankCode mV)) bank = _
    rw [smGet_set_same, hcode]
  case release =>
    have hexec (strap : Strap) (testEn : Bool) := exec_resetRelease strap testEn hst ht hbanks
    refine ⟨⟨_, hexec .high false, ?high⟩, ⟨_, hexec .low false, ?low⟩, ⟨_, hexec .high true, hst, rfl, rfl⟩, ⟨_, hexec .floating false, ?floating⟩⟩
    case high =>
      obtain ⟨hstate, hcause, hnew, -, hrole, hstrap, hmram⟩ := released (s := s.start) (strap := .high) rfl hst
      obtain ⟨hpend, hwords⟩ := released_high (s := s.start) hst
      exact ⟨hrole, hstrap, hstate, hcause, hnew, hpend, hmram, hwords⟩
    case low =>
      obtain ⟨hstate, hcause, hnew, -, hrole, hstrap, -⟩ := released (s := s.start) (strap := .low) rfl hst
      exact ⟨hrole, hstrap, hstate, hcause, hnew, released_low (s := s.start) hst⟩
    case floating =>
      obtain ⟨hstate, hcause, hnew, haon, -, -, hmram⟩ := released (s := s.start) (strap := .floating) rfl hst
      exact ⟨haon, hstate, hcause, hnew, hmram⟩

end Sys2Proof.Proofs.Release

/-!
THEOREMS. An apply is one instant (02 R49, R62, R64): reading the live copies that a snapshot gives, and the pages that an apply
marks with APPLIED_EPOCH. Settles O31.
-/

namespace Sys2Proof.Proofs.Applies
open Sys2Proof.Machine Sys2Proof.Laws Sys2Proof.Proofs.Frames

variable {α : Type}

/-! Reading after writing a list of pairs. -/

/-- A key that no pair names keeps its value. -/
theorem smGet_putAll_not_mem [DecidableEq α] (d : Nat → α) (xs : List (Nat × α)) {m : List (Nat × α)} {k : Nat}
    (h : ∀ x ∈ xs, x.1 ≠ k) : smGet d (smPutAll d m xs) k = smGet d m k := by
  induction xs generalizing m with
  | nil => rfl
  | cons x xs ih =>
    obtain ⟨hx, hxs⟩ := List.forall_mem_cons.mp h
    exact (ih hxs).trans (smGet_set_other d m x.2 (Ne.symm hx))

/-- The first key of a canonical list stands below every other. -/
theorem lt_of_mem_smOk [DecidableEq α] {d : Nat → α} {b : Nat} {m : List (Nat × α)} (h : smOk d (some b) m = true) :
    ∀ x ∈ m, b < x.1 := by
  induction m generalizing b with
  | nil => simp
  | cons p m ih =>
    obtain ⟨a, v⟩ := p
    simp only [smOk, smAbove, Bool.and_eq_true, decide_eq_true_eq] at h
    obtain ⟨⟨hab, -⟩, hm⟩ := h
    refine List.forall_mem_cons.mpr ⟨hab, fun x hx => hab.trans (ih hm x hx)⟩

/-- Every live copy that a snapshot gives stands 0x400 above its shadow register. -/
theorem mem_liveOfSnap {m : List (Nat × Word32)} {x : Nat × Word32} (h : x ∈ liveOfSnap m) : ∃ y ∈ m, x.1 = y.1 + 0x400 := by
  induction m with
  | nil => exact absurd h List.not_mem_nil
  | cons p m ih =>
    rcases List.mem_cons.mp h with rfl | h
    · exact ⟨p, List.mem_cons_self, rfl⟩
    · obtain ⟨y, hy, e⟩ := ih h
      exact ⟨y, List.mem_cons_of_mem _ hy, e⟩

/-- The live copies of a canonical snapshot, written over a map that holds none of them, read as the snapshot. -/
theorem smGet_putAll_live {d : Nat → Word32} {lo : Option Nat} {snap m : List (Nat × Word32)} {k : Nat} (h : smOk d lo snap = true)
    (hm : smGet d m (k + 0x400) = d k) : smGet d (smPutAll d m (liveOfSnap snap)) (k + 0x400) = smGet d snap k := by
  induction snap generalizing m lo with
  | nil => exact hm
  | cons p snap ih =>
    obtain ⟨a, v⟩ := p
    simp only [smOk, Bool.and_eq_true] at h
    obtain ⟨-, hs⟩ := h
    show smGet d (smPutAll d (smSet d m (a + 0x400) v) (liveOfSnap snap)) (k + 0x400) = _
    by_cases hk : a = k
    · subst hk
      have hne : ∀ x ∈ liveOfSnap snap, x.1 ≠ a + 0x400 := by
        intro x hx
        obtain ⟨y, hy, e⟩ := mem_liveOfSnap hx
        have := lt_of_mem_smOk hs y hy
        omega
      rw [smGet_putAll_not_mem d _ hne, smGet_set_same]
      simp [smGet]
    · rw [ih hs ((smGet_set_other d m v (by omega)).trans hm)]
      simp [smGet, hk]

/-! Shadow registers and their live copies. -/

theorem shadowEnd_le (b : Blk) : b.shadowEnd ≤ 0x240 := by cases b <;> decide

/-- The live copy of a shadow register is a live copy, and resets to the same value. -/
theorem live_of_shadow {k : Nat} (h : isShadow k = true) :
    isLive (k + 0x400) = true ∧ resetWord (k + 0x400) = resetWord k ∧ k % 0x1000 < 0x240 := by
  unfold isShadow keyBlk at h
  cases hb : blkOf (k / 0x1000) with
  | none => rw [hb] at h; simp at h
  | some bn =>
    obtain ⟨b, n⟩ := bn
    rw [hb] at h
    simp only [decide_eq_true_eq] at h
    obtain ⟨h1, h2⟩ := h
    have hend := shadowEnd_le b
    have hd : (k + 0x400) / 0x1000 = k / 0x1000 := by omega
    have hmod : (k + 0x400) % 0x1000 = k % 0x1000 + 0x400 := by omega
    refine ⟨?_, ?_, by omega⟩
    · unfold isLive keyBlk
      rw [hd, hb]
      simp only [decide_eq_true_eq]
      omega
    · have hlo : b.rowOff (k % 0x1000) = k % 0x1000 := if_neg (by omega)
      have hhi : b.rowOff (k % 0x1000 + 0x400) = k % 0x1000 := (if_pos (by omega)).trans (by omega)
      unfold resetWord
      rw [hd, hmod, hb]
      simp only [hlo, hhi]

/-! What an apply writes besides. -/

/-- The state with APPLIED_EPOCH written on some pages. -/
def markPages (s : State) (pages : List Nat) (epoch : Nat) : State :=
  s.each pages (fun s p => s.setWord (regKey p 0x020) (BitVec.ofNat 32 epoch))

/-- Marking pages changes no word but APPLIED_EPOCH, and no other part of the state. -/
theorem markPages_keeps (s : State) (pages : List Nat) (e : Nat) :
    OnlyRegs s (markPages s pages e) ∧ ∀ k, k % 0x1000 ≠ 0x020 → (markPages s pages e).word k = s.word k := by
  induction pages generalizing s with
  | nil => exact ⟨onlyRegs_refl s, fun _ _ => rfl⟩
  | cons p ps ih =>
    obtain ⟨ho, hk⟩ := ih (s.setWord (regKey p 0x020) (BitVec.ofNat 32 e))
    refine ⟨onlyRegs_trans (onlyRegs_setWord s _ _) ho, fun k hne => (hk k hne).trans ?_⟩
    refine word_setWord_ne s _ fun h => hne ?_
    rw [h, regKey]
    omega

/-- The state with the live copies that a snapshot gives. -/
def putLive (s : State) (snap : List (Nat × Word32)) : State :=
  { s with regs := smPutAll resetWord (smKeep (fun k => !isLive k) s.regs) (liveOfSnap snap) }

theorem applySnap_eq (s : State) (snap : List (Nat × Word32)) (e : Nat) :
    s.applySnap snap e = markPages (putLive s snap) (changedPages (liveOfSnap snap) s.regs) e := rfl

/-- Every shadow register's live copy takes its value in the snapshot. -/
theorem putLive_live (s : State) {m : List (Nat × Word32)} {k : Nat} (hm : smWf resetWord m = true) (hk : isShadow k = true) :
    (putLive s (smKeep isShadow m)).word (k + 0x400) = smGet resetWord m k := by
  obtain ⟨hl, hr, -⟩ := live_of_shadow hk
  have hbase : smGet resetWord (smKeep (fun k => !isLive k) s.regs) (k + 0x400) = resetWord k := by
    rw [smGet_keep, hl, hr]; rfl
  have hread : smGet resetWord (smKeep isShadow m) k = smGet resetWord m k := by rw [smGet_keep, if_pos hk]
  exact (smGet_putAll_live (smOk_keep isShadow hm) hbase).trans hread

/-- What a filter keeps meets its test. -/
theorem mem_smKeep {p : Nat → Bool} {m : List (Nat × α)} {x : Nat × α} (h : x ∈ smKeep p m) : p x.1 = true := by
  induction m with
  | nil => exact absurd h List.not_mem_nil
  | cons q m ih =>
    unfold smKeep at h
    split at h
    · next hq =>
      rcases List.mem_cons.mp h with rfl | h
      · exact hq
      · exact ih h
    · exact ih h

/-- Every word that is no live copy stays. -/
theorem putLive_other (s : State) (m : List (Nat × Word32)) {k : Nat} (hk : isLive k = false) :
    (putLive s (smKeep isShadow m)).word k = s.word k := by
  have hne : ∀ x ∈ liveOfSnap (smKeep isShadow m), x.1 ≠ k := by
    rintro x hx rfl
    obtain ⟨y, hy, e⟩ := mem_liveOfSnap hx
    have hsh : isShadow y.1 = true := mem_smKeep hy
    rw [e, (live_of_shadow hsh).1] at hk
    exact absurd hk (by decide)
  exact (smGet_putAll_not_mem resetWord _ hne).trans (by rw [smGet_keep, hk]; rfl)

/-- Settles O31. -/
theorem anApplyIsOneInstant : Obligations.AnApplyIsOneInstant := by
  unfold Obligations.AnApplyIsOneInstant
  refine ⟨fun m e k s _ hm hk => ?live, fun m e k s _ hk hne => ?other, fun e s => ?tables⟩
  case live =>
    obtain ⟨-, -, hlt⟩ := live_of_shadow hk
    rw [applySnap_eq, (markPages_keeps _ _ e).2 _ (by omega), putLive_live s hm hk]
  case other => rw [applySnap_eq, (markPages_keeps _ _ e).2 k hne, putLive_other s m hk]
  case tables =>
    obtain ⟨ho, hk⟩ := markPages_keeps s.putTables (changedTables s.pend s.tabs) e
    exact ⟨(congrArg State.tabs ho :), (congrArg State.pend ho :), hk⟩

end Sys2Proof.Proofs.Applies

/-!
THEOREMS. Camera sync (05 R127 to R130): what a CAMSYNC pulse drives and counts. Settles O52.
-/

namespace Sys2Proof.Proofs.CameraSync
open Sys2Proof.Machine Sys2Proof.Laws Sys2Proof.Proofs.Frames Sys2Proof.Proofs.FieldRules

/-- Driving an output sends its level while the outputs are driven, and changes nothing else. -/
theorem csEmit_eq (s : State) (low : Bool) (c : Nat) (on : Bool) :
    s.csEmit low c on = { s with out := s.out ++ (if s.csDriven then [.camsync c (on != low)] else []) } := by
  unfold State.csEmit State.cond
  split
  · rfl
  · simp only [List.append_nil]

theorem csEmit_out (s : State) (low : Bool) (c : Nat) (on : Bool) :
    (s.csEmit low c on).out = s.out ++ (if s.csDriven then [.camsync c (on != low)] else []) := by rw [csEmit_eq]

@[simp] theorem csEmit_regs (s : State) (low : Bool) (c : Nat) (on : Bool) : (s.csEmit low c on).regs = s.regs := by rw [csEmit_eq]

@[simp] theorem csEmit_csDriven (s : State) (low : Bool) (c : Nat) (on : Bool) : (s.csEmit low c on).csDriven = s.csDriven := by
  rw [csEmit_eq]; rfl

/-- Whether the outputs are driven, of a running sender. -/
theorem csDriven_of {s : State} (h : s.isSender = true) : s.csDriven = !s.flag R.SCH.CS_HIZ := by
  unfold State.csDriven
  simp only [h, Bool.true_and]

theorem cs_setCs (s : State) (c : Nat) (x : CsSt) : (s.setCs c x).cs c = x := smGet_set_same _ _ _ _

/-- A pulse is shortened: counted and announced. -/
def shortened (s : State) : State := s.incRaise R.SCH.CNT_CS_SHORTENED R.SCH.ev_CS_SHORTENED

theorem shortened_shows (s : State) : Counted s (shortened s) R.SCH.CNT_CS_SHORTENED ∧ Pending (shortened s) R.SCH.ev_CS_SHORTENED :=
  ⟨(rd_raise_sep _ (by decide)).trans (counted_inc s rfl rfl), pending_raise _ (by decide)⟩

theorem shortened_out (s : State) : (shortened s).out = s.out := (raise_out _ _).trans (wr_out s _ _)

/-- A shortened pulse leaves alone whether the outputs are driven. -/
theorem shortened_csDriven (s : State) : (shortened s).csDriven = s.csDriven := by
  have hrd (f : Fld) (h : sep f R.SCH.CNT_CS_SHORTENED = true) (h' : offKey f (evtPendKey R.SCH.ev_CS_SHORTENED.page) = true) :
      (shortened s).rd f = s.rd f := (rd_raise_sep (e := R.SCH.ev_CS_SHORTENED) _ h').trans (rd_wr_sep s _ h)
  have hst := hrd R.GLB.STATE (by decide) (by decide)
  have hz := hrd R.SCH.CS_HIZ (by decide) (by decide)
  have hr : (shortened s).role = s.role := (raise_role _ _).trans (wr_role s _ _)
  have hsend : (shortened s).isSender = s.isSender := by unfold State.isSender State.running State.stateCode; rw [hst, hr]
  rw [State.csDriven, State.csDriven, hsend, State.flag, State.flag, hz]

/-- What comes before a pulse of an output: the one in progress is cut short where it would leave no rest, and ends. -/
def makeWay (c : Nat) (s : State) : State :=
  (s.cond (decide (s.time < (s.cs c).until_ + 20 * ns1)) shortened).cond (s.cs c).active (fun s' => s'.csEmit (s.cs c).low c false)

theorem makeWay_csDriven (c : Nat) (s : State) : (makeWay c s).csDriven = s.csDriven := by
  unfold makeWay State.cond
  split <;> split <;> simp only [csEmit_csDriven, shortened_csDriven]

theorem makeWay_out (c : Nat) (s : State) :
    (makeWay c s).out = s.out ++ (if s.csDriven && (s.cs c).active then [.camsync c (s.cs c).low] else []) := by
  unfold makeWay State.cond
  split <;> split <;> simp [csEmit_out, shortened_out, shortened_csDriven, *]

theorem makeWay_rested {c : Nat} {s : State} (h : (s.cs c).until_ + 20 * ns1 ≤ s.time) : (makeWay c s).regs = s.regs := by
  rw [makeWay, cond_of_not (decide_eq_false (Nat.not_lt.mpr h)), State.cond]
  split
  · exact csEmit_regs _ _ _ _
  · rfl

theorem makeWay_short {c : Nat} {s : State} (h : s.time < (s.cs c).until_ + 20 * ns1) :
    (makeWay c s).regs = (shortened s).regs := by
  rw [makeWay, cond_of (decide_eq_true h), State.cond]
  split
  · exact csEmit_regs _ _ _ _
  · rfl

/-- A pulse's command begins one (05 R127). -/
def begins (c slot : Nat) (s : State) : Bool :=
  decide ((s.csCfg c slot s.time) (R.SCH.EN c) ≠ 0 ∧ slot < slotsOf (s.csCfg c slot s.time)) &&
    (csMask (s.csCfg c slot s.time) c).testBit slot && !(s.frm.hold && s.frm.jump.isSome && decide (s.frm.nextTick ≤ s.time))

/-- The pulse that a slot begins. -/
def newPulse (c slot : Nat) (s : State) : CsSt :=
  { active := true, until_ := s.time + (s.csCfg c slot s.time) (R.SCH.WIDTH c) * 100 * ns1,
    low := (s.csCfg c slot s.time) (R.SCH.ACTIVE_LOW c) == 1 }

theorem camsyncPulseFx_not {c slot : Nat} {s : State} (h : begins c slot s = false) : camsyncPulseFx c slot s = s := by
  refine if_pos ?_
  unfold begins at h
  by_contra hc
  rw [not_or, not_or, not_or] at hc
  obtain ⟨h1, h2, h3, h4⟩ := hc
  simp_all

theorem makeWay_time (c : Nat) (s : State) : (makeWay c s).time = s.time := by
  have hs : (shortened s).time = s.time := (raise_time _ _).trans (wr_time s _ _)
  unfold makeWay State.cond
  split <;> split <;> simp only [csEmit_eq, hs]

theorem camsyncPulseFx_begins {c slot : Nat} {s : State} (h : begins c slot s = true) :
    camsyncPulseFx c slot s = ((makeWay c s).csEmit (newPulse c slot s).low c true).setCs c (newPulse c slot s) := by
  have hn : ¬((s.csCfg c slot s.time) (R.SCH.EN c) = 0 ∨ !(csMask (s.csCfg c slot s.time) c).testBit slot ∨
      slotsOf (s.csCfg c slot s.time) ≤ slot ∨ (s.frm.hold && s.frm.jump.isSome && decide (s.frm.nextTick ≤ s.time)) = true) := by
    simp only [begins, Bool.and_eq_true, decide_eq_true_eq] at h
    obtain ⟨⟨⟨h1, h2⟩, h3⟩, h4⟩ := h
    rintro (h | h | h | h)
    · exact h1 h
    · simp [h3] at h
    · omega
    · rw [h] at h4; exact absurd h4 (by decide)
  have ht := makeWay_time c s
  rw [camsyncPulseFx, if_neg hn]
  show State.setCs (State.csEmit (makeWay c s) _ c true) c { active := true, until_ := (makeWay c s).time + _, low := _ } = _
  rw [ht]
  rfl

/-- What a pulse's command leaves, of a state with no output yet. -/
theorem camsyncPulseFx_pulse {c slot : Nat} {s : State} (h : begins c slot s = true) (hs : s.isSender = true) (ho : s.out = []) :
    (camsyncPulseFx c slot s).cs c = newPulse c slot s ∧
    (camsyncPulseFx c slot s).out = (if s.flag R.SCH.CS_HIZ then [] else
      (if (s.cs c).active then [.camsync c (s.cs c).low] else []) ++ [.camsync c (!(newPulse c slot s).low)]) ∧
    ((s.cs c).until_ + 20 * ns1 ≤ s.time → (camsyncPulseFx c slot s).regs = s.regs) ∧
    (s.time < (s.cs c).until_ + 20 * ns1 → Counted s (camsyncPulseFx c slot s) R.SCH.CNT_CS_SHORTENED ∧
      Pending (camsyncPulseFx c slot s) R.SCH.ev_CS_SHORTENED) := by
  rw [camsyncPulseFx_begins h]
  refine ⟨cs_setCs _ _ _, ?_, fun hr => (csEmit_regs _ _ _ _).trans (makeWay_rested hr), fun hr => ?_⟩
  · show ((makeWay c s).csEmit _ c true).out = _
    rw [csEmit_out, makeWay_csDriven, makeWay_out, ho, csDriven_of hs]
    cases s.flag R.SCH.CS_HIZ <;> cases (s.cs c).active <;> simp
  · have hregs : (((makeWay c s).csEmit (newPulse c slot s).low c true).setCs c (newPulse c slot s)).regs = (shortened s).regs :=
      (csEmit_regs _ _ _ _).trans (makeWay_short hr)
    obtain ⟨hc, hp⟩ := shortened_shows s
    exact ⟨(rd_congr hregs _).trans hc, (wbit_congr hregs _ _).trans hp⟩

/-- A pulse whose time has come ends. -/
theorem camsyncPulseEndFx_ended {c : Nat} {s : State} (ha : (s.cs c).active = true) (hu : (s.cs c).until_ ≤ s.time) :
    camsyncPulseEndFx c s = (s.csEmit (s.cs c).low c false).setCs c { s.cs c with active := false } := if_pos ⟨ha, hu⟩

/-- A pulse that the next one follows too closely is cut short. -/
theorem camsyncPulseEndFx_cut {c : Nat} {s : State} (ha : (s.cs c).active = true) (hu : s.time < (s.cs c).until_) (hcut : s.cutDue c = true) :
    camsyncPulseEndFx c s = ((shortened s).csEmit (s.cs c).low c false).setCs c { s.cs c with active := false, until_ := s.time } := by
  rw [camsyncPulseEndFx, if_neg (fun h => Nat.not_le.mpr hu h.2), if_pos ⟨ha, hcut⟩]
  rfl

/-- What an output that ends its pulse sends, floating or not. -/
theorem driven_out (z low : Bool) {c : Nat} :
    ([] ++ if (!z) = true then [Output.camsync c (false != low)] else []) = if z = true then [] else [.camsync c low] := by
  cases z <;> simp

/-- The lowest bit of a word as a number. -/
theorem mod_bit0 (v : Word32) : fieldOf v 0 1 % 2 ^ 1 = b2n (v.getLsbD 0) := by
  unfold fieldOf b2n BitVec.getLsbD
  rw [Nat.testBit_zero]
  rcases Nat.mod_two_eq_zero_or_one v.toNat with h | h <;> simp [h]

/-- Settles O52. -/
theorem cameraSyncPulses : Obligations.CameraSyncPulses := by
  unfold Obligations.CameraSyncPulses
  refine ⟨fun c slot t0 s hs ht hc => ⟨_, rfl, ?begin⟩, fun c t0 s hs hc ha => ⟨fun hu => ⟨_, rfl, ?ended⟩, fun hu hcut => ⟨_, rfl, ?cut⟩⟩,
    fun v s hp => ⟨_, rfl, ?hiz⟩⟩
  case begin =>
    rw [cond_of (by rw [Bool.and_eq_true, Bool.and_eq_true]; exact ⟨⟨hs, ht⟩, decide_eq_true hc⟩)]
    beta_reduce
    intro g low now
    refine ⟨fun h => ?_, fun h => camsyncPulseFx_pulse (s := s.atTime t0) h hs rfl⟩
    rw [camsyncPulseFx_not (s := s.atTime t0) h]
    exact ⟨rfl, rfl⟩
  case ended =>
    rw [cond_of (by rw [Bool.and_eq_true]; exact ⟨hs, decide_eq_true hc⟩)]
    rw [camsyncPulseEndFx_ended (s := s.atTime t0) ha hu]
    refine ⟨cs_setCs _ _ _, csEmit_regs _ _ _ _, ?_⟩
    show ((s.atTime t0).csEmit (s.cs c).low c false).out = _
    rw [csEmit_out, csDriven_of (s := s.atTime t0) hs]
    exact driven_out _ _
  case cut =>
    rw [cond_of (by rw [Bool.and_eq_true]; exact ⟨hs, decide_eq_true hc⟩), camsyncPulseEndFx_cut (s := s.atTime t0) ha hu hcut]
    obtain ⟨hcnt, hp⟩ := shortened_shows (s.atTime t0)
    have hregs := csEmit_regs (shortened (s.atTime t0)) (s.cs c).low c false
    refine ⟨cs_setCs _ _ _, (rd_congr hregs _).trans hcnt, (wbit_congr hregs _ _).trans hp, ?_⟩
    show ((shortened (s.atTime t0)).csEmit (s.cs c).low c false).out = _
    rw [csEmit_out, shortened_csDriven, shortened_out, csDriven_of (s := s.atTime t0) hs]
    exact driven_out _ _
  case hiz =>
    rw [cond_of hp]
    refine ⟨onlyRegs_wr s.start _ _, ?_, rfl, wordsKept_wr s.start (by decide) _⟩
    exact (rd_wr_own s.start _ (by decide)).trans (mod_bit0 v)

end Sys2Proof.Proofs.CameraSync

/-!
Frame relations. A relation between states that holds across the writes of some fields and the events of some pages: one rule per
operation, from which the frame of a command follows by its steps, for whatever relation is asked for.
-/

namespace Sys2Proof.Proofs.Framing
open Sys2Proof.Machine Sys2Proof.Laws Sys2Proof.Proofs.Frames Sys2Proof.Proofs.FieldRules

/-- A relation that holds across every write of a field of `W` and every event of a page of `E`. -/
structure Frame (R : State → State → Prop) (W : Fld → Bool) (E : Nat → Bool) : Prop where
  refl : ∀ s, R s s
  trans : ∀ {s t u}, R s t → R t u → R s u
  wr : ∀ (s : State) {f : Fld} (v : Nat), W f = true → R s (s.wr f v)
  raise : ∀ (s : State) {e : Evt}, E e.page = true → e.bit < 32 → R s (s.raise e)
  level : ∀ (s : State) {e : Evt} (b : Bool), E e.page = true → e.bit < 32 → R s (s.level e b)

namespace Frame

variable {R : State → State → Prop} {W : Fld → Bool} {E : Nat → Bool} (h : Frame R W E)
include h

theorem wrB (s : State) {f : Fld} (b : Bool) (hf : W f = true) : R s (s.wrB f b) := h.wr s _ hf

theorem wrI (s : State) {f : Fld} (v : Int) (hf : W f = true) : R s (s.wrI f v) := h.wr s _ hf

theorem incBy (s : State) {f : Fld} (n : Nat) (hf : W f = true) : R s (s.incBy f n) := h.wr s _ hf

theorem inc (s : State) {f : Fld} (hf : W f = true) : R s (s.inc f) := h.wr s _ hf

theorem incRaise (s : State) {f : Fld} {e : Evt} (hf : W f = true) (he : E e.page = true) (hb : e.bit < 32) : R s (s.incRaise f e) :=
  h.trans (h.inc s hf) (h.raise _ he hb)

theorem cond {s : State} {b : Bool} {f : State → State} (hf : b = true → R s (f s)) : R s (s.cond b f) := by
  cases b
  · exact h.refl s
  · exact hf rfl

theorem each {α : Type} {s : State} {xs : List α} {f : State → α → State} (hf : ∀ t, ∀ x ∈ xs, R t (f t x)) : R s (s.each xs f) := by
  induction xs generalizing s with
  | nil => exact h.refl s
  | cons x xs ih => exact h.trans (hf s x List.mem_cons_self) (ih fun t y hy => hf t y (List.mem_cons_of_mem _ hy))

omit h in
theorem ite (_ : Frame R W E) {s t u : State} {c : Prop} [Decidable c] (ht : c → R s t) (hu : ¬c → R s u) : R s (if c then t else u) := by
  split
  · next hc => exact ht hc
  · next hc => exact hu hc

end Frame

/-! A part of the state, some fields, and what is pending. -/

variable {β : Type}

/-- A part of the state that does not depend on registers and events. -/
def RegsFree (F : State → β) : Prop := ∀ (s : State) (r : List (Nat × Word32)) (e : EvtSt), F { s with regs := r, evt := e } = F s

/-- From `s` to `t` the part `F` and the fields `fs` stay, and pending events stay pending. -/
structure Stays (F : State → β) (fs : List Fld) (s t : State) : Prop where
  part : F t = F s
  rd : ∀ f ∈ fs, t.rd f = s.rd f
  pend : ∀ e, Pending s e → Pending t e

/-- A change of other parts of the state. -/
theorem Stays.other {F : State → β} {fs : List Fld} {s t : State} (hF : F t = F s) (hr : t.regs = s.regs) : Stays F fs s t :=
  ⟨hF, fun f _ => rd_congr hr f, fun _ he => (wbit_congr hr _ _).trans he⟩

/-- A part that does not depend on registers and events stays across every write and event. -/
theorem partFrame {F : State → β} (hF : RegsFree F) : Frame (fun s t => F t = F s) (fun _ => true) (fun _ => true) where
  refl _ := rfl
  trans h h' := h'.trans h
  wr s f v _ := by rw [wr_eq]; exact hF s _ s.evt
  raise s e _ _ := by rw [raise_eq]; exact hF s _ _
  level s e b _ _ := by rw [level_eq]; exact hF s _ _

/-- A field that shares no bit with some fields, and no word with EVT_PEND. -/
def apartFrom (fs : List Fld) (g : Fld) : Bool :=
  fs.all (fun f => sep f g) && decide (g.key % 0x1000 ≠ 0x018 ∧ (g.key + 4) % 0x1000 ≠ 0x018)

/-- A page whose event words are none of some fields'. -/
def quietFor (fs : List Fld) (p : Nat) : Bool := fs.all (fun f => offKey f (evtRawKey p) && offKey f (evtPendKey p))

theorem pending_of_apart {s : State} {e : Evt} {g : Fld} (v : Nat) (hg : g.key % 0x1000 ≠ 0x018 ∧ (g.key + 4) % 0x1000 ≠ 0x018)
    (he : Pending s e) : Pending (s.wr g v) e := by
  refine pending_wr he v (decide_eq_true ?_)
  unfold evtPendKey regKey
  omega

theorem pending_level_of {s : State} {e e' : Evt} {b : Bool} (hb : e'.bit < 32) (he : Pending s e) : Pending (s.level e' b) e := by
  have hset : Pending (s.setWbit (evtRawKey e'.page) e'.bit b) e := by
    rw [Pending, wbit_setWbit s _ hb, if_neg fun h => evtRawKey_ne_evtPendKey _ _ h.1.symm]
    exact he
  unfold State.level State.cond
  simp only
  split
  · exact pending_raise_of hset hb
  · exact hset

theorem staysFrame {F : State → β} (hF : RegsFree F) (fs : List Fld) : Frame (Stays F fs) (apartFrom fs) (quietFor fs) where
  refl s := ⟨rfl, fun _ _ => rfl, fun _ h => h⟩
  trans h h' := ⟨h'.part.trans h.part, fun f hf => (h'.rd f hf).trans (h.rd f hf), fun e he => h'.pend e (h.pend e he)⟩
  wr s g v h := by
    rw [apartFrom, Bool.and_eq_true, List.all_eq_true] at h
    obtain ⟨hsep, hpend⟩ := h
    refine ⟨by rw [wr_eq]; exact hF s _ s.evt, fun f hf => rd_wr_sep s v (hsep f hf), fun _ he => ?_⟩
    exact pending_of_apart v (of_decide_eq_true hpend) he
  raise s e h hb := by
    refine ⟨by rw [raise_eq]; exact hF s _ _, fun f hf => ?_, fun _ he => pending_raise_of he hb⟩
    exact rd_raise_sep s (Bool.and_eq_true _ _ ▸ List.all_eq_true.mp h f hf).2
  level s e b h hb := by
    refine ⟨by rw [level_eq]; exact hF s _ _, fun f hf => ?_, fun _ he => pending_level_of hb he⟩
    obtain ⟨h1, h2⟩ := Bool.and_eq_true _ _ ▸ List.all_eq_true.mp h f hf
    exact rd_level_sep s h1 h2

/-- The condition of a level event that shows is one bit of EVT_RAW. -/
theorem raw_eq_rd (s : State) (e : Evt) : s.raw e = s.flag ⟨e.page, 0x010, e.bit, 1⟩ := by
  unfold State.raw State.wbit State.flag
  rw [testBit_eq_fieldOf]
  have : fieldOf (s.word (evtRawKey e.page)) e.bit 1 < 2 := Nat.mod_lt _ (by decide)
  show decide (_ = 1) = (fieldOf (s.word (evtRawKey e.page)) e.bit 1 != 0)
  interval_cases fieldOf (s.word (evtRawKey e.page)) e.bit 1 <;> rfl

/-! Words outside a set of keys. -/

/-- From `s` to `t` every register word outside the keys of `K` stays. -/
def WordsStay (K : Nat → Bool) (s t : State) : Prop := ∀ k, K k = false → t.word k = s.word k

theorem wordsStayFrame (K : Nat → Bool) :
    Frame (WordsStay K) (fun f => K f.key && (decide (f.w ≤ 32) || K (f.key + 4))) (fun p => K (evtRawKey p) && K (evtPendKey p)) where
  refl s _ _ := rfl
  trans h h' k hk := (h' k hk).trans (h k hk)
  wr s f v h k hk := by
    rw [Bool.and_eq_true, Bool.or_eq_true, decide_eq_true_eq] at h
    obtain ⟨h1, h2⟩ := h
    refine word_wr_ne s v (fun e => ?_) (fun hw e => ?_)
    · rw [e, h1] at hk; exact absurd hk (by decide)
    · rcases h2 with h2 | h2
      · omega
      · rw [e, h2] at hk; exact absurd hk (by decide)
  raise s e h _ k hk := by
    rw [Bool.and_eq_true] at h
    refine wordsKept_raise s e k fun hc => ?_
    rw [List.mem_singleton.mp hc, h.2] at hk
    exact absurd hk (by decide)
  level s e b h _ k hk := by
    rw [Bool.and_eq_true] at h
    refine wordsKept_level s e b k fun hc => ?_
    rcases List.mem_pair.mp hc with rfl | rfl
    · rw [h.1] at hk; exact absurd hk (by decide)
    · rw [h.2] at hk; exact absurd hk (by decide)

end Sys2Proof.Proofs.Framing

/-!
Frames of the clock (04 R82 to R102): which fields and records the lock, the loop engine and the sources write.
-/

namespace Sys2Proof.Proofs.ClockFrames
open Sys2Proof.Machine Sys2Proof.Laws Sys2Proof.Proofs.Frames Sys2Proof.Proofs.FieldRules Sys2Proof.Proofs.Framing

/-- A relation that the records of the lock, the loops and the choice of a source may change under: all of the clock but the time
    base, the sources and the PTP instances. -/
def LockFree (Rel : State → State → Prop) : Prop :=
  ∀ (s : State) (c : ClkSt), c.src = s.clk.src → c.ptp = s.clk.ptp → c.tb = s.clk.tb → Rel s { s with clk := c }

/-- The fields that the lock and holdover write. -/
def lockFields : List Fld := [R.CLK.LOCK_STATE, R.CLK.HOLD_ELAPSED, R.CLK.HOLD_FREQ, R.CLK.CNT_HOLDOVER]

/-- The fields that show the active source. -/
def activeFields : List Fld := [R.CLK.ACTIVE_SRC, R.PTP.ACTIVE 0, R.PTP.ACTIVE 1]

/-- The fields that show an instance of the loop engine. -/
def loopShown (n : Nat) : List Fld := [R.LOOP.OUT n, R.LOOP.ERR n, R.LOOP.st_SAT]

section
variable {Rel : State → State → Prop} {W : Fld → Bool} {E : Nat → Bool} (h : Frame Rel W E) (hclk : LockFree Rel)
include h hclk

omit h in
theorem frame_setLoop (s : State) (n : Nat) (l : LoopSt) : Rel s (s.setLoop n l) := hclk s _ rfl rfl rfl

theorem frame_histPush (s : State) : Rel s s.histPush := by
  unfold State.histPush
  split
  · exact h.refl s
  · exact hclk s _ rfl rfl rfl

omit hclk in
theorem frame_showLoop {n : Nat} (hn : n < 32) (hW : ∀ f ∈ loopShown n, W f = true) (hE : E 0x0C0 = true) (s : State) (lo hi : Int) :
    Rel s (s.showLoop n lo hi) := by
  unfold State.showLoop
  refine h.trans ?_ (h.level _ _ hE (lt_of_eq_of_lt (Nat.zero_add n) hn))
  refine h.trans ?_ (h.wr _ _ (hW _ (by simp [loopShown])))
  exact h.trans (h.wrI _ _ (hW _ (by simp [loopShown]))) (h.wrI _ _ (hW _ (by simp [loopShown])))

theorem frame_loopRun {n : Nat} (hn : n < 32) (hW : ∀ f ∈ loopShown n, W f = true) (hE : E 0x0C0 = true) (s : State) (c : LoopCoef)
    (x f : Int) (m : Option Int) : Rel s (s.loopRun n c x f m) := by
  unfold State.loopRun
  exact h.trans (frame_setLoop hclk s _ _) (frame_showLoop h hn hW hE _ _ _)

section
variable (hW : ∀ f ∈ lockFields, W f = true) (hE : E 0x004 = true)
include hW hE

theorem frame_setLock (s : State) (c : Nat) : Rel s (s.setLock c) := by
  unfold State.setLock
  refine h.ite (fun _ => h.refl s) fun _ => ?_
  refine h.trans ?_ (h.cond fun _ => frame_setLoop hclk _ _ _)
  refine h.trans ?_ (h.level _ _ hE (by decide))
  refine h.trans (h.trans ?_ (h.wr _ _ (hW _ (by decide)))) (h.raise _ hE (by decide))
  refine h.trans ?_ (h.cond fun _ => ?_)
  · exact h.trans (frame_histPush h hclk s) (hclk _ _ rfl rfl rfl)
  exact h.trans (h.wr _ _ (hW _ (by decide))) (hclk _ _ rfl rfl rfl)

theorem frame_enterHoldover (s : State) : Rel s s.enterHoldover := by
  unfold State.enterHoldover
  refine h.ite (fun _ => h.refl s) fun _ => ?_
  refine h.trans ?_ (h.cond fun _ => frame_setLoop hclk _ _ _)
  refine h.trans ?_ (hclk _ _ rfl rfl rfl)
  refine h.trans ?_ (h.inc _ (hW _ (by decide)))
  exact h.trans (h.trans (frame_setLock h hclk hW hE s _) (h.wrI _ _ (hW _ (by decide)))) (h.wr _ _ (hW _ (by decide)))

theorem frame_seekSource (s : State) : Rel s s.seekSource := by
  unfold State.seekSource
  have hhold := frame_enterHoldover h hclk hW hE
  refine h.trans ?_ (h.ite (fun _ => h.ite (fun _ => hhold _) (fun _ => h.refl _)) (fun _ => h.refl _))
  exact hclk s _ rfl rfl rfl

theorem frame_lockClosed (s : State) : Rel s s.lockClosed := by
  unfold State.lockClosed
  refine h.ite (fun _ => h.refl s) fun _ => h.ite (fun _ => frame_setLock h hclk hW hE s _) fun _ => ?_
  exact h.ite (fun _ => frame_setLock h hclk hW hE s _) (fun _ => h.refl s)

end

omit hclk in
theorem frame_setActive (hA : ∀ f ∈ activeFields, W f = true) (s : State) (c : Nat) : Rel s (s.setActive c) := by
  unfold State.setActive
  refine h.trans (h.trans ?_ (h.wrB _ _ (hA _ (by decide)))) (h.wrB _ _ (hA _ (by decide)))
  exact h.wr _ _ (hA _ (by decide))

end

/-! The sources. -/

/-- The fields that a source shows. -/
def sourceFields (c : Nat) : List Fld :=
  [R.CLK.QUALIFIED, R.CLK.SRC_OFFSET (c - 1)] ++ (if isPtp c then [R.PTP.QUALIFIED (c - 1)] else [])

/-- The fields that a re-lock counts. -/
def relockFields : List Fld := [R.CLK.CNT_RELOCK, R.CLK.CNT_SWITCH, R.CLK.PHASE_ERR, R.PTP.OFFSET 0, R.PTP.OFFSET 1]

section
variable {Rel : State → State → Prop} {W : Fld → Bool} {E : Nat → Bool} (h : Frame Rel W E)
include h

theorem frame_showQualified {c : Nat} (hS : ∀ f ∈ sourceFields c, W f = true) (s : State) : Rel s (s.showQualified c) := by
  unfold State.showQualified
  refine h.trans (h.wr _ _ (hS _ (by simp [sourceFields]))) (h.cond fun hp => h.wrB _ _ (hS _ ?_))
  simp [sourceFields, hp]

variable (hclk : LockFree Rel) {c : Nat} (hsrc : ∀ (s : State) (f : SrcSt → SrcSt), Rel s (s.modSrc c f)) (hE : E 0x004 = true)
  (hS : ∀ f ∈ sourceFields c, W f = true)
include hclk hsrc hE hS

theorem frame_qualify (s : State) : Rel s (s.qualify c) := by
  unfold State.qualify
  refine h.ite (fun _ => h.refl s) fun _ => h.trans ?_ (h.cond fun _ => hclk _ _ rfl rfl rfl)
  exact h.trans (h.trans (hsrc s _) (frame_showQualified h hS _)) (h.raise _ hE (by decide))

theorem frame_usableNow (s : State) : Rel s (s.usableNow c) := by
  unfold State.usableNow
  exact h.trans (hsrc s _) (h.cond fun _ => frame_qualify h hclk hsrc hE hS _)

theorem frame_loseSource (hW : ∀ f ∈ lockFields, W f = true) (hA : ∀ f ∈ activeFields, W f = true) (s : State) : Rel s (s.loseSource c) := by
  unfold State.loseSource
  have hseek := frame_seekSource h hclk hW hE
  refine h.trans ?_ (h.ite (fun _ => h.trans (frame_setActive h hA _ _) (hseek _)) fun _ => h.ite (fun _ => hseek _) fun _ => h.refl _)
  refine h.trans ?_ (h.cond fun _ => h.raise _ hE (by decide))
  exact h.trans (h.trans (hsrc s _) (frame_showQualified h hS _)) (h.wr _ _ (hS _ (by simp [sourceFields])))

end

/-! The measurements of a source: they leave alone which sources are usable. -/

/-- A relation that every record of the clock and of the frame clock may change under, as long as the same sources are usable. -/
def UsableFree (Rel : State → State → Prop) : Prop :=
  ∀ (s : State) (c : ClkSt) (f : FrmSt), (∀ n, (smGet srcDefault c.src n).usable = (s.src n).usable) → Rel s { s with clk := c, frm := f }

/-- A step of the time base leaves alone which sources are usable. -/
theorem errsAfter_usable (d : Int) (l : List (Nat × SrcSt)) (n : Nat) :
    (smGet srcDefault (errsAfter d l) n).usable = (smGet srcDefault l n).usable := by
  induction l with
  | nil => rfl
  | cons x l ih =>
    obtain ⟨a, v⟩ := x
    unfold errsAfter at ih ⊢
    rw [List.map_cons]
    split
    · by_cases ha : a = n
      · simp only [smGet, ha, if_true]
      · simp only [smGet, ha, if_false]; exact ih
    · by_cases ha : a = n
      · simp only [smGet, ha, if_true]
      · simp only [smGet, ha, if_false]; exact ih

section
variable {Rel : State → State → Prop} {W : Fld → Bool} {E : Nat → Bool} (h : Frame Rel W E) (hclk : UsableFree Rel)
  (hW : ∀ f ∈ lockFields, W f = true) (hE : E 0x004 = true)
include h hclk

omit h in
theorem UsableFree.lockFree : LockFree Rel := fun s c h1 _ _ => hclk s c s.frm fun n => by rw [h1]; rfl

include hW hE

variable (hR : ∀ f ∈ relockFields, W f = true)
include hR

theorem frame_relock (s : State) (ptp : Bool) (d tErr : Int) : Rel s (s.relock ptp d tErr) := by
  unfold State.relock
  have hlock := frame_setLock h hclk.lockFree hW hE
  refine h.trans ?_ (h.ite (fun _ => h.trans ?_ (hlock _ _)) fun _ => hlock _ _)
  · refine h.trans ?_ (hclk.lockFree _ _ rfl rfl rfl)
    exact h.incRaise s (hR _ (by decide)) hE (by decide)
  · exact hclk _ _ _ fun _ => rfl

omit hW hE hR in
theorem frame_planFirst (s : State) : Rel s s.planFirst := by
  unfold State.planFirst
  exact h.ite (fun _ => h.refl s) fun _ => hclk s s.clk _ fun _ => rfl

omit hW in
theorem frame_placeOn (s : State) (c : Nat) (edge tErr : Int) : Rel s (s.placeOn c edge tErr) := by
  unfold State.placeOn
  refine h.trans ?_ (frame_planFirst h hclk _)
  refine h.trans ?_ (hclk _ _ _ fun _ => rfl)
  refine h.cond fun _ => ?_
  unfold State.moveBase
  refine h.trans ?_ (h.raise _ hE (by decide))
  refine h.trans (h.trans ?_ (h.wr _ _ (hR _ (by decide)))) (h.wr _ _ (hR _ (by decide)))
  exact hclk s _ s.frm fun n => errsAfter_usable _ _ n

theorem frame_takeSource (hA : ∀ f ∈ activeFields, W f = true) (s : State) (c : Nat) (base : Int) : Rel s (s.takeSource c base) := by
  unfold State.takeSource
  have hlock := frame_setLock h hclk.lockFree hW hE
  refine h.trans ?_ (h.ite (fun _ => h.trans (frame_placeOn h hclk hE hR _ _ _ _) (hlock _ _)) fun _ => h.ite (fun _ => hlock _ _) fun _ =>
    frame_relock h hclk hW hE hR _ _ _ _)
  refine h.trans ?_ (hclk.lockFree _ _ rfl rfl rfl)
  exact h.cond fun _ => h.trans (frame_setActive h hA s _) (h.incRaise _ (hR _ (by decide)) hE (by decide))

/-- The fields that count displaced measurements. -/
def displacedFields (c : Nat) : List Fld :=
  [R.CLK.CNT_DISPLACED, R.REF.CNT_REFA_DISPLACED, R.REF.CNT_REFB_DISPLACED, R.PTP.CNT_DISPLACED (c - 1)]

theorem frame_displaced {c : Nat} (hD : ∀ f ∈ displacedFields c, W f = true) (hP : isPtp c = true ∨ c = 3 ∨ c = 4) (hEp : isPtp c = true → E (R.PTP.page (c - 1)) = true)
    (s : State) (err d tErr : Int) : Rel s (s.displaced c err d tErr) := by
  unfold State.displaced
  refine h.trans ?_ (h.ite (fun _ => h.refl _) fun _ => h.ite (fun _ => hclk.lockFree _ _ rfl rfl rfl) fun _ => frame_relock h hclk hW hE hR _ _ _ _)
  have hptp (h3 : c ≠ 3) (h4 : c ≠ 4) : isPtp c = true := by tauto
  refine h.trans ?_ (h.ite (fun _ => h.inc _ ?refA) fun h3 => h.ite (fun _ => h.inc _ ?refB) fun h4 =>
    h.incRaise _ ?ptp (hEp (hptp h3 h4)) (show 3 < 32 by decide))
  refine h.trans ?_ (h.raise _ hE (by decide))
  exact h.inc s (hD _ (by simp [displacedFields]))
  all_goals exact hD _ (by simp [displacedFields])

omit hW hE in
theorem frame_lockSample (hL : ∀ f ∈ loopShown 0, W f = true) (hE0 : E 0x0C0 = true) (s : State) (err : Int) : Rel s (s.lockSample err) := by
  unfold State.lockSample
  refine h.trans ?_ (frame_loopRun h hclk.lockFree (by decide) hL hE0 _ _ _ _ _)
  exact h.trans (frame_histPush h hclk.lockFree s) (h.wrI _ _ (hR _ (by decide)))

theorem frame_lockOn (hL : ∀ f ∈ loopShown 0, W f = true) (hE0 : E 0x0C0 = true) (s : State) (err x : Int) : Rel s (s.lockOn err x) := by
  unfold State.lockOn
  have hlock := frame_setLock h hclk.lockFree hW hE
  refine h.trans ?_ (h.ite (fun _ => hlock _ _) fun _ => h.ite (fun _ => hlock _ _) fun _ => h.refl _)
  refine h.trans ?_ (frame_lockSample h hclk hR hL hE0 _ _)
  exact hclk.lockFree s _ rfl rfl rfl

theorem frame_measure {c : Nat} (hS : ∀ f ∈ sourceFields c, W f = true) (hA : ∀ f ∈ activeFields, W f = true)
    (hD : ∀ f ∈ displacedFields c, W f = true) (hP : isPtp c = true ∨ c = 3 ∨ c = 4) (hEp : isPtp c = true → E (R.PTP.page (c - 1)) = true)
    (hL : ∀ f ∈ loopShown 0, W f = true) (hE0 : E 0x0C0 = true) (s : State) (err x : Int) (off : Bool) : Rel s (s.measure c err x off) := by
  unfold State.measure
  refine h.trans (h.wrI s _ (hS _ (by simp [sourceFields]))) (h.ite (fun _ => h.ite (fun _ => h.ite (fun _ => h.refl _) fun _ => ?_) fun _ => ?_)
    fun _ => h.ite (fun _ => ?_) fun _ => h.refl _)
  · exact frame_displaced h hclk hW hE hR hD hP hEp _ _ _ _
  · exact frame_lockOn h hclk hW hE hR hL hE0 _ _ _
  · exact frame_takeSource h hclk hW hE hR hA _ _ _

end

end Sys2Proof.Proofs.ClockFrames

/-!
THEOREMS. The time base is set and watched (04 R83, R90; 16 R415). Settles O34.
-/

namespace Sys2Proof.Proofs.TimeBase
open Sys2Proof.Machine Sys2Proof.Laws Sys2Proof.Proofs.Frames Sys2Proof.Proofs.FieldRules Sys2Proof.Proofs.Framing

/-- Planning the first tick changes the frame clock alone. -/
theorem planFirst_eq (s : State) : s.planFirst = { s with frm := s.planFirst.frm } := by
  unfold State.planFirst
  split <;> rfl

/-- A step of the time base moves it, shows TIME_STEP, and keeps the words but the PTP offsets and EVT_PEND. -/
theorem moveBase_shows (s : State) (d : Int) : (s.moveBase d).clk = { s.clk with tb := s.clk.tb + d, src := errsAfter d s.clk.src } ∧
    Pending (s.moveBase d) R.CLK.ev_TIME_STEP ∧ (s.moveBase d).rd R.CLK.TIME_SET_REFUSED = s.rd R.CLK.TIME_SET_REFUSED := by
  refine ⟨(raise_clk _ _).trans rfl, pending_raise _ (by decide), ?_⟩
  unfold State.moveBase
  exact (rd_raise_sep _ (by decide)).trans ((rd_wr_sep _ _ (by decide)).trans (rd_wr_sep _ _ (by decide)))

/-- Before the first tick the time base steps at once. -/
theorem requestBase_untimed {s : State} (h : s.frm.ticked = false) (target : Nat) :
    (s.requestBase target).clk.step = none ∧ (s.requestBase target).clk.tb = s.clk.tb + ((target : Int) - s.base) ∧
    Pending (s.requestBase target) R.CLK.ev_TIME_STEP ∧
    (s.requestBase target).rd R.CLK.TIME_SET_REFUSED = s.rd R.CLK.TIME_SET_REFUSED := by
  obtain ⟨hclk, hp, hrd⟩ := moveBase_shows { s with clk := { s.clk with ppsArm := false, step := none } } ((target : Int) - s.base)
  have hreq : s.requestBase target =
      (((({ s with clk := { s.clk with ppsArm := false, step := none } } : State).moveBase ((target : Int) - s.base))).cond
        (((({ s with clk := { s.clk with ppsArm := false, step := none } } : State).moveBase ((target : Int) - s.base)).clk.placed &&
          (({ s with clk := { s.clk with ppsArm := false, step := none } } : State).moveBase ((target : Int) - s.base)).srcList.isEmpty))
        (fun s => { s with frm := { s.frm with cadBase := s.tickOffset - s.clk.tb } })).planFirst := by
    unfold State.requestBase
    exact if_neg (by rw [h]; decide)
  rw [hreq, planFirst_eq]
  generalize ({ s with clk := { s.clk with ppsArm := false, step := none } } : State).moveBase ((target : Int) - s.base) = m at *
  unfold State.cond
  split
  · exact ⟨(congrArg ClkSt.step hclk :), (congrArg ClkSt.tb hclk :), hp, hrd⟩
  · exact ⟨(congrArg ClkSt.step hclk :), (congrArg ClkSt.tb hclk :), hp, hrd⟩

/-- On a ticking sender the step is asked for at the first tick 250 µs or more ahead. -/
theorem requestBase_ticking {s : State} (h : s.frm.ticked = true) (target : Nat) :
    (s.requestBase target).clk = { s.clk with ppsArm := false, step := some (s.firstTick s.time, nsOf ((target : Int) - s.base)) } ∧
    ∀ f, (s.requestBase target).rd f = s.rd f := by
  unfold State.requestBase
  simp only
  rw [if_pos h]
  exact ⟨rfl, fun f => rfl⟩

/-- The fields by which the epoch of the first tick ahead is told. -/
def tickFields : List Fld :=
  [R.GLB.STATE, R.GLB.EPOCH, R.CLK.RATE_NUM.live, R.CLK.RATE_1001.live, R.CLK.SRC1.live, R.CLK.TICK_OFFSET.live]

/-- The epoch of the first tick ahead follows those fields, the frame clock, the pending commits and the role. -/
theorem firstTick_congr {s t : State} (hc : t.cmt = s.cmt) (hf : t.frm = s.frm) (hr : t.role = s.role)
    (h : ∀ f ∈ tickFields, t.rd f = s.rd f) (w : Nat) : t.firstTick w = s.firstTick w := by
  have hst := h R.GLB.STATE (by decide)
  have hep : t.epoch = s.epoch := h R.GLB.EPOCH (by decide)
  have hlv : ∀ f, f.live ∈ tickFields → t.lv f = s.lv f := fun f hm => h f.live hm
  have hsend : t.isSender = s.isSender := by unfold State.isSender State.running State.stateCode; rw [hst, hr]
  have hnum := hlv R.CLK.RATE_NUM (by decide)
  have hden := hlv R.CLK.RATE_1001 (by decide)
  have hpos (j : Int) : t.tickPos j = s.tickPos j := by
    unfold State.tickPos State.rateNum State.rateDen
    rw [hnum, hden, hf]
  have hplace (g : Cfg) : t.placesAnew g = s.placesAnew g := by
    unfold State.placesAnew periodChanged numOf denOf
    rw [hnum, hden, hlv R.CLK.SRC1 (by decide), hlv R.CLK.TICK_OFFSET (by decide)]
  unfold State.firstTick State.judgedTick
  simp only [hep, hc, hf, hsend, hpos, hplace]

/-- A sender's time base, asked for a time by TIME_SET_GO. -/
def setTime (s : State) : Nat := s.rd R.CLK.TIME_SET_SEC * sec1 + s.rd R.CLK.TIME_SET_NS * ns1

theorem timeSetGoFx_accepted {s : State} (h : isPtp s.active = false) :
    timeSetGoFx s = (s.wr R.CLK.TIME_SET_REFUSED 0).requestBase (setTime s) := if_neg (by rw [h]; decide)

theorem timeSetGoFx_refused {s : State} (h : isPtp s.active = true) : timeSetGoFx s = s.wr R.CLK.TIME_SET_REFUSED 1 := if_pos h

theorem ppsLoadFx_accepted {s : State} (h : isPtp s.active = false) :
    ppsLoadFx s = ({ s with clk := { s.clk with ppsArm := true, step := none } } : State).wr R.CLK.TIME_SET_REFUSED 0 :=
  if_neg (by rw [h]; decide)

theorem ppsLoadFx_refused {s : State} (h : isPtp s.active = true) : ppsLoadFx s = s.wr R.CLK.TIME_SET_REFUSED 1 := if_pos h

/-- The refusal of a request shows, and changes nothing else. -/
theorem refused_shows (s : State) : (s.wr R.CLK.TIME_SET_REFUSED 1).rd R.CLK.TIME_SET_REFUSED = 1 ∧
    WordsKept s (s.wr R.CLK.TIME_SET_REFUSED 1) [R.CLK.TIME_SET_REFUSED.key] :=
  ⟨rd_wr_own s 1 (by decide), wordsKept_wr s (by decide) 1⟩

/-- What a PPS edge shows. -/
def ppsShown (s : State) : State := (s.wrI R.REF.PPS_OFFSET (nsOf (secondOffset s.base))).wr R.REF.PPS_PRESENT 1

theorem ppsShown_shows (s : State) : (ppsShown s).rd R.REF.PPS_PRESENT = 1 ∧
    (ppsShown s).rd R.REF.PPS_OFFSET = unsignedOf R.REF.PPS_OFFSET.w (nsOf (secondOffset s.base)) ∧
    WordsKept s (ppsShown s) [R.REF.PPS_PRESENT.key, R.REF.PPS_OFFSET.key] ∧ OnlyRegs s (ppsShown s) := by
  refine ⟨rd_wr_own _ 1 (by decide), ?_, ?_, onlyRegs_trans (onlyRegs_wr s _ _) (onlyRegs_wr _ _ _)⟩
  · refine (rd_wr_sep _ 1 (by decide)).trans ((rd_wr_own s _ (by decide)).trans (Nat.mod_eq_of_lt ?_))
    unfold unsignedOf
    have := Int.emod_lt_of_pos (nsOf (secondOffset s.base)) (show (0 : Int) < (2 ^ R.REF.PPS_OFFSET.w : Nat) by decide)
    have := Int.emod_nonneg (nsOf (secondOffset s.base)) (show ((2 ^ R.REF.PPS_OFFSET.w : Nat) : Int) ≠ 0 by decide)
    omega
  · refine wordsKept_trans (wordsKept_mono (wordsKept_wr s (by decide) _) ?_) (wordsKept_mono (wordsKept_wr _ (by decide) 1) ?_)
    · simp
    · simp

theorem ppsEdgeFx_eq (s : State) :
    ppsEdgeFx s = (ppsShown s).cond s.clk.ppsArm (fun s => s.requestBase (s.rd R.CLK.TIME_SET_SEC * sec1)) := rfl

/-- Settles O34. -/
theorem theTimeBaseIsSet : Obligations.TheTimeBaseIsSet := by
  unfold Obligations.TheTimeBaseIsSet
  refine ⟨fun t0 s hs hp ht => ⟨_, rfl, ?untimed⟩, fun t0 s hs hp ht => ⟨_, rfl, ?ticking⟩,
    fun t0 s hs hp => ⟨⟨_, rfl, ?refused⟩, ⟨_, rfl, ?notArmed⟩⟩, fun s hs hp => ⟨_, rfl, ?arm⟩, fun t0 s hs he ha => ⟨_, rfl, ?edge⟩,
    fun t0 s hs he ha ht => ⟨_, rfl, ?armed⟩, fun t0 s hs hp => ⟨_, rfl, ?lost⟩⟩
  case untimed =>
    rw [cond_of hs, timeSetGoFx_accepted (s := s.atTime t0) hp]
    obtain ⟨hst, htb, hpend, hrd⟩ := requestBase_untimed (s := (s.atTime t0).wr R.CLK.TIME_SET_REFUSED 0) ht (setTime (s.atTime t0))
    exact ⟨hrd.trans (rd_wr_own _ 0 (by decide)), hpend, hst, htb⟩
  case ticking =>
    rw [cond_of hs, timeSetGoFx_accepted (s := s.atTime t0) hp]
    refine (requestBase_ticking (s := (s.atTime t0).wr R.CLK.TIME_SET_REFUSED 0) ht (setTime (s.atTime t0))).1.trans ?_
    have hfirst := firstTick_congr (s := s.atTime t0) (t := (s.atTime t0).wr R.CLK.TIME_SET_REFUSED 0) rfl rfl rfl
      (by simp only [tickFields, List.forall_mem_cons]; 
          exact ⟨rd_wr_sep _ 0 (by decide), rd_wr_sep _ 0 (by decide), rd_wr_sep _ 0 (by decide), rd_wr_sep _ 0 (by decide),
            rd_wr_sep _ 0 (by decide), rd_wr_sep _ 0 (by decide), nofun⟩) (max s.time t0)
    exact congrArg (fun e => ({ s.clk with ppsArm := false, step := some (e, nsOf ((setTime (s.atTime t0) : Int) - (s.atTime t0).base)) } : ClkSt)) hfirst
  case refused =>
    rw [cond_of hs, timeSetGoFx_refused (s := s.atTime t0) hp]
    exact ⟨onlyRegs_wr (s.atTime t0) _ _, refused_shows (s.atTime t0)⟩
  case notArmed =>
    rw [cond_of hs, ppsLoadFx_refused (s := s.start) hp]
    exact ⟨onlyRegs_wr s.start _ _, refused_shows s.start⟩
  case arm =>
    rw [cond_of hs, ppsLoadFx_accepted (s := s.start) hp]
    exact ⟨rfl, rd_wr_own _ 0 (by decide)⟩
  case edge =>
    rw [cond_of (by rw [Bool.and_eq_true]; exact ⟨hs, he⟩), ppsEdgeFx_eq, cond_of_not (b := (s.atTime t0).clk.ppsArm) ha]
    obtain ⟨hpr, hoff, hw, ho⟩ := ppsShown_shows (s.atTime t0)
    exact ⟨ho, hpr, hoff, hw⟩
  case armed =>
    obtain ⟨hpr, hoff, hw, ho⟩ := ppsShown_shows (s.atTime t0)
    have hfrm : (ppsShown (s.atTime t0)).frm = s.frm := (wr_frm _ _ _).trans (wr_frm _ _ _)
    rw [cond_of (by rw [Bool.and_eq_true]; exact ⟨hs, he⟩), ppsEdgeFx_eq, cond_of (b := (s.atTime t0).clk.ppsArm) ha]
    obtain ⟨hreq, hkept⟩ := requestBase_ticking ((congrArg FrmSt.ticked hfrm).trans ht) ((ppsShown (s.atTime t0)).rd R.CLK.TIME_SET_SEC * sec1)
    have hrd (f : Fld) (h1 : f.key ∉ [R.REF.PPS_PRESENT.key, R.REF.PPS_OFFSET.key])
        (h2 : f.key + 4 ∉ [R.REF.PPS_PRESENT.key, R.REF.PPS_OFFSET.key]) :
        (ppsShown (s.atTime t0)).rd f = s.rd f := Commits.rd_of_wordsKept hw h1 (fun _ => h2)
    have hfirst := firstTick_congr (s := s.atTime t0) (t := ppsShown (s.atTime t0)) ((wr_cmt _ _ _).trans (wr_cmt _ _ _)) hfrm ((wr_role _ _ _).trans (wr_role _ _ _))
      (by simp only [tickFields, List.forall_mem_cons]; 
          exact ⟨hrd _ (by decide) (by decide), hrd _ (by decide) (by decide), hrd _ (by decide) (by decide), hrd _ (by decide) (by decide),
            hrd _ (by decide) (by decide), hrd _ (by decide) (by decide), nofun⟩) (max s.time t0)
    refine ⟨(hkept _).trans hpr, (hkept _).trans hoff, hreq.trans ?_⟩
    have hclk : (ppsShown (s.atTime t0)).clk = s.clk := (wr_clk _ _ _).trans (wr_clk _ _ _)
    have htime : (ppsShown (s.atTime t0)).time = max s.time t0 := (wr_time _ _ _).trans (wr_time _ _ _)
    have hbase : (ppsShown (s.atTime t0)).base = (s.atTime t0).base := by
      unfold State.base State.baseAt
      rw [hclk, htime]
      rfl
    rw [hclk, hbase, htime, hfirst, hrd R.CLK.TIME_SET_SEC (by decide) (by decide)]
  case lost =>
    rw [cond_of (by rw [Bool.and_eq_true]; exact ⟨hs, hp⟩)]
    refine ⟨onlyRegs_trans (onlyRegs_wr (s.atTime t0) _ _) (onlyRegs_trans (onlyRegs_inc _ _) (onlyRegs_raise _ _)), ?_, ?_, pending_raise _ (by decide)⟩
    · exact (rd_raise_sep _ (by decide)).trans ((rd_wr_sep _ _ (by decide)).trans (rd_wr_own _ 0 (by decide)))
    · exact (rd_raise_sep _ (by decide)).trans ((rd_incBy_same _ rfl rfl 1).trans (by rw [rd_wr_sep _ _ (by decide)]; rfl))

end Sys2Proof.Proofs.TimeBase

/-!
Frames of the coil ports (10 R250, R263 to R269, R278, R279): which fields and records sending and relinquishing write.
-/

namespace Sys2Proof.Proofs.CoilFrames
open Sys2Proof.Machine Sys2Proof.Laws Sys2Proof.Proofs.Frames Sys2Proof.Proofs.FieldRules Sys2Proof.Proofs.Framing

/-- A relation that the records of the coil ports and the outputs may change under. -/
def CoilFree (Rel : State → State → Prop) : Prop := ∀ (s : State) (c : List (Nat × CoilSt)) (o : List Output), Rel s { s with coil := c, out := o }

/-- A relation that the record of the redundancy may change under. -/
def RedFree (Rel : State → State → Prop) : Prop := ∀ (s : State) (r : RedSt), Rel s { s with red := r }

/-- The fields that show that a port asks its partner to pause. -/
def xoffFields (p : Nat) : List Fld := [R.COIL.XOFF_TX p, R.COIL.CNT_XOFF p]

/-- The fields that show that a sender has relinquished. -/
def relinquishFields : List Fld := [R.RED.CNT_RELINQUISH, R.RED.RELINQUISHED, R.RED.GROUNDS, R.RED.RELINQUISH_EPOCH]

section
variable {Rel : State → State → Prop} {W : Fld → Bool} {E : Nat → Bool} (h : Frame Rel W E) (hcoil : CoilFree Rel)
include h hcoil

omit h in
theorem frame_modCoil (s : State) (p : Nat) (f : CoilSt → CoilSt) : Rel s (s.modCoil p f) := hcoil s _ s.out

omit h in
theorem frame_emit (s : State) (o : Output) : Rel s (s.emit o) := hcoil s s.coil _

theorem frame_depart (s : State) (o : Output) : Rel s (s.depart o) := by
  unfold State.depart
  simp only
  split
  · exact h.trans (hcoil s s.coil _) (frame_modCoil hcoil _ _ _)
  · exact hcoil s s.coil _

omit hcoil in
theorem frame_xoffCheck {p : Nat} (hX : ∀ f ∈ xoffFields p, W f = true) (s : State) : Rel s (s.xoffCheck p) := by
  unfold State.xoffCheck
  exact h.cond fun _ => h.trans (h.wr _ _ (hX _ (by simp [xoffFields]))) (h.inc _ (hX _ (by simp [xoffFields])))

/-- Sending a packet: the port that it came in on may show that its ingress buffer fills. -/
theorem frame_send {arrival : Option Nat} (hX : ∀ a, arrival = some a → ∀ f ∈ xoffFields a, W f = true) (s : State) (o : Output) :
    Rel s (s.send arrival o) := by
  unfold State.send
  split
  · exact frame_emit hcoil s o
  · refine h.ite (fun _ => ?_) fun _ => frame_depart h hcoil s o
    cases arrival with
    | none => exact frame_modCoil hcoil _ _ _
    | some a => exact h.trans (frame_modCoil hcoil _ _ _) (frame_xoffCheck h (hX a rfl) _)

/-- Sending a packet of the device's own. -/
theorem frame_sendOwn (s : State) (o : Output) : Rel s (s.send none o) := frame_send (arrival := none) h hcoil (fun _ ha => nomatch ha) s o

omit h in
theorem frame_dropHeld (s : State) (p : Nat) (types : Nat → Bool) : Rel s (s.dropHeld p types) := frame_modCoil hcoil s p _

theorem frame_stopTraffic (s : State) : Rel s s.stopTraffic := h.each fun t _ _ => frame_dropHeld hcoil t _ _

theorem frame_sendRelinquish (s : State) (copy : Nat) : Rel s (s.sendRelinquish copy) :=
  h.each fun _ _ _ => h.cond fun _ => frame_sendOwn h hcoil _ _

/-- A ground that is met. -/
theorem frame_ground (hred : RedFree Rel) (hW : ∀ f ∈ relinquishFields, W f = true) (hE : E 0x090 = true) (s : State) (g : Nat) :
    Rel s (s.ground g) := by
  unfold State.ground
  refine h.ite (fun _ => h.refl s) fun _ => h.ite (fun _ => h.refl s) fun _ => ?_
  refine h.trans (h.inc s (hW _ (by decide))) (h.ite (fun _ => h.refl _) fun _ => ?_)
  refine h.trans ?_ (frame_sendRelinquish h hcoil _ _)
  refine h.trans ?_ (frame_stopTraffic h hcoil _)
  refine h.trans ?_ (hred _ _)
  refine h.trans ?_ (h.raise _ hE (by decide))
  exact h.trans (h.trans (h.wr _ _ (hW _ (by decide))) (h.wr _ _ (hW _ (by decide)))) (h.wr _ _ (hW _ (by decide)))

end

end Sys2Proof.Proofs.CoilFrames

/-!
THEOREMS. Reference sources (04 R89 to R99, R115): edges, qualification, loss, and the expiry of holdover. Settles O35.
-/

namespace Sys2Proof.Proofs.Sources
open Sys2Proof.Machine Sys2Proof.Laws Sys2Proof.Proofs.Frames Sys2Proof.Proofs.FieldRules Sys2Proof.Proofs.Framing Sys2Proof.Proofs.ClockFrames Sys2Proof.Proofs.CoilFrames

theorem src_modSrc (s : State) (c : Nat) (f : SrcSt → SrcSt) : (s.modSrc c f).src c = f (s.src c) := smGet_set_same _ _ _ _

/-- A part of the state that depends on no register and no event, and on neither clock. -/
def NoClock {β : Type} (F : State → β) : Prop :=
  ∀ (s : State) (r : List (Nat × Word32)) (e : EvtSt) (c : ClkSt) (f : FrmSt), F { s with regs := r, evt := e, clk := c, frm := f } = F s

section
variable {β : Type} {F : State → β} (hF : NoClock F) (fs : List Fld)
include hF

theorem NoClock.frame : Frame (Stays F fs) (apartFrom fs) (quietFor fs) := staysFrame (fun s r e => hF s r e s.clk s.frm) fs

theorem NoClock.usableFree : UsableFree (Stays F fs) := fun s c f _ => .other (hF s s.regs s.evt c f) rfl

theorem NoClock.modSrc (s : State) (c : Nat) (f : SrcSt → SrcSt) : Stays F fs s (s.modSrc c f) := .other (hF s s.regs s.evt _ s.frm) rfl

end

/-! An edge of a REF input. -/

/-- The role and the MRAM. -/
def roleMram (s : State) : Role × MramSt := (s.role, s.mram)

theorem roleMram_noClock : NoClock roleMram := fun _ _ _ _ _ => rfl

/-- The intervals that REF shows. -/
def intervals : List Fld := [R.REF.REFA_INTERVAL, R.REF.REFB_INTERVAL]

/-- From one state to another the role, the MRAM and the shown intervals stay. -/
abbrev EdgeStays : State → State → Prop := Stays roleMram intervals

theorem edgeFrame : Frame EdgeStays (apartFrom intervals) (quietFor intervals) := roleMram_noClock.frame intervals

theorem edgeFree : UsableFree EdgeStays := roleMram_noClock.usableFree intervals

theorem edge_modSrc (s : State) (c : Nat) (f : SrcSt → SrcSt) : EdgeStays s (s.modSrc c f) := roleMram_noClock.modSrc intervals s c f

/-- An input's divider, as an edge may change it, is no interval. -/
theorem refOff_stays {i : Nat} (hi : i < 2) (s : State) (iv : Nat) : EdgeStays s (s.refOff i iv) := by
  have h := edgeFrame
  have hlose (t : State) : EdgeStays t (t.loseSource (3 + i)) := by
    refine frame_loseSource h edgeFree.lockFree (fun s f => edge_modSrc s _ f) (by decide) ?_ (by decide) (by decide) t
    interval_cases i <;> decide
  have hrate (t : State) : EdgeStays t t.rateLevel := by
    unfold State.rateLevel
    exact h.trans (h.trans (h.level _ _ (by decide) (by decide)) (h.level _ _ (by decide) (by decide))) (h.level _ _ (by decide) (by decide))
  have hbad (t : State) : EdgeStays t (((t.modSrc (3 + i) (fun x => { x with bad := true })).loseSource (3 + i)).rateLevel) :=
    h.trans (h.trans (edge_modSrc _ _ _) (hlose _)) (hrate _)
  have hdiv : apartFrom intervals (refPick i R.REF.REFA_DIV_EFF R.REF.REFB_DIV_EFF) = true := by interval_cases i <;> decide
  have hfollow (t : State) (o : Option Nat) : EdgeStays t (match o with
      | some j =>
        if t.flag R.CLK.AUTO_FOLLOW then
          ((t.wr (refPick i R.REF.REFA_DIV_EFF R.REF.REFB_DIV_EFF) (j - 1)).raise R.CLK.ev_DIV_FOLLOW).modSrc (3 + i)
            (fun x => { x with mism := 0, follow := none })
        else ((t.modSrc (3 + i) (fun x => { x with bad := true })).loseSource (3 + i)).rateLevel
      | none => ((t.modSrc (3 + i) (fun x => { x with bad := true })).loseSource (3 + i)).rateLevel) := by
    cases o with
    | none => exact hbad t
    | some j =>
      refine h.ite (fun _ => ?_) fun _ => hbad t
      exact h.trans (h.trans (h.wr _ _ hdiv) (h.raise _ (by decide) (by decide))) (edge_modSrc _ _ _)
  unfold State.refOff
  refine h.trans ?_ (h.ite (fun _ => h.refl _) fun _ => hfollow _ _)
  exact edge_modSrc s _ _

/-- A source of a REF input is measured. -/
theorem edge_measure {i : Nat} (hi : i < 2) (s : State) (err x : Int) (off : Bool) : EdgeStays s (s.measure (3 + i) err x off) := by
  refine frame_measure edgeFrame edgeFree (by decide) (by decide) (by decide) ?_ (by decide) ?_ (by omega) ?_ (by decide) (by decide) s err x off
  · interval_cases i <;> decide
  · interval_cases i <;> decide
  · interval_cases i <;> decide

/-- An edge after the first one: what it first shows, then what follows from it, which leaves the intervals alone. -/
theorem refEdgeFx_later {i l : Nat} (hi : i < 2) {s : State} (hl : (s.src (3 + i)).last = some l) :
    EdgeStays ((s.modSrc (3 + i) (fun x => { x with last := some (s.time / ns1 * ns1) })).wr (refPick i R.REF.REFA_INTERVAL R.REF.REFB_INTERVAL)
      ((s.time / ns1 * ns1 - l) / ns1)) (refEdgeFx i s) := by
  have h := edgeFrame
  have hpr : apartFrom intervals (refPick i R.REF.REFA_PRESENT R.REF.REFB_PRESENT) = true := by interval_cases i <;> decide
  have herr : apartFrom intervals (refPick i R.REF.REFA_ERR R.REF.REFB_ERR) = true := by interval_cases i <;> decide
  have hS : ∀ f ∈ ClockFrames.sourceFields (3 + i), apartFrom intervals f = true := by interval_cases i <;> decide
  have huse (t : State) : EdgeStays t (t.usableNow (3 + i)) :=
    frame_usableNow h edgeFree.lockFree (fun s f => edge_modSrc s _ f) (by decide) hS t
  unfold refEdgeFx
  simp only [hl]
  refine h.trans ?_ (h.ite (fun _ => h.refl _) fun _ => ?_)
  · refine h.trans ?_ (h.ite (fun _ => edge_modSrc _ _ _) fun _ => refOff_stays hi _ _)
    exact h.cond fun _ => h.wr _ _ hpr
  · refine h.trans ?_ (h.cond fun _ => edge_measure hi _ _ _ _)
    refine h.trans ?_ (h.ite (fun _ => huse _) fun _ => edge_modSrc _ _ _)
    exact h.trans (edge_modSrc _ _ _) (h.wrI _ _ herr)

/-! The loss of a source. -/

/-- A source that is lost: unusable, unqualified, its offset not measured. -/
def lostShown (c : Nat) (s : State) : State :=
  (((s.modSrc c (fun x => { x with usable := false, since := none, run := 0, qualified := false })).showQualified c).wr
    (R.CLK.SRC_OFFSET (c - 1)) 0x7FFFFFFF).cond (s.src c).usable (fun s => s.raise R.CLK.ev_SRC_LOST)

theorem loseSource_eq (s : State) (c : Nat) : s.loseSource c =
    if (lostShown c s).active = c then ((lostShown c s).setActive 0).seekSource
    else if (lostShown c s).clk.next = some c then (lostShown c s).seekSource else lostShown c s := rfl

/-- What follows the loss of a source, for a relation that the lock may change under. -/
theorem frame_afterLoss {Rel : State → State → Prop} {W : Fld → Bool} {E : Nat → Bool} (h : Frame Rel W E) (hclk : LockFree Rel)
    (hW : ∀ f ∈ lockFields, W f = true) (hA : ∀ f ∈ activeFields, W f = true) (hE : E 0x004 = true) (s : State) (c : Nat) :
    Rel (lostShown c s) (s.loseSource c) := by
  have hseek := frame_seekSource h hclk hW hE
  rw [loseSource_eq]
  exact h.ite (fun _ => h.trans (frame_setActive h hA _ _) (hseek _)) fun _ => h.ite (fun _ => hseek _) fun _ => h.refl _

/-- What shows that a source is lost, for a relation that the sources may change under. -/
theorem frame_lostShown {Rel : State → State → Prop} {W : Fld → Bool} {E : Nat → Bool} (h : Frame Rel W E) {c : Nat}
    (hsrc : ∀ (s : State) (f : SrcSt → SrcSt), Rel s (s.modSrc c f)) (hS : ∀ f ∈ ClockFrames.sourceFields c, W f = true) (hE : E 0x004 = true)
    (s : State) : Rel s (lostShown c s) := by
  unfold lostShown
  refine h.trans ?_ (h.cond fun _ => h.raise _ hE (by decide))
  exact h.trans (h.trans (hsrc s _) (frame_showQualified h hS _)) (h.wr _ _ (hS _ (by simp [ClockFrames.sourceFields])))

theorem lostShown_clk (c : Nat) (s : State) : (lostShown c s).clk =
    (s.modSrc c (fun x => { x with usable := false, since := none, run := 0, qualified := false })).clk := by
  have h := partFrame (F := State.clk) fun _ _ _ => rfl
  unfold lostShown
  refine h.trans ?_ (h.cond fun _ => h.raise (e := R.CLK.ev_SRC_LOST) _ rfl (by decide))
  exact h.trans (frame_showQualified h (fun _ _ => rfl) _) (h.wr _ _ rfl)

/-- A lost source is neither usable nor qualified. -/
theorem loseSource_src (s : State) (c : Nat) : ((s.loseSource c).src c).usable = false ∧ ((s.loseSource c).src c).qualified = false := by
  have hsrc : (s.loseSource c).clk.src = (lostShown c s).clk.src :=
    frame_afterLoss (partFrame (F := fun s => s.clk.src) fun _ _ _ => rfl) (fun _ _ h _ _ => h) (fun _ _ => rfl) (fun _ _ => rfl) rfl s c
  have hsame : (s.loseSource c).src c = { s.src c with usable := false, since := none, run := 0, qualified := false } := by
    unfold State.src
    rw [hsrc, lostShown_clk]
    exact src_modSrc s c _
  rw [hsame]
  exact ⟨rfl, rfl⟩

/-- The offset of a lost source reads as not measured. -/
theorem loseSource_offset {i : Nat} (hi : i < 2) (s : State) : (s.loseSource (3 + i)).rd (R.CLK.SRC_OFFSET (2 + i)) = 0x7FFFFFFF := by
  have hfield : (lostShown (3 + i) s).rd (R.CLK.SRC_OFFSET (2 + i)) = 0x7FFFFFFF := by
    have hc : 3 + i - 1 = 2 + i := by omega
    have h := staysFrame (F := fun _ => ()) (fun _ _ _ => rfl) [R.CLK.SRC_OFFSET (2 + i)]
    unfold lostShown
    rw [hc]
    refine ((h.cond fun _ => h.raise _ ?_ (by decide) : Stays _ _ _ (State.cond _ _ _)).rd _ List.mem_cons_self).trans (rd_wr_own _ _ ?_)
    · interval_cases i <;> decide
    · interval_cases i <;> decide
  refine ((frame_afterLoss (staysFrame (F := fun _ => ()) (fun _ _ _ => rfl) [R.CLK.SRC_OFFSET (2 + i)]) (fun _ _ _ _ _ => .other rfl rfl)
    ?_ ?_ ?_ s (3 + i)).rd _ List.mem_cons_self).trans hfield
  · interval_cases i <;> decide
  · interval_cases i <;> decide
  · interval_cases i <;> decide

/-- The loss of a source that is neither active nor chosen leaves the active source and the lock alone. -/
theorem loseSource_other {i : Nat} (hi : i < 2) {s : State} (ha : s.active ≠ 3 + i) (hn : s.clk.next ≠ some (3 + i)) :
    (s.loseSource (3 + i)).active = s.active ∧ (s.loseSource (3 + i)).lockState = s.lockState := by
  have hst : Stays (fun _ => ()) [R.CLK.ACTIVE_SRC, R.CLK.LOCK_STATE] s (lostShown (3 + i) s) :=
    frame_lostShown (staysFrame (fun _ _ _ => rfl) _) (fun _ _ => .other rfl rfl) (by interval_cases i <;> decide) (by decide) s
  have hact : (lostShown (3 + i) s).active = s.active := hst.rd _ (by decide)
  have hnext : (lostShown (3 + i) s).clk.next = s.clk.next := by rw [lostShown_clk]; rfl
  rw [loseSource_eq, if_neg (hact ▸ ha), if_neg (hnext ▸ hn)]
  exact ⟨hact, hst.rd R.CLK.LOCK_STATE (by decide)⟩

/-- An input shows absent, its loss is counted and announced, and its source is lost. -/
def inputLost (c : Nat) (present count : Fld) (ev : Evt) (s : State) : State :=
  (((s.wr present 0).incRaise count ev).modSrc c (fun x => { x with last := none, mism := 0, follow := none })).loseSource c

/-- The fields of an input's loss stand apart from each other and from those that the loss of a source writes. -/
structure LossApart (c : Nat) (present count : Fld) (ev : Evt) : Prop where
  lock : ∀ f ∈ lockFields, apartFrom [present, count] f = true
  active : ∀ f ∈ activeFields, apartFrom [present, count] f = true
  source : ∀ f ∈ ClockFrames.sourceFields c, apartFrom [present, count] f = true
  quiet : quietFor [present, count] 0x004 = true
  sep : sep present count = true ∧ FieldRules.sep count present = true
  whole : FieldRules.fits present = true ∧ count.w = 32 ∧ count.lo = 0
  event : ev.bit < 32 ∧ offKey present (evtPendKey ev.page) = true ∧ offKey count (evtPendKey ev.page) = true

/-- What a loss shows once it is counted, it still shows when the source is lost. -/
theorem inputLost_stays {c : Nat} {present count : Fld} {ev : Evt} (h : LossApart c present count ev) (s : State) :
    Stays (fun _ => ()) [present, count] ((s.wr present 0).incRaise count ev) (inputLost c present count ev s) := by
  have hF := staysFrame (F := fun _ => ()) (fun _ _ _ => rfl) [present, count]
  have hlose := frame_loseSource hF (fun _ _ _ _ _ => .other rfl rfl) (fun _ _ => .other rfl rfl) h.quiet h.source h.lock h.active
  unfold inputLost
  refine hF.trans ?_ (hlose _)
  exact .other rfl rfl

theorem inputLost_shows {c : Nat} {present count : Fld} {ev : Evt} (h : LossApart c present count ev) (s : State) :
    (inputLost c present count ev s).rd present = 0 ∧ Counted s (inputLost c present count ev s) count ∧
    Pending (inputLost c present count ev s) ev := by
  have hst := inputLost_stays h s
  obtain ⟨hfit, hw, hlo⟩ := h.whole
  obtain ⟨hb, hop, hoc⟩ := h.event
  refine ⟨(hst.rd _ (by simp)).trans ?_, (hst.rd _ (by simp)).trans ?_, hst.pend _ (pending_raise _ hb)⟩
  · exact (rd_raise_sep _ hop).trans ((rd_wr_sep _ _ h.sep.1).trans ((rd_wr_own s 0 hfit).trans (Nat.zero_mod _)))
  · exact (rd_raise_sep _ hoc).trans ((rd_incBy_same _ hw hlo 1).trans (congrArg (fun n => min (n + 1) 0xFFFFFFFF) (rd_wr_sep s 0 h.sep.2)))

theorem refLossFx_eq (i : Nat) (s : State) : refLossFx i s = inputLost (3 + i) (refPick i R.REF.REFA_PRESENT R.REF.REFB_PRESENT)
    (refPick i R.REF.CNT_REFA_LOST R.REF.CNT_REFB_LOST) (refPick i R.REF.ev_REFA_LOST R.REF.ev_REFB_LOST) s := rfl

/-- The loss of a REF input. -/
theorem refLossFx_shows {i : Nat} (hi : i < 2) (s : State) :
    (refLossFx i s).rd (refPick i R.REF.REFA_PRESENT R.REF.REFB_PRESENT) = 0 ∧
    Counted s (refLossFx i s) (refPick i R.REF.CNT_REFA_LOST R.REF.CNT_REFB_LOST) ∧
    Pending (refLossFx i s) (refPick i R.REF.ev_REFA_LOST R.REF.ev_REFB_LOST) := by
  rw [refLossFx_eq]
  refine inputLost_shows ?_ s
  interval_cases i <;> exact ⟨by decide, by decide, by decide, by decide, by decide, by decide, by decide⟩

/-- The loss of an input whose source is neither active nor chosen leaves the active source and the lock alone. -/
theorem refLossFx_other {i : Nat} (hi : i < 2) {s : State} (ha : s.active ≠ 3 + i) (hn : s.clk.next ≠ some (3 + i)) :
    (refLossFx i s).active = s.active ∧ (refLossFx i s).lockState = s.lockState := by
  have hF := staysFrame (F := fun s => s.clk.next) (fun _ _ _ => rfl) [R.CLK.ACTIVE_SRC, R.CLK.LOCK_STATE]
  obtain ⟨hnext, hrd, -⟩ : Stays (fun s => s.clk.next) [R.CLK.ACTIVE_SRC, R.CLK.LOCK_STATE] s
      (((s.wr (refPick i R.REF.REFA_PRESENT R.REF.REFB_PRESENT) 0).incRaise (refPick i R.REF.CNT_REFA_LOST R.REF.CNT_REFB_LOST)
        (refPick i R.REF.ev_REFA_LOST R.REF.ev_REFB_LOST)).modSrc (3 + i) (fun x => { x with last := none, mism := 0, follow := none })) := by
    refine hF.trans (hF.trans (hF.wr s 0 ?_) (hF.incRaise _ ?_ ?_ ?_)) (.other rfl rfl)
    all_goals interval_cases i <;> decide
  have hact := hrd R.CLK.ACTIVE_SRC (by decide)
  obtain ⟨h1, h2⟩ := loseSource_other hi (fun h => ha (hact.symm.trans h)) (fun h => hn (hnext.symm.trans h))
  exact ⟨h1.trans hact, h2.trans (hrd R.CLK.LOCK_STATE (by decide))⟩

/-- A source that qualifies on a ticking sender. -/
theorem qualify_shows {c : Nat} (hc1 : 1 ≤ c) (hc4 : c ≤ 4) {s : State} (hq : (s.src c).qualified = false) :
    ((s.qualify c).src c).qualified = true ∧ ((s.qualify c).rd R.CLK.QUALIFIED).testBit (c - 1) = true ∧
    Pending (s.qualify c) R.CLK.ev_SRC_QUALIFIED ∧ (s.qualify c).active = s.active ∧ (s.qualify c).lockState = s.lockState := by
  have hc : c - 1 < 4 := by omega
  have hF := staysFrame (F := fun _ => ()) (fun _ _ _ => rfl) [R.CLK.ACTIVE_SRC, R.CLK.LOCK_STATE]
  have hS : ∀ f ∈ ClockFrames.sourceFields c, apartFrom [R.CLK.ACTIVE_SRC, R.CLK.LOCK_STATE] f = true := by interval_cases c <;> decide
  have hst : Stays (fun _ => ()) [R.CLK.ACTIVE_SRC, R.CLK.LOCK_STATE] s (s.qualify c) :=
    frame_qualify hF (fun _ _ _ _ _ => .other rfl rfl) (fun _ _ => .other rfl rfl) (by decide) hS s
  -- The state in which the source shows as qualified; what follows only chooses the source to take.
  let m : State := s.modSrc c (fun x => { x with qualified := true, qualAt := some s.time })
  have hm : ((m.showQualified c).src c).qualified = true ∧ ((m.showQualified c).rd R.CLK.QUALIFIED).testBit (c - 1) = true := by
    have hsrc : (m.src c).qualified = true := by rw [src_modSrc]
    have hclk : (m.showQualified c).clk = m.clk := frame_showQualified (partFrame (F := State.clk) fun _ _ _ => rfl) (fun _ _ => rfl) m
    refine ⟨by unfold State.src; rw [hclk]; exact hsrc, ?_⟩
    have hrd : (m.showQualified c).rd R.CLK.QUALIFIED = (m.wr R.CLK.QUALIFIED (withBit (m.rd R.CLK.QUALIFIED) (c - 1) true)).rd R.CLK.QUALIFIED := by
      unfold State.showQualified
      rw [hsrc]
      unfold State.cond
      split
      · exact rd_wr_sep _ _ (by interval_cases c <;> decide)
      · rfl
    rw [hrd, rd_wr_own _ _ (by decide), Nat.testBit_mod_two_pow, Resets.testBit_withBit_true, decide_eq_true (show c - 1 < R.CLK.QUALIFIED.w from hc)]
    simp
  let q : State := (m.showQualified c).raise R.CLK.ev_SRC_QUALIFIED
  have hfx : ∃ n, s.qualify c = { q with clk := { q.clk with next := n } } := by
    have hq' : ∀ b, ∃ n, q.cond b (fun s => { s with clk := { s.clk with next := some c } }) = { q with clk := { q.clk with next := n } } := by
      rintro (_ | _)
      · exact ⟨q.clk.next, rfl⟩
      · exact ⟨some c, rfl⟩
    unfold State.qualify
    rw [if_neg (by rw [hq]; decide)]
    exact hq' _
  obtain ⟨n, hfx⟩ := hfx
  refine ⟨?_, ?_, ?_, hst.rd R.CLK.ACTIVE_SRC (by decide), hst.rd R.CLK.LOCK_STATE (by decide)⟩
  · have hclk : q.clk = (m.showQualified c).clk := raise_clk _ _
    rw [hfx]
    show (smGet srcDefault q.clk.src c).qualified = true
    rw [hclk]
    exact hm.1
  · rw [hfx]
    exact (congrArg (fun v => v.testBit (c - 1)) (rd_raise_sep (e := R.CLK.ev_SRC_QUALIFIED) (m.showQualified c) (by decide))).trans hm.2
  · rw [hfx]
    exact pending_raise (e := R.CLK.ev_SRC_QUALIFIED) (m.showQualified c) (by decide)

/-- The lock state as it is written, and the level event that its expiry shows. -/
def lockShown : List Fld := [R.CLK.LOCK_STATE, ⟨0x004, 0x010, 6, 1⟩]

/-- Holdover that expires. -/
theorem setLock_expired {s : State} (h : s.lockState = lsHOLDOVER) :
    (s.setLock lsEXPIRED).lockState = lsEXPIRED ∧ (s.setLock lsEXPIRED).raw R.CLK.ev_HOLDOVER_EXPIRED = true := by
  have hfx : ∃ u : State, s.setLock lsEXPIRED = ((u.wr R.CLK.LOCK_STATE lsEXPIRED).raise R.CLK.ev_LOCK_CHANGE).level R.CLK.ev_HOLDOVER_EXPIRED true := by
    unfold State.setLock
    rw [if_neg (by rw [h, not_or]; exact ⟨by decide, fun hc => absurd hc.2 (by decide)⟩)]
    exact ⟨_, rfl⟩
  obtain ⟨u, hfx⟩ := hfx
  rw [hfx]
  refine ⟨?_, raw_level _ (by decide) true⟩
  exact (rd_level_sep _ (by decide) (by decide)).trans ((rd_raise_sep _ (by decide)).trans (rd_wr_own u _ (by decide)))

/-- A ground that is met keeps the role, the lock and what its expiry shows. -/
theorem ground_keepsLock (s : State) (g : Nat) : Stays State.role lockShown s (s.ground g) :=
  frame_ground (staysFrame (fun _ _ _ => rfl) _) (fun _ _ _ => .other rfl rfl) (fun _ _ => .other rfl rfl) (by decide) (by decide) s g

/-- Settles O35. -/
theorem sourcesQualifyAndAreLost : Obligations.SourcesQualifyAndAreLost := by
  unfold Obligations.SourcesQualifyAndAreLost
  refine ⟨fun i t0 s hs hi hen hl => ⟨_, rfl, ?first⟩, fun i t0 l s hs hi hen hl => ⟨_, rfl, ?later⟩, fun i t0 s hs hi hp => ⟨_, rfl, ?loss⟩,
    fun c t0 u s hs ht h1 h4 hu hsi hle hq => ⟨_, rfl, ?qual⟩, fun t0 s hr hl hle => ⟨_, rfl, ?expiry⟩⟩
  case first =>
    rw [cond_of (by rw [Bool.and_eq_true, Bool.and_eq_true]; exact ⟨⟨hs, decide_eq_true hi⟩, hen⟩)]
    have hfx : refEdgeFx i (s.atTime t0) = (s.atTime t0).modSrc (3 + i) (fun x => { x with last := some (max s.time t0 / ns1 * ns1) }) := by
      unfold refEdgeFx
      simp only [show ((s.atTime t0).src (3 + i)).last = none from hl]
      rfl
    rw [hfx]
    exact ⟨rfl, congrArg SrcSt.last (src_modSrc _ _ _)⟩
  case later =>
    rw [cond_of (by rw [Bool.and_eq_true, Bool.and_eq_true]; exact ⟨⟨hs, decide_eq_true hi⟩, hen⟩)]
    obtain ⟨hpart, hrd, -⟩ := refEdgeFx_later hi (s := s.atTime t0) hl
    have hrm := hpart.trans (partFrame (F := roleMram) (fun _ _ _ => rfl) |>.wr _ _ rfl)
    refine ⟨(hrd _ ?_).trans ((rd_wr_own _ _ ?_).trans ?_), (congrArg Prod.fst hrm).trans (((isSender_iff s).mp hs).2), congrArg Prod.snd hrm⟩
    · interval_cases i <;> decide
    · interval_cases i <;> decide
    · interval_cases i <;> rfl
  case loss =>
    rw [cond_of (by rw [Bool.and_eq_true, Bool.and_eq_true]; exact ⟨⟨hs, decide_eq_true hi⟩, hp⟩)]
    obtain ⟨hpr, hcnt, hpend⟩ := refLossFx_shows hi (s.atTime t0)
    obtain ⟨hu, hq⟩ := loseSource_src ((((s.atTime t0).wr (refPick i R.REF.REFA_PRESENT R.REF.REFB_PRESENT) 0).incRaise
      (refPick i R.REF.CNT_REFA_LOST R.REF.CNT_REFB_LOST) (refPick i R.REF.ev_REFA_LOST R.REF.ev_REFB_LOST)).modSrc (3 + i)
      (fun x => { x with last := none, mism := 0, follow := none })) (3 + i)
    refine ⟨hpr, hcnt, hpend, hu, hq, loseSource_offset hi _, fun ha => ?_⟩
    by_cases hn : s.clk.next = some (3 + i)
    · exact .inr hn
    · obtain ⟨hact, hlock⟩ := refLossFx_other hi (s := s.atTime t0) ha hn
      exact .inl ⟨hact, hlock⟩
  case qual =>
    rw [cond_of]
    case h =>
      simp only [show ((s.atTime t0).src c).since = some u from hsi, Bool.and_eq_true, decide_eq_true_eq]
      exact ⟨⟨⟨⟨hs, ht⟩, hu⟩, hle⟩, h1, h4⟩
    exact qualify_shows h1 h4 (s := s.atTime t0) hq
  case expiry =>
    rw [cond_of (by simp only [Bool.and_eq_true, beq_iff_eq, decide_eq_true_eq]; exact ⟨⟨hr, hl⟩, hle⟩)]
    obtain ⟨hlock, hraw⟩ := setLock_expired (s := s.atTime t0) hl
    obtain ⟨hrole, hrd, -⟩ := ground_keepsLock ((s.atTime t0).setLock lsEXPIRED) 1
    refine ⟨(hrd R.CLK.LOCK_STATE (by decide)).trans hlock, ?_, hrole.trans ?_⟩
    · rw [raw_eq_rd] at hraw ⊢
      exact (congrArg (· != 0) (hrd ⟨0x004, 0x010, 6, 1⟩ (by decide))).trans hraw
    · exact frame_setLock (partFrame (F := State.role) fun _ _ _ => rfl) (fun _ _ _ _ _ => rfl) (fun _ _ => rfl) rfl (s.atTime t0) lsEXPIRED

end Sys2Proof.Proofs.Sources

/-!
THEOREMS. The loop engine (04 R101 to R103): the inner loop's slew, and the opening and closing of instances. Settles O36.
-/

namespace Sys2Proof.Proofs.LoopEngine
open Sys2Proof.Machine Sys2Proof.Laws Sys2Proof.Proofs.Frames Sys2Proof.Proofs.FieldRules Sys2Proof.Proofs.Framing Sys2Proof.Proofs.ClockFrames

theorem loop_setLoop (s : State) (n : Nat) (l : LoopSt) : (s.setLoop n l).loop n = l := smGet_set_same _ _ _ _

theorem loop_setLoop_ne (s : State) {n m : Nat} (h : m ≠ n) (l : LoopSt) : (s.setLoop n l).loop m = s.loop m := smGet_set_other _ _ _ h

/-- A signed 32-bit field reads back a value in range. -/
theorem rdI_wrI (s : State) {f : Fld} (hfit : FieldRules.fits f = true) (hw : f.w = 32) {v : Int} (hlo : -2147483648 ≤ v) (hhi : v < 2147483648) :
    (s.wrI f v).rdI f = v := by
  have hrd : (s.wrI f v).rd f = unsignedOf 32 v := by
    refine (rd_wr_own s _ hfit).trans ?_
    rw [hw]
    refine Nat.mod_eq_of_lt ?_
    unfold unsignedOf
    omega
  rw [State.rdI, hrd, hw]
  unfold signedOf unsignedOf
  simp only [Nat.reducePow, Nat.reduceSub]
  omega

/-- The limit of the inner loop, 32 ppm in 2^-16 ppb. -/
def innerLimit : Int := 32000 * 65536

/-- The output of instance 1 after a sample while it is closed. -/
def innerStep (u0 u : Int) : Int := clampInt (u + clampInt (u0 - u) (-65536) 65536) (-innerLimit) innerLimit

/-- Instance 1 after a sample. -/
def innerLoop (s : State) : LoopSt :=
  { s.loop 1 with u := if s.isOpen 1 then (s.loop 1).u else innerStep (s.loop 0).u (s.loop 1).u, x := (s.loop 0).u, e := (s.loop 0).u - (s.loop 1).u }

theorem loopInnerFx_eq (s : State) : loopInnerFx s =
    ((s.setLoop 1 (innerLoop s)).wrI R.CLK.FREQ ((s.setLoop 1 (innerLoop s)).loop 1).u).showLoop 1 (-innerLimit) innerLimit := rfl

/-- Showing an instance changes registers and events alone. -/
theorem showLoop_clk (s : State) (n : Nat) (lo hi : Int) (hn : n < 32) : (s.showLoop n lo hi).clk = s.clk :=
  frame_showLoop (partFrame (F := State.clk) fun _ _ _ => rfl) hn (fun _ _ => rfl) rfl s lo hi

theorem loopInnerFx_loop (s : State) (n : Nat) : (loopInnerFx s).loop n = if n = 1 then innerLoop s else s.loop n := by
  have hclk : (loopInnerFx s).clk = (s.setLoop 1 (innerLoop s)).clk := by
    rw [loopInnerFx_eq, showLoop_clk _ _ _ _ (by decide)]
    exact wr_clk _ _ _
  unfold State.loop at *
  rw [hclk]
  split
  · next h => rw [h]; exact loop_setLoop s 1 _
  · next h => exact loop_setLoop_ne s h _

theorem innerStep_slew {u0 u : Int} (hlo : -innerLimit ≤ u) (hhi : u ≤ innerLimit) :
    -65536 ≤ innerStep u0 u - u ∧ innerStep u0 u - u ≤ 65536 ∧ -innerLimit ≤ innerStep u0 u ∧ innerStep u0 u ≤ innerLimit := by
  unfold innerStep clampInt
  unfold innerLimit at *
  omega

theorem innerStep_near {u0 u : Int} (h1 : -65536 ≤ u0 - u) (h2 : u0 - u ≤ 65536) (h3 : -innerLimit ≤ u0) (h4 : u0 ≤ innerLimit) :
    innerStep u0 u = u0 := by
  unfold innerStep clampInt
  unfold innerLimit at *
  omega

/-- FREQ shows the output of instance 1. -/
theorem loopInnerFx_freq {s : State} (h1 : -innerLimit ≤ (innerLoop s).u) (h2 : (innerLoop s).u ≤ innerLimit) :
    (loopInnerFx s).rdI R.CLK.FREQ = (innerLoop s).u := by
  have hst := frame_showLoop (n := 1) (staysFrame (F := fun _ => ()) (fun _ _ _ => rfl) [R.CLK.FREQ]) (by decide) (by decide) (by decide)
    ((s.setLoop 1 (innerLoop s)).wrI R.CLK.FREQ (innerLoop s).u) (-innerLimit) innerLimit
  rw [loopInnerFx_eq, loop_setLoop, State.rdI, hst.rd _ List.mem_cons_self]
  unfold innerLimit at *
  exact rdI_wrI _ (by decide) rfl (by omega) (by omega)

/-- OUT1 shows the input of the open instance 1. -/
theorem loopInnerFx_out {s : State} (ho : s.isOpen 1 = true) (h1 : -2147483648 ≤ (s.loop 0).u) (h2 : (s.loop 0).u < 2147483648) :
    (loopInnerFx s).rdI (R.LOOP.OUT 1) = (s.loop 0).u := by
  let u : State := (s.setLoop 1 (innerLoop s)).wrI R.CLK.FREQ (innerLoop s).u
  have hopen : u.loopOut 1 = (s.loop 0).u := by
    have hou : u.isOpen 1 = true := by
      refine Eq.trans (congrArg (fun m => Nat.testBit m 1) ?_) ho
      exact rd_wr_sep _ _ (by decide)
    have hl : u.loop 1 = innerLoop s := by
      have : u.clk = (s.setLoop 1 (innerLoop s)).clk := wr_clk _ _ _
      unfold State.loop
      rw [this]
      exact loop_setLoop s 1 _
    rw [State.loopOut, if_pos hou, hl]
    rfl
  have hshow : (loopInnerFx s).rd (R.LOOP.OUT 1) = (u.wrI (R.LOOP.OUT 1) (u.loopOut 1)).rd (R.LOOP.OUT 1) := by
    rw [loopInnerFx_eq, loop_setLoop]
    refine (rd_level_sep _ (by decide) (by decide)).trans ?_
    exact (rd_wr_sep _ _ (by decide)).trans (rd_wr_sep _ _ (by decide))
  rw [State.rdI, hshow, hopen]
  exact rdI_wrI u (by decide) rfl h1 h2

/-! A write of LOOP.CTRL. -/

theorem testBit_withBit (n i j : Nat) (b : Bool) : (withBit n i b).testBit j = if j = i then b else n.testBit j := by
  cases b
  · unfold withBit
    split
    · next h => split <;> simp_all
    · next h =>
      have hbit : n.testBit i = true := by simpa using h
      have hsum : n = (n ^^^ 2 ^ i) + 2 ^ i := by
        have hclear : (n ^^^ 2 ^ i).testBit i = false := by simp [hbit]
        have h2 : withBit (n ^^^ 2 ^ i) i true = (n ^^^ 2 ^ i) + 2 ^ i := by simp [withBit, hclear]
        rw [← h2]
        refine Nat.eq_of_testBit_eq fun k => ?_
        rw [Resets.testBit_withBit_true, Nat.testBit_xor, Nat.testBit_two_pow]
        by_cases hk : k = i
        · simp [hk, hbit]
        · simp [hk, Ne.symm hk]
      have hsub : n - 2 ^ i = n ^^^ 2 ^ i := Nat.sub_eq_of_eq_add hsum
      rw [if_neg (by decide), hsub, Nat.testBit_xor, Nat.testBit_two_pow]
      by_cases hj : j = i
      · simp [hj, hbit]
      · simp [hj, Ne.symm hj]
  · rw [Resets.testBit_withBit_true]
    by_cases hj : j = i <;> simp [hj]

/-- What a write of LOOP.CTRL does to an instance. -/
def openStep (want : Nat) (s : State) (n : Nat) : State :=
  if want.testBit n then s.wr R.LOOP.OPEN (withBit (s.rd R.LOOP.OPEN) n true)
  else if !s.isOpen n then s
  else if s.coefPending n then s.incRaise R.LOOP.CNT_OPEN_REFUSED R.LOOP.ev_OPEN_REFUSED
  else s.wr R.LOOP.OPEN (withBit (s.rd R.LOOP.OPEN) n false)

theorem loopOpenWriteFx_eq (v : Word32) (s : State) : loopOpenWriteFx v s =
    let t := s.each (List.range 10) (openStep (v.toNat % 1024))
    let u := if t.isOpen 0 || t.isOpen 1 then t.enterHoldover else t.lockClosed
    u.each ((List.range 10).filter (fun n => s.isOpen n && !u.isOpen n)) State.closeLoop := rfl

/-- The parts of the state that say whether a commit of coefficients waits. -/
def coefParts (s : State) : Role × CmtSt := (s.role, s.cmt)

/-- The applied coefficients of an instance. -/
def coefFields (r : Role) (n : Nat) : List Fld := (loopFields r n).map Fld.live

theorem coefPending_of_stays {s t : State} {n : Nat} (h : Stays coefParts (coefFields s.role n) s t) :
    t.coefPending n = s.coefPending n := by
  obtain ⟨hrole, hcmt⟩ := Prod.mk.inj h.part
  have hchanged : ∀ snap, t.coefChanged snap n = s.coefChanged snap n := fun snap => by
    unfold State.coefChanged
    rw [hrole]
    have hlv : ∀ f ∈ loopFields s.role n, (snapRd snap f != t.lv f) = (snapRd snap f != s.lv f) := fun f hf =>
      congrArg (snapRd snap f != ·) (h.rd _ (List.mem_map_of_mem hf))
    rw [Bool.eq_iff_iff, List.any_eq_true, List.any_eq_true]
    exact exists_congr fun f => and_congr_right fun hf => by rw [hlv f hf]
  unfold State.coefPending
  rw [hcmt]
  simp only [hchanged]

theorem coefFrame (r : Role) (n : Nat) : Frame (Stays coefParts (coefFields r n)) (apartFrom (coefFields r n)) (quietFor (coefFields r n)) :=
  staysFrame (fun _ _ _ => rfl) _

theorem openStep_coef (want : Nat) (s : State) (m : Nat) {n : Nat} (hn : n < 10) : (openStep want s m).coefPending n = s.coefPending n := by
  have hW : ∀ r ∈ [Role.sender, Role.tile], ∀ n < 10, apartFrom (coefFields r n) R.LOOP.OPEN = true ∧ apartFrom (coefFields r n) R.LOOP.CNT_OPEN_REFUSED = true ∧
      quietFor (coefFields r n) 0x0C0 = true := by decide
  obtain ⟨hopen, hcnt, hq⟩ := hW s.role (by cases s.role <;> decide) n hn
  have h := coefFrame s.role n
  refine coefPending_of_stays ?_
  unfold openStep
  refine h.ite (fun _ => h.wr s _ hopen) fun _ => h.ite (fun _ => h.refl s) fun _ => ?_
  exact h.ite (fun _ => h.incRaise s hcnt hq (by decide)) fun _ => h.wr s _ hopen

theorem isOpen_wrOpen (s : State) {n : Nat} (m : Nat) (hm : m < 10) (b : Bool) :
    (s.wr R.LOOP.OPEN (withBit (s.rd R.LOOP.OPEN) n b)).isOpen m = (withBit (s.rd R.LOOP.OPEN) n b).testBit m := by
  rw [State.isOpen, rd_wr_own _ _ (by decide), Nat.testBit_mod_two_pow, decide_eq_true (show m < R.LOOP.OPEN.w from hm), Bool.true_and]

/-- Whether an instance is open after a write that wants `want`. -/
def openAfter (want : Nat) (s : State) (n : Nat) : Bool := want.testBit n || (s.isOpen n && s.coefPending n)

theorem openStep_isOpen (want : Nat) (s : State) (n : Nat) {m : Nat} (hm : m < 10) :
    (openStep want s n).isOpen m = if m = n then openAfter want s n else s.isOpen m := by
  unfold openStep openAfter
  split
  · next hw =>
    rw [isOpen_wrOpen s m hm, testBit_withBit, hw]
    split <;> simp_all [State.isOpen]
  · next hw =>
    split
    · next ho => split <;> simp_all
    · next ho =>
      split
      · next hc =>
        have hkeep : (s.incRaise R.LOOP.CNT_OPEN_REFUSED R.LOOP.ev_OPEN_REFUSED).isOpen m = s.isOpen m :=
          congrArg (fun k => Nat.testBit k m) ((rd_raise_sep _ (by decide)).trans (rd_wr_sep _ _ (by decide)))
        rw [hkeep]
        split <;> simp_all
      · next hc =>
        rw [isOpen_wrOpen s m hm, testBit_withBit]
        split <;> simp_all [State.isOpen]

theorem openSteps_isOpen (want : Nat) {xs : List Nat} (hnd : xs.Nodup) (s : State) {m : Nat} (hm : m < 10) :
    (s.each xs (openStep want)).isOpen m = if m ∈ xs then openAfter want s m else s.isOpen m := by
  induction xs generalizing s with
  | nil => rfl
  | cons x xs ih =>
    obtain ⟨hx, hnd⟩ := List.nodup_cons.mp hnd
    have hstep : s.each (x :: xs) (openStep want) = (openStep want s x).each xs (openStep want) := rfl
    rw [hstep, ih hnd]
    unfold openAfter
    rw [openStep_coef _ _ _ hm, openStep_isOpen _ _ _ hm]
    by_cases hmx : m = x
    · subst hmx
      simp [hx, openAfter]
    · simp [hmx]

/-- The lock and the closing of instances leave OPEN alone. -/
theorem isOpen_loopOpenWriteFx (v : Word32) (s : State) {n : Nat} (hn : n < 10) :
    (loopOpenWriteFx v s).isOpen n = openAfter (v.toNat % 1024) s n := by
  have h := staysFrame (F := fun _ : State => ()) (fun _ _ _ => rfl) [R.LOOP.OPEN]
  have hclk : LockFree (Stays (fun _ : State => ()) [R.LOOP.OPEN]) := fun _ _ _ _ _ => .other rfl rfl
  have hkeep : Stays (fun _ => ()) [R.LOOP.OPEN] (s.each (List.range 10) (openStep (v.toNat % 1024))) (loopOpenWriteFx v s) := by
    rw [loopOpenWriteFx_eq]
    refine h.trans ?_ (h.each fun t m _ => ?_)
    · exact h.ite (fun _ => frame_enterHoldover h hclk (by decide) (by decide) _) fun _ => frame_lockClosed h hclk (by decide) (by decide) _
    · unfold State.closeLoop
      exact h.ite (fun _ => h.refl t) fun _ => frame_setLoop hclk _ _ _
  have hsame : (loopOpenWriteFx v s).isOpen n = (s.each (List.range 10) (openStep (v.toNat % 1024))).isOpen n :=
    congrArg (fun k => Nat.testBit k n) (hkeep.rd _ List.mem_cons_self)
  rw [hsame, openSteps_isOpen _ List.nodup_range s hn, if_pos (List.mem_range.mpr hn)]

/-- Settles O36. -/
theorem loopsOpenCloseAndSlew : Obligations.LoopsOpenCloseAndSlew := by
  have hlim : innerLimit = 32000 * 65536 := rfl
  refine ⟨fun s hrun hopen hlo hhi => ⟨_, rfl, ?_⟩, fun s hrun hopen hlo hhi => ⟨_, rfl, ?_⟩, fun v s hon => ⟨_, rfl, ?_⟩⟩
  · rw [cond_of hrun]
    have hu : (innerLoop s.start).u = innerStep (s.loop 0).u (s.loop 1).u := by
      show (if s.isOpen 1 then _ else _) = _
      rw [if_neg (by rw [hopen]; decide)]
      rfl
    have h1 : (loopInnerFx s.start).loop 1 = innerLoop s.start := (loopInnerFx_loop _ 1).trans (if_pos rfl)
    obtain ⟨hs1, hs2, hs3, hs4⟩ := innerStep_slew (u0 := (s.loop 0).u) hlo hhi
    refine ⟨?_, ?_, ?_, ?_, fun hn1 hn2 hn3 hn4 => ?_, ?_, loopInnerFx_loop _ 0⟩
    · rw [h1, hu]; exact hs1
    · rw [h1, hu]; exact hs2
    · rw [h1, hu]; exact hs3
    · rw [h1, hu]; exact hs4
    · rw [h1, hu]; exact innerStep_near hn1 hn2 hn3 hn4
    · rw [h1]
      exact loopInnerFx_freq (by rw [hu]; exact hs3) (by rw [hu]; exact hs4)
  · rw [cond_of hrun]
    have h1 : (loopInnerFx s.start).loop 1 = innerLoop s.start := (loopInnerFx_loop _ 1).trans (if_pos rfl)
    refine ⟨?_, ?_, loopInnerFx_out hopen hlo hhi⟩
    · rw [h1]
      show (if s.isOpen 1 then _ else _) = _
      rw [if_pos hopen]
      rfl
    · rw [h1]
      rfl
  · rw [cond_of hon]
    intro n hn
    have hbit : (v.toNat % 1024).testBit n = v.getLsbD n := by
      rw [show (1024 : Nat) = 2 ^ 10 from rfl, Nat.testBit_mod_two_pow, decide_eq_true hn, Bool.true_and]
      rfl
    have hopen := isOpen_loopOpenWriteFx v s.start hn
    rw [openAfter, hbit] at hopen
    refine ⟨fun hv => ?_, fun hv => ?_⟩
    · rw [hopen, hv, Bool.true_or]
    · rw [hopen, hv, Bool.false_or]
      rfl

end Sys2Proof.Proofs.LoopEngine

/-!
THEOREMS. The PTP instances (04 R91 to R93): a first master, the first Sync, and the two timeouts. Settles O37.
-/

namespace Sys2Proof.Proofs.PtpPorts
open Sys2Proof.Machine Sys2Proof.Laws Sys2Proof.Proofs.Frames Sys2Proof.Proofs.FieldRules Sys2Proof.Proofs.Framing Sys2Proof.Proofs.ClockFrames

theorem ptpSt_modPtp (s : State) (i : Nat) (f : PtpSt → PtpSt) : (s.modPtp i f).ptpSt i = f (s.ptpSt i) := smGet_set_same _ _ _ _

theorem ptpOn_lt {s : State} {i : Nat} (h : s.ptpOn i = true) : i < 2 := by
  simp only [State.ptpOn, Bool.and_eq_true, decide_eq_true_eq] at h
  exact h.1.1.2

/-- The state of an instance's port after it was set. -/
theorem setPort_state {i v : Nat} (hi : i < 2) (hv : v < 8) (s : State) : (s.setPort i v).rd (R.PTP.PORT_STATE i) = v := by
  unfold State.setPort
  split
  · next h => exact h
  · refine (rd_raise_sep _ ?_).trans ((rd_wr_own s v ?_).trans (Nat.mod_eq_of_lt hv))
    · interval_cases i <;> decide
    · interval_cases i <;> decide

theorem setPort_pending {i v : Nat} {s : State} (h : s.rd (R.PTP.PORT_STATE i) ≠ v) : Pending (s.setPort i v) (R.PTP.ev_STATE_CHANGE i) := by
  unfold State.setPort
  rw [if_neg h]
  exact pending_raise _ (show 0 < 32 by decide)

section
variable {Rel : State → State → Prop} {W : Fld → Bool} {E : Nat → Bool} (h : Frame Rel W E)
include h

theorem frame_setPort {i : Nat} (hW : W (R.PTP.PORT_STATE i) = true) (hE : E (R.PTP.page i) = true) (s : State) (v : Nat) : Rel s (s.setPort i v) := by
  unfold State.setPort
  exact h.ite (fun _ => h.refl s) fun _ => h.trans (h.wr s v hW) (h.raise _ hE (show 0 < 32 by decide))

/-- The fields that show the selected master. -/
def masterFields (i : Nat) : List Fld :=
  [R.PTP.GM_IDENTITY i, R.PTP.GM_CLASS i, R.PTP.GM_ACCURACY i, R.PTP.GM_VARIANCE i, R.PTP.STEPS_REMOVED i, R.PTP.UTC_OFFSET i]

theorem frame_showGm {i : Nat} (hW : ∀ f ∈ masterFields i, W f = true) (hE : E (R.PTP.page i) = true) (s : State) (a : Announce) :
    Rel s (s.showGm i a) := by
  unfold State.showGm
  refine h.trans (h.trans (h.trans (h.trans (h.trans (h.trans (h.cond fun _ => h.raise s hE (show 1 < 32 by decide)) (h.wr _ _ ?_))
    (h.wr _ _ ?_)) (h.wr _ _ ?_)) (h.wr _ _ ?_)) (h.wr _ _ ?_)) (h.wr _ _ ?_)
  all_goals exact hW _ (by simp [masterFields])

end

/-! The first master of a listening instance. -/

/-- The master is kept as the only one, and the registers show it. -/
def firstMaster (i : Nat) (a : Announce) (s : State) : State :=
  ((s.storeTlv i a.tlv).modPtp i (fun p => { p with masters := [a] })).showGm i a

theorem storeTlv_imm (s : State) (i : Nat) (tlv : List Byte) : ∃ m, s.storeTlv i tlv = { s with imm := m } := by
  unfold State.storeTlv
  split
  · exact ⟨s.imm, rfl⟩
  · exact ⟨_, rfl⟩

/-- The fields that the first master leaves alone: the port's state, the limit of its class, the lock. -/
def keptFirst (i : Nat) : List Fld := [R.PTP.PORT_STATE i, (R.PTP.CLASS_MAX i).live, R.CLK.LOCK_STATE]

theorem firstMaster_stays {i : Nat} (hi : i < 2) (a : Announce) (s : State) : Stays (fun _ => ()) (keptFirst i) s (firstMaster i a s) := by
  have h := staysFrame (F := fun _ => ()) (fun _ _ _ => rfl) (keptFirst i)
  obtain ⟨m, hm⟩ := storeTlv_imm s i a.tlv
  have hkept : Stays (fun _ => ()) (keptFirst i) s ((s.storeTlv i a.tlv).modPtp i (fun p => { p with masters := [a] })) := by
    rw [hm]
    exact .other rfl rfl
  refine h.trans hkept (frame_showGm h ?_ ?_ _ a)
  · interval_cases i <;> decide
  · interval_cases i <;> decide

theorem firstMaster_masters (i : Nat) (a : Announce) (s : State) : ((firstMaster i a s).ptpSt i).masters = [a] := by
  have hclk : (firstMaster i a s).clk = ((s.storeTlv i a.tlv).modPtp i (fun p => { p with masters := [a] })).clk :=
    frame_showGm (partFrame (F := State.clk) fun _ _ _ => rfl) (fun _ _ => rfl) rfl _ a
  unfold State.ptpSt
  rw [hclk]
  exact congrArg PtpSt.masters (ptpSt_modPtp _ i _)

theorem showGm_identity {i : Nat} (hi : i < 2) (s : State) (a : Announce) : (s.showGm i a).rd (R.PTP.GM_IDENTITY i) = a.gmId % 2 ^ 64 := by
  unfold State.showGm
  refine (rd_wr_sep _ _ ?_).trans ((rd_wr_sep _ _ ?_).trans ((rd_wr_sep _ _ ?_).trans ((rd_wr_sep _ _ ?_).trans ((rd_wr_sep _ _ ?_).trans
    (rd_wr_own _ _ ?_)))))
  all_goals interval_cases i <;> decide

theorem ptpAnnounceFx_first {i : Nat} (hi : i < 2) {a : Announce} {s : State} (hm : (s.ptpSt i).masters = [])
    (hc : a.clockClass ≤ s.lv (R.PTP.CLASS_MAX i)) (hl : s.rd (R.PTP.PORT_STATE i) = ppLISTENING) :
    ptpAnnounceFx i a s = (firstMaster i a s).setPort i ppUNCALIBRATED := by
  have hst := firstMaster_stays hi a s
  have hclass : (firstMaster i a s).lv (R.PTP.CLASS_MAX i) = s.lv (R.PTP.CLASS_MAX i) := hst.rd _ (by simp [keptFirst])
  have hport : (firstMaster i a s).rd (R.PTP.PORT_STATE i) = ppLISTENING := (hst.rd _ (by simp [keptFirst])).trans hl
  have hm' : ((s.storeTlv i a.tlv).ptpSt i).masters = [] := by
    obtain ⟨m, he⟩ := storeTlv_imm s i a.tlv
    rw [he]
    exact hm
  have hfx : ptpAnnounceFx i a s = if (firstMaster i a s).lv (R.PTP.CLASS_MAX i) < a.clockClass then (firstMaster i a s).ptpLost i ppLISTENING
      else (firstMaster i a s).cond ((firstMaster i a s).rd (R.PTP.PORT_STATE i) == ppLISTENING) (fun s => s.setPort i ppUNCALIBRATED) := by
    unfold ptpAnnounceFx
    simp only [hm', List.any_nil, List.length_nil, List.nil_append]
    rfl
  rw [hfx, if_neg (by rw [hclass]; exact Nat.not_lt.mpr hc), cond_of (by rw [hport]; rfl)]

/-! The loss of a domain. -/

theorem ptpLost_shows {i v : Nat} (hi : i < 2) (hv : v < 8) (s : State) :
    (s.ptpLost i v).rd (R.PTP.PORT_STATE i) = v ∧ ((s.ptpLost i v).src (1 + i)).qualified = false ∧
    (s.ptpLost i v).clk.ptp = s.clk.ptp ∧
    (s.rd (R.PTP.PORT_STATE i) = ppSLAVE → Counted s (s.ptpLost i v) (R.PTP.CNT_LOST i) ∧ Pending (s.ptpLost i v) (R.PTP.ev_LOST i)) := by
  let u : State := (s.setPort i v).cond (s.rd (R.PTP.PORT_STATE i) == ppSLAVE) (fun s => s.incRaise (R.PTP.CNT_LOST i) (R.PTP.ev_LOST i))
  have hlose : Stays (fun s : State => s.clk.ptp) [R.PTP.PORT_STATE i, R.PTP.CNT_LOST i] u (u.loseSource (1 + i)) := by
    refine frame_loseSource (staysFrame (fun _ _ _ => rfl) _) (fun _ _ _ hp _ => .other hp rfl) (fun _ _ => .other rfl rfl) ?_ ?_ ?_ ?_ u
    all_goals interval_cases i <;> decide
  have hcount : Stays (fun s : State => s.clk.ptp) [R.PTP.PORT_STATE i] (s.setPort i v) u := by
    have h := staysFrame (F := fun s : State => s.clk.ptp) (fun _ _ _ => rfl) [R.PTP.PORT_STATE i]
    refine h.cond fun _ => h.incRaise _ ?_ ?_ (show 2 < 32 by decide)
    all_goals interval_cases i <;> decide
  have hport : Stays (fun s : State => s.clk.ptp) [R.PTP.CNT_LOST i] s (s.setPort i v) := by
    refine frame_setPort (staysFrame (fun _ _ _ => rfl) _) ?_ ?_ s v
    all_goals interval_cases i <;> decide
  refine ⟨?_, (Sources.loseSource_src u (1 + i)).2, ?_, fun hs => ⟨?_, hlose.pend _ ?_⟩⟩
  · exact (hlose.rd _ (by simp)).trans ((hcount.rd _ (by simp)).trans (setPort_state hi hv s))
  · exact hlose.part.trans (hcount.part.trans hport.part)
  · refine (hlose.rd _ (by simp)).trans ?_
    have hu : u = (s.setPort i v).incRaise (R.PTP.CNT_LOST i) (R.PTP.ev_LOST i) := cond_of (by rw [hs]; rfl) _ _
    rw [hu]
    refine (rd_raise_sep _ (by interval_cases i <;> decide)).trans ((rd_incBy_same _ rfl rfl 1).trans ?_)
    rw [hport.rd _ List.mem_cons_self]
  · have hu : u = (s.setPort i v).incRaise (R.PTP.CNT_LOST i) (R.PTP.ev_LOST i) := cond_of (by rw [hs]; rfl) _ _
    rw [hu]
    exact pending_raise _ (show 2 < 32 by decide)

/-! An accepted Sync. -/

/-- A Sync is counted, and shows its path delay. -/
def syncShown (i pathDelay : Nat) (s : State) : State := ((s.setPort i ppSLAVE).inc (R.PTP.CNT_SYNC i)).wr (R.PTP.MEAN_PATH_DELAY i) pathDelay

theorem syncShown_shows {i : Nat} (hi : i < 2) (pathDelay : Nat) (s : State) :
    (syncShown i pathDelay s).rd (R.PTP.PORT_STATE i) = ppSLAVE ∧ Counted s (syncShown i pathDelay s) (R.PTP.CNT_SYNC i) ∧
    (syncShown i pathDelay s).rd (R.PTP.MEAN_PATH_DELAY i) = pathDelay % 2 ^ 32 := by
  have hport : Stays (fun _ : State => ()) [R.PTP.CNT_SYNC i] s (s.setPort i ppSLAVE) := by
    refine frame_setPort (staysFrame (fun _ _ _ => rfl) _) ?_ ?_ s _
    all_goals interval_cases i <;> decide
  refine ⟨?_, ?_, rd_wr_own _ _ (by interval_cases i <;> decide)⟩
  · exact (rd_wr_sep _ _ (by interval_cases i <;> decide)).trans ((rd_wr_sep _ _ (by interval_cases i <;> decide)).trans
      (setPort_state hi (by decide) s))
  · refine (rd_wr_sep _ _ (by interval_cases i <;> decide)).trans ((rd_incBy_same _ rfl rfl 1).trans ?_)
    rw [hport.rd _ List.mem_cons_self]

/-- The fields that a Sync has shown before it is judged as a measurement. -/
def syncFields (i : Nat) : List Fld := [R.PTP.PORT_STATE i, R.PTP.CNT_SYNC i, R.PTP.MEAN_PATH_DELAY i]

theorem qualify_usable (s : State) (c : Nat) : ((s.qualify c).src c).usable = (s.src c).usable := by
  have h := partFrame (F := fun s : State => (s.src c).usable) fun _ _ _ => rfl
  unfold State.qualify
  split
  · rfl
  · have hmod : ((s.modSrc c (fun x => { x with qualified := true, qualAt := some s.time })).src c).usable = (s.src c).usable :=
      (congrArg SrcSt.usable (Sources.src_modSrc s c _)).trans rfl
    refine Eq.trans ?_ hmod
    refine h.trans ?_ (h.cond fun _ => rfl)
    exact h.trans (frame_showQualified h (fun _ _ => rfl) _) (h.raise _ rfl (by decide))

theorem usableNow_usable (s : State) (c : Nat) : ((s.usableNow c).src c).usable = true := by
  unfold State.usableNow State.cond
  simp only
  split
  · exact (qualify_usable _ c).trans (congrArg SrcSt.usable (Sources.src_modSrc s c _))
  · exact congrArg SrcSt.usable (Sources.src_modSrc s c _)

section
variable {Rel : State → State → Prop} {W : Fld → Bool} {E : Nat → Bool} (h : Frame Rel W E)
include h

/-- The fields of the filter of an instance. -/
def filterFields (i : Nat) : List Fld := [R.PTP.OFFSET i, R.LOOP.OUT (2 + i), R.LOOP.ERR (2 + i)]

theorem frame_ptpFilter (hclk : LockFree Rel) {i : Nat} (hW : ∀ f ∈ filterFields i, W f = true) (s : State) (x : Int) : Rel s (s.ptpFilter i x) := by
  unfold State.ptpFilter
  refine h.trans (h.trans (h.trans (frame_setLoop hclk _ _ _) (h.wrI _ _ ?_)) (h.wrI _ _ ?_)) (h.wrI _ _ ?_)
  all_goals exact hW _ (by simp [filterFields])

end

/-- What a Sync has shown stays while it is judged as a measurement, which a source that was usable stays. -/
theorem judged_stays {β : Type} {F : State → β} (hF : RegsFree F) {i : Nat} (hi : i < 2) (hclk : UsableFree (Stays F (syncFields i))) (u : State)
    (b off : Bool) (x err y : Int) : Stays F (syncFields i) u ((u.cond b (fun s => s.ptpFilter i x)).measure (1 + i) err y off) := by
  have h := staysFrame hF (syncFields i)
  refine h.trans (h.cond fun _ => frame_ptpFilter h hclk.lockFree ?_ _ _) (frame_measure h hclk ?_ ?_ ?_ ?_ ?_ ?_ ?_ ?_ ?_ ?_ _ _ _ _)
  all_goals interval_cases i <;> decide

theorem ptpSyncFx_stays {i : Nat} (hi : i < 2) (raw : Int) (pathDelay : Nat) (s : State) :
    Stays (fun _ => ()) (syncFields i) (syncShown i pathDelay s) (ptpSyncFx i raw pathDelay s) := by
  have h := staysFrame (F := fun _ => ()) (fun _ _ _ => rfl) (syncFields i)
  unfold ptpSyncFx
  refine h.trans ?_ (judged_stays (fun _ _ _ => rfl) hi (fun _ _ _ _ => .other rfl rfl) _ _ _ _ _ _)
  refine h.trans ?_ (frame_usableNow h (fun _ _ _ _ _ => .other rfl rfl) (fun _ _ => .other rfl rfl) ?_ ?_ _)
  · exact .other rfl rfl
  all_goals interval_cases i <;> decide

theorem ptpSyncFx_usable {i : Nat} (hi : i < 2) (raw : Int) (pathDelay : Nat) (s : State) :
    ((ptpSyncFx i raw pathDelay s).src (1 + i)).usable = true := by
  unfold ptpSyncFx
  refine (judged_stays (F := fun s => (s.src (1 + i)).usable) (fun _ _ _ => rfl) hi (fun _ _ _ hu => .other (hu _) rfl) _ _ _ _ _ _).part.trans ?_
  exact usableNow_usable _ _

/-- Settles O37. -/
theorem ptpInstances : Obligations.PtpInstances := by
  refine ⟨fun i t0 a s hon hm hl hc => ⟨_, rfl, ?_⟩, fun i pd t0 off s hon hst => ⟨_, rfl, ?_⟩, fun i t0 s hon => ⟨_, rfl, ?_⟩,
    fun i t0 s hon hs => ⟨_, rfl, ?_⟩⟩
  · have hi := ptpOn_lt hon
    rw [cond_of hon, ptpAnnounceFx_first hi (s := s.atTime t0) hm hc hl]
    have hport : (firstMaster i a (s.atTime t0)).rd (R.PTP.PORT_STATE i) = ppLISTENING :=
      ((firstMaster_stays hi a _).rd _ (by simp [keptFirst])).trans hl
    have hset : Stays (fun s : State => s.clk.ptp) [R.PTP.GM_IDENTITY i, R.CLK.LOCK_STATE] (firstMaster i a (s.atTime t0))
        ((firstMaster i a (s.atTime t0)).setPort i ppUNCALIBRATED) := by
      refine frame_setPort (staysFrame (fun _ _ _ => rfl) _) ?_ ?_ _ _
      all_goals interval_cases i <;> decide
    refine ⟨?_, setPort_state hi (by decide) _, ?_, setPort_pending (by rw [hport]; decide), ?_⟩
    · refine Eq.trans ?_ (firstMaster_masters i a (s.atTime t0))
      exact congrArg (fun l => (smGet ptpDefault l i).masters) hset.part
    · exact (hset.rd _ (by simp)).trans (showGm_identity hi _ a)
    · exact (hset.rd R.CLK.LOCK_STATE (by simp)).trans ((firstMaster_stays hi a _).rd R.CLK.LOCK_STATE (by simp [keptFirst]))
  · have hi := ptpOn_lt hon
    rw [cond_of (by rw [Bool.and_eq_true]; exact ⟨hon, decide_eq_true hst⟩)]
    have hst := ptpSyncFx_stays hi off pd (s.atTime t0)
    obtain ⟨h1, h2, h3⟩ := syncShown_shows hi pd (s.atTime t0)
    exact ⟨(hst.rd _ (by simp [syncFields])).trans h1, (hst.rd _ (by simp [syncFields])).trans h2, (hst.rd _ (by simp [syncFields])).trans h3,
      ptpSyncFx_usable hi off pd _⟩
  · rw [cond_of hon]
    obtain ⟨h1, h2, h3, h4⟩ := ptpLost_shows (v := ppLISTENING) (ptpOn_lt hon) (by decide) ((s.atTime t0).modPtp i (fun p => { p with masters := [] }))
    refine ⟨?_, h1, fun hs => (h4 hs).1, h2⟩
    refine (congrArg (fun l => (smGet ptpDefault l i).masters) h3).trans ?_
    exact congrArg PtpSt.masters (ptpSt_modPtp _ i _)
  · rw [cond_of (by rw [Bool.and_eq_true]; exact ⟨hon, beq_iff_eq.mpr hs⟩)]
    obtain ⟨h1, h2, -, h4⟩ := ptpLost_shows (v := ppUNCALIBRATED) (ptpOn_lt hon) (by decide) (s.atTime t0)
    exact ⟨h1, (h4 hs).1, (h4 hs).2, h2⟩

end Sys2Proof.Proofs.PtpPorts

/-!
THEOREMS. Beacons (04 R104 to R109). Refutes O38.
-/

namespace Sys2Proof.Proofs.Beacons
open Sys2Proof.Machine

/-- A management request of 512 words. -/
def longRequest : MgmtReq := { src := 0, tag := 0, write := true, len := 512, offset := 0, page := 0, data := List.replicate 512 0 }

/-- A beacon of a port in STANDBY. -/
def standbyBeacon : Beacon :=
  { src := 0, hops := 0, stby := true, subcoil := false, originPort := 0, originTime := 0, correction := 0, epoch := 0, crcOk := false }

/-- A tile without upstream, both of whose ports are UP: 64 management requests wait in the ingress buffer of port 0, a beacon at the egress
    of port 1. -/
def crowdedTile : State :=
  { ((State.reset.wr R.GLB.STATE stLOADED).wr (R.COIL.LINK 0) lkUP).wr (R.COIL.LINK 1) lkUP with
    role := .tile
    coil := [(0, { wait := List.replicate 64 longRequest }), (1, { egress := [⟨0, none, .beacon 1 standbyBeacon, 0⟩] })] }

/-- That tile after the beacon. -/
def crowdedAfter : State := tileBeacon 0 standbyBeacon (crowdedTile.atTime 0)

/-- A beacon on an UP port of a tile's pair. -/
theorem exec_beaconReceive_tile {s : State} {port t : Nat} (b : Beacon) (hrole : s.isSender = false) (htile : s.isTile = true) (hp : port < 2)
    (hup : s.isUp port = true) : exec (.beaconReceive port b t) s = .next (tileBeacon port b (s.atTime t)) := by
  have hs : ¬((s.atTime t).isSender && (s.atTime t).portOn port && (s.atTime t).isUp port) = true := by
    rw [show (s.atTime t).isSender = false from hrole, Bool.false_and, Bool.false_and]
    decide
  have ht : ((s.atTime t).isTile && decide (port < 2) && (s.atTime t).isUp port) = true := by
    rw [Bool.and_eq_true, Bool.and_eq_true]
    exact ⟨⟨htile, decide_eq_true hp⟩, hup⟩
  exact congrArg Host.Outcome.next ((if_neg hs).trans (if_pos ht))

theorem exec_crowdedTile : exec (.beaconReceive 0 standbyBeacon 0) crowdedTile = .next crowdedAfter :=
  exec_beaconReceive_tile _ (by decide +kernel) (by decide +kernel) (by decide) (by decide +kernel)

theorem crowdedAfter_xoff : crowdedAfter.rd (R.COIL.XOFF_TX 0) = 1 := by decide +kernel

/-- Refutes O38: the beacon of a port in STANDBY that is passed on waits behind another one, and with it more than 128 KiB have come in on
    port 0, which sets XOFF_TX there and so changes a register. -/
theorem not_beaconsElectAndDiscipline : ¬ Obligations.BeaconsElectAndDiscipline := by
  unfold Obligations.BeaconsElectAndDiscipline
  intro h
  obtain ⟨-, -, hstandby, -⟩ := h
  obtain ⟨t, hexec, -, hregs, -⟩ := hstandby 0 0 standbyBeacon crowdedTile (by decide +kernel) (by decide) (by decide +kernel) rfl (by decide) rfl
    (by decide +kernel)
  have ht : crowdedAfter = t := Host.Outcome.next.inj (exec_crowdedTile.symm.trans hexec)
  subst ht
  have hrd : crowdedAfter.rd (R.COIL.XOFF_TX 0) = crowdedTile.rd (R.COIL.XOFF_TX 0) := Laws.rd_congr hregs _
  rw [crowdedAfter_xoff] at hrd
  exact absurd hrd (by decide +kernel)

end Sys2Proof.Proofs.Beacons

/-!
Frames of the coil links and the redundancy (01 R12, R13; 10 R250, R251, R275, R280): which fields and records training, the loss of a
link, and the start of a fail-over write.
-/

namespace Sys2Proof.Proofs.LinkFrames
open Sys2Proof.Machine Sys2Proof.Laws Sys2Proof.Proofs.Frames Sys2Proof.Proofs.FieldRules Sys2Proof.Proofs.Framing Sys2Proof.Proofs.CoilFrames

/-- A member has 16 coil ports at most. -/
theorem memberPorts_le (m : Member) : memberPorts m ≤ 16 := by cases m <;> decide

theorem port_lt_of_mem {s : State} {p : Nat} (h : p ∈ s.ports) : p < 16 := (List.mem_range.mp h).trans_le (memberPorts_le _)

theorem port_lt_of_hasPort {s : State} {p : Nat} (h : s.hasPort p = true) : p < 16 := (of_decide_eq_true h).trans_le (memberPorts_le _)

theorem port_lt_of_portOn {s : State} {p : Nat} (h : s.portOn p = true) : p < 16 := by
  unfold State.portOn at h
  simp only [Bool.and_eq_true] at h
  exact port_lt_of_hasPort h.1.2

theorem running_of_portOn {s : State} {p : Nat} (h : s.portOn p = true) : s.running = true := by
  unfold State.portOn at h
  simp only [Bool.and_eq_true] at h
  exact h.1.1

/-- A relation that the records of the links, the redundancy and the light-phase run may change under, with the frame clock and the clock. -/
def LinkFree (Rel : State → State → Prop) : Prop :=
  ∀ (s : State) (c : List (Nat × CoilSt)) (o : List Output) (n : Nat) (r : RedSt) (p : PhcSt) (f : FrmSt) (k : ClkSt),
    Rel s { s with coil := c, out := o, free := n, red := r, phc := p, frm := f, clk := k }

theorem LinkFree.coilFree {Rel : State → State → Prop} (h : LinkFree Rel) : CoilFree Rel := fun s c o => h s c o s.free s.red s.phc s.frm s.clk

/-- The fields that show a port's training. -/
def trainFields (p : Nat) : List Fld := [R.COIL.LINK p, R.COIL.LOS p, R.COIL.LOL p]

/-- The fields that show the ends of the pair and the hop budget of every port. -/
def endFields : List Fld :=
  (List.range 16).map R.COIL.OUT_OF_BUDGET ++ [0, 1].flatMap (fun p => [R.COIL.st_TOPOLOGY_LOOP p, R.COIL.END_OF_COIL p])

/-- The fields that show that a port has left UP. -/
def lostFields (p : Nat) : List Fld :=
  [R.COIL.CNT_LINK_DOWN p, R.COIL.ALIGNED p, R.COIL.DESKEWED p, R.COIL.PARTNER_VALID p, R.COIL.XOFF_RX p, R.COIL.CNT_UNDELIVERABLE p]

/-- The fields that show the roles of the ports. -/
def roleFields : List Fld := (List.range 16).map R.COIL.ROLE

/-- The fields that a light-phase run writes when it ends, with the temperatures that it held. -/
def runEndFields : List Fld :=
  [R.PHC.RUNNING, R.PHC.PHASE, R.PHC.RESULT, R.PHC.TRIM, R.PHC.CNT_OK, R.PHC.CNT_FAILED, R.THM.STALE, R.THM.T_BOARD, R.THM.T_DIE, R.THM.P_DIE] ++
    (List.range 8).flatMap (fun n => [R.THM.TEMP n, R.THM.VALID n])

/-- The fields that show a fail-over. -/
def failoverFields : List Fld := [R.RED.st_FAILOVER, R.RED.FAILOVER_CAUSE, R.RED.CNT_FAILOVER, R.RED.CNT_FEEDREQ_SENT]

section
variable {Rel : State → State → Prop} {W : Fld → Bool} {E : Nat → Bool} (h : Frame Rel W E)
include h

theorem frame_setLink {p : Nat} (hW : W (R.COIL.LINK p) = true) (hE : E (R.COIL.page p) = true) (s : State) (v : Nat) : Rel s (s.setLink p v) := by
  unfold State.setLink
  refine h.trans ?_ (h.level _ _ hE (show 1 < 32 by decide))
  exact h.ite (fun _ => h.refl s) fun _ => h.trans (h.wr s v hW) (h.raise _ hE (show 0 < 32 by decide))

theorem frame_train (hfree : ∀ (s : State) (n : Nat), Rel s { s with free := n }) {p : Nat} (hW : ∀ f ∈ trainFields p, W f = true)
    (hE : E (R.COIL.page p) = true) (s : State) : Rel s (s.train p) := by
  unfold State.train
  refine h.trans (h.trans ?_ (h.wr _ _ (hW _ (by simp [trainFields])))) (h.wr _ _ (hW _ (by simp [trainFields])))
  exact h.trans (h.trans (frame_setLink h (hW _ (by simp [trainFields])) hE s _) (hfree _ _)) (hfree _ _)

theorem frame_showEnds (hW : ∀ f ∈ endFields, W f = true) (hE : E 0x080 = true ∧ E 0x081 = true) (s : State) : Rel s s.showEnds := by
  unfold State.showEnds
  refine h.cond fun _ => h.trans (h.each fun t p hp => h.wrB t _ (hW _ ?_)) (h.each fun t p hp => ?_)
  · simp only [endFields, List.mem_append, List.mem_map, List.mem_range]
    exact .inl ⟨p, port_lt_of_mem hp, rfl⟩
  · have hpage : E (R.COIL.page p) = true := by
      rcases List.mem_pair.mp hp with rfl | rfl
      · exact hE.1
      · exact hE.2
    have hmem : R.COIL.st_TOPOLOGY_LOOP p ∈ endFields ∧ R.COIL.END_OF_COIL p ∈ endFields := by
      rcases List.mem_pair.mp hp with rfl | rfl <;> decide
    refine h.trans (h.trans (h.wrB t _ (hW _ hmem.1)) (h.level _ _ hpage (show 8 < 32 by decide))) (h.wrB _ _ (hW _ hmem.2))

theorem frame_showRoles (hR : ∀ f ∈ roleFields, W f = true) (hW : ∀ f ∈ endFields, W f = true) (hE : E 0x080 = true ∧ E 0x081 = true) (s : State) :
    Rel s s.showRoles := by
  unfold State.showRoles
  refine h.trans (h.each fun t p hp => h.wr t _ (hR _ ?_)) (frame_showEnds h hW hE _)
  simp only [roleFields, List.mem_map, List.mem_range]
  exact ⟨p, port_lt_of_mem hp, rfl⟩

theorem frame_undeliverable {p : Nat} (hW : W (R.COIL.CNT_UNDELIVERABLE p) = true) (hE : E (R.COIL.page p) = true) (s : State) :
    Rel s (s.undeliverable p) := h.incRaise s hW hE (show 5 < 32 by decide)

theorem frame_lost (hmod : ∀ (s : State) (p : Nat), Rel s (s.modCoil p (fun c => { c with egress := [] }))) {p : Nat}
    (hL : ∀ f ∈ lostFields p, W f = true) (hp : E (R.COIL.page p) = true) (hW : ∀ f ∈ endFields, W f = true)
    (hE : E 0x080 = true ∧ E 0x081 = true) (s : State) : Rel s (s.lost p) := by
  unfold State.lost
  refine h.trans ?_ (frame_showEnds h hW hE _)
  refine h.trans ?_ (h.each fun t _ _ => frame_undeliverable h (hL _ (by simp [lostFields])) hp t)
  refine h.trans (h.trans (h.trans (h.trans ?_ (h.wr _ _ (hL _ ?_))) (h.wr _ _ (hL _ ?_))) (h.wr _ _ (hL _ ?_))) (h.wr _ _ (hL _ ?_))
  · exact h.trans (h.inc s (hL _ (by simp [lostFields]))) (hmod _ _)
  all_goals simp [lostFields]

theorem frame_phcEnd (hphc : ∀ (s : State) (p : PhcSt) (f : FrmSt), Rel s { s with phc := p, frm := f }) (hW : ∀ f ∈ runEndFields, W f = true)
    (hE : E 0x0D1 = true) (s : State) (result : Nat) : Rel s (s.phcEnd result) := by
  have hin : ∀ f, f ∈ runEndFields → W f = true := hW
  have htemps (t : State) : Rel t t.showTemps := by
    unfold State.showTemps
    refine h.ite (fun _ => h.refl t) fun _ => h.trans ?_ (h.each fun u n hn => ?_)
    · exact h.trans (h.trans (h.wrI t _ (hin _ (by decide))) (h.wrI _ _ (hin _ (by decide)))) (h.wr _ _ (hin _ (by decide)))
    · have hmem : R.THM.TEMP n ∈ runEndFields ∧ R.THM.VALID n ∈ runEndFields := by
        have hn' := List.mem_range.mp hn
        interval_cases n <;> decide
      exact h.trans (h.wrI u _ (hin _ hmem.1)) (h.wrB _ _ (hin _ hmem.2))
  unfold State.phcEnd
  split
  · exact h.refl s
  · refine h.trans (h.trans ?_ (h.wr _ _ (hin _ (by decide)))) (htemps _)
    refine h.trans ?_ (h.ite (fun _ => h.incRaise _ (hin _ (by decide)) hE (by decide)) fun _ => h.incRaise _ (hin _ (by decide)) hE (by decide))
    refine h.trans (h.trans ?_ (hphc _ _ _)) (h.wrI _ _ (hin _ (by decide)))
    exact h.trans (h.trans (h.wr s _ (hin _ (by decide))) (h.wr _ _ (hin _ (by decide)))) (h.wr _ _ (hin _ (by decide)))

section
variable (hred : RedFree Rel) (hsend : ∀ (s : State) (p : Nat) (hd : Header) (e c : Nat) (st : Bool), Rel s (s.send none (.feedreq p hd e c st)))
  (hF : ∀ f ∈ failoverFields, W f = true)
include hsend hF

theorem frame_sendFeedreq (s : State) (cause : Nat) : Rel s (s.sendFeedreq cause) := by
  unfold State.sendFeedreq
  exact h.cond fun _ => h.trans (hsend _ _ _ _ _ _) (h.inc _ (hF _ (by decide)))

include hred

theorem frame_seekFeed (s : State) (cause : Nat) : Rel s (s.seekFeed cause) := by
  unfold State.seekFeed
  exact h.trans (hred s _) (frame_sendFeedreq h hsend hF _ _)

theorem frame_enterFailover (hphc : ∀ (s : State) (p : PhcSt) (f : FrmSt), Rel s { s with phc := p, frm := f })
    (hW : ∀ f ∈ runEndFields, W f = true) (hE : E 0x0D1 = true ∧ E 0x090 = true) (s : State) (cause : Nat) : Rel s (s.enterFailover cause) := by
  have hseek := frame_seekFeed h hred hsend hF
  unfold State.enterFailover
  refine h.ite (fun _ => h.refl s) fun _ => h.ite (fun _ => h.cond fun _ => hseek _ _) fun _ => h.trans ?_ (hseek _ _)
  refine h.trans ?_ (hred _ _)
  refine h.trans ?_ (h.raise _ hE.2 (by decide))
  refine h.trans (h.trans (h.trans ?_ (h.wr _ _ (hF _ (by decide)))) (h.wr _ _ (hF _ (by decide)))) (h.inc _ (hF _ (by decide)))
  exact frame_phcEnd h hphc hW hE.1 s _

end

theorem frame_unelect (hred : ∀ (s : State) (r : RedSt) (c : ClkSt), Rel s { s with red := r, clk := c }) (hR : ∀ f ∈ roleFields, W f = true)
    (hW : ∀ f ∈ endFields, W f = true) (hE : E 0x080 = true ∧ E 0x081 = true) (s : State) : Rel s s.unelect := by
  unfold State.unelect
  exact h.trans (hred s _ _) (frame_showRoles h hR hW hE _)

end

/-! A port that leaves UP. -/

/-- What the loss of a port does, but for the reset that may have waited for it. -/
def leftUp (p : Nat) (s : State) : State :=
  ((s.train p).lost p).cond (((s.train p).lost p).role == .tile && decide (p < 2) && ((s.train p).lost p).red.upstream == some p)
    (fun s => if s.frm.ticked then s.enterFailover fcUPSTREAM_LOST else s.unelect)

theorem leaveUp_eq (s : State) (p : Nat) : s.leaveUp p = (leftUp p s).resetAfterRsp := rfl

/-- The fields that the loss of a port writes. -/
def leaveFields (p : Nat) : List Fld := trainFields p ++ lostFields p ++ endFields ++ runEndFields ++ failoverFields ++ roleFields

/-- The pages whose events the loss of a port raises. -/
def leavePages (p : Nat) : List Nat := [R.COIL.page p, 0x080, 0x081, 0x0D1, 0x090]

theorem frame_leftUp {Rel : State → State → Prop} {W : Fld → Bool} {E : Nat → Bool} (h : Frame Rel W E) (hfree : LinkFree Rel) {p : Nat}
    (hW : ∀ f ∈ leaveFields p, W f = true) (hE : ∀ g ∈ leavePages p, E g = true) (s : State) : Rel s (leftUp p s) := by
  have hsub {fs : List Fld} (hfs : fs ⊆ leaveFields p) : ∀ f ∈ fs, W f = true := fun f hf => hW f (hfs hf)
  have hends : E 0x080 = true ∧ E 0x081 = true := ⟨hE _ (by simp [leavePages]), hE _ (by simp [leavePages])⟩
  have hp : E (R.COIL.page p) = true := hE _ (by simp [leavePages])
  have hend : ∀ f ∈ endFields, W f = true := hsub fun f hf => by simp [leaveFields, hf]
  have hred (s : State) (r : RedSt) (c : ClkSt) : Rel s { s with red := r, clk := c } := hfree s s.coil s.out s.free r s.phc s.frm c
  unfold leftUp
  refine h.trans ?_ (h.cond fun _ => h.ite (fun _ => ?_) fun _ => ?_)
  · refine h.trans (frame_train h (fun s n => hfree s s.coil s.out n s.red s.phc s.frm s.clk) (hsub fun f hf => by simp [leaveFields, hf]) hp s) ?_
    exact frame_lost h (fun s p => frame_modCoil hfree.coilFree s p _) (hsub fun f hf => by simp [leaveFields, hf]) hp hend hends _
  · refine frame_enterFailover h (fun s r => hred s r s.clk) (fun s _ _ _ _ _ => frame_sendOwn h hfree.coilFree s _)
      (hsub fun f hf => by simp [leaveFields, hf]) (fun s p f => hfree s s.coil s.out s.free s.red p f s.clk)
      (hsub fun f hf => by simp [leaveFields, hf]) ⟨hE _ (by simp [leavePages]), hE _ (by simp [leavePages])⟩ _ _
  · exact frame_unelect h hred (hsub fun f hf => by simp [leaveFields, hf]) hend hends _

/-- With no reset that waits, the loss of a port is just that. -/
theorem resetAfterRsp_of_none {s : State} (h : s.boot.coilDue = none) : s.resetAfterRsp = s := by
  unfold State.resetAfterRsp
  rw [h]

theorem leaveUp_of_none {s : State} {p : Nat} (h : s.boot.coilDue = none) : s.leaveUp p = leftUp p s := by
  have hboot : (leftUp p s).boot = s.boot :=
    frame_leftUp (partFrame (F := State.boot) fun _ _ _ => rfl) (fun _ _ _ _ _ _ _ _ => rfl) (fun _ _ => rfl) (fun _ _ => rfl) s
  rw [leaveUp_eq, resetAfterRsp_of_none (by rw [hboot]; exact h)]

end Sys2Proof.Proofs.LinkFrames

/-!
What sending a packet does (10 R263): the outputs and the egress queues only grow, nothing else of the state changes when the packet is the
device's own, and a packet has then left or waits.
-/

namespace Sys2Proof.Proofs.Sending
open Sys2Proof.Machine Sys2Proof.Laws Sys2Proof.Proofs.Frames Sys2Proof.Proofs.Framing

theorem coilSt_modCoil (s : State) (p : Nat) (f : CoilSt → CoilSt) : (s.modCoil p f).coilSt p = f (s.coilSt p) := smGet_set_same _ _ _ _

theorem coilSt_modCoil_ne (s : State) {p q : Nat} (h : q ≠ p) (f : CoilSt → CoilSt) : (s.modCoil p f).coilSt q = s.coilSt q := smGet_set_other _ _ _ h

/-- What has left stays sent, and what waits goes on waiting. -/
def SendsKept (s t : State) : Prop := (∀ o ∈ s.out, o ∈ t.out) ∧ ∀ p, ∀ x ∈ (s.coilSt p).egress, x ∈ (t.coilSt p).egress

theorem SendsKept.sends {s t : State} (h : SendsKept s t) {p : Nat} {o : Output} : Sends s p o → Sends t p o
  | .inl ho => .inl (h.1 o ho)
  | .inr ⟨x, hx, hout⟩ => .inr ⟨x, h.2 p x hx, hout⟩

theorem SendsKept.of_eq {s t : State} (ho : t.out = s.out) (hc : t.coil = s.coil) : SendsKept s t :=
  ⟨fun _ h => by rw [ho]; exact h, fun p x h => by unfold State.coilSt; rw [hc]; exact h⟩

/-- Registers and events have no part in it. -/
theorem sendsKeptFrame : Frame SendsKept (fun _ => true) (fun _ => true) where
  refl _ := ⟨fun _ h => h, fun _ _ h => h⟩
  trans h h' := ⟨fun o ho => h'.1 o (h.1 o ho), fun p x hx => h'.2 p x (h.2 p x hx)⟩
  wr s f v _ := .of_eq (wr_out s f v) (wr_coil s f v)
  raise s e _ _ := .of_eq (raise_out s e) (raise_coil s e)
  level s e b _ _ := .of_eq (level_out s e b) (level_coil s e b)

theorem sendsKept_modCoil (s : State) (p : Nat) {f : CoilSt → CoilSt} (hf : ∀ c, ∀ x ∈ c.egress, x ∈ (f c).egress) : SendsKept s (s.modCoil p f) := by
  refine ⟨fun _ h => h, fun q x hx => ?_⟩
  by_cases hq : q = p
  · rw [hq] at hx ⊢
    rw [coilSt_modCoil]
    exact hf _ x hx
  · rw [coilSt_modCoil_ne s hq]
    exact hx

theorem sendsKept_depart (s : State) (o : Output) : SendsKept s (s.depart o) := by
  have hout : SendsKept s { s with out := placeOut o s.out } := ⟨fun x hx => (mem_placeOut o x s.out).mpr (.inr hx), fun _ _ h => h⟩
  unfold State.depart
  simp only
  split
  · exact sendsKeptFrame.trans hout (sendsKept_modCoil _ _ fun _ _ h => h)
  · exact hout

theorem sendsKept_xoffCheck (s : State) (p : Nat) : SendsKept s (s.xoffCheck p) := CoilFrames.frame_xoffCheck sendsKeptFrame (fun _ _ => rfl) s

/-- A packet that is sent leaves what was sent. -/
theorem sendsKept_send (s : State) (a : Option Nat) (o : Output) : SendsKept s (s.send a o) := by
  have hheld (p cls : Nat) : SendsKept s (s.modCoil p (fun c => { c with egress := c.egress ++ [⟨cls, a, o, s.time⟩] })) :=
    sendsKept_modCoil s p fun _ _ h => List.mem_append_left _ h
  unfold State.send
  split
  · exact ⟨fun _ h => List.mem_append_left _ h, fun _ _ h => h⟩
  · refine sendsKeptFrame.ite (fun _ => ?_) fun _ => sendsKept_depart s o
    cases a with
    | none => exact hheld _ _
    | some q => exact sendsKeptFrame.trans (hheld _ _) (sendsKept_xoffCheck _ _)

/-- A packet that is sent has left, or waits at its egress. -/
theorem sends_send (s : State) (a : Option Nat) {o : Output} {p cls : Nat} (h : lineOf o = some (p, cls)) : Sends (s.send a o) p o := by
  unfold State.send
  simp only [h]
  split
  · have hheld : Sends (s.modCoil p (fun c => { c with egress := c.egress ++ [⟨cls, a, o, s.time⟩] })) p o :=
      .inr ⟨_, by rw [coilSt_modCoil]; exact List.mem_append_right _ List.mem_cons_self, rfl⟩
    cases a with
    | none => exact hheld
    | some q => exact (sendsKept_xoffCheck _ _).sends hheld
  · exact .inl (by rw [depart_out]; exact (mem_placeOut o o s.out).mpr (.inl rfl))

/-- What is sent is among what was sent, or the packet. -/
theorem mem_send_out {s : State} {a : Option Nat} {o x : Output} (h : x ∈ (s.send a o).out) : x ∈ s.out ∨ x = o := by
  rcases send_out s a o with hs | hs
  · rw [hs, mem_placeOut] at h
    exact h.symm
  · exact .inl (hs ▸ h)

/-- A packet of the device's own changes outputs and the records of the ports alone. -/
theorem sendOwn_eq (s : State) (o : Output) : s.send none o = { s with coil := (s.send none o).coil, out := (s.send none o).out } := by
  unfold State.send
  split
  · rfl
  · split
    · rfl
    · exact depart_frame s o

/-! Sending to several ports. -/

/-- Two states differ in their outputs and in the records of the ports alone. -/
def OnlySent (s t : State) : Prop := t = { s with coil := t.coil, out := t.out }

theorem onlySent_refl (s : State) : OnlySent s s := rfl

theorem OnlySent.trans {s t u : State} (h : OnlySent s t) (h' : OnlySent t u) : OnlySent s u := by
  unfold OnlySent at *
  rw [h', h]

theorem OnlySent.regs {s t : State} (h : OnlySent s t) : t.regs = s.regs := by rw [h]

theorem OnlySent.red {s t : State} (h : OnlySent s t) : t.red = s.red := by rw [h]

theorem onlySent_send (s : State) (o : Output) : OnlySent s (s.send none o) := sendOwn_eq s o

theorem onlySent_modCoil (s : State) (p : Nat) (f : CoilSt → CoilSt) : OnlySent s (s.modCoil p f) := rfl

/-- What holds of each step of a fold, for an invariant of it. -/
theorem each_all {α : Type} {Inv : State → Prop} {P : α → State → Prop} {f : State → α → State} {xs : List α}
    (hstep : ∀ t, Inv t → ∀ x ∈ xs, Inv (f t x) ∧ P x (f t x)) (hkeep : ∀ t, Inv t → ∀ x ∈ xs, ∀ y, P y t → P y (f t x)) {s : State} (h0 : Inv s) :
    Inv (s.each xs f) ∧ ∀ x ∈ xs, P x (s.each xs f) := by
  have hall : ∀ (ys : List α) (t : State), (∀ x ∈ ys, x ∈ xs) → Inv t →
      Inv (t.each ys f) ∧ (∀ x ∈ ys, P x (t.each ys f)) ∧ ∀ y, P y t → P y (t.each ys f) := by
    intro ys
    induction ys with
    | nil => exact fun t _ ht => ⟨ht, fun _ h => absurd h List.not_mem_nil, fun _ h => h⟩
    | cons y ys ih =>
      intro t hys ht
      obtain ⟨hinv, hp⟩ := hstep t ht y (hys y List.mem_cons_self)
      obtain ⟨h1, h2, h3⟩ := ih (f t y) (fun x hx => hys x (List.mem_cons_of_mem _ hx)) hinv
      refine ⟨h1, fun x hx => ?_, fun z hz => h3 z (hkeep t ht y (hys y List.mem_cons_self) z hz)⟩
      rcases List.mem_cons.mp hx with rfl | hx
      · exact h3 _ hp
      · exact h2 x hx
  obtain ⟨h1, h2, -⟩ := hall xs s (fun _ h => h) h0
  exact ⟨h1, h2⟩

/-- A packet of the device's own for each of several ports that meets a test: each is sent, what was sent stays, and nothing else happens. -/
theorem each_sendsIf {α : Type} {s : State} {xs : List α} {f : State → α → State} {b : α → Bool} {port : α → Nat} {pkt : α → Output}
    (hstep : ∀ t, OnlySent s t → ∀ x ∈ xs, f t x = t.cond (b x) (fun u => u.send none (pkt x)))
    (hline : ∀ x ∈ xs, ∃ cls, lineOf (pkt x) = some (port x, cls)) :
    OnlySent s (s.each xs f) ∧ SendsKept s (s.each xs f) ∧ (∀ x ∈ xs, b x = true → Sends (s.each xs f) (port x) (pkt x)) ∧
    ∀ o ∈ (s.each xs f).out, o ∈ s.out ∨ ∃ x ∈ xs, o = pkt x := by
  have h := each_all (Inv := fun t => OnlySent s t ∧ SendsKept s t ∧ ∀ o ∈ t.out, o ∈ s.out ∨ ∃ x ∈ xs, o = pkt x)
    (P := fun x t => b x = true → Sends t (port x) (pkt x)) (f := f) (xs := xs) (fun t ⟨ht, hk, ho⟩ x hx => ?_)
    (fun t ⟨ht, _, _⟩ x hx y hy hb => ?_) (s := s) ⟨onlySent_refl s, sendsKeptFrame.refl s, fun _ h => .inl h⟩
  · obtain ⟨⟨h1, h2, h3⟩, h4⟩ := h
    exact ⟨h1, h2, h4, h3⟩
  · obtain ⟨cls, hcls⟩ := hline x hx
    rw [hstep t ht x hx]
    cases hb : b x with
    | false => exact ⟨⟨ht, hk, ho⟩, fun h => absurd h (by decide)⟩
    | true =>
      refine ⟨⟨ht.trans (onlySent_send t _), sendsKeptFrame.trans hk (sendsKept_send t none _), fun o hm => ?_⟩, fun _ => sends_send t none hcls⟩
      rcases mem_send_out (show o ∈ (t.send none (pkt x)).out from hm) with hm | hm
      · exact ho o hm
      · exact .inr ⟨x, hx, hm⟩
  · rw [hstep t ht x hx]
    exact (sendsKeptFrame.cond fun _ => sendsKept_send t none _ : SendsKept t _).sends (hy hb)

/-- One packet of the device's own for each of several ports. -/
theorem each_sends {α : Type} {s : State} {xs : List α} {f : State → α → State} {port : α → Nat} {pkt : α → Output}
    (hstep : ∀ t, OnlySent s t → ∀ x ∈ xs, f t x = t.send none (pkt x)) (hline : ∀ x ∈ xs, ∃ cls, lineOf (pkt x) = some (port x, cls)) :
    OnlySent s (s.each xs f) ∧ SendsKept s (s.each xs f) ∧ (∀ x ∈ xs, Sends (s.each xs f) (port x) (pkt x)) ∧
    ∀ o ∈ (s.each xs f).out, o ∈ s.out ∨ ∃ x ∈ xs, o = pkt x := by
  obtain ⟨h1, h2, h3, h4⟩ := each_sendsIf (b := fun _ => true) (fun t ht x hx => (hstep t ht x hx).trans rfl) hline
  exact ⟨h1, h2, fun x hx => h3 x hx rfl, h4⟩

end Sys2Proof.Proofs.Sending

/-!
THEOREMS. Relinquishing, feed requests at a sender and the watch of a looped coil (10 R278, R279, R283, R285). Settles O25.
-/

namespace Sys2Proof.Proofs.Relinquish
open Sys2Proof.Machine Sys2Proof.Laws Sys2Proof.Proofs.Frames Sys2Proof.Proofs.FieldRules Sys2Proof.Proofs.Framing Sys2Proof.Proofs.CoilFrames
  Sys2Proof.Proofs.LinkFrames Sys2Proof.Proofs.Sending

/-- The copy of the RELINQUISH that leaves by a port. -/
def copyOf (s : State) (copy p : Nat) : Output := .relinquish p (s.ownHeader ptRELINQUISH true false p) s.epoch (s.rd R.RED.GROUNDS) copy false

/-- The port is ACTIVE or SERVING. -/
def feeds (s : State) (p : Nat) : Bool := s.portState p == psACTIVE || s.portState p == psSERVING

theorem feeds_iff (s : State) (p : Nat) : feeds s p = true ↔ s.portState p = psACTIVE ∨ s.portState p = psSERVING := by simp [feeds]

/-- A copy of the RELINQUISH for every port that feeds a coil and can send, and nothing else. -/
theorem sendRelinquish_shows (s : State) (copy : Nat) :
    OnlySent s (s.sendRelinquish copy) ∧
    (∀ p ∈ s.ports, feeds s p = true → s.canSend p = true → Sends (s.sendRelinquish copy) p (copyOf s copy p)) ∧
    ∀ o ∈ (s.sendRelinquish copy).out, o ∈ s.out ∨ ∃ p ∈ s.ports, o = copyOf s copy p ∧ feeds s p = true := by
  have h := each_sendsIf (s := s) (xs := s.ports.filter (feeds s)) (b := s.canSend) (port := fun p => p) (pkt := copyOf s copy)
    (f := fun t p => t.cond (t.canSend p) (fun u => u.send none (copyOf u copy p))) (fun t ht p _ => by rw [ht]; rfl) (fun p _ => ⟨_, rfl⟩)
  obtain ⟨h1, -, h3, h4⟩ := h
  refine ⟨h1, fun p hp hf hc => h3 p (List.mem_filter.mpr ⟨hp, hf⟩) hc, fun o ho => ?_⟩
  rcases h4 o ho with ho | ⟨p, hp, ho⟩
  · exact .inl ho
  · exact .inr ⟨p, (List.mem_filter.mp hp).1, ho, (List.mem_filter.mp hp).2⟩

/-! RELINQUISH_NOW. -/

/-- What RELINQUISH_NOW shows. -/
def relinquished (s : State) : State :=
  ((((s.inc R.RED.CNT_RELINQUISH).wr R.RED.RELINQUISHED 1).wr R.RED.GROUNDS (2 ^ grMANUAL)).wr R.RED.RELINQUISH_EPOCH (s.inc R.RED.CNT_RELINQUISH).epoch).raise R.RED.ev_RELINQUISH

/-- The traffic of a sender that relinquishes stops. -/
def stopped (s : State) : State :=
  ({ relinquished s with red := { (relinquished s).red with relCopies := 1, relWatchdog := decide (grMANUAL = 3) } } : State).stopTraffic

/-- The fields that decide by which ports the copies leave, and what stands in them. -/
def copyFields (p : Nat) : List Fld :=
  [R.GLB.STATE, R.GLB.EPOCH, R.COIL.LINK p, R.COIL.st_TOPOLOGY_LOOP p, ⟨0x090, 0x600, 2 * p, 2⟩]

theorem relinquished_stays {p : Nat} (hp : p < 16) (s : State) : Stays (fun s => (s.role, s.member, s.aon, s.red, s.coil)) (copyFields p) s (relinquished s) := by
  have h := staysFrame (F := fun s : State => (s.role, s.member, s.aon, s.red, s.coil)) (fun _ _ _ => rfl) (copyFields p)
  unfold relinquished
  refine h.trans (h.trans (h.trans (h.trans (h.inc s ?_) (h.wr _ _ ?_)) (h.wr _ _ ?_)) (h.wr _ _ ?_)) (h.raise _ ?_ (by decide))
  all_goals interval_cases p <;> decide

theorem stopTraffic_sent (s : State) : OnlySent s s.stopTraffic := by
  unfold State.stopTraffic
  exact each_keeps (P := fun t => OnlySent s t) s.ports (fun t p ht => ht.trans (onlySent_modCoil t p _)) (onlySent_refl s)

theorem stopped_out (s : State) : (stopped s).out = s.out := by
  have h := partFrame (F := State.out) fun _ _ _ => rfl
  have hrel : (relinquished s).out = s.out := by
    unfold relinquished
    exact h.trans (h.trans (h.trans (h.trans (h.inc s rfl) (h.wr _ _ rfl)) (h.wr _ _ rfl)) (h.wr _ _ rfl)) (h.raise _ rfl (by decide))
  unfold stopped State.stopTraffic
  refine Eq.trans ?_ hrel
  exact each_keeps (P := fun t => t.out = (relinquished s).out) _ (fun t p ht => (show (t.dropHeld p _).out = t.out from rfl).trans ht) rfl

theorem ground_manual {s : State} (hrole : s.role = .sender) (hrel : s.flag R.RED.RELINQUISHED = false) :
    s.ground grMANUAL = (stopped s).sendRelinquish 1 := by
  have hflag : (s.inc R.RED.CNT_RELINQUISH).flag R.RED.RELINQUISHED = false := by
    refine Eq.trans (congrArg (· != 0) ?_) hrel
    exact rd_wr_sep s _ (by decide)
  unfold State.ground
  rw [if_neg (by rw [hrole]; decide), if_neg (by simp), if_neg (by rw [hflag]; decide)]
  rfl

/-- What the registers show once the sender has relinquished. -/
theorem relinquished_shows (s : State) :
    (relinquished s).rd R.RED.RELINQUISHED = 1 ∧ (relinquished s).rd R.RED.GROUNDS = 64 ∧
    (relinquished s).rd R.RED.RELINQUISH_EPOCH = s.epoch % 2 ^ 32 ∧ Counted s (relinquished s) R.RED.CNT_RELINQUISH ∧
    Pending (relinquished s) R.RED.ev_RELINQUISH := by
  refine ⟨?_, ?_, ?_, ?_, pending_raise _ (by decide)⟩
  · exact (rd_raise_sep _ (by decide)).trans ((rd_wr_sep _ _ (by decide)).trans ((rd_wr_sep _ _ (by decide)).trans (rd_wr_own _ _ (by decide))))
  · exact (rd_raise_sep _ (by decide)).trans ((rd_wr_sep _ _ (by decide)).trans (rd_wr_own _ _ (by decide)))
  · refine (rd_raise_sep _ (by decide)).trans ((rd_wr_own _ _ (by decide)).trans (congrArg (· % 2 ^ 32) ?_))
    exact rd_wr_sep s _ (by decide)
  · refine (rd_raise_sep _ (by decide)).trans ((rd_wr_sep _ _ (by decide)).trans ((rd_wr_sep _ _ (by decide)).trans ((rd_wr_sep _ _ (by decide)).trans ?_)))
    exact rd_incBy_same s rfl rfl 1

/-- The same ports feed a coil, and can send, in a state that differs in what RELINQUISH_NOW shows. -/
theorem stopped_ports (s : State) {p : Nat} (hp : p < 16) : feeds (stopped s) p = feeds s p ∧ (stopped s).canSend p = s.canSend p := by
  obtain ⟨hpart, hrd, -⟩ := relinquished_stays hp s
  have hst : OnlySent { relinquished s with red := { (relinquished s).red with relCopies := 1, relWatchdog := decide (grMANUAL = 3) } } (stopped s) := stopTraffic_sent _
  have hport : (relinquished s).portState p = s.portState p := hrd ⟨0x090, 0x600, 2 * p, 2⟩ (by simp [copyFields])
  have hstate : (relinquished s).stateCode = s.stateCode := hrd R.GLB.STATE (by simp [copyFields])
  have hlink : (relinquished s).rd (R.COIL.LINK p) = s.rd (R.COIL.LINK p) := hrd _ (by simp [copyFields])
  have hloop : (relinquished s).rd (R.COIL.st_TOPOLOGY_LOOP p) = s.rd (R.COIL.st_TOPOLOGY_LOOP p) := hrd _ (by simp [copyFields])
  have haon : (relinquished s).aon = s.aon := congrArg (fun x => x.2.2.1) hpart
  rw [hst]
  refine ⟨?_, ?_⟩
  · show ((relinquished s).portState p == psACTIVE || (relinquished s).portState p == psSERVING) = _
    rw [hport]
    rfl
  · show ((relinquished s).canSend p) = _
    unfold State.canSend State.isUp State.running State.flag
    rw [hstate, hlink, hloop, haon]

theorem rd_setPortState {p : Nat} (hp : p < 16) (s : State) {v : Nat} (hv : v < 4) : (s.setPortState p v).portState p = v :=
  (rd_wr_own s v (by interval_cases p <;> decide)).trans (Nat.mod_eq_of_lt hv)

/-! A feed request (10 R283). -/

/-- A feed request is counted and shown. -/
def feedreqShown (port node cause : Nat) (s : State) : State :=
  ((((s.wr R.RED.FEEDREQ_NODE node).wr R.RED.FEEDREQ_CAUSE cause).wr R.RED.FEEDREQ_PORT port).inc R.RED.CNT_FEEDREQ_RX).raise R.RED.ev_FEEDREQ_RX

theorem feedreqShown_shows {port node cause : Nat} (hp : port < 16) (s : State) :
    (feedreqShown port node cause s).rd R.RED.FEEDREQ_NODE = node % 2 ^ 14 ∧ (feedreqShown port node cause s).rd R.RED.FEEDREQ_CAUSE = cause % 2 ^ 2 ∧
    (feedreqShown port node cause s).rd R.RED.FEEDREQ_PORT = port ∧ Counted s (feedreqShown port node cause s) R.RED.CNT_FEEDREQ_RX ∧
    Pending (feedreqShown port node cause s) R.RED.ev_FEEDREQ_RX := by
  refine ⟨?_, ?_, ?_, ?_, pending_raise _ (by decide)⟩
  · exact (rd_raise_sep _ (by decide)).trans ((rd_wr_sep _ _ (by decide)).trans ((rd_wr_sep _ _ (by decide)).trans ((rd_wr_sep _ _ (by decide)).trans
      (rd_wr_own _ _ (by decide)))))
  · exact (rd_raise_sep _ (by decide)).trans ((rd_wr_sep _ _ (by decide)).trans ((rd_wr_sep _ _ (by decide)).trans (rd_wr_own _ _ (by decide))))
  · exact (rd_raise_sep _ (by decide)).trans ((rd_wr_sep _ _ (by decide)).trans ((rd_wr_own _ _ (by decide)).trans (Nat.mod_eq_of_lt hp)))
  · refine (rd_raise_sep _ (by decide)).trans ((rd_incBy_same _ rfl rfl 1).trans ?_)
    rw [rd_wr_sep _ _ (by decide), rd_wr_sep _ _ (by decide), rd_wr_sep _ _ (by decide)]

/-- What decides on a feed request. -/
def feedFields (p : Nat) : List Fld := [R.RED.RELINQUISHED, ⟨0x090, 0x600, 2 * p, 2⟩, R.RED.SERVE.live, R.RED.CNT_FEEDREQ_REFUSED]

theorem feedreqShown_stays {port : Nat} (hp : port < 16) (node cause : Nat) (s : State) :
    Stays (fun _ => ()) (feedFields port) s (feedreqShown port node cause s) := by
  have h := staysFrame (F := fun _ : State => ()) (fun _ _ _ => rfl) (feedFields port)
  unfold feedreqShown
  refine h.trans (h.trans (h.trans (h.trans (h.wr s _ ?_) (h.wr _ _ ?_)) (h.wr _ _ ?_)) (h.inc _ ?_)) (h.raise _ ?_ (by decide))
  all_goals interval_cases port <;> decide

/-- The request is refused. -/
def feedRefused (port : Nat) (s : State) : Bool :=
  s.flag R.RED.RELINQUISHED || (s.portState port == psSTANDBY && !(s.lv R.RED.SERVE).testBit port) || s.portState port == psOFF

theorem feedRefused_shown {port : Nat} (hp : port < 16) (node cause : Nat) (s : State) :
    feedRefused port (feedreqShown port node cause s) = feedRefused port s := by
  have hrd := (feedreqShown_stays hp node cause s).rd
  have hrel : (feedreqShown port node cause s).flag R.RED.RELINQUISHED = s.flag R.RED.RELINQUISHED :=
    congrArg (· != 0) (hrd _ (by simp [feedFields]))
  have hport : (feedreqShown port node cause s).portState port = s.portState port := hrd ⟨0x090, 0x600, 2 * port, 2⟩ (by simp [feedFields])
  have hserve : (feedreqShown port node cause s).lv R.RED.SERVE = s.lv R.RED.SERVE := hrd R.RED.SERVE.live (by simp [feedFields])
  unfold feedRefused
  rw [hrel, hport, hserve]

theorem senderFeedreqFx_eq (port node cause : Nat) (s : State) : senderFeedreqFx port node cause s =
    (let u := feedreqShown port node cause s
    if feedRefused port u then u.incRaise R.RED.CNT_FEEDREQ_REFUSED R.RED.ev_FEEDREQ_REFUSED
    else if u.portState port = psACTIVE then u
    else (u.cond (u.portState port == psSTANDBY) (fun s =>
      ((s.setPortState port psSERVING).modCoil port
        (fun c => { c with serveFrom := if s.frm.ticked then s.firstTick s.time else s.epoch })).splitLevel)).serveNode port node) := rfl

/-- What a feed request shows. -/
def shownFields : List Fld := [R.RED.FEEDREQ_NODE, R.RED.FEEDREQ_CAUSE, R.RED.FEEDREQ_PORT, R.RED.CNT_FEEDREQ_RX, R.RED.CNT_FEEDREQ_REFUSED]

theorem splitLevel_stays (fs : List Fld) (hq : quietFor fs 0x090 = true) (s : State) : Stays (fun _ : State => ()) fs s s.splitLevel :=
  (staysFrame (fun _ _ _ => rfl) fs).level s _ hq (by decide)

theorem serveNode_stays (fs : List Fld) (s : State) (port node : Nat) : Stays (fun _ : State => ()) fs s (s.serveNode port node) := by
  have h := staysFrame (F := fun _ : State => ()) (fun _ _ _ => rfl) fs
  unfold State.serveNode
  exact h.ite (fun _ => h.refl s) fun _ => .other rfl rfl

/-- A STANDBY port that serves a feed request. -/
theorem serving_shows {port : Nat} (hp : port < 16) (node : Nat) {u : State} (hu : u.portState port = psSTANDBY) :
    let t := (u.cond (u.portState port == psSTANDBY) (fun s =>
      ((s.setPortState port psSERVING).modCoil port
        (fun c => { c with serveFrom := if s.frm.ticked then s.firstTick s.time else s.epoch })).splitLevel)).serveNode port node
    t.portState port = psSERVING ∧ ∀ f ∈ shownFields, t.rd f = u.rd f := by
  rw [cond_of (by rw [hu]; rfl)]
  have hp' : quietFor [⟨0x090, 0x600, 2 * port, 2⟩] 0x090 = true := by interval_cases port <;> decide
  have hsep : ∀ f ∈ shownFields, sep f ⟨0x090, 0x600, 2 * port, 2⟩ = true := by interval_cases port <;> decide
  refine ⟨?_, fun f hf => ?_⟩
  · refine ((serveNode_stays [⟨0x090, 0x600, 2 * port, 2⟩] _ port node).rd _ List.mem_cons_self).trans ?_
    refine ((splitLevel_stays _ hp' _).rd _ List.mem_cons_self).trans ?_
    exact rd_setPortState hp u (by decide)
  · refine ((serveNode_stays shownFields _ port node).rd f hf).trans (((splitLevel_stays shownFields (by decide) _).rd f hf).trans ?_)
    exact rd_wr_sep u _ (hsep f hf)

/-! The watch of a looped coil (10 R285). -/

/-- A watched port without a far beacon for 1 ms. -/
theorem loopCheck_shows {port : Nat} {s : State} (hb : port ∈ s.red.broken) (hw : (s.lv R.RED.LOOP_CHECK).testBit port = true) :
    let t := ((s.wr R.RED.LOOP_OK (withBit (s.rd R.RED.LOOP_OK) port false)).wr R.RED.FAR_ACTIVE (withBit (s.rd R.RED.FAR_ACTIVE) port false)).loopLevels
    (t.rd R.RED.LOOP_OK).testBit port = false ∧ (t.rd R.RED.FAR_ACTIVE).testBit port = false ∧ t.raw R.RED.ev_LOOP_BROKEN = true ∧ t.mram = s.mram := by
  have hclear (n : Nat) : (withBit n port false).testBit port = false := by rw [LoopEngine.testBit_withBit, if_pos rfl]
  let u : State := (s.wr R.RED.LOOP_OK (withBit (s.rd R.RED.LOOP_OK) port false)).wr R.RED.FAR_ACTIVE (withBit (s.rd R.RED.FAR_ACTIVE) port false)
  have hlv : u.lv R.RED.LOOP_CHECK = s.lv R.RED.LOOP_CHECK := (rd_wr_sep _ _ (by decide)).trans (rd_wr_sep _ _ (by decide))
  have hred : u.red = s.red := (wr_red _ _ _).trans (wr_red _ _ _)
  have hany : u.red.broken.any (fun p => (u.lv R.RED.LOOP_CHECK).testBit p) = true := by
    rw [List.any_eq_true]
    exact ⟨port, by rw [hred]; exact hb, by rw [hlv]; exact hw⟩
  have h := staysFrame (F := State.mram) (fun _ _ _ => rfl) [R.RED.LOOP_OK, R.RED.FAR_ACTIVE]
  have hst : Stays State.mram [R.RED.LOOP_OK, R.RED.FAR_ACTIVE] u u.loopLevels :=
    h.trans (h.level u _ (by decide) (by decide)) (h.level _ _ (by decide) (by decide))
  refine ⟨?_, ?_, ?_, hst.part.trans ((wr_mram _ _ _).trans (wr_mram _ _ _))⟩
  · refine (congrArg (fun n => Nat.testBit n port) ((hst.rd R.RED.LOOP_OK (by simp)).trans
      ((rd_wr_sep _ _ (by decide)).trans (rd_wr_own s _ (by decide))))).trans ?_
    rw [Nat.testBit_mod_two_pow, hclear, Bool.and_false]
  · refine (congrArg (fun n => Nat.testBit n port) ((hst.rd R.RED.FAR_ACTIVE (by simp)).trans (rd_wr_own _ _ (by decide)))).trans ?_
    rw [Nat.testBit_mod_two_pow, hclear, Bool.and_false]
  · unfold State.loopLevels
    rw [hany, raw_level_ne _ (by decide) (by decide)]
    exact raw_level u (by decide) true

/-- Settles O25. -/
theorem sendersRelinquish : Obligations.SendersRelinquish := by
  refine ⟨fun t0 s hs hrel => ⟨_, rfl, ?_⟩, fun t0 s hs hrel h1 h3 => ⟨_, rfl, ?_⟩, fun port node epoch cause t0 s hs hp hup hn hc hrel hst hserve => ⟨_, rfl, ?_⟩,
    fun port node epoch cause t0 s hs hp hup href => ⟨_, rfl, ?_⟩, fun port node epoch cause t0 s hs hp hup hrel hact => ⟨_, rfl, ?_⟩,
    fun port s hs hp hw => ⟨_, rfl, ?_⟩⟩
  · rw [cond_of hs, ground_manual (s := s.atTime t0) ((isSender_iff s).mp hs).2 hrel]
    obtain ⟨honly, hsends, hout⟩ := sendRelinquish_shows (stopped (s.atTime t0)) 1
    obtain ⟨hr, hg, he, hcnt, hpend⟩ := relinquished_shows (s.atTime t0)
    have hst : OnlySent { relinquished (s.atTime t0) with red := { (relinquished (s.atTime t0)).red with relCopies := 1, relWatchdog := decide (grMANUAL = 3) } }
      (stopped (s.atTime t0)) := stopTraffic_sent _
    have hcopy (p : Nat) : copyOf (stopped (s.atTime t0)) 1 p =
        .relinquish p (((stopped (s.atTime t0)).sendRelinquish 1).ownHeader ptRELINQUISH true false p) s.epoch 64 1 false := by
      have hepoch : (stopped (s.atTime t0)).epoch = s.epoch := by
        rw [hst]
        exact (relinquished_stays (p := 0) (by decide) (s.atTime t0)).rd R.GLB.EPOCH (by decide)
      have hgrounds : (stopped (s.atTime t0)).rd R.RED.GROUNDS = 64 := by
        rw [hst]
        exact hg
      rw [copyOf, hepoch, hgrounds, honly]
      rfl
    have hports : (stopped (s.atTime t0)).ports = s.ports := by
      rw [hst]
      have hm : (relinquished (s.atTime t0)).member = s.member :=
        congrArg (fun x => x.2.1) (relinquished_stays (p := 0) (by decide) (s.atTime t0)).part
      show List.range (memberPorts (relinquished (s.atTime t0)).member) = _
      rw [hm]
      rfl
    have honly' := OnlySent.trans hst honly
    refine ⟨?_, ?_, ?_, ?_, ?_, ?_, fun p hp hf hc => ?_, fun o ho => ?_⟩
    · rw [honly']; exact hr
    · rw [honly']; exact hg
    · rw [honly']; exact he
    · rw [honly']; exact hcnt
    · rw [honly']; exact hpend
    · rw [honly']
    · obtain ⟨h1, h2⟩ := stopped_ports (s.atTime t0) (port_lt_of_mem hp)
      rw [← hcopy]
      exact hsends p (hports ▸ hp) (h1.trans ((feeds_iff _ _).mpr hf)) (h2.trans hc)
    · rcases hout o ho with ho | ⟨p, hp, ho, hf⟩
      · rw [stopped_out] at ho
        exact absurd ho List.not_mem_nil
      · rw [hports] at hp
        exact ⟨p, ho.trans (hcopy p), (feeds_iff _ _).mp ((stopped_ports (s.atTime t0) (port_lt_of_mem hp)).1.symm.trans hf)⟩
  · rw [cond_of (by rw [Bool.and_eq_true, Bool.and_eq_true]; exact ⟨⟨hs, hrel⟩, decide_eq_true ⟨h1, h3⟩⟩)]
    let u : State := { s.atTime t0 with red := { s.red with relCopies := s.red.relCopies + 1 } }
    obtain ⟨honly, hsends, hout⟩ := sendRelinquish_shows u (s.red.relCopies + 1)
    refine ⟨?_, ?_, fun p hp hf hc => ?_, fun o ho => ?_⟩
    · exact honly.regs
    · exact congrArg RedSt.relCopies honly.red
    · exact hsends p hp ((feeds_iff _ _).mpr hf) hc
    · rcases hout o ho with ho | ⟨p, -, ho, -⟩
      · exact absurd ho List.not_mem_nil
      · exact ⟨p, ho⟩
  · rw [cond_of (by rw [Bool.and_eq_true, Bool.and_eq_true]; exact ⟨⟨hs, hp⟩, hup⟩)]
    have hp16 := port_lt_of_hasPort hp
    obtain ⟨h1, h2, h3, h4, -⟩ := feedreqShown_shows (node := node) (cause := cause) hp16 (s.atTime t0)
    have hkeep := (feedreqShown_stays hp16 node cause (s.atTime t0)).rd
    have hport : (feedreqShown port node cause (s.atTime t0)).portState port = psSTANDBY :=
      (hkeep ⟨0x090, 0x600, 2 * port, 2⟩ (by simp [feedFields])).trans hst
    have href : feedRefused port (feedreqShown port node cause (s.atTime t0)) = false := by
      rw [feedRefused_shown hp16]
      show (s.flag R.RED.RELINQUISHED || (s.portState port == psSTANDBY && !(s.lv R.RED.SERVE).testBit port) || s.portState port == psOFF) = false
      rw [hrel, hst, hserve]
      decide
    rw [senderFeedreqFx_eq]
    simp only
    rw [if_neg (by rw [href]; decide), if_neg (by rw [hport]; decide)]
    obtain ⟨hs1, hs2⟩ := serving_shows hp16 node hport
    refine ⟨hs1, ?_, ?_, ?_, ?_, ?_⟩
    · exact (hs2 _ (by simp [shownFields])).trans (h1.trans (Nat.mod_eq_of_lt hn))
    · exact (hs2 _ (by simp [shownFields])).trans (h2.trans (Nat.mod_eq_of_lt hc))
    · exact (hs2 _ (by simp [shownFields])).trans h3
    · exact (hs2 _ (by simp [shownFields])).trans h4
    · exact (hs2 _ (by simp [shownFields])).trans (hkeep _ (by simp [feedFields]))
  · rw [cond_of (by rw [Bool.and_eq_true, Bool.and_eq_true]; exact ⟨⟨hs, hp⟩, hup⟩)]
    have hp16 := port_lt_of_hasPort hp
    obtain ⟨-, -, -, h4, -⟩ := feedreqShown_shows (node := node) (cause := cause) hp16 (s.atTime t0)
    have hkeep := (feedreqShown_stays hp16 node cause (s.atTime t0)).rd
    have href' : feedRefused port (feedreqShown port node cause (s.atTime t0)) = true := by
      rw [feedRefused_shown hp16]
      show (s.flag R.RED.RELINQUISHED || (s.portState port == psSTANDBY && !(s.lv R.RED.SERVE).testBit port) || s.portState port == psOFF) = true
      rcases href with h | ⟨h, h'⟩ | h
      · rw [h]; rfl
      · rw [h, h']; simp
      · rw [h]; simp
    rw [senderFeedreqFx_eq]
    simp only
    rw [if_pos href']
    have hrx (u : State) : (u.incRaise R.RED.CNT_FEEDREQ_REFUSED R.RED.ev_FEEDREQ_REFUSED).rd R.RED.CNT_FEEDREQ_RX = u.rd R.RED.CNT_FEEDREQ_RX :=
      (rd_raise_sep _ (by decide)).trans (rd_wr_sep _ _ (by decide))
    have hsep : sep ⟨0x090, 0x600, 2 * port, 2⟩ R.RED.CNT_FEEDREQ_REFUSED = true := by interval_cases port <;> decide
    have hoff : offKey ⟨0x090, 0x600, 2 * port, 2⟩ (evtPendKey 0x090) = true := by interval_cases port <;> decide
    have hst (u : State) : (u.incRaise R.RED.CNT_FEEDREQ_REFUSED R.RED.ev_FEEDREQ_REFUSED).portState port = u.portState port :=
      (rd_raise_sep (e := R.RED.ev_FEEDREQ_REFUSED) (u.inc R.RED.CNT_FEEDREQ_REFUSED) hoff).trans (rd_wr_sep u _ hsep)
    refine ⟨?_, ?_, ?_, pending_raise _ (by decide)⟩
    · refine (hst _).trans ?_
      exact hkeep ⟨0x090, 0x600, 2 * port, 2⟩ (by simp [feedFields])
    · exact (hrx _).trans h4
    · refine (rd_raise_sep _ (by decide)).trans ((rd_incBy_same _ rfl rfl 1).trans ?_)
      exact congrArg (fun n => min (n + 1) 0xFFFFFFFF) (hkeep R.RED.CNT_FEEDREQ_REFUSED (by simp [feedFields]))
  · rw [cond_of (by rw [Bool.and_eq_true, Bool.and_eq_true]; exact ⟨⟨hs, hp⟩, hup⟩)]
    have hp16 := port_lt_of_hasPort hp
    obtain ⟨-, -, -, h4, h5⟩ := feedreqShown_shows (node := node) (cause := cause) hp16 (s.atTime t0)
    have hkeep := (feedreqShown_stays hp16 node cause (s.atTime t0)).rd
    have hport : (feedreqShown port node cause (s.atTime t0)).portState port = psACTIVE :=
      (hkeep ⟨0x090, 0x600, 2 * port, 2⟩ (by simp [feedFields])).trans hact
    have href : feedRefused port (feedreqShown port node cause (s.atTime t0)) = false := by
      rw [feedRefused_shown hp16]
      show (s.flag R.RED.RELINQUISHED || (s.portState port == psSTANDBY && !(s.lv R.RED.SERVE).testBit port) || s.portState port == psOFF) = false
      rw [hrel, hact]
      rfl
    rw [senderFeedreqFx_eq]
    simp only
    rw [if_neg (by rw [href]; decide), if_pos hport]
    refine ⟨?_, hport, h4, hkeep _ (by simp [feedFields]), h5⟩
    unfold feedreqShown
    exact onlyRegs_trans (onlyRegs_trans (onlyRegs_trans (onlyRegs_trans (onlyRegs_trans (onlyRegs_atTime s t0) (onlyRegs_wr _ _ _)) (onlyRegs_wr _ _ _))
      (onlyRegs_wr _ _ _)) (onlyRegs_inc _ _)) (onlyRegs_raise _ _)
  · rw [cond_of (by rw [Bool.and_eq_true, Bool.and_eq_true]; exact ⟨⟨hs, hp⟩, hw⟩)]
    exact loopCheck_shows (s := { s.start with red := { s.red with broken := port :: s.red.broken.filter (· != port) } }) 
      List.mem_cons_self hw

end Sys2Proof.Proofs.Relinquish

/-!
THEOREMS. The shares of the management queue and the ingress buffer of a port (10 R259, R265, R266). Settles O24.
-/

namespace Sys2Proof.Proofs.Shares
open Sys2Proof.Machine Sys2Proof.Laws Sys2Proof.Proofs.Frames Sys2Proof.Proofs.FieldRules Sys2Proof.Proofs.Framing Sys2Proof.Proofs.Sending

theorem xoffCheck_coil (s : State) (p : Nat) : (s.xoffCheck p).coil = s.coil ∧ (s.xoffCheck p).mgmt = s.mgmt ∧ (s.xoffCheck p).member = s.member := by
  have h := partFrame (F := fun s : State => (s.coil, s.mgmt, s.member)) fun _ _ _ => rfl
  have hx := CoilFrames.frame_xoffCheck (p := p) h (fun _ _ => rfl) s
  exact ⟨congrArg Prod.fst hx, congrArg (fun x => x.2.1) hx, congrArg (fun x => x.2.2) hx⟩

/-- The bytes that wait for a port are those of the ports' records. -/
theorem ingressBytes_congr {s t : State} (hc : t.coil = s.coil) (hm : t.member = s.member) (p : Nat) : t.ingressBytes p = s.ingressBytes p := by
  unfold State.ingressBytes State.coilSt State.ports
  rw [hc, hm]

/-- More than 128 KiB that wait set XOFF. -/
theorem xoffCheck_set {s : State} {p : Nat} (hp : p < 16) (h : 131072 < s.ingressBytes p) : (s.xoffCheck p).rd (R.COIL.XOFF_TX p) ≠ 0 := by
  unfold State.xoffCheck
  cases hx : s.flag (R.COIL.XOFF_TX p) with
  | true =>
    rw [cond_of_not (by simp)]
    simpa [State.flag] using hx
  | false =>
    rw [cond_of (by simp [h])]
    have hrd : ((s.wr (R.COIL.XOFF_TX p) 1).inc (R.COIL.CNT_XOFF p)).rd (R.COIL.XOFF_TX p) = 1 := by
      refine (rd_wr_sep _ _ ?_).trans ((rd_wr_own s 1 ?_).trans rfl)
      all_goals interval_cases p <;> decide
    rw [hrd]
    decide

/-- Settles O24. -/
theorem managementQueues : Obligations.ManagementQueues := by
  refine ⟨fun port r s ht hp hup hs hw => ⟨_, rfl, ?_⟩, fun port r s ht hp hup hfull => ⟨_, rfl, ?_⟩, fun port r rs s ht hp hw hs => ⟨_, rfl, ?_⟩,
    fun port s hr hp hi => ⟨_, rfl, ?_⟩⟩
  · rw [cond_of (by rw [Bool.and_eq_true, Bool.and_eq_true]; exact ⟨⟨ht, decide_eq_true hp⟩, hup⟩), mgmtReqReceiveFx]
    rw [if_pos ⟨hs, hw⟩]
    rfl
  · have hne : ¬(s.start.share port < 16 ∧ (s.start.coilSt port).wait = []) := by
      rintro ⟨h1, h2⟩
      rcases hfull with h | h
      · exact absurd h1 (Nat.not_lt.mpr h)
      · exact h h2
    rw [cond_of (by rw [Bool.and_eq_true, Bool.and_eq_true]; exact ⟨⟨ht, decide_eq_true hp⟩, hup⟩), mgmtReqReceiveFx]
    rw [if_neg hne]
    obtain ⟨h1, h2, h3⟩ := xoffCheck_coil (s.start.modCoil port (fun c => { c with wait := c.wait ++ [r] })) port
    refine ⟨h2, ?_, fun hb => xoffCheck_set (by omega) ?_⟩
    · unfold State.coilSt
      rw [h1]
      exact congrArg CoilSt.wait (coilSt_modCoil s.start port _)
    · rwa [ingressBytes_congr h1 h3] at hb
  · rw [cond_of (by rw [Bool.and_eq_true]; exact ⟨ht, decide_eq_true hp⟩)]
    have hw' : (s.start.coilSt port).wait = r :: rs := hw
    have hs' : s.start.share port < 16 := hs
    simp only [hw', hs', if_true]
    exact ⟨rfl, congrArg CoilSt.wait (coilSt_modCoil _ port _), rfl⟩
  · rw [cond_of (by rw [Bool.and_eq_true, Bool.and_eq_true]; exact ⟨⟨hr, hp⟩, decide_eq_true hi⟩)]
    have hp16 := LinkFrames.port_lt_of_hasPort hp
    refine ⟨onlyRegs_trans (onlyRegs_start s) (onlyRegs_wr _ _ _), rd_wr_own _ _ ?_, wordsKept_wr s.start (show 1 ≤ 32 by decide) _⟩
    interval_cases port <;> decide

end Sys2Proof.Proofs.Shares

/-!
THEOREMS. The training of a link, its loss, and its eye (10 R246 to R251, R287; 16 R404). Settles O21.
-/

namespace Sys2Proof.Proofs.Training
open Sys2Proof.Machine Sys2Proof.Laws Sys2Proof.Proofs.Frames Sys2Proof.Proofs.FieldRules Sys2Proof.Proofs.Framing Sys2Proof.Proofs.CoilFrames
  Sys2Proof.Proofs.LinkFrames Sys2Proof.Proofs.Sending

/-- The registers, the events, the outputs and the clock's reading: what a write or an event changes lies there. -/
theorem onlyRegsFrame : Frame OnlyRegs (fun _ => true) (fun _ => true) where
  refl := onlyRegs_refl
  trans := onlyRegs_trans
  wr s f v _ := onlyRegs_wr s f v
  raise s e _ _ := onlyRegs_raise s e
  level s e b _ _ := onlyRegs_level s e b

/-! The state of a link. -/

/-- A link takes a state, and a change of it is announced. -/
theorem setLink_shows {p v : Nat} (hp : p < 16) (hv : v < 4) (s : State) :
    (s.setLink p v).rd (R.COIL.LINK p) = v ∧ (s.rd (R.COIL.LINK p) ≠ v → Pending (s.setLink p v) (R.COIL.ev_LINK_CHANGE p)) := by
  have h := staysFrame (F := fun _ : State => ()) (fun _ _ _ => rfl) [R.COIL.LINK p]
  have hq : quietFor [R.COIL.LINK p] (R.COIL.page p) = true := by interval_cases p <;> decide
  have hlevel (u : State) (b : Bool) : Stays (fun _ => ()) [R.COIL.LINK p] u (u.level (R.COIL.ev_LINK_DOWN p) b) := h.level u b hq (show 1 < 32 by decide)
  unfold State.setLink
  refine ⟨((hlevel _ _).rd _ List.mem_cons_self).trans ?_, fun hne => (hlevel _ _).pend _ ?_⟩
  · split
    · next hl => exact hl
    · refine (rd_raise_sep _ ?_).trans ((rd_wr_own s v ?_).trans (Nat.mod_eq_of_lt hv))
      · interval_cases p <;> decide
      · interval_cases p <;> decide
  · rw [if_neg hne]
    exact pending_raise _ (show 0 < 32 by decide)

/-- The parts of the state that no change of a link touches. -/
def linkParts (s : State) : Role × Member × MramSt × Aon × BootSt := (s.role, s.member, s.mram, s.aon, s.boot)

abbrev LinkStays : List Fld → State → State → Prop := Stays linkParts

theorem linkFrame (fs : List Fld) : Frame (LinkStays fs) (apartFrom fs) (quietFor fs) := staysFrame (fun _ _ _ => rfl) fs

theorem linkFree (fs : List Fld) : LinkFree (LinkStays fs) := fun _ _ _ _ _ _ _ _ => Stays.other rfl rfl

theorem link_modCoil {fs : List Fld} (s : State) (p : Nat) (f : CoilSt → CoilSt) : LinkStays fs s (s.modCoil p f) := Stays.other rfl rfl

theorem link_free {fs : List Fld} (s : State) (n : Nat) : LinkStays fs s { s with free := n } := Stays.other rfl rfl

/-- A tile whose upstream port is lost seeks another, or loses its election. -/
def upstreamLost (p : Nat) (s : State) : State :=
  s.cond (s.role == .tile && decide (p < 2) && s.red.upstream == some p) (fun s => if s.frm.ticked then s.enterFailover fcUPSTREAM_LOST else s.unelect)

theorem leftUp_eq (p : Nat) (s : State) : leftUp p s = upstreamLost p ((s.train p).lost p) := rfl

/-- The fields that the loss of the upstream port writes. -/
def seekFields : List Fld := endFields ++ runEndFields ++ failoverFields ++ roleFields

/-- The pages whose events it raises. -/
def seekPages : List Nat := [0x080, 0x081, 0x0D1, 0x090]

theorem frame_upstreamLost {Rel : State → State → Prop} {W : Fld → Bool} {E : Nat → Bool} (h : Frame Rel W E)
    (hred : ∀ (s : State) (r : RedSt) (c : ClkSt), Rel s { s with red := r, clk := c })
    (hsend : ∀ (s : State) (p : Nat) (hd : Header) (e c : Nat) (st : Bool), Rel s (s.send none (.feedreq p hd e c st)))
    (hphc : ∀ (s : State) (p : PhcSt) (f : FrmSt), Rel s { s with phc := p, frm := f })
    (hW : ∀ f ∈ seekFields, W f = true) (hE : ∀ g ∈ seekPages, E g = true) (p : Nat) (s : State) : Rel s (upstreamLost p s) := by
  have hsub {fs : List Fld} (hfs : fs ⊆ seekFields) : ∀ f ∈ fs, W f = true := fun f hf => hW f (hfs hf)
  have hends : E 0x080 = true ∧ E 0x081 = true := ⟨hE _ (by decide), hE _ (by decide)⟩
  unfold upstreamLost
  refine h.cond fun _ => h.ite (fun _ => ?_) fun _ => ?_
  · exact frame_enterFailover h (fun s r => hred s r s.clk) hsend (hsub fun f hf => by simp [seekFields, hf]) hphc
      (hsub fun f hf => by simp [seekFields, hf]) ⟨hE _ (by decide), hE _ (by decide)⟩ _ _
  · exact frame_unelect h hred (hsub fun f hf => by simp [seekFields, hf]) (hsub fun f hf => by simp [seekFields, hf]) hends _

/-- What stays while a lost port is dealt with, once it is lost. -/
theorem upstreamLost_stays {fs : List Fld} (hW : ∀ f ∈ seekFields, apartFrom fs f = true) (hE : ∀ g ∈ seekPages, quietFor fs g = true) (p : Nat)
    (s : State) : LinkStays fs s (upstreamLost p s) :=
  frame_upstreamLost (linkFrame fs) (fun _ _ _ => Stays.other rfl rfl) (fun s _ _ _ _ _ => frame_sendOwn (linkFrame fs) (linkFree fs).coilFree s _)
    (fun _ _ _ => Stays.other rfl rfl) hW hE p s

/-- What the loss of a port shows. -/
def lostShown (p : Nat) : List Fld := [R.COIL.LINK p, R.COIL.CNT_LINK_DOWN p, R.COIL.PARTNER_VALID p, R.GLB.STATE]

theorem train_shows {p : Nat} (hp : p < 16) (s : State) :
    (s.train p).rd (R.COIL.LINK p) = lkTRAINING ∧ LinkStays [R.COIL.CNT_LINK_DOWN p, R.GLB.STATE] s (s.train p) := by
  refine ⟨?_, ?_⟩
  · unfold State.train
    refine (rd_wr_sep _ _ ?_).trans ((rd_wr_sep _ _ ?_).trans (setLink_shows hp (by decide) s).1)
    all_goals interval_cases p <;> decide
  · refine frame_train (linkFrame _) link_free ?_ ?_ s
    all_goals interval_cases p <;> decide

/-- A port that is lost has left its link state, counted, and forgotten its partner. -/
theorem lost_shows {p : Nat} (hp : p < 16) (s : State) :
    (s.lost p).rd (R.COIL.LINK p) = s.rd (R.COIL.LINK p) ∧ Counted s (s.lost p) (R.COIL.CNT_LINK_DOWN p) ∧
    (s.lost p).rd (R.COIL.PARTNER_VALID p) = 0 ∧ (s.lost p).stateCode = s.stateCode ∧ linkParts (s.lost p) = linkParts s := by
  let u : State := (((((s.inc (R.COIL.CNT_LINK_DOWN p)).modCoil p (fun c => { c with egress := [] })).wr (R.COIL.ALIGNED p) 0).wr
    (R.COIL.DESKEWED p) 0).wr (R.COIL.PARTNER_VALID p) 0).wr (R.COIL.XOFF_RX p) 0
  have h := linkFrame (lostShown p)
  have htail : LinkStays (lostShown p) u (s.lost p) := by
    refine h.trans (h.each fun t _ _ => frame_undeliverable h ?_ ?_ t) (frame_showEnds h ?_ ?_ _)
    · interval_cases p <;> decide
    · interval_cases p <;> decide
    · interval_cases p <;> decide
    · exact ⟨by interval_cases p <;> decide, by interval_cases p <;> decide⟩
  have hkept : LinkStays [R.COIL.LINK p, R.GLB.STATE] s u := by
    have h := linkFrame [R.COIL.LINK p, R.GLB.STATE]
    refine h.trans (h.trans (h.trans (h.trans (h.trans (h.inc s ?_) (link_modCoil _ _ _)) (h.wr _ _ ?_)) (h.wr _ _ ?_)) (h.wr _ _ ?_)) (h.wr _ _ ?_)
    all_goals interval_cases p <;> decide
  have hcnt : LinkStays [R.COIL.CNT_LINK_DOWN p] (s.inc (R.COIL.CNT_LINK_DOWN p)) u := by
    have h := linkFrame [R.COIL.CNT_LINK_DOWN p]
    refine h.trans (h.trans (h.trans (h.trans (link_modCoil _ _ _) (h.wr _ _ ?_)) (h.wr _ _ ?_)) (h.wr _ _ ?_)) (h.wr _ _ ?_)
    all_goals interval_cases p <;> decide
  have hvalid : u.rd (R.COIL.PARTNER_VALID p) = 0 := (rd_wr_sep _ _ (by interval_cases p <;> decide)).trans (rd_wr_own _ _ (by interval_cases p <;> decide))
  refine ⟨?_, ?_, ?_, ?_, htail.part.trans hkept.part⟩
  · exact (htail.rd _ (by simp [lostShown])).trans (hkept.rd _ (by simp))
  · exact (htail.rd _ (by simp [lostShown])).trans ((hcnt.rd _ (by simp)).trans (rd_incBy_same s rfl rfl 1))
  · exact (htail.rd _ (by simp [lostShown])).trans hvalid
  · exact (htail.rd R.GLB.STATE (by simp [lostShown])).trans (hkept.rd R.GLB.STATE (by simp))

/-- A port that leaves UP. -/
theorem leftUp_shows {p : Nat} (hp : p < 16) (s : State) :
    (leftUp p s).rd (R.COIL.LINK p) = lkTRAINING ∧ Counted s (leftUp p s) (R.COIL.CNT_LINK_DOWN p) ∧
    (leftUp p s).rd (R.COIL.PARTNER_VALID p) = 0 ∧ (leftUp p s).stateCode = s.stateCode ∧ linkParts (leftUp p s) = linkParts s := by
  have htail : LinkStays (lostShown p) ((s.train p).lost p) (leftUp p s) := by
    rw [leftUp_eq]
    refine upstreamLost_stays ?_ ?_ p _
    all_goals interval_cases p <;> decide
  obtain ⟨h1, h2, h3, h4, h5⟩ := lost_shows hp (s.train p)
  obtain ⟨ht, hst⟩ := train_shows hp s
  refine ⟨(htail.rd _ (by simp [lostShown])).trans (h1.trans ht), ?_, (htail.rd _ (by simp [lostShown])).trans h3,
    (htail.rd R.GLB.STATE (by simp [lostShown])).trans (h4.trans (hst.rd R.GLB.STATE (by simp))), htail.part.trans (h5.trans hst.part)⟩
  refine (htail.rd _ (by simp [lostShown])).trans (h2.trans ?_)
  rw [hst.rd _ (by simp)]

/-! The reset that waits for a response to leave (10 R274, log 204). -/

/-- No discovery response waits at a port. -/
def noRsp (p : Nat) (s : State) : Prop := (s.coilSt p).egress.any Held.isRsp = false

/-- From one state to another a port at which no response waits stays so. -/
def RspFree (p : Nat) (s t : State) : Prop := noRsp p s → noRsp p t

theorem rspFreeFrame (p : Nat) : Frame (RspFree p) (fun _ => true) (fun _ => true) where
  refl _ h := h
  trans h h' hs := h' (h hs)
  wr s f v _ h := by unfold noRsp State.coilSt at *; rw [wr_coil]; exact h
  raise s e _ _ h := by unfold noRsp State.coilSt at *; rw [raise_coil]; exact h
  level s e b _ _ h := by unfold noRsp State.coilSt at *; rw [level_coil]; exact h

theorem rspFree_send (p : Nat) (s : State) (q : Nat) (hd : Header) (e c : Nat) (st : Bool) : RspFree p s (s.send none (.feedreq q hd e c st)) := by
  intro h
  unfold State.send
  simp only [show lineOf (.feedreq q hd e c st) = some (q, classOf ptFEEDREQ) from rfl]
  split
  · by_cases hq : p = q
    · subst hq
      rw [noRsp, coilSt_modCoil, List.any_append, h]
      rfl
    · rw [noRsp, coilSt_modCoil_ne s hq]
      exact h
  · exact h

/-- What the loss of a port leaves waiting there is no response. -/
theorem leftUp_noRsp (p : Nat) (s : State) : noRsp p (leftUp p s) := by
  have h := rspFreeFrame p
  have hlost : noRsp p ((s.train p).lost p) := by
    unfold State.lost
    refine h.trans (h.each fun t _ _ => frame_undeliverable h rfl rfl t) (frame_showEnds h (fun _ _ => rfl) ⟨rfl, rfl⟩ _) ?_
    refine h.trans (h.trans (h.trans (h.wr _ _ rfl) (h.wr _ _ rfl)) (h.wr _ _ rfl)) (h.wr _ _ rfl) ?_
    rw [noRsp, coilSt_modCoil]
    rfl
  rw [leftUp_eq]
  exact frame_upstreamLost h (fun _ _ _ h => h) (rspFree_send p) (fun _ _ _ h => h) (fun _ _ => rfl) (fun _ _ => rfl) p _ hlost

/-- A reset that waited for a response to leave by a lost port comes at once. -/
theorem leaveUp_resets {p : Nat} (hp : p < 16) {s : State} (h : s.boot.coilDue = some p) : CoreWasReset s (s.leaveUp p) rcCOIL := by
  have hparts := (leftUp_shows hp s).2.2.2.2
  unfold linkParts at hparts
  simp only [Prod.mk.injEq] at hparts
  obtain ⟨hrole, hmember, hmram, haon, hboot⟩ := hparts
  have hreset : s.leaveUp p = (leftUp p s).coreReset rcCOIL := by
    rw [leaveUp_eq, State.resetAfterRsp, hboot, h]
    exact cond_of (by rw [leftUp_noRsp p s]; rfl) _ _
  rw [hreset]
  exact Resets.coreReset_of_kept rcCOIL hrole hmember hmram haon

/-! A link that comes up. -/

theorem bringUp_shows {p : Nat} (hp : p < 16) (s : State) :
    (s.bringUp p).rd (R.COIL.LINK p) = lkUP ∧ (s.bringUp p).rd (R.COIL.ALIGNED p) = 3 ∧ (s.bringUp p).rd (R.COIL.DESKEWED p) = 1 ∧
    (s.rd (R.COIL.LINK p) ≠ lkUP → Pending (s.bringUp p) (R.COIL.ev_LINK_CHANGE p)) ∧
    LinkStays [R.GLB.STATE] s (s.bringUp p) := by
  let fs : List Fld := [R.COIL.LINK p, R.COIL.ALIGNED p, R.COIL.DESKEWED p]
  let v : State := ({ s with free := s.free + 1 } : State).wr (R.COIL.SKEW p) (Config.freeVal s.free % 10001)
  let u : State := ((((v.setLink p lkUP).wr (R.COIL.LOS p) 0).wr (R.COIL.LOL p) 0).wr (R.COIL.ALIGNED p) 3).wr (R.COIL.DESKEWED p) 1
  have hends (fs : List Fld) (hW : ∀ f ∈ endFields, apartFrom fs f = true) (hE : quietFor fs 0x080 = true ∧ quietFor fs 0x081 = true) :
      LinkStays fs u (s.bringUp p) := (linkFrame fs).trans (link_modCoil _ _ _) (frame_showEnds (linkFrame fs) hW hE _)
  have hend : LinkStays fs u (s.bringUp p) := by
    refine hends fs ?_ ⟨?_, ?_⟩
    all_goals simp only [fs]; interval_cases p <;> decide
  have hv : v.rd (R.COIL.LINK p) = s.rd (R.COIL.LINK p) := rd_wr_sep _ _ (by interval_cases p <;> decide)
  obtain ⟨hlink, hpend⟩ := setLink_shows hp (v := lkUP) (by decide) v
  have hset : LinkStays [R.COIL.LINK p] (v.setLink p lkUP) u := by
    have h := linkFrame [R.COIL.LINK p]
    refine h.trans (h.trans (h.trans (h.wr _ _ ?_) (h.wr _ _ ?_)) (h.wr _ _ ?_)) (h.wr _ _ ?_)
    all_goals interval_cases p <;> decide
  refine ⟨?_, ?_, ?_, fun hne => hend.pend _ (hset.pend _ (hpend (by rw [hv]; exact hne))), ?_⟩
  · exact (hend.rd _ (by simp [fs])).trans ((hset.rd _ (by simp)).trans hlink)
  · refine (hend.rd _ (by simp [fs])).trans ((rd_wr_sep _ _ ?_).trans ((rd_wr_own _ _ ?_).trans rfl))
    all_goals interval_cases p <;> decide
  · refine (hend.rd _ (by simp [fs])).trans ((rd_wr_own _ _ ?_).trans rfl)
    interval_cases p <;> decide
  · have h := linkFrame [R.GLB.STATE]
    refine h.trans ?_ (hends _ (by decide) (by decide))
    refine h.trans (h.trans (h.trans (h.trans (h.trans ?_ (frame_setLink h ?_ ?_ _ _)) (h.wr _ _ ?_)) (h.wr _ _ ?_)) (h.wr _ _ ?_)) (h.wr _ _ ?_)
    · exact h.trans (link_free _ _) (h.wr _ _ (by interval_cases p <;> decide))
    all_goals interval_cases p <;> decide

/-- The images that a boot-mode port gets change no register. -/
theorem bootRepeat_stays (fs : List Fld) (s : State) (p : Nat) : LinkStays fs s (s.bootRepeat p) := by
  have h := linkFrame fs
  unfold State.bootRepeat
  exact h.cond fun _ => h.each fun _ _ _ => h.each fun _ _ _ => frame_sendOwn h (linkFree fs).coilFree _ _

/-! Uncorrectable codewords. -/

/-- An uncorrectable codeword counts, and those in a row are counted up. -/
def codewordCounted (port : Nat) (next : Bool) (s : State) : State :=
  (s.incRaise (R.COIL.CNT_FEC_UNCORR port) (R.COIL.ev_FEC_UNCORR port)).modCoil port (fun c => { c with ucRun := if next then c.ucRun + 1 else 1 })

theorem codewordFx_eq (port : Nat) (next : Bool) (s : State) : codewordFx port next s =
    (codewordCounted port next s).cond (decide (4 ≤ ((codewordCounted port next s).coilSt port).ucRun) &&
      (codewordCounted port next s).rd (R.COIL.LINK port) == lkUP)
    (fun s => (s.leaveUp port).modCoil port (fun c => { c with ucRun := 0 })) := rfl

theorem codewordCounted_shows {port : Nat} (hp : port < 16) (next : Bool) (s : State) :
    Counted s (codewordCounted port next s) (R.COIL.CNT_FEC_UNCORR port) ∧ Pending (codewordCounted port next s) (R.COIL.ev_FEC_UNCORR port) ∧
    (codewordCounted port next s).rd (R.COIL.LINK port) = s.rd (R.COIL.LINK port) ∧
    (codewordCounted port next s).rd (R.COIL.CNT_LINK_DOWN port) = s.rd (R.COIL.CNT_LINK_DOWN port) ∧
    ((codewordCounted port next s).coilSt port).ucRun = (if next then (s.coilSt port).ucRun + 1 else 1) ∧
    (codewordCounted port next s).boot = s.boot := by
  have h : LinkStays [R.COIL.LINK port, R.COIL.CNT_LINK_DOWN port] s (codewordCounted port next s) := by
    have h := linkFrame [R.COIL.LINK port, R.COIL.CNT_LINK_DOWN port]
    refine h.trans (h.incRaise s ?_ ?_ (show 3 < 32 by decide)) (link_modCoil _ _ _)
    all_goals interval_cases port <;> decide
  have hcoil : (s.incRaise (R.COIL.CNT_FEC_UNCORR port) (R.COIL.ev_FEC_UNCORR port)).coilSt port = s.coilSt port := by
    unfold State.coilSt
    exact congrArg (fun c => smGet coilDefault c port) ((raise_coil _ _).trans (wr_coil _ _ _))
  refine ⟨?_, pending_raise _ (show 3 < 32 by decide), h.rd _ (by simp), h.rd _ (by simp), ?_, congrArg (fun x => x.2.2.2.2) h.part⟩
  · exact (rd_raise_sep _ (by interval_cases port <;> decide)).trans (rd_incBy_same s rfl rfl 1)
  · refine (congrArg CoilSt.ucRun (coilSt_modCoil _ port _)).trans ?_
    rw [hcoil]

/-! The eye. -/

theorem eye_shows {port : Nat} (hp : port < 16) (e0 e1 : Nat) (s : State) :
    let t := ((s.wr (R.COIL.EYE0 port) (min e0 1000)).wr (R.COIL.EYE1 port) (min e1 1000)).level (R.COIL.ev_EYE_LOW port)
      (decide (min e0 e1 < s.lv (R.COIL.EYE_MIN port)))
    t.rd (R.COIL.EYE0 port) = min e0 1000 ∧ t.rd (R.COIL.EYE1 port) = min e1 1000 ∧
    t.raw (R.COIL.ev_EYE_LOW port) = decide (min e0 e1 < s.lv (R.COIL.EYE_MIN port)) := by
  have h := linkFrame [R.COIL.EYE0 port, R.COIL.EYE1 port]
  have hq : quietFor [R.COIL.EYE0 port, R.COIL.EYE1 port] (R.COIL.page port) = true := by interval_cases port <;> decide
  have hlevel (u : State) (b : Bool) : LinkStays [R.COIL.EYE0 port, R.COIL.EYE1 port] u (u.level (R.COIL.ev_EYE_LOW port) b) :=
    h.level u b hq (show 2 < 32 by decide)
  refine ⟨?_, ?_, raw_level _ (show 2 < 32 by decide) _⟩
  · refine ((hlevel _ _).rd _ (by simp)).trans ((rd_wr_sep _ _ ?_).trans ((rd_wr_own _ _ ?_).trans (Nat.mod_eq_of_lt ?_)))
    · interval_cases port <;> decide
    · interval_cases port <;> decide
    · exact (Nat.min_le_right _ _).trans_lt (show 1000 < 2 ^ 10 by decide)
  · refine ((hlevel _ _).rd _ (by simp)).trans ((rd_wr_own _ _ ?_).trans (Nat.mod_eq_of_lt ?_))
    · interval_cases port <;> decide
    · exact (Nat.min_le_right _ _).trans_lt (show 1000 < 2 ^ 10 by decide)

/-- The level of the ROLE strap, which may draw a free bit. -/
theorem strapHigh_eq (s : State) (x : Strap) : ∃ b n, s.strapHigh x = (b, { s with free := n }) ∧ (x = .low → b = false) ∧ (x = .high → b = true) := by
  cases x with
  | low => exact ⟨false, s.free, rfl, fun _ => rfl, fun h => nomatch h⟩
  | high => exact ⟨true, s.free, rfl, fun h => (nomatch h), fun _ => rfl⟩
  | floating => exact ⟨_, _, rfl, fun h => (nomatch h), fun h => nomatch h⟩

theorem linkUpFx_running {s : State} (h : s.running = true) (port : Nat) : linkUpFx port s =
    s.cond (s.portOn port && s.rd (R.COIL.LINK port) == lkALIGNING && !s.flag (R.COIL.TEST port)) (fun s => (s.bringUp port).bootRepeat port) := if_pos h

theorem linkLossFx_running {s : State} (h : s.running = true) (port : Nat) : linkLossFx port s =
    s.cond (s.hasPort port && s.rd (R.COIL.LINK port) == lkUP) (fun s => s.leaveUp port) := if_pos h

theorem retrainFx_up {s : State} {port : Nat} (h : s.rd (R.COIL.LINK port) = lkUP) : retrainFx port s = s.leaveUp port := if_pos h

/-- Settles O21. -/
theorem linksTrainAndDrop : Obligations.LinksTrainAndDrop := by
  refine ⟨fun s => ⟨_, rfl, ?_⟩, fun port s hon hl ht => ⟨_, rfl, ?_⟩, fun port s hon hl ht => ⟨_, rfl, ?_⟩,
    fun port t0 s hr hp hl => ⟨fun hd => ⟨_, rfl, ?_⟩, fun hd => ⟨_, rfl, ?_⟩⟩, fun port s hr hp hl hd => ⟨_, rfl, ?_⟩,
    fun port next s hr hp hu => ⟨_, rfl, ?_⟩, fun port s hr hp hu hl hd => ⟨_, rfl, ?_⟩, fun port e0 e1 s hr hp hl => ⟨_, rfl, ?_⟩⟩
  · obtain ⟨b, n, he, hlow, hhigh⟩ := strapHigh_eq s.start s.aon.strap
    have hfx : aonRailFx s.start = { s with out := [], free := n, aon := { s.aon with on := true, role := if b then .sender else .tile } } := by
      unfold aonRailFx
      rw [show s.start.aon.strap = s.aon.strap from rfl, he]
      rfl
    rw [hfx]
    exact ⟨rfl, fun h => by rw [hlow h]; rfl, fun h => by rw [hhigh h]; rfl⟩
  · have hp := port_lt_of_portOn hon
    rw [cond_of (by rw [Bool.and_eq_true, Bool.and_eq_true]; exact ⟨⟨hon, beq_iff_eq.mpr hl⟩, by rw [ht]; rfl⟩)]
    obtain ⟨hlink, hpend⟩ := setLink_shows hp (v := lkALIGNING) (by decide) s.start
    have hset : LinkStays [R.COIL.LINK port] (s.start.setLink port lkALIGNING)
        (((s.start.setLink port lkALIGNING).wr (R.COIL.LOS port) 0).wr (R.COIL.LOL port) 0) := by
      refine (linkFrame _).trans ((linkFrame _).wr _ _ ?_) ((linkFrame _).wr _ _ ?_)
      all_goals interval_cases port <;> decide
    refine ⟨?_, (hset.rd _ (by simp)).trans hlink, ?_, rd_wr_own _ _ (by interval_cases port <;> decide), hset.pend _ (hpend ?_)⟩
    · exact onlyRegs_trans (onlyRegs_start s) (onlyRegs_trans (onlyRegs_trans (frame_setLink onlyRegsFrame rfl rfl _ _) (onlyRegs_wr _ _ _)) (onlyRegs_wr _ _ _))
    · exact (rd_wr_sep _ _ (by interval_cases port <;> decide)).trans (rd_wr_own _ _ (by interval_cases port <;> decide))
    · show s.rd (R.COIL.LINK port) ≠ lkALIGNING
      rw [hl]
      decide
  · have hp := port_lt_of_portOn hon
    obtain ⟨h1, h2, h3, h4, h5⟩ := bringUp_shows hp s.start
    have hrep := bootRepeat_stays [R.COIL.LINK port, R.COIL.ALIGNED port, R.COIL.DESKEWED port, R.GLB.STATE] (s.start.bringUp port) port
    rw [linkUpFx_running (s := s.start) (running_of_portOn hon), cond_of (by rw [Bool.and_eq_true, Bool.and_eq_true]; exact ⟨⟨hon, beq_iff_eq.mpr hl⟩, by rw [show s.start.flag _ = _ from ht]; rfl⟩)]
    refine ⟨(hrep.rd _ (by simp)).trans h1, (hrep.rd _ (by simp)).trans h2, (hrep.rd _ (by simp)).trans h3, hrep.pend _ (h4 ?_),
      congrArg (fun x => x.2.2.1) (hrep.part.trans h5.part), (hrep.rd R.GLB.STATE (by simp)).trans (h5.rd R.GLB.STATE (by simp))⟩
    show s.rd (R.COIL.LINK port) ≠ lkUP
    rw [hl]
    decide
  · obtain ⟨h1, h2, h3, h4, h5⟩ := leftUp_shows (port_lt_of_hasPort hp) (s.atTime t0)
    rw [linkLossFx_running (s := s.atTime t0) hr, cond_of (by rw [Bool.and_eq_true]; exact ⟨hp, beq_iff_eq.mpr hl⟩), leaveUp_of_none (s := s.atTime t0) hd]
    exact ⟨h1, h2, h3, congrArg (fun x => x.2.2.1) h5, h4⟩
  · rw [linkLossFx_running (s := s.atTime t0) hr, cond_of (by rw [Bool.and_eq_true]; exact ⟨hp, beq_iff_eq.mpr hl⟩)]
    exact leaveUp_resets (port_lt_of_hasPort hp) (s := s.atTime t0) hd
  · obtain ⟨h1, h2, h3, -, -⟩ := leftUp_shows (port_lt_of_hasPort hp) s.start
    rw [cond_of (by rw [Bool.and_eq_true]; exact ⟨hr, hp⟩), retrainFx_up (s := s.start) hl, leaveUp_of_none (s := s.start) hd]
    exact ⟨h1, h2, h3⟩
  · obtain ⟨h1, h2, h3, -, h5, -⟩ := codewordCounted_shows (port_lt_of_hasPort hp) next s.start
    have hfew : decide (4 ≤ ((codewordCounted port next s.start).coilSt port).ucRun) = false := by
      refine decide_eq_false ?_
      rw [h5]
      rcases hu with hu | hu
      · rw [hu, if_neg (by decide)]
        decide
      · have : (s.start.coilSt port).ucRun < 3 := hu
        split <;> omega
    rw [cond_of (by rw [Bool.and_eq_true]; exact ⟨hr, hp⟩), codewordFx_eq, cond_of_not (by rw [hfew]; rfl)]
    exact ⟨h1, h2, h3, h5⟩
  · have hp16 := port_lt_of_hasPort hp
    obtain ⟨h1, h2, h3, h4, h5, h6⟩ := codewordCounted_shows hp16 true s.start
    have hmany : decide (4 ≤ ((codewordCounted port true s.start).coilSt port).ucRun) = true := by
      refine decide_eq_true ?_
      have : 3 ≤ (s.start.coilSt port).ucRun := hu
      rw [h5, if_pos rfl]
      omega
    have hlink : (codewordCounted port true s.start).rd (R.COIL.LINK port) = lkUP := h3.trans hl
    have hdue : (codewordCounted port true s.start).boot.coilDue = none := by rw [h6]; exact hd
    obtain ⟨g1, g2, -, -, -⟩ := leftUp_shows hp16 (codewordCounted port true s.start)
    have hkeep : LinkStays [R.COIL.CNT_FEC_UNCORR port] (codewordCounted port true s.start) (leftUp port (codewordCounted port true s.start)) := by
      refine frame_leftUp (linkFrame _) (linkFree _) ?_ ?_ _
      all_goals interval_cases port <;> decide
    rw [cond_of (by rw [Bool.and_eq_true]; exact ⟨hr, hp⟩), codewordFx_eq, cond_of (by rw [hmany, hlink]; rfl), leaveUp_of_none hdue]
    refine ⟨(hkeep.rd _ (by simp)).trans h1, g1, g2.trans ?_⟩
    rw [h4]
    rfl
  · rw [cond_of (by rw [Bool.and_eq_true, Bool.and_eq_true]; exact ⟨⟨hr, hp⟩, beq_iff_eq.mpr hl⟩)]
    obtain ⟨h1, h2, h3⟩ := eye_shows (port_lt_of_hasPort hp) e0 e1 s.start
    exact ⟨onlyRegs_trans (onlyRegs_start s) (onlyRegs_trans (onlyRegs_trans (onlyRegs_wr _ _ _) (onlyRegs_wr _ _ _)) (onlyRegs_level _ _ _)), h1, h2, h3⟩

end Sys2Proof.Proofs.Training

/-!
THEOREMS. Fail-over, and the packets that go on along the pair (01 R12; 10 R267, R280 to R282). Settles O26.
-/

namespace Sys2Proof.Proofs.Failover
open Sys2Proof.Machine Sys2Proof.Laws Sys2Proof.Proofs.Frames Sys2Proof.Proofs.FieldRules Sys2Proof.Proofs.Framing Sys2Proof.Proofs.CoilFrames
  Sys2Proof.Proofs.LinkFrames Sys2Proof.Proofs.Sending Sys2Proof.Proofs.Training

/-! The start of a fail-over. -/

/-- The fields that show a fail-over, and that it has been counted. -/
def shown : List Fld := [R.RED.st_FAILOVER, R.RED.FAILOVER_CAUSE, R.RED.CNT_FAILOVER]

/-- A tile that enters FAILOVER, before it seeks a feed. -/
def failoverShown (cause : Nat) (s : State) : State :=
  ((((s.phcEnd phABORTED).wr R.RED.st_FAILOVER 1).wr R.RED.FAILOVER_CAUSE cause).inc R.RED.CNT_FAILOVER).raise R.RED.ev_FAILOVER

/-- The bridging frames left. -/
def bridged (n : Nat) (s : State) : State := { s with red := { s.red with bridge := n } }

theorem bridged_stays {fs : List Fld} (n : Nat) (s : State) : LinkStays fs s (bridged n s) := Stays.other rfl rfl

theorem enterFailover_eq {s : State} (ht : s.frm.ticked = true) (hf : s.flag R.RED.st_FAILOVER = false) (cause : Nat) :
    s.enterFailover cause = (bridged (if cause = fcTICK_MISS then 0 else if s.frm.hold then 1 else 2) (failoverShown cause s)).seekFeed cause := by
  unfold State.enterFailover
  rw [if_neg (by rw [ht]; decide), if_neg (by rw [hf]; decide)]
  rfl

theorem failoverShown_red (cause : Nat) (s : State) : (failoverShown cause s).red = s.red := by
  have h := partFrame (F := State.red) fun _ _ _ => rfl
  unfold failoverShown
  exact h.trans (h.trans (h.trans (h.trans (frame_phcEnd h (fun _ _ _ => rfl) (fun _ _ => rfl) rfl s _) (h.wr _ _ rfl)) (h.wr _ _ rfl)) (h.inc _ rfl))
    (h.raise _ rfl (by decide))

theorem seekFeed_stays {fs : List Fld} (hW : ∀ f ∈ failoverFields, apartFrom fs f = true) (s : State) (cause : Nat) :
    LinkStays fs s (s.seekFeed cause) :=
  frame_seekFeed (linkFrame fs) (fun _ _ => Stays.other rfl rfl) (fun s _ _ _ _ _ => frame_sendOwn (linkFrame fs) (linkFree fs).coilFree s _) hW s cause

/-- Seeking a feed marks that a port is to be elected, and keeps the one upstream. -/
theorem seekFeed_red (s : State) (cause : Nat) : (s.seekFeed cause).red.upstream = s.red.upstream ∧ (s.seekFeed cause).red.electing = true := by
  have hsame : (s.seekFeed cause).red = { s.red with oldUp := s.red.upstream.getD 0, electing := true, repeating := true } := by
    have h := partFrame (F := State.red) fun _ _ _ => rfl
    unfold State.seekFeed
    exact frame_sendFeedreq h (fun s _ _ _ _ _ => frame_sendOwn h (fun _ _ _ => rfl) s _) (fun _ _ => rfl) _ cause
  rw [hsame]
  exact ⟨rfl, rfl⟩

theorem rd_seekFeed {f : Fld} (hW : apartFrom [f] R.RED.CNT_FEEDREQ_SENT = true) (s : State) (cause : Nat) : (s.seekFeed cause).rd f = s.rd f := by
  have h := linkFrame [f]
  have hst : LinkStays [f] s (s.seekFeed cause) := by
    have hred : LinkStays [f] s { s with red := { s.red with oldUp := s.red.upstream.getD 0, electing := true, repeating := true } } := Stays.other rfl rfl
    unfold State.seekFeed State.sendFeedreq
    exact h.trans hred (h.cond fun _ => h.trans (frame_sendOwn h (linkFree _).coilFree _ _) (h.inc _ hW))
  exact hst.rd f List.mem_cons_self

theorem pending_seekFeed {e : Evt} {s : State} (he : Pending s e) (cause : Nat) : Pending (s.seekFeed cause) e :=
  (seekFeed_stays (fs := []) (by decide) s cause).pend e he

/-- A ticked tile that is not in FAILOVER enters it. -/
theorem enterFailover_shows {s : State} (ht : s.frm.ticked = true) (hf : s.flag R.RED.st_FAILOVER = false) {cause : Nat} (hc : cause < 4) :
    (s.enterFailover cause).rd R.RED.st_FAILOVER = 1 ∧ (s.enterFailover cause).rd R.RED.FAILOVER_CAUSE = cause ∧
    Counted s (s.enterFailover cause) R.RED.CNT_FAILOVER ∧ Pending (s.enterFailover cause) R.RED.ev_FAILOVER ∧
    (s.enterFailover cause).red.upstream = s.red.upstream ∧ (s.enterFailover cause).red.electing = true := by
  have hphc : LinkStays [R.RED.CNT_FAILOVER] s (s.phcEnd phABORTED) := frame_phcEnd (linkFrame _) (fun _ _ _ => Stays.other rfl rfl) (by decide) (by decide) s _
  have hrd {f : Fld} (hW : apartFrom [f] R.RED.CNT_FEEDREQ_SENT = true) (n : Nat) :
      ((bridged n (failoverShown cause s)).seekFeed cause).rd f = (failoverShown cause s).rd f :=
    (rd_seekFeed hW _ cause).trans ((bridged_stays (fs := [f]) n _).rd f List.mem_cons_self)
  obtain ⟨g1, g2, g3, g4⟩ : (failoverShown cause s).rd R.RED.st_FAILOVER = 1 ∧ (failoverShown cause s).rd R.RED.FAILOVER_CAUSE = cause ∧
      Counted s (failoverShown cause s) R.RED.CNT_FAILOVER ∧ Pending (failoverShown cause s) R.RED.ev_FAILOVER := by
    refine ⟨?_, ?_, ?_, pending_raise _ (by decide)⟩
    · exact (rd_raise_sep _ (by decide)).trans ((rd_wr_sep _ _ (by decide)).trans ((rd_wr_sep _ _ (by decide)).trans (rd_wr_own _ _ (by decide))))
    · exact (rd_raise_sep _ (by decide)).trans ((rd_wr_sep _ _ (by decide)).trans ((rd_wr_own _ _ (by decide)).trans (Nat.mod_eq_of_lt hc)))
    · refine (rd_raise_sep _ (by decide)).trans ((rd_incBy_same _ rfl rfl 1).trans ?_)
      refine congrArg (fun n => min (n + 1) 0xFFFFFFFF) ?_
      exact (rd_wr_sep _ _ (by decide)).trans ((rd_wr_sep _ _ (by decide)).trans (hphc.rd _ List.mem_cons_self))
  rw [enterFailover_eq ht hf]
  obtain ⟨h1, h2⟩ := seekFeed_red (bridged (if cause = fcTICK_MISS then 0 else if s.frm.hold then 1 else 2) (failoverShown cause s)) cause
  have hup (n : Nat) : (bridged n (failoverShown cause s)).red.upstream = s.red.upstream :=
    (rfl : _ = (failoverShown cause s).red.upstream).trans (congrArg RedSt.upstream (failoverShown_red cause s))
  exact ⟨(hrd (by decide) _).trans g1, (hrd (by decide) _).trans g2, (hrd (by decide) _).trans g3,
    pending_seekFeed ((bridged_stays (fs := []) _ _).pend _ g4) cause, h1.trans (hup _), h2⟩

/-! The loss of the upstream port. -/

/-- What the loss of a port leaves alone before a feed is sought. -/
theorem lost_stays {port : Nat} (hp : port < 2) (s : State) :
    Stays (fun s => (s.role, s.red, s.frm)) [R.RED.st_FAILOVER, R.RED.CNT_FAILOVER] s ((s.train port).lost port) := by
  have h := staysFrame (F := fun s : State => (s.role, s.red, s.frm)) (fun _ _ _ => rfl) [R.RED.st_FAILOVER, R.RED.CNT_FAILOVER]
  refine h.trans (frame_train h (fun _ _ => .other rfl rfl) ?_ ?_ s) (frame_lost h (fun _ _ => .other rfl rfl) ?_ ?_ (by decide) ⟨by decide, by decide⟩ _)
  all_goals interval_cases port <;> decide

theorem linkLoss_eq {s : State} {port : Nat} (t0 : Nat) (ht : s.isTile = true) (hp : port < 2) (hl : s.rd (R.COIL.LINK port) = lkUP)
    (hu : s.red.upstream = some port) (hd : s.boot.coilDue = none) :
    linkLossFx port (s.atTime t0) = (if s.frm.ticked then (((s.atTime t0).train port).lost port).enterFailover fcUPSTREAM_LOST
      else (((s.atTime t0).train port).lost port).unelect) := by
  obtain ⟨hrun, hrole⟩ := (TileCommits.isTile_iff s).mp ht
  have hparts := (lost_stays hp (s.atTime t0)).part
  simp only [Prod.mk.injEq] at hparts
  obtain ⟨h1, h2, h3⟩ := hparts
  rw [linkLossFx_running (s := s.atTime t0) hrun, cond_of (by rw [Bool.and_eq_true]; exact ⟨Resets.hasPort_pair _ hp, beq_iff_eq.mpr hl⟩),
    leaveUp_of_none (s := s.atTime t0) hd, leftUp_eq, upstreamLost, h1, h2]
  refine (cond_of ?_ _ _).trans ?_
  · rw [show (s.atTime t0).role = .tile from hrole, show (s.atTime t0).red.upstream = some port from hu, decide_eq_true hp]
    simp
  · rw [h3]
    rfl

/-! Packets that go on along the pair. -/

/-- A packet on a port whose egress is free leaves alone. -/
theorem send_alone {s : State} {p t0 cls : Nat} (hf : s.egressFree p t0 = true) (a : Option Nat) {o : Output} (h : lineOf o = some (p, cls))
    (hq : ∀ q b, o ≠ .linkReq q b) : (s.atTime t0).send a o = { s with time := max s.time t0, out := [o] } := by
  rw [send_of_egressFree hf a h]
  unfold State.depart
  simp only [show (s.atTime t0).out = [] from rfl, placeOut_nil]
  rfl

theorem alongPair_send {s : State} {h : Header} (hh : h.hops < 64) (port : Nat) (f : Nat → Header → Output) :
    s.alongPair port h f = s.send (some port) (f (otherPort port) { h with hops := h.hops + 1 }) := if_neg (by omega)

theorem alongPair_drop {s : State} {h : Header} (hh : 64 ≤ h.hops) (port : Nat) (f : Nat → Header → Output) :
    s.alongPair port h f = s.inc (R.COIL.CNT_HOPS_DROP port) := if_pos (by omega)

theorem alongPair_stays {fs : List Fld} {port : Nat} (hX : ∀ f ∈ xoffFields port, apartFrom fs f = true) (hH : apartFrom fs (R.COIL.CNT_HOPS_DROP port) = true)
    (s : State) (h : Header) (f : Nat → Header → Output) : Stays State.red fs s (s.alongPair port h f) := by
  have hF := staysFrame (F := State.red) (fun _ _ _ => rfl) fs
  unfold State.alongPair
  refine hF.ite (fun _ => hF.inc s hH) fun _ => ?_
  exact frame_send hF (fun _ _ _ => .other rfl rfl) (fun a ha => by cases ha; exact hX) s _

/-! What a tile does with a packet of the other port of its pair. -/

/-- A packet on a port of the pair that is UP reaches its rule. -/
theorem relinquish_arrives {s : State} {port : Nat} (ht : s.isTile = true) (hp : port < 2) (hup : s.isUp port = true) (t : State) (f : State → State) :
    t.cond (s.isTile && decide (port < 2) && s.isUp port) f = f t :=
  cond_of (by rw [ht, hup, decide_eq_true hp]; rfl) _ _

theorem feedreq_arrives {s : State} {port : Nat} (ht : s.isTile = true) (hp : port < 2) (hup : s.isUp port = true) (t : State) (f : State → State) :
    t.cond (s.isTile && s.hasPort port && s.isUp port) f = f t :=
  cond_of (by rw [ht, hup, Resets.hasPort_pair _ hp]; rfl) _ _

/-- A RELINQUISH off the upstream port only goes on. -/
theorem relinquishFx_forwards {s : State} {port : Nat} (hu : s.red.upstream ≠ some port) (hc : s.canSend (otherPort port) = true) (h : Header)
    (crcOk : Bool) (epoch grounds copy : Nat) : relinquishReceiveFx port h crcOk epoch grounds copy s =
      s.alongPair port h (fun q h => .relinquish q h epoch grounds copy (!crcOk)) := by
  have hoff : (crcOk && s.red.upstream == some port) = false := by rw [beq_false_of_ne hu, Bool.and_false]
  unfold relinquishReceiveFx
  rw [cond_of_not hoff]
  exact cond_of hc _ _

/-- On the upstream port it starts a fail-over before it goes on. -/
theorem relinquishFx_acts {s : State} {port : Nat} (hu : s.red.upstream = some port) (h : Header) (epoch grounds copy : Nat) :
    relinquishReceiveFx port h true epoch grounds copy s = (s.enterFailover fcRELINQUISH).cond ((s.enterFailover fcRELINQUISH).canSend (otherPort port))
      (fun t => t.alongPair port h (fun q h => .relinquish q h epoch grounds copy (!true))) := by
  have hon : (true && s.red.upstream == some port) = true := by rw [hu]; exact beq_self_eq_true _
  unfold relinquishReceiveFx
  rw [cond_of hon]

/-- A FEEDREQ off the upstream port goes on, or has no way. -/
theorem feedreqFx_forwards {s : State} {port : Nat} (hp : port < 2) (hu : s.red.upstream ≠ some port) (h : Header) (crcOk : Bool) (epoch cause : Nat) :
    feedreqReceiveFx port h crcOk epoch cause s =
      if s.canSend (otherPort port) then s.alongPair port h (fun q h => .feedreq q h epoch cause (!crcOk)) else s.undeliverable (otherPort port) := by
  have hoff : (crcOk && s.red.upstream == some port) = false := by rw [beq_false_of_ne hu, Bool.and_false]
  unfold feedreqReceiveFx
  rw [if_neg (by omega)]
  simp only [cond_of_not hoff]

theorem undeliverable_counted (s : State) {p : Nat} (hp : p < 2) : Counted s (s.undeliverable p) (R.COIL.CNT_UNDELIVERABLE p) := by
  refine (rd_raise_sep _ ?_).trans (counted_inc s rfl rfl)
  interval_cases p <;> decide

theorem sendFeedreq_goes {s : State} (hc : s.canSend (otherPort s.red.oldUp) = true) (cause : Nat) : s.sendFeedreq cause =
    (s.send none (.feedreq (otherPort s.red.oldUp) (s.ownHeader ptFEEDREQ false true (otherPort s.red.oldUp)) s.red.lastTick cause false)).inc
      R.RED.CNT_FEEDREQ_SENT := by
  unfold State.sendFeedreq
  exact cond_of hc _ _

/-- Settles O26. -/
theorem failoversStartAndPassOn : Obligations.FailoversStartAndPassOn := by
  refine ⟨fun port t0 s ht hp hl hu htick hf hd => ⟨_, rfl, ?_⟩, fun port t0 s ht hp hl hu htick hd => ⟨_, rfl, ?_⟩,
    fun port epoch grounds copy t0 h crcOk s ht hp hup hu hc => ⟨fun hh hfree => ⟨_, rfl, ?_⟩, fun hh => ⟨_, rfl, ?_⟩⟩,
    fun port epoch grounds copy t0 h s ht hp hup hu htick hf => ⟨_, rfl, ?_⟩, fun port epoch cause t0 h crcOk s ht hp hup hu => ⟨_, rfl, ?_⟩,
    fun t0 s ht hf hr hc hfree => ⟨_, rfl, ?_⟩, fun t0 s hh hf => ⟨_, rfl, ?_⟩⟩
  · have hst := lost_stays hp (s.atTime t0)
    have hparts := hst.part
    simp only [Prod.mk.injEq] at hparts
    obtain ⟨-, hred, hfrm⟩ := hparts
    obtain ⟨h1, h2, h3, h4, h5, h6⟩ := enterFailover_shows (s := ((s.atTime t0).train port).lost port) (by rw [hfrm]; exact htick)
      ((congrArg (· != 0) (hst.rd R.RED.st_FAILOVER (by simp))).trans hf) (cause := fcUPSTREAM_LOST) (by decide)
    rw [linkLoss_eq t0 ht hp hl hu hd, if_pos htick]
    refine ⟨h1, h2, h3.trans ?_, h4, h5.trans (by rw [hred]; exact hu), h6⟩
    rw [hst.rd _ (by simp)]
    rfl
  · have hst := lost_stays hp (s.atTime t0)
    rw [linkLoss_eq t0 ht hp hl hu hd, if_neg (by rw [htick]; decide)]
    have hF := staysFrame (F := State.red) (fun _ _ _ => rfl) [R.RED.st_FAILOVER]
    have hroles : Stays State.red [R.RED.st_FAILOVER] _ (((s.atTime t0).train port).lost port).unelect :=
      frame_showRoles hF (by decide) (by decide) ⟨by decide, by decide⟩ _
    refine ⟨congrArg RedSt.upstream hroles.part, (hroles.rd _ (by simp)).trans (hst.rd R.RED.st_FAILOVER (by simp))⟩
  · rw [relinquish_arrives ht hp hup, relinquishFx_forwards (s := s.atTime t0) hu hc, alongPair_send hh]
    exact send_alone hfree _ rfl (by simp)
  · rw [relinquish_arrives ht hp hup, relinquishFx_forwards (s := s.atTime t0) hu hc, alongPair_drop hh]
    exact ⟨onlyRegs_trans (onlyRegs_atTime s t0) (onlyRegs_inc _ _), wr_out _ _ _, counted_inc (s.atTime t0) rfl rfl,
      wordsKept_inc (s.atTime t0) (by show 32 ≤ 32; decide)⟩
  · obtain ⟨h1, h2, h3, -, -, h6⟩ := enterFailover_shows (s := s.atTime t0) htick hf (cause := fcRELINQUISH) (by decide)
    have hgo (u : State) (b : Bool) (f : Nat → Header → Output) : Stays State.red shown u (u.cond b (fun s => s.alongPair port h f)) :=
      (staysFrame (F := State.red) (fun _ _ _ => rfl) shown).cond fun _ => by interval_cases port <;> exact alongPair_stays (by decide) (by decide) u h f
    rw [relinquish_arrives ht hp hup, relinquishFx_acts (s := s.atTime t0) hu]
    have hst := hgo ((s.atTime t0).enterFailover fcRELINQUISH) (((s.atTime t0).enterFailover fcRELINQUISH).canSend (otherPort port))
      (fun q h => .relinquish q h epoch grounds copy (!true))
    exact ⟨(hst.rd _ (by simp [shown])).trans h1, (hst.rd _ (by simp [shown])).trans h2, (hst.rd _ (by simp [shown])).trans h3,
      (congrArg RedSt.electing hst.part).trans h6⟩
  · rw [feedreq_arrives ht hp hup, feedreqFx_forwards (s := s.atTime t0) hp hu]
    refine ⟨?_, fun hcan hhops hfree => ?_, fun hcan => ?_⟩
    · split
      · interval_cases port <;> exact (alongPair_stays (fs := []) (by decide) (by decide) (s.atTime t0) h _).part
      · refine (partFrame (F := State.red) fun _ _ _ => rfl).incRaise (s.atTime t0) rfl rfl ?_
        interval_cases port <;> decide
    · rw [if_pos (show (s.atTime t0).canSend (otherPort port) = true from hcan), alongPair_send hhops, send_alone hfree _ rfl (by simp)]
      exact ⟨rfl, rfl⟩
    · rw [if_neg (by rw [show (s.atTime t0).canSend (otherPort port) = false from hcan]; decide)]
      refine ⟨(raise_out _ _).trans (wr_out _ _ _), undeliverable_counted (s.atTime t0) ?_⟩
      interval_cases port <;> decide
  · rw [cond_of (by rw [ht, hf, hr]; rfl), sendFeedreq_goes (s := s.atTime t0) hc, send_alone hfree _ rfl (by simp)]
    exact ⟨onlyRegs_trans (t := { s with time := max s.time t0, out := _ }) rfl (onlyRegs_inc _ _), counted_inc (s := { s with time := _, out := _}) rfl rfl, wr_out _ _ _⟩
  · rw [cond_of (by rw [hh, hf]; rfl)]
    have hsent := each_sends (s := s.atTime t0) (xs := s.subPorts.filter s.canSend) (f := fun s p => s.send none (.tick p s.hubTick))
      (port := fun p => p) (pkt := fun p => .tick p s.hubTick) (fun t ht p _ => by rw [ht]; rfl) (fun p _ => ⟨_, rfl⟩)
    obtain ⟨h1, -, h3, -⟩ := hsent
    refine ⟨h1, fun p hp hc => h3 p (List.mem_filter.mpr ⟨hp, hc⟩), rfl, fun hn => ⟨by simp [State.hubTick, hn], by simp [State.hubTick, hn]⟩⟩

end Sys2Proof.Proofs.Failover

/-!
THEOREMS. Start-up with a broken sensor on record (16 R414; 13 R374). Refutes O15.
-/

namespace Sys2Proof.Proofs.StartUp
open Sys2Proof.Machine

/-- A sender in BISQUE with a verified image, whose record of sensor 0 says that it is broken. -/
def hotStart : State :=
  { State.reset.wr R.GLB.STATE stBISQUE with
    role := .sender
    boot := { running := { idx := 0, bytes := [0] } }
    thm := { sens := [(0, { broken := true })] } }

theorem hotStart_bisque : hotStart.stateCode = stBISQUE := by decide +kernel

theorem exec_hotStart : exec (.firmwareLoaded false 0) hotStart = .next (firmwareLoadedFx false (hotStart.atTime 0)) :=
  congrArg Host.Outcome.next (if_pos (by decide +kernel))

theorem hotStart_quenches : (firmwareLoadedFx false (hotStart.atTime 0)).stateCode = stQUENCHED := by decide +kernel

/-- Refutes O15: the sensors are judged when the cores have loaded, and one on record as broken counts as T_BROKEN, 95 °C after a reset, which
    quenches the device although the quench latch was clear. -/
theorem not_imagesBootTheDevice : ¬ Obligations.ImagesBootTheDevice := by
  rintro ⟨-, -, -, hload, -⟩
  obtain ⟨t, hexec, -, hstate⟩ := hload false 0 hotStart hotStart_bisque (by decide)
  obtain rfl := Host.Outcome.next.inj (exec_hotStart.symm.trans hexec)
  exact absurd (hotStart_quenches.symm.trans hstate) (by decide)

end Sys2Proof.Proofs.StartUp

/-!
What a read or a write of DRAM changes (14 R381 to R392): beside the DRAM's own records, counters and events of the channels' pages, and, where
uncorrectable errors come too often, the registers that a relinquished sender shows.
-/

namespace Sys2Proof.Proofs.DramFrames
open Sys2Proof.Machine Sys2Proof.Laws Sys2Proof.Proofs.Frames Sys2Proof.Proofs.FieldRules Sys2Proof.Proofs.Framing Sys2Proof.Proofs.CoilFrames

/-! Fields that lie at other offsets. -/

/-- Two fields share no offset, whatever their pages. -/
def offApart (f g : Fld) : Bool :=
  decide (f.off < 0xFFC ∧ g.off < 0xFFC ∧ f.off ≠ g.off ∧ (32 < f.w → f.off + 4 ≠ g.off) ∧ (32 < g.w → f.off ≠ g.off + 4))

theorem sep_of_offApart {f g : Fld} (h : offApart f g = true) : sep f g = true := by
  obtain ⟨h1, h2, h3, h4, h5⟩ := of_decide_eq_true h
  unfold sep
  rw [Bool.or_eq_true]
  refine .inl (decide_eq_true ⟨?_, fun hw => ?_, fun hw => ?_⟩) <;> unfold Fld.key regKey
  · omega
  · have := h4 hw
    omega
  · have := h5 hw
    omega

/-- A field at an offset of its own is apart from a list of fields. -/
theorem apart_of_off {fs : List Fld} {g : Fld} (h : (fs.all (fun f => offApart f g) && decide (g.off < 0xFFC ∧ g.off ≠ 0x018 ∧ g.off ≠ 0x014)) = true) :
    apartFrom fs g = true := by
  rw [Bool.and_eq_true, List.all_eq_true, decide_eq_true_eq] at h
  obtain ⟨hall, h1, h2, h3⟩ := h
  unfold apartFrom
  rw [Bool.and_eq_true, List.all_eq_true, decide_eq_true_eq]
  refine ⟨fun f hf => sep_of_offApart (hall f hf), ?_, ?_⟩ <;> unfold Fld.key regKey <;> omega

/-- The event words of every page lie apart from fields that are at neither of their offsets. -/
theorem quiet_of_off {fs : List Fld}
    (h : fs.all (fun f => decide (f.off < 0xFFC ∧ f.off ≠ 0x010 ∧ f.off ≠ 0x018 ∧ f.off ≠ 0x014 ∧ f.off ≠ 0x00C ∨ f.off = 0x00C ∧ f.w ≤ 32)) = true) (p : Nat) :
    quietFor fs p = true := by
  unfold quietFor
  rw [List.all_eq_true] at h ⊢
  intro f hf
  have hf := of_decide_eq_true (h f hf)
  unfold offKey
  rw [Bool.and_eq_true]
  have hkey : ∀ o, o = 0x010 ∨ o = 0x018 → f.key ≠ regKey p o ∧ (32 < f.w → f.key + 4 ≠ regKey p o) := by
    unfold Fld.key regKey
    omega
  exact ⟨decide_eq_true (hkey _ (.inl rfl)), decide_eq_true (hkey _ (.inr rfl))⟩

/-! The relations under which a read of DRAM may take place. -/

/-- What a read leaves of a channel's record. -/
def restOf (x : ChSt) : List (Nat × Nat) × List (Nat × Nat) × List Nat × Bool × Nat × Nat × Nat :=
  (x.owed, x.ahead, x.urgent, x.alert, x.replays, x.scrub, x.passEnd)

/-- A change of the DRAM's records as reads and writes make it: the content, the channels and the target stay, and so does what concerns the
    channels' refreshes, replays and scrub. -/
structure ReadChange (d d' : DramSt) : Prop where
  mem : d'.mem = d.mem
  chans : d'.chans = d.chans
  target : d'.target = d.target
  rest : ∀ c, restOf (smGet chDefault d'.ch c) = restOf (smGet chDefault d.ch c)

/-- A relation that such a change keeps. -/
def DramFree (Rel : State → State → Prop) : Prop := ∀ (s : State) (d : DramSt), ReadChange s.drm d → Rel s { s with drm := d }

/-- Fields of a channel that a read or a write may change. -/
def ueFields (c : Nat) : List Fld := [R.DRM.CNT_UE c, R.DRM.LAST_UE_ADDR c, R.DRM.UE_1S c]
def accessFields (c : Nat) : List Fld := [R.DRM.CNT_CE c, R.DRM.CNT_FWD c, R.DRM.CNT_RMW c]

/-- What decides whether a read comes back poisoned. -/
def SamePoison (s t : State) : Prop :=
  t.drm.poison = s.drm.poison ∧ t.drm.chans = s.drm.chans ∧ ∀ c, t.flag (R.DRM.st_FAULT c) = s.flag (R.DRM.st_FAULT c)

theorem fault_quiet (c p : Nat) : offKey (R.DRM.st_FAULT c) (evtRawKey p) = true ∧ offKey (R.DRM.st_FAULT c) (evtPendKey p) = true := by
  have h := quiet_of_off (fs := [R.DRM.st_FAULT c]) rfl p
  unfold quietFor at h
  rw [List.all_cons, List.all_nil, Bool.and_true, Bool.and_eq_true] at h
  exact h

/-- Nothing but a write of the channels' status has a part in it. -/
theorem samePoisonFrame : Frame SamePoison (fun g => offApart (R.DRM.st_FAULT 0) g) (fun _ => true) where
  refl _ := ⟨rfl, rfl, fun _ => rfl⟩
  trans h h' := ⟨h'.1.trans h.1, h'.2.1.trans h.2.1, fun c => (h'.2.2 c).trans (h.2.2 c)⟩
  wr s _ v hg := ⟨congrArg DramSt.poison (wr_drm _ _ _), congrArg DramSt.chans (wr_drm _ _ _),
    fun c => congrArg (· != 0) (rd_wr_sep s v (sep_of_offApart (f := R.DRM.st_FAULT c) hg))⟩
  raise s _ _ _ := ⟨congrArg DramSt.poison (raise_drm _ _), congrArg DramSt.chans (raise_drm _ _),
    fun c => congrArg (· != 0) (rd_raise_sep s (fault_quiet c _).2)⟩
  level s _ _ _ _ := ⟨congrArg DramSt.poison (level_drm _ _ _), congrArg DramSt.chans (level_drm _ _ _),
    fun c => congrArg (· != 0) (rd_level_sep s (fault_quiet c _).1 (fault_quiet c _).2)⟩

theorem SamePoison.unsoundParts {s t : State} (h : SamePoison s t) (a n : Nat) : t.unsoundParts a n = s.unsoundParts a n := by
  obtain ⟨hp, hc, hf⟩ := h
  have hpart : t.unsoundPart = s.unsoundPart := by
    funext p
    unfold State.unsoundPart
    rw [hp, hc, hf]
  have hsound : t.soundDram = s.soundDram := by
    unfold State.soundDram State.channels
    simp only [hp, hc, hf]
  unfold State.unsoundParts
  rw [hsound, hpart]

/-- A relation that changes of a channel's record keep, as far as reads and writes make them. -/
def ChFree (Rel : State → State → Prop) : Prop := ∀ (s : State) (c : Nat) (f : ChSt → ChSt), (∀ x, restOf (f x) = restOf x) → Rel s (s.modCh c f)

section
variable {Rel : State → State → Prop} {W : Fld → Bool} {E : Nat → Bool} (h : Frame Rel W E) (hch : ChFree Rel)
include hch

theorem frame_useLine (s : State) (c line : Nat) (w : Bool) : Rel s (s.useLine c line w) := hch s c _ fun _ => rfl

include h

theorem frame_issueWrite (s : State) (c line : Nat) : Rel s (s.issueWrite c line) :=
  h.trans (hch s c (fun r => { r with wq := r.wq.filter (fun x => x.line != line) }) fun _ => rfl) (frame_useLine hch _ _ _ _)

theorem frame_queued (s : State) (c line mask : Nat) : Rel s (s.queueWrite c line mask) := by
  have hfull (t : State) : Rel t (match t.nextWrite c with
      | none => t
      | some e => t.cond (decide (32 ≤ (t.chSt c).wq.length)) (fun t => t.issueWrite c e.line)) := by
    split
    · exact h.refl t
    · exact h.cond fun _ => frame_issueWrite h hch t _ _
  unfold State.queueWrite
  refine h.ite (fun _ => hch s c _ fun _ => rfl) fun _ => ?_
  exact h.trans (hfull s) (hch _ c _ fun _ => rfl)

theorem frame_stream (hfwd : ∀ c, W (R.DRM.CNT_FWD c) = true) (s : State) (a n : Nat) : Rel s (s.stream a n) := by
  unfold State.stream
  refine h.trans (h.each fun t c _ => h.each fun u e _ => ?_) (h.each fun t x _ => frame_useLine hch t _ _ _)
  exact h.ite (fun _ => h.inc u (hfwd _)) fun _ => frame_issueWrite h hch u _ _

/-- A streaming read that nothing poisons counts what it forwards and corrects, or that it is out of range, and no more. -/
theorem frame_soundRead (hfwd : ∀ c, W (R.DRM.CNT_FWD c) = true) (hce : ∀ c, W (R.DRM.CNT_CE c) = true) (hoor : W (R.DRM.CNT_OOR 0) = true)
    (hE : ∀ c, E (0x0E0 + c) = true) {s : State} {a n : Nat} (hs : s.unsound a n = false) : Rel s (s.readUe a n) := by
  have hcorr (t : State) (ws : List Nat) {Rel' : State → State → Prop} {W' : Fld → Bool} {E' : Nat → Bool} (h' : Frame Rel' W' E')
      (hce' : ∀ c, W' (R.DRM.CNT_CE c) = true) (hE' : ∀ c, E' (0x0E0 + c) = true) : Rel' t (t.each ws (fun s w =>
      s.incRaise (R.DRM.CNT_CE (dramCh s.drm.chans (8 * w))) (R.DRM.ev_CE (dramCh s.drm.chans (8 * w))))) :=
    h'.each fun u w _ => h'.incRaise u (hce' _) (hE' _) (show 0 < 32 by decide)
  have hsame := samePoisonFrame.trans (frame_stream samePoisonFrame (fun _ _ _ _ => ⟨rfl, rfl, fun _ => rfl⟩) (fun _ => rfl) s a n)
    (hcorr (s.stream a n) ((s.stream a n).drm.weak.filter (fun w => decide (a < 8 * w + 8 ∧ 8 * w < a + n) && !(s.stream a n).drm.poison.contains w))
      samePoisonFrame (fun _ => rfl) (fun _ => rfl))
  have hnone : s.unsoundParts a n = [] := by
    unfold State.unsound at hs
    rw [Bool.not_eq_false'] at hs
    exact List.isEmpty_iff.mp hs
  unfold State.readUe
  refine h.ite (fun _ => h.refl s) fun _ => h.ite (fun _ => h.incRaise s hoor (hE 0) (by decide)) fun _ => ?_
  simp only [hsame.unsoundParts, hnone]
  exact h.trans (frame_stream h hch hfwd s a n) (hcorr _ _ h hce hE)

end

/-- All that a streaming read of DRAM needs of a relation. -/
structure ChRel (Rel : State → State → Prop) (W : Fld → Bool) (E : Nat → Bool) : Prop where
  frame : Frame Rel W E
  ground : ∀ (s : State) (g : Nat), Rel s (s.ground g)
  ch : ChFree Rel
  ue : ∀ c, ∀ f ∈ ueFields c, W f = true
  access : ∀ c, ∀ f ∈ accessFields c, W f = true
  oor : W (R.DRM.CNT_OOR 0) = true
  chEvt : ∀ c, E (0x0E0 + c) = true

section
variable {Rel : State → State → Prop} {W : Fld → Bool} {E : Nat → Bool} (d : ChRel Rel W E)
include d

theorem ChRel.frame_oor (s : State) : Rel s s.oor := d.frame.incRaise s d.oor (d.chEvt 0) (by decide)

theorem ChRel.frame_ueRate (s : State) : Rel s s.ueRate := by
  unfold State.ueRate
  exact d.frame.trans (d.frame.level s _ (d.chEvt 0) (by decide))
    (d.frame.cond fun _ => d.ground _ _)

theorem ChRel.frame_ueRead (s : State) (c a : Nat) : Rel s (s.ueRead c a) := by
  have hu {f : Fld} (hf : f ∈ ueFields c) : W f = true := d.ue c f hf
  unfold State.ueRead
  refine d.frame.trans ?_ (d.frame_ueRate _)
  refine d.frame.trans ?_ (d.frame.wr _ _ (hu (by simp [ueFields])))
  refine d.frame.trans ?_ (d.ch _ c _ fun _ => rfl)
  refine d.frame.trans ?_ (d.frame.wr _ _ (hu (by simp [ueFields])))
  exact d.frame.incRaise s (hu (by simp [ueFields])) (d.chEvt c) (show 1 < 32 by decide)

theorem ChRel.frame_readUe (s : State) (a n : Nat) : Rel s (s.readUe a n) := by
  have hfwd (c : Nat) : W (R.DRM.CNT_FWD c) = true := d.access c _ (by simp [accessFields])
  have hce (c : Nat) : W (R.DRM.CNT_CE c) = true := d.access c _ (by simp [accessFields])
  unfold State.readUe
  refine d.frame.ite (fun _ => d.frame.refl s) fun _ => d.frame.ite (fun _ => d.frame_oor s) fun _ => ?_
  refine d.frame.trans ?_ (d.frame.each fun t p _ => d.frame_ueRead t _ _)
  refine d.frame.trans (frame_stream d.frame d.ch hfwd s a n) (d.frame.each fun t w _ => ?_)
  exact d.frame.incRaise t (hce _) (d.chEvt _) (show 0 < 32 by decide)

end
theorem noteErrs_nil (s : State) (line : Nat) : s.noteErrs [] line = s := by
  unfold State.noteErrs
  simp only [List.filter_nil, List.map_nil, List.append_nil]

section
variable {Rel : State → State → Prop} {W : Fld → Bool} {E : Nat → Bool} (d : ChRel Rel W E)
include d

theorem ChRel.frame_corrected (s : State) (b : Bool) (c n : Nat) : Rel s (s.cond b (fun s => (s.incBy (R.DRM.CNT_CE c) n).raise (R.DRM.ev_CE c))) :=
  d.frame.cond fun _ => d.frame.trans (d.frame.incBy s n (d.access c _ (by simp [accessFields]))) (d.frame.raise _ (d.chEvt c) (show 0 < 32 by decide))

theorem ChRel.frame_checkLine (s : State) (c line : Nat) : Rel s (s.checkLine c line).1 := by
  unfold State.checkLine
  simp only
  split
  · exact d.frame.trans (d.frame_corrected s _ c _) (d.frame_ueRead _ _ _)
  · exact d.frame_corrected s _ c _

/-- A line's part that is read, with no error found in the read itself. -/
theorem ChRel.frame_readPart (s : State) (p : Nat × Nat × Nat) : Rel s (s.readPart [] p).1 := by
  unfold State.readPart
  simp only [noteErrs_nil]
  split
  · exact d.frame_ueRead s _ _
  · split
    · split
      · exact d.frame.inc s (d.access (dramCh s.drm.chans p.2.1) (R.DRM.CNT_FWD (dramCh s.drm.chans p.2.1)) (by simp [accessFields]))
      · refine d.frame.trans ?_ (d.frame_checkLine _ _ _)
        exact d.frame.trans (frame_issueWrite d.frame d.ch s _ _) (frame_useLine d.ch _ _ _ _)
    · exact d.frame.trans (frame_useLine d.ch s _ _ _) (d.frame_checkLine _ _ _)

theorem ChRel.frame_dramRead (s : State) (a n : Nat) : Rel s (s.dramRead a n).2.2 := by
  have hparts (ps : List (Nat × Nat × Nat)) : ∀ s : State, Rel s (s.readParts [] ps).1 := by
    induction ps with
    | nil => exact d.frame.refl
    | cons p ps ih => exact fun s => d.frame.trans (d.frame_readPart s p) (ih _)
  unfold State.dramRead
  split
  · exact d.frame.refl s
  · split
    · exact d.frame_oor s
    · exact hparts _ s

end

/-- All that reads and writes of DRAM need of a relation. -/
structure DramRel (Rel : State → State → Prop) (W : Fld → Bool) (E : Nat → Bool) : Prop where
  frame : Frame Rel W E
  coil : CoilFree Rel
  red : RedFree Rel
  dram : DramFree Rel
  relinquish : ∀ f ∈ relinquishFields, W f = true
  ue : ∀ c, ∀ f ∈ ueFields c, W f = true
  access : ∀ c, ∀ f ∈ accessFields c, W f = true
  oor : W (R.DRM.CNT_OOR 0) = true
  chEvt : ∀ c, E (0x0E0 + c) = true
  redEvt : E 0x090 = true

/-- Fields whose offsets are none of those that reads and writes of DRAM, or a relinquishing sender, write. -/
def dramQuiet (fs : List Fld) : Bool :=
  fs.all (fun f => (ueFields 0 ++ accessFields 0 ++ [R.DRM.CNT_OOR 0]).all (fun g => offApart f g)) &&
    relinquishFields.all (apartFrom fs) &&
    fs.all (fun f => decide (f.off < 0xFFC ∧ f.off ≠ 0x010 ∧ f.off ≠ 0x018 ∧ f.off ≠ 0x014 ∧ f.off ≠ 0x00C ∨ f.off = 0x00C ∧ f.w ≤ 32))

/-- A part of the state and such fields stay across reads of DRAM. -/
theorem staysDram {β : Type} {F : State → β} {fs : List Fld} (hF : RegsFree F)
    (hC : ∀ (s : State) (c : List (Nat × CoilSt)) (o : List Output), F { s with coil := c, out := o } = F s)
    (hR : ∀ (s : State) (r : RedSt), F { s with red := r } = F s) (hD : ∀ (s : State) (d : DramSt), ReadChange s.drm d → F { s with drm := d } = F s)
    (hq : dramQuiet fs = true) : DramRel (Stays F fs) (apartFrom fs) (quietFor fs) := by
  unfold dramQuiet at hq
  rw [Bool.and_eq_true, Bool.and_eq_true, List.all_eq_true, List.all_eq_true] at hq
  obtain ⟨⟨hoff, hrel⟩, hev⟩ := hq
  have hfield {g : Fld} (g0 : Fld) (hg : g0 ∈ ueFields 0 ++ accessFields 0 ++ [R.DRM.CNT_OOR 0]) (ho : g.off = g0.off ∧ g.w = g0.w)
      (h18 : g0.off < 0xFFC ∧ g0.off ≠ 0x018 ∧ g0.off ≠ 0x014) : apartFrom fs g = true := by
    refine apart_of_off ?_
    rw [Bool.and_eq_true, List.all_eq_true, ho.1, decide_eq_true h18]
    refine ⟨fun f hf => ?_, rfl⟩
    have h0 := List.all_eq_true.mp (hoff f hf) g0 hg
    unfold offApart at h0 ⊢
    rw [ho.1, ho.2]
    exact h0
  refine
    { frame := staysFrame hF fs
      coil := fun s c o => .other (hC s c o) rfl
      red := fun s r => .other (hR s r) rfl
      dram := fun s d hd => .other (hD s d hd) rfl
      relinquish := hrel
      ue := fun c f hf => ?_
      access := fun c f hf => ?_
      oor := hfield (R.DRM.CNT_OOR 0) (by decide) ⟨rfl, rfl⟩ (by decide)
      chEvt := fun c => quiet_of_off hev _
      redEvt := quiet_of_off hev _ }
  · simp only [ueFields, List.mem_cons, List.not_mem_nil, or_false] at hf
    rcases hf with rfl | rfl | rfl
    · exact hfield (R.DRM.CNT_UE 0) (by decide) ⟨rfl, rfl⟩ (by decide)
    · exact hfield (R.DRM.LAST_UE_ADDR 0) (by decide) ⟨rfl, rfl⟩ (by decide)
    · exact hfield (R.DRM.UE_1S 0) (by decide) ⟨rfl, rfl⟩ (by decide)
  · simp only [accessFields, List.mem_cons, List.not_mem_nil, or_false] at hf
    rcases hf with rfl | rfl | rfl
    · exact hfield (R.DRM.CNT_CE 0) (by decide) ⟨rfl, rfl⟩ (by decide)
    · exact hfield (R.DRM.CNT_FWD 0) (by decide) ⟨rfl, rfl⟩ (by decide)
    · exact hfield (R.DRM.CNT_RMW 0) (by decide) ⟨rfl, rfl⟩ (by decide)

theorem DramRel.ce {Rel : State → State → Prop} {W : Fld → Bool} {E : Nat → Bool} (d : DramRel Rel W E) (c : Nat) : W (R.DRM.CNT_CE c) = true :=
  d.access c _ (by simp [accessFields])

theorem DramRel.fwd {Rel : State → State → Prop} {W : Fld → Bool} {E : Nat → Bool} (d : DramRel Rel W E) (c : Nat) : W (R.DRM.CNT_FWD c) = true :=
  d.access c _ (by simp [accessFields])

theorem DramRel.rmw {Rel : State → State → Prop} {W : Fld → Bool} {E : Nat → Bool} (d : DramRel Rel W E) (c : Nat) : W (R.DRM.CNT_RMW c) = true :=
  d.access c _ (by simp [accessFields])

/-! Changes of the records. -/

theorem ReadChange.refl (d : DramSt) : ReadChange d d := ⟨rfl, rfl, rfl, fun _ => rfl⟩

theorem ReadChange.trans {d d' d'' : DramSt} (h : ReadChange d d') (h' : ReadChange d' d'') : ReadChange d d'' :=
  ⟨h'.mem.trans h.mem, h'.chans.trans h.chans, h'.target.trans h.target, fun c => (h'.rest c).trans (h.rest c)⟩

theorem readChange_ch (d : DramSt) (c : Nat) {f : ChSt → ChSt} (hf : ∀ x, restOf (f x) = restOf x) :
    ReadChange d { d with ch := smMod chDefault d.ch c f } := by
  refine ⟨rfl, rfl, rfl, fun q => ?_⟩
  by_cases hq : q = c
  · rw [hq]
    exact (congrArg restOf (smGet_set_same _ _ _ _)).trans (hf _)
  · exact congrArg restOf (smGet_set_other _ _ _ hq)

section
variable {Rel : State → State → Prop} {W : Fld → Bool} {E : Nat → Bool} (d : DramRel Rel W E)
include d

theorem frame_modCh (s : State) (c : Nat) {f : ChSt → ChSt} (hf : ∀ x, restOf (f x) = restOf x) : Rel s (s.modCh c f) :=
  d.dram s _ (readChange_ch s.drm c hf)

theorem DramRel.chFree : ChFree Rel := fun s c _ hf => frame_modCh d s c hf

theorem frame_queueWrite (s : State) (c line mask : Nat) : Rel s (s.queueWrite c line mask) := frame_queued d.frame d.chFree s c line mask

theorem frame_noteErrs (s : State) (errs : List (Nat × Nat)) (line : Nat) : Rel s (s.noteErrs errs line) :=
  d.dram s _ ⟨rfl, rfl, rfl, fun _ => rfl⟩

theorem frame_cleanWords (s : State) (ws : List Nat) : Rel s (s.cleanWords ws) := d.dram s _ ⟨rfl, rfl, rfl, fun _ => rfl⟩

theorem DramRel.reads : ChRel Rel W E :=
  { frame := d.frame, ground := frame_ground d.frame d.coil d.red d.relinquish d.redEvt, ch := d.chFree, ue := d.ue, access := d.access, oor := d.oor,
    chEvt := d.chEvt }

theorem frame_oor (s : State) : Rel s s.oor := d.reads.frame_oor s

theorem frame_ueRate (s : State) : Rel s s.ueRate := d.reads.frame_ueRate s

theorem frame_ueRead (s : State) (c a : Nat) : Rel s (s.ueRead c a) := d.reads.frame_ueRead s c a

theorem frame_corrected (s : State) (b : Bool) (c n : Nat) : Rel s (s.cond b (fun s => (s.incBy (R.DRM.CNT_CE c) n).raise (R.DRM.ev_CE c))) :=
  d.reads.frame_corrected s b c n

theorem frame_checkLine (s : State) (c line : Nat) : Rel s (s.checkLine c line).1 := d.reads.frame_checkLine s c line

theorem frame_readPart (s : State) (errs : List (Nat × Nat)) (p : Nat × Nat × Nat) : Rel s (s.readPart errs p).1 := by
  unfold State.readPart
  simp only
  split
  · exact frame_ueRead d s _ _
  · split
    · split
      · exact d.frame.inc s (d.fwd _)
      · refine d.frame.trans ?_ (frame_checkLine d _ _ _)
        exact d.frame.trans (d.frame.trans (frame_issueWrite d.frame d.chFree s _ _) (frame_useLine d.chFree _ _ _ _)) (frame_noteErrs d _ _ _)
    · refine d.frame.trans ?_ (frame_checkLine d _ _ _)
      exact d.frame.trans (frame_useLine d.chFree s _ _ _) (frame_noteErrs d _ _ _)

theorem frame_readParts (s : State) (errs : List (Nat × Nat)) (ps : List (Nat × Nat × Nat)) : Rel s (s.readParts errs ps).1 := by
  induction ps generalizing s with
  | nil => exact d.frame.refl s
  | cons p ps ih => exact d.frame.trans (frame_readPart d s errs p) (ih _)

theorem frame_dramRead (s : State) (a n : Nat) : Rel s (s.dramRead a n).2.2 := d.reads.frame_dramRead s a n

theorem frame_readUe (s : State) (a n : Nat) : Rel s (s.readUe a n) := d.reads.frame_readUe s a n

theorem frame_writePart (s : State) (p : Nat × Nat × Nat) : Rel s (s.writePart p) := by
  unfold State.writePart
  simp only
  refine d.frame.ite (fun _ => d.frame.refl s) fun _ => ?_
  refine d.frame.ite (fun _ => d.frame.trans (frame_queueWrite d s _ _ _) (frame_cleanWords d _ _)) fun _ => ?_
  refine d.frame.trans ?_ (d.frame.cond fun _ => d.dram _ _ ⟨rfl, rfl, rfl, fun _ => rfl⟩)
  refine d.frame.trans ?_ (frame_cleanWords d _ _)
  refine d.frame.trans ?_ (frame_checkLine d _ _ _)
  refine d.frame.trans ?_ (frame_useLine d.chFree _ _ _ _)
  exact d.frame.trans (frame_queueWrite d s _ _ _) (d.frame.inc _ (d.rmw _))

/-- A write, for a relation that the content may change under. -/
theorem frame_dramStore (hmem : ∀ (s : State) (m : List Host.Cell), Rel s { s with drm := { s.drm with mem := m } }) (s : State) (off : Nat)
    (data : List Byte) : Rel s (s.dramStore off data) := by
  have hstore (t : State) (p : Nat × Nat × Nat) : Rel t (t.storePart off data p) := by
    unfold State.storePart
    exact d.frame.ite (fun _ => d.frame.refl t) fun _ => hmem t _
  unfold State.dramStore
  refine d.frame.ite (fun _ => d.frame.refl s) fun _ => d.frame.ite (fun _ => frame_oor d s) fun _ => ?_
  exact d.frame.each fun t p _ => d.frame.trans (hstore t p) (frame_writePart d _ p)

theorem frame_hostReadNow (s : State) (r : HostRead) : Rel s (s.hostReadNow r) :=
  d.frame.trans (frame_readParts d s _ _) (frame_emit d.coil _ _)

theorem frame_serveReads (rs : List HostRead) (s : State) : Rel s (State.serveReads rs s) := by
  induction rs generalizing s with
  | nil => exact d.frame.refl s
  | cons r rs ih =>
    unfold State.serveReads
    refine d.frame.ite (fun _ => d.frame.refl s) fun _ => d.frame.trans ?_ (ih _)
    exact d.frame.trans (d.dram s { s.drm with reads := rs } ⟨rfl, rfl, rfl, fun _ => rfl⟩) (frame_hostReadNow d _ r)

end

end Sys2Proof.Proofs.DramFrames

/-!
THEOREMS. ARM (16 R409, R416). Settles O16.
-/

namespace Sys2Proof.Proofs.Arming
open Sys2Proof.Machine Sys2Proof.Laws Sys2Proof.Proofs.Frames Sys2Proof.Proofs.FieldRules

theorem planFirst_eq (s : State) : s.planFirst = { s with frm := s.planFirst.frm } := by
  unfold State.planFirst
  split <;> rfl

/-- A write of another field leaves the device state. -/
theorem stateCode_wr (s : State) {g : Fld} (v : Nat) (h : sep R.GLB.STATE g = true) : (s.wr g v).stateCode = s.stateCode := rd_wr_sep s v h

/-- Moving to another device state shows it, and announces it. -/
theorem toState_shows {s : State} {c : Nat} (hne : s.stateCode ≠ c) (hc : c < 2 ^ R.GLB.STATE.w) :
    (s.toState c).stateCode = c ∧ Pending (s.toState c) R.GLB.ev_STATE_CHANGE ∧ OnlyRegs s (s.toState c) := by
  have heq : s.toState c = (s.wr R.GLB.STATE c).raise R.GLB.ev_STATE_CHANGE := if_neg hne
  rw [heq]
  refine ⟨?_, pending_raise _ (by decide), onlyRegs_trans (onlyRegs_wr _ _ _) (onlyRegs_raise _ _)⟩
  exact (rd_raise_sep _ (by decide)).trans ((rd_wr_own _ _ (by decide)).trans (Nat.mod_eq_of_lt hc))

/-- Moving to another device state writes no field of another page. -/
theorem rd_toState {f : Fld} (hw : sep f R.GLB.STATE = true) (hp : offKey f (evtPendKey R.GLB.ev_STATE_CHANGE.page) = true) (s : State) (c : Nat) :
    (s.toState c).rd f = s.rd f := by
  unfold State.toState
  split
  · rfl
  · exact (rd_raise_sep _ hp).trans (rd_wr_sep _ _ hw)

/-- READY of a channel and ARM_REFUSED are different bits, also where the page of an unknown channel is page FW. -/
theorem ready_sep (c : Nat) : sep (R.DRM.READY c) R.FW.ARM_REFUSED = true := by
  by_cases hc : c = 32
  · subst hc
    decide
  · have hkey : (R.DRM.READY c).key ≠ R.FW.ARM_REFUSED.key := by
      unfold Fld.key regKey R.DRM.READY R.FW.ARM_REFUSED
      simp only
      omega
    unfold sep
    rw [decide_eq_true ⟨hkey, fun h => absurd h (by show ¬ 32 < 1; decide), fun h => absurd h (by decide)⟩, Bool.true_or]

/-- ARM_REFUSED has no part in what bars the write. -/
theorem armBar_refused (s : State) (v : Nat) : (s.wr R.FW.ARM_REFUSED v).armBar = s.armBar := by
  have hready (c : Nat) : (s.wr R.FW.ARM_REFUSED v).flag (R.DRM.READY c) = s.flag (R.DRM.READY c) :=
    congrArg (· != 0) (rd_wr_sep s v (ready_sep c))
  unfold State.armBar
  simp only [hready, wr_drm, wr_boot]
  rw [show (s.wr R.FW.ARM_REFUSED v).flag R.FW.BOOT_BUSY = s.flag R.FW.BOOT_BUSY from congrArg (· != 0) (rd_wr_sep s v (by decide))]

/-- The states in which ARM may act. -/
def mayArm (s : State) : Bool := s.stateCode == stLOADED || (s.stateCode == stQUENCHED && !s.boot.armed && !s.frm.ticked)

/-- The state in which the write is judged. -/
def asked (s : State) : State := s.wr R.FW.ARM_REFUSED 0

/-- A sender that is armed, before its device state and its first tick are seen to. -/
def nowArmed (s : State) : State := { s with boot := { s.boot with armed := true } }

theorem stateCode_asked (s : State) : (asked s).stateCode = s.stateCode := stateCode_wr s 0 (by decide)

theorem mayArm_asked (s : State) : mayArm (asked s) = mayArm s := by
  unfold mayArm
  rw [stateCode_asked]
  unfold asked
  rw [wr_boot, wr_frm]

theorem armFx_eq (s : State) : armFx s = if !mayArm (asked s) then asked s else if (asked s).armBar then (asked s).wr R.FW.ARM_REFUSED 1
    else ((nowArmed (asked s)).cond ((asked s).stateCode == stLOADED) (fun s => s.toState stARMED)).planFirst := rfl

theorem armFx_refused {s : State} (hmay : mayArm s = true) (hbar : s.armBar = true) : armFx s = (asked s).wr R.FW.ARM_REFUSED 1 := by
  have hb : (asked s).armBar = true := (armBar_refused s 0).trans hbar
  rw [armFx_eq, mayArm_asked, hmay, if_neg (by decide), if_pos hb]

theorem armFx_arms {s : State} (hmay : mayArm s = true) (hbar : s.armBar = false) :
    armFx s = ((nowArmed (asked s)).cond (s.stateCode == stLOADED) (fun s => s.toState stARMED)).planFirst := by
  have hb : (asked s).armBar = false := (armBar_refused s 0).trans hbar
  rw [armFx_eq, mayArm_asked, hmay, if_neg (by decide), if_neg (by rw [hb]; decide), stateCode_asked]

/-- A sender's firmware runs in each of the two states. -/
theorem isSender_of {s : State} (hr : s.role = .sender) (h : 2 ≤ s.stateCode) : s.isSender = true :=
  (isSender_iff s).mpr ⟨decide_eq_true h, hr⟩

theorem asked_drm (s : State) : (asked s).drm = s.drm := wr_drm _ _ _
theorem asked_mram (s : State) : (asked s).mram = s.mram := wr_mram _ _ _
theorem rd_asked (s : State) : (asked s).rd R.FW.ARM_REFUSED = 0 := rd_wr_own _ _ (by decide)

/-- Settles O16. -/
theorem armingASender : Obligations.ArmingASender := by
  refine ⟨fun t0 s hr hst hbar => ⟨_, rfl, ?_⟩, fun t0 s hr hst hbar => ⟨_, rfl, ?_⟩, fun t0 s hr hst ha ht hbar => ⟨_, rfl, ?_⟩⟩
  · have hmay : mayArm (s.atTime t0) = true := by
      unfold mayArm
      rw [show (s.atTime t0).stateCode = stLOADED from hst]
      rfl
    have hne : (nowArmed (asked (s.atTime t0))).stateCode ≠ stARMED := by
      rw [show (nowArmed (asked (s.atTime t0))).stateCode = stLOADED from (stateCode_asked _).trans hst]
      decide
    obtain ⟨hstate, hpend, hregs⟩ := toState_shows hne (by decide)
    rw [cond_of (isSender_of hr (by rw [hst]; decide)), armFx_arms hmay hbar, cond_of (b := (s.atTime t0).stateCode == stLOADED) (beq_iff_eq.mpr hst), planFirst_eq]
    refine ⟨hstate, ?_, ?_, hpend, ?_, ?_⟩
    · rw [hregs]; rfl
    · exact (rd_toState (by decide) (by decide) _ _).trans (rd_asked _)
    · rw [hregs]; exact asked_mram _
    · rw [hregs]; exact asked_drm _
  · have hmay : mayArm (s.atTime t0) = true := by
      unfold mayArm
      rw [show (s.atTime t0).stateCode = stLOADED from hst]
      rfl
    rw [cond_of (isSender_of hr (by rw [hst]; decide)), armFx_refused hmay hbar]
    refine ⟨onlyRegs_trans (onlyRegs_atTime s t0) (onlyRegs_trans (onlyRegs_wr _ _ _) (onlyRegs_wr _ _ _)), rd_wr_own _ _ (by decide), ?_⟩
    exact wordsKept_trans (wordsKept_wr (s.atTime t0) (by decide) _) (wordsKept_wr _ (by decide) _)
  · have hmay : mayArm (s.atTime t0) = true := by
      unfold mayArm
      rw [show (s.atTime t0).stateCode = stQUENCHED from hst, show (s.atTime t0).boot.armed = false from ha, show (s.atTime t0).frm.ticked = false from ht]
      rfl
    rw [cond_of (isSender_of hr (by rw [hst]; decide)), armFx_arms hmay hbar,
      cond_of_not (by rw [show (s.atTime t0).stateCode = stQUENCHED from hst]; decide), planFirst_eq]
    exact ⟨(stateCode_asked _).trans hst, rfl, rd_asked _, asked_mram _, asked_drm _⟩

end Sys2Proof.Proofs.Arming

/-!
What a request of the MRAM's foreground changes as it joins, begins or is refused (13 R351, R358, R376): the record of the store, the reload of
the calibration, and what the pages NVS and COR show of them.
-/

namespace Sys2Proof.Proofs.MramFrames
open Sys2Proof.Machine Sys2Proof.Laws Sys2Proof.Proofs.Frames Sys2Proof.Proofs.FieldRules Sys2Proof.Proofs.Framing

/-- Fields that show the foreground requests. -/
def requestFields : List Fld := [R.NVS.OP_STATUS, R.NVS.CNT_TEMP_REFUSED, R.NVS.BUSY, R.COR.RELOADING]

/-- A relation that the records of the store and of the calibration may change under. -/
def NvsFree (Rel : State → State → Prop) : Prop := ∀ (s : State) (n : NvsSt) (c : CorSt), Rel s { s with nvs := n, cor := c }

section
variable {Rel : State → State → Prop} {W : Fld → Bool} {E : Nat → Bool} (h : Frame Rel W E) (hnvs : NvsFree Rel)
  (hW : ∀ f ∈ requestFields, W f = true) (hE : E 0x0D2 = true)
include h hW hE

theorem frame_opEnd (s : State) (st : Nat) : Rel s (s.opEnd st) := by
  unfold State.opEnd
  refine h.trans (h.trans (h.wr s _ (hW _ (by decide))) (h.raise _ hE (by decide))) (h.cond fun _ => ?_)
  exact h.incRaise _ (hW _ (by decide)) hE (by decide)

include hnvs

theorem frame_fgRefuse (s : State) (op : MramOp) (st : Nat) : Rel s (s.fgRefuse op st) := by
  unfold State.fgRefuse
  split
  · exact hnvs s _ s.cor
  · exact hnvs s _ s.cor
  · exact frame_opEnd h hW hE s st

theorem frame_fgSettle (n : Nat) (s : State) : Rel s (s.fgSettle n) := by
  induction n generalizing s with
  | zero => exact h.refl s
  | succ n ih =>
    unfold State.fgSettle
    split
    · exact h.refl s
    · split
      · exact h.refl s
      · exact h.trans (h.trans (hnvs s _ s.cor) (frame_fgRefuse h hnvs hW hE _ _ _)) (ih _)

omit hE in
theorem frame_fgShow (s : State) : Rel s s.fgShow := by
  unfold State.fgShow
  refine h.trans (h.trans (h.cond fun _ => ?_) (h.wrB _ _ (hW _ (by decide)))) (h.wrB _ _ (hW _ (by decide)))
  exact hnvs s s.nvs _

theorem frame_fgNext (s : State) : Rel s s.fgNext :=
  h.trans (h.ite (fun _ => h.refl s) fun _ => frame_fgSettle h hnvs hW hE _ s) (frame_fgShow h hnvs hW _)

/-- A request joins the others. -/
theorem frame_fgPut (s : State) (op : MramOp) : Rel s (s.fgPut op) := by
  unfold State.fgPut
  refine h.trans (hnvs s { s.nvs with fg := s.nvs.fg ++ [op] } s.cor) ?_
  exact h.ite (fun _ => frame_fgNext h hnvs hW hE _) fun _ => frame_fgShow h hnvs hW _

end

end Sys2Proof.Proofs.MramFrames

/-!
THEOREMS. Live update: reconstruction, readiness, health and revert (16 R424 to R428). Settles O18.
-/

namespace Sys2Proof.Proofs.LiveUpdate
open Sys2Proof.Machine Sys2Proof.Laws Sys2Proof.Proofs.Frames Sys2Proof.Proofs.FieldRules Sys2Proof.Proofs.Framing Sys2Proof.Proofs.DramFrames
  Sys2Proof.Proofs.MramFrames

/-! What the DRAM reads as. -/

/-- Two states read the same from DRAM. -/
structure SameDram (s t : State) : Prop where
  drm : t.drm = s.drm
  ready : ∀ c, t.flag (R.DRM.READY c) = s.flag (R.DRM.READY c)
  fault : ∀ c, t.flag (R.DRM.st_FAULT c) = s.flag (R.DRM.st_FAULT c)
  capacity : t.rd (R.DRM.CAPACITY 0) = s.rd (R.DRM.CAPACITY 0)

theorem SameDram.unsoundParts {s t : State} (h : SameDram s t) (a n : Nat) : t.unsoundParts a n = s.unsoundParts a n :=
  SamePoison.unsoundParts ⟨congrArg DramSt.poison h.drm, congrArg DramSt.chans h.drm, h.fault⟩ a n

theorem SameDram.unsound {s t : State} (h : SameDram s t) (a n : Nat) : t.unsound a n = s.unsound a n := by
  unfold State.unsound
  rw [h.unsoundParts]

theorem SameDram.dramBytes {s t : State} (h : SameDram s t) (a n : Nat) : t.dramBytes a n = s.dramBytes a n := by
  have hend : t.dramEnd = s.dramEnd := by
    have hready : t.chReady = s.chReady := funext h.ready
    unfold State.dramEnd State.installed State.channels
    rw [h.drm, h.capacity, hready]
  unfold State.dramBytes
  rw [h.unsoundParts, hend, h.drm]

/-- A write of a field of page FW that is neither READY's bit nor that of FAULT. -/
theorem sameDram_wr (s : State) {g : Fld} (v : Nat) (hpage : g.page = 0x100) (hoff : g.off = 0x00C) (hlo : 4 ≤ g.lo) (hfit : g.lo + g.w ≤ 32) :
    SameDram s (s.wr g v) := by
  have hsep (c lo : Nat) (h4 : lo < 4) : sep ⟨0x0E0 + c, 0x00C, lo, 1⟩ g = true := by
    unfold sep FieldRules.fits Fld.key regKey
    rw [hpage, hoff, Bool.or_eq_true]
    by_cases hc : c = 32
    · refine .inr ?_
      rw [Bool.and_eq_true, decide_eq_true_eq, decide_eq_true_eq]
      subst hc
      exact ⟨.inl hfit, by show 1 ≤ 32; decide, by omega, rfl, .inl (by show lo + 1 ≤ g.lo; omega)⟩
    · exact .inl (decide_eq_true ⟨by show (0x0E0 + c) * 0x1000 + 0x00C ≠ _; omega, fun h => absurd h (by show ¬ 32 < 1; decide), fun h => by omega⟩)
  refine ⟨wr_drm _ _ _, fun c => congrArg (· != 0) (rd_wr_sep s v (hsep c 0 (by decide))), fun c => congrArg (· != 0) (rd_wr_sep s v (hsep c 3 (by decide))), ?_⟩
  refine rd_wr_sep s v (sep_of_offApart (decide_eq_true ?_))
  rw [hoff]
  exact ⟨by decide, by decide, by decide, fun _ => by decide, fun _ => by decide⟩

theorem SameDram.trans {s t u : State} (h : SameDram s t) (h' : SameDram t u) : SameDram s u :=
  ⟨h'.drm.trans h.drm, fun c => (h'.ready c).trans (h.ready c), fun c => (h'.fault c).trans (h.fault c), h'.capacity.trans h.capacity⟩

/-- The staged delta follows DRAM, table 0 of page FW, and the two fields that say where it lies. -/
theorem stagedDelta_congr {s t : State} (h : SameDram s t) (hr : t.role = s.role) (hi : t.imm = s.imm) (hb : t.rd R.FW.UPD_BASE = s.rd R.FW.UPD_BASE)
    (hl : t.rd R.FW.UPD_LEN = s.rd R.FW.UPD_LEN) : t.stagedDelta = s.stagedDelta := by
  have himm (i : Nat) : t.immByte 0x100 0 i = s.immByte 0x100 0 i := by unfold State.immByte State.immW; rw [hi]
  unfold State.stagedDelta
  simp only [hr, hb, hl, h.dramBytes, himm]

/-! UPD_GO. -/

/-- A reconstruction is under way. -/
def applying (s : State) : State := (s.wr R.FW.UPD_REFUSED 0).wr R.FW.UPD_STATE upAPPLYING

theorem applying_sameDram (s : State) : SameDram s (applying s) :=
  (sameDram_wr s 0 rfl rfl (by decide) (by decide)).trans (sameDram_wr _ _ rfl rfl (by decide) (by decide))

theorem applying_eq (s : State) : applying s = { s with regs := (applying s).regs } := by
  unfold applying
  rw [wr_eq, wr_eq]

/-- The delta is taken. -/
def deltaTaken (s : State) : State :=
  { applying s with boot := { s.boot with delta := s.stagedDelta, deltaBad := s.role == .sender && s.unsound (s.rd R.FW.UPD_BASE) (min (s.rd R.FW.UPD_LEN) 8388608) } }

theorem updGoFx_starts {s : State} (hrun : s.running = true) (h1 : s.rd R.FW.UPD_STATE ≠ upAPPLYING) (h2 : s.rd R.FW.UPD_STATE ≠ upREADY)
    (h3 : s.rd R.FW.UPD_STATE ≠ upGREEN) : updGoFx s = (deltaTaken s).cond (s.role == .sender)
      (fun t => t.readUe (s.rd R.FW.UPD_BASE) (min (s.rd R.FW.UPD_LEN) 8388608)) := by
  have hbase : (applying s).rd R.FW.UPD_BASE = s.rd R.FW.UPD_BASE := (rd_wr_sep _ _ (by decide)).trans (rd_wr_sep _ _ (by decide))
  have hlen : (applying s).rd R.FW.UPD_LEN = s.rd R.FW.UPD_LEN := (rd_wr_sep _ _ (by decide)).trans (rd_wr_sep _ _ (by decide))
  have hrole : (applying s).role = s.role := by rw [applying_eq]
  have hboot : (applying s).boot = s.boot := by rw [applying_eq]
  have hdelta := stagedDelta_congr (applying_sameDram s) hrole (by rw [applying_eq]) hbase hlen
  unfold updGoFx
  rw [if_neg (by rw [hrun, beq_false_of_ne h1, beq_false_of_ne h2, beq_false_of_ne h3]; decide)]
  show (({ applying s with boot := { (applying s).boot with delta := (applying s).stagedDelta, deltaBad := (applying s).role == .sender && (applying s).unsound ((applying s).rd R.FW.UPD_BASE) (min ((applying s).rd R.FW.UPD_LEN) 8388608) } } : State).cond ((applying s).role == .sender) (fun t => t.readUe ((applying s).rd R.FW.UPD_BASE) (min ((applying s).rd R.FW.UPD_LEN) 8388608))) = _
  rw [hdelta, hboot, hrole, hbase, hlen, (applying_sameDram s).unsound]
  rfl

theorem updGoFx_refuses {s : State} (h : s.running = false ∨ s.rd R.FW.UPD_STATE = upAPPLYING ∨ s.rd R.FW.UPD_STATE = upREADY ∨ s.rd R.FW.UPD_STATE = upGREEN) :
    updGoFx s = s.wr R.FW.UPD_REFUSED 1 := by
  unfold updGoFx
  refine if_pos ?_
  rcases h with h | h | h | h <;> rw [h] <;> simp

theorem deltaTaken_rd (s : State) : (deltaTaken s).rd R.FW.UPD_STATE = upAPPLYING ∧ (deltaTaken s).rd R.FW.UPD_REFUSED = 0 :=
  ⟨rd_wr_own _ _ (by decide), (rd_wr_sep _ _ (by decide)).trans (rd_wr_own _ _ (by decide))⟩

/-- What the DRAM counts of the read has no part in the update. -/
theorem readUe_keeps (s : State) (a n : Nat) : Stays State.boot [R.FW.UPD_STATE, R.FW.UPD_REFUSED] s (s.readUe a n) :=
  frame_readUe (staysDram (fun _ _ _ => rfl) (fun _ _ _ => rfl) (fun _ _ => rfl) (fun _ _ _ => rfl) (by decide)) s a n

/-! The end of a reconstruction. -/

/-- What shows an update that failed. -/
theorem updFail_shows (s : State) (code : Nat) : (s.updFail code).boot = s.boot ∧ (s.updFail code).stateCode = s.stateCode ∧
    (s.updFail code).rd R.FW.UPD_STATE = upFAILED ∧ Pending (s.updFail code) R.FW.ev_UPD_FAILED ∧ Counted s (s.updFail code) R.FW.CNT_UPD_FAILED := by
  refine ⟨?_, ?_, ?_, pending_raise _ (by decide), ?_⟩
  · unfold State.updFail State.incRaise State.inc State.incBy
    simp only [raise_boot, wr_boot]
  · exact (rd_raise_sep _ (by decide)).trans ((rd_wr_sep _ _ (by decide)).trans ((rd_wr_sep _ _ (by decide)).trans (rd_wr_sep _ _ (by decide))))
  · exact (rd_raise_sep _ (by decide)).trans ((rd_wr_sep _ _ (by decide)).trans (rd_wr_own _ _ (by decide)))
  · refine (rd_raise_sep _ (by decide)).trans ((rd_incBy_same _ rfl rfl 1).trans ?_)
    rw [rd_wr_sep _ _ (by decide), rd_wr_sep _ _ (by decide)]

/-- The image of a reconstruction: none for a delta of another version, a poisoned one, or one that gives none. -/
def rebuilt (s : State) : Option (List Byte) :=
  if Config.deltaBase s.boot.delta = imgVersion s.boot.running.bytes ∧ s.boot.deltaBad = false then Config.reconstruct s.boot.running.bytes s.boot.delta
  else none

/-- An image that is ready in the other banks. -/
def nowReady (b : List Byte) (s : State) : State := { s with boot := { s.boot with other := some { idx := s.boot.running.idx, bytes := b } } }

/-- An update that is ready. -/
def isReady (b : List Byte) (s : State) : State :=
  ((((nowReady b s).wr R.FW.BOOT_ERR 0).showBanks).wr R.FW.UPD_STATE upREADY).raise R.FW.ev_UPD_READY

theorem updDoneFx_eq (s : State) : updDoneFx s = match rebuilt s with
    | none => s.fresh.2.updFail (s.fresh.1 % 16)
    | some b => if verifyImage s.role s.member b ≠ 0 then s.updFail (verifyImage s.role s.member b)
      else isReady b s := by
  unfold updDoneFx rebuilt
  simp only [Bool.and_eq_true, beq_iff_eq, Bool.not_eq_true']
  rfl

theorem ready_shows (s : State) (b : List Byte) :
    let t := isReady b s
    t.boot = (nowReady b s).boot ∧ t.stateCode = s.stateCode ∧ t.rd R.FW.UPD_STATE = upREADY ∧ Pending t R.FW.ev_UPD_READY ∧
      t.rd R.FW.CNT_UPD_FAILED = s.rd R.FW.CNT_UPD_FAILED := by
  have hst := staysFrame (F := State.boot) (fun _ _ _ => rfl) [R.GLB.STATE, R.FW.CNT_UPD_FAILED]
  have hbanks (u : State) : Stays State.boot [R.GLB.STATE, R.FW.CNT_UPD_FAILED] u u.showBanks :=
    hst.trans (hst.trans (hst.wr u _ (by decide)) (hst.wr _ _ (by decide))) (hst.wr _ _ (by decide))
  have hall : Stays State.boot [R.GLB.STATE, R.FW.CNT_UPD_FAILED] (nowReady b s) (isReady b s) :=
    hst.trans (hst.trans (hst.trans (hst.wr _ _ (by decide)) (hbanks _)) (hst.wr _ _ (by decide))) (hst.raise _ (by decide) (by decide))
  exact ⟨hall.part, hall.rd _ (by simp), (rd_raise_sep _ (by decide)).trans (rd_wr_own _ _ (by decide)), pending_raise _ (by decide), hall.rd _ (by simp)⟩

/-- The image that the end of a reconstruction makes ready, if it does. -/
def readyImage (s : State) : Option (List Byte) := (rebuilt s).filter (fun b => verifyImage s.role s.member b == 0)

/-- How the end of a reconstruction shows. -/
def DoneShows (s t : State) (img : Option (List Byte)) : Prop :=
  t.boot.running = s.boot.running ∧ t.stateCode = s.stateCode ∧ t.rd R.FW.UPD_STATE = (if img.isSome then upREADY else upFAILED) ∧
    Pending t (if img.isSome then R.FW.ev_UPD_READY else R.FW.ev_UPD_FAILED) ∧
    t.boot.other = (match img with | some b => some { idx := s.boot.running.idx, bytes := b } | none => s.boot.other) ∧
    t.rd R.FW.CNT_UPD_FAILED = (if img.isSome then s.rd R.FW.CNT_UPD_FAILED else min (s.rd R.FW.CNT_UPD_FAILED + 1) 0xFFFFFFFF)

theorem doneShows_fail {s u : State} (code : Nat) (hboot : u.boot = s.boot) (hregs : u.regs = s.regs) : DoneShows s (u.updFail code) none := by
  obtain ⟨h1, h2, h3, h4, h5⟩ := updFail_shows u code
  exact ⟨congrArg BootSt.running (h1.trans hboot), h2.trans (rd_congr hregs _), h3, h4, congrArg BootSt.other (h1.trans hboot),
    h5.trans (by rw [rd_congr hregs]; rfl)⟩

theorem updDoneFx_shows (s : State) : DoneShows s (updDoneFx s) (readyImage s) := by
  rw [updDoneFx_eq]
  unfold readyImage
  cases rebuilt s with
  | none => exact doneShows_fail _ rfl rfl
  | some b =>
    rw [Option.filter_some]
    by_cases hv : verifyImage s.role s.member b = 0
    · rw [if_pos (beq_iff_eq.mpr hv)]
      simp only [hv, ne_eq, not_true_eq_false, if_false]
      obtain ⟨h1, h2, h3, h4, h5⟩ := ready_shows s b
      exact ⟨(congrArg BootSt.running h1).trans rfl, h2, h3, h4, (congrArg BootSt.other h1).trans rfl, h5⟩
    · rw [if_neg (by rw [beq_false_of_ne hv]; decide)]
      simp only [ne_eq, hv, not_false_eq_true, if_true]
      exact doneShows_fail _ rfl rfl

/-! HEALTH. -/

/-- A greenware image that HEALTH fires. -/
def firedRegs (v : Word32) (s : State) : State :=
  ((((s.wr R.FW.CONFIRM_LEFT s.confirmLeft).wr R.FW.GREEN 0).wr R.FW.HEALTH v.toNat).wr R.FW.UPD_STATE upFIRED).raise R.FW.ev_FIRED

/-- The window of a trial closes. -/
def closeTrial (s : State) : State := { s with boot := { s.boot with trialOver := true } }

/-- HEALTH has fired the image. -/
def fired (v : Word32) (s : State) : State := closeTrial (firedRegs v s)

/-- The image that it replaced has another settings format. -/
def otherSettings (s : State) : Bool := s.boot.other.any (fun i => imgSettings i.bytes != imgSettings s.boot.running.bytes)

theorem firedRegs_eq (v : Word32) (s : State) : firedRegs v s = { s with regs := (firedRegs v s).regs, evt := (firedRegs v s).evt } := by
  have h : OnlyRegs s (firedRegs v s) :=
    onlyRegs_trans (onlyRegs_trans (onlyRegs_trans (onlyRegs_trans (onlyRegs_wr _ _ _) (onlyRegs_wr _ _ _)) (onlyRegs_wr _ _ _)) (onlyRegs_wr _ _ _)) (onlyRegs_raise _ _)
  have ho : (firedRegs v s).out = s.out := by simp only [firedRegs, raise_out, wr_out]
  have ht : (firedRegs v s).time = s.time := by simp only [firedRegs, raise_time, wr_time]
  exact Eq.trans h (by rw [ho, ht])

theorem firedRegs_boot (v : Word32) (s : State) : (firedRegs v s).boot = s.boot := by rw [firedRegs_eq]

theorem fired_eq (v : Word32) (s : State) :
    fired v s = { s with regs := (firedRegs v s).regs, evt := (firedRegs v s).evt, boot := { s.boot with trialOver := true } } := by
  unfold fired
  rw [firedRegs_eq]
  rfl

theorem fired_boot (v : Word32) (s : State) : (fired v s).boot = { s.boot with trialOver := true } := by rw [fired_eq]

theorem healthFx_eq (v : Word32) (s : State) : healthFx v s =
    if s.flag R.FW.GREEN then if s.boot.revertDue then s else (fired v s).cond (otherSettings (fired v s)) (fun s => s.fgPut .defaults)
    else s.cond (!s.boot.trialOver) (fun s => s.wr R.FW.HEALTH v.toNat) := by
  unfold healthFx fired firedRegs closeTrial otherSettings
  rfl

theorem healthFx_fires {s : State} (v : Word32) (hg : s.flag R.FW.GREEN = true) (hd : s.boot.revertDue = false) :
    healthFx v s = (fired v s).cond (otherSettings s) (fun s => s.fgPut .defaults) := by
  rw [healthFx_eq, if_pos hg, if_neg (by rw [hd]; decide)]
  unfold otherSettings
  rw [fired_boot]

theorem fired_shows (v : Word32) (s : State) : (fired v s).rd R.FW.GREEN = 0 ∧ (fired v s).rd R.FW.HEALTH = v.toNat ∧
    (fired v s).rd R.FW.UPD_STATE = upFIRED ∧ Pending (fired v s) R.FW.ev_FIRED := by
  refine ⟨?_, ?_, ?_, pending_raise _ (by decide)⟩
  · exact (rd_raise_sep _ (by decide)).trans ((rd_wr_sep _ _ (by decide)).trans ((rd_wr_sep _ _ (by decide)).trans (rd_wr_own _ _ (by decide))))
  · refine (rd_raise_sep _ (by decide)).trans ((rd_wr_sep _ _ (by decide)).trans ((rd_wr_own _ _ (by decide)).trans ?_))
    exact Nat.mod_eq_of_lt v.isLt
  · exact (rd_raise_sep _ (by decide)).trans (rd_wr_own _ _ (by decide))

theorem fired_wordsKept (v : Word32) (s : State) : WordsKept s (fired v s)
    [R.FW.GREEN.key, R.FW.HEALTH.key, R.FW.UPD_STATE.key, R.FW.CONFIRM_LEFT.key, pendKey R.FW.ev_FIRED] := by
  intro k hk
  simp only [List.mem_cons, List.not_mem_nil, or_false, not_or] at hk
  obtain ⟨h1, h2, h3, h4, h5⟩ := hk
  refine (wordsKept_raise _ _ k (by simpa [pendKey] using h5)).trans ?_
  refine (wordsKept_wr _ (by decide) _ k (by simpa using h3)).trans ?_
  refine (wordsKept_wr _ (by decide) _ k (by simpa using h2)).trans ?_
  exact (wordsKept_wr _ (by decide) _ k (by simpa using h1)).trans (wordsKept_wr _ (by decide) _ k (by simpa using h4))

/-- The fields that show what HEALTH did. -/
def firedFields : List Fld := [R.FW.GREEN, R.FW.HEALTH, R.FW.UPD_STATE]

/-- Rewriting the record leaves them. -/
theorem defaults_keeps (s : State) : Stays (fun s => (s.boot, s.mram)) firedFields s (s.fgPut .defaults) :=
  frame_fgPut (staysFrame (F := fun s : State => (s.boot, s.mram)) (fun _ _ _ => rfl) firedFields) (fun _ _ _ => .other rfl rfl) (by decide) (by decide) s _

theorem healthFx_ignored {s : State} (v : Word32)
    (h : (s.flag R.FW.GREEN = true ∧ s.boot.revertDue = true) ∨ (s.flag R.FW.GREEN = false ∧ s.boot.trialOver = true)) : healthFx v s = s := by
  unfold healthFx
  rcases h with ⟨hg, hd⟩ | ⟨hg, ho⟩
  · rw [if_pos hg, if_pos hd]
  · rw [if_neg (by rw [hg]; decide)]
    exact cond_of_not (by rw [ho]; rfl) _ _

/-! Reverts. -/

theorem revertFx_due {s : State} (hg : s.flag R.FW.GREEN = true) : revertFx s = { s with boot := { s.boot with revertDue := true } } := cond_of hg _ _

/-- Settles O18. -/
theorem liveUpdates : Obligations.LiveUpdates := by
  refine ⟨fun s hon => ⟨fun hrun h1 h2 h3 => ⟨_, rfl, ?_⟩, fun h => ⟨_, rfl, ?_⟩⟩, fun s hrun hst => ⟨_, rfl, ?_⟩, fun v s hrun hg hd => ⟨_, rfl, ?_⟩,
    fun v s hrun h => ⟨_, rfl, ?_⟩, fun s hrun hg => ⟨_, rfl, ?_⟩, fun s hon hg => ⟨_, rfl, ?_⟩, fun t0 s hrun hg => ⟨_, rfl, ?_⟩⟩
  · rw [cond_of hon, updGoFx_starts (s := s.start) hrun h1 h2 h3]
    obtain ⟨hstate, hrefused⟩ := deltaTaken_rd s.start
    have hkeep : Stays State.boot [R.FW.UPD_STATE, R.FW.UPD_REFUSED] (deltaTaken s.start) ((deltaTaken s.start).cond (s.start.role == .sender)
        (fun t => t.readUe (s.start.rd R.FW.UPD_BASE) (min (s.start.rd R.FW.UPD_LEN) 8388608))) :=
      (staysFrame (F := State.boot) (fun _ _ _ => rfl) _).cond fun _ => readUe_keeps _ _ _
    refine ⟨(hkeep.rd _ (by simp)).trans hstate, (hkeep.rd _ (by simp)).trans hrefused, hkeep.part, fun ht => ?_⟩
    rw [cond_of_not (show (s.start.role == .sender) = false by rw [show s.start.role = .tile from ht]; rfl)]
    refine ⟨?_, fun k hk => ?_⟩
    · unfold deltaTaken
      rw [applying_eq]
      rfl
    · simp only [List.mem_cons, List.not_mem_nil, or_false, not_or] at hk
      exact (wordsKept_wr _ (by decide) _ k (by simpa using hk.1)).trans (wordsKept_wr s.start (by decide) _ k (by simpa using hk.2))
  · rw [cond_of hon, updGoFx_refuses (s := s.start) h]
    refine ⟨?_, rd_wr_own _ _ (by decide), rd_wr_sep _ _ (by decide), wordsKept_wr s.start (by decide) _⟩
    rw [wr_eq]
    rfl
  · rw [cond_of (by rw [hrun, beq_iff_eq.mpr hst]; rfl)]
    exact updDoneFx_shows s.start
  · rw [cond_of hrun, healthFx_fires (s := s.start) v hg hd]
    obtain ⟨h1, h2, h3, h4⟩ := fired_shows v s.start
    have hkeep : Stays (fun s => (s.boot, s.mram)) firedFields (fired v s.start) ((fired v s.start).cond (otherSettings s.start) (fun s => s.fgPut .defaults)) :=
      (staysFrame (F := fun s : State => (s.boot, s.mram)) (fun _ _ _ => rfl) firedFields).cond fun _ => defaults_keeps _
    have hmram : (fired v s.start).mram = s.mram := by rw [fired_eq]; rfl
    refine ⟨(hkeep.rd _ (by simp [firedFields])).trans h1, (hkeep.rd _ (by simp [firedFields])).trans h2, (hkeep.rd _ (by simp [firedFields])).trans h3,
      hkeep.pend _ h4, (congrArg Prod.fst hkeep.part).trans (by rw [fired_eq]; rfl), (congrArg Prod.snd hkeep.part).trans hmram, fun hsame => ?_⟩
    have hno : otherSettings s.start = false := by
      unfold otherSettings
      cases ho : s.boot.other with
      | none => rw [show s.start.boot.other = none from ho]; rfl
      | some i =>
        rw [show s.start.boot.other = some i from ho, Option.any_some, hsame i ho]
        exact bne_self_eq_false _
    rw [cond_of_not hno]
    refine ⟨?_, fired_wordsKept v s.start⟩
    rw [fired_eq]
    rfl
  · rw [cond_of hrun]
    exact healthFx_ignored v h
  · rw [cond_of hrun]
    exact revertFx_due hg
  · rw [cond_of hon]
    exact revertFx_due hg
  · rw [cond_of (s := s.atTime t0) hrun]
    exact if_pos hg

end Sys2Proof.Proofs.LiveUpdate

/-!
THEOREMS. BOOT broadcasts (16 R418 to R422). Settles O17.
-/

namespace Sys2Proof.Proofs.BootBroadcast
open Sys2Proof.Machine Sys2Proof.Laws Sys2Proof.Proofs.Frames Sys2Proof.Proofs.FieldRules Sys2Proof.Proofs.Framing Sys2Proof.Proofs.Sending
  Sys2Proof.Proofs.DramFrames

/-! BOOT_GO. -/

/-- An image that is sent leaves chunk by chunk. -/
theorem sendImage_sends (s : State) (p : Nat) (img : Image) :
    OnlySent s (s.sendImage p img) ∧ SendsKept s (s.sendImage p img) ∧ ∀ c ∈ bootChunks img, Sends (s.sendImage p img) p (.boot p c) := by
  obtain ⟨h1, h2, h3, -⟩ := each_sends (s := s) (xs := bootChunks img) (f := fun s c => s.send none (.boot p c)) (port := fun _ => p)
    (pkt := fun c => .boot p c) (fun _ _ _ _ => rfl) (fun _ _ => ⟨_, rfl⟩)
  exact ⟨h1, h2, h3⟩

/-- An image that goes out on several ports leaves on each of them. -/
theorem sendImages_sends (s : State) (ps : List Nat) (img : Image) : OnlySent s (s.each ps (fun s p => s.sendImage p img)) ∧
    ∀ p ∈ ps, ∀ c ∈ bootChunks img, Sends (s.each ps (fun s p => s.sendImage p img)) p (.boot p c) :=
  each_all (Inv := OnlySent s) (P := fun p t => ∀ c ∈ bootChunks img, Sends t p (.boot p c))
    (fun t ht p _ => ⟨ht.trans (sendImage_sends t p img).1, (sendImage_sends t p img).2.2⟩)
    (fun t _ p _ _ h c hc => (sendImage_sends t p img).2.1.sends (h c hc)) (onlySent_refl s)

/-- The fields that say where a broadcast may go, and that one runs. -/
def goFields (p : Nat) : List Fld := [R.GLB.STATE, R.COIL.LINK p, R.COIL.st_TOPOLOGY_LOOP p, ⟨0x090, 0x600, 2 * p, 2⟩]

/-- What a sound read of the image leaves alone. -/
abbrev GoStays (p : Nat) : State → State → Prop := Stays (fun s => (s.boot, s.mram, s.red, s.member, s.aon)) (goFields p)

theorem GoStays.canSend {p : Nat} {s t : State} (h : GoStays p s t) : t.canSend p = s.canSend p := by
  have hpart := h.part
  simp only [Prod.mk.injEq] at hpart
  obtain ⟨-, -, -, -, haon⟩ := hpart
  unfold State.canSend State.isUp State.running State.stateCode State.flag
  rw [h.rd _ (by simp [goFields]), h.rd (R.COIL.LINK p) (by simp [goFields]), h.rd (R.COIL.st_TOPOLOGY_LOOP p) (by simp [goFields]), haon]

theorem GoStays.portState {p : Nat} {s t : State} (h : GoStays p s t) : t.portState p = s.portState p := h.rd _ (by simp [goFields])

/-- The image in DRAM. -/
def goImage (s : State) : Image := { idx := s.rd R.FW.BOOT_IDX, bytes := s.dramBytes (s.rd R.FW.BOOT_BASE) (min (s.rd R.FW.BOOT_LEN) 1048576) }

def goUnsound (s : State) : Bool := s.unsound (s.rd R.FW.BOOT_BASE) (min (s.rd R.FW.BOOT_LEN) 1048576)

/-- The image has been read. -/
def goRead (s : State) : State := (s.readUe (s.rd R.FW.BOOT_BASE) (min (s.rd R.FW.BOOT_LEN) 1048576)).wrB R.FW.BOOT_REFUSED (goUnsound s)

/-- The broadcast runs. -/
def goBusy (s : State) : State := (goRead s).wr R.FW.BOOT_BUSY 1

theorem bootGoFx_eq {s : State} (hst : s.stateCode = stLOADED ∨ s.stateCode = stARMED) (hb : s.flag R.FW.BOOT_BUSY = false) :
    bootGoFx s = if goUnsound s then goRead s else (goBusy s).each
      ((goRead s).ports.filter (fun p => (goRead s).canSend p && (goRead s).portState p == psACTIVE)) (fun t p => t.sendImage p (goImage s)) := by
  unfold bootGoFx
  rw [if_neg (by rcases hst with h | h <;> rw [h, hb] <;> decide)]
  rfl

theorem goRead_refused (s : State) : (goRead s).rd R.FW.BOOT_REFUSED = b2n (goUnsound s) :=
  (rd_wr_own _ _ (by decide)).trans (by cases goUnsound s <;> rfl)

/-- Reading the image leaves BOOT_BUSY. -/
theorem goRead_busy (s : State) : (goRead s).rd R.FW.BOOT_BUSY = s.rd R.FW.BOOT_BUSY := by
  refine (rd_wr_sep _ _ (by decide)).trans ?_
  exact (frame_readUe (staysDram (F := fun _ => ()) (fs := [R.FW.BOOT_BUSY]) (fun _ _ _ => rfl) (fun _ _ _ => rfl) (fun _ _ => rfl) (fun _ _ _ => rfl)
    (by decide)) s _ _).rd _ (by simp)

/-- A sound read leaves the ports as they are. -/
theorem goRead_stays {s : State} (hs : goUnsound s = false) {p : Nat} (hp : p < 16) : GoStays p s (goRead s) := by
  have h := staysFrame (F := fun s : State => (s.boot, s.mram, s.red, s.member, s.aon)) (fun _ _ _ => rfl) (goFields p)
  refine h.trans (frame_soundRead h (fun _ _ _ _ => .other rfl rfl) (fun _ => apart_of_off rfl) (fun _ => apart_of_off rfl) (apart_of_off rfl)
    (fun _ => quiet_of_off rfl _) hs) (h.wrB _ _ ?_)
  interval_cases p <;> decide

/-! The assembly of an image. -/

/-- The assembly of an index takes a value. -/
def asmSet (s : State) (i : Nat) (a : BootAsm) : State := { s with boot := { s.boot with asm := smSet asmDefault s.boot.asm i a } }

theorem asmSet_get (s : State) (i : Nat) (a : BootAsm) (j : Nat) :
    smGet asmDefault (asmSet s i a).boot.asm j = if j = i then a else smGet asmDefault s.boot.asm j := by
  by_cases h : j = i
  · rw [if_pos h, h]
    exact smGet_set_same _ _ _ _
  · rw [if_neg h]
    exact smGet_set_other _ _ _ h

theorem bootChunkFx_first {s : State} {c : BootChunk} (hb : (smGet asmDefault s.boot.asm c.idx).bytes = []) (hf : c.first = true) (hl : c.last = false)
    (ho : c.off = 0) : bootChunkFx c s = asmSet s c.idx { smGet asmDefault s.boot.asm c.idx with bytes := c.data, len := c.imgLen } := by
  unfold bootChunkFx State.asmTake
  simp only [hb, hf, hl, ho, List.isEmpty_nil, Bool.not_true, List.length_nil, ne_eq, not_true_eq_false, or_self, if_true, if_false, List.nil_append]
  rfl

section
variable {s : State} {c : BootChunk} {a : BootAsm} (ha : smGet asmDefault s.boot.asm c.idx = a) (hne : a.bytes ≠ []) (hf : c.first = false)
include ha hne hf

/-- A chunk that is no first one goes to the assembly that is open. -/
theorem bootChunkFx_open : bootChunkFx c s = s.asmTake a c := by
  unfold bootChunkFx
  rw [ha, if_neg (by rw [hf]; decide)]
  exact cond_of (by rw [Bool.not_eq_true', List.isEmpty_eq_false_iff]; exact hne) _ _

theorem bootChunkFx_stale (hno : ¬(c.off = a.bytes.length ∧ c.imgLen = a.len)) (hst : (c.off, c.imgLen) ∈ a.stale) :
    bootChunkFx c s = asmSet s c.idx { a with stale := passStale c a.stale } := by
  rw [bootChunkFx_open ha hne hf]
  unfold State.asmTake
  rw [if_pos (by rw [← not_and_or]; exact hno), if_pos (List.contains_iff_mem.mpr hst)]
  rfl

theorem bootChunkFx_joins (ho : c.off = a.bytes.length) (hi : c.imgLen = a.len) (hl : c.last = false) :
    bootChunkFx c s = asmSet s c.idx { a with bytes := a.bytes ++ c.data } := by
  rw [bootChunkFx_open ha hne hf]
  unfold State.asmTake
  rw [if_neg (by rw [ho, hi]; simp)]
  simp only [hl, Bool.false_eq_true, if_false]
  rfl

theorem bootChunkFx_ends (ho : c.off = a.bytes.length) (hi : c.imgLen = a.len) (hl : c.last = true) (hlen : a.bytes.length + c.data.length = a.len) :
    bootChunkFx c s = s.asmDone { idx := c.idx, bytes := a.bytes ++ c.data } := by
  rw [bootChunkFx_open ha hne hf]
  unfold State.asmTake
  rw [if_neg (by rw [ho, hi]; simp)]
  simp only [hl, if_true]
  rw [if_pos (by rw [List.length_append]; exact hlen)]

end

/-- The assembly of a complete image is closed, and the image kept. -/
def asmClosed (s : State) (img : Image) : State :=
  { s with boot := { s.boot with asm := smMod asmDefault s.boot.asm img.idx (fun a => { a with bytes := [], len := 0 }), kept := keepImage s.boot.kept img } }

/-- A complete image is kept, its assembly is closed, and the loader that waits for it verifies it. -/
theorem asmDone_shows (s : State) (img : Image) :
    s.asmDone img = { s with boot := { s.boot with asm := (s.asmDone img).boot.asm, kept := (s.asmDone img).boot.kept, verifying := (s.asmDone img).boot.verifying } } ∧
    (s.asmDone img).boot.kept = keepImage s.boot.kept img ∧
    smGet asmDefault (s.asmDone img).boot.asm img.idx = { smGet asmDefault s.boot.asm img.idx with bytes := [], len := 0 } ∧
    (s.loaderWaits = true → img.idx = memberCode s.member → (s.asmDone img).boot.verifying = some img) := by
  have hasm : smGet asmDefault (smMod asmDefault s.boot.asm img.idx (fun a => { a with bytes := [], len := 0 })) img.idx =
      { smGet asmDefault s.boot.asm img.idx with bytes := [], len := 0 } := smGet_set_same _ _ _ _
  have heq : s.asmDone img = if (asmClosed s img).loaderWaits ∧ img.idx = memberCode s.member then
      { asmClosed s img with boot := { (asmClosed s img).boot with verifying := some img } } else asmClosed s img := rfl
  rw [heq]
  split
  · exact ⟨rfl, rfl, hasm, fun _ _ => rfl⟩
  · next h => exact ⟨rfl, rfl, hasm, fun h1 h2 => absurd ⟨h1, h2⟩ h⟩

/-! Peer boot. -/

theorem peer_find (port k : Nat) (xs : List (Nat × Nat)) : ((port, k) :: xs).find? (fun q => q.1 == port) = some (port, k) :=
  List.find?_cons_of_pos (beq_self_eq_true port)

/-- A peer boot waits for its next chunk, or is over. -/
def peerSet (s : State) (xs : List (Nat × Nat)) : State := { s with boot := { s.boot with peer := xs } }

theorem peerChunkFx_next {s : State} {port k : Nat} {c : BootChunk} (hf : s.boot.peer.find? (fun q => q.1 == port) = some (port, k))
    (hc : (bootChunks { s.boot.running with idx := memberCode s.member })[k]? = some c) :
    peerChunkFx port s = if c.last then (peerSet (s.send none (.boot port c)) (s.boot.peer.filter (fun x => x.1 != port))).raise R.FW.ev_PEER_BOOTED
      else peerSet (s.send none (.boot port c)) ((port, k + 1) :: s.boot.peer.filter (fun x => x.1 != port)) := by
  unfold peerChunkFx
  simp only [hf, hc]
  rfl

theorem peerDone_out (t : State) (xs : List (Nat × Nat)) : ((peerSet t xs).raise R.FW.ev_PEER_BOOTED).out = t.out := raise_out _ _

/-- The end of a peer boot leaves what was sent. -/
theorem peerDone_keeps (t : State) (xs : List (Nat × Nat)) : SendsKept t ((peerSet t xs).raise R.FW.ev_PEER_BOOTED) :=
  .of_eq (peerDone_out t xs) (raise_coil _ _)

/-- A command without a time starts at the reading of the clock. -/
theorem start_eq_atTime (s : State) : s.start = s.atTime 0 := by
  unfold State.atTime
  rw [Nat.max_zero]
  rfl

/-- A chunk that comes in on a port of the pair before the first tick reaches its rule. -/
theorem chunk_arrives {s : State} {port : Nat} (hr : s.role = .tile) (hp : port < 2) (hup : s.isUp port = true)
    (hst : s.stateCode = stBISQUE ∨ s.running = true) (ht : s.frm.ticked = false) (u : State) (f : State → State) :
    u.cond (s.role == .tile && decide (port < 2) && s.isUp port && (s.stateCode == stBISQUE || s.running) && !s.frm.ticked) f = f u := by
  refine cond_of ?_ _ _
  have hs : (s.stateCode == stBISQUE || s.running) = true := by
    rcases hst with h | h
    · rw [h]; rfl
    · rw [h, Bool.or_true]
  rw [hr, hup, decide_eq_true hp, hs, ht]
  rfl

/-- Settles O17. -/
theorem bootBroadcasts : Obligations.BootBroadcasts := by
  refine ⟨fun s hr hst hb => ⟨_, rfl, ?_⟩, fun s hs hb hw => ⟨_, rfl, ?_⟩, fun port c s hr hp hup hst ht hb hf hl ho => ⟨_, rfl, ?_⟩,
    fun port c a s hr hp hup hst ht ha hne hf => ⟨fun hno hmem => ⟨_, rfl, ?_⟩, fun ho hi hl => ⟨_, rfl, ?_⟩, fun ho hi hl hlen => ⟨_, rfl, ?_⟩⟩,
    fun port t0 s hpeer hc => ⟨_, rfl, ?_⟩, fun port k c s ht hcan hw hf hc => ⟨_, rfl, ?_⟩⟩
  · rw [cond_of (Arming.isSender_of hr (by rcases hst with h | h <;> rw [h] <;> decide)), bootGoFx_eq (s := s.start) hst hb]
    refine ⟨fun hbad => ?_, fun hok => ?_⟩
    · rw [if_pos (show goUnsound s.start = true from hbad)]
      refine ⟨(goRead_refused _).trans (congrArg b2n hbad), (goRead_busy _).trans ?_⟩
      simpa [State.flag] using hb
    · have hok : goUnsound s.start = false := hok
      rw [if_neg (by rw [hok]; decide)]
      obtain ⟨honly, hsends⟩ := sendImages_sends (goBusy s.start)
        ((goRead s.start).ports.filter (fun p => (goRead s.start).canSend p && (goRead s.start).portState p == psACTIVE)) (goImage s.start)
      have hpart := (goRead_stays hok (p := 0) (by decide)).part
      simp only [Prod.mk.injEq] at hpart
      obtain ⟨hboot, hmram, hred, hmember, -⟩ := hpart
      refine ⟨?_, ?_, ?_, ?_, ?_, fun p hp hcan hact c hc => hsends p ?_ c hc⟩
      · exact (rd_congr honly.regs _).trans (rd_wr_own _ _ (by decide))
      · refine (rd_congr honly.regs _).trans ((rd_wr_sep _ _ (by decide)).trans ((goRead_refused _).trans ?_))
        rw [hok]
        rfl
      · rw [honly]
        exact (wr_boot _ _ _).trans hboot
      · rw [honly]
        exact (wr_mram _ _ _).trans hmram
      · rw [honly]
        exact (wr_red _ _ _).trans hred
      · have hst := goRead_stays hok (LinkFrames.port_lt_of_mem hp)
        have hports : (goRead s.start).ports = s.ports := by
          unfold State.ports
          rw [hmember]
          rfl
        rw [List.mem_filter, hports, hst.canSend, hst.portState]
        exact ⟨hp, by rw [Bool.and_eq_true]; exact ⟨hcan, beq_iff_eq.mpr hact⟩⟩
  · have hnone : s.ports.any (fun p => s.waits p ptBOOT) = false := List.any_eq_false.mpr fun p hp => by rw [hw p hp]; decide
    rw [cond_of (by rw [hs, hb, hnone]; rfl)]
    refine ⟨?_, ?_, ?_, pending_raise _ (by decide), ?_⟩
    · exact onlyRegs_trans (onlyRegs_start s) (onlyRegs_trans (onlyRegs_wr _ _ _) (onlyRegs_trans (onlyRegs_inc _ _) (onlyRegs_raise _ _)))
    · exact (rd_raise_sep _ (by decide)).trans ((rd_wr_sep _ _ (by decide)).trans (rd_wr_own _ _ (by decide)))
    · refine (rd_raise_sep _ (by decide)).trans ((rd_incBy_same _ rfl rfl 1).trans ?_)
      rw [rd_wr_sep _ _ (by decide)]
      rfl
    · exact wordsKept_trans (wordsKept_mono (wordsKept_wr s.start (by decide) _) (by simp))
        (wordsKept_trans (wordsKept_mono (wordsKept_inc _ (by decide)) (by simp)) (wordsKept_mono (wordsKept_raise _ _) (by simp [pendKey])))
  · rw [chunk_arrives hr hp hup hst ht, bootChunkFx_first (s := s.start) hb hf hl ho]
    exact ⟨rfl, asmSet_get _ _ _⟩
  · rw [chunk_arrives hr hp hup hst ht, bootChunkFx_stale (s := s.start) ha hne hf hno hmem]
    exact ⟨rfl, asmSet_get _ _ _⟩
  · rw [chunk_arrives hr hp hup hst ht, bootChunkFx_joins (s := s.start) ha hne hf ho hi hl]
    exact ⟨rfl, asmSet_get _ _ _⟩
  · rw [chunk_arrives hr hp hup hst ht, bootChunkFx_ends (s := s.start) ha hne hf ho hi hl hlen]
    obtain ⟨h1, h2, h3, h4⟩ := asmDone_shows s.start { idx := c.idx, bytes := a.bytes ++ c.data }
    exact ⟨h1, h2, h3.trans (by rw [show s.start.boot.asm = s.boot.asm from rfl, ha]), h4⟩
  · rw [cond_of (by rw [hpeer, hc]; rfl)]
    refine ⟨counted_inc (peerSet (s.atTime t0) _) rfl rfl, wordsKept_inc (peerSet (s.atTime t0) _) (by decide), ?_⟩
    refine (congrArg (fun b : BootSt => b.peer.find? (fun q => q.1 == port)) (wr_boot _ _ _)).trans ?_
    exact peer_find _ _ _
  · rw [cond_of (by rw [ht, hcan, hw]; rfl), peerChunkFx_next (s := s.start) hf hc]
    have hsent : Sends (s.start.send none (.boot port c)) port (.boot port c) := sends_send _ _ rfl
    have hout (he : s.egressFree port 0 = true) : (s.start.send none (.boot port c)).out = [.boot port c] := by
      rw [start_eq_atTime, Failover.send_alone he none rfl (by simp)]
    have honly := onlySent_send s.start (.boot port c)
    split
    · next hl =>
      refine ⟨?_, ?_, fun _ => pending_raise _ (by decide), fun h => absurd (hl.symm.trans h) (by decide)⟩
      · exact (peerDone_keeps _ _).sends hsent
      · exact fun he => (peerDone_out _ _).trans (hout he)
    · next hl =>
      refine ⟨hsent, hout, fun h => absurd h hl, fun _ => ⟨honly.regs, peer_find _ _ _⟩⟩

end Sys2Proof.Proofs.BootBroadcast


/-!
Packets on coil ports: the cells, the checks of a packet, and the way of one that the pair or the repeater passes on (10 R246, R247,
R252, R253, R263, R267, R270).
-/

namespace Sys2Proof.Proofs.PacketChecks
open Sys2Proof.Machine Sys2Proof.Laws Sys2Proof.Proofs.Frames Sys2Proof.Proofs.FieldRules Sys2Proof.Proofs.Ports Sys2Proof.Proofs.DramFrames
  Sys2Proof.Proofs.BootBroadcast Sys2Proof.Proofs.Failover

/-! Words that a command leaves as they are. -/

/-- The state has its words as before, but for some keys. -/
def Rewritten (ks : List Nat) (s t : State) : Prop := t = { s with regs := t.regs } ∧ WordsKept s t ks

theorem rewritten_refl (ks : List Nat) (s : State) : Rewritten ks s s := ⟨rfl, fun _ _ => rfl⟩

theorem Rewritten.trans {ks : List Nat} {s t u : State} (h : Rewritten ks s t) (h' : Rewritten ks t u) : Rewritten ks s u := by
  refine ⟨?_, fun k hk => (h'.2 k hk).trans (h.2 k hk)⟩
  rw [h'.1, h.1]

theorem Rewritten.mono {ks ks' : List Nat} {s t : State} (h : Rewritten ks s t) (hsub : ∀ k ∈ ks, k ∈ ks') : Rewritten ks' s t :=
  ⟨h.1, fun k hk => h.2 k (fun hin => hk (hsub k hin))⟩

theorem rewritten_inc (s : State) {f : Fld} (hw : f.w ≤ 32) : Rewritten [f.key] s (s.inc f) :=
  ⟨by unfold State.inc State.incBy; rw [wr_eq], wordsKept_inc s hw⟩

/-- A field that shares no word with the changed ones reads as before. -/
theorem Rewritten.rd {ks : List Nat} {s t : State} (h : Rewritten ks s t) {f : Fld} (hf : f.key ∉ ks) (hf' : 32 < f.w → f.key + 4 ∉ ks) : t.rd f = s.rd f := by
  unfold State.rd
  rw [h.2 _ hf]
  split
  · rfl
  · next hw => rw [h.2 _ (hf' (by omega))]

/-- A field that takes the value that it has leaves its word. -/
theorem putField_fieldOf (x : Word32) (lo w : Nat) : putField x lo w (fieldOf x lo w) = x := by
  have hle : fieldOf x lo w * 2 ^ lo ≤ x.toNat :=
    (Nat.mul_le_mul_right _ (Nat.mod_le _ _)).trans (Nat.div_mul_le_self _ _)
  have hmod : fieldOf x lo w % 2 ^ w = fieldOf x lo w := Nat.mod_mod _ _
  unfold putField
  rw [hmod, Nat.sub_add_cancel hle, BitVec.ofNat_toNat, BitVec.setWidth_eq]

/-- A field of one word that is written as it reads leaves every word. -/
theorem rewritten_own (s : State) {f : Fld} (hw : f.w ≤ 32) {v : Nat} (hv : s.rd f = v) : Rewritten [] s (s.wr f v) := by
  refine ⟨by rw [wr_eq], fun k _ => ?_⟩
  have hword : putField (s.word f.key) f.lo f.w v = s.word f.key := by
    rw [← hv, State.rd, if_pos hw, putField_fieldOf]
  rw [State.wr, if_pos hw, hword]
  by_cases hk : k = f.key
  · rw [hk, word_setWord_same]
  · exact word_setWord_ne s _ hk

/-! Cells. -/

/-- A sound cell without XOFF. -/
def soundCell (x : Cell) : Prop := cellBad x = false ∧ x.fixed = false ∧ (cellHead x.bytes).any CellHead.xoff = false

/-- A sound cell without XOFF leaves a port that is not held back as it is. -/
theorem cellFx_sound {s : State} {port : Nat} {x : Cell} (hx : soundCell x) (hf : s.flag (R.COIL.XOFF_RX port) = false) :
    Rewritten [] s (cellFx port s x) := by
  obtain ⟨hbad, hfixed, hxoff⟩ := hx
  unfold cellBad at hbad
  rw [Bool.or_eq_false_iff] at hbad
  obtain ⟨hfec, hnone⟩ := hbad
  unfold cellFx
  rw [cond_of_not hfixed]
  simp only [hfec, Bool.false_eq_true, if_false]
  cases hhead : cellHead x.bytes with
  | none => rw [hhead] at hnone; simp at hnone
  | some h =>
    rw [hhead] at hxoff
    have hxoff : h.xoff = false := hxoff
    have hread : s.rd (R.COIL.XOFF_RX port) = b2n false := by simpa [State.flag, b2n] using hf
    simp only [State.takeXoff, hxoff, hf]
    exact rewritten_own s (f := R.COIL.XOFF_RX port) (Nat.le_of_ble_eq_true rfl) hread

/-- Sound cells without XOFF leave a port that is not held back as it is. -/
theorem cells_sound {port : Nat} (cells : List Cell) : ∀ (s : State), (∀ x ∈ cells, soundCell x) → s.flag (R.COIL.XOFF_RX port) = false →
    Rewritten [] s (s.each cells (cellFx port)) := by
  induction cells with
  | nil => exact fun s _ _ => rewritten_refl [] s
  | cons x xs ih =>
    intro s hall hf
    have hx := cellFx_sound (hall x (by simp)) hf
    have hflag : (cellFx port s x).flag (R.COIL.XOFF_RX port) = false := by
      rw [State.flag, hx.rd (by simp) (by simp)]
      exact hf
    exact hx.trans (ih _ (fun y hy => hall y (by simp [hy])) hflag)

/-- The packet of sound cells reaches the checks of its header. -/
theorem packet_arrives {s : State} {port : Nat} {c : Cell} {cs : List Cell} (hall : ∀ x ∈ c :: cs, soundCell x)
    (hsop : (cellHead c.bytes).any CellHead.sop = true) (hf : s.flag (R.COIL.XOFF_RX port) = false) :
    ∃ u, Rewritten [] s u ∧ packetReceiveFx port (c :: cs) s = u.packetIn port ((c :: cs).flatMap (fun x => cellPayload x.bytes)) false := by
  refine ⟨_, cells_sound (c :: cs) s hall hf, ?_⟩
  have hbad : cellBad c = false := (hall c (by simp)).1
  have hlost : (c :: cs).any cellBad = false := by
    rw [List.any_eq_false]
    intro x hx
    rw [(hall x hx).1]
    exact Bool.false_ne_true
  unfold packetReceiveFx
  simp only [hbad, hsop, hlost, Bool.not_true, Bool.or_self, Bool.false_eq_true, if_false]

/-! The checks of a packet, and the way of one that the pair passes on. -/

theorem packetIn_badHeader {s : State} {port : Nat} {bytes : List Byte} (hp : parseHeader bytes = none) (lost : Bool) :
    s.packetIn port bytes lost = s.inc (R.COIL.CNT_HCRC port) := by
  unfold State.packetIn
  rw [hp]

/-- At a tile a whole packet goes its way by its header; a bad trailer counts, and marks it. -/
theorem packetIn_tile {s : State} {port m len : Nat} {h : Header} {bytes : List Byte} (hp : parseHeader bytes = some (h, len))
    (hm : maxLen h.type = some m) (hlen : len ≤ m) (hup : s.isUp port = true) (hr : s.role = .tile) :
    (checkTrailer bytes len = .good → s.packetIn port bytes false = tilePacket port h ((bytes.drop 10).take len) false s) ∧
      (checkTrailer bytes len = .bad →
        s.packetIn port bytes false = tilePacket port h ((bytes.drop 10).take len) true (s.inc (R.COIL.CNT_CRC port))) := by
  constructor <;>
    (intro htr
     unfold State.packetIn
     simp only [hp, hm, htr, if_neg (Nat.not_lt.mpr hlen), hup, Bool.true_or, Bool.not_true, Bool.false_eq_true, if_false])
  · rw [hr]; rfl
  · rw [show s.cond (!false) (fun s => s.inc (R.COIL.CNT_CRC port)) = s.inc (R.COIL.CNT_CRC port) from rfl]
    rw [show (s.inc (R.COIL.CNT_CRC port)).role = .tile from hr]
    rfl

/-- A BAND of the pair for another node goes on along the pair. -/
theorem tilePacket_passes {s : State} {port : Nat} {h : Header} (hport : port < 2) (ht : h.type = ptBAND) (hup : h.up = false)
    (hb : h.bcast = false) (hid : s.hasId = true → h.dest ≠ s.lv R.GLB.NODE_ID) (hrange : s.rangePort h.dest = none)
    (hcan : s.canSend (otherPort port) = true) (hh : h.hops < 64) (body : List Byte) (stomp : Bool) :
    tilePacket port h body stomp s = s.send (some port) (.forward (otherPort port) (packetBytes { h with hops := h.hops + 1 } body stomp) stomp) := by
  have hlink : linkBeaconBody h body = false := by rw [linkBeaconBody, ht]; rfl
  unfold tilePacket
  rw [hlink, if_neg (by rw [ht]; simp [ptIDLE, ptBAND]), if_neg (by rw [ht]; decide), if_neg (by rw [hup]; exact Bool.false_ne_true),
    if_neg (by rw [hb]; exact Bool.false_ne_true), State.routeDest]
  rw [if_neg (fun hd => hid hd.1 hd.2), hrange]
  simp only [if_pos hport, State.passTo, hcan, if_true, State.passOn]
  rw [if_neg (by simp), if_neg (by omega), State.each, List.foldl_cons, List.foldl_nil]

/-- A field of one word at another offset keeps its value where only CNT_CRC of a port has changed. -/
theorem rd_of_crc {s t : State} {port : Nat} (h : Rewritten [(R.COIL.CNT_CRC port).key] s t) {f : Fld}
    (hf : offApart f (R.COIL.CNT_CRC port) = true) : t.rd f = s.rd f := by
  obtain ⟨hoff, hoff', hne, hne', -⟩ := of_decide_eq_true hf
  refine h.rd (fun hin => ?_) (fun hw hin => ?_) <;> rw [List.mem_singleton] at hin <;> unfold Fld.key regKey at hin
  · omega
  · have := hne' hw
    omega

/-- What decides over the way of a packet, and whether it may leave, is as before where only CNT_CRC has changed. -/
theorem crc_sameGate {s t : State} {port : Nat} (h : Rewritten [(R.COIL.CNT_CRC port).key] s t) (p : Nat) : SameGate s t p := by
  refine sameGate_of_regs s (by rw [h.1]) (fun f hf => rd_of_crc h ?_)
  simp only [gateFields, List.mem_cons, List.not_mem_nil, or_false] at hf
  rcases hf with rfl | rfl | rfl | rfl | rfl | rfl | rfl | rfl | rfl | rfl <;> simp [offApart, Fld.live, R.GLB.STATE, R.GLB.EPOCH, R.RED.RELINQUISHED, R.COIL.LINK, R.COIL.XOFF_RX,
    R.COIL.st_TOPOLOGY_LOOP, R.COIL.EN, R.RED.PORT_ROLE, R.RED.RESTORE, R.COIL.CNT_CRC]

theorem crc_rangePort {s t : State} {port : Nat} (h : Rewritten [(R.COIL.CNT_CRC port).key] s t) (dest : Nat) :
    t.rangePort dest = s.rangePort dest := by
  have hlo : ∀ p, t.lv (R.COIL.ROUTE_LO p) = s.lv (R.COIL.ROUTE_LO p) := fun p => rd_of_crc h (f := (R.COIL.ROUTE_LO p).live) (by simp [offApart, Fld.live, R.COIL.ROUTE_LO, R.COIL.CNT_CRC])
  have hhi : ∀ p, t.lv (R.COIL.ROUTE_HI p) = s.lv (R.COIL.ROUTE_HI p) := fun p => rd_of_crc h (f := (R.COIL.ROUTE_HI p).live) (by simp [offApart, Fld.live, R.COIL.ROUTE_HI, R.COIL.CNT_CRC])
  have hen : ∀ p, t.lvB (R.COIL.EN p) = s.lvB (R.COIL.EN p) := fun p =>
    congrArg (· != 0) (rd_of_crc h (f := (R.COIL.EN p).live) (by simp [offApart, Fld.live, R.COIL.EN, R.COIL.CNT_CRC]))
  have hboot : t.boot = s.boot := by rw [h.1]
  have hports : t.ports = s.ports := by rw [h.1]; rfl
  simp only [State.rangePort, State.outPorts, State.subPorts, hlo, hhi, hen, hboot, hports]

/-- A BAND of the pair for another node leaves at once by the other port, where that can send. -/
theorem band_leaves {s u : State} {port t0 : Nat} {h : Header} (hu : Rewritten [(R.COIL.CNT_CRC port).key] (s.atTime t0) u) (hport : port < 2)
    (ht : h.type = ptBAND) (hup : h.up = false) (hb : h.bcast = false) (hid : s.hasId = true → h.dest ≠ s.lv R.GLB.NODE_ID)
    (hrange : s.rangePort h.dest = none) (hcan : s.canSend (otherPort port) = true) (hfree : s.egressFree (otherPort port) t0 = true)
    (hh : h.hops < 64) (body : List Byte) (stomp : Bool) :
    tilePacket port h body stomp u = { s with time := max s.time t0, regs := u.regs, out := [.forward (otherPort port) (packetBytes { h with hops := h.hops + 1 } body stomp) stomp] } := by
  have hgate := crc_sameGate hu (otherPort port)
  have hidu : u.hasId = s.hasId := congrArg (· != 0) (rd_of_crc hu (f := R.GLB.NODE_VALID.live) rfl)
  have hnode : u.lv R.GLB.NODE_ID = s.lv R.GLB.NODE_ID := rd_of_crc hu (f := R.GLB.NODE_ID.live) rfl
  rw [tilePacket_passes hport ht hup hb (by rw [hidu, hnode]; exact hid) ((crc_rangePort hu _).trans hrange) (hgate.canSend.trans hcan) hh,
    send_of_sameGate hfree hgate _ (rfl : lineOf (.forward (otherPort port) _ stomp) = some (otherPort port, _)), State.depart]
  · rw [hu.1]
    rfl
  · exact fun _ _ h => Output.noConfusion h

/-- While the core is not running, the repeater hands a BAND on. -/
theorem repeaterFx_passes {s : State} {port : Nat} {p : Packet} (ht : p.hdr.type = ptBAND) (hcan : s.canSend (otherPort port) = true)
    (hh : p.hdr.hops < 64) :
    repeaterFx port p s = s.send (some port) (.forward (otherPort port) (packetBytes { p.hdr with hops := p.hdr.hops + 1 } p.body p.crcBad) p.crcBad) := by
  have hlink : linkBeaconBody p.hdr p.body = false := by rw [linkBeaconBody, ht]; rfl
  unfold repeaterFx
  rw [hlink, ht, if_neg (by decide)]
  simp only [show (ptBAND == ptBOOT || ptBAND == ptDISCOVER) = false from rfl, Bool.false_and]
  rw [cond_of_not rfl, if_neg (by decide), if_neg (by decide), cond_of hcan, State.passOn, if_neg (by simp), if_neg (by omega), State.each,
    List.foldl_cons, List.foldl_nil]

/-! What the commands answer. -/

theorem cellFx_bad {s : State} {c : Cell} (hfec : c.fecBad = false) (hnone : cellHead c.bytes = none) (port : Nat) :
    packetReceiveFx port [c] s = (s.cond c.fixed (fun s => s.inc (R.COIL.CNT_FEC_CORR port))).inc (R.COIL.CNT_CELL_CHK port) := by
  have hbad : cellBad c = true := by rw [cellBad, hnone]; exact Bool.or_true _
  unfold packetReceiveFx
  simp only [hbad, Bool.true_or, if_true, State.each, List.foldl_cons, List.foldl_nil]
  unfold cellFx
  simp only [hfec, Bool.false_eq_true, if_false, hnone]

/-- A cell whose CHK fails counts, and the packet that it begins is lost. -/
theorem badCell_counts {port t0 : Nat} {c : Cell} {s : State} (hon : s.portOn port = true) (hfec : c.fecBad = false)
    (hnone : cellHead c.bytes = none) (hfixed : c.fixed = false) :
    Completes (.packetReceive port [c] t0) s (fun t =>
      OnlyRegs s t ∧ Counted s t (R.COIL.CNT_CELL_CHK port) ∧ t.out = [] ∧ WordsKept s t [(R.COIL.CNT_CELL_CHK port).key]) := by
  refine ⟨_, rfl, ?_⟩
  rw [cond_of (b := s.portOn port) hon, cellFx_bad hfec hnone, cond_of_not hfixed]
  refine ⟨onlyRegs_trans (onlyRegs_atTime s t0) (onlyRegs_inc _ _), counted_inc (s.atTime t0) rfl rfl, ?_, wordsKept_inc (s.atTime t0) (Nat.le_refl _)⟩
  rw [State.inc, State.incBy, wr_out]
  rfl

theorem badFixedCell_counts {port t0 : Nat} {c : Cell} {s : State} (hon : s.portOn port = true) (hfec : c.fecBad = false)
    (hnone : cellHead c.bytes = none) (hfixed : c.fixed = true) :
    Completes (.packetReceive port [c] t0) s (fun t =>
      OnlyRegs s t ∧ Counted s t (R.COIL.CNT_CELL_CHK port) ∧ Counted s t (R.COIL.CNT_FEC_CORR port) ∧ t.out = [] ∧
      WordsKept s t [(R.COIL.CNT_CELL_CHK port).key, (R.COIL.CNT_FEC_CORR port).key]) := by
  refine ⟨_, rfl, ?_⟩
  rw [cond_of (b := s.portOn port) hon, cellFx_bad hfec hnone, cond_of hfixed]
  have hchk := counted_inc ((s.atTime t0).inc (R.COIL.CNT_FEC_CORR port)) (f := R.COIL.CNT_CELL_CHK port) rfl rfl
  have hcorr := counted_inc (s.atTime t0) (f := R.COIL.CNT_FEC_CORR port) rfl rfl
  refine ⟨onlyRegs_trans (onlyRegs_atTime s t0) (onlyRegs_trans (onlyRegs_inc _ _) (onlyRegs_inc _ _)), ?_, ?_, ?_, ?_⟩
  · rw [Counted, hchk, State.inc, State.incBy, rd_wr_sep (s.atTime t0) _ (sep_of_offApart (f := R.COIL.CNT_CELL_CHK port) (g := R.COIL.CNT_FEC_CORR port) rfl)]
    rfl
  · rw [Counted, State.inc, State.incBy, rd_wr_sep _ _ (sep_of_offApart (f := R.COIL.CNT_FEC_CORR port) (g := R.COIL.CNT_CELL_CHK port) rfl)]
    exact hcorr
  · rw [State.inc, State.incBy, wr_out, State.inc, State.incBy, wr_out]
    rfl
  · exact wordsKept_trans (wordsKept_mono (wordsKept_inc (s.atTime t0) (Nat.le_refl _)) (by simp))
      (wordsKept_mono (wordsKept_inc _ (Nat.le_refl _)) (by simp))

/-- A packet whose header check fails counts in CNT_HCRC. -/
theorem badHeader_counts {port t0 : Nat} {c : Cell} {cs : List Cell} {s : State} (hon : s.portOn port = true)
    (hf : s.flag (R.COIL.XOFF_RX port) = false) (hall : ∀ x ∈ c :: cs, soundCell x) (hsop : (cellHead c.bytes).any CellHead.sop = true)
    (hp : parseHeader ((c :: cs).flatMap (fun x => cellPayload x.bytes)) = none) :
    Completes (.packetReceive port (c :: cs) t0) s (fun t =>
      OnlyRegs s t ∧ Counted s t (R.COIL.CNT_HCRC port) ∧ t.out = [] ∧ WordsKept s t [(R.COIL.CNT_HCRC port).key]) := by
  obtain ⟨u, hu, harr⟩ := packet_arrives (s := s.atTime t0) hall hsop hf
  refine ⟨_, rfl, ?_⟩
  rw [cond_of (b := s.portOn port) hon, harr, packetIn_badHeader hp]
  have hinc : Rewritten [(R.COIL.CNT_HCRC port).key] u (u.inc (R.COIL.CNT_HCRC port)) := rewritten_inc u (Nat.le_refl _)
  have hall := (hu.mono (by simp)).trans hinc
  refine ⟨?_, ?_, ?_, hall.2⟩
  · rw [hall.1]
    rfl
  · rw [Counted, counted_inc u rfl rfl, hu.rd (by simp) (by simp)]
    rfl
  · rw [hall.1]
    rfl

/-- Settles O19: sound cells leave their port as it is; a packet then meets its checks in order, and a BAND for another node is sent by the
    other port of the pair, or of the repeater. -/
theorem packetsAreCheckedAndPassedOn : Obligations.PacketsAreCheckedAndPassedOn := by
  unfold Obligations.PacketsAreCheckedAndPassedOn
  refine ⟨fun port t0 c s hon hfec hnone => ⟨badCell_counts hon hfec hnone, badFixedCell_counts hon hfec hnone⟩,
    fun port t0 c cs s hon hf hall hsop hp => badHeader_counts hon hf hall hsop hp, ?_, ?_⟩
  · intro port t0 m len h c cs bytes s hon hf hall hsop hbytes hr hport hp hm hlen hup ht hnup hb hid hrange hcan hfree hh
    obtain ⟨u, hu, harr⟩ := packet_arrives (s := s.atTime t0) hall hsop hf
    rw [hbytes] at harr
    have hu' : Rewritten [(R.COIL.CNT_CRC port).key] (s.atTime t0) u := hu.mono (by simp)
    obtain ⟨hgood, hbad⟩ := packetIn_tile hp hm hlen ((crc_sameGate hu' port).isUp.trans hup) (by rw [hu.1]; exact hr)
    refine ⟨fun htr => ⟨_, rfl, ?_⟩, fun htr => ⟨_, rfl, ?_⟩⟩
    · rw [cond_of (b := s.portOn port) hon, harr, hgood htr, band_leaves hu' hport ht hnup hb hid hrange hcan hfree hh]
      exact ⟨rfl, hu.2⟩
    · have hinc := hu'.trans (rewritten_inc u (f := R.COIL.CNT_CRC port) (Nat.le_refl _))
      rw [cond_of (b := s.portOn port) hon, harr, hbad htr, band_leaves hinc hport ht hnup hb hid hrange hcan hfree hh]
      refine ⟨rfl, ?_, hinc.2⟩
      have hcount := counted_inc u (f := R.COIL.CNT_CRC port) rfl rfl
      rw [Counted, hu.rd (by simp) (by simp)] at hcount
      exact hcount
  · intro port p s hr hrun hport hup ht hcan hfree hh
    refine ⟨_, rfl, ?_⟩
    have hguard : (s.aon.role == .tile && !s.running && decide (port < 2) && s.isUp port) = true := by
      rw [hr, hrun, hup, decide_eq_true hport]; rfl
    rw [cond_of (b := _ && s.isUp port) hguard, repeaterFx_passes (s := s.start) ht hcan hh, start_eq_atTime,
      send_alone hfree _ (rfl : lineOf (.forward (otherPort port) _ _) = some (otherPort port, _)) (fun _ _ h => Output.noConfusion h), Nat.max_zero]

end Sys2Proof.Proofs.PacketChecks


/-!
Discovery and assignment: a DISCOVER that goes on, an assignment at its target, and the mailbox of a sender's port (10 R253, R273, R274;
01 R18).
-/

namespace Sys2Proof.Proofs.Discovery
open Sys2Proof.Machine Sys2Proof.Laws Sys2Proof.Proofs.Frames Sys2Proof.Proofs.FieldRules Sys2Proof.Proofs.Framing Sys2Proof.Proofs.CoilFrames
  Sys2Proof.Proofs.DramFrames Sys2Proof.Proofs.Ports Sys2Proof.Proofs.Failover Sys2Proof.Proofs.Applies

/-! A DISCOVER that goes on. -/

theorem discoverPass_sends {s : State} {out hops : Nat} (hcan : s.canSend out = true) (hh : hops < 64) (arrival : Nat) (d : Discover) (stomp : Bool) :
    s.discoverPass arrival out hops d stomp = s.send (some arrival) (.discover out (hops + 1) { d with ppos := d.ppos + 1 } stomp) := by
  unfold State.discoverPass
  rw [hcan, if_neg (by simp), if_neg (by omega)]

theorem discoverFx_along {s : State} {d : Discover} (hd : d.ppos ≠ d.plen) (he : d.path.getD d.ppos 0 = 0) (port hops : Nat) (crcOk : Bool) :
    discoverFx port hops d crcOk s = s.discoverPass port (otherPort port) hops d (!crcOk) := by
  unfold discoverFx
  simp only [if_neg hd, he, if_true]

/-! An assignment. -/

/-- The fields in which an assignment shows, and STATE. -/
def idFields : List Fld := [R.GLB.NODE_ID, R.GLB.NODE_ID.live, R.GLB.NODE_VALID.live, R.GLB.STATE]

/-- The role and these fields stay. -/
abbrev IdStays : State → State → Prop := Stays State.role idFields

theorem idFrame : Frame IdStays (apartFrom idFields) (quietFor idFields) := staysFrame (fun _ _ _ => rfl) _

/-- APPLIED_EPOCH is none of them. -/
theorem markPages_idStays (s : State) (pages : List Nat) (e : Nat) : IdStays s (markPages s pages e) := by
  obtain ⟨ho, hk⟩ := markPages_keeps s pages e
  refine ⟨by rw [ho], fun f hf => ?_, fun ev hp => ?_⟩
  · simp only [idFields, List.mem_cons, List.not_mem_nil, or_false] at hf
    have hkey : f.key % 0x1000 ≠ 0x020 ∧ f.w ≤ 32 := by rcases hf with rfl | rfl | rfl | rfl <;> decide
    unfold State.rd
    rw [if_pos hkey.2, if_pos hkey.2, hk _ hkey.1]
  · unfold Pending State.wbit
    rw [hk _ (by unfold evtPendKey regKey; omega)]
    exact hp

theorem showId_idStays (s old : State) : IdStays s (s.showId old) :=
  idFrame.trans (idFrame.wrB s _ (by decide)) (idFrame.cond fun _ => idFrame.raise _ (by decide) (by decide))

/-- The ranges of the ports are none of them. -/
theorem ranges_idStays (s : State) (ports : List Nat) (ranges : List (Nat × Nat)) :
    IdStays s (s.each ports (fun s p =>
      let r := ranges.getD (p - 2) (1, 0)
      (s.wrBoth (R.COIL.ROUTE_LO p) r.1).wrBoth (R.COIL.ROUTE_HI p) r.2)) := by
  refine idFrame.each fun t p _ => ?_
  have hlo := apart_of_off (fs := idFields) (g := R.COIL.ROUTE_LO p) rfl
  have hlo' : apartFrom idFields (R.COIL.ROUTE_LO p).live = true := apart_of_off (g := ⟨0x080 + p, 0x448, 0, 14⟩) rfl
  have hhi := apart_of_off (fs := idFields) (g := R.COIL.ROUTE_HI p) rfl
  have hhi' : apartFrom idFields (R.COIL.ROUTE_HI p).live = true := apart_of_off (g := ⟨0x080 + p, 0x448, 16, 14⟩) rfl
  exact idFrame.trans (idFrame.trans (idFrame.wr t _ hlo) (idFrame.wr _ _ hlo')) (idFrame.trans (idFrame.wr _ _ hhi) (idFrame.wr _ _ hhi'))

/-- After an assignment that takes effect the node ID reads in the shadow and the live copy, and is valid. -/
theorem assignNow_shows (s : State) (node : Nat) (ranges : List (Nat × Nat)) (e : Nat) :
    (s.assignNow node ranges e).rd R.GLB.NODE_ID = node % 16384 ∧ (s.assignNow node ranges e).lv R.GLB.NODE_ID = node % 16384 ∧
      (s.assignNow node ranges e).rd R.GLB.NODE_VALID.live = 1 ∧ (s.assignNow node ranges e).stateCode = s.stateCode := by
  have hrest : IdStays ((s.wrBoth R.GLB.NODE_ID node).wrBoth R.GLB.NODE_VALID 1) (s.assignNow node ranges e) := by
    unfold State.assignNow
    refine idFrame.trans ?_ (showId_idStays _ _)
    refine idFrame.trans ?_ (markPages_idStays _ _ _)
    exact idFrame.trans (ranges_idStays _ _ _) (.other rfl rfl)
  have hread : ∀ f ∈ idFields, _ := hrest.rd
  unfold State.lv State.stateCode
  rw [hread R.GLB.NODE_ID (by decide), hread R.GLB.NODE_ID.live (by decide), hread R.GLB.NODE_VALID.live (by decide), hread R.GLB.STATE (by decide)]
  unfold State.wrBoth
  refine ⟨?_, ?_, ?_, ?_⟩
  · rw [rd_wr_sep _ _ (by decide), rd_wr_sep _ _ (by decide), rd_wr_sep _ _ (by decide), rd_wr_own _ _ (by decide)]
    rfl
  · rw [rd_wr_sep _ _ (by decide), rd_wr_sep _ _ (by decide), rd_wr_own _ _ (by decide)]
    rfl
  · rw [rd_wr_own _ _ (by decide)]
    rfl
  · rw [rd_wr_sep _ _ (by decide), rd_wr_sep _ _ (by decide), rd_wr_sep _ _ (by decide), rd_wr_sep _ _ (by decide)]

theorem assign_now {s : State} (hid : s.hasId = false) (d : Discover) :
    (s.assign d).1 = s.assignNow (d.idWord % 16384) d.ranges (if s.frm.ticked then s.epoch else 0) := by
  unfold State.assign
  simp only [hid, Bool.false_and, Bool.not_false, if_true]

/-- The target of an ASSIGN assigns and answers. -/
theorem discoverTarget_assigns {s : State} {d : Discover} (hop : d.op = 1) (port : Nat) : IdStays (s.assign d).1 (s.discoverTarget port d) := by
  have hreset : resetConfirmed d = false := by rw [resetConfirmed, hop]; rfl
  unfold State.discoverTarget
  simp only [if_pos hop]
  rw [cond_of_not hreset]
  exact idFrame.cond fun _ => frame_sendOwn idFrame (fun _ _ _ => .other rfl rfl) _ _

theorem discoverFx_target {s : State} {d : Discover} (hd : d.ppos = d.plen) (hrun : s.running = true) (port hops : Nat) :
    discoverFx port hops d true s = s.discoverTarget port d := by
  unfold discoverFx
  simp only [if_pos hd, Bool.not_true, Bool.false_eq_true, if_false, if_pos hrun]

/-- A device without a node ID takes the one that it is assigned. -/
theorem assign_takes {port hops t0 : Nat} {d : Discover} {s : State} (htile : s.isTile = true) (hp : port < 2) (hup : s.isUp port = true)
    (hd : d.ppos = d.plen) (hop : d.op = 1) (hid : s.hasId = false) :
    Completes (.discoverReceive ⟨port, true⟩ hops d t0) s (fun t => t.rd R.GLB.NODE_ID = d.idWord % 16384 ∧
      t.lv R.GLB.NODE_ID = d.idWord % 16384 ∧ t.hasId = true ∧ t.stateCode = s.stateCode) := by
  obtain ⟨hrun, hrole⟩ := (TileCommits.isTile_iff s).mp htile
  have hdie : (s.tileDie && decide (port < 2) && s.isUp port) = true := by
    rw [State.tileDie, if_pos hrun, hrole, hup, decide_eq_true hp]; rfl
  refine ⟨_, rfl, ?_⟩
  rw [cond_of (b := s.tileDie && decide (port < 2) && s.isUp port) hdie, discoverFx_target (s := s.atTime t0) hd hrun]
  have hrest := discoverTarget_assigns (s := s.atTime t0) hop port
  rw [assign_now (s := s.atTime t0) hid] at hrest
  obtain ⟨hnode, hlive, hvalid, hstate⟩ := assignNow_shows (s.atTime t0) (d.idWord % 16384) d.ranges (if (s.atTime t0).frm.ticked then (s.atTime t0).epoch else 0)
  rw [Nat.mod_mod] at hnode hlive
  refine ⟨(hrest.rd R.GLB.NODE_ID (by decide)).trans hnode, (hrest.rd R.GLB.NODE_ID.live (by decide)).trans hlive, ?_,
    (hrest.rd R.GLB.STATE (by decide)).trans hstate⟩
  show (((s.atTime t0).discoverTarget port d).rd R.GLB.NODE_VALID.live != 0) = true
  rw [hrest.rd R.GLB.NODE_VALID.live (by decide), hvalid]
  rfl

/-! The mailbox. -/

theorem immByte_setImmByte_same (s : State) (page tab i v : Nat) : (s.setImmByte page tab i v).immByte page tab i = v % 256 := by
  unfold State.immByte State.setImmByte State.immW State.setImm
  rw [smGet_set_same]
  exact fieldOf_putField_same _ (by omega) v

theorem immByte_setImmByte_ne (s : State) (page tab : Nat) {i j : Nat} (v : Nat) (h : j ≠ i) :
    (s.setImmByte page tab i v).immByte page tab j = s.immByte page tab j := by
  unfold State.immByte State.setImmByte State.immW State.setImm
  rw [smGet_set]
  split
  · next hkey =>
    have hword : j / 4 = i / 4 := by unfold tabKey at hkey; omega
    rw [hword]
    rcases Nat.lt_or_ge j i with hlt | hge
    · exact fieldOf_putField_below _ (by omega) (by omega) _
    · exact fieldOf_putField_above _ (by omega) (by omega) _
  · rfl

/-- Bytes stored one after the other from a place on. -/
def storeBytes (s : State) (page tab lo : Nat) (b : List Byte) : State :=
  s.each ((List.range b.length).zip b) (fun s x => s.setImmByte page tab (lo + x.1) x.2.toNat)

theorem storeBytes_snoc (s : State) (page tab lo : Nat) (b : List Byte) (x : Byte) :
    storeBytes s page tab lo (b ++ [x]) = (storeBytes s page tab lo b).setImmByte page tab (lo + b.length) x.toNat := by
  unfold storeBytes State.each
  rw [List.length_append, List.length_singleton, List.range_succ, List.zip_append (by simp), List.foldl_append]
  rfl

/-- Bytes that were stored read back. -/
theorem immByte_storeBytes (s : State) (page tab lo : Nat) (b : List Byte) :
    ∀ i, i < b.length → (storeBytes s page tab lo b).immByte page tab (lo + i) = (b.getD i 0).toNat := by
  induction b using List.reverseRecOn with
  | nil => intro i hi; exact absurd hi (Nat.not_lt_zero i)
  | append_singleton b x ih =>
    intro i hi
    rw [storeBytes_snoc]
    rw [List.length_append, List.length_singleton] at hi
    rcases Nat.lt_succ_iff_lt_or_eq.mp hi with hlt | rfl
    · rw [immByte_setImmByte_ne _ _ _ _ (by omega), ih i hlt, List.getD_append _ _ _ _ hlt]
    · rw [immByte_setImmByte_same, List.getD_append_right _ _ _ _ (Nat.le_refl _), Nat.sub_self]
      exact Nat.mod_eq_of_lt x.isLt

theorem storeBytes_regs (s : State) (page tab lo : Nat) (b : List Byte) : (storeBytes s page tab lo b).regs = s.regs := by
  induction b using List.reverseRecOn with
  | nil => rfl
  | append_singleton b x ih => rw [storeBytes_snoc]; exact ih

/-- A request ends with its status. -/
theorem discDone_shows (s : State) {p : Nat} (hp : p < 16) {status : Nat} (hs : status < 4) :
    OnlyRegs s (s.discDone p status) ∧ (s.discDone p status).rd (R.COIL.DISC_BUSY p) = 0 ∧
      (s.discDone p status).rd (R.COIL.DISC_STATUS p) = status ∧ Pending (s.discDone p status) (R.COIL.ev_DISC_DONE p) := by
  unfold State.discDone
  refine ⟨onlyRegs_trans (onlyRegs_trans (onlyRegs_wr _ _ _) (onlyRegs_wr _ _ _)) (onlyRegs_raise _ _), ?_, ?_, pending_raise _ (of_decide_eq_true rfl)⟩
  · rw [rd_raise_sep _ (by interval_cases p <;> decide), rd_wr_sep _ _ (by interval_cases p <;> decide),
      rd_wr_own _ _ (by interval_cases p <;> decide)]
    rfl
  · rw [rd_raise_sep _ (by interval_cases p <;> decide), rd_wr_own _ _ (by interval_cases p <;> decide)]
    exact Nat.mod_eq_of_lt hs

/-- A request that may leave is on its way. -/
theorem discGo_launches {port t0 : Nat} {s : State} (hs : s.isSender = true) (hp : s.hasPort port = true)
    (hbusy : s.flag (R.COIL.DISC_BUSY port) = false) (hcan : s.canSend port = true) (hfree : s.egressFree port t0 = true) :
    Completes (.discGo port t0) s (fun t => OnlyRegs s t ∧ t.rd (R.COIL.DISC_BUSY port) = 1 ∧
      WordsKept s t [(R.COIL.DISC_BUSY port).key] ∧
      t.out = [.discover port 0 { discoverOf (s.ownId.getD 0) (s.mailbox port 104) with ppos := 1, noid := s.ownId.isNone, stby := !s.serves port } false]) := by
  have hlt : port < 16 := LinkFrames.port_lt_of_hasPort hp
  have hguard : (s.isSender && s.hasPort port) = true := by rw [hs, hp]; rfl
  have hgate : SameGate (s.atTime t0) ((s.atTime t0).wr (R.COIL.DISC_BUSY port) 1) port := by
    refine sameGate_of_regs _ (by rw [wr_eq]) fun f hf => rd_wr_sep _ _ ?_
    simp only [gateFields, List.mem_cons, List.not_mem_nil, or_false] at hf
    rcases hf with rfl | rfl | rfl | rfl | rfl | rfl | rfl | rfl | rfl | rfl <;> interval_cases port <;> decide
  refine ⟨_, rfl, ?_⟩
  rw [cond_of (b := s.isSender && s.hasPort port) hguard]
  unfold discGoFx
  rw [if_neg (show ¬(s.atTime t0).flag (R.COIL.DISC_BUSY port) = true by rw [show (s.atTime t0).flag (R.COIL.DISC_BUSY port) = false from hbusy]; exact Bool.false_ne_true),
    if_neg (show ¬(!(s.atTime t0).canSend port) = true by rw [show (s.atTime t0).canSend port = true from hcan]; exact Bool.false_ne_true),
    send_of_sameGate hfree hgate _ (rfl : lineOf (.discover port 0 _ false) = some (port, _))]
  have hout : ((s.atTime t0).wr (R.COIL.DISC_BUSY port) 1).out = [] := wr_out _ _ _
  unfold State.depart
  simp only [hout, placeOut_nil]
  refine ⟨?_, ?_, fun k hk => wordsKept_wr (s.atTime t0) (f := R.COIL.DISC_BUSY port) (Nat.le_of_ble_eq_true rfl) 1 k hk, rfl⟩
  · rw [wr_eq]
    rfl
  · refine (rd_wr_own (s.atTime t0) (f := R.COIL.DISC_BUSY port) 1 (by interval_cases port <;> decide)).trans rfl

theorem discoverRsp_lands {port : Nat} {body : List Byte} {s : State} (hs : s.isSender = true) (hp : s.hasPort port = true)
    (hup : s.isUp port = true) (hbusy : s.flag (R.COIL.DISC_BUSY port) = true) :
    Completes (.discoverRspReceive port body) s (fun t => t.rd (R.COIL.DISC_BUSY port) = 0 ∧ t.rd (R.COIL.DISC_STATUS port) = 0 ∧
      Pending t (R.COIL.ev_DISC_DONE port) ∧
      ∀ i, i < min 96 body.length → t.immByte (R.COIL.page port) 0 (128 + i) = (body.getD i 0).toNat) := by
  have hguard : (s.isSender && s.hasPort port && s.isUp port && s.flag (R.COIL.DISC_BUSY port)) = true := by rw [hs, hp, hup, hbusy]; rfl
  refine ⟨_, rfl, ?_⟩
  rw [cond_of (b := _ && s.flag (R.COIL.DISC_BUSY port)) hguard]
  have himm : ∃ u : State, u.imm = (storeBytes s.start (R.COIL.page port) 0 128 (body.take 96)).imm ∧ discoverRspFx port body s.start = u.discDone port 0 := by
    refine ⟨_, ?_, rfl⟩
    unfold State.cond
    split <;> rfl
  obtain ⟨u, hu, heq⟩ := himm
  obtain ⟨honly, hb, hst, hpend⟩ := discDone_shows u (LinkFrames.port_lt_of_hasPort hp) (show 0 < 4 by decide)
  rw [heq]
  refine ⟨hb, hst, hpend, fun i hi => ?_⟩
  rw [honly]
  have hread := immByte_storeBytes s.start (R.COIL.page port) 0 128 (body.take 96) i (by rw [List.length_take]; exact hi)
  have hget : (body.take 96).getD i 0 = body.getD i 0 := by
    rw [List.getD_eq_getElem?_getD, List.getD_eq_getElem?_getD, List.getElem?_take, if_pos (by omega)]
  rw [hget] at hread
  rw [← hread]
  unfold State.immByte State.immW
  rw [← hu]

/-- Settles O20: a DISCOVER with path left is sent on as it is but for its place; an assignment writes NODE_ID and NODE_VALID at once; a
    request writes DISC_BUSY and leaves, and discDone ends it. -/
theorem discoveryAndAssignment : Obligations.DiscoveryAndAssignment := by
  unfold Obligations.DiscoveryAndAssignment
  refine ⟨?_, fun port hops t0 d s htile hp hup hd hop hid => assign_takes htile hp hup hd hop hid,
    fun port t0 s hs hp hbusy hcan hfree => discGo_launches hs hp hbusy hcan hfree,
    fun port body s hs hp hup hbusy => discoverRsp_lands hs hp hup hbusy, ?_⟩
  · intro port hops t0 d crcOk s hdie hp hup hd he hcan hfree hh
    have hguard : (s.tileDie && decide (port < 2) && s.isUp port) = true := by rw [hdie, hup, decide_eq_true hp]; rfl
    refine ⟨_, rfl, ?_⟩
    rw [cond_of (b := s.tileDie && decide (port < 2) && s.isUp port) hguard, discoverFx_along (s := s.atTime t0) hd he,
      discoverPass_sends (s := s.atTime t0) hcan hh,
      send_alone hfree _ (rfl : lineOf (.discover (otherPort port) _ _ _) = some (otherPort port, _)) (fun _ _ h => Output.noConfusion h)]
  · intro port s hs hp hbusy
    have hguard : (s.isSender && s.hasPort port && s.flag (R.COIL.DISC_BUSY port)) = true := by rw [hs, hp, hbusy]; rfl
    refine ⟨_, rfl, ?_⟩
    rw [cond_of (b := _ && s.flag (R.COIL.DISC_BUSY port)) hguard]
    obtain ⟨honly, hrest⟩ := discDone_shows s.start (LinkFrames.port_lt_of_hasPort hp) (show 1 < 4 by decide)
    exact ⟨onlyRegs_trans (onlyRegs_start s) honly, hrest⟩

end Sys2Proof.Proofs.Discovery


/-!
Link beacons (04 R105; 10 R255, R270, R272, R275): the timer, the reply to a request, and the measured delay.
-/

namespace Sys2Proof.Proofs.LinkBeacons
open Sys2Proof.Machine Sys2Proof.Laws Sys2Proof.Proofs.Frames Sys2Proof.Proofs.FieldRules Sys2Proof.Proofs.Framing Sys2Proof.Proofs.CoilFrames
  Sys2Proof.Proofs.LinkFrames Sys2Proof.Proofs.Sending Sys2Proof.Proofs.Training Sys2Proof.Proofs.Ports

/-! The egress of a port drains. -/

theorem mem_delFirst {α : Type} [DecidableEq α] {x y : α} {xs : List α} (h : y ∈ xs) (hne : y ≠ x) : y ∈ delFirst (· == x) xs := by
  induction xs with
  | nil => exact absurd h List.not_mem_nil
  | cons z zs ih =>
    unfold delFirst
    rcases List.mem_cons.mp h with rfl | hin
    · rw [if_neg (by simpa using hne)]
      exact List.mem_cons_self
    · split
      · exact hin
      · exact List.mem_cons_of_mem _ (ih hin)

/-- A relation that the records of the ports and the outputs may change under holds across what leaves an egress. -/
theorem frame_drainN {Rel : State → State → Prop} {W : Fld → Bool} {E : Nat → Bool} (h : Frame Rel W E) (hcoil : CoilFree Rel) (p n : Nat) (s : State) :
    Rel s (State.drainN p n s) := by
  induction n generalizing s with
  | zero => exact h.refl s
  | succ n ih =>
    unfold State.drainN
    split
    · exact h.refl s
    · exact h.ite (fun _ => h.refl s) fun _ => h.trans (h.trans (frame_modCoil hcoil s p _) (frame_depart h hcoil _ _)) (ih _)

theorem drain_of_none {s : State} (h : s.boot.coilDue = none) (p : Nat) : s.drain p = State.drainN p (s.coilSt p).egress.length s := by
  have hboot : (State.drainN p (s.coilSt p).egress.length s).boot = s.boot :=
    frame_drainN (partFrame (F := State.boot) fun _ _ _ => rfl) (fun _ _ _ => rfl) p _ s
  exact resetAfterRsp_of_none (by rw [hboot]; exact h)

/-- A reply has left, or waits since now. -/
def Due (p : Nat) (b : LinkBeacon) (t : State) : Prop :=
  Output.linkRep p b ∈ t.out ∨ ∃ x ∈ (t.coilSt p).egress, x.out = .linkRep p b ∧ x.since = t.time

theorem Due.sends {p : Nat} {b : LinkBeacon} {t : State} : Due p b t → Sends t p (.linkRep p b)
  | .inl h => .inl h
  | .inr ⟨x, hx, ho, _⟩ => .inr ⟨x, hx, ho⟩

theorem Due.of_eq {p : Nat} {b : LinkBeacon} {s t : State} (ho : t.out = s.out) (hc : t.coil = s.coil) (ht : t.time = s.time) : Due p b s → Due p b t := by
  unfold Due State.coilSt
  rw [ho, hc, ht]
  exact id

theorem dueFrame (p : Nat) (b : LinkBeacon) : Frame (fun s t => Due p b s → Due p b t) (fun _ => true) (fun _ => true) where
  refl _ h := h
  trans h h' hs := h' (h hs)
  wr s f v _ := .of_eq (wr_out s f v) (wr_coil s f v) (wr_time s f v)
  raise s e _ _ := .of_eq (raise_out s e) (raise_coil s e) (by rw [raise_eq])
  level s e b _ _ := .of_eq (level_out s e b) (level_coil s e b) (by rw [level_eq])

/-- A reply that is sent is due. -/
theorem due_send (s : State) (p : Nat) (b : LinkBeacon) : Due p b (s.send none (.linkRep p b)) := by
  unfold State.send
  simp only [show lineOf (.linkRep p b) = some (p, classOf ptBEACON) from rfl]
  split
  · refine .inr ⟨⟨classOf ptBEACON, none, .linkRep p b, s.time⟩, ?_, rfl, rfl⟩
    rw [coilSt_modCoil]
    exact List.mem_append_right _ List.mem_cons_self
  · exact .inl (by rw [depart_out]; exact (mem_placeOut _ _ s.out).mpr (.inl rfl))

theorem depart_coilSt_egress (s : State) (o : Output) (p : Nat) : ((s.depart o).coilSt p).egress = (s.coilSt p).egress := by
  unfold State.depart
  simp only
  split
  · next q b =>
    by_cases h : p = q
    · rw [h, coilSt_modCoil]
      rfl
    · rw [coilSt_modCoil_ne _ h]
      rfl
  · rfl

theorem depart_time (s : State) (o : Output) : (s.depart o).time = s.time := by rw [depart_frame]

/-- A reply that waits leaves as it is when its turn comes in the same command. -/
theorem due_leaves {p : Nat} {b : LinkBeacon} {s : State} (x : Held) (h : Due p b s) :
    Due p b ((s.modCoil p (fun c => { c with egress := delFirst (· == x) c.egress })).depart (aged (s.time - x.since) x.out)) := by
  rcases h with hout | ⟨y, hy, ho, hs⟩
  · exact .inl (by rw [depart_out]; exact (mem_placeOut _ _ _).mpr (.inr hout))
  · by_cases hxy : y = x
    · subst hxy
      refine .inl ?_
      rw [depart_out, mem_placeOut, ho, hs, Nat.sub_self]
      exact .inl rfl
    · refine .inr ⟨y, ?_, ho, by rw [depart_time]; exact hs⟩
      rw [depart_coilSt_egress, coilSt_modCoil]
      exact mem_delFirst hy hxy

theorem due_drainN {p : Nat} {b : LinkBeacon} (n : Nat) (s : State) (h : Due p b s) : Due p b (State.drainN p n s) := by
  induction n generalizing s with
  | zero => exact h
  | succ n ih =>
    unfold State.drainN
    split
    · exact h
    · split
      · exact h
      · exact ih _ (due_leaves _ h)

/-! The timer. -/

/-- The request of a port. -/
def requestOf (s : State) (p : Nat) : LinkBeacon :=
  { seq := ((s.coilSt p).seq + 1) % 65536, port := p, role := s.portRole p, ta := s.time, tb := 0, uid := Config.uid % 2 ^ 64,
    loopReq := s.rd (R.COIL.LOOPBACK p) == 3, loopAck := false, loopSecs := s.rd (R.COIL.FAR_LOOP_SECS p) }

/-- The next sequence number in a port's record. -/
def nextSeq (s : State) (p : Nat) (c : CoilSt) : CoilSt := { c with seq := ((s.coilSt p).seq + 1) % 65536 }

/-- The timer at one port. -/
def timerAt (s : State) (p : Nat) : State :=
  (s.modCoil p (nextSeq s p)).send none (.linkReq p (requestOf s p))

/-- What the timer does at other ports leaves a port's record, and sends only more. -/
def ElsewhereSent (p : Nat) (s t : State) : Prop := t.coilSt p = s.coilSt p ∧ OnlySent s t ∧ ∀ o ∈ s.out, o ∈ t.out

theorem send_coilSt_ne (s : State) {p q : Nat} (h : p ≠ q) (b : LinkBeacon) : (s.send none (.linkReq q b)).coilSt p = s.coilSt p := by
  unfold State.send
  simp only [show lineOf (.linkReq q b) = some (q, classOf ptBEACON) from rfl]
  split
  · exact coilSt_modCoil_ne s h _
  · exact coilSt_modCoil_ne { s with out := placeOut (.linkReq q b) s.out } h _

theorem timerAt_elsewhere (s : State) {p q : Nat} (h : p ≠ q) : ElsewhereSent p s (timerAt s q) := by
  refine ⟨(send_coilSt_ne _ h _).trans (coilSt_modCoil_ne s h _), (onlySent_modCoil s q _).trans (onlySent_send _ _), fun o ho => ?_⟩
  exact (sendsKept_send _ none _).1 o ho

theorem each_elsewhere {p : Nat} (qs : List Nat) : ∀ (s : State), p ∉ qs → ElsewhereSent p s (s.each qs timerAt) := by
  induction qs with
  | nil => exact fun s _ => ⟨rfl, onlySent_refl s, fun _ h => h⟩
  | cons q qs ih =>
    intro s hp
    obtain ⟨h1, h2, h3⟩ := timerAt_elsewhere s (List.ne_of_not_mem_cons hp)
    obtain ⟨g1, g2, g3⟩ := ih (timerAt s q) (List.not_mem_of_not_mem_cons hp)
    exact ⟨g1.trans h1, h2.trans g2, fun o ho => g3 o (h3 o ho)⟩

theorem depart_request (s : State) (p : Nat) (b : LinkBeacon) : (s.depart (.linkReq p b)).coilSt p = { s.coilSt p with t1 := b.ta } :=
  coilSt_modCoil { s with out := placeOut (.linkReq p b) s.out } p _

/-- Of a port's record, a barrier depends on the epoch from which it serves alone. -/
theorem barred_of_coil {s t : State} {c : List (Nat × CoilSt)} (ht : t = { s with coil := c }) {p : Nat}
    (hc : (t.coilSt p).serveFrom = (s.coilSt p).serveFrom) (cls n : Nat) : t.barred p cls n = s.barred p cls n := by
  have hl : ∀ e, t.launchesAt p e = s.launchesAt p e := by
    intro e
    unfold State.launchesAt
    rw [hc, ht]
    rfl
  unfold State.barred State.tickGuard
  rw [hl, ht]
  rfl

theorem barred_modCoil (s : State) (p : Nat) {f : CoilSt → CoilSt} (hf : ∀ c, (f c).serveFrom = c.serveFrom) (cls n : Nat) :
    (s.modCoil p f).barred p cls n = s.barred p cls n :=
  barred_of_coil (s := s) rfl ((congrArg CoilSt.serveFrom (coilSt_modCoil s p f)).trans (hf _)) cls n

/-- The timer at a port: the next sequence number, and a request that has left or waits. -/
theorem timerAt_shows (s : State) (p : Nat) :
    ((timerAt s p).coilSt p).seq = ((s.coilSt p).seq + 1) % 65536 ∧ Sends (timerAt s p) p (.linkReq p (requestOf s p)) ∧
      ((s.coilSt p).egress = [] → (∀ n, s.barred p 0 n = false) → ((timerAt s p).coilSt p).t1 = s.time) := by
  have hset : (s.modCoil p (nextSeq s p)).coilSt p = nextSeq s p (s.coilSt p) := coilSt_modCoil s p _
  have hline : lineOf (.linkReq p (requestOf s p)) = some (p, 0) := rfl
  refine ⟨?_, sends_send _ none hline, fun he hb => ?_⟩
  · unfold timerAt State.send
    simp only [hline]
    split
    · rw [coilSt_modCoil, hset]
      rfl
    · rw [depart_request, hset]
      rfl
  · have hbar : ∀ n, (s.modCoil p (nextSeq s p)).barred p 0 n = false :=
      fun n => (barred_modCoil s p (f := nextSeq s p) (fun _ => rfl) 0 n).trans (hb n)
    unfold timerAt
    rw [send_now _ none hline (by rw [hset]; exact he) (hbar _), depart_request]
    rfl

/-- One visit of every port: what a port shows after its own visit stays. -/
theorem each_timer {s : State} {ports : List Nat} {p : Nat} (hnd : ports.Nodup) (hp : p ∈ ports) :
    ∃ u, ElsewhereSent p s u ∧ ElsewhereSent p (timerAt u p) (s.each ports timerAt) := by
  obtain ⟨l, r, rfl⟩ := List.append_of_mem hp
  obtain ⟨-, hr, hdisj⟩ := List.nodup_append.mp hnd
  refine ⟨s.each l timerAt, each_elsewhere l s (fun hin => hdisj p hin p List.mem_cons_self rfl), ?_⟩
  unfold State.each
  rw [List.foldl_append, List.foldl_cons]
  exact each_elsewhere r _ (List.nodup_cons.mp hr).1

/-- What lets a packet leave a port is untouched by what leaves other ports. -/
theorem ElsewhereSent.sameGate {s t : State} {p : Nat} (h : ElsewhereSent p s t) : SameGate s t p := by
  obtain ⟨hcoil, hsent, -⟩ := h
  have hrd : ∀ f, t.rd f = s.rd f := fun f => rd_congr hsent.regs f
  unfold OnlySent at hsent
  refine ⟨?_, ?_, ?_, ?_, ?_, ?_, ?_, hcoil, fun f _ => hrd f⟩ <;> rw [hsent]

theorem coded_of_portOn {s : State} {p : Nat} (hon : s.portOn p = true) (hl : lkALIGNING ≤ s.rd (R.COIL.LINK p)) (ht : s.flag (R.COIL.TEST p) = false) :
    s.coded p = true := by
  unfold State.coded
  rw [if_pos (running_of_portOn hon), hon, decide_eq_true hl, ht]
  rfl

theorem hasPort_of_portOn {s : State} {p : Nat} (h : s.portOn p = true) : s.hasPort p = true := by
  unfold State.portOn at h
  simp only [Bool.and_eq_true] at h
  exact h.1.2

/-- Every port that carries coded data launches a request. -/
theorem timer_launches {port t0 : Nat} {s : State} (hon : s.portOn port = true) (hl : lkALIGNING ≤ s.rd (R.COIL.LINK port))
    (ht : s.flag (R.COIL.TEST port) = false) :
    Completes (.linkBeaconTimer t0) s (fun t => t.regs = s.regs ∧
      (s.egressFree port t0 = true → (t.coilSt port).t1 = max s.time t0) ∧ (t.coilSt port).seq = ((s.coilSt port).seq + 1) % 65536 ∧
      ∃ b, Sends t port (.linkReq port b) ∧ b.seq = ((s.coilSt port).seq + 1) % 65536 ∧ b.ta = max s.time t0) := by
  refine ⟨_, rfl, ?_⟩
  have hports : ((s.atTime t0).ports.filter (s.atTime t0).coded).Nodup := (List.nodup_range).filter _
  have hmem : port ∈ (s.atTime t0).ports.filter (s.atTime t0).coded :=
    List.mem_filter.mpr ⟨List.mem_range.mpr (of_decide_eq_true (hasPort_of_portOn hon)), coded_of_portOn (s := s.atTime t0) hon hl ht⟩
  obtain ⟨u, helse, hcoil', hsent', hout'⟩ := each_timer (s := s.atTime t0) hports hmem
  obtain ⟨hcoil, hsent, -⟩ := id helse
  obtain ⟨hseq, hsends, ht1⟩ := timerAt_shows u port
  rw [cond_of (b := s.running) (running_of_portOn hon)]
  have hcoil0 : u.coilSt port = s.coilSt port := hcoil
  have htime : u.time = max s.time t0 := by rw [hsent]; rfl
  have hgate : SameGate (s.atTime t0) u port := helse.sameGate
  refine ⟨hsent'.regs.trans ?_, fun hfree => ?_, ?_, requestOf u port, ?_, ?_, htime⟩
  · exact ((onlySent_modCoil u port _).trans (onlySent_send _ _)).regs.trans hsent.regs
  · refine (congrArg CoilSt.t1 hcoil').trans ((ht1 ?_ fun n => ?_).trans htime)
    · rw [hcoil0]
      simp only [State.egressFree, Bool.and_eq_true, List.isEmpty_iff] at hfree
      exact hfree.1.1
    · rw [hgate.barred]
      exact egressFree_barred hfree _ _
  · rw [← hcoil0]
    exact (congrArg CoilSt.seq hcoil').trans hseq
  · rcases hsends with ho | ⟨x, hx, ho⟩
    · exact .inl (hout' _ ho)
    · exact .inr ⟨x, Eq.mpr (congrArg (x ∈ CoilSt.egress ·) hcoil') hx, ho⟩
  · rw [← hcoil0]
    rfl

/-! What a port shows of its partner, and what stays while its egress drains. -/

/-- The fields that a link beacon concerns. -/
def beaconFields (p : Nat) : List Fld :=
  [R.COIL.LINK p, R.COIL.FAR_LOOPED p, R.COIL.PARTNER_ROLE p, R.COIL.PARTNER_VALID p, R.COIL.PEER_DELAY p]

theorem partner_shows {p : Nat} (hp : p < 16) {b : LinkBeacon} (hb : b.role < 8) (s : State) :
    (s.partner p b).rd (R.COIL.PARTNER_ROLE p) = b.role := by
  unfold State.partner
  rw [rd_wr_sep _ _ (by interval_cases p <;> decide), rd_wr_own _ _ (by interval_cases p <;> decide)]
  exact Nat.mod_eq_of_lt hb

theorem partner_due (p : Nat) (b r : LinkBeacon) (s : State) : Due p r s → Due p r (s.partner p b) := by
  have h := dueFrame p r
  exact h.trans (h.trans (h.trans (h.wr s _ rfl) (h.wr _ _ rfl)) (h.wr _ _ rfl)) (h.wr _ _ rfl)

theorem partner_valid {p : Nat} (hp : p < 16) (b : LinkBeacon) (s : State) : (s.partner p b).rd (R.COIL.PARTNER_VALID p) = 1 :=
  rd_wr_own _ _ (by interval_cases p <;> decide)

theorem partner_stays {p : Nat} (hp : p < 16) (b : LinkBeacon) (s : State) :
    LinkStays [R.COIL.LINK p, R.COIL.FAR_LOOPED p, R.COIL.PEER_DELAY p] s (s.partner p b) := by
  have h := linkFrame [R.COIL.LINK p, R.COIL.FAR_LOOPED p, R.COIL.PEER_DELAY p]
  unfold State.partner
  refine h.trans (h.trans (h.trans (h.wr s _ ?_) (h.wr _ _ ?_)) (h.wr _ _ ?_)) (h.wr _ _ ?_)
  all_goals interval_cases p <;> decide

theorem showEnds_stays {p : Nat} (hp : p < 16) (s : State) : LinkStays (beaconFields p) s s.showEnds := by
  refine frame_showEnds (linkFrame _) ?_ ⟨?_, ?_⟩ s
  all_goals interval_cases p <;> decide

theorem drain_stays {s : State} (h : s.boot.coilDue = none) (fs : List Fld) (p : Nat) : LinkStays fs s (s.drain p) := by
  rw [drain_of_none h]
  exact frame_drainN (linkFrame fs) (linkFree fs).coilFree p _ s

/-- Outputs stay where they are joined by others. -/
def OutKept (s t : State) : Prop := ∀ o ∈ s.out, o ∈ t.out

theorem outKeptFrame : Frame OutKept (fun _ => true) (fun _ => true) where
  refl _ _ h := h
  trans h h' o ho := h' o (h o ho)
  wr s f v _ o ho := by rw [wr_out]; exact ho
  raise s e _ _ o ho := by rw [raise_out]; exact ho
  level s e b _ _ o ho := by rw [level_out]; exact ho

theorem outKept_leftUp (p : Nat) (s : State) : OutKept s (leftUp p s) := by
  have h := outKeptFrame
  rw [leftUp_eq]
  have htrain : OutKept s (s.train p) := frame_train h (fun _ _ _ h => h) (fun _ _ => rfl) rfl s
  have hlost : OutKept (s.train p) ((s.train p).lost p) :=
    frame_lost h (fun _ _ _ h => h) (fun _ _ => rfl) rfl (fun _ _ => rfl) ⟨rfl, rfl⟩ _
  refine h.trans (h.trans htrain hlost) ?_
  exact frame_upstreamLost h (fun _ _ _ _ h => h) (fun s _ _ _ _ _ => (sendsKept_send s none _).1) (fun _ _ _ _ h => h) (fun _ _ => rfl) (fun _ _ => rfl) p _

/-- A port that goes out of service: TEST is set, and a port that has link or aligns goes to TRAINING. -/
theorem showTest_cases {s : State} {p : Nat} (hp : p < 16) (hnow : s.testNow p = true) (hd : s.boot.coilDue = none) :
    s.showTest p = leftUp p (s.wr (R.COIL.TEST p) 1) ∧ s.rd (R.COIL.LINK p) = lkUP ∨
    s.showTest p = (s.wr (R.COIL.TEST p) 1).cond (s.rd (R.COIL.LINK p) == lkALIGNING) (fun s => s.train p) ∧ s.rd (R.COIL.LINK p) ≠ lkUP := by
  have hlink : (s.wr (R.COIL.TEST p) 1).rd (R.COIL.LINK p) = s.rd (R.COIL.LINK p) := rd_wr_sep _ _ (by interval_cases p <;> decide)
  unfold State.showTest
  simp only [hnow, Bool.true_and]
  rw [show s.wrB (R.COIL.TEST p) true = s.wr (R.COIL.TEST p) 1 from rfl, hlink]
  by_cases hup : s.rd (R.COIL.LINK p) = lkUP
  · refine .inl ⟨?_, hup⟩
    rw [hup, if_pos (by decide)]
    exact leaveUp_of_none (by rw [wr_boot]; exact hd)
  · exact .inr ⟨if_neg (by simpa using hup), hup⟩

/-- A port that loops for its partner is out of service: FAR_LOOPED and TEST show it, the partner's role stays, and so does PARTNER_VALID
    unless the link was UP, which it then is no more; what has left stays sent. -/
theorem showTest_looped {s : State} {p : Nat} (hp : p < 16) (hloop : s.rd (R.COIL.FAR_LOOPED p) = 1) (hd : s.boot.coilDue = none) :
    OutKept s (s.showTest p) ∧ (s.showTest p).rd (R.COIL.FAR_LOOPED p) = 1 ∧ (s.showTest p).rd (R.COIL.TEST p) = 1 ∧
    (s.showTest p).rd (R.COIL.PARTNER_ROLE p) = s.rd (R.COIL.PARTNER_ROLE p) ∧
    (s.rd (R.COIL.LINK p) ≠ lkUP → (s.showTest p).rd (R.COIL.PARTNER_VALID p) = s.rd (R.COIL.PARTNER_VALID p)) ∧
    (s.rd (R.COIL.LINK p) = lkUP → (s.showTest p).rd (R.COIL.LINK p) ≠ lkUP) := by
  have hnow : s.testNow p = true := by simp [State.testNow, State.flag, hloop]
  have hset : LinkStays [R.COIL.FAR_LOOPED p, R.COIL.PARTNER_ROLE p, R.COIL.PARTNER_VALID p] s (s.wr (R.COIL.TEST p) 1) :=
    (linkFrame _).wr s _ (by interval_cases p <;> decide)
  have htest : (s.wr (R.COIL.TEST p) 1).rd (R.COIL.TEST p) = 1 := rd_wr_own _ _ (by interval_cases p <;> decide)
  have hout : OutKept s (s.wr (R.COIL.TEST p) 1) := outKeptFrame.wr s _ rfl
  rcases showTest_cases hp hnow hd with ⟨heq, hup⟩ | ⟨heq, hup⟩
  · have hleft : LinkStays [R.COIL.FAR_LOOPED p, R.COIL.PARTNER_ROLE p, R.COIL.TEST p] (s.wr (R.COIL.TEST p) 1) (leftUp p (s.wr (R.COIL.TEST p) 1)) := by
      refine frame_leftUp (linkFrame _) (linkFree _) ?_ ?_ _
      all_goals interval_cases p <;> decide
    rw [heq]
    refine ⟨outKeptFrame.trans hout (outKept_leftUp p _), (hleft.rd _ (by simp)).trans ((hset.rd _ (by simp)).trans hloop),
      (hleft.rd _ (by simp)).trans htest, (hleft.rd _ (by simp)).trans (hset.rd _ (by simp)), fun h => absurd hup h, fun _ => ?_⟩
    rw [(leftUp_shows hp _).1]
    decide
  · have htrain : LinkStays [R.COIL.FAR_LOOPED p, R.COIL.PARTNER_ROLE p, R.COIL.PARTNER_VALID p, R.COIL.TEST p] (s.wr (R.COIL.TEST p) 1) (s.showTest p) := by
      rw [heq]
      refine (linkFrame _).cond fun _ => frame_train (linkFrame _) link_free ?_ ?_ _
      all_goals interval_cases p <;> decide
    refine ⟨?_, (htrain.rd _ (by simp)).trans ((hset.rd _ (by simp)).trans hloop), (htrain.rd _ (by simp)).trans htest,
      (htrain.rd _ (by simp)).trans (hset.rd _ (by simp)), fun _ => (htrain.rd _ (by simp)).trans (hset.rd _ (by simp)), fun h => absurd h hup⟩
    rw [heq]
    exact outKeptFrame.trans hout (outKeptFrame.cond fun _ => frame_train outKeptFrame (fun _ _ _ h => h) (fun _ _ => rfl) rfl _)

/-! The answer to a request. -/

/-- The reply to a request. -/
def replyOf (s : State) (port : Nat) (b : LinkBeacon) (d : Nat) (ack : Bool) : LinkBeacon :=
  { seq := b.seq, port := port, role := s.portRole port, ta := s.time, tb := s.time + d, uid := Config.uid % 2 ^ 64, loopReq := false,
    loopAck := ack, loopSecs := 0 }

/-- The state in which the reply has been sent. -/
def replied (s : State) (port : Nat) (b : LinkBeacon) (ack : Bool) : State :=
  ({ s with free := s.free + 1 } : State).send none (.linkRep port (replyOf s port b (Config.freeVal s.free) ack))

/-- The state in which the partner's report shows, and what waited at the port has left as far as it may. -/
def reported (s : State) (port : Nat) (b : LinkBeacon) : State := (s.partner port b).showEnds.drain port

/-- The state in which the port loops for its partner. -/
def looped (s : State) (port : Nat) (b : LinkBeacon) : State :=
  ((s.wr (R.COIL.FAR_LOOPED port) 1).modCoil port (fun c => { c with loopSecs := b.loopSecs })).showTest port

theorem requestFx_eq (port : Nat) (b : LinkBeacon) (s : State) : linkBeaconRequestFx port b s =
    (((replied s port b (s.running && b.loopReq && s.flag (R.COIL.FAR_LOOP_ALLOW port))).cond
      (replied s port b (s.running && b.loopReq && s.flag (R.COIL.FAR_LOOP_ALLOW port))).running (fun s => reported s port b)).cond
      (s.running && b.loopReq && s.flag (R.COIL.FAR_LOOP_ALLOW port)) (fun s => looped s port b)) := rfl

theorem replied_stays (fs : List Fld) (s : State) (port : Nat) (b : LinkBeacon) (ack : Bool) : LinkStays fs s (replied s port b ack) :=
  (linkFrame fs).trans (link_free s _) (frame_sendOwn (linkFrame fs) (linkFree fs).coilFree _ _)

theorem replied_due (s : State) (port : Nat) (b : LinkBeacon) (ack : Bool) : Due port (replyOf s port b (Config.freeVal s.free) ack) (replied s port b ack) :=
  due_send _ _ _

/-- What shows after the partner's report. -/
theorem reported_shows {s : State} {port : Nat} (hp : port < 16) (b : LinkBeacon) (hd : s.boot.coilDue = none) :
    (reported s port b).rd (R.COIL.PARTNER_VALID port) = 1 ∧ (b.role < 8 → (reported s port b).rd (R.COIL.PARTNER_ROLE port) = b.role) ∧
    (∀ r, Due port r s → Due port r (reported s port b)) ∧
    LinkStays [R.COIL.LINK port, R.COIL.FAR_LOOPED port, R.COIL.PEER_DELAY port] s (reported s port b) := by
  have hends : LinkStays (beaconFields port) (s.partner port b) (s.partner port b).showEnds := showEnds_stays hp _
  have hpart := partner_stays hp b s
  have hboot : (s.partner port b).showEnds.boot = s.boot := congrArg (fun x => x.2.2.2.2) (hends.part.trans hpart.part)
  have hdue : (s.partner port b).showEnds.boot.coilDue = none := by rw [hboot]; exact hd
  have htail : LinkStays (beaconFields port) (s.partner port b) (reported s port b) :=
    (linkFrame _).trans hends (drain_stays hdue _ port)
  refine ⟨(htail.rd _ (by simp [beaconFields])).trans (partner_valid hp b s),
    fun hb => (htail.rd _ (by simp [beaconFields])).trans (partner_shows hp hb s), fun r hr => ?_, ?_⟩
  · unfold reported
    rw [drain_of_none hdue]
    have h := dueFrame port r
    exact due_drainN _ _ (h.trans (partner_due port b r s) (frame_showEnds h (fun _ _ => rfl) ⟨rfl, rfl⟩ _) hr)
  · refine ⟨htail.part.trans hpart.part, fun f hf => ?_, fun e he => htail.pend e (hpart.pend e he)⟩
    refine (htail.rd f ?_).trans (hpart.rd f hf)
    simp only [List.mem_cons, List.not_mem_nil, or_false] at hf
    rcases hf with rfl | rfl | rfl <;> simp [beaconFields]

theorem outKept_drainN (p n : Nat) (s : State) : OutKept s (State.drainN p n s) := by
  induction n generalizing s with
  | zero => exact outKeptFrame.refl s
  | succ n ih =>
    unfold State.drainN
    split
    · exact outKeptFrame.refl s
    · refine outKeptFrame.ite (fun _ => outKeptFrame.refl s) fun _ => outKeptFrame.trans (fun o ho => ?_) (ih _)
      rw [depart_out]
      exact (mem_placeOut _ _ _).mpr (.inr ho)

theorem outKept_reported {s : State} {port : Nat} (b : LinkBeacon) (hd : s.boot.coilDue = none) : OutKept s (reported s port b) := by
  have h := outKeptFrame
  have hends : OutKept s (s.partner port b).showEnds := by
    refine h.trans ?_ (frame_showEnds h (fun _ _ => rfl) ⟨rfl, rfl⟩ _)
    exact h.trans (h.trans (h.trans (h.wr s _ rfl) (h.wr _ _ rfl)) (h.wr _ _ rfl)) (h.wr _ _ rfl)
  have hb := partFrame (F := State.boot) fun _ _ _ => rfl
  have hboot : (s.partner port b).showEnds.boot = s.boot := by
    refine hb.trans (s := s) ?_ (frame_showEnds hb (fun _ _ => rfl) ⟨rfl, rfl⟩ _)
    exact hb.trans (hb.trans (hb.trans (hb.wr s _ rfl) (hb.wr _ _ rfl)) (hb.wr _ _ rfl)) (hb.wr _ _ rfl)
  unfold reported
  rw [drain_of_none (by rw [hboot]; exact hd)]
  exact h.trans hends (outKept_drainN _ _ _)

/-- After the loop for the partner. -/
theorem looped_shows {s : State} {port : Nat} (hp : port < 16) (b : LinkBeacon) (hd : s.boot.coilDue = none) :
    OutKept s (looped s port b) ∧ (looped s port b).rd (R.COIL.FAR_LOOPED port) = 1 ∧ (looped s port b).rd (R.COIL.TEST port) = 1 ∧
    (looped s port b).rd (R.COIL.PARTNER_ROLE port) = s.rd (R.COIL.PARTNER_ROLE port) ∧
    (s.rd (R.COIL.LINK port) ≠ lkUP → (looped s port b).rd (R.COIL.PARTNER_VALID port) = s.rd (R.COIL.PARTNER_VALID port)) ∧
    (s.rd (R.COIL.LINK port) = lkUP → (looped s port b).rd (R.COIL.LINK port) ≠ lkUP) := by
  let u : State := (s.wr (R.COIL.FAR_LOOPED port) 1).modCoil port (fun c => { c with loopSecs := b.loopSecs })
  have hset : LinkStays [R.COIL.PARTNER_ROLE port, R.COIL.PARTNER_VALID port, R.COIL.LINK port] s u :=
    (linkFrame _).trans ((linkFrame _).wr s _ (by interval_cases port <;> decide)) (link_modCoil _ _ _)
  have hloop : u.rd (R.COIL.FAR_LOOPED port) = 1 := rd_wr_own s _ (by interval_cases port <;> decide)
  have hboot : u.boot = s.boot := congrArg (fun x => x.2.2.2.2) hset.part
  obtain ⟨h1, h2, h3, h4, h5, h6⟩ := showTest_looped (s := u) hp hloop (by rw [hboot]; exact hd)
  have hlink : u.rd (R.COIL.LINK port) = s.rd (R.COIL.LINK port) := hset.rd _ (by simp)
  rw [hlink] at h5 h6
  exact ⟨outKeptFrame.trans (outKeptFrame.wr s _ rfl) h1, h2, h3, h4.trans (hset.rd _ (by simp)), fun h => (h5 h).trans (hset.rd _ (by simp)), h6⟩

/-- The reply is sent at once where the egress is free. -/
theorem replied_out {s : State} {port t0 : Nat} (hfree : s.egressFree port t0 = true) (b : LinkBeacon) (ack : Bool) :
    Output.linkRep port (replyOf (s.atTime t0) port b (Config.freeVal s.free) ack) ∈ (replied (s.atTime t0) port b ack).out := by
  let v : State := { s.atTime t0 with free := s.free + 1 }
  have hgate : SameGate (s.atTime t0) v port := ⟨rfl, rfl, rfl, rfl, rfl, rfl, rfl, rfl, fun _ _ => rfl⟩
  have hsend : replied (s.atTime t0) port b ack = v.depart (.linkRep port (replyOf (s.atTime t0) port b (Config.freeVal s.free) ack)) :=
    send_of_sameGate hfree hgate none (rfl : lineOf (.linkRep port _) = some (port, classOf ptBEACON))
  rw [hsend, depart_out]
  exact (mem_placeOut _ _ _).mpr (.inl rfl)

/-- A request is answered, and the partner's report shows. -/
theorem request_answered {port t0 : Nat} {b : LinkBeacon} {s : State} (hon : s.portOn port = true) (hl : lkALIGNING ≤ s.rd (R.COIL.LINK port))
    (ht : s.flag (R.COIL.TEST port) = false) (hb : b.role < 8) (hd : s.boot.coilDue = none) :
    Completes (.linkBeaconRequest port b t0) s (fun t => (s.rd (R.COIL.LINK port) ≠ lkUP ∨ t.rd (R.COIL.LINK port) = lkUP → t.rd (R.COIL.PARTNER_VALID port) = 1) ∧
      t.rd (R.COIL.PARTNER_ROLE port) = b.role ∧
      (∃ d, let r := Output.linkRep port {
          seq := b.seq, port := port, role := s.portRole port, ta := max s.time t0, tb := max s.time t0 + d, uid := Config.uid % 2 ^ 64,
          loopReq := false, loopAck := b.loopReq && s.flag (R.COIL.FAR_LOOP_ALLOW port), loopSecs := 0 }
        (s.egressFree port t0 = true → r ∈ t.out) ∧ (b.loopReq = false ∨ s.flag (R.COIL.FAR_LOOP_ALLOW port) = false → Sends t port r)) ∧
      (b.loopReq = true → s.flag (R.COIL.FAR_LOOP_ALLOW port) = true → t.rd (R.COIL.FAR_LOOPED port) = 1 ∧ t.rd (R.COIL.TEST port) = 1) ∧
      (b.loopReq = false ∨ s.flag (R.COIL.FAR_LOOP_ALLOW port) = false → t.rd (R.COIL.LINK port) = s.rd (R.COIL.LINK port) ∧
        t.rd (R.COIL.FAR_LOOPED port) = s.rd (R.COIL.FAR_LOOPED port))) := by
  have hp := port_lt_of_portOn hon
  have hrun := running_of_portOn hon
  have hguard : (s.hasPort port && s.coded port) = true := by rw [hasPort_of_portOn hon, coded_of_portOn hon hl ht]; rfl
  let ack : Bool := b.loopReq && s.flag (R.COIL.FAR_LOOP_ALLOW port)
  let u : State := replied (s.atTime t0) port b ack
  have hu : LinkStays [R.COIL.LINK port, R.COIL.FAR_LOOPED port, R.GLB.STATE] (s.atTime t0) u := replied_stays _ _ _ _ _
  have hurun : u.running = true := by
    unfold State.running State.stateCode
    rw [hu.rd R.GLB.STATE (by simp)]
    exact hrun
  have hud : u.boot.coilDue = none := by
    rw [show u.boot = s.boot from congrArg (fun x => x.2.2.2.2) hu.part]
    exact hd
  obtain ⟨hvalid, hrole, hdue, hrep⟩ := reported_shows hp b hud
  have hlink : (reported u port b).rd (R.COIL.LINK port) = s.rd (R.COIL.LINK port) := (hrep.rd _ (by simp)).trans (hu.rd _ (by simp))
  have hvd : (reported u port b).boot.coilDue = none := by
    rw [show (reported u port b).boot = u.boot from congrArg (fun x => x.2.2.2.2) hrep.part]
    exact hud
  have hout : OutKept u (reported u port b) := outKept_reported b hud
  have hfx : linkBeaconRequestFx port b (s.atTime t0) = (reported u port b).cond ack (fun s => looped s port b) := by
    rw [requestFx_eq]
    have hack : ((s.atTime t0).running && b.loopReq && (s.atTime t0).flag (R.COIL.FAR_LOOP_ALLOW port)) = ack := by
      rw [show (s.atTime t0).running = true from hrun]
      rfl
    rw [hack, show (replied (s.atTime t0) port b ack).running = true from hurun]
    rfl
  refine ⟨_, rfl, ?_⟩
  rw [cond_of (b := s.hasPort port && s.coded port) hguard, hfx]
  have hrout (hfree : s.egressFree port t0 = true) := hout _ (replied_out hfree b ack)
  cases hack : ack with
  | false =>
    have hno : b.loopReq = true → s.flag (R.COIL.FAR_LOOP_ALLOW port) = true → False := fun h1 h2 => by simp [ack, h1, h2] at hack
    rw [cond_of_not rfl]
    exact ⟨fun _ => hvalid, hrole hb, ⟨_, hrout, fun _ => (hdue _ (replied_due _ _ _ _)).sends⟩, fun h1 h2 => (hno h1 h2).elim,
      fun _ => ⟨hlink, (hrep.rd _ (by simp)).trans (hu.rd _ (by simp))⟩⟩
  | true =>
    have hyes : b.loopReq = true ∧ s.flag (R.COIL.FAR_LOOP_ALLOW port) = true := by simpa [ack] using hack
    obtain ⟨h1, h2, h3, h4, h5, h6⟩ := looped_shows hp b hvd
    rw [cond_of rfl]
    have hnot : ¬(b.loopReq = false ∨ s.flag (R.COIL.FAR_LOOP_ALLOW port) = false) := by rw [hyes.1, hyes.2]; decide
    rw [hlink] at h5 h6
    refine ⟨fun h => ?_, h4.trans (hrole hb), ⟨_, fun hfree => h1 _ (hrout hfree), fun h => absurd h hnot⟩, fun _ _ => ⟨h2, h3⟩, fun h => absurd h hnot⟩
    by_cases hup : s.rd (R.COIL.LINK port) = lkUP
    · rcases h with h | h
      · exact absurd hup h
      · exact absurd h (h6 hup)
    · exact (h5 hup).trans hvalid

/-- While no firmware runs, the repeater answers. -/
theorem repeater_answers {port t0 : Nat} {b : LinkBeacon} {s : State} (hrun : s.running = false) (haon : s.aon.on = true) (hr : s.aon.role = .tile)
    (hp : port < 2) (hup : s.isUp port = true) :
    Completes (.linkBeaconRequest port b t0) s (fun t => t.regs = s.regs ∧ ∃ d, Sends t port (.linkRep port {
      seq := b.seq, port := port, role := 5, ta := max s.time t0, tb := max s.time t0 + d, uid := Config.uid % 2 ^ 64,
      loopReq := false, loopAck := false, loopSecs := 0 })) := by
  have hguard : (s.hasPort port && s.coded port) = true := by
    have hport : s.hasPort port = true := Resets.hasPort_pair s hp
    have hcoded : s.coded port = true := by
      unfold State.coded
      rw [hrun, haon, hr, decide_eq_true hp, hup]
      rfl
    rw [hport, hcoded]
    rfl
  have hrole : (s.atTime t0).portRole port = 5 := by
    unfold State.portRole
    rw [show (s.atTime t0).running = false from hrun, show (s.atTime t0).aon.role = .tile from hr, decide_eq_true hp]
    rfl
  have honly : OnlySent ({ s.atTime t0 with free := s.free + 1 } : State) (replied (s.atTime t0) port b false) := onlySent_send _ _
  have hregs : (replied (s.atTime t0) port b false).regs = s.regs := honly.regs
  have hnot : (replied (s.atTime t0) port b false).running = false := by
    unfold State.running State.stateCode
    rw [rd_congr (t := s) hregs]
    exact hrun
  refine ⟨_, rfl, ?_⟩
  rw [cond_of (b := s.hasPort port && s.coded port) hguard, requestFx_eq, show (s.atTime t0).running = false from hrun]
  simp only [Bool.false_and]
  rw [cond_of_not rfl, cond_of_not hnot]
  have hdue := (replied_due (s.atTime t0) port b false).sends
  unfold replyOf at hdue
  rw [hrole] at hdue
  exact ⟨hregs, _, hdue⟩

/-! A reply. -/

/-- The delays that a port keeps stay. -/
def DelaysKept (p : Nat) (s t : State) : Prop := (t.coilSt p).delays = (s.coilSt p).delays

theorem delaysFrame (p : Nat) : Frame (DelaysKept p) (fun _ => true) (fun _ => true) where
  refl _ := rfl
  trans h h' := h'.trans h
  wr s f v _ := by unfold DelaysKept State.coilSt; rw [wr_coil]
  raise s e _ _ := by unfold DelaysKept State.coilSt; rw [raise_coil]
  level s e b _ _ := by unfold DelaysKept State.coilSt; rw [level_coil]

theorem delaysKept_modCoil (p : Nat) (s : State) (q : Nat) {f : CoilSt → CoilSt} (hf : ∀ c, (f c).delays = c.delays) : DelaysKept p s (s.modCoil q f) := by
  unfold DelaysKept
  by_cases h : p = q
  · rw [h, coilSt_modCoil, hf]
  · rw [coilSt_modCoil_ne s h]

theorem delaysKept_depart (p : Nat) (s : State) (o : Output) : DelaysKept p s (s.depart o) := by
  unfold State.depart
  simp only
  split
  · exact delaysKept_modCoil p { s with out := placeOut _ s.out } _ fun _ => rfl
  · rfl

theorem delaysKept_drainN (p q n : Nat) (s : State) : DelaysKept p s (State.drainN q n s) := by
  have h := delaysFrame p
  induction n generalizing s with
  | zero => exact h.refl s
  | succ n ih =>
    unfold State.drainN
    split
    · exact h.refl s
    · refine h.ite (fun _ => h.refl s) fun _ => h.trans (h.trans (delaysKept_modCoil p s q ?_) (delaysKept_depart p _ _)) (ih _)
      exact fun _ => rfl

theorem followTransit_stays (fs : List Fld) (s : State) (p : Nat) : LinkStays fs s (s.followTransit p) :=
  (linkFrame fs).cond fun _ => (linkFrame fs).trans (link_free s _) (link_modCoil _ _ _)

theorem followTransit_delays (s : State) (p : Nat) : DelaysKept p s (s.followTransit p) := by
  have h := delaysFrame p
  have hfree : DelaysKept p s { s with free := s.free + 1 } := rfl
  exact h.cond fun _ => h.trans hfree (delaysKept_modCoil p _ p fun _ => rfl)

/-- The delay that a reply measures. -/
def newDelay (s : State) (port : Nat) (b : LinkBeacon) : Int :=
  linkDelay (s.coilSt port).t1 b.ta b.tb s.time (Config.aDie port) (signedOf 16 (s.lv (R.COIL.CABLE_ASYM port)))

/-- The state that keeps it. -/
def measured (s : State) (port : Nat) (b : LinkBeacon) : State :=
  s.modCoil port (fun c => { c with delays := (newDelay s port b :: c.delays).take 64, acked := c.acked || b.loopAck })

/-- The state that shows the mean and the partner's report. -/
def meanShown (s : State) (port : Nat) (b : LinkBeacon) : State :=
  (s.wrI (R.COIL.PEER_DELAY port) (roundDivInt (s.peerDelay port * 1000) 65536)).partner port b

theorem replyFx_eq {s : State} {port : Nat} {b : LinkBeacon} (hseq : b.seq = (s.coilSt port).seq) (hack : b.loopAck = false) :
    linkBeaconReplyFx port b s = ((meanShown (measured s port b) port b).followTransit port).showEnds.drain port := by
  unfold linkBeaconReplyFx
  simp only [if_neg (not_not.mpr hseq)]
  rw [cond_of_not hack]
  rfl

theorem replyFx_other {s : State} {port : Nat} {b : LinkBeacon} (hseq : b.seq ≠ (s.coilSt port).seq) : linkBeaconReplyFx port b s = s := if_pos hseq

theorem unsignedOf_lt (w : Nat) (i : Int) : unsignedOf w i < 2 ^ w := by
  unfold unsignedOf
  have hpos : (0 : Int) < ((2 ^ w : Nat) : Int) := by positivity
  have hlt := Int.emod_lt_of_pos i hpos
  have hge := Int.emod_nonneg i (ne_of_gt hpos)
  omega

/-- The reply to the outstanding request: the delay is kept, its mean shows, and the partner is valid. -/
theorem meanShown_shows {s : State} {port : Nat} (hp : port < 16) (b : LinkBeacon) :
    DelaysKept port s (meanShown s port b) ∧
    (meanShown s port b).rd (R.COIL.PEER_DELAY port) = unsignedOf 32 (roundDivInt (meanDelay (s.coilSt port).delays * 1000) 65536) ∧
    (meanShown s port b).rd (R.COIL.PARTNER_VALID port) = 1 ∧ (meanShown s port b).boot = s.boot := by
  have h := delaysFrame port
  have hpart := partner_stays hp b (s.wrI (R.COIL.PEER_DELAY port) (roundDivInt (s.peerDelay port * 1000) 65536))
  refine ⟨?_, ?_, partner_valid hp b _, ?_⟩
  · exact h.trans (h.wrI s _ rfl) (h.trans (h.trans (h.trans (h.wr _ _ rfl) (h.wr _ _ rfl)) (h.wr _ _ rfl)) (h.wr _ _ rfl))
  · refine (hpart.rd _ (by simp)).trans ((rd_wr_own s _ (by interval_cases port <;> decide)).trans ?_)
    exact Nat.mod_eq_of_lt (unsignedOf_lt 32 _)
  · exact (congrArg (fun x => x.2.2.2.2) hpart.part).trans (wr_boot s _ _)

/-- The delay of a port's link. -/
theorem reply_measures {port t0 : Nat} {b : LinkBeacon} {s : State} (hon : s.portOn port = true) (hl : lkALIGNING ≤ s.rd (R.COIL.LINK port))
    (ht : s.flag (R.COIL.TEST port) = false) (hd : s.boot.coilDue = none) (hseq : b.seq = (s.coilSt port).seq) (hack : b.loopAck = false) :
    Completes (.linkBeaconReply port b t0) s (fun t =>
      (t.coilSt port).delays = (linkDelay (s.coilSt port).t1 b.ta b.tb (max s.time t0 : Nat) (Config.aDie port)
        (signedOf 16 (s.lv (R.COIL.CABLE_ASYM port))) :: (s.coilSt port).delays).take 64 ∧
      t.rd (R.COIL.PEER_DELAY port) = unsignedOf 32 (roundDivInt (meanDelay (t.coilSt port).delays * 1000) 65536) ∧
      t.rd (R.COIL.PARTNER_VALID port) = 1) := by
  have hp := port_lt_of_portOn hon
  have hguard : (s.running && s.coded port) = true := by rw [running_of_portOn hon, coded_of_portOn hon hl ht]; rfl
  let u : State := measured (s.atTime t0) port b
  obtain ⟨hkept, hmean, hvalid, hboot⟩ := meanShown_shows (s := u) hp b
  let v : State := ((meanShown u port b).followTransit port).showEnds
  have hv : LinkStays (beaconFields port) (meanShown u port b) v := (linkFrame _).trans (followTransit_stays _ _ _) (showEnds_stays hp _)
  have hvd : v.boot.coilDue = none := by
    rw [show v.boot = (meanShown u port b).boot from congrArg (fun x => x.2.2.2.2) hv.part, hboot]
    exact hd
  have hlast := drain_stays hvd (beaconFields port) port
  have hdelays : DelaysKept port u (v.drain port) := by
    have h := delaysFrame port
    rw [drain_of_none hvd]
    refine h.trans hkept (h.trans (followTransit_delays _ _) (h.trans ?_ (delaysKept_drainN port port _ v)))
    exact frame_showEnds h (fun _ _ => rfl) ⟨rfl, rfl⟩ _
  have hfx : linkBeaconReplyFx port b (s.atTime t0) = v.drain port := replyFx_eq (s := s.atTime t0) hseq hack
  refine ⟨_, rfl, ?_⟩
  rw [cond_of (b := s.running && s.coded port) hguard, hfx]
  refine ⟨?_, ?_, ?_⟩
  · refine Eq.trans hdelays ?_
    exact congrArg CoilSt.delays (coilSt_modCoil (s.atTime t0) port _)
  · rw [hlast.rd _ (by simp [beaconFields]), hv.rd _ (by simp [beaconFields]), hmean, show ((v.drain port).coilSt port).delays = _ from hdelays]
  · rw [hlast.rd _ (by simp [beaconFields]), hv.rd _ (by simp [beaconFields]), hvalid]

/-- Settles O23: the timer visits each port once; a reply is due from its sending on, whatever the port's egress then does; and the measured
    delay stays in the record while the partner's report shows. -/
theorem linkBeaconsMeasureTheLink : Obligations.LinkBeaconsMeasureTheLink := by
  unfold Obligations.LinkBeaconsMeasureTheLink
  refine ⟨fun port t0 s hon hl ht => timer_launches hon hl ht, fun port t0 b s hon hl ht hb hd => request_answered hon hl ht hb hd,
    fun port t0 b s hrun haon hr hp hup => repeater_answers hrun haon hr hp hup,
    fun port t0 b s hon hl ht hd => ⟨fun hseq hack => reply_measures hon hl ht hd hseq hack, fun hseq => ⟨_, rfl, ?_⟩⟩⟩
  have hsame : linkBeaconReplyFx port b (s.atTime t0) = s.atTime t0 := replyFx_other hseq
  unfold State.cond
  split
  · exact hsame
  · rfl

end Sys2Proof.Proofs.LinkBeacons


/-!
Hubs: bands for the children, their reports, and the classes of the subtree's events (01 R26, R28, R29; 10 R267, R268).
-/

namespace Sys2Proof.Proofs.Hubs
open Sys2Proof.Machine Sys2Proof.Laws Sys2Proof.Proofs.Frames Sys2Proof.Proofs.FieldRules Sys2Proof.Proofs.Framing Sys2Proof.Proofs.CoilFrames
  Sys2Proof.Proofs.LinkFrames Sys2Proof.Proofs.Sending

/-! A tile takes a band. -/

/-- The fields in which the reception of a band shows. -/
def bandFields : List Fld :=
  [R.TIL.CNT_BAND_IDLE, R.TIL.CNT_BAND_LATE, R.TIL.CNT_SEG_CORRUPT, R.TIL.CNT_SEG_DUP, R.TIL.CNT_BUF_DROP, R.TIL.RECEIVING]

section
variable {Rel : State → State → Prop} {W : Fld → Bool} {E : Nat → Bool} (h : Frame Rel W E) (htil : ∀ (s : State) (x : TilSt), Rel s { s with til := x })
  (hW : ∀ f ∈ bandFields, W f = true) (hE : E 0x0A0 = true)
include h htil hW hE

theorem frame_takeSeg (s : State) (band feed format : Nat) (sg : Seg) : Rel s (s.takeSeg band feed format sg) := by
  unfold State.takeSeg
  refine h.ite (fun _ => h.incRaise s (hW _ (by decide)) hE (by decide)) fun _ => ?_
  refine h.ite (fun _ => h.inc s (hW _ (by decide))) fun _ => h.ite (fun _ => h.refl s) fun _ => ?_
  unfold State.queueSeg
  refine h.ite (fun _ => h.incRaise s (hW _ (by decide)) hE (by decide)) fun _ => ?_
  exact h.trans (htil s _) (h.wr _ _ (hW _ (by decide)))

theorem frame_acceptBand (s : State) (b : BandPkt) : Rel s (s.acceptBand b) := by
  unfold State.acceptBand
  refine h.ite (fun _ => h.inc s (hW _ (by decide))) fun _ => ?_
  refine h.ite (fun _ => h.incRaise s (hW _ (by decide)) hE (by decide)) fun _ => ?_
  exact h.each fun t sg _ => frame_takeSeg h htil hW hE t _ _ _ sg

end

/-! The children of a band. -/

/-- The packet for a child. -/
def kidPacket (b : BandPkt) (k : Kid) : Output := .band k.port { b with dest := k.node, segs := b.segs.filter (touches k b.bandNo) }

/-- The band for one child. -/
def kidStep (port : Nat) (b : BandPkt) (s : State) (k : Kid) : State :=
  if (b.segs.filter (touches k b.bandNo)).isEmpty then s
  else if s.canSend k.port then s.send (some port) (kidPacket b k)
  else s.undeliverable k.port

/-- The segments for the hub's own lamps. -/
def ownSegs (s : State) (b : BandPkt) : List Seg :=
  b.segs.filter (fun sg => (keptBands s.lv).contains b.bandNo && (keptCols s.lv).any (fun c => decide (sg.sx ≤ c ∧ c ≤ sg.sx + sg.sw)))

theorem hubBandFx_eq {s : State} {port : Nat} (hu : s.red.upstream = some port) (b : BandPkt) :
    hubBandReceiveFx port b s = (s.each s.kids (kidStep port b)).cond
      (b.crcOk && (s.each s.kids (kidStep port b)).lvB R.TIL.EN && !(ownSegs (s.each s.kids (kidStep port b)) b).isEmpty)
      (fun t => t.acceptBand { b with segs := ownSegs (s.each s.kids (kidStep port b)) b }) := by
  unfold hubBandReceiveFx
  rw [if_neg (not_not.mpr hu)]
  rfl

theorem kid_port_lt {s : State} {k : Kid} (hk : k ∈ s.kids) : k.port < 16 := by
  obtain ⟨j, -, hj⟩ := List.mem_filterMap.mp hk
  unfold kidOf at hj
  simp only at hj
  split at hj
  · cases hj
    exact Nat.mod_lt _ (by decide)
  · exact absurd hj (by simp)

/-- What may change: registers, events, the records of the ports and the outputs. -/
def besides (s : State) : State := { s with regs := [], evt := {}, coil := [], out := [] }

theorem eq_of_besides {s t : State} (h : besides t = besides s) : t = { s with regs := t.regs, evt := t.evt, coil := t.coil, out := t.out } :=
  congrArg (fun x : State => { x with regs := t.regs, evt := t.evt, coil := t.coil, out := t.out }) h

/-- The fields that decide whether a port can send, and TIL.EN. -/
def wayFields : List Fld :=
  [R.GLB.STATE, R.TIL.EN.live] ++ (List.range 16).flatMap (fun p => [R.COIL.LINK p, R.COIL.st_TOPOLOGY_LOOP p])

abbrev WayStays : State → State → Prop := Stays besides wayFields

theorem wayFrame : Frame WayStays (apartFrom wayFields) (quietFor wayFields) := staysFrame (fun _ _ _ => rfl) _

theorem mem_wayFields {p : Nat} (hp : p < 16) : R.COIL.LINK p ∈ wayFields ∧ R.COIL.st_TOPOLOGY_LOOP p ∈ wayFields := by
  interval_cases p <;> decide

/-- A port can send as before. -/
theorem WayStays.canSend {s t : State} (h : WayStays s t) {p : Nat} (hp : p < 16) : t.canSend p = s.canSend p := by
  have haon : t.aon = s.aon := by rw [eq_of_besides h.part]
  obtain ⟨hlink, hloop⟩ := mem_wayFields hp
  unfold State.canSend State.isUp State.running State.stateCode State.flag
  rw [h.rd _ hlink, h.rd _ hloop, h.rd R.GLB.STATE (by decide), haon]

theorem undeliverable_way {p : Nat} (hp : p < 16) (s : State) : WayStays s (s.undeliverable p) := by
  refine frame_undeliverable wayFrame ?_ ?_ s
  all_goals interval_cases p <;> decide

theorem send_way {port : Nat} (hp : port < 2) (s : State) (o : Output) : WayStays s (s.send (some port) o) := by
  refine frame_send wayFrame (fun _ _ _ => .other rfl rfl) (fun a ha => ?_) s o
  cases ha
  interval_cases port <;> decide

theorem rd_undeliverable_le (s : State) (p : Nat) : s.rd (R.COIL.CNT_UNDELIVERABLE p) ≤ 0xFFFFFFFF :=
  Nat.le_of_lt_succ (Nat.mod_lt _ (show 0 < 2 ^ 32 by decide))

/-- A packet without a way counts at its port, and at no other. -/
theorem undeliverable_counts {p : Nat} (hp : p < 16) (s : State) :
    Counted s (s.undeliverable p) (R.COIL.CNT_UNDELIVERABLE p) ∧
    ∀ q, s.rd (R.COIL.CNT_UNDELIVERABLE q) ≤ (s.undeliverable p).rd (R.COIL.CNT_UNDELIVERABLE q) := by
  have hcount : Counted s (s.undeliverable p) (R.COIL.CNT_UNDELIVERABLE p) :=
    (rd_raise_sep _ (by interval_cases p <;> decide)).trans (counted_inc s rfl rfl)
  refine ⟨hcount, fun q => ?_⟩
  by_cases hq : q = p
  · have := rd_undeliverable_le s p
    rw [hq, hcount]
    omega
  · have hsame : (s.undeliverable p).rd (R.COIL.CNT_UNDELIVERABLE q) = s.rd (R.COIL.CNT_UNDELIVERABLE q) := by
      have hpage : 0x080 + q ≠ 0x080 + p := by omega
      exact (rd_raise_page _ hpage (of_decide_eq_true rfl)).trans (rd_wr_page _ _ hpage (of_decide_eq_true rfl) (of_decide_eq_true rfl))
    exact Nat.le_of_eq hsame.symm

/-- The packets that have left are packets for children. -/
def OnlyBands (kids : List Kid) (b : BandPkt) (t : State) : Prop := ∀ o ∈ t.out, ∃ k ∈ kids, o = kidPacket b k

/-- While the children are served: the way of each stays, no count falls, and nothing else leaves. -/
structure Serving (s : State) (b : BandPkt) (t : State) : Prop where
  way : WayStays s t
  counts : ∀ q, s.rd (R.COIL.CNT_UNDELIVERABLE q) ≤ t.rd (R.COIL.CNT_UNDELIVERABLE q)
  outs : OnlyBands s.kids b t

/-- A child is served: its packet is sent, or counts. -/
structure Served (s : State) (b : BandPkt) (k : Kid) (t : State) : Prop where
  sent : (b.segs.filter (touches k b.bandNo)) ≠ [] → s.canSend k.port = true → Sends t k.port (kidPacket b k)
  counted : (b.segs.filter (touches k b.bandNo)) ≠ [] → s.canSend k.port = false →
    min (s.rd (R.COIL.CNT_UNDELIVERABLE k.port) + 1) 0xFFFFFFFF ≤ t.rd (R.COIL.CNT_UNDELIVERABLE k.port)

/-- What is served stays so while no count falls and what was sent stays. -/
theorem Served.mono {s t u : State} {b : BandPkt} {k : Kid} (h : Served s b k t) (hs : SendsKept t u)
    (hc : ∀ q, t.rd (R.COIL.CNT_UNDELIVERABLE q) ≤ u.rd (R.COIL.CNT_UNDELIVERABLE q)) : Served s b k u :=
  ⟨fun hne hcan => hs.sends (h.sent hne hcan), fun hne hcan => (h.counted hne hcan).trans (hc _)⟩

theorem send_counts (s : State) {port : Nat} (hp : port < 2) (o : Output) (q : Nat) :
    (s.send (some port) o).rd (R.COIL.CNT_UNDELIVERABLE q) = s.rd (R.COIL.CNT_UNDELIVERABLE q) := by
  have h : Stays (fun _ : State => ()) [R.COIL.CNT_UNDELIVERABLE q] s (s.send (some port) o) := by
    refine frame_send (staysFrame (fun _ _ _ => rfl) _) (fun _ _ _ => .other rfl rfl) (fun a ha => ?_) s o
    cases ha
    intro f hf
    simp only [xoffFields, List.mem_cons, List.not_mem_nil, or_false] at hf
    rcases hf with rfl | rfl <;> exact DramFrames.apart_of_off rfl
  exact h.rd _ List.mem_cons_self

/-- One child is served. -/
theorem kidStep_serves {s t : State} {port : Nat} (hp : port < 2) {b : BandPkt} {k : Kid} (hk : k ∈ s.kids) (h : Serving s b t) :
    Serving s b (kidStep port b t k) ∧ Served s b k (kidStep port b t k) ∧ SendsKept t (kidStep port b t k) ∧
    ∀ q, t.rd (R.COIL.CNT_UNDELIVERABLE q) ≤ (kidStep port b t k).rd (R.COIL.CNT_UNDELIVERABLE q) := by
  have hk16 := kid_port_lt hk
  have hcan := h.way.canSend hk16
  unfold kidStep
  split
  · next hempty =>
    have hnil : b.segs.filter (touches k b.bandNo) = [] := List.isEmpty_iff.mp hempty
    exact ⟨h, ⟨fun hne => absurd hnil hne, fun hne => absurd hnil hne⟩, sendsKeptFrame.refl t, fun _ => Nat.le_refl _⟩
  · split
    · next hyes =>
      have hcnt (q : Nat) := Nat.le_of_eq (send_counts t hp (kidPacket b k) q).symm
      refine ⟨⟨wayFrame.trans h.way (send_way hp t _), fun q => (h.counts q).trans (hcnt q), fun o ho => ?_⟩, ⟨fun _ _ => sends_send t _ rfl, fun _ hno => ?_⟩,
        sendsKept_send t _ _, hcnt⟩
      · rcases mem_send_out ho with ho | rfl
        · exact h.outs o ho
        · exact ⟨k, hk, rfl⟩
      · rw [← hcan, hyes] at hno
        exact absurd hno (by decide)
    · next hno =>
      obtain ⟨hcount, hmono⟩ := undeliverable_counts hk16 t
      have hout : (t.undeliverable k.port).out = t.out := (raise_out _ _).trans (wr_out _ _ _)
      refine ⟨⟨wayFrame.trans h.way (undeliverable_way hk16 t), fun q => (h.counts q).trans (hmono q), ?_⟩, ⟨fun _ hyes => ?_, fun _ _ => ?_⟩,
        frame_undeliverable sendsKeptFrame rfl rfl t, hmono⟩
      · unfold OnlyBands
        rw [hout]
        exact h.outs
      · exact absurd (hcan.trans hyes) hno
      · have := h.counts k.port
        rw [show (t.undeliverable k.port).rd _ = _ from hcount]
        omega

/-- Every child is served. -/
theorem kids_served {s : State} {port : Nat} (hp : port < 2) (b : BandPkt) (hout : s.out = []) :
    Serving s b (s.each s.kids (kidStep port b)) ∧ ∀ k ∈ s.kids, Served s b k (s.each s.kids (kidStep port b)) := by
  refine each_all (Inv := Serving s b) (P := Served s b) (fun t ht k hk => ?_) (fun t ht k hk y hy => ?_) ?_
  · obtain ⟨h1, h2, -, -⟩ := kidStep_serves hp hk ht
    exact ⟨h1, h2⟩
  · obtain ⟨-, -, h3, h4⟩ := kidStep_serves hp hk ht
    exact hy.mono h3 h4
  · exact ⟨wayFrame.refl s, fun _ => Nat.le_refl _, fun o ho => by rw [hout] at ho; exact absurd ho List.not_mem_nil⟩

/-- The hub's own part of a band leaves what was served. -/
theorem acceptBand_served (s : State) (b : BandPkt) : SendsKept s (s.acceptBand b) ∧ (s.acceptBand b).out = s.out ∧
    ∀ q, (s.acceptBand b).rd (R.COIL.CNT_UNDELIVERABLE q) = s.rd (R.COIL.CNT_UNDELIVERABLE q) := by
  refine ⟨frame_acceptBand sendsKeptFrame (fun _ _ => .of_eq rfl rfl) (fun _ _ => rfl) rfl s b, ?_, fun q => ?_⟩
  · exact frame_acceptBand (partFrame (F := State.out) fun _ _ _ => rfl) (fun _ _ => rfl) (fun _ _ => rfl) rfl s b
  · have h : Stays (fun _ : State => ()) [R.COIL.CNT_UNDELIVERABLE q] s (s.acceptBand b) := by
      refine frame_acceptBand (staysFrame (fun _ _ _ => rfl) _) (fun _ _ => .other rfl rfl) (fun f hf => ?_) (DramFrames.quiet_of_off rfl _) s b
      simp only [bandFields, List.mem_cons, List.not_mem_nil, or_false] at hf
      rcases hf with rfl | rfl | rfl | rfl | rfl | rfl <;> exact DramFrames.apart_of_off rfl
    exact h.rd _ List.mem_cons_self

/-- A band on the upstream port goes to the children that it touches. -/
theorem band_served {port : Nat} {b : BandPkt} {s : State} (hhub : s.isHub = true) (hp : port < 2) (hid : s.hasId = true)
    (hdest : b.dest = s.lv R.GLB.NODE_ID) (hup : s.isUp port = true) (hu : s.red.upstream = some port) :
    Completes (.hubBandReceive port b) s (fun t =>
      (s.lvB R.TIL.EN = false → t = { s with regs := t.regs, evt := t.evt, coil := t.coil, out := t.out }) ∧
      (∀ k ∈ s.kids, (b.segs.filter (touches k b.bandNo)) ≠ [] → s.canSend k.port = true →
        Sends t k.port (.band k.port { b with dest := k.node, segs := b.segs.filter (touches k b.bandNo) })) ∧
      (∀ k ∈ s.kids, (b.segs.filter (touches k b.bandNo)) ≠ [] → s.canSend k.port = false →
        min (s.rd (R.COIL.CNT_UNDELIVERABLE k.port) + 1) 0xFFFFFFFF ≤ t.rd (R.COIL.CNT_UNDELIVERABLE k.port)) ∧
      (∀ o ∈ t.out, ∃ k ∈ s.kids, o = .band k.port { b with dest := k.node, segs := b.segs.filter (touches k b.bandNo) })) := by
  have hguard : (s.isHub && decide (port < 2) && s.isUp port && s.hasId && b.dest == s.lv R.GLB.NODE_ID) = true := by
    rw [hhub, hup, hid, hdest, decide_eq_true hp, beq_self_eq_true]
    rfl
  obtain ⟨hserving, hserved⟩ := kids_served (s := s.start) hp b rfl
  let u : State := s.start.each s.start.kids (kidStep port b)
  have hfx := hubBandFx_eq (s := s.start) hu b
  refine ⟨_, rfl, ?_⟩
  rw [cond_of (b := _ && b.dest == s.lv R.GLB.NODE_ID) hguard, hfx]
  have hlast (c : Bool) (b' : BandPkt) : SendsKept u (u.cond c (fun t => t.acceptBand b')) ∧ (u.cond c (fun t => t.acceptBand b')).out = u.out ∧
      ∀ q, (u.cond c (fun t => t.acceptBand b')).rd (R.COIL.CNT_UNDELIVERABLE q) = u.rd (R.COIL.CNT_UNDELIVERABLE q) := by
    cases c
    · exact ⟨sendsKeptFrame.refl u, rfl, fun _ => rfl⟩
    · exact acceptBand_served u b'
  obtain ⟨hkept, hout, hcnt⟩ := hlast (b.crcOk && u.lvB R.TIL.EN && !(ownSegs u b).isEmpty) { b with segs := ownSegs u b }
  refine ⟨fun hen => ?_, fun k hk hne hcan => hkept.sends ((hserved k hk).sent hne hcan), fun k hk hne hcan => ?_, fun o ho => ?_⟩
  · have huen : u.lvB R.TIL.EN = false := by
      have hrd : u.rd R.TIL.EN.live = s.rd R.TIL.EN.live := hserving.way.rd _ (by decide)
      rw [← hen]
      exact congrArg (· != 0) hrd
    rw [cond_of_not (b := b.crcOk && u.lvB R.TIL.EN && !(ownSegs u b).isEmpty) (by rw [huen, Bool.and_false]; rfl)]
    exact eq_of_besides hserving.way.part
  · exact ((hserved k hk).counted hne hcan).trans (Nat.le_of_eq (hcnt _).symm)
  · exact hserving.outs o (hout ▸ ho)

/-! The reports of the children. -/

theorem mem_putReport (r : Report) (rs : List Report) : r ∈ putReport r rs := by
  induction rs with
  | nil => exact List.mem_cons_self
  | cons q qs ih =>
    unfold putReport
    split
    · exact List.mem_cons_self
    · exact List.mem_cons_of_mem _ ih

theorem mem_putReport_other {r q : Report} {rs : List Report} (h : q ∈ rs) (hne : q.node ≠ r.node) : q ∈ putReport r rs := by
  induction rs with
  | nil => exact absurd h List.not_mem_nil
  | cons x xs ih =>
    unfold putReport
    rcases List.mem_cons.mp h with rfl | hin
    · rw [if_neg hne]
      exact List.mem_cons_self
    · split
      · exact List.mem_cons_of_mem _ hin
      · exact List.mem_cons_of_mem _ (ih hin)

/-- A device is noted in its class. -/
theorem putClass_notes (cls key count first : Nat) (cs : List SubClass) :
    ∃ c ∈ putClass cls key true count first cs, c.cls = cls ∧ ∃ n ∈ c.nodes, n.1 = key := by
  induction cs with
  | nil => exact ⟨_, List.mem_cons_self, rfl, (key, count), List.mem_cons_self, rfl⟩
  | cons c cs ih =>
    unfold putClass
    by_cases hc : c.cls = cls
    · rw [if_pos hc, Bool.true_and]
      split
      · next hany =>
        obtain ⟨n, hn, hkey⟩ := List.any_eq_true.mp hany
        exact ⟨c, List.mem_cons_self, hc, n, hn, beq_iff_eq.mp hkey⟩
      · exact ⟨_, List.mem_cons_self, hc, (key, count), List.mem_append_right _ List.mem_cons_self, rfl⟩
    · rw [if_neg hc]
      obtain ⟨c', hc', hrest⟩ := ih
      exact ⟨c', List.mem_cons_of_mem _ hc', hrest⟩

/-- A subtree entry is noted with the count that it carries. -/
theorem putClass_adds (cls key count first : Nat) (cs : List SubClass) :
    ∃ c ∈ putClass cls key false count first cs, c.cls = cls ∧ (key, count) ∈ c.nodes := by
  induction cs with
  | nil => exact ⟨_, List.mem_cons_self, rfl, List.mem_cons_self⟩
  | cons c cs ih =>
    unfold putClass
    by_cases hc : c.cls = cls
    · rw [if_pos hc]
      exact ⟨_, List.mem_cons_self, hc, List.mem_append_right _ List.mem_cons_self⟩
    · rw [if_neg hc]
      obtain ⟨c', hc', hrest⟩ := ih
      exact ⟨c', List.mem_cons_of_mem _ hc', hrest⟩

/-- The classes with an entry of a subtree's EVENT noted. -/
def notedClasses (src : Nat) (e : EvtEntry) (cs : List SubClass) : List SubClass :=
  if e.subtree then putClass e.page (src + 16384) false (e.bits % 65536) (e.bits / 65536 % 16384) cs else putClass (pageType e.page) src true 1 src cs

/-- The state in which an entry of a subtree's EVENT is noted. -/
def entryNoted (src : Nat) (e : EvtEntry) (s : State) : State := { s with hub := { s.hub with classes := notedClasses src e s.hub.classes } }

theorem hubEventFx_one (src : Nat) (e : EvtEntry) (s : State) : hubEventFx src [e] s = entryNoted src e s := rfl

theorem subcoil_arrives {s : State} {port : Nat} (hhub : s.isHub = true) (hp : port ∈ s.subPorts) (hup : s.isUp port = true) (u : State) (f : State → State) :
    u.cond (s.isHub && s.subPorts.contains port && s.isUp port) f = f u :=
  cond_of (by rw [hhub, hup, List.contains_iff_mem.mpr hp]; rfl) u f

/-- Settles O27: serving one child leaves the way of every other and raises counts alone, so each is served as the state before says. -/
theorem hubsServeTheirChildren : Obligations.HubsServeTheirChildren := by
  unfold Obligations.HubsServeTheirChildren
  refine ⟨fun port b s hhub hp hid hdest hup hu => band_served hhub hp hid hdest hup hu, ?_, ?_, ?_⟩
  · intro port u b s hhub hp hid hdest hup hu hne
    have hguard : (s.isHub && decide (port < 2) && s.isUp port && s.hasId && b.dest == s.lv R.GLB.NODE_ID) = true := by
      rw [hhub, hup, hid, hdest, decide_eq_true hp, beq_self_eq_true]
      rfl
    have hoff : s.start.red.upstream ≠ some port := by
      rw [show s.start.red.upstream = some u from hu]
      exact fun h => hne (Option.some.inj h)
    have hfx : hubBandReceiveFx port b s.start = s.start.inc (R.COIL.CNT_WRONG_SIDE port) := by
      unfold hubBandReceiveFx
      rw [if_pos hoff, cond_of (by rw [show s.start.red.upstream = some u from hu]; rfl)]
    refine ⟨_, rfl, ?_⟩
    rw [cond_of (b := _ && b.dest == s.lv R.GLB.NODE_ID) hguard, hfx]
    exact ⟨onlyRegs_trans (onlyRegs_start s) (onlyRegs_inc _ _), wr_out _ _ _, counted_inc s.start rfl rfl, wordsKept_inc s.start (Nat.le_refl _)⟩
  · intro port src b s hhub hp hup
    refine ⟨_, rfl, ?_⟩
    rw [subcoil_arrives hhub hp hup]
    exact ⟨rfl, mem_putReport _ _, fun r hr hne => mem_putReport_other hr hne⟩
  · intro port src e s hhub hp hup
    refine ⟨_, rfl, ?_⟩
    rw [subcoil_arrives hhub hp hup, hubEventFx_one]
    refine ⟨rfl, fun hsub => ?_, fun hsub => ?_⟩
    · unfold entryNoted notedClasses
      simp only [hsub, Bool.false_eq_true, if_false]
      exact putClass_notes _ _ _ _ _
    · unfold entryNoted notedClasses
      simp only [hsub, if_true]
      exact putClass_adds _ _ _ _ _

end Sys2Proof.Proofs.Hubs


/-!
The host's reads and writes of DRAM (14 R381 to R383, R385, R388, R391, R392; 16 R410).
-/

namespace Sys2Proof.Proofs.HostDram
open Sys2Proof.Machine Sys2Proof.Laws Sys2Proof.Proofs.Frames Sys2Proof.Proofs.FieldRules Sys2Proof.Proofs.Framing Sys2Proof.Proofs.CoilFrames
  Sys2Proof.Proofs.DramFrames

/-! The lines of an access. -/

theorem lineParts_zero (fuel a : Nat) : lineParts fuel a 0 = [] := by cases fuel <;> rfl

theorem lineParts_succ (fuel a : Nat) {n : Nat} (hn : n ≠ 0) :
    lineParts (fuel + 1) a n = (a / 64, a, min n (64 - a % 64)) :: lineParts fuel (a + min n (64 - a % 64)) (n - min n (64 - a % 64)) := if_neg hn

/-- The fuel is enough after a part. -/
theorem fuel_rest {fuel a n : Nat} (hf : a % 64 + n ≤ 64 * (fuel + 1)) :
    n - min n (64 - a % 64) = 0 ∨ (a + min n (64 - a % 64)) % 64 + (n - min n (64 - a % 64)) ≤ 64 * fuel := by omega

theorem fuel_linesOf (a n : Nat) : a % 64 + n ≤ 64 * (n / 64 + 2) := by omega

/-- A part lies in its line. -/
theorem line_of_mem {fuel : Nat} : ∀ {a n : Nat} {p : Nat × Nat × Nat}, p ∈ lineParts fuel a n → p.1 = p.2.1 / 64 := by
  induction fuel with
  | zero => intro a n p h; exact absurd h List.not_mem_nil
  | succ fuel ih =>
    intro a n p h
    by_cases hn : n = 0
    · rw [hn, lineParts_zero] at h
      exact absurd h List.not_mem_nil
    · rw [lineParts_succ fuel a hn] at h
      rcases List.mem_cons.mp h with rfl | h
      · rfl
      · exact ih h

/-- Every line that an access touches has its part. -/
theorem mem_line {fuel : Nat} : ∀ {a n e : Nat}, a % 64 + n ≤ 64 * fuel → 0 < n → a / 64 ≤ e → e ≤ (a + n - 1) / 64 →
    ∃ p ∈ lineParts fuel a n, p.1 = e := by
  induction fuel with
  | zero => intro a n e hf hn _ _; omega
  | succ fuel ih =>
    intro a n e hf hn hlo hhi
    rw [lineParts_succ fuel a (by omega)]
    rcases Nat.eq_or_lt_of_le hlo with heq | hlt
    · exact ⟨_, List.mem_cons_self, heq⟩
    · have hrest : n - min n (64 - a % 64) ≠ 0 := by omega
      obtain ⟨p, hp, he⟩ := ih (a := a + min n (64 - a % 64)) (n := n - min n (64 - a % 64)) (e := e)
        ((fuel_rest hf).resolve_left hrest) (by omega) (by omega) (by omega)
      exact ⟨p, List.mem_cons_of_mem _ hp, he⟩

/-! A write. -/

/-- The parts of the state that a write leaves, with the content of DRAM. -/
def storeParts (s : State) : Role × MramSt × List (Nat × Word32) × List Host.Cell × Nat := (s.role, s.mram, s.tabs, s.drm.mem, s.drm.chans)

/-- The FAULT flags of the channels. -/
def faultFields : List Fld := (List.range 4).map R.DRM.st_FAULT

theorem storeDram : DramRel (Stays storeParts faultFields) (apartFrom faultFields) (quietFor faultFields) :=
  staysDram (fun _ _ _ => rfl) (fun _ _ _ => rfl) (fun _ _ => rfl)
    (fun s d h => by unfold storeParts; rw [show ({ s with drm := d } : State).drm = d from rfl, h.mem, h.chans]) (by decide)

/-- No channel is in FAULT. -/
def NoFault (s : State) : Prop := ∀ c, c < 4 → s.flag (R.DRM.st_FAULT c) = false

theorem NoFault.stays {s t : State} {β : Type} {F : State → β} (h : Stays F faultFields s t) (hs : NoFault s) : NoFault t := fun c hc =>
  (congrArg (· != 0) (h.rd (R.DRM.st_FAULT c) (List.mem_map.mpr ⟨c, List.mem_range.mpr hc, rfl⟩))).trans (hs c hc)

theorem dramCh_lt {chans : Nat} (h : chans ≤ 4) (a : Nat) : dramCh chans a < 4 := by
  unfold dramCh
  split
  · omega
  · exact (Nat.mod_lt _ (by omega)).trans_le h

/-- What a byte of DRAM reads after data were stored from an offset on. -/
def storedByte (mem : List Host.Cell) (off : Nat) (data : List Byte) (lo n x : Nat) : Byte :=
  if lo ≤ x ∧ x < lo + n then data.getD (x - off) 0 else dramByte mem x

/-- The bytes of a part land where they belong. -/
theorem storePart_stores {s : State} (hc : s.drm.chans ≤ 4) (hf : NoFault s) {off a k : Nat} {data : List Byte} (ha : off ≤ a) (hk : a + k ≤ off + data.length)
    (line : Nat) : (∀ x, dramByte (s.storePart off data (line, a, k)).drm.mem x = storedByte s.drm.mem off data a k x) ∧
      (s.storePart off data (line, a, k)).role = s.role ∧ (s.storePart off data (line, a, k)).mram = s.mram ∧
      (s.storePart off data (line, a, k)).tabs = s.tabs ∧ (s.storePart off data (line, a, k)).drm.chans = s.drm.chans ∧
      NoFault (s.storePart off data (line, a, k)) := by
  have hnf : s.flag (R.DRM.st_FAULT (dramCh s.drm.chans a)) = false := hf _ (dramCh_lt hc a)
  unfold State.storePart
  simp only [hnf, Bool.false_eq_true, if_false]
  refine ⟨fun x => ?_, trivial, trivial, trivial, trivial, hf⟩
  unfold dramByte storedByte
  rw [smGet_setMany]
  have hlen : ((data.drop (a - off)).take k).length = k := by rw [List.length_take, List.length_drop]; omega
  by_cases hx : a ≤ x ∧ x < a + k
  · have hin : a ≤ x ∧ x - a < ((data.drop (a - off)).take k).length := by omega
    rw [dif_pos hin, if_pos hx, List.getElem_take, List.getElem_drop, List.getD_eq_getElem _ _ (by omega)]
    congr 1
    omega
  · rw [dif_neg (by omega), if_neg hx]
    rfl

/-- The state after the parts of a write. -/
def partsStored (s : State) (off : Nat) (data : List Byte) (ps : List (Nat × Nat × Nat)) : State :=
  s.each ps (fun s p => (s.storePart off data p).writePart p)

/-- A write changes the bytes that it covers, and no other. -/
theorem partsStored_stores {fuel off : Nat} {data : List Byte} : ∀ {a n : Nat} {s : State}, s.drm.chans ≤ 4 → NoFault s → off ≤ a →
    a + n ≤ off + data.length → (n = 0 ∨ a % 64 + n ≤ 64 * fuel) →
    (∀ x, dramByte (partsStored s off data (lineParts fuel a n)).drm.mem x = storedByte s.drm.mem off data a n x) ∧
      (partsStored s off data (lineParts fuel a n)).role = s.role ∧ (partsStored s off data (lineParts fuel a n)).mram = s.mram ∧
      (partsStored s off data (lineParts fuel a n)).tabs = s.tabs := by
  induction fuel with
  | zero =>
    intro a n s _ _ _ _ hn
    have h0 : n = 0 := by omega
    subst h0
    exact ⟨fun x => by unfold storedByte; rw [if_neg (by omega)]; rfl, rfl, rfl, rfl⟩
  | succ fuel ih =>
    intro a n s hc hf ha hlen hfuel
    by_cases hn : n = 0
    · subst hn
      rw [lineParts_zero]
      exact ⟨fun x => by unfold storedByte; rw [if_neg (by omega)]; rfl, rfl, rfl, rfl⟩
    · let k : Nat := min n (64 - a % 64)
      have hk : k ≤ n := Nat.min_le_left _ _
      obtain ⟨hmem, hrole, hmram, htabs, hchans, hnf⟩ := storePart_stores hc hf ha (show a + k ≤ off + data.length by omega) (a / 64)
      let u : State := s.storePart off data (a / 64, a, k)
      have hw : Stays storeParts faultFields u (u.writePart (a / 64, a, k)) := frame_writePart storeDram u _
      have hparts := hw.part
      unfold storeParts at hparts
      simp only [Prod.mk.injEq] at hparts
      obtain ⟨hrole', hmram', htabs', hmem', hchans'⟩ := hparts
      obtain ⟨g1, g2, g3, g4⟩ := ih (a := a + k) (n := n - k) (s := u.writePart (a / 64, a, k)) (by rw [hchans', hchans]; exact hc) (NoFault.stays hw hnf)
        (by omega) (by omega) (fuel_rest (hfuel.resolve_left hn))
      rw [lineParts_succ fuel a hn]
      refine ⟨fun x => (g1 x).trans ?_, g2.trans (hrole'.trans hrole), g3.trans (hmram'.trans hmram), g4.trans (htabs'.trans htabs)⟩
      unfold storedByte
      rw [hmem']
      by_cases h1 : a + k ≤ x ∧ x < a + k + (n - k)
      · rw [if_pos h1, if_pos (by omega)]
      · rw [if_neg h1, hmem x]
        unfold storedByte
        by_cases h2 : a ≤ x ∧ x < a + k
        · rw [if_pos h2, if_pos (by omega)]
        · rw [if_neg h2, if_neg (by omega)]

/-- Data stored in range. -/
theorem dramStore_stores {s : State} {off : Nat} {data : List Byte} (hr : s.outOfRange off data.length = false) (hc : s.drm.chans ≤ 4) (hf : NoFault s) :
    (∀ x, dramByte (s.dramStore off data).drm.mem x = storedByte s.drm.mem off data off data.length x) ∧
      (s.dramStore off data).role = s.role ∧ (s.dramStore off data).mram = s.mram ∧ (s.dramStore off data).tabs = s.tabs := by
  unfold State.dramStore
  by_cases hd : data.isEmpty = true
  · have hnil : data = [] := List.isEmpty_iff.mp hd
    subst hnil
    rw [if_pos hd]
    refine ⟨fun x => ?_, rfl, rfl, rfl⟩
    unfold storedByte
    rw [List.length_nil, if_neg (by omega)]
  · rw [if_neg hd, hr]
    exact partsStored_stores hc hf (Nat.le_refl _) (Nat.le_refl _) (.inr (fuel_linesOf _ _))

/-- Registers and events have no part in it. -/
theorem partsFrame : Frame (fun s t => storeParts t = storeParts s) (fun _ => true) (fun _ => true) := partFrame fun _ _ _ => rfl

theorem suspect_parts (s : State) (n : Nat) : storeParts (s.suspect n) = storeParts s := by
  unfold State.suspect
  refine partsFrame.cond fun _ => partsFrame.trans (partsFrame.wr s _ rfl) (partsFrame.incRaise _ rfl rfl (show 1 < 32 by decide))

theorem setSagFlag_parts (s : State) (k i : Nat) (b : Bool) : storeParts (s.setSagFlag k i b) = storeParts s := rfl

theorem showAction_parts (s : State) (k : Nat) : storeParts (s.showAction k) = storeParts s := by
  have h := partsFrame
  unfold State.showAction
  refine h.trans (h.trans ?_ (h.cond fun _ => h.raise _ rfl (by decide))) (h.level _ _ rfl (by decide))
  exact h.trans (h.wr s _ rfl) (setSagFlag_parts _ _ _ _)

theorem trip_parts (s : State) (ks : List Nat) (suspect : Bool) (counted : List Nat) : storeParts (s.trip ks suspect counted) = storeParts s := by
  have h := partsFrame
  refine h.each fun t k _ => ?_
  have hcount : storeParts (t.cond (!counted.contains k) (fun s => s.incRaise R.SAG.CNT_TRIP R.SAG.ev_TRIP)) = storeParts t :=
    h.cond fun _ => h.incRaise t rfl rfl (by decide)
  exact (showAction_parts _ k).trans hcount

theorem violate_parts (s : State) (off n : Nat) : storeParts (s.violate off n).1 = storeParts s := by
  have h := partsFrame
  unfold State.violate
  simp only
  split
  · rfl
  · next w _ =>
    have hshown : storeParts ((((s.incRaise R.LSE.CNT_VIOLATION R.LSE.ev_LEASE_VIOLATION).wr R.LSE.VIOL_WIN (4 * w.1 + w.2)).wr R.LSE.VIOL_ADDR off).wr
        R.LSE.VIOL_EPOCH (s.epoch % 2 ^ 32)) = storeParts s :=
      h.trans (h.trans (h.trans (h.incRaise s rfl rfl (by decide)) (h.wr _ _ rfl)) (h.wr _ _ rfl)) (h.wr _ _ rfl)
    have hmarked (t : State) (ws : List (Nat × Nat)) : storeParts (t.each ws (fun s w =>
        s.modLayer w.1 (fun l => { l with marked := if l.marked.contains w.2 then l.marked else w.2 :: l.marked }))) = storeParts t :=
      h.each fun u w _ => rfl
    have hsus (t : State) (ns : List Nat) : storeParts (t.each ns (fun s n => s.suspect n)) = storeParts t := h.each fun u k _ => suspect_parts u k
    exact (hsus _ _).trans ((hmarked _ _).trans hshown)

/-- What a write to armed windows shows leaves the content. -/
theorem bar4WriteFx_parts {s : State} {off : Nat} {data : List Byte} (hr : s.outOfRange off data.length = false) :
    storeParts (bar4WriteFx off data s) = storeParts (s.dramStore off data) := by
  unfold bar4WriteFx
  rw [hr]
  exact (trip_parts _ _ _ _).trans (violate_parts _ _ _)

/-! A read. -/

/-- The outputs, the content and the poison. -/
def readPartsOf (s : State) : List Output × List Host.Cell × List Nat × Nat := (s.out, s.drm.mem, s.drm.poison, s.drm.chans)

abbrev CalmStays : State → State → Prop := Stays readPartsOf faultFields

theorem calmFrame : Frame CalmStays (apartFrom faultFields) (quietFor faultFields) := staysFrame (fun _ _ _ => rfl) _

theorem calm_modCh (s : State) (c : Nat) (f : ChSt → ChSt) : CalmStays s (s.modCh c f) := .other rfl rfl

theorem chPage_calm (c : Nat) : quietFor faultFields (0x0E0 + c) = true := quiet_of_off rfl _

/-- Single-bit errors found in a line poison nothing. -/
theorem calm_noteErrs {s : State} {errs : List (Nat × Nat)} (he : ∀ e ∈ errs, e.2 ≤ 1) (line : Nat) : CalmStays s (s.noteErrs errs line) := by
  have hbad : (errs.filter (fun e => e.1 / 8 == line)).filter (fun e => decide (2 ≤ e.2)) = [] := by
    rw [List.filter_eq_nil_iff]
    intro e hin
    have := he e (List.mem_of_mem_filter hin)
    simp only [decide_eq_true_eq]
    omega
  refine .other ?_ rfl
  unfold readPartsOf State.noteErrs
  simp only [hbad, List.map_nil, List.filter_nil, List.append_nil]

theorem linePoisoned_nil (line : Nat) : linePoisoned [] line = false := rfl

theorem corrected_calm (s : State) (b : Bool) (c n : Nat) :
    CalmStays s (s.cond b (fun s => (s.incBy (R.DRM.CNT_CE c) n).raise (R.DRM.ev_CE c))) :=
  calmFrame.cond fun _ => calmFrame.trans (calmFrame.incBy s _ (apart_of_off rfl)) (calmFrame.raise _ (chPage_calm c) (show 0 < 32 by decide))

theorem CalmStays.poison_eq {s t : State} (h : CalmStays s t) : t.drm.poison = s.drm.poison := congrArg (fun x => x.2.2.1) h.part

theorem CalmStays.poison {s t : State} (h : CalmStays s t) (hp : s.drm.poison = []) : t.drm.poison = [] :=
  h.poison_eq.trans hp

theorem checkLine_calm {s : State} (hp : s.drm.poison = []) (c line : Nat) : CalmStays s (s.checkLine c line).1 ∧ (s.checkLine c line).2 = false := by
  have hcorr := corrected_calm s ((s.weakWords line).length != 0) c (s.weakWords line).length
  unfold State.checkLine
  simp only [hcorr.poison hp, linePoisoned_nil, Bool.false_eq_true, if_false]
  exact ⟨hcorr, trivial⟩

/-- The read of a part in sound memory. -/
theorem readPart_calm {s : State} (hp : s.drm.poison = []) (hc : s.drm.chans ≤ 4) (hf : NoFault s) {errs : List (Nat × Nat)} (he : ∀ e ∈ errs, e.2 ≤ 1)
    (p : Nat × Nat × Nat) : CalmStays s (s.readPart errs p).1 ∧ (s.readPart errs p).2 = false := by
  have hnf : s.flag (R.DRM.st_FAULT (dramCh s.drm.chans p.2.1)) = false := hf _ (dramCh_lt hc _)
  have hcheck {t : State} (ht : CalmStays s t) (c : Nat) :
      CalmStays s ((t.noteErrs errs p.1).checkLine c p.1).1 ∧ ((t.noteErrs errs p.1).checkLine c p.1).2 = false := by
    have hn : CalmStays s (t.noteErrs errs p.1) := calmFrame.trans ht (calm_noteErrs he _)
    obtain ⟨h1, h2⟩ := checkLine_calm (hn.poison hp) c p.1
    exact ⟨calmFrame.trans hn h1, h2⟩
  unfold State.readPart
  simp only [hnf, Bool.false_eq_true, if_false]
  split
  · split
    · refine ⟨calmFrame.inc s (f := R.DRM.CNT_FWD (dramCh s.drm.chans p.2.1)) (apart_of_off rfl), ?_⟩
      rw [hp]
      rfl
    · exact hcheck (calmFrame.trans (frame_issueWrite calmFrame (fun t c f _ => calm_modCh t c f) s _ _) (calm_modCh _ _ _)) _
  · exact hcheck (calm_modCh s _ _) _

theorem readParts_calm {errs : List (Nat × Nat)} (he : ∀ e ∈ errs, e.2 ≤ 1) (ps : List (Nat × Nat × Nat)) : ∀ {s : State}, s.drm.poison = [] →
    s.drm.chans ≤ 4 → NoFault s → CalmStays s (s.readParts errs ps).1 ∧ (s.readParts errs ps).2 = false := by
  induction ps with
  | nil => exact fun {s} _ _ _ => ⟨calmFrame.refl s, rfl⟩
  | cons p ps ih =>
    intro s hp hc hf
    obtain ⟨h1, h2⟩ := readPart_calm hp hc hf he p
    have hchans : (s.readPart errs p).1.drm.chans ≤ 4 := by
      rw [show (s.readPart errs p).1.drm.chans = s.drm.chans from congrArg (fun x => x.2.2.2) h1.part]
      exact hc
    obtain ⟨g1, g2⟩ := ih (h1.poison hp) hchans (hf.stays h1)
    unfold State.readParts
    simp only [h2, g2]
    exact ⟨calmFrame.trans h1 g1, rfl⟩

/-- A read completes with its bytes, or poisoned. -/
theorem hostReadNow_eq {s : State} {off len : Nat} {errs : List (Nat × Nat)} {bad : Bool} (h : (s.readParts errs (linesOf off len)).2 = bad) :
    s.hostReadNow ⟨off, len, errs⟩ =
      (s.readParts errs (linesOf off len)).1.emit (.hostRead (if bad then [] else s.dramBytes off len) bad) := by
  rw [← h]
  rfl

/-- What an access in range means: DRAM ends at the installed capacity, which holds it. -/
theorem dramEnd_of_inRange {s : State} {a n : Nat} (h : s.outOfRange a n = false) : s.dramEnd = s.installed ∧ a + n ≤ s.installed := by
  unfold State.outOfRange at h
  rw [Bool.or_eq_false_iff, Bool.or_eq_false_iff, decide_eq_false_iff_not, List.any_eq_false] at h
  obtain ⟨⟨hlen, hready⟩, -⟩ := h
  have hall : s.channels.all s.chReady = true := List.all_eq_true.mpr fun c hc => by simpa using hready c hc
  exact ⟨by unfold State.dramEnd; rw [hall]; rfl, by omega⟩

/-- Sound memory reads as its bytes are. -/
theorem dramBytes_sound {s : State} {a n : Nat} (hr : s.outOfRange a n = false) (hc : s.drm.chans ≤ 4) (hf : NoFault s) (hp : s.drm.poison = []) :
    s.dramBytes a n = (List.range n).map (fun i => dramByte s.drm.mem (a + i)) := by
  obtain ⟨hend, hlen⟩ := dramEnd_of_inRange hr
  have hsound : s.soundDram = true := by
    unfold State.soundDram
    rw [hp, Bool.and_eq_true, List.all_eq_true]
    refine ⟨rfl, fun c hin => ?_⟩
    rw [hf c ((List.mem_range.mp hin).trans_le hc)]
    rfl
  unfold State.dramBytes State.unsoundParts
  rw [hsound, hend]
  refine List.map_congr_left fun i hi => if_pos ?_
  have := List.mem_range.mp hi
  exact ⟨by omega, .inl rfl⟩

/-! A read that finds an uncorrectable word. -/

/-- No write waits in a queue. -/
def NoWrites (s : State) : Prop := ∀ c, (s.chSt c).wq = []

/-- Queues that are empty stay so. -/
def QueuesFree (s t : State) : Prop := NoWrites s → NoWrites t

theorem queuesFrame : Frame QueuesFree (fun _ => true) (fun _ => true) where
  refl _ h := h
  trans h h' hs := h' (h hs)
  wr s f v _ h c := by have := h c; unfold State.chSt at *; rw [wr_drm]; exact this
  raise s e _ _ h c := by have := h c; unfold State.chSt at *; rw [raise_drm]; exact this
  level s e b _ _ h c := by have := h c; unfold State.chSt at *; rw [level_drm]; exact this

theorem queues_modCh (s : State) (c : Nat) {f : ChSt → ChSt} (hf : ∀ x, (f x).wq = x.wq) : QueuesFree s (s.modCh c f) := by
  intro h q
  by_cases hq : q = c
  · rw [hq]
    exact (congrArg ChSt.wq (smGet_set_same _ _ _ _)).trans ((hf _).trans (h c))
  · exact (congrArg ChSt.wq (smGet_set_other _ _ _ hq)).trans (h q)

theorem queues_ueRead (s : State) (c a : Nat) : QueuesFree s (s.ueRead c a) := by
  have h := queuesFrame
  have hrate (t : State) : QueuesFree t t.ueRate := h.trans (h.level t _ rfl (by decide))
    (h.cond fun _ => frame_ground h (fun _ _ _ hs => hs) (fun _ _ hs => hs) (fun _ _ => rfl) rfl _ _)
  unfold State.ueRead
  refine h.trans (h.trans (h.trans (h.trans (h.incRaise s rfl rfl (show 1 < 32 by decide)) (h.wr _ _ rfl)) (queues_modCh _ c ?_)) (h.wr _ _ rfl)) (hrate _)
  exact fun _ => rfl

theorem queues_checkLine (s : State) (c line : Nat) : QueuesFree s (s.checkLine c line).1 := by
  have h := queuesFrame
  have hcorr : QueuesFree s (s.cond ((s.weakWords line).length != 0) (fun s => (s.incBy (R.DRM.CNT_CE c) (s.weakWords line).length).raise (R.DRM.ev_CE c))) :=
    h.cond fun _ => h.trans (h.incBy s _ rfl) (h.raise _ rfl (show 0 < 32 by decide))
  unfold State.checkLine
  simp only
  split
  · exact h.trans hcorr (queues_ueRead _ _ _)
  · exact hcorr

/-- With empty queues a part is read from DRAM itself, or in a faulted channel poisoned. -/
theorem readPart_noWrites {s : State} (h : NoWrites s) (errs : List (Nat × Nat)) (p : Nat × Nat × Nat) :
    s.readPart errs p = (if s.flag (R.DRM.st_FAULT (dramCh s.drm.chans p.2.1)) then (s.ueRead (dramCh s.drm.chans p.2.1) (64 * p.1), true)
      else ((s.useLine (dramCh s.drm.chans p.2.1) p.1 false).noteErrs errs p.1).checkLine (dramCh s.drm.chans p.2.1) p.1) := by
  unfold State.readPart
  simp only [h (dramCh s.drm.chans p.2.1), List.find?_nil]

theorem queues_readPart {s : State} (h : NoWrites s) (errs : List (Nat × Nat)) (p : Nat × Nat × Nat) : NoWrites (s.readPart errs p).1 := by
  rw [readPart_noWrites h]
  split
  · exact queues_ueRead s _ _ h
  · have huse : NoWrites (s.useLine (dramCh s.drm.chans p.2.1) p.1 false) := queues_modCh s _ (fun _ => rfl) h
    have hnote : NoWrites ((s.useLine (dramCh s.drm.chans p.2.1) p.1 false).noteErrs errs p.1) := huse
    exact queues_checkLine _ _ _ hnote

/-- An uncorrectable read joins this millisecond's bin. -/
def addBin (r : ChSt) : ChSt := { r with bins := match r.bins with | [] => [1] | b :: bs => (b + 1) :: bs }

/-- What follows the count of an uncorrectable read. -/
def ueTail (s : State) (c a : Nat) : State := (((s.wr (R.DRM.LAST_UE_ADDR c) a).modCh c addBin).showUe c).ueRate

theorem ueRead_eq (s : State) (c a : Nat) : s.ueRead c a = ueTail (s.incRaise (R.DRM.CNT_UE c) (R.DRM.ev_UE c)) c a := rfl

theorem ueTail_stays (s : State) (c a : Nat) : Stays storeParts faultFields s (ueTail s c a) := by
  have d := storeDram
  have hlast := d.ue c (R.DRM.LAST_UE_ADDR c) (by simp [ueFields])
  have hshown := d.ue c (R.DRM.UE_1S c) (by simp [ueFields])
  have hbin (t : State) : Stays storeParts faultFields t (t.modCh c addBin) := frame_modCh d t c fun _ => rfl
  exact d.frame.trans (d.frame.trans (d.frame.trans (d.frame.wr s a hlast) (hbin _)) (d.frame.wr _ _ hshown)) (frame_ueRate d _)

/-- An uncorrectable read raises UE of its channel. -/
theorem pending_ueRead (s : State) (c a : Nat) : Pending (s.ueRead c a) (R.DRM.ev_UE c) := by
  rw [ueRead_eq]
  exact (ueTail_stays _ c a).pend _ (pending_raise _ (show 1 < 32 by decide))

/-- A line with an uncorrectable word reads poisoned. -/
theorem checkLine_poisoned {s : State} {line : Nat} (h : linePoisoned s.drm.poison line = true) (c : Nat) :
    (s.checkLine c line).2 = true ∧ Pending (s.checkLine c line).1 (R.DRM.ev_UE c) := by
  have hsame := (corrected_calm s ((s.weakWords line).length != 0) c (s.weakWords line).length).poison_eq
  unfold State.checkLine
  simp only [hsame, h, if_true]
  exact ⟨trivial, pending_ueRead _ _ _⟩

/-- An uncorrectable word that a read finds in a line poisons it. -/
theorem noteErrs_poisons {s : State} {errs : List (Nat × Nat)} {line : Nat} {x : Nat × Nat} (hx : x ∈ errs) (hline : x.1 / 8 = line) (hbits : 2 ≤ x.2) :
    linePoisoned (s.noteErrs errs line).drm.poison line = true := by
  refine List.any_eq_true.mpr ⟨x.1, ?_, beq_iff_eq.mpr hline⟩
  have hbad : x.1 ∈ ((errs.filter (fun e => e.1 / 8 == line)).filter (fun e => decide (2 ≤ e.2))).map Prod.fst :=
    List.mem_map.mpr ⟨x, List.mem_filter.mpr ⟨List.mem_filter.mpr ⟨hx, beq_iff_eq.mpr hline⟩, decide_eq_true hbits⟩, rfl⟩
  refine List.mem_append.mpr ?_
  by_cases hin : x.1 ∈ s.drm.poison
  · exact .inl hin
  · refine .inr (List.mem_filter.mpr ⟨hbad, ?_⟩)
    simpa using hin

/-- The part of such a line. -/
theorem readPart_poisoned {s : State} (hq : NoWrites s) {errs : List (Nat × Nat)} {p : Nat × Nat × Nat} {x : Nat × Nat} (hx : x ∈ errs)
    (hline : x.1 / 8 = p.1) (hbits : 2 ≤ x.2) (hp : p.1 = p.2.1 / 64) :
    (s.readPart errs p).2 = true ∧ Pending (s.readPart errs p).1 (R.DRM.ev_UE (dramCh s.drm.chans (64 * p.1))) := by
  have hch : dramCh s.drm.chans p.2.1 = dramCh s.drm.chans (64 * p.1) := by
    unfold dramCh
    rw [show p.2.1 / 256 = 64 * p.1 / 256 by omega]
  rw [readPart_noWrites hq, hch]
  split
  · exact ⟨rfl, pending_ueRead _ _ _⟩
  · exact checkLine_poisoned (noteErrs_poisons hx hline hbits) _

/-- A read of parts of which one is poisoned comes back poisoned. -/
theorem readParts_poisoned {errs : List (Nat × Nat)} {x : Nat × Nat} (hx : x ∈ errs) (hbits : 2 ≤ x.2) {ps : List (Nat × Nat × Nat)}
    (hlines : ∀ p ∈ ps, p.1 = p.2.1 / 64) : ∀ {s : State}, NoWrites s → (∃ p ∈ ps, x.1 / 8 = p.1) →
    (s.readParts errs ps).2 = true ∧ Pending (s.readParts errs ps).1 (R.DRM.ev_UE (dramCh s.drm.chans (64 * (x.1 / 8)))) := by
  induction ps with
  | nil => exact fun _ ⟨_, h, _⟩ => absurd h List.not_mem_nil
  | cons p ps ih =>
    intro s hq ⟨q, hq', hline⟩
    have hkept : Stays storeParts faultFields s (s.readPart errs p).1 := frame_readPart storeDram s errs p
    have hchans : (s.readPart errs p).1.drm.chans = s.drm.chans := congrArg (fun x => x.2.2.2.2) hkept.part
    unfold State.readParts
    simp only
    rcases List.mem_cons.mp hq' with rfl | hin
    · obtain ⟨h1, h2⟩ := readPart_poisoned hq hx hline hbits (hlines _ List.mem_cons_self)
      rw [hline, h1]
      exact ⟨rfl, (frame_readParts storeDram _ errs ps).pend _ h2⟩
    · obtain ⟨h1, h2⟩ := ih (fun r hr => hlines r (List.mem_cons_of_mem _ hr)) (queues_readPart hq errs p) ⟨q, hin, hline⟩
      rw [hchans] at h2
      rw [h1, Bool.or_true]
      exact ⟨rfl, h2⟩

theorem noWrites_of_all {s : State} (h : ∀ x ∈ s.drm.ch, x.2.wq = []) : NoWrites s := by
  intro c
  unfold State.chSt
  generalize s.drm.ch = m at h
  induction m with
  | nil => rfl
  | cons x xs ih =>
    unfold smGet
    split
    · exact h x List.mem_cons_self
    · exact ih fun y hy => h y (List.mem_cons_of_mem _ hy)

/-! The commands. -/

theorem running_of_isSender {s : State} (h : s.isSender = true) : s.running = true ∧ s.role = .sender := (isSender_iff s).mp h

/-- A read of a sender whose firmware runs reaches its rule. -/
theorem bar4Read_guard {s : State} (h : s.isSender = true) : (s.role == .sender && s.stateCode != 0) = true := by
  obtain ⟨hrun, hrole⟩ := running_of_isSender h
  have h2 : 2 ≤ s.stateCode := of_decide_eq_true hrun
  rw [hrole, Bool.and_eq_true]
  exact ⟨rfl, by simp only [bne_iff_ne]; omega⟩

/-- What becomes of a read of a sender. -/
theorem bar4ReadFx_cases {s : State} (h : s.isSender = true) (off len : Nat) (errs : List (Nat × Nat)) :
    (s.outOfRange off len = true → bar4ReadFx off len errs s = s.oor.emit (.hostRead (List.replicate len 0) false)) ∧
    (s.outOfRange off len = false → s.drm.reads ≠ [] ∨ s.hostReadWaits ⟨off, len, errs⟩ = true →
      bar4ReadFx off len errs s = { s with drm := { s.drm with reads := s.drm.reads ++ [⟨off, len, errs⟩] } }) ∧
    (s.outOfRange off len = false → s.drm.reads = [] → s.hostReadWaits ⟨off, len, errs⟩ = false →
      bar4ReadFx off len errs s = s.hostReadNow ⟨off, len, errs⟩) := by
  have hrun := (running_of_isSender h).1
  unfold bar4ReadFx
  simp only [hrun, Bool.not_true, Bool.false_eq_true, if_false]
  refine ⟨fun hr => if_pos hr, fun hr hw => ?_, fun hr hreads hw => ?_⟩
  · rw [hr, if_neg Bool.false_ne_true, if_pos]
    rw [Bool.or_eq_true, Bool.not_eq_true']
    rcases hw with hw | hw
    · exact .inl (Bool.eq_false_iff.mpr fun hc => hw (List.isEmpty_iff.mp hc))
    · exact .inr hw
  · rw [hr, hreads, hw]
    rfl

/-- The count and the event of an access out of range. -/
theorem oor_shows (s : State) : OnlyRegs s s.oor ∧ Counted s s.oor (R.DRM.CNT_OOR 0) ∧ Pending s.oor (R.DRM.ev_OOR 0) ∧
    WordsKept s s.oor [(R.DRM.CNT_OOR 0).key, pendKey (R.DRM.ev_OOR 0)] ∧ s.oor.out = s.out := by
  unfold State.oor State.incRaise
  refine ⟨onlyRegs_trans (onlyRegs_inc s _) (onlyRegs_raise _ _), ?_, pending_raise _ (by decide), ?_, ?_⟩
  · exact (rd_raise_sep _ (by decide)).trans (counted_inc s rfl rfl)
  · exact wordsKept_trans (wordsKept_mono (wordsKept_inc s (by decide)) (by simp)) (wordsKept_mono (wordsKept_raise _ _) (by simp [pendKey]))
  · rw [raise_out]
    exact wr_out _ _ _

/-- Settles O39: a write goes part by part over its lines, each storing its bytes; a read leaves the content, and is poisoned exactly through a
    part that is. -/
theorem dramKeepsWhatTheHostWrites : Obligations.DramKeepsWhatTheHostWrites := by
  unfold Obligations.DramKeepsWhatTheHostWrites
  refine ⟨fun off data s hs hr hc hf => ⟨_, rfl, ?_⟩, fun off len e errs s hs hr hlen hreads hw hwq he hbits hlo hhi => ⟨_, rfl, ?_⟩,
    fun off len errs s hs hr hc hreads hw hf hp he => ⟨_, rfl, ?_⟩, fun off len errs s hs hr hw => ⟨_, rfl, ?_⟩,
    fun off data s hs hd hr => ⟨_, rfl, ?_⟩, fun off len errs s hs hr => ⟨_, rfl, ?_⟩, fun off len errs data s hrole hst => ⟨⟨_, rfl, ?_⟩, ⟨_, rfl, ?_⟩⟩⟩
  · have hf' : NoFault s.start := fun c h => hf c (List.mem_range.mpr h)
    obtain ⟨hmem, hrole, hmram, htabs⟩ := dramStore_stores (s := s.start) hr hc hf'
    have hparts := bar4WriteFx_parts (s := s.start) (off := off) (data := data) hr
    unfold storeParts at hparts
    simp only [Prod.mk.injEq] at hparts
    obtain ⟨h1, h2, h3, h4, -⟩ := hparts
    rw [cond_of (b := s.isSender) hs]
    refine ⟨h1.trans hrole, h2.trans hmram, h3.trans htabs, fun a => ?_⟩
    rw [h4]
    exact hmem a
  · obtain ⟨x, hx, hxe⟩ := List.mem_map.mp he
    have hline : ∃ p ∈ linesOf off len, x.1 / 8 = p.1 := by
      obtain ⟨p, hp, hpe⟩ := mem_line (fuel_linesOf off len) hlen hlo hhi
      exact ⟨p, hp, hxe.trans hpe.symm⟩
    obtain ⟨h1, h2⟩ := readParts_poisoned hx (hbits x hx) (fun p hp => line_of_mem hp) (s := s.start) (noWrites_of_all hwq) hline
    have hkept : Stays storeParts faultFields s.start (s.start.readParts errs (linesOf off len)).1 := frame_readParts storeDram _ _ _
    rw [cond_of (b := s.role == .sender && s.stateCode != 0) (bar4Read_guard hs), (bar4ReadFx_cases (s := s.start) hs off len errs).2.2 hr hreads hw]
    rw [hostReadNow_eq h1]
    refine ⟨List.mem_append_right _ List.mem_cons_self, congrArg (fun x => x.2.2.2.1) hkept.part, ?_⟩
    rw [hxe] at h2
    exact h2
  · have hf' : NoFault s.start := fun c h => hf c (List.mem_range.mpr h)
    obtain ⟨h1, h2⟩ := readParts_calm he (linesOf off len) (s := s.start) hp hc hf'
    have hbytes := dramBytes_sound (s := s.start) hr hc hf' hp
    rw [cond_of (b := s.role == .sender && s.stateCode != 0) (bar4Read_guard hs), (bar4ReadFx_cases (s := s.start) hs off len errs).2.2 hr hreads hw]
    rw [hostReadNow_eq h2, hbytes]
    have hparts := h1.part
    unfold readPartsOf at hparts
    simp only [Prod.mk.injEq] at hparts
    obtain ⟨hout, hmem, hpoison, -⟩ := hparts
    refine ⟨?_, hmem, hpoison.trans hp⟩
    show (s.start.readParts errs (linesOf off len)).1.out ++ _ = _
    rw [hout]
    rfl
  · rw [cond_of (b := s.role == .sender && s.stateCode != 0) (bar4Read_guard hs), (bar4ReadFx_cases (s := s.start) hs off len errs).2.1 hr hw]
    rfl
  · obtain ⟨h1, h2, h3, h4, h5⟩ := oor_shows s.start
    have hfx : bar4WriteFx off data s.start = s.start.oor := if_pos hr
    rw [cond_of (b := s.isSender) hs, hfx]
    exact ⟨onlyRegs_trans (onlyRegs_start s) h1, h5, h2, h3, h4⟩
  · obtain ⟨h1, h2, h3, h4, h5⟩ := oor_shows s.start
    rw [cond_of (b := s.role == .sender && s.stateCode != 0) (bar4Read_guard hs), (bar4ReadFx_cases (s := s.start) hs off len errs).1 hr]
    refine ⟨onlyRegs_trans (onlyRegs_start s) (onlyRegs_trans h1 (onlyRegs_emit _ _)), ?_, h2, h3, h4⟩
    show s.start.oor.out ++ _ = _
    rw [h5]
    rfl
  · have hguard : (s.role == .sender && s.stateCode != 0) = true := by rw [hrole, hst]; rfl
    have hrun : s.start.running = false := by unfold State.running; rw [show s.start.stateCode = stBISQUE from hst]; rfl
    have hfx : bar4ReadFx off len errs s.start = s.start.emit (.hostRead (List.replicate len 0) false) := by
      unfold bar4ReadFx
      rw [hrun]
      rfl
    rw [cond_of (b := s.role == .sender && s.stateCode != 0) hguard, hfx]
    rfl
  · have hnot : s.isSender = false := by
      unfold State.isSender State.running
      rw [hst]
      rfl
    rw [cond_of_not (b := s.isSender) hnot]
    rfl

end Sys2Proof.Proofs.HostDram


/-!
THEOREMS. A light-phase run is asked for, timed and aborted (13 R362, R364, R366; 18 R454). Settles O54.
-/

namespace Sys2Proof.Proofs.LightPhase
open Sys2Proof.Machine Sys2Proof.Laws Sys2Proof.Proofs.Frames Sys2Proof.Proofs.FieldRules Sys2Proof.Proofs.Framing

/-- The run that a request asks for. -/
def newRun (s : State) : PhcRun :=
  { e0 := s.firstTick s.time, oldTrim := s.phc.trim, oldResidual := s.phc.residual, refT := none, lightT := none, pairs := [], missed := 0 }

theorem phcGoFx_requests {s : State} (hrun : s.phc.run = none) (hmay : s.phcMay = true) :
    phcGoFx s = { s with phc := { s.phc with run := some (newRun s) } } := by
  unfold phcGoFx
  rw [hrun, hmay]
  rfl

theorem phcGoFx_refuses {s : State} (hrun : s.phc.run = none) (hmay : s.phcMay = false) :
    phcGoFx s = ((s.wr R.PHC.RESULT phREFUSED).inc R.PHC.CNT_FAILED).raise R.PHC.ev_FAILED := by
  unfold phcGoFx
  rw [hrun, hmay]
  rfl

/-- A refused request shows REFUSED and counts as failed. -/
theorem refusal_shows (s : State) : let t := ((s.wr R.PHC.RESULT phREFUSED).inc R.PHC.CNT_FAILED).raise R.PHC.ev_FAILED
    OnlyRegs s t ∧ t.rd R.PHC.RESULT = phREFUSED ∧ Counted s t R.PHC.CNT_FAILED ∧ Pending t R.PHC.ev_FAILED := by
  refine ⟨onlyRegs_trans (onlyRegs_trans (onlyRegs_wr _ _ _) (onlyRegs_inc _ _)) (onlyRegs_raise _ _), ?_, ?_, pending_raise _ (by decide)⟩
  · rw [rd_raise_sep _ (by decide), State.inc, State.incBy, rd_wr_sep _ _ (by decide), rd_wr_own _ _ (by decide)]
    rfl
  · rw [Counted, rd_raise_sep _ (by decide), counted_inc _ rfl rfl, rd_wr_sep _ _ (by decide)]

/-- A stamp taken: the new edge, or the one before. -/
theorem edgeStamp_eq (s : State) (old : Option Int) (t : Int) :
    ∃ x n, s.edgeStamp old t = (some x, { s with free := n }) ∧ (x = t ∨ old = some x) := by
  cases old with
  | none => exact ⟨t, s.free, rfl, .inl rfl⟩
  | some u =>
    cases hb : Config.freeBit s.free with
    | true => exact ⟨t, s.free + 1, by simp [State.edgeStamp, State.freshB, hb], .inl rfl⟩
    | false => exact ⟨u, s.free + 1, by simp [State.edgeStamp, State.freshB, hb], .inr rfl⟩

theorem phaseEdgeFx_light {s : State} {r : PhcRun} {stamp : Int} (hrun : s.phc.run = some r) (hflash : flashFrame r.e0 (s.lv R.PHC.MARKS) s.epoch = true)
    (hwin : s.inEdgeWindow (stamp25 stamp) (s.nominal + s.lv R.PHC.PD_DELAY) = true) :
    phaseEdgeFx true stamp s = { (s.edgeStamp r.lightT (stamp25 stamp)).2 with
      phc := { (s.edgeStamp r.lightT (stamp25 stamp)).2.phc with run := some { r with lightT := (s.edgeStamp r.lightT (stamp25 stamp)).1 } } } := by
  unfold phaseEdgeFx
  simp only [hrun, hflash, hwin, Bool.not_true, Bool.false_eq_true, if_false, if_true]

/-! The end of a run. -/

/-- The fields that the end of a run leaves once they were written. -/
def endFields : List Fld := [R.PHC.RESULT, R.PHC.RUNNING, R.THM.STALE, R.PHC.CNT_FAILED]

abbrev EndStays : State → State → Prop := Stays State.phc endFields

theorem endFrame : Frame EndStays (apartFrom endFields) (quietFor endFields) := staysFrame (fun _ _ _ => rfl) _

theorem showTemps_stays (s : State) : EndStays s s.showTemps := by
  have h := endFrame
  unfold State.showTemps
  refine h.ite (fun _ => h.refl s) fun _ => h.trans ?_ (h.each fun t n hn => ?_)
  · exact h.trans (h.trans (h.wrI s _ (by decide)) (h.wrI _ _ (by decide))) (h.wr _ _ (by decide))
  · have hlt := List.mem_range.mp hn
    refine h.trans (h.wrI t _ ?_) (h.wrB _ _ ?_)
    all_goals interval_cases n <;> decide

/-- The state in which an aborted run has ended, before STALE clears. -/
def abortShown (s : State) (r : PhcRun) : State :=
  let s' := ((s.wr R.PHC.RUNNING 0).wr R.PHC.PHASE 0).wr R.PHC.RESULT phABORTED
  ({ s' with phc := { s'.phc with run := none, trim := r.oldTrim },
             frm := { s'.frm with nextTick := ((s'.frm.nextTick : Int) + trimUnits r.oldTrim - trimUnits s'.phc.trim).toNat } } : State).wrI R.PHC.TRIM r.oldTrim

theorem phcAbortFx_eq {s : State} {r : PhcRun} (h : s.phc.run = some r) :
    phcAbortFx s = ((((abortShown s r).inc R.PHC.CNT_FAILED).raise R.PHC.ev_FAILED).wr R.THM.STALE 0).showTemps := by
  unfold phcAbortFx State.phcEnd
  simp only [h]
  rfl

theorem abortShown_shows (s : State) (r : PhcRun) :
    (abortShown s r).phc = { s.phc with run := none, trim := r.oldTrim } ∧ (abortShown s r).rd R.PHC.RESULT = phABORTED ∧
      (abortShown s r).rd R.PHC.RUNNING = 0 ∧ (abortShown s r).rd R.PHC.CNT_FAILED = s.rd R.PHC.CNT_FAILED := by
  have hphc : (((s.wr R.PHC.RUNNING 0).wr R.PHC.PHASE 0).wr R.PHC.RESULT phABORTED).phc = s.phc := by rw [wr_phc, wr_phc, wr_phc]
  have hrd (f : Fld) (hf : sep f R.PHC.TRIM = true) : (abortShown s r).rd f = (((s.wr R.PHC.RUNNING 0).wr R.PHC.PHASE 0).wr R.PHC.RESULT phABORTED).rd f :=
    (rd_wr_sep _ _ hf).trans (rd_congr (by rfl) f)
  refine ⟨?_, ?_, ?_, ?_⟩
  · unfold abortShown State.wrI
    simp only [wr_phc, hphc]
  · rw [hrd _ (by decide), rd_wr_own _ _ (by decide)]
    rfl
  · rw [hrd _ (by decide), rd_wr_sep _ _ (by decide), rd_wr_sep _ _ (by decide), rd_wr_own _ _ (by decide)]
    rfl
  · rw [hrd _ (by decide), rd_wr_sep _ _ (by decide), rd_wr_sep _ _ (by decide), rd_wr_sep _ _ (by decide)]

/-- An aborted run ends with the trim of before. -/
theorem phcAbortFx_shows {s : State} {r : PhcRun} (h : s.phc.run = some r) :
    (phcAbortFx s).phc = { s.phc with run := none, trim := r.oldTrim } ∧ (phcAbortFx s).rd R.PHC.RESULT = phABORTED ∧
      (phcAbortFx s).rd R.PHC.RUNNING = 0 ∧ (phcAbortFx s).rd R.THM.STALE = 0 ∧ Counted s (phcAbortFx s) R.PHC.CNT_FAILED ∧
      Pending (phcAbortFx s) R.PHC.ev_FAILED := by
  obtain ⟨h1, h2, h3, h4⟩ := abortShown_shows s r
  let u : State := (((abortShown s r).inc R.PHC.CNT_FAILED).raise R.PHC.ev_FAILED).wr R.THM.STALE 0
  have htail : EndStays u (phcAbortFx s) := by
    rw [phcAbortFx_eq h]
    exact showTemps_stays u
  have hread (f : Fld) (hs : sep f R.THM.STALE = true) (hp : offKey f (evtPendKey R.PHC.ev_FAILED.page) = true) :
      u.rd f = ((abortShown s r).inc R.PHC.CNT_FAILED).rd f := (rd_wr_sep _ _ hs).trans (rd_raise_sep _ hp)
  refine ⟨htail.part.trans ?_, (htail.rd _ (by decide)).trans ?_, (htail.rd _ (by decide)).trans ?_, (htail.rd _ (by decide)).trans ?_,
    (htail.rd _ (by decide)).trans ?_, htail.pend _ ?_⟩
  · rw [← h1]
    exact (wr_phc _ _ _).trans ((raise_phc _ _).trans (wr_phc _ _ _))
  · rw [hread _ (by decide) (by decide), State.inc, State.incBy, rd_wr_sep _ _ (by decide), h2]
  · rw [hread _ (by decide) (by decide), State.inc, State.incBy, rd_wr_sep _ _ (by decide), h3]
  · exact (rd_wr_own _ _ (by decide)).trans rfl
  · rw [hread _ (by decide) (by decide), counted_inc _ rfl rfl, h4]
  · exact pending_wr (pending_raise _ (by decide)) _ (by decide)

/-- Settles O54. -/
theorem lightPhaseRuns : Obligations.LightPhaseRuns := by
  unfold Obligations.LightPhaseRuns
  refine ⟨fun t0 s ht hp hrun => ?_, fun stamp r s ht hrun hflash hwin => ⟨_, rfl, ?_⟩, fun r s hp hrun => ⟨_, rfl, ?_⟩, fun s hp hrun => ⟨_, rfl, ?_⟩⟩
  · have hguard : (s.isTile && s.pageOn 0x0D1) = true := by rw [ht, hp]; rfl
    refine ⟨fun hmay => ⟨_, rfl, ?_⟩, fun hmay => ⟨_, rfl, ?_⟩⟩
    · rw [cond_of (b := s.isTile && s.pageOn 0x0D1) hguard, phcGoFx_requests (s := s.atTime t0) hrun hmay]
      exact ⟨rfl, rfl, _, rfl, rfl, rfl, rfl⟩
    · rw [cond_of (b := s.isTile && s.pageOn 0x0D1) hguard, phcGoFx_refuses (s := s.atTime t0) hrun hmay]
      obtain ⟨h1, h2, h3, h4⟩ := refusal_shows (s.atTime t0)
      exact ⟨onlyRegs_trans (onlyRegs_atTime s t0) h1, h2, h3, h4⟩
  · obtain ⟨x, n, heq, hx⟩ := edgeStamp_eq s.start r.lightT (stamp25 stamp)
    rw [cond_of (b := s.isTile) ht, phaseEdgeFx_light (s := s.start) hrun hflash hwin, heq]
    exact ⟨rfl, rfl, x, rfl, hx⟩
  · rw [cond_of (b := s.pageOn 0x0D1) hp]
    exact phcAbortFx_shows (s := s.start) hrun
  · rw [cond_of (b := s.pageOn 0x0D1) hp, phcAbortFx, State.phcEnd]
    simp only [show s.start.phc.run = none from hrun]
    rfl

end Sys2Proof.Proofs.LightPhase


/-!
The DRAM controller besides its accesses (14 R384 to R392): refresh, alerts and replays, the patrol scrub, the error window and the
frequency change.
-/

namespace Sys2Proof.Proofs.DramControl
open Sys2Proof.Machine Sys2Proof.Laws Sys2Proof.Proofs.Frames Sys2Proof.Proofs.FieldRules Sys2Proof.Proofs.Framing Sys2Proof.Proofs.CoilFrames
  Sys2Proof.Proofs.DramFrames

/-! The records of the channels. -/

theorem chSt_modCh (s : State) (c : Nat) (f : ChSt → ChSt) : (s.modCh c f).chSt c = f (s.chSt c) := smGet_set_same _ _ _ _

theorem chSt_modCh_ne (s : State) {c q : Nat} (h : q ≠ c) (f : ChSt → ChSt) : (s.modCh c f).chSt q = s.chSt q := smGet_set_other _ _ _ h

theorem chSt_of_drm {s t : State} (h : t.drm = s.drm) (c : Nat) : t.chSt c = s.chSt c := by unfold State.chSt; rw [h]

theorem chSt_wr (s : State) (f : Fld) (v c : Nat) : (s.wr f v).chSt c = s.chSt c := chSt_of_drm (wr_drm s f v) c

theorem chSt_raise (s : State) (e : Evt) (c : Nat) : (s.raise e).chSt c = s.chSt c := chSt_of_drm (raise_drm s e) c

theorem chSt_level (s : State) (e : Evt) (b : Bool) (c : Nat) : (s.level e b).chSt c = s.chSt c := chSt_of_drm (level_drm s e b) c

theorem chSt_inc (s : State) (f : Fld) (c : Nat) : (s.inc f).chSt c = s.chSt c := chSt_wr s f _ c

theorem mem_wr (s : State) (f : Fld) (v : Nat) : (s.wr f v).drm.mem = s.drm.mem := congrArg DramSt.mem (wr_drm s f v)

/-! Refresh. -/

/-- What a rank owes, and what was pulled in for it. -/
def owedOf (s : State) (c rank : Nat) : Nat := smGet (fun _ => 0) (s.chSt c).owed rank
def aheadOf (s : State) (c rank : Nat) : Nat := smGet (fun _ => 0) (s.chSt c).ahead rank

/-- A refresh pulled in covers one that is due. -/
theorem refresh_covered {s : State} {c rank : Nat} (h : aheadOf s c rank ≠ 0) (hits : Bool) :
    (refreshFx c rank hits s).drm.mem = s.drm.mem ∧ ((refreshFx c rank hits s).chSt c).owed = (s.chSt c).owed ∧
      aheadOf (refreshFx c rank hits s) c rank = aheadOf s c rank - 1 := by
  have ht : refreshFx c rank hits s = s.modCh c (fun r => { r with ahead := smSet (fun _ => 0) r.ahead rank (aheadOf s c rank - 1) }) := if_pos h
  rw [ht]
  unfold aheadOf
  rw [chSt_modCh]
  exact ⟨rfl, rfl, smGet_set_same _ _ _ _⟩

theorem refreshFx_due {s : State} {c rank : Nat} (h : aheadOf s c rank = 0) (hits : Bool) : refreshFx c rank hits s =
    if 8 ≤ owedOf s c rank then
      if (s.chSt c).alert then s.modCh c (fun r => { r with urgent := rank :: r.urgent.filter (· != rank) }) else s.forceRefresh c rank
    else if hits || (s.chSt c).alert then (s.setOwed c rank (owedOf s c rank + 1)).showOwed c
    else (((s.closeRank c rank).setOwed c rank 0).showOwed c).cond ((s.chSt c).wq.isEmpty && s.drm.reads.isEmpty) (fun s => s.pullIn c rank) := if_neg (not_not.mpr h)

/-- The refresh that is due at 8 owed goes ahead and counts, or waits for a replay. -/
theorem refresh_forced {s : State} {c rank : Nat} (h : aheadOf s c rank = 0) (ho : 8 ≤ owedOf s c rank) (hits : Bool) :
    (refreshFx c rank hits s).drm.mem = s.drm.mem ∧ ((refreshFx c rank hits s).chSt c).owed = (s.chSt c).owed ∧
      ((s.chSt c).alert = false → Counted s (refreshFx c rank hits s) (R.DRM.CNT_POSTPONE_MAX c)) ∧
      ((s.chSt c).alert = true → rank ∈ ((refreshFx c rank hits s).chSt c).urgent) := by
  rw [refreshFx_due h, if_pos ho]
  cases halert : (s.chSt c).alert with
  | true =>
    rw [if_pos rfl, chSt_modCh]
    exact ⟨rfl, rfl, fun h => absurd h (by decide), fun _ => List.mem_cons_self⟩
  | false =>
    rw [if_neg (by decide)]
    refine ⟨mem_wr _ _ _, ?_, fun _ => counted_inc (s.closeRank c rank) rfl rfl, fun h => absurd h (by decide)⟩
    have hch : (s.closeRank c rank).chSt c = { s.chSt c with openRows := (s.chSt c).openRows.filter (fun (x : Nat × Nat) => x.1 / 16 != rank) } :=
      chSt_modCh s c _
    show ((s.forceRefresh c rank).chSt c).owed = _
    rw [show (s.forceRefresh c rank).chSt c = (s.closeRank c rank).chSt c from chSt_inc _ _ _, hch]

/-- A postponed refresh joins those owed. -/
theorem refresh_postponed {s : State} {c rank : Nat} {hits : Bool} (h : aheadOf s c rank = 0) (ho : owedOf s c rank < 8)
    (hp : (hits || (s.chSt c).alert) = true) :
    (refreshFx c rank hits s).drm.mem = s.drm.mem ∧ owedOf (refreshFx c rank hits s) c rank = owedOf s c rank + 1 := by
  rw [refreshFx_due h, if_neg (by omega), if_pos hp]
  refine ⟨mem_wr _ _ _, ?_⟩
  unfold owedOf
  rw [show ((s.setOwed c rank (smGet (fun _ => 0) (s.chSt c).owed rank + 1)).showOwed c).chSt c = _ from (chSt_wr _ _ _ _).trans (chSt_modCh _ _ _)]
  exact smGet_set_same _ _ _ _

theorem pullIn_shows (s : State) (c rank : Nat) : (s.pullIn c rank).drm.mem = s.drm.mem ∧ owedOf (s.pullIn c rank) c rank = owedOf s c rank ∧
    aheadOf (s.pullIn c rank) c rank ≤ 8 := by
  have hch : (s.pullIn c rank).chSt c = { s.chSt c with ahead := smSet (fun _ => 0) (s.chSt c).ahead rank (Config.freeVal s.free % 9) } :=
    chSt_modCh { s with free := s.free + 1 } c _
  unfold owedOf aheadOf
  rw [hch, smGet_set_same]
  exact ⟨rfl, rfl, Nat.le_of_lt_succ (Nat.mod_lt _ (by decide))⟩

/-- With no access that hits its pages a rank issues all that it owes. -/
theorem refresh_issued {s : State} {c rank : Nat} {hits : Bool} (h : aheadOf s c rank = 0) (ho : owedOf s c rank < 8)
    (hp : (hits || (s.chSt c).alert) = false) :
    (refreshFx c rank hits s).drm.mem = s.drm.mem ∧ owedOf (refreshFx c rank hits s) c rank = 0 ∧ aheadOf (refreshFx c rank hits s) c rank ≤ 8 := by
  let u : State := ((s.closeRank c rank).setOwed c rank 0).showOwed c
  have hch : u.chSt c = { s.chSt c with owed := smSet (fun _ => 0) (s.chSt c).owed rank 0, openRows := (s.chSt c).openRows.filter (fun (x : Nat × Nat) => x.1 / 16 != rank) } := by
    refine (chSt_wr _ _ _ _).trans ((chSt_modCh _ _ _).trans ?_)
    rw [show (s.closeRank c rank).chSt c = _ from chSt_modCh _ _ _]
  have hu : u.drm.mem = s.drm.mem ∧ owedOf u c rank = 0 ∧ aheadOf u c rank = 0 := by
    unfold owedOf aheadOf
    rw [hch, smGet_set_same]
    exact ⟨mem_wr _ _ _, rfl, h⟩
  obtain ⟨hmem, howed, hahead⟩ := hu
  rw [refreshFx_due h, if_neg (by omega), hp, if_neg (by decide)]
  unfold State.cond
  split
  · obtain ⟨h1, h2, h3⟩ := pullIn_shows u c rank
    exact ⟨h1.trans hmem, h2.trans howed, h3⟩
  · exact ⟨hmem, howed, by rw [show aheadOf _ c rank = 0 from hahead]; omega⟩

/-! Alerts and replays. -/

/-- An alert counts, is announced, and stops the channel. -/
def alertFx (c : Nat) (wcrc : Bool) (s : State) : State :=
  (((s.inc (if wcrc then R.DRM.CNT_WCRC c else R.DRM.CNT_CA_PAR c)).raise (R.DRM.ev_ALERT c)).wr (R.DRM.IN_SR c) 0).modCh c
    (fun r => { r with alert := true })

theorem counted_alert {f : Fld} {c : Nat} (hw : f.w = 32) (hlo : f.lo = 0) (hev : offKey f (evtPendKey (R.DRM.ev_ALERT c).page) = true)
    (hsr : sep f (R.DRM.IN_SR c) = true) (s : State) : Counted s (((s.inc f).raise (R.DRM.ev_ALERT c)).wr (R.DRM.IN_SR c) 0) f :=
  (rd_wr_sep _ 0 hsr).trans ((rd_raise_sep _ hev).trans (counted_inc s hw hlo))

theorem alertFx_shows (s : State) {c : Nat} (hc : c < 4) (wcrc : Bool) : ((alertFx c wcrc s).chSt c).alert = true ∧ (alertFx c wcrc s).drm.mem = s.drm.mem ∧
    Counted s (alertFx c wcrc s) (if wcrc then R.DRM.CNT_WCRC c else R.DRM.CNT_CA_PAR c) ∧ Pending (alertFx c wcrc s) (R.DRM.ev_ALERT c) := by
  refine ⟨congrArg ChSt.alert (chSt_modCh _ c (fun r => { r with alert := true })), ?_, ?_, ?_⟩
  · exact (mem_wr _ _ _).trans ((congrArg DramSt.mem (raise_drm _ _)).trans (mem_wr _ _ _))
  · cases wcrc
    · exact counted_alert (f := R.DRM.CNT_CA_PAR c) rfl rfl (by interval_cases c <;> decide) (by interval_cases c <;> decide) s
    · exact counted_alert (f := R.DRM.CNT_WCRC c) rfl rfl (by interval_cases c <;> decide) (by interval_cases c <;> decide) s
  · exact pending_wr (e := R.DRM.ev_ALERT c) (pending_raise _ (show 2 < 32 by decide)) 0 (by interval_cases c <;> decide)

/-- What the end of a replay leaves of the records: the content, and the alert and the replays of the channel. -/
def replayPart (c : Nat) (s : State) : List Host.Cell × Bool × Nat := (s.drm.mem, (s.chSt c).alert, (s.chSt c).replays)

/-- And the fields that it leaves. -/
def replayFields (c : Nat) : List Fld := [R.DRM.st_FAULT c, R.DRM.CNT_REPLAY c]

theorem replayDram {c : Nat} (hc : c < 4) : DramRel (Stays (replayPart c) (replayFields c)) (apartFrom (replayFields c)) (quietFor (replayFields c)) := by
  refine staysDram (fun _ _ _ => rfl) (fun _ _ _ => rfl) (fun _ _ => rfl) (fun s d h => ?_) ?_
  · have hrest := h.rest c
    unfold restOf at hrest
    simp only [Prod.mk.injEq] at hrest
    obtain ⟨-, -, -, halert, hreplays, -⟩ := hrest
    show (d.mem, (smGet chDefault d.ch c).alert, (smGet chDefault d.ch c).replays) = _
    rw [h.mem, halert, hreplays]
    rfl
  · interval_cases c <;> decide

/-- Another change of the channel's record leaves them too. -/
theorem replay_modCh (s : State) (c : Nat) {f : ChSt → ChSt} (ha : ∀ x, (f x).alert = x.alert) (hr : ∀ x, (f x).replays = x.replays) :
    Stays (replayPart c) (replayFields c) s (s.modCh c f) := by
  refine .other ?_ rfl
  unfold replayPart
  rw [chSt_modCh, ha, hr]
  rfl

theorem enterChange_keeps {c : Nat} (hc : c < 4) (s : State) : Stays (replayPart c) (replayFields c) s (s.enterChange c) := by
  have h := (replayDram hc).frame
  have hw : apartFrom (replayFields c) (R.DRM.FREQ_BUSY c) = true ∧ apartFrom (replayFields c) (R.DRM.IN_SR c) = true ∧
      apartFrom (replayFields c) (R.DRM.POSTPONED c) = true := by interval_cases c <;> decide
  obtain ⟨h1, h2, h3⟩ := hw
  refine h.trans (h.trans (h.trans (h.wr s _ h1) (h.wr _ _ h2)) (h.wr _ _ h3)) (replay_modCh _ c ?_ ?_) <;> exact fun _ => rfl

theorem forceRefresh_keeps {c : Nat} (hc : c < 4) (s : State) (rank : Nat) : Stays (replayPart c) (replayFields c) s (s.forceRefresh c rank) := by
  have h := (replayDram hc).frame
  have hclose : Stays (replayPart c) (replayFields c) s (s.closeRank c rank) := replay_modCh s c (fun _ => rfl) fun _ => rfl
  refine h.trans hclose (h.inc (s.closeRank c rank) ?_)
  interval_cases c <;> decide

theorem afterReplay_keeps {c : Nat} (hc : c < 4) (s : State) : Stays (replayPart c) (replayFields c) s (s.afterReplay c) := by
  have h := (replayDram hc).frame
  unfold State.afterReplay
  refine h.trans ?_ (frame_serveReads (replayDram hc) _ _)
  refine h.trans ?_ (h.cond fun _ => enterChange_keeps hc _)
  refine h.trans (h.each fun t r _ => forceRefresh_keeps hc t r) (replay_modCh _ c ?_ ?_) <;> exact fun _ => rfl

theorem replay_keeps (s : State) (c : Nat) {Rel : State → State → Prop} {W : Fld → Bool} {E : Nat → Bool} (h : Frame Rel W E) (hch : ChFree Rel) :
    Rel s (s.replay c) := h.each fun t _ _ => hch t c _ fun _ => rfl

/-! The FAULT event shows through the service of waiting reads: of the level events that it sets, UE_RATE is another bit. -/

/-- FAULT of a channel shows as before. -/
def FaultShows (c : Nat) (s t : State) : Prop := t.raw (R.DRM.ev_FAULT c) = s.raw (R.DRM.ev_FAULT c)

theorem faultShows_of_regs {c : Nat} {s t : State} (h : t.regs = s.regs) : FaultShows c s t := wbit_congr h _ _

/-- Events raised anywhere leave it. -/
theorem faultShows_raise (c : Nat) (s : State) {e : Evt} (hb : e.bit < 32) : FaultShows c s (s.raise e) :=
  (wbit_raise s hb _ _).trans (if_neg fun h => evtRawKey_ne_evtPendKey _ _ h.1)

/-- The fields that lie in another word than EVT_RAW. -/
def offRaw (f : Fld) : Bool := decide (f.off < 0xFFC ∧ f.off ≠ 0x010 ∧ (f.w ≤ 32 ∨ f.off + 4 ≠ 0x010))

theorem faultShows_wr (c : Nat) (s : State) {f : Fld} (v : Nat) (hf : offRaw f = true) : FaultShows c s (s.wr f v) := by
  obtain ⟨h1, h2, h3⟩ := of_decide_eq_true hf
  refine wbit_wr_ne s v _ ?_ (fun hw => ?_) <;> unfold evtRawKey regKey Fld.key regKey <;> omega

theorem faultShowsFrame (c : Nat) : Frame (FaultShows c) offRaw (fun p => decide (evtRawKey p ≠ evtRawKey (0x0E0 + c))) where
  refl _ := rfl
  trans h h' := h'.trans h
  wr s _ v hf := faultShows_wr c s v hf
  raise s _ _ hb := faultShows_raise c s hb
  level s e b h hb := by
    have hp := of_decide_eq_true h
    exact (wbit_raw_level s hb b _ _).trans (if_neg fun hc => hp hc.1.symm)

theorem faultShows_ueRate {c : Nat} (hc : c < 4) (s : State) : FaultShows c s s.ueRate := by
  have h := faultShowsFrame c
  have hlevel (b : Bool) : FaultShows c s (s.level (R.DRM.ev_UE_RATE 0) b) := raw_level_ne s (show 7 < 32 by decide) (show 3 ≠ 7 by decide) b
  unfold State.ueRate
  refine h.trans (hlevel _) (h.cond fun _ => frame_ground h (fun _ _ _ => rfl) (fun _ _ => rfl) (by decide) ?_ _ _)
  interval_cases c <;> decide

theorem faultShows_ueRead {c : Nat} (hc : c < 4) (s : State) (q a : Nat) : FaultShows c s (s.ueRead q a) := by
  have h := faultShowsFrame c
  have hcount : FaultShows c s (s.incRaise (R.DRM.CNT_UE q) (R.DRM.ev_UE q)) := h.trans (h.inc s rfl) (faultShows_raise c _ (show 1 < 32 by decide))
  have hmod (t : State) : FaultShows c t (t.modCh q HostDram.addBin) := rfl
  rw [HostDram.ueRead_eq]
  unfold HostDram.ueTail
  refine h.trans (h.trans (h.trans (h.trans hcount (h.wr _ _ rfl)) (hmod _)) (h.wr _ _ rfl)) (faultShows_ueRate hc _)

theorem faultShows_checkLine {c : Nat} (hc : c < 4) (s : State) (q line : Nat) : FaultShows c s (s.checkLine q line).1 := by
  have h := faultShowsFrame c
  have hcorr : FaultShows c s (s.cond ((s.weakWords line).length != 0) (fun s => (s.incBy (R.DRM.CNT_CE q) (s.weakWords line).length).raise (R.DRM.ev_CE q))) :=
    h.cond fun _ => h.trans (h.incBy s _ rfl) (faultShows_raise c _ (show 0 < 32 by decide))
  unfold State.checkLine
  simp only
  split
  · exact h.trans hcorr (faultShows_ueRead hc _ _ _)
  · exact hcorr

theorem faultShows_readPart {c : Nat} (hc : c < 4) (s : State) (errs : List (Nat × Nat)) (p : Nat × Nat × Nat) : FaultShows c s (s.readPart errs p).1 := by
  have h := faultShowsFrame c
  let q : Nat := dramCh s.drm.chans p.2.1
  have hread (t : State) (ht : t.regs = s.regs) : FaultShows c s (((t.useLine q p.1 false).noteErrs errs p.1).checkLine q p.1).1 := by
    have hnote : FaultShows c s ((t.useLine q p.1 false).noteErrs errs p.1) := faultShows_of_regs ht
    exact h.trans hnote (faultShows_checkLine hc _ _ _)
  unfold State.readPart
  simp only
  split
  · exact faultShows_ueRead hc s _ _
  · split
    · split
      · exact h.inc s rfl
      · exact hread (s.issueWrite q p.1) rfl
    · exact hread s rfl

theorem faultShows_serveReads {c : Nat} (hc : c < 4) (rs : List HostRead) (s : State) : FaultShows c s (State.serveReads rs s) := by
  have h := faultShowsFrame c
  have hparts (errs : List (Nat × Nat)) (ps : List (Nat × Nat × Nat)) (t : State) : FaultShows c t (t.readParts errs ps).1 := by
    induction ps generalizing t with
    | nil => exact h.refl t
    | cons p ps ih =>
      have hrest : FaultShows c t ((t.readPart errs p).1.readParts errs ps).1 := h.trans (faultShows_readPart hc t errs p) (ih _)
      unfold State.readParts
      exact hrest
  induction rs generalizing s with
  | nil => exact h.refl s
  | cons r rs ih =>
    unfold State.serveReads
    refine h.ite (fun _ => h.refl s) fun _ => h.trans ?_ (ih _)
    exact h.trans (faultShows_of_regs rfl) (hparts r.errs (linesOf r.off r.len) { s with drm := { s.drm with reads := rs } })

theorem faultShows_afterReplay {c : Nat} (hc : c < 4) (s : State) : FaultShows c s (s.afterReplay c) := by
  have h := faultShowsFrame c
  have hforce (t : State) (r : Nat) : FaultShows c t (t.forceRefresh c r) := h.inc (t.closeRank c r) rfl
  have henter (t : State) : FaultShows c t (t.enterChange c) := h.trans (h.trans (h.wr t _ rfl) (h.wr _ _ rfl)) (h.wr _ _ rfl)
  unfold State.afterReplay
  refine h.trans ?_ (faultShows_serveReads hc _ _)
  exact h.trans (h.trans (h.each fun t r _ => hforce t r) (faultShows_of_regs rfl)) (h.cond fun _ => henter _)

/-! The answer to an alert. -/

/-- The channel when its retry buffer has been replayed. -/
def replayed (c : Nat) (s : State) : State := ((s.inc (R.DRM.CNT_REPLAY c)).modCh c (fun r => { r with openRows := [] })).replay c

theorem replayed_keeps {c : Nat} (hc : c < 4) (s : State) : Stays (replayPart c) (replayFields c) (s.inc (R.DRM.CNT_REPLAY c)) (replayed c s) := by
  have h := (replayDram hc).frame
  refine h.trans (replay_modCh _ c ?_ ?_) (replay_keeps _ c h (replayDram hc).chFree) <;> exact fun _ => rfl

/-- What the replay and the service after it leave. -/
theorem kept_of_stays {c : Nat} {s t : State} (h : Stays (replayPart c) (replayFields c) s t) : t.drm.mem = s.drm.mem ∧
    (t.chSt c).alert = (s.chSt c).alert ∧ (t.chSt c).replays = (s.chSt c).replays ∧ t.rd (R.DRM.CNT_REPLAY c) = s.rd (R.DRM.CNT_REPLAY c) ∧
    t.flag (R.DRM.st_FAULT c) = s.flag (R.DRM.st_FAULT c) := by
  have hpart := h.part
  unfold replayPart at hpart
  simp only [Prod.mk.injEq] at hpart
  obtain ⟨h1, h2, h3⟩ := hpart
  exact ⟨h1, h2, h3, h.rd _ (by simp [replayFields]), congrArg (· != 0) (h.rd _ (by simp [replayFields]))⟩

theorem replayed_shows {c : Nat} (hc : c < 4) (s : State) : (replayed c s).drm.mem = s.drm.mem ∧ ((replayed c s).chSt c).replays = (s.chSt c).replays ∧
    Counted s (replayed c s) (R.DRM.CNT_REPLAY c) ∧ (replayed c s).flag (R.DRM.st_FAULT c) = s.flag (R.DRM.st_FAULT c) := by
  obtain ⟨h1, -, h3, h4, h5⟩ := kept_of_stays (replayed_keeps hc s)
  refine ⟨h1.trans (mem_wr _ _ _), h3.trans (congrArg ChSt.replays (chSt_inc _ _ _)), ?_, h5.trans (congrArg (· != 0) (rd_wr_sep s _ ?_))⟩
  · exact h4.trans (counted_inc s rfl rfl)
  · interval_cases c <;> decide

/-- An answered replay frees the channel. -/
theorem alertReturn_ends {c : Nat} (hc : c < 4) (s : State) : ((alertReturnFx c false s).chSt c).alert = false ∧ ((alertReturnFx c false s).chSt c).replays = 0 ∧
    (alertReturnFx c false s).flag (R.DRM.st_FAULT c) = s.flag (R.DRM.st_FAULT c) ∧ (alertReturnFx c false s).drm.mem = s.drm.mem ∧
    Counted s (alertReturnFx c false s) (R.DRM.CNT_REPLAY c) := by
  obtain ⟨hmem, -, hcount, hfault⟩ := replayed_shows hc s
  let u : State := (replayed c s).modCh c (fun r => { r with replays := 0, alert := false, retry := [] })
  have hu : u.chSt c = { (replayed c s).chSt c with replays := 0, alert := false, retry := [] } := chSt_modCh _ c _
  obtain ⟨h1, h2, h3, h4, h5⟩ := kept_of_stays (afterReplay_keeps hc u)
  refine ⟨h2.trans (by rw [hu]), h3.trans (by rw [hu]), h5.trans hfault, h1.trans hmem, h4.trans hcount⟩

/-- A replay that meets another alert, in the state after it. -/
def alertAgain (c : Nat) (s : State) : State :=
  (replayed c s).modCh c (fun r => { r with replays := ((replayed c s).chSt c).replays + 1, alert := decide (((replayed c s).chSt c).replays + 1 < 8) })

theorem alertAgain_shows {c : Nat} (hc : c < 4) (s : State) : ((alertAgain c s).chSt c).alert = decide ((s.chSt c).replays + 1 < 8) ∧
    ((alertAgain c s).chSt c).replays = (s.chSt c).replays + 1 ∧ (alertAgain c s).drm.mem = s.drm.mem ∧
    Counted s (alertAgain c s) (R.DRM.CNT_REPLAY c) ∧ (alertAgain c s).flag (R.DRM.st_FAULT c) = s.flag (R.DRM.st_FAULT c) := by
  obtain ⟨hmem, hreplays, hcount, hfault⟩ := replayed_shows hc s
  have hu : (alertAgain c s).chSt c = { (replayed c s).chSt c with
      replays := ((replayed c s).chSt c).replays + 1, alert := decide (((replayed c s).chSt c).replays + 1 < 8) } := chSt_modCh _ c _
  rw [hu, hreplays]
  exact ⟨rfl, rfl, hmem, hcount, hfault⟩

theorem alertReturn_again (c : Nat) (s : State) : alertReturnFx c true s =
    (alertAgain c s).cond (decide (8 ≤ ((replayed c s).chSt c).replays + 1)) (fun s => ((s.wr (R.DRM.st_FAULT c) 1).level (R.DRM.ev_FAULT c) true).afterReplay c) := rfl

/-- The eighth puts the channel in FAULT. -/
theorem faulted_shows {c : Nat} (hc : c < 4) (s : State) (t : State) (ht : t = (((s.wr (R.DRM.st_FAULT c) 1).level (R.DRM.ev_FAULT c) true).afterReplay c)) :
    t.drm.mem = s.drm.mem ∧ t.rd (R.DRM.CNT_REPLAY c) = s.rd (R.DRM.CNT_REPLAY c) ∧ t.flag (R.DRM.st_FAULT c) = true ∧ t.raw (R.DRM.ev_FAULT c) = true := by
  subst ht
  obtain ⟨h1, -, -, h4, h5⟩ := kept_of_stays (afterReplay_keeps hc ((s.wr (R.DRM.st_FAULT c) 1).level (R.DRM.ev_FAULT c) true))
  have hraw := faultShows_afterReplay hc ((s.wr (R.DRM.st_FAULT c) 1).level (R.DRM.ev_FAULT c) true)
  have hfield : ((s.wr (R.DRM.st_FAULT c) 1).level (R.DRM.ev_FAULT c) true).rd (R.DRM.CNT_REPLAY c) = s.rd (R.DRM.CNT_REPLAY c) ∧
      ((s.wr (R.DRM.st_FAULT c) 1).level (R.DRM.ev_FAULT c) true).rd (R.DRM.st_FAULT c) = 1 := by
    refine ⟨(rd_level_sep _ ?_ ?_).trans (rd_wr_sep _ _ ?_), (rd_level_sep _ ?_ ?_).trans (rd_wr_own _ _ rfl)⟩ <;> interval_cases c <;> decide
  obtain ⟨hr1, hr2⟩ := hfield
  refine ⟨h1.trans ((congrArg DramSt.mem (level_drm _ _ _)).trans (mem_wr _ _ _)), h4.trans hr1, h5.trans (congrArg (· != 0) hr2), ?_⟩
  exact hraw.trans (raw_level _ (show 3 < 32 by decide) true)

/-! The patrol scrub. -/

/-- What the count of an uncorrectable read leaves of the records, and the fields that it leaves. -/
def scrubPart (s : State) : List Host.Cell × List Nat × List Nat × Nat × (Nat → List (Nat × Nat) × List (Nat × Nat) × List Nat × Bool × Nat × Nat × Nat) :=
  (s.drm.mem, s.drm.weak, s.drm.poison, s.drm.chans, fun c => restOf (s.chSt c))
def scrubFields (c : Nat) : List Fld := [R.DRM.CNT_CE c, R.DRM.CNT_UE c, R.DRM.CNT_SCRUB_CORR c, R.DRM.CAPACITY c]

abbrev ScrubStays (c : Nat) : State → State → Prop := Stays scrubPart (scrubFields c)

theorem scrubFrame (c : Nat) : Frame (ScrubStays c) (apartFrom (scrubFields c)) (quietFor (scrubFields c)) := staysFrame (fun _ _ _ => rfl) _

theorem scrub_modCh (s : State) (c q : Nat) {f : ChSt → ChSt} (hf : ∀ x, restOf (f x) = restOf x) : ScrubStays c s (s.modCh q f) := by
  refine .other ?_ rfl
  have hrest : (fun c => restOf ((s.modCh q f).chSt c)) = fun c => restOf (s.chSt c) := funext (readChange_ch s.drm q hf).rest
  unfold scrubPart
  rw [hrest]
  rfl

theorem scrub_quiet (c p : Nat) : quietFor (scrubFields c) p = true := quiet_of_off rfl p

theorem ueTail_scrub {c : Nat} (hc : c < 4) (s : State) (a : Nat) : ScrubStays c s (HostDram.ueTail s c a) := by
  have h := scrubFrame c
  have hbin (t : State) : ScrubStays c t (t.modCh c HostDram.addBin) := scrub_modCh t c c fun _ => rfl
  have hw : apartFrom (scrubFields c) (R.DRM.LAST_UE_ADDR c) = true ∧ apartFrom (scrubFields c) (R.DRM.UE_1S c) = true ∧
      (∀ f ∈ relinquishFields, apartFrom (scrubFields c) f = true) := by interval_cases c <;> decide
  obtain ⟨h1, h2, h3⟩ := hw
  have hrate (t : State) : ScrubStays c t t.ueRate := by
    unfold State.ueRate
    refine h.trans (h.level t _ (scrub_quiet c _) (show 7 < 32 by decide)) (h.cond fun _ => ?_)
    exact frame_ground h (fun _ _ _ => .other rfl rfl) (fun _ _ => .other rfl rfl) h3 (scrub_quiet c _) _ _
  exact h.trans (h.trans (h.trans (h.wr s a h1) (hbin _)) (h.wr _ _ h2)) (hrate _)

/-- An uncorrectable read of a channel is counted and announced; its other counters and the content stay. -/
theorem ueRead_shows {c : Nat} (hc : c < 4) (s : State) (a : Nat) : scrubPart (s.ueRead c a) = scrubPart s ∧
    Counted s (s.ueRead c a) (R.DRM.CNT_UE c) ∧ (s.ueRead c a).rd (R.DRM.CNT_CE c) = s.rd (R.DRM.CNT_CE c) ∧
    (s.ueRead c a).rd (R.DRM.CNT_SCRUB_CORR c) = s.rd (R.DRM.CNT_SCRUB_CORR c) ∧ (s.ueRead c a).rd (R.DRM.CAPACITY c) = s.rd (R.DRM.CAPACITY c) ∧
    Pending (s.ueRead c a) (R.DRM.ev_UE c) ∧ ∀ e, Pending s e → Pending (s.ueRead c a) e := by
  let u : State := s.incRaise (R.DRM.CNT_UE c) (R.DRM.ev_UE c)
  have htail : ScrubStays c u (s.ueRead c a) := ueTail_scrub hc u a
  have hcount : Counted s u (R.DRM.CNT_UE c) := (rd_raise_sep _ (by interval_cases c <;> decide)).trans (counted_inc s rfl rfl)
  have hkept (f : Fld) (h1 : offKey f (evtPendKey (R.DRM.ev_UE c).page) = true) (h2 : sep f (R.DRM.CNT_UE c) = true) : u.rd f = s.rd f :=
    (rd_raise_sep _ h1).trans (rd_wr_sep _ _ h2)
  have hpart : scrubPart u = scrubPart s := (partFrame (F := scrubPart) fun _ _ _ => rfl).incRaise s rfl rfl (show 1 < 32 by decide)
  refine ⟨htail.part.trans hpart, (htail.rd _ (by simp [scrubFields])).trans hcount, (htail.rd _ (by simp [scrubFields])).trans (hkept _ ?_ ?_),
    (htail.rd _ (by simp [scrubFields])).trans (hkept _ ?_ ?_), (htail.rd _ (by simp [scrubFields])).trans (hkept _ ?_ ?_), HostDram.pending_ueRead s c a,
    fun e he => htail.pend e (pending_raise_of (pending_of_apart _ ?_ he) (show 1 < 32 by decide))⟩ <;> interval_cases c <;> decide

/-- The corrected words of a line that is read. -/
def corrected (c line : Nat) (s : State) : State :=
  s.cond ((s.weakWords line).length != 0) (fun s' => (s'.incBy (R.DRM.CNT_CE c) (s.weakWords line).length).raise (R.DRM.ev_CE c))

theorem corrected_shows {c : Nat} (hc : c < 4) (line : Nat) (s : State) : scrubPart (corrected c line s) = scrubPart s ∧
    (corrected c line s).rd (R.DRM.CNT_CE c) = min (s.rd (R.DRM.CNT_CE c) + (s.weakWords line).length) 0xFFFFFFFF ∧
    (∀ f ∈ [R.DRM.CNT_UE c, R.DRM.CNT_SCRUB_CORR c, R.DRM.CAPACITY c], (corrected c line s).rd f = s.rd f) ∧
    (0 < (s.weakWords line).length → Pending (corrected c line s) (R.DRM.ev_CE c)) := by
  unfold corrected
  by_cases hn : (s.weakWords line).length = 0
  · rw [cond_of_not (by simpa using hn), hn]
    have : s.rd (R.DRM.CNT_CE c) < 2 ^ 32 := Nat.mod_lt _ (Nat.two_pow_pos 32)
    refine ⟨rfl, ?_, fun _ _ => rfl, fun h => absurd h (by decide)⟩
    rw [Nat.add_zero, Nat.min_eq_left (Nat.le_of_lt_succ this)]
  · rw [cond_of (by simpa using hn)]
    refine ⟨?_, ?_, fun f hf => ?_, fun _ => pending_raise _ (show 0 < 32 by decide)⟩
    · have h := partFrame (F := scrubPart) fun _ _ _ => rfl
      exact h.trans (h.incBy s _ rfl) (h.raise _ rfl (show 0 < 32 by decide))
    · exact (rd_raise_sep _ (by interval_cases c <;> decide)).trans (rd_incBy_same s rfl rfl _)
    · have hsep : ∀ f ∈ [R.DRM.CNT_UE c, R.DRM.CNT_SCRUB_CORR c, R.DRM.CAPACITY c], offKey f (evtPendKey (R.DRM.ev_CE c).page) = true ∧
          sep f (R.DRM.CNT_CE c) = true := by interval_cases c <;> decide
      obtain ⟨h1, h2⟩ := hsep f hf
      exact (rd_raise_sep _ h1).trans (rd_wr_sep _ _ h2)

theorem checkLine_eq (c line : Nat) (s : State) : (s.checkLine c line).1 =
    if linePoisoned s.drm.poison line then (corrected c line s).ueRead c (64 * line) else corrected c line s := by
  have hpoison : (corrected c line s).drm.poison = s.drm.poison := congrArg (fun x => x.2.2.1)
    ((partFrame (F := scrubPart) fun _ _ _ => rfl).cond (s := s) (b := (s.weakWords line).length != 0)
      (f := fun s' => (s'.incBy (R.DRM.CNT_CE c) (s.weakWords line).length).raise (R.DRM.ev_CE c))
      fun _ => ((partFrame (F := scrubPart) fun _ _ _ => rfl).trans ((partFrame fun _ _ _ => rfl).incBy s _ rfl)
        ((partFrame fun _ _ _ => rfl).raise _ rfl (show 0 < 32 by decide))))
  unfold State.checkLine
  show (if linePoisoned (corrected c line s).drm.poison line = true then ((corrected c line s).ueRead c (64 * line), true) else (corrected c line s, false)).1 = _
  rw [hpoison]
  split <;> rfl

/-- The check of a line counts what it corrected, and the read of a line with an uncorrectable word. -/
theorem checkLine_shows {c : Nat} (hc : c < 4) (line : Nat) (s : State) : scrubPart (s.checkLine c line).1 = scrubPart s ∧
    (s.checkLine c line).1.rd (R.DRM.CNT_CE c) = min (s.rd (R.DRM.CNT_CE c) + (s.weakWords line).length) 0xFFFFFFFF ∧
    (s.checkLine c line).1.rd (R.DRM.CNT_SCRUB_CORR c) = s.rd (R.DRM.CNT_SCRUB_CORR c) ∧
    (s.checkLine c line).1.rd (R.DRM.CAPACITY c) = s.rd (R.DRM.CAPACITY c) ∧
    (0 < (s.weakWords line).length → Pending (s.checkLine c line).1 (R.DRM.ev_CE c)) ∧
    (linePoisoned s.drm.poison line = true → Counted s (s.checkLine c line).1 (R.DRM.CNT_UE c) ∧ Pending (s.checkLine c line).1 (R.DRM.ev_UE c)) := by
  obtain ⟨hpart, hce, hrd, hpend⟩ := corrected_shows hc line s
  rw [checkLine_eq]
  by_cases hp : linePoisoned s.drm.poison line = true
  · obtain ⟨h1, h2, h3, h4, h5, h6, h7⟩ := ueRead_shows hc (corrected c line s) (64 * line)
    rw [if_pos hp]
    refine ⟨h1.trans hpart, h3.trans hce, h4.trans (hrd _ (by simp)), h5.trans (hrd _ (by simp)), fun hn => h7 _ (hpend hn), fun _ => ⟨?_, h6⟩⟩
    unfold Counted at h2 ⊢
    rw [h2, hrd _ (by simp)]
  · rw [if_neg hp]
    exact ⟨hpart, hce, hrd _ (by simp), hrd _ (by simp), hpend, fun h => absurd h hp⟩

/-- The line that is read, with the errors that the read finds in a word of it. -/
def scrubFound (c line w err : Nat) (s : State) : State := (s.useLine c line false).noteErrs [(8 * line + w, err)] line

theorem scrubFound_shows (c line w err : Nat) (s : State) : (scrubFound c line w err s).drm.mem = s.drm.mem ∧ (scrubFound c line w err s).drm.chans = s.drm.chans ∧
    (scrubFound c line w err s).weakWords line = (s.noteErrs [(8 * line + w, err)] line).weakWords line ∧
    restOf ((scrubFound c line w err s).chSt c) = restOf (s.chSt c) ∧ (∀ f, (scrubFound c line w err s).rd f = s.rd f) :=
  ⟨rfl, rfl, rfl, (readChange_ch s.drm c (f := fun r => { r with
    openRows := smSet (fun _ => 0) r.openRows (s.linePos line).bankKey ((s.linePos line).row + 1), retry := ((line, false) :: r.retry).take 64 })
    fun _ => rfl).rest c, fun _ => rfl⟩

/-- A single-bit error in a word of a sound line is one of its weak words. -/
theorem weak_of_one {s : State} {line w : Nat} (hw : w < 8) (hsound : linePoisoned s.drm.poison line = false) :
    0 < ((s.noteErrs [(8 * line + w, 1)] line).weakWords line).length := by
  have hdiv : (8 * line + w) / 8 = line := by omega
  refine List.length_pos_of_mem (a := 8 * line + w) (List.mem_filter.mpr ⟨?_, ?_⟩)
  · show 8 * line + w ∈ s.drm.weak ++ _
    by_cases h : 8 * line + w ∈ s.drm.weak
    · exact List.mem_append_left _ h
    · refine List.mem_append_right _ ?_
      simp [hdiv, h]
  · have hnot : 8 * line + w ∉ s.drm.poison := fun h => by
      have hp := List.any_eq_false.mp hsound _ h
      rw [beq_iff_eq] at hp
      exact hp hdiv
    have hpoison : (s.noteErrs [(8 * line + w, 1)] line).drm.poison = s.drm.poison := by simp [State.noteErrs]
    rw [hpoison, Bool.and_eq_true, beq_iff_eq, Bool.not_eq_true', List.contains_eq_mem, decide_eq_false_iff_not]
    exact ⟨hdiv, hnot⟩

/-- Words of a line that were rewritten hold no single-bit error. -/
theorem weakWords_cleaned (s : State) (line : Nat) : (s.cleanWords (s.weakWords line)).weakWords line = [] := by
  refine List.filter_eq_nil_iff.mpr fun x hx => ?_
  obtain ⟨hweak, hnot⟩ := List.mem_filter.mp hx
  simp only [State.weakWords, List.contains_eq_mem, List.mem_filter, Bool.not_eq_true', decide_eq_false_iff_not, Bool.and_eq_true, beq_iff_eq, not_and,
    State.cleanWords] at hnot ⊢
  intro hline hclean
  have hpoison : x ∈ s.drm.poison := by
    by_contra hp
    exact hnot hweak hline hp
  exact hclean hpoison fun _ _ => not_not.mpr hpoison

/-- The write of the corrected line. -/
def scrubWrite (c line : Nat) (weak : List Nat) (s : State) : State := ((s.cleanWords weak).useLine c line true).inc (R.DRM.CNT_SCRUB_CORR c)

theorem scrubRead_eq (c line err : Nat) (s : State) : s.scrubRead c line err =
    (((scrubFound c line (Config.freeVal s.free % 8) err s.fresh.2).checkLine c line).1).cond
      (!((scrubFound c line (Config.freeVal s.free % 8) err s.fresh.2).weakWords line).isEmpty)
      (scrubWrite c line ((scrubFound c line (Config.freeVal s.free % 8) err s.fresh.2).weakWords line)) := rfl

/-- What a scrub of a line shows before it moves on, for the word `w` of the line that an error is in. -/
structure LineScrubbed (c line w err : Nat) (s t : State) : Prop where
  mem : t.drm.mem = s.drm.mem
  rest : restOf (t.chSt c) = restOf (s.chSt c)
  capacity : t.rd (R.DRM.CAPACITY c) = s.rd (R.DRM.CAPACITY c)
  corrected : t.rd (R.DRM.CNT_CE c) = min (s.rd (R.DRM.CNT_CE c) + ((s.noteErrs [(8 * line + w, err)] line).weakWords line).length) 0xFFFFFFFF
  rewritten : 0 < ((s.noteErrs [(8 * line + w, err)] line).weakWords line).length →
    Counted s t (R.DRM.CNT_SCRUB_CORR c) ∧ Pending t (R.DRM.ev_CE c) ∧ t.weakWords line = []
  poisoned : (linePoisoned s.drm.poison line || decide (2 ≤ err)) = true → Counted s t (R.DRM.CNT_UE c) ∧ Pending t (R.DRM.ev_UE c)

theorem weakWords_of_drm {s t : State} (h : t.drm = s.drm) (line : Nat) : t.weakWords line = s.weakWords line := by
  unfold State.weakWords
  rw [h]

/-- The rewriting of words of a line, its count aside, leaves registers. -/
theorem scrubWrite_shows {c : Nat} (hc : c < 4) (line : Nat) (s : State) : (scrubWrite c line (s.weakWords line) s).drm.mem = s.drm.mem ∧
    restOf ((scrubWrite c line (s.weakWords line) s).chSt c) = restOf (s.chSt c) ∧ (scrubWrite c line (s.weakWords line) s).weakWords line = [] ∧
    Counted s (scrubWrite c line (s.weakWords line) s) (R.DRM.CNT_SCRUB_CORR c) ∧
    (∀ f ∈ [R.DRM.CNT_CE c, R.DRM.CNT_UE c, R.DRM.CAPACITY c], (scrubWrite c line (s.weakWords line) s).rd f = s.rd f) ∧
    (∀ e, Pending s e → Pending (scrubWrite c line (s.weakWords line) s) e) := by
  let u : State := (s.cleanWords (s.weakWords line)).useLine c line true
  have hdrm : (scrubWrite c line (s.weakWords line) s).drm = u.drm := wr_drm _ _ _
  have hrest : restOf (u.chSt c) = restOf (s.chSt c) := (readChange_ch (s.cleanWords (s.weakWords line)).drm c (f := fun r => { r with
    openRows := smSet (fun _ => 0) r.openRows (s.linePos line).bankKey ((s.linePos line).row + 1), retry := ((line, true) :: r.retry).take 64 })
    fun _ => rfl).rest c
  have hweak : (scrubWrite c line (s.weakWords line) s).weakWords line = u.weakWords line := weakWords_of_drm hdrm line
  refine ⟨(congrArg DramSt.mem hdrm).trans rfl, (congrArg restOf (chSt_of_drm hdrm c)).trans hrest, hweak.trans (weakWords_cleaned s line),
    counted_inc u rfl rfl, fun f hf => ?_, fun e he => ?_⟩
  · have hsep : ∀ f ∈ [R.DRM.CNT_CE c, R.DRM.CNT_UE c, R.DRM.CAPACITY c], sep f (R.DRM.CNT_SCRUB_CORR c) = true := by interval_cases c <;> decide
    exact rd_wr_sep u _ (hsep f hf)
  · exact pending_of_apart (s := u) _ (by interval_cases c <;> decide) he

theorem weakWords_of_part {s t : State} (h : scrubPart t = scrubPart s) (line : Nat) : t.weakWords line = s.weakWords line := by
  unfold scrubPart at h
  simp only [Prod.mk.injEq] at h
  obtain ⟨-, hweak, hpoison, -⟩ := h
  unfold State.weakWords
  rw [hweak, hpoison]

/-- An uncorrectable word of the line, found now or before, poisons it. -/
theorem scrubFound_poisoned {c line w err : Nat} (hw : w < 8) {s : State} (h : (linePoisoned s.drm.poison line || decide (2 ≤ err)) = true) :
    linePoisoned (scrubFound c line w err s).drm.poison line = true := by
  rcases (Bool.or_eq_true _ _).mp h with h | h
  · obtain ⟨x, hx, hline⟩ := List.any_eq_true.mp h
    exact List.any_eq_true.mpr ⟨x, List.mem_append_left _ hx, hline⟩
  · exact HostDram.noteErrs_poisons (s := s.useLine c line false) (x := (8 * line + w, err)) List.mem_cons_self (show (8 * line + w) / 8 = line by omega)
      (of_decide_eq_true h)

theorem scrubRead_shows {c : Nat} (hc : c < 4) (line err : Nat) (s : State) :
    LineScrubbed c line (Config.freeVal s.free % 8) err s (s.scrubRead c line err) := by
  let w : Nat := Config.freeVal s.free % 8
  let u : State := scrubFound c line w err s.fresh.2
  let t : State := (u.checkLine c line).1
  obtain ⟨fmem, -, fweak, frest, frd⟩ := scrubFound_shows c line w err s.fresh.2
  obtain ⟨hpart, hce, hcorr, hcap, hpend, hue⟩ := checkLine_shows hc line u
  have hweak : t.weakWords line = u.weakWords line := weakWords_of_part hpart line
  have hlen : (u.weakWords line).length = ((s.noteErrs [(8 * line + w, err)] line).weakWords line).length := congrArg List.length fweak
  have hp := hpart
  unfold scrubPart at hp
  simp only [Prod.mk.injEq] at hp
  obtain ⟨hmem, -, -, -, hrest⟩ := hp
  have hrest' : restOf (t.chSt c) = restOf (s.chSt c) := (congrFun hrest c).trans frest
  have hpoisoned (h : (linePoisoned s.drm.poison line || decide (2 ≤ err)) = true) : Counted s t (R.DRM.CNT_UE c) ∧ Pending t (R.DRM.ev_UE c) :=
    hue (scrubFound_poisoned (s := s.fresh.2) (Nat.mod_lt _ (by decide)) h)
  rw [scrubRead_eq]
  show LineScrubbed c line w err s (t.cond (!(u.weakWords line).isEmpty) (scrubWrite c line (u.weakWords line)))
  cases hnone : (u.weakWords line).isEmpty with
  | true =>
    rw [cond_of_not (by rfl)]
    have hzero : (u.weakWords line).length = 0 := by rw [List.isEmpty_iff.mp hnone]; rfl
    refine ⟨hmem, hrest', hcap, by rw [← hlen]; exact hce, fun h => absurd h ?_, hpoisoned⟩
    rw [← hlen]
    omega
  | false =>
    have hpos : 0 < (u.weakWords line).length := List.length_pos_iff.mpr fun h => by rw [h] at hnone; exact absurd hnone (by decide)
    rw [cond_of (by rfl), ← hweak]
    obtain ⟨w1, w2, w3, w4, w5, w6⟩ := scrubWrite_shows hc line t
    refine ⟨w1.trans hmem, w2.trans hrest', (w5 _ (by simp)).trans hcap, (w5 _ (by simp)).trans ?_, fun _ => ⟨?_, w6 _ (hpend hpos), w3⟩, fun h => ?_⟩
    · rw [← hlen]
      exact hce
    · unfold Counted at w4 ⊢
      rw [w4, hcorr]
      rfl
    · obtain ⟨h1, h2⟩ := hpoisoned h
      exact ⟨(w5 _ (by simp)).trans h1, w6 _ h2⟩

/-- Moving on leaves what the line showed. -/
theorem scrubNext_shows {c : Nat} (hc : c < 4) (s : State) : ((s.scrubNext c).chSt c).scrub =
      (if (s.chSt c).scrub + 1 < s.rd (R.DRM.CAPACITY c) / 64 then (s.chSt c).scrub + 1 else 0) ∧
    (s.scrubNext c).drm.mem = s.drm.mem ∧ (∀ line, (s.scrubNext c).weakWords line = s.weakWords line) ∧
    (∀ f ∈ [R.DRM.CNT_CE c, R.DRM.CNT_UE c, R.DRM.CNT_SCRUB_CORR c], (s.scrubNext c).rd f = s.rd f) ∧ (∀ e, Pending s e → Pending (s.scrubNext c) e) := by
  unfold State.scrubNext
  simp only
  split
  · exact ⟨congrArg ChSt.scrub (chSt_modCh _ _ _), rfl, fun _ => rfl, fun _ _ => rfl, fun _ h => h⟩
  · let u : State := s.modCh c (fun r => { r with scrub := 0, passEnd := s.time })
    have hdrm : (u.level (R.DRM.ev_SCRUB_LATE c) false).drm = u.drm := level_drm _ _ _
    refine ⟨congrArg ChSt.scrub ((chSt_of_drm hdrm c).trans (chSt_modCh s c _)), (congrArg DramSt.mem hdrm).trans rfl, fun line => ?_,
      fun f hf => ?_, fun e he => ?_⟩
    · exact (weakWords_of_drm hdrm line).trans rfl
    · have hoff : ∀ f ∈ [R.DRM.CNT_CE c, R.DRM.CNT_UE c, R.DRM.CNT_SCRUB_CORR c], offKey f (evtRawKey (R.DRM.ev_SCRUB_LATE c).page) = true ∧
          offKey f (evtPendKey (R.DRM.ev_SCRUB_LATE c).page) = true := by interval_cases c <;> decide
      exact rd_level_sep u (hoff f hf).1 (hoff f hf).2
    · exact pending_level_of (s := u) (show 6 < 32 by decide) he

/-- The line that the scrub is at. -/
def scrubLine (c : Nat) (s : State) : Nat := dramOffset s.drm.chans c (64 * (s.chSt c).scrub) / 64

/-- A write of it waits. -/
def lineQueued (c : Nat) (s : State) : Bool := (s.chSt c).wq.any (fun e => e.line == scrubLine c s)

/-- What the scrub does to its line. -/
def lineDone (c err : Nat) (s : State) : State :=
  if lineQueued c s then s else if s.flag (R.DRM.st_FAULT c) then s.ueRead c (64 * scrubLine c s) else s.scrubRead c (scrubLine c s) err

theorem scrubLineFx_eq (c err : Nat) (s : State) : scrubLineFx c err s = (lineDone c err s).scrubNext c := rfl

/-- What the scrub leaves: the content, its place, and the capacity of the channel. -/
theorem lineDone_keeps {c : Nat} (hc : c < 4) (err : Nat) (s : State) : (lineDone c err s).drm.mem = s.drm.mem ∧
    ((lineDone c err s).chSt c).scrub = (s.chSt c).scrub ∧ (lineDone c err s).rd (R.DRM.CAPACITY c) = s.rd (R.DRM.CAPACITY c) := by
  have hscrub {t : State} (h : restOf (t.chSt c) = restOf (s.chSt c)) : (t.chSt c).scrub = (s.chSt c).scrub := congrArg (fun x => x.2.2.2.2.2.1) h
  unfold lineDone
  split
  · exact ⟨rfl, rfl, rfl⟩
  · split
    · obtain ⟨hpart, -, -, -, hcap, -⟩ := ueRead_shows hc s (64 * scrubLine c s)
      unfold scrubPart at hpart
      simp only [Prod.mk.injEq] at hpart
      obtain ⟨hmem, -, -, -, hrest⟩ := hpart
      exact ⟨hmem, hscrub (congrFun hrest c), hcap⟩
    · have h := scrubRead_shows hc (scrubLine c s) err s
      exact ⟨h.mem, hscrub h.rest, h.capacity⟩

/-- A line that no write waits for is checked, or in a faulted channel read in vain. -/
theorem lineDone_fault {c : Nat} (err : Nat) {s : State} (hq : lineQueued c s = false) (hf : s.flag (R.DRM.st_FAULT c) = true) :
    lineDone c err s = s.ueRead c (64 * scrubLine c s) := by
  unfold lineDone
  rw [hq, hf]
  rfl

theorem lineDone_read {c : Nat} (err : Nat) {s : State} (hq : lineQueued c s = false) (hf : s.flag (R.DRM.st_FAULT c) = false) :
    lineDone c err s = s.scrubRead c (scrubLine c s) err := by
  unfold lineDone
  rw [hq, hf]
  rfl

/-- An uncorrectable line counts. -/
theorem lineDone_poisoned {c : Nat} (hc : c < 4) {err : Nat} {s : State} (hq : lineQueued c s = false)
    (h : (s.flag (R.DRM.st_FAULT c) || linePoisoned s.drm.poison (scrubLine c s) || decide (2 ≤ err)) = true) :
    Counted s (lineDone c err s) (R.DRM.CNT_UE c) ∧ Pending (lineDone c err s) (R.DRM.ev_UE c) := by
  cases hf : s.flag (R.DRM.st_FAULT c) with
  | true =>
    obtain ⟨-, h1, -, -, -, h2, -⟩ := ueRead_shows hc s (64 * scrubLine c s)
    rw [lineDone_fault err hq hf]
    exact ⟨h1, h2⟩
  | false =>
    rw [hf, Bool.false_or] at h
    rw [lineDone_read err hq hf]
    exact (scrubRead_shows hc (scrubLine c s) err s).poisoned h

/-! Something done to each channel in turn. -/

/-- What the turn of one channel brings about stays through the others'. -/
theorem each_at {P Q : State → Prop} {f : State → Nat → State} {c : Nat} {I : Nat → Prop} (hpre : ∀ t i, I i → i ≠ c → P t → P (f t i))
    (hat : ∀ t, P t → Q (f t c)) (hpost : ∀ t i, I i → i ≠ c → Q t → Q (f t i)) {xs : List Nat} (hI : ∀ i ∈ xs, I i) (hmem : c ∈ xs)
    (hnodup : xs.Nodup) {s : State} (hs : P s) : Q (s.each xs f) := by
  have hafter : ∀ {ys : List Nat} {t : State}, (∀ i ∈ ys, I i) → c ∉ ys → Q t → Q (t.each ys f) := by
    intro ys
    induction ys with
    | nil => exact fun _ _ h => h
    | cons y ys ih =>
      intro t hys hy hq
      have hne : y ≠ c := fun h => hy (h ▸ List.mem_cons_self)
      exact ih (fun i hi => hys i (List.mem_cons_of_mem _ hi)) (fun h => hy (List.mem_cons_of_mem _ h)) (hpost t y (hys y List.mem_cons_self) hne hq)
  induction xs generalizing s with
  | nil => exact absurd hmem List.not_mem_nil
  | cons x xs ih =>
    obtain ⟨hx, hrest⟩ := List.nodup_cons.mp hnodup
    have hI' : ∀ i ∈ xs, I i := fun i hi => hI i (List.mem_cons_of_mem _ hi)
    show Q ((f s x).each xs f)
    by_cases h : x = c
    · subst h
      exact hafter hI' hx (hat s hs)
    · exact ih hI' ((List.mem_cons.mp hmem).resolve_left fun he => h he.symm) hrest (hpre s x (hI x List.mem_cons_self) h hs)

/-- The same for every channel that runs. -/
theorem channels_at {P Q : State → Prop} {f : State → Nat → State} {s : State} {c : Nat} (hfour : s.drm.chans ≤ 4) (hc : c < s.drm.chans)
    (hpre : ∀ t i, i < 4 → i ≠ c → P t → P (f t i)) (hat : ∀ t, P t → Q (f t c)) (hpost : ∀ t i, i < 4 → i ≠ c → Q t → Q (f t i)) {u : State} (hu : P u) :
    Q (u.each s.channels f) :=
  each_at (I := (· < 4)) hpre hat hpost (fun i hi => (List.mem_range.mp hi).trans_le hfour) (List.mem_range.mpr hc) List.nodup_range hu

/-! The error window. -/

/-- A new millisecond of a channel. -/
def newBin (s : State) (c : Nat) : State := ((s.modCh c (fun r => { r with bins := (0 :: r.bins).take 1000 })).showUe c).showBw c

theorem chSt_showBw (s : State) (c q : Nat) : (s.showBw c).chSt q = s.chSt q := chSt_wr s.fresh.2 _ _ q

theorem rd_showBw {f : Fld} {c : Nat} (h : sep f (R.DRM.BW c) = true) (s : State) : (s.showBw c).rd f = s.rd f := rd_wr_sep s.fresh.2 _ h

theorem newBin_other {c i : Nat} (hc : c < 4) (hi : i < 4) (h : i ≠ c) (s : State) : (newBin s i).chSt c = s.chSt c ∧
    (newBin s i).rd (R.DRM.UE_1S c) = s.rd (R.DRM.UE_1S c) := by
  have hsep : ∀ c < 4, ∀ i < 4, i ≠ c → sep (R.DRM.UE_1S c) (R.DRM.BW i) = true ∧ sep (R.DRM.UE_1S c) (R.DRM.UE_1S i) = true := by decide
  obtain ⟨h1, h2⟩ := hsep c hc i hi h
  exact ⟨(chSt_showBw _ _ _).trans ((chSt_wr _ _ _ _).trans (chSt_modCh_ne s (Ne.symm h) _)), (rd_showBw h1 _).trans (rd_wr_sep _ _ h2)⟩

theorem newBin_own {c : Nat} (hc : c < 4) (s : State) : ((newBin s c).chSt c).bins = (0 :: (s.chSt c).bins).take 1000 ∧
    (newBin s c).rd (R.DRM.UE_1S c) = min (((0 :: (s.chSt c).bins).take 1000).foldl (· + ·) 0) 65535 := by
  let u : State := s.modCh c (fun r => { r with bins := (0 :: r.bins).take 1000 })
  have hu : (u.chSt c).bins = (0 :: (s.chSt c).bins).take 1000 := congrArg ChSt.bins (chSt_modCh s c _)
  refine ⟨(congrArg ChSt.bins ((chSt_showBw _ _ _).trans (chSt_wr _ _ _ _))).trans hu, ?_⟩
  refine (rd_showBw (by interval_cases c <;> decide) _).trans ((rd_wr_own _ _ rfl).trans ?_)
  rw [hu]
  exact Nat.mod_eq_of_lt (Nat.lt_of_le_of_lt (Nat.min_le_right _ _) (show 65535 < 2 ^ 16 by decide))

theorem ueRate_keeps {c : Nat} (hc : c < 4) (s : State) : Stays (fun s => s.drm) [R.DRM.UE_1S c] s s.ueRate := by
  have h := staysFrame (F := fun s : State => s.drm) (fun _ _ _ => rfl) [R.DRM.UE_1S c]
  have hq (p : Nat) : quietFor [R.DRM.UE_1S c] p = true := quiet_of_off rfl p
  unfold State.ueRate
  refine h.trans (h.level s _ (hq _) (show 7 < 32 by decide)) (h.cond fun _ => ?_)
  exact frame_ground h (fun _ _ _ => .other rfl rfl) (fun _ _ => .other rfl rfl) (by interval_cases c <;> decide) (hq _) _ _

/-! The frequency change. -/

/-- What a channel that enters a change shows, and what it leaves of the others. -/
theorem enterChange_own {c : Nat} (hc : c < 4) (s : State) : (s.enterChange c).rd (R.DRM.FREQ_BUSY c) = 1 ∧ (s.enterChange c).rd (R.DRM.IN_SR c) = 1 ∧
    ((s.enterChange c).chSt c).wq = [] ∧ ((s.enterChange c).chSt c).owed = [] := by
  let u : State := ((s.wr (R.DRM.FREQ_BUSY c) 1).wr (R.DRM.IN_SR c) 1).wr (R.DRM.POSTPONED c) 0
  have hu : (s.enterChange c).chSt c = { u.chSt c with wq := [], owed := [], ahead := [], urgent := [], openRows := [] } := chSt_modCh u c _
  have hrd : u.rd (R.DRM.FREQ_BUSY c) = 1 ∧ u.rd (R.DRM.IN_SR c) = 1 := by
    refine ⟨(rd_wr_sep _ _ ?_).trans ((rd_wr_sep _ _ ?_).trans (rd_wr_own _ _ rfl)), (rd_wr_sep _ _ ?_).trans (rd_wr_own _ _ rfl)⟩ <;> interval_cases c <;> decide
  rw [hu]
  exact ⟨hrd.1, hrd.2, rfl, rfl⟩

/-- Fields of a channel that another's change leaves, and what concerns the controller as a whole. -/
def changeFields (c : Nat) : List Fld := [R.DRM.FREQ_REFUSED 0, R.DRM.st_FAULT c, R.DRM.FREQ_BUSY c, R.DRM.IN_SR c, R.DRM.ACTIVE_SET c]
def changePart (c : Nat) (s : State) : List Host.Cell × Nat × ChSt := (s.drm.mem, s.drm.target, s.chSt c)

theorem change_quiet (c p : Nat) : quietFor (changeFields c) p = true := quiet_of_off rfl p

theorem change_apart {c i : Nat} (hc : c < 4) (hi : i < 4) (h : i ≠ c) :
    ∀ f ∈ [R.DRM.FREQ_BUSY i, R.DRM.IN_SR i, R.DRM.POSTPONED i, R.DRM.ACTIVE_SET i], apartFrom (changeFields c) f = true := by
  have hall : ∀ c < 4, ∀ i < 4, i ≠ c → ∀ f ∈ [R.DRM.FREQ_BUSY i, R.DRM.IN_SR i, R.DRM.POSTPONED i, R.DRM.ACTIVE_SET i],
      apartFrom (changeFields c) f = true := by decide
  exact hall c hc i hi h

theorem enterChange_other {c i : Nat} (hc : c < 4) (hi : i < 4) (h : i ≠ c) (s : State) : Stays (changePart c) (changeFields c) s (s.enterChange i) := by
  have hf := staysFrame (F := changePart c) (fun _ _ _ => rfl) (changeFields c)
  have hw := change_apart hc hi h
  have hmod (t : State) (f : ChSt → ChSt) : Stays (changePart c) (changeFields c) t (t.modCh i f) := by
    refine .other ?_ rfl
    unfold changePart
    rw [chSt_modCh_ne t (Ne.symm h)]
    rfl
  exact hf.trans (hf.trans (hf.trans (hf.wr s _ (hw _ (by simp))) (hf.wr _ _ (hw _ (by simp)))) (hf.wr _ _ (hw _ (by simp)))) (hmod _ _)

/-- The end of a change for one channel: its status, and, if it is not in FAULT, its set. -/
def changeStatus (s : State) (c : Nat) : State := ((s.wr (R.DRM.FREQ_BUSY c) 0).wr (R.DRM.IN_SR c) 0).wr (R.DRM.POSTPONED c) 0
def changeSet (s : State) (c : Nat) : State := ((s.trainSet c s.drm.target).wr (R.DRM.ACTIVE_SET c) s.drm.target).raise (R.DRM.ev_FREQ_DONE c)
def changeEnd (s : State) (c : Nat) : State :=
  if (changeStatus s c).flag (R.DRM.st_FAULT c) then changeStatus s c else changeSet (changeStatus s c) c

theorem trainSet_eq (s : State) (c set : Nat) : ∃ i n, s.trainSet c set = { s with imm := i, free := n } := by
  unfold State.trainSet
  split
  · exact ⟨s.imm, s.free, rfl⟩
  · refine each_keeps (P := fun t => ∃ i n, t = { s with imm := i, free := n }) _ (fun t x ht => ?_) ⟨s.imm, s.free, rfl⟩
    obtain ⟨i, n, rfl⟩ := ht
    exact ⟨_, _, rfl⟩

theorem changeEnd_other {c i : Nat} (hc : c < 4) (hi : i < 4) (h : i ≠ c) (s : State) : Stays (changePart c) (changeFields c) s (changeEnd s i) := by
  have hf := staysFrame (F := changePart c) (fun _ _ _ => rfl) (changeFields c)
  have hw := change_apart hc hi h
  have htrain (t : State) (set : Nat) : Stays (changePart c) (changeFields c) t (t.trainSet i set) := by
    obtain ⟨m, n, he⟩ := trainSet_eq t i set
    rw [he]
    exact .other rfl rfl
  unfold changeEnd
  refine hf.trans (hf.trans (hf.trans (hf.wr s 0 (hw _ (by simp))) (hf.wr _ 0 (hw _ (by simp)))) (hf.wr _ 0 (hw _ (by simp)))) (hf.ite (fun _ => hf.refl _) fun _ => ?_)
  exact hf.trans (hf.trans (htrain _ _) (hf.wr _ _ (hw _ (by simp)))) (hf.raise _ (change_quiet c _) (show 5 < 32 by decide))

theorem changeStatus_shows {c : Nat} (hc : c < 4) (s : State) : (changeStatus s c).rd (R.DRM.FREQ_BUSY c) = 0 ∧ (changeStatus s c).rd (R.DRM.IN_SR c) = 0 ∧
    (changeStatus s c).flag (R.DRM.st_FAULT c) = s.flag (R.DRM.st_FAULT c) ∧ (changeStatus s c).drm = s.drm := by
  refine ⟨(rd_wr_sep _ _ ?_).trans ((rd_wr_sep _ _ ?_).trans (rd_wr_own _ _ rfl)), (rd_wr_sep _ _ ?_).trans (rd_wr_own _ _ rfl),
    congrArg (· != 0) ((rd_wr_sep _ _ ?_).trans ((rd_wr_sep _ _ ?_).trans (rd_wr_sep _ _ ?_))), (wr_drm _ _ _).trans ((wr_drm _ _ _).trans (wr_drm _ _ _))⟩
    <;> interval_cases c <;> decide

theorem changeSet_shows {c : Nat} (hc : c < 4) (s : State) : (∀ f ∈ [R.DRM.FREQ_BUSY c, R.DRM.IN_SR c], (changeSet s c).rd f = s.rd f) ∧
    (changeSet s c).rd (R.DRM.ACTIVE_SET c) = s.drm.target % 2 ∧ Pending (changeSet s c) (R.DRM.ev_FREQ_DONE c) := by
  obtain ⟨m, n, he⟩ := trainSet_eq s c s.drm.target
  have hsep : ∀ f ∈ [R.DRM.FREQ_BUSY c, R.DRM.IN_SR c], sep f (R.DRM.ACTIVE_SET c) = true ∧ offKey f (evtPendKey (R.DRM.ev_FREQ_DONE c).page) = true := by
    interval_cases c <;> decide
  refine ⟨fun f hf => (rd_raise_sep _ (hsep f hf).2).trans ((rd_wr_sep _ _ (hsep f hf).1).trans ?_),
    (rd_raise_sep _ (by interval_cases c <;> decide)).trans (rd_wr_own _ _ rfl), pending_raise _ (show 5 < 32 by decide)⟩
  rw [he]
  rfl

theorem changeEnd_own {c : Nat} (hc : c < 4) (s : State) : (changeEnd s c).rd (R.DRM.FREQ_BUSY c) = 0 ∧ (changeEnd s c).rd (R.DRM.IN_SR c) = 0 ∧
    (s.flag (R.DRM.st_FAULT c) = false → (changeEnd s c).rd (R.DRM.ACTIVE_SET c) = s.drm.target % 2 ∧ Pending (changeEnd s c) (R.DRM.ev_FREQ_DONE c)) := by
  obtain ⟨hbusy, hsr, hflag, hdrm⟩ := changeStatus_shows hc s
  unfold changeEnd
  rw [hflag]
  cases hf : s.flag (R.DRM.st_FAULT c) with
  | true =>
    rw [if_pos rfl]
    exact ⟨hbusy, hsr, fun h => absurd h (by decide)⟩
  | false =>
    obtain ⟨hkept, hset, hpend⟩ := changeSet_shows hc (changeStatus s c)
    rw [if_neg (by decide)]
    rw [hdrm] at hset
    exact ⟨(hkept _ (by simp)).trans hbusy, (hkept _ (by simp)).trans hsr, fun _ => ⟨hset, hpend⟩⟩

/-- The fields of a channel that show the change. -/
def calmFields (c : Nat) : List Fld := [R.DRM.FREQ_BUSY c, R.DRM.IN_SR c, R.DRM.ACTIVE_SET c]

/-- The service of waiting reads leaves them. -/
theorem calmDram {c : Nat} (hc : c < 4) : DramRel (Stays (fun _ : State => ()) (calmFields c)) (apartFrom (calmFields c)) (quietFor (calmFields c)) :=
  staysDram (fun _ _ _ => rfl) (fun _ _ _ => rfl) (fun _ _ => rfl) (fun _ _ _ => rfl) (by interval_cases c <;> decide)

theorem freqDoneFx_eq (s : State) : freqDoneFx s = State.serveReads (s.each s.channels changeEnd).drm.reads (s.each s.channels changeEnd) := rfl

/-- What the end of a change shows of a channel. -/
theorem freqDone_shows {s : State} (hfour : s.drm.chans ≤ 4) {c : Nat} (hc : c < s.drm.chans) : (freqDoneFx s).rd (R.DRM.FREQ_BUSY c) = 0 ∧
    (freqDoneFx s).rd (R.DRM.IN_SR c) = 0 ∧
    (s.flag (R.DRM.st_FAULT c) = false → (freqDoneFx s).rd (R.DRM.ACTIVE_SET c) = s.drm.target % 2 ∧ Pending (freqDoneFx s) (R.DRM.ev_FREQ_DONE c)) := by
  have hc4 : c < 4 := hc.trans_le hfour
  have hloop := channels_at (P := fun t => Stays (fun s => s.drm.target) [R.DRM.st_FAULT c] s t)
    (Q := fun t => t.rd (R.DRM.FREQ_BUSY c) = 0 ∧ t.rd (R.DRM.IN_SR c) = 0 ∧
      (s.flag (R.DRM.st_FAULT c) = false → t.rd (R.DRM.ACTIVE_SET c) = s.drm.target % 2 ∧ Pending t (R.DRM.ev_FREQ_DONE c)))
    (f := changeEnd) hfour hc (fun t i hi hne ht => ?_) (fun t ht => ?_) (fun t i hi hne hq => ?_) (u := s) ⟨rfl, fun _ _ => rfl, fun _ h => h⟩
  · have hserve := frame_serveReads (calmDram hc4) (s.each s.channels changeEnd).drm.reads (s.each s.channels changeEnd)
    obtain ⟨h1, h2, h3⟩ := hloop
    rw [freqDoneFx_eq]
    refine ⟨(hserve.rd _ (by simp [calmFields])).trans h1, (hserve.rd _ (by simp [calmFields])).trans h2, fun hf => ?_⟩
    obtain ⟨h4, h5⟩ := h3 hf
    exact ⟨(hserve.rd _ (by simp [calmFields])).trans h4, hserve.pend _ h5⟩
  · have hk := changeEnd_other hc4 hi hne t
    refine ⟨(congrArg (fun x => x.2.1) hk.part).trans ht.part, fun f hf => ?_, fun e he => hk.pend e (ht.pend e he)⟩
    rw [List.mem_singleton.mp hf]
    exact (hk.rd _ (by simp [changeFields])).trans (ht.rd _ (by simp))
  · obtain ⟨h1, h2, h3⟩ := changeEnd_own hc4 t
    rw [show t.flag (R.DRM.st_FAULT c) = s.flag (R.DRM.st_FAULT c) from congrArg (· != 0) (ht.rd _ (by simp)), show t.drm.target = s.drm.target from ht.part] at h3
    exact ⟨h1, h2, h3⟩
  · have hk := changeEnd_other hc4 hi hne t
    obtain ⟨h1, h2, h3⟩ := hq
    refine ⟨(hk.rd _ (by simp [changeFields])).trans h1, (hk.rd _ (by simp [changeFields])).trans h2, fun hf => ?_⟩
    obtain ⟨h4, h5⟩ := h3 hf
    exact ⟨(hk.rd _ (by simp [changeFields])).trans h4, hk.pend _ h5⟩

/-- The state when FREQ_GO was accepted, before the channels enter the change. -/
def changeAsked (v : Word32) (s : State) : State :=
  { s.wr (R.DRM.FREQ_REFUSED 0) 0 with drm := { (s.wr (R.DRM.FREQ_REFUSED 0) 0).drm with target := fieldOf v 1 1 } }

theorem changeAsked_drm (v : Word32) (s : State) : (changeAsked v s).drm = { s.drm with target := fieldOf v 1 1 } := by
  unfold changeAsked
  rw [wr_drm]

/-- What an accepted FREQ_GO shows. -/
theorem freqGo_shows {s : State} (hfour : s.drm.chans ≤ 4) (v : Word32) (t : State) (ht : t = (changeAsked v s).each s.channels State.enterChange) :
    t.rd (R.DRM.FREQ_REFUSED 0) = 0 ∧ t.drm.target = fieldOf v 1 1 ∧ t.drm.mem = s.drm.mem ∧ ∀ c, c < s.drm.chans → t.rd (R.DRM.FREQ_BUSY c) = 1 ∧
      t.rd (R.DRM.IN_SR c) = 1 ∧ (t.chSt c).wq = [] ∧ (t.chSt c).owed = [] := by
  subst ht
  have hall : Stays (fun s : State => (s.drm.mem, s.drm.target)) [R.DRM.FREQ_REFUSED 0] (changeAsked v s) ((changeAsked v s).each s.channels State.enterChange) := by
    have hf := staysFrame (F := fun s : State => (s.drm.mem, s.drm.target)) (fun _ _ _ => rfl) [R.DRM.FREQ_REFUSED 0]
    refine hf.each fun t i hi => ?_
    have hi4 : i < 4 := (List.mem_range.mp hi).trans_le hfour
    have hw : ∀ f ∈ [R.DRM.FREQ_BUSY i, R.DRM.IN_SR i, R.DRM.POSTPONED i], apartFrom [R.DRM.FREQ_REFUSED 0] f = true := by interval_cases i <;> decide
    exact hf.trans (hf.trans (hf.trans (hf.wr t _ (hw _ (by simp))) (hf.wr _ _ (hw _ (by simp)))) (hf.wr _ _ (hw _ (by simp)))) (.other rfl rfl)
  have hpart := hall.part
  simp only [Prod.mk.injEq] at hpart
  obtain ⟨hmem, htarget⟩ := hpart
  refine ⟨(hall.rd _ (by simp)).trans (rd_wr_own s 0 rfl), htarget.trans (by rw [changeAsked_drm]), hmem.trans (by rw [changeAsked_drm]), fun c hc => ?_⟩
  have hc4 : c < 4 := hc.trans_le hfour
  refine channels_at (P := fun _ => True) (f := State.enterChange) hfour hc (fun _ _ _ _ _ => trivial) (fun t _ => enterChange_own hc4 t) (fun t i hi hne hq => ?_)
    (Q := fun t => t.rd (R.DRM.FREQ_BUSY c) = 1 ∧ t.rd (R.DRM.IN_SR c) = 1 ∧ (t.chSt c).wq = [] ∧ (t.chSt c).owed = []) trivial
  have hk := enterChange_other hc4 hi hne t
  have hch : (t.enterChange i).chSt c = t.chSt c := congrArg (fun x => x.2.2) hk.part
  obtain ⟨h1, h2, h3, h4⟩ := hq
  exact ⟨(hk.rd _ (by simp [changeFields])).trans h1, (hk.rd _ (by simp [changeFields])).trans h2, by rw [hch]; exact h3, by rw [hch]; exact h4⟩

/-- Settles O40: each clause from what its command does to the channel's record and to its counters; what waited for a replay or for the end of a change
    is served without a part in what is shown. -/
theorem dramRefreshAlertsAndScrub : Obligations.DramRefreshAlertsAndScrub := by
  unfold Obligations.DramRefreshAlertsAndScrub
  refine ⟨fun c rank hits s hs hc hready hbusy => ⟨_, rfl, ?_⟩, fun c wcrc s hs hc hready hen => ⟨_, rfl, ?_⟩, fun c again s hs hc hready halert => ⟨_, rfl, ?_⟩,
    fun c err s hs hc hready hstop => ⟨_, rfl, ?_⟩, fun c s hs hc hready => ⟨⟨_, rfl, ?_⟩, ⟨_, rfl, ?_⟩⟩, fun c s hs hfour hc => ⟨_, rfl, ?_⟩,
    fun v s hs hv => ⟨fun hgo hfour => ⟨_, rfl, ?_⟩, fun hno => ⟨_, rfl, ?_⟩⟩, fun s hs hbusy hfour halert => ⟨_, rfl, ?_⟩⟩
  · rw [cond_of (b := s.isSender && s.chReady c && !s.flag (R.DRM.FREQ_BUSY c)) (by rw [hs, hready, hbusy]; rfl)]
    have hmem : (refreshFx c rank hits s.start).drm.mem = s.drm.mem := by
      by_cases ha : aheadOf s c rank = 0
      · by_cases ho : 8 ≤ owedOf s c rank
        · exact (refresh_forced (s := s.start) ha ho hits).1
        · cases hp : hits || (s.chSt c).alert
          · exact (refresh_issued (s := s.start) ha (by exact Nat.lt_of_not_le ho) hp).1
          · exact (refresh_postponed (s := s.start) ha (by exact Nat.lt_of_not_le ho) hp).1
      · exact (refresh_covered (s := s.start) ha hits).1
    exact ⟨hmem, fun ha => (refresh_covered (s := s.start) ha hits).2, fun ha ho => (refresh_forced (s := s.start) ha ho hits).2,
      fun ha ho hp => (refresh_postponed (s := s.start) ha ho hp).2, fun ha ho hp => (refresh_issued (s := s.start) ha ho hp).2⟩
  · rw [cond_of (b := s.isSender && s.chReady c && s.lvB (if wcrc then R.DRM.WCRC_EN c else R.DRM.CA_PAR_EN c)) (by rw [hs, hready, hen]; rfl)]
    exact alertFx_shows s.start hc wcrc
  · rw [cond_of (b := s.isSender && s.chReady c && (s.chSt c).alert) (by rw [hs, hready, halert]; rfl)]
    cases again with
    | false =>
      obtain ⟨h1, h2, h3, h4, h5⟩ := alertReturn_ends hc s.start
      exact ⟨h5, h4, fun _ => ⟨h1, h2, h3⟩, fun h => absurd h (by decide), fun h => absurd h (by decide)⟩
    | true =>
      obtain ⟨h1, h2, h3, h4, h5⟩ := alertAgain_shows hc s.start
      have hn := (replayed_shows hc s.start).2.1
      rw [alertReturn_again, hn]
      by_cases h7 : 7 ≤ (s.chSt c).replays
      · obtain ⟨g1, g2, g3, g4⟩ := faulted_shows hc (alertAgain c s.start) _ rfl
        rw [cond_of (decide_eq_true (show 8 ≤ (s.start.chSt c).replays + 1 by exact Nat.succ_le_succ h7))]
        exact ⟨g2.trans h4, g1.trans h3, fun h => absurd h (by decide), fun _ h => absurd h (Nat.not_lt_of_le h7), fun _ _ => ⟨g3, g4⟩⟩
      · have hlt : (s.chSt c).replays < 7 := Nat.lt_of_not_le h7
        rw [cond_of_not (decide_eq_false (show ¬ 8 ≤ (s.start.chSt c).replays + 1 from fun h => h7 (Nat.le_of_succ_le_succ h)))]
        exact ⟨h4, h3, fun h => absurd h (by decide), fun _ _ => ⟨h1.trans (decide_eq_true (Nat.succ_lt_succ hlt)), h2, h5⟩, fun _ h => absurd h h7⟩
  · rw [cond_of (b := s.isSender && s.chReady c && !s.chStopped c) (by rw [hs, hready, hstop]; rfl), scrubLineFx_eq]
    obtain ⟨hmem, hscrub, hcap⟩ := lineDone_keeps hc err s.start
    obtain ⟨n1, n2, n3, n4, n5⟩ := scrubNext_shows hc (lineDone c err s.start)
    rw [hscrub, hcap] at n1
    refine ⟨Config.freeVal s.free % 8, Nat.mod_lt _ (by decide), n2.trans hmem, n1, fun hq => ?_, fun hq hf => ?_, fun he hp => ?_, fun hq hp => ?_⟩
    · have hline : lineDone c err s.start = s.start := if_pos hq
      exact ⟨(n4 _ (by simp)).trans (by rw [hline]; rfl), (n4 _ (by simp)).trans (by rw [hline]; rfl)⟩
    · have hread := scrubRead_shows hc (scrubLine c s.start) err s.start
      rw [← lineDone_read (s := s.start) err hq hf] at hread
      refine ⟨(n4 _ (by simp)).trans hread.corrected, fun hweak => ?_⟩
      obtain ⟨h1, h2, h3⟩ := hread.rewritten hweak
      exact ⟨(n4 _ (by simp)).trans h1, n5 _ h2, (n3 _).trans h3⟩
    · subst he
      exact weak_of_one (s := s) (Nat.mod_lt _ (by decide)) hp
    · obtain ⟨h1, h2⟩ := lineDone_poisoned (s := s.start) hc hq hp
      exact ⟨(n4 _ (by simp)).trans h1, n5 _ h2⟩
  · rw [cond_of (b := s.isSender && s.chReady c) (by rw [hs, hready]; rfl)]
    exact ⟨rfl, congrArg ChSt.scrub (chSt_modCh s.start c (fun r => { r with scrub := 0 })), rfl⟩
  · rw [cond_of (b := s.isSender && s.chReady c) (by rw [hs, hready]; rfl)]
    exact ⟨onlyRegs_trans (onlyRegs_start s) (onlyRegs_level _ _ _), raw_level _ (show 6 < 32 by decide) _, wordsKept_level s.start (R.DRM.ev_SCRUB_LATE c) _⟩
  · have hc4 : c < 4 := hc.trans_le hfour
    rw [cond_of (b := s.isSender) hs]
    have hloop := channels_at (s := s) (P := fun t => t.chSt c = s.chSt c) (Q := fun t => (t.chSt c).bins = (0 :: (s.chSt c).bins).take 1000 ∧
      t.rd (R.DRM.UE_1S c) = min (((0 :: (s.chSt c).bins).take 1000).foldl (· + ·) 0) 65535) (f := newBin) hfour hc
      (fun t i hi hne ht => (newBin_other hc4 hi hne t).1.trans ht) (fun t ht => by rw [← ht]; exact newBin_own hc4 t)
      (fun t i hi hne hq => by obtain ⟨h1, h2⟩ := newBin_other hc4 hi hne t; rw [h1, h2]; exact hq) (u := s.start) rfl
    have hrate := ueRate_keeps hc4 (s.start.each s.channels newBin)
    obtain ⟨h1, h2⟩ := hloop
    exact ⟨(congrArg ChSt.bins (chSt_of_drm hrate.part c)).trans h1, (hrate.rd _ (by simp)).trans h2⟩
  · rw [cond_of (b := s.isSender && v.getLsbD 0) (by rw [hs, hv]; rfl)]
    have hfx : freqGoFx 0 v s.start = (changeAsked v s.start).each s.channels State.enterChange := by
      have hchannels : (changeAsked v s.start).channels = s.channels := by
        unfold State.channels
        rw [changeAsked_drm]
        rfl
      rw [← hchannels]
      exact if_pos hgo
    exact freqGo_shows (s := s.start) hfour v _ hfx
  · rw [cond_of (b := s.isSender && v.getLsbD 0) (by rw [hs, hv]; rfl)]
    have hfx : freqGoFx 0 v s.start = s.start.wr (R.DRM.FREQ_REFUSED 0) 1 := if_neg hno
    rw [hfx]
    exact ⟨onlyRegs_trans (onlyRegs_start s) (onlyRegs_wr _ _ _), rd_wr_own _ _ rfl, wordsKept_wr s.start (by decide) 1⟩
  · have hall : s.channels.all (fun c => !(s.chSt c).alert) = true := List.all_eq_true.mpr fun c hc => by rw [halert c (List.mem_range.mp hc)]; rfl
    rw [cond_of (b := s.isSender && s.flag (R.DRM.FREQ_BUSY 0) && s.channels.all (fun c => !(s.chSt c).alert)) (by rw [hs, hbusy, hall]; rfl)]
    exact fun c hc => freqDone_shows (s := s.start) hfour hc

end Sys2Proof.Proofs.DramControl


/-!
Frames of the stream decoder (07 R163 to R183): which fields and records the receiver's side writes.
-/

namespace Sys2Proof.Proofs.DecoderFrames
open Sys2Proof.Machine Sys2Proof.Laws Sys2Proof.Proofs.Frames Sys2Proof.Proofs.FieldRules Sys2Proof.Proofs.Framing Sys2Proof.Proofs.DramFrames

/-- What the receiver's side leaves of a stream's record. -/
def pictureSide (d : DecSt) : Bool × Bool × Nat × Bool × List DpbPic × Bool × Option (Int × List (List Int) × List (List Int) × List (List Int)) :=
  (d.started, d.rasl, d.verdict, d.late, d.dpb, d.nextBottom, d.last)

/-- A relation that the decoder's records may change under, as far as the receiver's side changes them. -/
def DecFree (Rel : State → State → Prop) : Prop :=
  ∀ (s : State) (d : DecAll), (∀ n, pictureSide (smGet decDefaultSt d.st n) = pictureSide (s.decSt n)) → Rel s { s with dec := d }

/-- The fields that it writes. -/
def receiveFields (n : Nat) : List Fld :=
  [R.DEC.LAST_STREAM, R.DEC.DSTATE n, R.DEC.RUNNING, R.DEC.BACKLOG n, R.DEC.st_OVERLOAD, R.DEC.CNT_SKIP, R.DEC.CNT_SHED n, R.DEC.CNT_BS_OVERFLOW]

section
variable {Rel : State → State → Prop} {W : Fld → Bool} {E : Nat → Bool} (h : Frame Rel W E) (hdec : DecFree Rel) {n : Nat}
  (hW : ∀ f ∈ receiveFields n, W f = true) (hE : E 0x030 = true)

theorem decSt_modDec (s : State) (n : Nat) (f : DecSt → DecSt) : (s.modDec n f).decSt n = f (s.decSt n) := smGet_set_same _ _ _ _

theorem decSt_modDec_ne (s : State) {n q : Nat} (hq : q ≠ n) (f : DecSt → DecSt) : (s.modDec n f).decSt q = s.decSt q := smGet_set_other _ _ _ hq

include hdec in
theorem frame_modDec (s : State) (n : Nat) {f : DecSt → DecSt} (hf : ∀ x, pictureSide (f x) = pictureSide x) : Rel s (s.modDec n f) := by
  refine hdec s _ fun q => ?_
  show pictureSide ((s.modDec n f).decSt q) = _
  by_cases hq : q = n
  · rw [hq, decSt_modDec, hf]
  · rw [decSt_modDec_ne s hq]

include h hW in
theorem frame_showDstate (s : State) : Rel s (s.showDstate n) :=
  h.trans (h.wr s _ (hW _ (by simp [receiveFields]))) (h.wr _ _ (hW _ (by simp [receiveFields])))

include h hW in
theorem frame_showBacklog (s : State) : Rel s (s.showBacklog n) := h.wr s _ (hW _ (by simp [receiveFields]))

include h hW hE in
theorem frame_decRaise (s : State) {e : Evt} (he : e.page = 0x030) (hb : e.bit < 32) : Rel s (s.decRaise n e) :=
  h.trans (h.wr s _ (hW _ (by simp [receiveFields]))) (h.raise _ (by rw [he]; exact hE) hb)

include h hdec hW hE

theorem frame_setShedding (s : State) (b : Bool) : Rel s (s.setShedding n b) := by
  unfold State.setShedding
  refine h.trans ?_ (h.level _ _ hE (by decide))
  refine h.trans ?_ (h.wrB _ _ (hW _ (by simp [receiveFields])))
  exact h.trans (h.cond fun _ => h.wr s _ (hW _ (by simp [receiveFields]))) (hdec _ _ fun _ => rfl)

theorem frame_skipToIrap (s : State) : Rel s (s.skipToIrap n) := by
  have hskip : W R.DEC.CNT_SKIP = true := hW _ (by simp [receiveFields])
  have hmod (t : State) (f : DecSt → DecSt) (hf : ∀ x, pictureSide (f x) = pictureSide x) : Rel t (t.modDec n f) := frame_modDec hdec t n hf
  have hraise (t : State) : Rel t (t.decRaise n R.DEC.ev_SKIP) := frame_decRaise h hW hE t (e := R.DEC.ev_SKIP) rfl (by decide)
  have hcount (b : Bool) (k : Nat) : Rel s ((s.cond b (fun s => s.decRaise n R.DEC.ev_SKIP)).incBy R.DEC.CNT_SKIP k) :=
    h.trans (h.cond fun _ => hraise s) (h.incBy _ k hskip)
  unfold State.skipToIrap
  simp only
  split
  · exact h.trans (hcount _ _) (hmod _ _ fun _ => rfl)
  · refine h.ite (fun _ => h.trans (hcount _ _) (hmod _ _ fun _ => rfl)) fun _ => ?_
    exact h.trans (h.trans (hcount _ _) (h.cond fun _ => h.inc _ hskip)) (hmod _ _ fun _ => rfl)

theorem frame_shed (fuel : Nat) (s : State) : Rel s (s.shed n fuel) := by
  induction fuel generalizing s with
  | zero => exact h.refl s
  | succ fuel ih =>
    unfold State.shed
    refine h.ite (fun _ => h.refl s) fun _ => ?_
    split
    · refine h.trans ?_ (ih _)
      refine h.trans ?_ (frame_modDec hdec _ n fun _ => rfl)
      exact h.trans (h.inc s (hW _ (by simp [receiveFields]))) (frame_decRaise h hW hE _ (e := R.DEC.ev_SHED) rfl (by decide))
    · exact h.ite (fun _ => h.refl s) fun _ => frame_skipToIrap h hdec hW hE s

theorem frame_backlog (s : State) : Rel s (s.backlog n) := by
  unfold State.backlog
  refine h.trans ?_ (frame_showDstate h hW _)
  refine h.trans ?_ (frame_showBacklog h hW _)
  refine h.trans ?_ (frame_setShedding h hdec hW hE _ _)
  exact h.cond fun _ => h.trans (frame_setShedding h hdec hW hE s _) (frame_shed h hdec hW hE _ _)

theorem frame_auDone (s : State) : Rel s (s.auDone n) := by
  have hmod (f : DecSt → DecSt) (hf : ∀ x, pictureSide (f x) = pictureSide x) : Rel s (s.modDec n f) := frame_modDec hdec s n hf
  unfold State.auDone
  refine h.ite (fun _ => hmod _ ?_) fun _ => h.ite (fun _ => h.refl s) fun _ => h.trans (hmod _ ?_) (frame_backlog h hdec hW hE _)
    <;> exact fun _ => rfl

omit hW hE h in
theorem frame_sliceIn (s : State) (nal : List Byte) (whole : Bool) : Rel s (s.sliceIn n nal whole) := frame_modDec hdec s n fun _ => rfl

theorem frame_auNext (s : State) (nal : List Byte) : Rel s (s.auNext n nal) := h.cond fun _ => frame_auDone h hdec hW hE s

end

/-! The steps of a packet of the decoder's. -/

/-- A NAL unit that lacks a fragment is discarded. -/
def gapLost (n : Nat) (gap : Bool) (s : State) : State :=
  match gap, (s.decSt n).frag with
  | true, some nal => (s.modDec n (fun d => { d with frag := none })).sliceLost n nal
  | _, _ => s

/-- Another timestamp ends the access unit. -/
def stampTaken (n : Nat) (r : Rtp) (s : State) : State :=
  (s.cond ((s.decSt n).ts != some r.ts) (fun s => s.auDone n)).modDec n (fun d => { d with ts := some r.ts })

/-- What a fragmentation unit has put together with what came before it. -/
def fragTaken (n : Nat) (r : Rtp) (s : State) : Option (List Byte) :=
  if (leAt r.body 2 1).testBit 7 then some (fragHeader r.body ++ r.body.drop 3) else (s.decSt n).frag.map (· ++ r.body.drop 3)

/-- The NAL units of the payload. -/
def bodyTaken (n : Nat) (r : Rtp) (s : State) : State :=
  if nalType r.body = 48 then s.each (aggregated r.body.length (r.body.drop 2)) (fun s nal => s.nalIn n nal)
  else if nalType r.body = 49 then
    if (leAt r.body 2 1).testBit 6 then
      match fragTaken n r s with
      | none => s.modDec n (fun x => { x with frag := none })
      | some nal => (s.modDec n (fun x => { x with frag := none })).nalIn n nal
    else s.modDec n (fun x => { x with frag := fragTaken n r s })
  else s.nalIn n r.body

theorem depacket_eq (s : State) (n : Nat) (r : Rtp) (gap : Bool) :
    s.depacket n r gap = (bodyTaken n r (stampTaken n r (gapLost n gap s))).cond r.marker (fun s => s.auDone n) := rfl

section
variable {Rel : State → State → Prop} {W : Fld → Bool} {E : Nat → Bool} (d : DramRel Rel W E)
  (hmem : ∀ (s : State) (m : List Host.Cell), Rel s { s with drm := { s.drm with mem := m } }) (hdec : DecFree Rel) {n : Nat}
  (hW : ∀ f ∈ receiveFields n, W f = true) (hE : E 0x030 = true)
include d hmem hdec

theorem frame_ringStore (s : State) (nal : List Byte) : Rel s (s.ringStore n nal) := by
  unfold State.ringStore
  refine d.frame.trans ?_ (frame_modDec hdec _ n fun _ => rfl)
  exact d.frame.trans (frame_dramStore d hmem s _ _) (frame_dramStore d hmem _ _ _)

include hW hE

theorem frame_ringPut (s : State) (nal : List Byte) : Rel s (s.ringPut n nal) := by
  have h := d.frame
  have hw {f : Fld} (hf : f ∈ receiveFields n) : W f = true := hW f hf
  unfold State.ringPut
  refine h.ite (fun _ => ?_) fun _ => h.trans (frame_ringStore d hmem hdec s nal) (h.cond fun _ => frame_sliceIn hdec _ _ _)
  refine h.trans ?_ (frame_showDstate h hW _)
  refine h.trans ?_ (frame_modDec hdec _ n fun _ => rfl)
  refine h.trans ?_ (h.inc _ (hw (by simp [receiveFields])))
  refine h.trans ?_ (h.cond fun _ => frame_decRaise h hW hE _ (e := R.DEC.ev_SKIP) rfl (by decide))
  exact h.trans (h.inc s (hw (by simp [receiveFields]))) (frame_decRaise h hW hE _ (e := R.DEC.ev_BS_OVERFLOW) rfl (by decide))

theorem frame_skipSlice (s : State) (nal : List Byte) : Rel s (s.skipSlice n nal) := by
  have h := d.frame
  unfold State.skipSlice
  refine h.ite (fun _ => h.refl s) fun _ => h.ite (fun _ => ?_) fun _ => ?_
  · refine h.trans (frame_modDec hdec s n ?_) (h.each fun t x _ => h.cond fun _ => frame_ringPut d hmem hdec hW hE t x)
    exact fun _ => rfl
  · exact h.trans (h.inc s (hW _ (by simp [receiveFields]))) (frame_modDec hdec _ n fun _ => rfl)

theorem frame_nalIn (s : State) (nal : List Byte) : Rel s (s.nalIn n nal) := by
  have h := d.frame
  unfold State.nalIn
  refine h.trans (h.trans (frame_auNext h hdec hW hE s nal) (frame_skipSlice d hmem hdec hW hE _ nal)) ?_
  refine h.ite (fun _ => frame_modDec hdec _ n fun _ => rfl) fun _ => h.ite (fun _ => frame_modDec hdec _ n fun _ => rfl) fun _ => ?_
  exact frame_ringPut d hmem hdec hW hE _ nal

theorem frame_sliceLost (s : State) (nal : List Byte) : Rel s (s.sliceLost n nal) := by
  have h := d.frame
  unfold State.sliceLost
  refine h.ite (fun _ => h.refl s) fun _ => h.trans (h.trans (frame_auNext h hdec hW hE s nal) (frame_skipSlice d hmem hdec hW hE _ nal)) ?_
  exact h.ite (fun _ => frame_modDec hdec _ n fun _ => rfl) fun _ => frame_sliceIn hdec _ _ _

theorem frame_depacket (s : State) (r : Rtp) (gap : Bool) : Rel s (s.depacket n r gap) := by
  have h := d.frame
  have hmod (t : State) (f : DecSt → DecSt) (hf : ∀ x, pictureSide (f x) = pictureSide x) : Rel t (t.modDec n f) := frame_modDec hdec t n hf
  have hnal (t : State) (nal : List Byte) : Rel t (t.nalIn n nal) := frame_nalIn d hmem hdec hW hE t nal
  have hdone (t : State) (b : Bool) : Rel t (t.cond b (fun s => s.auDone n)) := h.cond fun _ => frame_auDone h hdec hW hE t
  have hfrag (t : State) : Rel t (t.modDec n (fun d => { d with frag := none })) := hmod t (fun d => { d with frag := none }) fun _ => rfl
  have hgap : Rel s (gapLost n gap s) := by
    unfold gapLost
    split
    · exact h.trans (hfrag s) (frame_sliceLost d hmem hdec hW hE _ _)
    · exact h.refl s
  have hstamp (t : State) : Rel t (stampTaken n r t) := h.trans (hdone t _) (hmod _ (fun d => { d with ts := some r.ts }) fun _ => rfl)
  have hbody (t : State) : Rel t (bodyTaken n r t) := by
    unfold bodyTaken
    refine h.ite (fun _ => h.each fun t nal _ => hnal t nal) fun _ => h.ite (fun _ => ?_) fun _ => hnal _ _
    refine h.ite (fun _ => ?_) fun _ => hmod _ (fun x => { x with frag := fragTaken n r t }) fun _ => rfl
    split
    · exact hfrag t
    · exact h.trans (hfrag t) (hnal _ _)
  rw [depacket_eq]
  exact h.trans (h.trans (h.trans hgap (hstamp _)) (hbody _)) (hdone _ _)

end

end Sys2Proof.Proofs.DecoderFrames


/-!
Fields of different pages lie apart: frames of DRAM accesses over fields of the pages below those of the channels.
-/

namespace Sys2Proof.Proofs.PageFrames
open Sys2Proof.Machine Sys2Proof.Laws Sys2Proof.Proofs.Frames Sys2Proof.Proofs.FieldRules Sys2Proof.Proofs.Framing Sys2Proof.Proofs.CoilFrames
  Sys2Proof.Proofs.DramFrames

/-- The words of a field lie inside its page. -/
def inPage (f : Fld) : Bool := decide (f.off + 4 < 0x1000)

/-- A field inside its page, beside EVT_PEND. -/
def plain (f : Fld) : Bool := decide (f.off + 4 < 0x1000 ∧ f.off ≠ 0x018 ∧ f.off ≠ 0x014)

theorem sep_of_page {f g : Fld} (h : f.page ≠ g.page) (hf : inPage f = true) (hg : inPage g = true) : sep f g = true := by
  have hf := of_decide_eq_true hf
  have hg := of_decide_eq_true hg
  unfold sep
  rw [Bool.or_eq_true]
  refine .inl (decide_eq_true ⟨?_, fun _ => ?_, fun _ => ?_⟩) <;> unfold Fld.key regKey <;> omega

theorem inPage_of_plain {f : Fld} (h : plain f = true) : inPage f = true := decide_eq_true (of_decide_eq_true h).1

/-- A plain field is apart from fields of other pages. -/
theorem apart_of_page {fs : List Fld} {g : Fld} (hg : plain g = true) (h : ∀ f ∈ fs, f.page ≠ g.page ∧ inPage f = true) : apartFrom fs g = true := by
  obtain ⟨h1, h2, h3⟩ := of_decide_eq_true hg
  unfold apartFrom
  rw [Bool.and_eq_true, List.all_eq_true, decide_eq_true_eq]
  refine ⟨fun f hf => sep_of_page (h f hf).1 (h f hf).2 (inPage_of_plain hg), ?_, ?_⟩ <;> unfold Fld.key regKey <;> omega

/-- The event words of a page are none of the fields of others. -/
theorem quiet_of_page {fs : List Fld} {p : Nat} (h : ∀ f ∈ fs, f.page ≠ p ∧ inPage f = true) : quietFor fs p = true := by
  unfold quietFor
  rw [List.all_eq_true]
  intro f hf
  obtain ⟨hp, hin⟩ := h f hf
  have hin := of_decide_eq_true hin
  unfold offKey
  rw [Bool.and_eq_true]
  have hkey : ∀ o, o = 0x010 ∨ o = 0x018 → f.key ≠ regKey p o ∧ (32 < f.w → f.key + 4 ≠ regKey p o) := by
    unfold Fld.key regKey
    omega
  exact ⟨decide_eq_true (hkey _ (.inl rfl)), decide_eq_true (hkey _ (.inr rfl))⟩

/-- Fields of pages below those of the channels, and not of the redundancy's. -/
def lowFields (fs : List Fld) : Bool := fs.all (fun f => decide (f.page < 0x0E0 ∧ f.page ≠ 0x090) && inPage f)

theorem low_iff {fs : List Fld} (h : lowFields fs = true) : ∀ f ∈ fs, f.page < 0x0E0 ∧ f.page ≠ 0x090 ∧ inPage f = true := by
  intro f hf
  have := List.all_eq_true.mp h f hf
  rw [Bool.and_eq_true, decide_eq_true_eq] at this
  exact ⟨this.1.1, this.1.2, this.2⟩

/-- They stay across accesses of DRAM. -/
theorem staysDram_low {β : Type} {F : State → β} {fs : List Fld} (hF : RegsFree F)
    (hC : ∀ (s : State) (c : List (Nat × CoilSt)) (o : List Output), F { s with coil := c, out := o } = F s)
    (hR : ∀ (s : State) (r : RedSt), F { s with red := r } = F s) (hD : ∀ (s : State) (d : DramSt), ReadChange s.drm d → F { s with drm := d } = F s)
    (hq : lowFields fs = true) : DramRel (Stays F fs) (apartFrom fs) (quietFor fs) := by
  have hlow := low_iff hq
  have hch {g : Fld} (c : Nat) (hg : plain g = true) (hp : g.page = 0x0E0 + c) : apartFrom fs g = true :=
    apart_of_page hg fun f hf => ⟨by obtain ⟨h1, -, -⟩ := hlow f hf; omega, (hlow f hf).2.2⟩
  refine
    { frame := staysFrame hF fs
      coil := fun s c o => .other (hC s c o) rfl
      red := fun s r => .other (hR s r) rfl
      dram := fun s d hd => .other (hD s d hd) rfl
      relinquish := fun g hg => ?_
      ue := fun c f hf => ?_
      access := fun c f hf => ?_
      oor := hch 0 rfl rfl
      chEvt := fun c => quiet_of_page fun f hf => ⟨by obtain ⟨h1, -, -⟩ := hlow f hf; omega, (hlow f hf).2.2⟩
      redEvt := quiet_of_page fun f hf => ⟨(hlow f hf).2.1, (hlow f hf).2.2⟩ }
  · have hred : ∀ g ∈ relinquishFields, g.page = 0x090 ∧ plain g = true := by decide
    obtain ⟨hp, hpl⟩ := hred g hg
    exact apart_of_page hpl fun f hf => ⟨by rw [hp]; exact (hlow f hf).2.1, (hlow f hf).2.2⟩
  · simp only [ueFields, List.mem_cons, List.not_mem_nil, or_false] at hf
    rcases hf with rfl | rfl | rfl <;> exact hch c rfl rfl
  · simp only [accessFields, List.mem_cons, List.not_mem_nil, or_false] at hf
    rcases hf with rfl | rfl | rfl <;> exact hch c rfl rfl

end Sys2Proof.Proofs.PageFrames


/-!
THEOREMS. Network ports, answers in hardware, multicast reports and legs (06 R138 to R148, R157). Settles O42.
-/

namespace Sys2Proof.Proofs.NetPorts
open Sys2Proof.Machine Sys2Proof.Laws Sys2Proof.Proofs.Frames Sys2Proof.Proofs.FieldRules Sys2Proof.Proofs.Framing Sys2Proof.Proofs.DramFrames
  Sys2Proof.Proofs.DecoderFrames Sys2Proof.Proofs.PageFrames

theorem netPort_lt {s : State} {p : Nat} (h : s.netPort p = true) : p < 8 := by
  have h := of_decide_eq_true h
  unfold netCount at h
  split at h <;> omega

/-! Frames of a stream's reception. -/

/-- A relation that the records of the sources, of the audio block and the free values may change under. -/
def StreamFree (Rel : State → State → Prop) : Prop :=
  ∀ (s : State) (x : List (Nat × StrSt)) (a : AudSt) (n : Nat), Rel s { s with str := x, aud := a, free := n }

/-- The fields that the reception of a stream writes. -/
def streamFields (n : Nat) : List Fld :=
  [R.STR.CNT_PT_DROP n, R.STR.LEG_A_OK n, R.STR.LEG_B_OK n, R.STR.CNT_REORDER_LATE n, R.STR.CNT_PKT n, R.STR.D_MAX_US n, R.STR.STATE n,
   R.STR.CNT_LEG_A_LOST n, R.STR.CNT_LEG_B_LOST n, R.STR.CNT_LOST n, R.STR.CNT_MERGED n, R.STR.READY_IDX n, R.STR.READY_VALID n]

/-- The fields that the audio inputs write. -/
def audioFields : List Fld :=
  [R.AUD.AESI_LOCK, R.AUD.TDM_CLK_OK, R.AUD.ASRC_ACTIVE, R.AUD.RUNNING, R.AUD.MUTED, R.AUD.OUT_CLK, R.AUD.CNT_SLIP_DROP]

section
variable {Rel : State → State → Prop} {W : Fld → Bool} {E : Nat → Bool} (h : Frame Rel W E) (hstr : StreamFree Rel)

include hstr in
theorem frame_modStr (s : State) (n : Nat) (f : StrSt → StrSt) : Rel s (s.modStr n f) := hstr s _ s.aud s.free

include hstr in
theorem frame_fresh (s : State) : Rel s s.fresh.2 := hstr s s.str s.aud _

include h in
theorem frame_showAudio (hA : ∀ f ∈ audioFields, W f = true) (hE : E 0x0F0 = true) (s : State) : Rel s s.showAudio := by
  unfold State.showAudio
  refine h.trans ?_ (h.level _ _ hE (by decide))
  refine h.trans ?_ (h.wrB _ _ (hA _ (by decide)))
  refine h.trans ?_ (h.wrB _ _ (hA _ (by decide)))
  refine h.trans ?_ (h.wrB _ _ (hA _ (by decide)))
  refine h.trans ?_ (h.wrB _ _ (hA _ (by decide)))
  exact h.trans (h.wr s _ (hA _ (by decide))) (h.wrB _ _ (hA _ (by decide)))

include h hstr

theorem frame_audioPush (hA : ∀ f ∈ audioFields, W f = true) (hE : E 0x0F0 = true) (s : State) (c : Nat) (frame : List Nat) :
    Rel s (s.audioPush c frame) := by
  unfold State.audioPush
  refine h.trans ?_ (frame_showAudio h hA hE _)
  refine h.trans ?_ (h.cond fun _ => h.incRaise _ (hA _ (by decide)) hE (by decide))
  exact hstr s s.str _ s.free

theorem frame_audioPacket (hA : ∀ f ∈ audioFields, W f = true) (hE : E 0x0F0 = true) (s : State) (n : Nat) (body : List Byte) :
    Rel s (s.audioPacket n body) := h.each fun t _ _ => frame_audioPush h hstr hA hE t _ _

variable {n : Nat} (hW : ∀ f ∈ streamFields n, W f = true) (hE : E (0x020 + n) = true)
include hW hE

theorem frame_legLevel (s : State) : Rel s (s.legLevel n) := h.cond fun _ => h.level s _ hE (show 0 < 32 by decide)

omit hE in
theorem frame_pictureIn (s : State) (arrived : Nat) (r : Rtp) (gap : Bool) : Rel s (s.pictureIn n arrived r gap) := by
  unfold State.pictureIn
  refine h.trans (frame_modStr hstr s n _) (h.cond fun _ => h.wr _ _ (hW _ ?_))
  simp [streamFields]

theorem frame_strLeave (s : State) (k : Nat) : Rel s (s.strLeave n k) := by
  have hcond (t : State) (b : Bool) {f : Fld} (hf : W f = true) : Rel t (t.cond b (fun s => s.inc f)) := h.cond fun _ => h.inc t hf
  unfold State.strLeave
  refine h.trans (h.trans (hcond s _ (hW _ ?_)) (hcond _ _ (hW _ ?_))) (h.ite (fun _ => h.incRaise _ (hW _ ?_) hE (show 1 < 32 by decide))
    fun _ => hcond _ _ (hW _ ?_)) <;> simp [streamFields]

theorem frame_strWindow (s : State) (low : Nat) : Rel s (s.strWindow n low) := by
  unfold State.strWindow
  exact h.trans (h.each fun t k _ => frame_strLeave h hstr hW hE t k) (frame_modStr hstr _ n _)

end

/-! The steps of a packet. -/

/-- Whether the first packet of a stream has come, or later ones, its sequence number is extended so. -/
def rtpStart (n x m : Nat) (s : State) : State :=
  match (s.strSt n).hi with
  | none => s.modStr n (fun y => { y with hi := some (x + m), low := x + m, next := x + m })
  | some _ => s

/-- The number of a packet near the highest one. -/
def rtpExt (n x m : Nat) (s : State) : Nat :=
  if (x + m - (s.strSt n).hi.getD 0 % m) % m < m / 2 then (s.strSt n).hi.getD 0 + (x + m - (s.strSt n).hi.getD 0 % m) % m
  else (s.strSt n).hi.getD 0 + (x + m - (s.strSt n).hi.getD 0 % m) % m - m

/-- A packet that its leg delivers. -/
def rtpSeen (n leg ext : Nat) (s : State) : State :=
  s.modStr n (fun y =>
    if leg = 0 then { y with legA := if y.legA.contains ext then y.legA else ext :: y.legA }
    else { y with legB := if y.legB.contains ext then y.legB else ext :: y.legB })

/-- The number is late, new, or delivered by the other leg already. -/
def rtpPlaced (n leg ext : Nat) (r : Rtp) (s : State) : State :=
  if ((s.strSt n).hi.getD 0 > ext + 32768) ∨ ext < (s.strSt n).low then s.inc (R.STR.CNT_REORDER_LATE n)
  else if (s.strSt n).legA.contains ext || (s.strSt n).legB.contains ext then rtpSeen n leg ext s
  else (rtpSeen n leg ext s).strTake n ext r

/-- The modulus and the number of a packet. -/
def rtpMod (n : Nat) (s : State) : Nat := if s.lv (R.STR.KIND n) == 0 then 2 ^ 32 else 2 ^ 16
def rtpNumber (n : Nat) (r : Rtp) (s : State) : Nat := (if s.lv (R.STR.KIND n) == 0 then r.extHi * 65536 + r.seq else r.seq) % rtpMod n s

/-- The leg of a valid packet is OK. -/
def rtpLeg (n leg : Nat) (s : State) : State := (s.wr (if leg = 0 then R.STR.LEG_A_OK n else R.STR.LEG_B_OK n) 1).legLevel n

theorem rtpIn_eq (s : State) (n leg : Nat) (r : Rtp) : s.rtpIn n leg r =
    if r.version ≠ 2 ∨ r.pt ≠ s.lv (R.STR.PT n) then s.inc (R.STR.CNT_PT_DROP n)
    else rtpPlaced n leg (rtpExt n (rtpNumber n r (rtpLeg n leg s)) (rtpMod n (rtpLeg n leg s))
        (rtpStart n (rtpNumber n r (rtpLeg n leg s)) (rtpMod n (rtpLeg n leg s)) (rtpLeg n leg s))) r
      (rtpStart n (rtpNumber n r (rtpLeg n leg s)) (rtpMod n (rtpLeg n leg s)) (rtpLeg n leg s)) := rfl

section
variable {Rel : State → State → Prop} {W : Fld → Bool} {E : Nat → Bool} (d : DramRel Rel W E)
  (hmem : ∀ (s : State) (m : List Host.Cell), Rel s { s with drm := { s.drm with mem := m } }) (hdec : DecFree Rel) (hstr : StreamFree Rel) {n : Nat}
  (hW : ∀ f ∈ streamFields n ++ audioFields ++ receiveFields n, W f = true) (hE : ∀ p ∈ [0x020 + n, 0x0F0, 0x030], E p = true)
include d hmem hdec hstr hW hE

theorem frame_ancStore (s : State) (arrived : Nat) (body : List Byte) : Rel s (s.ancStore n arrived body) := by
  unfold State.ancStore
  refine d.frame.trans (d.frame.trans (frame_dramStore d hmem s _ _) (d.frame.wr _ _ (hW _ ?_))) (d.frame.wr _ _ (hW _ ?_)) <;> simp [streamFields]

theorem frame_strDeliver (s : State) (arrived : Nat) (r : Rtp) (gap : Bool) : Rel s (s.strDeliver n arrived r gap) := by
  have hs : ∀ f ∈ streamFields n, W f = true := fun f hf => hW f (by simp [hf])
  have ha : ∀ f ∈ audioFields, W f = true := fun f hf => hW f (by simp [hf])
  have hr : ∀ f ∈ receiveFields n, W f = true := fun f hf => hW f (by simp [hf])
  unfold State.strDeliver
  split
  · exact frame_pictureIn d.frame hstr hs s arrived r gap
  · exact frame_audioPacket d.frame hstr ha (hE _ (by simp)) s n _
  · exact frame_ancStore d hmem hdec hstr hW hE s arrived _
  · exact frame_depacket d hmem hdec hr (hE _ (by simp)) s r gap

theorem frame_strDrain (fuel : Nat) (s : State) (gap : Bool) : Rel s (s.strDrain n gap fuel) := by
  induction fuel generalizing s gap with
  | zero => exact d.frame.refl s
  | succ fuel ih =>
    unfold State.strDrain
    simp only
    split
    · exact d.frame.trans (d.frame.trans (frame_modStr hstr s n _) (frame_strDeliver d hmem hdec hstr hW hE _ _ _ gap)) (ih _ false)
    · exact d.frame.ite (fun _ => d.frame.trans (frame_modStr hstr s n _) (ih _ true)) fun _ => d.frame.refl s

theorem frame_strTake (s : State) (ext : Nat) (r : Rtp) : Rel s (s.strTake n ext r) := by
  have h := d.frame
  have hs : ∀ f ∈ streamFields n, W f = true := fun f hf => hW f (by simp [hf])
  unfold State.strTake
  refine h.trans ?_ (frame_strDrain d hmem hdec hstr hW hE _ _ _)
  refine h.trans ?_ (h.cond fun _ => h.wr _ _ (hs _ (by simp [streamFields])))
  refine h.trans ?_ (h.cond fun _ => frame_strWindow h hstr hs (hE _ (by simp)) _ _)
  refine h.trans ?_ (frame_modStr hstr _ n _)
  refine h.trans ?_ (h.wr _ _ (hs _ (by simp [streamFields])))
  exact h.trans (frame_fresh hstr s) (h.inc _ (hs _ (by simp [streamFields])))

theorem frame_rtpIn (s : State) (leg : Nat) (r : Rtp) : Rel s (s.rtpIn n leg r) := by
  have h := d.frame
  have hs : ∀ f ∈ streamFields n, W f = true := fun f hf => hW f (by simp [hf])
  have hleg (t : State) : Rel t (rtpLeg n leg t) := by
    refine h.trans (h.wr t _ (hs _ ?_)) (frame_legLevel h hstr hs (hE _ (by simp)) _)
    split <;> simp [streamFields]
  have hstart (x m : Nat) (t : State) : Rel t (rtpStart n x m t) := by
    unfold rtpStart
    split
    · exact frame_modStr hstr t n _
    · exact h.refl t
  have hplaced (ext : Nat) (t : State) : Rel t (rtpPlaced n leg ext r t) := by
    have hseen : Rel t (rtpSeen n leg ext t) := frame_modStr hstr t n _
    unfold rtpPlaced
    refine h.ite (fun _ => h.inc t (hs _ (by simp [streamFields]))) fun _ => h.ite (fun _ => hseen) fun _ => ?_
    exact h.trans hseen (frame_strTake d hmem hdec hstr hW hE _ _ _)
  rw [rtpIn_eq]
  refine h.ite (fun _ => h.inc s (hs _ (by simp [streamFields]))) fun _ => ?_
  exact h.trans (h.trans (hleg s) (hstart _ _ _)) (hplaced _ _)

end

/-! Frames of the first match. -/

/-- The fields of a port that show what becomes of a frame. -/
def rxFields (p : Nat) : List Fld := [R.NET.CNT_RX_UNMATCHED p, R.NET.CNT_PAUSE p, R.NET.CNT_RXQ_DROP p, R.NET.RXQ_HEAD p]

theorem strMatch_lt {s : State} {p dst src udp n leg : Nat} (h : s.strMatch p dst src udp = some (n, leg)) : n < 16 := by
  have hm : (n, leg) ∈ allLegs := List.mem_of_find?_eq_some h
  unfold allLegs at hm
  obtain ⟨k, hk, hin⟩ := List.mem_flatMap.mp hm
  have := List.mem_range.mp hk
  simp only [List.mem_cons, List.not_mem_nil, or_false, Prod.mk.injEq] at hin
  omega

theorem ptpOf_lt {s : State} {p : Nat} {vlan : Option Nat} {domain i : Nat} (h : s.ptpOf p vlan domain = some i) : i < 2 := by
  have hm : i ∈ [0, 1] := List.mem_of_find?_eq_some h
  simp only [List.mem_cons, List.not_mem_nil, or_false] at hm
  omega

section
variable {Rel : State → State → Prop} {W : Fld → Bool} {E : Nat → Bool} (d : DramRel Rel W E)
  (hmem : ∀ (s : State) (m : List Host.Cell), Rel s { s with drm := { s.drm with mem := m } }) {p : Nat} (hrx : ∀ f ∈ rxFields p, W f = true)
  (hEp : E (0x010 + p) = true)
include d hmem hrx hEp

omit hmem in
theorem frame_ringDrop (s : State) : Rel s (s.ringDrop p) := d.frame.incRaise s (hrx _ (by simp [rxFields])) hEp (show 3 < 32 by decide)

theorem frame_rxHost (s : State) (bytes : List Byte) : Rel s (s.rxHost p bytes) := by
  have h := d.frame
  have hhead (t : State) (v : Nat) : Rel t (t.wr (R.NET.RXQ_HEAD p) v) := h.wr t v (hrx _ (by simp [rxFields]))
  have hread (a : Nat) : Rel s (s.dramRead a 8).2.2 := frame_dramRead d s a 8
  have hstore (t : State) (off : Nat) (data : List Byte) : Rel t (t.dramStore off data) := frame_dramStore d hmem t off data
  unfold State.rxHost
  refine h.ite (fun _ => frame_ringDrop d hrx hEp s) fun _ => ?_
  simp only
  refine h.ite (fun _ => h.trans (h.trans (hread _) (frame_ringDrop d hrx hEp _)) (hhead _ _)) fun _ => ?_
  exact h.trans (h.trans (h.trans (h.trans (h.trans (hread _) (hstore _ _ _)) (hstore _ _ _)) (hstore _ _ _)) (hstore _ _ _)) (hhead _ _)

theorem frame_rxRest (s : State) (f : NetFrame) : Rel s (s.rxRest p f) :=
  d.frame.ite (fun _ => frame_rxHost d hmem hrx hEp s _) fun _ => d.frame.inc s (hrx _ (by simp [rxFields]))

variable (hdec : DecFree Rel) (hstr : StreamFree Rel)
  (hW : ∀ n, n < 16 → ∀ f ∈ streamFields n ++ audioFields ++ receiveFields n, W f = true)
  (hE : ∀ n, n < 16 → ∀ q ∈ [0x020 + n, 0x0F0, 0x030], E q = true)
include hdec hstr hW hE

theorem frame_rxUdp (s : State) (f : NetFrame) (dst src udp : Nat) (rtp : Rtp) : Rel s (s.rxUdp p f dst src udp rtp) := by
  unfold State.rxUdp
  split
  · next n leg hm =>
    have hn : n < 16 := by
      split at hm
      · exact strMatch_lt hm
      · exact absurd hm (by simp)
    exact frame_rtpIn d hmem hdec hstr (hW n hn) (hE n hn) s leg rtp
  · exact frame_rxRest d hmem hrx hEp s f

variable (hnet : ∀ (s : State) (n : NetSt) (m : List (Nat × Word32)), Rel s { s with net := n, imm := m })

include hnet in
theorem frame_igmpQuery (s : State) (version group : Nat) : Rel s (s.igmpQuery p version group) := by
  have h := d.frame
  have hsend (t : State) (r : IgmpDue) : Rel t (t.sendReport r) := by
    unfold State.sendReport
    exact h.cond fun _ => CoilFrames.frame_emit d.coil t _
  unfold State.igmpQuery
  refine h.trans (hnet s _ s.imm) (h.each fun t x _ => ?_)
  split
  · exact h.refl t
  · exact h.cond fun _ => hsend t _

include hnet in
theorem frame_arpLearn (s : State) (q ip mac : Nat) : Rel s (s.arpLearn q ip mac) := by
  have h := d.frame
  have himm (t : State) (m : List (Nat × Word32)) : Rel t { t with imm := m } := hnet t t.net m
  unfold State.arpLearn
  simp only
  split
  · exact himm s _
  · exact h.trans (frame_fresh hstr s) (himm _ _)

include hnet in
/-- Whatever takes a frame. -/
theorem frame_rxMatch (hptp : ∀ i, i < 2 → W (R.PTP.CNT_BAD_MSG i) = true) (s : State) (f : NetFrame) : Rel s (s.rxMatch p f) := by
  have h := d.frame
  have hrest := frame_rxRest d hmem hrx hEp s f
  have hemit (t : State) (o : Output) : Rel t (t.emit o) := CoilFrames.frame_emit d.coil t o
  unfold State.rxMatch
  simp only
  split
  · exact h.inc s (hrx _ (by simp [rxFields]))
  · exact h.inc s (hrx _ (by simp [rxFields]))
  · split
    · next i hi => exact h.cond fun _ => h.inc s (hptp i (ptpOf_lt hi))
    · exact frame_rxUdp d hmem hrx hEp hdec hstr hW hE s f _ _ _ _
  · exact h.ite (fun _ => hrest) fun _ => h.trans (frame_arpLearn d hmem hrx hEp hdec hstr hW hE hnet s _ _ _) (h.cond fun _ => hemit _ _)
  · exact h.ite (fun _ => hemit s _) fun _ => hrest
  · exact h.ite (fun _ => frame_igmpQuery d hmem hrx hEp hdec hstr hW hE hnet s _ _) fun _ => hrest
  · exact frame_rxUdp d hmem hrx hEp hdec hstr hW hE s f _ _ _ _
  · exact hrest

end

/-! The frame counter of a port. -/

/-- The fields of a stream lie on pages of their own. -/
theorem reception_fields : ∀ n < 16, ∀ f ∈ streamFields n ++ audioFields ++ receiveFields n, 0x020 ≤ f.page ∧ plain f = true := by decide

/-- Every frame that reaches a port leaves its count of frames. -/
theorem rxMatch_counter {p : Nat} (hp : p < 8) (s : State) (f : NetFrame) : (s.rxMatch p f).rd (R.NET.CNT_RX_FRAMES p) = s.rd (R.NET.CNT_RX_FRAMES p) := by
  have hlow : lowFields [R.NET.CNT_RX_FRAMES p] = true := by interval_cases p <;> decide
  have d := staysDram_low (F := fun _ : State => ()) (fun _ _ _ => rfl) (fun _ _ _ => rfl) (fun _ _ => rfl) (fun _ _ _ => rfl) hlow
  have hpage {q : Nat} (hq : 0x020 ≤ q) : ∀ f ∈ [R.NET.CNT_RX_FRAMES p], f.page ≠ q ∧ inPage f = true := by
    intro f hf
    rw [List.mem_singleton.mp hf]
    exact ⟨show 0x010 + p ≠ q by omega, rfl⟩
  have hkept := frame_rxMatch d (fun _ _ => .other rfl rfl) (p := p) (by interval_cases p <;> decide) (by interval_cases p <;> decide)
    (fun _ _ _ => .other rfl rfl) (fun _ _ _ _ => .other rfl rfl) (fun n hn f hf => apart_of_page (reception_fields n hn f hf).2 (hpage (reception_fields n hn f hf).1))
    (fun n hn q hq => quiet_of_page (hpage ?_)) (fun _ _ _ => .other rfl rfl) (fun i hi => ?_) s f
  · exact hkept.rd _ (by simp)
  · simp only [List.mem_cons, List.not_mem_nil, or_false] at hq
    omega
  · interval_cases i <;> interval_cases p <;> decide

/-! Frames. -/

/-- What every frame counts. -/
def rxCounted (p : Nat) (f : NetFrame) (s : State) : State :=
  ((s.inc (R.NET.CNT_RX_FRAMES p)).incBy (R.NET.CNT_FEC_CORR p) f.fecCorr).cond (f.fecUncorr != 0)
    (fun s => (s.incBy (R.NET.CNT_FEC_UNCORR p) f.fecUncorr).raise (R.NET.ev_FEC_UNCORR p))

theorem netFrameFx_eq (p : Nat) (f : NetFrame) (s : State) : netFrameFx p f s =
    if !f.fcsOk then (rxCounted p f s).inc (R.NET.CNT_RX_FCS p)
    else if f.bytes.length < 60 then (rxCounted p f s).inc (R.NET.CNT_RX_UNMATCHED p) else (rxCounted p f s).rxMatch p f := rfl

theorem netFrameFx_dropped {p : Nat} {f : NetFrame} (h : f.fcsOk = false) (s : State) : netFrameFx p f s = (rxCounted p f s).inc (R.NET.CNT_RX_FCS p) := by
  rw [netFrameFx_eq, h]
  rfl

theorem netFrameFx_matched {p : Nat} {f : NetFrame} (h : f.fcsOk = true) (hlen : 60 ≤ f.bytes.length) (s : State) :
    netFrameFx p f s = (rxCounted p f s).rxMatch p f := by
  rw [netFrameFx_eq, h, if_neg (by decide), if_neg (by omega)]

/-- The fields of a port that these counts leave. -/
def rxKept (p : Nat) : List Fld :=
  [R.NET.CNT_RX_FCS p, R.NET.CNT_RX_UNMATCHED p, R.NET.CNT_PAUSE p, R.NET.CNT_RXQ_DROP p, R.NET.RXQ_EN p, R.NET.RXQ_HEAD p, R.NET.RXQ_TAIL p, R.NET.RXQ_BASE p,
   (R.NET.LOCAL_IP p).live, (R.NET.VLAN_EN p).live, (R.NET.VLAN_ID p).live, (R.NET.PCP p).live]

theorem rxCounted_stays {p : Nat} (hp : p < 8) (f : NetFrame) (s : State) :
    Stays (fun s : State => (s.out, s.drm, s.net)) (rxKept p) s (rxCounted p f s) := by
  have h := staysFrame (F := fun s : State => (s.out, s.drm, s.net)) (fun _ _ _ => rfl) (rxKept p)
  have hw : apartFrom (rxKept p) (R.NET.CNT_RX_FRAMES p) = true ∧ apartFrom (rxKept p) (R.NET.CNT_FEC_CORR p) = true ∧
      apartFrom (rxKept p) (R.NET.CNT_FEC_UNCORR p) = true ∧ quietFor (rxKept p) (R.NET.ev_FEC_UNCORR p).page = true := by interval_cases p <;> decide
  obtain ⟨h1, h2, h3, h4⟩ := hw
  exact h.trans (h.trans (h.inc s h1) (h.incBy _ _ h2)) (h.cond fun _ => h.trans (h.incBy _ _ h3) (h.raise _ h4 (show 1 < 32 by decide)))

theorem rxCounted_counts {p : Nat} (hp : p < 8) (f : NetFrame) (s : State) : Counted s (rxCounted p f s) (R.NET.CNT_RX_FRAMES p) := by
  have h := staysFrame (F := fun _ : State => ()) (fun _ _ _ => rfl) [R.NET.CNT_RX_FRAMES p]
  have hw : apartFrom [R.NET.CNT_RX_FRAMES p] (R.NET.CNT_FEC_CORR p) = true ∧ apartFrom [R.NET.CNT_RX_FRAMES p] (R.NET.CNT_FEC_UNCORR p) = true ∧
      quietFor [R.NET.CNT_RX_FRAMES p] (R.NET.ev_FEC_UNCORR p).page = true := by interval_cases p <;> decide
  obtain ⟨h1, h2, h3⟩ := hw
  have hkept := h.trans (h.incBy (s.inc (R.NET.CNT_RX_FRAMES p)) f.fecCorr h1) (h.cond (b := f.fecUncorr != 0)
    (f := fun s => (s.incBy (R.NET.CNT_FEC_UNCORR p) f.fecUncorr).raise (R.NET.ev_FEC_UNCORR p))
    fun _ => h.trans (h.incBy _ _ h2) (h.raise _ h3 (show 1 < 32 by decide)))
  exact (hkept.rd _ (by simp)).trans (counted_inc s rfl rfl)

theorem rxCounted_regs (p : Nat) (f : NetFrame) (s : State) : OnlyRegs s (rxCounted p f s) :=
  onlyRegs_trans (onlyRegs_trans (onlyRegs_inc s _) (onlyRegs_wr _ _ _)) (onlyRegs_cond (onlyRegs_trans (onlyRegs_wr _ _ _) (onlyRegs_raise _ _)))

/-- The tag that the port accepts and sends is none of the counts'. -/
theorem rxCounted_tag {p : Nat} (hp : p < 8) (f : NetFrame) (s : State) : (rxCounted p f s).netTag p = s.netTag p ∧
    (∀ v, (rxCounted p f s).tagFits p v = s.tagFits p v) ∧ (rxCounted p f s).lv (R.NET.LOCAL_IP p) = s.lv (R.NET.LOCAL_IP p) := by
  have hk := (rxCounted_stays hp f s).rd
  have hen : (rxCounted p f s).lvB (R.NET.VLAN_EN p) = s.lvB (R.NET.VLAN_EN p) := congrArg (· != 0) (hk _ (by simp [rxKept]))
  have hid : (rxCounted p f s).lv (R.NET.VLAN_ID p) = s.lv (R.NET.VLAN_ID p) := hk _ (by simp [rxKept])
  have hpcp : (rxCounted p f s).lv (R.NET.PCP p) = s.lv (R.NET.PCP p) := hk _ (by simp [rxKept])
  unfold State.netTag State.tagFits
  rw [hen, hid, hpcp]
  exact ⟨rfl, fun _ => rfl, hk _ (by simp [rxKept])⟩

/-- A frame that is only counted. -/
theorem rxCounted_one {p : Nat} (hp : p < 8) (f : NetFrame) (s : State) {g : Fld} (hg : g ∈ [R.NET.CNT_RX_FCS p, R.NET.CNT_PAUSE p, R.NET.CNT_RX_UNMATCHED p])
    (hw : g.w = 32) (hlo : g.lo = 0) (hsep : sep (R.NET.CNT_RX_FRAMES p) g = true) : Counted s ((rxCounted p f s).inc g) (R.NET.CNT_RX_FRAMES p) ∧
    Counted s ((rxCounted p f s).inc g) g ∧ OnlyRegs s ((rxCounted p f s).inc g) ∧ ((rxCounted p f s).inc g).out = s.out := by
  have hstays := rxCounted_stays hp f s
  have hkept : (rxCounted p f s).rd g = s.rd g := by
    simp only [List.mem_cons, List.not_mem_nil, or_false] at hg
    rcases hg with rfl | rfl | rfl <;> exact hstays.rd _ (by simp [rxKept])
  refine ⟨(rd_wr_sep _ _ hsep).trans (rxCounted_counts hp f s), ?_, onlyRegs_trans (rxCounted_regs p f s) (onlyRegs_inc _ _),
    (wr_out _ _ _).trans (congrArg Prod.fst hstays.part)⟩
  have hone := counted_inc (rxCounted p f s) hw hlo
  unfold Counted at hone ⊢
  rw [hone, hkept]

/-! Answers in hardware. -/

theorem arpLearn_eq (s : State) (p ip mac : Nat) : ∃ m n, s.arpLearn p ip mac = { s with imm := m, free := n } := by
  unfold State.arpLearn
  simp only
  split
  · exact ⟨_, s.free, rfl⟩
  · exact ⟨_, _, rfl⟩

/-- An ARP request for the port's address is answered. -/
theorem rxMatch_arp {s : State} {p ip mac : Nat} {f : NetFrame} (hk : f.kind = .arp ip mac (s.lv (R.NET.LOCAL_IP p)) true)
    (ht : s.tagFits p f.vlan = true) : ∃ m n, s.rxMatch p f = { s with imm := m, free := n, out := s.out ++ [.arpReply p ip mac (s.netTag p)] } := by
  obtain ⟨m, n, he⟩ := arpLearn_eq s p ip mac
  refine ⟨m, n, ?_⟩
  unfold State.rxMatch
  rw [hk]
  simp only [ht, Bool.not_true, Bool.false_eq_true, if_false, he]
  refine (cond_of ?_ _ _).trans rfl
  exact (Bool.true_and _).trans (beq_self_eq_true (s.lv (R.NET.LOCAL_IP p)))

/-- An echo to the port's address is answered. -/
theorem rxMatch_echo {s : State} {p src mac ident seq : Nat} {data : List Byte} {f : NetFrame}
    (hk : f.kind = .icmpEcho (s.lv (R.NET.LOCAL_IP p)) src mac ident seq data) (ht : s.tagFits p f.vlan = true) :
    s.rxMatch p f = s.emit (.icmpReply p src mac ident seq data (s.netTag p)) := by
  unfold State.rxMatch
  rw [hk]
  simp only [ht, beq_self_eq_true, Bool.and_self, if_true]

theorem rxMatch_pause {s : State} {p : Nat} {f : NetFrame} (hk : f.kind = .pause) : s.rxMatch p f = s.inc (R.NET.CNT_PAUSE p) := by
  unfold State.rxMatch
  rw [hk]

theorem rxMatch_fragment {s : State} {p : Nat} {f : NetFrame} (hk : f.kind = .fragment) : s.rxMatch p f = s.inc (R.NET.CNT_RX_UNMATCHED p) := by
  unfold State.rxMatch
  rw [hk]

/-- What a frame shows, by what it is. -/
theorem netFrame_shows {p : Nat} (hp : p < 8) (f : NetFrame) (s : State) : Counted s (netFrameFx p f s) (R.NET.CNT_RX_FRAMES p) ∧
    (f.fcsOk = false → Counted s (netFrameFx p f s) (R.NET.CNT_RX_FCS p) ∧ OnlyRegs s (netFrameFx p f s) ∧ (netFrameFx p f s).out = s.out) ∧
    (f.fcsOk = true → 60 ≤ f.bytes.length → f.kind = .pause →
      Counted s (netFrameFx p f s) (R.NET.CNT_PAUSE p) ∧ OnlyRegs s (netFrameFx p f s) ∧ (netFrameFx p f s).out = s.out) ∧
    (f.fcsOk = true → 60 ≤ f.bytes.length → f.kind = .fragment →
      Counted s (netFrameFx p f s) (R.NET.CNT_RX_UNMATCHED p) ∧ OnlyRegs s (netFrameFx p f s) ∧ (netFrameFx p f s).out = s.out) := by
  have hsep : ∀ g ∈ [R.NET.CNT_RX_FCS p, R.NET.CNT_PAUSE p, R.NET.CNT_RX_UNMATCHED p], sep (R.NET.CNT_RX_FRAMES p) g = true := by interval_cases p <;> decide
  have hone {g : Fld} (hg : g ∈ [R.NET.CNT_RX_FCS p, R.NET.CNT_PAUSE p, R.NET.CNT_RX_UNMATCHED p]) (hw : g.w = 32) (hlo : g.lo = 0) :=
    rxCounted_one hp f s hg hw hlo (hsep g hg)
  refine ⟨?_, fun hf => ?_, fun hf hlen hk => ?_, fun hf hlen hk => ?_⟩
  · rw [netFrameFx_eq]
    split
    · exact (hone (by simp) rfl rfl).1
    · split
      · exact (hone (by simp) rfl rfl).1
      · exact (rxMatch_counter hp _ f).trans (rxCounted_counts hp f s)
  · rw [netFrameFx_dropped hf]
    exact (hone (by simp) rfl rfl).2
  · rw [netFrameFx_matched hf hlen, rxMatch_pause hk]
    exact (hone (by simp) rfl rfl).2
  · rw [netFrameFx_matched hf hlen, rxMatch_fragment hk]
    exact (hone (by simp) rfl rfl).2

/-! Multicast reports. -/

/-- The report or leave that goes out. -/
def reportOf (s : State) (r : IgmpDue) : Output :=
  .igmp r.port r.group (if s.igmpVersion r.port < 3 then 0 else r.src) r.leave (s.igmpVersion r.port) (s.netTag r.port)

theorem sendReport_eq (s : State) (r : IgmpDue) :
    s.sendReport r = { s with out := s.out ++ (if s.flag (R.NET.LINK_UP r.port) then [reportOf s r] else []) } := by
  unfold State.sendReport State.cond
  simp only
  split
  · rfl
  · rw [List.append_nil]

/-- The reports of a list go out one after the other. -/
theorem reports_sent (rs : List IgmpDue) : ∀ s : State, ∃ o, s.each rs (fun s r => s.sendReport r) = { s with out := o } ∧ (∀ x ∈ s.out, x ∈ o) ∧
    ∀ r ∈ rs, s.flag (R.NET.LINK_UP r.port) = true → reportOf s r ∈ o := by
  induction rs with
  | nil => exact fun s => ⟨s.out, rfl, fun _ h => h, fun _ h => absurd h List.not_mem_nil⟩
  | cons r rs ih =>
    intro s
    obtain ⟨o, he, hold, hnew⟩ := ih (s.sendReport r)
    rw [sendReport_eq] at hold hnew
    refine ⟨o, ?_, fun x hx => hold x (List.mem_append_left _ hx), fun q hq hup => ?_⟩
    · show (s.sendReport r).each rs _ = _
      rw [he, sendReport_eq]
    · rcases List.mem_cons.mp hq with rfl | hin
      · exact hold _ (List.mem_append_right _ (by rw [hup]; exact List.mem_cons_self))
      · exact hnew q hin hup

/-- A report that was due is owed once less. -/
theorem reports_owed {rs : List IgmpDue} {mine : IgmpDue → Bool} {x : IgmpDue}
    (hx : x ∈ (rs.map (fun r => if mine r then { r with left := r.left - 1 } else r)).filter (fun r => r.left != 0))
    (h : mine x = true) : { x with left := x.left + 1 } ∈ rs := by
  obtain ⟨hin, hleft⟩ := List.mem_filter.mp hx
  obtain ⟨r, hr, he⟩ := List.mem_map.mp hin
  cases hm : mine r with
  | true =>
    rw [if_pos hm] at he
    subst he
    have hne : r.left - 1 ≠ 0 := bne_iff_ne.mp hleft
    have hback : ({ r with left := r.left - 1 + 1 } : IgmpDue) = r := by rw [show r.left - 1 + 1 = r.left by omega]
    exact hback ▸ hr
  | false =>
    rw [if_neg (by rw [hm]; decide)] at he
    rw [← he, hm] at h
    exact absurd h (by decide)

/-! Legs, sources and links. -/

theorem legDown_shows {n leg : Nat} (hn : n < 16) (hl : leg < 2) (s : State) : OnlyRegs s (legDownFx n leg s) ∧
    (legDownFx n leg s).rd (if leg = 0 then R.STR.LEG_A_OK n else R.STR.LEG_B_OK n) = 0 ∧ (legDownFx n leg s).raw (R.STR.ev_LEG_DOWN n) = true ∧
    (legDownFx n leg s).rd (if leg = 0 then R.STR.LEG_B_OK n else R.STR.LEG_A_OK n) = s.rd (if leg = 0 then R.STR.LEG_B_OK n else R.STR.LEG_A_OK n) := by
  have hkey : ∀ n < 16, ∀ f ∈ [R.STR.LEG_A_OK n, R.STR.LEG_B_OK n], FieldRules.fits f = true ∧ f.w = 1 ∧ offKey f (evtRawKey (R.STR.ev_LEG_DOWN n).page) = true ∧
      offKey f (evtPendKey (R.STR.ev_LEG_DOWN n).page) = true := by decide
  have hsep : sep (R.STR.LEG_A_OK n) (R.STR.LEG_B_OK n) = true ∧ sep (R.STR.LEG_B_OK n) (R.STR.LEG_A_OK n) = true := by interval_cases n <;> decide
  have hown (f g : Fld) (hf : f ∈ [R.STR.LEG_A_OK n, R.STR.LEG_B_OK n]) (hg : g ∈ [R.STR.LEG_A_OK n, R.STR.LEG_B_OK n]) (h : sep g f = true) :
      ((s.wr f 0).level (R.STR.ev_LEG_DOWN n) true).rd f = 0 ∧ ((s.wr f 0).level (R.STR.ev_LEG_DOWN n) true).rd g = s.rd g := by
    obtain ⟨h1, -, h3, h4⟩ := hkey n hn f hf
    obtain ⟨-, -, g3, g4⟩ := hkey n hn g hg
    exact ⟨(rd_level_sep _ h3 h4).trans ((rd_wr_own _ _ h1).trans (Nat.zero_mod _)), (rd_level_sep _ g3 g4).trans (rd_wr_sep _ _ h)⟩
  refine ⟨onlyRegs_trans (onlyRegs_wr _ _ _) (onlyRegs_level _ _ _), ?_, raw_level _ (show 0 < 32 by decide) true, ?_⟩ <;>
    unfold legDownFx <;> interval_cases leg
  · exact (hown _ _ (by simp) (by simp) hsep.2).1
  · exact (hown _ _ (by simp) (by simp) hsep.1).1
  · exact (hown _ _ (by simp) (by simp) hsep.2).2
  · exact (hown _ _ (by simp) (by simp) hsep.1).2

theorem strSt_modStr (s : State) (n : Nat) (f : StrSt → StrSt) : (s.modStr n f).strSt n = f (s.strSt n) := smGet_set_same _ _ _ _

/-- A source that drops its picture. -/
def srcDropped (src : Nat) (s : State) : State :=
  s.modStr src (fun x => { x with since := s.time, whole := [], pic := x.pic.map (fun p => { p with dead := true }) })

theorem srcDrop_eq (s : State) (src : Nat) : s.srcDrop src =
    (srcDropped src s).cond (decide (src < 16) && s.rd (R.STR.STATE src) == 3 && s.lv (R.STR.KIND src) == 0) (fun s => s.wr (R.STR.STATE src) 2) := rfl

theorem srcDropped_since (src : Nat) (s : State) : ((srcDropped src s).strSt src).since = s.time :=
  congrArg StrSt.since (strSt_modStr s src _)

theorem srcDrop_shows (s : State) (src : Nat) : ((s.srcDrop src).strSt src).since = s.time ∧ (s.srcDrop src).lyr = s.lyr ∧
    (src < 16 → s.rd (R.STR.STATE src) = 3 → s.lv (R.STR.KIND src) = 0 → (s.srcDrop src).rd (R.STR.STATE src) = 2) ∧
    (16 ≤ src → (s.srcDrop src).regs = s.regs) := by
  rw [srcDrop_eq]
  cases hb : decide (src < 16) && s.rd (R.STR.STATE src) == 3 && s.lv (R.STR.KIND src) == 0 with
  | true =>
    rw [cond_of rfl]
    rw [Bool.and_eq_true, Bool.and_eq_true, decide_eq_true_eq] at hb
    obtain ⟨⟨hlt, -⟩, -⟩ := hb
    refine ⟨?_, wr_lyr _ _ _, fun _ _ _ => rd_wr_own _ _ rfl, fun h => absurd hlt (Nat.not_lt_of_le h)⟩
    unfold State.strSt
    rw [wr_str]
    exact srcDropped_since src s
  | false =>
    rw [cond_of_not rfl]
    refine ⟨srcDropped_since src s, rfl, fun h1 h2 h3 => ?_, fun _ => rfl⟩
    rw [h2, h3, decide_eq_true h1] at hb
    exact absurd hb (by decide)

/-! The link of a port. -/

/-- The fields that show the link of a port, and that it is down. -/
def linkKept (p : Nat) : List Fld := [R.NET.LINK_UP p, R.NET.FEC_LOCK p, ⟨0x010 + p, 0x010, 0, 1⟩]

abbrev LinkKept (p : Nat) : State → State → Prop := Stays (fun s : State => (s.role, s.drm)) (linkKept p)

theorem linkKeptFrame (p : Nat) : Frame (LinkKept p) (apartFrom (linkKept p)) (quietFor (linkKept p)) := staysFrame (fun _ _ _ => rfl) _

theorem link_page {p q : Nat} (hp : p < 8) (hq : q < 0x010 ∨ 0x020 ≤ q) : ∀ f ∈ linkKept p, f.page ≠ q ∧ inPage f = true := by
  have hpage : ∀ f ∈ linkKept p, f.page = 0x010 + p ∧ inPage f = true := by interval_cases p <;> decide
  intro f hf
  obtain ⟨h1, h2⟩ := hpage f hf
  exact ⟨by omega, h2⟩

theorem link_apart {p : Nat} (hp : p < 8) {g : Fld} (hg : plain g = true) (hq : g.page < 0x010 ∨ 0x020 ≤ g.page) : apartFrom (linkKept p) g = true :=
  apart_of_page hg (link_page hp hq)

theorem linkKept_ptpLost {p i v : Nat} (hp : p < 8) (hi : i < 2) (s : State) : LinkKept p s (s.ptpLost i v) := by
  have h := linkKeptFrame p
  have hfields : ∀ i < 2, ∀ f ∈ ([R.PTP.PORT_STATE i, R.PTP.CNT_LOST i] ++ ClockFrames.lockFields ++ ClockFrames.activeFields ++ ClockFrames.sourceFields (1 + i)),
      f.page < 0x010 ∧ plain f = true := by decide
  have hW {f : Fld} (hf : f ∈ ([R.PTP.PORT_STATE i, R.PTP.CNT_LOST i] ++ ClockFrames.lockFields ++ ClockFrames.activeFields ++ ClockFrames.sourceFields (1 + i))) :
      apartFrom (linkKept p) f = true := link_apart hp (hfields i hi f hf).2 (.inl (hfields i hi f hf).1)
  have hE {q : Nat} (hq : q < 0x010) : quietFor (linkKept p) q = true := quiet_of_page (link_page hp (.inl hq))
  have hptp : R.PTP.page i < 0x010 := by interval_cases i <;> decide
  have hport : apartFrom (linkKept p) (R.PTP.PORT_STATE i) = true := hW (by simp)
  have hlost : apartFrom (linkKept p) (R.PTP.CNT_LOST i) = true := hW (by simp)
  have hcount (t : State) (b : Bool) : LinkKept p t (t.cond b (fun s => s.incRaise (R.PTP.CNT_LOST i) (R.PTP.ev_LOST i))) :=
    h.cond fun _ => h.incRaise t hlost (hE hptp) (show 2 < 32 by decide)
  unfold State.ptpLost
  refine h.trans ?_ (ClockFrames.frame_loseSource h (fun _ _ _ _ _ => .other rfl rfl) (fun _ _ => .other rfl rfl) (hE (by decide))
    (fun f hf => hW (by simp [hf])) (fun f hf => hW (by simp [hf])) (fun f hf => hW (by simp [hf])) _)
  exact h.trans (PtpPorts.frame_setPort h hport (hE hptp) s v) (hcount _ _)

theorem linkKept_srcDrop {p : Nat} (hp : p < 8) (s : State) (n : Nat) : LinkKept p s (s.srcDrop n) := by
  have h := linkKeptFrame p
  rw [srcDrop_eq]
  have hdrop : LinkKept p s (srcDropped n s) := .other rfl rfl
  exact h.trans hdrop (h.cond fun _ => h.wr _ 2 (link_apart hp rfl (.inr (Nat.le_add_right _ _))))

theorem startReports_eq (s : State) (n leg : Nat) (l : Leg) (leave : Bool) : ∃ m o, s.startReports n leg l leave = { s with net := m, out := o } := by
  unfold State.startReports
  simp only [State.cond]
  split
  · exact ⟨_, _, sendReport_eq _ _⟩
  · exact ⟨_, s.out, rfl⟩

theorem linkKept_rejoin {p : Nat} (hp : p < 8) (s : State) (q : Nat) : LinkKept p s (s.rejoin q) := by
  have h := linkKeptFrame p
  have hstart (t : State) (n leg : Nat) (l : Leg) : LinkKept p t (t.startReports n leg l false) := by
    obtain ⟨m, o, he⟩ := startReports_eq t n leg l false
    rw [he]
    exact .other rfl rfl
  unfold State.rejoin
  refine h.each fun t x _ => ?_
  split
  · exact h.refl t
  · exact h.cond fun _ => h.trans (h.cond fun _ => linkKept_srcDrop hp t _) (hstart _ _ _ _)

/-- What a link that comes up or goes down shows at once. -/
def linkShown (p : Nat) (up : Bool) (s : State) : State := ((s.wrB (R.NET.LINK_UP p) up).wrB (R.NET.FEC_LOCK p) up).netLevel p

theorem linkShown_shows {p : Nat} (hp : p < 8) {up : Bool} {s : State} (hport : s.netPort p = true) (hen : s.lvB (R.NET.EN p) = true) :
    (linkShown p up s).rd (R.NET.LINK_UP p) = b2n up ∧ (linkShown p up s).rd (R.NET.FEC_LOCK p) = b2n up ∧
    (linkShown p up s).raw (R.NET.ev_LINK_DOWN p) = !up ∧ (linkShown p up s).role = s.role ∧ (linkShown p up s).drm = s.drm := by
  let u : State := (s.wrB (R.NET.LINK_UP p) up).wrB (R.NET.FEC_LOCK p) up
  have hkey : ∀ f ∈ [R.NET.LINK_UP p, R.NET.FEC_LOCK p], offKey f (evtRawKey (R.NET.ev_LINK_DOWN p).page) = true ∧
      offKey f (evtPendKey (R.NET.ev_LINK_DOWN p).page) = true := by interval_cases p <;> decide
  have hsep : ∀ g ∈ [R.NET.LINK_UP p, (R.NET.EN p).live, (R.NET.PORT_MODE 0).live], sep g (R.NET.FEC_LOCK p) = true := by interval_cases p <;> decide
  have hsep' : ∀ g ∈ [(R.NET.EN p).live, (R.NET.PORT_MODE 0).live], sep g (R.NET.LINK_UP p) = true := by interval_cases p <;> decide
  have hbit : b2n up % 2 ^ 1 = b2n up := by cases up <;> rfl
  have hup : u.rd (R.NET.LINK_UP p) = b2n up := (rd_wr_sep _ _ (hsep _ (by simp))).trans ((rd_wr_own _ _ rfl).trans hbit)
  have hfec : u.rd (R.NET.FEC_LOCK p) = b2n up := (rd_wr_own _ _ rfl).trans hbit
  have hlive (g : Fld) (hg : g ∈ [(R.NET.EN p).live, (R.NET.PORT_MODE 0).live]) : u.rd g = s.rd g :=
    (rd_wr_sep _ _ (hsep _ (List.mem_cons_of_mem _ hg))).trans (rd_wr_sep _ _ (hsep' _ hg))
  have hport' : u.netPort p = true := by
    unfold State.netPort State.lv at hport ⊢
    rw [hlive _ (by simp)]
    exact hport
  have hen' : u.lvB (R.NET.EN p) = true := (congrArg (· != 0) (hlive _ (by simp))).trans hen
  have hflag : u.flag (R.NET.LINK_UP p) = up := by
    unfold State.flag
    rw [hup]
    cases up <;> rfl
  have hshown : linkShown p up s = u.level (R.NET.ev_LINK_DOWN p) (!up) := by
    show u.level _ (u.netPort p && u.lvB (R.NET.EN p) && !u.flag (R.NET.LINK_UP p)) = _
    rw [hport', hen', hflag]
    rfl
  rw [hshown]
  refine ⟨(rd_level_sep _ (hkey _ (by simp)).1 (hkey _ (by simp)).2).trans hup, (rd_level_sep _ (hkey _ (by simp)).1 (hkey _ (by simp)).2).trans hfec,
    raw_level _ (show 0 < 32 by decide) _, ?_, ?_⟩
  · exact (level_role _ _ _).trans ((wr_role _ _ _).trans (wr_role _ _ _))
  · exact (level_drm _ _ _).trans ((wr_drm _ _ _).trans (wr_drm _ _ _))

theorem netLinkFx_eq (p : Nat) (up : Bool) (s : State) : netLinkFx p up s =
    ((linkShown p up s).each ([0, 1].filter (fun i => (linkShown p up s).lvB (R.PTP.EN i) && (linkShown p up s).lv (R.PTP.NET i) == p)) (fun s i =>
      s.ptpLost i (if up then ppLISTENING else ppFAULTY))).cond up (fun s => s.rejoin p) := rfl

/-- What follows leaves the link as shown. -/
theorem netLinkFx_keeps {p : Nat} (hp : p < 8) (up : Bool) (s : State) : LinkKept p (linkShown p up s) (netLinkFx p up s) := by
  have h := linkKeptFrame p
  rw [netLinkFx_eq]
  refine h.trans (h.each fun t i hi => linkKept_ptpLost hp ?_ t) (h.cond fun _ => linkKept_rejoin hp _ p)
  have hin := (List.mem_filter.mp hi).1
  simp only [List.mem_cons, List.not_mem_nil, or_false] at hin
  omega

/-- Settles O42: a frame is counted first, and then dropped or matched; a report goes out with what is owed of it; the link of a port is shown before
    its PTP instances and legs follow it. -/
theorem networkPortsAndStreams : Obligations.NetworkPortsAndStreams := by
  unfold Obligations.NetworkPortsAndStreams
  refine ⟨fun port t0 f s hs hport hen hup => ⟨_, rfl, ?_⟩, fun port stream leg r s hs hport hup hr hrp hrs hrl => ⟨_, rfl, ?_⟩,
    fun stream leg s hs hst hl hleg => ⟨_, rfl, ?_⟩, fun src t0 s hs hsrc => ⟨_, rfl, ?_⟩, fun port t0 up s hs hport hen => ⟨_, rfl, ?_⟩⟩
  · have hp := netPort_lt hport
    have hguard : (s.isSender && s.netPort port && s.lvB (R.NET.EN port) && s.flag (R.NET.LINK_UP port)) = true := by rw [hs, hport, hen, hup]; rfl
    rw [cond_of (b := s.isSender && s.netPort port && s.lvB (R.NET.EN port) && s.flag (R.NET.LINK_UP port)) hguard]
    obtain ⟨h1, h2, h3, h4⟩ := netFrame_shows hp f (s.atTime t0)
    have hstays := rxCounted_stays hp f (s.atTime t0)
    obtain ⟨htag, hfits, hip⟩ := rxCounted_tag hp f (s.atTime t0)
    have hregs {t : State} (h : OnlyRegs (s.atTime t0) t) : OnlyRegs s t := onlyRegs_trans (onlyRegs_atTime s t0) h
    refine ⟨h1, fun hf => ⟨(h2 hf).1, hregs (h2 hf).2.1, (h2 hf).2.2⟩, fun hf hlen hk => ⟨(h3 hf hlen hk).1, hregs (h3 hf hlen hk).2.1, (h3 hf hlen hk).2.2⟩,
      fun hf hlen hk => ⟨(h4 hf hlen hk).1, hregs (h4 hf hlen hk).2.1, (h4 hf hlen hk).2.2⟩, fun ip mac hf hlen hk ht => ?_,
      fun src mac ident seq data hf hlen hk ht => ?_⟩
    · have hparts := hstays.part
      simp only [Prod.mk.injEq] at hparts
      obtain ⟨hout, hdrm, hnet⟩ := hparts
      obtain ⟨m, n, he⟩ := rxMatch_arp (s := rxCounted port f (s.atTime t0)) (p := port) (ip := ip) (mac := mac) (f := f) (by rw [hip]; exact hk)
        ((hfits _).trans ht)
      rw [netFrameFx_matched hf hlen, he]
      refine ⟨?_, hdrm, hnet⟩
      show (rxCounted port f (s.atTime t0)).out ++ _ = _
      rw [hout, htag]
      rfl
    · have hout : (rxCounted port f (s.atTime t0)).out = [] := congrArg Prod.fst hstays.part
      rw [netFrameFx_matched hf hlen, rxMatch_echo (s := rxCounted port f (s.atTime t0)) (src := src) (mac := mac) (ident := ident) (seq := seq)
        (data := data) (by rw [hip]; exact hk) ((hfits _).trans ht)]
      refine ⟨hregs (onlyRegs_trans (rxCounted_regs _ _ _) (onlyRegs_emit _ _)), ?_⟩
      show (rxCounted port f (s.atTime t0)).out ++ _ = _
      rw [hout, htag]
      rfl
  · rw [cond_of (b := s.isSender && s.netPort port) (by rw [hs, hport]; rfl)]
    obtain ⟨o, he, -, hnew⟩ := reports_sent (s.net.reports.filter (fun r => r.port == port && r.stream == stream && r.leg == leg)) s.start
    have hfx : igmpTimerFx port stream leg s.start = { s.start with out := o, net := { s.net with
        reports := (s.net.reports.map (fun r => if r.port == port && r.stream == stream && r.leg == leg then { r with left := r.left - 1 } else r)).filter
          (fun r => r.left != 0) } } := by
      unfold igmpTimerFx
      simp only
      rw [show s.start.net = s.net from rfl, he]
      rfl
    rw [hfx]
    refine ⟨rfl, ?_, fun x hx hxp hxs hxl => ?_⟩
    · have hmine : r ∈ s.net.reports.filter (fun r => r.port == port && r.stream == stream && r.leg == leg) :=
        List.mem_filter.mpr ⟨hr, by rw [hrp, hrs, hrl]; simp⟩
      have hsent := hnew r hmine (by rw [hrp]; exact hup)
      unfold reportOf at hsent
      rw [hrp] at hsent
      exact hsent
    · exact reports_owed (mine := fun r => r.port == port && r.stream == stream && r.leg == leg) hx (by rw [hxp, hxs, hxl]; simp)
  · rw [cond_of (b := s.isSender && decide (stream < 16 ∧ leg < 2) && (legOf s.lv stream leg).isSome) (by rw [hs, hleg, decide_eq_true ⟨hst, hl⟩]; rfl)]
    obtain ⟨h1, h2⟩ := legDown_shows hst hl s.start
    exact ⟨onlyRegs_trans (onlyRegs_start s) h1, h2⟩
  · rw [cond_of (b := s.isSender && decide (src < 20)) (by rw [hs, decide_eq_true hsrc]; rfl)]
    exact srcDrop_shows (s.atTime t0) src
  · have hp := netPort_lt hport
    rw [cond_of (b := s.isSender && s.netPort port && s.lvB (R.NET.EN port)) (by rw [hs, hport, hen]; rfl)]
    obtain ⟨h1, h2, h3, h4, h5⟩ := linkShown_shows (s := s.atTime t0) hp (up := up) hport hen
    have hk := netLinkFx_keeps hp up (s.atTime t0)
    have hparts := hk.part
    simp only [Prod.mk.injEq] at hparts
    refine ⟨(hk.rd _ (by simp [linkKept])).trans h1, (hk.rd _ (by simp [linkKept])).trans h2, ?_, hparts.1.trans h4, hparts.2.trans h5⟩
    rw [raw_eq_rd] at h3 ⊢
    exact (congrArg (· != 0) (hk.rd ⟨0x010 + port, 0x010, 0, 1⟩ (by simp [linkKept]))).trans h3

end Sys2Proof.Proofs.NetPorts


/-!
Surface rings and fences (06 R147; 02 R55): what the next surface of a source depends on, and what a signalled fence changes.
-/

namespace Sys2Proof.Proofs.Surfaces
open Sys2Proof.Machine Sys2Proof.Laws Sys2Proof.Proofs.Frames Sys2Proof.Proofs.FieldRules Sys2Proof.Proofs.Framing Sys2Proof.Proofs.DramFrames
  Sys2Proof.Proofs.PageFrames

/-! The next surface. -/

/-- The fields of a layer that lease a surface. -/
def leaseFields (n : Nat) : List Fld := [(R.LYR.SRC n).live, (R.LYR.SRC_SEL n).live, R.LYR.LEASE_VALID n, R.LYR.LEASE_IDX n]

/-- The fields that show the newest surface of a source. -/
def readyFields (src : Nat) : List Fld :=
  if src < 16 then [R.STR.READY_VALID src, R.STR.READY_IDX src] else [R.SDI.READY_VALID (src - 16), R.SDI.READY_IDX (src - 16)]

/-- All that the next surface depends on. -/
def surfFields (src : Nat) : List Fld := readyFields src ++ layerNos.flatMap leaseFields

theorem nextSurface_congr {s t : State} {src : Nat} (h : ∀ f ∈ surfFields src, t.rd f = s.rd f) (count : Nat) :
    t.nextSurface src count = s.nextSurface src count := by
  have hready : t.streamReady src = s.streamReady src := by
    have hr : ∀ f ∈ readyFields src, t.rd f = s.rd f := fun f hf => h f (List.mem_append_left _ hf)
    unfold State.streamReady State.flag
    unfold readyFields at hr
    split
    · next hlt =>
      rw [if_pos hlt] at hr
      rw [hr _ (by simp), hr _ (by simp)]
    · next hlt =>
      rw [if_neg hlt] at hr
      rw [hr _ (by simp), hr _ (by simp)]
  have hleased : ∀ i, t.surfaceLeased src i = s.surfaceLeased src i := by
    intro i
    unfold State.surfaceLeased
    rw [Bool.eq_iff_iff, List.any_eq_true, List.any_eq_true]
    have hsame : ∀ n ∈ layerNos, t.lv (R.LYR.SRC n) = s.lv (R.LYR.SRC n) ∧ t.lv (R.LYR.SRC_SEL n) = s.lv (R.LYR.SRC_SEL n) ∧ t.lease n = s.lease n := by
      intro n hn
      have hl : ∀ f ∈ leaseFields n, t.rd f = s.rd f := fun f hf => h f (List.mem_append_right _ (List.mem_flatMap.mpr ⟨n, hn, hf⟩))
      unfold State.lv State.lease State.flag
      rw [hl _ (by simp [leaseFields]), hl _ (by simp [leaseFields]), hl (R.LYR.LEASE_VALID n) (by simp [leaseFields]), hl (R.LYR.LEASE_IDX n) (by simp [leaseFields])]
      exact ⟨rfl, rfl, rfl⟩
    constructor <;> rintro ⟨n, hn, hc⟩ <;> refine ⟨n, hn, ?_⟩ <;> obtain ⟨h1, h2, h3⟩ := hsame n hn
    · rw [h1, h2, h3] at hc
      exact hc
    · rw [h1, h2, h3]
      exact hc
  unfold State.nextSurface
  rw [hready, show t.surfaceLeased src = s.surfaceLeased src from funext hleased]

/-- It is one of the ring. -/
theorem nextSurface_lt {s : State} {src count i : Nat} (h : s.nextSurface src count = some i) : i < count := by
  unfold State.nextSurface at h
  have hin := List.mem_of_find?_eq_some h
  split at hin
  · exact List.mem_range.mp hin
  · obtain ⟨k, hk, rfl⟩ := List.mem_map.mp hin
    have := List.mem_range.mp hk
    exact Nat.mod_lt _ (by omega)

/-! A signalled fence. -/

/-- The fields that show the fences of a layer. -/
def fenceFields (n : Nat) : List Fld := [R.LYR.PEND_IDX n, R.LYR.PEND_VALID n, R.LSE.ARMED]

/-- A relation that the records of the layers and of the sources may change under. -/
def LayerFree (Rel : State → State → Prop) : Prop := ∀ (s : State) (l : List (Nat × LayerSt)) (x : List (Nat × StrSt)), Rel s { s with lyr := l, str := x }

section
variable {Rel : State → State → Prop} {W : Fld → Bool} {E : Nat → Bool} (h : Frame Rel W E)
include h

theorem frame_showFence {n : Nat} (hW : ∀ f ∈ fenceFields n, W f = true) (s : State) : Rel s (s.showFence n) := by
  have hshow (i v : Nat) : Rel s ((s.wr (R.LYR.PEND_IDX n) i).wr (R.LYR.PEND_VALID n) v) :=
    h.trans (h.wr s i (hW _ (by simp [fenceFields]))) (h.wr _ v (hW _ (by simp [fenceFields])))
  have harmed (t : State) : Rel t (t.each (List.range 4) (fun s b => s.wr R.LSE.ARMED (withBit (s.rd R.LSE.ARMED) (4 * n + b) (s.windowArmed n b)))) :=
    h.each fun u b _ => h.wr u _ (hW _ (by simp [fenceFields]))
  unfold State.showFence
  simp only
  split
  · exact h.trans (hshow _ _) (harmed _)
  · exact h.trans (hshow _ _) (harmed _)

variable (hL : LayerFree Rel)
include hL

theorem frame_signal {n : Nat} (hW : ∀ f ∈ fenceFields n, W f = true) (s : State) (b t : Nat) : Rel s (s.signal n b t) :=
  h.trans (hL s _ s.str) (frame_showFence h hW _)

theorem frame_signalStream (hW : ∀ n, n < 16 → ∀ f ∈ fenceFields n, W f = true) (s : State) (src idx t : Nat) : Rel s (s.signalStream src idx t) := by
  unfold State.signalStream
  refine h.trans (hL s s.lyr _) (h.each fun u n hn => ?_)
  exact frame_signal h hL (hW n (List.mem_range.mp (List.mem_filter.mp hn).1)) u _ _

end

/-- Showing a fence changes registers alone. -/
theorem showFence_lyr (s : State) (n : Nat) : (s.showFence n).lyr = s.lyr :=
  frame_showFence (partFrame (F := State.lyr) fun _ _ _ => rfl) (fun _ _ => rfl) s

theorem layer_of_lyr {s t : State} (h : t.lyr = s.lyr) (l : Nat) : t.layer l = s.layer l := by unfold State.layer; rw [h]

theorem signal_own (s : State) (l b t : Nat) : ((s.signal l b t).layer l).sigs = (b, t) :: (s.layer l).sigs := by
  have hmod : (s.modLayer l (fun x => { x with sigs := (b, t) :: x.sigs })).layer l = { s.layer l with sigs := (b, t) :: (s.layer l).sigs } :=
    smGet_set_same _ _ _ _
  rw [show (s.signal l b t).layer l = _ from layer_of_lyr (showFence_lyr _ l) l, hmod]

theorem signal_other (s : State) {l q : Nat} (h : q ≠ l) (b t : Nat) : (s.signal l b t).layer q = s.layer q :=
  (layer_of_lyr (showFence_lyr _ l) q).trans (smGet_set_other _ _ _ h)

/-- Every layer that takes a source has its fence signalled once. -/
theorem signalStream_own {s : State} {src l : Nat} (hl : l < 16) (hsrc : s.lv (R.LYR.SRC l) = 1) (hsel : s.lv (R.LYR.SRC_SEL l) = src) (idx t : Nat) :
    ((s.signalStream src idx t).layer l).sigs = (idx, t) :: (s.layer l).sigs := by
  let xs : List Nat := layerNos.filter (fun n => s.lv (R.LYR.SRC n) == 1 && s.lv (R.LYR.SRC_SEL n) == src)
  have hin : l ∈ xs := List.mem_filter.mpr ⟨List.mem_range.mpr hl, by rw [hsrc, hsel]; simp⟩
  have hnodup : xs.Nodup := List.nodup_range.filter _
  exact DramControl.each_at (P := fun u => u.layer l = s.layer l) (Q := fun u => (u.layer l).sigs = (idx, t) :: (s.layer l).sigs)
    (f := fun s n => s.signal n idx t) (I := fun _ => True) (fun u i _ hi hu => (signal_other u (Ne.symm hi) idx t).trans hu)
    (fun u hu => (signal_own u l idx t).trans (by rw [hu])) (fun u i _ hi hu => by rw [signal_other u (Ne.symm hi) idx t]; exact hu)
    (fun _ _ => trivial) hin hnodup (s := { s with str := smMod (fun _ => {}) s.str src (fun x => { x with readyAt := t }) }) rfl

end Sys2Proof.Proofs.Surfaces


/-!
THEOREMS. Pictures of streams and SDI receivers (06 R147 to R152). Settles O43.
-/

namespace Sys2Proof.Proofs.Pictures
open Sys2Proof.Machine Sys2Proof.Laws Sys2Proof.Proofs.Frames Sys2Proof.Proofs.FieldRules Sys2Proof.Proofs.Framing Sys2Proof.Proofs.DramFrames
  Sys2Proof.Proofs.PageFrames Sys2Proof.Proofs.Surfaces Sys2Proof.Proofs.NetPorts

/-! A picture that is stored. -/

/-- The records that the storage of a picture leaves. -/
def storedPart (s : State) : List (Nat × LayerSt) × List (Nat × StrSt) × Nat := (s.lyr, s.str, s.time)

/-- The fields of the layers that say which take a source. -/
def takerFields : List Fld := layerNos.flatMap (fun n => [(R.LYR.SRC n).live, (R.LYR.SRC_SEL n).live])

theorem storedDram {fs : List Fld} (h : lowFields fs = true) : DramRel (Stays storedPart fs) (apartFrom fs) (quietFor fs) :=
  staysDram_low (fun _ _ _ => rfl) (fun _ _ _ => rfl) (fun _ _ => rfl) (fun _ _ _ => rfl) h

theorem frame_convert {Rel : State → State → Prop} (hfree : ∀ (s : State) (n : Nat), Rel s { s with free := n }) (s : State) (c : Conv) (scan w h : Nat) (p : Picture) :
    Rel s (s.convert c scan w h p).2 := hfree s _

theorem frame_storeBlocks {Rel : State → State → Prop} {W : Fld → Bool} {E : Nat → Bool} (d : DramRel Rel W E)
    (hmem : ∀ (s : State) (m : List Host.Cell), Rel s { s with drm := { s.drm with mem := m } }) (s : State) (base w h count : Nat) (rows : List (List Pixel)) :
    Rel s (s.storeBlocks base w h count rows) := d.frame.each fun t _ _ => frame_dramStore d hmem t _ _

/-- A picture converted and stored. -/
def storedAt (s : State) (c : Conv) (scan w h base : Nat) (p : Picture) : State :=
  (s.convert c scan w h p).2.storeSurface base w h (s.convert c scan w h p).1

theorem storedAt_stays {fs : List Fld} (hfs : lowFields fs = true) (s : State) (c : Conv) (scan w h base : Nat) (p : Picture) :
    Stays storedPart fs s (storedAt s c scan w h base p) := by
  have d := storedDram hfs
  refine d.frame.trans (frame_convert (fun s n => .other rfl rfl) s c scan w h p) ?_
  exact frame_storeBlocks d (fun _ _ => .other rfl rfl) _ _ _ _ _ _

/-! Streams. -/

/-- The oldest whole picture is taken. -/
def picTaken (src : Nat) (rest : List PicAsm) (s : State) : State := s.modStr src (fun x => { x with whole := rest })

/-- An incomplete one counts. -/
def lostNoted (n : Nat) (lost : Bool) (s : State) : State := s.cond lost (fun s => s.incRaise (R.STR.CNT_INCOMPLETE n) (R.STR.ev_INCOMPLETE n))

/-- The fields that the count leaves. -/
def strKept (n : Nat) : List Fld :=
  surfFields n ++ [(R.STR.INCOMPLETE n).live, (R.STR.BUF_COUNT n).live, R.STR.CNT_NOBUF n]

theorem lostNoted_stays {n : Nat} (hn : n < 16) (lost : Bool) (s : State) : Stays (fun s => (storedPart s, s.drm, s.out)) (strKept n) s (lostNoted n lost s) := by
  have h := staysFrame (F := fun s : State => (storedPart s, s.drm, s.out)) (fun _ _ _ => rfl) (strKept n)
  have hW : ∀ n < 16, apartFrom (strKept n) (R.STR.CNT_INCOMPLETE n) = true ∧ quietFor (strKept n) (R.STR.ev_INCOMPLETE n).page = true := by decide +kernel
  exact h.cond fun _ => h.incRaise s (hW n hn).1 (hW n hn).2 (show 2 < 32 by decide)

theorem lostNoted_counts {n : Nat} (hn : n < 16) (s : State) : Counted s (lostNoted n true s) (R.STR.CNT_INCOMPLETE n) ∧
    Pending (lostNoted n true s) (R.STR.ev_INCOMPLETE n) := by
  have hkey : ∀ n < 16, offKey (R.STR.CNT_INCOMPLETE n) (evtPendKey (R.STR.ev_INCOMPLETE n).page) = true := by decide
  exact ⟨(rd_raise_sep _ (hkey n hn)).trans (counted_inc s rfl rfl), pending_raise _ (show 2 < 32 by decide)⟩

/-- A picture in its surface, and READY showing it. -/
def strShown (n i rtp : Nat) (s : State) : State :=
  (((s.wr (R.STR.READY_IDX n) i).wr (R.STR.READY_VALID n) 1).wr (R.STR.READY_RTP n) (rtp % 2 ^ 32)).signalStream n i s.time

/-- The surface that a picture goes to. -/
def strStored (n i : Nat) (a : PicAsm) (s : State) : State :=
  storedAt s (s.strConv n (s.lv (R.STR.SAMPLING n)) (s.lv (R.STR.DEPTH n))) (s.lv (R.STR.SCAN n)) (s.lv (R.STR.WIDTH n)) (s.lv (R.STR.HEIGHT n))
    (s.lv (R.STR.BUF_BASE n) + i * s.lv (R.STR.BUF_STRIDE n) * 4096) (a.picture (s.lv (R.STR.SCAN n)) (s.lv (R.STR.WIDTH n)) (s.lv (R.STR.HEIGHT n)))

theorem strPicture_eq (s : State) (n : Nat) (a : PicAsm) : s.strPicture n a =
    if a.lost && !(lostNoted n a.lost s).lvB (R.STR.INCOMPLETE n) then lostNoted n a.lost s
    else match (lostNoted n a.lost s).nextSurface n ((lostNoted n a.lost s).lv (R.STR.BUF_COUNT n)) with
      | none => (lostNoted n a.lost s).incRaise (R.STR.CNT_NOBUF n) (R.STR.ev_NOBUF n)
      | some i => strShown n i a.rtp (strStored n i a (lostNoted n a.lost s)) := rfl

/-! A signalled source. -/

/-- Only the time of the newest surface changes in the records of the sources. -/
theorem signalStream_whole (s : State) (src idx t q : Nat) : ((s.signalStream src idx t).strSt q).whole = (s.strSt q).whole := by
  have h := partFrame (F := State.str) fun _ _ _ => rfl
  have hstr : (s.signalStream src idx t).str = (s.modStr src (fun x => { x with readyAt := t })).str := by
    refine h.each (s := s.modStr src (fun x => { x with readyAt := t })) fun u n _ => ?_
    exact h.trans (t := u.modLayer n (fun x => { x with sigs := (idx, t) :: x.sigs })) rfl (frame_showFence h (fun _ _ => rfl) _)
  have hst : (s.signalStream src idx t).strSt q = (s.modStr src (fun x => { x with readyAt := t })).strSt q := by unfold State.strSt; rw [hstr]
  rw [hst]
  by_cases hq : q = src
  · rw [hq, strSt_modStr]
  · rw [show (s.modStr src (fun x => { x with readyAt := t })).strSt q = s.strSt q from smGet_set_other _ _ _ hq]

/-- What the shown surface of a stream leaves. -/
def shownFields (n : Nat) : List Fld := [R.STR.READY_IDX n, R.STR.READY_VALID n, R.STR.READY_RTP n, R.STR.CNT_INCOMPLETE n]

theorem signalStream_stays {fs : List Fld} (hfs : ∀ n < 16, ∀ f ∈ fenceFields n, apartFrom fs f = true) (s : State) (src idx t : Nat) :
    Stays (fun _ : State => ()) fs s (s.signalStream src idx t) :=
  frame_signalStream (staysFrame (fun _ _ _ => rfl) fs) (fun _ _ _ => .other rfl rfl) hfs s src idx t

theorem shownFields_apart : ∀ n < 16, ∀ l < 16, ∀ f ∈ fenceFields l, apartFrom (shownFields n) f = true := by decide +kernel

theorem strShown_shows {n i : Nat} (hn : n < 16) (hi : i < 64) (rtp : Nat) (s : State) :
    (strShown n i rtp s).rd (R.STR.READY_IDX n) = i ∧ (strShown n i rtp s).rd (R.STR.READY_VALID n) = 1 ∧
    (strShown n i rtp s).rd (R.STR.READY_RTP n) = rtp % 2 ^ 32 ∧ (strShown n i rtp s).rd (R.STR.CNT_INCOMPLETE n) = s.rd (R.STR.CNT_INCOMPLETE n) := by
  have hsep : ∀ n < 16, sep (R.STR.READY_IDX n) (R.STR.READY_VALID n) = true ∧ sep (R.STR.READY_IDX n) (R.STR.READY_RTP n) = true ∧
    sep (R.STR.READY_VALID n) (R.STR.READY_RTP n) = true ∧
    sep (R.STR.CNT_INCOMPLETE n) (R.STR.READY_IDX n) = true ∧ sep (R.STR.CNT_INCOMPLETE n) (R.STR.READY_VALID n) = true ∧
    sep (R.STR.CNT_INCOMPLETE n) (R.STR.READY_RTP n) = true := by decide
  obtain ⟨h1, h2, h3, h4, h5, h6⟩ := hsep n hn
  have hs := signalStream_stays (shownFields_apart n hn) (((s.wr (R.STR.READY_IDX n) i).wr (R.STR.READY_VALID n) 1).wr (R.STR.READY_RTP n) (rtp % 2 ^ 32)) n i s.time
  refine ⟨(hs.rd _ (by simp [shownFields])).trans ?_, (hs.rd _ (by simp [shownFields])).trans ?_, (hs.rd _ (by simp [shownFields])).trans ?_,
    (hs.rd _ (by simp [shownFields])).trans ?_⟩
  · rw [rd_wr_sep _ _ h2, rd_wr_sep _ _ h1, rd_wr_own _ _ rfl]
    exact Nat.mod_eq_of_lt hi
  · rw [rd_wr_sep _ _ h3, rd_wr_own _ _ rfl]
    rfl
  · rw [rd_wr_own _ _ rfl]
    exact Nat.mod_eq_of_lt (Nat.mod_lt _ (by decide))
  · rw [rd_wr_sep _ _ h6, rd_wr_sep _ _ h5, rd_wr_sep _ _ h4]

/-- A surface of a ring of a stream has six bits. -/
theorem strSurface_lt {s : State} {n i : Nat} (h : s.nextSurface n (s.lv (R.STR.BUF_COUNT n)) = some i) : i < 64 := by
  have hcount : s.lv (R.STR.BUF_COUNT n) < 2 ^ 4 := Nat.mod_lt _ (Nat.two_pow_pos 4)
  have := nextSurface_lt h
  omega

/-- What the storage of a picture of a stream leaves. -/
def strLeft (n : Nat) : List Fld := takerFields ++ [R.STR.CNT_INCOMPLETE n]

theorem strLeft_low : ∀ n < 16, lowFields (strLeft n) = true := by decide +kernel

theorem strStored_stays {n : Nat} (hn : n < 16) (i : Nat) (a : PicAsm) (s : State) : Stays storedPart (strLeft n) s (strStored n i a s) :=
  storedAt_stays (strLeft_low n hn) s _ _ _ _ _ _

theorem lostNoted_incomplete {n : Nat} (hn : n < 16) (lost : Bool) (s : State) :
    (lostNoted n lost s).lvB (R.STR.INCOMPLETE n) = s.lvB (R.STR.INCOMPLETE n) := by
  unfold State.lvB State.lv
  rw [(lostNoted_stays hn lost s).rd _ (by simp [strKept])]

theorem lostNoted_taken {n : Nat} (hn : n < 16) {a : PicAsm} {s : State} (htake : a.lost = false ∨ s.lvB (R.STR.INCOMPLETE n) = true) :
    (a.lost && !(lostNoted n a.lost s).lvB (R.STR.INCOMPLETE n)) = false := by
  rw [lostNoted_incomplete hn]
  rcases htake with h | h <;> rw [h]
  · rfl
  · exact Bool.and_false _

theorem lostNoted_next {n : Nat} (hn : n < 16) (lost : Bool) (s : State) :
    (lostNoted n lost s).nextSurface n ((lostNoted n lost s).lv (R.STR.BUF_COUNT n)) = s.nextSurface n (s.lv (R.STR.BUF_COUNT n)) := by
  have hkeep := (lostNoted_stays hn lost s).rd
  rw [nextSurface_congr (s := s) fun f hf => hkeep f (List.mem_append_left _ hf)]
  unfold State.lv
  rw [hkeep _ (by simp [strKept])]

/-- A whole picture goes to the next surface, which is shown and signalled. -/
theorem strPicture_shows {n i l : Nat} {a : PicAsm} {s : State} (hn : n < 16) (htake : a.lost = false ∨ s.lvB (R.STR.INCOMPLETE n) = true)
    (hi : s.nextSurface n (s.lv (R.STR.BUF_COUNT n)) = some i) (hl : l < 16) (hsrc : s.lv (R.LYR.SRC l) = 1) (hsel : s.lv (R.LYR.SRC_SEL l) = n) :
    (s.strPicture n a).rd (R.STR.READY_IDX n) = i ∧ (s.strPicture n a).rd (R.STR.READY_VALID n) = 1 ∧
    (s.strPicture n a).rd (R.STR.READY_RTP n) = a.rtp % 2 ^ 32 ∧ ((s.strPicture n a).layer l).sigs = (i, s.time) :: (s.layer l).sigs ∧
    ((s.strPicture n a).strSt n).whole = (s.strSt n).whole ∧
    (a.lost = true → Counted s (s.strPicture n a) (R.STR.CNT_INCOMPLETE n) ∧ Pending (s.strPicture n a) (R.STR.ev_INCOMPLETE n)) := by
  have hnote := lostNoted_stays hn a.lost s
  have hpart : storedPart (lostNoted n a.lost s) = storedPart s := congrArg Prod.fst hnote.part
  have hstore := strStored_stays hn i a (lostNoted n a.lost s)
  have hkeep : ∀ f ∈ strKept n, (lostNoted n a.lost s).rd f = s.rd f := fun f hf => hnote.rd f hf
  have htaken := lostNoted_taken hn htake
  have hnext := (lostNoted_next hn a.lost s).trans hi
  have heq : s.strPicture n a = strShown n i a.rtp (strStored n i a (lostNoted n a.lost s)) := by
    rw [strPicture_eq, htaken, if_neg (by decide), hnext]
  obtain ⟨h1, h2, h3, h4⟩ := strShown_shows hn (strSurface_lt hi) a.rtp (strStored n i a (lostNoted n a.lost s))
  have hlv : ∀ f ∈ takerFields, (strStored n i a (lostNoted n a.lost s)).rd f = s.rd f := by
    intro f hf
    refine (hstore.rd f (List.mem_append_left _ hf)).trans (hkeep f ?_)
    obtain ⟨m, hm, hf⟩ := List.mem_flatMap.mp hf
    refine List.mem_append_left _ (List.mem_append_right _ (List.mem_flatMap.mpr ⟨m, hm, ?_⟩))
    simp only [List.mem_cons, List.not_mem_nil, or_false] at hf
    rcases hf with rfl | rfl <;> simp [leaseFields]
  have htaker : ∀ f ∈ [(R.LYR.SRC l).live, (R.LYR.SRC_SEL l).live], f ∈ takerFields := fun f hf =>
    List.mem_flatMap.mpr ⟨l, List.mem_range.mpr hl, hf⟩
  have hparts : storedPart (strStored n i a (lostNoted n a.lost s)) = storedPart s := hstore.part.trans hpart
  obtain ⟨hlyr, hst, htime⟩ : (strStored n i a (lostNoted n a.lost s)).lyr = s.lyr ∧ (strStored n i a (lostNoted n a.lost s)).str = s.str ∧
      (strStored n i a (lostNoted n a.lost s)).time = s.time := by
    unfold storedPart at hparts
    simpa only [Prod.mk.injEq] using hparts
  have hregs (i rtp : Nat) (t : State) : (((t.wr (R.STR.READY_IDX n) i).wr (R.STR.READY_VALID n) 1).wr (R.STR.READY_RTP n) (rtp % 2 ^ 32)).lyr = t.lyr := by
    rw [wr_lyr, wr_lyr, wr_lyr]
  have hkeepW (i rtp : Nat) (t : State) {f : Fld} (hf : f ∈ takerFields) :
      (((t.wr (R.STR.READY_IDX n) i).wr (R.STR.READY_VALID n) 1).wr (R.STR.READY_RTP n) (rtp % 2 ^ 32)).rd f = t.rd f := by
    have hsep : ∀ n < 16, ∀ f ∈ takerFields, sep f (R.STR.READY_IDX n) = true ∧ sep f (R.STR.READY_VALID n) = true ∧ sep f (R.STR.READY_RTP n) = true := by
      decide +kernel
    obtain ⟨h1, h2, h3⟩ := hsep n hn f hf
    rw [rd_wr_sep _ _ h3, rd_wr_sep _ _ h2, rd_wr_sep _ _ h1]
  rw [heq]
  refine ⟨h1, h2, h3, ?_, ?_, fun hlost => ?_⟩
  · refine (signalStream_own hl ?_ ?_ i _).trans ?_
    · exact (hkeepW _ _ _ (htaker _ (by simp))).trans ((hlv _ (htaker _ (by simp))).trans hsrc)
    · exact (hkeepW _ _ _ (htaker _ (by simp))).trans ((hlv _ (htaker _ (by simp))).trans hsel)
    · rw [layer_of_lyr ((hregs _ _ _).trans hlyr), htime]
  · refine (signalStream_whole _ _ _ _ _).trans ?_
    unfold State.strSt
    rw [wr_str, wr_str, wr_str, hst]
  · rw [hlost] at h4 ⊢
    rw [hlost] at hstore
    obtain ⟨hcount, hpend⟩ := lostNoted_counts hn s
    refine ⟨h4.trans ((hstore.rd _ (by simp [strLeft])).trans hcount), ?_⟩
    have hshown : Stays (fun _ : State => ()) [] (strStored n i a (lostNoted n true s)) (strShown n i a.rtp (strStored n i a (lostNoted n true s))) := by
      have h := staysFrame (F := fun _ : State => ()) (fun _ _ _ => rfl) []
      have hW : ∀ n < 16, apartFrom [] (R.STR.READY_IDX n) = true ∧ apartFrom [] (R.STR.READY_VALID n) = true ∧ apartFrom [] (R.STR.READY_RTP n) = true := by
        decide
      obtain ⟨hw1, hw2, hw3⟩ := hW n hn
      refine h.trans (h.trans (h.trans (h.wr _ i hw1) (h.wr _ 1 hw2)) (h.wr _ _ hw3)) (signalStream_stays ?_ _ _ _ _)
      decide
    exact hshown.pend _ (hstore.pend _ hpend)

/-- A picture without a surface counts. -/
theorem strPicture_noBuf {n : Nat} {a : PicAsm} {s : State} (hn : n < 16) (htake : a.lost = false ∨ s.lvB (R.STR.INCOMPLETE n) = true)
    (hnone : s.nextSurface n (s.lv (R.STR.BUF_COUNT n)) = none) :
    Counted s (s.strPicture n a) (R.STR.CNT_NOBUF n) ∧ Pending (s.strPicture n a) (R.STR.ev_NOBUF n) ∧
    (s.strPicture n a).lyr = s.lyr ∧ (s.strPicture n a).drm = s.drm ∧ (s.strPicture n a).str = s.str := by
  have hnote := lostNoted_stays hn a.lost s
  have htaken := lostNoted_taken hn htake
  have hnext := (lostNoted_next hn a.lost s).trans hnone
  rw [strPicture_eq, htaken, if_neg (by decide), hnext]
  have hkey : ∀ n < 16, offKey (R.STR.CNT_NOBUF n) (evtPendKey (R.STR.ev_NOBUF n).page) = true := by decide
  have hpart : storedPart (lostNoted n a.lost s) = storedPart s ∧ (lostNoted n a.lost s).drm = s.drm := by
    have h := hnote.part
    simp only [Prod.mk.injEq] at h
    exact ⟨h.1, h.2.1⟩
  have hfinal : Stays (fun s => (storedPart s, s.drm)) [] (lostNoted n a.lost s) ((lostNoted n a.lost s).incRaise (R.STR.CNT_NOBUF n) (R.STR.ev_NOBUF n)) := by
    have hW : ∀ n < 16, apartFrom [] (R.STR.CNT_NOBUF n) = true := by decide
    exact (staysFrame (fun _ _ _ => rfl) []).incRaise _ (hW n hn) rfl (show 3 < 32 by decide)
  obtain ⟨hpart, hdrm⟩ := hpart
  have hboth := hfinal.part
  unfold storedPart at hpart hboth
  simp only [Prod.mk.injEq] at hpart hboth
  obtain ⟨⟨hlyr, hstr, -⟩, hd⟩ := hboth
  refine ⟨(rd_raise_sep _ (hkey n hn)).trans ((counted_inc _ rfl rfl).trans ?_), pending_raise _ (show 3 < 32 by decide),
    hlyr.trans hpart.1, hd.trans hdrm, hstr.trans hpart.2.1⟩
  rw [hnote.rd _ (by simp [strKept])]

/-- An incomplete picture that is dropped counts. -/
theorem strPicture_dropped {n : Nat} {a : PicAsm} {s : State} (hn : n < 16) (hlost : a.lost = true) (hinc : s.lvB (R.STR.INCOMPLETE n) = false) :
    s.strPicture n a = lostNoted n true s := by
  rw [strPicture_eq, hlost, lostNoted_incomplete hn, hinc, if_pos (by decide)]

/-! SDI receivers. -/

/-- The conversion of an SDI receiver. -/
def sdiConv (s : State) (n : Nat) : Conv :=
  { sampling := 0, depth := 1, full := s.lvB (R.SDI.FULL n), tcs := s.lv (R.SDI.TCS n), color := s.lv (R.SDI.COLOR n),
    sdr := s.lv (R.SDI.SDR_NITS n), hlg := s.lv (R.SDI.HLG_NITS n), peak := s.lv R.CMP.PEAK_NITS }

/-- A picture in its surface, and READY showing it. -/
def sdiShown (n i : Nat) (s : State) : State :=
  ((s.wr (R.SDI.READY_IDX n) i).wr (R.SDI.READY_VALID n) 1).signalStream (16 + n) i s.time

/-- The surface that a picture goes to. -/
def sdiStored (n i : Nat) (p : Picture) (s : State) : State :=
  storedAt s (sdiConv s n) (s.lv (R.SDI.SCAN n)) (s.lv (R.SDI.WIDTH n)) (s.lv (R.SDI.HEIGHT n))
    (s.lv (R.SDI.BUF_BASE n) + i * s.lv (R.SDI.BUF_STRIDE n) * 4096) p

theorem sdiPicture_eq (s : State) (n : Nat) (p : Picture) : s.sdiPicture n p =
    match s.nextSurface (16 + n) (s.lv (R.SDI.BUF_COUNT n)) with
    | none => s.incRaise (R.SDI.CNT_NOBUF n) (R.SDI.ev_NOBUF n)
    | some i => sdiShown n i (sdiStored n i p s) := rfl

theorem sdiPicture_shows {n i l : Nat} {p : Picture} {s : State} (hn : n < 4) (hcount : s.lv (R.SDI.BUF_COUNT n) ≤ 8)
    (hi : s.nextSurface (16 + n) (s.lv (R.SDI.BUF_COUNT n)) = some i) (hl : l < 16) (hsrc : s.lv (R.LYR.SRC l) = 1)
    (hsel : s.lv (R.LYR.SRC_SEL l) = 16 + n) :
    (s.sdiPicture n p).rd (R.SDI.READY_IDX n) = i ∧ (s.sdiPicture n p).rd (R.SDI.READY_VALID n) = 1 ∧
    ((s.sdiPicture n p).layer l).sigs = (i, s.time) :: (s.layer l).sigs := by
  rw [sdiPicture_eq, hi]
  have hlow : lowFields takerFields = true := by decide +kernel
  have hstore : Stays storedPart takerFields s (sdiStored n i p s) := storedAt_stays hlow s _ _ _ _ _ _
  have hparts := hstore.part
  unfold storedPart at hparts
  simp only [Prod.mk.injEq] at hparts
  obtain ⟨hlyr, -, htime⟩ := hparts
  have hi8 : i < 8 := Nat.lt_of_lt_of_le (nextSurface_lt hi) hcount
  have hsep : ∀ n < 4, sep (R.SDI.READY_IDX n) (R.SDI.READY_VALID n) = true := by decide
  have htake : ∀ n < 4, ∀ f ∈ takerFields, sep f (R.SDI.READY_IDX n) = true ∧ sep f (R.SDI.READY_VALID n) = true := by decide +kernel
  have hW : ∀ n < 4, ∀ l < 16, ∀ f ∈ fenceFields l, apartFrom [R.SDI.READY_IDX n, R.SDI.READY_VALID n] f = true := by decide +kernel
  have hs := signalStream_stays (hW n hn) (((sdiStored n i p s).wr (R.SDI.READY_IDX n) i).wr (R.SDI.READY_VALID n) 1) (16 + n) i (sdiStored n i p s).time
  refine ⟨(hs.rd _ (by simp)).trans ?_, (hs.rd _ (by simp)).trans ?_, (signalStream_own hl ?_ ?_ i _).trans ?_⟩
  · rw [rd_wr_sep _ _ (hsep n hn), rd_wr_own _ _ rfl]
    exact Nat.mod_eq_of_lt hi8
  · rw [rd_wr_own _ _ rfl]
    rfl
  · obtain ⟨h1, h2⟩ := htake n hn (R.LYR.SRC l).live (List.mem_flatMap.mpr ⟨l, List.mem_range.mpr hl, by simp⟩)
    refine Eq.trans ?_ ((hstore.rd (R.LYR.SRC l).live (List.mem_flatMap.mpr ⟨l, List.mem_range.mpr hl, by simp⟩)).trans hsrc)
    unfold State.lv
    rw [rd_wr_sep _ _ h2, rd_wr_sep _ _ h1]
  · obtain ⟨h1, h2⟩ := htake n hn (R.LYR.SRC_SEL l).live (List.mem_flatMap.mpr ⟨l, List.mem_range.mpr hl, by simp⟩)
    refine Eq.trans ?_ ((hstore.rd (R.LYR.SRC_SEL l).live (List.mem_flatMap.mpr ⟨l, List.mem_range.mpr hl, by simp⟩)).trans hsel)
    unfold State.lv
    rw [rd_wr_sep _ _ h2, rd_wr_sep _ _ h1]
  · rw [layer_of_lyr ((wr_lyr _ _ _).trans ((wr_lyr _ _ _).trans hlyr)), htime]

theorem sdiPicture_noBuf {n : Nat} {s : State} (hn : n < 4) (hnone : s.nextSurface (16 + n) (s.lv (R.SDI.BUF_COUNT n)) = none) (p : Picture) :
    Counted s (s.sdiPicture n p) (R.SDI.CNT_NOBUF n) ∧ Pending (s.sdiPicture n p) (R.SDI.ev_NOBUF n) ∧
    (s.sdiPicture n p).lyr = s.lyr ∧ (s.sdiPicture n p).drm = s.drm := by
  rw [sdiPicture_eq, hnone]
  have hkey : ∀ n < 4, offKey (R.SDI.CNT_NOBUF n) (evtPendKey (R.SDI.ev_NOBUF n).page) = true := by decide
  have hpart := (partFrame (F := fun s : State => (s.lyr, s.drm)) fun _ _ _ => rfl).incRaise s (f := R.SDI.CNT_NOBUF n) (e := R.SDI.ev_NOBUF n)
    rfl rfl (show 3 < 32 by decide)
  simp only [Prod.mk.injEq] at hpart
  exact ⟨(rd_raise_sep _ (hkey n hn)).trans (counted_inc _ rfl rfl), pending_raise _ (show 3 < 32 by decide), hpart.1, hpart.2⟩

/-- A change of lock. -/
def lockShown (n : Nat) (lock : Bool) (rate : Nat) (s : State) : State :=
  ((s.wrB (R.SDI.LOCKED n) lock).wr (R.SDI.RATE n) (if lock then rate else 0)).raise (R.SDI.ev_LOCK_CHANGE n)

/-- A lost lock. -/
def lockLost (n : Nat) (lock : Bool) (s : State) : State :=
  s.cond (!lock) (fun s => (s.inc (R.SDI.CNT_LOCK_LOST n)).wr (R.SDI.VPID_VALID n) 0)

theorem sdiLockFx_eq (n : Nat) (lock : Bool) (rate : Nat) (s : State) : sdiLockFx n lock rate s =
    (lockLost n lock (lockShown n lock rate s)).srcDrop (if (lockLost n lock (lockShown n lock rate s)).quad then 16 else 16 + n) := rfl

theorem lockLost_stays {n : Nat} (hn : n < 4) (lock : Bool) (s : State) :
    Stays State.time [R.SDI.LOCKED n, R.SDI.RATE n, (R.SDI.QUAD 0).live] s (lockLost n lock s) := by
  have h := staysFrame (F := State.time) (fun _ _ _ => rfl) [R.SDI.LOCKED n, R.SDI.RATE n, (R.SDI.QUAD 0).live]
  have hW : ∀ n < 4, apartFrom [R.SDI.LOCKED n, R.SDI.RATE n, (R.SDI.QUAD 0).live] (R.SDI.CNT_LOCK_LOST n) = true ∧
    apartFrom [R.SDI.LOCKED n, R.SDI.RATE n, (R.SDI.QUAD 0).live] (R.SDI.VPID_VALID n) = true := by decide
  exact h.cond fun _ => h.trans (h.inc s (hW n hn).1) (h.wr _ 0 (hW n hn).2)

theorem lockShown_stays {n : Nat} (hn : n < 4) (lock : Bool) (rate : Nat) (s : State) :
    Stays State.time [R.SDI.CNT_LOCK_LOST n, (R.SDI.QUAD 0).live] s (lockShown n lock rate s) := by
  have h := staysFrame (F := State.time) (fun _ _ _ => rfl) [R.SDI.CNT_LOCK_LOST n, (R.SDI.QUAD 0).live]
  have hW : ∀ n < 4, apartFrom [R.SDI.CNT_LOCK_LOST n, (R.SDI.QUAD 0).live] (R.SDI.LOCKED n) = true ∧
    apartFrom [R.SDI.CNT_LOCK_LOST n, (R.SDI.QUAD 0).live] (R.SDI.RATE n) = true ∧
    quietFor [R.SDI.CNT_LOCK_LOST n, (R.SDI.QUAD 0).live] (R.SDI.ev_LOCK_CHANGE n).page = true := by decide
  obtain ⟨h1, h2, h3⟩ := hW n hn
  exact h.trans (h.trans (h.wrB s lock h1) (h.wr _ _ h2)) (h.raise _ h3 (show 0 < 32 by decide))

theorem flag_of_b2n {s : State} {f : Fld} {b : Bool} (h : s.rd f = b2n b) : s.flag f = b := by
  unfold State.flag
  rw [h]
  cases b <;> rfl

theorem sdiLockFx_shows {n rate : Nat} {lock : Bool} {s : State} (hn : n < 4) :
    (sdiLockFx n lock rate s).flag (R.SDI.LOCKED n) = lock ∧ Pending (sdiLockFx n lock rate s) (R.SDI.ev_LOCK_CHANGE n) ∧
    (sdiLockFx n lock rate s).rd (R.SDI.RATE n) = (if lock then rate % 4 else 0) ∧
    (lock = false → Counted s (sdiLockFx n lock rate s) (R.SDI.CNT_LOCK_LOST n) ∧ (sdiLockFx n lock rate s).rd (R.SDI.VPID_VALID n) = 0) ∧
    ((sdiLockFx n lock rate s).strSt (if s.quad then 16 else 16 + n)).since = s.time := by
  have hshow := lockShown_stays hn lock rate s
  have hlost := lockLost_stays hn lock (lockShown n lock rate s)
  have hquad : (lockLost n lock (lockShown n lock rate s)).quad = s.quad := by
    unfold State.quad State.lvB State.lv
    rw [hlost.rd _ (by simp), hshow.rd _ (by simp)]
  rw [sdiLockFx_eq, hquad]
  obtain ⟨hsince, -, -, hregs⟩ := srcDrop_shows (lockLost n lock (lockShown n lock rate s)) (if s.quad then 16 else 16 + n)
  have hregs := hregs (by split <;> omega)
  have hsep : ∀ n < 4, sep (R.SDI.LOCKED n) (R.SDI.RATE n) = true ∧ offKey (R.SDI.LOCKED n) (evtPendKey (R.SDI.ev_LOCK_CHANGE n).page) = true ∧
    offKey (R.SDI.RATE n) (evtPendKey (R.SDI.ev_LOCK_CHANGE n).page) = true := by decide
  obtain ⟨hs1, hs2, hs3⟩ := hsep n hn
  refine ⟨flag_of_b2n ?_, ?_, ?_, fun hl => ?_, hsince.trans (hlost.part.trans hshow.part)⟩
  · rw [rd_congr hregs, hlost.rd _ (by simp), lockShown, rd_raise_sep _ hs2, rd_wr_sep _ _ hs1, State.wrB, rd_wr_own _ _ rfl]
    cases lock <;> rfl
  · exact (wbit_congr hregs _ _).trans (hlost.pend _ (pending_raise _ (show 0 < 32 by decide)))
  · rw [rd_congr hregs, hlost.rd _ (by simp), lockShown, rd_raise_sep _ hs3, rd_wr_own _ _ rfl]
    cases lock <;> rfl
  · rw [hl] at hshow hregs ⊢
    have hcount : ∀ n < 4, sep (R.SDI.CNT_LOCK_LOST n) (R.SDI.VPID_VALID n) = true := by decide
    refine ⟨?_, (rd_congr hregs _).trans (rd_wr_own _ _ rfl)⟩
    refine (rd_congr hregs _).trans ((rd_wr_sep _ _ (hcount n hn)).trans ((counted_inc _ rfl rfl).trans ?_))
    rw [hshow.rd _ (by simp)]

/-! The frames of a receiver (R150 to R152). -/

/-- A frame contradicts the configured format. -/
def sdiBad (n w h scan fps : Nat) (r1001 : Bool) (vpid : Nat) (s : State) : Bool :=
  decide (w ≠ s.lv (R.SDI.WIDTH n) ∨ h ≠ s.lv (R.SDI.HEIGHT n) ∨ scan ≠ s.lv (R.SDI.SCAN n)) ||
    s.rd (R.SDI.RATE n) != s.lv (R.SDI.EXP_RATE n) || r1001 != s.lvB (R.SDI.RATE_1001 n) ||
    !sdiRaster s.quad (s.rd (R.SDI.RATE n)) w h scan fps r1001 ||
    (vpid != 0 && !Config.vpidFits vpid (s.lv (R.SDI.EXP_RATE n)) (s.lv (R.SDI.RATE_1001 n)) w h scan)

theorem sdiBad_iff (n w h scan fps : Nat) (r1001 : Bool) (vpid : Nat) (s : State) : sdiBad n w h scan fps r1001 vpid s =
    !decide (w = s.lv (R.SDI.WIDTH n) ∧ h = s.lv (R.SDI.HEIGHT n) ∧ scan = s.lv (R.SDI.SCAN n) ∧
      s.rd (R.SDI.RATE n) = s.lv (R.SDI.EXP_RATE n) ∧ r1001 = s.lvB (R.SDI.RATE_1001 n) ∧
      sdiRaster s.quad (s.rd (R.SDI.RATE n)) w h scan fps r1001 = true ∧
      (vpid = 0 ∨ Config.vpidFits vpid (s.lv (R.SDI.EXP_RATE n)) (s.lv (R.SDI.RATE_1001 n)) w h scan = true)) := by
  unfold sdiBad
  rw [Bool.eq_iff_iff]
  simp only [Bool.or_eq_true, Bool.and_eq_true, bne_iff_ne, ne_eq, Bool.not_eq_true', decide_eq_true_eq, decide_eq_false_iff_not, not_and_or, not_or,
    Bool.not_eq_true]
  tauto

/-- The fields that it depends on. -/
def formatFields (n : Nat) : List Fld :=
  [(R.SDI.WIDTH n).live, (R.SDI.HEIGHT n).live, (R.SDI.SCAN n).live, R.SDI.RATE n, (R.SDI.EXP_RATE n).live, (R.SDI.RATE_1001 n).live,
   (R.SDI.QUAD 0).live]

theorem sdiBad_congr {s t : State} {n : Nat} (hk : ∀ f ∈ formatFields n, t.rd f = s.rd f) (w h scan fps : Nat) (r1001 : Bool) (vpid : Nat) :
    sdiBad n w h scan fps r1001 vpid t = sdiBad n w h scan fps r1001 vpid s := by
  unfold sdiBad State.quad State.lvB State.lv
  rw [hk (R.SDI.WIDTH n).live (by simp [formatFields]), hk (R.SDI.HEIGHT n).live (by simp [formatFields]), hk (R.SDI.SCAN n).live (by simp [formatFields]),
    hk (R.SDI.RATE n) (by simp [formatFields]), hk (R.SDI.EXP_RATE n).live (by simp [formatFields]), hk (R.SDI.RATE_1001 n).live (by simp [formatFields]),
    hk (R.SDI.QUAD 0).live (by simp [formatFields])]

/-- CRC errors count. -/
def crcNoted (n errs : Nat) (s : State) : State := s.incBy (R.SDI.CNT_CRC n) errs

/-- The identifier shows. -/
def vpidShown (n vpid : Nat) (s : State) : State := (s.wr (R.SDI.VPID n) vpid).wrB (R.SDI.VPID_VALID n) (vpid != 0)

/-- The frame is judged. -/
def formatJudged (n : Nat) (bad : Bool) (s : State) : State :=
  (s.cond (bad && !s.raw (R.SDI.ev_FORMAT_ERR n)) (fun s => s.inc (R.SDI.CNT_FORMAT_ERR n))).level (R.SDI.ev_FORMAT_ERR n) bad

/-- The skew of a quad link is judged. -/
def skewJudged (n skew : Nat) (s : State) : State := s.cond (n == 0) (fun s => s.level (R.SDI.ev_QUAD_SKEW 0) (s.quad && decide (100 < skew)))

theorem sdiFrameFx_eq (n w h scan fps : Nat) (r1001 : Bool) (vpid skew errs : Nat) (s : State) : sdiFrameFx n w h scan fps r1001 vpid skew errs s =
    if (crcNoted n errs s).quad && n != 0 then crcNoted n errs s
    else skewJudged n skew (formatJudged n (sdiBad n w h scan fps r1001 vpid (vpidShown n vpid (crcNoted n errs s))) (vpidShown n vpid (crcNoted n errs s))) := rfl

/-- The fields that a frame of a receiver leaves, or is shown by. -/
def frameFields (n : Nat) : List Fld := R.SDI.CNT_CRC n :: R.SDI.VPID_VALID n :: formatFields n

theorem crcNoted_stays {n : Nat} (hn : n < 4) (errs : Nat) (s : State) :
    Stays (fun _ : State => ()) (R.SDI.VPID_VALID n :: ⟨0x018 + n, 0x010, 1, 1⟩ :: formatFields n) s (crcNoted n errs s) := by
  have hW : ∀ n < 4, apartFrom (R.SDI.VPID_VALID n :: ⟨0x018 + n, 0x010, 1, 1⟩ :: formatFields n) (R.SDI.CNT_CRC n) = true := by decide
  exact (staysFrame (fun _ _ _ => rfl) _).incBy s errs (hW n hn)

theorem vpidShown_stays {n : Nat} (hn : n < 4) (vpid : Nat) (s : State) :
    Stays (fun _ : State => ()) (R.SDI.CNT_CRC n :: formatFields n) s (vpidShown n vpid s) := by
  have h := staysFrame (F := fun _ : State => ()) (fun _ _ _ => rfl) (R.SDI.CNT_CRC n :: formatFields n)
  have hW : ∀ n < 4, apartFrom (R.SDI.CNT_CRC n :: formatFields n) (R.SDI.VPID n) = true ∧
    apartFrom (R.SDI.CNT_CRC n :: formatFields n) (R.SDI.VPID_VALID n) = true := by decide
  exact h.trans (h.wr s vpid (hW n hn).1) (h.wrB _ _ (hW n hn).2)

theorem formatJudged_stays {n : Nat} (hn : n < 4) (bad : Bool) (s : State) : Stays (fun _ : State => ()) (frameFields n) s (formatJudged n bad s) := by
  have h := staysFrame (F := fun _ : State => ()) (fun _ _ _ => rfl) (frameFields n)
  have hW : ∀ n < 4, apartFrom (frameFields n) (R.SDI.CNT_FORMAT_ERR n) = true ∧ quietFor (frameFields n) (R.SDI.ev_FORMAT_ERR n).page = true := by decide
  exact h.trans (h.cond fun _ => h.inc s (hW n hn).1) (h.level _ _ (hW n hn).2 (show 1 < 32 by decide))

theorem skewJudged_stays {n : Nat} (hn : n < 4) (skew : Nat) (s : State) : Stays (fun _ : State => ()) (frameFields n) s (skewJudged n skew s) := by
  have hE : ∀ n < 4, quietFor (frameFields n) 0x018 = true := by decide
  exact (staysFrame (fun _ _ _ => rfl) _).cond fun _ => (staysFrame (fun _ _ _ => rfl) _).level s _ (hE n hn) (by decide)

/-- The skew changes no judgement of a format. -/
theorem raw_skewJudged {n : Nat} (skew : Nat) (s : State) : (skewJudged n skew s).raw (R.SDI.ev_FORMAT_ERR n) = s.raw (R.SDI.ev_FORMAT_ERR n) := by
  unfold skewJudged
  by_cases hn : n = 0
  · subst hn
    rw [cond_of (b := 0 == 0) rfl]
    exact raw_level_ne s (e := R.SDI.ev_QUAD_SKEW 0) (by decide) (by decide) _
  · rw [cond_of_not (by simpa using hn)]

theorem onlyRegs_sdiFrame (n w h scan fps : Nat) (r1001 : Bool) (vpid skew errs : Nat) (s : State) :
    OnlyRegs s (sdiFrameFx n w h scan fps r1001 vpid skew errs s) := by
  have hcrc : OnlyRegs s (crcNoted n errs s) := onlyRegs_wr s (R.SDI.CNT_CRC n) _
  rw [sdiFrameFx_eq]
  split
  · exact hcrc
  · refine onlyRegs_trans ?_ (onlyRegs_cond (onlyRegs_level _ _ _))
    refine onlyRegs_trans ?_ (onlyRegs_level _ _ _)
    refine onlyRegs_trans ?_ (onlyRegs_cond (onlyRegs_inc _ _))
    exact onlyRegs_trans hcrc (onlyRegs_trans (onlyRegs_wr _ (R.SDI.VPID n) vpid) (onlyRegs_wr _ (R.SDI.VPID_VALID n) _))

/-- What is shown of a frame that is judged. -/
theorem judged_shows {n w h scan fps vpid skew errs : Nat} {r1001 : Bool} {s t : State} (hn : n < 4)
    (ht : t = skewJudged n skew (formatJudged n (sdiBad n w h scan fps r1001 vpid (vpidShown n vpid (crcNoted n errs s)))
      (vpidShown n vpid (crcNoted n errs s)))) :
    t.rd (R.SDI.CNT_CRC n) = (crcNoted n errs s).rd (R.SDI.CNT_CRC n) ∧ t.rd (R.SDI.VPID_VALID n) = b2n (vpid != 0) ∧
    t.raw (R.SDI.ev_FORMAT_ERR n) = sdiBad n w h scan fps r1001 vpid s ∧
    (n = 0 → t.raw (R.SDI.ev_QUAD_SKEW 0) = (s.quad && decide (100 < skew))) := by
  let u := vpidShown n vpid (crcNoted n errs s)
  let bad := sdiBad n w h scan fps r1001 vpid u
  have hcrc := crcNoted_stays hn errs s
  have hvpid := vpidShown_stays hn vpid (crcNoted n errs s)
  have hfmt := formatJudged_stays hn bad u
  have hskew := skewJudged_stays hn skew (formatJudged n bad u)
  have hform : ∀ f ∈ formatFields n, u.rd f = s.rd f := fun f hf =>
    (hvpid.rd f (List.mem_cons_of_mem _ hf)).trans (hcrc.rd f (List.mem_cons_of_mem _ (List.mem_cons_of_mem _ hf)))
  rw [ht]
  refine ⟨?_, ?_, ?_, fun h0 => ?_⟩
  · rw [hskew.rd _ (by simp [frameFields]), hfmt.rd _ (by simp [frameFields]), hvpid.rd _ (by simp)]
  · rw [hskew.rd _ (by simp [frameFields]), hfmt.rd _ (by simp [frameFields])]
    refine (rd_wr_own _ _ rfl).trans ?_
    cases vpid != 0 <;> rfl
  · rw [raw_skewJudged]
    exact (raw_level _ (show 1 < 32 by decide) _).trans (sdiBad_congr hform w h scan fps r1001 vpid)
  · subst h0
    have hquad : (formatJudged 0 bad u).quad = s.quad := by
      unfold State.quad State.lvB State.lv
      rw [hfmt.rd _ (by simp [frameFields, formatFields]), hform _ (by simp [formatFields])]
    unfold skewJudged
    rw [cond_of (b := 0 == 0) rfl]
    exact (raw_level _ (e := R.SDI.ev_QUAD_SKEW 0) (by decide) _).trans (by rw [hquad])

/-- Settles O43. -/
theorem sourcesDeliverPictures : Obligations.SourcesDeliverPictures := by
  unfold Obligations.SourcesDeliverPictures
  refine ⟨?_, ?_, ?_, ?_, ?_, ?_⟩
  · intro src t0 i l p a rest s hs hsrc hen hkind hwhole htake hi hl hlsrc hsel
    refine ⟨_, rfl, ?_⟩
    rw [cond_of (b := s.isSender && (if src < 16 then s.lvB (R.STR.EN src) && s.lv (R.STR.KIND src) == 0 else
      decide (src < 20) && s.sdiDelivers (src - 16))) (by rw [hs, if_pos hsrc, hen, hkind]; rfl)]
    have hfx : pictureFx src p (s.atTime t0) = (picTaken src rest (s.atTime t0)).strPicture src a := by
      unfold pictureFx
      rw [if_pos hsrc, show ((s.atTime t0).strSt src).whole = a :: rest from hwhole]
      rfl
    obtain ⟨h1, h2, h3, h4, h5, h6⟩ := strPicture_shows (s := picTaken src rest (s.atTime t0)) (a := a) hsrc htake hi hl hlsrc hsel
    rw [hfx]
    exact ⟨h1, h2, h3, h4, h5.trans (congrArg StrSt.whole (strSt_modStr _ _ _)), h6⟩
  · intro src t0 p a rest s hs hsrc hen hkind hwhole
    have hguard : (s.isSender && (if src < 16 then s.lvB (R.STR.EN src) && s.lv (R.STR.KIND src) == 0 else
      decide (src < 20) && s.sdiDelivers (src - 16))) = true := by rw [hs, if_pos hsrc, hen, hkind]; rfl
    have hfx : pictureFx src p (s.atTime t0) = (picTaken src rest (s.atTime t0)).strPicture src a := by
      unfold pictureFx
      rw [if_pos hsrc, show ((s.atTime t0).strSt src).whole = a :: rest from hwhole]
      rfl
    have htaken : ((picTaken src rest (s.atTime t0)).strSt src).whole = rest := congrArg StrSt.whole (strSt_modStr _ _ _)
    refine ⟨fun htake hnone => ⟨_, rfl, ?_⟩, fun hlost hinc => ⟨_, rfl, ?_⟩⟩
    · rw [cond_of (b := s.isSender && (if src < 16 then s.lvB (R.STR.EN src) && s.lv (R.STR.KIND src) == 0 else
        decide (src < 20) && s.sdiDelivers (src - 16))) hguard, hfx]
      obtain ⟨h1, h2, h3, h4, h5⟩ := strPicture_noBuf (s := picTaken src rest (s.atTime t0)) (a := a) hsrc htake hnone
      refine ⟨h1, h2, h3, h4, ?_⟩
      unfold State.strSt at htaken ⊢
      rw [h5, htaken]
    · rw [cond_of (b := s.isSender && (if src < 16 then s.lvB (R.STR.EN src) && s.lv (R.STR.KIND src) == 0 else
        decide (src < 20) && s.sdiDelivers (src - 16))) hguard, hfx, strPicture_dropped (s := picTaken src rest (s.atTime t0)) hsrc hlost hinc]
      obtain ⟨hcount, hpend⟩ := lostNoted_counts hsrc (picTaken src rest (s.atTime t0))
      have hpart := lostNoted_stays hsrc true (picTaken src rest (s.atTime t0))
      obtain ⟨hparts, hrd⟩ := And.intro hpart.part hpart.rd
      unfold storedPart at hparts
      simp only [Prod.mk.injEq] at hparts
      obtain ⟨⟨hlyr, hstr, -⟩, hdrm, -⟩ := hparts
      refine ⟨hcount, hpend, hlyr, hdrm, hrd (R.STR.READY_IDX src) (by simp [strKept, surfFields, readyFields, hsrc]), ?_⟩
      unfold State.strSt at htaken ⊢
      rw [hstr, htaken]
  · intro n t0 i l p s hs hn hdel hmiss hstart hcount hl hsrc hsel
    have hguard : (s.isSender && (if 16 + n < 16 then s.lvB (R.STR.EN (16 + n)) && s.lv (R.STR.KIND (16 + n)) == 0 else
      decide (16 + n < 20) && s.sdiDelivers (16 + n - 16))) = true := by
      rw [hs, if_neg (by omega), show 16 + n - 16 = n by omega, hdel, decide_eq_true (by omega)]; rfl
    have hfx : pictureFx (16 + n) p (s.atTime t0) = (s.atTime t0).sdiPicture n p := by
      have hno : (p.startMissed || decide (p.start < ((s.atTime t0).strSt (16 + n)).since)) = false := by
        rw [hmiss]
        exact decide_eq_false (Nat.not_lt_of_le hstart)
      unfold pictureFx
      rw [if_neg (by omega), if_neg (by rw [hno]; decide), show 16 + n - 16 = n by omega]
    refine ⟨fun hi => ⟨_, rfl, ?_⟩, fun hnone => ⟨_, rfl, ?_⟩⟩
    · rw [cond_of (b := s.isSender && (if 16 + n < 16 then s.lvB (R.STR.EN (16 + n)) && s.lv (R.STR.KIND (16 + n)) == 0 else
        decide (16 + n < 20) && s.sdiDelivers (16 + n - 16))) hguard, hfx]
      exact sdiPicture_shows (s := s.atTime t0) hn hcount hi hl hsrc hsel
    · rw [cond_of (b := s.isSender && (if 16 + n < 16 then s.lvB (R.STR.EN (16 + n)) && s.lv (R.STR.KIND (16 + n)) == 0 else
        decide (16 + n < 20) && s.sdiDelivers (16 + n - 16))) hguard, hfx]
      exact sdiPicture_noBuf (s := s.atTime t0) hn hnone p
  · intro n t0 p s hs hn hdel hmiss
    refine ⟨_, rfl, ?_⟩
    have hfx : pictureFx (16 + n) p (s.atTime t0) = s.atTime t0 := by
      have hyes : (p.startMissed || decide (p.start < ((s.atTime t0).strSt (16 + n)).since)) = true := by
        rcases hmiss with h | h
        · rw [h]; rfl
        · exact Bool.or_eq_true_iff.mpr (.inr (decide_eq_true h))
      unfold pictureFx
      rw [if_neg (by omega), if_pos hyes]
    rw [cond_of (b := s.isSender && (if 16 + n < 16 then s.lvB (R.STR.EN (16 + n)) && s.lv (R.STR.KIND (16 + n)) == 0 else
      decide (16 + n < 20) && s.sdiDelivers (16 + n - 16)))
      (by rw [hs, if_neg (by omega), show 16 + n - 16 = n by omega, hdel, decide_eq_true (by omega)]; rfl), hfx]
    exact ⟨rfl, rfl⟩
  · intro n rate t0 lock s hs hn hen hlock
    refine ⟨_, rfl, ?_⟩
    rw [cond_of (b := s.isSender && decide (n < 4) && (s.lvB (R.SDI.EN n) || (s.quad && s.lvB (R.SDI.EN 0))) && s.flag (R.SDI.LOCKED n) != lock)
      (by rw [hs, decide_eq_true hn, hen, hlock]; cases lock <;> rfl)]
    exact sdiLockFx_shows (s := s.atTime t0) hn
  · intro n w h scan fps vpid skew errs r1001 s hs hn hen hlock
    refine ⟨_, rfl, ?_⟩
    rw [cond_of (b := s.isSender && decide (n < 4) && s.flag (R.SDI.LOCKED n) && (s.lvB (R.SDI.EN n) || s.quad))
      (by rw [hs, decide_eq_true hn, hen, hlock]; rfl)]
    have hcrc := crcNoted_stays hn errs s.start
    have hquad : (crcNoted n errs s.start).quad = s.quad := by
      unfold State.quad State.lvB State.lv
      rw [hcrc.rd _ (by simp [formatFields])]
      rfl
    have hcount : (crcNoted n errs s.start).rd (R.SDI.CNT_CRC n) = min (s.rd (R.SDI.CNT_CRC n) + errs) 0xFFFFFFFF := rd_incBy_same s.start rfl rfl errs
    refine ⟨onlyRegs_trans (onlyRegs_start s) (onlyRegs_sdiFrame _ _ _ _ _ _ _ _ _ _), ?_, fun hq h0 => ?_, fun hor => ?_⟩
    all_goals rw [sdiFrameFx_eq, hquad]
    · split
      · exact hcount
      · exact (judged_shows hn rfl).1.trans hcount
    · rw [if_pos (by rw [hq]; simpa using h0)]
      refine ⟨?_, hcrc.rd (R.SDI.VPID_VALID n) (by simp)⟩
      rw [raw_eq_rd, raw_eq_rd]
      exact congrArg (fun k => k != 0) (hcrc.rd ⟨0x018 + n, 0x010, 1, 1⟩ (by simp))
    · have hno : (s.quad && n != 0) = false := by
        rcases hor with h | h <;> rw [h]
        · rfl
        · exact Bool.and_false _
      rw [hno, if_neg (by decide)]
      obtain ⟨-, h2, h3, h4⟩ := judged_shows (s := s.start) (errs := errs) (skew := skew) (w := w) (h := h) (scan := scan) (fps := fps) (r1001 := r1001)
        (vpid := vpid) hn rfl
      exact ⟨h2, h3.trans (sdiBad_iff n w h scan fps r1001 vpid s), h4⟩

end Sys2Proof.Proofs.Pictures


/-!
THEOREMS. Audio inputs, clocks, slips, the rate converter and output frames (15 R394 to R403). Settles O56.
-/

namespace Sys2Proof.Proofs.AudioFlow
open Sys2Proof.Machine Sys2Proof.Laws Sys2Proof.Proofs.Frames Sys2Proof.Proofs.FieldRules Sys2Proof.Proofs.Framing Sys2Proof.Proofs.DramFrames
  Sys2Proof.Proofs.NetPorts Sys2Proof.Proofs.ClockFrames

/-! Sources. -/

theorem audSrc_modAud (s : State) (c : Nat) (f : AudSrc → AudSrc) : (s.modAud c f).audSrc c = f (s.audSrc c) := smGet_set_same _ _ _ _

theorem audSrc_of_aud {s t : State} (h : t.aud = s.aud) (c : Nat) : t.audSrc c = s.audSrc c := by unfold State.audSrc; rw [h]

/-- STATUS leaves the audio block, the tables, the outputs and the counters. -/
theorem showAudio_stays {fs : List Fld} (hA : ∀ f ∈ audioFields, f = R.AUD.CNT_SLIP_DROP ∨ apartFrom fs f = true) (hE : quietFor fs 0x0F0 = true)
    (s : State) : Stays (fun s => (s.aud, s.imm, s.out)) fs s s.showAudio := by
  have h := staysFrame (F := fun s : State => (s.aud, s.imm, s.out)) (fun _ _ _ => rfl) fs
  have hW {f : Fld} (hf : f ∈ audioFields) (hne : f ≠ R.AUD.CNT_SLIP_DROP) : apartFrom fs f = true := (hA f hf).resolve_left hne
  unfold State.showAudio
  refine h.trans ?_ (h.level _ _ hE (by decide))
  refine h.trans ?_ (h.wrB _ _ (hW (f := R.AUD.OUT_CLK) (by decide) (by decide)))
  refine h.trans ?_ (h.wrB _ _ (hW (f := R.AUD.MUTED) (by decide) (by decide)))
  refine h.trans ?_ (h.wrB _ _ (hW (f := R.AUD.RUNNING) (by decide) (by decide)))
  refine h.trans ?_ (h.wrB _ _ (hW (f := R.AUD.ASRC_ACTIVE) (by decide) (by decide)))
  exact h.trans (h.wr s _ (hW (f := R.AUD.AESI_LOCK) (by decide) (by decide))) (h.wrB _ _ (hW (f := R.AUD.TDM_CLK_OK) (by decide) (by decide)))

/-- The fields that STATUS leaves. -/
def statusLeft : List Fld := [R.AUD.CNT_SLIP_DROP, R.AUD.CNT_CLK_LOST, R.AUD.WCLK_OK]

theorem showAudio_leaves (s : State) : Stays (fun s => (s.aud, s.imm, s.out)) statusLeft s s.showAudio :=
  showAudio_stays (by decide) (by decide) s

/-! Inputs. -/

/-- A frame waits in its buffer. -/
def framePushed (c : Nat) (frame : List Nat) (slip : Bool) (s : State) : State :=
  s.modAud c (fun x => { x with
    here := true
    count := x.count.map (· + 1)
    buf := ((if slip then x.buf.drop 1 else x.buf) ++ [frame]).take audioDepth })

/-- A slip counts. -/
def slipCounted (f : Fld) (slip : Bool) (s : State) : State := s.cond slip (fun s => s.incRaise f R.AUD.ev_SLIP)

theorem audioPush_eq (s : State) (c : Nat) (frame : List Nat) : s.audioPush c frame =
    (slipCounted R.AUD.CNT_SLIP_DROP (decide (audioDepth ≤ (s.audSrc c).buf.length) && s.audioLocked c)
      (framePushed c frame (decide (audioDepth ≤ (s.audSrc c).buf.length) && s.audioLocked c) s)).showAudio := rfl

theorem slipCounted_part {f : Fld} (slip : Bool) (s : State) :
    ((slipCounted f slip s).aud, (slipCounted f slip s).imm, (slipCounted f slip s).out) = (s.aud, s.imm, s.out) :=
  (partFrame (F := fun s : State => (s.aud, s.imm, s.out)) fun _ _ _ => rfl).cond fun _ =>
    (partFrame (F := fun s : State => (s.aud, s.imm, s.out)) fun _ _ _ => rfl).incRaise s rfl rfl (by decide)

theorem slipCounted_drop (s : State) : Counted s (slipCounted R.AUD.CNT_SLIP_DROP true s) R.AUD.CNT_SLIP_DROP ∧
    Pending (slipCounted R.AUD.CNT_SLIP_DROP true s) R.AUD.ev_SLIP :=
  ⟨(rd_raise_sep _ (by decide)).trans (counted_inc s rfl rfl), pending_raise _ (by decide)⟩

/-- A kept buffer is no longer than its depth. -/
theorem pushed_buf {buf : List (List Nat)} (h : buf.length ≤ 64) (frame : List Nat) (slip : Bool) (hslip : slip = true → buf ≠ []) :
    ((if slip then buf.drop 1 else buf) ++ [frame]).take audioDepth = if slip then buf.drop 1 ++ [frame] else (buf ++ [frame]).take 64 := by
  cases slip with
  | false => rfl
  | true =>
    refine List.take_of_length_le ?_
    have := List.length_pos_iff.mpr (hslip rfl)
    simp only [if_true, List.length_append, List.length_drop, List.length_singleton, audioDepth]
    omega

/-- What an input frame shows. -/
theorem audioPush_shows {c : Nat} {frame : List Nat} {slip : Bool} {s : State} (hlen : (s.audSrc c).buf.length ≤ 64)
    (hslip : slip = (decide (64 ≤ (s.audSrc c).buf.length) && s.audioLocked c)) :
    (s.audioPush c frame).audSrc c = { s.audSrc c with
      here := true, count := (s.audSrc c).count.map (· + 1),
      buf := (if slip then (s.audSrc c).buf.drop 1 ++ [frame] else ((s.audSrc c).buf ++ [frame]).take 64) } ∧
    (slip = true → Counted s (s.audioPush c frame) R.AUD.CNT_SLIP_DROP ∧ Pending (s.audioPush c frame) R.AUD.ev_SLIP) ∧
    (slip = false → (s.audioPush c frame).rd R.AUD.CNT_SLIP_DROP = s.rd R.AUD.CNT_SLIP_DROP) ∧
    (s.audioPush c frame).imm = s.imm ∧ (s.audioPush c frame).out = s.out := by
  rw [audioPush_eq, show audioDepth = 64 from rfl, ← hslip]
  have hshow := showAudio_leaves (slipCounted R.AUD.CNT_SLIP_DROP slip (framePushed c frame slip s))
  have hparts := hshow.part.trans (slipCounted_part slip _)
  simp only [Prod.mk.injEq] at hparts
  obtain ⟨haud, himm, hout⟩ := hparts
  refine ⟨?_, fun h => ?_, fun h => ?_, himm, hout⟩
  · rw [audSrc_of_aud haud, framePushed, audSrc_modAud, pushed_buf hlen frame slip fun h hnil => ?_]
    rw [h] at hslip
    have hfull := ((Bool.and_eq_true _ _).mp hslip.symm).1
    rw [hnil] at hfull
    exact absurd hfull (by decide)
  · rw [h] at hshow ⊢
    obtain ⟨hc, hp⟩ := slipCounted_drop (framePushed c frame true s)
    exact ⟨(hshow.rd _ (by decide)).trans hc, hshow.pend _ hp⟩
  · rw [h] at hshow ⊢
    exact hshow.rd _ (by decide)

/-- A status stored leaves all but the tables. -/
theorem storeStatus_leaves (s : State) (c : Nat) (bytes : List Byte) :
    (s.storeStatus c bytes).aud = s.aud ∧ (s.storeStatus c bytes).regs = s.regs ∧ (s.storeStatus c bytes).out = s.out := by
  exact each_keeps (P := fun t => t.aud = s.aud ∧ t.regs = s.regs ∧ t.out = s.out) (f := fun s (x : Nat × Byte) => s.setImmByte 0x0F0 1 (96 + 24 * c + x.1) x.2.toNat)
    _ (fun _ _ h => h) ⟨rfl, rfl, rfl⟩

/-! Clocks (R401). -/

/-- A lost clock counts. -/
def lossNoted (count : Bool) (s : State) : State := s.cond count (fun s => s.incRaise R.AUD.CNT_CLK_LOST R.AUD.ev_CLK_LOST)

/-- A source without its clock. -/
def clockLost (s : State) (c : Nat) : State := s.modAud c (fun x => { x with lost := true, count := none, buf := [] })

theorem lossNoted_true (s : State) : Counted s (lossNoted true s) R.AUD.CNT_CLK_LOST ∧ Pending (lossNoted true s) R.AUD.ev_CLK_LOST :=
  ⟨(rd_raise_sep _ (by decide)).trans (counted_inc s rfl rfl), pending_raise _ (by decide)⟩

theorem lossNoted_stays (count : Bool) (s : State) : Stays State.aud [R.AUD.WCLK_OK] s (lossNoted count s) :=
  (staysFrame (fun _ _ _ => rfl) _).cond fun _ => (staysFrame (fun _ _ _ => rfl) _).incRaise s (by decide) (by decide) (by decide)

theorem audioLossFx_source {c : Nat} (hc : c ≠ 19) (s : State) : audioLossFx c s = (lossNoted true (clockLost s c)).showAudio := by
  unfold audioLossFx
  simp only [if_neg hc, bne_iff_ne.mpr hc, Bool.true_or]
  rfl

theorem audioLossFx_word (s : State) : audioLossFx 19 s =
    (lossNoted ((s.wr R.AUD.WCLK_OK 0).lvB R.AUD.OUT_CLK_SRC) (s.wr R.AUD.WCLK_OK 0)).showAudio := rfl

theorem audioLossFx_shows {c : Nat} (hc : c ≠ 19) (s : State) :
    (audioLossFx c s).audSrc c = { s.audSrc c with lost := true, count := none, buf := [] } ∧
    Counted s (audioLossFx c s) R.AUD.CNT_CLK_LOST ∧ Pending (audioLossFx c s) R.AUD.ev_CLK_LOST := by
  rw [audioLossFx_source hc]
  have hshow := showAudio_leaves (lossNoted true (clockLost s c))
  obtain ⟨hcount, hpend⟩ := lossNoted_true (clockLost s c)
  have haud : (lossNoted true (clockLost s c)).showAudio.aud = (clockLost s c).aud :=
    (congrArg Prod.fst hshow.part).trans (lossNoted_stays true (clockLost s c)).part
  exact ⟨(audSrc_of_aud haud c).trans (audSrc_modAud s c _), (hshow.rd _ (by decide)).trans hcount, hshow.pend _ hpend⟩

theorem audioLossFx_word_shows (s : State) : (audioLossFx 19 s).rd R.AUD.WCLK_OK = 0 ∧
    (s.lvB R.AUD.OUT_CLK_SRC = true → Counted s (audioLossFx 19 s) R.AUD.CNT_CLK_LOST ∧ Pending (audioLossFx 19 s) R.AUD.ev_CLK_LOST) := by
  rw [audioLossFx_word]
  refine ⟨((showAudio_leaves _).rd _ (by decide)).trans (((lossNoted_stays _ _).rd _ (by decide)).trans (rd_wr_own _ _ rfl)), fun hsrc => ?_⟩
  have hkeep : (s.wr R.AUD.WCLK_OK 0).lvB R.AUD.OUT_CLK_SRC = true := by
    unfold State.lvB State.lv at hsrc ⊢
    rw [rd_wr_sep _ _ (by decide)]
    exact hsrc
  rw [hkeep]
  obtain ⟨hcount, hpend⟩ := lossNoted_true (s.wr R.AUD.WCLK_OK 0)
  refine ⟨((showAudio_leaves _).rd _ (by decide)).trans (hcount.trans ?_), (showAudio_leaves _).pend _ hpend⟩
  rw [rd_wr_sep _ _ (by decide)]

/-! Output frames (R396 to R402). -/

/-- All of the audio block but its sources. -/
def ringSide (s : State) : AudSt := { s.aud with src := [] }

/-- The fields that configure the outputs. -/
def outputFields : List Fld := [R.AUD.WS_INV.live, R.AUD.WS_DELAY.live, R.AUD.RATE_96.live]

section
variable {Rel : State → State → Prop} {W : Fld → Bool} {E : Nat → Bool} (h : Frame Rel W E)
  (hsrc : ∀ (s : State) (x : List (Nat × AudSrc)) (n : Nat), Rel s { s with aud := { s.aud with src := x }, free := n })

include hsrc in
theorem frame_modAud (s : State) (c : Nat) (f : AudSrc → AudSrc) : Rel s (s.modAud c f) := hsrc s _ s.free

include hsrc h

theorem frame_audioTakeOne (hW : W R.AUD.CNT_SLIP_REPEAT = true) (hE : E 0x0F0 = true) (s : State) (c : Nat) : Rel s (s.audioTakeOne c) := by
  unfold State.audioTakeOne
  refine h.ite (fun _ => h.refl s) fun _ => ?_
  exact h.trans (h.cond fun _ => h.incRaise s hW hE (by decide)) (frame_modAud hsrc _ _ _)

theorem frame_audioTake (hW : W R.AUD.CNT_SLIP_REPEAT = true) (hE : E 0x0F0 = true) (s : State) : Rel s s.audioTake :=
  h.each fun t c _ => frame_audioTakeOne h hsrc hW hE t c

theorem frame_audioJudge (s : State) (c : Nat) : Rel s (s.audioJudge c) := by
  unfold State.audioJudge
  refine h.ite (fun _ => h.refl s) fun _ => ?_
  simp only
  split
  · exact h.trans (hsrc s s.aud.src _) (frame_modAud hsrc _ _ _)
  · exact frame_modAud hsrc _ _ _

theorem frame_audioLock (hA : ∀ f ∈ audioFields, W f = true) (hE : E 0x0F0 = true) (s : State) : Rel s s.audioLock :=
  h.trans (h.each fun t c _ => frame_audioJudge h hsrc t c) (frame_showAudio h hA hE _)

end

section
variable {Rel : State → State → Prop} {W : Fld → Bool} {E : Nat → Bool} (h : Frame Rel W E)
  (hfree : ∀ (s : State) (n : Nat), Rel s { s with free := n })
include h hfree

theorem frame_underRamp (s : State) (ramp full x : Nat) : Rel s (s.underRamp ramp full x).2 := by
  unfold State.underRamp
  split
  · exact h.refl s
  · split
    · exact h.refl s
    · exact hfree s _

theorem frame_routed (s : State) (ch : Nat) : Rel s (s.routed ch).2 := by
  unfold State.routed
  simp only
  split
  · exact h.refl s
  · split
    · exact h.trans (hfree s _) (frame_underRamp h hfree _ _ _ _)
    · exact frame_underRamp h hfree _ _ _ _

theorem frame_routeAll (chs : List Nat) (s : State) : Rel s (s.routeAll chs).2 := by
  induction chs generalizing s with
  | nil => exact h.refl s
  | cons ch chs ih => exact h.trans (frame_routed h hfree s ch) (ih _)

theorem frame_rampAll (xs : List Nat) (s : State) : Rel s (s.rampAll xs).2 := by
  induction xs generalizing s with
  | nil => exact h.refl s
  | cons x xs ih => exact h.trans (frame_underRamp h hfree s _ _ _) (ih _)

end

theorem rampAll_length (xs : List Nat) (s : State) : (s.rampAll xs).1.length = xs.length := by
  induction xs generalizing s with
  | nil => rfl
  | cons x xs ih => exact congrArg (· + 1) (ih _)

theorem ringRead_length (s : State) (a : Nat) : (s.ringRead a).1.length = 24 := by
  unfold State.ringRead
  simp only
  split
  · rfl
  · rfl

/-- The part that the rest of an output frame leaves. -/
def outputPart (s : State) : Nat × Nat := (s.aud.ramp, s.aud.wr)

theorem outputDram : DramRel (Stays outputPart (R.AUD.MUTED :: outputFields)) (apartFrom (R.AUD.MUTED :: outputFields))
    (quietFor (R.AUD.MUTED :: outputFields)) :=
  staysDram (fun _ _ _ => rfl) (fun _ _ _ => rfl) (fun _ _ => rfl) (fun _ _ _ => rfl) (by decide)

theorem frame_ringRead {Rel : State → State → Prop} {W : Fld → Bool} {E : Nat → Bool} (d : DramRel Rel W E) (hW : W R.AUD.CNT_POISON = true)
    (hE : E 0x0F0 = true) (s : State) (a : Nat) : Rel s (s.ringRead a).2 := by
  have hread := frame_dramRead d s a 96
  unfold State.ringRead
  simp only
  split
  · exact d.frame.trans hread (d.frame.incRaise _ hW hE (by decide))
  · exact hread

theorem audioSlew_stays (s : State) : Stays outputPart (R.AUD.MUTED :: outputFields) s s.audioSlew := by
  unfold State.audioSlew
  simp only
  split
  · exact .other rfl rfl
  · split <;> exact .other rfl rfl

/-! The ramp of all outputs. -/

/-- The next place of the ramp. -/
def rampNext (s : State) : Nat :=
  if (s.flag R.AUD.MUTE || (s.lvB R.AUD.OUT_CLK_SRC && !s.flag R.AUD.WCLK_OK)) || (s.aud.jump || s.aud.restart) then min s.aud.ramp s.audioRamp - 1
  else min (s.aud.ramp + 1) s.audioRamp

/-- The ramp is there. -/
def rampTo (r : Nat) (s : State) : State := { s with aud := { s.aud with ramp := r } }

/-- A jump done at silence. -/
def jumpDone (s : State) : State := { s with aud := { s.aud with jump := false, cur := s.rd R.AUD.DELAY_SAMPLES } }

/-- A restart or a jump at silence. -/
def rampEnd (r : Nat) (s : State) : State :=
  if r = 0 ∧ s.aud.restart then (s.each [0, 1, 2] (fun s c => s.modAud c (fun x => { x with count := none }))).restartRing
  else if r = 0 ∧ s.aud.jump then (jumpDone s).incRaise R.AUD.CNT_DELAY_JUMP R.AUD.ev_DELAY_JUMP
  else s

theorem audioRampStep_eq (s : State) : s.audioRampStep = (rampEnd (rampNext s) (rampTo (rampNext s) s)).wrB R.AUD.MUTED (rampNext s == 0) := rfl

theorem rampNext_le (s : State) : rampNext s ≤ s.audioRamp := by
  unfold rampNext
  split <;> omega

theorem rampEnd_stays (r : Nat) (s : State) : Stays (fun s => s.aud.ramp) outputFields s (rampEnd r s) := by
  have h := staysFrame (F := fun s : State => s.aud.ramp) (fun _ _ _ => rfl) outputFields
  unfold rampEnd
  refine h.ite (fun _ => ?_) fun _ => h.ite (fun _ => ?_) fun _ => h.refl s
  · have hmod (t : State) (c : Nat) (f : AudSrc → AudSrc) : Stays (fun s => s.aud.ramp) outputFields t (t.modAud c f) := .other rfl rfl
    exact h.trans (h.each fun t c _ => hmod t c _) (.other rfl rfl)
  · exact h.trans (t := jumpDone s) (.other rfl rfl)
      (h.incRaise (jumpDone s) (f := R.AUD.CNT_DELAY_JUMP) (e := R.AUD.ev_DELAY_JUMP) (by decide) (by decide) (by decide))

theorem rampEnd_wr {r : Nat} {s : State} (hrun : s.aud.restart = false) : (rampEnd r s).aud.wr = s.aud.wr := by
  have h := partFrame (F := fun s : State => s.aud.wr) fun _ _ _ => rfl
  unfold rampEnd
  rw [hrun, if_neg (by simp)]
  refine h.ite (fun _ => ?_) fun _ => rfl
  exact h.trans (t := jumpDone s) rfl (h.incRaise (jumpDone s) rfl rfl (by decide))

theorem audioRampStep_shows (s : State) : s.audioRampStep.aud.ramp ≤ s.audioRamp ∧
    s.audioRampStep.rd R.AUD.MUTED = b2n (s.audioRampStep.aud.ramp == 0) ∧ (∀ f ∈ outputFields, s.audioRampStep.rd f = s.rd f) ∧
    (s.aud.restart = false → s.audioRampStep.aud.wr = s.aud.wr) := by
  have hend := rampEnd_stays (rampNext s) (rampTo (rampNext s) s)
  have hwr := staysFrame (F := State.aud) (fun _ _ _ => rfl) outputFields |>.wrB (rampEnd (rampNext s) (rampTo (rampNext s) s))
    (rampNext s == 0) (f := R.AUD.MUTED) (by decide)
  have hramp : s.audioRampStep.aud.ramp = rampNext s := by
    rw [audioRampStep_eq]
    exact (congrArg AudSt.ramp hwr.part).trans hend.part
  refine ⟨hramp ▸ rampNext_le s, ?_, fun f hf => ?_, fun hrun => ?_⟩
  · rw [hramp, audioRampStep_eq]
    refine (rd_wr_own _ _ rfl).trans ?_
    cases rampNext s == 0 <;> rfl
  · rw [audioRampStep_eq]
    exact (hwr.rd f hf).trans (hend.rd f hf)
  · rw [audioRampStep_eq]
    exact (congrArg AudSt.wr hwr.part).trans (rampEnd_wr hrun)

/-! The outputs leave. -/

/-- The words of the channels leave. -/
def wordsOut (vs : List Nat) (s : State) : State := s.each ((List.range 24).zip vs) (fun s x => s.emit (.audio x.1 x.2))

theorem wordsOut_out (vs : List Nat) (s : State) :
    wordsOut vs s = { s with out := s.out ++ ((List.range 24).zip vs).map (fun x => Output.audio x.1 x.2) } := by
  unfold wordsOut State.each
  induction (List.range 24).zip vs generalizing s with
  | nil => rw [List.map_nil, List.append_nil]; rfl
  | cons x xs ih =>
    rw [List.foldl_cons, ih]
    unfold State.emit
    rw [List.map_cons, List.append_assoc]
    rfl

/-- The slots of the TDM frame. -/
def tdmSlots (vs : List Nat) : List Nat := (vs.drop 8).map (fun v => 256 * (v % 2 ^ 24))

theorem audioEmit_eq (s : State) (frame : List Nat) : s.audioEmit frame = (wordsOut (s.rampAll frame).1 (s.rampAll frame).2).emit
    (.tdm ((wordsOut (s.rampAll frame).1 (s.rampAll frame).2).lvB R.AUD.WS_INV) ((wordsOut (s.rampAll frame).1 (s.rampAll frame).2).lvB R.AUD.WS_DELAY)
      (tdmSlots (s.rampAll frame).1)) := rfl

theorem audioEmit_stays (s : State) (frame : List Nat) : Stays outputPart (R.AUD.MUTED :: outputFields) s (s.audioEmit frame) := by
  have h := staysFrame (F := outputPart) (fun _ _ _ => rfl) (R.AUD.MUTED :: outputFields)
  rw [audioEmit_eq, wordsOut_out]
  exact h.trans (frame_rampAll h (fun _ _ => .other rfl rfl) frame s) (.other rfl rfl)

/-- Every channel's word leaves, and the TDM frame. -/
theorem audioEmit_out {s : State} {frame : List Nat} (hlen : frame.length = 24) :
    (∃ slots, Output.tdm (s.lvB R.AUD.WS_INV) (s.lvB R.AUD.WS_DELAY) slots ∈ (s.audioEmit frame).out ∧ slots.length = 16) ∧
    ∀ ch, ch < 24 → ∃ x, Output.audio ch x ∈ (s.audioEmit frame).out := by
  have hvs : (s.rampAll frame).1.length = 24 := (rampAll_length frame s).trans hlen
  have hramp := frame_rampAll (staysFrame (F := outputPart) (fun _ _ _ => rfl) (R.AUD.MUTED :: outputFields)) (fun _ _ => .other rfl rfl) frame s
  have hlv {f : Fld} (hf : f.live ∈ outputFields) : (wordsOut (s.rampAll frame).1 (s.rampAll frame).2).lvB f = s.lvB f := by
    rw [wordsOut_out]
    exact congrArg (fun k => k != 0) (hramp.rd _ (List.mem_cons_of_mem _ hf))
  rw [audioEmit_eq, hlv (by decide), hlv (by decide)]
  refine ⟨⟨tdmSlots (s.rampAll frame).1, ?_, ?_⟩, fun ch hch => ?_⟩
  · exact List.mem_append_right _ (List.mem_singleton.mpr rfl)
  · rw [tdmSlots, List.length_map, List.length_drop, hvs]
  · have hch' : ch < ((List.range 24).zip (s.rampAll frame).1).length := by rw [List.length_zip, hvs, List.length_range]; omega
    refine ⟨(s.rampAll frame).1[ch]'(by omega), List.mem_append_left _ ?_⟩
    rw [wordsOut_out]
    refine List.mem_append_right _ (List.mem_map.mpr ⟨_, List.getElem_mem hch', ?_⟩)
    rw [List.getElem_zip, List.getElem_range]

/-- The locks are judged once a second. -/
def secondJudged (s : State) : State := s.cond (s.aud.wr % s.audioRate == 0) (fun s => s.audioLock)

/-- The sources are taken and the ramp moves. -/
def outRamped (s : State) : State := (secondJudged s).audioTake.audioRampStep

/-- A routed frame is in the ring. -/
def frameStored (p : List Nat × State) : State := p.2.dramStore (p.2.ringAt p.2.aud.wr) (p.1.flatMap (leBytes 4))

/-- The channel status of a block. -/
def blockSent (s : State) : State := s.cond (s.aud.wr % 192 == 0) (fun s => s.audioBlock)

/-- The next frame of the ring. -/
def wrNext (s : State) : State := { s with aud := { s.aud with wr := s.aud.wr + 1 } }

/-- The place of the ring that is read. -/
def readAt (s : State) : Nat := s.ringAt (s.aud.wr + max 1 s.ringFrames - s.aud.cur % max 1 s.ringFrames)

/-- A frame that was read leaves. -/
def frameSent (p : List Nat × State) : State := wrNext ((blockSent p.2).audioEmit p.1)

/-- An output frame, over the functions that route its words and that read the ring. -/
def outputBy (route : State → List Nat × State) (read : State → Nat → List Nat × State) (s : State) : State :=
  let s := s.cond (s.aud.wr % s.audioRate == 0) (fun s => s.audioLock)
  let s := s.audioTake.audioRampStep
  let (frame, s) := route s
  let s := s.dramStore (s.ringAt s.aud.wr) (frame.flatMap (leBytes 4))
  let s := s.audioSlew
  let n := max 1 s.ringFrames
  let (out, s) := read s (s.ringAt (s.aud.wr + n - s.aud.cur % n))
  let s := s.cond (s.aud.wr % 192 == 0) (fun s => s.audioBlock)
  let s := s.audioEmit out
  { s with aud := { s.aud with wr := s.aud.wr + 1 } }

theorem outputBy_eq (route : State → List Nat × State) (read : State → Nat → List Nat × State) (s : State) : outputBy route read s =
    frameSent (read (frameStored (route (outRamped s))).audioSlew (readAt (frameStored (route (outRamped s))).audioSlew)) := rfl

/-- The frame is routed and stored. -/
def outStored (s : State) : State := frameStored (s.routeAll (List.range 24))

/-- The frame at the read position leaves. -/
def outSent (s : State) : State := frameSent (s.ringRead (readAt s))

theorem audioOutputFx_eq (s : State) : audioOutputFx s = outSent (outStored (outRamped s)).audioSlew := by
  have hby : audioOutputFx s = outputBy (fun s => s.routeAll (List.range 24)) State.ringRead s := by
    unfold audioOutputFx outputBy
    rfl
  rw [hby, outputBy_eq]
  rfl

theorem secondJudged_stays (s : State) : Stays ringSide outputFields s (secondJudged s) := by
  have h := staysFrame (F := ringSide) (fun _ _ _ => rfl) outputFields
  exact h.cond fun _ => frame_audioLock h (fun _ _ _ => .other rfl rfl) (by decide) (by decide) s

theorem audioTake_stays (s : State) : Stays ringSide outputFields s s.audioTake :=
  frame_audioTake (staysFrame (F := ringSide) (fun _ _ _ => rfl) outputFields) (fun _ _ _ => .other rfl rfl) (by decide) (by decide) s

theorem frameStored_stays (p : List Nat × State) : Stays outputPart (R.AUD.MUTED :: outputFields) p.2 (frameStored p) :=
  frame_dramStore outputDram (fun _ _ => .other rfl rfl) p.2 _ _

theorem outStored_stays (s : State) : Stays outputPart (R.AUD.MUTED :: outputFields) s (outStored s) := by
  have hroute := frame_routeAll outputDram.frame (fun _ _ => .other rfl rfl) (List.range 24) s
  unfold outStored
  generalize s.routeAll (List.range 24) = p at hroute ⊢
  exact outputDram.frame.trans hroute (frameStored_stays p)

theorem blockSent_stays (s : State) : Stays outputPart (R.AUD.MUTED :: outputFields) s (blockSent s) := by
  have hemit (t : State) (o : Output) : Stays outputPart (R.AUD.MUTED :: outputFields) t (t.emit o) := .other rfl rfl
  refine outputDram.frame.cond fun _ => ?_
  unfold State.audioBlock
  exact outputDram.frame.each fun t o _ => hemit t _

/-- What leaves, and what stays until then. -/
theorem outSent_shows (s : State) :
    (∃ slots, Output.tdm (s.lvB R.AUD.WS_INV) (s.lvB R.AUD.WS_DELAY) slots ∈ (outSent s).out ∧ slots.length = 16) ∧
    (∀ ch, ch < 24 → ∃ x, Output.audio ch x ∈ (outSent s).out) ∧ (outSent s).rd R.AUD.MUTED = s.rd R.AUD.MUTED ∧
    (outSent s).aud.ramp = s.aud.ramp ∧ (outSent s).aud.wr = s.aud.wr + 1 := by
  have hread : Stays outputPart (R.AUD.MUTED :: outputFields) s (blockSent (s.ringRead (readAt s)).2) :=
    outputDram.frame.trans (frame_ringRead outputDram (by decide) (by decide) s _) (blockSent_stays _)
  have hlen : (s.ringRead (readAt s)).1.length = 24 := ringRead_length s _
  unfold outSent frameSent
  generalize blockSent (s.ringRead (readAt s)).2 = u at hread ⊢
  generalize (s.ringRead (readAt s)).1 = frame at hlen ⊢
  obtain ⟨htdm, hchs⟩ := audioEmit_out (s := u) hlen
  have hlv {f : Fld} (hf : f.live ∈ outputFields) : u.lvB f = s.lvB f := congrArg (fun k => k != 0) (hread.rd _ (List.mem_cons_of_mem _ hf))
  rw [hlv (by decide), hlv (by decide)] at htdm
  have hall := outputDram.frame.trans hread (audioEmit_stays u frame)
  have hpart := hall.part
  unfold outputPart at hpart
  rw [Prod.mk.injEq] at hpart
  exact ⟨htdm, hchs, hall.rd _ (List.mem_cons_self ..), hpart.1, congrArg (· + 1) hpart.2⟩

/-- The ramp after the sources were taken. -/
theorem outRamped_shows (s : State) : (outRamped s).aud.ramp ≤ s.audioRamp ∧ (outRamped s).rd R.AUD.MUTED = b2n ((outRamped s).aud.ramp == 0) ∧
    (∀ f ∈ outputFields, (outRamped s).rd f = s.rd f) ∧ (s.aud.restart = false → (outRamped s).aud.wr = s.aud.wr) := by
  have hbefore : Stays ringSide outputFields s (secondJudged s).audioTake :=
    (staysFrame (fun _ _ _ => rfl) _).trans (secondJudged_stays s) (audioTake_stays _)
  generalize hu : (secondJudged s).audioTake = u at hbefore
  have heq : outRamped s = u.audioRampStep := by rw [← hu]; rfl
  obtain ⟨hle, hmuted, hkept, hwr⟩ := audioRampStep_shows u
  have hrate : u.audioRamp = s.audioRamp := by
    unfold State.audioRamp State.audioRate State.lvB State.lv
    rw [hbefore.rd _ (by decide)]
  have hpart := hbefore.part
  have hrest := congrArg AudSt.restart hpart
  have hplace := congrArg AudSt.wr hpart
  rw [heq]
  refine ⟨hle.trans_eq hrate, hmuted, fun f hf => (hkept f hf).trans (hbefore.rd f hf), fun hrun => ?_⟩
  exact (hwr (hrest.trans hrun)).trans hplace

/-- What an output frame shows. -/
theorem audioOutputFx_shows (s : State) : (s.aud.restart = false → (audioOutputFx s).aud.wr = s.aud.wr + 1) ∧
    (∃ slots, Output.tdm (s.lvB R.AUD.WS_INV) (s.lvB R.AUD.WS_DELAY) slots ∈ (audioOutputFx s).out ∧ slots.length = 16) ∧
    (audioOutputFx s).rd R.AUD.MUTED = b2n ((audioOutputFx s).aud.ramp == 0) ∧ (audioOutputFx s).aud.ramp ≤ s.audioRamp ∧
    ∀ ch, ch < 24 → ∃ x, Output.audio ch x ∈ (audioOutputFx s).out := by
  obtain ⟨hle, hmuted, hkept, hwr⟩ := outRamped_shows s
  have hstore : Stays outputPart (R.AUD.MUTED :: outputFields) (outRamped s) (outStored (outRamped s)).audioSlew :=
    outputDram.frame.trans (outStored_stays _) (audioSlew_stays _)
  rw [audioOutputFx_eq]
  generalize outRamped s = r at hle hmuted hkept hwr hstore
  generalize (outStored r).audioSlew = u at hstore
  have hlv {f : Fld} (hf : f.live ∈ outputFields) : u.lvB f = s.lvB f := congrArg (fun k => k != 0)
    ((hstore.rd _ (List.mem_cons_of_mem _ hf)).trans (hkept _ hf))
  obtain ⟨htdm, hchs, hrd, hramp, hwr'⟩ := outSent_shows u
  rw [hlv (by decide), hlv (by decide)] at htdm
  have hpart := hstore.part
  unfold outputPart at hpart
  rw [Prod.mk.injEq] at hpart
  obtain ⟨hr, hw⟩ := hpart
  refine ⟨fun hrun => hwr'.trans (congrArg (· + 1) (hw.trans (hwr hrun))), htdm, ?_, (hramp.trans hr).trans_le hle, hchs⟩
  exact hrd.trans ((hstore.rd _ (List.mem_cons_self ..)).trans (hmuted.trans (congrArg (fun r => b2n (r == 0)) (hramp.trans hr).symm)))

/-! The rate converter (R400). -/

theorem asrcFx_eq (x : Int) (s : State) : asrcFx x s =
    (s.loopRun 9 (s.loopCoef 9) x 0 none).wrI R.AUD.RATIO ((s.loopRun 9 (s.loopCoef 9) x 0 none).loop 9).u := rfl

theorem loop_of_clk {s t : State} (h : t.clk = s.clk) (n : Nat) : t.loop n = s.loop n := by unfold State.loop; rw [h]

/-- An open instance keeps its output. -/
theorem loopRun_open {s : State} {n : Nat} (hn : n < 32) (ho : s.isOpen n = true) (c : LoopCoef) (x f : Int) (m : Option Int) :
    ((s.loopRun n c x f m).loop n).u = (s.loop n).u := by
  unfold State.loopRun
  rw [loop_of_clk (LoopEngine.showLoop_clk _ n c.lo c.hi hn), LoopEngine.loop_setLoop, if_pos ho]

theorem asrcFx_shows (x : Int) (s : State) : (asrcFx x s).rd R.AUD.RATIO = unsignedOf 32 ((asrcFx x s).loop 9).u ∧ (asrcFx x s).aud = s.aud ∧
    (s.isOpen 9 = true → ((asrcFx x s).loop 9).u = (s.loop 9).u) := by
  have hloop : (asrcFx x s).loop 9 = (s.loopRun 9 (s.loopCoef 9) x 0 none).loop 9 := loop_of_clk (wr_clk _ _ _) 9
  have haud : (s.loopRun 9 (s.loopCoef 9) x 0 none).aud = s.aud :=
    frame_loopRun (partFrame (F := State.aud) fun _ _ _ => rfl) (fun _ _ _ _ _ => rfl) (by decide) (fun _ _ => rfl) rfl s _ _ _ _
  rw [hloop]
  refine ⟨?_, (wr_aud _ _ _).trans haud, fun ho => loopRun_open (by decide) ho _ _ _ _⟩
  rw [asrcFx_eq]
  exact (rd_wr_own _ _ rfl).trans (Nat.mod_eq_of_lt (LinkBeacons.unsignedOf_lt 32 _))

theorem mod_bit1 (v : Word32) : fieldOf v 1 1 % 2 ^ 1 = b2n (v.getLsbD 1) := by
  unfold fieldOf b2n BitVec.getLsbD
  rw [Nat.testBit_eq_decide_div_mod_eq]
  rcases Nat.mod_two_eq_zero_or_one (v.toNat / 2) with h | h <;> simp [h]

/-- Settles O56. -/
theorem audioFlowsAndAligns : Obligations.AudioFlowsAndAligns := by
  unfold Obligations.AudioFlowsAndAligns
  refine ⟨?_, ?_, ?_, ?_, ?_, ?_, ?_, ?_⟩
  · intro src samples status s hs hsrc hlen
    refine ⟨_, rfl, ?_⟩
    rw [cond_of (b := s.isSender && decide (src < 3)) (by rw [hs, decide_eq_true hsrc]; rfl)]
    have hslip := audioPush_shows (s := s.start) (frame := if src = 2 then samples.map tdmWord else samples.map (· % 2 ^ 26)) hlen rfl
    obtain ⟨h1, h2, h3, h4, h5⟩ := hslip
    unfold audioInputFx
    simp only
    cases hst : decide (src < 2) && status.length == 24 with
    | false => exact ⟨h1, h2, h3, fun _ => h4, h5⟩
    | true =>
      rw [cond_of rfl]
      obtain ⟨haud, hregs, hout⟩ := storeStatus_leaves
        (s.start.audioPush src (if src = 2 then samples.map tdmWord else samples.map (· % 2 ^ 26))) src status
      refine ⟨(audSrc_of_aud haud src).trans h1, fun h => ?_, fun h => (rd_congr hregs _).trans (h3 h), fun h => ?_, hout.trans h5⟩
      · obtain ⟨hc, hp⟩ := h2 h
        exact ⟨(rd_congr hregs _).trans hc, (wbit_congr hregs _ _).trans hp⟩
      · rw [h] at hst
        exact absurd ((Bool.and_eq_true _ _).mp hst).2 (by decide)
  · intro src s hs hsrc hhere hlock
    have hguard (dropFrame : Bool) (hb : (if dropFrame then decide (audioDepth ≤ (s.audSrc src).buf.length) else (s.audSrc src).buf.isEmpty) = true) :
        (s.isSender && decide (src < 19) && (s.audSrc src).here && s.audioLocked src &&
          (if dropFrame then decide (audioDepth ≤ (s.audSrc src).buf.length) else (s.audSrc src).buf.isEmpty)) = true := by
      rw [hs, decide_eq_true hsrc, hhere, hlock, hb]; rfl
    have haud (t : State) (f : Fld) : (t.incRaise f R.AUD.ev_SLIP).aud = t.aud :=
      (partFrame (F := State.aud) fun _ _ _ => rfl).incRaise t rfl rfl (by decide)
    refine ⟨fun hfull => ⟨_, rfl, ?_⟩, fun hempty => ⟨_, rfl, ?_⟩⟩
    · rw [cond_of (hguard true (decide_eq_true hfull))]
      exact ⟨(audSrc_of_aud (haud _ _) src).trans (audSrc_modAud s.start src _), (rd_raise_sep _ (by decide)).trans (counted_inc _ rfl rfl),
        pending_raise _ (by decide)⟩
    · rw [cond_of (hguard false (by rw [hempty]; rfl))]
      exact ⟨(audSrc_of_aud (haud _ _) src).trans (audSrc_modAud s.start src _), (rd_raise_sep _ (by decide)).trans (counted_inc _ rfl rfl),
        pending_raise _ (by decide)⟩
  · intro src s hs hsrc
    have hne : src ≠ 19 := Nat.ne_of_lt hsrc
    refine ⟨fun hclk => ⟨_, rfl, ?_⟩, fun hlost => ⟨_, rfl, ?_⟩⟩
    · rw [cond_of (b := s.isSender && s.audioClock src) (by rw [hs, hclk]; rfl)]
      exact audioLossFx_shows hne s.start
    · rw [cond_of (b := s.isSender && (if src = 19 then !s.flag R.AUD.WCLK_OK else decide (src < 19) && (s.audSrc src).lost))
        (by rw [hs, if_neg hne, decide_eq_true hsrc, hlost]; rfl)]
      unfold audioReturnFx
      rw [if_neg hne]
      have hshow := showAudio_leaves (s.start.modAud src (fun x => { x with lost := false }))
      exact ⟨(audSrc_of_aud (congrArg Prod.fst hshow.part) src).trans (audSrc_modAud s.start src _), hshow.rd _ (by decide)⟩
  · intro s hs
    refine ⟨fun hok => ⟨_, rfl, ?_⟩, fun hno => ⟨_, rfl, ?_⟩⟩
    · rw [cond_of (b := s.isSender && s.audioClock 19) (by rw [hs]; exact hok)]
      exact audioLossFx_word_shows s.start
    · rw [cond_of (b := s.isSender && (if 19 = 19 then !s.flag R.AUD.WCLK_OK else decide (19 < 19) && (s.audSrc 19).lost))
        (by rw [hs, if_pos rfl, hno]; rfl)]
      exact ((showAudio_leaves _).rd R.AUD.WCLK_OK (by decide)).trans (rd_wr_own _ _ rfl)
  · intro s hon
    refine ⟨_, rfl, ?_⟩
    rw [cond_of hon]
    rfl
  · intro v s hs
    refine ⟨_, rfl, ?_⟩
    rw [cond_of hs]
    exact ⟨onlyRegs_trans (onlyRegs_start s) (onlyRegs_wr _ _ _), (rd_wr_own _ _ rfl).trans (mod_bit1 v), wordsKept_wr s.start (by decide) _⟩
  · intro x s hon hact
    refine ⟨_, rfl, ?_⟩
    rw [cond_of (b := s.audioOn && s.flag R.AUD.ASRC_ACTIVE) (by rw [hon, hact]; rfl)]
    exact asrcFx_shows x s.start
  · intro s hon
    refine ⟨_, rfl, ?_⟩
    rw [cond_of hon]
    exact audioOutputFx_shows s.start

end Sys2Proof.Proofs.AudioFlow


/-!
THEOREMS. The MRAM store: requests of the host, background units, the set and the alarms (13 R349 to R360). Settles O55.
-/

namespace Sys2Proof.Proofs.MramStore
open Sys2Proof.Machine Sys2Proof.Laws Sys2Proof.Proofs.Frames Sys2Proof.Proofs.FieldRules Sys2Proof.Proofs.Framing

/-! What the registers show of the store. -/

/-- The store, the requests and the staging buffers. -/
def storePart (s : State) : NvsSt × MramSt × List (Nat × Word32) := (s.nvs, s.mram, s.imm)

/-- The fields that the store shows. -/
def shownFields : List Fld := [R.NVS.st_MIXED, R.NVS.FACTORY, R.NVS.NEW_COUNT, R.NVS.POOL_FREE, R.NVS.SPARE_LOW]

theorem storeFrame (fs : List Fld) : Frame (Stays storePart fs) (apartFrom fs) (quietFor fs) := staysFrame (fun _ _ _ => rfl) fs

theorem showNvs_stays {fs : List Fld} (hW : ∀ f ∈ shownFields, apartFrom fs f = true) (hE : quietFor fs 0x0D2 = true) (s : State) :
    Stays storePart fs s s.showNvs := by
  have h := storeFrame fs
  unfold State.showNvs
  refine h.trans ?_ (h.level _ _ hE (by decide))
  refine h.trans ?_ (h.wrB _ _ (hW _ (by decide)))
  refine h.trans ?_ (h.wr _ _ (hW _ (by decide)))
  refine h.trans ?_ (h.wr _ _ (hW _ (by decide)))
  refine h.trans ?_ (h.wrB _ _ (hW _ (by decide)))
  exact h.trans (h.wrB s _ (hW _ (by decide))) (h.level _ _ hE (by decide))

/-- The fields that the show of the store leaves. -/
def storeLeft : List Fld :=
  [R.NVS.SET_OPEN, R.NVS.SET_GEN, R.NVS.OP_STATUS, R.NVS.BUSY, R.NVS.CNT_WRITES]

theorem showNvs_leaves (s : State) : Stays storePart storeLeft s s.showNvs := showNvs_stays (by decide +kernel) (by decide) s

theorem opEnd_stays {fs : List Fld} (h1 : apartFrom fs R.NVS.OP_STATUS = true) (h2 : apartFrom fs R.NVS.CNT_TEMP_REFUSED = true)
    (hE : quietFor fs 0x0D2 = true) (s : State) (st : Nat) : Stays storePart fs s (s.opEnd st) := by
  have h := storeFrame fs
  unfold State.opEnd
  refine h.trans (h.trans (h.wr s _ h1) (h.raise (e := R.NVS.ev_OP_DONE) _ hE (by decide))) (h.cond fun _ => ?_)
  exact h.incRaise _ h2 hE (by decide)

/-- The status of an operation, before a refusal by temperature counts. -/
def statusShown (st : Nat) (s : State) : State := (s.wr R.NVS.OP_STATUS st).raise R.NVS.ev_OP_DONE

/-- A refusal by temperature. -/
def refusalNoted (st : Nat) (s : State) : State :=
  s.cond (st == nsTEMP_REFUSED) (fun s => s.incRaise R.NVS.CNT_TEMP_REFUSED R.NVS.ev_TEMP_REFUSED)

theorem opEnd_eq (s : State) (st : Nat) : s.opEnd st = refusalNoted st (statusShown st s) := rfl

theorem refusalNoted_stays (st : Nat) (s : State) : Stays storePart [R.NVS.OP_STATUS] s (refusalNoted st s) :=
  (storeFrame _).cond fun _ => (storeFrame _).incRaise (f := R.NVS.CNT_TEMP_REFUSED) (e := R.NVS.ev_TEMP_REFUSED) s (by decide) (by decide) (by decide)

/-- An operation ends with its status. -/
theorem opEnd_shows (s : State) {st : Nat} (hst : st < 8) : (s.opEnd st).rd R.NVS.OP_STATUS = st ∧ Pending (s.opEnd st) R.NVS.ev_OP_DONE ∧
    (st = nsTEMP_REFUSED → Counted s (s.opEnd st) R.NVS.CNT_TEMP_REFUSED ∧ Pending (s.opEnd st) R.NVS.ev_TEMP_REFUSED) := by
  rw [opEnd_eq]
  have hstay := refusalNoted_stays st (statusShown st s)
  refine ⟨(hstay.rd _ (by decide)).trans ?_, hstay.pend _ (pending_raise _ (by decide)), fun htemp => ?_⟩
  · exact (rd_raise_sep _ (by decide)).trans ((rd_wr_own _ _ rfl).trans (Nat.mod_eq_of_lt hst))
  · subst htemp
    refine ⟨(rd_raise_sep _ (by decide)).trans ((counted_inc _ rfl rfl).trans ?_), pending_raise _ (by decide)⟩
    rw [statusShown, rd_raise_sep _ (by decide), rd_wr_sep _ _ (by decide)]

/-! The foreground requests. -/

theorem fgShow_stays {fs : List Fld} (h1 : apartFrom fs R.NVS.BUSY = true) (h2 : apartFrom fs R.COR.RELOADING = true) (s : State) :
    Stays storePart fs s s.fgShow := by
  have h := storeFrame fs
  have hcor (c : CorSt) : Stays storePart fs s { s with cor := c } := .other rfl rfl
  unfold State.fgShow
  exact h.trans (h.trans (h.cond fun _ => hcor _) (h.wrB _ _ h1)) (h.wrB _ _ h2)

/-- The fields that the requests' show leaves. -/
def requestLeft : List Fld := [R.NVS.OP_STATUS, R.NVS.CNT_TEMP_REFUSED, R.NVS.CNT_WRITES]

theorem fgShow_leaves (s : State) : Stays storePart requestLeft s s.fgShow := fgShow_stays (by decide) (by decide) s

theorem fgShow_busy (s : State) : s.fgShow.rd R.NVS.BUSY = b2n (s.nvs.fg.any (fun op => op != .reload)) := by
  unfold State.fgShow
  simp only
  have hnvs (b : Bool) (c : State → CorSt) : (s.cond b (fun s => { s with cor := c s })).nvs = s.nvs := by cases b <;> rfl
  rw [State.wrB, rd_wr_sep _ _ (by decide), State.wrB, rd_wr_own _ _ rfl, hnvs]
  cases s.nvs.fg.any (fun op => op != .reload) <;> rfl

/-- A request joins the others. -/
def queued (op : MramOp) (s : State) : State := { s with nvs := { s.nvs with fg := s.nvs.fg ++ [op] } }

theorem fgNext_empty {s : State} (h : s.nvs.fg = []) : s.fgNext = s.fgShow := by
  unfold State.fgNext
  rw [h, show ([] : List MramOp).length = 0 from rfl, show s.fgSettle 0 = s from rfl, ite_self]

/-- One that waits changes nothing else. -/
theorem fgPut_waits {s : State} (h : s.nvs.fg ≠ []) (op : MramOp) : s.fgPut op = (queued op s).fgShow := by
  unfold State.fgPut
  simp only
  rw [if_neg (by simpa using h)]
  rfl

/-- The first one begins when nothing bars it. -/
theorem fgPut_begins {s : State} {op : MramOp} (h : s.nvs.fg = []) (hbar : s.fgBar op = none) : s.fgPut op = (queued op s).fgShow := by
  have hfg : (queued op s).nvs.fg = [op] := by
    show s.nvs.fg ++ [op] = [op]
    rw [h, List.nil_append]
  have hbar' : (queued op s).fgBar op = none := by cases op <;> exact hbar
  have hsettle : (queued op s).fgSettle 1 = queued op s := by
    unfold State.fgSettle
    rw [hfg]
    simp only
    rw [hbar']
  unfold State.fgPut
  simp only
  rw [if_pos (by rw [h]; rfl)]
  show (queued op s).fgNext = _
  unfold State.fgNext
  rw [hfg, show [op].length = 1 from rfl, hsettle, ite_self]

/-- A first one that is barred is refused. -/
theorem fgPut_refused {s : State} {op : MramOp} {st : Nat} (h : s.nvs.fg = []) (hbg : s.nvs.bgRun = false) (hbar : s.fgBar op = some st) :
    s.fgPut op = (s.fgRefuse op st).fgShow := by
  have hfg : (queued op s).nvs.fg = [op] := by
    show s.nvs.fg ++ [op] = [op]
    rw [h, List.nil_append]
  have hbar' : (queued op s).fgBar op = some st := by cases op <;> exact hbar
  have hback : ({ queued op s with nvs := { (queued op s).nvs with fg := [] } } : State) = s := by
    show ({ s with nvs := { s.nvs with fg := [] } } : State) = s
    rw [← h]
  have hsettle : (queued op s).fgSettle 1 = s.fgRefuse op st := by
    unfold State.fgSettle
    rw [hfg]
    simp only
    rw [hbar']
    simp only
    rw [hback]
    rfl
  unfold State.fgPut
  simp only
  rw [if_pos (by rw [h]; rfl)]
  show (queued op s).fgNext = _
  unfold State.fgNext
  rw [hfg, show [op].length = 1 from rfl, hsettle, if_neg (by rw [show (queued op s).nvs.bgRun = s.nvs.bgRun from rfl, hbg]; decide)]

/-- What is shown of a host's request that waits or runs. -/
theorem queued_shows {s : State} {op : MramOp} (hop : op ≠ .reload) :
    (queued op s).fgShow.nvs = { s.nvs with fg := s.nvs.fg ++ [op] } ∧ (queued op s).fgShow.rd R.NVS.BUSY = 1 ∧ (queued op s).fgShow.mram = s.mram := by
  have hpart := (fgShow_leaves (queued op s)).part
  simp only [storePart, Prod.mk.injEq] at hpart
  obtain ⟨hnvs, hmram, -⟩ := hpart
  refine ⟨hnvs, (fgShow_busy _).trans ?_, hmram⟩
  have hany : (queued op s).nvs.fg.any (fun op => op != .reload) = true :=
    List.any_eq_true.mpr ⟨op, List.mem_append_right _ (List.mem_singleton.mpr rfl), bne_iff_ne.mpr hop⟩
  rw [hany]
  rfl

/-- What is shown of an operation that ends when no other waits. -/
theorem ended_shows {s : State} {st : Nat} (hst : st < 8) (hfg : s.nvs.fg = []) :
    storePart (s.opEnd st).fgShow = storePart s ∧ (s.opEnd st).fgShow.rd R.NVS.OP_STATUS = st ∧ (s.opEnd st).fgShow.rd R.NVS.BUSY = 0 ∧
    (st = nsTEMP_REFUSED → Counted s (s.opEnd st).fgShow R.NVS.CNT_TEMP_REFUSED ∧ Pending (s.opEnd st).fgShow R.NVS.ev_TEMP_REFUSED) := by
  have hend := opEnd_stays (fs := []) (by decide) (by decide) (by decide) s st
  have hshow := fgShow_leaves (s.opEnd st)
  obtain ⟨hstatus, -, htemp⟩ := opEnd_shows s hst
  refine ⟨hshow.part.trans hend.part, (hshow.rd _ (by decide)).trans hstatus, (fgShow_busy _).trans ?_, fun h => ?_⟩
  · rw [show (s.opEnd st).nvs = s.nvs from congrArg Prod.fst hend.part, hfg]
    rfl
  · obtain ⟨hcount, hpend⟩ := htemp h
    exact ⟨(hshow.rd _ (by decide)).trans hcount, hshow.pend _ hpend⟩

/-- What is shown of a host's request that is refused at once. -/
theorem refused_shows {s : State} {op : MramOp} {st : Nat} (hop : s.fgRefuse op st = s.opEnd st) (h : s.nvs.fg = []) (hbg : s.nvs.bgRun = false)
    (hbar : s.fgBar op = some st) (hst : st < 8) :
    (s.fgPut op).nvs = s.nvs ∧ (s.fgPut op).rd R.NVS.OP_STATUS = st ∧ (s.fgPut op).rd R.NVS.BUSY = 0 ∧ (s.fgPut op).mram = s.mram ∧
    (st = nsTEMP_REFUSED → Counted s (s.fgPut op) R.NVS.CNT_TEMP_REFUSED ∧ Pending (s.fgPut op) R.NVS.ev_TEMP_REFUSED) := by
  rw [fgPut_refused h hbg hbar, hop]
  obtain ⟨hpart, hstatus, hbusy, htemp⟩ := ended_shows hst h
  simp only [storePart, Prod.mk.injEq] at hpart
  exact ⟨hpart.1, hstatus, hbusy, hpart.2.1, htemp⟩

/-! Why a request is barred. -/

theorem writeBar_lt {s : State} {st : Nat} (h : s.writeBar = some st) : st < 8 := by
  unfold State.writeBar at h
  split at h
  · injection h with h; subst h; decide
  · split at h
    · injection h with h; subst h; decide
    · exact absurd h (by simp)

theorem fgBar_open {s : State} {b buf : Nat} (hb : b < calBlocks) (hopen : s.flag R.NVS.SET_OPEN = true) : s.fgBar (.write b buf) = s.writeBar := by
  unfold State.fgBar calBlocks at *
  simp only
  rw [if_neg (by omega), if_neg (by rw [hopen]; simp)]

theorem fgBar_notOpen {s : State} {b buf : Nat} (hb : b < calBlocks) (hopen : s.flag R.NVS.SET_OPEN = false) :
    s.fgBar (.write b buf) = some nsNOT_OPEN := by
  have hlt : ¬ (b = 2049 ∨ 2303 < b) := by
    unfold calBlocks at hb
    omega
  unfold State.fgBar
  simp only
  rw [if_neg hlt, if_pos ⟨hb, by rw [hopen]; rfl⟩]

theorem fgBar_forbidden (s : State) {b buf : Nat} (hb : b = 2049 ∨ 2303 < b) : s.fgBar (.write b buf) = some nsNOT_ALLOWED := if_pos hb

theorem writeBar_cold {s : State} (h : s.flag R.NVS.IN_WINDOW = false) : s.writeBar = some nsTEMP_REFUSED := if_pos (by rw [h]; rfl)

/-! A write or a read that ends. -/

/-- The request that ran is gone. -/
def headDone (s : State) : State := { s with nvs := { s.nvs with fg := [] } }

theorem mismatched_zero (s : State) : s.mismatched 0 = s := rfl

theorem fgDone_written {s : State} {b buf : Nat} (hfg : s.nvs.fg = [.write b buf]) (hb : b < calBlocks) :
    s.fgDone 0 = ((((headDone s).blockWritten b (s.staging buf) (s.rd R.NVS.SET_GEN)).showNvs).opEnd nsOK).fgNext := by
  have hne : (b == 2048) = false := by
    unfold calBlocks at hb
    simp only [beq_eq_false_iff_ne]
    omega
  unfold State.fgDone
  rw [hfg]
  simp only [hne, hb, if_true]
  rfl

theorem fgDone_failed {s : State} {b buf : Nat} (hfg : s.nvs.fg = [.write b buf]) : s.fgDone 2 = ((headDone s).opEnd nsVERIFY_FAIL).fgNext := by
  unfold State.fgDone
  rw [hfg]
  rfl

theorem blockWritten_shows (s : State) (b : Nat) (data : List Word32) (tag : Nat) (hlen : data.length = 1024) :
    (s.blockWritten b data tag).nvs = s.nvs ∧ Counted s (s.blockWritten b data tag) R.NVS.CNT_WRITES ∧
    smGet tagDefault (s.blockWritten b data tag).mram.tags b = tag ∧
    (∀ i, (hi : i < 1024) → smGet mramDefault (s.blockWritten b data tag).mram.mem (1024 * b + i) = data[i]) ∧
    ∀ k, k < 1024 * b ∨ 1024 * b + 1024 ≤ k → smGet mramDefault (s.blockWritten b data tag).mram.mem k = smGet mramDefault s.mram.mem k := by
  have hmram : (s.blockWritten b data tag).mram =
    { s.mram with mem := smSetMany mramDefault s.mram.mem (1024 * b) data, tags := smSet tagDefault s.mram.tags b tag } := wr_mram _ _ _
  rw [hmram]
  refine ⟨wr_nvs _ _ _, counted_inc _ rfl rfl, smGet_set_same _ _ _ _, fun i hi => ?_, fun k hk => ?_⟩
  · rw [smGet_setMany, dif_pos ⟨by omega, by omega⟩]
    congr 1
    omega
  · rw [smGet_setMany, dif_neg (by omega)]

/-- A block that was read is in its buffer. -/
def bufferFilled (b buf : Nat) (bad : List Nat) (n : Nat) (s : State) : State :=
  { s with nvs := { s.nvs with fg := [] }, free := if n = 0 then s.free else s.free + 1024,
           imm := smSetMany tabDefault s.imm (tabKey 0x0D2 0 (1024 * buf)) (s.readWords b bad) }

/-- Uncorrectable words count. -/
def uncorrNoted (n : Nat) (s : State) : State := s.cond (n != 0) (fun s => (s.incBy R.NVS.CNT_UNCORR n).raise R.NVS.ev_UNCORR)

/-- The uncorrectable words of a block. -/
def badWords (bad : List Nat) : Nat := (bad.dedup.filter (fun j => decide (j < 512))).length

theorem badWords_zero (bad : List Nat) : badWords bad = 0 ↔ bad.all (fun j => decide (512 ≤ j)) = true := by
  unfold badWords
  rw [List.length_eq_zero_iff, List.filter_eq_nil_iff, List.all_eq_true]
  refine forall_congr' fun j => ?_
  rw [List.mem_dedup, decide_eq_true_eq, decide_eq_true_eq, Nat.not_lt]

theorem mramReadDoneFx_eq {s : State} {b buf : Nat} (hfg : s.nvs.fg = [.read b buf]) (bad : List Nat) : mramReadDoneFx bad s =
    ((uncorrNoted (badWords bad) (bufferFilled b buf bad (badWords bad) s)).opEnd (if badWords bad = 0 then nsOK else nsUNCORR)).fgNext := by
  unfold mramReadDoneFx
  rw [hfg]
  rfl

theorem uncorrNoted_stays {fs : List Fld} (hW : apartFrom fs R.NVS.CNT_UNCORR = true) (hE : quietFor fs 0x0D2 = true) (n : Nat) (s : State) :
    Stays storePart fs s (uncorrNoted n s) := by
  have hraise (t : State) : Stays storePart fs t (t.raise R.NVS.ev_UNCORR) := (storeFrame fs).raise t hE (by decide)
  have hboth : Stays storePart fs s ((s.incBy R.NVS.CNT_UNCORR n).raise R.NVS.ev_UNCORR) :=
    (storeFrame fs).trans (t := s.incBy R.NVS.CNT_UNCORR n) ((storeFrame fs).incBy s n hW) (hraise _)
  unfold uncorrNoted
  exact (storeFrame fs).cond fun _ => hboth

theorem bufferFilled_mram (s : State) (b buf : Nat) (bad : List Nat) (n : Nat) : (bufferFilled b buf bad n s).mram = s.mram := by
  simp only [bufferFilled]

theorem bufferFilled_word (s : State) {b buf : Nat} {bad : List Nat} (n : Nat) {i : Nat} (hi : i < 1024) (hbad : i / 2 ∉ bad) :
    (bufferFilled b buf bad n s).immW 0x0D2 0 (1024 * buf + i) = smGet mramDefault s.mram.mem (1024 * b + i) := by
  have hlen : (s.readWords b bad).length = 1024 := by
    unfold State.readWords
    rw [List.length_map, List.length_range]
  have himm : (bufferFilled b buf bad n s).imm = smSetMany tabDefault s.imm (tabKey 0x0D2 0 (1024 * buf)) (s.readWords b bad) := by
    simp only [bufferFilled]
  have hkey : tabKey 0x0D2 0 (1024 * buf + i) = tabKey 0x0D2 0 (1024 * buf) + i := by unfold tabKey; omega
  rw [State.immW, himm, hkey, smGet_setMany, dif_pos ⟨by omega, by omega⟩]
  unfold State.readWords
  simp only [List.getElem_map, List.getElem_range, Nat.add_sub_cancel_left]
  rw [if_neg (by rw [List.contains_iff_mem]; exact hbad)]

theorem mramReadDoneFx_shows {s : State} {b buf : Nat} (hfg : s.nvs.fg = [.read b buf]) (bad : List Nat) :
    (mramReadDoneFx bad s).nvs.fg = [] ∧ (mramReadDoneFx bad s).rd R.NVS.BUSY = 0 ∧ (mramReadDoneFx bad s).mram = s.mram ∧
    (mramReadDoneFx bad s).rd R.NVS.OP_STATUS = (if bad.all (fun j => decide (512 ≤ j)) then nsOK else nsUNCORR) ∧
    ∀ i, i < 1024 → i / 2 ∉ bad → (mramReadDoneFx bad s).immW 0x0D2 0 (1024 * buf + i) = smGet mramDefault s.mram.mem (1024 * b + i) := by
  have hu := (uncorrNoted_stays (fs := []) (by decide) (by decide) (badWords bad) (bufferFilled b buf bad (badWords bad) s)).part
  have heq := mramReadDoneFx_eq hfg bad
  generalize uncorrNoted (badWords bad) (bufferFilled b buf bad (badWords bad) s) = u at hu heq
  have hfgu : u.nvs.fg = [] := congrArg (fun p => p.1.fg) hu
  have hst : (if badWords bad = 0 then nsOK else nsUNCORR) < 8 := by split <;> decide
  obtain ⟨hpart, hstatus, hbusy, -⟩ := ended_shows hst hfgu
  have hall := hpart.trans hu
  have heq : mramReadDoneFx bad s = (u.opEnd (if badWords bad = 0 then nsOK else nsUNCORR)).fgShow := by
    refine heq.trans (fgNext_empty ?_)
    have hend := (opEnd_stays (fs := []) (by decide) (by decide) (by decide) u (if badWords bad = 0 then nsOK else nsUNCORR)).part
    exact (congrArg (fun p => p.1.fg) hend).trans hfgu
  simp only [storePart, Prod.mk.injEq] at hall
  obtain ⟨hnvs, hmram, himm⟩ := hall
  rw [heq]
  refine ⟨congrArg NvsSt.fg hnvs, hbusy, hmram.trans (bufferFilled_mram ..), hstatus.trans ?_, fun i hi hbad => ?_⟩
  · by_cases h0 : badWords bad = 0
    · rw [if_pos h0, if_pos ((badWords_zero bad).mp h0)]
    · rw [if_neg h0, if_neg (fun h => h0 ((badWords_zero bad).mpr h))]
  · refine Eq.trans ?_ (bufferFilled_word s (buf := buf) (badWords bad) hi hbad)
    unfold State.immW
    rw [himm]

/-! Background units. -/

/-- Units join the background work. -/
def unitsQueued (us : List BgUnit) (s : State) : State := { s with nvs := { s.nvs with bg := s.nvs.bg ++ us } }

theorem bgPut_idle {s : State} (h : s.nvs.fg = []) (us : List BgUnit) : s.bgPut us = unitsQueued us s := by
  unfold State.bgPut
  exact cond_of_not (b := !s.nvs.fg.isEmpty) (by rw [h]; rfl) (unitsQueued us s) _

theorem bgPut_yields {s : State} (h : s.nvs.fg ≠ []) (us : List BgUnit) : s.bgPut us = (unitsQueued us s).inc R.NVS.CNT_YIELD := by
  unfold State.bgPut
  exact cond_of (b := !s.nvs.fg.isEmpty) (by rw [List.isEmpty_eq_false_iff.mpr h]; rfl) (unitsQueued us s) _

theorem bgStart_waits {s : State} (h : s.nvs.fg ≠ []) : bgStart s = s := if_pos (.inl (by rw [List.isEmpty_eq_false_iff.mpr h]; rfl))

/-- A unit that waits for the host's requests. -/
theorem bgStart_yields {s : State} (h : s.nvs.fg ≠ []) (us : List BgUnit) : (bgStart (s.bgPut us)).nvs = { s.nvs with bg := s.nvs.bg ++ us } ∧
    Counted s (bgStart (s.bgPut us)) R.NVS.CNT_YIELD := by
  rw [bgPut_yields h]
  have hnvs : ((unitsQueued us s).inc R.NVS.CNT_YIELD).nvs = { s.nvs with bg := s.nvs.bg ++ us } := wr_nvs _ _ _
  rw [bgStart_waits (by rw [hnvs]; exact h)]
  exact ⟨hnvs, counted_inc _ rfl rfl⟩

/-- What a unit does as it starts. -/
def unitStarted (u : BgUnit) (us : List BgUnit) (s : State) : State :=
  match u with
  | .scrub c uc => ({ s with nvs := { s.nvs with bg := us } } : State).scrubbed c uc
  | .passEnd => ({ s with nvs := { s.nvs with bg := us, passEnd := s.time } } : State).level R.NVS.ev_SCRUB_LATE false
  | .wear _ => { s with nvs := { s.nvs with bgRun := true } }
  | .cone k =>
    if k = 0 then
      { s with nvs := { s.nvs with bgRun := true, slot := s.nextSlot }, mram := { s.mram with ring := s.mram.ring.filter (fun p => p.1 != s.nextSlot) } }
    else { s with nvs := { s.nvs with bgRun := true } }

theorem bgStart_starts {s : State} {u : BgUnit} {us : List BgUnit} (hfg : s.nvs.fg = []) (hrun : s.nvs.bgRun = false) (hbg : s.nvs.bg = u :: us)
    (hmay : bgWrites u = false ∨ s.writeBar = none) : bgStart s = unitStarted u us s := by
  have hnot : ¬ ((!s.nvs.fg.isEmpty) = true ∨ s.nvs.bgRun = true) := by rw [hfg, hrun]; simp
  have hbar : ¬ (bgWrites u = true ∧ s.writeBar ≠ none) := by
    rintro ⟨h1, h2⟩
    rcases hmay with h | h
    · rw [h] at h1
      exact absurd h1 (by decide)
    · exact h2 h
  unfold bgStart
  rw [if_neg hnot, hbg]
  simp only
  rw [if_neg hbar]
  cases u <;> rfl

theorem bgStart_barred {s : State} {u : BgUnit} {us : List BgUnit} (hbg : s.nvs.bg = u :: us) (hw : bgWrites u = true) (hbar : s.writeBar ≠ none) :
    bgStart s = s := by
  unfold bgStart
  split
  · rfl
  · rw [hbg]
    exact if_pos ⟨hw, hbar⟩

/-! Scrub. -/

/-- The corrections and the uncorrectable words count. -/
def scrubCounted (corrected uncorr : Nat) (s : State) : State :=
  (s.incBy R.NVS.CNT_CORRECTED corrected).cond (uncorr != 0) (fun s => (s.incBy R.NVS.CNT_UNCORR uncorr).raise R.NVS.ev_UNCORR)

/-- The scrub moves on. -/
def scrubMoved (corrected : Nat) (b : Nat) (s : State) : State :=
  let wear := if corrected ≠ 0 ∧ b ∈ s.nvs.corrBefore then [BgUnit.wear b] else []
  let corr := if corrected = 0 then s.nvs.corr else b :: s.nvs.corr
  let last := decide (b = 3071)
  { s with nvs := { s.nvs with
      bg := s.nvs.bg ++ wear ++ (if last then [.passEnd] else []), scrub := if last then 0 else b + 1,
      corr := if last then [] else corr, corrBefore := if last then corr else s.nvs.corrBefore } }

theorem scrubbed_eq (s : State) (corrected uncorr : Nat) : s.scrubbed corrected uncorr = scrubMoved corrected s.nvs.scrub (scrubCounted corrected uncorr s) := rfl

theorem scrubCounted_shows (s : State) (corrected uncorr : Nat) : storePart (scrubCounted corrected uncorr s) = storePart s ∧
    (scrubCounted corrected uncorr s).rd R.NVS.CNT_UNCORR = min (s.rd R.NVS.CNT_UNCORR + uncorr) 0xFFFFFFFF ∧
    (scrubCounted corrected uncorr s).rd R.NVS.CNT_CORRECTED = min (s.rd R.NVS.CNT_CORRECTED + corrected) 0xFFFFFFFF := by
  have hcorr : Stays storePart [R.NVS.CNT_UNCORR] s (s.incBy R.NVS.CNT_CORRECTED corrected) := (storeFrame _).incBy s corrected (by decide)
  have hun : Stays storePart [R.NVS.CNT_CORRECTED] (s.incBy R.NVS.CNT_CORRECTED corrected) (scrubCounted corrected uncorr s) :=
    uncorrNoted_stays (by decide) (by decide) uncorr _
  refine ⟨hun.part.trans hcorr.part, ?_, (hun.rd _ (by decide)).trans (rd_incBy_same s rfl rfl corrected)⟩
  have hkeep := hcorr.rd R.NVS.CNT_UNCORR (by decide)
  by_cases h0 : uncorr = 0
  · subst h0
    have hlt : s.rd R.NVS.CNT_UNCORR < 2 ^ 32 := Nat.mod_lt _ (Nat.two_pow_pos 32)
    refine hkeep.trans ?_
    omega
  · unfold scrubCounted
    rw [cond_of (b := uncorr != 0) (bne_iff_ne.mpr h0), rd_raise_sep _ (by decide), rd_incBy_same _ rfl rfl, hkeep]

/-! The set of the calibration (R352). -/

theorem setBeginFx_shows (s : State) : (setBeginFx s).rd R.NVS.SET_OPEN = 1 ∧ (setBeginFx s).rd R.NVS.SET_GEN = (s.topTag + 1) % 2 ^ 32 ∧
    (setBeginFx s).mram = s.mram := by
  have hshow := showNvs_leaves ((s.wr R.NVS.SET_OPEN 1).wr R.NVS.SET_GEN (s.topTag + 1))
  refine ⟨(hshow.rd R.NVS.SET_OPEN (by decide)).trans ?_, (hshow.rd R.NVS.SET_GEN (by decide)).trans (rd_wr_own _ _ rfl),
    (congrArg (fun p => p.2.1) hshow.part).trans ((wr_mram _ _ _).trans (wr_mram _ _ _))⟩
  rw [rd_wr_sep _ _ (by decide), rd_wr_own _ _ rfl]
  rfl

/-- The fields that an end of an operation leaves. -/
theorem opEnd_leaves (s : State) (st : Nat) : Stays storePart [R.NVS.SET_OPEN, R.NVS.CNT_WRITES] s (s.opEnd st) :=
  opEnd_stays (by decide) (by decide) (by decide) s st

theorem setEndFx_shows (s : State) : (setEndFx s).mram = s.mram ∧
    (s.tagCount (s.rd R.NVS.SET_GEN) = calBlocks → (setEndFx s).rd R.NVS.SET_OPEN = 0 ∧ (setEndFx s).rd R.NVS.OP_STATUS = nsOK) ∧
    (s.tagCount (s.rd R.NVS.SET_GEN) ≠ calBlocks →
      (setEndFx s).rd R.NVS.SET_OPEN = s.rd R.NVS.SET_OPEN ∧ (setEndFx s).rd R.NVS.OP_STATUS = nsINCOMPLETE) ∧
    Pending (setEndFx s) R.NVS.ev_OP_DONE := by
  unfold setEndFx
  by_cases hfull : s.tagCount (s.rd R.NVS.SET_GEN) = calBlocks
  · rw [if_pos hfull]
    have hshow := showNvs_leaves (s.wr R.NVS.SET_OPEN 0)
    have hend := opEnd_leaves (s.wr R.NVS.SET_OPEN 0).showNvs nsOK
    obtain ⟨hst, hpend, -⟩ := opEnd_shows (s.wr R.NVS.SET_OPEN 0).showNvs (st := nsOK) (by decide)
    refine ⟨(congrArg (fun p => p.2.1) (hend.part.trans hshow.part)).trans (wr_mram _ _ _), fun _ => ⟨?_, hst⟩, fun h => absurd hfull h, hpend⟩
    exact (hend.rd _ (by decide)).trans ((hshow.rd _ (by decide)).trans (rd_wr_own _ _ rfl))
  · rw [if_neg hfull]
    have hend := opEnd_leaves s nsINCOMPLETE
    obtain ⟨hst, hpend, -⟩ := opEnd_shows s (st := nsINCOMPLETE) (by decide)
    exact ⟨congrArg (fun p => p.2.1) hend.part, fun h => absurd h hfull, fun _ => ⟨hend.rd _ (by decide), hst⟩, hpend⟩

/-! A write that ends (R350). -/

theorem staging_length (s : State) (buf : Nat) : (s.staging buf).length = 1024 := by
  unfold State.staging
  rw [List.length_map, List.length_range]

theorem writeDone_shows {s : State} {b buf : Nat} (hfg : s.nvs.fg = [.write b buf]) (hb : b < calBlocks) :
    (s.fgDone 0).nvs.fg = [] ∧ (s.fgDone 0).rd R.NVS.OP_STATUS = nsOK ∧ Counted s (s.fgDone 0) R.NVS.CNT_WRITES ∧
    smGet tagDefault (s.fgDone 0).mram.tags b = s.rd R.NVS.SET_GEN ∧
    (∀ i, i < 1024 → smGet mramDefault (s.fgDone 0).mram.mem (1024 * b + i) = s.immW 0x0D2 0 (1024 * buf + i)) ∧
    ∀ k, k < 1024 * b ∨ 1024 * b + 1024 ≤ k → smGet mramDefault (s.fgDone 0).mram.mem k = smGet mramDefault s.mram.mem k := by
  have hlen := staging_length s buf
  have hword (i : Nat) (hi : i < 1024) : (s.staging buf)[i]'(by omega) = s.immW 0x0D2 0 (1024 * buf + i) := by
    unfold State.staging
    rw [List.getElem_map, List.getElem_range]
  have heq := fgDone_written hfg hb
  obtain ⟨hnvs, hcount, htag, hmem, hother⟩ := blockWritten_shows (headDone s) b (s.staging buf) (s.rd R.NVS.SET_GEN) hlen
  generalize (headDone s).blockWritten b (s.staging buf) (s.rd R.NVS.SET_GEN) = u at heq hnvs hcount htag hmem hother
  have hshow := showNvs_leaves u
  have hfgu : u.showNvs.nvs.fg = [] := (congrArg (fun p => p.1.fg) hshow.part).trans (congrArg NvsSt.fg hnvs)
  obtain ⟨hpart, hstatus, -, -⟩ := ended_shows (s := u.showNvs) (st := nsOK) (by decide) hfgu
  have hend := opEnd_leaves u.showNvs nsOK
  have hnext : s.fgDone 0 = (u.showNvs.opEnd nsOK).fgShow := heq.trans (fgNext_empty ((congrArg (fun p => p.1.fg) hend.part).trans hfgu))
  have hall := hpart.trans hshow.part
  have hmram : (u.showNvs.opEnd nsOK).fgShow.mram = u.mram := congrArg (fun p => p.2.1) hall
  rw [hnext, hmram]
  refine ⟨(congrArg (fun p => p.1.fg) hall).trans (congrArg NvsSt.fg hnvs), hstatus, ?_, htag, fun i hi => (hmem i hi).trans (hword i hi), hother⟩
  exact ((fgShow_leaves _).rd R.NVS.CNT_WRITES (by decide)).trans ((hend.rd _ (by decide)).trans ((hshow.rd _ (by decide)).trans hcount))

/-- Two failed read-backs retire two blocks. -/
theorem mismatched_two (s : State) : (s.mismatched 2).nvs = s.nvs ∧ (s.mismatched 2).mram = { s.mram with pool := s.mram.pool - 2 } := by
  have h := storeFrame []
  let u : State := { s with mram := { s.mram with pool := s.mram.pool - 2 } }
  have hcount : Stays storePart [] u ((u.incBy R.NVS.CNT_VERIFY_FAIL 2).incBy R.NVS.CNT_REMAP 2) :=
    h.trans (t := u.incBy R.NVS.CNT_VERIFY_FAIL 2) (h.incBy u 2 (by decide)) (h.incBy _ 2 (by decide))
  have hall := (showNvs_stays (fs := []) (by decide) (by decide) ((u.incBy R.NVS.CNT_VERIFY_FAIL 2).incBy R.NVS.CNT_REMAP 2)).part.trans hcount.part
  exact ⟨congrArg Prod.fst hall, congrArg (fun p => p.2.1) hall⟩

theorem writeFailed_shows {s : State} {b buf : Nat} (hfg : s.nvs.fg = [.write b buf]) : (s.fgDone 2).nvs.fg = [] ∧
    (s.fgDone 2).rd R.NVS.OP_STATUS = nsVERIFY_FAIL ∧ (s.fgDone 2).mram = s.mram := by
  have hend := opEnd_leaves (headDone s) nsVERIFY_FAIL
  have hnext : s.fgDone 2 = ((headDone s).opEnd nsVERIFY_FAIL).fgShow := (fgDone_failed hfg).trans (fgNext_empty (congrArg (fun p => p.1.fg) hend.part))
  obtain ⟨hpart, hstatus, -, -⟩ := ended_shows (s := headDone s) (st := nsVERIFY_FAIL) (by decide) rfl
  rw [hnext]
  exact ⟨congrArg (fun p => p.1.fg) hpart, hstatus, congrArg (fun p => p.2.1) hpart⟩

/-! Units that start as they come. -/

/-- A save record begins. -/
theorem coneSaveFx_shows {s : State} (hfg : s.nvs.fg = []) (hbg : s.nvs.bg = []) (hrun : s.nvs.bgRun = false) (hbar : s.writeBar = none) :
    (coneSaveFx s).nvs = { s.nvs with bg := coneUnits, bgRun := true, slot := s.nextSlot } ∧ (coneSaveFx s).regs = s.regs ∧
    (coneSaveFx s).mram.mem = s.mram.mem := by
  have hq : (unitsQueued coneUnits s).nvs = { s.nvs with bg := coneUnits } := by
    show ({ s.nvs with bg := s.nvs.bg ++ coneUnits } : NvsSt) = _
    rw [hbg, List.nil_append]
  unfold coneSaveFx
  rw [bgPut_idle hfg, bgStart_starts (s := unitsQueued coneUnits s) (u := .cone 0) (us := (List.range 8).map (fun k => BgUnit.cone (k + 1))) hfg hrun
    ((congrArg NvsSt.bg hq).trans rfl) (.inr hbar)]
  refine ⟨?_, rfl, rfl⟩
  show ({ (unitsQueued coneUnits s).nvs with bgRun := true, slot := s.nextSlot } : NvsSt) = _
  rw [hq]

/-- A scrubbed block. -/
theorem scrubFx_shows {s : State} {corrected : Nat} (uncorr : Nat) (hfg : s.nvs.fg = []) (hbg : s.nvs.bg = []) (hrun : s.nvs.bgRun = false)
    (hmay : corrected = 0 ∨ s.writeBar = none) : bgStart (s.bgPut [.scrub corrected uncorr]) = s.scrubbed corrected uncorr := by
  have hq : (unitsQueued [.scrub corrected uncorr] s).nvs.bg = [.scrub corrected uncorr] := by
    show s.nvs.bg ++ _ = _
    rw [hbg, List.nil_append]
  have hback : ({ s with nvs := { s.nvs with bg := [] } } : State) = s := by rw [← hbg]
  rw [bgPut_idle hfg, bgStart_starts (s := unitsQueued [.scrub corrected uncorr] s) hfg hrun hq
    (hmay.imp (fun h => by rw [h]; rfl) id)]
  exact congrArg (fun u : State => u.scrubbed corrected uncorr) hback

theorem scrubbed_shows (s : State) (corrected uncorr : Nat) (hbg : s.nvs.bg = []) : (s.scrubbed corrected uncorr).mram = s.mram ∧
    (s.scrubbed corrected uncorr).rd R.NVS.CNT_UNCORR = min (s.rd R.NVS.CNT_UNCORR + uncorr) 0xFFFFFFFF ∧
    (s.scrubbed corrected uncorr).nvs.scrub = (if s.nvs.scrub = 3071 then 0 else s.nvs.scrub + 1) ∧
    (s.scrubbed corrected uncorr).rd R.NVS.CNT_CORRECTED = min (s.rd R.NVS.CNT_CORRECTED + corrected) 0xFFFFFFFF ∧
    (corrected = 0 → s.nvs.scrub = 3071 → (s.scrubbed corrected uncorr).nvs.bg = [.passEnd]) := by
  obtain ⟨hpart, hun, hcorr⟩ := scrubCounted_shows s corrected uncorr
  have hnvs : (scrubCounted corrected uncorr s).nvs = s.nvs := congrArg Prod.fst hpart
  rw [scrubbed_eq]
  refine ⟨congrArg (fun p => p.2.1) hpart, hun, ?_, hcorr, fun h0 hlast => ?_⟩
  · unfold scrubMoved
    simp only [decide_eq_true_eq]
  · unfold scrubMoved
    have hbg' : (scrubCounted corrected uncorr s).nvs.bg = [] := (congrArg NvsSt.bg hnvs).trans hbg
    subst h0
    simp only [hbg', hlast, ne_eq, not_true_eq_false, false_and, if_false, decide_true, if_true, List.append_nil, List.nil_append]

theorem nvs_of_empty {n : NvsSt} (h : n.fg = []) (op : MramOp) : ({ n with fg := n.fg ++ [op] } : NvsSt) = { n with fg := [op] } := by
  rw [h, List.nil_append]

/-- Settles O55. -/
theorem mramKeepsWhatIsSaved : Obligations.MramKeepsWhatIsSaved := by
  unfold Obligations.MramKeepsWhatIsSaved
  refine ⟨?_, ?_, ?_, ?_, ?_, ?_, ?_, ?_, ?_, ?_, ?_, ?_⟩
  · intro s hon
    refine ⟨⟨_, rfl, ?_⟩, ⟨_, rfl, ?_⟩⟩ <;> rw [cond_of hon]
    · exact setBeginFx_shows s.start
    · exact setEndFx_shows s.start
  · intro v s hon hfg hb hopen
    refine ⟨fun hbar => ⟨_, rfl, ?_⟩, fun hrun hcold => ⟨_, rfl, ?_⟩⟩ <;> rw [cond_of hon]
    · have hnone : s.start.fgBar (.write (fieldOf v 8 12) (fieldOf v 20 1)) = none := (fgBar_open (s := s.start) (buf := fieldOf v 20 1) hb hopen).trans hbar
      rw [nvsWriteGoFx, fgPut_begins (s := s.start) hfg hnone]
      obtain ⟨h1, h2, h3⟩ := queued_shows (s := s.start) (op := .write (fieldOf v 8 12) (fieldOf v 20 1)) (by simp)
      exact ⟨h1.trans (nvs_of_empty hfg _), h2, h3⟩
    · have hst : s.start.fgBar (.write (fieldOf v 8 12) (fieldOf v 20 1)) = some nsTEMP_REFUSED := (fgBar_open (s := s.start) (buf := fieldOf v 20 1) hb hopen).trans (writeBar_cold hcold)
      obtain ⟨h1, h2, h3, h4, h5⟩ := refused_shows (s := s.start) rfl hfg hrun hst (by decide)
      obtain ⟨hcount, hpend⟩ := h5 rfl
      exact ⟨h1, h2, hcount, hpend, h3, h4⟩
  · intro v s hon
    refine ⟨fun hfg => ⟨_, rfl, ?_⟩, fun hfg hrun hb hopen => ⟨_, rfl, ?_⟩, fun hfg hrun hb => ⟨_, rfl, ?_⟩, fun hfg hrun hb => ⟨_, rfl, ?_⟩,
      fun st hfg hrun hbar => ⟨_, rfl, ?_⟩⟩ <;> rw [cond_of hon]
    · rw [nvsWriteGoFx, fgPut_waits (s := s.start) hfg]
      exact queued_shows (s := s.start) (op := .write (fieldOf v 8 12) (fieldOf v 20 1)) (by simp)
    · obtain ⟨h1, h2, -, h4, -⟩ := refused_shows (s := s.start) (op := .write (fieldOf v 8 12) (fieldOf v 20 1)) rfl hfg hrun (fgBar_notOpen hb hopen)
        (by decide)
      exact ⟨h1, h2, h4⟩
    · obtain ⟨h1, h2, -, h4, -⟩ := refused_shows (s := s.start) (op := .write (fieldOf v 8 12) (fieldOf v 20 1)) rfl hfg hrun (fgBar_forbidden _ hb)
        (by decide)
      exact ⟨h1, h2, h4⟩
    · obtain ⟨h1, h2, -, h4, -⟩ := refused_shows (s := s.start) (op := .read (fieldOf v 8 12) (fieldOf v 20 1)) (st := nsNOT_ALLOWED) rfl hfg hrun
        (if_pos hb) (by decide)
      exact ⟨h1, h2, h4⟩
    · obtain ⟨h1, h2, -, h4, -⟩ := refused_shows (s := s.start) (op := .record true) rfl hfg hrun hbar (writeBar_lt hbar)
      exact ⟨h1, h2, h4⟩
  · intro b buf t0 s hrun hbg hfg hb
    refine ⟨⟨_, rfl, ?_⟩, ⟨_, rfl, ?_⟩⟩
    · rw [cond_of (b := s.running) hrun, if_neg (by rw [show (s.atTime t0).nvs = s.nvs from rfl, hbg]; decide),
        show (s.atTime t0).nvs.fg = [.write b buf] from hfg, mismatched_zero]
      exact writeDone_shows (s := s.atTime t0) hfg hb
    · rw [cond_of (b := s.running) hrun, if_neg (by rw [show (s.atTime t0).nvs = s.nvs from rfl, hbg]; decide),
        show (s.atTime t0).nvs.fg = [.write b buf] from hfg]
      obtain ⟨hnvs, hmram⟩ := mismatched_two (s.atTime t0)
      obtain ⟨h1, h2, h3⟩ := writeFailed_shows (s := (s.atTime t0).mismatched 2) ((congrArg NvsSt.fg hnvs).trans hfg)
      have hall := h3.trans hmram
      have hmem := congrArg MramSt.mem hall
      have htags := congrArg MramSt.tags hall
      exact ⟨h1, h2, hmem, htags, congrArg MramSt.pool hall⟩
  · intro v s hon hfg hb
    refine ⟨_, rfl, ?_⟩
    rw [cond_of hon, nvsReadGoFx, fgPut_begins (s := s.start) (op := .read (fieldOf v 8 12) (fieldOf v 20 1)) hfg (if_neg (Nat.not_le_of_lt hb))]
    obtain ⟨h1, h2, -⟩ := queued_shows (s := s.start) (op := .read (fieldOf v 8 12) (fieldOf v 20 1)) (by simp)
    exact ⟨h1.trans (nvs_of_empty hfg _), h2⟩
  · intro b buf bad s hrun hbg hfg
    refine ⟨_, rfl, ?_⟩
    rw [cond_of (b := s.running && !s.nvs.bgRun) (by rw [hrun, hbg]; rfl)]
    exact mramReadDoneFx_shows (s := s.start) hfg bad
  · intro s hon hfg hbar
    refine ⟨_, rfl, ?_⟩
    rw [cond_of hon, settingsSaveFx, fgPut_begins (s := s.start) (op := .record true) hfg hbar]
    obtain ⟨h1, h2, h3⟩ := queued_shows (s := s.start) (op := .record true) (by simp)
    exact ⟨h1.trans (nvs_of_empty hfg _), h2, h3⟩
  · intro t0 s hon hrun hfg hbg hbgRun hbar
    refine ⟨⟨_, rfl, ?_⟩, ⟨_, rfl, ?_⟩⟩
    · rw [cond_of hon]
      exact coneSaveFx_shows (s := s.start) hfg hbg hbgRun hbar
    · rw [cond_of (b := s.running) hrun]
      exact coneSaveFx_shows (s := s.atTime t0) hfg hbg hbgRun hbar
  · intro corrected uncorr t0 s hrun hfg
    refine ⟨⟨_, rfl, ?_⟩, ⟨_, rfl, ?_⟩⟩ <;> rw [cond_of (b := s.running) hrun]
    · exact bgStart_yields (s := s.atTime t0) hfg coneUnits
    · exact bgStart_yields (s := s.atTime t0) hfg [.scrub corrected uncorr]
  · intro corrected uncorr t0 s hrun hfg hbg hbgRun hmay
    refine ⟨_, rfl, ?_⟩
    rw [cond_of (b := s.running) hrun, scrubFx_shows (s := s.atTime t0) uncorr hfg hbg hbgRun hmay]
    exact scrubbed_shows (s.atTime t0) corrected uncorr hbg
  · intro t0 u us s hrun hfg hbg hbgRun
    refine ⟨_, rfl, ?_⟩
    rw [cond_of (b := s.running) hrun]
    refine ⟨fun hu => ?_, fun hw hbar => ?_, fun b hu hbar => ?_⟩
    · subst hu
      rw [bgStart_starts (s := s.atTime t0) hfg hbgRun hbg (.inl rfl)]
      exact ⟨congrArg Prod.fst ((storeFrame []).level _ _ (by decide) (by decide)).part, raw_level _ (by decide) _⟩
    · rw [bgStart_barred (s := s.atTime t0) hbg hw hbar]
      rfl
    · subst hu
      rw [bgStart_starts (s := s.atTime t0) hfg hbgRun hbg (.inr hbar)]
      exact ⟨rfl, rfl⟩
  · intro s hrun
    refine ⟨⟨_, rfl, ?_⟩, ⟨_, rfl, ?_⟩⟩ <;> rw [cond_of hrun]
    · exact ⟨onlyRegs_trans (onlyRegs_start s) (onlyRegs_level _ _ _), raw_level _ (by decide) _⟩
    · exact ⟨onlyRegs_trans (onlyRegs_start s) (onlyRegs_level _ _ _), raw_level _ (by decide) _⟩

end Sys2Proof.Proofs.MramStore


/-!
THEOREMS. Temperature sensors, the die model, throttling and quench (13 R361, R368 to R374). Settles O53.
-/

namespace Sys2Proof.Proofs.Heat
open Sys2Proof.Machine Sys2Proof.Laws Sys2Proof.Proofs.Frames Sys2Proof.Proofs.FieldRules Sys2Proof.Proofs.Framing Sys2Proof.Proofs.CoilFrames
  Sys2Proof.Proofs.Arming

/-! What a quench leaves once it has shown itself. -/

/-- The AON latches and the readings. -/
def heatPart (s : State) : Aon × List (Nat × SensorSt) × List (Nat × Nat) × Nat × Int :=
  (s.aon, s.thm.sens, s.thm.mons, s.thm.power, s.thm.tDie)

/-- The fields of the quench, of the judgements and of the device state. -/
def heatFields : List Fld := [R.THM.QUENCHED, R.GLB.STATE, R.THM.CNT_BROKEN, R.THM.st_MON_BROKEN, R.NVS.IN_WINDOW]

/-- They stay. -/
def HeatStays (s t : State) : Prop := Stays heatPart heatFields s t

theorem HeatStays.other {s t : State} (hp : heatPart t = heatPart s) (hr : t.regs = s.regs) : HeatStays s t := Stays.other hp hr

theorem heatFrame : Frame HeatStays (apartFrom heatFields) (quietFor heatFields) := staysFrame (fun _ _ _ => rfl) _

theorem showTemps_keeps (s : State) : HeatStays s s.showTemps := by
  have h := heatFrame
  unfold State.showTemps
  refine h.ite (fun _ => h.refl s) fun _ => h.trans ?_ (h.each fun t n hn => ?_)
  · exact h.trans (h.trans (h.wrI s _ (by decide)) (h.wrI _ _ (by decide))) (h.wr _ _ (by decide))
  · have hlt := List.mem_range.mp hn
    refine h.trans (h.wrI t _ ?_) (h.wrB _ _ ?_)
    all_goals interval_cases n <;> decide

theorem phcEnd_keeps (s : State) (result : Nat) : HeatStays s (s.phcEnd result) := by
  have h := heatFrame
  have hrun (t : State) (p : PhcSt) (f : FrmSt) : HeatStays t { t with phc := p, frm := f } := .other rfl rfl
  unfold State.phcEnd
  split
  · exact h.refl s
  · refine h.trans ?_ (showTemps_keeps _)
    refine h.trans ?_ (h.wr _ _ (by decide))
    have hend (t : State) (p q : Fld) (e e' : Evt) (hp : apartFrom heatFields p = true) (hq : apartFrom heatFields q = true)
        (he : quietFor heatFields e.page = true ∧ e.bit < 32) (he' : quietFor heatFields e'.page = true ∧ e'.bit < 32) :
        HeatStays t (if result = phOK then (t.inc p).raise e else (t.inc q).raise e') :=
      h.ite (fun _ => h.trans (h.inc t hp) (h.raise _ he.1 he.2)) fun _ => h.trans (h.inc t hq) (h.raise _ he'.1 he'.2)
    refine h.trans ?_ (hend _ _ _ _ _ (by decide) (by decide) (by decide) (by decide))
    exact h.trans (h.trans (h.trans (h.trans (h.wr s _ (by decide)) (h.wr _ _ (by decide))) (h.wr _ _ (by decide))) (hrun _ _ _)) (h.wrI _ _ (by decide))

theorem rowsOff_keeps (s : State) {g : Nat} (hg : g < 4) : HeatStays s (s.rowsOff g) := by
  have h := heatFrame
  have hmod (t : State) (f : GrpSt → GrpSt) : HeatStays t (t.modGrp g f) := .other rfl rfl
  have hemit (t : State) (o : Output) : HeatStays t (t.emit o) := .other rfl rfl
  have hactive : apartFrom heatFields (R.SGP.ACTIVE g) = true := by interval_cases g <;> decide
  unfold State.rowsOff State.rowsLow
  exact h.trans (h.trans (h.trans (h.trans (hmod s _) (h.wr _ 0 hactive)) (h.wr _ _ (by decide))) (hemit _ _)) (hmod _ _)

theorem ground_keeps (s : State) (g : Nat) : HeatStays s (s.ground g) :=
  frame_ground heatFrame (fun _ _ _ => .other rfl rfl) (fun _ _ => .other rfl rfl) (by decide) (by decide) s g

/-! Quench (R374). -/

/-- The latch of the AON domain holds the quench. -/
def latched (cause : Nat) (s : State) : State :=
  let s : State := { s with aon := { s.aon with quench := true, quenchCause := s.aon.quenchCause ||| cause } }
  s.wr R.THM.QUENCH_CAUSE s.aon.quenchCause

/-- The quench shows. -/
def quenchShown (s : State) : State := ((s.wr R.THM.QUENCHED 1).raise R.THM.ev_QUENCH).toState stQUENCHED

/-- One more quench. -/
def quenchCounted (s : State) : State := { s with thm := { s.thm with quenches := s.thm.quenches + 1 } }

/-- What a quench stops. -/
def quenchStops (s : State) : State :=
  match s.role with
  | .tile => (s.each (List.range (memberGroups s.member)) State.rowsOff).stopSlots
  | .sender => (s.wr R.CMP.COMPOSING 0).ground 5

theorem quench_eq (s : State) (cause : Nat) : s.quench cause = if (latched cause s).flag R.THM.QUENCHED then latched cause s
    else quenchStops ((quenchCounted (quenchShown (latched cause s))).phcEnd phABORTED) := rfl

theorem memberGroups_le (m : Member) : memberGroups m ≤ 4 := by cases m <;> decide

theorem quenchStops_keeps (s : State) : HeatStays s (quenchStops s) := by
  have h := heatFrame
  unfold quenchStops
  split
  · have hrows : HeatStays s (s.each (List.range (memberGroups s.member)) State.rowsOff) :=
      h.each fun t g hg => rowsOff_keeps t (Nat.lt_of_lt_of_le (List.mem_range.mp hg) (memberGroups_le _))
    have hstop (t : State) : HeatStays t t.stopSlots :=
      h.trans (t := { t with lsm := { t.lsm with todo := [], again := [] } }) (.other rfl rfl) (h.wr _ 0 (by decide))
    exact h.trans hrows (hstop _)
  · exact h.trans (h.wr s 0 (by decide)) (ground_keeps _ _)

/-- The fields that the latch leaves. -/
def latchedFields : List Fld := [R.THM.QUENCHED, R.GLB.STATE, R.THM.CNT_BROKEN, R.THM.st_MON_BROKEN, R.NVS.IN_WINDOW]

theorem latched_rd (cause : Nat) (s : State) : ∀ f ∈ heatFields, (latched cause s).rd f = s.rd f := by
  intro f hf
  have hsep : ∀ f ∈ heatFields, sep f R.THM.QUENCH_CAUSE = true := by decide
  exact rd_wr_sep _ _ (hsep f hf)

theorem latched_thm (cause : Nat) (s : State) : (latched cause s).thm = s.thm := wr_thm _ _ _

theorem latched_quench (cause : Nat) (s : State) : (latched cause s).aon.quench = true :=
  congrArg Aon.quench (wr_aon ({ s with aon := { s.aon with quench := true, quenchCause := s.aon.quenchCause ||| cause } } : State) R.THM.QUENCH_CAUSE _)

/-- What a quench shows and leaves. -/
structure Quenched (s t : State) : Prop where
  latch : t.aon.quench = true
  sens : t.thm.sens = s.thm.sens
  mons : t.thm.mons = s.thm.mons
  power : t.thm.power = s.thm.power
  die : t.thm.tDie = s.thm.tDie
  broken : t.rd R.THM.CNT_BROKEN = s.rd R.THM.CNT_BROKEN
  monitor : t.rd R.THM.st_MON_BROKEN = s.rd R.THM.st_MON_BROKEN
  window : t.rd R.NVS.IN_WINDOW = s.rd R.NVS.IN_WINDOW
  first : s.flag R.THM.QUENCHED = false → t.rd R.THM.QUENCHED = 1 ∧ t.stateCode = stQUENCHED ∧ Pending t R.THM.ev_QUENCH
  shown : t.flag R.THM.QUENCHED = true
  again : s.flag R.THM.QUENCHED = true → t.stateCode = s.stateCode ∧ t.rd R.THM.QUENCHED = s.rd R.THM.QUENCHED
  pend : ∀ e, Pending s e → Pending t e

theorem quenchShown_stays (s : State) : Stays heatPart [R.THM.CNT_BROKEN, R.THM.st_MON_BROKEN, R.NVS.IN_WINDOW] s (quenchShown s) := by
  have h := staysFrame (F := heatPart) (fun _ _ _ => rfl) [R.THM.CNT_BROKEN, R.THM.st_MON_BROKEN, R.NVS.IN_WINDOW]
  unfold quenchShown State.toState
  refine h.trans (h.trans (h.wr s 1 (by decide)) (h.raise (e := R.THM.ev_QUENCH) _ (by decide) (by decide))) (h.ite (fun _ => h.refl _) fun _ => ?_)
  exact h.trans (h.wr _ _ (by decide)) (h.raise _ (by decide) (by decide))

theorem toState_code (s : State) {c : Nat} (hc : c < 2 ^ R.GLB.STATE.w) : (s.toState c).stateCode = c ∧ ∀ e, Pending s e → Pending (s.toState c) e := by
  by_cases h : s.stateCode = c
  · rw [show s.toState c = s from if_pos h]
    exact ⟨h, fun _ hp => hp⟩
  · rw [show s.toState c = (s.wr R.GLB.STATE c).raise R.GLB.ev_STATE_CHANGE from if_neg h]
    have hstay := (staysFrame (F := fun _ : State => ()) (fun _ _ _ => rfl) []).trans
      ((staysFrame (F := fun _ : State => ()) (fun _ _ _ => rfl) []).wr s c (f := R.GLB.STATE) (by decide))
      ((staysFrame (F := fun _ : State => ()) (fun _ _ _ => rfl) []).raise (e := R.GLB.ev_STATE_CHANGE) _ (by decide) (by decide))
    exact ⟨(rd_raise_sep _ (by decide)).trans ((rd_wr_own _ _ (by decide)).trans (Nat.mod_eq_of_lt hc)), hstay.pend⟩

theorem quenchShown_shows (s : State) : (quenchShown s).rd R.THM.QUENCHED = 1 ∧ (quenchShown s).stateCode = stQUENCHED ∧
    Pending (quenchShown s) R.THM.ev_QUENCH := by
  obtain ⟨hcode, hpend⟩ := toState_code ((s.wr R.THM.QUENCHED 1).raise R.THM.ev_QUENCH) (c := stQUENCHED) (by decide)
  refine ⟨(rd_toState (by decide) (by decide) _ _).trans ?_, hcode, hpend _ (pending_raise _ (by decide))⟩
  exact (rd_raise_sep _ (by decide)).trans (rd_wr_own _ _ rfl)

theorem quench_shows (s : State) (cause : Nat) : Quenched s (s.quench cause) := by
  have hl := latched_rd cause s
  have hthm := latched_thm cause s
  have hq := latched_quench cause s
  have hpendL : ∀ e, Pending s e → Pending (latched cause s) e := fun e he => by
    have hmem : Pending ({ s with aon := { s.aon with quench := true, quenchCause := s.aon.quenchCause ||| cause } } : State) e := he
    exact ((staysFrame (F := fun _ : State => ()) (fun _ _ _ => rfl) []).wr _ _ (f := R.THM.QUENCH_CAUSE) (by decide)).pend e hmem
  rw [quench_eq]
  generalize latched cause s = u at hl hthm hq hpendL
  have hflag : u.flag R.THM.QUENCHED = s.flag R.THM.QUENCHED := congrArg (· != 0) (hl _ (by decide))
  cases hb : u.flag R.THM.QUENCHED with
  | true =>
    rw [if_pos rfl]
    have hs : s.flag R.THM.QUENCHED = true := hflag.symm.trans hb
    exact ⟨hq, by rw [hthm], by rw [hthm], by rw [hthm], by rw [hthm], hl _ (by decide), hl _ (by decide), hl _ (by decide),
      fun h => absurd (hs.symm.trans h) (by decide), hb,
      fun _ => ⟨hl _ (by decide), hl _ (by decide)⟩, hpendL⟩
  | false =>
    rw [if_neg (by decide)]
    have hs : s.flag R.THM.QUENCHED = false := hflag.symm.trans hb
    have hshow := quenchShown_stays u
    obtain ⟨h1, h2, h3⟩ := quenchShown_shows u
    have hcount : HeatStays (quenchShown u) (quenchCounted (quenchShown u)) := .other rfl rfl
    have hend := heatFrame.trans hcount (heatFrame.trans (phcEnd_keeps _ phABORTED) (quenchStops_keeps _))
    have hpart := hend.part.trans hshow.part
    simp only [heatPart, Prod.mk.injEq] at hpart
    obtain ⟨haon, hsens, hmons, hpower, hdie⟩ := hpart
    refine ⟨haon ▸ hq, hsens.trans (by rw [hthm]), hmons.trans (by rw [hthm]), hpower.trans (by rw [hthm]), hdie.trans (by rw [hthm]),
      (hend.rd _ (by decide)).trans ((hshow.rd _ (by decide)).trans (hl _ (by decide))),
      (hend.rd _ (by decide)).trans ((hshow.rd _ (by decide)).trans (hl _ (by decide))),
      (hend.rd _ (by decide)).trans ((hshow.rd _ (by decide)).trans (hl _ (by decide))),
      fun _ => ⟨(hend.rd _ (by decide)).trans h1, (hend.rd _ (by decide)).trans h2, hend.pend _ h3⟩, ?_,
      fun h => absurd (hs.symm.trans h) (by decide), fun e he => hend.pend e (hshow.pend e (hpendL e he))⟩
    unfold State.flag
    rw [hend.rd _ (by decide), h1]
    rfl

/-! Sensors (R368 to R371). -/

theorem showBoard_keeps (s : State) : HeatStays s s.showBoard := by
  have h := heatFrame
  have hthm (t : Int) : HeatStays s { s with thm := { s.thm with tBoard := t } } := .other rfl rfl
  unfold State.showBoard
  refine h.trans ?_ (showTemps_keeps _)
  refine h.trans ?_ (h.cond fun _ => h.wrI _ _ (by decide))
  exact h.trans (h.trans (hthm _) (h.wr _ _ (by decide))) (h.level _ _ (by decide) (by decide))

theorem brokenQuench_cases (s : State) : s.brokenQuench = s ∨ s.brokenQuench = s.quench qcBOARD := by
  unfold State.brokenQuench
  cases (List.range 8).any (fun n => (s.sensor n).broken) && decide (quenchBoard ≤ s.tBroken) with
  | true => exact .inr (cond_of rfl _ _)
  | false => exact .inl (cond_of_not rfl _ _)

/-- The next record of a sensor is kept. -/
def sensorNoted (n : Nat) (x : SensorSt) (s : State) : State := { s with thm := { s.thm with sens := smSet sensDefault s.thm.sens n x } }

/-- A sensor that breaks counts. -/
def brokenNoted (b : Bool) (s : State) : State := s.cond b (fun s => s.inc R.THM.CNT_BROKEN)

/-- A second hot reading in a row quenches. -/
def hotQuench (b : Bool) (s : State) : State := s.cond b (fun s => s.quench qcBOARD)

theorem sensorReadFx_eq (n : Nat) (ack : Bool) (raw : Nat) (s : State) : sensorReadFx n ack raw s =
    (hotQuench (decide (2 ≤ (sensorNext (s.sensor n) ack raw s.time).hot))
      (brokenNoted (!(s.sensor n).broken && (sensorNext (s.sensor n) ack raw s.time).broken)
        (sensorNoted n (sensorNext (s.sensor n) ack raw s.time) s)).showBoard).brokenQuench := rfl

/-- A judgement of broken sensors that may quench. -/
theorem brokenQuench_leaves (s : State) : s.brokenQuench.thm.sens = s.thm.sens ∧ s.brokenQuench.rd R.THM.CNT_BROKEN = s.rd R.THM.CNT_BROKEN ∧
    (s.aon.quench = true → s.brokenQuench.aon.quench = true) ∧
    (s.flag R.THM.QUENCHED = true → s.brokenQuench.stateCode = s.stateCode ∧ s.brokenQuench.rd R.THM.QUENCHED = s.rd R.THM.QUENCHED) ∧
    ∀ e, Pending s e → Pending s.brokenQuench e := by
  rcases brokenQuench_cases s with h | h <;> rw [h]
  · exact ⟨rfl, rfl, id, fun _ => ⟨rfl, rfl⟩, fun _ => id⟩
  · have hq := quench_shows s qcBOARD
    exact ⟨hq.sens, hq.broken, fun _ => hq.latch, hq.again, hq.pend⟩

theorem hotQuench_leaves (b : Bool) (s : State) : (hotQuench b s).thm.sens = s.thm.sens ∧ (hotQuench b s).rd R.THM.CNT_BROKEN = s.rd R.THM.CNT_BROKEN := by
  cases b with
  | true =>
    have hq := quench_shows s qcBOARD
    exact ⟨hq.sens, hq.broken⟩
  | false => exact ⟨rfl, rfl⟩

theorem sensorReadFx_shows {n raw : Nat} {ack : Bool} {s : State} :
    (sensorReadFx n ack raw s).sensor n = sensorNext (s.sensor n) ack raw s.time ∧ (∀ m, m ≠ n → (sensorReadFx n ack raw s).sensor m = s.sensor m) ∧
    ((s.sensor n).broken = false → (sensorNext (s.sensor n) ack raw s.time).broken = true → Counted s (sensorReadFx n ack raw s) R.THM.CNT_BROKEN) ∧
    (2 ≤ (sensorNext (s.sensor n) ack raw s.time).hot → (sensorReadFx n ack raw s).aon.quench = true ∧ (s.flag R.THM.QUENCHED = false →
      (sensorReadFx n ack raw s).rd R.THM.QUENCHED = 1 ∧ (sensorReadFx n ack raw s).stateCode = stQUENCHED ∧
      Pending (sensorReadFx n ack raw s) R.THM.ev_QUENCH)) := by
  rw [sensorReadFx_eq]
  generalize hx : sensorNext (s.sensor n) ack raw s.time = x
  have hnote : Stays heatPart [R.THM.QUENCHED] (sensorNoted n x s) (brokenNoted (!(s.sensor n).broken && x.broken) (sensorNoted n x s)) :=
    (staysFrame (fun _ _ _ => rfl) _).cond fun _ => (staysFrame (fun _ _ _ => rfl) _).inc _ (by decide)
  have hboard := showBoard_keeps (brokenNoted (!(s.sensor n).broken && x.broken) (sensorNoted n x s))
  obtain ⟨hsens1, hcnt1⟩ := hotQuench_leaves (decide (2 ≤ x.hot)) (brokenNoted (!(s.sensor n).broken && x.broken) (sensorNoted n x s)).showBoard
  obtain ⟨hsens2, hcnt2, hlatch, hagain, hpend⟩ := brokenQuench_leaves
    (hotQuench (decide (2 ≤ x.hot)) (brokenNoted (!(s.sensor n).broken && x.broken) (sensorNoted n x s)).showBoard)
  have hsens := hsens2.trans (hsens1.trans ((congrArg (fun p => p.2.1) hboard.part).trans (congrArg (fun p => p.2.1) hnote.part)))
  refine ⟨?_, fun m hm => ?_, fun hwas hnow => ?_, fun hhot => ?_⟩
  · exact (congrArg (fun l => smGet sensDefault l n) hsens).trans (smGet_set_same _ _ _ _)
  · exact (congrArg (fun l => smGet sensDefault l m) hsens).trans (smGet_set_other _ _ _ hm)
  · refine hcnt2.trans (hcnt1.trans ((hboard.rd _ (by decide)).trans ?_))
    rw [hwas, hnow]
    exact counted_inc (sensorNoted n x s) (f := R.THM.CNT_BROKEN) rfl rfl
  · have hflag (hs : s.flag R.THM.QUENCHED = false) :
        (brokenNoted (!(s.sensor n).broken && x.broken) (sensorNoted n x s)).showBoard.flag R.THM.QUENCHED = false :=
      (congrArg (· != 0) ((hboard.rd _ (by decide)).trans (hnote.rd _ (by decide)))).trans hs
    have hdec : decide (2 ≤ x.hot) = true := decide_eq_true hhot
    rw [hdec] at hlatch hagain hpend ⊢
    have hq := quench_shows (brokenNoted (!(s.sensor n).broken && x.broken) (sensorNoted n x s)).showBoard qcBOARD
    refine ⟨hlatch hq.latch, fun hs => ?_⟩
    obtain ⟨h1, h2, h3⟩ := hq.first (hflag hs)
    obtain ⟨h4, h5⟩ := hagain hq.shown
    exact ⟨h5.trans h1, h4.trans h2, hpend _ h3⟩

/-! The die model (R372). -/

/-- The die temperature. -/
def dieSet (t : Int) (s : State) : State := { s with thm := { s.thm with tDie := t } }

/-- Its highest value, and the window of MRAM writes. -/
def windowShown (t : Int) (s : State) : State :=
  (s.cond (decide (s.rdI R.THM.MAX_T_DIE < t)) (fun s => s.wrI R.THM.MAX_T_DIE t)).wrB R.NVS.IN_WINDOW (inWindow t)

/-- Saves that were refused are repeated in the window. -/
def savesRepeated (t : Int) (s : State) : State :=
  let s := s.cond (s.nvs.defaultsDue && inWindow t && !s.nvs.fg.contains .defaults) (fun s => s.fgPut .defaults)
  s.cond (s.nvs.trimDue && inWindow t && !s.nvs.fg.contains (.record false)) (fun s => s.fgPut (.record false))

/-- The temperature that the model gives. -/
def dieTemp (broken : Bool) (s : State) : Int := if broken then s.lvI R.THM.T_DIE_BROKEN else s.ambient + shrInt (s.thm.tc + s.thm.tj) 12

theorem showDie_eq (s : State) (broken : Bool) : s.showDie broken =
    savesRepeated (dieTemp broken s) (windowShown (dieTemp broken s) (dieSet (dieTemp broken s) s)).showTemps := rfl

theorem savesRepeated_keeps (t : Int) (s : State) : HeatStays s (savesRepeated t s) := by
  have h := heatFrame
  have hput (u : State) (op : MramOp) : HeatStays u (u.fgPut op) :=
    MramFrames.frame_fgPut h (fun _ _ _ => .other rfl rfl) (by decide) (by decide) u op
  have hcond (u : State) (b : Bool) (op : MramOp) : HeatStays u (u.cond b (fun s => s.fgPut op)) := h.cond fun _ => hput u op
  exact h.trans (hcond s _ .defaults) (hcond _ _ (.record false))

theorem windowShown_stays (t : Int) (s : State) : Stays heatPart [R.THM.QUENCHED, R.THM.st_MON_BROKEN] s (windowShown t s) := by
  have h := staysFrame (F := heatPart) (fun _ _ _ => rfl) [R.THM.QUENCHED, R.THM.st_MON_BROKEN]
  exact h.trans (h.cond fun _ => h.wrI s _ (by decide)) (h.wrB _ _ (by decide))

theorem showDie_shows (s : State) (broken : Bool) : (s.showDie broken).thm.sens = s.thm.sens ∧ (s.showDie broken).thm.mons = s.thm.mons ∧
    (s.showDie broken).thm.power = s.thm.power ∧ (s.showDie broken).rd R.THM.QUENCHED = s.rd R.THM.QUENCHED ∧
    (s.showDie broken).rd R.THM.st_MON_BROKEN = s.rd R.THM.st_MON_BROKEN ∧
    (s.showDie broken).flag R.NVS.IN_WINDOW = decide (0 ≤ (s.showDie broken).thm.tDie ∧ (s.showDie broken).thm.tDie ≤ 1360) := by
  rw [showDie_eq]
  generalize dieTemp broken s = t
  have hwin := windowShown_stays t (dieSet t s)
  have htail := heatFrame.trans (showTemps_keeps (windowShown t (dieSet t s))) (savesRepeated_keeps t _)
  have hpart := htail.part.trans hwin.part
  simp only [heatPart, Prod.mk.injEq] at hpart
  obtain ⟨-, hsens, hmons, hpower, hdie⟩ := hpart
  refine ⟨hsens, hmons, hpower, (htail.rd _ (by decide)).trans (hwin.rd _ (by decide)), (htail.rd _ (by decide)).trans (hwin.rd _ (by decide)), ?_⟩
  rw [hdie]
  refine (congrArg (· != 0) ((htail.rd _ (by decide)).trans (rd_wr_own _ _ rfl))).trans ?_
  show (b2n (inWindow t) % 2 ^ 1 != 0) = decide (0 ≤ t ∧ t ≤ 1360)
  unfold inWindow
  cases decide (0 ≤ t ∧ t ≤ 1360) <;> rfl

/-- The monitors and the time constants after a step. -/
def modelStepped (powers : List (Option Nat)) (s : State) : State :=
  let mons := monNext s.thm.mons powers
  let p := (mons.map Prod.fst).foldl (· + ·) 0
  let tc := thermStep s.thm.tc p (s.lv R.THM.R_CA) (100 * s.lv R.THM.TAU_CA)
  let tj := thermStep s.thm.tj p (Config.rJc % 65536) (Config.tauJc % 65536)
  { s with thm := { s.thm with mons := mons, power := p, tc := tc, tj := tj } }

/-- Failed monitors show. -/
def monitorsShown (broken : Bool) (s : State) : State :=
  ((s.cond (broken && !s.flag R.THM.st_MON_BROKEN) (fun s => s.inc R.THM.CNT_MON_FAIL)).wrB R.THM.st_MON_BROKEN broken).level R.THM.ev_MON_BROKEN broken

/-- A hot die quenches. -/
def dieQuench (s : State) : State := s.cond (decide (quenchDie ≤ s.thm.tDie)) (fun s => s.quench qcDIE)

theorem dieModelStepFx_eq (powers : List (Option Nat)) (range : Bool) (s : State) : dieModelStepFx powers range s =
    dieQuench ((monitorsShown (monFailed (monNext s.thm.mons powers) || range) (modelStepped powers s)).showDie
      (monFailed (monNext s.thm.mons powers) || range)) := rfl

theorem monitorsShown_shows (broken : Bool) (s : State) : (monitorsShown broken s).thm = s.thm ∧
    (monitorsShown broken s).rd R.THM.QUENCHED = s.rd R.THM.QUENCHED ∧ (monitorsShown broken s).flag R.THM.st_MON_BROKEN = broken := by
  have h := staysFrame (F := State.thm) (fun _ _ _ => rfl) [R.THM.QUENCHED]
  have hall : Stays State.thm [R.THM.QUENCHED] s (monitorsShown broken s) :=
    h.trans (h.trans (h.cond fun _ => h.inc s (by decide)) (h.wrB _ _ (by decide))) (h.level _ _ (by decide) (by decide))
  refine ⟨hall.part, hall.rd _ (by decide), ?_⟩
  have hrd : (monitorsShown broken s).rd R.THM.st_MON_BROKEN = b2n broken % 2 ^ 1 := (rd_level_sep _ (by decide) (by decide)).trans (rd_wr_own _ _ rfl)
  unfold State.flag
  rw [hrd]
  cases broken <;> rfl

theorem dieModelStepFx_shows (powers : List (Option Nat)) (range : Bool) (s : State) :
    (dieModelStepFx powers range s).thm.mons = monNext s.thm.mons powers ∧
    (dieModelStepFx powers range s).thm.power = ((monNext s.thm.mons powers).map Prod.fst).foldl (· + ·) 0 ∧
    (dieModelStepFx powers range s).thm.sens = s.thm.sens ∧
    (dieModelStepFx powers range s).flag R.THM.st_MON_BROKEN = (monFailed (monNext s.thm.mons powers) || range) ∧
    (dieModelStepFx powers range s).flag R.NVS.IN_WINDOW =
      decide (0 ≤ (dieModelStepFx powers range s).thm.tDie ∧ (dieModelStepFx powers range s).thm.tDie ≤ 1360) ∧
    (quenchDie ≤ (dieModelStepFx powers range s).thm.tDie → (dieModelStepFx powers range s).aon.quench = true ∧
      (s.flag R.THM.QUENCHED = false → (dieModelStepFx powers range s).stateCode = stQUENCHED)) := by
  rw [dieModelStepFx_eq]
  obtain ⟨hthm, hqd, hmon⟩ := monitorsShown_shows (monFailed (monNext s.thm.mons powers) || range) (modelStepped powers s)
  generalize monitorsShown (monFailed (monNext s.thm.mons powers) || range) (modelStepped powers s) = u at hthm hqd hmon
  obtain ⟨h1, h2, h3, h4, h5, h6⟩ := showDie_shows u (monFailed (monNext s.thm.mons powers) || range)
  generalize u.showDie (monFailed (monNext s.thm.mons powers) || range) = v at h1 h2 h3 h4 h5 h6
  have hmons : v.thm.mons = monNext s.thm.mons powers := h2.trans (congrArg ThmSt.mons hthm)
  have hpower : v.thm.power = ((monNext s.thm.mons powers).map Prod.fst).foldl (· + ·) 0 := h3.trans (congrArg ThmSt.power hthm)
  have hsens : v.thm.sens = s.thm.sens := h1.trans (show u.thm.sens = (modelStepped powers s).thm.sens from congrArg ThmSt.sens hthm)
  have hbroken : v.flag R.THM.st_MON_BROKEN = (monFailed (monNext s.thm.mons powers) || range) := (congrArg (· != 0) h5).trans hmon
  have hflag : v.flag R.THM.QUENCHED = s.flag R.THM.QUENCHED := congrArg (· != 0) (h4.trans hqd)
  by_cases hhot : quenchDie ≤ v.thm.tDie
  · have hq := quench_shows v qcDIE
    have heq : dieQuench v = v.quench qcDIE := cond_of (b := decide (quenchDie ≤ v.thm.tDie)) (decide_eq_true hhot) _ _
    rw [heq, hq.mons, hq.power, hq.sens, hq.die]
    refine ⟨hmons, hpower, hsens, (congrArg (· != 0) hq.monitor).trans hbroken, (congrArg (· != 0) hq.window).trans h6, fun _ => ⟨hq.latch, fun hs => ?_⟩⟩
    exact (hq.first (hflag.trans hs)).2.1
  · have heq : dieQuench v = v := cond_of_not (b := decide (quenchDie ≤ v.thm.tDie)) (decide_eq_false hhot) _ _
    rw [heq]
    exact ⟨hmons, hpower, hsens, hbroken, h6, fun h => absurd h hhot⟩

/-! The throttle of the die (R373). -/

/-- The throttle shows itself. -/
def throttleShown (on : Bool) (s : State) : State := (s.wrB R.THM.st_DIE_THROTTLE on).level R.THM.ev_DIE_THROTTLE on

/-- The q of the applied configuration. -/
def dieQ (s : State) : Nat := qOf (s.lv R.THM.K_DIE) (s.lvI R.THM.T_DIE_THR) s.thm.tDie

/-- The multiplier before the evaluation. -/
def multWas (s : State) : Nat := min s.mult (s.thm.mHeld.getD s.mult)

/-- The multiplier after it. -/
def multNow (q hotter : Nat) (s : State) : Nat :=
  if mEffOf s.mult (s.lv R.LMP.SEG) q < multWas s then mEffOf s.mult (s.lv R.LMP.SEG) q else max (multWas s) (mEffOf s.mult (s.lv R.LMP.SEG) hotter)

/-- The sampler mode after it. -/
def modeNow (q hotter : Nat) (s : State) : Nat :=
  if s.thm.modeHeld < modeOf 0 q then modeOf 0 q else min s.thm.modeHeld (modeOf 0 hotter)

/-- The sampler mode steps. -/
def modeSteps (hold : Nat) (s : State) : Bool := max (s.lv R.LSM.MODE) hold != max (s.lv R.LSM.MODE) s.thm.modeHeld

/-- A multiplier and a sampler mode are held. -/
def multHeld (m now hold : Nat) (s : State) : State := { s with thm := { s.thm with mHeld := if now < m then some now else none, modeHeld := hold } }

/-- A step counts. -/
def stepCounted (b : Bool) (s : State) : State := s.cond b (fun s => s.inc R.THM.CNT_DIE_STEP)

/-- A step of the sampler mode counts and shows. -/
def modeShown (b : Bool) (s : State) : State := s.cond b (fun s => (s.inc R.LSM.CNT_MODE_STEP).showLsm)

/-- A tile's multiplier and sampler mode move. -/
def throttleMoved (now hold : Nat) (s : State) : State :=
  modeShown (modeSteps hold s) (multHeld s.mult now hold (stepCounted (now != multWas s || modeSteps hold s) s))

/-- The multiplier and the sampler mode of a tile follow q. -/
def tileThrottled (q hotter : Nat) (s : State) : State :=
  throttleMoved (multNow q hotter (s.wr R.THM.Q_DIE q)) (modeNow q hotter (s.wr R.THM.Q_DIE q)) (s.wr R.THM.Q_DIE q)

theorem dieThrottleFx_eq (s : State) : dieThrottleFx s =
    if (throttleShown (decide (dieQ s < 65536)) s).role = .sender then throttleShown (decide (dieQ s < 65536)) s
    else tileThrottled (dieQ s) (qOf (s.lv R.THM.K_DIE) (s.lvI R.THM.T_DIE_THR) (s.thm.tDie + 32)) (throttleShown (decide (dieQ s < 65536)) s) := by
  unfold dieThrottleFx tileThrottled multNow modeNow dieQ
  generalize @qOf = qs
  generalize @mEffOf = ms
  generalize @modeOf = ks
  rfl

/-- The fields that show the throttle; the last one is the raw bit of DIE_THROTTLE. -/
def throttleFields : List Fld := [R.THM.st_DIE_THROTTLE, ⟨0x0D0, 0x010, 1, 1⟩]

theorem throttleShown_shows (on : Bool) (s : State) : (throttleShown on s).rd R.THM.st_DIE_THROTTLE = b2n on ∧
    (throttleShown on s).raw R.THM.ev_DIE_THROTTLE = on ∧ OnlyRegs s (throttleShown on s) ∧
    WordsKept s (throttleShown on s) [R.THM.st_DIE_THROTTLE.key, evtRawKey R.THM.page, evtPendKey R.THM.page] := by
  refine ⟨?_, raw_level _ (by decide) _, onlyRegs_trans (onlyRegs_wr _ _ _) (onlyRegs_level _ _ _), ?_⟩
  · refine (rd_level_sep _ (by decide) (by decide)).trans ((rd_wr_own _ _ rfl).trans ?_)
    cases on <;> rfl
  · refine wordsKept_trans (wordsKept_mono (wordsKept_wr s (by decide) _) (by decide)) (wordsKept_mono (wordsKept_level _ _ _) (by decide))

theorem qOf_le (k : Nat) (thr t : Int) : qOf k thr t ≤ 65536 := by
  unfold qOf clampInt
  omega

/-- The fields that a move leaves. -/
def movedFields : List Fld := R.THM.Q_DIE :: R.LMP.MULT.live :: throttleFields

theorem showLsm_stays (s : State) : Stays State.thm movedFields s s.showLsm := by
  have h := staysFrame (F := State.thm) (fun _ _ _ => rfl) movedFields
  have hmode (m : Nat) : Stays State.thm movedFields s
      ((s.wr R.LSM.MODE_EFF m).raise R.LSM.ev_MODE_STEP) := h.trans (h.wr s m (by decide)) (h.raise _ (by decide) (by decide))
  unfold State.showLsm
  exact h.trans (h.trans (h.cond fun _ => hmode _) (h.wr _ _ (by decide))) (h.wr _ _ (by decide))

theorem throttleMoved_shows (now hold : Nat) (s : State) : (throttleMoved now hold s).thm.mHeld.getD s.mult ≤ s.mult ∧
    (throttleMoved now hold s).thm.tDie = s.thm.tDie ∧ ∀ f ∈ movedFields, (throttleMoved now hold s).rd f = s.rd f := by
  have h := staysFrame (F := State.thm) (fun _ _ _ => rfl) movedFields
  have hlsm (t : State) (b : Bool) : Stays State.thm movedFields t (modeShown b t) :=
    h.cond fun _ => h.trans (h.inc t (by decide)) (showLsm_stays _)
  have hstep (t : State) (b : Bool) : Stays State.thm movedFields t (stepCounted b t) := h.cond fun _ => h.inc t (by decide)
  unfold throttleMoved
  generalize hu : stepCounted (now != multWas s || modeSteps hold s) s = u
  have hfirst : Stays State.thm movedFields s u := hu ▸ hstep s _
  have hlast := hlsm (multHeld s.mult now hold u) (modeSteps hold s)
  refine ⟨?_, ?_, fun f hf => (hlast.rd f hf).trans (hfirst.rd f hf)⟩
  · rw [hlast.part]
    show (if now < s.mult then some now else none).getD s.mult ≤ s.mult
    split
    · exact Nat.le_of_lt ‹_›
    · exact Nat.le_refl _
  · rw [hlast.part]
    exact show u.thm.tDie = s.thm.tDie from congrArg ThmSt.tDie hfirst.part

theorem tileThrottled_shows {q : Nat} (hq : q ≤ 65536) (hotter : Nat) (s : State) : (tileThrottled q hotter s).rd R.THM.Q_DIE = q ∧
    (tileThrottled q hotter s).thm.mHeld.getD s.mult ≤ s.mult ∧ (tileThrottled q hotter s).thm.tDie = s.thm.tDie ∧
    ∀ f ∈ throttleFields, (tileThrottled q hotter s).rd f = s.rd f := by
  obtain ⟨hheld, hdie, hkept⟩ := throttleMoved_shows (multNow q hotter (s.wr R.THM.Q_DIE q)) (modeNow q hotter (s.wr R.THM.Q_DIE q)) (s.wr R.THM.Q_DIE q)
  have hmult : (s.wr R.THM.Q_DIE q).mult = s.mult := by
    unfold State.mult State.lv
    rw [rd_wr_sep _ _ (by decide)]
  rw [hmult] at hheld
  refine ⟨(hkept _ (by decide)).trans ((rd_wr_own _ _ rfl).trans (Nat.mod_eq_of_lt (Nat.lt_of_le_of_lt hq (by decide)))), hheld,
    hdie.trans (congrArg ThmSt.tDie (wr_thm _ _ _)), fun f hf => ?_⟩
  have hsep : ∀ f ∈ throttleFields, sep f R.THM.Q_DIE = true ∧ f ∈ movedFields := by decide
  exact (hkept f (hsep f hf).2).trans (rd_wr_sep _ _ (hsep f hf).1)

theorem dieThrottleFx_shows (s : State) :
    (dieThrottleFx s).rd R.THM.st_DIE_THROTTLE = b2n (decide (dieQ s < 65536)) ∧ (dieThrottleFx s).raw R.THM.ev_DIE_THROTTLE = decide (dieQ s < 65536) ∧
    (s.role = .sender → OnlyRegs s (dieThrottleFx s) ∧
      WordsKept s (dieThrottleFx s) [R.THM.st_DIE_THROTTLE.key, evtRawKey R.THM.page, evtPendKey R.THM.page]) ∧
    (s.role = .tile → (dieThrottleFx s).rd R.THM.Q_DIE = dieQ s ∧ (dieThrottleFx s).thm.mHeld.getD s.mult ≤ s.mult ∧
      (dieThrottleFx s).thm.tDie = s.thm.tDie) := by
  obtain ⟨h1, h2, h3, h4⟩ := throttleShown_shows (decide (dieQ s < 65536)) s
  have hrole : (throttleShown (decide (dieQ s < 65536)) s).role = s.role := by rw [h3]
  have hthm : (throttleShown (decide (dieQ s < 65536)) s).thm = s.thm := by rw [h3]
  have hmult : (throttleShown (decide (dieQ s < 65536)) s).mult = s.mult := by
    unfold State.mult State.lv
    rw [Commits.rd_of_wordsKept h4 (by decide) (by decide)]
  rw [dieThrottleFx_eq, hrole]
  generalize throttleShown (decide (dieQ s < 65536)) s = u at h1 h2 h3 h4 hthm hmult
  cases hr : s.role with
  | sender =>
    rw [if_pos rfl]
    exact ⟨h1, h2, fun _ => ⟨h3, h4⟩, fun h => absurd h (by decide)⟩
  | tile =>
    rw [if_neg (by decide)]
    obtain ⟨hq, hheld, hdie, hkept⟩ := tileThrottled_shows (q := dieQ s) (qOf_le _ _ _) (qOf (s.lv R.THM.K_DIE) (s.lvI R.THM.T_DIE_THR) (s.thm.tDie + 32)) u
    rw [hmult] at hheld
    refine ⟨(hkept _ (by decide)).trans h1, ?_, fun h => absurd h (by decide), fun _ => ⟨hq, hheld, hdie.trans (congrArg ThmSt.tDie hthm)⟩⟩
    rw [raw_eq_rd] at h2 ⊢
    exact (congrArg (· != 0) (hkept _ (by decide))).trans h2

/-- Settles O53. -/
theorem heatThrottlesAndQuenches : Obligations.HeatThrottlesAndQuenches := by
  unfold Obligations.HeatThrottlesAndQuenches
  refine ⟨fun n raw t0 ack s hrun hn hon => ⟨_, rfl, ?_⟩, fun powers range t0 s hrun => ⟨_, rfl, ?_⟩, fun s hrun => ⟨_, rfl, ?_⟩,
    fun s htile hon => ⟨_, rfl, ?_⟩⟩
  · rw [cond_of (b := s.running && (s.sensor n).on && decide (n < 8)) (by rw [hrun, hon, decide_eq_true hn]; rfl)]
    exact sensorReadFx_shows (s := s.atTime t0)
  · rw [cond_of (b := s.running) hrun]
    exact dieModelStepFx_shows powers range (s.atTime t0)
  · rw [cond_of hrun]
    exact dieThrottleFx_shows s.start
  · rw [cond_of (b := s.isTile && s.pageOn 0x0D0) (by rw [htile, hon]; rfl)]
    rfl

end Sys2Proof.Proofs.Heat


/-!
What a reader of the Y96 takes from DRAM, and that reads leave it (14 R381, R385, R388).
-/

namespace Sys2Proof.Proofs.DramReaders
open Sys2Proof.Machine Sys2Proof.Laws Sys2Proof.Proofs.Frames Sys2Proof.Proofs.FieldRules Sys2Proof.Proofs.Framing Sys2Proof.Proofs.CoilFrames
  Sys2Proof.Proofs.DramFrames Sys2Proof.Proofs.PageFrames

/-- Readers find the same in DRAM. -/
structure ReadsAlike (s t : State) : Prop where
  mem : t.drm.mem = s.drm.mem
  poison : t.drm.poison = s.drm.poison
  chans : t.drm.chans = s.drm.chans
  ready : ∀ c, t.flag (R.DRM.READY c) = s.flag (R.DRM.READY c)
  fault : ∀ c, t.flag (R.DRM.st_FAULT c) = s.flag (R.DRM.st_FAULT c)
  capacity : t.rd (R.DRM.CAPACITY 0) = s.rd (R.DRM.CAPACITY 0)

/-- The fields of a channel that decide on what is read. -/
def readerFields (c : Nat) : List Fld := [R.DRM.READY c, R.DRM.st_FAULT c, R.DRM.CAPACITY c]

/-- A field that has no part in it: of a page below those of the channels, or at another offset. -/
def besideReaders (g : Fld) : Bool := (decide (g.page < 0x0E0) && PageFrames.plain g) || (readerFields 0).all (fun f => offApart f g)

theorem sep_of_beside {g : Fld} (h : besideReaders g = true) (c : Nat) : ∀ f ∈ readerFields c, sep f g = true := by
  intro f hf
  have hin : f.page = 0x0E0 + c ∧ inPage f = true ∧ ∃ f0 ∈ readerFields 0, f0.off = f.off ∧ f0.w = f.w := by
    simp only [readerFields, List.mem_cons, List.not_mem_nil, or_false] at hf
    rcases hf with rfl | rfl | rfl
    · exact ⟨rfl, rfl, R.DRM.READY 0, by decide, rfl, rfl⟩
    · exact ⟨rfl, rfl, R.DRM.st_FAULT 0, by decide, rfl, rfl⟩
    · exact ⟨rfl, rfl, R.DRM.CAPACITY 0, by decide, rfl, rfl⟩
  obtain ⟨hp, hin, f0, hf0, ho, hw⟩ := hin
  unfold besideReaders at h
  rw [Bool.or_eq_true, Bool.and_eq_true, decide_eq_true_eq, List.all_eq_true] at h
  rcases h with ⟨hlow, hpl⟩ | h
  · exact sep_of_page (by omega) hin (inPage_of_plain hpl)
  · have := h f0 hf0
    unfold offApart at this
    rw [ho, hw] at this
    exact sep_of_offApart this

theorem quiet_readers (c p : Nat) : ∀ f ∈ readerFields c, offKey f (evtRawKey p) = true ∧ offKey f (evtPendKey p) = true := by
  intro f hf
  have hq : quietFor [f] p = true := by
    simp only [readerFields, List.mem_cons, List.not_mem_nil, or_false] at hf
    rcases hf with rfl | rfl | rfl <;> exact quiet_of_off rfl p
  unfold quietFor at hq
  rw [List.all_cons, List.all_nil, Bool.and_true, Bool.and_eq_true] at hq
  exact hq

theorem readsAlike_of {s t : State} (hdrm : t.drm = s.drm) (h : ∀ c, ∀ f ∈ readerFields c, t.rd f = s.rd f) : ReadsAlike s t :=
  ⟨congrArg DramSt.mem hdrm, congrArg DramSt.poison hdrm, congrArg DramSt.chans hdrm,
    fun c => congrArg (· != 0) (h c _ (by simp [readerFields])), fun c => congrArg (· != 0) (h c _ (by simp [readerFields])), h 0 _ (by decide)⟩

/-- Writes of other fields, and events, leave what readers find. -/
theorem readsAlikeFrame : Frame ReadsAlike besideReaders (fun _ => true) where
  refl _ := ⟨rfl, rfl, rfl, fun _ => rfl, fun _ => rfl, rfl⟩
  trans h h' := ⟨h'.mem.trans h.mem, h'.poison.trans h.poison, h'.chans.trans h.chans, fun c => (h'.ready c).trans (h.ready c),
    fun c => (h'.fault c).trans (h.fault c), h'.capacity.trans h.capacity⟩
  wr s _ v hg := readsAlike_of (wr_drm _ _ _) fun c f hf => rd_wr_sep s v (sep_of_beside hg c f hf)
  raise s _ _ _ := readsAlike_of (raise_drm _ _) fun c f hf => rd_raise_sep s (quiet_readers c _ f hf).2
  level s _ _ _ _ := readsAlike_of (level_drm _ _ _) fun c f hf => rd_level_sep s (quiet_readers c _ f hf).1 (quiet_readers c _ f hf).2

/-- A streaming read leaves what readers find. -/
theorem readsAlikeReads : ChRel ReadsAlike besideReaders (fun _ => true) where
  frame := readsAlikeFrame
  ground := frame_ground readsAlikeFrame (fun _ _ _ => ⟨rfl, rfl, rfl, fun _ => rfl, fun _ => rfl, rfl⟩) (fun _ _ => ⟨rfl, rfl, rfl, fun _ => rfl, fun _ => rfl, rfl⟩)
    (by decide) rfl
  ch _ _ _ _ := ⟨rfl, rfl, rfl, fun _ => rfl, fun _ => rfl, rfl⟩
  ue c f hf := by
    simp only [ueFields, List.mem_cons, List.not_mem_nil, or_false] at hf
    rcases hf with rfl | rfl | rfl <;> exact Bool.or_eq_true _ _ |>.mpr (.inr rfl)
  access c f hf := by
    simp only [accessFields, List.mem_cons, List.not_mem_nil, or_false] at hf
    rcases hf with rfl | rfl | rfl <;> exact Bool.or_eq_true _ _ |>.mpr (.inr rfl)
  oor := by decide
  chEvt _ := rfl

/-! Values that follow it. -/

section
variable {s t : State} (h : ReadsAlike s t)
include h

theorem ReadsAlike.unsoundParts (a n : Nat) : t.unsoundParts a n = s.unsoundParts a n := SamePoison.unsoundParts ⟨h.poison, h.chans, h.fault⟩ a n

theorem ReadsAlike.unsound (a n : Nat) : t.unsound a n = s.unsound a n := by
  unfold State.unsound
  rw [h.unsoundParts]

theorem ReadsAlike.dramBytes (a n : Nat) : t.dramBytes a n = s.dramBytes a n := by
  have hready : t.chReady = s.chReady := funext h.ready
  have hend : t.dramEnd = s.dramEnd := by
    unfold State.dramEnd State.installed State.channels
    rw [h.chans, h.capacity, hready]
  unfold State.dramBytes
  rw [h.unsoundParts, hend, h.mem]

theorem ReadsAlike.slabLength (slot : Nat) : t.slabLength slot = s.slabLength slot := by
  unfold State.slabLength
  rw [h.dramBytes]

theorem ReadsAlike.slabPixel (base w x y : Nat) : t.slabPixel base w x y = s.slabPixel base w x y := by
  unfold State.slabPixel
  simp only [h.dramBytes, h.unsound]

end

end Sys2Proof.Proofs.DramReaders


/-!
THEOREMS. Sagger signatures, relearning and the hidden region (08 R208 to R214). Settles O46.
-/

namespace Sys2Proof.Proofs.Sagger
open Sys2Proof.Machine Sys2Proof.Laws Sys2Proof.Proofs.Frames Sys2Proof.Proofs.FieldRules Sys2Proof.Proofs.Framing Sys2Proof.Proofs.CoilFrames
  Sys2Proof.Proofs.DramFrames Sys2Proof.Proofs.PageFrames

/-! The words of table 1. -/

theorem immW_setImm_same (s : State) (p tab i : Nat) (x : Word32) : (s.setImm p tab i x).immW p tab i = x := smGet_set_same _ _ _ _

theorem immW_setImm_ne (s : State) (p tab : Nat) {i j : Nat} (h : j ≠ i) (x : Word32) : (s.setImm p tab i x).immW p tab j = s.immW p tab j :=
  smGet_set_other _ _ _ (by unfold tabKey; omega)

theorem immW_of_imm {s t : State} (h : t.imm = s.imm) (p tab i : Nat) : t.immW p tab i = s.immW p tab i := by unfold State.immW; rw [h]

theorem sagFlag_of_imm {s t : State} (h : t.imm = s.imm) (k i : Nat) : t.sagFlag k i = s.sagFlag k i := by
  unfold State.sagFlag
  rw [immW_of_imm h]

/-- A flag that was set. -/
theorem sagFlag_set_same (s : State) (k : Nat) {i : Nat} (hi : i < 32) (b : Bool) : (s.setSagFlag k i b).sagFlag k i = b := by
  unfold State.sagFlag State.setSagFlag
  rw [immW_setImm_same, testBit_putField _ hi, if_pos rfl]

/-- The other flags of the region. -/
theorem sagFlag_set_other (s : State) (k : Nat) {i j : Nat} (hi : i < 32) (hj : j ≠ i) (b : Bool) : (s.setSagFlag k i b).sagFlag k j = s.sagFlag k j := by
  unfold State.sagFlag State.setSagFlag
  rw [immW_setImm_same, testBit_putField _ hi, if_neg hj]

/-- The flags of another region. -/
theorem sagFlag_set_ne (s : State) {k m : Nat} (h : m ≠ k) (i j : Nat) (b : Bool) : (s.setSagFlag k i b).sagFlag m j = s.sagFlag m j := by
  unfold State.sagFlag State.setSagFlag
  rw [immW_setImm_ne s _ _ (by omega)]

/-! Signatures (R209, R210). -/

/-- The signature is stored, and the region is done with the frame. -/
def signed (k : Nat) (s : State) : State :=
  ((s.setImm 0x05B 1 (4 * k) (s.signature k)).setSagFlag k 0 true).modReg k (fun r => { r with done := true })

/-- A learned signature. -/
def learned (k : Nat) (crc : Word32) (s : State) : State := (s.setImm 0x05B 1 (4 * k + 2) crc).setSagFlag k 1 true

theorem regSt_modReg (s : State) (k : Nat) (f : RegSt → RegSt) : (s.modReg k f).regSt k = f (s.regSt k) := smGet_set_same _ _ _ _

theorem regSt_of_sag {s t : State} (h : t.sag = s.sag) (k : Nat) : t.regSt k = s.regSt k := by unfold State.regSt; rw [h]

theorem signed_shows (k : Nat) (s : State) : (signed k s).immW 0x05B 1 (4 * k) = s.signature k ∧ (signed k s).sagFlag k 0 = true ∧
    (signed k s).sagFlag k 1 = s.sagFlag k 1 ∧ (signed k s).immW 0x05B 1 (4 * k + 2) = s.immW 0x05B 1 (4 * k + 2) ∧
    ((signed k s).regSt k).done = true ∧ ((signed k s).regSt k).mism = (s.regSt k).mism := by
  refine ⟨?_, sagFlag_set_same _ k (by decide) true, ?_, ?_, congrArg RegSt.done (regSt_modReg _ k _), ?_⟩
  · exact (immW_setImm_ne _ _ _ (by omega) _).trans (immW_setImm_same _ _ _ _ _)
  · refine (sagFlag_set_other _ k (by decide) (by decide) true).trans ?_
    unfold State.sagFlag
    rw [immW_setImm_ne s _ _ (by omega)]
  · exact (immW_setImm_ne _ _ _ (by omega) _).trans (immW_setImm_ne _ _ _ (by omega) _)
  · exact (congrArg RegSt.mism (regSt_modReg ((s.setImm 0x05B 1 (4 * k) (s.signature k)).setSagFlag k 0 true) k (fun r => { r with done := true }))).trans rfl

/-- The mode of the region decides what is done with the signature. -/
theorem sagCrcFx_eq (k : Nat) (s : State) : sagCrcFx k s = match (s.region k).mode with
    | 1 => (signed k s).compare k (s.signature k) (s.region k).expected
    | 2 => if (signed k s).sagFlag k 1 then (signed k s).compare k (s.signature k) ((signed k s).immW 0x05B 1 (4 * k + 2))
           else learned k (s.signature k) (signed k s)
    | _ => signed k s := rfl

/-- The region's frame goes to a half of its saved space. -/
def copySaved (k half : Nat) (s : State) : State :=
  (s.dramStore (s.holdBase k half) ((s.regionPixels k).flatMap (fun p => leBytes 8 (pix60 p)))).modReg k (fun r => { r with saved := some half })

theorem saveCopy_cases (s : State) (k : Nat) : s.saveCopy k = s ∨ ∃ half, s.saveCopy k = copySaved k half s := by
  unfold State.saveCopy
  split
  · exact .inl rfl
  · exact .inr ⟨_, rfl⟩

/-- The saved copy of a region that matched leaves the tables, the count and what is known of the mismatch. -/
theorem saveCopy_keeps (s : State) (k : Nat) : (s.saveCopy k).imm = s.imm ∧ (s.saveCopy k).rd R.SAG.CNT_MISMATCH = s.rd R.SAG.CNT_MISMATCH ∧
    ((s.saveCopy k).regSt k).mism = (s.regSt k).mism ∧ ((s.saveCopy k).regSt k).done = (s.regSt k).done := by
  rcases saveCopy_cases s k with h | ⟨half, h⟩
  · rw [h]
    exact ⟨rfl, rfl, rfl, rfl⟩
  rw [h]
  unfold copySaved
  have d := staysDram_low (F := fun s : State => (s.imm, s.sag)) (fs := [R.SAG.CNT_MISMATCH]) (fun _ _ _ => rfl) (fun _ _ _ => rfl)
    (fun _ _ => rfl) (fun _ _ _ => rfl) (by decide)
  have hst := frame_dramStore d (fun _ _ => .other rfl rfl) s (s.holdBase k half) ((s.regionPixels k).flatMap (fun p => leBytes 8 (pix60 p)))
  generalize s.dramStore (s.holdBase k half) ((s.regionPixels k).flatMap (fun p => leBytes 8 (pix60 p))) = u at hst
  obtain ⟨himm, hsag⟩ := Prod.mk.inj hst.part
  rw [regSt_modReg, regSt_of_sag hsag]
  exact ⟨himm, hst.rd _ (List.mem_singleton.mpr rfl), rfl, rfl⟩

/-- A comparison: what it leaves, and what it shows of a mismatch (R210). -/
theorem compare_shows {k : Nat} (hk : k < 256) (s : State) (crc want : Word32) :
    (s.compare k crc want).imm = s.imm ∧ ((s.compare k crc want).regSt k).done = (s.regSt k).done ∧
    ((s.compare k crc want).regSt k).mism = decide (crc ≠ want) ∧
    (crc ≠ want → Counted s (s.compare k crc want) R.SAG.CNT_MISMATCH ∧ Pending (s.compare k crc want) R.SAG.ev_MISMATCH ∧
      (s.compare k crc want).rd R.SAG.LAST_REGION = k) ∧
    (crc = want → (s.compare k crc want).rd R.SAG.CNT_MISMATCH = s.rd R.SAG.CNT_MISMATCH) := by
  unfold State.compare
  by_cases h : crc = want
  · rw [if_pos h]
    obtain ⟨himm, hcnt, hmism, hdone⟩ := saveCopy_keeps (s.modReg k (fun r => { r with mism := false })) k
    rw [regSt_modReg] at hmism hdone
    exact ⟨himm, hdone, hmism.trans (by simp [h]), fun hne => absurd h hne, fun _ => hcnt⟩
  · rw [if_neg h]
    have hpart := partFrame (F := fun s : State => (s.imm, s.sag)) fun _ _ _ => rfl
    obtain ⟨himm, hsag⟩ := Prod.mk.inj (hpart.trans (hpart.incRaise (f := R.SAG.CNT_MISMATCH) (e := R.SAG.ev_MISMATCH) s rfl rfl (by decide))
      (hpart.wr _ (f := R.SAG.LAST_REGION) k rfl))
    rw [regSt_modReg, regSt_of_sag hsag]
    refine ⟨himm, rfl, (decide_eq_true h).symm, fun _ => ⟨?_, ?_, ?_⟩, fun he => absurd he h⟩
    · exact (rd_wr_sep _ _ (by decide)).trans ((rd_raise_sep _ (by decide)).trans (counted_inc s rfl rfl))
    · exact pending_wr (pending_raise _ (by decide)) (g := R.SAG.LAST_REGION) k (by decide)
    · exact (rd_wr_own _ _ (by decide)).trans (Nat.mod_eq_of_lt hk)

/-! Relearning (R210). -/

theorem relearned {k : Nat} (hk : k < 256) (s : State) : (sagRelearnFx s).regs = s.regs ∧ (sagRelearnFx s).sag = s.sag ∧
    (sagRelearnFx s).sagFlag k 1 = if (s.region k).mode = 2 then false else s.sagFlag k 1 := by
  unfold sagRelearnFx
  refine ⟨each_keeps (P := fun t => t.regs = s.regs) _ (f := fun s k => s.setSagFlag k 1 false) (fun _ _ h => h) rfl, each_keeps (P := fun t => t.sag = s.sag) _ (f := fun s k => s.setSagFlag k 1 false) (fun _ _ h => h) rfl, ?_⟩
  by_cases h : (s.region k).mode = 2
  · rw [if_pos h]
    refine DramControl.each_at (P := fun _ => True) (Q := fun t => t.sagFlag k 1 = false) (I := fun _ => True) (c := k) (fun _ _ _ _ _ => trivial)
      (fun t _ => sagFlag_set_same t k (by decide) false) (fun t i _ hi ht => (sagFlag_set_ne t (Ne.symm hi) 1 1 false).trans ht) (fun _ _ => trivial)
      (List.mem_filter.mpr ⟨List.mem_range.mpr hk, by simpa using h⟩) (List.nodup_range.filter _) trivial
  · rw [if_neg h]
    have hne : ∀ i ∈ regionNos.filter (fun k => (s.region k).mode == 2), k ≠ i := by
      rintro i hi rfl
      exact h (by simpa using (List.mem_filter.mp hi).2)
    generalize regionNos.filter (fun k => (s.region k).mode == 2) = xs at hne
    have hall : ∀ (ys : List Nat) (t : State), (∀ i ∈ ys, k ≠ i) → (t.each ys (fun s k => s.setSagFlag k 1 false)).sagFlag k 1 = t.sagFlag k 1 := by
      intro ys
      induction ys with
      | nil => exact fun _ _ => rfl
      | cons y ys ih => exact fun t hys => (ih _ fun i hi => hys i (List.mem_cons_of_mem _ hi)).trans (sagFlag_set_ne t (hys y List.mem_cons_self) 1 1 false)
    exact hall xs s hne

/-! The hidden region (R214, 10 R278). -/

/-- A self-diagnosis that failed is shown. -/
def selfFailed (s : State) : State := (s.wr R.SAG.SELF_OK 0).incRaise R.SAG.CNT_SELF_FAIL R.SAG.ev_SELF_FAIL

/-- The ground leaves what it shows. -/
theorem ground_stays (s : State) : Stays (fun _ => ()) [R.SAG.SELF_OK, R.SAG.CNT_SELF_FAIL] s (s.ground grSELF_CHECK) :=
  frame_ground (staysFrame (fun _ _ _ => rfl) _) (fun _ _ _ => .other rfl rfl) (fun _ _ => .other rfl rfl) (by decide) (by decide) s _

theorem selfFailed_shows (s : State) : (selfFailed s).rd R.SAG.SELF_OK = 0 ∧ Counted s (selfFailed s) R.SAG.CNT_SELF_FAIL ∧
    Pending (selfFailed s) R.SAG.ev_SELF_FAIL := by
  refine ⟨?_, ?_, pending_raise _ (by decide)⟩
  · exact (rd_raise_sep _ (by decide)).trans ((rd_wr_sep _ _ (by decide)).trans (rd_wr_own _ _ (by decide)))
  · refine (rd_raise_sep _ (by decide)).trans ((rd_incBy_same _ rfl rfl 1).trans ?_)
    rw [rd_wr_sep _ _ (by decide)]

/-- What decides on the ground. -/
theorem selfFailed_stays (s : State) : Stays State.role [R.RED.GROUND_EN.live, R.RED.RELINQUISHED, R.RED.CNT_RELINQUISH] s (selfFailed s) := by
  have h := staysFrame (F := State.role) (fun _ _ _ => rfl) [R.RED.GROUND_EN.live, R.RED.RELINQUISHED, R.RED.CNT_RELINQUISH]
  exact h.trans (h.wr s _ (by decide)) (h.incRaise _ (by decide) (by decide) (by decide))

/-- A sender that relinquishes on a ground says so. -/
theorem ground_shows {s : State} {g : Nat} (hrole : s.role = .sender) (hen : (s.lv R.RED.GROUND_EN).testBit g = true)
    (hrel : s.flag R.RED.RELINQUISHED = false) (hg : g < R.RED.GROUNDS.w) :
    (s.ground g).rd R.RED.RELINQUISHED = 1 ∧ (s.ground g).rd R.RED.GROUNDS = 2 ^ g ∧ Counted s (s.ground g) R.RED.CNT_RELINQUISH := by
  have hflag : (s.inc R.RED.CNT_RELINQUISH).flag R.RED.RELINQUISHED = false := by
    refine Eq.trans (congrArg (· != 0) ?_) hrel
    exact rd_wr_sep s _ (by decide)
  have h := staysFrame (F := fun _ : State => ()) (fun _ _ _ => rfl) [R.RED.RELINQUISHED, R.RED.GROUNDS, R.RED.CNT_RELINQUISH]
  unfold State.ground
  rw [if_neg (by rw [hrole]; decide), if_neg (by simp [hen]), if_neg (by rw [hflag]; decide)]
  have hst (t : State) := h.trans (frame_stopTraffic h (fun _ _ _ => .other rfl rfl) t) (frame_sendRelinquish h (fun _ _ _ => .other rfl rfl) _ 1)
  have hrd {f : Fld} (hf : f ∈ [R.RED.RELINQUISHED, R.RED.GROUNDS, R.RED.CNT_RELINQUISH]) (t : State) := (hst t).rd f hf
  refine ⟨(hrd (by decide) _).trans ?_, (hrd (by decide) _).trans ?_, (hrd (by decide) _).trans ?_⟩
  · exact (rd_raise_sep _ (by decide)).trans ((rd_wr_sep _ _ (by decide)).trans ((rd_wr_sep _ _ (by decide)).trans (rd_wr_own _ _ (by decide))))
  · refine (rd_raise_sep _ (by decide)).trans ((rd_wr_sep _ _ (by decide)).trans ((rd_wr_own _ _ (by decide)).trans ?_))
    exact Nat.mod_eq_of_lt (Nat.pow_lt_pow_right (a := 2) (by decide) hg)
  · refine (rd_raise_sep _ (by decide)).trans ((rd_wr_sep _ _ (by decide)).trans ((rd_wr_sep _ _ (by decide)).trans ((rd_wr_sep _ _ (by decide)).trans ?_)))
    exact rd_incBy_same s rfl rfl 1

/-- Settles O46: a comparison writes the region's record and the count alone besides its saved copy, which goes to DRAM. -/
theorem saggerRegionsActOnWhatTheyCompare : Obligations.SaggerRegionsActOnWhatTheyCompare := by
  unfold Obligations.SaggerRegionsActOnWhatTheyCompare
  refine ⟨?_, ?_, ?_, ?_⟩
  · intro k s hs htick hk hdone hfeed hline hmode
    refine ⟨_, rfl, ?_⟩
    rw [cond_of (b := s.isSender && s.frm.ticked && decide (k < 256) && (s.region k).mode != 0 && !(s.regSt k).done &&
      decide (k / 32 < composedFeeds s.lv) && decide ((s.region k).y + (s.region k).h ≤ s.nextLine (k / 32))) (by simp [hs, htick, hk, hdone, hfeed, hline, hmode]),
      sagCrcFx_eq (s := s.start)]
    obtain ⟨hsig, hflag, hlearn, hwant, hdn, hms⟩ := signed_shows k s.start
    have hcompared (crc want : Word32) := compare_shows hk (signed k s.start) crc want
    split
    case h_1 hm =>
      obtain ⟨himm, hd, hmism, hne, heq⟩ := hcompared (s.start.signature k) (s.start.region k).expected
      refine ⟨(immW_of_imm himm _ _ _).trans hsig, hd.trans (hdn), (sagFlag_of_imm himm k 0).trans hflag, ?_,
        fun h => absurd (hm.symm.trans h) (by decide), fun h => absurd (hm.symm.trans h) (by decide)⟩
      rintro want (⟨-, rfl⟩ | ⟨h, -⟩)
      · exact ⟨hmism, hne, heq⟩
      · exact absurd (hm.symm.trans h) (by decide)
    case h_2 hm =>
      by_cases hl : (signed k s.start).sagFlag k 1 = true
      · rw [if_pos hl]
        have hl' : s.sagFlag k 1 = true := hlearn.symm.trans hl
        obtain ⟨himm, hd, hmism, hne, heq⟩ := hcompared (s.start.signature k) ((signed k s.start).immW 0x05B 1 (4 * k + 2))
        refine ⟨(immW_of_imm himm _ _ _).trans hsig, hd.trans (hdn), (sagFlag_of_imm himm k 0).trans hflag, ?_,
          fun _ h => absurd (hl'.symm.trans h) (by decide), fun h => absurd (hm.symm.trans h) (by decide)⟩
        rintro want (⟨h, -⟩ | ⟨-, -, rfl⟩)
        · exact absurd (hm.symm.trans h) (by decide)
        · rw [hwant] at hmism hne heq ⊢
          exact ⟨hmism, hne, heq⟩
      · rw [if_neg hl]
        have hl' : ¬ s.sagFlag k 1 = true := fun h => hl (hlearn.trans h)
        refine ⟨?_, hdn, ?_, ?_, fun _ _ => ⟨?_, sagFlag_set_same _ k (by decide) true, rfl, hms⟩,
          fun h => absurd (hm.symm.trans h) (by decide)⟩
        · exact (immW_setImm_ne _ _ _ (by omega) _).trans ((immW_setImm_ne _ _ _ (by omega) _).trans hsig)
        · refine (sagFlag_set_other _ k (by decide) (by decide) true).trans ?_
          unfold State.sagFlag
          rw [immW_setImm_ne _ _ _ (by omega)]
          exact hflag
        · rintro want (⟨h, -⟩ | ⟨-, h, -⟩)
          · exact absurd (hm.symm.trans h) (by decide)
          · exact absurd h hl'
        · exact (immW_setImm_ne _ _ _ (by omega) _).trans (immW_setImm_same _ _ _ _ _)
    case h_3 h1 h2 =>
      refine ⟨hsig, hdn, hflag, ?_, fun h => absurd h h2, fun _ => ⟨rfl, hms⟩⟩
      rintro want (⟨h, -⟩ | ⟨h, -⟩)
      · exact absurd h h1
      · exact absurd h h2
  · intro s hs
    refine ⟨_, rfl, ?_⟩
    rw [cond_of hs]
    exact ⟨(relearned (k := 0) (by decide) s.start).1, (relearned (k := 0) (by decide) s.start).2.1, fun k hk => (relearned hk s.start).2.2⟩
  · intro s hs
    refine ⟨_, rfl, ?_⟩
    rw [cond_of hs]
    have : hiddenFx Config.hiddenCrc s.start = s.start.wr R.SAG.SELF_OK 1 := if_pos rfl
    rw [this]
    exact ⟨onlyRegs_trans (onlyRegs_start s) (onlyRegs_wr _ _ _), rd_wr_own _ _ (by decide), wordsKept_wr s.start (by decide) 1⟩
  · intro crc s hs hne
    refine ⟨_, rfl, ?_⟩
    rw [cond_of hs]
    have : hiddenFx crc s.start = (selfFailed s.start).ground grSELF_CHECK := if_neg hne
    rw [this]
    obtain ⟨hok, hcnt, hpend⟩ := selfFailed_shows s.start
    have hg := ground_stays (selfFailed s.start)
    refine ⟨(hg.rd _ (by decide)).trans hok, (hg.rd _ (by decide)).trans hcnt, hg.pend _ hpend, fun hen hrel => ?_⟩
    have hd := selfFailed_stays s.start
    have hrel' : (selfFailed s.start).flag R.RED.RELINQUISHED = false := (congrArg (· != 0) (hd.rd _ (by decide))).trans hrel
    have hen' : ((selfFailed s.start).lv R.RED.GROUND_EN).testBit grSELF_CHECK = true := (congrArg (Nat.testBit · grSELF_CHECK) (hd.rd R.RED.GROUND_EN.live (by decide))).trans hen
    have hrole : s.role = .sender := by
      unfold State.composes at hs
      rw [Bool.and_eq_true, Bool.and_eq_true] at hs
      exact ((isSender_iff s).mp hs.1.1).2
    obtain ⟨h1, h2, h3⟩ := ground_shows (hd.part.trans hrole) hen' hrel' (by decide)
    exact ⟨h1, h2, h3.trans (congrArg (fun n => min (n + 1) _) (hd.rd R.RED.CNT_RELINQUISH (by decide)))⟩

end Sys2Proof.Proofs.Sagger


/-!
THEOREMS. The preview is captured and timed (08 R205, R207; 06 R155, R156). Settles O47.
-/

namespace Sys2Proof.Proofs.Preview
open Sys2Proof.Machine Sys2Proof.Laws Sys2Proof.Proofs.Frames Sys2Proof.Proofs.FieldRules Sys2Proof.Proofs.Framing Sys2Proof.Proofs.CoilFrames
  Sys2Proof.Proofs.DramFrames Sys2Proof.Proofs.PageFrames Sys2Proof.Proofs.DramReaders

/-! The start of a frame. -/

/-- A capture is armed unless one is armed or running. -/
def armed (s : State) : State := if s.prv.cap = 0 then { s with prv := { s.prv with cap := 1, surface := s.prvFree } } else s

theorem armed_keeps (s : State) : (armed s).prv.cap = (if s.prv.cap = 0 then 1 else s.prv.cap) ∧ (armed s).prv.done = s.prv.done ∧
    (armed s).drm = s.drm ∧ (armed s).regs = s.regs := by
  unfold armed
  split
  · exact ⟨rfl, rfl, rfl, rfl⟩
  · exact ⟨rfl, rfl, rfl, rfl⟩

/-- The frame that the outputs send. -/
def sends (s : State) : State :=
  let n := if s.lvB R.PRV.NET_EN then (s.lv (R.TG.ACT_H_M1 1) + 1) * s.prvPerLine else 0
  { s with prv := { s.prv with sending := s.prv.done, queue := (List.range n).map (fun j => (j, s.base + Config.previewLaunch n j)), late := [],
                               rtp := s.base * 9 / (sec1 / 10000) % 2 ^ 32 } }

theorem tgpStartFx_eq (s : State) : tgpStartFx s = if !(armed s).prvOn then ((armed s).wr R.PRV.RUNNING 0).wr ⟨0x01C, 0x00C, 0, 1⟩ 0
    else ((sends (armed s)).wr R.PRV.RUNNING 1).wrB ⟨0x01C, 0x00C, 0, 1⟩ ((sends (armed s)).lvB R.PRV.SDI_EN) := rfl

/-- Whether the outputs run shows, and nothing of the records changes with it. -/
theorem runningShown (s : State) (v b : Nat) (hv : v < 2) : (((s.wr R.PRV.RUNNING v).wr ⟨0x01C, 0x00C, 0, 1⟩ b).rd R.PRV.RUNNING = v) ∧
    ((s.wr R.PRV.RUNNING v).wr ⟨0x01C, 0x00C, 0, 1⟩ b).prv = s.prv ∧ ((s.wr R.PRV.RUNNING v).wr ⟨0x01C, 0x00C, 0, 1⟩ b).drm = s.drm :=
  ⟨(rd_wr_sep _ _ (by decide)).trans ((rd_wr_own _ _ (by decide)).trans (Nat.mod_eq_of_lt hv)), (wr_prv _ _ _).trans (wr_prv _ _ _),
    (wr_drm _ _ _).trans (wr_drm _ _ _)⟩

theorem tgpStartFx_shows (s : State) : (tgpStartFx s).prv.cap = (if s.prv.cap = 0 then 1 else s.prv.cap) ∧ (tgpStartFx s).prv.done = s.prv.done ∧
    (tgpStartFx s).rd R.PRV.RUNNING = b2n s.prvOn ∧ (s.prvOn = true → (tgpStartFx s).prv.sending = s.prv.done) ∧ (tgpStartFx s).drm = s.drm := by
  obtain ⟨hcap, hdone, hdrm, hregs⟩ := armed_keeps s
  have hon : (armed s).prvOn = s.prvOn := by
    unfold State.prvOn State.lvB State.lv
    rw [rd_congr hregs, rd_congr hregs]
  rw [tgpStartFx_eq, hon]
  cases s.prvOn with
  | false =>
    rw [if_pos (by decide)]
    obtain ⟨h1, h2, h3⟩ := runningShown (armed s) 0 0 (by decide)
    exact ⟨by rw [h2]; exact hcap, by rw [h2]; exact hdone, h1, fun h => absurd h (by decide), h3.trans hdrm⟩
  | true =>
    rw [if_neg (by decide)]
    obtain ⟨h1, h2, h3⟩ := runningShown (sends (armed s)) 1 (b2n ((sends (armed s)).lvB R.PRV.SDI_EN)) (by decide)
    refine ⟨(congrArg PrvSt.cap h2).trans hcap, (congrArg PrvSt.done h2).trans hdone, h1, fun _ => (congrArg PrvSt.sending h2).trans hdone, h3.trans hdrm⟩

/-! A complete capture. -/

/-- The captured lines of the preview. -/
def captured (s : State) : State :=
  s.storeSurface (s.lv (R.TG.BUF_BASE 1) + s.prv.surface * s.lv (R.TG.BUF_STRIDE 1) * 4096) (s.lv (R.TG.ACT_W_M1 1) + 1) (s.lv (R.TG.ACT_H_M1 1) + 1)
    ((List.range (s.lv (R.TG.ACT_H_M1 1) + 1)).map (fun j => (List.range (s.lv (R.TG.ACT_W_M1 1) + 1)).map (fun i => s.previewPixel i j)))

theorem captured_stays (s : State) : Stays (fun s => (s.prv, s.cmp)) [R.TG.CNT_FRAMES 1] s (captured s) := by
  have d := staysDram_low (F := fun s : State => (s.prv, s.cmp)) (fs := [R.TG.CNT_FRAMES 1]) (fun _ _ _ => rfl) (fun _ _ _ => rfl) (fun _ _ => rfl)
    (fun _ _ _ => rfl) (by decide)
  exact d.frame.each fun t _ _ => frame_dramStore d (fun _ _ => .other rfl rfl) t _ _

/-- The capture is the last complete frame. -/
def captureKept (s : State) : State := { s with prv := { s.prv with cap := 0, done := some s.prv.surface } }

theorem captureDoneFx_eq (s : State) :
    captureDoneFx s = (((captureKept (captured s)).inc (R.TG.CNT_FRAMES 1)).raise (R.TG.ev_FRAME_DONE 1)).wr R.PRV.HAVE_FRAME 1 := rfl

theorem captureDoneFx_shows (s : State) : (captureDoneFx s).prv = { s.prv with cap := 0, done := some s.prv.surface } ∧
    (captureDoneFx s).rd R.PRV.HAVE_FRAME = 1 ∧ Counted s (captureDoneFx s) (R.TG.CNT_FRAMES 1) ∧ Pending (captureDoneFx s) (R.TG.ev_FRAME_DONE 1) ∧
    (captureDoneFx s).cmp = s.cmp := by
  have h := captured_stays s
  obtain ⟨hprv, hcmp⟩ := Prod.mk.inj h.part
  have hpart := partFrame (F := fun s : State => (s.prv, s.cmp)) fun _ _ _ => rfl
  obtain ⟨hprv', hcmp'⟩ := Prod.mk.inj (hpart.trans (hpart.trans (hpart.inc (captureKept (captured s)) (f := R.TG.CNT_FRAMES 1) rfl)
    (hpart.raise _ (e := R.TG.ev_FRAME_DONE 1) rfl (by decide))) (hpart.wr _ (f := R.PRV.HAVE_FRAME) 1 rfl))
  rw [captureDoneFx_eq]
  refine ⟨hprv'.trans ?_, rd_wr_own _ _ (by decide), ?_, ?_, hcmp'.trans hcmp⟩
  · show ({ (captured s).prv with cap := 0, done := some (captured s).prv.surface } : PrvSt) = _
    rw [hprv]
  · refine (rd_wr_sep _ _ (by decide)).trans ((rd_raise_sep _ (by decide)).trans ((rd_incBy_same _ rfl rfl 1).trans ?_))
    exact congrArg (fun n => min (n + 1) _) (h.rd _ (by decide))
  · exact pending_wr (pending_raise _ (by decide)) _ (by decide)

/-! A line. -/

/-- The place of the line. -/
def placed (y : Nat) (s : State) : State :=
  ((s.wr (R.TG.LINE 1) y).wrB (R.TG.BLANK 1) (decide (s.lv (R.TG.ACT_H_M1 1) + 1 ≤ y))).cond (y == s.lv (R.TG.ACT_H_M1 1) + 1)
    (fun s => s.raise (R.TG.ev_BLANK_START 1))

/-- The place of the line, and the events of it. -/
def lineShown (y : Nat) (s : State) : State :=
  (placed y s).cond (y == (placed y s).lv (R.TG.LINE_MATCH 1)) (fun s => s.raise (R.TG.ev_LINE_MATCH 1))

/-- An underrun is counted, with its line and feed. -/
def lateCounted (y : Nat) (s : State) : State :=
  ((s.incRaise (R.TG.CNT_UNDERRUN 1) (R.TG.ev_UNDERRUN 1)).wr (R.TG.UNDERRUN_LINE 1) y).wr (R.TG.UNDERRUN_FEED 1) (s.lv R.PRV.FEED)

/-- The line is known as late, with the pixels of it that the output stage has. -/
def lateKept (y v : Nat) (s : State) : State := { s with prv := { s.prv with late := (y, v % (s.lv (R.TG.ACT_W_M1 1) + 1)) :: s.prv.late } }

/-- An underrun on SDI4 is counted. -/
def sdiCounted (s : State) : State := s.cond (s.lvB R.PRV.SDI_EN) (fun s => (s.inc ⟨0x01C, 0x680, 0, 32⟩).inc R.PRV.CNT_SDI_UNDERRUN)

/-- The underrun of a late line. -/
def underrun (y : Nat) (s : State) : State := sdiCounted (lateKept y s.fresh.1 (lateCounted y s.fresh.2))

theorem underrun_eq (y : Nat) (s : State) : underrun y s = (let (v, s) := s.fresh
    let s := ((s.incRaise (R.TG.CNT_UNDERRUN 1) (R.TG.ev_UNDERRUN 1)).wr (R.TG.UNDERRUN_LINE 1) y).wr (R.TG.UNDERRUN_FEED 1)
      (s.lv R.PRV.FEED)
    let s : State := { s with prv := { s.prv with late := (y, v % (s.lv (R.TG.ACT_W_M1 1) + 1)) :: s.prv.late } }
    s.cond (s.lvB R.PRV.SDI_EN) (fun s => (s.inc ⟨0x01C, 0x680, 0, 32⟩).inc R.PRV.CNT_SDI_UNDERRUN)) := by
  unfold underrun sdiCounted lateKept lateCounted
  obtain ⟨v, u⟩ := s.fresh
  rfl

/-- The line goes to SDI4. -/
def lineSent (y : Nat) (s : State) : State := (s.prvRead y 0 (s.lv (R.TG.ACT_W_M1 1) + 1)).emit (.sdiLine y (s.prvLine y))

/-- The line, with its underrun. -/
def lineTimed (y h : Nat) (late : Bool) (s : State) : State :=
  (lineShown y s).cond (late && decide (y < h) && (lineShown y s).flag R.PRV.RUNNING) (underrun y)

theorem tgpLineFx_eq (y : Nat) (late : Bool) (s : State) : tgpLineFx y late s =
    (lineTimed y (s.lv (R.TG.ACT_H_M1 1) + 1) late s).cond (decide (y < s.lv (R.TG.ACT_H_M1 1) + 1) &&
      (lineTimed y (s.lv (R.TG.ACT_H_M1 1) + 1) late s).flag R.PRV.RUNNING && (lineTimed y (s.lv (R.TG.ACT_H_M1 1) + 1) late s).lvB R.PRV.SDI_EN) (lineSent y) := by
  unfold tgpLineFx lineTimed lineShown placed lineSent
  rw [show underrun y = _ from funext (underrun_eq y)]

/-- Fields that a line of the preview reads and does not write. -/
def lineFields : List Fld :=
  [R.PRV.RUNNING, R.PRV.SDI_EN.live, R.PRV.FEED.live, (R.TG.LINE_MATCH 1).live, (R.TG.ACT_H_M1 1).live, (R.TG.BUF_BASE 1).live, (R.TG.BUF_STRIDE 1).live,
   (R.TG.ACT_W_M1 1).live, R.PRV.TCS.live, R.PRV.COLOR.live, R.PRV.SDR_NITS.live, R.PRV.HLG_NITS.live, R.CMP.PEAK_NITS.live]

/-- What the line shows of itself. -/
def shownFields : List Fld := [R.TG.LINE 1, R.TG.BLANK 1]

theorem placed_stays (y : Nat) (s : State) : Stays (fun s => (s.prv, s.drm, s.out)) (R.TG.CNT_UNDERRUN 1 :: lineFields) s (placed y s) := by
  have h := staysFrame (F := fun s : State => (s.prv, s.drm, s.out)) (fun _ _ _ => rfl) (R.TG.CNT_UNDERRUN 1 :: lineFields)
  unfold placed
  exact h.trans (h.trans (h.wr s _ (by decide)) (h.wr _ _ (by decide))) (h.cond fun _ => h.raise _ (e := R.TG.ev_BLANK_START 1) (by decide) (by decide))

theorem lineShown_stays (y : Nat) (s : State) : Stays (fun s => (s.prv, s.drm, s.out)) (R.TG.CNT_UNDERRUN 1 :: lineFields) s (lineShown y s) := by
  have h := staysFrame (F := fun s : State => (s.prv, s.drm, s.out)) (fun _ _ _ => rfl) (R.TG.CNT_UNDERRUN 1 :: lineFields)
  exact h.trans (placed_stays y s) (h.cond fun _ => h.raise _ (e := R.TG.ev_LINE_MATCH 1) (by decide) (by decide))

theorem lineShown_onlyRegs (y : Nat) (s : State) : OnlyRegs s (lineShown y s) := by
  unfold lineShown placed
  exact onlyRegs_trans (onlyRegs_trans (onlyRegs_trans (onlyRegs_wr _ _ _) (onlyRegs_wr _ _ _)) (onlyRegs_cond (onlyRegs_raise _ _)))
    (onlyRegs_cond (onlyRegs_raise _ _))

theorem lineShown_shows {y : Nat} {s : State} (hy : y < 2 ^ 15) : (lineShown y s).rd (R.TG.LINE 1) = y ∧
    (lineShown y s).rd (R.TG.BLANK 1) = b2n (decide (s.lv (R.TG.ACT_H_M1 1) + 1 ≤ y)) ∧
    (y = s.lv (R.TG.LINE_MATCH 1) → Pending (lineShown y s) (R.TG.ev_LINE_MATCH 1)) := by
  have h := staysFrame (F := fun _ : State => ()) (fun _ _ _ => rfl) shownFields
  have hu := h.trans (h.cond (s := (s.wr (R.TG.LINE 1) y).wrB (R.TG.BLANK 1) (decide (s.lv (R.TG.ACT_H_M1 1) + 1 ≤ y))) (b := y == s.lv (R.TG.ACT_H_M1 1) + 1)
      (f := fun s => s.raise (R.TG.ev_BLANK_START 1)) fun _ => h.raise _ (by decide) (by decide))
    (h.cond (s := placed y s) (b := y == (placed y s).lv (R.TG.LINE_MATCH 1)) (f := fun s => s.raise (R.TG.ev_LINE_MATCH 1)) fun _ => h.raise _ (by decide) (by decide))
  refine ⟨(hu.rd _ (by decide)).trans ((rd_wr_sep _ _ (by decide)).trans ((rd_wr_own _ _ (by decide)).trans (Nat.mod_eq_of_lt hy))),
    (hu.rd _ (by decide)).trans ((rd_wr_own _ _ (by decide)).trans (Nat.mod_eq_of_lt (by cases decide (s.lv (R.TG.ACT_H_M1 1) + 1 ≤ y) <;> decide))), fun hm => ?_⟩
  unfold lineShown
  have hlm : (placed y s).lv (R.TG.LINE_MATCH 1) = s.lv (R.TG.LINE_MATCH 1) := (placed_stays y s).rd _ (by decide)
  rw [cond_of (b := y == (placed y s).lv (R.TG.LINE_MATCH 1)) (by rw [beq_iff_eq, hlm, ← hm])]
  exact pending_raise _ (by decide)

/-! A late line. -/

theorem lateCounted_stays (y : Nat) (s : State) : Stays (fun s => (s.prv, s.drm, s.out)) (shownFields ++ lineFields) s (lateCounted y s) := by
  have h := staysFrame (F := fun s : State => (s.prv, s.drm, s.out)) (fun _ _ _ => rfl) (shownFields ++ lineFields)
  exact h.trans (h.trans (h.incRaise s (by decide) (by decide) (by decide)) (h.wr _ _ (by decide))) (h.wr _ _ (by decide))

theorem underrun_stays (y : Nat) (s : State) : Stays (fun s => (s.drm, s.out)) (shownFields ++ lineFields) s (underrun y s) := by
  have h := staysFrame (F := fun s : State => (s.drm, s.out)) (fun _ _ _ => rfl) (shownFields ++ lineFields)
  have hc := lateCounted_stays y s.fresh.2
  have hk : Stays (fun s => (s.drm, s.out)) (shownFields ++ lineFields) s (lateKept y s.fresh.1 (lateCounted y s.fresh.2)) := ⟨congrArg Prod.snd hc.part, hc.rd, hc.pend⟩
  have hlast (t : State) (b : Bool) := h.cond (s := t) (b := b) (f := fun s => (s.inc ⟨0x01C, 0x680, 0, 32⟩).inc R.PRV.CNT_SDI_UNDERRUN)
    fun _ => h.trans (h.inc _ (by decide)) (h.inc _ (by decide))
  exact h.trans hk (hlast _ _)

theorem underrun_shows {y : Nat} (hy : y < 2 ^ 14) (s : State) : Counted s (underrun y s) (R.TG.CNT_UNDERRUN 1) ∧
    (underrun y s).rd (R.TG.UNDERRUN_LINE 1) = y ∧ (underrun y s).rd (R.TG.UNDERRUN_FEED 1) = s.lv R.PRV.FEED ∧
    Pending (underrun y s) (R.TG.ev_UNDERRUN 1) ∧ ∃ k, (underrun y s).prv.late = (y, k) :: s.prv.late := by
  have h := staysFrame (F := State.prv) (fun _ _ _ => rfl) [R.TG.CNT_UNDERRUN 1, R.TG.UNDERRUN_LINE 1, R.TG.UNDERRUN_FEED 1]
  have hlast (t : State) (b : Bool) := h.cond (s := t) (b := b) (f := fun s => (s.inc ⟨0x01C, 0x680, 0, 32⟩).inc R.PRV.CNT_SDI_UNDERRUN)
    fun _ => h.trans (h.inc _ (by decide)) (h.inc _ (by decide))
  unfold underrun sdiCounted
  refine ⟨((hlast _ _).rd _ (by decide)).trans ?_, ((hlast _ _).rd _ (by decide)).trans ?_, ((hlast _ _).rd _ (by decide)).trans ?_, (hlast _ _).pend _ ?_,
    ⟨s.fresh.1 % ((lateCounted y s.fresh.2).lv (R.TG.ACT_W_M1 1) + 1), (congrArg PrvSt.late (hlast _ _).part).trans ?_⟩⟩
  · exact (rd_wr_sep _ _ (by decide)).trans ((rd_wr_sep _ _ (by decide)).trans ((rd_raise_sep _ (by decide)).trans (counted_inc s.fresh.2 rfl rfl)))
  · exact (rd_wr_sep _ _ (by decide)).trans ((rd_wr_own _ _ (by decide)).trans (Nat.mod_eq_of_lt hy))
  · refine (rd_wr_own _ _ (by decide)).trans (Nat.mod_eq_of_lt (Nat.mod_lt _ (by decide)))
  · exact pending_wr (pending_wr (pending_raise _ (by decide)) _ (by decide)) _ (by decide)
  · exact congrArg (List.cons _) (congrArg PrvSt.late (Prod.mk.inj (lateCounted_stays y s.fresh.2).part).1)

/-! The line on SDI4. -/

/-- The lines that the preview sends follow what it reads. -/
theorem prvLine_congr {s t : State} (hr : ReadsAlike s t) (h : Stays State.prv lineFields s t) (y : Nat) : t.prvLine y = s.prvLine y := by
  have hrd {f : Fld} (hf : f.live ∈ lineFields) : t.lv f = s.lv f := h.rd _ hf
  have hrow : t.prvRow y = s.prvRow y := by
    unfold State.prvRow
    simp only [h.part, hr.slabPixel, hrd (f := R.TG.BUF_BASE 1) (by decide), hrd (f := R.TG.BUF_STRIDE 1) (by decide), hrd (f := R.TG.ACT_W_M1 1) (by decide)]
  unfold State.prvLine
  simp only [hrow, h.part, hrd (f := R.PRV.TCS) (by decide), hrd (f := R.PRV.COLOR) (by decide), hrd (f := R.PRV.SDR_NITS) (by decide),
    hrd (f := R.PRV.HLG_NITS) (by decide), hrd (f := R.CMP.PEAK_NITS) (by decide)]

theorem frame_prvRead {Rel : State → State → Prop} {W : Fld → Bool} {E : Nat → Bool} (d : ChRel Rel W E) (s : State) (y x n : Nat) : Rel s (s.prvRead y x n) := by
  unfold State.prvRead
  split
  · exact d.frame.refl s
  · exact d.frame.each fun t _ _ => d.frame_readUe t _ _

/-- A line that goes to SDI4. -/
theorem lineSent_shows (y : Nat) (s : State) : (lineSent y s).drm.mem = s.drm.mem ∧ (lineSent y s).prv = s.prv ∧
    Stays (fun _ => ()) ([R.TG.CNT_UNDERRUN 1, R.TG.UNDERRUN_LINE 1, R.TG.UNDERRUN_FEED 1] ++ shownFields) s (lineSent y s) ∧
    Output.sdiLine y ((lineSent y s).prvLine y) ∈ (lineSent y s).out := by
  have hr := frame_prvRead readsAlikeReads s y 0 (s.lv (R.TG.ACT_W_M1 1) + 1)
  have hst {fs : List Fld} (hfs : lowFields fs = true) := frame_prvRead (staysDram_low (F := State.prv) (fs := fs) (fun _ _ _ => rfl) (fun _ _ _ => rfl) (fun _ _ => rfl)
    (fun _ _ _ => rfl) hfs).reads s y 0 (s.lv (R.TG.ACT_W_M1 1) + 1)
  have h1 := hst (fs := lineFields) (by decide)
  have h2 := hst (fs := [R.TG.CNT_UNDERRUN 1, R.TG.UNDERRUN_LINE 1, R.TG.UNDERRUN_FEED 1] ++ shownFields) (by decide)
  unfold lineSent
  generalize s.prvRead y 0 (s.lv (R.TG.ACT_W_M1 1) + 1) = u at hr h1 h2
  refine ⟨hr.mem, h1.part, ⟨rfl, h2.rd, h2.pend⟩, ?_⟩
  have hline : (u.emit (.sdiLine y (s.prvLine y))).prvLine y = u.prvLine y := rfl
  rw [hline, prvLine_congr hr h1]
  exact List.mem_append_right _ (List.mem_singleton.mpr rfl)

/-- The line and its underrun. -/
theorem lineTimed_stays (y h : Nat) (late : Bool) (s : State) : Stays (fun s => (s.drm, s.out)) lineFields s (lineTimed y h late s) ∧
    Stays (fun _ => ()) shownFields (lineShown y s) (lineTimed y h late s) := by
  have hf := staysFrame (F := fun s : State => (s.drm, s.out)) (fun _ _ _ => rfl) (shownFields ++ lineFields)
  have hu : Stays (fun s => (s.drm, s.out)) (shownFields ++ lineFields) (lineShown y s) (lineTimed y h late s) := hf.cond fun _ => underrun_stays y _
  have hs := lineShown_stays y s
  refine ⟨⟨hu.part.trans (congrArg Prod.snd hs.part), fun f hf => (hu.rd f (List.mem_append_right _ hf)).trans (hs.rd f (List.mem_cons_of_mem _ hf)),
    fun e he => hu.pend e (hs.pend e he)⟩, ⟨rfl, fun f hf => hu.rd f (List.mem_append_left _ hf), hu.pend⟩⟩

/-- What the sending of the line leaves. -/
theorem sent_keeps (y : Nat) (b : Bool) (s : State) : (s.cond b (lineSent y)).drm.mem = s.drm.mem ∧ (s.cond b (lineSent y)).prv = s.prv ∧
    Stays (fun _ => ()) ([R.TG.CNT_UNDERRUN 1, R.TG.UNDERRUN_LINE 1, R.TG.UNDERRUN_FEED 1] ++ shownFields) s (s.cond b (lineSent y)) := by
  obtain ⟨h1, h2, h3, -⟩ := lineSent_shows y s
  cases b
  · exact ⟨rfl, rfl, rfl, fun _ _ => rfl, fun _ h => h⟩
  · exact ⟨h1, h2, h3⟩

/-- Settles O47: what a line shows stays as it is read for SDI4, and reading leaves what the line is sent from. -/
theorem previewCapturesAndSends : Obligations.PreviewCapturesAndSends := by
  unfold Obligations.PreviewCapturesAndSends
  refine ⟨?_, ?_, ?_⟩
  · intro t0 s hs
    refine ⟨_, rfl, ?_⟩
    rw [cond_of hs]
    exact tgpStartFx_shows (s.atTime t0)
  · intro s hs hcap hline
    refine ⟨_, rfl, ?_⟩
    rw [cond_of (b := s.isSender && s.prv.cap == 2 && decide (s.lv (R.TG.SRC_Y 1) + s.lv (R.TG.SRC_H_M1 1) < s.nextLine (s.lv R.PRV.FEED)))
      (by rw [hs, hcap, decide_eq_true hline]; rfl)]
    exact captureDoneFx_shows s.start
  · intro y late s hs hy
    refine ⟨_, rfl, ?_⟩
    have hy15 : y < 2 ^ 15 := hy.trans (Nat.mod_lt _ (by decide))
    rw [cond_of (b := s.isSender && decide (y < s.lv (R.TG.V_TOTAL 1))) (by rw [hs, decide_eq_true hy]; rfl), tgpLineFx_eq (s := s.start)]
    obtain ⟨h, hh⟩ : ∃ h, h = s.start.lv (R.TG.ACT_H_M1 1) + 1 := ⟨_, rfl⟩
    rw [← hh]
    obtain ⟨hst, hsh⟩ := lineTimed_stays y h late s.start
    obtain ⟨hl, hb, hm⟩ := lineShown_shows (s := s.start) hy15
    have hrun : (lineTimed y h late s.start).flag R.PRV.RUNNING = s.flag R.PRV.RUNNING := congrArg (· != 0) (hst.rd _ (by decide))
    have hsdi : (lineTimed y h late s.start).lvB R.PRV.SDI_EN = s.lvB R.PRV.SDI_EN := congrArg (· != 0) (hst.rd R.PRV.SDI_EN.live (by decide))
    rw [hrun, hsdi]
    obtain ⟨hmem, hprv, hkeep⟩ := sent_keeps y (decide (y < h) && s.flag R.PRV.RUNNING && s.lvB R.PRV.SDI_EN) (lineTimed y h late s.start)
    have hrun0 : (lineShown y s.start).flag R.PRV.RUNNING = s.flag R.PRV.RUNNING := congrArg (· != 0) ((lineShown_stays y s.start).rd _ (by decide))
    have hdrm : (lineTimed y h late s.start).drm = s.drm := (Prod.mk.inj hst.part).1
    have hin {y : Nat} (hle : y ≤ s.lv (R.TG.ACT_H_M1 1)) : decide (y < h) = true := decide_eq_true (by rw [hh]; exact Nat.lt_succ_of_le hle)
    refine ⟨hmem.trans (congrArg DramSt.mem hdrm), (hkeep.rd _ (by decide)).trans ((hsh.rd _ (by decide)).trans hl),
      (hkeep.rd _ (by decide)).trans ((hsh.rd _ (by decide)).trans hb), fun he => hkeep.pend _ (hsh.pend _ (hm he)), ?_, ?_, ?_⟩
    · rintro rfl hle hr
      have hT : lineTimed y h true s.start = underrun y (lineShown y s.start) := by
        unfold lineTimed
        rw [cond_of (by rw [hin hle, hrun0, hr]; rfl)]
      rw [hT] at hkeep hprv ⊢
      obtain ⟨hc, hln, hfd, hp, k, hk⟩ := underrun_shows (hle.trans_lt (Nat.mod_lt _ (by decide))) (lineShown y s.start)
      have hs0 := lineShown_stays y s.start
      refine ⟨(hkeep.rd _ (by decide)).trans (hc.trans (congrArg (fun n => min (n + 1) _) (hs0.rd _ (by decide)))), (hkeep.rd _ (by decide)).trans hln,
        (hkeep.rd _ (by decide)).trans (hfd.trans (hs0.rd R.PRV.FEED.live (by decide))), hkeep.pend _ hp, k, ?_⟩
      exact (congrArg PrvSt.late hprv).trans (hk.trans (congrArg (List.cons _) (congrArg PrvSt.late (Prod.mk.inj hs0.part).1)))
    · rintro rfl
      have hT : lineTimed y h false s.start = lineShown y s.start := cond_of_not rfl _ _
      rw [hT] at hkeep hprv ⊢
      have hs0 := lineShown_stays y s.start
      refine ⟨hprv.trans (Prod.mk.inj hs0.part).1, (hkeep.rd _ (by decide)).trans (hs0.rd _ (by decide)), fun hoff => ?_⟩
      rw [cond_of_not (by rcases hoff with h | h <;> rw [h] <;> simp)]
      exact onlyRegs_trans (onlyRegs_start s) (lineShown_onlyRegs y s.start)
    · intro hle hr hd
      rw [cond_of (by rw [hin hle, hr, hd]; rfl)]
      exact (lineSent_shows y _).2.2.2

end Sys2Proof.Proofs.Preview


/-!
THEOREMS. Layer fences, composed lines, line slots and deadlines (08 R189, R199 to R204). Settles O45.
-/

namespace Sys2Proof.Proofs.LineCompose
open Sys2Proof.Machine Sys2Proof.Laws Sys2Proof.Proofs.Frames Sys2Proof.Proofs.FieldRules Sys2Proof.Proofs.Framing Sys2Proof.Proofs.CoilFrames
  Sys2Proof.Proofs.DramFrames Sys2Proof.Proofs.PageFrames Sys2Proof.Proofs.DramReaders Sys2Proof.Proofs.Surfaces

/-! Fences (R189). -/

/-- The head of the signalled buffers shows. -/
theorem showFence_shows {n : Nat} (hn : n < 16) {s : State} {b t : Nat} {rest : List (Nat × Nat)} (hf : s.fences n = (b, t) :: rest) (hb : b < 4) :
    (s.showFence n).rd (R.LYR.PEND_IDX n) = b ∧ (s.showFence n).rd (R.LYR.PEND_VALID n) = 1 := by
  have hW : ∀ n < 16, apartFrom [R.LYR.PEND_IDX n, R.LYR.PEND_VALID n] R.LSE.ARMED = true := by decide
  have hsep : ∀ n < 16, sep (R.LYR.PEND_IDX n) (R.LYR.PEND_VALID n) = true := by decide
  have hi : ∀ n < 16, FieldRules.fits (R.LYR.PEND_IDX n) = true ∧ FieldRules.fits (R.LYR.PEND_VALID n) = true := by decide
  have h := staysFrame (F := fun _ : State => ()) (fun _ _ _ => rfl) [R.LYR.PEND_IDX n, R.LYR.PEND_VALID n]
  have harmed (u : State) : Stays _ _ u (u.each (List.range 4) (fun s b => s.wr R.LSE.ARMED (withBit (s.rd R.LSE.ARMED) (4 * n + b) (s.windowArmed n b)))) :=
    h.each fun _ _ _ => h.wr _ _ (hW n hn)
  unfold State.showFence
  rw [hf]
  refine ⟨((harmed _).rd _ (by simp)).trans ?_, ((harmed _).rd _ (by simp)).trans ?_⟩
  · refine (rd_wr_sep _ _ (hsep n hn)).trans ((rd_wr_own s b (hi n hn).1).trans (Nat.mod_eq_of_lt ?_))
    exact hb.trans (by decide : 4 < 2 ^ 3)
  · exact (rd_wr_own _ 1 (hi n hn).2).trans rfl

/-- The fence of a host buffer. -/
theorem signalHost_shows {n : Nat} (hn : n < 16) (s : State) {b : Nat} (hb : b < 4) (t : Nat) :
    ((s.signalHost n b t).layer n).host = (b, t) :: (s.layer n).host ∧ ((s.signalHost n b t).layer n).sigs = (s.layer n).sigs ∧
    (s.lv (R.LYR.SRC n) ≠ 1 → (s.signalHost n b t).rd (R.LYR.PEND_IDX n) = b ∧ (s.signalHost n b t).rd (R.LYR.PEND_VALID n) = 1) ∧
    (s.signalHost n b t).drm = s.drm ∧ (s.signalHost n b t).rd (R.LYR.LEASE_IDX n) = s.rd (R.LYR.LEASE_IDX n) := by
  have hmod : (s.modLayer n (fun x => { x with host := (b, t) :: x.host })).layer n = { s.layer n with host := (b, t) :: (s.layer n).host } :=
    smGet_set_same _ _ _ _
  have hlyr : (s.signalHost n b t).layer n = _ := layer_of_lyr (showFence_lyr (s.modLayer n (fun x => { x with host := (b, t) :: x.host })) n) n
  have hW : ∀ n < 16, ∀ f ∈ fenceFields n, apartFrom [R.LYR.LEASE_IDX n] f = true := by decide
  have hst := frame_showFence (staysFrame (F := State.drm) (fun _ _ _ => rfl) [R.LYR.LEASE_IDX n]) (hW n hn)
    (s.modLayer n (fun x => { x with host := (b, t) :: x.host }))
  rw [hlyr, hmod]
  refine ⟨rfl, rfl, fun hsrc => ?_, hst.part, hst.rd _ (List.mem_singleton.mpr rfl)⟩
  refine showFence_shows hn (t := t) (rest := (s.layer n).host) ?_ hb
  exact (if_neg hsrc).trans (congrArg LayerSt.host hmod)

/-! Line slots and the end of the frame (R201, R204). -/

/-- The place of a slot. -/
def placed (y : Nat) (s : State) : State :=
  ((s.wr (R.TG.LINE 0) y).wrB (R.TG.BLANK 0) (decide (canvasH s.lv ≤ y))).cond (y == canvasH s.lv) (fun s => s.raise (R.TG.ev_BLANK_START 0))

theorem placed_canvas (y : Nat) (s : State) : canvasH ((s.wr (R.TG.LINE 0) y).wrB (R.TG.BLANK 0) (decide (canvasH s.lv ≤ y))).lv = canvasH s.lv := by
  unfold canvasH
  refine congrArg (· + 1) ?_
  exact (rd_wr_sep _ _ (by decide)).trans (rd_wr_sep _ _ (by decide))

theorem placed_match (y : Nat) (s : State) : (placed y s).lv (R.TG.LINE_MATCH 0) = s.lv (R.TG.LINE_MATCH 0) := by
  have h := staysFrame (F := fun _ : State => ()) (fun _ _ _ => rfl) [(R.TG.LINE_MATCH 0).live]
  exact (h.trans (h.trans (h.wr s y (by decide)) (h.wrB _ _ (by decide))) (h.cond fun _ => h.raise _ (by decide) (by decide))).rd _ (List.mem_singleton.mpr rfl)

theorem tgwSlotFx_eq (y : Nat) (s : State) :
    tgwSlotFx y s = (placed y s).cond (y == s.lv (R.TG.LINE_MATCH 0)) (fun s => s.raise (R.TG.ev_LINE_MATCH 0)) := by
  have h : tgwSlotFx y s = (((s.wr (R.TG.LINE 0) y).wrB (R.TG.BLANK 0) (decide (canvasH s.lv ≤ y))).cond
      (y == canvasH ((s.wr (R.TG.LINE 0) y).wrB (R.TG.BLANK 0) (decide (canvasH s.lv ≤ y))).lv) (fun s => s.raise (R.TG.ev_BLANK_START 0))).cond
      (y == (((s.wr (R.TG.LINE 0) y).wrB (R.TG.BLANK 0) (decide (canvasH s.lv ≤ y))).cond
        (y == canvasH ((s.wr (R.TG.LINE 0) y).wrB (R.TG.BLANK 0) (decide (canvasH s.lv ≤ y))).lv) (fun s => s.raise (R.TG.ev_BLANK_START 0))).lv (R.TG.LINE_MATCH 0))
      (fun s => s.raise (R.TG.ev_LINE_MATCH 0)) := rfl
  rw [h, placed_canvas]
  change (placed y s).cond (y == (placed y s).lv (R.TG.LINE_MATCH 0)) _ = _
  rw [placed_match]

theorem tgwSlotFx_shows {y : Nat} (hy : y < 2 ^ 15) (s : State) : OnlyRegs s (tgwSlotFx y s) ∧ (tgwSlotFx y s).rd (R.TG.LINE 0) = y ∧
    (tgwSlotFx y s).rd (R.TG.BLANK 0) = b2n (decide (canvasH s.lv ≤ y)) ∧ (y = canvasH s.lv → Pending (tgwSlotFx y s) (R.TG.ev_BLANK_START 0)) ∧
    (y = s.lv (R.TG.LINE_MATCH 0) → Pending (tgwSlotFx y s) (R.TG.ev_LINE_MATCH 0)) ∧
    WordsKept s (tgwSlotFx y s) [(R.TG.LINE 0).key, evtPendKey (R.TG.page 0)] := by
  have h := staysFrame (F := fun _ : State => ()) (fun _ _ _ => rfl) [R.TG.LINE 0, R.TG.BLANK 0]
  have hblank (t : State) (b : Bool) := h.cond (s := t) (b := b) (f := fun s => s.raise (R.TG.ev_BLANK_START 0)) fun _ => h.raise _ (by decide) (by decide)
  have hmatch (t : State) (b : Bool) := h.cond (s := t) (b := b) (f := fun s => s.raise (R.TG.ev_LINE_MATCH 0)) fun _ => h.raise _ (by decide) (by decide)
  rw [tgwSlotFx_eq]
  unfold placed
  have hst := h.trans (hblank ((s.wr (R.TG.LINE 0) y).wrB (R.TG.BLANK 0) (decide (canvasH s.lv ≤ y))) (y == canvasH s.lv)) (hmatch _ (y == s.lv (R.TG.LINE_MATCH 0)))
  refine ⟨?_, (hst.rd _ (by decide)).trans ?_, (hst.rd _ (by decide)).trans ?_, fun he => ?_, fun he => ?_, ?_⟩
  · exact onlyRegs_trans (onlyRegs_trans (onlyRegs_trans (onlyRegs_wr _ _ _) (onlyRegs_wr _ _ _)) (onlyRegs_cond (onlyRegs_raise _ _))) (onlyRegs_cond (onlyRegs_raise _ _))
  · exact (rd_wr_sep _ _ (by decide)).trans ((rd_wr_own _ _ (by decide)).trans (Nat.mod_eq_of_lt hy))
  · exact (rd_wr_own _ _ (by decide)).trans (Nat.mod_eq_of_lt (by cases decide (canvasH s.lv ≤ y) <;> decide))
  · refine (hmatch _ _).pend _ ?_
    rw [cond_of (b := y == canvasH s.lv) (beq_iff_eq.mpr he)]
    exact pending_raise _ (by decide)
  · rw [cond_of (b := y == s.lv (R.TG.LINE_MATCH 0)) (beq_iff_eq.mpr he)]
    exact pending_raise _ (by decide)
  · have hraise (t : State) (b : Bool) (e : Evt) (he : evtPendKey e.page ∈ [(R.TG.LINE 0).key, evtPendKey (R.TG.page 0)]) :
        WordsKept t (t.cond b (fun s => s.raise e)) [(R.TG.LINE 0).key, evtPendKey (R.TG.page 0)] := by
      cases b
      · exact fun _ _ => rfl
      · exact wordsKept_mono (wordsKept_raise t e) fun k hk => by rw [List.mem_singleton.mp hk]; exact he
    refine wordsKept_trans (wordsKept_trans ?_ (hraise _ _ _ (by decide))) (hraise _ _ _ (by decide))
    exact wordsKept_trans (wordsKept_mono (wordsKept_wr s (by decide) y) (by decide)) (wordsKept_mono (wordsKept_wr _ (by decide) _) (by decide))

/-- The end of the frame. -/
theorem compositionDoneFx_shows (s : State) : OnlyRegs s (compositionDoneFx s) ∧ (compositionDoneFx s).rd R.CMP.COMPOSING = 0 ∧
    Counted s (compositionDoneFx s) R.CMP.CNT_FRAMES ∧ Counted s (compositionDoneFx s) (R.TG.CNT_FRAMES 0) ∧
    Pending (compositionDoneFx s) (R.TG.ev_FRAME_DONE 0) := by
  unfold compositionDoneFx
  refine ⟨?_, ?_, ?_, ?_, pending_raise _ (by decide)⟩
  · exact onlyRegs_trans (onlyRegs_trans (onlyRegs_trans (onlyRegs_wr _ _ _) (onlyRegs_inc _ _)) (onlyRegs_inc _ _)) (onlyRegs_raise _ _)
  · exact (rd_raise_sep _ (by decide)).trans ((rd_wr_sep _ _ (by decide)).trans ((rd_wr_sep _ _ (by decide)).trans (rd_wr_own _ _ (by decide))))
  · refine (rd_raise_sep _ (by decide)).trans ((rd_wr_sep _ _ (by decide)).trans ((rd_incBy_same _ rfl rfl 1).trans ?_))
    rw [rd_wr_sep _ _ (by decide)]
  · refine (rd_raise_sep _ (by decide)).trans ((rd_incBy_same _ rfl rfl 1).trans ?_)
    exact congrArg (fun n => min (n + 1) _) ((rd_wr_sep _ _ (by decide)).trans (rd_wr_sep _ _ (by decide)))

/-! What the compositor sees (R186 to R199). -/

/-- Fields below the pages of DRAM's channels, but for those of the redundancy's page. -/
def lowField (f : Fld) : Bool := decide (f.page < 0x0E0 ∧ f.page ≠ 0x090) && inPage f

/-- The compositor sees the same in two states. -/
structure SeesAlike (s t : State) : Prop where
  reads : ReadsAlike s t
  layers : t.lyr = s.lyr
  tables : t.tabs = s.tabs
  fields : ∀ f, lowField f = true → t.rd f = s.rd f

/-- The applied fields of a layer, of its placement in a feed, and those common to all. -/
def layerFields (n f : Nat) : List Fld :=
  [R.LYR.SRC n, R.LYR.SRC_SEL n, R.LYR.HOST_W n, R.LYR.HOST_H n, R.LYR.HOST_STRIDE n, R.LYR.HOST_FMT n, R.LYR.HOST_BASE n, R.LYR.HOST_BUF_STRIDE n,
   R.LYR.HOST_TCS n, R.LYR.HOST_COLOR n, R.LYR.SDR_NITS n, R.LYR.HLG_NITS n, R.LYR.COLOR_R n, R.LYR.COLOR_G n, R.LYR.COLOR_B n, R.LYR.ALPHA_PIX n,
   R.LYR.PATTERN n, R.LYR.PAT_SIZE n, R.LYR.EN n f, R.LYR.SCL_EN n f, R.LYR.SCL n f, R.LYR.DST_X n f, R.LYR.DST_Y n f, R.LYR.DST_W_M1 n f,
   R.LYR.DST_H_M1 n f, R.LYR.SRC_X n f, R.LYR.SRC_Y n f, R.LYR.SRC_W_M1 n f, R.LYR.SRC_H_M1 n f, R.LYR.PHASE_X n f, R.LYR.PHASE_Y n f, R.LYR.ALPHA n f,
   R.CMP.BG_R f, R.CMP.BG_G f, R.CMP.BG_B f, R.CMP.PEAK_NITS, R.CMP.CANVAS_W_M1, R.CMP.CANVAS_H_M1]

/-- The applied fields of a stream source. -/
def sourceFields (k : Nat) : List Fld :=
  [R.STR.KIND k, R.STR.WIDTH k, R.STR.HEIGHT k, R.STR.BUF_BASE k, R.STR.BUF_STRIDE k, R.DEC.SCALE_EN k, R.DEC.OUT_W k, R.DEC.OUT_H k, R.DEC.ROT k]

/-- The applied fields of an SDI receiver. -/
def receiverFields (k : Nat) : List Fld := [R.SDI.WIDTH k, R.SDI.HEIGHT k, R.SDI.BUF_BASE k, R.SDI.BUF_STRIDE k]

section
variable {s t : State} (h : SeesAlike s t)
include h

theorem SeesAlike.layer (n : Nat) : t.layer n = s.layer n := layer_of_lyr h.layers n

theorem SeesAlike.layerFields {n f : Nat} (hn : n < 16) (hf : f < 8) : ∀ g ∈ layerFields n f, t.lv g = s.lv g := by
  have hlow : ∀ n < 16, ∀ f < 8, ∀ g ∈ LineCompose.layerFields n f, lowField g.live = true := by decide +kernel
  exact fun g hg => h.fields _ (hlow n hn f hf g hg)

theorem SeesAlike.sourceFields {k : Nat} (hk : k < 16) : ∀ g ∈ sourceFields k, t.lv g = s.lv g := by
  have hlow : ∀ k < 16, ∀ g ∈ LineCompose.sourceFields k, lowField g.live = true := by decide +kernel
  exact fun g hg => h.fields _ (hlow k hk g hg)

theorem SeesAlike.receiverFields {k : Nat} (hk : k < 16) : ∀ g ∈ receiverFields k, t.lv g = s.lv g := by
  have hlow : ∀ k < 16, ∀ g ∈ LineCompose.receiverFields k, lowField g.live = true := by decide +kernel
  exact fun g hg => h.fields _ (hlow k hk g hg)

theorem SeesAlike.lease {n : Nat} (hn : n < 16) : t.lease n = s.lease n := by
  have hlow : ∀ n < 16, lowField (R.LYR.LEASE_VALID n) = true ∧ lowField (R.LYR.LEASE_IDX n) = true := by decide
  unfold State.lease State.flag
  rw [h.fields _ (hlow n hn).1, h.fields _ (hlow n hn).2]

theorem SeesAlike.tabW : t.tabW = s.tabW := by
  funext p tab i
  unfold State.tabW
  rw [h.tables]

/-- The source of a layer that takes streams: a stream or an SDI receiver. -/
theorem SeesAlike.surface {n : Nat} (hn : n < 16) (b : Nat) :
    pictureSize t.lv n = pictureSize s.lv n ∧ t.surfaceBase (t.lv (R.LYR.SRC_SEL n)) b = s.surfaceBase (s.lv (R.LYR.SRC_SEL n)) b := by
  have hl := h.layerFields hn (f := 0) (by decide)
  simp only [LineCompose.layerFields, List.forall_mem_cons] at hl
  have hk : s.lv (R.LYR.SRC_SEL n) < 32 := Nat.mod_lt _ (Nat.two_pow_pos 5)
  unfold pictureSize State.surfaceBase decSize
  simp only [hl]
  by_cases hs : s.lv (R.LYR.SRC_SEL n) < 16
  · have hsrc := h.sourceFields hs
    simp only [LineCompose.sourceFields, List.forall_mem_cons] at hsrc
    simp only [hs, hsrc, if_true, and_self]
  · have hsrc := h.receiverFields (k := s.lv (R.LYR.SRC_SEL n) - 16) (by omega)
    simp only [LineCompose.receiverFields, List.forall_mem_cons] at hsrc
    simp only [hs, hsrc, if_false, and_self]

theorem SeesAlike.sourcePixel {n : Nat} (hn : n < 16) (x y : Nat) : t.sourcePixel n x y = s.sourcePixel n x y := by
  have hl := h.layerFields hn (f := 0) (by decide)
  simp only [LineCompose.layerFields, List.forall_mem_cons] at hl
  have hsel := (h.surface hn ((s.lease n).getD 0)).2
  rw [hl.2.1] at hsel
  unfold State.sourcePixel State.hostPixel State.window
  simp only [hl, h.lease hn, h.reads.dramBytes, h.reads.slabPixel, (h.surface hn 0).1, hsel]

theorem SeesAlike.layerPixel {n f : Nat} (hn : n < 16) (hf : f < 8) (u v : Nat) : t.layerPixel n f u v = s.layerPixel n f u v := by
  have hl := h.layerFields hn hf
  simp only [LineCompose.layerFields, List.forall_mem_cons] at hl
  have hep : t.epoch = s.epoch := h.fields R.GLB.EPOCH (by decide)
  have hscaled : t.scaledPixel n f u v = s.scaledPixel n f u v := by
    unfold State.scaledPixel State.lvI
    simp only [hl, h.tabW, (h.surface hn 0).1, h.sourcePixel hn]
  unfold State.layerPixel State.lvB
  simp only [hl, hep, h.layer, hscaled, h.sourcePixel hn]

theorem SeesAlike.composePixel {f : Nat} (hf : f < 8) (x y : Nat) : t.composePixel f x y = s.composePixel f x y := by
  have hbg : t.background f = s.background f := by
    have hl := h.layerFields (n := 0) (by decide) hf
    simp only [LineCompose.layerFields, List.forall_mem_cons] at hl
    unfold State.background
    simp only [hl]
  unfold State.composePixel
  rw [hbg]
  refine List.foldl_ext _ _ _ fun acc n hn => ?_
  have hn := List.mem_range.mp hn
  have hl := h.layerFields hn hf
  simp only [LineCompose.layerFields, List.forall_mem_cons] at hl
  unfold covers
  simp only [hl, h.layerPixel hn hf]

end

/-- Clipped samples are counted at one of the eight scalers. -/
theorem clips_lt (s : State) (f x y : Nat) : ∀ c ∈ (s.composePixel f x y).2, c.1 < 8 := by
  unfold State.composePixel
  have hstep : ∀ (ns : List Nat) (acc : Pixel × List (Nat × Nat)), (∀ c ∈ acc.2, c.1 < 8) → ∀ c ∈ (ns.foldl (fun acc n =>
      if covers s.lv n f x y then
        let r := s.layerPixel n f (x - s.lv (R.LYR.DST_X n f)) (y - s.lv (R.LYR.DST_Y n f))
        let clips := if r.2 = 0 then acc.2 else (s.lv (R.LYR.SCL n f), r.2) :: acc.2
        match r.1 with
        | none => (acc.1, clips)
        | some p => (blendPixel acc.1 p (s.lv (R.LYR.ALPHA n f)), clips)
      else acc) acc).2, c.1 < 8 := by
    intro ns
    induction ns with
    | nil => exact fun acc h => h
    | cons n ns ih =>
      intro acc hacc
      refine ih _ ?_
      have hclips : ∀ m : Nat, ∀ c ∈ (if m = 0 then acc.2 else (s.lv (R.LYR.SCL n f), m) :: acc.2), c.1 < 8 := by
        intro m c hc
        split at hc
        · exact hacc c hc
        · rcases List.mem_cons.mp hc with rfl | hc
          · exact Nat.mod_lt _ (Nat.two_pow_pos 3)
          · exact hacc c hc
      dsimp only
      split
      · split <;> exact hclips _
      · exact hacc
  exact hstep _ _ fun c hc => absurd hc (List.not_mem_nil)

/-- A counting of clipped samples is one of scaler counters. -/
theorem frame_countClips {Rel : State → State → Prop} {W : Fld → Bool} {E : Nat → Bool} (h : Frame Rel W E) (hW : ∀ k < 8, W (R.SCL.CNT_CLIP k) = true)
    (s u : State) (f y : Nat) (xs : List Nat) : Rel s (s.countClips (xs.map (fun x => u.composePixel f x y))) := by
  refine h.each fun t c hc => h.incBy t _ (hW _ ?_)
  obtain ⟨p, hp, hc⟩ := List.mem_flatMap.mp hc
  obtain ⟨x, -, rfl⟩ := List.mem_map.mp hp
  exact clips_lt u f x y c hc

/-! What a line that leaves changes. -/

/-- A relation that the records and the flags of the sagger's regions may change under. -/
def SagFree (Rel : State → State → Prop) : Prop := ∀ (s : State) (x : List (Nat × RegSt)) (y : List (Nat × Word32)), Rel s { s with sag := x, imm := y }

/-- Fields that SUSPECT layers and tripped regions show. -/
def tripFields : List Fld := R.SAG.CNT_TRIP :: (List.range 8).map R.SAG.ACTION ++ layerNos.flatMap (fun n => [R.LYR.st_SUSPECT n, R.LYR.CNT_SUSPECT n])

section
variable {Rel : State → State → Prop} {W : Fld → Bool} {E : Nat → Bool} (d : ChRel Rel W E) (hsag : SagFree Rel)
  (hW : ∀ f ∈ tripFields, W f = true) (hE : E 0x05B = true) (hL : ∀ n < 16, E (0x040 + n) = true)
include d hsag

/-- The saved copies that a line takes. -/
theorem frame_readHeld (s : State) (f y : Nat) : Rel s (s.readHeld f y) :=
  d.frame.each fun t _ _ => d.frame.trans (d.frame_readUe t _ _) (d.frame.cond fun _ => hsag _ _ (State.imm _))

include hW hE

theorem frame_showAction {k : Nat} (hk : k < 256) (s : State) : Rel s (s.showAction k) := by
  have hact : W (R.SAG.ACTION (k / 32)) = true := hW _ (by
    refine List.mem_append_left _ (List.mem_cons_of_mem _ (List.mem_map.mpr ⟨k / 32, List.mem_range.mpr (by omega), rfl⟩)))
  unfold State.showAction
  refine d.frame.trans (d.frame.trans (d.frame.trans (d.frame.wr s _ hact) (hsag _ _ _)) (d.frame.cond fun _ => ?_)) (d.frame.level _ _ hE (by decide))
  exact d.frame.raise _ hE (by decide)

theorem frame_trip {ks : List Nat} (hks : ∀ k ∈ ks, k < 256) (s : State) (b : Bool) (counted : List Nat) : Rel s (s.trip ks b counted) := by
  refine d.frame.each fun t k hk => ?_
  have hcount (c : Bool) : Rel t (t.cond c (fun s => s.incRaise R.SAG.CNT_TRIP R.SAG.ev_TRIP)) :=
    d.frame.cond fun _ => d.frame.incRaise t (hW _ (by decide)) hE (by decide)
  have hmod (u : State) (g : RegSt → RegSt) : Rel u (u.modReg k g) := hsag u _ u.imm
  exact d.frame.trans (hcount (!counted.contains k)) (d.frame.trans (hmod _ _) (frame_showAction d hsag hW hE (hks k hk) _))

include hL

/-- The surfaces that a line reads, and what comes of poisoned ones. -/
theorem frame_readLayers (s : State) (f y : Nat) : Rel s (s.readLayers f y) := by
  refine d.frame.each fun t n hn => ?_
  have hn : n < 16 := List.mem_range.mp (List.mem_filter.mp hn).1
  have hin (g : Fld) (hg : g ∈ [R.LYR.st_SUSPECT n, R.LYR.CNT_SUSPECT n]) : W g = true :=
    hW g (List.mem_append_right _ (List.mem_flatMap.mpr ⟨n, List.mem_range.mpr hn, hg⟩))
  refine d.frame.trans (d.frame.each fun u _ _ => d.frame_readUe u _ _) (d.frame.cond fun _ => ?_)
  refine d.frame.trans (d.frame.cond fun _ => ?_) (frame_trip d hsag hW hE (fun k hk => ?_) _ _ _)
  · exact d.frame.trans (d.frame.wr _ _ (hin _ (by simp))) (d.frame.incRaise _ (hin _ (by simp)) (hL n hn) (show 1 < 32 by decide))
  · exact List.mem_range.mp (List.mem_filter.mp hk).1

end

/-- Fields that composition and its faults leave. -/
def keptFields : List Fld := [R.CMP.CANVAS_H_M1.live, R.TG.CNT_UNDERRUN 0, R.TG.UNDERRUN_LINE 0]

/-- The lines of the frame, the tables and those fields stay. -/
abbrev ComposeStays : State → State → Prop := Stays (fun s => (s.cmp, s.tabs)) keptFields

theorem composeDram : DramRel ComposeStays (apartFrom keptFields) (quietFor keptFields) :=
  staysDram_low (fun _ _ _ => rfl) (fun _ _ _ => rfl) (fun _ _ => rfl) (fun _ _ _ => rfl) (by decide)

theorem sagFree_compose : SagFree ComposeStays := fun _ _ _ => .other rfl rfl

theorem readLayers_stays (s : State) (f y : Nat) : ComposeStays s (s.readLayers f y) :=
  frame_readLayers composeDram.reads sagFree_compose (by decide) (by decide) (by decide) s f y

theorem countClips_stays (s u : State) (f y : Nat) (xs : List Nat) : ComposeStays s (s.countClips (xs.map (fun x => u.composePixel f x y))) :=
  frame_countClips composeDram.frame (by decide) s u f y xs

theorem stageLine_stays (s : State) (f y : Nat) (row : List Pixel) : ComposeStays s (s.stageLine f y row) :=
  composeDram.frame.cond fun _ => frame_dramStore composeDram (fun _ _ => .other rfl rfl) s _ _

/-! A line leaves (R204). -/

/-- The fields that the line in work depends on. -/
def workFields : List Fld := (R.CMP.CANVAS_H_M1 :: R.SCH.MODE :: R.SCH.MEAS_SRC :: (List.range 8).map feedMaskF).map Fld.live

theorem lineInWork_congr {s t : State} (hcmp : t.cmp = s.cmp) (h : ∀ f ∈ workFields, t.rd f = s.rd f) : t.lineInWork = s.lineInWork := by
  have hlv {f : Fld} (hf : f.live ∈ workFields) : t.lv f = s.lv f := h _ hf
  have hmasks : masksOf t.lv = masksOf s.lv := by
    unfold masksOf
    exact List.map_congr_left fun n hn => hlv (List.mem_cons_of_mem _ (List.mem_cons_of_mem _ (List.mem_cons_of_mem _
      (List.mem_map_of_mem (f := Fld.live) (List.mem_map_of_mem (f := feedMaskF) hn)))))
  have hfeeds : composedFeeds t.lv = composedFeeds s.lv := by
    unfold composedFeeds tileMeasure feedsOf
    rw [hmasks, hlv (f := R.SCH.MODE) (by decide), hlv (f := R.SCH.MEAS_SRC) (by decide)]
  have hnext : t.nextLine = s.nextLine := by
    funext f
    unfold State.nextLine
    rw [hcmp]
  unfold State.lineInWork canvasH
  rw [hfeeds, hnext, hlv (f := R.CMP.CANVAS_H_M1) (by decide)]

/-- The line is kept as composed and as handed on. -/
def linePut (f y : Nat) (row out : List Pixel) (s : State) : State :=
  { s with cmp := { s.cmp with
    next := smSet (fun _ => 0) s.cmp.next f (y + 1)
    canvas := smSet (fun _ => []) s.cmp.canvas (lineKey f y) row
    outc := smSet (fun _ => []) s.cmp.outc (lineKey f y) out } }

/-- The line in work shows, and the line leaves. -/
def lineSent (f y : Nat) (out : List Pixel) (s : State) : State :=
  (s.wr R.CMP.LINE (min s.lineInWork (s.lv R.CMP.CANVAS_H_M1))).emit (.line f y out)

/-- What the line leaves as, after the actions in force. -/
def handedOn (s : State) (f y : Nat) (row : List Pixel) : List Pixel := (s.readHeld f y).sagLine f y row

theorem lineOut_eq (s : State) (f y : Nat) (row : List Pixel) :
    s.lineOut f y row = lineSent f y (handedOn s f y row) ((linePut f y row (handedOn s f y row) (s.readHeld f y)).stageLine f y (handedOn s f y row)) := rfl

theorem nextLine_put (f y : Nat) (row out : List Pixel) (s : State) (g : Nat) : (linePut f y row out s).nextLine g = if g = f then y + 1 else s.nextLine g := by
  by_cases h : g = f
  · rw [if_pos h, h]
    exact smGet_set_same _ _ _ _
  · rw [if_neg h]
    exact smGet_set_other _ _ _ h

theorem lineSent_shows (f y : Nat) (out : List Pixel) (s : State) : (lineSent f y out s).cmp = s.cmp ∧ (lineSent f y out s).tabs = s.tabs ∧
    Output.line f y out ∈ (lineSent f y out s).out ∧ (lineSent f y out s).rd R.CMP.LINE = min (lineSent f y out s).lineInWork (s.lv R.CMP.CANVAS_H_M1) ∧
    ComposeStays s (lineSent f y out s) := by
  have hst : ComposeStays s (lineSent f y out s) := composeDram.frame.trans (composeDram.frame.wr s (f := R.CMP.LINE) _ (by decide)) (.other rfl rfl)
  have hw : ∀ g ∈ workFields, (lineSent f y out s).rd g = s.rd g :=
    ((staysFrame (F := fun _ : State => ()) (fun _ _ _ => rfl) workFields).wr s (f := R.CMP.LINE) (min s.lineInWork (s.lv R.CMP.CANVAS_H_M1)) (by decide)).rd
  obtain ⟨hcmp, htabs⟩ := Prod.mk.inj hst.part
  refine ⟨hcmp, htabs, List.mem_append_right _ (List.mem_singleton.mpr rfl), ?_, hst⟩
  rw [lineInWork_congr hcmp hw]
  refine (rd_wr_own s _ (by decide)).trans (Nat.mod_eq_of_lt ?_)
  exact (Nat.min_le_right _ _).trans_lt (Nat.mod_lt _ (Nat.two_pow_pos 14))

/-- A line that leaves: the lines of the frame, and what it shows. -/
theorem lineOut_shows (s : State) (f y : Nat) (row : List Pixel) :
    (s.lineOut f y row).cmp = (linePut f y row (handedOn s f y row) s).cmp ∧ (s.lineOut f y row).tabs = s.tabs ∧
    Output.line f y (handedOn s f y row) ∈ (s.lineOut f y row).out ∧
    (s.lineOut f y row).rd R.CMP.LINE = min (s.lineOut f y row).lineInWork (s.lv R.CMP.CANVAS_H_M1) ∧
    Stays (fun _ => ()) keptFields s (s.lineOut f y row) := by
  have hheld : ComposeStays s (s.readHeld f y) := frame_readHeld composeDram.reads sagFree_compose s f y
  have hstage := stageLine_stays (linePut f y row (handedOn s f y row) (s.readHeld f y)) f y (handedOn s f y row)
  rw [lineOut_eq]
  obtain ⟨hcmp, htabs, hout, hline, hsent⟩ := lineSent_shows f y (handedOn s f y row) ((linePut f y row (handedOn s f y row) (s.readHeld f y)).stageLine f y (handedOn s f y row))
  obtain ⟨hcmp1, htabs1⟩ := Prod.mk.inj hheld.part
  obtain ⟨hcmp2, htabs2⟩ := Prod.mk.inj hstage.part
  refine ⟨hcmp.trans (hcmp2.trans ?_), htabs.trans (htabs2.trans htabs1), hout, hline.trans ?_,
    ⟨rfl, fun g hg => (hsent.rd g hg).trans ((hstage.rd g hg).trans (hheld.rd g hg)), fun e he => hsent.pend e (hstage.pend e (hheld.pend e he))⟩⟩
  · unfold linePut
    rw [hcmp1]
  · exact congrArg (min _) ((hstage.rd _ (show R.CMP.CANVAS_H_M1.live ∈ keptFields by decide)).trans (hheld.rd _ (by decide)))

/-! Sound DRAM (14 R385). -/

/-- Without a poisoned word, writes leave none and send nothing. -/
def Unpoisoned (s t : State) : Prop := s.drm.poison = [] → t.drm.poison = [] ∧ t.out = s.out

theorem unpoisonedFrame : Frame Unpoisoned (fun _ => true) (fun _ => true) where
  refl _ hp := ⟨hp, rfl⟩
  trans h h' hp := ⟨(h' (h hp).1).1, (h' (h hp).1).2.trans (h hp).2⟩
  wr s _ v _ hp := ⟨by rw [wr_drm]; exact hp, wr_out _ _ _⟩
  raise s _ _ _ hp := ⟨by rw [raise_drm]; exact hp, raise_out _ _⟩
  level s _ _ _ _ hp := ⟨by rw [level_drm]; exact hp, level_out _ _ _⟩

theorem unpoisoned_ch : ChFree Unpoisoned := fun _ _ _ _ hp => ⟨hp, rfl⟩

theorem unpoisoned_clean (s : State) (ws : List Nat) : Unpoisoned s (s.cleanWords ws) := fun hp => ⟨by
  show (s.drm.poison.filter _ : List Nat) = []
  rw [hp]
  rfl, rfl⟩

/-- The line that a read-modify-write merges. -/
def merged (c line : Nat) (s : State) : State :=
  ((s.checkLine c line).1.cleanWords ((List.range 8).map (8 * line + ·))).cond (s.checkLine c line).2
    (fun s => { s with drm := { s.drm with poison := s.drm.poison ++ (List.range 8).map (8 * line + ·) } })

theorem unpoisoned_merged (c line : Nat) (s : State) : Unpoisoned s (merged c line s) := by
  intro hp
  have hc : Unpoisoned s (s.cond ((s.weakWords line).length != 0) (fun u => (u.incBy (R.DRM.CNT_CE c) (s.weakWords line).length).raise (R.DRM.ev_CE c))) :=
    unpoisonedFrame.cond fun _ => unpoisonedFrame.trans (unpoisonedFrame.incBy s _ rfl) (unpoisonedFrame.raise _ rfl (show 0 < 32 by decide))
  have hcheck : s.checkLine c line = (s.cond ((s.weakWords line).length != 0) (fun u => (u.incBy (R.DRM.CNT_CE c) (s.weakWords line).length).raise (R.DRM.ev_CE c)), false) := by
    unfold State.checkLine
    simp only [(hc hp).1, HostDram.linePoisoned_nil, Bool.false_eq_true, if_false]
  unfold merged
  rw [hcheck]
  exact ⟨(unpoisoned_clean _ _ (hc hp).1).1, (hc hp).2⟩

theorem unpoisoned_writePart (s : State) (p : Nat × Nat × Nat) : Unpoisoned s (s.writePart p) := by
  have h := unpoisonedFrame
  have hmerge (u : State) (c line : Nat) : Unpoisoned u (merged c line ((u.inc (R.DRM.CNT_RMW c)).useLine c line false)) :=
    h.trans (h.trans (h.inc u rfl) (frame_useLine unpoisoned_ch _ _ _ _)) (unpoisoned_merged _ _ _)
  unfold State.writePart
  simp only
  refine h.ite (fun _ => h.refl s) fun _ => h.trans (frame_queued h unpoisoned_ch s _ _ _) (h.ite (fun _ => unpoisoned_clean _ _) fun _ => ?_)
  exact hmerge _ _ _

theorem unpoisoned_dramStore (s : State) (off : Nat) (data : List Byte) : Unpoisoned s (s.dramStore off data) := by
  have h := unpoisonedFrame
  have hstore (t : State) (p : Nat × Nat × Nat) : Unpoisoned t (t.storePart off data p) := by
    unfold State.storePart
    exact h.ite (fun _ => h.refl t) fun _ hp => ⟨hp, rfl⟩
  unfold State.dramStore
  refine h.ite (fun _ => h.refl s) fun _ => h.ite (fun _ => h.incRaise s rfl rfl (by decide)) fun _ => ?_
  exact h.each fun t p _ => h.trans (hstore t p) (unpoisoned_writePart _ p)

/-- What reads leave while DRAM is sound. -/
def readKept (s : State) : List (Nat × LayerSt) × List (Nat × Word32) × List (Nat × RegSt) × CmpSt × List Output :=
  (s.lyr, s.tabs, s.sag, s.cmp, s.out)

/-- A read in sound DRAM. -/
structure SoundRead (s t : State) : Prop extends SeesAlike s t where
  kept : readKept t = readKept s

theorem SoundRead.refl (s : State) : SoundRead s s := ⟨⟨readsAlikeFrame.refl s, rfl, rfl, fun _ _ => rfl⟩, rfl⟩

theorem SoundRead.trans {s t u : State} (h : SoundRead s t) (h' : SoundRead t u) : SoundRead s u :=
  ⟨⟨readsAlikeFrame.trans h.reads h'.reads, h'.layers.trans h.layers, h'.tables.trans h.tables, fun f hf => (h'.fields f hf).trans (h.fields f hf)⟩,
    h'.kept.trans h.kept⟩

theorem soundDram_congr {s t : State} (h : ReadsAlike s t) : t.soundDram = s.soundDram := by
  unfold State.soundDram State.channels
  simp only [h.poison, h.chans, h.fault]

theorem unsound_of_sound {s : State} (h : s.soundDram = true) (a n : Nat) : s.unsound a n = false := by
  unfold State.unsound State.unsoundParts
  rw [h]
  rfl

theorem soundRead_readUe {s : State} (h : s.soundDram = true) (a n : Nat) : SoundRead s (s.readUe a n) := by
  have hkept : readKept (s.readUe a n) = readKept s := frame_soundRead (partFrame (F := readKept) fun _ _ _ => rfl) (fun _ _ _ _ => rfl) (fun _ => rfl)
    (fun _ => rfl) rfl (fun _ => rfl) (unsound_of_sound h a n)
  refine ⟨⟨readsAlikeReads.frame_readUe s a n, congrArg Prod.fst hkept, congrArg (fun x => x.2.1) hkept, fun f hf => ?_⟩, hkept⟩
  have hlow : lowFields [f] = true := by
    unfold lowFields
    rw [List.all_cons, List.all_nil, Bool.and_true]
    exact hf
  exact ((staysDram_low (F := fun _ : State => ()) (fun _ _ _ => rfl) (fun _ _ _ => rfl) (fun _ _ => rfl) (fun _ _ _ => rfl) hlow).reads.frame_readUe s a n).rd f
    (List.mem_singleton.mpr rfl)

/-- Reads in sound DRAM, one after another, with what each finds poisoned left out. -/
theorem soundRead_each {α : Type} {f : State → α → State} (hf : ∀ s x, s.soundDram = true → SoundRead s (f s x)) {s : State} (h : s.soundDram = true) (xs : List α) :
    SoundRead s (s.each xs f) :=
  each_keeps (P := SoundRead s) xs (fun t x ht => ht.trans (hf t x ((soundDram_congr ht.reads).trans h))) (.refl s)

theorem soundRead_layers {s : State} (h : s.soundDram = true) (f y : Nat) : SoundRead s (s.readLayers f y) := by
  refine soundRead_each (fun t n ht => ?_) h _
  have hbad : (t.layerReads n f y).any (fun r => t.unsound r.1 r.2) = false := List.any_eq_false.mpr fun r _ => by rw [unsound_of_sound ht]; decide
  dsimp only
  rw [hbad]
  exact soundRead_each (fun u r hu => soundRead_readUe hu _ _) ht _

theorem soundRead_held {s : State} (h : s.soundDram = true) (f y : Nat) : SoundRead s (s.readHeld f y) := by
  refine soundRead_each (fun t x ht => ?_) h _
  rw [unsound_of_sound ht]
  exact soundRead_readUe ht _ _

/-- The line after the actions in force follows the regions and the saved copies. -/
theorem sagLine_congr {s t : State} (h : ReadsAlike s t) (htabs : t.tabs = s.tabs) (hsag : t.sag = s.sag) (hbase : t.lv R.SAG.SAVE_BASE = s.lv R.SAG.SAVE_BASE)
    (f y : Nat) (row : List Pixel) : t.sagLine f y row = s.sagLine f y row := by
  have htab : t.tabW = s.tabW := by
    funext p tab i
    unfold State.tabW
    rw [htabs]
  have hreg : t.region = s.region := by
    funext k
    unfold State.region
    rw [htab]
  have hst : t.regSt = s.regSt := by
    funext k
    unfold State.regSt
    rw [hsag]
  have hact : t.actionPixel = s.actionPixel := by
    funext k x y
    unfold State.actionPixel State.holdBase
    simp only [hreg, hst, htab, hbase, h.dramBytes]
  unfold State.sagLine
  simp only [hreg, hst, hact]

/-! A composed line (R202, R204). -/

/-- The pixels of the line, with the clipped samples. -/
def composed (f y : Nat) (s : State) : List (Pixel × List (Nat × Nat)) := (List.range (canvasW s.lv)).map (fun x => s.composePixel f x y)

/-- The line has been composed. -/
def lineComposed (f y : Nat) (s : State) : State := (s.readLayers f y).countClips (composed f y (s.readLayers f y))

theorem lineComposedFx_eq (f y : Nat) (s : State) :
    lineComposedFx y f s = (lineComposed f y s).lineOut f y ((composed f y (s.readLayers f y)).map Prod.fst) := rfl

theorem lineComposed_stays (f y : Nat) (s : State) : ComposeStays s (lineComposed f y s) :=
  composeDram.frame.trans (readLayers_stays s f y) (countClips_stays _ _ f y _)

/-- A composed line in sound DRAM. -/
theorem lineComposed_sound {f : Nat} (hf : f < 8) (y : Nat) {s : State} (h : s.soundDram = true) :
    (composed f y (s.readLayers f y)).map Prod.fst = (List.range (canvasW s.lv)).map (fun x => (s.composePixel f x y).1) ∧
    ReadsAlike s (lineComposed f y s) ∧ readKept (lineComposed f y s) = readKept s ∧ (lineComposed f y s).lv R.SAG.SAVE_BASE = s.lv R.SAG.SAVE_BASE := by
  have hr := soundRead_layers h f y
  have hw : canvasW (s.readLayers f y).lv = canvasW s.lv := congrArg (· + 1) (hr.fields R.CMP.CANVAS_W_M1.live (by decide))
  refine ⟨?_, ?_, ?_, ?_⟩
  · unfold composed
    rw [hw, List.map_map]
    exact List.map_congr_left fun x _ => congrArg Prod.fst (hr.composePixel hf x y)
  · exact readsAlikeFrame.trans hr.reads (frame_countClips readsAlikeFrame (by decide) _ _ f y _)
  · exact (frame_countClips (partFrame (F := readKept) fun _ _ _ => rfl) (fun _ _ => rfl) _ _ f y _).trans hr.kept
  · refine ((frame_countClips (staysFrame (F := fun _ : State => ()) (fun _ _ _ => rfl) [R.SAG.SAVE_BASE.live]) (by decide) _ _ f y _).rd _
      (List.mem_singleton.mpr rfl)).trans (hr.fields _ (by decide))

/-- A line that leaves in sound DRAM. -/
theorem lineOut_sound {s : State} (h : s.soundDram = true) (f y : Nat) (row : List Pixel) :
    handedOn s f y row = s.sagLine f y row ∧ (s.lineOut f y row).out = s.out ++ [.line f y (s.sagLine f y row)] ∧ (s.lineOut f y row).lyr = s.lyr := by
  have hr := soundRead_held h f y
  have hsag : handedOn s f y row = s.sagLine f y row := sagLine_congr hr.reads hr.tables (congrArg (fun x => x.2.2.1) hr.kept) (hr.fields _ (by decide)) f y row
  have hpoison : s.drm.poison = [] := by
    unfold State.soundDram at h
    rw [Bool.and_eq_true] at h
    exact List.isEmpty_iff.mp h.1
  rw [lineOut_eq, hsag]
  generalize s.sagLine f y row = out
  have hstage : Unpoisoned (linePut f y row out (s.readHeld f y)) ((linePut f y row out (s.readHeld f y)).stageLine f y out) :=
    unpoisonedFrame.cond fun _ => unpoisoned_dramStore _ _ _
  have hlyr : ((linePut f y row out (s.readHeld f y)).stageLine f y out).lyr = (linePut f y row out (s.readHeld f y)).lyr := by
    have d := staysDram_low (F := State.lyr) (fs := []) (fun _ _ _ => rfl) (fun _ _ _ => rfl) (fun _ _ => rfl) (fun _ _ _ => rfl) rfl
    exact (d.frame.cond fun _ => frame_dramStore d (fun _ _ => .other rfl rfl) _ _ _).part
  refine ⟨rfl, ?_, ?_⟩
  · show (State.wr _ _ _).out ++ [Output.line f y out] = _
    rw [wr_out, (hstage (hr.reads.poison.trans hpoison)).2]
    exact congrArg (· ++ _) (congrArg (fun x => x.2.2.2.2) hr.kept)
  · exact (wr_lyr _ _ _).trans (hlyr.trans (congrArg Prod.fst hr.kept))

theorem composedFeeds_le (g : Cfg) : composedFeeds g ≤ 8 := by
  unfold composedFeeds feedsOf masksOf
  split
  · exact Nat.zero_le _
  · exact (List.length_filter_le _ _).trans (by simp)

/-! A line at its deadline (R202). -/

/-- What had been composed of a late line. -/
def partComposed (f y n : Nat) (s : State) : State :=
  let u := s.cond (n != 0) (fun s => s.readLayers f y)
  u.countClips ((List.range n).map (fun x => u.composePixel f x y))

/-- The underrun is counted, with its line and feed. -/
def underrun (f y : Nat) (s : State) : State :=
  let u := ((s.incRaise (R.TG.CNT_UNDERRUN 0) (R.TG.ev_UNDERRUN 0)).wr (R.TG.UNDERRUN_LINE 0) y).wr (R.TG.UNDERRUN_FEED 0) f
  { u with cmp := { u.cmp with filled := true } }

/-- A late line leaves as some row. -/
theorem fillLine_eq (s : State) (y f : Nat) : ∃ n row, s.fillLine y f = (underrun f y (partComposed f y n s.fresh.2)).lineOut f y row :=
  ⟨_, _, rfl⟩

theorem partComposed_stays (f y n : Nat) (s : State) : ComposeStays s (partComposed f y n s) :=
  composeDram.frame.trans (composeDram.frame.cond fun _ => readLayers_stays s f y) (countClips_stays _ _ f y _)

theorem underrun_shows {y : Nat} (hy : y < 2 ^ 14) (f : Nat) (s : State) : Counted s (underrun f y s) (R.TG.CNT_UNDERRUN 0) ∧
    (underrun f y s).rd (R.TG.UNDERRUN_LINE 0) = y ∧ Pending (underrun f y s) (R.TG.ev_UNDERRUN 0) ∧ (underrun f y s).cmp.filled = true ∧
    (underrun f y s).nextLine = s.nextLine := by
  refine ⟨?_, ?_, ?_, rfl, ?_⟩
  · exact (rd_wr_sep _ _ (by decide)).trans ((rd_wr_sep _ _ (by decide)).trans ((rd_raise_sep _ (by decide)).trans (counted_inc s rfl rfl)))
  · exact (rd_wr_sep _ _ (by decide)).trans ((rd_wr_own _ _ (by decide)).trans (Nat.mod_eq_of_lt hy))
  · exact pending_wr (pending_wr (pending_raise _ (by decide)) _ (by decide)) _ (by decide)
  · have hcmp := (partFrame (F := State.cmp) fun _ _ _ => rfl)
    have h : (((s.incRaise (R.TG.CNT_UNDERRUN 0) (R.TG.ev_UNDERRUN 0)).wr (R.TG.UNDERRUN_LINE 0) y).wr (R.TG.UNDERRUN_FEED 0) f).cmp = s.cmp :=
      hcmp.trans (hcmp.trans (hcmp.incRaise s rfl rfl (by decide)) (hcmp.wr _ _ rfl)) (hcmp.wr _ _ rfl)
    funext g
    exact congrArg (fun c : CmpSt => smGet (fun _ => 0) ({ c with filled := true } : CmpSt).next g) h

/-- An underrun of the line shows. -/
def Noted (y : Nat) (s : State) : Prop := s.cmp.filled = true ∧ Pending s (R.TG.ev_UNDERRUN 0) ∧ s.rd (R.TG.UNDERRUN_LINE 0) = y

theorem fillLine_shows {y : Nat} (hy : y < 2 ^ 14) (f : Nat) (s : State) : Counted s (s.fillLine y f) (R.TG.CNT_UNDERRUN 0) ∧ Noted y (s.fillLine y f) ∧
    ∀ g, (s.fillLine y f).nextLine g = if g = f then y + 1 else s.nextLine g := by
  obtain ⟨n, row, h⟩ := fillLine_eq s y f
  have hp := partComposed_stays f y n s.fresh.2
  obtain ⟨hc, hline, hpend, hfill, hnext⟩ := underrun_shows hy f (partComposed f y n s.fresh.2)
  obtain ⟨hcmp, -, -, -, hst⟩ := lineOut_shows (underrun f y (partComposed f y n s.fresh.2)) f y row
  rw [h]
  refine ⟨(hst.rd _ (by decide)).trans (hc.trans (congrArg (fun n => min (n + 1) _) (hp.rd _ (by decide)))),
    ⟨(congrArg CmpSt.filled hcmp).trans hfill, hst.pend _ hpend, (hst.rd _ (by decide)).trans hline⟩, fun g => ?_⟩
  refine (congrArg (fun c : CmpSt => smGet (fun _ => 0) c.next g) hcmp).trans ((nextLine_put f y row _ _ g).trans ?_)
  rw [hnext]
  exact congrArg (fun n : Nat => if g = f then y + 1 else n) (congrArg (fun c : CmpSt => smGet (fun _ => 0) c.next g) (Prod.mk.inj hp.part).1)

/-- Every feed whose line is late has it filled once. -/
theorem fillLines_shows {y : Nat} {fs : List Nat} (hy : ∀ f ∈ fs, y < 2 ^ 14) (s : State) :
    (s.each fs (fun s f => s.fillLine y f)).rd (R.TG.CNT_UNDERRUN 0) = min (s.rd (R.TG.CNT_UNDERRUN 0) + fs.length) 0xFFFFFFFF ∧
    (∀ g, (s.each fs (fun s f => s.fillLine y f)).nextLine g = if g ∈ fs then y + 1 else s.nextLine g) ∧
    (fs ≠ [] ∨ Noted y s → Noted y (s.each fs (fun s f => s.fillLine y f))) := by
  induction fs generalizing s with
  | nil =>
    have hlt : s.rd (R.TG.CNT_UNDERRUN 0) < 2 ^ 32 := Nat.mod_lt _ (Nat.two_pow_pos 32)
    refine ⟨(Nat.min_eq_left (Nat.le_of_lt_succ hlt)).symm, fun g => by simp [State.each], fun h => ?_⟩
    exact h.elim (fun h => absurd rfl h) id
  | cons f fs ih =>
    obtain ⟨hc, hn, hnext⟩ := fillLine_shows (hy f List.mem_cons_self) f s
    obtain ⟨hc', hnext', hn'⟩ := ih (fun g hg => hy g (List.mem_cons_of_mem _ hg)) (s.fillLine y f)
    refine ⟨hc'.trans ?_, fun g => (hnext' g).trans ?_, fun _ => hn' (.inr hn)⟩
    · rw [hc, List.length_cons]
      omega
    · rw [hnext g]
      by_cases hg : g = f
      · simp [hg]
      · simp [hg]

/-- What a composed line leaves as. -/
theorem lineComposedFx_shows {f : Nat} (hf : f < 8) (y : Nat) (s : State) : (lineComposedFx y f s).nextLine f = y + 1 ∧
    (∀ g, g ≠ f → (lineComposedFx y f s).nextLine g = s.nextLine g) ∧ Output.line f y ((lineComposedFx y f s).outLine f y) ∈ (lineComposedFx y f s).out ∧
    (lineComposedFx y f s).rd R.CMP.LINE = min (lineComposedFx y f s).lineInWork (s.lv R.CMP.CANVAS_H_M1) ∧ (lineComposedFx y f s).tabs = s.tabs ∧
    (s.soundDram = true → (lineComposedFx y f s).rawLine f y = (List.range (canvasW s.lv)).map (fun x => (s.composePixel f x y).1) ∧
      (lineComposedFx y f s).outLine f y = s.sagLine f y ((List.range (canvasW s.lv)).map (fun x => (s.composePixel f x y).1)) ∧
      (lineComposedFx y f s).out = s.out ++ [.line f y (s.sagLine f y ((List.range (canvasW s.lv)).map (fun x => (s.composePixel f x y).1)))] ∧
      (lineComposedFx y f s).lyr = s.lyr) := by
  have hcomp := lineComposed_stays f y s
  obtain ⟨hcmp, htabs⟩ := Prod.mk.inj hcomp.part
  rw [lineComposedFx_eq]
  obtain ⟨row, hrow⟩ : ∃ row, row = (composed f y (s.readLayers f y)).map Prod.fst := ⟨_, rfl⟩
  rw [← hrow]
  obtain ⟨hput, htab, hout, hline, -⟩ := lineOut_shows (lineComposed f y s) f y row
  have hnext (g : Nat) : ((lineComposed f y s).lineOut f y row).nextLine g = if g = f then y + 1 else s.nextLine g :=
    (congrArg (fun c : CmpSt => smGet (fun _ => 0) c.next g) hput).trans ((nextLine_put f y row _ _ g).trans
      (congrArg (fun n : Nat => if g = f then y + 1 else n) (congrArg (fun c : CmpSt => smGet (fun _ => 0) c.next g) hcmp)))
  have hraw : ((lineComposed f y s).lineOut f y row).rawLine f y = row :=
    (congrArg (fun c : CmpSt => smGet (fun _ => []) c.canvas (lineKey f y)) hput).trans (smGet_set_same _ _ _ _)
  have hoc : ((lineComposed f y s).lineOut f y row).outLine f y = handedOn (lineComposed f y s) f y row :=
    (congrArg (fun c : CmpSt => smGet (fun _ => []) c.outc (lineKey f y)) hput).trans (smGet_set_same _ _ _ _)
  refine ⟨(hnext f).trans (if_pos rfl), fun g hg => (hnext g).trans (if_neg hg), by rw [hoc]; exact hout, hline.trans ?_, htab.trans htabs, fun hsound => ?_⟩
  · exact congrArg (min _) (hcomp.rd _ (show R.CMP.CANVAS_H_M1.live ∈ keptFields by decide))
  obtain ⟨hpx, hreads, hkept, hbase⟩ := lineComposed_sound hf y hsound
  obtain ⟨hhand, hall, hlyr⟩ := lineOut_sound ((soundDram_congr hreads).trans hsound) f y row
  have hsag : (lineComposed f y s).sagLine f y row = s.sagLine f y row :=
    sagLine_congr hreads (congrArg (fun x => x.2.1) hkept) (congrArg (fun x => x.2.2.1) hkept) hbase f y row
  have houts : (lineComposed f y s).out = s.out := congrArg (fun x => x.2.2.2.2) hkept
  rw [hraw, hoc, hhand, hall, hsag, houts, ← hrow.trans hpx]
  exact ⟨rfl, rfl, rfl, hlyr.trans (congrArg Prod.fst hkept)⟩

/-- Settles O45: the compositor reads the same before and after it has read a line's surfaces from sound DRAM, and what a line changes as it leaves
    is said once, for composed and for filled lines. -/
theorem layersSignalAndLinesCompose : Obligations.LayersSignalAndLinesCompose := by
  unfold Obligations.LayersSignalAndLinesCompose
  refine ⟨?_, ?_, ?_, ?_, ?_⟩
  · intro n t0 v s hs hn
    have hb : fieldOf v 0 2 < 4 := Nat.mod_lt _ (Nat.two_pow_pos 2)
    refine ⟨fun hle => ⟨_, rfl, ?_⟩, fun hlt => ⟨_, rfl, ?_⟩⟩
    · rw [cond_of (b := s.isSender && decide (n < 16)) (by rw [hs, decide_eq_true hn]; rfl)]
      rw [show layerReadyFx n v (s.atTime t0) = (s.atTime t0).signalHost n (fieldOf v 0 2) (s.atTime t0).time from
        cond_of (b := decide (fieldOf v 0 2 ≤ s.lv (R.LYR.BUF_COUNT n))) (decide_eq_true hle) (s.atTime t0) (fun s => s.signalHost n (fieldOf v 0 2) s.time)]
      exact signalHost_shows hn (s.atTime t0) hb _
    · rw [cond_of (b := s.isSender && decide (n < 16)) (by rw [hs, decide_eq_true hn]; rfl)]
      rw [show layerReadyFx n v (s.atTime t0) = s.atTime t0 from
        cond_of_not (b := decide (fieldOf v 0 2 ≤ s.lv (R.LYR.BUF_COUNT n))) (decide_eq_false (Nat.not_le.mpr hlt)) (s.atTime t0) (fun s => s.signalHost n (fieldOf v 0 2) s.time)]
      rfl
  · intro y f s hdue
    refine ⟨_, rfl, ?_⟩
    rw [cond_of hdue]
    have hf : f < 8 := by
      unfold State.lineDue State.lineNext at hdue
      simp only [Bool.and_eq_true, decide_eq_true_eq] at hdue
      exact hdue.1.1.1.2.1.trans_le (composedFeeds_le _)
    have hpx : (fun x => (s.start.composePixel f x y).1) = fun x => (s.composePixel f x y).1 :=
      funext fun x => congrArg Prod.fst (SeesAlike.composePixel (s := s) (t := s.start) ⟨⟨rfl, rfl, rfl, fun _ => rfl, fun _ => rfl, rfl⟩, rfl, rfl, fun _ _ => rfl⟩ hf x y)
    have hsag (row : List Pixel) : s.start.sagLine f y row = s.sagLine f y row :=
      sagLine_congr ⟨rfl, rfl, rfl, fun _ => rfl, fun _ => rfl, rfl⟩ rfl rfl rfl f y row
    obtain ⟨h1, h2, h3, h4, h5, h6⟩ := lineComposedFx_shows hf y s.start
    refine ⟨h1, h2, h3, h4, h5, fun hsound => ?_⟩
    obtain ⟨g1, g2, g3, g4⟩ := h6 hsound
    rw [hpx] at g1 g2 g3
    rw [hsag] at g2 g3
    exact ⟨g1, g2, g3, g4⟩
  · intro y s hs
    refine ⟨_, rfl, ?_⟩
    rw [cond_of hs]
    have hdue : ∀ f ∈ (List.range (composedFeeds s.lv)).filter (fun f => s.lineNext y f), y < 2 ^ 14 := by
      intro f hf
      have h := (List.mem_filter.mp hf).2
      unfold State.lineNext at h
      simp only [Bool.and_eq_true, decide_eq_true_eq] at h
      exact h.1.2.2.trans_le (Nat.mod_lt _ (Nat.two_pow_pos 14))
    obtain ⟨h1, h2, h3⟩ := fillLines_shows hdue s.start
    exact ⟨h1, h2, fun hne => h3 (.inl hne)⟩
  · intro y t0 s hs ht hy
    refine ⟨_, rfl, ?_⟩
    rw [cond_of (b := s.isSender && s.frm.ticked && decide (y < s.lv (R.TG.V_TOTAL 0))) (by rw [hs, ht, decide_eq_true hy]; rfl)]
    obtain ⟨h1, h2⟩ := tgwSlotFx_shows (hy.trans (Nat.mod_lt _ (Nat.two_pow_pos 15))) (s.atTime t0)
    exact ⟨onlyRegs_trans (onlyRegs_atTime s t0) h1, h2⟩
  · intro s hs hcomp hall
    refine ⟨_, rfl, ?_⟩
    rw [cond_of (b := s.isSender && s.flag R.CMP.COMPOSING && (List.range (composedFeeds s.lv)).all (fun f => s.nextLine f == canvasH s.lv))
      (by rw [hs, hcomp, List.all_eq_true.mpr fun f hf => beq_iff_eq.mpr (hall f (List.mem_range.mp hf))]; rfl)]
    obtain ⟨h1, h2⟩ := compositionDoneFx_shows s.start
    exact ⟨onlyRegs_trans (onlyRegs_start s) h1, h2⟩

end Sys2Proof.Proofs.LineCompose


/-!
THEOREMS. Host queues and the timestamp queue (04 R113, R114, R118; 06 R140, R142, R155). Settles O41.
-/

namespace Sys2Proof.Proofs.HostQueues
open Sys2Proof.Machine Sys2Proof.Laws Sys2Proof.Proofs.Frames Sys2Proof.Proofs.FieldRules Sys2Proof.Proofs.Framing Sys2Proof.Proofs.CoilFrames
  Sys2Proof.Proofs.DramFrames Sys2Proof.Proofs.PageFrames Sys2Proof.Proofs.DramReaders Sys2Proof.Proofs.NetPorts Sys2Proof.Proofs.LineCompose

/-! The timestamp queue (R113, R118). -/

/-- What the levels of the queue show of it. -/
theorem tsqLevels_shows {s : State} (h : s.net.tsq.length ≤ 64) : s.tsqLevels.rd R.TSQ.LEVEL = s.net.tsq.length ∧
    s.tsqLevels.raw R.TSQ.ev_NONEMPTY = decide (0 < s.net.tsq.length) := by
  unfold State.tsqLevels
  simp only
  refine ⟨?_, ?_⟩
  · refine (rd_level_sep _ (by decide) (by decide)).trans ((rd_level_sep _ (by decide) (by decide)).trans ((rd_wr_own s _ (by decide)).trans ?_))
    exact Nat.mod_eq_of_lt (h.trans_lt (by decide))
  · refine (raw_level_ne _ (e := R.TSQ.ev_HIGH) (by decide) (by decide) _).trans ((raw_level _ (by decide) _).trans ?_)
    cases s.net.tsq.length <;> rfl

theorem tsqLevels_net (s : State) : s.tsqLevels.net = s.net := by
  have h := partFrame (F := State.net) fun _ _ _ => rfl
  exact h.trans (h.trans (h.wr s _ rfl) (h.level _ _ rfl (by decide))) (h.level _ _ rfl (by decide))

theorem tsqLevels_stays {fs : List Fld} (hw : apartFrom fs R.TSQ.LEVEL = true) (hq : quietFor fs 0x008 = true) (s : State) :
    Stays (fun s => (s.net, s.out, s.drm)) fs s s.tsqLevels := by
  have h := staysFrame (F := fun s : State => (s.net, s.out, s.drm)) (fun _ _ _ => rfl) fs
  exact h.trans (h.trans (h.wr s _ hw) (h.level (e := R.TSQ.ev_NONEMPTY) _ _ hq (by decide))) (h.level (e := R.TSQ.ev_HIGH) _ _ hq (by decide))

/-- The queue after entries have left. -/
theorem tsqTaken (s : State) {q : List TsEntry} (hq : q.length ≤ 64) :
    (State.tsqLevels { s with net := { s.net with tsq := q } }).net = { s.net with tsq := q } ∧
    (State.tsqLevels { s with net := { s.net with tsq := q } }).rd R.TSQ.LEVEL = q.length ∧
    (State.tsqLevels { s with net := { s.net with tsq := q } }).raw R.TSQ.ev_NONEMPTY = decide (0 < q.length) ∧
    (State.tsqLevels { s with net := { s.net with tsq := q } }).rd R.TSQ.OVF = s.rd R.TSQ.OVF := by
  obtain ⟨h1, h2⟩ := tsqLevels_shows (s := { s with net := { s.net with tsq := q } }) hq
  exact ⟨tsqLevels_net _, h1, h2, (tsqLevels_stays (fs := [R.TSQ.OVF]) (by decide) (by decide) _).rd R.TSQ.OVF (by decide)⟩

/-! The host hands over frames (R142). -/

theorem txqTailFx_shows {p : Nat} (hp : p < 8) (v : Word32) (s : State) : (txqTailFx p v s).rd (R.NET.TXQ_TAIL p) = fieldOf v 0 8 ∧
    ((txqTailFx p v s).netSt p).enq = (s.netSt p).enq ++ List.replicate ((fieldOf v 0 8 + 256 - s.rd (R.NET.TXQ_TAIL p)) % 256) s.time ∧
    WordsKept s (txqTailFx p v s) [(R.NET.TXQ_TAIL p).key] ∧ (txqTailFx p v s).drm = s.drm := by
  have hfit : FieldRules.fits (R.NET.TXQ_TAIL p) = true ∧ (R.NET.TXQ_TAIL p).w ≤ 32 := by interval_cases p <;> decide
  unfold txqTailFx
  refine ⟨(rd_wr_own s _ hfit.1).trans (Nat.mod_eq_of_lt (Nat.mod_lt _ (Nat.two_pow_pos 8))), ?_, wordsKept_wr s hfit.2 _, wr_drm _ _ _⟩
  refine (congrArg NetPort.enq (smGet_set_same netDefault _ _ _)).trans ?_
  show ((s.wr (R.NET.TXQ_TAIL p) (fieldOf v 0 8)).netSt p).enq ++ _ = _
  have hnet : (s.wr (R.NET.TXQ_TAIL p) (fieldOf v 0 8)).netSt p = s.netSt p := by
    unfold State.netSt
    rw [wr_net]
  rw [hnet]

/-! Reads of the queues in sound DRAM (14 R382, R385). -/

/-- A channel that an access in range meets is none in FAULT while DRAM is sound. -/
theorem fault_of_sound {s : State} (h : s.soundDram = true) (hc : s.drm.chans ≠ 0) (a : Nat) : s.flag (R.DRM.st_FAULT (dramCh s.drm.chans a)) = false := by
  unfold State.soundDram at h
  rw [Bool.and_eq_true, List.all_eq_true] at h
  have hlt : dramCh s.drm.chans a < s.drm.chans := by
    unfold dramCh
    rw [if_neg hc]
    exact Nat.mod_lt _ (Nat.pos_of_ne_zero hc)
  simpa using h.2 _ (List.mem_range.mpr hlt)

theorem chans_of_inRange {s : State} {a n : Nat} (h : s.outOfRange a n = false) : s.drm.chans ≠ 0 := by
  unfold State.outOfRange at h
  rw [Bool.or_eq_false_iff] at h
  simpa using h.2

theorem poison_of_sound {s : State} (h : s.soundDram = true) : s.drm.poison = [] := by
  unfold State.soundDram at h
  rw [Bool.and_eq_true] at h
  exact List.isEmpty_iff.mp h.1

section
variable {Rel : State → State → Prop} {W : Fld → Bool} {E : Nat → Bool} (h : Frame Rel W E) (hch : ChFree Rel) (hce : ∀ c, W (R.DRM.CNT_CE c) = true)
  (hfwd : ∀ c, W (R.DRM.CNT_FWD c) = true) (hE : ∀ c, E (0x0E0 + c) = true)
include h hch hce hfwd hE

/-- A line that is read in sound DRAM counts what it corrects, and nothing more. -/
theorem frame_soundLine {s : State} (hp : s.drm.poison = []) (c line : Nat) : Rel s (s.checkLine c line).1 ∧ (s.checkLine c line).2 = false := by
  have hcorr {R' : State → State → Prop} {W' : Fld → Bool} {E' : Nat → Bool} (h' : Frame R' W' E') (hce' : ∀ c, W' (R.DRM.CNT_CE c) = true)
      (hE' : ∀ c, E' (0x0E0 + c) = true) :
      R' s (s.cond ((s.weakWords line).length != 0) (fun u => (u.incBy (R.DRM.CNT_CE c) (s.weakWords line).length).raise (R.DRM.ev_CE c))) :=
    h'.cond fun _ => h'.trans (h'.incBy s _ (hce' _)) (h'.raise _ (hE' _) (show 0 < 32 by decide))
  have hpoison := (hcorr unpoisonedFrame (fun _ => rfl) (fun _ => rfl) hp).1
  unfold State.checkLine
  simp only [hpoison, HostDram.linePoisoned_nil, Bool.false_eq_true, if_false]
  exact ⟨hcorr h hce hE, trivial⟩

theorem frame_soundPart {s : State} (hs : s.soundDram = true) (hc : s.drm.chans ≠ 0) (p : Nat × Nat × Nat) :
    Rel s (s.readPart [] p).1 ∧ (s.readPart [] p).2 = false := by
  have hp := poison_of_sound hs
  unfold State.readPart
  simp only [fault_of_sound hs hc, noteErrs_nil, Bool.false_eq_true, if_false]
  split
  · split
    · exact ⟨h.inc s (hfwd _), by rw [hp]; rfl⟩
    · have hu := h.trans (frame_issueWrite h hch s (dramCh s.drm.chans p.2.1) p.1) (frame_useLine hch _ (dramCh s.drm.chans p.2.1) p.1 false)
      obtain ⟨h1, h2⟩ := frame_soundLine h hch hce hfwd hE (s := (s.issueWrite (dramCh s.drm.chans p.2.1) p.1).useLine (dramCh s.drm.chans p.2.1) p.1 false) hp
        (dramCh s.drm.chans p.2.1) p.1
      exact ⟨h.trans hu h1, h2⟩
  · obtain ⟨h1, h2⟩ := frame_soundLine h hch hce hfwd hE (s := s.useLine (dramCh s.drm.chans p.2.1) p.1 false) hp (dramCh s.drm.chans p.2.1) p.1
    exact ⟨h.trans (frame_useLine hch s _ _ _) h1, h2⟩

/-- A read in sound DRAM gives the bytes, none of them poisoned. -/
theorem frame_soundDramRead (hoor : W (R.DRM.CNT_OOR 0) = true) {s : State} (hs : s.soundDram = true) (a n : Nat) :
    Rel s (s.dramRead a n).2.2 ∧ (s.dramRead a n).2.1 = false ∧
    (s.dramRead a n).1 = if n ≠ 0 ∧ s.outOfRange a n = true then List.replicate n 0 else s.dramBytes a n := by
  have hparts (ps : List (Nat × Nat × Nat)) : ∀ s : State, s.soundDram = true → s.drm.chans ≠ 0 → Rel s (s.readParts [] ps).1 ∧ (s.readParts [] ps).2 = false := by
    induction ps with
    | nil => exact fun s _ _ => ⟨h.refl s, rfl⟩
    | cons p ps ih =>
      intro s hs hc
      obtain ⟨h1, h2⟩ := frame_soundPart h hch hce hfwd hE hs hc p
      have hr : ReadsAlike s (s.readPart [] p).1 := readsAlikeReads.frame_readPart s p
      obtain ⟨h3, h4⟩ := ih (s.readPart [] p).1 ((soundDram_congr hr).trans hs) (by rw [hr.chans]; exact hc)
      refine ⟨h.trans h1 h3, ?_⟩
      show ((s.readPart [] p).2 || ((s.readPart [] p).1.readParts [] ps).2) = false
      rw [h2, h4]
      rfl
  unfold State.dramRead
  by_cases hn : n = 0
  · subst hn
    exact ⟨h.refl s, rfl, rfl⟩
  · rw [if_neg hn]
    cases hr : s.outOfRange a n with
    | true => exact ⟨h.incRaise s hoor (hE 0) (by decide), rfl, by simp [hn]⟩
    | false =>
      obtain ⟨h1, h2⟩ := hparts (linesOf a n) s hs (chans_of_inRange hr)
      exact ⟨h1, h2, by simp⟩

end

/-- What is in range reads the same. -/
theorem outOfRange_congr {s t : State} (h : ReadsAlike s t) (a n : Nat) : t.outOfRange a n = s.outOfRange a n := by
  have hready : t.chReady = s.chReady := funext h.ready
  unfold State.outOfRange State.installed State.channels
  rw [h.chans, h.capacity, hready]

/-- What a read in sound DRAM answers. -/
theorem dramRead_sound {s : State} (hs : s.soundDram = true) (a n : Nat) : (s.dramRead a n).2.1 = false ∧
    (s.dramRead a n).1 = if n ≠ 0 ∧ s.outOfRange a n = true then List.replicate n 0 else s.dramBytes a n :=
  (frame_soundDramRead readsAlikeFrame readsAlikeReads.ch (fun c => readsAlikeReads.access c _ (by simp [accessFields]))
    (fun c => readsAlikeReads.access c _ (by simp [accessFields])) (fun _ => rfl) readsAlikeReads.oor hs a n).2

/-! A frame of the host's leaves (R114, R142). -/

/-- The place of the descriptor at the head of the transmit queue, the descriptor, and the frame, as DRAM holds them. -/
def txAddr (s : State) (p : Nat) : Nat := descAt (s.rd (R.NET.TXQ_BASE p)) (s.rd (R.NET.TXQ_HEAD p))
def txDesc (s : State) (p : Nat) : List Byte := s.dramBytes (txAddr s p) 32
def txBytes (s : State) (p : Nat) : List Byte :=
  if leAt (txDesc s p) 8 2 ≠ 0 ∧ s.outOfRange (leAt (txDesc s p) 0 8) (leAt (txDesc s p) 8 2) = true then List.replicate (leAt (txDesc s p) 8 2) 0
  else s.dramBytes (leAt (txDesc s p) 0 8) (leAt (txDesc s p) 8 2)

/-- The frame and its descriptor have been read. -/
def txRead (s : State) (p : Nat) : State :=
  ((s.dramRead (txAddr s p) 32).2.2.dramRead (leAt (txDesc s p) 0 8) (leAt (txDesc s p) 8 2)).2.2

/-- The frame leaves, with its descriptor written back. -/
def frameSent (p a : Nat) (frame : List Byte) (late : Bool) (s : State) : State :=
  ((s.emit (.netFrame p (frame ++ leBytes 4 (crc32 frame)))).dramStore (a + 11) (leBytes 1 (1 + 2 * b2n late))).cond late
    (fun s => s.incRaise (R.NET.CNT_TX_LATE p) (R.NET.ev_TX_LATE p))

/-- Its timestamp is noted, it counts, and the descriptor is done with. -/
def frameNoted (p id : Nat) (stamp : Bool) (s : State) : State :=
  ((s.cond stamp (fun s => s.tsqPush { id := id, port := p, time := s.base })).inc (R.NET.CNT_TX_FRAMES p)).txPop p

/-- A frame of the queue leaves while DRAM is sound. -/
theorem txHost_sound {s : State} (hs : s.soundDram = true) (hr : s.outOfRange (txAddr s p) 32 = false) :
    ∃ late, s.txHost p = frameNoted p (leAt (txDesc s p) 12 2) ((leAt (txDesc s p) 10 1).testBit 1) (frameSent p (txAddr s p) (txBytes s p) late (txRead s p)) := by
  obtain ⟨hgood, hdesc⟩ := dramRead_sound hs (txAddr s p) 32
  have halike : ReadsAlike s (s.dramRead (txAddr s p) 32).2.2 := readsAlikeReads.frame_dramRead s _ 32
  rw [hr] at hdesc
  have hdesc : (s.dramRead (txAddr s p) 32).1 = txDesc s p := hdesc
  obtain ⟨hgood2, hframe⟩ := dramRead_sound ((soundDram_congr halike).trans hs) (leAt (txDesc s p) 0 8) (leAt (txDesc s p) 8 2)
  rw [outOfRange_congr halike, halike.dramBytes] at hframe
  have hframe : ((s.dramRead (txAddr s p) 32).2.2.dramRead (leAt (txDesc s p) 0 8) (leAt (txDesc s p) 8 2)).1 = txBytes s p := hframe
  have haddr : descAt (s.rd (R.NET.TXQ_BASE p)) (s.rd (R.NET.TXQ_HEAD p)) = txAddr s p := rfl
  unfold State.txHost txRead
  simp only [haddr, hgood, hdesc, Bool.false_eq_true, if_false, hgood2, hframe, Bool.or_self]
  exact ⟨_, rfl⟩

/-- What the reads leave. -/
theorem frame_txRead {Rel : State → State → Prop} {W : Fld → Bool} {E : Nat → Bool} (h : Frame Rel W E) (hch : ChFree Rel)
    (hW : ∀ c, ∀ f ∈ accessFields c, W f = true) (hE : ∀ c, E (0x0E0 + c) = true) (hoor : W (R.DRM.CNT_OOR 0) = true) {s : State} (hs : s.soundDram = true) (p : Nat) :
    Rel s (txRead s p) := by
  have halike : ReadsAlike s (s.dramRead (txAddr s p) 32).2.2 := readsAlikeReads.frame_dramRead s _ 32
  have hread {s : State} (hs : s.soundDram = true) (a n : Nat) : Rel s (s.dramRead a n).2.2 :=
    (frame_soundDramRead h hch (fun c => hW c _ (by simp [accessFields])) (fun c => hW c _ (by simp [accessFields])) hE hoor hs a n).1
  exact h.trans (hread hs _ _) (hread ((soundDram_congr halike).trans hs) _ _)

/-- One byte that is stored in sound DRAM. -/
theorem dramStore_byte {s : State} (hs : s.soundDram = true) {b : Nat} (hr : s.outOfRange b 1 = false) (x : Byte) (y : Nat) :
    dramByte (s.dramStore b [x]).drm.mem y = if y = b then x else dramByte s.drm.mem y := by
  have hlines : linesOf b 1 = [(b / 64, b, 1)] := by
    have hmin : min 1 (64 - b % 64) = 1 := by omega
    unfold linesOf
    rw [HostDram.lineParts_succ _ _ (by decide), hmin]
    exact congrArg (List.cons _) (HostDram.lineParts_zero _ _)
  have hkeep (t : State) (q : Nat × Nat × Nat) : (t.writePart q).drm.mem = t.drm.mem :=
    (frame_writePart (staysDram (F := fun s : State => s.drm.mem) (fs := []) (fun _ _ _ => rfl) (fun _ _ _ => rfl) (fun _ _ => rfl) (fun _ _ h => h.mem) (by decide)) t q).part
  unfold State.dramStore
  rw [if_neg (show ¬ [x].isEmpty = true from Bool.false_ne_true), if_neg (by rw [show [x].length = 1 from rfl, hr]; decide), show [x].length = 1 from rfl, hlines]
  show dramByte ((s.storePart b [x] (b / 64, b, 1)).writePart (b / 64, b, 1)).drm.mem y = _
  rw [hkeep]
  unfold State.storePart
  simp only [fault_of_sound hs (chans_of_inRange hr), Bool.false_eq_true, if_false, Nat.sub_self, List.drop_zero]
  unfold dramByte
  rw [show List.take 1 [x] = [x] from rfl, smGet_setMany]
  by_cases hy : y = b
  · subst hy
    simp
  · rw [if_neg hy, dif_neg (by simp only [List.length_singleton]; omega)]

/-- Fields of the port and of the timestamp queue that the frame's own writes leave. -/
def txKept (p : Nat) : List Fld := [R.NET.CNT_TX_FRAMES p, R.NET.TXQ_HEAD p, R.TSQ.OVF, R.TSQ.CNT_LOST]

/-- What is kept until the frame is noted. -/
def txPart (s : State) : NetSt × ClkSt × Nat := (s.net, s.clk, s.time)

theorem frameSent_stays {p : Nat} (hp : p < 8) (a : Nat) (frame : List Byte) (late : Bool) (s : State) :
    Stays txPart (txKept p) s (frameSent p a frame late s) := by
  have hlow : ∀ p < 8, lowFields (txKept p) = true ∧ apartFrom (txKept p) (R.NET.CNT_TX_LATE p) = true ∧ quietFor (txKept p) (R.NET.ev_TX_LATE p).page = true := by decide
  obtain ⟨h1, h2, h3⟩ := hlow p hp
  have d := staysDram_low (F := txPart) (fun _ _ _ => rfl) (fun _ _ _ => rfl) (fun _ _ => rfl) (fun _ _ _ => rfl) h1
  have hemit : Stays txPart (txKept p) s (s.emit (.netFrame p (frame ++ leBytes 4 (crc32 frame)))) := .other rfl rfl
  refine d.frame.trans (d.frame.trans hemit (frame_dramStore d (fun _ _ => .other rfl rfl) _ _ _)) (d.frame.cond fun _ => ?_)
  exact d.frame.incRaise _ h2 h3 (show 2 < 32 by decide)

theorem frameSent_out {p a : Nat} {frame : List Byte} {late : Bool} {s : State} (hp : s.drm.poison = []) :
    (frameSent p a frame late s).out = s.out ++ [.netFrame p (frame ++ leBytes 4 (crc32 frame))] := by
  have h := partFrame (F := State.out) fun _ _ _ => rfl
  have hlate (t : State) : (t.cond late (fun s => s.incRaise (R.NET.CNT_TX_LATE p) (R.NET.ev_TX_LATE p))).out = t.out :=
    h.cond fun _ => h.incRaise t rfl rfl (show 2 < 32 by decide)
  exact (hlate _).trans (unpoisoned_dramStore (s.emit (.netFrame p (frame ++ leBytes 4 (crc32 frame)))) _ _ hp).2

theorem frameSent_mem {p a : Nat} {frame : List Byte} {late : Bool} {s : State} (hs : s.soundDram = true) (hr : s.outOfRange (a + 11) 1 = false) (y : Nat) :
    dramByte (frameSent p a frame late s).drm.mem y = if y = a + 11 then BitVec.ofNat 8 (1 + 2 * b2n late) else dramByte s.drm.mem y := by
  have h := partFrame (F := State.drm) fun _ _ _ => rfl
  have hlate (t : State) : (t.cond late (fun s => s.incRaise (R.NET.CNT_TX_LATE p) (R.NET.ev_TX_LATE p))).drm = t.drm :=
    h.cond fun _ => h.incRaise t rfl rfl (show 2 < 32 by decide)
  refine (congrArg (fun d : DramSt => dramByte d.mem y) (hlate _)).trans ?_
  exact dramStore_byte (s := s.emit (.netFrame p (frame ++ leBytes 4 (crc32 frame)))) hs hr _ y

/-- A timestamp that enters the queue, or finds it full. -/
theorem tsqPush_shows (s : State) (e : TsEntry) : (s.tsqPush e).out = s.out ∧ (s.tsqPush e).drm = s.drm ∧
    (s.net.tsq.length < 64 → (s.tsqPush e).net.tsq = s.net.tsq ++ [e] ∧ (s.tsqPush e).rd R.TSQ.LEVEL = s.net.tsq.length + 1 ∧
      (s.tsqPush e).raw R.TSQ.ev_NONEMPTY = true) ∧
    (64 ≤ s.net.tsq.length → (s.tsqPush e).net.tsq = s.net.tsq ∧ (s.tsqPush e).rd R.TSQ.OVF = 1 ∧ Counted s (s.tsqPush e) R.TSQ.CNT_LOST ∧
      Pending (s.tsqPush e) R.TSQ.ev_OVERFLOW) := by
  unfold State.tsqPush
  by_cases hl : s.net.tsq.length < 64
  · rw [if_pos hl]
    have hlen : (s.net.tsq ++ [e]).length = s.net.tsq.length + 1 := by simp
    obtain ⟨h1, h2, h3, -⟩ := tsqTaken s (q := s.net.tsq ++ [e]) (by omega)
    have hk := (tsqLevels_stays (fs := []) (by decide) (by decide) { s with net := { s.net with tsq := s.net.tsq ++ [e] } }).part
    refine ⟨congrArg (fun x => x.2.1) hk, congrArg (fun x => x.2.2) hk, fun _ => ⟨congrArg NetSt.tsq h1, h2.trans hlen, h3.trans ?_⟩, fun h => absurd hl (by omega)⟩
    rw [hlen]
    exact decide_eq_true (Nat.succ_pos _)
  · rw [if_neg hl]
    have hpart := partFrame (F := fun s : State => (s.net, s.out, s.drm)) fun _ _ _ => rfl
    have hk := hpart.trans (hpart.trans (hpart.wr s (f := R.TSQ.OVF) 1 rfl) (hpart.inc _ (f := R.TSQ.CNT_LOST) rfl)) (hpart.raise _ (e := R.TSQ.ev_OVERFLOW) rfl (by decide))
    refine ⟨congrArg (fun x => x.2.1) hk, congrArg (fun x => x.2.2) hk, fun h => absurd h hl, fun _ => ⟨congrArg (fun x : NetSt × _ => x.1.tsq) hk, ?_, ?_, pending_raise _ (by decide)⟩⟩
    · exact (rd_raise_sep _ (by decide)).trans ((rd_wr_sep _ _ (by decide)).trans (rd_wr_own _ _ (by decide)))
    · refine (rd_raise_sep _ (by decide)).trans ((rd_incBy_same _ rfl rfl 1).trans ?_)
      exact congrArg (fun n => min (n + 1) _) (rd_wr_sep _ _ (by decide))

/-- The queue's page is none of a port's. -/
theorem tsqPush_stays {p : Nat} (hp : p < 8) (s : State) (e : TsEntry) : Stays (fun _ => ()) [R.NET.CNT_TX_FRAMES p, R.NET.TXQ_HEAD p] s (s.tsqPush e) := by
  have hq : ∀ p < 8, apartFrom [R.NET.CNT_TX_FRAMES p, R.NET.TXQ_HEAD p] R.TSQ.LEVEL = true ∧ apartFrom [R.NET.CNT_TX_FRAMES p, R.NET.TXQ_HEAD p] R.TSQ.OVF = true ∧
      apartFrom [R.NET.CNT_TX_FRAMES p, R.NET.TXQ_HEAD p] R.TSQ.CNT_LOST = true ∧ quietFor [R.NET.CNT_TX_FRAMES p, R.NET.TXQ_HEAD p] 0x008 = true := by decide
  obtain ⟨h1, h2, h3, h4⟩ := hq p hp
  have h := staysFrame (F := fun _ : State => ()) (fun _ _ _ => rfl) [R.NET.CNT_TX_FRAMES p, R.NET.TXQ_HEAD p]
  unfold State.tsqPush
  refine h.ite (fun _ => ?_) fun _ => h.trans (h.trans (h.wr s _ h2) (h.inc _ h3)) (h.raise (e := R.TSQ.ev_OVERFLOW) _ h4 (by decide))
  have hl := tsqLevels_stays (fs := [R.NET.CNT_TX_FRAMES p, R.NET.TXQ_HEAD p]) h1 h4 { s with net := { s.net with tsq := s.net.tsq ++ [e] } }
  exact ⟨rfl, hl.rd, hl.pend⟩

/-- A frame that counts, with its descriptor done. -/
theorem popped_shows {p : Nat} (hp : p < 8) (s : State) : ((s.inc (R.NET.CNT_TX_FRAMES p)).txPop p).rd (R.NET.TXQ_HEAD p) = (s.rd (R.NET.TXQ_HEAD p) + 1) % 256 ∧
    Counted s ((s.inc (R.NET.CNT_TX_FRAMES p)).txPop p) (R.NET.CNT_TX_FRAMES p) ∧
    Stays (fun s => (s.net.tsq, s.out, s.drm)) [R.TSQ.LEVEL, R.TSQ.OVF, R.TSQ.CNT_LOST, ⟨0x008, 0x010, 0, 1⟩] s ((s.inc (R.NET.CNT_TX_FRAMES p)).txPop p) := by
  have hk : ∀ p < 8, sep (R.NET.TXQ_HEAD p) (R.NET.CNT_TX_FRAMES p) = true ∧ sep (R.NET.CNT_TX_FRAMES p) (R.NET.TXQ_HEAD p) = true ∧ FieldRules.fits (R.NET.TXQ_HEAD p) = true ∧
      apartFrom [R.TSQ.LEVEL, R.TSQ.OVF, R.TSQ.CNT_LOST, ⟨0x008, 0x010, 0, 1⟩] (R.NET.CNT_TX_FRAMES p) = true ∧
      apartFrom [R.TSQ.LEVEL, R.TSQ.OVF, R.TSQ.CNT_LOST, ⟨0x008, 0x010, 0, 1⟩] (R.NET.TXQ_HEAD p) = true := by decide
  obtain ⟨h1, h2, h3, h4, h5⟩ := hk p hp
  have h := staysFrame (F := fun s : State => (s.net.tsq, s.out, s.drm)) (fun _ _ _ => rfl) [R.TSQ.LEVEL, R.TSQ.OVF, R.TSQ.CNT_LOST, ⟨0x008, 0x010, 0, 1⟩]
  refine ⟨?_, ?_, h.trans (h.inc s h4) (h.trans (h.wr _ _ h5) (.other rfl rfl))⟩
  · refine (rd_wr_own _ _ h3).trans ((Nat.mod_eq_of_lt (Nat.mod_lt _ (by decide))).trans ?_)
    exact congrArg (fun n => (n + 1) % 256) (rd_wr_sep s _ h1)
  · exact (rd_wr_sep _ _ h2).trans (counted_inc s rfl rfl)

/-- A frame that is noted. -/
theorem frameNoted_shows {p : Nat} (hp : p < 8) (id : Nat) (stamp : Bool) (s : State) :
    (frameNoted p id stamp s).out = s.out ∧ (frameNoted p id stamp s).drm = s.drm ∧
    Counted s (frameNoted p id stamp s) (R.NET.CNT_TX_FRAMES p) ∧ (frameNoted p id stamp s).rd (R.NET.TXQ_HEAD p) = (s.rd (R.NET.TXQ_HEAD p) + 1) % 256 ∧
    (stamp = false → (frameNoted p id stamp s).net.tsq = s.net.tsq) ∧
    (stamp = true → s.net.tsq.length < 64 → (frameNoted p id stamp s).net.tsq = s.net.tsq ++ [{ id := id, port := p, time := s.base }] ∧
      (frameNoted p id stamp s).rd R.TSQ.LEVEL = s.net.tsq.length + 1 ∧ (frameNoted p id stamp s).raw R.TSQ.ev_NONEMPTY = true) ∧
    (stamp = true → 64 ≤ s.net.tsq.length → (frameNoted p id stamp s).net.tsq = s.net.tsq ∧ (frameNoted p id stamp s).rd R.TSQ.OVF = 1 ∧
      Counted s (frameNoted p id stamp s) R.TSQ.CNT_LOST ∧ Pending (frameNoted p id stamp s) R.TSQ.ev_OVERFLOW) := by
  unfold frameNoted
  cases stamp with
  | false =>
    obtain ⟨h1, h2, h3⟩ := popped_shows hp s
    exact ⟨congrArg (fun x => x.2.1) h3.part, congrArg (fun x => x.2.2) h3.part, h2, h1, fun _ => congrArg Prod.fst h3.part,
      fun h => absurd h (by decide), fun h => absurd h (by decide)⟩
  | true =>
    let e : TsEntry := { id := id, port := p, time := s.base }
    obtain ⟨h1, h2, h3⟩ := popped_shows hp (s.tsqPush e)
    obtain ⟨g1, g2, g3, g4⟩ := tsqPush_shows s e
    have hk := tsqPush_stays hp s e
    refine ⟨(congrArg (fun x => x.2.1) h3.part).trans g1, (congrArg (fun x => x.2.2) h3.part).trans g2,
      h2.trans (congrArg (fun n => min (n + 1) _) (hk.rd _ (by simp))), h1.trans (congrArg (fun n => (n + 1) % 256) (hk.rd _ (by simp))),
      fun h => absurd h (by decide), fun _ hl => ?_, fun _ hl => ?_⟩
    · obtain ⟨k1, k2, k3⟩ := g3 hl
      refine ⟨(congrArg Prod.fst h3.part).trans k1, (h3.rd _ (by decide)).trans k2, ?_⟩
      rw [raw_eq_rd] at k3 ⊢
      exact (congrArg (· != 0) (h3.rd ⟨0x008, 0x010, 0, 1⟩ (by decide))).trans k3
    · obtain ⟨k1, k2, k3, k4⟩ := g4 hl
      exact ⟨(congrArg Prod.fst h3.part).trans k1, (h3.rd _ (by decide)).trans k2, (h3.rd _ (by decide)).trans k3, h3.pend _ k4⟩

/-- A frame of the queue that leaves in sound DRAM, from no output. -/
theorem txHost_shows {p : Nat} (hp : p < 8) {s : State} (hs : s.soundDram = true) (hr : s.outOfRange (txAddr s p) 32 = false) :
    (s.txHost p).out = s.out ++ [.netFrame p (txBytes s p ++ leBytes 4 (crc32 (txBytes s p)))] ∧ Counted s (s.txHost p) (R.NET.CNT_TX_FRAMES p) ∧
    (s.txHost p).rd (R.NET.TXQ_HEAD p) = (s.rd (R.NET.TXQ_HEAD p) + 1) % 256 ∧
    (dramByte (s.txHost p).drm.mem (txAddr s p + 11)).toNat % 2 = 1 ∧
    (∀ b, b ≠ txAddr s p + 11 → dramByte (s.txHost p).drm.mem b = dramByte s.drm.mem b) ∧
    ((leAt (txDesc s p) 10 1).testBit 1 = false → (s.txHost p).net.tsq = s.net.tsq) ∧
    ((leAt (txDesc s p) 10 1).testBit 1 = true → s.net.tsq.length < 64 →
      (s.txHost p).net.tsq = s.net.tsq ++ [{ id := leAt (txDesc s p) 12 2, port := p, time := s.base }] ∧
      (s.txHost p).rd R.TSQ.LEVEL = s.net.tsq.length + 1 ∧ (s.txHost p).raw R.TSQ.ev_NONEMPTY = true) ∧
    ((leAt (txDesc s p) 10 1).testBit 1 = true → 64 ≤ s.net.tsq.length → (s.txHost p).net.tsq = s.net.tsq ∧ (s.txHost p).rd R.TSQ.OVF = 1 ∧
      Counted s (s.txHost p) R.TSQ.CNT_LOST ∧ Pending (s.txHost p) R.TSQ.ev_OVERFLOW) := by
  obtain ⟨late, hlate⟩ := txHost_sound hs hr
  rw [hlate]
  have hlow : ∀ p < 8, lowFields (txKept p) = true := by decide
  have d := staysDram_low (F := txPart) (fs := txKept p) (fun _ _ _ => rfl) (fun _ _ _ => rfl) (fun _ _ => rfl) (fun _ _ _ => rfl) (hlow p hp)
  have hread : Stays txPart (txKept p) s (txRead s p) := frame_txRead d.frame d.chFree d.access d.chEvt d.oor hs p
  have halike : ReadsAlike s (txRead s p) := frame_txRead readsAlikeFrame readsAlikeReads.ch readsAlikeReads.access (fun _ => rfl) readsAlikeReads.oor hs p
  have hout : (txRead s p).out = s.out := frame_txRead (partFrame (F := State.out) fun _ _ _ => rfl) (fun _ _ _ _ => rfl) (fun _ _ _ => rfl) (fun _ => rfl) rfl hs p
  have hr11 : (txRead s p).outOfRange (txAddr s p + 11) 1 = false := by
    rw [outOfRange_congr halike]
    unfold State.outOfRange at hr ⊢
    rw [Bool.or_eq_false_iff, Bool.or_eq_false_iff, decide_eq_false_iff_not] at hr ⊢
    exact ⟨⟨by omega, hr.1.2⟩, hr.2⟩
  have hsent := d.frame.trans hread (frameSent_stays hp (txAddr s p) (txBytes s p) late (txRead s p))
  have hmem := frameSent_mem (p := p) (frame := txBytes s p) (late := late) ((soundDram_congr halike).trans hs) hr11
  have houts := frameSent_out (p := p) (a := txAddr s p) (frame := txBytes s p) (late := late) (halike.poison.trans (poison_of_sound hs))
  generalize frameSent p (txAddr s p) (txBytes s p) late (txRead s p) = u at hsent hmem houts
  obtain ⟨g1, g2, g3, g4, g5, g6, g7⟩ := frameNoted_shows hp (leAt (txDesc s p) 12 2) ((leAt (txDesc s p) 10 1).testBit 1) u
  have hnet : u.net = s.net := congrArg Prod.fst hsent.part
  have hbase : u.base = s.base := by
    have hclk : u.clk = s.clk := congrArg (fun x => x.2.1) hsent.part
    have htime : u.time = s.time := congrArg (fun x => x.2.2) hsent.part
    unfold State.base State.baseAt
    rw [hclk, htime]
  rw [hnet, hbase] at g6
  rw [hnet] at g5 g7
  refine ⟨g1.trans (houts.trans (by rw [hout])), g3.trans (congrArg (fun n => min (n + 1) _) (hsent.rd _ (by simp [txKept]))),
    g4.trans (congrArg (fun n => (n + 1) % 256) (hsent.rd _ (by simp [txKept]))), ?_, fun b hb => ?_, g5, g6, fun h hl => ?_⟩
  · rw [g2, hmem, if_pos rfl]
    cases late <;> decide
  · rw [g2, hmem, if_neg hb, halike.mem]
  · obtain ⟨k1, k2, k3, k4⟩ := g7 h hl
    exact ⟨k1, k2, k3.trans (congrArg (fun n => min (n + 1) _) (hsent.rd _ (by simp [txKept]))), k4⟩

/-! A poisoned descriptor (14 R385). -/

/-- No frame of a port leaves. -/
def NoFrame (p : Nat) (s t : State) : Prop := ∀ f, Output.netFrame p f ∈ t.out → Output.netFrame p f ∈ s.out

theorem noFrame_of_out {p : Nat} {s t : State} (h : t.out = s.out) : NoFrame p s t := fun f hf => by rw [← h]; exact hf

theorem noFrameFrame (p : Nat) : Frame (NoFrame p) (fun _ => true) (fun _ => true) where
  refl _ _ h := h
  trans h h' f hf := h f (h' f hf)
  wr _ _ _ _ := noFrame_of_out (wr_out _ _ _)
  raise _ _ _ _ := noFrame_of_out (raise_out _ _)
  level _ _ _ _ _ := noFrame_of_out (level_out _ _ _)

/-- A ground that is met sends packets on coil ports alone. -/
theorem noFrame_ground (p : Nat) (s : State) (g : Nat) : NoFrame p s (s.ground g) := by
  have h := noFrameFrame p
  have hstop (t : State) : NoFrame p t t.stopTraffic := h.each fun _ _ _ => noFrame_of_out rfl
  have hsend (t : State) : NoFrame p t (t.sendRelinquish 1) := fun f hf => by
    rcases (Relinquish.sendRelinquish_shows t 1).2.2 _ hf with h | ⟨q, -, h, -⟩
    · exact h
    · exact absurd h (by unfold Relinquish.copyOf; intro h; exact Output.noConfusion h)
  unfold State.ground
  refine h.ite (fun _ => h.refl s) fun _ => h.ite (fun _ => h.refl s) fun _ => h.trans (h.inc s rfl) (h.ite (fun _ => h.refl _) fun _ => ?_)
  refine h.trans (h.trans ?_ (hstop _)) (hsend _)
  refine h.trans (h.trans (h.trans (h.trans (h.wr _ (f := R.RED.RELINQUISHED) 1 rfl) (h.wr _ (f := R.RED.GROUNDS) _ rfl)) (h.wr _ (f := R.RED.RELINQUISH_EPOCH) _ rfl))
    (h.raise _ (e := R.RED.ev_RELINQUISH) rfl (by decide))) (noFrame_of_out rfl)

theorem noFrameReads (p : Nat) : ChRel (NoFrame p) (fun _ => true) (fun _ => true) where
  frame := noFrameFrame p
  ground := noFrame_ground p
  ch _ _ _ _ := noFrame_of_out rfl
  ue _ _ _ := rfl
  access _ _ _ := rfl
  oor := rfl
  chEvt _ := rfl

/-- A read whose first line is poisoned comes back poisoned. -/
theorem dramRead_poisoned {s : State} {a n : Nat} (hn : n ≠ 0) (hr : s.outOfRange a n = false) (hq : HostDram.NoWrites s)
    (hp : linePoisoned s.drm.poison (a / 64) = true) : (s.dramRead a n).2.1 = true := by
  have hlines : linesOf a n = (a / 64, a, min n (64 - a % 64)) :: lineParts (n / 64 + 1) (a + min n (64 - a % 64)) (n - min n (64 - a % 64)) :=
    HostDram.lineParts_succ _ a hn
  have hfirst : (s.readPart [] (a / 64, a, min n (64 - a % 64))).2 = true := by
    rw [HostDram.readPart_noWrites hq, noteErrs_nil]
    split
    · rfl
    · exact (HostDram.checkLine_poisoned (s := s.useLine (dramCh s.drm.chans a) (a / 64) false) hp _).1
  unfold State.dramRead
  rw [if_neg hn, hr, hlines]
  unfold State.readParts
  simp only [Bool.false_eq_true, if_false, hfirst, Bool.true_or]

theorem txHost_poisoned {s : State} {p : Nat} (hr : s.outOfRange (txAddr s p) 32 = false) (hq : HostDram.NoWrites s)
    (hp : linePoisoned s.drm.poison (txAddr s p / 64) = true) : s.txHost p = ((s.dramRead (txAddr s p) 32).2.2.ringDrop p).txPop p := by
  have hbad := dramRead_poisoned (by decide) hr hq hp
  have haddr : descAt (s.rd (R.NET.TXQ_BASE p)) (s.rd (R.NET.TXQ_HEAD p)) = txAddr s p := rfl
  have hnone (t : State) (a : Nat) : t.dramRead a 0 = ([], false, t) := rfl
  unfold State.txHost
  simp only [haddr, hbad, if_true, hnone, Bool.true_or]

/-- A frame whose descriptor is poisoned is dropped. -/
theorem txHost_drops {s : State} {p : Nat} (hp8 : p < 8) (hr : s.outOfRange (txAddr s p) 32 = false) (hq : HostDram.NoWrites s)
    (hp : linePoisoned s.drm.poison (txAddr s p / 64) = true) : NoFrame p s (s.txHost p) ∧ (s.txHost p).drm.mem = s.drm.mem ∧
    Counted s (s.txHost p) (R.NET.CNT_RXQ_DROP p) ∧ (s.txHost p).rd (R.NET.TXQ_HEAD p) = (s.rd (R.NET.TXQ_HEAD p) + 1) % 256 := by
  have hlow : ∀ p < 8, lowFields [R.NET.CNT_RXQ_DROP p, R.NET.TXQ_HEAD p] = true ∧ sep (R.NET.CNT_RXQ_DROP p) (R.NET.TXQ_HEAD p) = true ∧
      FieldRules.fits (R.NET.TXQ_HEAD p) = true ∧ sep (R.NET.TXQ_HEAD p) (R.NET.CNT_RXQ_DROP p) = true ∧
      offKey (R.NET.CNT_RXQ_DROP p) (evtPendKey (R.NET.ev_RXQ_DROP p).page) = true ∧ offKey (R.NET.TXQ_HEAD p) (evtPendKey (R.NET.ev_RXQ_DROP p).page) = true := by decide
  obtain ⟨h1, h2, h3, h4, h5, h6⟩ := hlow p hp8
  have hread := (staysDram_low (F := fun s : State => s.drm.mem) (fun _ _ _ => rfl) (fun _ _ _ => rfl) (fun _ _ => rfl) (fun _ _ h => h.mem) h1).reads.frame_dramRead s (txAddr s p) 32
  have hout := (noFrameReads p).frame_dramRead s (txAddr s p) 32
  rw [txHost_poisoned hr hq hp]
  generalize (s.dramRead (txAddr s p) 32).2.2 = u at hread hout
  have h := noFrameFrame p
  have hdrm := partFrame (F := fun s : State => s.drm.mem) fun _ _ _ => rfl
  have hdropped : NoFrame p u (u.ringDrop p) := h.incRaise u rfl rfl (show 3 < 32 by decide)
  have hpop (t : State) : NoFrame p t (t.txPop p) := noFrame_of_out (wr_out t (R.NET.TXQ_HEAD p) ((t.rd (R.NET.TXQ_HEAD p) + 1) % 256))
  have hdropped' : (u.ringDrop p).drm.mem = u.drm.mem := hdrm.incRaise u rfl rfl (show 3 < 32 by decide)
  have hpop' (t : State) : (t.txPop p).drm = t.drm := wr_drm t (R.NET.TXQ_HEAD p) ((t.rd (R.NET.TXQ_HEAD p) + 1) % 256)
  refine ⟨h.trans hout (h.trans hdropped (hpop _)), (congrArg DramSt.mem (hpop' _)).trans (hdropped'.trans hread.part), ?_, ?_⟩
  · refine (rd_wr_sep _ _ h2).trans ((rd_raise_sep _ h5).trans ((rd_incBy_same u rfl rfl 1).trans ?_))
    exact congrArg (fun n => min (n + 1) _) (hread.rd _ (by simp))
  · refine (rd_wr_own _ _ h3).trans ((Nat.mod_eq_of_lt (Nat.mod_lt _ (by decide))).trans ?_)
    exact congrArg (fun n => (n + 1) % 256) ((rd_raise_sep _ h6).trans ((rd_wr_sep _ _ h4).trans (hread.rd _ (by simp))))

/-! A preview packet (06 R155). -/

/-- The packet leaves. -/
def packetSent (p j : Nat) (s : State) : State :=
  (s.prvRead (s.prvPacket p j).line (s.prvPacket p j).offset (previewPixels (s.lv R.PRV.PKT_PAYLOAD))).emit (.preview p (s.prvPacket p j))

/-- It counts. -/
def packetCounted (p : Nat) (late : Bool) (s : State) : State :=
  ((s.inc R.PRV.CNT_TX_PKTS).inc (R.NET.CNT_TX_FRAMES p)).cond late (fun s => s.incRaise R.PRV.CNT_TX_LATE R.PRV.ev_TX_LATE)

theorem txPreview_eq {s : State} {p j launch : Nat} {rest : List (Nat × Nat)} (hq : s.prv.queue = (j, launch) :: rest) :
    ∃ late, s.txPreview p = { packetCounted p late (packetSent p j s) with
      prv := { (packetCounted p late (packetSent p j s)).prv with queue := rest, seq := ((packetCounted p late (packetSent p j s)).prv.seq + 1) % 2 ^ 32 } } := by
  unfold State.txPreview
  rw [hq]
  exact ⟨_, rfl⟩

theorem packetCounted_shows {p : Nat} (hp : p < 8) (late : Bool) (s : State) : Counted s (packetCounted p late s) R.PRV.CNT_TX_PKTS ∧
    Counted s (packetCounted p late s) (R.NET.CNT_TX_FRAMES p) ∧ (packetCounted p late s).prv = s.prv ∧ (packetCounted p late s).out = s.out := by
  have hk : ∀ p < 8, sep R.PRV.CNT_TX_PKTS (R.NET.CNT_TX_FRAMES p) = true ∧ sep (R.NET.CNT_TX_FRAMES p) R.PRV.CNT_TX_PKTS = true ∧
      apartFrom [R.PRV.CNT_TX_PKTS, R.NET.CNT_TX_FRAMES p] R.PRV.CNT_TX_LATE = true ∧
      quietFor [R.PRV.CNT_TX_PKTS, R.NET.CNT_TX_FRAMES p] R.PRV.ev_TX_LATE.page = true := by decide
  obtain ⟨h1, h2, h3, h4⟩ := hk p hp
  have h := staysFrame (F := fun s : State => (s.prv, s.out)) (fun _ _ _ => rfl) [R.PRV.CNT_TX_PKTS, R.NET.CNT_TX_FRAMES p]
  have hpart := partFrame (F := fun s : State => (s.prv, s.out)) fun _ _ _ => rfl
  have hlate := h.cond (s := (s.inc R.PRV.CNT_TX_PKTS).inc (R.NET.CNT_TX_FRAMES p)) (b := late) (f := fun s => s.incRaise R.PRV.CNT_TX_LATE R.PRV.ev_TX_LATE)
    fun _ => h.incRaise _ h3 h4 (by decide)
  have hall : ((packetCounted p late s).prv, (packetCounted p late s).out) = (s.prv, s.out) :=
    hlate.part.trans (hpart.trans (hpart.inc s (f := R.PRV.CNT_TX_PKTS) rfl) (hpart.inc _ (f := R.NET.CNT_TX_FRAMES p) rfl))
  refine ⟨(hlate.rd _ (by simp)).trans ((rd_wr_sep _ _ h1).trans (counted_inc s rfl rfl)), (hlate.rd _ (by simp)).trans ((rd_incBy_same _ rfl rfl 1).trans ?_),
    (Prod.mk.inj hall).1, (Prod.mk.inj hall).2⟩
  exact congrArg (fun n => min (n + 1) _) (rd_wr_sep s _ h2)

theorem txPreview_shows {p j launch : Nat} (hp : p < 8) {rest : List (Nat × Nat)} {s : State} (hq : s.prv.queue = (j, launch) :: rest) :
    Output.preview p (s.prvPacket p j) ∈ (s.txPreview p).out ∧ Counted s (s.txPreview p) R.PRV.CNT_TX_PKTS ∧
    Counted s (s.txPreview p) (R.NET.CNT_TX_FRAMES p) ∧ (s.txPreview p).prv = { s.prv with queue := rest, seq := (s.prv.seq + 1) % 2 ^ 32 } := by
  obtain ⟨late, hlate⟩ := txPreview_eq (p := p) hq
  have hlow : ∀ p < 8, lowFields [R.PRV.CNT_TX_PKTS, R.NET.CNT_TX_FRAMES p] = true := by decide
  have hread := Preview.frame_prvRead (staysDram_low (F := State.prv) (fun _ _ _ => rfl) (fun _ _ _ => rfl) (fun _ _ => rfl) (fun _ _ _ => rfl) (hlow p hp)).reads s
    (s.prvPacket p j).line (s.prvPacket p j).offset (previewPixels (s.lv R.PRV.PKT_PAYLOAD))
  have hout : Output.preview p (s.prvPacket p j) ∈ (packetSent p j s).out := List.mem_append_right _ (List.mem_singleton.mpr rfl)
  have hsent : Stays State.prv [R.PRV.CNT_TX_PKTS, R.NET.CNT_TX_FRAMES p] s (packetSent p j s) := ⟨hread.part, hread.rd, hread.pend⟩
  rw [hlate]
  generalize packetSent p j s = u at hsent hout
  obtain ⟨h1, h2, h3, h4⟩ := packetCounted_shows hp late u
  refine ⟨by rw [← h4] at hout; exact hout, h1.trans (congrArg (fun n => min (n + 1) _) (hsent.rd _ (by simp))),
    h2.trans (congrArg (fun n => min (n + 1) _) (hsent.rd _ (by simp))), ?_⟩
  show ({ (packetCounted p late u).prv with queue := rest, seq := ((packetCounted p late u).prv.seq + 1) % 2 ^ 32 } : PrvSt) = _
  rw [h3, hsent.part]

/-! A frame that nothing else takes (R140, R142). -/

/-- The head of the receive ring moves on by one descriptor. -/
theorem rxHost_head {p : Nat} (hp : p < 8) {s : State} (hne : s.rd (R.NET.RXQ_HEAD p) ≠ s.rd (R.NET.RXQ_TAIL p)) (bytes : List Byte) :
    (s.rxHost p bytes).rd (R.NET.RXQ_HEAD p) = (s.rd (R.NET.RXQ_HEAD p) + 1) % 256 := by
  have hfit : ∀ p < 8, FieldRules.fits (R.NET.RXQ_HEAD p) = true := by decide
  have hown (t : State) : (t.wr (R.NET.RXQ_HEAD p) ((s.rd (R.NET.RXQ_HEAD p) + 1) % 256)).rd (R.NET.RXQ_HEAD p) = (s.rd (R.NET.RXQ_HEAD p) + 1) % 256 :=
    (rd_wr_own t _ (hfit p hp)).trans (Nat.mod_eq_of_lt (Nat.mod_lt _ (by decide)))
  unfold State.rxHost
  rw [if_neg hne]
  dsimp only
  split
  · exact hown _
  · exact hown _

theorem ringDrop_shows {p : Nat} (hp : p < 8) (s : State) : Counted s (s.ringDrop p) (R.NET.CNT_RXQ_DROP p) ∧ Pending (s.ringDrop p) (R.NET.ev_RXQ_DROP p) ∧
    (s.ringDrop p).drm = s.drm := by
  have hk : ∀ p < 8, offKey (R.NET.CNT_RXQ_DROP p) (evtPendKey (R.NET.ev_RXQ_DROP p).page) = true := by decide
  refine ⟨(rd_raise_sep _ (hk p hp)).trans (counted_inc s rfl rfl), pending_raise _ (show 3 < 32 by decide), ?_⟩
  exact (partFrame (F := State.drm) fun _ _ _ => rfl).incRaise s rfl rfl (show 3 < 32 by decide)

/-! What a launch takes. -/

theorem txLaunchFx_host {s : State} {p : Nat} (ht : s.txReady p = true) (hv : s.prvReady p = false) : txLaunchFx p s = s.txHost p := by
  unfold txLaunchFx
  rw [ht, hv]
  rfl

theorem txLaunchFx_preview {s : State} {p : Nat} (ht : s.txReady p = false) (hv : s.prvReady p = true) : txLaunchFx p s = s.txPreview p := by
  unfold txLaunchFx
  rw [ht, hv]
  rfl

/-- A packet is the same whenever it leaves. -/
theorem prvPacket_atTime (s : State) (t0 p j : Nat) : (s.atTime t0).prvPacket p j = s.prvPacket p j := by
  have hline (y : Nat) : (s.atTime t0).prvLine y = s.prvLine y := Preview.prvLine_congr ⟨rfl, rfl, rfl, fun _ => rfl, fun _ => rfl, rfl⟩ (.other rfl rfl) y
  unfold State.prvPacket
  simp only [hline]
  rfl

/-- A launch of a port with link. -/
theorem txFrameLaunch_of {s : State} {p : Nat} (hs : s.isSender = true) (hp : s.netPort p = true) (hup : s.flag (R.NET.LINK_UP p) = true) (t0 : Nat) :
    (s.atTime t0).cond (s.isSender && s.netPort p && s.flag (R.NET.LINK_UP p)) (txLaunchFx p) = txLaunchFx p (s.atTime t0) :=
  cond_of (b := s.isSender && s.netPort p && s.flag (R.NET.LINK_UP p)) (by rw [hs, hp, hup]; rfl) _ _

/-- A frame that nothing else takes. -/
theorem rxOther_shows {p : Nat} (hp : p < 8) {f : NetFrame} (hfcs : f.fcsOk = true) (hlen : 60 ≤ f.bytes.length) (hk : f.kind = .other) (s : State) :
    Counted s (netFrameFx p f s) (R.NET.CNT_RX_FRAMES p) ∧ (netFrameFx p f s).net = s.net ∧
    (s.flag (R.NET.RXQ_EN p) = false → Counted s (netFrameFx p f s) (R.NET.CNT_RX_UNMATCHED p) ∧ (netFrameFx p f s).drm = s.drm) ∧
    (s.flag (R.NET.RXQ_EN p) = true → s.rd (R.NET.RXQ_HEAD p) = s.rd (R.NET.RXQ_TAIL p) →
      Counted s (netFrameFx p f s) (R.NET.CNT_RXQ_DROP p) ∧ Pending (netFrameFx p f s) (R.NET.ev_RXQ_DROP p) ∧ (netFrameFx p f s).drm = s.drm) ∧
    (s.flag (R.NET.RXQ_EN p) = true → s.rd (R.NET.RXQ_HEAD p) ≠ s.rd (R.NET.RXQ_TAIL p) →
      (netFrameFx p f s).rd (R.NET.RXQ_HEAD p) = (s.rd (R.NET.RXQ_HEAD p) + 1) % 256) := by
  have hrest (u : State) : u.rxMatch p f = u.rxRest p f := by
    unfold State.rxMatch
    rw [hk]
  have hkept := rxCounted_stays hp f s
  have hnet : ((rxCounted p f s).rxRest p f).net = (rxCounted p f s).net := by
    have d := staysDram_low (F := State.net) (fs := []) (fun _ _ _ => rfl) (fun _ _ _ => rfl) (fun _ _ => rfl) (fun _ _ _ => rfl) rfl
    exact (frame_rxRest d (fun _ _ => .other rfl rfl) (p := p) (by interval_cases p <;> decide) (by interval_cases p <;> decide) (rxCounted p f s) f).part
  have hcount := rxMatch_counter hp (rxCounted p f s) f
  have hframes := rxCounted_counts hp f s
  have hparts := hkept.part
  simp only [Prod.mk.injEq] at hparts
  obtain ⟨-, hdrm, hnets⟩ := hparts
  have hen : (rxCounted p f s).flag (R.NET.RXQ_EN p) = s.flag (R.NET.RXQ_EN p) := congrArg (· != 0) (hkept.rd _ (by simp [rxKept]))
  have hread {g : Fld} (hg : g ∈ rxKept p) : (rxCounted p f s).rd g = s.rd g := hkept.rd g hg
  rw [hrest] at hcount
  rw [netFrameFx_matched hfcs hlen, hrest]
  refine ⟨hcount.trans hframes, hnet.trans hnets, fun he => ?_, fun he hfull => ?_, fun he hroom => ?_⟩
  · have hun : (rxCounted p f s).rxRest p f = (rxCounted p f s).inc (R.NET.CNT_RX_UNMATCHED p) := by
      unfold State.rxRest
      rw [hen, he]
      rfl
    rw [hun]
    exact ⟨(counted_inc _ rfl rfl).trans (congrArg (fun n => min (n + 1) _) (hread (by simp [rxKept]))), (wr_drm _ _ _).trans hdrm⟩
  · have hdrop : (rxCounted p f s).rxRest p f = (rxCounted p f s).ringDrop p := by
      unfold State.rxRest State.rxHost
      rw [hen, he, if_pos rfl, if_pos (by rw [hread (by simp [rxKept]), hread (by simp [rxKept]), hfull])]
    rw [hdrop]
    obtain ⟨h1, h2, h3⟩ := ringDrop_shows hp (rxCounted p f s)
    exact ⟨h1.trans (congrArg (fun n => min (n + 1) _) (hread (by simp [rxKept]))), h2, h3.trans hdrm⟩
  · have hin : (rxCounted p f s).rxRest p f = (rxCounted p f s).rxHost p f.bytes := by
      unfold State.rxRest
      rw [hen, he, if_pos rfl]
    rw [hin, rxHost_head hp (by rw [hread (by simp [rxKept]), hread (by simp [rxKept])]; exact hroom), hread (by simp [rxKept])]

/-- Settles O41: the reads of a frame and its descriptor leave the queues alone, and in sound DRAM the store of the descriptor's status is the one byte
    that changes. -/
theorem hostQueuesAndTimestamps : Obligations.HostQueuesAndTimestamps := by
  unfold Obligations.HostQueuesAndTimestamps
  refine ⟨fun port t0 v s hs hport => ⟨_, rfl, ?_⟩, fun port t0 s hs hport hup htx hprv hsound hr => ⟨_, rfl, ?_⟩,
    fun port t0 s hs hport hup htx hprv hr hp hq => ⟨_, rfl, ?_⟩, fun port t0 j launch rest s hs hport hup htx hen hnet hq hl => ⟨_, rfl, ?_⟩,
    fun s hon hlen => ⟨⟨_, rfl, ?_⟩, ⟨_, rfl, ?_⟩⟩, fun s hon => ⟨_, rfl, ?_⟩, fun port t0 f s hs hport hen hup hfcs hlen hk => ⟨_, rfl, ?_⟩⟩
  · rw [cond_of (b := s.isSender && s.netPort port) (by rw [hs, hport]; rfl)]
    exact txqTailFx_shows (netPort_lt hport) v (s.atTime t0)
  · rw [txFrameLaunch_of hs hport hup, txLaunchFx_host htx hprv]
    exact txHost_shows (netPort_lt hport) (s := s.atTime t0) hsound hr
  · rw [txFrameLaunch_of hs hport hup, txLaunchFx_host htx hprv]
    obtain ⟨h1, h2, h3, h4⟩ := txHost_drops (netPort_lt hport) (s := s.atTime t0) hr (HostDram.noWrites_of_all (s := s.atTime t0) hq) hp
    exact ⟨fun f hf => List.not_mem_nil (h1 f hf), h2, h3, h4⟩
  · have hready : (s.atTime t0).prvReady port = true := by
      unfold State.prvReady
      rw [show (s.atTime t0).lvB R.PRV.NET_EN = true from hen, show (s.atTime t0).lv R.PRV.NET = port from hnet, show (s.atTime t0).prv.queue = _ from hq]
      simpa using hl
    rw [txFrameLaunch_of hs hport hup, txLaunchFx_preview htx hready, ← prvPacket_atTime s t0]
    exact txPreview_shows (netPort_lt hport) (s := s.atTime t0) hq
  · rw [cond_of (b := s.pageOn 0x008) hon]
    have hrest : (s.net.tsq.drop 1).length = s.net.tsq.length - 1 := List.length_drop
    obtain ⟨h1, h2, h3, h4⟩ := tsqTaken s.start (q := s.net.tsq.drop 1) (by omega)
    refine ⟨h1, h2.trans hrest, h3.trans ?_, h4⟩
    rw [hrest]
    exact decide_eq_decide.mpr (by omega)
  · rw [cond_of (b := s.pageOn 0x008) hon]
    exact tsqTaken s.start (q := []) (Nat.zero_le _)
  · rw [cond_of (b := s.pageOn 0x008) hon]
    exact ⟨onlyRegs_trans (onlyRegs_start s) (onlyRegs_wr _ _ _), rd_wr_own s.start 0 rfl, wordsKept_wr s.start (by decide) 0⟩
  · rw [cond_of (b := s.isSender && s.netPort port && s.lvB (R.NET.EN port) && s.flag (R.NET.LINK_UP port)) (by rw [hs, hport, hen, hup]; rfl)]
    exact rxOther_shows (netPort_lt hport) hfcs hlen hk (s.atTime t0)

end Sys2Proof.Proofs.HostQueues


/-!
THEOREMS. The decoder's pictures (07 R162 to R182): what a decoded picture leaves alone on its way through the DPB to its surface, and what is concealed.
Settles O44.
-/

namespace Sys2Proof.Proofs.Decoding
open Sys2Proof.Machine Sys2Proof.Laws Sys2Proof.Proofs.Frames Sys2Proof.Proofs.FieldRules Sys2Proof.Proofs.Framing Sys2Proof.Proofs.DramFrames
  Sys2Proof.Proofs.PageFrames Sys2Proof.Proofs.DramReaders Sys2Proof.Proofs.LineCompose Sys2Proof.Proofs.Surfaces Sys2Proof.Proofs.DecoderFrames

/-! What the storage and the output of pictures leave alone. -/

/-- A stream's record without its DPB. -/
def besideDpb (d : DecSt) : DecSt := { d with dpb := [] }

/-- The fields that the storage of a picture writes, and those that its output writes. -/
def storeFields (n : Nat) : List Fld := [R.DEC.CNT_BOUNDS, R.DEC.LAST_STREAM, R.DEC.DPB_USED n]
def outFields (n : Nat) : List Fld :=
  [R.STR.CNT_NOBUF n, R.DEC.CONC_MASK n, R.DEC.CNT_PICTURES n, R.STR.STATE n, R.STR.READY_IDX n, R.STR.READY_VALID n, R.STR.READY_RTP n]

/-- All that accesses to stored pictures need of a relation. -/
structure AccessRel (n : Nat) (Rel : State → State → Prop) (W : Fld → Bool) (E : Nat → Bool) : Prop where
  frame : Frame Rel W E
  store : ∀ (s : State) (off : Nat) (data : List Byte), Rel s (s.dramStore off data)
  read : ∀ (s : State) (a k : Nat), Rel s (s.readUe a k)
  fields : ∀ f ∈ storeFields n, W f = true
  event : E 0x030 = true

/-- What changes of the DPB need beside it. -/
structure StoreRel (n : Nat) (Rel : State → State → Prop) (W : Fld → Bool) (E : Nat → Bool) : Prop extends AccessRel n Rel W E where
  dpb : ∀ (s : State) (f : DecSt → DecSt), (∀ x, besideDpb (f x) = besideDpb x) → Rel s (s.modDec n f)
  load : ∀ (s : State) (l : List (Nat × Nat)), Rel s { s with dec := { s.dec with recent := l } }

/-- What the output of a picture needs beside it. -/
structure OutputRel (n : Nat) (Rel : State → State → Prop) (W : Fld → Bool) (E : Nat → Bool) : Prop extends AccessRel n Rel W E where
  free : ∀ (s : State) (k : Nat), Rel s { s with free := k }
  layers : LayerFree Rel
  outs : ∀ f ∈ outFields n, W f = true
  fences : ∀ l, l < 16 → ∀ f ∈ fenceFields l, W f = true
  strEvent : E (0x020 + n) = true

section
variable {n : Nat} {Rel : State → State → Prop} {W : Fld → Bool} {E : Nat → Bool} (d : AccessRel n Rel W E)
include d

theorem frame_noted (s : State) {e : Evt} (he : e.page = 0x030) (hb : e.bit < 32) : Rel s (s.decRaise n e) :=
  d.frame.trans (d.frame.wr s _ (d.fields _ (by simp [storeFields]))) (d.frame.raise _ (by rw [he]; exact d.event) hb)

theorem frame_outOfBounds (s : State) (k : Nat) : Rel s (s.outOfBounds n k) :=
  d.frame.cond fun _ => d.frame.trans (d.frame.incBy s k (d.fields R.DEC.CNT_BOUNDS (by simp [storeFields]))) (frame_noted d _ (e := R.DEC.ev_BOUNDS) rfl (by decide))

theorem frame_concealed (hc : W (R.DEC.CNT_CONCEALED n) = true) (s : State) : Rel s (s.concealed n) :=
  d.frame.trans (d.frame.inc s hc) (frame_noted d _ (e := R.DEC.ev_CONCEALED) rfl (by decide))

theorem frame_showDpb (s : State) : Rel s (s.showDpb n) := d.frame.wr s _ (d.fields _ (by simp [storeFields]))

theorem frame_refsRead (s : State) (p : DecPic) : Rel s (s.refsRead n p).1 := d.frame.each fun t _ _ => d.read t _ _

end

section
variable {n : Nat} {Rel : State → State → Prop} {W : Fld → Bool} {E : Nat → Bool} (d : StoreRel n Rel W E)
include d

theorem frame_dpbStore (s : State) (q : DpbPic) (pl : Planes) : Rel s (s.dpbStore n q pl) := by
  unfold State.dpbStore
  refine d.frame.trans ?_ (frame_showDpb d.toAccessRel _)
  refine d.frame.trans ?_ (d.dpb _ _ fun _ => rfl)
  exact d.frame.trans (d.store s _ _) (frame_outOfBounds d.toAccessRel _ _)

theorem frame_dpbMissing (s : State) (p : DecPic) (missing : List Int) : Rel s (s.dpbMissing n p missing) :=
  d.frame.each fun t _ _ => frame_dpbStore d t _ _

/-! Bumping, whatever a picture's output does. -/

variable (hout : ∀ (s : State) (q : DpbPic), Rel s (s.decOutput n q))
include hout

theorem frame_bump (s : State) : Rel s (s.bump n) := by
  unfold State.bump
  split
  · exact d.frame.refl s
  · exact d.frame.trans (hout s _) (d.dpb _ _ fun _ => rfl)

theorem frame_bumpWhile (sps : Sps) (full : Bool) (fuel : Nat) (s : State) : Rel s (s.bumpWhile n sps full fuel) := by
  induction fuel generalizing s with
  | zero => exact d.frame.refl s
  | succ fuel ih =>
    unfold State.bumpWhile
    exact d.frame.ite (fun _ => d.frame.trans (frame_bump d hout s) (ih _)) fun _ => d.frame.refl s

theorem frame_bumpAll (s : State) : Rel s (s.bumpAll n) := by
  unfold State.bumpAll
  refine d.frame.trans ?_ (frame_showDpb d.toAccessRel _)
  exact d.frame.trans (d.frame.each fun t _ _ => frame_bump d hout t) (d.dpb _ _ fun _ => rfl)

theorem frame_dpbBefore (s : State) (p : DecPic) (start : Bool) : Rel s (s.dpbBefore n p start) := by
  unfold State.dpbBefore
  refine d.frame.ite (fun _ => d.frame.ite (fun _ => d.dpb s _ fun _ => rfl) fun _ => frame_bumpAll d hout s) fun _ => ?_
  refine d.frame.trans (t := s.modDec n _) (d.dpb s _ ?_) (frame_bumpWhile d hout _ _ _ _)
  exact fun _ => rfl

end

/-! The output of a picture. -/

/-- The bytes of a surface. -/
def outRoom (s : State) (n : Nat) : Nat := s.lv (R.STR.BUF_STRIDE n) * 4096
def outFits (s : State) (n : Nat) : Bool := decide (slabBytes (decSize s.lv n).1 (decSize s.lv n).2 ≤ outRoom s n)

/-- The surface has been written. -/
def outStored (n i : Nat) (q : DpbPic) (s : State) : State :=
  (((s.fresh.2.dpbRead n q).1.storeBlocks ((s.fresh.2.dpbRead n q).1.lv (R.STR.BUF_BASE n) + i * outRoom s n) (decSize s.lv n).1 (decSize s.lv n).2
    (min (slabBytes (decSize s.lv n).1 (decSize s.lv n).2) (outRoom s n) / 2048) ((s.fresh.2.dpbRead n q).1.decRows n q (s.fresh.2.dpbPlanes n q) s.fresh.1)).outOfBounds n (b2n (!outFits s n)))

/-- It shows. -/
def outShown (n i : Nat) (q : DpbPic) (conc : Bool) (s : State) : State :=
  (((s.wr (R.DEC.CONC_MASK n) (withBit (s.rd (R.DEC.CONC_MASK n)) i conc)).inc (R.DEC.CNT_PICTURES n)).wr (R.STR.STATE n) 3).strReady n i q.rtp

theorem decOutput_none {s : State} {n : Nat} (h : s.nextSurface n (s.lv (R.STR.BUF_COUNT n)) = none) (q : DpbPic) :
    s.decOutput n q = s.incRaise (R.STR.CNT_NOBUF n) (R.STR.ev_NOBUF n) := by
  unfold State.decOutput
  rw [h]

theorem decOutput_some {s : State} {n i : Nat} (h : s.nextSurface n (s.lv (R.STR.BUF_COUNT n)) = some i) (q : DpbPic) :
    s.decOutput n q = outShown n i q (q.conc || (s.fresh.2.dpbRead n q).2 || !outFits s n)
      ((outStored n i q s).cond (!q.conc && ((s.fresh.2.dpbRead n q).2 || !outFits s n)) (fun s => s.concealed n)) := by
  unfold State.decOutput
  rw [h]
  rfl

theorem frame_outStored {n : Nat} {Rel : State → State → Prop} {W : Fld → Bool} {E : Nat → Bool} (d : AccessRel n Rel W E)
    (hfree : ∀ (s : State) (k : Nat), Rel s { s with free := k }) (s : State) (i : Nat) (q : DpbPic) : Rel s (outStored n i q s) := by
  unfold outStored
  refine d.frame.trans ?_ (frame_outOfBounds d _ _)
  refine d.frame.trans ?_ (d.frame.each fun t _ _ => d.store t _ _)
  exact d.frame.trans (hfree s _) (d.read _ _ _)

section
variable {n : Nat} {Rel : State → State → Prop} {W : Fld → Bool} {E : Nat → Bool} (d : OutputRel n Rel W E)
include d

theorem frame_strReady (s : State) (i rtp : Nat) : Rel s (s.strReady n i rtp) := by
  have hw {f : Fld} (hf : f ∈ outFields n) (t : State) (v : Nat) : Rel t (t.wr f v) := d.frame.wr t v (d.outs f hf)
  unfold State.strReady
  refine d.frame.trans ?_ (frame_signalStream d.frame d.layers d.fences _ _ _ _)
  exact d.frame.trans (d.frame.trans (hw (by simp [outFields]) s _) (hw (by simp [outFields]) _ _)) (hw (by simp [outFields]) _ _)

theorem frame_outShown (s : State) (i : Nat) (q : DpbPic) (conc : Bool) : Rel s (outShown n i q conc s) := by
  have hw {f : Fld} (hf : f ∈ outFields n) (t : State) (v : Nat) : Rel t (t.wr f v) := d.frame.wr t v (d.outs f hf)
  unfold outShown
  refine d.frame.trans ?_ (frame_strReady d _ _ _)
  exact d.frame.trans (d.frame.trans (hw (by simp [outFields]) s _) (d.frame.inc _ (d.outs _ (by simp [outFields])))) (hw (by simp [outFields]) _ _)

theorem frame_noSurface (s : State) : Rel s (s.incRaise (R.STR.CNT_NOBUF n) (R.STR.ev_NOBUF n)) :=
  d.frame.incRaise s (d.outs _ (by simp [outFields])) d.strEvent (show 3 < 32 by decide)

/-- The output of a picture, for a relation that may count it as concealed. -/
theorem frame_decOutput (hc : W (R.DEC.CNT_CONCEALED n) = true) (s : State) (q : DpbPic) : Rel s (s.decOutput n q) := by
  rcases h : s.nextSurface n (s.lv (R.STR.BUF_COUNT n)) with _ | i
  · rw [decOutput_none h]
    exact frame_noSurface d s
  · rw [decOutput_some h]
    exact d.frame.trans (d.frame.trans (frame_outStored d.toAccessRel d.free s i q) (d.frame.cond fun _ => frame_concealed d.toAccessRel hc _)) (frame_outShown d _ _ _ _)

/-- The same of a picture that can be read and written whole. -/
theorem frame_wholeOutput {s : State} (hs : s.soundDram = true) (hfit : outFits s n = true) (q : DpbPic) : Rel s (s.decOutput n q) := by
  rcases h : s.nextSurface n (s.lv (R.STR.BUF_COUNT n)) with _ | i
  · rw [decOutput_none h]
    exact frame_noSurface d s
  · have hgood : (s.fresh.2.dpbRead n q).2 = false := unsound_of_sound (s := s.fresh.2) hs _ _
    rw [decOutput_some h, hgood, hfit, cond_of_not (b := !q.conc && (false || !true)) (by rw [Bool.not_true, Bool.or_self, Bool.and_false])]
    exact d.frame.trans (frame_outStored d.toAccessRel d.free s i q) (frame_outShown d _ _ _ _)

end

/-! DRAM stays sound. -/

/-- The channels, and which of them are in FAULT. -/
def SameFault (s t : State) : Prop := t.drm.chans = s.drm.chans ∧ ∀ c, t.flag (R.DRM.st_FAULT c) = s.flag (R.DRM.st_FAULT c)

theorem sameFault_of {s t : State} (h : ReadsAlike s t) : SameFault s t := ⟨h.chans, h.fault⟩

/-- Accesses of DRAM put no channel in FAULT. -/
theorem sameFaultDram : DramRel SameFault besideReaders (fun _ => true) where
  frame :=
    { refl := fun _ => ⟨rfl, fun _ => rfl⟩
      trans := fun h h' => ⟨h'.1.trans h.1, fun c => (h'.2 c).trans (h.2 c)⟩
      wr := fun s _ v hg => sameFault_of (readsAlikeFrame.wr s v hg)
      raise := fun s _ he hb => sameFault_of (readsAlikeFrame.raise s he hb)
      level := fun s _ b he hb => sameFault_of (readsAlikeFrame.level s b he hb) }
  coil _ _ _ := ⟨rfl, fun _ => rfl⟩
  red _ _ := ⟨rfl, fun _ => rfl⟩
  dram _ _ h := ⟨h.chans, fun _ => rfl⟩
  relinquish := by decide
  ue := readsAlikeReads.ue
  access := readsAlikeReads.access
  oor := readsAlikeReads.oor
  chEvt _ := rfl
  redEvt := rfl

theorem sound_readUe {s : State} (h : s.soundDram = true) (a k : Nat) : (s.readUe a k).soundDram = true :=
  (soundDram_congr (readsAlikeReads.frame_readUe s a k)).trans h

theorem sound_dramStore {s : State} (h : s.soundDram = true) (off : Nat) (data : List Byte) : (s.dramStore off data).soundDram = true := by
  obtain ⟨hchans, hfault⟩ := frame_dramStore sameFaultDram (fun _ _ => ⟨rfl, fun _ => rfl⟩) s off data
  have hp : s.drm.poison = [] := by
    unfold State.soundDram at h
    exact List.isEmpty_iff.mp ((Bool.and_eq_true _ _).mp h).1
  have hp' := (unpoisoned_dramStore s off data hp).1
  unfold State.soundDram State.channels at h ⊢
  rw [hp', hchans]
  rw [hp] at h
  simp only [hfault]
  exact h

/-! The relations under which pictures are decoded. -/

/-- A part of the state and fields that stay. -/
theorem staysAccess {n : Nat} {β : Type} {F : State → β} {fs : List Fld} (hF : RegsFree F)
    (hC : ∀ (s : State) (c : List (Nat × CoilSt)) (o : List Output), F { s with coil := c, out := o } = F s)
    (hR : ∀ (s : State) (r : RedSt), F { s with red := r } = F s) (hD : ∀ (s : State) (d : DramSt), F { s with drm := d } = F s) (hlow : lowFields fs = true)
    (hfields : ∀ f ∈ storeFields n, apartFrom fs f = true) (hev : quietFor fs 0x030 = true) : AccessRel n (Stays F fs) (apartFrom fs) (quietFor fs) :=
  have d := staysDram_low hF hC hR (fun s d _ => hD s d) hlow
  { frame := d.frame
    store := frame_dramStore d fun s _ => .other (hD s _) rfl
    read := frame_readUe d
    fields := hfields
    event := hev }

/-- The record of a stream beside its DPB. -/
def decSide (n : Nat) (s : State) : DecSt := besideDpb (s.decSt n)

theorem decSide_dpb (n : Nat) (s : State) (f : DecSt → DecSt) (hf : ∀ x, besideDpb (f x) = besideDpb x) : decSide n (s.modDec n f) = decSide n s := by
  unfold decSide
  rw [decSt_modDec, hf]

theorem late_of_side {n : Nat} {s t : State} (h : decSide n t = decSide n s) : (t.decSt n).late = (s.decSt n).late :=
  congrArg (fun x : DecSt => x.late) (a₁ := besideDpb (t.decSt n)) (a₂ := besideDpb (s.decSt n)) h

theorem sideStore {n : Nat} {fs : List Fld} (hlow : lowFields fs = true) (hfields : ∀ f ∈ storeFields n, apartFrom fs f = true) (hev : quietFor fs 0x030 = true) :
    StoreRel n (Stays (decSide n) fs) (apartFrom fs) (quietFor fs) :=
  { staysAccess (F := decSide n) (fun _ _ _ => rfl) (fun _ _ _ => rfl) (fun _ _ => rfl) (fun _ _ => rfl) hlow hfields hev with
    dpb := fun s f hf => .other (decSide_dpb n s f hf) rfl
    load := fun _ _ => .other rfl rfl }

/-- A part of the state that is beside what an output changes. -/
theorem staysOutput {n : Nat} {β : Type} {F : State → β} {fs : List Fld} (hF : RegsFree F)
    (hC : ∀ (s : State) (c : List (Nat × CoilSt)) (o : List Output), F { s with coil := c, out := o } = F s)
    (hR : ∀ (s : State) (r : RedSt), F { s with red := r } = F s) (hD : ∀ (s : State) (d : DramSt), F { s with drm := d } = F s)
    (hfree : ∀ (s : State) (k : Nat), F { s with free := k } = F s)
    (hL : ∀ (s : State) (l : List (Nat × LayerSt)) (x : List (Nat × StrSt)), F { s with lyr := l, str := x } = F s) (hlow : lowFields fs = true)
    (hfields : ∀ f ∈ storeFields n ++ outFields n, apartFrom fs f = true) (hfence : ∀ l, l < 16 → ∀ f ∈ fenceFields l, apartFrom fs f = true)
    (hev : quietFor fs 0x030 = true) (hstr : quietFor fs (0x020 + n) = true) : OutputRel n (Stays F fs) (apartFrom fs) (quietFor fs) :=
  { staysAccess (F := F) hF hC hR hD hlow (fun f hf => hfields f (List.mem_append_left _ hf)) hev with
    free := fun s k => .other (hfree s k) rfl
    layers := fun s l x => .other (hL s l x) rfl
    outs := fun f hf => hfields f (List.mem_append_right _ hf)
    fences := hfence
    strEvent := hstr }

theorem sideOutput {n : Nat} {fs : List Fld} (hlow : lowFields fs = true) (hfields : ∀ f ∈ storeFields n ++ outFields n, apartFrom fs f = true)
    (hfence : ∀ l, l < 16 → ∀ f ∈ fenceFields l, apartFrom fs f = true) (hev : quietFor fs 0x030 = true) (hstr : quietFor fs (0x020 + n) = true) :
    OutputRel n (Stays (decSide n) fs) (apartFrom fs) (quietFor fs) :=
  staysOutput (fun _ _ _ => rfl) (fun _ _ _ => rfl) (fun _ _ => rfl) (fun _ _ => rfl) (fun _ _ => rfl) (fun _ _ _ => rfl) hlow hfields hfence hev hstr

/-- The fields that a surface's size follows, and those that stay while nothing is concealed. -/
def sizeFields (n : Nat) : List Fld :=
  [(R.STR.BUF_STRIDE n).live, (R.DEC.SCALE_EN n).live, (R.DEC.OUT_W n).live, (R.DEC.OUT_H n).live, (R.STR.WIDTH n).live, (R.STR.HEIGHT n).live,
   (R.DEC.ROT n).live]
def calmFields (n : Nat) : List Fld := R.DEC.CNT_CONCEALED n :: (R.DEC.DPB_SIZE n).live :: sizeFields n

theorem outFits_congr {s t : State} {n : Nat} (h : ∀ f ∈ sizeFields n, t.rd f = s.rd f) : outFits t n = outFits s n := by
  have hlv {f : Fld} (hf : f.live ∈ sizeFields n) : t.lv f = s.lv f := h _ hf
  unfold outFits outRoom decSize
  rw [hlv (f := R.STR.BUF_STRIDE n) (by simp [sizeFields]), hlv (f := R.DEC.SCALE_EN n) (by simp [sizeFields]), hlv (f := R.DEC.OUT_W n) (by simp [sizeFields]),
    hlv (f := R.DEC.OUT_H n) (by simp [sizeFields]), hlv (f := R.STR.WIDTH n) (by simp [sizeFields]), hlv (f := R.STR.HEIGHT n) (by simp [sizeFields]),
    hlv (f := R.DEC.ROT n) (by simp [sizeFields])]

/-- In sound DRAM, with surfaces that hold their pictures, nothing is concealed on the way. -/
def Calm (n : Nat) (s t : State) : Prop :=
  s.soundDram = true → outFits s n = true → t.soundDram = true ∧ Stays (decSide n) (calmFields n) s t

theorem Calm.fits {n : Nat} {s t : State} (hf : outFits s n = true) (h : Stays (decSide n) (calmFields n) s t) : outFits t n = true :=
  (outFits_congr fun f hx => h.rd f (List.mem_cons_of_mem _ (List.mem_cons_of_mem _ hx))).trans hf

/-- What the calm fields are apart from. -/
theorem calmFields_apart : ∀ n < 16, lowFields (calmFields n) = true ∧ (∀ f ∈ storeFields n ++ outFields n, (apartFrom (calmFields n) f && besideReaders f) = true) ∧
    (∀ l < 16, ∀ f ∈ fenceFields l, (apartFrom (calmFields n) f && besideReaders f) = true) ∧ quietFor (calmFields n) 0x030 = true ∧
    quietFor (calmFields n) (0x020 + n) = true := by decide +kernel

/-- What is calm may be stored and output. -/
theorem calmRel {n : Nat} (hn : n < 16) :
    StoreRel n (Calm n) (fun g => apartFrom (calmFields n) g && besideReaders g) (quietFor (calmFields n)) ∧
    OutputRel n (Calm n) (fun g => apartFrom (calmFields n) g && besideReaders g) (quietFor (calmFields n)) := by
  obtain ⟨hlow, hfields, hfence, hev, hstr⟩ := calmFields_apart n hn
  have hleft {f : Fld} (h : (apartFrom (calmFields n) f && besideReaders f) = true) : apartFrom (calmFields n) f = true := ((Bool.and_eq_true _ _).mp h).1
  have hright {f : Fld} (h : (apartFrom (calmFields n) f && besideReaders f) = true) : besideReaders f = true := ((Bool.and_eq_true _ _).mp h).2
  have c := sideStore hlow (fun f hf => hleft (hfields f (List.mem_append_left _ hf))) hev
  have d := sideOutput hlow (fun f hf => hleft (hfields f hf)) (fun l hl f hf => hleft (hfence l hl f hf)) hev hstr
  have hkeep {s t : State} (h : ReadsAlike s t) (hst : Stays (decSide n) (calmFields n) s t) : Calm n s t := fun hs _ => ⟨(soundDram_congr h).trans hs, hst⟩
  have hsame {s t : State} (hd : t.drm = s.drm) (hr : t.regs = s.regs) (hst : Stays (decSide n) (calmFields n) s t) : Calm n s t :=
    hkeep (readsAlike_of hd fun c f _ => rd_congr hr f) hst
  have haccess : AccessRel n (Calm n) (fun g => apartFrom (calmFields n) g && besideReaders g) (quietFor (calmFields n)) :=
    { frame :=
        { refl := fun s hs _ => ⟨hs, d.frame.refl s⟩
          trans := fun h h' hs hf => by
            obtain ⟨h1, h2⟩ := h hs hf
            obtain ⟨h3, h4⟩ := h' h1 (Calm.fits hf h2)
            exact ⟨h3, d.frame.trans h2 h4⟩
          wr := fun s f v hg => hkeep (readsAlikeFrame.wr s v (hright hg)) (d.frame.wr s v (hleft hg))
          raise := fun s e he hb => hkeep (readsAlikeFrame.raise s rfl hb) (d.frame.raise s he hb)
          level := fun s e b he hb => hkeep (readsAlikeFrame.level s b rfl hb) (d.frame.level s b he hb) }
      store := fun s off data hs _ => ⟨sound_dramStore hs off data, d.store s off data⟩
      read := fun s a k hs _ => ⟨sound_readUe hs a k, d.read s a k⟩
      fields := fun f hf => hfields f (List.mem_append_left _ hf)
      event := hev }
  exact ⟨{ haccess with
      dpb := fun s f hf => hsame rfl rfl (c.dpb s f hf)
      load := fun s l => hsame rfl rfl (c.load s l) }, { haccess with
      free := fun s k => hsame rfl rfl (d.free s k)
      layers := fun s l x => hsame rfl rfl (d.layers s l x)
      outs := fun f hf => hfields f (List.mem_append_right _ hf)
      fences := hfence
      strEvent := hstr }⟩

theorem calm_decOutput {n : Nat} (hn : n < 16) (s : State) (q : DpbPic) : Calm n s (s.decOutput n q) :=
  fun hs hf => frame_wholeOutput (calmRel hn).2 hs hf q hs hf

/-! A picture on its way (R162 to R180). -/

/-- The references that the DPB lacks, once it is ready for a picture. -/
def lacking (p : DecPic) (u : State) (n : Nat) : List Int := p.refs.filter (fun k => (u.decSt n).dpb.all (fun q => q.poc != k))

/-- The DPB is ready for a picture, with what it lacked replaced. -/
def readied (n : Nat) (p : DecPic) (s : State) : State := (s.dpbBefore n p false).dpbMissing n p (lacking p (s.dpbBefore n p false) n)

/-- Its references have been read. -/
def refsTaken (n : Nat) (p : DecPic) (s : State) : State := ((readied n p s).refsRead n p).1

/-- The picture is concealed. -/
def picConc (n : Nat) (a : Au) (p : DecPic) (bad : Bool) (s : State) : Bool :=
  ((refsTaken n p s).decSt n).late || !(lacking p (s.dpbBefore n p false) n).isEmpty || !p.badCtus.isEmpty || a.slices == 0 || decide (0 < p.bounds) ||
    p.poisoned || bad || ((readied n p s).refsRead n p).2 || !(refsTaken n p s).dpbInside n p.sps (freeSlot ((refsTaken n p s).decSt n).dpb)

/-- That counts. -/
def picNoted (n : Nat) (a : Au) (p : DecPic) (bad : Bool) (s : State) : State :=
  ((refsTaken n p s).outOfBounds n p.bounds).cond (picConc n a p bad s) (fun s => s.concealed n)

/-- What the stream's record notes of it, its place in the DPB, and its samples. -/
def picMark (n : Nat) (a : Au) (p : DecPic) (s : State) (x : DecSt) : DecSt :=
  { x with
    late := false, nextBottom := !(p.parity.getD (!a.irap && ((refsTaken n p s).decSt n).nextBottom))
    last := if (false || ((refsTaken n p s).decSt n).last.all (fun l => decide (l.1 ≤ p.poc))) = true then
        some (p.poc, decPlanes p a.slices (((refsTaken n p s).decSt n).last.map Prod.snd)) else x.last
    dpb := x.dpb.map (fun q => if q.wait && p.outputFlag && decide (p.poc < q.poc) then { q with latency := q.latency + 1 } else q) }
def picEntry (n : Nat) (a : Au) (p : DecPic) (bad : Bool) (s : State) : DpbPic :=
  { slot := freeSlot ((refsTaken n p s).decSt n).dpb, poc := p.poc, ref := true, wait := p.outputFlag, latency := 0, sps := p.sps,
    bottom := p.parity.getD (!a.irap && ((refsTaken n p s).decSt n).nextBottom), rtp := p.rtp, conc := picConc n a p bad s }
def picPlanes (n : Nat) (a : Au) (p : DecPic) (s : State) : Planes := decPlanes p a.slices (((refsTaken n p s).decSt n).last.map Prod.snd)

/-- It has joined the DPB. -/
def picStored (n : Nat) (a : Au) (p : DecPic) (bad : Bool) (s : State) : State :=
  ((picNoted n a p bad s).modDec n (picMark n a p s)).dpbStore n (picEntry n a p bad s) (picPlanes n a p s)

theorem decPicture_eq (s : State) (n : Nat) (a : Au) (p : DecPic) (bad : Bool) : s.decPicture n a p false bad =
    (((picStored n a p bad s).noteLoad (p.sps.width * p.sps.height)).bumpWhile n p.sps false ((picStored n a p bad s).decSt n).dpb.length).showDpb n := by
  unfold State.decPicture picStored picNoted picEntry picMark picPlanes picConc refsTaken readied lacking
  rfl

section
variable {n : Nat} {Rel : State → State → Prop} {W : Fld → Bool} {E : Nat → Bool} (d : StoreRel n Rel W E)
include d

theorem frame_refsTaken (hout : ∀ (s : State) (q : DpbPic), Rel s (s.decOutput n q)) (p : DecPic) (s : State) : Rel s (refsTaken n p s) :=
  d.frame.trans (d.frame.trans (frame_dpbBefore d hout s p false) (frame_dpbMissing d _ p _)) (frame_refsRead d.toAccessRel _ p)

/-- The storage of a picture, after its record has been marked. -/
theorem frame_picStored (a : Au) (p : DecPic) (bad : Bool) (s : State) : Rel ((picNoted n a p bad s).modDec n (picMark n a p s)) (picStored n a p bad s) :=
  frame_dpbStore d _ _ _

end

/-! What the DPB holds. -/

/-- The DPB holds no more than before, and of the pictures that are references the same. -/
structure DpbKept (refs : List Int) (d0 d : List DpbPic) : Prop where
  size : d.length ≤ d0.length
  old : ∀ q ∈ d, ∃ q0 ∈ d0, q0.poc = q.poc
  refs : ∀ q0 ∈ d0, q0.poc ∈ refs → ∃ q ∈ d, q.poc = q0.poc ∧ q.ref = true

/-- Pictures that leave are no references. -/
theorem DpbKept.left {refs : List Int} {d0 d : List DpbPic} (h : DpbKept refs d0 d) {f : DpbPic → DpbPic} (hf : ∀ q, (f q).poc = q.poc ∧ (f q).ref = q.ref) :
    DpbKept refs d0 ((d.map f).filter (fun q => q.wait || q.ref)) where
  size := ((List.length_filter_le _ _).trans_eq (List.length_map f)).trans h.size
  old q hq := by
    obtain ⟨q1, hq1, rfl⟩ := List.mem_map.mp (List.mem_filter.mp hq).1
    obtain ⟨q0, h0, hp⟩ := h.old q1 hq1
    exact ⟨q0, h0, hp.trans (hf q1).1.symm⟩
  refs q0 h0 hr := by
    obtain ⟨q, hq, hp, href⟩ := h.refs q0 h0 hr
    exact ⟨f q, List.mem_filter.mpr ⟨List.mem_map.mpr ⟨q, hq, rfl⟩, by rw [(hf q).2, href, Bool.or_true]⟩, (hf q).1.trans hp, (hf q).2.trans href⟩

/-- The output of a picture leaves the records of the decoder alone. -/
theorem decOutput_dec {n : Nat} (hn : n < 16) (s : State) (q : DpbPic) : (s.decOutput n q).decSt n = s.decSt n := by
  have hall : ∀ n < 16, (∀ f ∈ storeFields n ++ outFields n, apartFrom [] f = true) ∧ (∀ l, l < 16 → ∀ f ∈ fenceFields l, apartFrom [] f = true) ∧
      apartFrom [] (R.DEC.CNT_CONCEALED n) = true := by decide +kernel
  obtain ⟨hfields, hfence, hc⟩ := hall n hn
  have d := staysOutput (F := fun s : State => s.decSt n) (fs := []) (n := n) (fun _ _ _ => rfl) (fun _ _ _ => rfl) (fun _ _ => rfl) (fun _ _ => rfl)
    (fun _ _ => rfl) (fun _ _ _ => rfl) rfl hfields hfence rfl rfl
  exact (frame_decOutput d hc s q).part

theorem dpbKept_bump {n : Nat} (hn : n < 16) {refs : List Int} {d0 : List DpbPic} {s : State} (h : DpbKept refs d0 (s.decSt n).dpb) :
    DpbKept refs d0 ((s.bump n).decSt n).dpb := by
  unfold State.bump
  split
  · exact h
  · next q hq =>
    rw [decSt_modDec, decOutput_dec hn]
    exact h.left fun x => by split <;> exact ⟨rfl, rfl⟩

theorem dpbKept_bumpWhile {n : Nat} (hn : n < 16) {refs : List Int} {d0 : List DpbPic} (sps : Sps) (full : Bool) (fuel : Nat) :
    ∀ {s : State}, DpbKept refs d0 (s.decSt n).dpb → DpbKept refs d0 ((s.bumpWhile n sps full fuel).decSt n).dpb := by
  induction fuel with
  | zero => exact fun h => h
  | succ fuel ih =>
    intro s h
    unfold State.bumpWhile
    dsimp only
    split
    · exact ih (dpbKept_bump hn h)
    · exact h

/-- Before a picture that starts no sequence, what it refers to stays. -/
theorem dpbKept_before {n : Nat} (hn : n < 16) (p : DecPic) (s : State) : DpbKept p.refs (s.decSt n).dpb ((s.dpbBefore n p false).decSt n).dpb := by
  unfold State.dpbBefore
  refine dpbKept_bumpWhile hn _ _ _ ?_
  rw [decSt_modDec]
  exact
    { size := (List.length_filter_le _ _).trans_eq (List.length_map _)
      old := fun q hq => by
        obtain ⟨q0, h0, rfl⟩ := List.mem_map.mp (List.mem_filter.mp hq).1
        exact ⟨q0, h0, rfl⟩
      refs := fun q0 h0 hr => by
        have href : p.refs.contains q0.poc = true := List.contains_iff_mem.mpr hr
        exact ⟨{ q0 with ref := p.refs.contains q0.poc }, List.mem_filter.mpr ⟨List.mem_map.mpr ⟨q0, h0, rfl⟩, by rw [href, Bool.or_true]⟩, rfl, href⟩ }

/-- What is lacking is what the DPB lacked before. -/
theorem lacking_isEmpty {n : Nat} (hn : n < 16) (p : DecPic) (s : State) :
    (!(lacking p (s.dpbBefore n p false) n).isEmpty) = p.refs.any (fun k => (s.decSt n).dpb.all (fun q => q.poc != k)) := by
  have hkept := dpbKept_before hn p s
  have hsame : ∀ k ∈ p.refs, ((s.dpbBefore n p false).decSt n).dpb.all (fun q => q.poc != k) = (s.decSt n).dpb.all (fun q => q.poc != k) := by
    intro k hk
    rw [Bool.eq_iff_iff, List.all_eq_true, List.all_eq_true]
    constructor
    · intro h q0 h0
      by_contra hne
      have hpoc : q0.poc = k := by simpa using hne
      obtain ⟨q, hq, hp, -⟩ := hkept.refs q0 h0 (by rw [hpoc]; exact hk)
      have := h q hq
      rw [hp, hpoc] at this
      simp at this
    · intro h q hq
      obtain ⟨q0, h0, hp⟩ := hkept.old q hq
      rw [← hp]
      exact h q0 h0
  unfold lacking
  rw [List.filter_congr hsame]
  generalize p.refs = ks
  induction ks with
  | nil => rfl
  | cons k ks ih =>
    rw [List.filter_cons, List.any_cons]
    cases h : (s.decSt n).dpb.all (fun q => q.poc != k)
    · rw [if_neg (by decide), Bool.false_or]
      exact ih
    · rfl

/-- The place of a picture is one of those that the pictures held, and it, can take. -/
theorem freeSlot_le (dpb : List DpbPic) : freeSlot dpb ≤ dpb.length := by
  unfold freeSlot
  rcases h : (List.range (dpb.length + 1)).find? (fun i => dpb.all (fun q => q.slot != i)) with _ | i
  · exact le_rfl
  · have := List.mem_range.mp (List.mem_of_find?_eq_some h)
    exact Nat.le_of_lt_succ this

/-- The storage of a picture adds it to the DPB. -/
theorem dpbStore_dpb {n : Nat} (hn : n < 16) (s : State) (q : DpbPic) (pl : Planes) : ((s.dpbStore n q pl).decSt n).dpb = (s.decSt n).dpb ++ [q] := by
  have hall : ∀ n < 16, ∀ f ∈ storeFields n, apartFrom [] f = true := by decide
  have d := staysAccess (F := fun s : State => s.decSt n) (fs := []) (n := n) (fun _ _ _ => rfl) (fun _ _ _ => rfl) (fun _ _ => rfl) (fun _ _ => rfl) rfl
    (hall n hn) rfl
  have hbefore {off k : Nat} {data : List Byte} : (((s.dramStore off data).outOfBounds n k)).decSt n = s.decSt n :=
    (d.frame.trans (d.store s _ _) (frame_outOfBounds d _ _)).part
  unfold State.dpbStore
  refine (congrArg DecSt.dpb (frame_showDpb d _).part).trans ?_
  rw [decSt_modDec, hbefore]

theorem dpbMissing_size {n : Nat} (hn : n < 16) (p : DecPic) (missing : List Int) (s : State) :
    ((s.dpbMissing n p missing).decSt n).dpb.length = (s.decSt n).dpb.length + missing.length := by
  induction missing generalizing s with
  | nil => rfl
  | cons k ks ih =>
    refine (ih _).trans ?_
    rw [dpbStore_dpb hn]
    simp only [List.length_append, List.length_cons, List.length_nil]
    omega

theorem refsRead_dec (s : State) (n : Nat) (p : DecPic) : (s.refsRead n p).1.decSt n = s.decSt n := by
  have d := staysDram_low (F := fun s : State => s.decSt n) (fs := []) (fun _ _ _ => rfl) (fun _ _ _ => rfl) (fun _ _ => rfl) (fun _ _ _ => rfl) rfl
  exact (d.frame.each fun t _ _ => frame_readUe d t _ _).part

/-- The pictures that the DPB holds when a picture is decoded. -/
theorem refsTaken_size {n : Nat} (hn : n < 16) (p : DecPic) (s : State) : ((refsTaken n p s).decSt n).dpb.length ≤ (s.decSt n).dpb.length + p.refs.length := by
  unfold refsTaken readied
  rw [refsRead_dec, dpbMissing_size hn]
  have h1 := (dpbKept_before hn p s).size
  have h2 : (lacking p (s.dpbBefore n p false) n).length ≤ p.refs.length := List.length_filter_le _ _
  omega

/-! What is concealed. -/

theorem calm_refsTaken {n : Nat} (hn : n < 16) (p : DecPic) (s : State) : Calm n s (refsTaken n p s) :=
  frame_refsTaken (calmRel hn).1 (calm_decOutput hn) p s

theorem dpbInside_congr {s t : State} {n : Nat} (h : t.lv (R.DEC.DPB_SIZE n) = s.lv (R.DEC.DPB_SIZE n)) (sps : Sps) (k : Nat) :
    t.dpbInside n sps k = s.dpbInside n sps k := by
  unfold State.dpbInside State.dpbRoom
  rw [h]

/-- In sound DRAM that holds the DPB and the surfaces, a picture is concealed for its own faults. -/
theorem picConc_sound {n : Nat} (hn : n < 16) {s : State} (hs : s.soundDram = true) (hf : outFits s n = true) {p : DecPic}
    (hin : (List.range ((s.decSt n).dpb.length + p.refs.length + 1)).all (fun k => s.dpbInside n p.sps k) = true) (a : Au) :
    picConc n a p false s = ((s.decSt n).late || p.refs.any (fun k => (s.decSt n).dpb.all (fun q => q.poc != k)) || !p.badCtus.isEmpty || a.slices == 0 ||
      decide (0 < p.bounds) || p.poisoned) := by
  obtain ⟨hsound, hstays⟩ := calm_refsTaken hn p s hs hf
  have hready : (readied n p s).soundDram = true :=
    ((calmRel hn).1.frame.trans (frame_dpbBefore (calmRel hn).1 (calm_decOutput hn) s p false) (frame_dpbMissing (calmRel hn).1 _ p _) hs hf).1
  have hlate := late_of_side hstays.part
  have hrefs : ((readied n p s).refsRead n p).2 = false := by
    unfold State.refsRead
    exact List.any_eq_false.mpr fun q _ => by
      show ¬ (readied n p s).unsound _ _ = true
      rw [unsound_of_sound hready]
      decide
  have hslot : (refsTaken n p s).dpbInside n p.sps (freeSlot ((refsTaken n p s).decSt n).dpb) = true := by
    rw [dpbInside_congr (hstays.rd (R.DEC.DPB_SIZE n).live (by simp [calmFields]))]
    have h1 := freeSlot_le ((refsTaken n p s).decSt n).dpb
    have h2 := refsTaken_size hn p s
    exact List.all_eq_true.mp hin _ (List.mem_range.mpr (by omega))
  unfold picConc
  rw [hlate, lacking_isEmpty hn, hrefs, hslot]
  simp only [Bool.or_false, Bool.not_true]

/-- Where the DPB has no room, nothing lies in it. -/
theorem dpbInside_none {s : State} {n : Nat} {sps : Sps} (h : s.lv (R.DEC.DPB_SIZE n) = 0) (hlen : 0 < dpbLength sps) (k : Nat) : s.dpbInside n sps k = false := by
  unfold State.dpbInside State.dpbRoom
  rw [h, Nat.zero_mul, Nat.zero_sub, Nat.min_zero]
  exact beq_eq_false_iff_ne.mpr (Nat.ne_of_lt hlen)

/-- A picture that is concealed counts. -/
theorem concealed_shows {n : Nat} (hn : n < 16) (s : State) : Counted s (s.concealed n) (R.DEC.CNT_CONCEALED n) ∧ Pending (s.concealed n) R.DEC.ev_CONCEALED ∧
    ReadsAlike s (s.concealed n) ∧ Stays (decSide n) ((R.DEC.DPB_SIZE n).live :: sizeFields n) s (s.concealed n) := by
  have hall : ∀ n < 16, apartFrom [R.DEC.CNT_CONCEALED n] R.DEC.LAST_STREAM = true ∧ quietFor [R.DEC.CNT_CONCEALED n] 0x030 = true ∧
      besideReaders (R.DEC.CNT_CONCEALED n) = true ∧ apartFrom ((R.DEC.DPB_SIZE n).live :: sizeFields n) (R.DEC.CNT_CONCEALED n) = true ∧
      apartFrom ((R.DEC.DPB_SIZE n).live :: sizeFields n) R.DEC.LAST_STREAM = true ∧ quietFor ((R.DEC.DPB_SIZE n).live :: sizeFields n) 0x030 = true := by decide
  obtain ⟨h1, h2, h3, h4, h5, h6⟩ := hall n hn
  have h := staysFrame (F := fun _ : State => ()) (fun _ _ _ => rfl) [R.DEC.CNT_CONCEALED n]
  have hs := staysFrame (F := decSide n) (fun _ _ _ => rfl) ((R.DEC.DPB_SIZE n).live :: sizeFields n)
  have hr := readsAlikeFrame
  have hnoted := h.trans (h.wr (s.inc (R.DEC.CNT_CONCEALED n)) n h1) (h.raise _ (e := R.DEC.ev_CONCEALED) h2 (by decide))
  exact ⟨(hnoted.rd _ (by simp)).trans (counted_inc s rfl rfl), pending_raise _ (by decide),
    hr.trans (hr.inc s h3) (hr.trans (hr.wr _ (f := R.DEC.LAST_STREAM) n (by decide)) (hr.raise _ rfl (by decide))),
    hs.trans (hs.inc s h4) (hs.trans (hs.wr _ n h5) (hs.raise _ (e := R.DEC.ev_CONCEALED) h6 (by decide)))⟩

section
variable {n : Nat} {Rel : State → State → Prop} {W : Fld → Bool} {E : Nat → Bool} (d : StoreRel n Rel W E)
include d

/-- What comes after a picture's record has been marked. -/
theorem frame_picRest (hout : ∀ (s : State) (q : DpbPic), Rel s (s.decOutput n q)) (a : Au) (p : DecPic) (bad : Bool) (s : State) :
    Rel (picStored n a p bad s) (s.decPicture n a p false bad) := by
  rw [decPicture_eq]
  exact d.frame.trans (d.frame.trans (d.load _ _) (frame_bumpWhile d hout _ _ _ _)) (frame_showDpb d.toAccessRel _)

end

/-- What the receiver's side of a stream leaves of its pictures. -/
def decPart (n : Nat) (s : State) : Bool × Bool × Nat × Bool × List DpbPic × Bool × Option (Int × Planes) := pictureSide (s.decSt n)

theorem frame_endBacklog {n : Nat} {fs : List Fld} (hW : ∀ f ∈ receiveFields n, apartFrom fs f = true) (hE : quietFor fs 0x030 = true) (s : State) :
    Stays (decPart n) fs s (s.backlog n) :=
  frame_backlog (staysFrame (F := decPart n) (fun _ _ _ => rfl) fs) (fun _ _ h => .other (h n) rfl) hW hE s

/-- The picture as it is noted, in sound DRAM. -/
theorem picNoted_shows {n : Nat} (hn : n < 16) {s : State} (hs : s.soundDram = true) (hf : outFits s n = true) (a : Au) (p : DecPic) (bad : Bool) :
    (picNoted n a p bad s).soundDram = true ∧ outFits (picNoted n a p bad s) n = true ∧
    (picConc n a p bad s = true → Counted s (picNoted n a p bad s) (R.DEC.CNT_CONCEALED n) ∧ Pending (picNoted n a p bad s) R.DEC.ev_CONCEALED) ∧
    (picConc n a p bad s = false → (picNoted n a p bad s).rd (R.DEC.CNT_CONCEALED n) = s.rd (R.DEC.CNT_CONCEALED n)) := by
  have hcalm : Calm n s ((refsTaken n p s).outOfBounds n p.bounds) := (calmRel hn).1.frame.trans (calm_refsTaken hn p s) (frame_outOfBounds (calmRel hn).1.toAccessRel _ _)
  obtain ⟨hsound, hstays⟩ := hcalm hs hf
  have hfits := Calm.fits hf hstays
  have hcount : ((refsTaken n p s).outOfBounds n p.bounds).rd (R.DEC.CNT_CONCEALED n) = s.rd (R.DEC.CNT_CONCEALED n) := hstays.rd _ (by simp [calmFields])
  unfold picNoted
  generalize (refsTaken n p s).outOfBounds n p.bounds = u at hsound hfits hcount
  cases hc : picConc n a p bad s
  · exact ⟨hsound, hfits, fun h => absurd h (by decide), fun _ => hcount⟩
  · obtain ⟨h1, h2, h3, h4⟩ := concealed_shows hn u
    refine ⟨(soundDram_congr h3).trans hsound, (outFits_congr fun f hx => h4.rd f (List.mem_cons_of_mem _ hx)).trans hfits,
      fun _ => ⟨h1.trans (congrArg (fun k => min (k + 1) _) hcount), h2⟩, fun h => absurd h (by decide)⟩

/-- A record that is marked changes no DRAM and no register. -/
theorem marked_same (s : State) (n : Nat) (g : DecSt → DecSt) : (s.modDec n g).soundDram = s.soundDram ∧ outFits (s.modDec n g) n = outFits s n ∧
    ∀ f, (s.modDec n g).rd f = s.rd f := by
  have hregs : (s.modDec n g).regs = s.regs := rfl
  exact ⟨soundDram_congr (readsAlike_of rfl fun _ f _ => rd_congr hregs f), outFits_congr fun f _ => rd_congr hregs f, fun f => rd_congr hregs f⟩

/-- A decoded picture, in sound DRAM that holds the DPB and the surfaces. -/
theorem picture_shows {n : Nat} (hn : n < 16) {s : State} (hs : s.soundDram = true) (hf : outFits s n = true) (a : Au) (p : DecPic) (bad : Bool) :
    (((s.decPicture n a p false bad).backlog n).decSt n).late = false ∧
    (picConc n a p bad s = true → Counted s ((s.decPicture n a p false bad).backlog n) (R.DEC.CNT_CONCEALED n) ∧
      Pending ((s.decPicture n a p false bad).backlog n) R.DEC.ev_CONCEALED) ∧
    (picConc n a p bad s = false → ((s.decPicture n a p false bad).backlog n).rd (R.DEC.CNT_CONCEALED n) = s.rd (R.DEC.CNT_CONCEALED n)) := by
  have hall : ∀ n < 16, (∀ f ∈ receiveFields n, apartFrom (calmFields n) f = true) ∧ quietFor (calmFields n) 0x030 = true := by decide +kernel
  obtain ⟨hsound, hfits, hyes, hno⟩ := picNoted_shows hn hs hf a p bad
  have hrest : Calm n ((picNoted n a p bad s).modDec n (picMark n a p s)) (s.decPicture n a p false bad) :=
    (calmRel hn).1.frame.trans (frame_picStored (calmRel hn).1 a p bad s) (frame_picRest (calmRel hn).1 (calm_decOutput hn) a p bad s)
  obtain ⟨h1, h2, hregs⟩ := marked_same (picNoted n a p bad s) n (picMark n a p s)
  have hlate : (((picNoted n a p bad s).modDec n (picMark n a p s)).decSt n).late = false := by
    rw [decSt_modDec]
    rfl
  have hmark := hregs (R.DEC.CNT_CONCEALED n)
  have hpend : Pending (picNoted n a p bad s) R.DEC.ev_CONCEALED → Pending ((picNoted n a p bad s).modDec n (picMark n a p s)) R.DEC.ev_CONCEALED := id
  generalize (picNoted n a p bad s).modDec n (picMark n a p s) = m at hrest h1 h2 hlate hmark hpend
  obtain ⟨-, hstays⟩ := hrest (h1.trans hsound) (h2.trans hfits)
  have hend := frame_endBacklog (n := n) (fs := calmFields n) (hall n hn).1 (hall n hn).2 (s.decPicture n a p false bad)
  generalize picConc n a p bad s = conc at hyes hno ⊢
  generalize (s.decPicture n a p false bad) = u at hstays hend ⊢
  have hcount : (u.backlog n).rd (R.DEC.CNT_CONCEALED n) = (picNoted n a p bad s).rd (R.DEC.CNT_CONCEALED n) :=
    (hend.rd _ (by simp [calmFields])).trans ((hstays.rd _ (by simp [calmFields])).trans hmark)
  have hlast : ((u.backlog n).decSt n).late = (u.decSt n).late := congrArg (fun x => x.2.2.2.1) hend.part
  exact ⟨hlast.trans ((late_of_side hstays.part).trans hlate), fun hc => ⟨hcount.trans (hyes hc).1, hend.pend _ (hstays.pend _ (hpend (hyes hc).2))⟩,
    fun hc => hcount.trans (hno hc)⟩

/-! A picture that is output at once (R147, R166). -/

/-- The fields that choose a surface, and the count of pictures. -/
def chosenFields (n : Nat) : List Fld := R.DEC.CNT_PICTURES n :: (R.STR.BUF_COUNT n).live :: surfFields n

/-- The fields that show an output. -/
def shownFields (n : Nat) : List Fld := [R.DEC.CNT_PICTURES n, R.STR.READY_IDX n, R.STR.READY_VALID n, R.DEC.CONC_MASK n]

theorem shownFields_apart : ∀ n < 16, (∀ f ∈ receiveFields n, apartFrom (shownFields n) f = true) ∧ quietFor (shownFields n) 0x030 = true ∧
    apartFrom (shownFields n) (R.DEC.DPB_USED n) = true ∧ (∀ l < 16, ∀ f ∈ fenceFields l, apartFrom (shownFields n) f = true) := by decide +kernel

theorem chosenFields_apart : ∀ n < 16, lowFields (chosenFields n) = true ∧ (∀ f ∈ storeFields n, apartFrom (chosenFields n) f = true) ∧
    quietFor (chosenFields n) 0x030 = true ∧ apartFrom (chosenFields n) (R.DEC.CNT_CONCEALED n) = true := by decide +kernel

theorem shownFields_sep : ∀ n < 16, sep (R.DEC.CNT_PICTURES n) (R.DEC.CONC_MASK n) = true ∧ sep (R.DEC.CNT_PICTURES n) (R.STR.STATE n) = true ∧
      sep (R.DEC.CNT_PICTURES n) (R.STR.READY_IDX n) = true ∧ sep (R.DEC.CNT_PICTURES n) (R.STR.READY_VALID n) = true ∧
      sep (R.DEC.CNT_PICTURES n) (R.STR.READY_RTP n) = true ∧ sep (R.STR.READY_IDX n) (R.STR.READY_VALID n) = true ∧
      sep (R.STR.READY_IDX n) (R.STR.READY_RTP n) = true ∧ sep (R.STR.READY_VALID n) (R.STR.READY_RTP n) = true ∧
      sep (R.DEC.CONC_MASK n) (R.DEC.CNT_PICTURES n) = true ∧ sep (R.DEC.CONC_MASK n) (R.STR.STATE n) = true ∧
      sep (R.DEC.CONC_MASK n) (R.STR.READY_IDX n) = true ∧ sep (R.DEC.CONC_MASK n) (R.STR.READY_VALID n) = true ∧
      sep (R.DEC.CONC_MASK n) (R.STR.READY_RTP n) = true ∧ FieldRules.fits (R.DEC.CONC_MASK n) = true := by decide +kernel

/-- The surface shows. -/
theorem outShown_shows {n i : Nat} (hn : n < 16) (hi : i < 8) (q : DpbPic) (conc : Bool) (s : State) : Counted s (outShown n i q conc s) (R.DEC.CNT_PICTURES n) ∧
    (outShown n i q conc s).rd (R.STR.READY_IDX n) = i ∧ (outShown n i q conc s).rd (R.STR.READY_VALID n) = 1 ∧
    (conc = true → ((outShown n i q conc s).rd (R.DEC.CONC_MASK n)).testBit i = true) := by
  obtain ⟨h1, h2, h3, h4, h5, h6, h7, h8, h9, h10, h11, h12, h13, h14⟩ := shownFields_sep n hn
  have hsignal (t : State) (time : Nat) : Stays (fun _ : State => ()) (shownFields n) t (t.signalStream n i time) :=
    frame_signalStream (staysFrame (fun _ _ _ => rfl) _) (fun _ _ _ => .other rfl rfl) (shownFields_apart n hn).2.2.2 t n i time
  unfold outShown State.strReady
  refine ⟨((hsignal _ _).rd _ (by simp [shownFields])).trans ?_, ((hsignal _ _).rd _ (by simp [shownFields])).trans ?_,
    ((hsignal _ _).rd _ (by simp [shownFields])).trans ?_, fun hc => ?_⟩
  · rw [rd_wr_sep _ _ h5, rd_wr_sep _ _ h4, rd_wr_sep _ _ h3, rd_wr_sep _ _ h2]
    exact (rd_incBy_same _ rfl rfl 1).trans (congrArg (fun k => min (k + 1) _) (rd_wr_sep _ _ h1))
  · rw [rd_wr_sep _ _ h7, rd_wr_sep _ _ h6, rd_wr_own _ _ rfl]
    exact Nat.mod_eq_of_lt (hi.trans (show 8 < 2 ^ 6 by decide))
  · rw [rd_wr_sep _ _ h8, rd_wr_own _ _ rfl]
    rfl
  · refine (congrArg (fun k => k.testBit i) ((hsignal _ _).rd (R.DEC.CONC_MASK n) (by simp [shownFields]))).trans ?_
    rw [rd_wr_sep _ _ h13, rd_wr_sep _ _ h12, rd_wr_sep _ _ h11, rd_wr_sep _ _ h10]
    refine (congrArg (fun k => k.testBit i) ((rd_wr_sep _ _ h9).trans (rd_wr_own _ _ h14))).trans ?_
    rw [show (R.DEC.CONC_MASK n).w = 8 from rfl, Nat.testBit_mod_two_pow, LoopEngine.testBit_withBit, if_pos rfl, hc, decide_eq_true hi]
    rfl

/-- The output of a picture. -/
theorem decOutput_shows {n i : Nat} (hn : n < 16) (hi : i < 8) {s : State} (h : s.nextSurface n (s.lv (R.STR.BUF_COUNT n)) = some i) (q : DpbPic) :
    Counted s (s.decOutput n q) (R.DEC.CNT_PICTURES n) ∧ (s.decOutput n q).rd (R.STR.READY_IDX n) = i ∧ (s.decOutput n q).rd (R.STR.READY_VALID n) = 1 ∧
    (q.conc = true → ((s.decOutput n q).rd (R.DEC.CONC_MASK n)).testBit i = true) := by
  obtain ⟨hlow, hstore, hev, hc⟩ := chosenFields_apart n hn
  have d := staysAccess (F := fun _ : State => ()) (fs := chosenFields n) (n := n) (fun _ _ _ => rfl) (fun _ _ _ => rfl) (fun _ _ => rfl) (fun _ _ => rfl) hlow
    hstore hev
  have hfirst : Stays (fun _ : State => ()) (chosenFields n) s
      ((outStored n i q s).cond (!q.conc && ((s.fresh.2.dpbRead n q).2 || !outFits s n)) (fun s => s.concealed n)) :=
    d.frame.trans (frame_outStored d (fun _ _ => .other rfl rfl) s i q) (d.frame.cond fun _ => frame_concealed d hc _)
  have hcount := hfirst.rd (R.DEC.CNT_PICTURES n) (by simp [chosenFields])
  rw [decOutput_some h]
  generalize (outStored n i q s).cond (!q.conc && ((s.fresh.2.dpbRead n q).2 || !outFits s n)) (fun s => s.concealed n) = u at hcount ⊢
  obtain ⟨h1, h2, h3, h4⟩ := outShown_shows hn hi q (q.conc || (s.fresh.2.dpbRead n q).2 || !outFits s n) u
  exact ⟨h1.trans (congrArg (fun k => min (k + 1) _) hcount), h2, h3, fun hq => h4 (by rw [hq]; rfl)⟩

/-- With an empty DPB and no references, a picture finds the state as it is. -/
theorem refsTaken_empty {n : Nat} {p : DecPic} {s : State} (hdpb : (s.decSt n).dpb = []) (hrefs : p.refs = []) :
    ∃ g, refsTaken n p s = s.modDec n g ∧ ((s.modDec n g).decSt n).dpb = [] := by
  let g (x : DecSt) : DecSt :=
    { x with dpb := (x.dpb.map (fun q => { q with ref := p.refs.contains q.poc })).filter (fun q => q.wait || q.ref) }
  have hempty : ((s.modDec n g).decSt n).dpb = [] := by
    rw [decSt_modDec]
    show List.filter _ (List.map _ (s.decSt n).dpb) = []
    rw [hdpb]
    rfl
  have hbefore : s.dpbBefore n p false = s.modDec n g := by
    unfold State.dpbBefore
    rw [if_neg (by decide)]
    show (s.modDec n g).bumpWhile n p.sps true ((s.modDec n g).decSt n).dpb.length = _
    rw [hempty]
    rfl
  have hready : readied n p s = s.modDec n g := by
    unfold readied lacking
    rw [hrefs, hbefore]
    rfl
  refine ⟨g, ?_, hempty⟩
  unfold refsTaken State.refsRead
  rw [hready, hempty]
  rfl

theorem noteLoad_same (s : State) (n k : Nat) : (s.noteLoad k).decSt n = s.decSt n ∧ ∀ f, (s.noteLoad k).rd f = s.rd f := ⟨rfl, fun _ => rfl⟩

/-- The picture as noted, in such a DPB. -/
theorem picNoted_empty {n : Nat} (hn : n < 16) {p : DecPic} {s : State} (hdpb : (s.decSt n).dpb = []) (hrefs : p.refs = []) (a : Au) (bad : Bool) :
    ((picNoted n a p bad s).decSt n).dpb = [] ∧ ∀ f ∈ chosenFields n, (picNoted n a p bad s).rd f = s.rd f := by
  obtain ⟨hlow, hstore, hev, hc⟩ := chosenFields_apart n hn
  have d := staysAccess (F := fun s : State => s.decSt n) (fs := chosenFields n) (n := n) (fun _ _ _ => rfl) (fun _ _ _ => rfl) (fun _ _ => rfl)
    (fun _ _ => rfl) hlow hstore hev
  obtain ⟨g, hg, hnone⟩ := refsTaken_empty hdpb hrefs
  have hnoted : Stays (fun s : State => s.decSt n) (chosenFields n) (s.modDec n g) (picNoted n a p bad s) := by
    unfold picNoted
    rw [hg]
    exact d.frame.trans (frame_outOfBounds d _ _) (d.frame.cond fun _ => frame_concealed d hc _)
  exact ⟨(congrArg DecSt.dpb hnoted.part).trans hnone, fun f hf => (hnoted.rd f hf).trans ((marked_same s n g).2.2 f)⟩

theorem chosen_picStored {n : Nat} (hn : n < 16) {p : DecPic} {s : State} (hdpb : (s.decSt n).dpb = []) (hrefs : p.refs = []) (a : Au) (bad : Bool) :
    ∀ f ∈ chosenFields n, (picStored n a p bad s).rd f = s.rd f := by
  obtain ⟨hlow, hstore, hev, -⟩ := chosenFields_apart n hn
  have hstored := frame_picStored (sideStore (n := n) (fs := chosenFields n) hlow hstore hev) a p bad s
  exact fun f hf => (hstored.rd f hf).trans (((marked_same _ n _).2.2 f).trans ((picNoted_empty hn hdpb hrefs a bad).2 f hf))

theorem picStored_only {n : Nat} (hn : n < 16) {p : DecPic} {s : State} (hdpb : (s.decSt n).dpb = []) (hrefs : p.refs = []) (a : Au) (bad : Bool) :
    ((picStored n a p bad s).decSt n).dpb = [picEntry n a p bad s] := by
  have hmark : (((picNoted n a p bad s).modDec n (picMark n a p s)).decSt n).dpb = [] := by
    rw [decSt_modDec]
    show List.map _ ((picNoted n a p bad s).decSt n).dpb = []
    rw [(picNoted_empty hn hdpb hrefs a bad).1]
    rfl
  unfold picStored
  rw [dpbStore_dpb hn, hmark]
  rfl

/-- A picture that need not wait is output at once. -/
theorem picture_output {n i : Nat} (hn : n < 16) {s : State} {p : DecPic} (hdpb : (s.decSt n).dpb = []) (hrefs : p.refs = []) (hout : p.outputFlag = true)
    (hreorder : p.sps.reorder = 0) (hcount : s.lv (R.STR.BUF_COUNT n) ≤ 8) (hi : s.nextSurface n (s.lv (R.STR.BUF_COUNT n)) = some i) (a : Au) (bad : Bool) :
    Counted s ((s.decPicture n a p false bad).backlog n) (R.DEC.CNT_PICTURES n) ∧ ((s.decPicture n a p false bad).backlog n).rd (R.STR.READY_IDX n) = i ∧
    ((s.decPicture n a p false bad).backlog n).rd (R.STR.READY_VALID n) = 1 ∧
    (picConc n a p bad s = true → (((s.decPicture n a p false bad).backlog n).rd (R.DEC.CONC_MASK n)).testBit i = true) := by
  obtain ⟨hrecv, hev', hused, -⟩ := shownFields_apart n hn
  have hkept : ∀ f ∈ chosenFields n, (picStored n a p bad s).rd f = s.rd f := chosen_picStored hn hdpb hrefs a bad
  have hentry : ((picStored n a p bad s).decSt n).dpb = [picEntry n a p bad s] := picStored_only hn hdpb hrefs a bad
  have hend (t : State) : Stays (fun _ : State => ()) (shownFields n) t ((t.showDpb n).backlog n) := by
    have h := (staysFrame (F := fun _ : State => ()) (fun _ _ _ => rfl) (shownFields n)).wr t (f := R.DEC.DPB_USED n) (min (t.decSt n).dpb.length 255) hused
    have h' := frame_endBacklog (n := n) hrecv hev' (t.showDpb n)
    exact ⟨rfl, fun f hf => (h'.rd f hf).trans (h.rd f hf), fun e he => h'.pend e (h.pend e he)⟩
  rw [decPicture_eq, hentry, show [picEntry n a p bad s].length = 1 from rfl]
  generalize hv : (picStored n a p bad s).noteLoad (p.sps.width * p.sps.height) = v
  have hvkept : ∀ f ∈ chosenFields n, v.rd f = s.rd f := fun f hf => by
    rw [← hv]
    exact ((noteLoad_same _ n _).2 f).trans (hkept f hf)
  have hventry : (v.decSt n).dpb = [picEntry n a p bad s] := by
    rw [← hv]
    exact (congrArg DecSt.dpb (noteLoad_same _ n _).1).trans hentry
  have hbumped : ∃ g, v.bumpWhile n p.sps false 1 = (v.decOutput n (picEntry n a p bad s)).modDec n g := by
    have hdue : outputDue p.sps [picEntry n a p bad s] = true := by
      unfold outputDue
      rw [hreorder, List.filter_cons, show (picEntry n a p bad s).wait = p.outputFlag from rfl, hout]
      rfl
    have hbump : ∃ g, v.bump n = (v.decOutput n (picEntry n a p bad s)).modDec n g := by
      unfold State.bump
      rw [hventry, show firstOut [picEntry n a p bad s] = some (picEntry n a p bad s) by
        unfold firstOut
        rw [show (picEntry n a p bad s).wait = p.outputFlag from rfl, hout]
        rfl]
      exact ⟨_, rfl⟩
    obtain ⟨g, hg⟩ := hbump
    refine ⟨g, ?_⟩
    unfold State.bumpWhile
    dsimp only
    rw [hventry, hdue, Bool.true_or, if_pos rfl, hg]
    rfl
  obtain ⟨g, hg⟩ := hbumped
  have hsurf : v.nextSurface n (v.lv (R.STR.BUF_COUNT n)) = some i := by
    have hbuf : v.lv (R.STR.BUF_COUNT n) = s.lv (R.STR.BUF_COUNT n) := hvkept _ (by simp [chosenFields])
    rw [hbuf, nextSurface_congr fun f hf => hvkept f (List.mem_cons_of_mem _ (List.mem_cons_of_mem _ hf))]
    exact hi
  obtain ⟨h1, h2, h3, h4⟩ := decOutput_shows hn ((nextSurface_lt hi).trans_le hcount) hsurf (picEntry n a p bad s)
  rw [hg]
  have hlast := hend ((v.decOutput n (picEntry n a p bad s)).modDec n g)
  have hmark := (marked_same (v.decOutput n (picEntry n a p bad s)) n g).2.2
  generalize (v.decOutput n (picEntry n a p bad s)).modDec n g = w at hlast hmark
  have hall : ∀ f ∈ shownFields n, ((w.showDpb n).backlog n).rd f = (v.decOutput n (picEntry n a p bad s)).rd f := fun f hf => (hlast.rd f hf).trans (hmark f)
  refine ⟨(hall _ (by simp [shownFields])).trans (h1.trans (congrArg (fun k => min (k + 1) _) (hvkept _ (by simp [chosenFields])))),
    (hall _ (by simp [shownFields])).trans h2, (hall _ (by simp [shownFields])).trans h3, fun hconc => ?_⟩
  rw [hall _ (by simp [shownFields])]
  exact h4 hconc

/-! A picture that cannot be decoded whole, whatever the DRAM holds (R178; 14 R385). -/

theorem sizeField_apart : ∀ n < 16, lowFields [(R.DEC.DPB_SIZE n).live] = true ∧
    (∀ f ∈ storeFields n ++ outFields n, apartFrom [(R.DEC.DPB_SIZE n).live] f = true) ∧
    (∀ l, l < 16 → ∀ f ∈ fenceFields l, apartFrom [(R.DEC.DPB_SIZE n).live] f = true) ∧ quietFor [(R.DEC.DPB_SIZE n).live] 0x030 = true ∧
    quietFor [(R.DEC.DPB_SIZE n).live] (0x020 + n) = true ∧ apartFrom [(R.DEC.DPB_SIZE n).live] (R.DEC.CNT_CONCEALED n) = true ∧
    (∀ f ∈ receiveFields n, apartFrom [(R.DEC.DPB_SIZE n).live] f = true) := by decide +kernel

/-- A picture that finds no room in the DPB is cut, which counts. -/
theorem pending_dpbStore {n : Nat} (hn : n < 16) {s : State} {q : DpbPic} (h : ∀ off data, (s.dramStore off data).lv (R.DEC.DPB_SIZE n) = 0) (hlen : 0 < dpbLength q.sps)
    (pl : Planes) : Pending (s.dpbStore n q pl) R.DEC.ev_BOUNDS := by
  have hused : ∀ n < 16, apartFrom [] (R.DEC.DPB_USED n) = true := by decide
  have hnoted {off : Nat} {data : List Byte} :
      Pending ((s.dramStore off data).outOfBounds n (b2n (!(s.dramStore off data).dpbInside n q.sps q.slot))) R.DEC.ev_BOUNDS := by
    rw [dpbInside_none (h off data) hlen]
    exact pending_raise _ (by decide)
  have hpend (t : State) (g : DecSt → DecSt) (ht : Pending t R.DEC.ev_BOUNDS) : Pending ((t.modDec n g).showDpb n) R.DEC.ev_BOUNDS := by
    have h : Stays (fun _ : State => ()) [] (t.modDec n g) ((t.modDec n g).showDpb n) := (staysFrame (fun _ _ _ => rfl) []).wr _ _ (hused n hn)
    exact h.pend _ ht
  exact hpend _ _ hnoted

/-- A picture whose access unit came back poisoned, or that has no room. -/
theorem picture_faulty {n : Nat} (hn : n < 16) {a : Au} {p : DecPic} {bad : Bool} {s : State} :
    (picConc n a p bad s = true → Pending ((s.decPicture n a p false bad).backlog n) R.DEC.ev_CONCEALED) ∧
    (s.lv (R.DEC.DPB_SIZE n) = 0 → 0 < dpbLength p.sps → picConc n a p bad s = true ∧ Pending ((s.decPicture n a p false bad).backlog n) R.DEC.ev_BOUNDS) := by
  obtain ⟨hlow, hfields, hfence, hev, hstr, hc, hrecv⟩ := sizeField_apart n hn
  have c := sideStore (n := n) (fs := [(R.DEC.DPB_SIZE n).live]) hlow (fun f hf => hfields f (List.mem_append_left _ hf)) hev
  have d := sideOutput (n := n) (fs := [(R.DEC.DPB_SIZE n).live]) hlow hfields hfence hev hstr
  have hout := frame_decOutput d hc
  have htaken := frame_refsTaken c hout p s
  have hin : (R.DEC.DPB_SIZE n).live ∈ [(R.DEC.DPB_SIZE n).live] := List.mem_singleton.mpr rfl
  have hnoted : Stays (decSide n) [(R.DEC.DPB_SIZE n).live] s (picNoted n a p bad s) :=
    c.frame.trans htaken (c.frame.trans (frame_outOfBounds c.toAccessRel _ _) (c.frame.cond fun _ => frame_concealed c.toAccessRel hc _))
  have hstored := frame_picStored c a p bad s
  have hrest := frame_picRest c hout a p bad s
  have hend := frame_endBacklog (n := n) hrecv hev (s.decPicture n a p false bad)
  refine ⟨fun hconc => hend.pend _ (hrest.pend _ (hstored.pend _ ?_)), fun hsize hlen => ⟨?_, hend.pend _ (hrest.pend _ ?_)⟩⟩
  · show Pending (picNoted n a p bad s) R.DEC.ev_CONCEALED
    unfold picNoted
    rw [cond_of hconc]
    exact (concealed_shows hn _).2.1
  · have hsize' : (refsTaken n p s).lv (R.DEC.DPB_SIZE n) = 0 := (htaken.rd _ hin).trans hsize
    unfold picConc
    rw [dpbInside_none hsize' hlen]
    simp only [Bool.not_false, Bool.or_true]
  · have hmark : ((picNoted n a p bad s).modDec n (picMark n a p s)).rd (R.DEC.DPB_SIZE n).live = 0 :=
      ((marked_same (picNoted n a p bad s) n (picMark n a p s)).2.2 _).trans ((hnoted.rd _ hin).trans hsize)
    unfold picStored
    generalize (picNoted n a p bad s).modDec n (picMark n a p s) = m at hmark
    have hstore (off : Nat) (data : List Byte) : (m.dramStore off data).rd (R.DEC.DPB_SIZE n).live = 0 := ((c.store m off data).rd _ hin).trans hmark
    exact pending_dpbStore hn (q := picEntry n a p bad s) hstore hlen _

/-! A stream's record shows. -/

/-- The fields that show a stream. -/
def streamShown (n : Nat) : List Fld := [R.DEC.LAST_STREAM, R.DEC.st_OVERLOAD, R.DEC.BACKLOG n, R.DEC.DSTATE n, R.DEC.RUNNING]

section
variable {n : Nat} {Rel : State → State → Prop} {W : Fld → Bool} {E : Nat → Bool} (h : Frame Rel W E)
  (hshed : ∀ (s : State) (l : List Nat), Rel s { s with dec := { s.dec with shedding := l } }) (hW : ∀ f ∈ streamShown n, W f = true) (hE : E 0x030 = true)
include h hW

theorem frame_dstate (s : State) : Rel s (s.showDstate n) :=
  h.trans (h.wr s _ (hW _ (by simp [streamShown]))) (h.wr _ _ (hW _ (by simp [streamShown])))

theorem frame_backlogShown (s : State) : Rel s (s.showBacklog n) := h.wr s _ (hW _ (by simp [streamShown]))

include hshed hE

theorem frame_shedding (s : State) (b : Bool) : Rel s (s.setShedding n b) := by
  unfold State.setShedding
  refine h.trans ?_ (h.level _ _ hE (by decide))
  refine h.trans ?_ (h.wrB _ _ (hW _ (by simp [streamShown])))
  exact h.trans (h.cond fun _ => h.wr s _ (hW _ (by simp [streamShown]))) (hshed _ _)

/-- The backlog of a stream that is not behind. -/
theorem frame_quietBacklog {s : State} (hb : s.behind n = false) : Rel s (s.backlog n) := by
  unfold State.backlog
  rw [cond_of_not hb]
  exact h.trans (h.trans (frame_shedding h hshed hW hE s _) (frame_backlogShown h hW _)) (frame_dstate h hW _)

end

/-- DSTATE shows the verdict on a stream that the decoder serves, or that it waits. -/
theorem showDstate_shows {n : Nat} (hn : n < 16) {s : State} (hon : s.decOn n = true) :
    ((s.decSt n).verdict ≠ 0 → (s.decSt n).verdict < 8 → (s.showDstate n).rd (R.DEC.DSTATE n) = (s.decSt n).verdict) ∧
    ((s.decSt n).verdict = 0 → (s.decSt n).inSkip = false → (s.decSt n).started = false → (s.showDstate n).rd (R.DEC.DSTATE n) = dsAWAIT) := by
  have hsep : ∀ n < 16, sep (R.DEC.DSTATE n) R.DEC.RUNNING = true := by decide
  unfold State.showDstate
  simp only [hon, Bool.not_true, Bool.false_eq_true, if_false]
  refine ⟨fun hv hlt => ?_, fun hv hskip hstart => ?_⟩
  · rw [if_pos hv]
    exact (rd_wr_sep _ _ (hsep n hn)).trans ((rd_wr_own _ _ rfl).trans (Nat.mod_eq_of_lt hlt))
  · rw [if_neg (by rw [hv]; decide), hskip, hstart]
    exact (rd_wr_sep _ _ (hsep n hn)).trans (rd_wr_own _ _ rfl)

/-! A flush (R174, R179, R181). -/

/-- What a flush shows. -/
def flushShown (n : Nat) : List Fld := [R.DEC.DSTATE n, R.DEC.DPB_USED n, R.DEC.BACKLOG n]

/-- The fields that say that the decoder serves a stream. -/
def servedFields (n : Nat) : List Fld := [(R.STR.EN n).live, (R.STR.KIND n).live]

theorem decOn_congr {s t : State} {n : Nat} (h : ∀ f ∈ servedFields n, t.rd f = s.rd f) : t.decOn n = s.decOn n := by
  unfold State.decOn State.lvB State.lv
  rw [h (R.STR.EN n).live (by simp [servedFields]), h (R.STR.KIND n).live (by simp [servedFields])]

/-- Another stream's flush leaves what a stream shows. -/
theorem flush_other {n m : Nat} (hn : n < 16) (hm : m < 16) (hne : m ≠ n) (s : State) :
    Stays (fun s => (s.decSt n, s.drm)) (servedFields n ++ flushShown n) s (s.decFlush m) := by
  have hall : ∀ n < 16, ∀ m < 16, m ≠ n → (∀ f ∈ streamShown m, apartFrom (servedFields n ++ flushShown n) f = true) ∧
      apartFrom (servedFields n ++ flushShown n) (R.DEC.DPB_USED m) = true ∧ quietFor (servedFields n ++ flushShown n) 0x030 = true := by decide +kernel
  obtain ⟨hW, hused, hE⟩ := hall n hn m hm hne
  have h := staysFrame (F := fun s : State => (s.decSt n, s.drm)) (fun _ _ _ => rfl) (servedFields n ++ flushShown n)
  have hset : Stays (fun s => (s.decSt n, s.drm)) (servedFields n ++ flushShown n) s
      { s with dec := { s.dec with st := smSet decDefaultSt s.dec.st m { wp := (s.decSt m).wp } } } :=
    .other (Prod.ext (smGet_set_other _ _ _ (Ne.symm hne)) rfl) rfl
  unfold State.decFlush
  refine h.trans ?_ (frame_backlogShown h hW _)
  refine h.trans ?_ (frame_shedding h (fun _ _ => .other rfl rfl) hW hE _ _)
  refine h.trans ?_ (h.wr _ _ hused)
  exact h.trans hset (frame_dstate h hW _)

/-- What a flushed stream holds and shows. -/
def Flushed (n wp : Nat) (t : State) : Prop :=
  t.decSt n = { wp := wp } ∧ t.rd (R.DEC.DSTATE n) = dsAWAIT ∧ t.rd (R.DEC.DPB_USED n) = 0 ∧ t.rd (R.DEC.BACKLOG n) = 0

theorem flush_own {n : Nat} (hn : n < 16) {s : State} (hon : s.decOn n = true) : Flushed n (s.decSt n).wp (s.decFlush n) ∧ (s.decFlush n).drm = s.drm := by
  have hall : ∀ n < 16, (∀ f ∈ [R.DEC.LAST_STREAM, R.DEC.st_OVERLOAD], apartFrom (flushShown n) f = true) ∧
      sep (R.DEC.DSTATE n) (R.DEC.DPB_USED n) = true ∧ sep (R.DEC.DSTATE n) (R.DEC.BACKLOG n) = true ∧ sep (R.DEC.DPB_USED n) (R.DEC.BACKLOG n) = true ∧
      quietFor (flushShown n) 0x030 = true := by decide +kernel
  obtain ⟨hW, h1, h2, h3, hE⟩ := hall n hn
  have h := staysFrame (F := fun s : State => (s.decSt n, s.drm)) (fun _ _ _ => rfl) (flushShown n)
  have hpart := partFrame (F := fun s : State => (s.decSt n, s.drm)) fun _ _ _ => rfl
  let u : State := { s with dec := { s.dec with st := smSet decDefaultSt s.dec.st n { wp := (s.decSt n).wp } } }
  have hu : u.decSt n = { wp := (s.decSt n).wp } := smGet_set_same _ _ _ _
  have hshown : (u.showDstate n).rd (R.DEC.DSTATE n) = dsAWAIT := by
    refine (showDstate_shows (s := u) hn hon).2 ?_ ?_ ?_ <;> rw [hu] <;> rfl
  have hupart : ((u.showDstate n).wr (R.DEC.DPB_USED n) 0).decSt n = u.decSt n ∧ ((u.showDstate n).wr (R.DEC.DPB_USED n) 0).drm = s.drm :=
    Prod.mk.inj (hpart.trans (frame_dstate hpart (fun _ _ => rfl) u) (hpart.wr _ (f := R.DEC.DPB_USED n) 0 rfl))
  have hw1 : ((u.showDstate n).wr (R.DEC.DPB_USED n) 0).rd (R.DEC.DSTATE n) = dsAWAIT := (rd_wr_sep _ _ h1).trans hshown
  have hw2 : ((u.showDstate n).wr (R.DEC.DPB_USED n) 0).rd (R.DEC.DPB_USED n) = 0 := rd_wr_own _ _ rfl
  have hflush : s.decFlush n = (((u.showDstate n).wr (R.DEC.DPB_USED n) 0).setShedding n false).showBacklog n := rfl
  rw [hflush]
  generalize (u.showDstate n).wr (R.DEC.DPB_USED n) 0 = w at hupart hw1 hw2
  have hshed : Stays (fun s => (s.decSt n, s.drm)) (flushShown n) w (w.setShedding n false) := by
    unfold State.setShedding
    refine h.trans ?_ (h.level _ _ hE (by decide))
    refine h.trans ?_ (h.wrB _ _ (hW _ (by simp)))
    exact h.trans (h.cond fun _ => h.wr w _ (hW _ (by simp))) (.other rfl rfl)
  obtain ⟨hst, hdrm⟩ := Prod.mk.inj hshed.part
  have hback : ((w.setShedding n false).showBacklog n).decSt n = (w.setShedding n false).decSt n ∧ ((w.setShedding n false).showBacklog n).drm = (w.setShedding n false).drm :=
    Prod.mk.inj (hpart.wr (w.setShedding n false) (f := R.DEC.BACKLOG n) (min ((w.setShedding n false).decSt n).aus.length 255) rfl)
  have hall' : (w.setShedding n false).decSt n = { wp := (s.decSt n).wp } := hst.trans (hupart.1.trans hu)
  refine ⟨⟨hback.1.trans hall', ?_, ?_, ?_⟩, hback.2.trans (hdrm.trans hupart.2)⟩
  · exact (rd_wr_sep _ _ h2).trans ((hshed.rd _ (by simp [flushShown])).trans hw1)
  · exact (rd_wr_sep _ _ h3).trans ((hshed.rd _ (by simp [flushShown])).trans hw2)
  · refine (rd_wr_own _ _ rfl).trans ?_
    rw [hall']
    rfl

/-- Flushes leave DRAM alone. -/
theorem flushes_drm (xs : List Nat) (s : State) : (s.each xs (fun s n => s.decFlush n)).drm = s.drm := by
  have h := partFrame (F := State.drm) fun _ _ _ => rfl
  refine h.each fun t m _ => ?_
  unfold State.decFlush
  refine h.trans ?_ (frame_backlogShown h (n := m) (fun _ _ => rfl) _)
  refine h.trans ?_ (frame_shedding h (n := m) (fun _ _ => rfl) (fun _ _ => rfl) rfl _ _)
  exact h.trans (frame_dstate h (n := m) (fun _ _ => rfl) _) (h.wr _ (f := R.DEC.DPB_USED m) 0 rfl)

/-- The streams that a flush names are flushed, and the others are left alone. -/
theorem flushes_shows {n : Nat} (hn : n < 16) {xs : List Nat} (hlt : ∀ m ∈ xs, m < 16) (hnodup : xs.Nodup) {s : State} (hon : s.decOn n = true) :
    (n ∈ xs → Flushed n (s.decSt n).wp (s.each xs (fun s n => s.decFlush n))) ∧ (n ∉ xs → (s.each xs (fun s n => s.decFlush n)).decSt n = s.decSt n) := by
  have hst {t : State} {m : Nat} (hm : m < 16) (hne : m ≠ n) : (t.decFlush m).decSt n = t.decSt n := congrArg Prod.fst (flush_other hn hm hne t).part
  constructor
  · intro hin
    refine DramControl.each_at (P := fun t => t.decSt n = s.decSt n ∧ t.decOn n = true) (Q := Flushed n (s.decSt n).wp) (I := (· < 16)) ?_ ?_ ?_ hlt hin hnodup
      ⟨rfl, hon⟩
    · rintro t m hm hne ⟨h1, h2⟩
      exact ⟨(hst hm hne).trans h1, (decOn_congr fun f hf => (flush_other hn hm hne t).rd f (List.mem_append_left _ hf)).trans h2⟩
    · rintro t ⟨h1, h2⟩
      rw [← h1]
      exact (flush_own hn h2).1
    · rintro t m hm hne ⟨h1, h2, h3, h4⟩
      have hk := (flush_other hn hm hne t).rd
      exact ⟨(hst hm hne).trans h1, (hk _ (by simp [flushShown])).trans h2, (hk _ (by simp [flushShown])).trans h3, (hk _ (by simp [flushShown])).trans h4⟩
  · intro hout
    induction xs generalizing s with
    | nil => rfl
    | cons m ms ih =>
      have hne : m ≠ n := fun h => hout (h ▸ List.mem_cons_self)
      have hrest : n ∉ ms := fun h => hout (List.mem_cons_of_mem _ h)
      have hm := hlt m List.mem_cons_self
      have hon' : (s.decFlush m).decOn n = true := (decOn_congr fun f hf => (flush_other hn hm hne s).rd f (List.mem_append_left _ hf)).trans hon
      exact (ih (fun k hk => hlt k (List.mem_cons_of_mem _ hk)) (List.nodup_cons.mp hnodup).2 hon' hrest).trans (hst hm hne)

/-! The oldest access unit is taken up (R162, R174). -/

/-- It has left the ring. -/
def auTaken (n : Nat) (a : Au) (rest : List Au) (s : State) : State := (s.auRead n a).1.modDec n (fun d => { d with aus := rest })

/-- Its picture is passed over. -/
def passedOver (n : Nat) (s : State) : State := (s.modDec n (fun d => { d with late := false })).backlog n

/-- The SPS of an IRAP picture is taken up. -/
def spsTaken (n : Nat) (a : Au) (p : DecPic) (started : Bool) (s : State) : State :=
  s.cond a.irap (fun s => (s.modDec n (fun d => { d with rasl := a.irap && (a.restart || !started), started := true })).activate n p.sps)

section
variable {n : Nat} {p : DecPic} {a : Au} {rest : List Au} {s : State} (haus : (s.decSt n).aus = a :: rest)
include haus

theorem decodeDone_skip (hstart : (s.decSt n).started = false) (hirap : a.irap = false) :
    decodeDoneFx n p s = passedOver n ((auTaken n a rest s).inc R.DEC.CNT_SKIP) := by
  unfold decodeDoneFx
  rw [haus]
  simp only [hstart, hirap, Bool.not_false, Bool.and_self, if_true]
  rfl

theorem decodeDone_params (hstart : (s.decSt n).started = true ∨ a.irap = true) (hp : p.paramsMissing = true) : decodeDoneFx n p s =
    passedOver n (((auTaken n a rest s).inc R.DEC.CNT_PARAM_MISSING).decRaise n R.DEC.ev_PARAM_MISSING) := by
  have hgo : (!(s.decSt n).started && !a.irap) = false := by rcases hstart with h | h <;> rw [h] <;> simp
  unfold decodeDoneFx
  rw [haus]
  simp only [hgo, hp, Bool.false_eq_true, if_false, if_true]
  rfl

theorem decodeDone_decodes (hstart : (s.decSt n).started = true ∨ a.irap = true) (hp : p.paramsMissing = false) : decodeDoneFx n p s =
    if p.rasl && ((spsTaken n a p (s.decSt n).started (auTaken n a rest s)).decSt n).rasl then passedOver n (spsTaken n a p (s.decSt n).started (auTaken n a rest s))
    else if ((spsTaken n a p (s.decSt n).started (auTaken n a rest s)).decSt n).verdict ≠ 0 then
      passedOver n ((spsTaken n a p (s.decSt n).started (auTaken n a rest s)).cond a.irap (fun s => s.bumpAll n))
    else ((spsTaken n a p (s.decSt n).started (auTaken n a rest s)).decPicture n a p
      (a.irap && (a.restart || !(s.decSt n).started) || (a.irap && p.newCvs)) (s.auRead n a).2).backlog n := by
  have hgo : (!(s.decSt n).started && !a.irap) = false := by rcases hstart with h | h <;> rw [h] <;> simp
  unfold decodeDoneFx
  rw [haus]
  simp only [hgo, hp, Bool.false_eq_true, if_false]
  rfl

/-- A picture that is no IRAP, of a stream that has started. -/
theorem decodeDone_picture (hstart : (s.decSt n).started = true) (hirap : a.irap = false) (hv : ((auTaken n a rest s).decSt n).verdict = 0)
    (hp : p.paramsMissing = false) (hrasl : (p.rasl && ((auTaken n a rest s).decSt n).rasl) = false) :
    decodeDoneFx n p s = ((auTaken n a rest s).decPicture n a p false (s.auRead n a).2).backlog n := by
  have hsps : spsTaken n a p (s.decSt n).started (auTaken n a rest s) = auTaken n a rest s := cond_of_not hirap _ _
  rw [decodeDone_decodes haus (.inl hstart) hp, hsps, hrasl, if_neg (by decide), if_neg (by rw [hv]; decide), hirap]
  rfl

theorem decodeDone_rasl (hstart : (s.decSt n).started = true) (hirap : a.irap = false) (hp : p.paramsMissing = false)
    (hrasl : (p.rasl && ((auTaken n a rest s).decSt n).rasl) = true) : decodeDoneFx n p s = passedOver n (auTaken n a rest s) := by
  have hsps : spsTaken n a p (s.decSt n).started (auTaken n a rest s) = auTaken n a rest s := cond_of_not hirap _ _
  rw [decodeDone_decodes haus (.inl hstart) hp, hsps, hrasl, if_pos rfl]

end

/-- What the reading of an access unit leaves. -/
theorem auTaken_shows {n : Nat} {fs : List Fld} (hfs : lowFields fs = true) (a : Au) (rest : List Au) (s : State) :
    ((auTaken n a rest s).decSt n) = { s.decSt n with aus := rest } ∧ (auTaken n a rest s).lyr = s.lyr ∧ (auTaken n a rest s).drm.mem = s.drm.mem ∧
    (∀ f ∈ fs, (auTaken n a rest s).rd f = s.rd f) ∧ (auTaken n a rest s).soundDram = s.soundDram := by
  have d := staysDram_low (F := fun s : State => (s.decSt n, s.lyr, s.drm.mem)) (fs := fs) (fun _ _ _ => rfl) (fun _ _ _ => rfl) (fun _ _ => rfl)
    (fun _ _ h => congrArg (fun m => (_, _, m)) h.mem) hfs
  have hread : Stays (fun s : State => (s.decSt n, s.lyr, s.drm.mem)) fs s (s.auRead n a).1 := d.frame.each fun t _ _ => frame_readUe d t _ _
  have hsound : ReadsAlike s (s.auRead n a).1 := readsAlikeFrame.each fun t _ _ => readsAlikeReads.frame_readUe t _ _
  have hparts := hread.part
  simp only [Prod.mk.injEq] at hparts
  obtain ⟨hdec, hlyr, hmem⟩ := hparts
  obtain ⟨hs, -, hregs⟩ := marked_same (s.auRead n a).1 n (fun d => { d with aus := rest })
  refine ⟨?_, hlyr, hmem, fun f hf => (hregs f).trans (hread.rd f hf), hs.trans (soundDram_congr hsound)⟩
  unfold auTaken
  rw [decSt_modDec, hdec]

/-- What the picture that is passed over leaves. -/
theorem passedOver_stays {n : Nat} {fs : List Fld} (hW : ∀ f ∈ receiveFields n, apartFrom fs f = true) (hE : quietFor fs 0x030 = true) (s : State) :
    Stays (fun s => (s.lyr, s.drm)) fs s (passedOver n s) ∧ ((passedOver n s).decSt n).verdict = (s.decSt n).verdict := by
  have h := staysFrame (F := fun s : State => (s.lyr, s.drm)) (fun _ _ _ => rfl) fs
  have hlate : Stays (fun s : State => (s.lyr, s.drm)) fs s (s.modDec n (fun d => { d with late := false })) := .other rfl rfl
  refine ⟨h.trans hlate (frame_backlog h (fun _ _ _ => .other rfl rfl) hW hE _), ?_⟩
  have hpart := (frame_endBacklog (n := n) hW hE (s.modDec n (fun d => { d with late := false }))).part
  refine (congrArg (fun x => x.2.2.1) hpart).trans ?_
  show ((s.modDec n (fun d => { d with late := false })).decSt n).verdict = _
  rw [decSt_modDec]

/-- A stream that is not behind its threshold passes a picture over, and nothing more goes. -/
theorem passedOver_quiet {n : Nat} {fs : List Fld} (hW : ∀ f ∈ streamShown n, apartFrom fs f = true) (hE : quietFor fs 0x030 = true) {s : State}
    (hb : (s.decSt n).aus.length ≤ s.lv (R.DEC.DROP_THRESH n)) :
    Stays (fun s => (s.lyr, s.drm)) fs s (passedOver n s) ∧ ((passedOver n s).decSt n).aus = (s.decSt n).aus := by
  have h := staysFrame (F := fun s : State => ((s.lyr, s.drm), (s.decSt n).aus)) (fun _ _ _ => rfl) fs
  have hbehind : (s.modDec n (fun d => { d with late := false })).behind n = false := by
    unfold State.behind
    rw [decSt_modDec]
    exact decide_eq_false (Nat.not_lt_of_le hb)
  have haus : ((s.modDec n (fun d => { d with late := false })).decSt n).aus = (s.decSt n).aus := by rw [decSt_modDec]
  have hlate : Stays (fun s : State => ((s.lyr, s.drm), (s.decSt n).aus)) fs s (s.modDec n (fun d => { d with late := false })) :=
    .other (Prod.ext rfl haus) rfl
  have hall := h.trans hlate (frame_quietBacklog h (fun _ _ => .other rfl rfl) hW hE hbehind)
  obtain ⟨h1, h2⟩ := Prod.mk.inj hall.part
  exact ⟨⟨h1, hall.rd, hall.pend⟩, h2⟩

/-- The backlog ends by showing the stream's state. -/
theorem backlog_dstate {n : Nat} (hn : n < 16) {s : State} (hon : s.decOn n = true) (hv : (s.decSt n).verdict ≠ 0) (hlt : (s.decSt n).verdict < 8) :
    (s.backlog n).rd (R.DEC.DSTATE n) = (s.decSt n).verdict := by
  have hall : ∀ n < 16, (∀ f ∈ receiveFields n, apartFrom (servedFields n) f = true) ∧ quietFor (servedFields n) 0x030 = true := by decide
  obtain ⟨hW, hE⟩ := hall n hn
  have h := staysFrame (F := decPart n) (fun _ _ _ => rfl) (servedFields n)
  have hdec : DecFree (Stays (decPart n) (servedFields n)) := fun _ _ hd => .other (hd n) rfl
  let v : State := s.cond (s.behind n) (fun s => (s.setShedding n true).shed n (s.decSt n).aus.length)
  let u : State := (v.setShedding n (v.behind n)).showBacklog n
  have hbefore : Stays (decPart n) (servedFields n) s u := by
    refine h.trans ?_ (frame_showBacklog h hW _)
    refine h.trans ?_ (frame_setShedding h hdec hW hE _ _)
    exact h.cond fun _ => h.trans (frame_setShedding h hdec hW hE s _) (frame_shed h hdec hW hE _ _)
  have hverdict : (u.decSt n).verdict = (s.decSt n).verdict := congrArg (fun x => x.2.2.1) hbefore.part
  have hon' : u.decOn n = true := (decOn_congr hbefore.rd).trans hon
  have hend : s.backlog n = u.showDstate n := rfl
  rw [hend]
  exact ((showDstate_shows (s := u) hn hon').1 (by rw [hverdict]; exact hv) (by rw [hverdict]; exact hlt)).trans hverdict

/-! An SPS that the decoder does not support (R161, R162). -/

/-- The fields that the judgement of an SPS depends on, its count, and those that say that the decoder serves the stream. -/
def judgedFields (n : Nat) : List Fld := R.DEC.CNT_UNSUPPORTED :: (R.STR.SCAN n).live :: (R.DEC.DPB_SIZE n).live :: servedFields n

/-- What an SPS shows. -/
def spsShown (n : Nat) (sps : Sps) (s : State) : State :=
  ((((s.wr (R.DEC.CHROMA n) sps.chroma).wrB (R.DEC.DEPTH10 n) (sps.depth == 10)).wr (R.DEC.PROFILE n) sps.profile).wr (R.DEC.TIER n) sps.tier).wr
    (R.DEC.LEVEL n) sps.level

/-- It counts where the stream had another verdict before. -/
def unsupportedNoted (n : Nat) (s : State) : State :=
  s.cond ((s.decSt n).verdict != dsUNSUPPORTED) (fun s => (s.inc R.DEC.CNT_UNSUPPORTED).decRaise n R.DEC.ev_UNSUPPORTED)

theorem activate_unsupported {s : State} {n : Nat} {sps : Sps}
    (h : (!spsOk ((spsShown n sps s).lv (R.STR.SCAN n)) sps || !(spsShown n sps s).dpbFits n sps) = true) :
    s.activate n sps = ((unsupportedNoted n (spsShown n sps s)).modDec n (fun d => { d with verdict := dsUNSUPPORTED })).showDstate n := by
  unfold State.activate
  exact if_pos h

theorem judgedFields_apart : ∀ n < 16, lowFields (judgedFields n) = true ∧
    (∀ f ∈ [R.DEC.CHROMA n, R.DEC.DEPTH10 n, R.DEC.PROFILE n, R.DEC.TIER n, R.DEC.LEVEL n], apartFrom (judgedFields n) f = true) ∧
    (∀ f ∈ receiveFields n, apartFrom (judgedFields n) f = true) ∧ (∀ f ∈ storeFields n ++ outFields n, apartFrom (judgedFields n) f = true) ∧
    apartFrom (judgedFields n) (R.DEC.CNT_CONCEALED n) = true ∧
    (∀ l, l < 16 → ∀ f ∈ fenceFields l, apartFrom (judgedFields n) f = true) ∧
    quietFor (judgedFields n) 0x030 = true ∧ quietFor (judgedFields n) (0x020 + n) = true ∧ apartFrom (servedFields n) R.DEC.CNT_UNSUPPORTED = true := by decide +kernel

/-- An SPS that is not supported. -/
theorem activate_shows {n : Nat} (hn : n < 16) {s : State} {sps : Sps} (h : (spsOk (s.lv (R.STR.SCAN n)) sps && s.dpbFits n sps) = false) :
    ((s.activate n sps).decSt n).verdict = dsUNSUPPORTED ∧ (∀ f ∈ servedFields n, (s.activate n sps).rd f = s.rd f) ∧
    ((s.decSt n).verdict ≠ dsUNSUPPORTED → Counted s (s.activate n sps) R.DEC.CNT_UNSUPPORTED ∧ Pending (s.activate n sps) R.DEC.ev_UNSUPPORTED) := by
  obtain ⟨-, hsps, -, -, -, -, hE, -, hown⟩ := judgedFields_apart n hn
  have hall : ∀ n < 16, sep R.DEC.CNT_UNSUPPORTED R.DEC.LAST_STREAM = true ∧
      (∀ f ∈ streamShown n, apartFrom [R.DEC.CNT_UNSUPPORTED] f = true) ∧ (∀ f ∈ streamShown n, apartFrom (servedFields n) f = true) ∧
      quietFor (servedFields n) 0x030 = true := by decide
  obtain ⟨hlast, hcount, hserved, hquiet⟩ := hall n hn
  have hj := staysFrame (F := fun s : State => s.decSt n) (fun _ _ _ => rfl) (judgedFields n)
  have hw (t : State) {f : Fld} (hf : f ∈ [R.DEC.CHROMA n, R.DEC.DEPTH10 n, R.DEC.PROFILE n, R.DEC.TIER n, R.DEC.LEVEL n]) (v : Nat) :
      Stays (fun s : State => s.decSt n) (judgedFields n) t (t.wr f v) := hj.wr t v (hsps f hf)
  have hshown : Stays (fun s : State => s.decSt n) (judgedFields n) s (spsShown n sps s) :=
    hj.trans (hj.trans (hj.trans (hj.trans (hw s (by simp) _) (hw _ (by simp) _)) (hw _ (by simp) _)) (hw _ (by simp) _)) (hw _ (by simp) _)
  have hbad : (!spsOk ((spsShown n sps s).lv (R.STR.SCAN n)) sps || !(spsShown n sps s).dpbFits n sps) = true := by
    have hscan : (spsShown n sps s).lv (R.STR.SCAN n) = s.lv (R.STR.SCAN n) := hshown.rd _ (by simp [judgedFields])
    have hsize : (spsShown n sps s).lv (R.DEC.DPB_SIZE n) = s.lv (R.DEC.DPB_SIZE n) := hshown.rd _ (by simp [judgedFields])
    unfold State.dpbFits at h ⊢
    rw [hscan, hsize, ← Bool.not_and, h]
    rfl
  rw [activate_unsupported hbad]
  have hdec := hshown.part
  have hrd := hshown.rd
  generalize spsShown n sps s = u at hdec hrd ⊢
  have hfields : ∀ f ∈ servedFields n, u.rd f = s.rd f := fun f hf => hrd f (List.mem_cons_of_mem _ (List.mem_cons_of_mem _ (List.mem_cons_of_mem _ hf)))
  have hs := staysFrame (F := fun _ : State => ()) (fun _ _ _ => rfl) (servedFields n)
  have hnoted : Stays (fun _ : State => ()) (servedFields n) u (unsupportedNoted n u) :=
    hs.cond fun _ => hs.trans (hs.inc u hown) (hs.trans (hs.wr _ _ (hserved _ (by simp [streamShown])))
      (hs.raise _ (e := R.DEC.ev_UNSUPPORTED) hquiet (by decide)))
  have hcounted : (u.decSt n).verdict ≠ dsUNSUPPORTED → Counted u (unsupportedNoted n u) R.DEC.CNT_UNSUPPORTED ∧ Pending (unsupportedNoted n u) R.DEC.ev_UNSUPPORTED := by
    intro hv
    unfold unsupportedNoted
    rw [cond_of (by simpa using hv)]
    exact ⟨(rd_raise_sep _ (by decide)).trans ((rd_wr_sep _ _ hlast).trans (counted_inc u rfl rfl)), pending_raise _ (by decide)⟩
  generalize unsupportedNoted n u = w at hnoted hcounted
  let x : State := w.modDec n (fun d => { d with verdict := dsUNSUPPORTED })
  have hx : ∀ f, x.rd f = w.rd f := (marked_same w n _).2.2
  have hdstate : Stays (fun s : State => s.decSt n) (servedFields n) x (x.showDstate n) := frame_dstate (staysFrame (fun _ _ _ => rfl) _) hserved x
  have hdcount : Stays (fun _ : State => ()) [R.DEC.CNT_UNSUPPORTED] x (x.showDstate n) := frame_dstate (staysFrame (fun _ _ _ => rfl) _) hcount x
  refine ⟨?_, fun f hf => (hdstate.rd f hf).trans ((hx f).trans ((hnoted.rd f hf).trans (hfields f hf))), fun hv => ?_⟩
  · refine (congrArg DecSt.verdict hdstate.part).trans ?_
    show ((w.modDec n _).decSt n).verdict = _
    rw [decSt_modDec]
  · have hv' : (u.decSt n).verdict ≠ dsUNSUPPORTED := by
      rw [hdec]
      exact hv
    obtain ⟨h1, h2⟩ := hcounted hv'
    refine ⟨(hdcount.rd _ (by simp)).trans ((hx _).trans (h1.trans ?_)), hdcount.pend _ h2⟩
    exact congrArg (fun k => min (k + 1) _) (hrd _ (by simp [judgedFields]))

/-- An IRAP picture whose SPS is not supported. -/
theorem unsupported_shows {n : Nat} (hn : n < 16) {s : State} (hon : s.decOn n = true) {p : DecPic} {a : Au} {rest : List Au}
    (haus : (s.decSt n).aus = a :: rest) (hirap : a.irap = true) (hp : p.paramsMissing = false)
    (hbad : (spsOk (s.lv (R.STR.SCAN n)) p.sps && s.dpbFits n p.sps) = false) :
    (decodeDoneFx n p s).rd (R.DEC.DSTATE n) = dsUNSUPPORTED ∧
    ((s.decSt n).verdict ≠ dsUNSUPPORTED → Counted s (decodeDoneFx n p s) R.DEC.CNT_UNSUPPORTED ∧ Pending (decodeDoneFx n p s) R.DEC.ev_UNSUPPORTED) := by
  obtain ⟨hlow, -, hrecv, hfieldsW, hconc, hfence, hE, hstr, -⟩ := judgedFields_apart n hn
  have d := sideOutput (n := n) hlow hfieldsW hfence hE hstr
  have c := sideStore (n := n) hlow (fun f hf => hfieldsW f (List.mem_append_left _ hf)) hE
  obtain ⟨hst, -, -, hrd, -⟩ := auTaken_shows (n := n) hlow a rest s
  let m : State := (auTaken n a rest s).modDec n (fun d => { d with rasl := a.irap && (a.restart || !(s.decSt n).started), started := true })
  have hm : spsTaken n a p (s.decSt n).started (auTaken n a rest s) = m.activate n p.sps := cond_of hirap _ _
  have hmrd : ∀ f ∈ judgedFields n, m.rd f = s.rd f := fun f hf => ((marked_same (auTaken n a rest s) n _).2.2 f).trans (hrd f hf)
  have hmst : (m.decSt n).verdict = (s.decSt n).verdict := by
    show (((auTaken n a rest s).modDec n _).decSt n).verdict = _
    rw [decSt_modDec, hst]
  have hmbad : (spsOk (m.lv (R.STR.SCAN n)) p.sps && m.dpbFits n p.sps) = false := by
    have hscan : m.lv (R.STR.SCAN n) = s.lv (R.STR.SCAN n) := hmrd _ (by simp [judgedFields])
    have hsize : m.lv (R.DEC.DPB_SIZE n) = s.lv (R.DEC.DPB_SIZE n) := hmrd _ (by simp [judgedFields])
    unfold State.dpbFits at hbad ⊢
    rw [hscan, hsize]
    exact hbad
  obtain ⟨hv, hserved, hcount⟩ := activate_shows hn hmbad
  rw [decodeDone_decodes haus (.inr hirap) hp, hm]
  generalize m.activate n p.sps = u at hv hserved hcount
  have hfields : ∀ f ∈ servedFields n, m.rd f = s.rd f := fun f hf => hmrd f (List.mem_cons_of_mem _ (List.mem_cons_of_mem _ (List.mem_cons_of_mem _ hf)))
  have hcounted : (s.decSt n).verdict ≠ dsUNSUPPORTED → Counted s u R.DEC.CNT_UNSUPPORTED ∧ Pending u R.DEC.ev_UNSUPPORTED := by
    intro h
    obtain ⟨h1, h2⟩ := hcount (by rw [hmst]; exact h)
    exact ⟨h1.trans (congrArg (fun k => min (k + 1) _) (hmrd _ (by simp [judgedFields]))), h2⟩
  have hpassed {t : State} (ht : Stays (decSide n) (judgedFields n) u t) : (passedOver n t).rd (R.DEC.DSTATE n) = dsUNSUPPORTED ∧
      ((s.decSt n).verdict ≠ dsUNSUPPORTED → Counted s (passedOver n t) R.DEC.CNT_UNSUPPORTED ∧ Pending (passedOver n t) R.DEC.ev_UNSUPPORTED) := by
    have htv : (t.decSt n).verdict = dsUNSUPPORTED :=
      (congrArg (fun x : DecSt => x.verdict) (a₁ := besideDpb (t.decSt n)) (a₂ := besideDpb (u.decSt n)) ht.part).trans hv
    have hover := (passedOver_stays (n := n) hrecv hE t).1
    have hlate : ((t.modDec n (fun d => { d with late := false })).decSt n).verdict = dsUNSUPPORTED := by
      rw [decSt_modDec]
      exact htv
    have hon' : (t.modDec n (fun d => { d with late := false })).decOn n = true := by
      refine (decOn_congr (s := s) fun f hf => ?_).trans hon
      exact ((marked_same t n _).2.2 f).trans ((ht.rd f (List.mem_cons_of_mem _ (List.mem_cons_of_mem _ (List.mem_cons_of_mem _ hf)))).trans
        ((hserved f hf).trans (hfields f hf)))
    refine ⟨(backlog_dstate hn hon' (by rw [hlate]; decide) (by rw [hlate]; decide)).trans hlate, fun h => ?_⟩
    obtain ⟨h1, h2⟩ := hcounted h
    exact ⟨(hover.rd _ (by simp [judgedFields])).trans ((ht.rd _ (by simp [judgedFields])).trans h1), hover.pend _ (ht.pend _ h2)⟩
  split
  · exact hpassed (c.frame.refl u)
  · rw [if_pos (by rw [hv]; decide), cond_of hirap]
    exact hpassed (frame_bumpAll c (frame_decOutput d hconc) u)

/-! What is passed over (R162, R174). -/

/-- The fields that a picture which is passed over leaves, and the counts of what was. -/
def passedFields (n : Nat) : List Fld := [R.DEC.CNT_PICTURES n, R.DEC.CNT_PARAM_MISSING]

theorem passedFields_apart : ∀ n < 16, lowFields (passedFields n) = true ∧ (∀ f ∈ receiveFields n, apartFrom (passedFields n) f = true) ∧
    quietFor (passedFields n) 0x030 = true ∧ apartFrom [R.DEC.CNT_PICTURES n] R.DEC.CNT_PARAM_MISSING = true ∧
    apartFrom (passedFields n) R.DEC.LAST_STREAM = true ∧ quietFor [R.DEC.CNT_PICTURES n] 0x030 = true ∧
    apartFrom [R.DEC.CNT_PICTURES n] R.DEC.LAST_STREAM = true := by decide

/-- Before the first IRAP picture. -/
theorem skip_shows {n : Nat} (hn : n < 16) {s : State} {p : DecPic} {a : Au} {rest : List Au} (haus : (s.decSt n).aus = a :: rest)
    (hstart : (s.decSt n).started = false) (hirap : a.irap = false) (hb : rest.length ≤ s.lv (R.DEC.DROP_THRESH n)) :
    Counted s (decodeDoneFx n p s) R.DEC.CNT_SKIP ∧ ((decodeDoneFx n p s).decSt n).aus = rest ∧
    (decodeDoneFx n p s).rd (R.DEC.CNT_PICTURES n) = s.rd (R.DEC.CNT_PICTURES n) ∧ (decodeDoneFx n p s).lyr = s.lyr ∧
    (decodeDoneFx n p s).drm.mem = s.drm.mem := by
  have hall : ∀ n < 16, lowFields [R.DEC.CNT_SKIP, R.DEC.CNT_PICTURES n, (R.DEC.DROP_THRESH n).live] = true ∧
      (∀ f ∈ streamShown n, apartFrom [R.DEC.CNT_SKIP, R.DEC.CNT_PICTURES n] f = true) ∧ quietFor [R.DEC.CNT_SKIP, R.DEC.CNT_PICTURES n] 0x030 = true ∧
      sep (R.DEC.CNT_PICTURES n) R.DEC.CNT_SKIP = true ∧ sep (R.DEC.DROP_THRESH n).live R.DEC.CNT_SKIP = true := by decide
  obtain ⟨hlow, hW, hE, h1, h2⟩ := hall n hn
  obtain ⟨hst, hlyr, hmem, hrd, -⟩ := auTaken_shows hlow a rest s
  have hu : ((auTaken n a rest s).inc R.DEC.CNT_SKIP).decSt n = (auTaken n a rest s).decSt n :=
    (partFrame (F := fun s : State => s.decSt n) fun _ _ _ => rfl).inc _ (f := R.DEC.CNT_SKIP) rfl
  have hpart : ((auTaken n a rest s).inc R.DEC.CNT_SKIP).lyr = s.lyr ∧ ((auTaken n a rest s).inc R.DEC.CNT_SKIP).drm.mem = s.drm.mem :=
    ⟨((partFrame (F := State.lyr) fun _ _ _ => rfl).inc _ (f := R.DEC.CNT_SKIP) rfl).trans hlyr,
      (congrArg DramSt.mem ((partFrame (F := State.drm) fun _ _ _ => rfl).inc _ (f := R.DEC.CNT_SKIP) rfl)).trans hmem⟩
  have hcount : Counted s ((auTaken n a rest s).inc R.DEC.CNT_SKIP) R.DEC.CNT_SKIP :=
    (counted_inc _ rfl rfl).trans (congrArg (fun k => min (k + 1) _) (hrd _ (by simp)))
  have hpics : ((auTaken n a rest s).inc R.DEC.CNT_SKIP).rd (R.DEC.CNT_PICTURES n) = s.rd (R.DEC.CNT_PICTURES n) :=
    (rd_wr_sep _ _ h1).trans (hrd _ (by simp))
  have hthresh : ((auTaken n a rest s).inc R.DEC.CNT_SKIP).lv (R.DEC.DROP_THRESH n) = s.lv (R.DEC.DROP_THRESH n) :=
    (rd_wr_sep _ _ h2).trans (hrd _ (by simp))
  rw [decodeDone_skip haus hstart hirap]
  generalize (auTaken n a rest s).inc R.DEC.CNT_SKIP = u at hu hpart hcount hpics hthresh
  have haus' : (u.decSt n).aus = rest := by rw [hu, hst]
  obtain ⟨hover, hleft⟩ := passedOver_quiet hW hE (s := u) (by rw [haus', hthresh]; exact hb)
  obtain ⟨ho1, ho2⟩ := Prod.mk.inj hover.part
  exact ⟨(hover.rd _ (by simp)).trans hcount, hleft.trans haus', (hover.rd _ (by simp)).trans hpics, ho1.trans hpart.1,
    (congrArg DramSt.mem ho2).trans hpart.2⟩

/-- A picture without its parameter sets. -/
theorem params_shows {n : Nat} (hn : n < 16) {s : State} {p : DecPic} {a : Au} {rest : List Au} (haus : (s.decSt n).aus = a :: rest)
    (hstart : (s.decSt n).started = true ∨ a.irap = true) (hp : p.paramsMissing = true) :
    Counted s (decodeDoneFx n p s) R.DEC.CNT_PARAM_MISSING ∧ Pending (decodeDoneFx n p s) R.DEC.ev_PARAM_MISSING ∧
    (decodeDoneFx n p s).rd (R.DEC.CNT_PICTURES n) = s.rd (R.DEC.CNT_PICTURES n) ∧ (decodeDoneFx n p s).lyr = s.lyr ∧
    (decodeDoneFx n p s).drm.mem = s.drm.mem := by
  obtain ⟨hlow, hW, hE, h1, h2, h3, h4⟩ := passedFields_apart n hn
  obtain ⟨-, hlyr, hmem, hrd, -⟩ := auTaken_shows (n := n) hlow a rest s
  have h := staysFrame (F := fun s : State => (s.lyr, s.drm)) (fun _ _ _ => rfl) [R.DEC.CNT_PICTURES n]
  have hnoted (u : State) : Stays (fun s : State => (s.lyr, s.drm)) [R.DEC.CNT_PICTURES n] u ((u.inc R.DEC.CNT_PARAM_MISSING).decRaise n R.DEC.ev_PARAM_MISSING) :=
    h.trans (h.inc u h1) (h.trans (h.wr _ _ h4) (h.raise _ (e := R.DEC.ev_PARAM_MISSING) h3 (by decide)))
  have hcounted (u : State) : Counted u ((u.inc R.DEC.CNT_PARAM_MISSING).decRaise n R.DEC.ev_PARAM_MISSING) R.DEC.CNT_PARAM_MISSING :=
    (rd_raise_sep _ (by decide)).trans ((rd_wr_sep _ _ (by decide)).trans (counted_inc u rfl rfl))
  have hpend (u : State) : Pending ((u.inc R.DEC.CNT_PARAM_MISSING).decRaise n R.DEC.ev_PARAM_MISSING) R.DEC.ev_PARAM_MISSING := pending_raise _ (by decide)
  rw [decodeDone_params haus hstart hp]
  generalize auTaken n a rest s = u at hlyr hmem hrd
  have hn1 := hnoted u
  have hn2 := hcounted u
  have hn3 := hpend u
  generalize (u.inc R.DEC.CNT_PARAM_MISSING).decRaise n R.DEC.ev_PARAM_MISSING = w at hn1 hn2 hn3
  have hover := (passedOver_stays (n := n) hW hE w).1
  obtain ⟨ho1, ho2⟩ := Prod.mk.inj hover.part
  obtain ⟨hw1, hw2⟩ := Prod.mk.inj hn1.part
  exact ⟨(hover.rd _ (by simp [passedFields])).trans (hn2.trans (congrArg (fun k => min (k + 1) _) (hrd _ (by simp [passedFields])))), hover.pend _ hn3,
    (hover.rd _ (by simp [passedFields])).trans ((hn1.rd _ (by simp)).trans (hrd _ (by simp [passedFields]))), ho1.trans (hw1.trans hlyr),
    (congrArg DramSt.mem (ho2.trans hw2)).trans hmem⟩

/-- A RASL picture of the IRAP picture that started the stream. -/
theorem rasl_shows {n : Nat} (hn : n < 16) {s : State} {p : DecPic} {a : Au} {rest : List Au} (haus : (s.decSt n).aus = a :: rest)
    (hstart : (s.decSt n).started = true) (hirap : a.irap = false) (hp : p.paramsMissing = false) (hrasl : p.rasl = true) (hr : (s.decSt n).rasl = true) :
    (decodeDoneFx n p s).rd (R.DEC.CNT_PICTURES n) = s.rd (R.DEC.CNT_PICTURES n) ∧ (decodeDoneFx n p s).lyr = s.lyr ∧
    (decodeDoneFx n p s).drm.mem = s.drm.mem := by
  obtain ⟨hlow, hW, hE, -⟩ := passedFields_apart n hn
  obtain ⟨hst, hlyr, hmem, hrd, -⟩ := auTaken_shows (n := n) hlow a rest s
  rw [decodeDone_rasl haus hstart hirap hp (by rw [hst, hrasl, hr]; rfl)]
  generalize auTaken n a rest s = u at hlyr hmem hrd
  have hover := (passedOver_stays (n := n) hW hE u).1
  obtain ⟨ho1, ho2⟩ := Prod.mk.inj hover.part
  exact ⟨(hover.rd _ (by simp [passedFields])).trans (hrd _ (by simp [passedFields])), ho1.trans hlyr, (congrArg DramSt.mem ho2).trans hmem⟩

/-! The budget (R175). -/

theorem budget_shows {n : Nat} (hn : n < 16) (s : State) :
    let t := ((s.modDec n (fun d => { d with late := true })).inc (R.DEC.CNT_BUDGET n)).decRaise n R.DEC.ev_BUDGET
    t.decSt n = { s.decSt n with late := true } ∧ Counted s t (R.DEC.CNT_BUDGET n) ∧ Pending t R.DEC.ev_BUDGET ∧ t.rd R.DEC.LAST_STREAM = n := by
  have hsep : ∀ n < 16, sep (R.DEC.CNT_BUDGET n) R.DEC.LAST_STREAM = true ∧ offKey (R.DEC.CNT_BUDGET n) (evtPendKey R.DEC.ev_BUDGET.page) = true := by decide
  have h := partFrame (F := fun s : State => s.decSt n) fun _ _ _ => rfl
  have hst : (((s.modDec n (fun d => { d with late := true })).inc (R.DEC.CNT_BUDGET n)).decRaise n R.DEC.ev_BUDGET).decSt n =
      (s.modDec n (fun d => { d with late := true })).decSt n :=
    h.trans (h.inc _ (f := R.DEC.CNT_BUDGET n) rfl) (h.trans (h.wr _ (f := R.DEC.LAST_STREAM) n rfl) (h.raise _ (e := R.DEC.ev_BUDGET) rfl (by decide)))
  refine ⟨hst.trans (decSt_modDec _ _ _), ?_, pending_raise _ (by decide), ?_⟩
  · have hregs := (marked_same s n (fun d => { d with late := true })).2.2 (R.DEC.CNT_BUDGET n)
    generalize s.modDec n (fun d => { d with late := true }) = u at hregs
    have hcount : Counted u (u.inc (R.DEC.CNT_BUDGET n)) (R.DEC.CNT_BUDGET n) := counted_inc u rfl rfl
    refine (rd_raise_sep (e := R.DEC.ev_BUDGET) _ (hsep n hn).2).trans ((rd_wr_sep _ _ (hsep n hn).1).trans (hcount.trans ?_))
    exact congrArg (fun k => min (k + 1) _) hregs
  · have hlast : offKey R.DEC.LAST_STREAM (evtPendKey R.DEC.ev_BUDGET.page) = true := by decide
    have hlt : n % 2 ^ R.DEC.LAST_STREAM.w = n := Nat.mod_eq_of_lt (show n < 2 ^ 4 by omega)
    exact (rd_raise_sep _ hlast).trans ((rd_wr_own _ _ rfl).trans hlt)

theorem decOn_lt {s : State} {n : Nat} (h : s.decOn n = true) : n < 16 := by
  unfold State.decOn at h
  rw [Bool.and_eq_true, Bool.and_eq_true] at h
  exact of_decide_eq_true h.1.1

/-! A picture of a stream that has started (R165, R176 to R180). -/

theorem auRead_sound {s : State} (hs : s.soundDram = true) (n : Nat) (a : Au) : (s.auRead n a).2 = false := by
  unfold State.auRead
  exact List.any_eq_false.mpr fun p _ => by
    rw [unsound_of_sound hs]
    decide

theorem decoded_shows {n : Nat} (hn : n < 16) {s : State} {p : DecPic} {a : Au} {rest : List Au} (haus : (s.decSt n).aus = a :: rest) (hirap : a.irap = false)
    (hstart : (s.decSt n).started = true) (hv : (s.decSt n).verdict = 0) (hp : p.paramsMissing = false) (hrasl : (p.rasl && (s.decSt n).rasl) = false)
    (hsound : s.soundDram = true) (hfit : outFits s n = true)
    (hin : (List.range ((s.decSt n).dpb.length + p.refs.length + 1)).all (fun k => s.dpbInside n p.sps k) = true) :
    let t := decodeDoneFx n p s
    let d := s.decSt n
    let conc := d.late || p.refs.any (fun k => d.dpb.all (fun q => q.poc != k)) || !p.badCtus.isEmpty || a.slices == 0 || decide (0 < p.bounds) || p.poisoned
    (t.decSt n).late = false ∧
    (conc = true → Counted s t (R.DEC.CNT_CONCEALED n) ∧ Pending t R.DEC.ev_CONCEALED) ∧
    (conc = false → t.rd (R.DEC.CNT_CONCEALED n) = s.rd (R.DEC.CNT_CONCEALED n)) ∧
    (∀ i, d.dpb = [] → p.refs = [] → p.outputFlag = true → p.sps.reorder = 0 → s.lv (R.STR.BUF_COUNT n) ≤ 8 →
      s.nextSurface n (s.lv (R.STR.BUF_COUNT n)) = some i →
      Counted s t (R.DEC.CNT_PICTURES n) ∧ t.rd (R.STR.READY_IDX n) = i ∧ t.rd (R.STR.READY_VALID n) = 1 ∧
      (conc = true → (t.rd (R.DEC.CONC_MASK n)).testBit i = true)) := by
  have hall : ∀ n < 16, lowFields (calmFields n ++ chosenFields n) = true := by decide +kernel
  obtain ⟨hst, -, -, hrd, hs⟩ := auTaken_shows (hall n hn) a rest s
  have hcalm : ∀ f ∈ calmFields n, (auTaken n a rest s).rd f = s.rd f := fun f hf => hrd f (List.mem_append_left _ hf)
  have hchosen : ∀ f ∈ chosenFields n, (auTaken n a rest s).rd f = s.rd f := fun f hf => hrd f (List.mem_append_right _ hf)
  have hfx := decodeDone_picture haus hstart hirap (by rw [hst]; exact hv) hp (by rw [hst]; exact hrasl)
  rw [auRead_sound hsound] at hfx
  rw [hfx]
  generalize auTaken n a rest s = u at hst hs hcalm hchosen
  have hsound' := hs.trans hsound
  have hfit' : outFits u n = true := (outFits_congr fun f hf => hcalm f (List.mem_cons_of_mem _ (List.mem_cons_of_mem _ hf))).trans hfit
  have hdpb : (u.decSt n).dpb = (s.decSt n).dpb := by rw [hst]
  have hlate : (u.decSt n).late = (s.decSt n).late := by rw [hst]
  have hin' : (List.range ((u.decSt n).dpb.length + p.refs.length + 1)).all (fun k => u.dpbInside n p.sps k) = true := by
    rw [hdpb]
    simp only [dpbInside_congr (s := s) (t := u) (hcalm (R.DEC.DPB_SIZE n).live (by simp [calmFields]))]
    exact hin
  have hconc := picConc_sound hn hsound' hfit' hin' a
  rw [hdpb, hlate] at hconc
  obtain ⟨h1, h2, h3⟩ := picture_shows hn hsound' hfit' a p false
  rw [hconc] at h2 h3
  have hcount : u.rd (R.DEC.CNT_CONCEALED n) = s.rd (R.DEC.CNT_CONCEALED n) := hcalm _ (by simp [calmFields])
  refine ⟨h1, fun hc => ⟨(h2 hc).1.trans (congrArg (fun k => min (k + 1) _) hcount), (h2 hc).2⟩, fun hc => (h3 hc).trans hcount,
    fun i hempty hrefs hout hreorder hbuf hi => ?_⟩
  have hbufs : u.lv (R.STR.BUF_COUNT n) = s.lv (R.STR.BUF_COUNT n) := hchosen _ (by simp [chosenFields])
  have hi' : u.nextSurface n (u.lv (R.STR.BUF_COUNT n)) = some i := by
    rw [hbufs, nextSurface_congr fun f hf => hchosen f (List.mem_cons_of_mem _ (List.mem_cons_of_mem _ hf))]
    exact hi
  obtain ⟨h4, h5, h6, h7⟩ := picture_output hn (hdpb.trans hempty) hrefs hout hreorder (by rw [hbufs]; exact hbuf) hi' a false
  rw [hconc] at h7
  exact ⟨h4.trans (congrArg (fun k => min (k + 1) _) (hchosen _ (by simp [chosenFields]))), h5, h6, h7⟩

/-- A picture that cannot be decoded whole. -/
theorem faulty_shows {n : Nat} (hn : n < 16) {s : State} {p : DecPic} {a : Au} {rest : List Au} (haus : (s.decSt n).aus = a :: rest) (hirap : a.irap = false)
    (hstart : (s.decSt n).started = true) (hv : (s.decSt n).verdict = 0) (hp : p.paramsMissing = false) (hrasl : (p.rasl && (s.decSt n).rasl) = false)
    (hbad : (s.auRead n a).2 = true ∨ (s.lv (R.DEC.DPB_SIZE n) = 0 ∧ 0 < dpbLength p.sps)) : Pending (decodeDoneFx n p s) R.DEC.ev_CONCEALED ∧
    (s.lv (R.DEC.DPB_SIZE n) = 0 → 0 < dpbLength p.sps → Pending (decodeDoneFx n p s) R.DEC.ev_BOUNDS) := by
  obtain ⟨hlow, -⟩ := sizeField_apart n hn
  obtain ⟨hst, -, -, hrd, -⟩ := auTaken_shows (n := n) hlow a rest s
  have hsize : (auTaken n a rest s).lv (R.DEC.DPB_SIZE n) = s.lv (R.DEC.DPB_SIZE n) := hrd _ (List.mem_singleton.mpr rfl)
  rw [decodeDone_picture haus hstart hirap (by rw [hst]; exact hv) hp (by rw [hst]; exact hrasl)]
  generalize auTaken n a rest s = u at hsize
  rw [← hsize] at hbad ⊢
  obtain ⟨h1, h2⟩ := picture_faulty hn (a := a) (p := p) (bad := (s.auRead n a).2) (s := u)
  refine ⟨h1 ?_, fun h0 hlen => (h2 h0 hlen).2⟩
  rcases hbad with hread | ⟨h0, hlen⟩
  · unfold picConc
    rw [hread]
    simp only [Bool.or_true, Bool.true_or]
  · exact (h2 h0 hlen).1

/-- A flush of every stream leaves the count of restarts. -/
theorem flushes_restart (xs : List Nat) (hlt : ∀ m ∈ xs, m < 16) (s : State) :
    (s.each xs (fun s n => s.decFlush n)).rd R.DEC.CNT_RESTART = s.rd R.DEC.CNT_RESTART := by
  have hall : ∀ m < 16, (∀ f ∈ streamShown m, apartFrom [R.DEC.CNT_RESTART] f = true) ∧ apartFrom [R.DEC.CNT_RESTART] (R.DEC.DPB_USED m) = true := by decide
  have h := staysFrame (F := fun _ : State => ()) (fun _ _ _ => rfl) [R.DEC.CNT_RESTART]
  refine (h.each (xs := xs) (s := s) (f := fun s n => s.decFlush n) fun t m hm => ?_).rd _ (by simp)
  obtain ⟨hW, hused⟩ := hall m (hlt m hm)
  have hset : Stays (fun _ : State => ()) [R.DEC.CNT_RESTART] t
      { t with dec := { t.dec with st := smSet decDefaultSt t.dec.st m { wp := (t.decSt m).wp } } } := .other rfl rfl
  unfold State.decFlush
  refine h.trans ?_ (frame_backlogShown h hW _)
  refine h.trans ?_ (frame_shedding h (fun _ _ => .other rfl rfl) hW (by decide) _ _)
  exact h.trans (h.trans hset (frame_dstate h hW _)) (h.wr _ _ hused)

/-- The control core restarts, once its streams are flushed. -/
theorem restart_shows {n wp : Nat} (hn : n < 16) {s u : State} (hst : u.decSt n = { wp := wp }) (hdstate : u.rd (R.DEC.DSTATE n) = dsAWAIT) (hdrm : u.drm = s.drm)
    (hcount : u.rd R.DEC.CNT_RESTART = s.rd R.DEC.CNT_RESTART) :
    let t := u.incRaise R.DEC.CNT_RESTART R.DEC.ev_DEC_RESTART
    t.decSt n = { wp := wp } ∧ t.rd (R.DEC.DSTATE n) = dsAWAIT ∧ Counted s t R.DEC.CNT_RESTART ∧ Pending t R.DEC.ev_DEC_RESTART ∧ t.drm = s.drm := by
  have hsep : ∀ n < 16, apartFrom [R.DEC.DSTATE n] R.DEC.CNT_RESTART = true ∧ quietFor [R.DEC.DSTATE n] R.DEC.ev_DEC_RESTART.page = true := by decide
  have h := (staysFrame (F := fun s : State => (s.decSt n, s.drm)) (fun _ _ _ => rfl) [R.DEC.DSTATE n]).incRaise u (hsep n hn).1 (hsep n hn).2
    (show R.DEC.ev_DEC_RESTART.bit < 32 by decide)
  obtain ⟨h1, h2⟩ := Prod.mk.inj h.part
  exact ⟨h1.trans hst, (h.rd _ (by simp)).trans hdstate,
    (rd_raise_sep _ (by decide)).trans ((counted_inc u rfl rfl).trans (congrArg (fun k => min (k + 1) _) hcount)), pending_raise _ (by decide), h2.trans hdrm⟩

/-- Settles O44. -/
theorem decoderFlushesAndConceals : Obligations.DecoderFlushesAndConceals := by
  unfold Obligations.DecoderFlushesAndConceals
  have hdone {n t0 : Nat} {p : DecPic} {a : Au} {rest : List Au} {s : State} (hs : s.isSender = true) (hon : s.decOn n = true)
      (haus : (s.decSt n).aus = a :: rest) : (s.atTime t0).cond (s.isSender && s.decOn n && !(s.decSt n).aus.isEmpty) (decodeDoneFx n p) =
      decodeDoneFx n p (s.atTime t0) := cond_of (b := s.isSender && s.decOn n && !(s.decSt n).aus.isEmpty) (by rw [hs, hon, haus]; rfl) _ _
  refine ⟨fun v n s hs hon => ⟨fun hv => ⟨_, rfl, ?_⟩, fun hv => ⟨_, rfl, ?_⟩, ⟨_, rfl, ?_⟩⟩, fun n s hs hon hlate haus => ⟨_, rfl, ?_⟩,
    fun n t0 p a rest s hs hon haus hirap hstart hv hp hrasl hsound hfit hin => ⟨_, rfl, ?_⟩,
    fun n t0 p a rest s hs hon haus hirap hstart hv hp hrasl hbad => ⟨_, rfl, ?_⟩, fun n t0 p a rest s hs hon haus => ⟨fun hstart hirap hb => ⟨_, rfl, ?_⟩,
      fun hstart hp => ⟨_, rfl, ?_⟩, fun hstart hirap hp hrasl hr => ⟨_, rfl, ?_⟩, fun hirap hp hbad => ⟨_, rfl, ?_⟩⟩⟩
  · rw [cond_of (b := s.isSender) hs]
    have hn := decOn_lt hon
    obtain ⟨h1, h2, h3, h4⟩ := (flushes_shows hn (xs := (List.range 16).filter (fun n => v.toNat.testBit n && s.decOn n))
      (fun m hm => List.mem_range.mp (List.mem_filter.mp hm).1) (List.nodup_range.filter _) (s := s.start) hon).1
      (List.mem_filter.mpr ⟨List.mem_range.mpr hn, by rw [hv, hon]; rfl⟩)
    exact ⟨h1, h2, h3, h4, flushes_drm _ _⟩
  · rw [cond_of (b := s.isSender) hs]
    refine ⟨(flushes_shows (decOn_lt hon) (xs := (List.range 16).filter (fun n => v.toNat.testBit n && s.decOn n))
      (fun m hm => List.mem_range.mp (List.mem_filter.mp hm).1) (List.nodup_range.filter _) (s := s.start) hon).2 ?_, flushes_drm _ _⟩
    intro hm
    rw [List.mem_filter, hv, Bool.false_and] at hm
    exact absurd hm.2 (by decide)
  · rw [cond_of (b := s.isSender) hs]
    have hn := decOn_lt hon
    obtain ⟨h1, h2, -, -⟩ := (flushes_shows hn (xs := (List.range 16).filter s.decOn) (fun m hm => List.mem_range.mp (List.mem_filter.mp hm).1)
      (List.nodup_range.filter _) (s := s.start) hon).1 (List.mem_filter.mpr ⟨List.mem_range.mpr hn, hon⟩)
    have hdrm := flushes_drm ((List.range 16).filter s.decOn) s.start
    have hcount := flushes_restart ((List.range 16).filter s.decOn) (fun m hm => List.mem_range.mp (List.mem_filter.mp hm).1) s.start
    show _ ∧ _
    rw [show s.start.decOn = s.decOn from rfl]
    generalize s.start.each ((List.range 16).filter s.decOn) (fun s n => s.decFlush n) = u at h1 h2 hdrm hcount
    exact restart_shows hn h1 h2 hdrm hcount
  · rw [cond_of (b := s.isSender && s.decOn n && !(s.decSt n).late && !(s.decSt n).aus.isEmpty)
      (by rw [hs, hon, hlate, List.isEmpty_eq_false_iff.mpr haus]; rfl)]
    exact budget_shows (decOn_lt hon) s.start
  · rw [hdone hs hon haus]
    exact decoded_shows (s := s.atTime t0) (decOn_lt hon) haus hirap hstart hv hp hrasl hsound (decide_eq_true hfit) hin
  · rw [hdone hs hon haus]
    exact faulty_shows (s := s.atTime t0) (decOn_lt hon) haus hirap hstart hv hp hrasl hbad
  · rw [hdone hs hon haus]
    exact skip_shows (s := s.atTime t0) (decOn_lt hon) haus hstart hirap hb
  · rw [hdone hs hon haus]
    exact params_shows (s := s.atTime t0) (decOn_lt hon) haus hstart hp
  · rw [hdone hs hon haus]
    exact rasl_shows (s := s.atTime t0) (decOn_lt hon) haus hstart hirap hp hrasl hr
  · rw [hdone hs hon haus]
    exact unsupported_shows (s := s.atTime t0) (decOn_lt hon) hon haus hirap hp hbad

end Sys2Proof.Proofs.Decoding


/-!
THEOREMS. The glaze engines and the launch of BAND packets (09 R236, R240, R244, R245; 02 R34, R42, R44). Settles O48.
-/

namespace Sys2Proof.Proofs.GlazeEngines
open Sys2Proof.Machine Sys2Proof.Laws Sys2Proof.Proofs.Frames Sys2Proof.Proofs.FieldRules Sys2Proof.Proofs.Framing Sys2Proof.Proofs.DramFrames
  Sys2Proof.Proofs.PageFrames Sys2Proof.Proofs.Sagger

/-! Dispatch (R245). -/

/-- A segment is given to an engine. -/
def segGiven (e : Nat) (k : SegKey) (s : State) : State :=
  { s with map := { s.map with sent := k :: s.map.sent, engines := (e, k) :: s.map.engines, since := smSet (fun _ => 0) s.map.since e s.time } }

theorem segmentDispatch_of {s : State} {e : Nat} {x : PlanSeg} (he : (List.range 8).find? (fun e => (s.engineSeg e).isNone) = some e)
    (hx : firstSeg s.readySegs = some x) : segmentDispatchFx s =
    (((segGiven e ⟨x.desc, x.feed, x.band, x.sx⟩ s).wr (R.GLZ.BUSY e) 1).wr (R.GLZ.PORT e) x.port).wr (R.GLZ.DESC e) x.desc := by
  unfold segmentDispatchFx
  rw [he, hx]
  rfl

theorem segmentDispatch_shows {s : State} {e : Nat} {x : PlanSeg} (he : (List.range 8).find? (fun e => (s.engineSeg e).isNone) = some e)
    (hx : firstSeg s.readySegs = some x) : (segmentDispatchFx s).engineSeg e = some ⟨x.desc, x.feed, x.band, x.sx⟩ ∧
    (segmentDispatchFx s).map.sent = ⟨x.desc, x.feed, x.band, x.sx⟩ :: s.map.sent ∧ (segmentDispatchFx s).rd (R.GLZ.BUSY e) = 1 ∧
    (segmentDispatchFx s).rd (R.GLZ.PORT e) = x.port % 16 ∧ (segmentDispatchFx s).rd (R.GLZ.DESC e) = x.desc % 256 ∧
    WordsKept s (segmentDispatchFx s) [(R.GLZ.BUSY e).key] := by
  have hsep : ∀ e < 8, sep (R.GLZ.BUSY e) (R.GLZ.PORT e) = true ∧ sep (R.GLZ.BUSY e) (R.GLZ.DESC e) = true ∧ sep (R.GLZ.PORT e) (R.GLZ.DESC e) = true := by decide
  obtain ⟨h1, h2, h3⟩ := hsep e (List.mem_range.mp (List.mem_of_find?_eq_some he))
  have hmap : (segmentDispatchFx s).map = (segGiven e ⟨x.desc, x.feed, x.band, x.sx⟩ s).map := by
    rw [segmentDispatch_of he hx, wr_map, wr_map, wr_map]
  have hengine : (segmentDispatchFx s).engineSeg e = (segGiven e ⟨x.desc, x.feed, x.band, x.sx⟩ s).engineSeg e := by
    unfold State.engineSeg
    rw [hmap]
  refine ⟨hengine.trans ?_, congrArg MapSt.sent hmap, ?_⟩
  · unfold State.engineSeg segGiven
    rw [List.find?_cons_of_pos (by simp)]
    rfl
  · rw [segmentDispatch_of he hx]
    generalize hu : segGiven e ⟨x.desc, x.feed, x.band, x.sx⟩ s = u
    have hregs : u.regs = s.regs := by rw [← hu]; rfl
    refine ⟨?_, ?_, ?_, ?_⟩
    · rw [rd_wr_sep _ _ h2, rd_wr_sep _ _ h1]
      exact rd_wr_own _ _ rfl
    · rw [rd_wr_sep _ _ h3]
      exact rd_wr_own _ _ rfl
    · exact rd_wr_own _ _ rfl
    · exact wordsKept_trans (wordsKept_of_regs hregs _) (wordsKept_trans (wordsKept_trans (wordsKept_wr u (f := R.GLZ.BUSY e) (show 1 ≤ 32 by decide) 1)
        (wordsKept_wr _ (f := R.GLZ.PORT e) (show 4 ≤ 32 by decide) _)) (wordsKept_wr _ (f := R.GLZ.DESC e) (show 8 ≤ 32 by decide) _))

/-! A segment is encoded (R236, R238). -/

/-- Its engine is idle. -/
def engineIdle (e : Nat) (s : State) : State :=
  ({ s with map := { s.map with engines := s.map.engines.filter (fun (c : Nat × SegKey) => c.1 != e) } } : State).wr (R.GLZ.BUSY e) 0

/-- It counts, and enters a packet of its band. -/
def segCounted (e : Nat) (r : Desc) (n : Nat) (s : State) : State :=
  (s.inc (if r.bypass then R.GLZ.CNT_BYPASS_SEGMENTS e else R.GLZ.CNT_SEGMENTS e)).cond (n != 0)
    (fun s => (s.incBy (R.GLZ.CNT_FLOOR e) n).incBy (R.MAP.CNT_CRAZE_PORT r.port) n)
def segReady (e : Nat) (k : SegKey) (sw : Nat) (x : Seg × Nat) (s : State) : State :=
  { s with map := { s.map with ready := (k, x.1) :: s.map.ready, floors := smMod (fun _ => 0) s.map.floors k.desc (· + x.2),
                               load := smMod (fun _ => 0) s.map.load e (· + 48 * 32 * sw) } }

theorem segmentEncodeDone_of {e : Nat} {k : SegKey} {r : Desc} {sl : Nat × Nat} {s : State} (hr : s.descNo k.desc = some r)
    (hsl : (s.slicesOf r).find? (fun (c : Nat × Nat) => c.1 == k.sx) = some sl) : ∃ x, segmentEncodeDoneFx e k s =
      (segReady e k sl.2 x (segCounted e r x.2 ((engineIdle e s).readStage r k.feed k.band k.sx (32 * sl.2)))).packBand r k := by
  have htab (a b : Nat) : (engineIdle e s).tabW a b = s.tabW a b := funext fun i => congrArg (fun m => smGet tabDefault m _) (wr_tabs _ _ _)
  have hr' : (engineIdle e s).descNo k.desc = some r := by
    unfold State.descNo
    rw [htab]
    exact hr
  have hsl' : ((engineIdle e s).slicesOf r).find? (fun (c : Nat × Nat) => c.1 == k.sx) = some sl := by
    unfold State.slicesOf
    rw [htab]
    exact hsl
  refine ⟨(engineIdle e s).encodeSeg r k sl.2, ?_⟩
  show (match (engineIdle e s).descNo k.desc with
    | none => engineIdle e s
    | some r => _) = _
  rw [hr']
  show (match ((engineIdle e s).slicesOf r).find? (fun (c : Nat × Nat) => c.1 == k.sx) with
    | none => engineIdle e s
    | some (_, sw) => _) = _
  rw [hsl']
  rfl

/-- What the mapping keeps of its engines and of the segments sent. -/
def engineSide (s : State) : List (Nat × SegKey) × List SegKey := (s.map.engines, s.map.sent)

/-- The fields of an engine that its segment is counted in. -/
def engineFields (e : Nat) : List Fld := [R.GLZ.BUSY e, R.GLZ.CNT_SEGMENTS e, R.GLZ.CNT_BYPASS_SEGMENTS e]

theorem frame_packBand {fs : List Fld} (s : State) (r : Desc) (k : SegKey) : Stays engineSide fs s (s.packBand r k) := by
  have h := staysFrame (F := engineSide) (fun _ _ _ => rfl) fs
  unfold State.packBand
  refine h.ite (fun _ => h.refl s) fun _ => ?_
  have hcond (u : State) (b : Bool) (p : Nat) (f : CoilSt → CoilSt) : Stays engineSide fs u (u.cond b (fun s => s.modCoil p f)) := h.cond fun _ => .other rfl rfl
  dsimp only
  refine h.trans ?_ (hcond _ _ _ _)
  exact .other rfl rfl

theorem frame_readStage {Rel : State → State → Prop} {W : Fld → Bool} {E : Nat → Bool} (d : ChRel Rel W E) (s : State) (r : Desc) (f b sx ws : Nat) :
    Rel s (s.readStage r f b sx ws) := d.frame.ite (fun _ => d.frame.refl s) fun _ => d.frame.each fun t _ _ => d.frame_readUe t _ _

theorem segCounted_shows {e : Nat} (he : e < 8) (r : Desc) (hport : r.port < 16) (n : Nat) (s : State) : engineSide (segCounted e r n s) = engineSide s ∧
    (segCounted e r n s).rd (R.GLZ.BUSY e) = s.rd (R.GLZ.BUSY e) ∧
    Counted s (segCounted e r n s) (if r.bypass then R.GLZ.CNT_BYPASS_SEGMENTS e else R.GLZ.CNT_SEGMENTS e) ∧
    (segCounted e r n s).rd (if r.bypass then R.GLZ.CNT_SEGMENTS e else R.GLZ.CNT_BYPASS_SEGMENTS e) =
      s.rd (if r.bypass then R.GLZ.CNT_SEGMENTS e else R.GLZ.CNT_BYPASS_SEGMENTS e) := by
  have hall : ∀ e < 8, apartFrom (engineFields e) (R.GLZ.CNT_FLOOR e) = true ∧ sep (R.GLZ.BUSY e) (R.GLZ.CNT_SEGMENTS e) = true ∧
      sep (R.GLZ.BUSY e) (R.GLZ.CNT_BYPASS_SEGMENTS e) = true ∧ sep (R.GLZ.CNT_SEGMENTS e) (R.GLZ.CNT_BYPASS_SEGMENTS e) = true ∧
      sep (R.GLZ.CNT_BYPASS_SEGMENTS e) (R.GLZ.CNT_SEGMENTS e) = true := by decide
  have hcraze : ∀ p < 16, ∀ e < 8, apartFrom (engineFields e) (R.MAP.CNT_CRAZE_PORT p) = true := by decide
  obtain ⟨h1, h2, h3, h4, h5⟩ := hall e he
  have h := staysFrame (F := engineSide) (fun _ _ _ => rfl) (engineFields e)
  have hpart (f : Fld) (hf : apartFrom [] f = true) : engineSide (s.inc f) = engineSide s :=
    ((staysFrame (F := engineSide) (fun _ _ _ => rfl) []).inc s (f := f) hf).part
  have hfloor (t : State) : Stays engineSide (engineFields e) t
      (t.cond (n != 0) (fun s => (s.incBy (R.GLZ.CNT_FLOOR e) n).incBy (R.MAP.CNT_CRAZE_PORT r.port) n)) :=
    h.cond fun _ => h.trans (h.incBy t n h1) (h.incBy _ n (hcraze _ hport e he))
  have hinc : ∀ e < 8, apartFrom [] (R.GLZ.CNT_BYPASS_SEGMENTS e) = true ∧ apartFrom [] (R.GLZ.CNT_SEGMENTS e) = true := by decide
  unfold segCounted
  cases r.bypass
  · exact ⟨(hfloor _).part.trans (hpart (R.GLZ.CNT_SEGMENTS e) (hinc e he).2), ((hfloor _).rd _ (by simp [engineFields])).trans (rd_wr_sep _ _ h2),
      ((hfloor _).rd _ (by simp [engineFields])).trans (counted_inc s rfl rfl), ((hfloor _).rd _ (by simp [engineFields])).trans (rd_wr_sep _ _ h5)⟩
  · exact ⟨(hfloor _).part.trans (hpart (R.GLZ.CNT_BYPASS_SEGMENTS e) (hinc e he).1), ((hfloor _).rd _ (by simp [engineFields])).trans (rd_wr_sep _ _ h3),
      ((hfloor _).rd _ (by simp [engineFields])).trans (counted_inc s rfl rfl), ((hfloor _).rd _ (by simp [engineFields])).trans (rd_wr_sep _ _ h4)⟩

theorem segmentEncodeDone_shows {e : Nat} (he : e < 8) {k : SegKey} {r : Desc} {sl : Nat × Nat} {s : State} (hr : s.descNo k.desc = some r)
    (hsl : (s.slicesOf r).find? (fun (c : Nat × Nat) => c.1 == k.sx) = some sl) :
    (segmentEncodeDoneFx e k s).engineSeg e = none ∧ (segmentEncodeDoneFx e k s).rd (R.GLZ.BUSY e) = 0 ∧
    Counted s (segmentEncodeDoneFx e k s) (if r.bypass then R.GLZ.CNT_BYPASS_SEGMENTS e else R.GLZ.CNT_SEGMENTS e) ∧
    (segmentEncodeDoneFx e k s).rd (if r.bypass then R.GLZ.CNT_SEGMENTS e else R.GLZ.CNT_BYPASS_SEGMENTS e) =
      s.rd (if r.bypass then R.GLZ.CNT_SEGMENTS e else R.GLZ.CNT_BYPASS_SEGMENTS e) ∧ (segmentEncodeDoneFx e k s).map.sent = s.map.sent := by
  have hall : ∀ e < 8, lowFields (engineFields e) = true ∧ sep (R.GLZ.CNT_SEGMENTS e) (R.GLZ.BUSY e) = true ∧
      sep (R.GLZ.CNT_BYPASS_SEGMENTS e) (R.GLZ.BUSY e) = true := by decide
  obtain ⟨hlow, h1, h2⟩ := hall e he
  have hport : r.port < 16 := by
    unfold State.descNo at hr
    dsimp only at hr
    split at hr
    · rw [← Option.some.inj hr]
      exact Nat.mod_lt _ (Nat.two_pow_pos 4)
    · exact absurd hr (by simp)
  obtain ⟨x, hx⟩ := segmentEncodeDone_of (e := e) hr hsl
  have d := staysDram_low (F := engineSide) (fs := engineFields e) (fun _ _ _ => rfl) (fun _ _ _ => rfl) (fun _ _ => rfl) (fun _ _ _ => rfl) hlow
  have hread := frame_readStage d.reads (engineIdle e s) r k.feed k.band k.sx (32 * sl.2)
  have hidle : engineSide (engineIdle e s) = (s.map.engines.filter (fun (c : Nat × SegKey) => c.1 != e), s.map.sent) :=
    congrArg (fun m : MapSt => (m.engines, m.sent)) (wr_map _ _ _)
  have hbusy : (engineIdle e s).rd (R.GLZ.BUSY e) = 0 := rd_wr_own _ _ rfl
  have hc1 : (engineIdle e s).rd (R.GLZ.CNT_SEGMENTS e) = s.rd (R.GLZ.CNT_SEGMENTS e) := rd_wr_sep _ _ h1
  have hc2 : (engineIdle e s).rd (R.GLZ.CNT_BYPASS_SEGMENTS e) = s.rd (R.GLZ.CNT_BYPASS_SEGMENTS e) := rd_wr_sep _ _ h2
  rw [hx]
  generalize engineIdle e s = u at hread hidle hbusy hc1 hc2
  generalize u.readStage r k.feed k.band k.sx (32 * sl.2) = v at hread
  obtain ⟨g1, g2, g3, g4⟩ := segCounted_shows he r hport x.2 v
  generalize segCounted e r x.2 v = w at g1 g2 g3 g4
  have hready : Stays engineSide (engineFields e) w (segReady e k sl.2 x w) := .other rfl rfl
  have hpack := d.frame.trans hready (frame_packBand (segReady e k sl.2 x w) r k)
  have hside : engineSide ((segReady e k sl.2 x w).packBand r k) = (s.map.engines.filter (fun (c : Nat × SegKey) => c.1 != e), s.map.sent) :=
    hpack.part.trans (g1.trans (hread.part.trans hidle))
  obtain ⟨hengines, hsent⟩ := Prod.mk.inj hside
  refine ⟨?_, (hpack.rd _ (by simp [engineFields])).trans (g2.trans ((hread.rd _ (by simp [engineFields])).trans hbusy)), ?_, ?_, hsent⟩
  · unfold State.engineSeg
    rw [hengines, List.find?_filter]
    rw [List.find?_eq_none.mpr (by simp)]
    rfl
  · cases hb : r.bypass <;> rw [hb] at g3
    · exact (hpack.rd _ (by simp [engineFields])).trans (g3.trans (congrArg (fun n => min (n + 1) _) ((hread.rd _ (by simp [engineFields])).trans hc1)))
    · exact (hpack.rd _ (by simp [engineFields])).trans (g3.trans (congrArg (fun n => min (n + 1) _) ((hread.rd _ (by simp [engineFields])).trans hc2)))
  · cases hb : r.bypass <;> rw [hb] at g4
    · exact (hpack.rd _ (by simp [engineFields])).trans (g4.trans ((hread.rd _ (by simp [engineFields])).trans hc2))
    · exact (hpack.rd _ (by simp [engineFields])).trans (g4.trans ((hread.rd _ (by simp [engineFields])).trans hc1))

/-! Launch (R240). -/

/-- The packet at the front may leave. -/
def mayLaunch (port : Nat) (b : BandPkt) (s : State) : Bool :=
  (!s.frm.stopped.contains port && decide (s.time + s.transit port ≤ s.frm.nextTick)) && s.mayBand port b.dest && s.canSend port &&
    !s.barred port 2 (outBytes (.band port b)) && (s.coilSt port).egress.all (fun x => decide (2 < x.cls))

/-- Its condition, in the order in which the rules name its parts. -/
theorem mayLaunch_atTime (port t0 : Nat) (b : BandPkt) (s : State) : mayLaunch port b (s.atTime t0) =
    (s.mayBand port b.dest && s.canSend port && !s.frm.stopped.contains port && decide (max s.time t0 + s.transit port ≤ s.frm.nextTick) &&
      !(s.atTime t0).barred port 2 (outBytes (.band port b)) && (s.coilSt port).egress.all (fun x => decide (2 < x.cls))) := by
  have hreorder : ∀ stop inTime may can bar free : Bool, ((!stop && inTime) && may && can && !bar && free) = (may && can && !stop && inTime && !bar && free) := by decide
  exact hreorder _ _ _ _ _ _

/-- It has left. -/
def bandLeft (port : Nat) (b : BandPkt) (bs : List BandPkt) (s : State) : State :=
  ((s.modCoil port (fun c => { c with bands := bs })).emit (.band port b)).incBy R.MAP.CNT_SEGMENTS b.segs.length

theorem bandLaunch_of {port : Nat} {b : BandPkt} {bs : List BandPkt} {s : State} (h : (s.coilSt port).bands = b :: bs) :
    bandLaunchFx port s = s.cond (mayLaunch port b s) (bandLeft port b bs) := by
  unfold bandLaunchFx
  rw [h]
  rfl

theorem coilSt_of_coil {s t : State} (h : t.coil = s.coil) (p : Nat) : t.coilSt p = s.coilSt p := by unfold State.coilSt; rw [h]

theorem bandLeft_shows (port : Nat) (b : BandPkt) (bs : List BandPkt) (s : State) : (bandLeft port b bs s).out = s.out ++ [.band port b] ∧
    ((bandLeft port b bs s).coilSt port).bands = bs ∧
    (bandLeft port b bs s).rd R.MAP.CNT_SEGMENTS = min (s.rd R.MAP.CNT_SEGMENTS + b.segs.length) 0xFFFFFFFF ∧
    WordsKept s (bandLeft port b bs s) [R.MAP.CNT_SEGMENTS.key] ∧ (bandLeft port b bs s).frm = s.frm := by
  have hcoil : (bandLeft port b bs s).coilSt port = (s.modCoil port (fun c => { c with bands := bs })).coilSt port := coilSt_of_coil (wr_coil _ _ _) port
  refine ⟨wr_out _ _ _, (congrArg CoilSt.bands (hcoil.trans (smGet_set_same _ _ _ _))), rd_incBy_same _ rfl rfl _, ?_, wr_frm _ _ _⟩
  exact wordsKept_wr ((s.modCoil port (fun c => { c with bands := bs })).emit (.band port b)) (f := R.MAP.CNT_SEGMENTS) (show 32 ≤ 32 by decide) _

/-! T_stop and the tick (R34, R42, R44). -/

theorem bandStop_shows (port : Nat) (s : State) : port ∈ (bandStopFx port s).frm.stopped ∧ (bandStopFx port s).out = s.out ∧ (bandStopFx port s).coil = s.coil ∧
    (bandStopFx port s).regs = s.regs ∧ (s.composes = true → s.frm.stopped = [] →
      (∃ f, f < composedFeeds s.lv ∧ s.nextLine f < canvasH s.lv) → (bandStopFx port s).cmp.filled = true) := by
  let late : Bool := s.composes && s.frm.stopped.isEmpty && (List.range (composedFeeds s.lv)).any (fun f => decide (s.nextLine f < canvasH s.lv))
  have hfx : bandStopFx port s = if (s.cond late (fun s => { s with cmp := { s.cmp with filled := true } })).frm.stopped.contains port then
      s.cond late (fun s => { s with cmp := { s.cmp with filled := true } })
    else { s.cond late (fun s => { s with cmp := { s.cmp with filled := true } }) with
      frm := { (s.cond late (fun s => { s with cmp := { s.cmp with filled := true } })).frm with
        stopped := port :: (s.cond late (fun s => { s with cmp := { s.cmp with filled := true } })).frm.stopped } } := rfl
  have hcond : ∀ b : Bool, (s.cond b (fun s => { s with cmp := { s.cmp with filled := true } })).frm = s.frm ∧
      (s.cond b (fun s => { s with cmp := { s.cmp with filled := true } })).out = s.out ∧
      (s.cond b (fun s => { s with cmp := { s.cmp with filled := true } })).coil = s.coil ∧
      (s.cond b (fun s => { s with cmp := { s.cmp with filled := true } })).regs = s.regs ∧
      (b = true → (s.cond b (fun s => { s with cmp := { s.cmp with filled := true } })).cmp.filled = true) := by
    intro b
    cases b
    · exact ⟨rfl, rfl, rfl, rfl, fun h => absurd h (by decide)⟩
    · exact ⟨rfl, rfl, rfl, rfl, fun _ => rfl⟩
  obtain ⟨h1, h2, h3, h4, h5⟩ := hcond late
  have hlate : s.composes = true → s.frm.stopped = [] → (∃ f, f < composedFeeds s.lv ∧ s.nextLine f < canvasH s.lv) → late = true := by
    rintro hc hs ⟨f, hf, hn⟩
    have hany : (List.range (composedFeeds s.lv)).any (fun f => decide (s.nextLine f < canvasH s.lv)) = true :=
      List.any_eq_true.mpr ⟨f, List.mem_range.mpr hf, decide_eq_true hn⟩
    show (s.composes && s.frm.stopped.isEmpty && _) = true
    rw [hc, hs, hany]
    rfl
  rw [hfx]
  generalize s.cond late (fun s => { s with cmp := { s.cmp with filled := true } }) = u at h1 h2 h3 h4 h5
  split
  · next hin => exact ⟨List.contains_iff_mem.mp hin, h2, h3, h4, fun hc hs hf => h5 (hlate hc hs hf)⟩
  · exact ⟨List.mem_cons_self, h2, h3, h4, fun hc hs hf => h5 (hlate hc hs hf)⟩

theorem dropBands_shows (s : State) (port : Nat) : ((s.dropBands port).coilSt port).bands = [] ∧
    (s.dropBands port).rd (R.COIL.CNT_BAND_ABANDON port) = min (s.rd (R.COIL.CNT_BAND_ABANDON port) + (s.coilSt port).bands.length) 0xFFFFFFFF := by
  unfold State.dropBands
  rcases hb : (s.coilSt port).bands with _ | ⟨b, bs⟩
  · have hlt : s.rd (R.COIL.CNT_BAND_ABANDON port) < 2 ^ 32 := Nat.mod_lt _ (Nat.two_pow_pos 32)
    exact ⟨hb, (Nat.min_eq_left (Nat.le_of_lt_succ hlt)).symm⟩
  · let u : State := s.modCoil port (fun c => { c with bands := [] })
    have hcoil : (u.incBy (R.COIL.CNT_BAND_ABANDON port) (b :: bs).length).coilSt port = u.coilSt port := coilSt_of_coil (wr_coil _ _ _) port
    exact ⟨congrArg CoilSt.bands (hcoil.trans (smGet_set_same _ _ _ _)), rd_incBy_same u rfl rfl _⟩

/-! STATS_CLR (R244). -/

/-- The words of a table lie apart from those of others. -/
theorem tabKey_inj {p t i p' t' i' : Nat} (ht : t < 16) (hi : i < 2 ^ 22) (ht' : t' < 16) (hi' : i' < 2 ^ 22) (h : tabKey p t i = tabKey p' t' i') :
    p = p' ∧ t = t' ∧ i = i' := by
  unfold tabKey at h
  omega

theorem mapStatsClr_shows (s : State) : mapStatsClrFx s = { s with imm := (mapStatsClrFx s).imm } ∧
    (∀ d, d < 256 → (mapStatsClrFx s).immW 0x060 4 (2 * d + 1) = 0) ∧
    ∀ page tab i, i < 2 ^ 22 → tab < 16 → ¬(page = 0x060 ∧ tab = 4 ∧ i % 2 = 1) → (mapStatsClrFx s).immW page tab i = s.immW page tab i := by
  refine ⟨?_, fun d hd => ?_, fun page tab i hi ht hne => ?_⟩
  · exact each_keeps (P := fun t => t = { s with imm := t.imm }) _ (fun t d ht => by rw [ht]; rfl) rfl
  · exact DramControl.each_at (P := fun _ => True) (Q := fun t => t.immW 0x060 4 (2 * d + 1) = 0) (f := fun s d => s.setImm 0x060 4 (2 * d + 1) 0)
      (I := fun _ => True) (fun _ _ _ _ _ => trivial) (fun t _ => immW_setImm_same t _ _ _ _)
      (fun t j _ hj ht => (immW_setImm_ne t 0x060 4 (by omega) 0).trans ht) (fun _ _ => trivial) (List.mem_range.mpr hd) List.nodup_range trivial
  · refine (partFrame (F := fun t : State => t.immW page tab i) fun _ _ _ => rfl).each (xs := List.range 256) (f := fun s d => s.setImm 0x060 4 (2 * d + 1) 0) fun t d hd => ?_
    have hd := List.mem_range.mp hd
    refine smGet_set_other _ _ _ fun h => hne ?_
    obtain ⟨h1, h2, h3⟩ := tabKey_inj ht hi (by decide) (by omega) h
    exact ⟨h1, h2, by omega⟩

/-- Settles O48. -/
theorem segmentsAreGlazedAndLaunched : Obligations.SegmentsAreGlazedAndLaunched := by
  unfold Obligations.SegmentsAreGlazedAndLaunched
  refine ⟨fun e x s hs ht he hx => ⟨_, rfl, ?_⟩, fun e k r sl s hs he hk hr hsl => ⟨segmentEncodeDoneFx e k s.start, congrArg Host.Outcome.next ?_, segmentEncodeDone_shows (s := s.start) he hr hsl⟩, fun port t0 b bs s hs hp hb => ⟨_, rfl, ?_⟩,
    fun port t0 s hs ht hp hserves => ⟨_, rfl, ?_⟩, fun port s => dropBands_shows s port, fun s hon => ⟨_, rfl, ?_⟩⟩
  · rw [cond_of (b := s.isSender && s.frm.ticked) (by rw [hs, ht]; rfl)]
    exact segmentDispatch_shows (s := s.start) he hx
  · rw [hk]
    exact cond_of hs _ _
  · rw [cond_of (b := s.isSender && s.hasPort port) (by rw [hs, hp]; rfl), bandLaunch_of (s := s.atTime t0) hb]
    have hmay : mayLaunch port b (s.atTime t0) = (s.mayBand port b.dest && s.canSend port && !s.frm.stopped.contains port &&
        decide (max s.time t0 + s.transit port ≤ s.frm.nextTick) && !(s.atTime t0).barred port 2 (outBytes (.band port b)) &&
        (s.coilSt port).egress.all (fun x => decide (2 < x.cls))) := mayLaunch_atTime port t0 b s
    dsimp only
    rw [← hmay]
    refine ⟨fun h => ?_, fun h => ?_⟩
    · rw [cond_of h]
      exact bandLeft_shows port b bs (s.atTime t0)
    · rw [cond_of_not h]
      exact ⟨rfl, rfl⟩
  · rw [cond_of (b := s.isSender && s.frm.ticked && s.hasPort port && s.serves port) (by rw [hs, ht, hp, hserves]; rfl)]
    exact bandStop_shows port (s.atTime t0)
  · rw [cond_of (b := s.pageOn 0x060) hon]
    obtain ⟨h1, h2, h3⟩ := mapStatsClr_shows s.start
    refine ⟨h1, h2, fun d hd => h3 0x060 4 (2 * d) (by omega) (by decide) (by omega), fun page tab i hi ht hne => h3 page tab i hi ht fun h => hne ⟨h.1, h.2.1⟩⟩

end Sys2Proof.Proofs.GlazeEngines


/-!
THEOREMS. Bands, slots and calibration of a tile (11 R290 to R308; 13 R354). Settles O49.
-/

namespace Sys2Proof.Proofs.TilePipeline
open Sys2Proof.Machine Sys2Proof.Laws Sys2Proof.Proofs.Frames Sys2Proof.Proofs.FieldRules Sys2Proof.Proofs.Framing Sys2Proof.Proofs.Sagger
  Sys2Proof.Proofs.MramFrames

/-- A counter of an event counts, and the event is pending. -/
theorem incRaise_shows (s : State) {f : Fld} {e : Evt} (hw : f.w = 32) (hlo : f.lo = 0) (hsep : offKey f (evtPendKey e.page) = true) (hb : e.bit < 32) :
    OnlyRegs s (s.incRaise f e) ∧ Counted s (s.incRaise f e) f ∧ Pending (s.incRaise f e) e :=
  ⟨onlyRegs_trans (onlyRegs_inc s f) (onlyRegs_raise _ e), (rd_raise_sep _ hsep).trans (counted_inc s hw hlo), pending_raise _ hb⟩

/-! Reception (R290, R293, R294). -/

/-- The band and the columns of a segment are kept. -/
def keptSeg (g : Cfg) (by_ : Nat) (sg : Seg) : Bool :=
  (keptBands g).contains by_ && (keptCols g).any (fun c => decide (sg.sx ≤ c ∧ c ≤ sg.sx + sg.sw))

theorem takeSeg_corrupt {s : State} {by_ feed format : Nat} {sg : Seg} (h : segCorrupt s.lv by_ feed format sg = true) :
    s.takeSeg by_ feed format sg = s.incRaise R.TIL.CNT_SEG_CORRUPT R.TIL.ev_SEG_CORRUPT := if_pos h

theorem takeSeg_dup {s : State} {by_ feed format : Nat} {sg : Seg} (h : segCorrupt s.lv by_ feed format sg = false)
    (hd : s.overlaps (2048 * feed + by_) sg = true) : s.takeSeg by_ feed format sg = s.inc R.TIL.CNT_SEG_DUP := by
  unfold State.takeSeg
  rw [if_neg (by simp [h]), if_pos hd]

theorem takeSeg_new {s : State} {by_ feed format : Nat} {sg : Seg} (h : segCorrupt s.lv by_ feed format sg = false)
    (hd : s.overlaps (2048 * feed + by_) sg = false) :
    s.takeSeg by_ feed format sg = if !keptSeg s.lv by_ sg then s else s.queueSeg (2048 * feed + by_) format sg := by
  unfold State.takeSeg
  rw [if_neg (by simp [h]), if_neg (by simp [hd])]
  rfl

theorem takeSeg_other {s : State} {by_ feed format : Nat} {sg : Seg} (h : segCorrupt s.lv by_ feed format sg = false)
    (hd : s.overlaps (2048 * feed + by_) sg = false) (hk : keptSeg s.lv by_ sg = false) : s.takeSeg by_ feed format sg = s :=
  (takeSeg_new h hd).trans (if_pos (by simp [hk]))

theorem takeSeg_kept {s : State} {by_ feed format : Nat} {sg : Seg} (h : segCorrupt s.lv by_ feed format sg = false)
    (hd : s.overlaps (2048 * feed + by_) sg = false) (hk : keptSeg s.lv by_ sg = true) :
    s.takeSeg by_ feed format sg = s.queueSeg (2048 * feed + by_) format sg := (takeSeg_new h hd).trans (if_neg (by simp [hk]))

theorem queueSeg_full {s : State} {band format : Nat} {sg : Seg} (h : 2 ^ 21 < s.bandBuffer + 4 + sg.data.length) :
    s.queueSeg band format sg = s.incRaise R.TIL.CNT_BUF_DROP R.TIL.ev_BUF_DROP := if_pos h

/-- A segment has joined the band buffer. -/
def segQueued (q : QSeg) (s : State) : State :=
  ({ s with til := { s.til with queue := s.til.queue ++ [q] } } : State).wr R.TIL.RECEIVING 1

theorem queueSeg_room {s : State} {band format : Nat} {sg : Seg} (h : s.bandBuffer + 4 + sg.data.length ≤ 2 ^ 21) :
    s.queueSeg band format sg = segQueued ⟨band, format, sg⟩ s := if_neg (by omega)

theorem bandBuffer_segQueued (q : QSeg) (s : State) : (segQueued q s).bandBuffer = s.bandBuffer + 4 + q.seg.data.length := by
  unfold State.bandBuffer segQueued
  rw [wr_til, List.foldl_append]
  rfl

/-- The fields of the configuration that the reception of a segment reads. -/
def receptionFields : List Fld := [R.TIL.TOP_W_U, R.TIL.TOP_H_U, R.SCH.MODE, R.TIL.H_M1, R.TIL.W_M1, R.TIL.OFF_X, R.TIL.OFF_Y]

theorem segCorrupt_congr {g g' : Cfg} (h : ∀ f ∈ receptionFields, g' f = g f) (by_ feed format : Nat) (sg : Seg) :
    segCorrupt g' by_ feed format sg = segCorrupt g by_ feed format sg := by
  unfold segCorrupt
  rw [h R.TIL.TOP_W_U (by decide), h R.TIL.TOP_H_U (by decide), h R.SCH.MODE (by decide)]

theorem keptSeg_congr {g g' : Cfg} (h : ∀ f ∈ receptionFields, g' f = g f) (by_ : Nat) (sg : Seg) : keptSeg g' by_ sg = keptSeg g by_ sg := by
  unfold keptSeg keptBands keptCols tilH tilW
  rw [h R.TIL.H_M1 (by decide), h R.TIL.W_M1 (by decide), h R.TIL.OFF_X (by decide), h R.TIL.OFF_Y (by decide)]

theorem lv_segQueued (q : QSeg) (s : State) : ∀ f ∈ receptionFields, (segQueued q s).lv f = s.lv f := by
  have hsep : ∀ f ∈ receptionFields, sep f.live R.TIL.RECEIVING = true := by decide
  exact fun f hf => rd_wr_sep _ _ (hsep f hf)

/-- A segment of a band whose columns are kept and none of which is written yet. -/
def freshSeg (s : State) (b : BandPkt) (sg : Seg) : Prop :=
  segCorrupt s.lv b.bandNo b.feed b.format sg = false ∧ s.overlaps (2048 * b.feed + b.bandNo) sg = false ∧ keptSeg s.lv b.bandNo sg = true

theorem freshSeg_segQueued {s : State} {b : BandPkt} {sg : Seg} (q : QSeg) (h : freshSeg s b sg) : freshSeg (segQueued q s) b sg := by
  obtain ⟨h1, h2, h3⟩ := h
  refine ⟨(segCorrupt_congr (lv_segQueued q s) _ _ _ _).trans h1, ?_, (keptSeg_congr (lv_segQueued q s) _ _).trans h3⟩
  unfold State.overlaps segQueued
  rw [wr_til]
  exact h2

/-- The fresh segments of a band that has room for them are queued, in order (R294). -/
theorem each_takeSeg (b : BandPkt) : ∀ (segs : List Seg) (s : State), (∀ sg ∈ segs, freshSeg s b sg) →
    s.bandBuffer + (segs.map (fun sg => 4 + sg.data.length)).sum ≤ 2 ^ 21 →
    s.each segs (fun s sg => s.takeSeg b.bandNo b.feed b.format sg) =
      s.each (segs.map (fun sg => (⟨2048 * b.feed + b.bandNo, b.format, sg⟩ : QSeg))) (fun s q => segQueued q s)
  | [], _, _, _ => rfl
  | sg :: segs, s, hf, hroom => by
    obtain ⟨⟨h1, h2, h3⟩, hrest⟩ := List.forall_mem_cons.mp hf
    rw [List.map_cons, List.sum_cons] at hroom
    have hone : s.takeSeg b.bandNo b.feed b.format sg = segQueued ⟨2048 * b.feed + b.bandNo, b.format, sg⟩ s :=
      (takeSeg_kept h1 h2 h3).trans (queueSeg_room (by omega))
    have hall := each_takeSeg b segs (segQueued ⟨2048 * b.feed + b.bandNo, b.format, sg⟩ s) (fun x hx => freshSeg_segQueued _ (hrest x hx))
      (by rw [bandBuffer_segQueued]; dsimp only; omega)
    show (s.takeSeg b.bandNo b.feed b.format sg).each segs _ = _
    rw [hone]
    exact hall

theorem each_segQueued (qs : List QSeg) (s : State) : (s.each qs (fun s q => segQueued q s)).til = { s.til with queue := s.til.queue ++ qs } ∧
    (qs ≠ [] → (s.each qs (fun s q => segQueued q s)).rd R.TIL.RECEIVING = 1) ∧ WordsKept s (s.each qs (fun s q => segQueued q s)) [R.TIL.RECEIVING.key] := by
  induction qs generalizing s with
  | nil => exact ⟨by rw [List.append_nil]; rfl, fun h => absurd rfl h, wordsKept_refl s _⟩
  | cons q qs ih =>
    obtain ⟨h1, h2, h3⟩ := ih (segQueued q s)
    have hone : (segQueued q s).til = { s.til with queue := s.til.queue ++ [q] } := wr_til _ _ _
    have hkept : WordsKept s (segQueued q s) [R.TIL.RECEIVING.key] :=
      wordsKept_wr { s with til := { s.til with queue := s.til.queue ++ [q] } } (f := R.TIL.RECEIVING) (show 1 ≤ 32 by decide) 1
    refine ⟨?_, fun _ => ?_, wordsKept_trans hkept h3⟩
    · refine h1.trans ?_
      rw [hone, List.append_assoc]
      rfl
    · cases qs with
      | nil => exact rd_wr_own _ _ rfl
      | cons q' qs => exact h2 (List.cons_ne_nil _ _)

theorem bandReceive_up {port : Nat} {b : BandPkt} {s : State} (h : s.red.upstream = some port) (hcrc : b.crcOk = true) :
    bandReceiveFx port b s = s.acceptBand b := by
  unfold bandReceiveFx
  rw [if_neg (not_not_intro h), cond_of hcrc]

theorem bandReceive_bad {port : Nat} {b : BandPkt} {s : State} (h : s.red.upstream = some port) (hcrc : b.crcOk = false) :
    bandReceiveFx port b s = s := by
  unfold bandReceiveFx
  rw [if_neg (not_not_intro h), cond_of_not hcrc]

theorem bandReceive_other {port q : Nat} {b : BandPkt} {s : State} (h : s.red.upstream = some q) (hne : q ≠ port) :
    bandReceiveFx port b s = s.inc (R.COIL.CNT_WRONG_SIDE port) := by
  unfold bandReceiveFx
  rw [if_pos (by rw [h]; exact fun h' => hne (Option.some.inj h')), cond_of (by rw [h]; rfl)]

theorem acceptBand_idle {b : BandPkt} {s : State} (h : (s.frm.ticked && s.lvB R.TIL.EN) = false) : s.acceptBand b = s.inc R.TIL.CNT_BAND_IDLE :=
  if_pos (by rw [h]; rfl)

theorem acceptBand_late {b : BandPkt} {s : State} (h : (s.frm.ticked && s.lvB R.TIL.EN) = true) (he : b.epoch16 % 65536 ≠ s.epoch % 65536) :
    s.acceptBand b = s.incRaise R.TIL.CNT_BAND_LATE R.TIL.ev_BAND_LATE := by
  unfold State.acceptBand
  rw [if_neg (by rw [h]; decide), if_pos he]

theorem acceptBand_now {b : BandPkt} {s : State} (h : (s.frm.ticked && s.lvB R.TIL.EN) = true) (he : b.epoch16 % 65536 = s.epoch % 65536) :
    s.acceptBand b = s.each b.segs (fun s sg => s.takeSeg b.bandNo b.feed b.format sg) := by
  unfold State.acceptBand
  rw [if_neg (by rw [h]; decide), if_neg (not_not_intro he)]

/-! Decoding (R293 to R296). -/

/-- What the decoding of a segment keeps of the reception. -/
def receptionSide (s : State) : List QSeg × List (Nat × Nat × Nat) := (s.til.queue, s.til.written)

/-- The oldest segment leaves the buffer. -/
def segTaken (rest : List QSeg) (s : State) : State := { s with til := { s.til with queue := rest } }

/-- Its lines and columns are written. -/
def segWritten (q : QSeg) (lines : List (List Pixel)) (s : State) : State :=
  let s := s.writeSeg q lines
  { s with til := { s.til with written := s.til.written ++ [(q.band, q.seg.sx, q.seg.sw + 1)],
                               wfmt := smSet (fun _ => 0) s.til.wfmt q.band q.format } }

/-- A band that it completes is shown in DIRECT. -/
def segShown (was : Bool) (q : QSeg) (s : State) : State :=
  if s.lv R.SCH.MODE = moDIRECT ∧ !s.til.held ∧ !was ∧ s.bandComplete q.band then ((s.showDirect q.band).showStore).queueDirect else s

theorem segmentDecode_bad {q : QSeg} {rest : List QSeg} {s : State} (hq : s.til.queue = q :: rest) (hl : segLines q.format q.seg = none) :
    segmentDecodeFx s = segTaken rest s := by
  unfold segmentDecodeFx
  rw [hq]
  dsimp only
  rw [hl]
  rfl

theorem segmentDecode_good {q : QSeg} {rest : List QSeg} {s : State} {lines : List (List Pixel)} (hq : s.til.queue = q :: rest)
    (hl : segLines q.format q.seg = some lines) : segmentDecodeFx s =
    if s.overlaps q.band q.seg then (segTaken rest s).inc R.TIL.CNT_SEG_DUP
    else segShown ((segTaken rest s).bandComplete q.band) q (segWritten q lines (segTaken rest s)) := by
  unfold segmentDecodeFx
  rw [hq]
  dsimp only
  rw [hl]
  rfl

/-- Writing the lines changes the store alone. -/
theorem writeSeg_eq (s : State) (q : QSeg) (lines : List (List Pixel)) : ∃ st, s.writeSeg q lines = { s with til := { s.til with store := st } } := by
  unfold State.writeSeg
  refine each_keeps (P := fun t => ∃ st, t = { s with til := { s.til with store := st } }) _ (fun t x ht => ?_) ⟨_, rfl⟩
  obtain ⟨st, rfl⟩ := ht
  dsimp only
  split
  · exact ⟨_, rfl⟩
  · exact ⟨_, rfl⟩

/-- The part of a state that showing a band in DIRECT does not touch. -/
theorem frame_segShown (was : Bool) (q : QSeg) (s : State) : Stays receptionSide [] s (segShown was q s) := by
  have h := staysFrame (F := receptionSide) (fun _ _ _ => rfl) []
  have hband (t : State) : Stays receptionSide [] t (t.moveBand q.band) := .other rfl rfl
  have hstale (t : State) (l : List Nat) : Stays receptionSide [] t { t with til := { t.til with stale := l } } := .other rfl rfl
  have hmove (t : State) : Stays receptionSide [] t (t.showDirect q.band) := by
    unfold State.showDirect
    exact h.trans (h.trans (hband t) (hstale _ _)) (h.level _ _ (by decide) (show 4 < 32 by decide))
  have hstore (t : State) : Stays receptionSide [] t t.showStore := h.trans (h.wr t _ (by decide)) (h.wrB _ _ (by decide))
  have hdirect (t : State) : Stays receptionSide [] t t.queueDirect := h.ite (fun _ => h.refl t) fun _ => .other rfl rfl
  exact h.ite (fun _ => h.trans (h.trans (hmove s) (hstore _)) (hdirect _)) fun _ => h.refl s

theorem segShown_other {was : Bool} {q : QSeg} {s : State} (h : s.lv R.SCH.MODE ≠ moDIRECT) : segShown was q s = s := if_neg fun h' => h h'.1

theorem segWritten_eq (q : QSeg) (lines : List (List Pixel)) (s : State) : ∃ st, segWritten q lines s =
    { s with til := { s.til with store := st, written := s.til.written ++ [(q.band, q.seg.sx, q.seg.sw + 1)],
                                 wfmt := smSet (fun _ => 0) s.til.wfmt q.band q.format } } := by
  obtain ⟨st, hst⟩ := writeSeg_eq s q lines
  refine ⟨st, ?_⟩
  unfold segWritten
  rw [hst]

theorem segmentDecode_shows {q : QSeg} {rest : List QSeg} {s : State} (hq : s.til.queue = q :: rest) : (segmentDecodeFx s).til.queue = rest ∧
    (segLines q.format q.seg = none → OnlyRegs { s with til := (segmentDecodeFx s).til } (segmentDecodeFx s) ∧ (segmentDecodeFx s).regs = s.regs ∧
      (segmentDecodeFx s).til.written = s.til.written) ∧
    ((segLines q.format q.seg).isSome = true → s.overlaps q.band q.seg = true → Counted s (segmentDecodeFx s) R.TIL.CNT_SEG_DUP ∧
      (segmentDecodeFx s).til.written = s.til.written) ∧
    ((segLines q.format q.seg).isSome = true → s.overlaps q.band q.seg = false →
      (segmentDecodeFx s).til.written = s.til.written ++ [(q.band, q.seg.sx, q.seg.sw + 1)] ∧
      (s.lv R.SCH.MODE ≠ moDIRECT → (segmentDecodeFx s).regs = s.regs ∧ (segmentDecodeFx s).imm = s.imm ∧ (segmentDecodeFx s).lsm = s.lsm)) := by
  cases hl : segLines q.format q.seg with
  | none =>
    rw [segmentDecode_bad hq hl]
    exact ⟨rfl, fun _ => ⟨rfl, rfl, rfl⟩, fun h => absurd h (by decide), fun h => absurd h (by decide)⟩
  | some lines =>
    rw [segmentDecode_good hq hl]
    cases hov : s.overlaps q.band q.seg with
    | true =>
      rw [if_pos rfl]
      have htil : ((segTaken rest s).inc R.TIL.CNT_SEG_DUP).til = { s.til with queue := rest } := wr_til _ _ _
      exact ⟨congrArg TilSt.queue htil, nofun, fun _ _ => ⟨counted_inc (segTaken rest s) rfl rfl, (congrArg TilSt.written htil).trans rfl⟩, nofun⟩
    | false =>
      rw [if_neg (by decide)]
      obtain ⟨st, hst⟩ := segWritten_eq q lines (segTaken rest s)
      generalize (segTaken rest s).bandComplete q.band = was
      have hside := (frame_segShown was q (segWritten q lines (segTaken rest s))).part
      have hwritten : receptionSide (segWritten q lines (segTaken rest s)) = (rest, s.til.written ++ [(q.band, q.seg.sx, q.seg.sw + 1)]) := by
        rw [hst]
        rfl
      obtain ⟨h1, h2⟩ := Prod.mk.inj (hside.trans hwritten)
      refine ⟨h1, nofun, nofun, fun _ _ => ⟨h2, fun hmode => ?_⟩⟩
      rw [segShown_other (by rw [hst]; exact hmode), hst]
      exact ⟨rfl, rfl, rfl⟩

/-! Slot computations (R306, R308). -/

/-- A reload in progress moves on in the table and in the records held beside it. -/
theorem calSync_eq (s : State) : ∃ im co, s.calSync = { s with imm := im, cor := co } := by
  unfold State.calSync
  cases decide (s.cor.copied < s.calReached)
  · exact ⟨_, _, rfl⟩
  · exact ⟨_, _, rfl⟩

/-- A computation of lamps repays their debts in the table, and gives one code for each. -/
theorem lamps_eq (r : SlotRun) (lamps : List Nat) (a : SlotAcc) : (∃ im, (lamps.foldl (SlotAcc.lamp r) a).s = { a.s with imm := im }) ∧
    (lamps.foldl (SlotAcc.lamp r) a).codes.length = a.codes.length + lamps.length := by
  induction lamps generalizing a with
  | nil => exact ⟨⟨_, rfl⟩, rfl⟩
  | cons i lamps ih =>
    obtain ⟨⟨im, h1⟩, h2⟩ := ih (SlotAcc.lamp r a i)
    have hcond (b : Bool) (n v : Nat) : ∃ im, a.s.cond b (fun s => s.setImmByte 0x0A2 3 n v) = { a.s with imm := im } := by
      cases b
      · exact ⟨_, rfl⟩
      · exact ⟨_, rfl⟩
    have hone : ∃ im, (SlotAcc.lamp r a i).s = { a.s with imm := im } := hcond _ _ _
    obtain ⟨im', hone⟩ := hone
    refine ⟨⟨im, h1.trans (by rw [hone])⟩, h2.trans ?_⟩
    show (a.codes.length + 1) + lamps.length = a.codes.length + (lamps.length + 1)
    omega

/-- The next slot is being computed. -/
def slotRunning (j : SlotJob) (rest : List SlotJob) (s : State) : State :=
  ({ s with lsm := { s.lsm with
      todo := rest,
      run := some { job := j, start := s.time, cal := s.calWords, identity := s.cor.identity, valid := s.flag R.COR.CAL_VALID,
                    mode := s.rd R.LSM.MODE_EFF, debts := s.debtWords } } } : State).wr R.LSM.COMPUTING 1

theorem slotComputeStart_of {j : SlotJob} {rest : List SlotJob} {s : State} (ht : s.lsm.todo = j :: rest) (hn : s.noCompute = false)
    (hr : s.lsm.run = none) (hb : ∀ b ∈ s.lsm.banks, b.1 ≠ j.ord % 2) : slotComputeStartFx s = slotRunning j rest s.calSync := by
  unfold slotComputeStartFx
  rw [ht]
  dsimp only
  rw [if_neg]
  · rfl
  · rintro (h | h | h)
    · exact absurd (hn.symm.trans h) (by decide)
    · exact absurd h (by rw [hr]; decide)
    · obtain ⟨b, hm, he⟩ := List.any_eq_true.mp h
      exact hb b hm (beq_iff_eq.mp he)

theorem slotComputeStart_shows {j : SlotJob} {rest : List SlotJob} {s : State} (ht : s.lsm.todo = j :: rest) (hn : s.noCompute = false)
    (hr : s.lsm.run = none) (hb : ∀ b ∈ s.lsm.banks, b.1 ≠ j.ord % 2) : (slotComputeStartFx s).lsm.todo = rest ∧
    (slotComputeStartFx s).lsm.banks = s.lsm.banks ∧ (slotComputeStartFx s).rd R.LSM.COMPUTING = 1 ∧
    ∃ r, (slotComputeStartFx s).lsm.run = some r ∧ r.job = j ∧ r.start = s.time := by
  obtain ⟨im, co, hsync⟩ := calSync_eq s
  rw [slotComputeStart_of ht hn hr hb, hsync]
  exact ⟨(congrArg LsmSt.todo (wr_lsm _ _ _)).trans rfl, (congrArg LsmSt.banks (wr_lsm _ _ _)).trans rfl, rd_wr_own _ _ rfl, _,
    (congrArg LsmSt.run (wr_lsm _ _ _)).trans rfl, rfl, rfl⟩

theorem slotComputeStart_dark {s : State} (hn : s.noCompute = true) : slotComputeStartFx s = s := by
  unfold slotComputeStartFx
  split
  · rfl
  · exact if_pos (.inl hn)

/-- What is computed, or uncomputed, for the lamps of a slot. -/
theorem stopRun_eq {r : SlotRun} {s : State} (hr : s.lsm.run = some r) : ∃ im co fr, s.stopRun.2 =
    ({ s with imm := im, cor := co, free := fr, lsm := { s.lsm with run := none } } : State).wr R.LSM.COMPUTING 0 := by
  obtain ⟨im, co, hsync⟩ := calSync_eq s
  unfold State.stopRun
  rw [hr]
  dsimp only
  rw [hsync]
  obtain ⟨⟨im', hl⟩, -⟩ := lamps_eq r ((({ s with imm := im, cor := co } : State).fresh.2.jobLamps r.job).take _) 
    { s := ({ s with imm := im, cor := co } : State).fresh.2, codes := [], sums := [] }
  exact ⟨im', co, _, by rw [hl]; rfl⟩

theorem stopRun_shows {r : SlotRun} {s : State} (hr : s.lsm.run = some r) : s.stopRun.2.lsm = { s.lsm with run := none } ∧
    s.stopRun.2.rd R.LSM.COMPUTING = 0 ∧ s.stopRun.2.thm = s.thm ∧ s.stopRun.2.rd R.LSM.CNT_SLOTS = s.rd R.LSM.CNT_SLOTS := by
  obtain ⟨im, co, fr, h⟩ := stopRun_eq hr
  rw [h]
  exact ⟨wr_lsm _ _ _, rd_wr_own _ _ rfl, wr_thm _ _ _, rd_wr_sep _ _ (by decide)⟩

/-- The codes of a slot that is still ahead are staged. -/
def codesStaged (j : SlotJob) (codes : List Nat) (s : State) : State :=
  { s with lsm := { s.lsm with banks := (j.ord % 2, { job := j, codes := codes, left := s.groupsOn }) :: s.lsm.banks } }

/-- A computation shows its end. -/
def slotShown (r : SlotRun) (s : State) : State := ((s.wr R.LSM.COMPUTING 0).wr R.LSM.SLOT_NS ((s.time - r.start) / ns1)).inc R.LSM.CNT_SLOTS

theorem slotComputeDone_of {r : SlotRun} {s : State} (hr : s.lsm.run = some r) (hn : s.noCompute = false) : ∃ im co fr th codes,
    slotComputeDoneFx s = slotShown r (({ s with imm := im, cor := co, free := fr, thm := th, lsm := { s.lsm with run := none } } : State).cond
      (s.slotAhead r.job) (codesStaged r.job codes)) ∧ codes.length = (s.jobLamps r.job).length := by
  obtain ⟨im, co, hsync⟩ := calSync_eq s
  unfold slotComputeDoneFx
  rw [hr]
  dsimp only
  rw [if_neg (by rw [hn]; decide), hsync]
  obtain ⟨⟨im', hl⟩, hlen⟩ := lamps_eq r (({ s with imm := im, cor := co } : State).jobLamps r.job)
    { s := { s with imm := im, cor := co }, codes := [], sums := [] }
  generalize (({ s with imm := im, cor := co } : State).jobLamps r.job).foldl (SlotAcc.lamp r) _ = a at hl hlen
  obtain ⟨u, codes, sums⟩ := a
  dsimp only at hl hlen
  subst hl
  refine ⟨im', co, _, _, codes.reverse, rfl, ?_⟩
  rw [List.length_reverse, hlen]
  exact Nat.zero_add _

theorem slotShown_shows (r : SlotRun) (s : State) : (slotShown r s).lsm = s.lsm ∧ (slotShown r s).rd R.LSM.COMPUTING = 0 ∧
    Counted s (slotShown r s) R.LSM.CNT_SLOTS := by
  unfold slotShown
  refine ⟨?_, ?_, ?_⟩
  · rw [State.inc, State.incBy, wr_lsm, wr_lsm, wr_lsm]
  · refine (rd_wr_sep _ _ (by decide)).trans ((rd_wr_sep _ _ (by decide)).trans (rd_wr_own _ _ rfl))
  · refine (counted_inc _ rfl rfl).trans ?_
    rw [rd_wr_sep _ _ (by decide), rd_wr_sep _ _ (by decide)]

theorem slotComputeDone_shows {r : SlotRun} {s : State} (hr : s.lsm.run = some r) (hn : s.noCompute = false) :
    (slotComputeDoneFx s).lsm.run = none ∧ (slotComputeDoneFx s).rd R.LSM.COMPUTING = 0 ∧ Counted s (slotComputeDoneFx s) R.LSM.CNT_SLOTS ∧
    (s.slotAhead r.job = false → (slotComputeDoneFx s).lsm.banks = s.lsm.banks) ∧
    (s.slotAhead r.job = true → ∃ codes, (slotComputeDoneFx s).lsm.banks = (r.job.ord % 2, { job := r.job, codes := codes, left := s.groupsOn }) :: s.lsm.banks ∧
      codes.length = (s.jobLamps r.job).length) := by
  obtain ⟨im, co, fr, th, codes, h, hlen⟩ := slotComputeDone_of hr hn
  rw [h]
  generalize hu : ({ s with imm := im, cor := co, free := fr, thm := th, lsm := { s.lsm with run := none } } : State) = u
  have hregs : u.regs = s.regs := by rw [← hu]
  have hlsm : u.lsm = { s.lsm with run := none } := by rw [← hu]
  have hgroups : u.groupsOn = s.groupsOn := by rw [← hu]; rfl
  have hcount (b : Bool) : (u.cond b (codesStaged r.job codes)).rd R.LSM.CNT_SLOTS = s.rd R.LSM.CNT_SLOTS := by
    rw [← hu]
    cases b <;> rfl
  have hrun (b : Bool) : (u.cond b (codesStaged r.job codes)).lsm.run = none := by
    rw [← hu]
    cases b <;> rfl
  obtain ⟨h1, h2, h3⟩ := slotShown_shows r (u.cond (s.slotAhead r.job) (codesStaged r.job codes))
  refine ⟨(congrArg LsmSt.run h1).trans (hrun _), h2, h3.trans (by rw [hcount]), fun ha => ?_, fun ha => ⟨codes, ?_, hlen⟩⟩
  · rw [h1, cond_of_not ha, hlsm]
  · rw [h1, cond_of ha]
    show (r.job.ord % 2, ({ job := r.job, codes := codes, left := u.groupsOn } : Staged)) :: u.lsm.banks = _
    rw [hgroups, hlsm]

/-! The working copy (R303; 13 R354). -/

theorem calWrite_low {w : Nat} {v : Word32} {s : State} (hr : s.flag R.COR.RELOADING = false) (hw : w % 2 = 0) :
    calWriteFx w v s = { s with cor := { s.cor with latch := some (w / 2, v) } } := by
  unfold calWriteFx
  rw [if_neg (by rw [hr]; decide), if_pos hw]

theorem calWrite_high {w : Nat} {v lo : Word32} {s : State} (hr : s.flag R.COR.RELOADING = false) (hw : w % 2 = 1) (hl : s.cor.latch = some (w / 2, lo)) :
    calWriteFx w v s = { (s.setImm 0x0A2 0 (w - 1) lo).setImm 0x0A2 0 w v with
      cor := { s.cor with latch := none, identity := s.cor.identity.filter (· != w / 2) } } := by
  unfold calWriteFx
  rw [if_neg (by rw [hr]; decide), if_neg (by omega), hl]
  dsimp only
  rw [cond_of (b := w / 2 == w / 2) (beq_self_eq_true _)]
  rfl

theorem fgShow_eq (s : State) : ∃ co, s.fgShow = (({ s with cor := co } : State).wrB R.NVS.BUSY (s.nvs.fg.any (fun op => op != .reload))).wrB
    R.COR.RELOADING (s.nvs.fg.head? == some .reload && !s.nvs.bgRun) := by
  have hcond (b : Bool) : ∃ co, s.cond b (fun s => { s with cor := { s.cor with reloadAt := s.time, copied := 0 } }) = { s with cor := co } := by
    cases b
    · exact ⟨_, rfl⟩
    · exact ⟨_, rfl⟩
  obtain ⟨co, h⟩ := hcond ((s.nvs.fg.head? == some .reload && !s.nvs.bgRun) && !s.flag R.COR.RELOADING)
  refine ⟨co, ?_⟩
  unfold State.fgShow
  dsimp only
  rw [h]

theorem fgSettle_reload {s : State} {ops : List MramOp} (h : s.nvs.fg = .reload :: ops) (n : Nat) : s.fgSettle n = s := by
  cases n with
  | zero => rfl
  | succ n =>
    unfold State.fgSettle
    rw [h]
    rfl

/-- A reload that joins the requests. -/
def reloadPut (s : State) : State := { s with nvs := { s.nvs with fg := s.nvs.fg ++ [.reload] } }

theorem fgPut_reload (s : State) : s.fgPut .reload = (reloadPut s).fgShow := by
  show (if s.nvs.fg.isEmpty then (reloadPut s).fgNext else (reloadPut s).fgShow) = _
  split
  · next hidle =>
    have hfg : (reloadPut s).nvs.fg = [.reload] := congrArg (· ++ [MramOp.reload]) (List.isEmpty_iff.mp hidle)
    unfold State.fgNext
    rw [fgSettle_reload hfg, ite_self]
  · rfl

theorem calReload_shows {s : State} (h : (s.nvs.fg.filter (· == .reload)).length < 2) : (calReloadFx s).nvs = { s.nvs with fg := s.nvs.fg ++ [.reload] } ∧
    (calReloadFx s).rd R.COR.RELOADING = b2n ((s.nvs.fg ++ [MramOp.reload]).head? == some MramOp.reload && !s.nvs.bgRun) ∧
    (calReloadFx s).rd R.NVS.BUSY = b2n (s.nvs.fg.any (fun op => op != .reload)) := by
  have hany : (s.nvs.fg ++ [MramOp.reload]).any (fun op => op != .reload) = s.nvs.fg.any (fun op => op != .reload) := by
    rw [List.any_append]
    exact Bool.or_false _
  have hlt (b : Bool) : b2n b % 2 ^ 1 = b2n b := by cases b <;> rfl
  obtain ⟨co, hco⟩ := fgShow_eq (reloadPut s)
  unfold calReloadFx
  rw [if_pos h, fgPut_reload, hco, ← hany]
  refine ⟨?_, ?_, ?_⟩
  · rw [State.wrB, State.wrB, wr_nvs, wr_nvs]
    rfl
  · exact (rd_wr_own _ _ rfl).trans (hlt _)
  · exact (rd_wr_sep _ _ (by decide)).trans ((rd_wr_own _ _ rfl).trans (hlt _))

/-! A reload ends (R303; 13 R354). -/

/-- The entries of a canonical map, written from a base on, read as that map. -/
theorem smGet_putAll_shifted {α : Type} [DecidableEq α] {d d' : Nat → α} {lo : Option Nat} {xs m : List (Nat × α)} {base i : Nat}
    (h : smOk d' lo xs = true) (hm : smGet d m (base + i) = d' i) :
    smGet d (smPutAll d m (xs.map (fun p => (base + p.1, p.2)))) (base + i) = smGet d' xs i := by
  induction xs generalizing m lo with
  | nil => exact hm
  | cons p xs ih =>
    obtain ⟨a, v⟩ := p
    simp only [smOk, Bool.and_eq_true] at h
    obtain ⟨-, hs⟩ := h
    show smGet d (smPutAll d (smSet d m (base + a) v) (xs.map (fun p => (base + p.1, p.2)))) (base + i) = _
    by_cases hi : a = i
    · subst hi
      have hne : ∀ x ∈ xs.map (fun p => (base + p.1, p.2)), x.1 ≠ base + a := by
        intro x hx
        obtain ⟨y, hy, rfl⟩ := List.mem_map.mp hx
        have := Applies.lt_of_mem_smOk hs y hy
        show base + y.1 ≠ base + a
        omega
      rw [Applies.smGet_putAll_not_mem d _ hne, smGet_set_same]
      simp [smGet]
    · rw [ih hs ((smGet_set_other d m v (by omega)).trans hm)]
      simp [smGet, hi]

theorem mem_smKeep {α : Type} {p : Nat → Bool} {m : List (Nat × α)} {x : Nat × α} (h : x ∈ smKeep p m) : p x.1 = true := by
  induction m with
  | nil => exact absurd h List.not_mem_nil
  | cons q m ih =>
    simp only [smKeep] at h
    split at h
    · next hq =>
      rcases List.mem_cons.mp h with rfl | h
      · exact hq
      · exact ih h
    · exact ih h

/-- An unlisted word of a record reads 0. -/
theorem tabDefault_cal {i : Nat} (hi : i < 2097152) : tabDefault (tabKey 0x0A2 0 0 + i) = 0 := by
  have hq : (tabKey 0x0A2 0 0 + i) / 2 ^ 22 = 0x0A20 := by
    show ((0x0A2 * 16 + 0) * 2 ^ 22 + 0 + i) / 2 ^ 22 = 0x0A20
    omega
  have hp : (tabKey 0x0A2 0 0 + i) / 2 ^ 26 = 0x0A2 := by
    show ((0x0A2 * 16 + 0) * 2 ^ 22 + 0 + i) / 2 ^ 26 = 0x0A2
    omega
  unfold tabDefault
  rw [hq, hp]
  simp

/-- Records `a` to `b` − 1 of table 0 read as the set, and the others as before. -/
theorem immW_calCopy {s : State} (hmem : smWf mramDefault s.mram.mem = true) (a b i : Nat) (hi : i < 2097152) :
    (s.calCopy a b).immW 0x0A2 0 i = if a ≤ i / 2 ∧ i / 2 < b then smGet mramDefault s.mram.mem i else s.immW 0x0A2 0 i := by
  let base := tabKey 0x0A2 0 0
  have hkey : tabKey 0x0A2 0 i = base + i := by
    show (0x0A2 * 16 + 0) * 2 ^ 22 + i = (0x0A2 * 16 + 0) * 2 ^ 22 + 0 + i
    omega
  show smGet tabDefault (smPutAll tabDefault (smKeep (fun k => decide (k < base + 2 * a ∨ base + 2 * b ≤ k)) s.imm)
    ((smKeep (fun i => decide (2 * a ≤ i ∧ i < 2 * b)) s.mram.mem).map (fun p => (base + p.1, p.2)))) (tabKey 0x0A2 0 i) = _
  rw [hkey]
  split
  · next h =>
    have hd : tabDefault (base + i) = mramDefault i := tabDefault_cal hi
    have hout : smGet tabDefault (smKeep (fun k => decide (k < base + 2 * a ∨ base + 2 * b ≤ k)) s.imm) (base + i) = mramDefault i := by
      rw [smGet_keep, if_neg (by rw [decide_eq_true_eq]; omega)]
      exact hd
    refine (smGet_putAll_shifted (smOk_keep _ hmem) hout).trans ?_
    rw [smGet_keep, if_pos (decide_eq_true (by omega))]
  · next h =>
    have hne : ∀ x ∈ (smKeep (fun i => decide (2 * a ≤ i ∧ i < 2 * b)) s.mram.mem).map (fun p => (base + p.1, p.2)), x.1 ≠ base + i := by
      intro x hx
      obtain ⟨y, hy, rfl⟩ := List.mem_map.mp hx
      have := of_decide_eq_true (mem_smKeep hy)
      show base + y.1 ≠ base + i
      omega
    rw [Applies.smGet_putAll_not_mem _ _ hne, smGet_keep, if_pos (decide_eq_true (by omega))]
    show _ = smGet tabDefault s.imm (tabKey 0x0A2 0 i)
    rw [hkey]

theorem immW_calCopied {s : State} (hmem : smWf mramDefault s.mram.mem = true) (bad : List Nat) (i : Nat) (hi : i < 2097152) :
    (s.calCopied bad).immW 0x0A2 0 i =
      if i / 2 ∈ bad then 0 else if i / 2 < s.cor.copied then s.immW 0x0A2 0 i else smGet mramDefault s.mram.mem i := by
  let base := tabKey 0x0A2 0 0
  have hkey : tabKey 0x0A2 0 i = base + i := by
    show (0x0A2 * 16 + 0) * 2 ^ 22 + i = (0x0A2 * 16 + 0) * 2 ^ 22 + 0 + i
    omega
  have hcopy := immW_calCopy hmem s.cor.copied calRecords i hi
  have hd : tabDefault (base + i) = 0 := tabDefault_cal hi
  show smGet tabDefault (smKeep (fun k => !(decide (base ≤ k ∧ k < base + 2 * calRecords) && bad.contains ((k - base) / 2)))
    (s.calCopy s.cor.copied calRecords).imm) (tabKey 0x0A2 0 i) = _
  have hin : decide (base ≤ base + i ∧ base + i < base + 2 * calRecords) = true := decide_eq_true (by unfold calRecords; omega)
  rw [smGet_keep, hkey, hin, Nat.add_sub_cancel_left, Bool.true_and]
  by_cases hb : i / 2 ∈ bad
  · rw [List.contains_iff_mem.mpr hb, if_neg (by decide), if_pos hb]
    exact hd
  · have hnb : bad.contains (i / 2) = false := by simpa using hb
    rw [hnb, if_pos (by decide), if_neg hb, ← hkey]
    refine hcopy.trans ?_
    have hlt : i / 2 < calRecords := by unfold calRecords; omega
    by_cases hc : i / 2 < s.cor.copied
    · rw [if_neg (by omega), if_pos hc]
    · rw [if_pos ⟨by omega, hlt⟩, if_neg hc]

/-- The copy of the set is over. -/
def reloadShown (bad : List Nat) (s : State) : State :=
  let s := s.cond (!bad.isEmpty) (fun s => (s.incBy R.NVS.CNT_UNCORR bad.length).raise R.NVS.ev_UNCORR)
  (((s.wr R.COR.CAL_VALID 1).inc R.COR.CNT_RELOAD).raise R.COR.ev_RELOAD_DONE).wr R.COR.RELOADING 0

/-- The fields of the reload that the next request leaves alone. -/
def reloadFields : List Fld := [R.COR.CAL_VALID, R.COR.CNT_RELOAD]

theorem reloadShown_shows (bad : List Nat) (s : State) : (reloadShown bad s).imm = s.imm ∧ (reloadShown bad s).nvs = s.nvs ∧
    (reloadShown bad s).rd R.COR.CAL_VALID = 1 ∧ Counted s (reloadShown bad s) R.COR.CNT_RELOAD ∧ Pending (reloadShown bad s) R.COR.ev_RELOAD_DONE := by
  have h := staysFrame (F := fun t : State => (t.imm, t.nvs)) (fun _ _ _ => rfl) [R.COR.CNT_RELOAD]
  have hbad : Stays (fun t : State => (t.imm, t.nvs)) [R.COR.CNT_RELOAD] s
      (s.cond (!bad.isEmpty) (fun s => (s.incBy R.NVS.CNT_UNCORR bad.length).raise R.NVS.ev_UNCORR)) :=
    h.cond fun _ => h.trans (h.incBy s _ (by decide)) (h.raise _ (by decide) (by decide))
  unfold reloadShown
  generalize s.cond (!bad.isEmpty) (fun s => (s.incBy R.NVS.CNT_UNCORR bad.length).raise R.NVS.ev_UNCORR) = u at hbad
  have hp := partFrame (F := fun t : State => (t.imm, t.nvs)) (fun _ _ _ => rfl)
  have hpart : ((((u.wr R.COR.CAL_VALID 1).inc R.COR.CNT_RELOAD).raise R.COR.ev_RELOAD_DONE).wr R.COR.RELOADING 0).imm = u.imm ∧
      ((((u.wr R.COR.CAL_VALID 1).inc R.COR.CNT_RELOAD).raise R.COR.ev_RELOAD_DONE).wr R.COR.RELOADING 0).nvs = u.nvs :=
    Prod.mk.inj (hp.trans (hp.trans (hp.trans (hp.wr u 1 rfl) (hp.inc _ rfl)) (hp.raise _ rfl (by decide))) (hp.wr _ 0 rfl))
  obtain ⟨himm, hnvs⟩ := Prod.mk.inj hbad.part
  refine ⟨hpart.1.trans himm, hpart.2.trans hnvs, ?_, ?_, pending_wr (pending_raise _ (by decide)) 0 (by decide)⟩
  · refine (rd_wr_sep _ _ (by decide)).trans ((rd_raise_sep (e := R.COR.ev_RELOAD_DONE) _ (by decide)).trans ((rd_wr_sep _ _ (by decide)).trans ?_))
    exact rd_wr_own _ _ rfl
  · refine (rd_wr_sep _ _ (by decide)).trans ((rd_raise_sep (e := R.COR.ev_RELOAD_DONE) _ (by decide)).trans ((counted_inc _ rfl rfl).trans ?_))
    rw [rd_wr_sep _ _ (by decide), hbad.rd R.COR.CNT_RELOAD List.mem_cons_self]

theorem calReloadDone_shows {s : State} (hbg : s.nvs.bgRun = false) (hmem : smWf mramDefault s.mram.mem = true) (bad : List Nat) :
    (s.nvs.fg = [.reload] → (calReloadDoneFx bad s).nvs.fg = [] ∧ (calReloadDoneFx bad s).rd R.COR.RELOADING = 0) ∧
    (calReloadDoneFx bad s).rd R.COR.CAL_VALID = 1 ∧ Counted s (calReloadDoneFx bad s) R.COR.CNT_RELOAD ∧
    Pending (calReloadDoneFx bad s) R.COR.ev_RELOAD_DONE ∧
    ∀ i, i < 2097152 → (calReloadDoneFx bad s).immW 0x0A2 0 i =
      if i / 2 ∈ bad then 0 else if i / 2 < s.cor.copied then s.immW 0x0A2 0 i else smGet mramDefault s.mram.mem i := by
  let u : State := { s with nvs := { s.nvs with fg := s.nvs.fg.drop 1 } }
  have hfx : calReloadDoneFx bad s = (reloadShown bad.dedup (u.calCopied bad.dedup)).fgNext := rfl
  obtain ⟨himm, hnvs, hvalid, hcount, hpend⟩ := reloadShown_shows bad.dedup (u.calCopied bad.dedup)
  have hnext := frame_fgNext (staysFrame (F := fun t : State => t.imm) (fun _ _ _ => rfl) reloadFields) (fun _ _ _ => .other rfl rfl) (by decide) (by decide)
    (reloadShown bad.dedup (u.calCopied bad.dedup))
  have htab (i : Nat) (hi : i < 2097152) := immW_calCopied (s := u) hmem bad.dedup i hi
  have hnvs : (reloadShown bad.dedup (u.calCopied bad.dedup)).nvs = u.nvs := hnvs
  have hcount : (reloadShown bad.dedup (u.calCopied bad.dedup)).rd R.COR.CNT_RELOAD = min (s.rd R.COR.CNT_RELOAD + 1) 0xFFFFFFFF := hcount
  rw [hfx]
  generalize u.calCopied bad.dedup = w at htab himm hnvs hvalid hcount hpend hnext
  generalize reloadShown bad.dedup w = v at himm hnvs hvalid hcount hpend hnext
  refine ⟨fun hfg => ?_, (hnext.rd _ (by decide)).trans hvalid, (hnext.rd _ (by decide)).trans hcount, hnext.pend _ hpend, fun i hi => ?_⟩
  · have hv : v.nvs.fg = [] := by rw [hnvs]; exact congrArg (List.drop 1) hfg
    have hshow : v.fgNext = v.fgShow := by
      unfold State.fgNext
      rw [hv]
      exact congrArg State.fgShow (ite_self _)
    obtain ⟨co, hco⟩ := fgShow_eq v
    rw [hshow, hco]
    refine ⟨?_, ?_⟩
    · rw [State.wrB, State.wrB, wr_nvs, wr_nvs]
      exact hv
    · refine (rd_wr_own _ _ rfl).trans ?_
      rw [hv]
      rfl
  · have hword : v.fgNext.immW 0x0A2 0 i = w.immW 0x0A2 0 i := congrArg (fun m => smGet tabDefault m (tabKey 0x0A2 0 i)) (hnext.part.trans himm)
    rw [hword, htab i hi]
    simp only [List.mem_dedup]
    rfl

/-- Settles O49. -/
theorem tilesTakeBandsAndCompute : Obligations.TilesTakeBandsAndCompute := by
  unfold Obligations.TilesTakeBandsAndCompute
  refine ⟨fun port b s ht hp hu hid hd hup => ?_, fun port q b s ht hp hu hid hd hup hne => ⟨_, rfl, ?_⟩, fun q rest s ht hq => ⟨_, rfl, ?_⟩,
    fun s hon => ⟨_, rfl, cond_of (b := s.pageOn 0x0A0) hon _ _⟩, fun s hon => ⟨_, rfl, cond_of (b := s.pageOn 0x0A2) hon _ _⟩,
    fun t0 j rest s ht hen htodo hn hr hb => ⟨_, rfl, ?_⟩, fun t0 r s ht hn => ⟨fun hr => ⟨_, rfl, ?_⟩, fun hr => ⟨_, rfl, ?_⟩⟩,
    fun t0 r s ht hn hr => ⟨_, rfl, ?_⟩, fun addr v s hon ha hr => ⟨fun hw => ⟨_, rfl, ?_⟩, fun lo hw hl => ⟨_, rfl, ?_⟩⟩,
    fun s hon => ⟨fun h => ⟨_, rfl, ?_⟩, fun h => ⟨_, rfl, ?_⟩⟩, fun bad s ht hbg hfg hmem himm => ⟨_, rfl, ?_⟩⟩
  · have hguard : (s.isTile && decide (port < 2) && s.isUp port && s.hasId && b.dest == s.lv R.GLB.NODE_ID) = true := by
      rw [ht, decide_eq_true hp, hu, hid, hd, beq_self_eq_true]
      rfl
    have hexec : exec (.bandReceive port b) s = .next (bandReceiveFx port b s.start) := congrArg Host.Outcome.next (cond_of hguard _ _)
    have hbuf : s.start.bandBuffer = s.bandBuffer := rfl
    refine ⟨fun hcrc => ⟨_, hexec, ?_⟩, fun hcrc hidle => ⟨_, hexec, ?_⟩, fun hcrc hon he => ⟨_, hexec, ?_⟩, fun hcrc hon he hne hf hroom => ⟨_, hexec, ?_⟩,
      fun sg hcrc hon he hsegs => ⟨_, hexec, ?_⟩⟩
    · rw [bandReceive_bad (s := s.start) hup hcrc]
      exact ⟨rfl, rfl⟩
    · rw [bandReceive_up (s := s.start) hup hcrc, acceptBand_idle (s := s.start) hidle]
      exact ⟨onlyRegs_trans (onlyRegs_start s) (onlyRegs_inc _ _), counted_inc s.start rfl rfl, wordsKept_inc s.start (f := R.TIL.CNT_BAND_IDLE) (show 32 ≤ 32 by decide)⟩
    · rw [bandReceive_up (s := s.start) hup hcrc, acceptBand_late (s := s.start) hon he]
      obtain ⟨h1, h2, h3⟩ := incRaise_shows s.start (f := R.TIL.CNT_BAND_LATE) (e := R.TIL.ev_BAND_LATE) rfl rfl (by decide) (by decide)
      exact ⟨onlyRegs_trans (onlyRegs_start s) h1, h2, h3⟩
    · rw [bandReceive_up (s := s.start) hup hcrc, acceptBand_now (s := s.start) hon he, each_takeSeg b b.segs s.start hf hroom]
      obtain ⟨h1, h2, h3⟩ := each_segQueued (b.segs.map (fun sg => (⟨2048 * b.feed + b.bandNo, b.format, sg⟩ : QSeg))) s.start
      exact ⟨h1, h2 (by simpa using hne), h3⟩
    · rw [bandReceive_up (s := s.start) hup hcrc, acceptBand_now (s := s.start) hon he, hsegs]
      refine ⟨fun hc => ?_, fun hc hd => ?_, fun hc hd hk => takeSeg_other (s := s.start) hc hd hk, fun hc hd hk hfull => ?_⟩
      · have hx : s.start.each [sg] (fun s sg => s.takeSeg b.bandNo b.feed b.format sg) = s.start.incRaise R.TIL.CNT_SEG_CORRUPT R.TIL.ev_SEG_CORRUPT :=
          takeSeg_corrupt (s := s.start) hc
        obtain ⟨h1, h2, h3⟩ := incRaise_shows s.start (f := R.TIL.CNT_SEG_CORRUPT) (e := R.TIL.ev_SEG_CORRUPT) rfl rfl (by decide) (by decide)
        rw [hx]
        exact ⟨onlyRegs_trans (onlyRegs_start s) h1, h2, h3⟩
      · have hx : s.start.each [sg] (fun s sg => s.takeSeg b.bandNo b.feed b.format sg) = s.start.inc R.TIL.CNT_SEG_DUP := takeSeg_dup (s := s.start) hc hd
        rw [hx]
        exact ⟨onlyRegs_trans (onlyRegs_start s) (onlyRegs_inc _ _), counted_inc s.start rfl rfl⟩
      · have hx : s.start.each [sg] (fun s sg => s.takeSeg b.bandNo b.feed b.format sg) = s.start.incRaise R.TIL.CNT_BUF_DROP R.TIL.ev_BUF_DROP :=
          (takeSeg_kept (s := s.start) hc hd hk).trans (queueSeg_full (s := s.start) hfull)
        obtain ⟨h1, h2, h3⟩ := incRaise_shows s.start (f := R.TIL.CNT_BUF_DROP) (e := R.TIL.ev_BUF_DROP) rfl rfl (by decide) (by decide)
        rw [hx]
        exact ⟨onlyRegs_trans (onlyRegs_start s) h1, h2, h3⟩
  · rw [cond_of (b := s.isTile && decide (port < 2) && s.isUp port && s.hasId && b.dest == s.lv R.GLB.NODE_ID)
      (by rw [ht, decide_eq_true hp, hu, hid, hd, beq_self_eq_true]; rfl), bandReceive_other (s := s.start) hup hne]
    exact ⟨onlyRegs_trans (onlyRegs_start s) (onlyRegs_inc _ _), counted_inc s.start rfl rfl,
      wordsKept_inc s.start (f := R.COIL.CNT_WRONG_SIDE port) (show 32 ≤ 32 by decide)⟩
  · rw [cond_of (b := s.isTile) ht]
    exact segmentDecode_shows (s := s.start) hq
  · rw [cond_of (b := s.isTile && s.lvB R.TIL.EN) (by rw [ht, hen]; rfl)]
    exact slotComputeStart_shows (s := s.atTime t0) htodo hn hr hb
  · have hdark := slotComputeStart_dark (s := s.atTime t0) hn
    cases hg : (s.isTile && s.lvB R.TIL.EN)
    · exact rfl
    · show Quiet s (slotComputeStartFx (s.atTime t0))
      rw [hdark]
      exact rfl
  · have hfx : slotComputeDoneFx (s.atTime t0) = (s.atTime t0).stopRun.2 := by
      unfold slotComputeDoneFx
      rw [show (s.atTime t0).lsm.run = some r from hr]
      exact if_pos hn
    rw [cond_of (b := s.isTile) ht, hfx]
    exact stopRun_shows (s := s.atTime t0) hr
  · rw [cond_of (b := s.isTile) ht]
    exact slotComputeDone_shows (s := s.atTime t0) hr hn
  · rw [cond_of (b := s.pageOn 0x0A2 && decide (addr < 8 * 1048576)) (by rw [hon, decide_eq_true ha]; rfl)]
    exact calWrite_low (s := s.start) hr hw
  · rw [cond_of (b := s.pageOn 0x0A2 && decide (addr < 8 * 1048576)) (by rw [hon, decide_eq_true ha]; rfl), calWrite_high (s := s.start) hr hw hl]
    refine ⟨immW_setImm_same _ _ _ _ _, ?_, rfl, ?_, rfl⟩
    · refine (immW_setImm_ne (s.start.setImm 0x0A2 0 (addr / 4 - 1) lo) 0x0A2 0 (by omega) v).trans ?_
      exact immW_setImm_same _ _ _ _ _
    · intro hmem
      exact absurd (List.mem_filter.mp hmem).2 (by simp)
  · rw [cond_of (b := s.pageOn 0x0A2) hon]
    exact calReload_shows (s := s.start) h
  · rw [cond_of (b := s.pageOn 0x0A2) hon]
    exact if_neg (Nat.not_lt.mpr h)
  · rw [cond_of (b := s.isTile && !s.nvs.bgRun && s.nvs.fg.head? == some .reload) (by rw [ht, hbg, hfg]; rfl)]
    exact calReloadDone_shows (s := s.start) hbg hmem bad

end Sys2Proof.Proofs.TilePipeline


/-!
THEOREMS. Slot starts of the lamp bus (12 R328, R331 to R333). Refutes O50.
-/

namespace Sys2Proof.Proofs.LampSlots
open Sys2Proof.Machine

/-- A tile in use whose next slot is a dark slot 1. -/
def darkSlotAhead : State :=
  { (State.reset.wr R.GLB.STATE stLOADED).wr R.TIL.EN.live 1 with
    role := .tile
    lmp := { plan := [{ epoch := 0, slot := 1, ord := 0, lit := false, due := 0 }] } }

/-- A field of no page of the lamp bus, by its page number, whose live copy lies at the word of CNT_SLOTS. -/
def countAlias : Fld := ⟨R.LMP.CNT_SLOTS.page - 1, 0x1000 + R.LMP.CNT_SLOTS.off - 0x400, 0, 32⟩

/-- The configuration in force on the lamp bus reads that field as CNT_SLOTS. -/
theorem bus_countAlias (s : State) : s.bus countAlias = s.rd R.LMP.CNT_SLOTS := rfl

/-- Refutes O50: that a slot other than 0 leaves the configuration in force as it is, is stated of every field, and so also of one whose live
    copy lies at the word of CNT_SLOTS, which every slot start counts up. -/
theorem not_lampSlotsLoadAndScan : ¬ Obligations.LampSlotsLoadAndScan := by
  rintro ⟨-, -, -, hstart, -⟩
  obtain ⟨t, -, hshows⟩ := hstart 1 0 { epoch := 0, slot := 1, ord := 0, lit := false, due := 0 } [] darkSlotAhead (by decide +kernel) (by decide +kernel)
    (by decide +kernel)
  obtain ⟨-, -, -, -, hcount, -, -, hbus, -⟩ := hshows
  have hsame : t.rd R.LMP.CNT_SLOTS = darkSlotAhead.rd R.LMP.CNT_SLOTS := by
    rw [← bus_countAlias, ← bus_countAlias, hbus (by decide)]
  have hzero : darkSlotAhead.rd R.LMP.CNT_SLOTS = 0 := by decide +kernel
  rw [Counted, hsame, hzero] at hcount
  exact absurd hcount (by decide)

end Sys2Proof.Proofs.LampSlots

/-!
THEOREMS. Readback of a probe (12 R321, R322, R337). Refutes O51.
-/

namespace Sys2Proof.Proofs.LampProbes
open Sys2Proof.Machine

/-- A tile of one pixel to which a tick has applied a map that puts its lamps on row 5, while the lamp bus still has the map of the frame
    before; the window of a probe of row 5 has run in group 0. -/
def remappedTile : State :=
  { ((State.reset.wr R.GLB.STATE stLOADED).wr R.TIL.EN.live 1) with
    role := .tile
    tabs := [(tabKey 0x0B0 0 0, 5)]
    lmp := { grp := [(0, { fired := some { row := 5, solo := true, mask := [], live := true } })] } }

/-- A readback in which the driver of column 0 is present and flags no fault. -/
def goodReadback : List (List Bool) := [[false, true, false, false]]

/-- That tile after the readback. -/
def remappedAfter : State := probeReadDoneFx 0 { low := goodReadback, high := [] } remappedTile.start

theorem exec_remappedTile : exec (.probeReadDone 0 goodReadback []) remappedTile = .next remappedAfter :=
  congrArg Host.Outcome.next (if_pos (by decide +kernel))

/-- The status of lamp 0 stays UNKNOWN-DARK: by the map in force on the bus it does not lie in row 5. -/
theorem remappedAfter_unknown : remappedAfter.lampStatus 0 = 3 := by decide +kernel

/-- Refutes O51: the lamps of a probe's row are those of the map in force on the lamp bus since S_0, and the statement names them by the applied
    map, which a tick has changed before. -/
theorem not_probesFindLampFaults : ¬ Obligations.ProbesFindLampFaults := by
  rintro ⟨hread, -⟩
  obtain ⟨t, hexec, hshows⟩ := hread 0 0 { row := 5, solo := true, mask := [], live := true } goodReadback [] remappedTile (by decide +kernel) (by decide)
    (by decide +kernel) (by decide) (by decide +kernel) (by decide +kernel) (by decide +kernel)
  obtain ⟨-, -, -, -, -, -, hstatus, -⟩ := hshows
  obtain rfl := Host.Outcome.next.inj (exec_remappedTile.symm.trans hexec)
  exact absurd (remappedAfter_unknown.symm.trans hstatus) (by decide +kernel)

end Sys2Proof.Proofs.LampProbes


/-!
THEOREMS. The tick of a tile without a TICK (02 R38; 10 R280). Refutes O33.
-/

namespace Sys2Proof.Proofs.MissedTicks
open Sys2Proof.Machine

/-- The key of which FAILOVER's word would be the live copy. -/
def failoverShadow : Nat := R.RED.st_FAILOVER.key - 0x400

/-- A commit for epoch 1 whose snapshot holds, besides shadow registers, a word of that key. -/
def strayCommit : Commit := { target := 1, origins := [], snap := [(failoverShadow, 0)] }

/-- A tile with two ports, on which partners train, that ticks, has missed one TICK, and holds that commit. -/
def strayTile : State :=
  { ((State.reset.wr R.GLB.STATE stLIT).wr (R.COIL.LINK 0) lkTRAINING).wr (R.COIL.LINK 1) lkTRAINING with
    role := .tile
    member := .y24
    frm := { ticked := true, missing := 1 }
    cmt := { pend := [strayCommit] } }

/-- That tile after the second missed TICK. -/
def strayAfter : State := tileTickFx (strayTile.atTime 0)

theorem exec_strayTile : exec (.tickMissing 0) strayTile = .next strayAfter :=
  congrArg Host.Outcome.next (if_pos (by decide +kernel))

theorem strayAfter_failover : strayAfter.rd R.RED.st_FAILOVER = 0 := by decide +kernel

/-- Refutes O33: a snapshot is any list of words in the statement, so that one of a pending commit can hold a word whose live copy is that of
    FAILOVER; the tick that enters FAILOVER applies it afterwards, and the flag reads 0. -/
theorem not_tileTicks : ¬ Obligations.TileTicks := by
  rintro ⟨-, -, -, -, -, hmissing, -⟩
  obtain ⟨t, hexec, -, -, hfail⟩ := hmissing 0 strayTile (by decide +kernel) rfl rfl (by decide +kernel)
  obtain rfl := Host.Outcome.next.inj (exec_strayTile.symm.trans hexec)
  obtain ⟨hflag, -⟩ := hfail rfl (by decide +kernel)
  exact absurd (strayAfter_failover.symm.trans hflag) (by decide)

end Sys2Proof.Proofs.MissedTicks


/-!
Soundness, the ground (03 R77, R113): a change keeps the state sound when the seven stores keep their canonical form, the queues their sizes and
the owned tags their distinctness. `Keeps` composes along the model's own definitions, and says besides that the role stays.
-/

namespace Sys2Proof.Proofs.Soundness
open Sys2Proof.Machine Sys2Proof.Laws

-- Many short proofs: elaborated one after the other, since each waiting one would hold a thread's stack.
set_option Elab.async false

/-- From `s` to `t` a sound state stays sound, and the role stays. -/
structure Keeps (s t : State) : Prop where
  sound : s.sound → t.sound
  role : t.role = s.role

theorem Keeps.refl (s : State) : Keeps s s := ⟨id, rfl⟩

variable {s t : State}

theorem Keeps.trans {u : State} (h : Keeps s t) (h' : Keeps t u) : Keeps s u := ⟨fun hs => h'.sound (h.sound hs), h'.role.trans h.role⟩

/-- What soundness speaks of, and the role. -/
structure Sides where
  regs : List (Nat × Word32)
  imm : List (Nat × Word32)
  tabs : List (Nat × Word32)
  pend : List (Nat × Word32)
  dram : List Host.Cell
  mram : List (Nat × Word32)
  bar2 : List Host.Cell
  tq : List TqEntry
  tsq : List TsEntry
  tun : TunSt
  role : Role

def sides (s : State) : Sides :=
  ⟨s.regs, s.imm, s.tabs, s.pend, s.drm.mem, s.mram.mem, s.boot.bar2, s.evt.tq, s.net.tsq, s.tun, s.role⟩

/-- The parts of soundness. -/
def Sides.sound (p : Sides) : Prop :=
  (smWf resetWord p.regs = true ∧ smWf tabDefault p.imm = true ∧ smWf tabDefault p.tabs = true ∧ smWf tabDefault p.pend = true ∧
    Memory.wf p.dram = true ∧ smWf mramDefault p.mram = true ∧ Memory.wf p.bar2 = true) ∧
  (p.tq.length ≤ 256 ∧ p.tsq.length ≤ 64) ∧
  ((p.tun.out.map TunReq.tag ++ p.tun.rsp.map TunRsp.tag).Nodup ∧ ∀ t ∈ p.tun.out.map TunReq.tag ++ p.tun.rsp.map TunRsp.tag, t < 64)

theorem sound_iff : s.sound ↔ (sides s).sound := by
  unfold State.sound State.stored State.queuesOk State.tagsOk Sides.sound
  simp only [Bool.and_eq_true, decide_eq_true_eq, List.all_eq_true, and_assoc]
  exact Iff.rfl

/-- A change of other parts of the state. -/
theorem Keeps.other {u : State} (h : Keeps s t) (e : sides u = sides t := by rfl) : Keeps s u :=
  h.trans ⟨fun ht => sound_iff.mpr (by rw [e]; exact sound_iff.mp ht), congrArg Sides.role e⟩

theorem Keeps.cond {b : Bool} {f : State → State} (h : Keeps s t) (hf : Keeps s t → Keeps s (f t)) : Keeps s (t.cond b f) := by
  cases b
  · exact h
  · exact hf h

theorem Keeps.ite {u v : State} {c : Prop} [Decidable c] (hu : c → Keeps s u) (hv : ¬c → Keeps s v) : Keeps s (if c then u else v) := by
  split
  · next hc => exact hu hc
  · next hc => exact hv hc

theorem Keeps.each {α : Type} {xs : List α} {f : State → α → State} (h : Keeps s t) (hf : ∀ u x, Keeps s u → Keeps s (f u x)) :
    Keeps s (t.each xs f) :=
  each_keeps (P := Keeps s) xs hf h

/-! The stores. -/

theorem Keeps.regs {m : List (Nat × Word32)} (h : Keeps s t) (hm : smWf resetWord t.regs = true → smWf resetWord m = true) :
    Keeps s { t with regs := m } := by
  refine h.trans ⟨fun ht => ?_, rfl⟩
  obtain ⟨⟨h1, hrest⟩, hq, ht⟩ := sound_iff.mp ht
  exact sound_iff.mpr ⟨⟨hm h1, hrest⟩, hq, ht⟩

theorem Keeps.imm {m : List (Nat × Word32)} (h : Keeps s t) (hm : smWf tabDefault t.imm = true → smWf tabDefault m = true) :
    Keeps s { t with imm := m } := by
  refine h.trans ⟨fun ht => ?_, rfl⟩
  obtain ⟨⟨h1, h2, hrest⟩, hq, ht⟩ := sound_iff.mp ht
  exact sound_iff.mpr ⟨⟨h1, hm h2, hrest⟩, hq, ht⟩

theorem Keeps.pend {m : List (Nat × Word32)} (h : Keeps s t) (hm : smWf tabDefault t.pend = true → smWf tabDefault m = true) :
    Keeps s { t with pend := m } := by
  refine h.trans ⟨fun ht => ?_, rfl⟩
  obtain ⟨⟨h1, h2, h3, h4, hrest⟩, hq, ht⟩ := sound_iff.mp ht
  exact sound_iff.mpr ⟨⟨h1, h2, h3, hm h4, hrest⟩, hq, ht⟩

theorem Keeps.putTables (h : Keeps s t) : Keeps s t.putTables := by
  refine h.trans ⟨fun ht => ?_, rfl⟩
  obtain ⟨⟨h1, h2, -, h4, hrest⟩, hq, ht⟩ := sound_iff.mp ht
  exact sound_iff.mpr ⟨⟨h1, h2, h4, h4, hrest⟩, hq, ht⟩

theorem Keeps.drm {d : DramSt} (h : Keeps s t) (hm : Memory.wf t.drm.mem = true → Memory.wf d.mem = true) : Keeps s { t with drm := d } := by
  refine h.trans ⟨fun ht => ?_, rfl⟩
  obtain ⟨⟨h1, h2, h3, h4, h5, hrest⟩, hq, ht⟩ := sound_iff.mp ht
  exact sound_iff.mpr ⟨⟨h1, h2, h3, h4, hm h5, hrest⟩, hq, ht⟩

theorem Keeps.mram {m : MramSt} (h : Keeps s t) (hm : smWf mramDefault t.mram.mem = true → smWf mramDefault m.mem = true) :
    Keeps s { t with mram := m } := by
  refine h.trans ⟨fun ht => ?_, rfl⟩
  obtain ⟨⟨h1, h2, h3, h4, h5, h6, h7⟩, hq, ht⟩ := sound_iff.mp ht
  exact sound_iff.mpr ⟨⟨h1, h2, h3, h4, h5, hm h6, h7⟩, hq, ht⟩

theorem Keeps.boot {b : BootSt} (h : Keeps s t) (hm : Memory.wf t.boot.bar2 = true → Memory.wf b.bar2 = true) : Keeps s { t with boot := b } := by
  refine h.trans ⟨fun ht => ?_, rfl⟩
  obtain ⟨⟨h1, h2, h3, h4, h5, h6, h7⟩, hq, ht⟩ := sound_iff.mp ht
  exact sound_iff.mpr ⟨⟨h1, h2, h3, h4, h5, h6, hm h7⟩, hq, ht⟩

/-! The queues and the tags. -/

theorem Keeps.evt {e : EvtSt} (h : Keeps s t) (hq : t.evt.tq.length ≤ 256 → e.tq.length ≤ 256) : Keeps s { t with evt := e } := by
  refine h.trans ⟨fun ht => ?_, rfl⟩
  obtain ⟨hm, ⟨h1, h2⟩, ht⟩ := sound_iff.mp ht
  exact sound_iff.mpr ⟨hm, ⟨hq h1, h2⟩, ht⟩

theorem Keeps.net {n : NetSt} (h : Keeps s t) (hq : t.net.tsq.length ≤ 64 → n.tsq.length ≤ 64) : Keeps s { t with net := n } := by
  refine h.trans ⟨fun ht => ?_, rfl⟩
  obtain ⟨hm, ⟨h1, h2⟩, ht⟩ := sound_iff.mp ht
  exact sound_iff.mpr ⟨hm, ⟨h1, hq h2⟩, ht⟩

/-- The tags of some requests and responses. -/
def tagsOf (u : TunSt) : List Nat := u.out.map TunReq.tag ++ u.rsp.map TunRsp.tag

theorem Keeps.tun {u : TunSt} (h : Keeps s t)
    (hu : (tagsOf t.tun).Nodup → (∀ x ∈ tagsOf t.tun, x < 64) → (tagsOf u).Nodup ∧ ∀ x ∈ tagsOf u, x < 64) : Keeps s { t with tun := u } := by
  refine h.trans ⟨fun ht => ?_, rfl⟩
  obtain ⟨hm, hq, h1, h2⟩ := sound_iff.mp ht
  exact sound_iff.mpr ⟨hm, hq, hu h1 h2⟩

/-! Registers, table words and events. -/

theorem Keeps.setWord {k : Nat} {v : Word32} (h : Keeps s t) : Keeps s (t.setWord k v) := h.regs fun hm => smWf_set k v hm

theorem Keeps.setImm {page tab i : Nat} {v : Word32} (h : Keeps s t) : Keeps s (t.setImm page tab i v) := h.imm fun hm => smWf_set _ v hm

/-! The parts of the state that soundness does not speak of. -/

theorem Keeps.withMember {x : Member} (h : Keeps s t) : Keeps s { t with member := x } := h.other
theorem Keeps.withLatch {x : List (Nat × Word32)} (h : Keeps s t) : Keeps s { t with latch := x } := h.other
theorem Keeps.withTime {x : Nat} (h : Keeps s t) : Keeps s { t with time := x } := h.other
theorem Keeps.withAon {x : Aon} (h : Keeps s t) : Keeps s { t with aon := x } := h.other
theorem Keeps.withMgmt {x : MgmtSt} (h : Keeps s t) : Keeps s { t with mgmt := x } := h.other
theorem Keeps.withCmt {x : CmtSt} (h : Keeps s t) : Keeps s { t with cmt := x } := h.other
theorem Keeps.withFrm {x : FrmSt} (h : Keeps s t) : Keeps s { t with frm := x } := h.other
theorem Keeps.withCoil {x : List (Nat × CoilSt)} (h : Keeps s t) : Keeps s { t with coil := x } := h.other
theorem Keeps.withRed {x : RedSt} (h : Keeps s t) : Keeps s { t with red := x } := h.other
theorem Keeps.withHub {x : HubSt} (h : Keeps s t) : Keeps s { t with hub := x } := h.other
theorem Keeps.withClk {x : ClkSt} (h : Keeps s t) : Keeps s { t with clk := x } := h.other
theorem Keeps.withNvs {x : NvsSt} (h : Keeps s t) : Keeps s { t with nvs := x } := h.other
theorem Keeps.withThm {x : ThmSt} (h : Keeps s t) : Keeps s { t with thm := x } := h.other
theorem Keeps.withPhc {x : PhcSt} (h : Keeps s t) : Keeps s { t with phc := x } := h.other
theorem Keeps.withCor {x : CorSt} (h : Keeps s t) : Keeps s { t with cor := x } := h.other
theorem Keeps.withSch {x : SchSt} (h : Keeps s t) : Keeps s { t with sch := x } := h.other
theorem Keeps.withLyr {x : List (Nat × LayerSt)} (h : Keeps s t) : Keeps s { t with lyr := x } := h.other
theorem Keeps.withStr {x : List (Nat × StrSt)} (h : Keeps s t) : Keeps s { t with str := x } := h.other
theorem Keeps.withDec {x : DecAll} (h : Keeps s t) : Keeps s { t with dec := x } := h.other
theorem Keeps.withPrv {x : PrvSt} (h : Keeps s t) : Keeps s { t with prv := x } := h.other
theorem Keeps.withCmp {x : CmpSt} (h : Keeps s t) : Keeps s { t with cmp := x } := h.other
theorem Keeps.withSag {x : List (Nat × RegSt)} (h : Keeps s t) : Keeps s { t with sag := x } := h.other
theorem Keeps.withMap {x : MapSt} (h : Keeps s t) : Keeps s { t with map := x } := h.other
theorem Keeps.withTil {x : TilSt} (h : Keeps s t) : Keeps s { t with til := x } := h.other
theorem Keeps.withLsm {x : LsmSt} (h : Keeps s t) : Keeps s { t with lsm := x } := h.other
theorem Keeps.withLmp {x : LmpSt} (h : Keeps s t) : Keeps s { t with lmp := x } := h.other
theorem Keeps.withAud {x : AudSt} (h : Keeps s t) : Keeps s { t with aud := x } := h.other
theorem Keeps.withOut {x : List Output} (h : Keeps s t) : Keeps s { t with out := x } := h.other
theorem Keeps.withFree {x : Nat} (h : Keeps s t) : Keeps s { t with free := x } := h.other
theorem Keeps.withPending {x : List Instr} (h : Keeps s t) : Keeps s { t with pending := x } := h.other

/-! Changes of the other parts of a record that soundness speaks of. -/

theorem Keeps.sideDrm {x : DramSt} (h : Keeps s t) (e : x.mem = t.drm.mem := by rfl) : Keeps s { t with drm := x } := h.drm fun hm => by rw [e]; exact hm

theorem Keeps.sideMram {x : MramSt} (h : Keeps s t) (e : x.mem = t.mram.mem := by rfl) : Keeps s { t with mram := x } := h.mram fun hm => by rw [e]; exact hm

theorem Keeps.sideBoot {x : BootSt} (h : Keeps s t) (e : x.bar2 = t.boot.bar2 := by rfl) : Keeps s { t with boot := x } := h.boot fun hm => by rw [e]; exact hm

theorem Keeps.sideEvt {x : EvtSt} (h : Keeps s t) (e : x.tq = t.evt.tq := by rfl) : Keeps s { t with evt := x } := h.evt fun hm => by rw [e]; exact hm

theorem Keeps.sideNet {x : NetSt} (h : Keeps s t) (e : x.tsq = t.net.tsq := by rfl) : Keeps s { t with net := x } := h.net fun hm => by rw [e]; exact hm

theorem Keeps.withFreeLsm {x : Nat} {y : LsmSt} (h : Keeps s t) : Keeps s { t with free := x, lsm := y } := h.other

theorem Keeps.withLmpTil {x : LmpSt} {y : TilSt} (h : Keeps s t) : Keeps s { t with til := y, lmp := x } := h.other

/-! Changes of several parts at once. -/

theorem Keeps.withClkFrm {x : ClkSt} {y : FrmSt} (h : Keeps s t) :
    Keeps s { t with clk := x, frm := y } := h.other

theorem Keeps.withClkRed {x : ClkSt} {y : RedSt} (h : Keeps s t) :
    Keeps s { t with clk := x, red := y } := h.other

theorem Keeps.withCmtFrm {x : CmtSt} {y : FrmSt} (h : Keeps s t) :
    Keeps s { t with cmt := x, frm := y } := h.other

theorem Keeps.withFrmMap {x : FrmSt} {y : MapSt} (h : Keeps s t) :
    Keeps s { t with frm := x, map := y } := h.other

theorem Keeps.withFrmPhc {x : FrmSt} {y : PhcSt} (h : Keeps s t) :
    Keeps s { t with frm := x, phc := y } := h.other

theorem Keeps.withFrmRed {x : FrmSt} {y : RedSt} (h : Keeps s t) :
    Keeps s { t with frm := x, red := y } := h.other

theorem Keeps.withLmpLsm {x : LmpSt} {y : LsmSt} (h : Keeps s t) :
    Keeps s { t with lmp := x, lsm := y } := h.other

theorem Keeps.withMramNvs {x : MramSt} {y : NvsSt} (h : Keeps s t) (e : x.mem = t.mram.mem := by rfl) :
    Keeps s { t with mram := x, nvs := y } := h.other (by unfold sides; rw [show ({ t with mram := x, nvs := y } : State).mram.mem = t.mram.mem from e])

theorem Keeps.withOutTime {x : List Output} {y : Nat} (h : Keeps s t) :
    Keeps s { t with out := x, time := y } := h.other

theorem Keeps.wr (h : Keeps s t) {f : Fld} {v : Nat} : Keeps s (t.wr f v) := by
  unfold State.wr
  exact .ite (fun _ => h.setWord) fun _ => h.setWord.setWord

theorem Keeps.wrB (h : Keeps s t) {f : Fld} {b : Bool} : Keeps s (t.wrB f b) := by
  unfold State.wrB
  exact h.wr

theorem Keeps.wrI (h : Keeps s t) {f : Fld} {v : Int} : Keeps s (t.wrI f v) := by
  unfold State.wrI
  exact h.wr

theorem Keeps.wrBoth (h : Keeps s t) {f : Fld} {v : Nat} : Keeps s (t.wrBoth f v) := by
  unfold State.wrBoth
  exact h.wr.wr

theorem Keeps.incBy (h : Keeps s t) {f : Fld} {n : Nat} : Keeps s (t.incBy f n) := by
  unfold State.incBy
  exact h.wr

theorem Keeps.inc (h : Keeps s t) {f : Fld} : Keeps s (t.inc f) := by
  unfold State.inc
  exact h.incBy

theorem Keeps.emit (h : Keeps s t) {o : Output} : Keeps s (t.emit o) := by
  unfold State.emit
  exact h.withOut

theorem Keeps.start (h : Keeps s t) : Keeps s t.start := by
  unfold State.start
  exact h.withOut

theorem Keeps.atTime (h : Keeps s t) {t₀ : Nat} : Keeps s (t.atTime t₀) := by
  unfold State.atTime
  exact h.withOutTime

theorem Keeps.fresh (h : Keeps s t) : Keeps s t.fresh.2 := h.other

theorem Keeps.freshB (h : Keeps s t) : Keeps s t.freshB.2 := h.other

theorem Keeps.strapHigh (h : Keeps s t) {strap : Strap} : Keeps s (t.strapHigh strap).2 := by
  cases strap
  · exact h
  · exact h
  · exact h.freshB

theorem Keeps.setWbit (h : Keeps s t) {key : Nat} {i : Nat} {b : Bool} : Keeps s (t.setWbit key i b) := by
  unfold State.setWbit
  exact h.setWord

theorem Keeps.setPend (h : Keeps s t) {page tab i : Nat} {x : Word32} : Keeps s (t.setPend page tab i x) := h.pend fun hm => smWf_set _ x hm

theorem Keeps.setImmByte (h : Keeps s t) {page : Nat} {tab : Nat} {i : Nat} {v : Nat} : Keeps s (t.setImmByte page tab i v) := by
  unfold State.setImmByte
  exact h.setImm

theorem Keeps.deliver (h : Keeps s t) {page : Nat} {bit : Nat} : Keeps s (t.deliver page bit) := by
  unfold State.deliver
  split
  · exact .ite (fun _ => h.sideEvt) fun _ => h
  · exact .ite (fun _ => h) fun _ => h.sideEvt

theorem Keeps.setPendBit (h : Keeps s t) {page : Nat} {bit : Nat} : Keeps s (t.setPendBit page bit) := by
  unfold State.setPendBit
  exact h.setWbit.cond fun h => h.deliver

theorem Keeps.raise (h : Keeps s t) {e : Evt} : Keeps s (t.raise e) := by
  unfold State.raise
  exact h.setPendBit

theorem Keeps.level (h : Keeps s t) {e : Evt} {b : Bool} : Keeps s (t.level e b) := by
  unfold State.level
  exact h.setWbit.cond fun h => h.raise

theorem Keeps.incRaise (h : Keeps s t) {f : Fld} {e : Evt} : Keeps s (t.incRaise f e) := by
  unfold State.incRaise
  exact h.inc.raise

theorem Keeps.toState (h : Keeps s t) {c : Nat} : Keeps s (t.toState c) := by
  unfold State.toState
  exact .ite (fun _ => h) fun _ => h.wr.raise

theorem Keeps.applySnap (h : Keeps s t) {snap : List (Nat × Word32)} {epoch : Nat} : Keeps s (t.applySnap snap epoch) := by
  unfold State.applySnap
  exact .each (h.regs fun hm => smWf_putAll _ (smWf_keep _ hm)) fun _ _ h => h.setWord

theorem Keeps.applyTables (h : Keeps s t) {epoch : Nat} : Keeps s (t.applyTables epoch) := by
  unfold State.applyTables
  exact h.putTables.each fun _ _ h => h.setWord

theorem Keeps.showTemps (h : Keeps s t) : Keeps s t.showTemps := by
  unfold State.showTemps
  exact .ite (fun _ => h) fun _ => h.wrI.wrI.wr.each fun _ _ h => h.wrI.wrB

theorem Keeps.phcEnd (h : Keeps s t) {result : Nat} : Keeps s (t.phcEnd result) := by
  unfold State.phcEnd
  split
  · exact h
  · exact .showTemps (.wr (.ite (fun _ => h.wr.wr.wr.withFrmPhc.wrI.inc.raise) fun _ => h.wr.wr.wr.withFrmPhc.wrI.inc.raise))

theorem Keeps.modCoil (h : Keeps s t) {p : Nat} {f : CoilSt → CoilSt} : Keeps s (t.modCoil p f) := by
  unfold State.modCoil
  exact h.withCoil

theorem Keeps.setLink (h : Keeps s t) {p : Nat} {v : Nat} : Keeps s (t.setLink p v) := by
  unfold State.setLink
  exact .level (.ite (fun _ => h) fun _ => h.wr.raise)

theorem Keeps.train (h : Keeps s t) {p : Nat} : Keeps s (t.train p) := by
  unfold State.train
  exact h.setLink.fresh.fresh.wr.wr

theorem Keeps.showBudget (h : Keeps s t) : Keeps s t.showBudget := by
  unfold State.showBudget
  exact h.each fun _ _ h => h.wrB

theorem Keeps.showEnds (h : Keeps s t) : Keeps s t.showEnds := by
  unfold State.showEnds
  exact h.cond fun h => h.showBudget.each fun _ _ h => h.wrB.level.wrB

theorem Keeps.showRoles (h : Keeps s t) : Keeps s t.showRoles := by
  unfold State.showRoles
  exact .showEnds (h.each fun _ _ h => h.wr)

theorem Keeps.undeliverable (h : Keeps s t) {p : Nat} : Keeps s (t.undeliverable p) := by
  unfold State.undeliverable
  exact h.incRaise

theorem Keeps.lost (h : Keeps s t) {p : Nat} : Keeps s (t.lost p) := by
  unfold State.lost
  exact .showEnds (h.inc.modCoil.wr.wr.wr.wr.each fun _ _ h => h.undeliverable)

theorem Keeps.switchOff (h : Keeps s t) {p : Nat} : Keeps s (t.switchOff p) := by
  unfold State.switchOff
  exact h.setLink.cond fun h => h.lost

theorem Keeps.setPortState (h : Keeps s t) {p : Nat} {v : Nat} : Keeps s (t.setPortState p v) := by
  unfold State.setPortState
  exact h.wr

theorem Keeps.splitLevel (h : Keeps s t) : Keeps s t.splitLevel := by
  unfold State.splitLevel
  exact h.level

/-- A core reset empties the stores and the queues, but for the MRAM. -/
theorem Keeps.coreReset (h : Keeps s t) {cause : Nat} : Keeps s (t.coreReset cause) := by
  refine h.trans ⟨fun ht => ?_, rfl⟩
  obtain ⟨⟨-, -, -, -, -, hmram, -⟩, -, -⟩ := sound_iff.mp ht
  exact sound_iff.mpr ⟨⟨rfl, rfl, rfl, rfl, rfl, hmram, rfl⟩, ⟨Nat.zero_le _, Nat.zero_le _⟩, List.nodup_nil, nofun⟩

theorem Keeps.xoffCheck (h : Keeps s t) {p : Nat} : Keeps s (t.xoffCheck p) := by
  unfold State.xoffCheck
  exact h.cond fun h => h.wr.inc

theorem Keeps.depart (h : Keeps s t) {o : Output} : Keeps s (t.depart o) := by
  unfold State.depart
  dsimp only
  split
  · exact h.withOut.modCoil
  · exact h.withOut

theorem Keeps.send (h : Keeps s t) {arrival : Option Nat} {o : Output} : Keeps s (t.send arrival o) := by
  unfold State.send
  split
  · exact h.emit
  · exact .ite (fun _ => (by
      dsimp only
      split
      · exact h.modCoil.xoffCheck
      · exact h.modCoil)) fun _ => h.depart

theorem Keeps.drainN {p : Nat} (n : Nat) {t : State} (h : Keeps s t) : Keeps s (State.drainN p n t) := by
  induction n generalizing t with
  | zero => exact h
  | succ n ih =>
    unfold State.drainN
    split
    · exact h
    · exact .ite (fun _ => h) fun _ => ih h.modCoil.depart

theorem Keeps.resetAfterRsp (h : Keeps s t) : Keeps s t.resetAfterRsp := by
  unfold State.resetAfterRsp
  split
  · exact h
  · exact h.cond fun h => h.coreReset

theorem Keeps.drain (h : Keeps s t) {p : Nat} : Keeps s (t.drain p) := (Keeps.drainN _ h).resetAfterRsp

theorem Keeps.dropHeld (h : Keeps s t) {p : Nat} {types : Nat → Bool} : Keeps s (t.dropHeld p types) := by
  unfold State.dropHeld
  exact h.modCoil

theorem Keeps.flushBands (h : Keeps s t) : Keeps s t.flushBands := by
  unfold State.flushBands
  exact h.each fun _ _ h => h.cond fun h => h.modCoil.incBy

theorem Keeps.sendRelinquish (h : Keeps s t) {copy : Nat} : Keeps s (t.sendRelinquish copy) := by
  unfold State.sendRelinquish
  exact h.each fun _ _ h => h.cond fun h => h.send

theorem Keeps.stopTraffic (h : Keeps s t) : Keeps s t.stopTraffic := by
  unfold State.stopTraffic
  exact h.each fun _ _ h => h.dropHeld

theorem Keeps.ground (h : Keeps s t) {g : Nat} : Keeps s (t.ground g) := by
  unfold State.ground
  exact .ite (fun _ => h) fun _ => .ite (fun _ => h) fun _ => .ite (fun _ => h.inc) fun _ => h.inc.wr.wr.wr.raise.withRed.stopTraffic.sendRelinquish

theorem Keeps.unelect (h : Keeps s t) : Keeps s t.unelect := by
  unfold State.unelect
  exact h.withClkRed.showRoles

theorem Keeps.sendFeedreq (h : Keeps s t) {cause : Nat} : Keeps s (t.sendFeedreq cause) := by
  unfold State.sendFeedreq
  exact h.cond fun h => h.send.inc

theorem Keeps.seekFeed (h : Keeps s t) {cause : Nat} : Keeps s (t.seekFeed cause) := by
  unfold State.seekFeed
  exact h.withRed.sendFeedreq

theorem Keeps.enterFailover (h : Keeps s t) {cause : Nat} : Keeps s (t.enterFailover cause) := by
  unfold State.enterFailover
  exact .ite (fun _ => h) fun _ => .ite (fun _ => h.cond fun h => h.seekFeed) fun _ => h.phcEnd.wr.wr.inc.raise.withRed.seekFeed

theorem Keeps.alongPair (h : Keeps s t) {port : Nat} {h₀ : Header} {f : Nat → Header → Output} : Keeps s (t.alongPair port h₀ f) := by
  unfold State.alongPair
  exact .ite (fun _ => h.inc) fun _ => h.send

theorem Keeps.relinquishReceive (h : Keeps s t) {port : Nat} {h₀ : Header} {crcOk : Bool} {epoch : Nat} {grounds : Nat} {copy : Nat} : Keeps s
    (relinquishReceiveFx port h₀ crcOk epoch grounds copy t) := by
  unfold relinquishReceiveFx
  exact .cond (h.cond fun h => h.enterFailover) fun h => h.alongPair

theorem Keeps.feedreqReceive (h : Keeps s t) {port : Nat} {h₀ : Header} {crcOk : Bool} {epoch : Nat} {cause : Nat} : Keeps s
    (feedreqReceiveFx port h₀ crcOk epoch cause t) := by
  unfold feedreqReceiveFx
  exact .ite (fun _ => h.undeliverable) fun _ => .ite (fun _ => .alongPair (h.cond fun h => h.enterFailover)) fun _ =>
      .undeliverable (h.cond fun h => h.enterFailover)

theorem Keeps.serveNode (h : Keeps s t) {port : Nat} {node : Nat} : Keeps s (t.serveNode port node) := by
  unfold State.serveNode
  exact .ite (fun _ => h) fun _ => h.withRed

theorem Keeps.senderFeedreq (h : Keeps s t) {port : Nat} {node : Nat} {cause : Nat} : Keeps s (senderFeedreqFx port node cause t) := by
  unfold senderFeedreqFx
  exact .ite (fun _ => h.wr.wr.wr.inc.raise.incRaise) fun _ => .ite (fun _ => h.wr.wr.wr.inc.raise) fun _ =>
      .serveNode (h.wr.wr.wr.inc.raise.cond fun h => h.setPortState.modCoil.splitLevel)

theorem Keeps.loopLevels (h : Keeps s t) : Keeps s t.loopLevels := by
  unfold State.loopLevels
  exact h.level.level

theorem Keeps.unwatch (h : Keeps s t) : Keeps s t.unwatch := by
  unfold State.unwatch
  exact h.withRed.wr.wr

theorem Keeps.modCh (h : Keeps s t) {c : Nat} {f : ChSt → ChSt} : Keeps s (t.modCh c f) := by
  unfold State.modCh
  exact h.sideDrm

theorem Keeps.useLine (h : Keeps s t) {c : Nat} {line : Nat} {write : Bool} : Keeps s (t.useLine c line write) := by
  unfold State.useLine
  exact h.modCh

theorem Keeps.issueWrite (h : Keeps s t) {c : Nat} {line : Nat} : Keeps s (t.issueWrite c line) := by
  unfold State.issueWrite
  exact h.modCh.useLine

theorem Keeps.queueWrite (h : Keeps s t) {c : Nat} {line : Nat} {mask : Nat} : Keeps s (t.queueWrite c line mask) := by
  unfold State.queueWrite
  exact .ite (fun _ => h.modCh) fun _ => .modCh (by
    split
    · exact h
    · exact h.cond fun h => h.issueWrite)

theorem Keeps.oor (h : Keeps s t) : Keeps s t.oor := by
  unfold State.oor
  exact h.incRaise

theorem Keeps.ueRate (h : Keeps s t) : Keeps s t.ueRate := by
  unfold State.ueRate
  exact h.level.cond fun h => h.ground

theorem Keeps.showUe (h : Keeps s t) {c : Nat} : Keeps s (t.showUe c) := by
  unfold State.showUe
  exact h.wr

theorem Keeps.ueRead (h : Keeps s t) {c : Nat} {a : Nat} : Keeps s (t.ueRead c a) := by
  unfold State.ueRead
  exact h.incRaise.wr.modCh.showUe.ueRate

theorem Keeps.noteErrs (h : Keeps s t) {errs : List ( Nat × Nat )} {line : Nat} : Keeps s (t.noteErrs errs line) := by
  unfold State.noteErrs
  exact h.sideDrm

theorem Keeps.cleanWords (h : Keeps s t) {ws : List Nat} : Keeps s (t.cleanWords ws) := by
  unfold State.cleanWords
  exact h.sideDrm

theorem Keeps.checkLine (h : Keeps s t) {c line : Nat} : Keeps s (t.checkLine c line).1 := by
  have hce (b : Bool) (n : Nat) : Keeps s (t.cond b (fun s => (s.incBy (R.DRM.CNT_CE c) n).raise (R.DRM.ev_CE c))) := h.cond fun h => h.incBy.raise
  unfold State.checkLine
  dsimp only
  split
  · exact (hce _ _).ueRead
  · exact hce _ _

theorem Keeps.writePart (h : Keeps s t) {p : Nat × Nat × Nat} : Keeps s (t.writePart p) := by
  unfold State.writePart
  refine .ite (fun _ => h) fun _ => .ite (fun _ => h.queueWrite.cleanWords) fun _ => ?_
  exact h.queueWrite.inc.useLine.checkLine.cleanWords.cond fun h => h.other

theorem Keeps.storePart (h : Keeps s t) {off : Nat} {data : List Byte} {p : Nat × Nat × Nat} : Keeps s (t.storePart off data p) := by
  unfold State.storePart
  exact .ite (fun _ => h) fun _ => h.drm fun hm => smWf_setMany _ _ hm

theorem Keeps.dramStore (h : Keeps s t) {off : Nat} {data : List Byte} : Keeps s (t.dramStore off data) := by
  unfold State.dramStore
  exact .ite (fun _ => h) fun _ => .ite (fun _ => h.oor) fun _ => h.each fun _ _ h => h.storePart.writePart

theorem Keeps.readPart (h : Keeps s t) {errs : List (Nat × Nat)} {p : Nat × Nat × Nat} : Keeps s (t.readPart errs p).1 := by
  unfold State.readPart
  dsimp only
  split
  · exact h.ueRead
  · split
    · split
      · exact h.inc (f := R.DRM.CNT_FWD _)
      · exact h.issueWrite.useLine.noteErrs.checkLine
    · exact h.useLine.noteErrs.checkLine

theorem Keeps.readParts {errs : List (Nat × Nat)} {ps : List (Nat × Nat × Nat)} {t : State} (h : Keeps s t) : Keeps s (t.readParts errs ps).1 := by
  induction ps generalizing t with
  | nil => exact h
  | cons p ps ih => exact ih h.readPart

theorem Keeps.dramRead (h : Keeps s t) {a n : Nat} : Keeps s (t.dramRead a n).2.2 := by
  unfold State.dramRead
  split
  · exact h
  · split
    · exact h.oor
    · exact h.readParts

theorem Keeps.stream (h : Keeps s t) {a : Nat} {n : Nat} : Keeps s (t.stream a n) := by
  unfold State.stream
  exact .each (h.each fun _ _ h => h.each fun _ _ h => .ite (fun _ => h.inc) fun _ => h.issueWrite) fun _ _ h => h.useLine

theorem Keeps.readUe (h : Keeps s t) {a : Nat} {n : Nat} : Keeps s (t.readUe a n) := by
  unfold State.readUe
  exact .ite (fun _ => h) fun _ => .ite (fun _ => h.oor) fun _ => .each (h.stream.each fun _ _ h => h.incRaise) fun _ _ h => h.ueRead

theorem Keeps.hostReadNow (h : Keeps s t) {r : HostRead} : Keeps s (t.hostReadNow r) := by
  unfold State.hostReadNow
  exact h.readParts.emit

theorem Keeps.serveReads {rs : List HostRead} {t : State} (h : Keeps s t) : Keeps s (State.serveReads rs t) := by
  induction rs generalizing t with
  | nil => exact h
  | cons r rs ih =>
    unfold State.serveReads
    exact .ite (fun _ => h) fun _ => ih h.other.hostReadNow

theorem Keeps.bar4Read (h : Keeps s t) {off : Nat} {len : Nat} {errs : List ( Nat × Nat )} : Keeps s (bar4ReadFx off len errs t) := by
  unfold bar4ReadFx
  exact .ite (fun _ => h.emit) fun _ => .ite (fun _ => h.oor.emit) fun _ => .ite (fun _ => h.sideDrm) fun _ => h.hostReadNow

theorem Keeps.closeRank (h : Keeps s t) {c : Nat} {rank : Nat} : Keeps s (t.closeRank c rank) := by
  unfold State.closeRank
  exact h.modCh

theorem Keeps.showOwed (h : Keeps s t) {c : Nat} : Keeps s (t.showOwed c) := by
  unfold State.showOwed
  exact h.wr

theorem Keeps.setOwed (h : Keeps s t) {c : Nat} {rank : Nat} {n : Nat} : Keeps s (t.setOwed c rank n) := by
  unfold State.setOwed
  exact h.modCh

theorem Keeps.forceRefresh (h : Keeps s t) {c : Nat} {rank : Nat} : Keeps s (t.forceRefresh c rank) := by
  unfold State.forceRefresh
  exact h.closeRank.inc

theorem Keeps.pullIn (h : Keeps s t) {c : Nat} {rank : Nat} : Keeps s (t.pullIn c rank) := by
  unfold State.pullIn
  exact h.fresh.modCh

theorem Keeps.refresh (h : Keeps s t) {c : Nat} {rank : Nat} {hits : Bool} : Keeps s (refreshFx c rank hits t) := by
  unfold refreshFx
  exact .ite (fun _ => h.modCh) fun _ => .ite (fun _ => .ite (fun _ => h.modCh) fun _ => h.forceRefresh) fun _ => .ite (fun _ =>
      h.setOwed.showOwed) fun _ => h.closeRank.setOwed.showOwed.cond fun h => h.pullIn

theorem Keeps.enterChange (h : Keeps s t) {c : Nat} : Keeps s (t.enterChange c) := by
  unfold State.enterChange
  exact h.wr.wr.wr.modCh

theorem Keeps.replay (h : Keeps s t) {c : Nat} : Keeps s (t.replay c) := by
  unfold State.replay
  exact h.each fun _ _ h => h.modCh

theorem Keeps.afterReplay (h : Keeps s t) {c : Nat} : Keeps s (t.afterReplay c) := by
  unfold State.afterReplay
  exact .serveReads (.cond (.modCh (h.each fun _ _ h => h.forceRefresh)) fun h => h.enterChange)

theorem Keeps.alertReturn (h : Keeps s t) {c : Nat} {again : Bool} : Keeps s (alertReturnFx c again t) := by
  unfold alertReturnFx
  exact .ite (fun _ => h.inc.modCh.replay.modCh.cond fun h => h.wr.level.afterReplay) fun _ => h.inc.modCh.replay.modCh.afterReplay

theorem Keeps.scrubNext (h : Keeps s t) {c : Nat} : Keeps s (t.scrubNext c) := by
  unfold State.scrubNext
  exact .ite (fun _ => h.modCh) fun _ => h.modCh.level

theorem Keeps.scrubRead (h : Keeps s t) {c line err : Nat} : Keeps s (t.scrubRead c line err) := by
  unfold State.scrubRead
  exact h.fresh.useLine.noteErrs.checkLine.cond fun h => h.cleanWords.useLine.inc

theorem Keeps.scrubLine (h : Keeps s t) {c : Nat} {err : Nat} : Keeps s (scrubLineFx c err t) := by
  unfold scrubLineFx
  exact .scrubNext (.ite (fun _ => h) fun _ => .ite (fun _ => h.ueRead) fun _ => h.scrubRead)

theorem Keeps.scrubNow (h : Keeps s t) {c : Nat} : Keeps s (scrubNowFx c t) := by
  unfold scrubNowFx
  exact h.modCh

theorem Keeps.showScrubLate (h : Keeps s t) {c : Nat} : Keeps s (t.showScrubLate c) := by
  unfold State.showScrubLate
  exact h.level

theorem Keeps.dramApplied (h : Keeps s t) : Keeps s t.dramApplied := by
  unfold State.dramApplied
  exact .ueRate (h.each fun _ _ h => h.showScrubLate)

theorem Keeps.showBw (h : Keeps s t) {c : Nat} : Keeps s (t.showBw c) := by
  unfold State.showBw
  exact h.fresh.wr

theorem Keeps.freqGo (h : Keeps s t) {c : Nat} {v : Word32} : Keeps s (freqGoFx c v t) := by
  unfold freqGoFx
  exact .ite (fun _ => h.wr.sideDrm.each fun _ _ h => h.enterChange) fun _ => h.wr

theorem Keeps.trainSet (h : Keeps s t) {c : Nat} {set : Nat} : Keeps s (t.trainSet c set) := by
  unfold State.trainSet
  exact .ite (fun _ => h) fun _ => h.each fun _ _ h => h.fresh.setImm

theorem Keeps.freqDone (h : Keeps s t) : Keeps s (freqDoneFx t) := by
  unfold freqDoneFx
  exact .serveReads (h.each fun _ _ h => .ite (fun _ => h.wr.wr.wr) fun _ => h.wr.wr.wr.trainSet.wr.raise)

theorem Keeps.dramInit (h : Keeps s t) {trained : Bool} : Keeps s (t.dramInit trained) := by
  unfold State.dramInit
  exact h.sideDrm.each fun _ _ h => h.wrB.wr.modCh.cond fun h => h.trainSet

theorem Keeps.storeBlocks (h : Keeps s t) {base : Nat} {w : Nat} {h₀ : Nat} {count : Nat} {rows : List ( List Pixel )} : Keeps s
    (t.storeBlocks base w h₀ count rows) := by
  unfold State.storeBlocks
  exact h.each fun _ _ h => h.dramStore

theorem Keeps.storeSurface (h : Keeps s t) {base : Nat} {w : Nat} {h₀ : Nat} {rows : List ( List Pixel )} : Keeps s
    (t.storeSurface base w h₀ rows) := by
  unfold State.storeSurface
  exact h.storeBlocks

theorem Keeps.freshRow (h : Keeps s t) {w : Nat} : Keeps s (t.freshRow w).2 := by
  unfold State.freshRow
  exact h.fresh

theorem Keeps.convert (h : Keeps s t) {c : Conv} {scan w height : Nat} {p : Picture} : Keeps s (t.convert c scan w height p).2 := by
  unfold State.convert
  exact h.freshRow (w := w)

theorem Keeps.modLayer (h : Keeps s t) {n : Nat} {f : LayerSt → LayerSt} : Keeps s (t.modLayer n f) := by
  unfold State.modLayer
  exact h.withLyr

theorem Keeps.setLease (h : Keeps s t) {n : Nat} {b : Option Nat} : Keeps s (t.setLease n b) := by
  unfold State.setLease
  exact h.wr.wrB

theorem Keeps.showFence (h : Keeps s t) {n : Nat} : Keeps s (t.showFence n) := by
  unfold State.showFence
  exact .each (by
    split
    · exact h.wr.wr
    · exact h.wr.wr) fun _ _ h => h.wr

theorem Keeps.signalHost (h : Keeps s t) {n : Nat} {b : Nat} {t₀ : Nat} : Keeps s (t.signalHost n b t₀) := by
  unfold State.signalHost
  exact h.modLayer.showFence

theorem Keeps.signal (h : Keeps s t) {n : Nat} {b : Nat} {t₀ : Nat} : Keeps s (t.signal n b t₀) := by
  unfold State.signal
  exact h.modLayer.showFence

theorem Keeps.signalStream (h : Keeps s t) {src : Nat} {idx : Nat} {t₀ : Nat} : Keeps s (t.signalStream src idx t₀) := by
  unfold State.signalStream
  exact h.withStr.each fun _ _ h => h.signal

theorem Keeps.layerReady (h : Keeps s t) {n : Nat} {v : Word32} : Keeps s (layerReadyFx n v t) := by
  unfold layerReadyFx
  exact h.cond fun h => h.signalHost

theorem Keeps.freed (h : Keeps s t) {n : Nat} {bs : List Nat} : Keeps s (t.freed n bs) := by
  have hpick (b : Prop) [Decidable b] : Keeps s (if b then (0, t) else t.fresh).2 := by
    split
    · exact h
    · exact h.fresh
  unfold State.freed
  split
  · exact h
  · exact (hpick _).wr.raise

theorem Keeps.sourceChanged (h : Keeps s t) {old : State} {n : Nat} : Keeps s (t.sourceChanged old n) := by
  unfold State.sourceChanged
  exact .ite (fun _ => h) fun _ => h.freed.setLease.wr.modLayer.showFence

theorem Keeps.latchBuffer (h : Keeps s t) {n : Nat} {b : Nat} {epoch : Nat} {superseded : List Nat} : Keeps s
    (t.latchBuffer n b epoch superseded) := by
  unfold State.latchBuffer
  exact .cond (.cond (.wrB (.wrB (.wr (.modLayer (.inc (.wr (.setLease (h.cond fun h => h.freed)))))))) fun h => h.incRaise) fun h => h.incRaise

theorem Keeps.notReady (h : Keeps s t) {n : Nat} : Keeps s (t.notReady n) := by
  unfold State.notReady
  exact h.incRaise.wr.modLayer.wrB.wrB

theorem Keeps.latchLayer (h : Keeps s t) {n : Nat} {epoch : Nat} {t₀ : Nat} : Keeps s (t.latchLayer n epoch t₀) := by
  unfold State.latchLayer
  exact .ite (fun _ => .showFence (by
    split
    · exact h.modLayer.notReady
    · exact h.modLayer.latchBuffer)) fun _ => h.modLayer.wr.wr.wr.showFence

theorem Keeps.latchLayers (h : Keeps s t) {old : State} {epoch : Nat} {t₀ : Nat} : Keeps s (t.latchLayers old epoch t₀) := by
  unfold State.latchLayers
  exact h.each fun _ _ h => h.sourceChanged.latchLayer

theorem Keeps.suspect (h : Keeps s t) {n : Nat} : Keeps s (t.suspect n) := by
  unfold State.suspect
  exact h.cond fun h => h.wr.incRaise

theorem Keeps.violate (h : Keeps s t) {off len : Nat} : Keeps s (t.violate off len).1 := by
  unfold State.violate
  dsimp only
  split
  · exact h
  · exact .each (h.incRaise.wr.wr.wr.each fun _ _ h => h.modLayer) fun _ _ h => h.suspect

theorem Keeps.sendImage (h : Keeps s t) {p : Nat} {img : Image} : Keeps s (t.sendImage p img) := by
  unfold State.sendImage
  exact h.each fun _ _ h => h.send

theorem Keeps.bootRepeat (h : Keeps s t) {p : Nat} : Keeps s (t.bootRepeat p) := by
  unfold State.bootRepeat
  exact h.cond fun h => h.each fun _ _ h => h.sendImage

theorem Keeps.bringUp (h : Keeps s t) {p : Nat} : Keeps s (t.bringUp p) := by
  unfold State.bringUp
  exact h.fresh.wr.setLink.wr.wr.wr.wr.modCoil.showEnds

theorem Keeps.leaveUp (h : Keeps s t) {p : Nat} : Keeps s (t.leaveUp p) := by
  unfold State.leaveUp
  exact .resetAfterRsp (h.train.lost.cond fun h => .ite (fun _ => h.enterFailover) fun _ => h.unelect)

theorem Keeps.linkUp (h : Keeps s t) {port : Nat} : Keeps s (linkUpFx port t) := by
  unfold linkUpFx
  exact .ite (fun _ => h.cond fun h => h.bringUp.bootRepeat) fun _ => .ite (fun _ => h.withAon) fun _ => h

theorem Keeps.linkLoss (h : Keeps s t) {port : Nat} : Keeps s (linkLossFx port t) := by
  unfold linkLossFx
  exact .ite (fun _ => h.cond fun h => h.leaveUp) fun _ => h.withAon

theorem Keeps.codeword (h : Keeps s t) {port : Nat} {next : Bool} : Keeps s (codewordFx port next t) := by
  unfold codewordFx
  exact h.incRaise.modCoil.cond fun h => h.leaveUp.modCoil

theorem Keeps.retrain (h : Keeps s t) {port : Nat} : Keeps s (retrainFx port t) := by
  unfold retrainFx
  exact .ite (fun _ => h.leaveUp) fun _ => h.cond fun h => h.train

theorem Keeps.showTest (h : Keeps s t) {p : Nat} : Keeps s (t.showTest p) := by
  unfold State.showTest
  exact .ite (fun _ => h.wrB.leaveUp) fun _ => h.wrB.cond fun h => h.train

theorem Keeps.loopback (h : Keeps s t) {port : Nat} {v : Word32} : Keeps s (loopbackFx port v t) := by
  unfold loopbackFx
  exact .ite (fun _ => h) fun _ => h.wr.modCoil.showTest

theorem Keeps.prbsGen (h : Keeps s t) {port : Nat} {on : Bool} : Keeps s (prbsGenFx port on t) := by
  unfold prbsGenFx
  exact h.wrB.showTest

theorem Keeps.prbsChk (h : Keeps s t) {port : Nat} {on : Bool} {lock : Bool} {errs : Nat} : Keeps s (prbsChkFx port on lock errs t) := by
  unfold prbsChkFx
  exact h.wrB.showTest.wrB.cond fun h => h.incBy.raise

theorem Keeps.partner (h : Keeps s t) {p : Nat} {b : LinkBeacon} : Keeps s (t.partner p b) := by
  unfold State.partner
  exact h.wr.wr.wr.wr

theorem Keeps.linkBeaconRequest (h : Keeps s t) {port : Nat} {b : LinkBeacon} : Keeps s (linkBeaconRequestFx port b t) := by
  unfold linkBeaconRequestFx
  exact .cond (h.fresh.send.cond fun h => h.partner.showEnds.drain) fun h => h.wr.modCoil.showTest

theorem Keeps.newTransit (h : Keeps s t) {p : Nat} : Keeps s (t.newTransit p) := by
  unfold State.newTransit
  exact h.fresh.modCoil

theorem Keeps.followTransit (h : Keeps s t) {p : Nat} : Keeps s (t.followTransit p) := by
  unfold State.followTransit
  exact h.cond fun h => h.newTransit

theorem Keeps.linkBeaconReply (h : Keeps s t) {port : Nat} {b : LinkBeacon} : Keeps s (linkBeaconReplyFx port b t) := by
  unfold linkBeaconReplyFx
  exact .ite (fun _ => h) fun _ => h.modCoil.wrI.partner.followTransit.showEnds.drain.cond fun h => h.showTest

theorem Keeps.mgmtReqReceive (h : Keeps s t) {port : Nat} {r : MgmtReq} : Keeps s (mgmtReqReceiveFx port r t) := by
  unfold mgmtReqReceiveFx
  exact .ite (fun _ => h.withMgmt) fun _ => h.modCoil.xoffCheck

theorem Keeps.aonRail (h : Keeps s t) : Keeps s (aonRailFx t) := by
  unfold aonRailFx
  exact h.strapHigh.withAon

theorem Keeps.moveBase (h : Keeps s t) {d : Int} : Keeps s (t.moveBase d) := by
  unfold State.moveBase
  exact h.withClk.wr.wr.raise

theorem Keeps.stepBase (h : Keeps s t) {ns : Int} : Keeps s (t.stepBase ns) := by
  unfold State.stepBase
  exact h.moveBase

theorem Keeps.planFirst (h : Keeps s t) : Keeps s t.planFirst := by
  unfold State.planFirst
  exact .ite (fun _ => h) fun _ => h.withFrm

theorem Keeps.planJump (h : Keeps s t) {plain : State} (hp : Keeps s plain) : Keeps s (t.planJump plain) := by
  unfold State.planJump
  split
  · exact .ite (fun _ => h.other) fun _ => hp
  · exact hp

theorem Keeps.planNext (h : Keeps s t) : Keeps s t.planNext := by
  unfold State.planNext
  dsimp only
  split
  · exact .ite (fun _ => h.planJump h.other) fun _ => h.other
  · exact h.planJump h.other

theorem Keeps.setLoop (h : Keeps s t) {n : Nat} {l : LoopSt} : Keeps s (t.setLoop n l) := by
  unfold State.setLoop
  exact h.withClk

theorem Keeps.showLoop (h : Keeps s t) {n : Nat} {lo : Int} {hi : Int} : Keeps s (t.showLoop n lo hi) := by
  unfold State.showLoop
  exact h.wrI.wrI.wr.level

theorem Keeps.loopRun (h : Keeps s t) {n : Nat} {c : LoopCoef} {x : Int} {f : Int} {m : Option Int} : Keeps s (t.loopRun n c x f m) := by
  unfold State.loopRun
  exact h.setLoop.showLoop

theorem Keeps.histPush (h : Keeps s t) : Keeps s t.histPush := by
  unfold State.histPush
  split
  · exact h
  · exact h.withClk

theorem Keeps.setLock (h : Keeps s t) {c : Nat} : Keeps s (t.setLock c) := by
  unfold State.setLock
  exact .ite (fun _ => h) fun _ => .cond (.level (.raise (.wr (h.histPush.withClk.cond fun h => h.wr.withClk)))) fun h => h.setLoop

theorem Keeps.enterHoldover (h : Keeps s t) : Keeps s t.enterHoldover := by
  unfold State.enterHoldover
  exact .ite (fun _ => h) fun _ => h.setLock.wrI.wr.inc.withClk.cond fun h => h.setLoop

theorem Keeps.lockSample (h : Keeps s t) {err : Int} : Keeps s (t.lockSample err) := by
  unfold State.lockSample
  exact h.histPush.wrI.loopRun

theorem Keeps.loopInner (h : Keeps s t) : Keeps s (loopInnerFx t) := by
  unfold loopInnerFx
  exact h.setLoop.wrI.showLoop

theorem Keeps.closeLoop (h : Keeps s t) {n : Nat} : Keeps s (t.closeLoop n) := by
  unfold State.closeLoop
  exact .ite (fun _ => h) fun _ => h.setLoop

theorem Keeps.lockClosed (h : Keeps s t) : Keeps s t.lockClosed := by
  unfold State.lockClosed
  exact .ite (fun _ => h) fun _ => .ite (fun _ => h.setLock) fun _ => .ite (fun _ => h.setLock) fun _ => h

theorem Keeps.loopOpenWrite (h : Keeps s t) {v : Word32} : Keeps s (loopOpenWriteFx v t) := by
  unfold loopOpenWriteFx
  exact .each (.ite (fun _ => .enterHoldover (h.each fun _ _ h => .ite (fun _ => h.wr) fun _ => .ite (fun _ => h) fun _ => .ite (fun _ =>
      h.incRaise) fun _ => h.wr)) fun _ => .lockClosed (h.each fun _ _ h => .ite (fun _ => h.wr) fun _ => .ite (fun _ => h) fun _ => .ite (fun _ =>
      h.incRaise) fun _ => h.wr)) fun _ _ h => h.closeLoop

theorem Keeps.modSrc (h : Keeps s t) {c : Nat} {f : SrcSt → SrcSt} : Keeps s (t.modSrc c f) := by
  unfold State.modSrc
  exact h.withClk

theorem Keeps.setActive (h : Keeps s t) {c : Nat} : Keeps s (t.setActive c) := by
  unfold State.setActive
  exact h.wr.wrB.wrB

theorem Keeps.relock (h : Keeps s t) {ptp : Bool} {d : Int} {tErr : Int} : Keeps s (t.relock ptp d tErr) := by
  unfold State.relock
  exact .ite (fun _ => h.incRaise.withClk.withFrm.setLock) fun _ => h.incRaise.withClk.setLock

theorem Keeps.placeOn (h : Keeps s t) {c : Nat} {edge : Int} {tErr : Int} : Keeps s (t.placeOn c edge tErr) := by
  unfold State.placeOn
  exact .planFirst (.withClkFrm (h.cond fun h => h.moveBase))

theorem Keeps.takeSource (h : Keeps s t) {c : Nat} {base : Int} : Keeps s (t.takeSource c base) := by
  unfold State.takeSource
  exact .ite (fun _ => .setLock (.placeOn (.withClk (h.cond fun h => h.setActive.incRaise)))) fun _ => .ite (fun _ =>
      .setLock (.withClk (h.cond fun h => h.setActive.incRaise))) fun _ => .relock (.withClk (h.cond fun h => h.setActive.incRaise))

theorem Keeps.seekSource (h : Keeps s t) : Keeps s t.seekSource := by
  unfold State.seekSource
  exact .ite (fun _ => .ite (fun _ => h.withClk.enterHoldover) fun _ => h.withClk) fun _ => h.withClk

theorem Keeps.showQualified (h : Keeps s t) {c : Nat} : Keeps s (t.showQualified c) := by
  unfold State.showQualified
  exact h.wr.cond fun h => h.wrB

theorem Keeps.qualify (h : Keeps s t) {c : Nat} : Keeps s (t.qualify c) := by
  unfold State.qualify
  exact .ite (fun _ => h) fun _ => h.modSrc.showQualified.raise.cond fun h => h.withClk

theorem Keeps.loseSource (h : Keeps s t) {c : Nat} : Keeps s (t.loseSource c) := by
  unfold State.loseSource
  exact .ite (fun _ => .seekSource (.setActive (h.modSrc.showQualified.wr.cond fun h => h.raise))) fun _ => .ite (fun _ =>
      .seekSource (h.modSrc.showQualified.wr.cond fun h => h.raise)) fun _ => h.modSrc.showQualified.wr.cond fun h => h.raise

theorem Keeps.usableNow (h : Keeps s t) {c : Nat} : Keeps s (t.usableNow c) := by
  unfold State.usableNow
  exact h.modSrc.cond fun h => h.qualify

theorem Keeps.showOffset (h : Keeps s t) {c : Nat} {e : Int} : Keeps s (t.showOffset c e) := by
  unfold State.showOffset
  exact h.wrI

theorem Keeps.displaced (h : Keeps s t) {c : Nat} {err : Int} {d : Int} {tErr : Int} : Keeps s (t.displaced c err d tErr) := by
  unfold State.displaced
  exact .ite (fun _ => .ite (fun _ => h.inc.raise.inc) fun _ => .ite (fun _ => h.inc.raise.inc) fun _ => h.inc.raise.inc.raise) fun _ =>
      .ite (fun _ => .withClk (.ite (fun _ => h.inc.raise.inc) fun _ => .ite (fun _ => h.inc.raise.inc) fun _ => h.inc.raise.inc.raise)) fun _ =>
      .relock (.ite (fun _ => h.inc.raise.inc) fun _ => .ite (fun _ => h.inc.raise.inc) fun _ => h.inc.raise.inc.raise)

theorem Keeps.lockOn (h : Keeps s t) {err : Int} {x : Int} : Keeps s (t.lockOn err x) := by
  unfold State.lockOn
  exact .ite (fun _ => h.withClk.lockSample.setLock) fun _ => .ite (fun _ => h.withClk.lockSample.setLock) fun _ => h.withClk.lockSample

theorem Keeps.measure (h : Keeps s t) {c : Nat} {err : Int} {x : Int} {off : Bool} : Keeps s (t.measure c err x off) := by
  unfold State.measure
  exact .ite (fun _ => .ite (fun _ => .ite (fun _ => h.showOffset) fun _ => h.showOffset.displaced) fun _ => h.showOffset.lockOn) fun _ =>
      .ite (fun _ => h.showOffset.takeSource) fun _ => h.showOffset

theorem Keeps.rateLevel (h : Keeps s t) : Keeps s t.rateLevel := by
  unfold State.rateLevel
  exact h.level.level.level

theorem Keeps.refOff (h : Keeps s t) {i : Nat} {iv : Nat} : Keeps s (t.refOff i iv) := by
  unfold State.refOff
  exact .ite (fun _ => h.modSrc) fun _ => (by
    split
    · exact .ite (fun _ => h.modSrc.wr.raise.modSrc) fun _ => h.modSrc.modSrc.loseSource.rateLevel
    · exact h.modSrc.modSrc.loseSource.rateLevel)

theorem Keeps.refEdge (h : Keeps s t) {i : Nat} : Keeps s (refEdgeFx i t) := by
  unfold refEdgeFx
  dsimp only
  split
  · exact h.modSrc
  · exact .ite (fun _ => .ite (fun _ => .modSrc (h.modSrc.wr.cond fun h => h.wr)) fun _ => .refOff (h.modSrc.wr.cond fun h => h.wr)) fun _ =>
        .cond (.ite (fun _ => .usableNow (.wrI (.modSrc (.ite (fun _ => .modSrc (h.modSrc.wr.cond fun h => h.wr)) fun _ =>
        .refOff (h.modSrc.wr.cond fun h => h.wr))))) fun _ => .modSrc (.wrI (.modSrc (.ite (fun _ => .modSrc (h.modSrc.wr.cond fun h =>
        h.wr)) fun _ => .refOff (h.modSrc.wr.cond fun h => h.wr))))) fun h => h.measure

theorem Keeps.refLoss (h : Keeps s t) {i : Nat} : Keeps s (refLossFx i t) := by
  unfold refLossFx
  exact h.wr.incRaise.modSrc.loseSource

theorem Keeps.requestBase (h : Keeps s t) {target : Nat} : Keeps s (t.requestBase target) := by
  unfold State.requestBase
  exact .ite (fun _ => h.withClk.withClk) fun _ => .planFirst (h.withClk.moveBase.cond fun h => h.withFrm)

theorem Keeps.timeSetGo (h : Keeps s t) : Keeps s (timeSetGoFx t) := by
  unfold timeSetGoFx
  exact .ite (fun _ => h.wr) fun _ => h.wr.requestBase

theorem Keeps.ppsLoad (h : Keeps s t) : Keeps s (ppsLoadFx t) := by
  unfold ppsLoadFx
  exact .ite (fun _ => h.wr) fun _ => h.withClk.wr

theorem Keeps.ppsEdge (h : Keeps s t) : Keeps s (ppsEdgeFx t) := by
  unfold ppsEdgeFx
  exact h.wrI.wr.cond fun h => h.requestBase

theorem Keeps.modPtp (h : Keeps s t) {i : Nat} {f : PtpSt → PtpSt} : Keeps s (t.modPtp i f) := by
  unfold State.modPtp
  exact h.withClk

theorem Keeps.setPort (h : Keeps s t) {i : Nat} {v : Nat} : Keeps s (t.setPort i v) := by
  unfold State.setPort
  exact .ite (fun _ => h) fun _ => h.wr.raise

theorem Keeps.ptpLost (h : Keeps s t) {i : Nat} {st : Nat} : Keeps s (t.ptpLost i st) := by
  unfold State.ptpLost
  exact .loseSource (h.setPort.cond fun h => h.incRaise)

theorem Keeps.showGm (h : Keeps s t) {i : Nat} {a : Announce} : Keeps s (t.showGm i a) := by
  unfold State.showGm
  exact .wr (.wr (.wr (.wr (.wr (.wr (h.cond fun h => h.raise))))))

theorem Keeps.storeTlv (h : Keeps s t) {i : Nat} {tlv : List Byte} : Keeps s (t.storeTlv i tlv) := by
  unfold State.storeTlv
  exact .ite (fun _ => h) fun _ => h.imm fun hm => smWf_setMany _ _ hm

theorem Keeps.ptpAnnounce (h : Keeps s t) {i : Nat} {a : Announce} : Keeps s (ptpAnnounceFx i a t) := by
  unfold ptpAnnounceFx
  dsimp only
  split
  · exact h.storeTlv.modPtp
  · exact .ite (fun _ => h.storeTlv.modPtp.showGm.ptpLost) fun _ => h.storeTlv.modPtp.showGm.cond fun h => h.setPort

theorem Keeps.ptpFilter (h : Keeps s t) {i : Nat} {x : Int} : Keeps s (t.ptpFilter i x) := by
  unfold State.ptpFilter
  exact h.setLoop.wrI.wrI.wrI

theorem Keeps.sendDelayReq (h : Keeps s t) {i : Nat} : Keeps s (t.sendDelayReq i) := by
  unfold State.sendDelayReq
  exact h.emit

theorem Keeps.ptpSync (h : Keeps s t) {i : Nat} {raw : Int} {pathDelay : Nat} : Keeps s (ptpSyncFx i raw pathDelay t) := by
  unfold ptpSyncFx
  exact .measure (h.setPort.inc.wr.sendDelayReq.modSrc.usableNow.cond fun h => h.ptpFilter)

theorem Keeps.reselect (h : Keeps s t) : Keeps s t.reselect := by
  unfold State.reselect
  split
  · exact h.cond fun h => h.seekSource
  · exact h.takeSource

theorem Keeps.freeRun (h : Keeps s t) : Keeps s t.freeRun := by
  unfold State.freeRun
  extract_lets +onlyGivenNames _ u v
  have hv : Keeps s v := h.withClk.setActive.setLock
  clear_value v
  exact .ite (fun _ => hv) fun _ => hv.withClkFrm.planFirst

theorem Keeps.movePlace (h : Keeps s t) {old : State} : Keeps s (t.movePlace old) := by
  unfold State.movePlace
  exact .ite (fun _ => h) fun _ => .ite (fun _ => .ite (fun _ => h.withClk) fun _ => h) fun _ => h.withFrm.planFirst

theorem Keeps.refApplied (h : Keeps s t) {old : State} {rate : Bool} {i : Nat} : Keeps s (t.refApplied old rate i) := by
  unfold State.refApplied
  exact .cond (.cond (h.cond fun h => h.wr) fun h => h.modSrc) fun h => h.wr.modSrc.loseSource

theorem Keeps.ptpApplied (h : Keeps s t) {old : State} {i : Nat} : Keeps s (t.ptpApplied old i) := by
  unfold State.ptpApplied
  exact .ite (fun _ => h.setPort) fun _ => .ite (fun _ => h.cond fun h => h.modPtp.ptpLost) fun _ => .ite (fun _ => h.modPtp.cond fun h =>
      h.ptpLost) fun _ => h.cond fun h => h.ptpLost

theorem Keeps.dropChosen (h : Keeps s t) : Keeps s t.dropChosen := by
  unfold State.dropChosen
  exact h.cond fun h => h.withClk

theorem Keeps.clockApplied (h : Keeps s t) {old : State} : Keeps s (t.clockApplied old) := by
  unfold State.clockApplied
  exact .ite (fun _ => h) fun _ => .ite (fun _ => .freeRun (.each (.rateLevel (h.each fun _ _ h => h.refApplied)) fun _ _ h =>
      h.ptpApplied)) fun _ => .ite (fun _ => .reselect (.cond (.movePlace (.dropChosen (.each (.rateLevel (h.each fun _ _ h =>
      h.refApplied)) fun _ _ h => h.ptpApplied))) fun h => h.setLock)) fun _ =>
      .cond (.cond (.movePlace (.dropChosen (.each (.rateLevel (h.each fun _ _ h => h.refApplied)) fun _ _ h => h.ptpApplied))) fun h =>
      h.setLock) fun h => h.seekSource

theorem Keeps.beaconSlot (h : Keeps s t) : Keeps s (beaconSlotFx t) := by
  unfold beaconSlotFx
  exact h.each fun _ _ h => h.fresh.send

theorem Keeps.beaconForward (h : Keeps s t) {arrival : Nat} {out : List Nat} {b : Beacon} : Keeps s (t.beaconForward arrival out b) := by
  unfold State.beaconForward
  exact .ite (fun _ => h.fresh) fun _ => .ite (fun _ => h.fresh.inc) fun _ => h.fresh.each fun _ _ h => h.send

theorem Keeps.discipline (h : Keeps s t) {port : Nat} {b : Beacon} : Keeps s (t.discipline port b) := by
  unfold State.discipline
  extract_lets +onlyGivenNames off fresh _ _ u v
  have hv : Keeps s v := h.withClkRed.showEnds
  clear_value v
  refine .ite (fun _ => hv.withClk.setLock) fun _ => ?_
  extract_lets +onlyGivenNames _ w x
  have hx : Keeps s x := hv.withClk.lockSample
  clear_value x
  refine .ite (fun _ => ?_) fun _ => .ite (fun _ => hx.setLock) fun _ => .ite (fun _ => hx) fun _ => .ite (fun _ => ?_) fun _ => hx.setLock
  · exact (hx.cond fun h => h.incRaise).setLock
  · exact hx.setLock.cond fun h => h.toState

theorem Keeps.elect (h : Keeps s t) {port : Nat} : Keeps s (t.elect port) := by
  unfold State.elect
  exact h.withClkRed.showRoles

theorem Keeps.tileBeacon (h : Keeps s t) {port : Nat} {b : Beacon} : Keeps s (Machine.tileBeacon port b t) := by
  unfold Machine.tileBeacon
  exact .beaconForward (.cond (.cond (.cond (.cond (h.cond fun h => h.modCoil) fun h => h.modCoil) fun h => h.withRed) fun h => h.elect) fun h =>
      h.discipline)

theorem Keeps.senderBeacon (h : Keeps s t) {port : Nat} {b : Beacon} : Keeps s (Machine.senderBeacon port b t) := by
  unfold Machine.senderBeacon
  exact .ite (fun _ => h) fun _ => h.withRed.wr.wr.loopLevels

theorem Keeps.showSched (h : Keeps s t) {old : State} : Keeps s (t.showSched old) := by
  unfold State.showSched
  exact .cond (h.wr.wr.wr.each fun _ _ h => h.wr) fun h => h.raise

theorem Keeps.setTrans (h : Keeps s t) {n : Nat} : Keeps s (t.setTrans n) := by
  unfold State.setTrans
  exact h.wr.wrB.level

theorem Keeps.transTick (h : Keeps s t) {old : State} : Keeps s (t.transTick old) := by
  unfold State.transTick
  exact .ite (fun _ => h.withFrm.setTrans.wr.inc) fun _ => h.setTrans

theorem Keeps.setCs (h : Keeps s t) {c : Nat} {x : CsSt} : Keeps s (t.setCs c x) := by
  unfold State.setCs
  exact h.withSch

theorem Keeps.csEmit (h : Keeps s t) {low : Bool} {c : Nat} {on : Bool} : Keeps s (t.csEmit low c on) := by
  unfold State.csEmit
  exact h.cond fun h => h.emit

theorem Keeps.camsyncPulse (h : Keeps s t) {c slot : Nat} : Keeps s (camsyncPulseFx c slot t) := by
  unfold camsyncPulseFx
  extract_lets +onlyGivenNames g late
  clear_value g late
  split
  · exact h
  · extract_lets +onlyGivenNames x short u v low
    clear_value short x
    have hv : Keeps s v := (h.cond fun h => h.incRaise).cond fun h => h.csEmit
    clear_value v low
    exact hv.csEmit.setCs

theorem Keeps.camsyncPulseEnd (h : Keeps s t) {c : Nat} : Keeps s (camsyncPulseEndFx c t) := by
  unfold camsyncPulseEndFx
  exact .ite (fun _ => h.csEmit.setCs) fun _ => .ite (fun _ => h.incRaise.csEmit.setCs) fun _ => h

theorem Keeps.csHiz (h : Keeps s t) {v : Word32} : Keeps s (csHizFx v t) := by
  unfold csHizFx
  exact h.wr

theorem Keeps.modAud (h : Keeps s t) {c : Nat} {f : AudSrc → AudSrc} : Keeps s (t.modAud c f) := by
  unfold State.modAud
  exact h.withAud

theorem Keeps.showAudio (h : Keeps s t) : Keeps s t.showAudio := by
  unfold State.showAudio
  exact h.wr.wrB.wrB.wrB.wrB.wrB.level

theorem Keeps.audioPush (h : Keeps s t) {c : Nat} {frame : List Nat} : Keeps s (t.audioPush c frame) := by
  unfold State.audioPush
  exact .showAudio (h.modAud.cond fun h => h.incRaise)

theorem Keeps.storeStatus (h : Keeps s t) {c : Nat} {bytes : List Byte} : Keeps s (t.storeStatus c bytes) := by
  unfold State.storeStatus
  exact h.each fun _ _ h => h.setImmByte

theorem Keeps.audioInput (h : Keeps s t) {c : Nat} {samples : List Nat} {status : List Byte} : Keeps s (audioInputFx c samples status t) := by
  unfold audioInputFx
  exact h.audioPush.cond fun h => h.storeStatus

theorem Keeps.audioPacket (h : Keeps s t) {n : Nat} {body : List Byte} : Keeps s (t.audioPacket n body) := by
  unfold State.audioPacket
  exact h.each fun _ _ h => h.audioPush

theorem Keeps.audioSlip (h : Keeps s t) {c : Nat} {dropFrame : Bool} : Keeps s (audioSlipFx c dropFrame t) := by
  unfold audioSlipFx
  exact h.modAud.incRaise

theorem Keeps.audioLoss (h : Keeps s t) {c : Nat} : Keeps s (audioLossFx c t) := by
  unfold audioLossFx
  exact .showAudio (.cond (.ite (fun _ => h.wr) fun _ => h.modAud) fun h => h.incRaise)

theorem Keeps.audioReturn (h : Keeps s t) {c : Nat} : Keeps s (audioReturnFx c t) := by
  unfold audioReturnFx
  exact .showAudio (.ite (fun _ => h.wr) fun _ => h.modAud)

theorem Keeps.asrc (h : Keeps s t) {x : Int} : Keeps s (asrcFx x t) := by
  unfold asrcFx
  exact h.loopRun.wrI

theorem Keeps.audioResync (h : Keeps s t) : Keeps s (audioResyncFx t) := by
  unfold audioResyncFx
  exact h.withAud

theorem Keeps.audioMute (h : Keeps s t) {v : Word32} : Keeps s (audioMuteFx v t) := by
  unfold audioMuteFx
  exact h.wr

theorem Keeps.audioTakeOne (h : Keeps s t) {c : Nat} : Keeps s (t.audioTakeOne c) := by
  unfold State.audioTakeOne
  exact .ite (fun _ => h) fun _ => .modAud (h.cond fun h => h.incRaise)

theorem Keeps.audioTake (h : Keeps s t) : Keeps s t.audioTake := by
  unfold State.audioTake
  exact h.each fun _ _ h => h.audioTakeOne

theorem Keeps.underRamp (h : Keeps s t) {ramp full x : Nat} : Keeps s (t.underRamp ramp full x).2 := by
  unfold State.underRamp
  split
  · exact h
  · split
    · exact h
    · exact h.fresh

theorem Keeps.routed (h : Keeps s t) {ch : Nat} : Keeps s (t.routed ch).2 := by
  have hpick (b : Bool) (f : Nat → Nat) (x : Nat) : Keeps s (if b then (f t.fresh.1, t.fresh.2) else (x, t)).2 := by
    cases b
    · exact h
    · exact h.fresh
  unfold State.routed
  dsimp only
  split
  · exact h
  · exact (hpick _ (fun v => v % 2 ^ 24 + _ / 2 ^ 24 * 2 ^ 24) _).underRamp

theorem Keeps.routeAll {chs : List Nat} {t : State} (h : Keeps s t) : Keeps s (t.routeAll chs).2 := by
  induction chs generalizing t with
  | nil => exact h
  | cons ch chs ih => exact ih h.routed

theorem Keeps.ringRead (h : Keeps s t) {a : Nat} : Keeps s (t.ringRead a).2 := by
  unfold State.ringRead
  dsimp only
  split
  · exact h.dramRead.incRaise
  · exact h.dramRead

theorem Keeps.audioSlew (h : Keeps s t) : Keeps s t.audioSlew := by
  unfold State.audioSlew
  exact .ite (fun _ => h.withAud) fun _ => .ite (fun _ => h.withAud) fun _ => h.withAud

theorem Keeps.restartRing (h : Keeps s t) : Keeps s t.restartRing := by
  unfold State.restartRing
  exact h.withAud

theorem Keeps.audioRampStep (h : Keeps s t) : Keeps s t.audioRampStep := by
  unfold State.audioRampStep
  exact .wrB (.ite (fun _ => .restartRing (h.withAud.each fun _ _ h => h.modAud)) fun _ => .ite (fun _ => h.withAud.withAud.incRaise) fun _ =>
      h.withAud)

theorem Keeps.rampAll {xs : List Nat} {t : State} (h : Keeps s t) : Keeps s (t.rampAll xs).2 := by
  induction xs generalizing t with
  | nil => exact h
  | cons x xs ih => exact ih h.underRamp

theorem Keeps.audioEmit (h : Keeps s t) {frame : List Nat} : Keeps s (t.audioEmit frame) := by
  unfold State.audioEmit
  exact .emit (h.rampAll.each fun _ _ h => h.emit)

theorem Keeps.audioBlock (h : Keeps s t) : Keeps s t.audioBlock := by
  unfold State.audioBlock
  exact h.each fun _ _ h => h.emit

theorem Keeps.audioJudge (h : Keeps s t) {c : Nat} : Keeps s (t.audioJudge c) := by
  have hpick (b c : Bool) : Keeps s (if b then t.freshB else (c, t)).2 := by
    cases b
    · exact h
    · exact h.freshB
  unfold State.audioJudge
  exact .ite (fun _ => h) fun _ => (hpick _ _).modAud

theorem Keeps.audioLock (h : Keeps s t) : Keeps s t.audioLock := by
  unfold State.audioLock
  exact .showAudio (h.each fun _ _ h => h.audioJudge)

theorem Keeps.audioOutput (h : Keeps s t) : Keeps s (audioOutputFx t) := by
  unfold audioOutputFx
  extract_lets +onlyGivenNames u v
  have hv : Keeps s v := (h.cond fun h => h.audioLock).audioTake.audioRampStep
  clear_value v
  rcases hr : v.routeAll (List.range 24) with ⟨frame, w⟩
  have hw : Keeps s w := by simpa only [hr] using hv.routeAll (chs := List.range 24)
  dsimp only
  generalize hx : (w.dramStore _ _).audioSlew = x
  have hx : Keeps s x := hx ▸ hw.dramStore.audioSlew
  rcases hr : x.ringRead _ with ⟨out, y⟩
  have hy : Keeps s y := by simpa only [hr] using hx.ringRead (a := x.ringAt (x.aud.wr + max 1 x.ringFrames - x.aud.cur % max 1 x.ringFrames))
  exact (hy.cond fun h => h.audioBlock).audioEmit.withAud

theorem Keeps.audioSlot (h : Keeps s t) : Keeps s t.audioSlot.2 := by
  unfold State.audioSlot
  split
  · exact h
  · exact h.fresh

theorem Keeps.audioMean (h : Keeps s t) {old : State} : Keeps s (t.audioMean old) := by
  unfold State.audioMean
  exact h.withAud.wr

theorem Keeps.audioTarget (h : Keeps s t) : Keeps s t.audioTarget := by
  unfold State.audioTarget
  exact h.audioSlot.level.wr

theorem Keeps.audioTick (h : Keeps s t) {old : State} : Keeps s (t.audioTick old) := by
  unfold State.audioTick
  dsimp only
  exact .showAudio (.ite (fun _ => h.audioMean.audioTarget.withAud) fun _ => .ite (fun _ => h.audioMean.audioTarget.withAud) fun _ =>
      h.audioMean.audioTarget.cond fun h => h.audioResync)

end Sys2Proof.Proofs.Soundness


/-!
Soundness, from the interrupts to the reference clock: the queues and the tags that requests own come here, and the stores of the MRAM and of
BAR2.
-/

namespace Sys2Proof.Proofs.Soundness
open Sys2Proof.Machine Sys2Proof.Laws

-- Many short proofs: elaborated one after the other, since each waiting one would hold a thread's stack.
set_option Elab.async false

variable {s t : State}

theorem Keeps.clearPba (h : Keeps s t) : Keeps s t.clearPba := by
  unfold State.clearPba
  exact h.sideEvt

theorem Keeps.evtPendClear (h : Keeps s t) {page : Nat} {v : Word32} : Keeps s (evtPendClearFx page v t) := by
  unfold evtPendClearFx
  exact h.setWord.sideEvt.clearPba

theorem Keeps.evtForce (h : Keeps s t) {page : Nat} {v : Word32} : Keeps s (evtForceFx page v t) := by
  unfold evtForceFx
  exact h.each fun _ _ h => h.setPendBit

theorem Keeps.evtEnWrite (h : Keeps s t) {page : Nat} {v : Word32} : Keeps s (evtEnWriteFx page v t) := by
  unfold evtEnWriteFx
  exact h.setWord.each fun _ _ h => h.deliver

theorem Keeps.counterClear (h : Keeps s t) {addr : Nat} {v : Word32} : Keeps s (counterClearFx addr v t) := by
  unfold counterClearFx
  split
  · exact h
  · split
    · exact h
    · exact .ite (fun _ => h.setWord) fun _ => h

theorem Keeps.msixSend (h : Keeps s t) {vec : Nat} : Keeps s (Machine.msixSend vec t) := by
  unfold Machine.msixSend
  exact h.sideEvt.emit

theorem Keeps.tqLevels (h : Keeps s t) : Keeps s t.tqLevels := by
  unfold State.tqLevels
  exact h.level.level

theorem Keeps.tqPush (h : Keeps s t) {e : TqEntry} : Keeps s (t.tqPush e) := by
  unfold State.tqPush
  refine .raise (.tqLevels (.ite (fun hlt => h.evt fun _ => ?_) fun _ => h.inc.raise))
  rw [List.length_append]
  exact hlt

theorem Keeps.tqPop (h : Keeps s t) : Keeps s (tqPopFx t) := by
  unfold tqPopFx
  exact (h.evt fun hq => (List.length_drop ▸ Nat.le_trans (Nat.sub_le _ _) hq : (t.evt.tq.drop 1).length ≤ 256)).tqLevels

theorem Keeps.tqFlush (h : Keeps s t) : Keeps s (tqFlushFx t) := by
  unfold tqFlushFx
  exact (h.evt fun _ => Nat.zero_le _).tqLevels

theorem Keeps.rspLevels (h : Keeps s t) : Keeps s t.rspLevels := by
  unfold State.rspLevels
  exact h.level

/-- A tag comes to be owned that was free. -/
theorem Keeps.ownTag {u : TunSt} {tag : Nat} (h : Keeps s t) (hp : (tagsOf u).Perm (tag :: tagsOf t.tun)) (hfree : tag ∉ tagsOf t.tun)
    (hlt : tag < 64) : Keeps s { t with tun := u } := by
  refine h.tun fun hnd hall => ⟨hp.nodup_iff.mpr (List.nodup_cons.mpr ⟨hfree, hnd⟩), fun x hx => ?_⟩
  rcases List.mem_cons.mp (hp.mem_iff.mp hx) with rfl | hx
  · exact hlt
  · exact hall x hx

/-- Some tags are freed. -/
theorem Keeps.freeTags {u : TunSt} (h : Keeps s t) (hp : (tagsOf u).Sublist (tagsOf t.tun)) : Keeps s { t with tun := u } :=
  h.tun fun hnd hall => ⟨hnd.sublist hp, fun x hx => hall x (hp.subset hx)⟩

/-- A response that is queued owns its tag. -/
theorem Keeps.queueRsp (h : Keeps s t) {r : TunRsp} (hfree : r.tag ∉ tagsOf t.tun) (hlt : r.tag < 64) : Keeps s (t.queueRsp r) := by
  unfold State.queueRsp
  refine (h.ownTag ?_ hfree hlt).rspLevels
  unfold tagsOf
  rw [List.map_append, ← List.append_assoc]
  exact List.perm_append_singleton _ _

theorem not_mem_tagsOf {u : State} {tag : Nat} (h : ¬u.tagOwned tag = true) : tag ∉ tagsOf u.tun := by
  unfold State.tagOwned at h
  rw [Bool.not_eq_true, Bool.or_eq_false_iff, List.any_eq_false, List.any_eq_false] at h
  intro hmem
  rcases List.mem_append.mp hmem with hm | hm <;> obtain ⟨r, hr, rfl⟩ := List.mem_map.mp hm
  · exact h.1 r hr (beq_self_eq_true _)
  · exact h.2 r hr (beq_self_eq_true _)

theorem fieldOf_lt_64 (v : Word32) : fieldOf v 0 6 < 64 := Nat.mod_lt _ (by decide)

theorem Keeps.tunLaunch (h : Keeps s t) {v : Word32} : Keeps s (tunLaunchFx v t) := by
  have hw : Keeps s (t.wr R.TUN.TAG_REFUSED 0) := h.wr
  unfold tunLaunchFx
  refine .ite (fun _ => hw.wr.raise) fun hfree => ?_
  have hfree := not_mem_tagsOf hfree
  have refused {r : TunRsp} (hr : r.tag = fieldOf v 0 6) : Keeps s ((t.wr R.TUN.TAG_REFUSED 0).queueRsp r) :=
    hw.queueRsp (hr ▸ hfree) (hr ▸ fieldOf_lt_64 v)
  refine .ite (fun _ => refused rfl) fun _ => ?_
  split
  · exact refused rfl
  · refine .ite (fun _ => refused rfl) fun _ => .ite (fun _ => refused rfl) fun _ => .cond (hw.ownTag ?_ hfree (fieldOf_lt_64 v)) fun h => h.send
    unfold tagsOf
    rw [List.map_append, List.append_assoc]
    exact List.perm_middle

theorem delFirst_of_find {α : Type} {p : α → Bool} {xs : List α} {x : α} (h : xs.find? p = some x) :
    ∃ a b, xs = a ++ x :: b ∧ delFirst p xs = a ++ b := by
  induction xs with
  | nil => nomatch h
  | cons y ys ih =>
    cases hy : p y
    · rw [List.find?_cons_of_neg (by simp [hy])] at h
      obtain ⟨a, b, rfl, hd⟩ := ih h
      exact ⟨y :: a, b, rfl, by rw [delFirst, hy]; exact congrArg (y :: ·) hd⟩
    · rw [List.find?_cons_of_pos hy] at h
      cases h
      exact ⟨[], ys, rfl, by rw [delFirst, hy]; rfl⟩

/-- The request that a response answers gives its tag to the response, by way of a change that leaves the tags alone. -/
theorem Keeps.answered {p : TunReq → Bool} {q : TunReq} {r : TunRsp} {f : State → State} (h : Keeps s t) (hq : t.tun.out.find? p = some q)
    (hr : r.tag = q.tag) (hf : ∀ {u v}, Keeps u v → Keeps u (f v)) (htun : ∀ u, (f u).tun = u.tun) :
    Keeps s ((f { t with tun := { t.tun with out := delFirst p t.tun.out } }).queueRsp r) := by
  obtain ⟨a, b, hout, hdel⟩ := delFirst_of_find hq
  have htags : tagsOf t.tun = a.map TunReq.tag ++ q.tag :: (b.map TunReq.tag ++ t.tun.rsp.map TunRsp.tag) := by
    unfold tagsOf; rw [hout]; simp only [List.map_append, List.map_cons, List.append_assoc, List.cons_append]
  have hrest : tagsOf { t.tun with out := delFirst p t.tun.out } = a.map TunReq.tag ++ (b.map TunReq.tag ++ t.tun.rsp.map TunRsp.tag) := by
    unfold tagsOf; rw [hdel, List.map_append, List.append_assoc]
  have hx : Keeps s (f { t with tun := { t.tun with out := delFirst p t.tun.out } }) := by
    refine hf (h.freeTags ?_)
    rw [htags, hrest]
    exact (List.sublist_cons_self _ _).append_left _
  by_cases ht : t.sound
  · obtain ⟨-, -, hnd, hall⟩ := sound_iff.mp ht
    have hnd : (tagsOf t.tun).Nodup := hnd
    have hlt : q.tag < 64 := hall _ (show q.tag ∈ tagsOf t.tun from htags ▸ List.mem_append_right _ List.mem_cons_self)
    refine hx.queueRsp ?_ (hr ▸ hlt)
    rw [htun, hrest, hr]
    rw [htags] at hnd
    exact (List.nodup_cons.mp (List.perm_middle.nodup_iff.mp hnd)).1
  · exact ⟨fun hs => absurd (h.sound hs) ht, (Keeps.rspLevels (.refl _)).role.trans hx.role⟩

theorem Keeps.tunTimeout (h : Keeps s t) {tag : Nat} : Keeps s (tunTimeoutFx tag t) := by
  unfold tunTimeoutFx
  split
  · exact h
  · next hq => exact (h.answered (f := id) hq rfl id fun _ => rfl).inc.raise

theorem Keeps.storeBuf (h : Keeps s t) {buf : Nat} {data : List Word32} : Keeps s (t.storeBuf buf data) := by
  unfold State.storeBuf
  exact h.imm fun hm => smWf_setMany _ _ hm

theorem Keeps.tunResponse (h : Keeps s t) {rx : RspFrom} {tag status : Nat} {data : List Word32} : Keeps s (tunResponseFx rx tag status data t) := by
  unfold tunResponseFx
  split
  · exact h.inc
  · next q hq =>
    have htag : tag = q.tag := by
      have hp := List.find?_some hq
      unfold rspAnswers at hp
      simp only [Bool.and_eq_true, beq_iff_eq] at hp
      exact hp.1.1.symm
    refine h.answered (f := fun u => u.cond _ _) hq htag (fun h => h.cond fun h => h.storeBuf) fun u => ?_
    cases h : (!q.write && q.len != 0 && status == rsOK) <;> simp only [h, State.cond] <;> rfl

theorem Keeps.rspPop (h : Keeps s t) : Keeps s (rspPopFx t) := by
  unfold rspPopFx
  refine (h.freeTags ?_).rspLevels
  exact ((List.drop_sublist 1 t.tun.rsp).map TunRsp.tag).append_left _

theorem Keeps.rspFlush (h : Keeps s t) : Keeps s (rspFlushFx t) := by
  unfold rspFlushFx
  refine (h.freeTags ?_).rspLevels
  exact (List.nil_sublist _).append_left _

theorem Keeps.showNvs (h : Keeps s t) : Keeps s t.showNvs := by
  unfold State.showNvs
  exact h.wrB.level.wrB.wr.wr.wrB.level

theorem Keeps.setGen (h : Keeps s t) {g : Nat} : Keeps s (t.setGen g) := by
  unfold State.setGen
  exact h.wr.showNvs

theorem Keeps.opEnd (h : Keeps s t) {st : Nat} : Keeps s (t.opEnd st) := by
  unfold State.opEnd
  exact h.wr.raise.cond fun h => h.incRaise

theorem Keeps.fgRefuse (h : Keeps s t) {op : MramOp} {st : Nat} : Keeps s (t.fgRefuse op st) := by
  unfold State.fgRefuse
  split
  · exact h.withNvs
  · exact h.withNvs
  · exact h.opEnd

theorem Keeps.fgShow (h : Keeps s t) : Keeps s t.fgShow := by
  unfold State.fgShow
  exact .wrB (.wrB (h.cond fun h => h.withCor))

theorem Keeps.fgSettle (n : Nat) {t : State} (h : Keeps s t) : Keeps s (t.fgSettle n) := by
  induction n generalizing t with
  | zero => exact h
  | succ n ih =>
    unfold State.fgSettle
    split
    · exact h
    · split
      · exact h
      · exact ih h.withNvs.fgRefuse

theorem Keeps.fgNext (h : Keeps s t) : Keeps s t.fgNext := by
  unfold State.fgNext
  exact .fgShow (.ite (fun _ => h) fun _ => h.fgSettle _)

theorem Keeps.fgPut (h : Keeps s t) {op : MramOp} : Keeps s (t.fgPut op) := by
  unfold State.fgPut
  exact .ite (fun _ => h.withNvs.fgNext) fun _ => h.withNvs.fgShow

theorem Keeps.bgPut (h : Keeps s t) {us : List BgUnit} : Keeps s (t.bgPut us) := by
  unfold State.bgPut
  exact h.withNvs.cond fun h => h.inc

theorem Keeps.scrubbed (h : Keeps s t) {corrected : Nat} {uncorr : Nat} : Keeps s (t.scrubbed corrected uncorr) := by
  unfold State.scrubbed
  exact .withNvs (h.incBy.cond fun h => h.incBy.raise)

theorem Keeps.bgStart (h : Keeps s t) : Keeps s (Machine.bgStart t) := by
  unfold Machine.bgStart
  exact .ite (fun _ => h) fun _ => (by
    split
    · exact h
    · exact .ite (fun _ => h) fun _ => (by
        dsimp only
        split
        · exact h.withNvs.scrubbed
        · exact h.withNvs.withNvs.level
        · exact h.withNvs
        · exact .ite (fun _ => h.withMramNvs) fun _ => h.withNvs))

theorem Keeps.blockWritten (h : Keeps s t) {b : Nat} {data : List Word32} {tag : Nat} : Keeps s (t.blockWritten b data tag) := by
  unfold State.blockWritten
  exact (h.mram fun hm => smWf_setMany _ _ hm).inc

theorem Keeps.mismatched (h : Keeps s t) {n : Nat} : Keeps s (t.mismatched n) := by
  unfold State.mismatched
  exact .ite (fun _ => h) fun _ => h.sideMram.incBy.incBy.showNvs

theorem Keeps.coneWritten (h : Keeps s t) {k : Nat} : Keeps s (t.coneWritten k) := by
  unfold State.coneWritten
  exact h.blockWritten.cond fun h => h.sideMram.wr.level

theorem Keeps.bgDone (h : Keeps s t) {mismatches : Nat} : Keeps s (t.bgDone mismatches) := by
  unfold State.bgDone
  split
  · exact h
  · exact .fgNext (.cond (.showNvs (by
      split
      · exact .ite (fun _ => h.withNvs.coneWritten) fun _ => h.withNvs.withNvs
      · exact h.withNvs.cond fun h => h.sideMram.inc.inc
      · exact h.withNvs)) fun h => h.inc)

theorem Keeps.recordSaved (h : Keeps s t) {r : FwRecord} : Keeps s (t.recordSaved r) := by
  unfold State.recordSaved
  extract_lets +onlyGivenNames u
  have hu : Keeps s u := h.blockWritten
  clear_value u
  exact hu.withMramNvs.wr.wr

theorem Keeps.fgDone (h : Keeps s t) {mismatches : Nat} : Keeps s (t.fgDone mismatches) := by
  have hnvs {n : NvsSt} : Keeps s { t with nvs := n } := h.withNvs
  unfold State.fgDone
  extract_lets +onlyGivenNames ok
  clear_value ok
  split
  · extract_lets +onlyGivenNames _ u
    have hu : Keeps s u := hnvs
    clear_value u
    refine .fgNext (.opEnd (hu.cond fun _ => ?_))
    extract_lets +onlyGivenNames data v
    have hv : Keeps s v := hu.blockWritten
    clear_value v
    exact (hv.cond fun h => h.sideMram).showNvs
  · exact .fgNext (.cond (.ite (fun _ => hnvs.recordSaved) fun _ => .ite (fun _ => hnvs) fun _ => hnvs.withNvs) fun h => h.opEnd)
  · exact .fgNext (hnvs.cond fun h => h.recordSaved)
  · exact h

theorem Keeps.setBegin (h : Keeps s t) : Keeps s (setBeginFx t) := by
  unfold setBeginFx
  exact h.wr.setGen

theorem Keeps.setEnd (h : Keeps s t) : Keeps s (setEndFx t) := by
  unfold setEndFx
  exact .ite (fun _ => h.wr.showNvs.opEnd) fun _ => h.opEnd

theorem Keeps.nvsWriteGo (h : Keeps s t) {v : Word32} : Keeps s (nvsWriteGoFx v t) := by
  unfold nvsWriteGoFx
  exact h.fgPut

theorem Keeps.nvsReadGo (h : Keeps s t) {v : Word32} : Keeps s (nvsReadGoFx v t) := by
  unfold nvsReadGoFx
  exact h.fgPut

theorem Keeps.settingsSave (h : Keeps s t) : Keeps s (settingsSaveFx t) := by
  unfold settingsSaveFx
  exact h.fgPut

theorem Keeps.coneSave (h : Keeps s t) : Keeps s (coneSaveFx t) := by
  unfold coneSaveFx
  exact h.bgPut.bgStart

theorem Keeps.mramReadDone (h : Keeps s t) {bad : List Nat} : Keeps s (mramReadDoneFx bad t) := by
  unfold mramReadDoneFx
  dsimp only
  split
  · have hread {ops : List MramOp} {f : Nat} {m : List (Nat × Word32)} (hm : smWf tabDefault t.imm = true → smWf tabDefault m = true) :
        Keeps s { t with nvs := { t.nvs with fg := ops }, free := f, imm := m } :=
      (h.imm hm).trans (Keeps.refl _).other
    exact ((hread fun hm => smWf_setMany _ _ hm).cond fun h => h.incBy.raise).opEnd.fgNext
  · exact h

theorem Keeps.calReload (h : Keeps s t) : Keeps s (calReloadFx t) := by
  unfold calReloadFx
  exact .ite (fun _ => h.fgPut) fun _ => h

theorem Keeps.calCopy (h : Keeps s t) {a b : Nat} : Keeps s (t.calCopy a b) := by
  unfold State.calCopy
  exact ((h.imm fun hm => smWf_putAll _ (smWf_keep _ hm)).withCor)

theorem Keeps.calSync (h : Keeps s t) : Keeps s t.calSync := by
  unfold State.calSync
  exact h.cond fun h => h.calCopy

theorem Keeps.calCopied (h : Keeps s t) {bad : List Nat} : Keeps s (t.calCopied bad) := by
  unfold State.calCopied
  exact ((h.calCopy.imm fun hm => smWf_keep _ hm).withCor)

theorem Keeps.calReloadDone (h : Keeps s t) {bad : List Nat} : Keeps s (calReloadDoneFx bad t) := by
  unfold calReloadDoneFx
  extract_lets +onlyGivenNames bad _ u v w
  have hw : Keeps s w := h.withNvs.calCopied.cond fun h => h.incBy.raise
  clear_value w
  exact hw.wr.inc.raise.wr.fgNext

theorem Keeps.loadCones (h : Keeps s t) : Keeps s t.loadCones := by
  unfold State.loadCones
  split
  · exact h
  · exact h.wr.withThm

theorem Keeps.loadSettings (h : Keeps s t) : Keeps s t.loadSettings := by
  unfold State.loadSettings
  dsimp only
  split
  · exact h.setGen.loadCones.wr
  · exact .ite (fun _ => h.setGen.loadCones.wr.wr.fgPut) fun _ => .wrI (.wrI (.withPhc (h.setGen.loadCones.wr.each fun _ _ h => h.setWord.setWord)))

theorem Keeps.stageLine (h : Keeps s t) {f : Nat} {y : Nat} {row : List Pixel} : Keeps s (t.stageLine f y row) := by
  unfold State.stageLine
  exact h.cond fun h => h.dramStore

theorem Keeps.showMapErr (h : Keeps s t) {es : List MapErr} : Keeps s (t.showMapErr es) := by
  unfold State.showMapErr
  split
  · exact h.wr.wrB
  · exact h

theorem Keeps.showMap (h : Keeps s t) : Keeps s t.showMap := by
  unfold State.showMap
  exact .ite (fun _ => h.wr.wrB) fun _ => h.wr.wrB.wr.wr.wr.wr.each fun _ _ h => h.wr

theorem Keeps.mapStatsClr (h : Keeps s t) : Keeps s (mapStatsClrFx t) := by
  unfold mapStatsClrFx
  exact h.each fun _ _ h => h.setImm

theorem Keeps.showId (h : Keeps s t) {old : State} : Keeps s (t.showId old) := by
  unfold State.showId
  exact h.wrB.cond fun h => h.raise

theorem Keeps.passOn (h : Keeps s t) {arrival : Nat} {outs : List Nat} {h₀ : Header} {body : List Byte} {stomp : Bool} : Keeps s
    (t.passOn arrival outs h₀ body stomp) := by
  unfold State.passOn
  exact .ite (fun _ => h) fun _ => .ite (fun _ => h.inc) fun _ => h.each fun _ _ h => h.send

theorem Keeps.passTo (h : Keeps s t) {arrival : Nat} {out : Nat} {h₀ : Header} {body : List Byte} {stomp : Bool} : Keeps s
    (t.passTo arrival out h₀ body stomp) := by
  unfold State.passTo
  exact .ite (fun _ => h.passOn) fun _ => h.undeliverable

theorem Keeps.routeUp (h : Keeps s t) {port : Nat} {h₀ : Header} {body : List Byte} {stomp : Bool} : Keeps s (t.routeUp port h₀ body stomp) := by
  unfold State.routeUp
  exact .ite (fun _ => h.passTo) fun _ => .ite (fun _ => h.cond fun h => h.emit) fun _ => (by
    split
    · exact h.passTo
    · exact h.undeliverable)

theorem Keeps.routeBroadcast (h : Keeps s t) {port : Nat} {h₀ : Header} {body : List Byte} {stomp : Bool} : Keeps s
    (t.routeBroadcast port h₀ body stomp) := by
  unfold State.routeBroadcast
  exact .ite (fun _ => h) fun _ => h.passOn.cond fun h => h.emit

theorem Keeps.routeDest (h : Keeps s t) {port : Nat} {h₀ : Header} {body : List Byte} {stomp : Bool} : Keeps s (t.routeDest port h₀ body stomp) := by
  unfold State.routeDest
  exact .ite (fun _ => .ite (fun _ => h.inc) fun _ => .ite (fun _ => h.cond fun h => h.passTo) fun _ => h.cond fun h => h.emit) fun _ => (by
    split
    · exact .ite (fun _ => h.undeliverable) fun _ => h.passTo
    · exact .ite (fun _ => h.passTo) fun _ => h.undeliverable)

theorem Keeps.tilePacket (h : Keeps s t) {port : Nat} {h₀ : Header} {body : List Byte} {stomp : Bool} : Keeps s
    (Machine.tilePacket port h₀ body stomp t) := by
  unfold Machine.tilePacket
  exact .ite (fun _ => h) fun _ => .ite (fun _ => h.emit) fun _ => .ite (fun _ => h.routeUp) fun _ => .ite (fun _ => .ite (fun _ =>
      h.routeBroadcast) fun _ => h.undeliverable) fun _ => h.routeDest

theorem Keeps.senderPacket (h : Keeps s t) {port : Nat} {h₀ : Header} {body : List Byte} {stomp : Bool} : Keeps s
    (Machine.senderPacket port h₀ body stomp t) := by
  unfold Machine.senderPacket
  exact h.cond fun h => h.emit

theorem Keeps.packetIn (h : Keeps s t) {port : Nat} {bytes : List Byte} {lost : Bool} : Keeps s (t.packetIn port bytes lost) := by
  unfold State.packetIn
  split
  · exact h.inc
  · split
    · exact h.inc
    · exact .ite (fun _ => h.inc) fun _ => .ite (fun _ => h) fun _ => (by
        dsimp only
        split
        · exact .senderPacket (by
            split
            · exact h
            · exact h.cond fun h => h.inc
            · exact h.cond fun h => h.inc)
        · exact .tilePacket (by
            split
            · exact h
            · exact h.cond fun h => h.inc
            · exact h.cond fun h => h.inc))

theorem Keeps.takeXoff (h : Keeps s t) {p : Nat} {b : Bool} : Keeps s (t.takeXoff p b) := by
  unfold State.takeXoff
  exact h.wrB.cond fun h => h.drain

theorem Keeps.cell (h : Keeps s t) {port : Nat} {c : Cell} : Keeps s (cellFx port t c) := by
  unfold cellFx
  exact .ite (fun _ => h.cond fun h => h.inc) fun _ => (by
    split
    · exact .inc (h.cond fun h => h.inc)
    · exact .takeXoff (h.cond fun h => h.inc))

theorem Keeps.packetReceive (h : Keeps s t) {port : Nat} {cells : List Cell} : Keeps s (packetReceiveFx port cells t) := by
  unfold packetReceiveFx
  dsimp only
  split
  · exact h.each fun _ _ h => h.cell
  · exact .ite (fun _ => h.each fun _ _ h => h.cell) fun _ => .packetIn (h.each fun _ _ h => h.cell)

theorem Keeps.assignNow (h : Keeps s t) {node : Nat} {ranges : List ( Nat × Nat )} {epoch : Nat} : Keeps s (t.assignNow node ranges epoch) := by
  unfold State.assignNow
  exact .showId (.each (.withCmt (h.wrBoth.wrBoth.each fun _ _ h => h.wrBoth.wrBoth)) fun _ _ h => h.setWord)

theorem Keeps.coilReset (h : Keeps s t) {port : Nat} : Keeps s (t.coilReset port) := by
  unfold State.coilReset
  exact h.sideBoot.resetAfterRsp

theorem Keeps.assign (h : Keeps s t) {d : Discover} : Keeps s (t.assign d).1 := by
  unfold State.assign
  extract_lets
  split
  · exact h.assignNow
  · split
    · exact h
    · exact h.withMgmt

theorem Keeps.discoverTarget (h : Keeps s t) {port : Nat} {d : Discover} : Keeps s (t.discoverTarget port d) := by
  have hr : Keeps s (if d.op = 1 then t.assign d else (t, false, false)).1 := by
    split
    · exact h.assign
    · exact h
  unfold State.discoverTarget
  exact (hr.cond fun h => h.send).cond fun h => h.coilReset

theorem Keeps.discoverPass (h : Keeps s t) {arrival : Nat} {out : Nat} {hops : Nat} {d : Discover} {stomp : Bool} : Keeps s
    (t.discoverPass arrival out hops d stomp) := by
  unfold State.discoverPass
  exact .ite (fun _ => h.undeliverable) fun _ => .ite (fun _ => h.inc) fun _ => h.send

theorem Keeps.discover (h : Keeps s t) {port : Nat} {hops : Nat} {d : Discover} {crcOk : Bool} : Keeps s (discoverFx port hops d crcOk t) := by
  unfold discoverFx
  exact .ite (fun _ => .ite (fun _ => h) fun _ => .ite (fun _ => h.discoverTarget) fun _ => .cond (h.cond fun h => h.send) fun h =>
      h.coilReset) fun _ => .ite (fun _ => h.discoverPass) fun _ => .ite (fun _ => h.discoverPass) fun _ => h.undeliverable

theorem Keeps.repeater (h : Keeps s t) {port : Nat} {p : Packet} : Keeps s (repeaterFx port p t) := by
  unfold repeaterFx
  exact .ite (fun _ => h) fun _ => .ite (fun _ => .discover (h.cond fun h => h.emit)) fun _ => .ite (fun _ => .cond (.fresh (h.cond fun h =>
      h.emit)) fun h => h.passOn) fun _ => .cond (h.cond fun h => h.emit) fun h => h.passOn

theorem Keeps.discDone (h : Keeps s t) {p : Nat} {status : Nat} : Keeps s (t.discDone p status) := by
  unfold State.discDone
  exact h.wr.wr.raise

theorem Keeps.discGo (h : Keeps s t) {port : Nat} : Keeps s (discGoFx port t) := by
  unfold discGoFx
  exact .ite (fun _ => h) fun _ => .ite (fun _ => h.discDone) fun _ => h.wr.send

theorem Keeps.discoverRsp (h : Keeps s t) {port : Nat} {body : List Byte} : Keeps s (discoverRspFx port body t) := by
  unfold discoverRspFx
  exact .discDone (.cond (.modCoil (h.each fun _ _ h => h.setImmByte)) fun h => h.withMap)

theorem Keeps.phcAbort (h : Keeps s t) : Keeps s (phcAbortFx t) := by
  unfold phcAbortFx
  exact h.phcEnd

theorem Keeps.modGrp (h : Keeps s t) {g : Nat} {f : GrpSt → GrpSt} : Keeps s (t.modGrp g f) := by
  unfold State.modGrp
  exact h.withLmp

theorem Keeps.rowsLow (h : Keeps s t) {g : Nat} : Keeps s (t.rowsLow g) := by
  unfold State.rowsLow
  exact h.modGrp.wr.wr.emit

theorem Keeps.rowsOff (h : Keeps s t) {g : Nat} : Keeps s (t.rowsOff g) := by
  unfold State.rowsOff
  exact h.rowsLow.modGrp

theorem Keeps.stopSlots (h : Keeps s t) : Keeps s t.stopSlots := by
  unfold State.stopSlots
  exact h.withLsm.wr

theorem Keeps.quench (h : Keeps s t) {cause : Nat} : Keeps s (t.quench cause) := by
  unfold State.quench
  exact .ite (fun _ => h.withAon.wr) fun _ => (by
    dsimp only
    split
    · exact .stopSlots (h.withAon.wr.wr.raise.toState.withThm.phcEnd.each fun _ _ h => h.rowsOff)
    · exact h.withAon.wr.wr.raise.toState.withThm.phcEnd.wr.ground)

theorem Keeps.showBoard (h : Keeps s t) : Keeps s t.showBoard := by
  unfold State.showBoard
  exact .showTemps (h.withThm.wr.level.cond fun h => h.wrI)

theorem Keeps.senseEnabled (h : Keeps s t) : Keeps s t.senseEnabled := by
  unfold State.senseEnabled
  exact h.each fun _ _ h => .ite (fun _ => h) fun _ => h.withThm

theorem Keeps.brokenQuench (h : Keeps s t) : Keeps s t.brokenQuench := by
  unfold State.brokenQuench
  exact h.cond fun h => h.quench

theorem Keeps.sensorsEnabled (h : Keeps s t) : Keeps s t.sensorsEnabled := by
  unfold State.sensorsEnabled
  exact h.senseEnabled.showBoard.brokenQuench

theorem Keeps.sensorRead (h : Keeps s t) {n : Nat} {ack : Bool} {raw : Nat} : Keeps s (sensorReadFx n ack raw t) := by
  unfold sensorReadFx
  exact .brokenQuench (.cond (.showBoard (h.withThm.cond fun h => h.inc)) fun h => h.quench)

theorem Keeps.latchTherm (h : Keeps s t) : Keeps s t.latchTherm := by
  unfold State.latchTherm
  exact h.wr.wrB.level.cond fun h => h.inc

theorem Keeps.showDie (h : Keeps s t) {broken : Bool} : Keeps s (t.showDie broken) := by
  unfold State.showDie
  exact .cond (.cond (.showTemps (.wrB (h.withThm.cond fun h => h.wrI))) fun h => h.fgPut) fun h => h.fgPut

theorem Keeps.dieModelStep (h : Keeps s t) {powers : List ( Option Nat )} {outOfRange : Bool} : Keeps s (dieModelStepFx powers outOfRange t) := by
  unfold dieModelStepFx
  exact .cond (.showDie (.level (.wrB (h.withThm.cond fun h => h.inc)))) fun h => h.quench

theorem Keeps.coneTick (h : Keeps s t) : Keeps s t.coneTick := by
  unfold State.coneTick
  exact h.withThm

theorem Keeps.coneClr (h : Keeps s t) : Keeps s (coneClrFx t) := by
  unfold coneClrFx
  exact h.withThm

theorem powerOnReset_sound (h : s.sound) : (powerOnResetFx s).sound := by
  obtain ⟨⟨-, -, -, -, -, hmram, -⟩, -, -⟩ := sound_iff.mp h
  exact sound_iff.mpr ⟨⟨rfl, rfl, rfl, rfl, rfl, hmram, rfl⟩, ⟨Nat.zero_le _, Nat.zero_le _⟩, List.nodup_nil, nofun⟩

theorem Keeps.resetN (h : Keeps s t) {ns : Nat} : Keeps s (resetNFx ns t) := by
  unfold resetNFx
  exact .ite (fun _ => h.coreReset) fun _ => h.freshB.cond fun h => h.coreReset

theorem Keeps.softReset (h : Keeps s t) {v : Word32} : Keeps s (softResetFx v t) := by
  unfold softResetFx
  exact h.cond fun h => h.coreReset

theorem Keeps.xoInLoss (h : Keeps s t) : Keeps s (xoInLossFx t) := by
  unfold xoInLossFx
  exact h.coreReset.withAon

theorem Keeps.watchdog (h : Keeps s t) : Keeps s (watchdogFx t) := by
  unfold watchdogFx
  exact .ite (fun _ => h.sideBoot) fun _ => .ite (fun _ => h.ground) fun _ => h.ground.coreReset

theorem Keeps.bankLevel (h : Keeps s t) {bank : Nat} {mV : Nat} : Keeps s (bankLevelFx bank mV t) := by
  unfold bankLevelFx
  exact h.sideBoot.cond fun h => h.coreReset

theorem Keeps.tileResets (h : Keeps s t) : Keeps s t.tileResets := by
  unfold State.tileResets
  exact h.wrBoth.wrBoth.wrBoth.wr

/-- Soundness does not speak of the role. -/
theorem sound_released (h : s.sound) {role : Role} {testEn : Bool} {aon : Aon} :
    ({ s with role := role, boot := { s.boot with testEn := testEn }, aon := aon } : State).sound := by
  obtain ⟨hmem, hqueues, htags⟩ := sound_iff.mp h
  exact sound_iff.mpr ⟨hmem, hqueues, htags⟩

theorem resetRelease_sound (h : s.sound) {strap : Strap} {testEn : Bool} : (resetReleaseFx strap testEn s).sound := by
  have hs : (s.strapHigh strap).2.sound := (Keeps.refl s).strapHigh.sound h
  unfold resetReleaseFx
  generalize s.strapHigh strap = p at hs ⊢
  obtain ⟨b, u⟩ := p
  dsimp only at hs ⊢
  split
  · exact sound_released hs
  · exact Keeps.sound (.toState (.cond (Keeps.refl _).wr.withAon fun h => h.tileResets)) (sound_released hs)

theorem Keeps.bar2Write (h : Keeps s t) {off : Nat} {data : List Byte} : Keeps s (bar2WriteFx off data t) := by
  unfold bar2WriteFx
  exact h.boot fun hm => smWf_setMany _ _ hm

theorem Keeps.bisqueGo (h : Keeps s t) : Keeps s (bisqueGoFx t) := by
  unfold bisqueGoFx
  exact h.sideBoot

theorem Keeps.imageVerifyDone (h : Keeps s t) : Keeps s (imageVerifyDoneFx t) := by
  unfold imageVerifyDoneFx
  split
  · exact h
  · exact h.wr.sideBoot

theorem Keeps.showBanks (h : Keeps s t) : Keeps s t.showBanks := by
  unfold State.showBanks
  exact h.wr.wr.wr

theorem Keeps.takePorts (h : Keeps s t) {up0 : Bool} {up1 : Bool} : Keeps s (t.takePorts up0 up1) := by
  unfold State.takePorts
  exact .showRoles (h.sideBoot.each fun _ _ h => .ite (fun _ => h.bringUp) fun _ => h.train)

theorem Keeps.firmwareLoaded (h : Keeps s t) {trained : Bool} : Keeps s (firmwareLoadedFx trained t) := by
  unfold firmwareLoadedFx
  dsimp only
  split
  · exact .cond (.showRoles (.wr (.dramInit (.showDie (.sensorsEnabled (.loadSettings (.ite (fun _ => h.showBanks.wr.wr.toState) fun _ =>
        h.showBanks.toState))))))) fun h => h.ground
  · exact .fgPut (.takePorts (.showDie (.sensorsEnabled (.loadSettings (.ite (fun _ => h.showBanks.wr.wr.toState) fun _ => h.showBanks.toState)))))

theorem Keeps.arm (h : Keeps s t) : Keeps s (armFx t) := by
  unfold armFx
  exact .ite (fun _ => h.wr) fun _ => .ite (fun _ => h.wr.wr) fun _ => .planFirst (h.wr.sideBoot.cond fun h => h.toState)

theorem Keeps.bootGo (h : Keeps s t) : Keeps s (bootGoFx t) := by
  unfold bootGoFx
  exact .ite (fun _ => h.wr) fun _ => .ite (fun _ => h.readUe.wrB) fun _ => h.readUe.wrB.wr.each fun _ _ h => h.sendImage

theorem Keeps.asmLost (h : Keeps s t) {idx : Nat} : Keeps s (t.asmLost idx) := by
  unfold State.asmLost
  exact h.sideBoot.cond fun h => h.wr

theorem Keeps.asmDone (h : Keeps s t) {img : Image} : Keeps s (t.asmDone img) := by
  unfold State.asmDone
  exact .ite (fun _ => h.sideBoot.sideBoot) fun _ => h.sideBoot

theorem Keeps.asmTake (h : Keeps s t) {a : BootAsm} {c : BootChunk} : Keeps s (t.asmTake a c) := by
  unfold State.asmTake
  exact .ite (fun _ => .ite (fun _ => h.sideBoot) fun _ => h.asmLost) fun _ => .ite (fun _ => .ite (fun _ => h.asmDone) fun _ => h.asmLost) fun _ =>
      h.sideBoot

theorem Keeps.bootChunk (h : Keeps s t) {c : BootChunk} : Keeps s (bootChunkFx c t) := by
  unfold bootChunkFx
  exact .ite (fun _ => .asmTake (h.cond fun h => h.asmLost)) fun _ => h.cond fun h => h.asmTake

theorem Keeps.leaveBoot (h : Keeps s t) : Keeps s t.leaveBoot := by
  unfold State.leaveBoot
  exact .showRoles (h.sideBoot.each fun _ _ h => h.switchOff)

theorem Keeps.peerBoot (h : Keeps s t) {port : Nat} : Keeps s (peerBootFx port t) := by
  unfold peerBootFx
  exact h.sideBoot.inc

theorem Keeps.peerChunk (h : Keeps s t) {port : Nat} : Keeps s (peerChunkFx port t) := by
  unfold peerChunkFx
  split
  · exact h
  · dsimp only
    split
    · exact h.sideBoot
    · exact .ite (fun _ => h.send.sideBoot.raise) fun _ => h.send.sideBoot

theorem Keeps.updGo (h : Keeps s t) : Keeps s (updGoFx t) := by
  unfold updGoFx
  exact .ite (fun _ => h.wr) fun _ => h.wr.wr.sideBoot.cond fun h => h.readUe

theorem Keeps.updFail (h : Keeps s t) {code : Nat} : Keeps s (t.updFail code) := by
  unfold State.updFail
  exact h.wr.wr.incRaise

theorem Keeps.updDone (h : Keeps s t) : Keeps s (updDoneFx t) := by
  unfold updDoneFx
  dsimp only
  split
  · exact h.fresh.updFail
  · exact .ite (fun _ => h.updFail) fun _ => h.sideBoot.wr.showBanks.wr.raise

theorem Keeps.swapBanks (h : Keeps s t) : Keeps s t.swapBanks := by
  unfold State.swapBanks
  split
  · exact h
  · exact h.sideBoot.wr.showBanks

theorem Keeps.bankApplied (h : Keeps s t) {old : State} : Keeps s (t.bankApplied old) := by
  unfold State.bankApplied
  exact .ite (fun _ => h) fun _ => h.sideBoot.swapBanks.wr.wr.wr.raise

theorem Keeps.health (h : Keeps s t) {v : Word32} : Keeps s (healthFx v t) := by
  unfold healthFx
  exact .ite (fun _ => .ite (fun _ => h) fun _ => h.wr.wr.wr.wr.raise.sideBoot.cond fun h => h.fgPut) fun _ => h.cond fun h => h.wr

theorem Keeps.revert (h : Keeps s t) : Keeps s (revertFx t) := by
  unfold revertFx
  exact h.cond fun h => h.sideBoot

theorem Keeps.revertTick (h : Keeps s t) : Keeps s t.revertTick := by
  unfold State.revertTick
  exact .ite (fun _ => h) fun _ => h.sideBoot.swapBanks.wr.wr.wr.incRaise

end Sys2Proof.Proofs.Soundness


/-!
Soundness of the picture side: the decoder, the network ports and their timestamp queue, streams, SDI.
-/

namespace Sys2Proof.Proofs.Soundness
open Sys2Proof.Machine Sys2Proof.Laws

-- Many short proofs: elaborated one after the other, since each waiting one would hold a thread's stack.
set_option Elab.async false

variable {s t : State}

theorem Keeps.modDec (h : Keeps s t) {n : Nat} {f : DecSt → DecSt} : Keeps s (t.modDec n f) := by
  unfold State.modDec
  exact h.withDec

theorem Keeps.decRaise (h : Keeps s t) {n : Nat} {e : Evt} : Keeps s (t.decRaise n e) := by
  unfold State.decRaise
  exact h.wr.raise

theorem Keeps.showDstate (h : Keeps s t) {n : Nat} : Keeps s (t.showDstate n) := by
  unfold State.showDstate
  exact h.wr.wr

theorem Keeps.showBacklog (h : Keeps s t) {n : Nat} : Keeps s (t.showBacklog n) := by
  unfold State.showBacklog
  exact h.wr

theorem Keeps.setShedding (h : Keeps s t) {n : Nat} {b : Bool} : Keeps s (t.setShedding n b) := by
  unfold State.setShedding
  exact .level (.wrB (.withDec (h.cond fun h => h.wr)))

theorem Keeps.skipToIrap (h : Keeps s t) {n : Nat} : Keeps s (t.skipToIrap n) := by
  unfold State.skipToIrap
  dsimp only
  split
  · exact .modDec (.incBy (h.cond fun h => h.decRaise))
  · exact .ite (fun _ => .modDec (.incBy (h.cond fun h => h.decRaise))) fun _ => .modDec (.cond (.incBy (h.cond fun h => h.decRaise)) fun h => h.inc)

theorem Keeps.shed {n : Nat} (fuel : Nat) {t : State} (h : Keeps s t) : Keeps s (t.shed n fuel) := by
  induction fuel generalizing t with
  | zero => exact h
  | succ fuel ih =>
    unfold State.shed
    refine .ite (fun _ => h) fun _ => ?_
    split
    · exact ih h.inc.decRaise.modDec
    · exact .ite (fun _ => h) fun _ => h.skipToIrap

theorem Keeps.backlog (h : Keeps s t) {n : Nat} : Keeps s (t.backlog n) := by
  unfold State.backlog
  exact .showDstate (.showBacklog (.setShedding (h.cond fun h => h.setShedding.shed _)))

theorem Keeps.auDone (h : Keeps s t) {n : Nat} : Keeps s (t.auDone n) := by
  unfold State.auDone
  exact .ite (fun _ => h.modDec) fun _ => .ite (fun _ => h) fun _ => h.modDec.backlog

theorem Keeps.ringStore (h : Keeps s t) {n : Nat} {nal : List Byte} : Keeps s (t.ringStore n nal) := by
  unfold State.ringStore
  exact h.dramStore.dramStore.modDec

theorem Keeps.auRead (h : Keeps s t) {n : Nat} {a : Au} : Keeps s (t.auRead n a).1 := by
  unfold State.auRead
  exact h.each fun _ _ h => h.readUe

theorem Keeps.sliceIn (h : Keeps s t) {n : Nat} {nal : List Byte} {whole : Bool} : Keeps s (t.sliceIn n nal whole) := by
  unfold State.sliceIn
  exact h.modDec

theorem Keeps.auNext (h : Keeps s t) {n : Nat} {nal : List Byte} : Keeps s (t.auNext n nal) := by
  unfold State.auNext
  exact h.cond fun h => h.auDone

theorem Keeps.ringPut (h : Keeps s t) {n : Nat} {nal : List Byte} : Keeps s (t.ringPut n nal) := by
  unfold State.ringPut
  exact .ite (fun _ => .showDstate (.modDec (.inc (h.inc.decRaise.cond fun h => h.decRaise)))) fun _ => h.ringStore.cond fun h => h.sliceIn

theorem Keeps.skipSlice (h : Keeps s t) {n : Nat} {nal : List Byte} : Keeps s (t.skipSlice n nal) := by
  unfold State.skipSlice
  exact .ite (fun _ => h) fun _ => .ite (fun _ => h.modDec.each fun _ _ h => h.cond fun h => h.ringPut) fun _ => h.inc.modDec

theorem Keeps.nalIn (h : Keeps s t) {n : Nat} {nal : List Byte} : Keeps s (t.nalIn n nal) := by
  unfold State.nalIn
  exact .ite (fun _ => h.auNext.skipSlice.modDec) fun _ => .ite (fun _ => h.auNext.skipSlice.modDec) fun _ => h.auNext.skipSlice.ringPut

theorem Keeps.sliceLost (h : Keeps s t) {n : Nat} {nal : List Byte} : Keeps s (t.sliceLost n nal) := by
  unfold State.sliceLost
  exact .ite (fun _ => h) fun _ => .ite (fun _ => h.auNext.skipSlice.modDec) fun _ => h.auNext.skipSlice.sliceIn

theorem Keeps.depacket (h : Keeps s t) {n : Nat} {r : Rtp} {gap : Bool} : Keeps s (t.depacket n r gap) := by
  unfold State.depacket
  exact .cond (.ite (fun _ => .each (.modDec (.cond (by
    split
    · exact h.modDec.sliceLost
    · exact h) fun h => h.auDone)) fun _ _ h => h.nalIn) fun _ => .ite (fun _ => .ite (fun _ => (by
    split
    · exact .modDec (.modDec (.cond (by
        split
        · exact h.modDec.sliceLost
        · exact h) fun h => h.auDone))
    · exact .nalIn (.modDec (.modDec (.cond (by
        split
        · exact h.modDec.sliceLost
        · exact h) fun h => h.auDone))))) fun _ => .modDec (.modDec (.cond (by
    split
    · exact h.modDec.sliceLost
    · exact h) fun h => h.auDone))) fun _ => .nalIn (.modDec (.cond (by
    split
    · exact h.modDec.sliceLost
    · exact h) fun h => h.auDone))) fun h => h.auDone

theorem Keeps.decFlush (h : Keeps s t) {n : Nat} : Keeps s (t.decFlush n) := by
  unfold State.decFlush
  exact h.withDec.showDstate.wr.setShedding.showBacklog

theorem Keeps.decFlushes (h : Keeps s t) {v : Word32} : Keeps s (decFlushFx v t) := by
  unfold decFlushFx
  exact h.each fun _ _ h => h.decFlush

theorem Keeps.activate (h : Keeps s t) {n : Nat} {sps : Sps} : Keeps s (t.activate n sps) := by
  unfold State.activate
  extract_lets +onlyGivenNames height u was put
  have hu : Keeps s u := h.wr.wrB.wr.wr.wr
  have hput (v : Nat) {u : State} (hu : Keeps s u) : Keeps s (put v u) := hu.modDec.showDstate
  clear_value u put
  exact .ite (fun _ => hput _ (hu.cond fun h => h.inc.decRaise)) fun _ => .ite (fun _ => hput _ (hu.cond fun h => h.decRaise)) fun _ => hput _ hu

theorem Keeps.strReady (h : Keeps s t) {n : Nat} {idx : Nat} {rtp : Nat} : Keeps s (t.strReady n idx rtp) := by
  unfold State.strReady
  exact h.wr.wr.wr.signalStream

theorem Keeps.outOfBounds (h : Keeps s t) {n : Nat} {k : Nat} : Keeps s (t.outOfBounds n k) := by
  unfold State.outOfBounds
  exact h.cond fun h => h.incBy.decRaise

theorem Keeps.concealed (h : Keeps s t) {n : Nat} : Keeps s (t.concealed n) := by
  unfold State.concealed
  exact h.inc.decRaise

theorem Keeps.dpbRead (h : Keeps s t) {n : Nat} {q : DpbPic} : Keeps s (t.dpbRead n q).1 := by
  unfold State.dpbRead
  exact h.readUe

theorem Keeps.decOutput (h : Keeps s t) {n : Nat} {q : DpbPic} : Keeps s (t.decOutput n q) := by
  unfold State.decOutput
  split
  · exact h.incRaise
  · exact .strReady (.wr (.inc (.wr (h.fresh.dpbRead.storeBlocks.outOfBounds.cond fun h => h.concealed))))

theorem Keeps.noteLoad (h : Keeps s t) {samples : Nat} : Keeps s (t.noteLoad samples) := by
  unfold State.noteLoad
  exact h.withDec

theorem Keeps.showDpb (h : Keeps s t) {n : Nat} : Keeps s (t.showDpb n) := by
  unfold State.showDpb
  exact h.wr

theorem Keeps.bump (h : Keeps s t) {n : Nat} : Keeps s (t.bump n) := by
  unfold State.bump
  split
  · exact h
  · exact h.decOutput.modDec

theorem Keeps.bumpAll (h : Keeps s t) {n : Nat} : Keeps s (t.bumpAll n) := by
  unfold State.bumpAll
  exact .showDpb (.modDec (h.each fun _ _ h => h.bump))

theorem Keeps.bumpWhile {n : Nat} {sps : Sps} {full : Bool} (fuel : Nat) {t : State} (h : Keeps s t) : Keeps s (t.bumpWhile n sps full fuel) := by
  induction fuel generalizing t with
  | zero => exact h
  | succ fuel ih =>
    unfold State.bumpWhile
    exact .ite (fun _ => ih h.bump) fun _ => h

theorem Keeps.dpbBefore (h : Keeps s t) {n : Nat} {p : DecPic} {start : Bool} : Keeps s (t.dpbBefore n p start) := by
  unfold State.dpbBefore
  exact .ite (fun _ => .ite (fun _ => h.modDec) fun _ => h.bumpAll) fun _ => h.modDec.bumpWhile _

theorem Keeps.dpbStore (h : Keeps s t) {n : Nat} {q : DpbPic} {pl : Planes} : Keeps s (t.dpbStore n q pl) := by
  unfold State.dpbStore
  exact h.dramStore.outOfBounds.modDec.showDpb

theorem Keeps.dpbMissing (h : Keeps s t) {n : Nat} {p : DecPic} {missing : List Int} : Keeps s (t.dpbMissing n p missing) := by
  unfold State.dpbMissing
  exact h.each fun _ _ h => h.dpbStore

theorem Keeps.refsRead (h : Keeps s t) {n : Nat} {p : DecPic} : Keeps s (t.refsRead n p).1 := by
  unfold State.refsRead
  exact h.each fun _ _ h => h.dpbRead

theorem Keeps.decPicture (h : Keeps s t) {n : Nat} {a : Au} {p : DecPic} {start bad : Bool} : Keeps s (t.decPicture n a p start bad) := by
  unfold State.decPicture
  extract_lets +onlyGivenNames u missing v
  have hv : Keeps s v := h.dpbBefore.dpbMissing
  clear_value v
  have hw : Keeps s (v.refsRead n p).1 := hv.refsRead
  generalize v.refsRead n p = q at hw ⊢
  obtain ⟨w, badRef⟩ := q
  dsimp only at hw ⊢
  exact ((hw.outOfBounds.cond fun h => h.concealed).modDec.dpbStore.noteLoad.bumpWhile _).showDpb

theorem Keeps.decodeDone (h : Keeps s t) {n : Nat} {p : DecPic} : Keeps s (decodeDoneFx n p t) := by
  unfold decodeDoneFx
  split
  · exact h
  · next a rest _ =>
    have hu : Keeps s (t.auRead n a).1 := h.auRead
    generalize t.auRead n a = q at hu ⊢
    obtain ⟨u, bad⟩ := q
    dsimp only at hu ⊢
    generalize hv : u.modDec n _ = v
    have hv : Keeps s v := hv ▸ hu.modDec
    have hdrop {w : State} (hw : Keeps s w) : Keeps s ((w.modDec n fun d => { d with late := false }).backlog n) := hw.modDec.backlog
    have hirap : Keeps s (v.cond a.irap fun s =>
        (s.modDec n fun d => { d with rasl := a.irap && (a.restart || !(t.decSt n).started), started := true }).activate n p.sps) :=
      hv.cond fun h => h.modDec.activate
    exact .ite (fun _ => hdrop hv.inc) fun _ => .ite (fun _ => hdrop hv.inc.decRaise) fun _ => .ite (fun _ => hdrop hirap) fun _ =>
      .ite (fun _ => hdrop (hirap.cond fun h => h.bumpAll)) fun _ => hirap.decPicture.backlog

theorem Keeps.clearDecStat (h : Keeps s t) {n : Nat} : Keeps s (t.clearDecStat n) := by
  unfold State.clearDecStat
  exact h.each fun _ _ h => h.setWord

theorem Keeps.decApplied (h : Keeps s t) {old : State} : Keeps s (t.decApplied old) := by
  unfold State.decApplied
  exact .each (.wr (h.each fun _ _ h => .ite (fun _ => h) fun _ => .ite (fun _ => h.decFlush) fun _ => h.cond fun h =>
      h.decFlush.clearDecStat)) fun _ _ h => h.backlog

theorem Keeps.modNet (h : Keeps s t) {p : Nat} {f : NetPort → NetPort} : Keeps s (t.modNet p f) := by
  unfold State.modNet
  exact h.sideNet

theorem Keeps.modStr (h : Keeps s t) {n : Nat} {f : StrSt → StrSt} : Keeps s (t.modStr n f) := by
  unfold State.modStr
  exact h.withStr

theorem Keeps.netLevel (h : Keeps s t) {p : Nat} : Keeps s (t.netLevel p) := by
  unfold State.netLevel
  exact h.level

theorem Keeps.tsqLevels (h : Keeps s t) : Keeps s t.tsqLevels := by
  unfold State.tsqLevels
  exact h.wr.level.level

theorem Keeps.tsqPush (h : Keeps s t) {e : TsEntry} : Keeps s (t.tsqPush e) := by
  unfold State.tsqPush
  refine .ite (fun hlt => .tsqLevels (h.net fun _ => ?_)) fun _ => h.wr.inc.raise
  rw [List.length_append]
  exact hlt

theorem Keeps.tsqPop (h : Keeps s t) : Keeps s (tsqPopFx t) := by
  unfold tsqPopFx
  exact (h.net fun hq => (List.length_drop ▸ Nat.le_trans (Nat.sub_le _ _) hq : (t.net.tsq.drop 1).length ≤ 64)).tsqLevels

theorem Keeps.tsqFlush (h : Keeps s t) : Keeps s (tsqFlushFx t) := by
  unfold tsqFlushFx
  exact (h.net fun _ => Nat.zero_le _).tsqLevels

theorem Keeps.tsqOvfClr (h : Keeps s t) : Keeps s (tsqOvfClrFx t) := by
  unfold tsqOvfClrFx
  exact h.wr

theorem Keeps.txqTail (h : Keeps s t) {p : Nat} {v : Word32} : Keeps s (txqTailFx p v t) := by
  unfold txqTailFx
  exact h.wr.modNet

theorem Keeps.txPop (h : Keeps s t) {p : Nat} : Keeps s (t.txPop p) := by
  unfold State.txPop
  exact h.wr.modNet

theorem Keeps.ringDrop (h : Keeps s t) {p : Nat} : Keeps s (t.ringDrop p) := by
  unfold State.ringDrop
  exact h.incRaise

theorem Keeps.txHost (h : Keeps s t) {p : Nat} : Keeps s (t.txHost p) := by
  unfold State.txHost
  extract_lets +onlyGivenNames a launch
  have hu : Keeps s (t.dramRead a 32).2.2 := h.dramRead
  generalize t.dramRead a 32 = q at hu ⊢
  obtain ⟨d, bad, u⟩ := q
  dsimp only at hu ⊢
  have hv : Keeps s (u.dramRead (leAt d 0 8) (if bad then 0 else leAt d 8 2)).2.2 := hu.dramRead
  generalize u.dramRead (leAt d 0 8) (if bad then 0 else leAt d 8 2) = q at hv ⊢
  obtain ⟨frame, lost, v⟩ := q
  dsimp only at hv ⊢
  exact .ite (fun _ => hv.ringDrop.txPop) fun _ => ((hv.emit.dramStore.cond fun h => h.incRaise).cond fun h => h.tsqPush).inc.txPop

theorem Keeps.prvRead (h : Keeps s t) {y : Nat} {x : Nat} {n : Nat} : Keeps s (t.prvRead y x n) := by
  unfold State.prvRead
  split
  · exact h
  · exact h.each fun _ _ h => h.readUe

theorem Keeps.txPreview (h : Keeps s t) {p : Nat} : Keeps s (t.txPreview p) := by
  unfold State.txPreview
  split
  · exact h
  · exact .withPrv (h.prvRead.emit.inc.inc.cond fun h => h.incRaise)

theorem Keeps.txLaunch (h : Keeps s t) {p : Nat} : Keeps s (txLaunchFx p t) := by
  unfold txLaunchFx
  exact .ite (fun _ => .ite (fun _ => h.freshB.txHost) fun _ => h.freshB.txPreview) fun _ => .ite (fun _ => h.txHost) fun _ => .ite (fun _ =>
      h.txPreview) fun _ => h

theorem Keeps.rxHost (h : Keeps s t) {p : Nat} {bytes : List Byte} : Keeps s (t.rxHost p bytes) := by
  unfold State.rxHost
  refine .ite (fun _ => h.ringDrop) fun _ => ?_
  extract_lets +onlyGivenNames a long
  have hu : Keeps s (t.dramRead a 8).2.2 := h.dramRead
  generalize t.dramRead a 8 = q at hu ⊢
  obtain ⟨d, bad, u⟩ := q
  dsimp only at hu ⊢
  exact .ite (fun _ => hu.ringDrop.wr) fun _ => hu.dramStore.dramStore.dramStore.dramStore.wr

theorem Keeps.sendReport (h : Keeps s t) {r : IgmpDue} : Keeps s (t.sendReport r) := by
  unfold State.sendReport
  exact h.cond fun h => h.emit

theorem Keeps.startReports (h : Keeps s t) {n : Nat} {leg : Nat} {l : Leg} {leave : Bool} : Keeps s (t.startReports n leg l leave) := by
  unfold State.startReports
  exact h.sideNet.cond fun h => h.sendReport

theorem Keeps.igmpQuery (h : Keeps s t) {p : Nat} {version : Nat} {group : Nat} : Keeps s (t.igmpQuery p version group) := by
  unfold State.igmpQuery
  exact h.modNet.each fun _ _ h => (by
    split
    · exact h
    · exact h.cond fun h => h.sendReport)

theorem Keeps.igmpTimer (h : Keeps s t) {port : Nat} {stream : Nat} {leg : Nat} : Keeps s (igmpTimerFx port stream leg t) := by
  unfold igmpTimerFx
  exact .sideNet (h.each fun _ _ h => h.sendReport)

theorem Keeps.legLevel (h : Keeps s t) {n : Nat} : Keeps s (t.legLevel n) := by
  unfold State.legLevel
  exact h.cond fun h => h.level

theorem Keeps.legDown (h : Keeps s t) {n : Nat} {leg : Nat} : Keeps s (legDownFx n leg t) := by
  unfold legDownFx
  exact h.wr.level

theorem Keeps.ancStore (h : Keeps s t) {n : Nat} {arrived : Nat} {body : List Byte} : Keeps s (t.ancStore n arrived body) := by
  unfold State.ancStore
  exact h.dramStore.wr.wr

theorem Keeps.pictureIn (h : Keeps s t) {n : Nat} {arrived : Nat} {r : Rtp} {gap : Bool} : Keeps s (t.pictureIn n arrived r gap) := by
  unfold State.pictureIn
  exact h.modStr.cond fun h => h.wr

theorem Keeps.strDeliver (h : Keeps s t) {n : Nat} {arrived : Nat} {r : Rtp} {gap : Bool} : Keeps s (t.strDeliver n arrived r gap) := by
  unfold State.strDeliver
  split
  · exact h.pictureIn
  · exact h.audioPacket
  · exact h.ancStore
  · exact h.depacket

theorem Keeps.strLeave (h : Keeps s t) {n : Nat} {k : Nat} : Keeps s (t.strLeave n k) := by
  unfold State.strLeave
  exact .ite (fun _ => .incRaise (.cond (h.cond fun h => h.inc) fun h => h.inc)) fun _ => .cond (.cond (h.cond fun h => h.inc) fun h =>
      h.inc) fun h => h.inc

theorem Keeps.strWindow (h : Keeps s t) {n : Nat} {low : Nat} : Keeps s (t.strWindow n low) := by
  unfold State.strWindow
  exact .modStr (h.each fun _ _ h => h.strLeave)

theorem Keeps.strDrain {n : Nat} (fuel : Nat) {gap : Bool} {t : State} (h : Keeps s t) : Keeps s (t.strDrain n gap fuel) := by
  induction fuel generalizing gap t with
  | zero => exact h
  | succ fuel ih =>
    unfold State.strDrain
    dsimp only
    split
    · exact ih h.modStr.strDeliver
    · exact .ite (fun _ => ih h.modStr) fun _ => h

theorem Keeps.strTake (h : Keeps s t) {n ext : Nat} {r : Rtp} : Keeps s (t.strTake n ext r) := by
  have hu : Keeps s t.fresh.2 := h.fresh
  unfold State.strTake
  generalize t.fresh = q at hu ⊢
  obtain ⟨rate, u⟩ := q
  dsimp only at hu ⊢
  exact ((hu.inc.wr.modStr.cond fun h => h.strWindow).cond fun h => h.wr).strDrain _

theorem Keeps.rtpIn (h : Keeps s t) {n : Nat} {leg : Nat} {r : Rtp} : Keeps s (t.rtpIn n leg r) := by
  unfold State.rtpIn
  exact .ite (fun _ => h.inc) fun _ => .ite (fun _ => .inc (by
    split
    · exact h.wr.legLevel.modStr
    · exact h.wr.legLevel)) fun _ => .ite (fun _ => .modStr (by
    split
    · exact h.wr.legLevel.modStr
    · exact h.wr.legLevel)) fun _ => .strTake (.modStr (by
    split
    · exact h.wr.legLevel.modStr
    · exact h.wr.legLevel))

theorem Keeps.arpLearn (h : Keeps s t) {p ip mac : Nat} : Keeps s (t.arpLearn p ip mac) := by
  unfold State.arpLearn
  extract_lets +onlyGivenNames pick
  clear_value pick
  cases pick
  · exact h.fresh.setImm.setImm.setImm
  · exact h.setImm.setImm.setImm

theorem Keeps.rxRest (h : Keeps s t) {p : Nat} {f : NetFrame} : Keeps s (t.rxRest p f) := by
  unfold State.rxRest
  exact .ite (fun _ => h.rxHost) fun _ => h.inc

theorem Keeps.rxUdp (h : Keeps s t) {p : Nat} {f : NetFrame} {dst : Nat} {src : Nat} {udp : Nat} {rtp : Rtp} : Keeps s
    (t.rxUdp p f dst src udp rtp) := by
  unfold State.rxUdp
  split
  · exact h.rtpIn
  · exact h.rxRest

theorem Keeps.rxMatch (h : Keeps s t) {p : Nat} {f : NetFrame} : Keeps s (t.rxMatch p f) := by
  unfold State.rxMatch
  dsimp only
  split
  · exact h.inc
  · exact h.inc
  · split
    · exact h.cond fun h => h.inc
    · exact h.rxUdp
  · exact .ite (fun _ => h.rxRest) fun _ => h.arpLearn.cond fun h => h.emit
  · exact .ite (fun _ => h.emit) fun _ => h.rxRest
  · exact .ite (fun _ => h.igmpQuery) fun _ => h.rxRest
  · exact h.rxUdp
  · exact h.rxRest

theorem Keeps.netFrame (h : Keeps s t) {p : Nat} {f : NetFrame} : Keeps s (netFrameFx p f t) := by
  unfold netFrameFx
  exact .ite (fun _ => .inc (h.inc.incBy.cond fun h => h.incBy.raise)) fun _ => .ite (fun _ => .inc (h.inc.incBy.cond fun h =>
      h.incBy.raise)) fun _ => .rxMatch (h.inc.incBy.cond fun h => h.incBy.raise)

theorem Keeps.srcDrop (h : Keeps s t) {src : Nat} : Keeps s (t.srcDrop src) := by
  unfold State.srcDrop
  exact h.modStr.cond fun h => h.wr

theorem Keeps.rejoin (h : Keeps s t) {p : Nat} : Keeps s (t.rejoin p) := by
  unfold State.rejoin
  exact h.each fun _ _ h => (by
    split
    · exact h
    · exact h.cond fun h => .startReports (h.cond fun h => h.srcDrop))

theorem Keeps.netLink (h : Keeps s t) {p : Nat} {up : Bool} : Keeps s (netLinkFx p up t) := by
  unfold netLinkFx
  exact .cond (h.wrB.wrB.netLevel.each fun _ _ h => h.ptpLost) fun h => h.rejoin

theorem Keeps.sdiLock (h : Keeps s t) {n : Nat} {lock : Bool} {rate : Nat} : Keeps s (sdiLockFx n lock rate t) := by
  unfold sdiLockFx
  exact .srcDrop (h.wrB.wr.raise.cond fun h => h.inc.wr)

theorem Keeps.sdiFrame (h : Keeps s t) {n : Nat} {w : Nat} {h₀ : Nat} {scan : Nat} {fps : Nat} {r1001 : Bool} {vpid : Nat} {skewUs : Nat}
    {crcErrs : Nat} : Keeps s (sdiFrameFx n w h₀ scan fps r1001 vpid skewUs crcErrs t) := by
  unfold sdiFrameFx
  exact .ite (fun _ => h.incBy) fun _ => .cond (.level (h.incBy.wr.wrB.cond fun h => h.inc)) fun h => h.level

theorem Keeps.strPicture (h : Keeps s t) {n : Nat} {a : PicAsm} : Keeps s (t.strPicture n a) := by
  unfold State.strPicture
  extract_lets +onlyGivenNames u
  have hu : Keeps s u := h.cond fun h => h.incRaise
  clear_value u
  refine .ite (fun _ => hu) fun _ => ?_
  split
  · exact hu.incRaise
  · extract_lets +onlyGivenNames w height scan
    generalize hq : State.convert _ _ _ _ _ _ = q
    have hq : Keeps s q.2 := hq ▸ hu.convert
    exact hq.storeSurface.wr.wr.wr.signalStream

theorem Keeps.sdiPicture (h : Keeps s t) {n : Nat} {p : Picture} : Keeps s (t.sdiPicture n p) := by
  unfold State.sdiPicture
  split
  · exact h.incRaise
  · extract_lets +onlyGivenNames w height c
    generalize hq : State.convert _ _ _ _ _ _ = q
    have hq : Keeps s q.2 := hq ▸ h.convert
    exact hq.storeSurface.wr.wr.signalStream

theorem Keeps.picture (h : Keeps s t) {src : Nat} {p : Picture} : Keeps s (pictureFx src p t) := by
  unfold pictureFx
  exact .ite (fun _ => (by
    split
    · exact h
    · exact h.modStr.strPicture)) fun _ => .ite (fun _ => h) fun _ => h.sdiPicture

theorem Keeps.legApplied (h : Keeps s t) {old : State} {x : Nat × Nat} : Keeps s (t.legApplied old x) := by
  unfold State.legApplied
  exact .ite (fun _ => h) fun _ => (by
    dsimp only
    split
    · exact .wr (by
        split
        · exact h
        · exact h.startReports)
    · exact .startReports (by
        split
        · exact h
        · exact h.startReports))

theorem Keeps.strApplied (h : Keeps s t) {old : State} {n : Nat} : Keeps s (t.strApplied old n) := by
  unfold State.strApplied
  exact .ite (fun _ => h.srcDrop) fun _ => .ite (fun _ => h.srcDrop.wr.level) fun _ => .ite (fun _ => h.srcDrop) fun _ => h.srcDrop.modStr.wr

theorem Keeps.netApplied (h : Keeps s t) {old : State} : Keeps s (t.netApplied old) := by
  unfold State.netApplied
  exact .each (.each (.each (h.each fun _ _ h => .netLevel (.cond (h.cond fun h => h.wr.wr) fun h => h.wr.modNet)) fun _ _ h =>
      h.strApplied) fun _ _ h => h.legApplied) fun _ _ h => h.srcDrop

theorem Keeps.modReg (h : Keeps s t) {k : Nat} {f : RegSt → RegSt} : Keeps s (t.modReg k f) := by
  unfold State.modReg
  exact h.withSag

theorem Keeps.setSagFlag (h : Keeps s t) {k : Nat} {i : Nat} {b : Bool} : Keeps s (t.setSagFlag k i b) := by
  unfold State.setSagFlag
  exact h.setImm

theorem Keeps.showAction (h : Keeps s t) {k : Nat} : Keeps s (t.showAction k) := by
  unfold State.showAction
  exact .level (h.wr.setSagFlag.cond fun h => h.raise)

theorem Keeps.readHeld (h : Keeps s t) {f : Nat} {y : Nat} : Keeps s (t.readHeld f y) := by
  unfold State.readHeld
  exact h.each fun _ _ h => h.readUe.cond fun h => h.modReg

theorem Keeps.trip (h : Keeps s t) {ks : List Nat} {suspect : Bool} {counted : List Nat} : Keeps s (t.trip ks suspect counted) := by
  unfold State.trip
  exact h.each fun _ _ h => .showAction (.modReg (h.cond fun h => h.incRaise))

end Sys2Proof.Proofs.Soundness


/-!
Soundness of composition, glaze, tiles and lamps, of commits and ticks, and of the access to registers.
-/

namespace Sys2Proof.Proofs.Soundness
open Sys2Proof.Machine Sys2Proof.Laws

-- Many short proofs: elaborated one after the other, since each waiting one would hold a thread's stack.
set_option Elab.async false

variable {s t : State}

theorem Keeps.readLayers (h : Keeps s t) {f : Nat} {y : Nat} : Keeps s (t.readLayers f y) := by
  unfold State.readLayers
  exact h.each fun _ _ h => .cond (h.each fun _ _ h => h.readUe) fun h => h.suspect.trip

theorem Keeps.lineOut (h : Keeps s t) {f : Nat} {y : Nat} {row : List Pixel} : Keeps s (t.lineOut f y row) := by
  unfold State.lineOut
  exact h.readHeld.withCmp.stageLine.wr.emit

theorem Keeps.countClips (h : Keeps s t) {px : List ( Pixel × List ( Nat × Nat ) )} : Keeps s (t.countClips px) := by
  unfold State.countClips
  exact h.each fun _ _ h => h.incBy

theorem Keeps.lineComposed (h : Keeps s t) {y : Nat} {f : Nat} : Keeps s (lineComposedFx y f t) := by
  unfold lineComposedFx
  exact h.readLayers.countClips.lineOut

theorem Keeps.fillLine (h : Keeps s t) {y : Nat} {f : Nat} : Keeps s (t.fillLine y f) := by
  unfold State.fillLine
  exact .lineOut (.withCmp (.wr (.wr (.incRaise (.countClips (h.fresh.cond fun h => h.readLayers))))))

theorem Keeps.tgwSlot (h : Keeps s t) {y : Nat} : Keeps s (tgwSlotFx y t) := by
  unfold tgwSlotFx
  exact .cond (h.wr.wrB.cond fun h => h.raise) fun h => h.raise

theorem Keeps.compositionDone (h : Keeps s t) : Keeps s (compositionDoneFx t) := by
  unfold compositionDoneFx
  exact h.wr.inc.inc.raise

theorem Keeps.saveCopy (h : Keeps s t) {k : Nat} : Keeps s (t.saveCopy k) := by
  unfold State.saveCopy
  exact .ite (fun _ => h) fun _ => h.dramStore.modReg

theorem Keeps.compare (h : Keeps s t) {k : Nat} {crc : Word32} {want : Word32} : Keeps s (t.compare k crc want) := by
  unfold State.compare
  exact .ite (fun _ => h.modReg.saveCopy) fun _ => h.incRaise.wr.modReg

theorem Keeps.sagCrc (h : Keeps s t) {k : Nat} : Keeps s (sagCrcFx k t) := by
  unfold sagCrcFx
  dsimp only
  split
  · exact h.setImm.setSagFlag.modReg.compare
  · exact .ite (fun _ => h.setImm.setSagFlag.modReg.compare) fun _ => h.setImm.setSagFlag.modReg.setImm.setSagFlag
  · exact h.setImm.setSagFlag.modReg

theorem Keeps.sagRelearn (h : Keeps s t) : Keeps s (sagRelearnFx t) := by
  unfold sagRelearnFx
  exact h.each fun _ _ h => h.setSagFlag

theorem Keeps.hidden (h : Keeps s t) {crc : Word32} : Keeps s (hiddenFx crc t) := by
  unfold hiddenFx
  exact .ite (fun _ => h.wr) fun _ => h.wr.incRaise.ground

theorem Keeps.bar4Write (h : Keeps s t) {off : Nat} {data : List Byte} : Keeps s (bar4WriteFx off data t) := by
  unfold bar4WriteFx
  refine .ite (fun _ => h.oor) fun _ => ?_
  extract_lets +onlyGivenNames before r
  have hr : Keeps s r.1 := h.dramStore.violate
  exact hr.trip

theorem Keeps.closeFrame (h : Keeps s t) : Keeps s t.closeFrame := by
  unfold State.closeFrame
  exact .withCmp (.cond (.each (.cond (.withFrm (.cond (h.cond fun h => h.incBy.raise) fun h => h.incRaise)) fun h => h.ground) fun _ _ h =>
      h.setSagFlag.cond fun h => h.incRaise) fun h => h.incRaise)

theorem Keeps.sagRestart (h : Keeps s t) {old : State} {k : Nat} : Keeps s (t.sagRestart old k) := by
  unfold State.sagRestart
  exact .ite (fun _ => h) fun _ => h.withSag.setSagFlag.setSagFlag.setSagFlag

theorem Keeps.openFrame (h : Keeps s t) {old : State} : Keeps s (t.openFrame old) := by
  unfold State.openFrame
  exact .wrB (.wr (.wr (.wr (.withPrv (.cond (.each (.trip (.trip (h.each fun _ _ h => h.sagRestart.cond fun h => h.modReg))) fun _ _ h =>
      h.showAction) fun h => h.inc)))))

theorem Keeps.tgpStart (h : Keeps s t) : Keeps s (tgpStartFx t) := by
  unfold tgpStartFx
  exact .ite (fun _ => .wr (.wr (.ite (fun _ => h.withPrv) fun _ => h))) fun _ => .wrB (.wr (.withPrv (.ite (fun _ => h.withPrv) fun _ => h)))

theorem Keeps.captureDone (h : Keeps s t) : Keeps s (captureDoneFx t) := by
  unfold captureDoneFx
  exact h.storeSurface.withPrv.inc.raise.wr

theorem Keeps.tgpLine (h : Keeps s t) {y : Nat} {late : Bool} : Keeps s (tgpLineFx y late t) := by
  unfold tgpLineFx
  exact .cond (.cond (.cond (h.wr.wrB.cond fun h => h.raise) fun h => h.raise) fun h => h.fresh.incRaise.wr.wr.withPrv.cond fun h =>
      h.inc.inc) fun h => h.prvRead.emit

theorem Keeps.showCompose (h : Keeps s t) : Keeps s t.showCompose := by
  unfold State.showCompose
  exact h.wr.each fun _ _ h => (by
    split
    · exact h.wr.wr.wr.wr
    · exact h.wr.wr.wr.wr)

theorem Keeps.segmentDispatch (h : Keeps s t) : Keeps s (segmentDispatchFx t) := by
  unfold segmentDispatchFx
  split
  · exact h.withMap.wr.wr.wr
  · exact h

theorem Keeps.readStage (h : Keeps s t) {r : Desc} {f : Nat} {b : Nat} {sx : Nat} {ws : Nat} : Keeps s (t.readStage r f b sx ws) := by
  unfold State.readStage
  exact .ite (fun _ => h) fun _ => h.each fun _ _ h => h.readUe

theorem Keeps.packBand (h : Keeps s t) {r : Desc} {k : SegKey} : Keeps s (t.packBand r k) := by
  unfold State.packBand
  exact .ite (fun _ => h) fun _ => h.withMap.cond fun h => h.modCoil

theorem Keeps.segmentEncodeDone (h : Keeps s t) {e : Nat} {k : SegKey} : Keeps s (segmentEncodeDoneFx e k t) := by
  unfold segmentEncodeDoneFx
  dsimp only
  split
  · exact h.withMap.wr
  · split
    · exact h.withMap.wr
    · exact .packBand (.withMap (h.withMap.wr.readStage.inc.cond fun h => h.incBy.incBy))

theorem Keeps.bandLaunch (h : Keeps s t) {port : Nat} : Keeps s (bandLaunchFx port t) := by
  unfold bandLaunchFx
  split
  · exact h
  · exact h.cond fun h => h.modCoil.emit.incBy

theorem Keeps.dropBands (h : Keeps s t) {p : Nat} : Keeps s (t.dropBands p) := by
  unfold State.dropBands
  exact h.cond fun h => h.modCoil.incBy

theorem Keeps.bandStop (h : Keeps s t) {port : Nat} : Keeps s (bandStopFx port t) := by
  unfold bandStopFx
  exact .ite (fun _ => h.cond fun h => h.withCmp) fun _ => .withFrm (h.cond fun h => h.withCmp)

theorem Keeps.abandonBand (h : Keeps s t) {b : Nat × Nat × Nat} : Keeps s (t.abandonBand b) := by
  unfold State.abandonBand
  split
  · exact h.incRaise
  · exact h.fresh.incRaise

theorem Keeps.crazeDesc (h : Keeps s t) {r : Desc} : Keeps s (t.crazeDesc r) := by
  unfold State.crazeDesc
  exact h.setImm.setImm.cond fun h => h.wr.raise

theorem Keeps.closeMap (h : Keeps s t) : Keeps s t.closeMap := by
  unfold State.closeMap
  exact .withFrmMap (.each (.each (.each (.cond (h.each fun _ _ h => h.abandonBand) fun h => h.raise) fun _ _ h => h.dropBands) fun _ _ h =>
      h.crazeDesc) fun _ _ h => h.wr.wr)

theorem Keeps.setSel (h : Keeps s t) {band : Nat} {copy : Nat} {valid : Bool} {rep : Bool} {reps : Nat} : Keeps s
    (t.setSel band copy valid rep reps) := by
  unfold State.setSel
  exact h.setImmByte

theorem Keeps.showStore (h : Keeps s t) : Keeps s t.showStore := by
  unfold State.showStore
  exact h.wr.wrB

theorem Keeps.queueSeg (h : Keeps s t) {band : Nat} {format : Nat} {sg : Seg} : Keeps s (t.queueSeg band format sg) := by
  unfold State.queueSeg
  exact .ite (fun _ => h.incRaise) fun _ => h.withTil.wr

theorem Keeps.takeSeg (h : Keeps s t) {by_ : Nat} {feed : Nat} {format : Nat} {sg : Seg} : Keeps s (t.takeSeg by_ feed format sg) := by
  unfold State.takeSeg
  exact .ite (fun _ => h.incRaise) fun _ => .ite (fun _ => h.inc) fun _ => .ite (fun _ => h) fun _ => h.queueSeg

theorem Keeps.acceptBand (h : Keeps s t) {b : BandPkt} : Keeps s (t.acceptBand b) := by
  unfold State.acceptBand
  exact .ite (fun _ => h.inc) fun _ => .ite (fun _ => h.incRaise) fun _ => h.each fun _ _ h => h.takeSeg

theorem Keeps.bandReceive (h : Keeps s t) {port : Nat} {b : BandPkt} : Keeps s (bandReceiveFx port b t) := by
  unfold bandReceiveFx
  exact .ite (fun _ => h.cond fun h => h.inc) fun _ => h.cond fun h => h.acceptBand

theorem Keeps.writeSeg (h : Keeps s t) {q : QSeg} {lines : List ( List Pixel )} : Keeps s (t.writeSeg q lines) := by
  unfold State.writeSeg
  exact h.each fun _ _ h => .ite (fun _ => h) fun _ => h.withTil

theorem Keeps.endRepeat (h : Keeps s t) {band : Nat} : Keeps s (t.endRepeat band) := by
  unfold State.endRepeat
  exact h.setSel.withTil

theorem Keeps.moveBand (h : Keeps s t) {band : Nat} : Keeps s (t.moveBand band) := by
  unfold State.moveBand
  exact h.setSel.withTil

theorem Keeps.flipBand (h : Keeps s t) {band : Nat} : Keeps s (t.flipBand band) := by
  unfold State.flipBand
  exact h.moveBand.endRepeat

theorem Keeps.showDirect (h : Keeps s t) {band : Nat} : Keeps s (t.showDirect band) := by
  unfold State.showDirect
  exact h.moveBand.withTil.level

theorem Keeps.queueDirect (h : Keeps s t) : Keeps s t.queueDirect := by
  unfold State.queueDirect
  exact .ite (fun _ => h) fun _ => h.withLsm

theorem Keeps.segmentDecode (h : Keeps s t) : Keeps s (segmentDecodeFx t) := by
  unfold segmentDecodeFx
  split
  · exact h
  · dsimp only
    split
    · exact h.withTil
    · exact .ite (fun _ => h.withTil.inc) fun _ => .ite (fun _ => h.withTil.writeSeg.withTil.showDirect.showStore.queueDirect) fun _ =>
          h.withTil.writeSeg.withTil

theorem Keeps.flipBands (h : Keeps s t) {bands : List Nat} {direct : Bool} : Keeps s (t.flipBands bands direct) := by
  unfold State.flipBands
  extract_lets +onlyGivenNames u done bad v w
  have hu : Keeps s u := h.each fun _ _ h => h.endRepeat
  clear_value u done bad
  have hv : Keeps s v := hu.each fun u b h => by cases direct <;> [exact h.flipBand; exact h.endRepeat]
  clear_value v
  have hw : Keeps s w := hv.each fun _ _ h => h.withTil.setSel
  clear_value w
  exact hw.withTil.wr.wr.incBy.cond fun h => h.incBy.raise

theorem Keeps.showStale (h : Keeps s t) : Keeps s t.showStale := by
  unfold State.showStale
  exact h.incBy.withTil.level

theorem Keeps.clearBands (h : Keeps s t) {p : Nat → Bool} : Keeps s (t.clearBands p) := by
  unfold State.clearBands
  exact .raise (.inc (h.each fun _ _ h => h.setSel))

theorem Keeps.applyClears (h : Keeps s t) {old : Cfg} : Keeps s (t.applyClears old) := by
  unfold State.applyClears
  exact .withTil (.ite (fun _ => h.clearBands) fun _ => h.cond fun h => h.clearBands)

theorem Keeps.closeBands (h : Keeps s t) {bands : List Nat} {direct : Bool} {held : Bool} : Keeps s (t.closeBands bands direct held) := by
  unfold State.closeBands
  exact .wr (.withTil (.ite (fun _ => h.withTil) fun _ => h.flipBands))

theorem Keeps.storeClr (h : Keeps s t) : Keeps s (storeClrFx t) := by
  unfold storeClrFx
  exact h.withTil

theorem Keeps.addDebt (h : Keeps s t) {i : Nat} {n : Nat} : Keeps s (t.addDebt i n) := by
  unfold State.addDebt
  exact h.setImmByte.cond fun h => h.incRaise

theorem Keeps.addSums (h : Keeps s t) {sums : List ( Nat × Nat )} : Keeps s (t.addSums sums) := by
  unfold State.addSums
  exact h.withThm

theorem Keeps.slotComputeStart (h : Keeps s t) : Keeps s (slotComputeStartFx t) := by
  unfold slotComputeStartFx
  split
  · exact h
  · exact .ite (fun _ => h) fun _ => h.calSync.withLsm.wr

theorem Keeps.lamp {r : SlotRun} {a : SlotAcc} {i : Nat} (h : Keeps s a.s) : Keeps s (SlotAcc.lamp r a i).s := by
  unfold SlotAcc.lamp
  dsimp only
  exact h.cond fun h => h.setImmByte

theorem Keeps.lamps {r : SlotRun} {lamps : List Nat} {a : SlotAcc} (h : Keeps s a.s) : Keeps s (lamps.foldl (SlotAcc.lamp r) a).s := by
  induction lamps generalizing a with
  | nil => exact h
  | cons i lamps ih => exact ih h.lamp

theorem Keeps.stopRun (h : Keeps s t) : Keeps s t.stopRun.2 := by
  unfold State.stopRun
  split
  · exact h
  · next r _ =>
    have hu : Keeps s t.calSync.fresh.2 := h.calSync.fresh
    generalize t.calSync.fresh = q at hu ⊢
    obtain ⟨v, u⟩ := q
    dsimp only at hu ⊢
    generalize hacc : List.foldl _ _ _ = acc
    have hacc : Keeps s acc.s := hacc ▸ Keeps.lamps hu
    exact hacc.withFreeLsm.wr

theorem Keeps.slotComputeDone (h : Keeps s t) : Keeps s (slotComputeDoneFx t) := by
  unfold slotComputeDoneFx
  split
  · exact h
  · refine .ite (fun _ => h.stopRun) fun _ => ?_
    extract_lets +onlyGivenNames u lamps acc _ v
    have hacc : Keeps s acc.s := Keeps.lamps h.calSync
    have hv : Keeps s v := hacc.withFree.addSums
    clear_value v
    exact (hv.withLsm.cond fun h => h.withLsm).wr.wr.inc

theorem Keeps.abandonSlots (h : Keeps s t) : Keeps s t.abandonSlots := by
  unfold State.abandonSlots
  exact h.stopRun.withLsm.cond fun h => h.incBy.raise

theorem Keeps.showLsm (h : Keeps s t) : Keeps s t.showLsm := by
  unfold State.showLsm
  exact .wr (.wr (h.cond fun h => h.wr.raise))

theorem Keeps.dieThrottle (h : Keeps s t) : Keeps s (dieThrottleFx t) := by
  unfold dieThrottleFx
  exact .ite (fun _ => h.wrB.level) fun _ => .cond (.withThm (h.wrB.level.wr.cond fun h => h.inc)) fun h => h.inc.showLsm

theorem Keeps.latchGain (h : Keeps s t) : Keeps s t.latchGain := by
  unfold State.latchGain
  exact h.wr

theorem Keeps.calWrite (h : Keeps s t) {w : Nat} {v : Word32} : Keeps s (calWriteFx w v t) := by
  unfold calWriteFx
  exact .ite (fun _ => h) fun _ => .ite (fun _ => h.withCor) fun _ => .withCor (.setImm (by
    split
    · exact h.cond fun h => h.setImm
    · exact h))

theorem Keeps.debtClr (h : Keeps s t) : Keeps s (debtClrFx t) := by
  unfold debtClrFx
  exact h.withCor

theorem Keeps.clearDebts (h : Keeps s t) : Keeps s t.clearDebts := by
  unfold State.clearDebts
  exact .ite (fun _ => (h.imm fun hm => smWf_keep _ hm).withCor) fun _ => h

theorem Keeps.showBus (h : Keeps s t) : Keeps s t.showBus := by
  unfold State.showBus
  exact h.wr.wr.wr.wr.wr

theorem Keeps.setStatus (h : Keeps s t) {i : Nat} {v : Nat} : Keeps s (t.setStatus i v) := by
  unfold State.setStatus
  exact h.setImm

theorem Keeps.showStatus (h : Keeps s t) : Keeps s t.showStatus := by
  unfold State.showStatus
  exact h.wr.wr.wr

theorem Keeps.forgetStatus (h : Keeps s t) : Keeps s t.forgetStatus := by
  unfold State.forgetStatus
  exact (h.imm fun hm => smWf_keep _ hm).showStatus

theorem Keeps.openSlots (h : Keeps s t) : Keeps s t.openSlots := by
  unfold State.openSlots
  exact .ite (fun _ => h) fun _ => h.withLmpLsm.cond fun h => h.each fun _ _ h => h.modGrp

theorem Keeps.darkNow (h : Keeps s t) : Keeps s t.darkNow := by
  unfold State.darkNow
  refine .ite (fun _ => h) fun _ => ?_
  extract_lets +onlyGivenNames here begun u
  have hu : Keeps s u := h.stopRun.stopSlots
  clear_value u
  exact hu.withLmpTil.cond fun h => (h.each fun _ _ h => h.rowsLow).cond fun h => h.wr

theorem Keeps.busTick (h : Keeps s t) {old : Cfg} {oldP : Nat → Nat} : Keeps s (t.busTick old oldP) := by
  unfold State.busTick
  extract_lets +onlyGivenNames g start stop sent since due reset _ u v w x y stale z
  have hv : Keeps s v := h.withLmp.cond fun h => h.wr
  clear_value v
  have hw : Keeps s w := hv.cond fun h => (Keeps.withLmpLsm (h.each fun _ _ h => h.rowsOff)).wr.wr
  clear_value w
  have hx : Keeps s x := hw.cond fun h => h.showStatus
  clear_value x
  have hy : Keeps s y := hx.cond fun h => (h.each fun _ _ h => h.setImm).forgetStatus
  clear_value y
  have hz : Keeps s z := hy.wr
  clear_value z stale
  exact .withLmp (hz.each fun _ _ h => .modGrp (.cond (h.cond fun h => h.incRaise) fun h => h.wr.wrI))

theorem Keeps.brightTick (h : Keeps s t) : Keeps s t.brightTick := by
  unfold State.brightTick
  exact h.loopRun.wr.withLmp

theorem Keeps.sendCfg (h : Keeps s t) {n : Nat} {g : Cfg} {ws : List Nat} : Keeps s (t.sendCfg n g ws) := by
  unfold State.sendCfg
  exact .incBy (.wr (h.each fun _ _ h => h.emit))

theorem Keeps.sendProbe (h : Keeps s t) {n : Nat} {g : Cfg} {row : Nat} {solo : Bool} {cols : List Nat} : Keeps s
    (t.sendProbe n g row solo cols) := by
  unfold State.sendProbe
  exact h.emit.emit

theorem Keeps.slotLoadStart (h : Keeps s t) {n : Nat} : Keeps s (slotLoadStartFx n t) := by
  unfold slotLoadStartFx
  split
  · exact h
  · exact .ite (fun _ => h) fun _ => .cond (h.modGrp.cond fun h => h.withLmp.sendCfg) fun h => h.sendProbe.modGrp

theorem Keeps.emitWrites (h : Keeps s t) {g : Cfg} {n : Nat} {rows : List Nat} {img : List ( Nat × Nat )} : Keeps s (t.emitWrites g n rows img) := by
  unfold State.emitWrites
  exact h.each fun _ _ h => h.each fun _ _ h => h.emit

theorem Keeps.releaseBank (h : Keeps s t) {n : Nat} {j : SlotJob} : Keeps s (t.releaseBank n j) := by
  unfold State.releaseBank
  exact h.withLsm

theorem Keeps.slotLoadDone (h : Keeps s t) {n : Nat} : Keeps s (slotLoadDoneFx n t) := by
  unfold slotLoadDoneFx
  split
  · exact h
  · split
    · exact h.modGrp
    · exact .releaseBank (.withLmp (by
        split
        · exact h.emitWrites.modGrp
        · exact h.emitWrites.modGrp))

theorem Keeps.lightWindow (h : Keeps s t) {n : Nat} {row : Nat} {counts : List Nat} : Keeps s (t.lightWindow n row counts) := by
  unfold State.lightWindow
  exact .inc (.withLmp (h.emit.emit.each fun _ _ h => h.emit))

theorem Keeps.soloWindow (h : Keeps s t) {n : Nat} {row : Nat} {cols : List Nat} : Keeps s (t.soloWindow n row cols) := by
  unfold State.soloWindow
  exact h.lightWindow.emit

theorem Keeps.soloTry (h : Keeps s t) {n : Nat} {now : Nat} : Keeps s (t.soloTry n now) := by
  unfold State.soloTry
  exact .ite (fun _ => h) fun _ => .ite (fun _ => h.sendProbe.soloWindow.modGrp) fun _ => h.modGrp

theorem Keeps.busLatch (h : Keeps s t) : Keeps s t.busLatch := by
  unfold State.busLatch
  exact .cond (h.withLmp.cond fun h => h.wr) fun h => h.forgetStatus.wr

theorem Keeps.idleLatch (h : Keeps s t) : Keeps s t.idleLatch := by
  unfold State.idleLatch
  exact h.cond fun h => h.busLatch

theorem Keeps.startBus (h : Keeps s t) : Keeps s t.startBus := by
  unfold State.startBus
  exact .wr (.raise (.wr (.withLmpLsm (.each (h.each fun _ _ h => h.rowsOff) fun _ _ h => h.emit.sendCfg.emit.emit.emit.modGrp))))

theorem Keeps.stepM (h : Keeps s t) : Keeps s t.stepM := by
  unfold State.stepM
  exact .ite (fun _ => h) fun _ => h.wr.incRaise

theorem Keeps.beginScan (h : Keeps s t) {n : Nat} : Keeps s (t.beginScan n) := by
  unfold State.beginScan
  exact h.modGrp.wr.wr

theorem Keeps.endScan (h : Keeps s t) {n : Nat} : Keeps s (t.endScan n) := by
  unfold State.endScan
  exact h.cond fun h => h.rowsLow

theorem Keeps.darkSlot (h : Keeps s t) {n : Nat} : Keeps s (t.darkSlot n) := by
  unfold State.darkSlot
  exact h.endScan.emit.emit.modGrp.wr

theorem Keeps.litSlot (h : Keeps s t) {n : Nat} {j : SlotJob} : Keeps s (t.litSlot n j) := by
  unfold State.litSlot
  exact .beginScan (.ite (fun _ => h.endScan.emit.modGrp) fun _ => h.endScan.emit.incRaise.modGrp.withLsm)

theorem Keeps.dropStaged (h : Keeps s t) {j : SlotJob} : Keeps s (t.dropStaged j) := by
  unfold State.dropStaged
  exact h.withLsm

theorem Keeps.slotStart (h : Keeps s t) {slot : Nat} : Keeps s (slotStartFx slot t) := by
  unfold slotStartFx
  split
  · exact h
  · exact .inc (.wr (.wr (.wrB (.wr (.cond (.cond (.ite (fun _ => .stepM (.cond (h.withLmp.cond fun h => h.busLatch) fun h => h.startBus)) fun _ =>
        .each (.stepM (.cond (h.withLmp.cond fun h => h.busLatch) fun h => h.startBus)) fun _ _ h => .ite (fun _ => h.darkSlot) fun _ =>
        h.litSlot) fun h => h.dropStaged.inc) fun h => h.each fun _ _ h => h.soloTry)))))

theorem Keeps.sagLoop (h : Keeps s t) {n : Nat} {x : GrpSt} {samples : List Nat} {fNext : Nat} : Keeps s (t.sagLoop n x samples fNext) := by
  unfold State.sagLoop
  exact .ite (fun _ => h) fun _ => .modGrp (.cond (.cond (.ite (fun _ => .loopRun (h.cond fun h => h.raise)) fun _ =>
      .modGrp (.setImm (.loopRun (h.cond fun h => h.raise)))) fun h => h.incRaise) fun h => h.wr.wrI)

theorem Keeps.flipRows (h : Keeps s t) {n : Nat} : Keeps s (t.flipRows n) := by
  unfold State.flipRows
  split
  · exact h
  · exact h.emit.emitWrites.modGrp

theorem Keeps.advanceScan (h : Keeps s t) {n : Nat} : Keeps s (t.advanceScan n) := by
  unfold State.advanceScan
  exact .ite (fun _ => h.modGrp.wr) fun _ => .ite (fun _ => h.flipRows.modGrp.wr) fun _ => h.flipRows.modGrp.wr.wr.wr.emit.cond fun h => h.soloTry

theorem Keeps.scanWindowEnd (h : Keeps s t) {n : Nat} {samples : List Nat} : Keeps s (scanWindowEndFx n samples t) := by
  unfold scanWindowEndFx
  exact .ite (fun _ => h) fun _ => h.lightWindow.modGrp.sagLoop.advanceScan

theorem Keeps.sagMemoryWrite (h : Keeps s t) {inst : Nat} {entry : Nat} {v : Word32} : Keeps s (sagMemoryWriteFx inst entry v t) := by
  unfold sagMemoryWriteFx
  exact .ite (fun _ => h.setImm) fun _ => h

theorem Keeps.updateStatus (h : Keeps s t) {i : Nat} {new : Nat} : Keeps s (t.updateStatus i new) := by
  unfold State.updateStatus
  exact .cond (h.setStatus.cond fun h => h.incRaise.wr.wr) fun h => h.raise

theorem Keeps.presence (h : Keeps s t) {n : Nat} {absent : List Nat} : Keeps s (t.presence n absent) := by
  unfold State.presence
  exact .cond (.inc (.wrB (h.each fun _ _ h => h.setImmByte))) fun h => h.incBy.raise

theorem Keeps.probeReadDone (h : Keeps s t) {n : Nat} {r : Readback} : Keeps s (probeReadDoneFx n r t) := by
  unfold probeReadDoneFx
  split
  · exact h
  · exact .showStatus (.cond (.modGrp (.inc (.each (h.emit.presence.each fun _ _ h => .ite (fun _ => h.setStatus) fun _ =>
        h.updateStatus) fun _ _ h => h.addDebt))) fun h => h.wr)

theorem Keeps.probeStatusReset (h : Keeps s t) : Keeps s (probeStatusResetFx t) := by
  unfold probeStatusResetFx
  exact h.withLmp

theorem Keeps.drpReinit (h : Keeps s t) : Keeps s (drpReinitFx t) := by
  unfold drpReinitFx
  exact h.withLmp

theorem Keeps.drvReset (h : Keeps s t) : Keeps s (drvResetFx t) := by
  unfold drvResetFx
  exact h.withLmp

theorem Keeps.phcGo (h : Keeps s t) : Keeps s (phcGoFx t) := by
  unfold phcGoFx
  exact .ite (fun _ => h) fun _ => .ite (fun _ => h.wr.inc.raise) fun _ => h.withPhc

theorem Keeps.edgeStamp (h : Keeps s t) {old : Option Int} {x : Int} : Keeps s (t.edgeStamp old x).2 := by
  cases old
  · exact h
  · exact h.freshB

theorem Keeps.phaseEdge (h : Keeps s t) {light : Bool} {stamp : Int} : Keeps s (phaseEdgeFx light stamp t) := by
  unfold phaseEdgeFx
  split
  · exact h
  · exact .ite (fun _ => h) fun _ => .ite (fun _ => .ite (fun _ => h) fun _ => h.edgeStamp.withPhc) fun _ => .ite (fun _ => h) fun _ =>
        h.edgeStamp.withPhc

theorem Keeps.phcBegin (h : Keeps s t) {e0 : Nat} : Keeps s (t.phcBegin e0) := by
  unfold State.phcBegin
  exact h.wr.wr.wr.wr.wr.inc

theorem Keeps.phcJudge (h : Keeps s t) {r : PhcRun} : Keeps s (t.phcJudge r) := by
  unfold State.phcJudge
  exact .ite (fun _ => h.wrI.wrI.wr.wrI.wrI.phcEnd) fun _ => .ite (fun _ => h.wrI.wrI.wr.wrI.wrI.phcEnd) fun _ => .ite (fun _ =>
      h.wrI.wrI.wr.wrI.wrI.phcEnd) fun _ => h.wrI.wrI.wr.wrI.wrI.withPhc

theorem Keeps.phcTrim (h : Keeps s t) {r : PhcRun} : Keeps s (t.phcTrim r) := by
  unfold State.phcTrim
  exact h.withPhc.wrI.wr

theorem Keeps.phcFinish (h : Keeps s t) {r : PhcRun} : Keeps s (t.phcFinish r) := by
  unfold State.phcFinish
  exact h.withPhc.wrI.wrB.wr.phcEnd.fgPut

theorem Keeps.phcTick (h : Keeps s t) : Keeps s t.phcTick := by
  unfold State.phcTick
  split
  · exact h
  · exact .ite (fun _ => .withPhc (h.cond fun h => h.phcBegin)) fun _ => .ite (fun _ => .phcJudge (.withPhc (h.cond fun h => h.phcBegin))) fun _ =>
        .ite (fun _ => .phcTrim (.withPhc (h.cond fun h => h.phcBegin))) fun _ => .ite (fun _ => .phcFinish (.withPhc (h.cond fun h =>
        h.phcBegin))) fun _ => .withPhc (h.cond fun h => h.phcBegin)

theorem Keeps.hubBandReceive (h : Keeps s t) {port : Nat} {b : BandPkt} : Keeps s (hubBandReceiveFx port b t) := by
  unfold hubBandReceiveFx
  exact .ite (fun _ => h.cond fun h => h.inc) fun _ => .cond (h.each fun _ _ h => .ite (fun _ => h) fun _ => .ite (fun _ => h.send) fun _ =>
      h.undeliverable) fun h => h.acceptBand

theorem Keeps.statusReceive (h : Keeps s t) {src : Nat} {b : StatusBody} : Keeps s (statusReceiveFx src b t) := by
  unfold statusReceiveFx
  exact h.withHub

theorem Keeps.hubEvent (h : Keeps s t) {src : Nat} {entries : List EvtEntry} : Keeps s (hubEventFx src entries t) := by
  unfold hubEventFx
  exact h.each fun _ _ h => h.withHub

theorem Keeps.rebuildSummary (h : Keeps s t) : Keeps s t.rebuildSummary := by
  unfold State.rebuildSummary
  exact .ite (fun _ => h) fun _ => h.withHub

theorem Keeps.sendUp (h : Keeps s t) {f : Nat → Output} : Keeps s (t.sendUp f) := by
  unfold State.sendUp
  split
  · exact .ite (fun _ => h.send) fun _ => h.undeliverable
  · exact h

theorem Keeps.sendSubtree (h : Keeps s t) {epoch : Nat} : Keeps s (t.sendSubtree epoch) := by
  unfold State.sendSubtree
  exact h.withHub.cond fun h => h.sendUp

theorem Keeps.sendEvents (h : Keeps s t) {epoch : Nat} : Keeps s (t.sendEvents epoch) := by
  unfold State.sendEvents
  exact h.sideEvt.cond fun h => h.sendUp

theorem Keeps.sendStatus (h : Keeps s t) : Keeps s t.sendStatus := by
  unfold State.sendStatus
  exact h.cond fun h => h.sendUp

theorem Keeps.forgetReports (h : Keeps s t) {old : Cfg} : Keeps s (t.forgetReports old) := by
  unfold State.forgetReports
  exact h.cond fun h => h.withHub

theorem Keeps.inForce (h : Keeps s t) {e : Nat} : Keeps s (t.inForce e) := by
  unfold State.inForce
  split
  · exact h
  · exact h.regs fun hm => smWf_putAll _ (smWf_keep _ hm)

theorem Keeps.setCfgErr (h : Keeps s t) {page : Nat} {v : Nat} : Keeps s (t.setCfgErr page v) := by
  unfold State.setCfgErr
  exact h.setWord

theorem Keeps.showReject (h : Keeps s t) {es : List CfgErr} : Keeps s (t.showReject es) := by
  unfold State.showReject
  exact .raise (.inc (.wr (.wr (h.each fun _ _ h => h.setCfgErr))))

theorem Keeps.showAccept (h : Keeps s t) {es : List CfgErr} : Keeps s (t.showAccept es) := by
  unfold State.showAccept
  exact .inc (.sideBoot (h.each fun _ _ h => h.setCfgErr))

theorem Keeps.takeRole (h : Keeps s t) {p : Nat} : Keeps s (t.takeRole p) := by
  unfold State.takeRole
  exact h.withRed.setPortState.cond fun h => h.dropHeld

theorem Keeps.rolesApplied (h : Keeps s t) {old : State} : Keeps s (t.rolesApplied old) := by
  unfold State.rolesApplied
  exact .loopLevels (.unwatch (.splitLevel (.each (h.cond fun h => h.wr) fun _ _ h => h.takeRole)))

theorem Keeps.portsApplied (h : Keeps s t) {old : State} : Keeps s (t.portsApplied old) := by
  unfold State.portsApplied
  exact .showRoles (h.each fun _ _ h => .ite (fun _ => h.train) fun _ => .ite (fun _ => h.switchOff) fun _ => h.cond fun h => h.setLink)

theorem Keeps.senderApply (h : Keeps s t) {snap : List ( Nat × Word32 )} {tag : Nat} : Keeps s (t.senderApply snap tag) := by
  unfold State.senderApply
  exact h.applySnap.applyTables.clockApplied.netApplied.decApplied.showSched.showCompose.showMap.sensorsEnabled.bankApplied.showId.rolesApplied.portsApplied.dramApplied.raise

theorem Keeps.dropCommit (h : Keeps s t) : Keeps s t.dropCommit := by
  unfold State.dropCommit
  exact h.wr.inc

theorem Keeps.commit (h : Keeps s t) {hi : Word32} : Keeps s (commitFx hi t) := by
  unfold commitFx
  exact .ite (fun _ => h.dropCommit) fun _ => h.setWord.wr.wr.wr.wr.withCmt

theorem Keeps.verdict (h : Keeps s t) {snap : List (Nat × Word32)} {e : Nat} {next : State → State} (hnext : ∀ {u}, Keeps s u → Keeps s (next u)) :
    Keeps s (t.verdict snap e next) := by
  unfold State.verdict
  exact .ite (fun _ => hnext h.showAccept) fun _ => h.showReject.showMapErr

theorem Keeps.validated (h : Keeps s t) : Keeps s t.validated := by
  unfold State.validated
  exact h.withCmt.wr.each fun _ _ h => h.newTransit

theorem Keeps.commitDone (h : Keeps s t) : Keeps s (commitDoneFx t) := by
  unfold commitDoneFx
  split
  · exact h
  · extract_lets +onlyGivenNames j u
    have hu : Keeps s u := h.validated
    clear_value u j
    refine .ite (fun _ => hu.verdict fun h => ?_) fun _ => .ite (fun _ => hu.showReject) fun _ => hu.verdict fun h => ?_
    · exact .planFirst (h.senderApply.each fun _ _ h => h.sourceChanged)
    · exact .cond (.withCmt (h.cond fun h => h.wr.wr.incRaise)) fun h => h.planNext

theorem Keeps.epochLoad (h : Keeps s t) {hi : Word32} : Keeps s (epochLoadFx hi t) := by
  unfold epochLoadFx
  exact .ite (fun _ => h.setWord.withCmt) fun _ => h.setWord.wr

theorem Keeps.marker (h : Keeps s t) {copy : Nat} : Keeps s (markerFx copy t) := by
  unfold markerFx
  split
  · exact h
  · exact .ite (fun _ => h) fun _ => h.withFrm.each fun _ _ h => h.send

theorem Keeps.sendRecovery (h : Keeps s t) {node : Nat} : Keeps s (t.sendRecovery node) := by
  unfold State.sendRecovery
  split
  · exact h
  · exact h.cond fun h => h.send

theorem Keeps.eventReceive (h : Keeps s t) {port : Nat} {src : Nat} {epoch : Nat} {entries : List EvtEntry} : Keeps s
    (eventReceiveFx port src epoch entries t) := by
  unfold eventReceiveFx
  exact .cond (h.each fun _ _ h => h.tqPush) fun h => h.sendRecovery

theorem Keeps.epochMiss (h : Keeps s t) {target : Nat} : Keeps s (t.epochMiss target) := by
  unfold State.epochMiss
  exact h.withCmt.wr.incRaise

theorem Keeps.maskStale (h : Keeps s t) {target : Nat} : Keeps s (t.maskStale target) := by
  unfold State.maskStale
  exact h.incRaise.withFrm

theorem Keeps.tileCommit (h : Keeps s t) {target : Nat} {apply : Nat} {wide : Option ( List Word32 × Word32 )} {recov : Bool} : Keeps s
    (t.tileCommit target apply wide recov) := by
  unfold State.tileCommit
  exact .ite (fun _ => h.showAccept.withCmt) fun _ => h.showReject.raise.withCmt

theorem Keeps.configReceive (h : Keeps s t) {b : ConfigBody} : Keeps s (configReceiveFx b t) := by
  unfold configReceiveFx
  exact .ite (fun _ => h) fun _ => .tileCommit (.cond (h.cond fun h => h.epochMiss.maskStale) fun h => h.darkNow)

theorem Keeps.tickLaunch (h : Keeps s t) : Keeps s (tickLaunchFx t) := by
  unfold tickLaunchFx
  exact .each (.withFrm (h.each fun _ _ h => h.emit.cond fun h => h.incRaise)) fun _ _ h => h.drain

theorem Keeps.applyDue (h : Keeps s t) {e : Nat} : Keeps s (t.applyDue e) := by
  unfold State.applyDue
  split
  · exact h
  · exact h.senderApply.wr.withCmt

theorem Keeps.beginEpoch (h : Keeps s t) {e : Nat} : Keeps s (t.beginEpoch e) := by
  unfold State.beginEpoch
  exact h.wr.wr

theorem Keeps.showFrame (h : Keeps s t) {held : Bool} : Keeps s (t.showFrame held) := by
  unfold State.showFrame
  exact .ite (fun _ => h) fun _ => .toState (h.cond fun h => h.toState)

theorem Keeps.litFrame (h : Keeps s t) : Keeps s t.litFrame := by
  unfold State.litFrame
  exact .ite (fun _ => h.withThm) fun _ => h

theorem Keeps.stepAtTick (h : Keeps s t) {step : Option Int} : Keeps s (t.stepAtTick step) := by
  unfold State.stepAtTick
  split
  · exact h
  · exact h.stepBase

theorem Keeps.turnClock (h : Keeps s t) {e : Nat} : Keeps s (t.turnClock e) := by
  unfold State.turnClock
  exact h.withClkFrm

theorem Keeps.senderTick (h : Keeps s t) : Keeps s (senderTickFx t) := by
  unfold senderTickFx
  exact .planNext (.audioTick (.openFrame (.latchLayers (.showFrame (.wrB (.withCmtFrm (.transTick (.stepAtTick (.turnClock (.beginEpoch (.applyDue
      (.revertTick (h.litFrame.cond fun h => h.closeFrame.closeMap)))))))))))))

theorem Keeps.tickReceive (h : Keeps s t) {port : Nat} {b : TickBody} : Keeps s (tickReceiveFx port b t) := by
  unfold tickReceiveFx
  exact .ite (fun _ => h.inc) fun _ => h.withFrmRed.cond fun h => h.darkNow

theorem Keeps.reportEpoch (h : Keeps s t) : Keeps s t.reportEpoch := by
  unfold State.reportEpoch
  exact h.sendEvents.sendSubtree.withCmt

theorem Keeps.assignDue (h : Keeps s t) {e : Nat} : Keeps s (t.assignDue e) := by
  unfold State.assignDue
  exact h.withMgmt.each fun _ _ h => h.assignNow

theorem Keeps.handBack (h : Keeps s t) : Keeps s t.handBack := by
  unfold State.handBack
  exact .ite (fun _ => h) fun _ => (by
    split
    · exact .ite (fun _ => h.elect.inc) fun _ => h.raise
    · exact h.raise)

theorem Keeps.staleDone (h : Keeps s t) {due : List Commit} : Keeps s (t.staleDone due) := by
  unfold State.staleDone
  split
  · exact h
  · exact h.cond fun h => h.withFrm

theorem Keeps.tileApply (h : Keeps s t) {e : Nat} : Keeps s (t.tileApply e) := by
  unfold State.tileApply
  dsimp only
  split
  · exact h.withCmt
  · exact .cond (.portsApplied (.cond (.forgetReports (.showId (.bankApplied (.sensorsEnabled (.showSched
        (h.withCmt.applySnap.applyTables.cond fun h => h.withCmt.wr.raise)))))) fun h => h.leaveBoot)) fun h => h.phcEnd

theorem Keeps.failFrame (h : Keeps s t) {entered : Bool} {miss : Bool} : Keeps s (t.failFrame entered miss) := by
  unfold State.failFrame
  exact .cond (h.withRed.wrB.wr.cond fun h => h.inc) fun h => h.inc

theorem Keeps.leaveFailover (h : Keeps s t) {full : Bool} : Keeps s (t.leaveFailover full) := by
  unfold State.leaveFailover
  exact h.cond fun h => h.withRed.wr

theorem Keeps.turnTile (h : Keeps s t) {tick : Nat} {missing : Nat} {hold : Bool} : Keeps s (t.turnTile tick missing hold) := by
  unfold State.turnTile
  exact h.withFrm

theorem Keeps.planTile (h : Keeps s t) {oldTrim : Int} : Keeps s (t.planTile oldTrim) := by
  unfold State.planTile
  exact h.withFrm

theorem Keeps.tileFrame (h : Keeps s t) {old : State} : Keeps s (t.tileFrame old) := by
  unfold State.tileFrame
  exact h.busTick.idleLatch.showStale.showStore.latchTherm.coneTick.brightTick.clearDebts.latchGain.showLsm.showBus.phcTick.openSlots

theorem Keeps.tileTick (h : Keeps s t) : Keeps s (tileTickFx t) := by
  unfold tileTickFx
  exact .sendStatus (.rebuildSummary (.planTile (.tileFrame (by
    split
    · exact .showFrame (.withTil (.cond (.leaveFailover (.failFrame (.staleDone (.transTick (.stepAtTick (.turnTile (.cond (.beginEpoch (.applyClears
          (.tileApply (.cond (.cond (.revertTick (.assignDue (.cond (.cond (h.litFrame.cond fun h => h.reportEpoch.flushBands) fun h =>
          h.phcEnd) fun h => h.enterFailover))) fun h => h.closeBands.abandonSlots) fun h => h.handBack)))) fun h => h.incRaise))))))) fun h =>
          h.incRaise))
    · exact .tileCommit (.maskStale (.epochMiss (.showFrame (.withTil (.cond (.leaveFailover (.failFrame (.staleDone (.transTick (.stepAtTick
          (.turnTile (.cond (.beginEpoch (.applyClears (.tileApply (.cond (.cond (.revertTick (.assignDue (.cond (.cond (h.litFrame.cond fun h =>
          h.reportEpoch.flushBands) fun h => h.phcEnd) fun h => h.enterFailover))) fun h => h.closeBands.abandonSlots) fun h =>
          h.handBack)))) fun h => h.incRaise))))))) fun h => h.incRaise)))))))))

theorem Keeps.track (h : Keeps s t) : Keeps s (trackFx t) := by
  unfold trackFx
  split
  · exact h
  · exact .withFrm (h.wr.stepAtTick.cond fun h => h.handBack)

theorem Keeps.tableWord (h : Keeps s t) {page : Nat} {tab : Nat} {i : Nat} {cls : TabCls} {v : Word32} : Keeps s (t.tableWord page tab i cls v) := by
  unfold State.tableWord
  exact .ite (fun _ => h.calWrite) fun _ => .ite (fun _ => .ite (fun _ => h.sagMemoryWrite) fun _ => h) fun _ => .ite (fun _ => .ite (fun _ =>
      h.setImm) fun _ => h) fun _ => .ite (fun _ => .ite (fun _ => h.setImm) fun _ => h) fun _ => .ite (fun _ => .ite (fun _ => h.setImm) fun _ =>
      h) fun _ => (by
    split
    · exact h
    · exact h.setImm
    · exact h.setPend)

theorem Keeps.windowWrite (h : Keeps s t) {page : Nat} {off : Nat} {v : Word32} : Keeps s (t.windowWrite page off v) := by
  unfold State.windowWrite
  split
  · exact h
  · exact h.tableWord

theorem Keeps.holdWord (h : Keeps s t) {key : Nat} : Keeps s (t.holdWord key) := by
  unfold State.holdWord
  exact h.withLatch

theorem Keeps.busRead (h : Keeps s t) {addr : Nat} : Keeps s (t.busRead addr).2 := by
  unfold State.busRead
  dsimp only
  split
  · exact h.withLatch
  · exact .ite (fun _ => h.each fun _ _ h => h.holdWord) fun _ => h

theorem Keeps.maskedWrite (h : Keeps s t) {page : Nat} {off : Nat} {mask : Nat} {v : Word32} : Keeps s (t.maskedWrite page off mask v) := by
  unfold State.maskedWrite
  exact h.setWord

theorem Keeps.coilCtrl (h : Keeps s t) {n : Nat} {v : Word32} : Keeps s (coilCtrlFx n v t) := by
  unfold coilCtrlFx
  exact .cond (.cond (.cond (.cond (h.wr.wr.wr.cond fun h => h.loopback) fun h => h.prbsGen) fun h => h.prbsChk) fun h => h.retrain) fun h => h.discGo

theorem Keeps.nvsCtrl (h : Keeps s t) {v : Word32} : Keeps s (nvsCtrlFx v t) := by
  unfold nvsCtrlFx
  exact .cond (.cond (.cond (.cond (.cond (h.cond fun h => h.setBegin) fun h => h.setEnd) fun h => h.nvsWriteGo) fun h => h.nvsReadGo) fun h =>
      h.settingsSave) fun h => h.coneSave

theorem Keeps.fwCtrl (h : Keeps s t) {v : Word32} : Keeps s (fwCtrlFx v t) := by
  unfold fwCtrlFx
  exact .cond (.cond (.cond (.cond (h.wr.cond fun h => h.bisqueGo) fun h => h.arm) fun h => h.bootGo) fun h => h.updGo) fun h => h.revert

theorem Keeps.ctrl (h : Keeps s t) {b : Blk} {n : Nat} {v : Word32} : Keeps s (ctrlFx b n v t) := by
  unfold ctrlFx
  split
  · exact h.softReset
  · exact h.cond fun h => h.tqFlush
  · exact .cond (h.cond fun h => h.timeSetGo) fun h => h.ppsLoad
  · exact .cond (h.cond fun h => h.tsqOvfClr) fun h => h.tsqFlush
  · exact h.cond fun h => h.rspFlush
  · exact h.cond fun h => h.srcDrop
  · exact h.cond fun h => h.srcDrop
  · exact h.decFlushes
  · exact h.cond fun h => h.sagRelearn
  · exact h.cond fun h => h.mapStatsClr
  · exact h.coilCtrl
  · exact h.cond fun h => h.ground
  · exact h.cond fun h => h.storeClr
  · exact .cond (h.cond fun h => h.calReload) fun h => h.debtClr
  · exact h.level
  · exact h.cond fun h => h.probeStatusReset
  · exact .cond (h.cond fun h => h.drpReinit) fun h => h.drvReset
  · exact h.loopOpenWrite
  · exact h.cond fun h => h.coneClr
  · exact .cond (h.cond fun h => h.phcGo) fun h => h.phcAbort
  · exact h.nvsCtrl
  · exact .cond (h.cond fun h => h.freqGo) fun h => h.scrubNow
  · exact h.cond fun h => h.audioResync
  · exact h.fwCtrl
  · exact h

theorem Keeps.ctrlWrite (h : Keeps s t) {b : Blk} {n : Nat} {page : Nat} {v : Word32} : Keeps s (ctrlWriteFx b n page v t) := by
  unfold ctrlWriteFx
  split
  · exact h
  · exact .ctrl (h.cond fun h => h.maskedWrite)

theorem Keeps.rwWrite (h : Keeps s t) {b : Blk} {n : Nat} {page : Nat} {off : Nat} {mask : Nat} {v : Word32} : Keeps s
    (rwWriteFx b n page off mask v t) := by
  unfold rwWriteFx
  split
  · exact .ite (fun _ => h.commit) fun _ => .ite (fun _ => h.epochLoad) fun _ => .ite (fun _ => h.wr) fun _ => h.maskedWrite
  · exact .ite (fun _ => h.txqTail) fun _ => .ite (fun _ => h) fun _ => .ite (fun _ => h) fun _ => h.maskedWrite
  · exact h.maskedWrite

theorem Keeps.woWrite (h : Keeps s t) {b : Blk} {n : Nat} {off : Nat} {v : Word32} : Keeps s (woWriteFx b n off v t) := by
  unfold woWriteFx
  split
  · exact h.cond fun h => h.tqPop
  · exact .ite (fun _ => h.tunLaunch) fun _ => h.cond fun h => h.rspPop
  · exact h.cond fun h => h.tsqPop
  · exact h.cond fun h => h.layerReady
  · exact h

theorem Keeps.shadowWrite (h : Keeps s t) {b : Blk} {n : Nat} {page : Nat} {off : Nat} {mask : Nat} {v : Word32} : Keeps s
    (shadowWriteFx b n page off mask v t) := by
  unfold shadowWriteFx
  exact h.maskedWrite

theorem Keeps.pageWrite (h : Keeps s t) {b : Blk} {n : Nat} {page : Nat} {off : Nat} {v : Word32} : Keeps s (pageWriteFx b n page off v t) := by
  unfold pageWriteFx
  exact .ite (fun _ => h.cond fun h => h.counterClear) fun _ => .ite (fun _ => h.windowWrite) fun _ => .ite (fun _ => h.ctrlWrite) fun _ =>
      .ite (fun _ => h.evtEnWrite) fun _ => .ite (fun _ => h.evtPendClear) fun _ => .ite (fun _ => h.evtForce) fun _ => .ite (fun _ =>
      h.maskedWrite) fun _ => (by
    split
    · exact h
    · split
      · exact h
      · exact h.counterClear
      · exact h.rwWrite
      · exact h.woWrite
      · exact h.shadowWrite)

theorem Keeps.registerWrite (h : Keeps s t) {addr : Nat} {be : Nat} {v : Word32} : Keeps s (registerWriteFx addr be v t) := by
  unfold registerWriteFx
  exact .ite (fun _ => h.cond fun h => h.inc) fun _ => (by
    split
    · exact h
    · exact h.cond fun h => h.pageWrite)

theorem Keeps.registerRead (h : Keeps s t) {addr len : Nat} : Keeps s (registerReadFx addr len t) := by
  unfold registerReadFx
  exact h.busRead.emit

theorem Keeps.readMany (n : Nat) {addr : Nat} {t : State} (h : Keeps s t) : Keeps s (t.readMany addr n).2 := by
  induction n generalizing addr t with
  | zero => exact h
  | succ n ih => exact ih h.busRead

theorem Keeps.mgmtWord (h : Keeps s t) {addr : Nat} {v : Word32} : Keeps s (mgmtWordFx addr v t) := by
  unfold mgmtWordFx
  exact .ite (fun _ => h.cond fun h => h.sideBoot) fun _ => h.registerWrite

theorem Keeps.writeMany {addr : Nat} {vs : List Word32} {t : State} (h : Keeps s t) : Keeps s (t.writeMany addr vs) := by
  induction vs generalizing addr t with
  | nil => exact h
  | cons v vs ih => exact ih h.mgmtWord

theorem Keeps.mgmtRun (h : Keeps s t) {r : MgmtReq} : Keeps s (t.mgmtRun r).2.2 := by
  unfold State.mgmtRun
  dsimp only
  split
  · exact h
  · split
    · exact h
    · split
      · exact h.writeMany
      · exact h.readMany _

theorem Keeps.mgmtExecute (h : Keeps s t) : Keeps s (mgmtExecuteFx t) := by
  unfold mgmtExecuteFx
  split
  · exact h.inc
  · extract_lets +onlyGivenNames _ x
    have hx : Keeps s x.2.2 := h.withMgmt.mgmtRun
    clear_value x
    exact .ite (fun _ => hx.send) fun _ => hx.undeliverable

end Sys2Proof.Proofs.Soundness


/-!
O58: every step keeps the state sound.
-/

namespace Sys2Proof.Proofs.Soundness
open Sys2Proof.Machine Sys2Proof.Laws

-- Many short proofs: elaborated one after the other, since each waiting one would hold a thread's stack.
set_option Elab.async false

variable {s t : State}

/-- The answer of a command keeps the state sound. -/
def KeepsSound (s : State) (o : Host.Outcome State Fault Refusal) : Prop := ∀ t, o = .next t → s.sound → t.sound

theorem KeepsSound.of_sound (h : s.sound → t.sound) : KeepsSound s (.next t) := fun _ he hs => by cases he; exact h hs

theorem KeepsSound.of_keeps (h : Keeps s t) : KeepsSound s (.next t) := .of_sound h.sound

theorem sound_cond {b : Bool} {f : State → State} (h : t.sound) (hf : t.sound → (f t).sound) : (t.cond b f).sound := by
  cases b
  · exact h
  · exact hf h

theorem exec_keepsSound (c : Instr) (s : State) : KeepsSound s (exec c s) := by
  have h := Keeps.refl s
  cases c with
  | powerOnReset => exact .of_sound (t := powerOnResetFx s.start) fun hs => powerOnReset_sound (h.start.sound hs)
  | resetRelease strap testEn => exact .of_sound fun hs => sound_cond (h.start.sound hs) fun h => resetRelease_sound h
  | resetNAssert _ => exact .of_keeps (h.start.resetN)
  | perstAssert => exact .of_keeps (h.start.cond fun h => h.coreReset)
  | softReset _ => exact .of_keeps (h.start.cond fun h => h.softReset)
  | tunSoftResetDelay => exact .of_keeps (h.start.cond fun h => h.coreReset)
  | coreRailFail => exact .of_keeps (h.start.coreReset)
  | xoInLoss => exact .of_keeps (h.start.xoInLoss)
  | watchdogExpiry _ => exact .of_keeps (h.atTime.cond fun h => h.watchdog)
  | bankLevelSelect _ _ => exact .of_keeps (h.start.cond fun h => h.bankLevel)
  | bisqueGo => exact .of_keeps (h.start.cond fun h => h.bisqueGo)
  | imageVerifyDone => exact .of_keeps (h.start.cond fun h => h.imageVerifyDone)
  | firmwareLoaded _ _ => exact .of_keeps (h.atTime.cond fun h => h.firmwareLoaded)
  | arm _ => exact .of_keeps (h.atTime.cond fun h => h.arm)
  | bootGo => exact .of_keeps (h.start.cond fun h => h.bootGo)
  | bootBroadcastDone => exact .of_keeps (h.start.cond fun h => h.wr.incRaise)
  | bootChunkReceive _ _ => exact .of_keeps (h.start.cond fun h => h.bootChunk)
  | peerBootBroadcast _ _ => exact .of_keeps (h.atTime.cond fun h => h.peerBoot)
  | updGo => exact .of_keeps (h.start.cond fun h => h.updGo)
  | updReconstructDone => exact .of_keeps (h.start.cond fun h => h.updDone)
  | fwHealthWrite _ => exact .of_keeps (h.start.cond fun h => h.health)
  | confirmExpiry => exact .of_keeps (h.start.cond fun h => h.revert)
  | revert => exact .of_keeps (h.start.cond fun h => h.revert)
  | commit _ _ => exact .of_keeps (h.atTime.cond fun h => h.commit)
  | commitValidationDone _ => exact .of_keeps (h.atTime.cond fun h => h.commitDone)
  | epochLoad _ => exact .of_keeps (h.start.cond fun h => h.epochLoad)
  | registerWrite _ _ _ _ => exact .of_keeps (h.atTime.registerWrite)
  | registerReadLatch _ _ => exact .of_keeps (h.atTime.registerRead)
  | timeReadLatch _ => exact .of_keeps (h.atTime.registerRead)
  | counterClear _ _ => exact .of_keeps (h.start.cond fun h => h.counterClear)
  | tableWrite _ _ => exact .of_keeps (h.start.cond fun h => h.windowWrite)
  | evtPendClear _ _ => exact .of_keeps (h.start.cond fun h => h.evtPendClear)
  | evtForce _ _ => exact .of_keeps (h.start.cond fun h => h.evtForce)
  | evtEnWrite _ _ => exact .of_keeps (h.start.cond fun h => h.evtEnWrite)
  | vectorMapWrite _ _ => exact .of_keeps (h.start.cond fun h => h.setImm)
  | msixMessage _ _ => exact .of_keeps (h.atTime.cond fun h => .ite (fun _ => h.sideEvt) fun _ => h.cond fun h => h.msixSend)
  | eventReceive _ _ _ _ => exact .of_keeps (h.start.cond fun h => h.eventReceive)
  | tqPop => exact .of_keeps (h.start.cond fun h => h.tqPop)
  | tqFlush => exact .of_keeps (h.start.cond fun h => h.tqFlush)
  | tunLaunch _ _ => exact .of_keeps (h.atTime.cond fun h => h.tunLaunch)
  | tunTimeout _ => exact .of_keeps (h.start.cond fun h => h.tunTimeout)
  | tunResponse _ _ _ _ => exact .of_keeps (h.start.cond fun h => h.tunResponse)
  | rspPop => exact .of_keeps (h.start.cond fun h => h.rspPop)
  | rspFlush => exact .of_keeps (h.start.cond fun h => h.rspFlush)
  | mgmtReqReceive _ _ => exact .of_keeps (h.start.cond fun h => h.mgmtReqReceive)
  | mgmtReqExecute _ => exact .of_keeps (h.atTime.cond fun h => h.mgmtExecute)
  | configMarkerLaunch _ _ => exact .of_keeps (h.atTime.cond fun h => h.marker)
  | tickLaunch _ => exact .of_keeps (h.atTime.cond fun h => h.tickLaunch)
  | bandStop _ _ => exact .of_keeps (h.atTime.cond fun h => h.bandStop)
  | senderTick _ => exact .of_keeps (h.atTime.cond fun h => h.senderTick)
  | tickReceive _ _ _ => exact .of_keeps (h.atTime.cond fun h => h.tickReceive)
  | configReceive _ _ _ => exact .of_keeps (h.atTime.cond fun h => h.configReceive)
  | tileTick _ => exact .of_keeps (h.atTime.cond fun h => .ite (fun _ => h.tileTick) fun _ => h.track)
  | tickMissing _ => exact .of_keeps (h.atTime.cond fun h => h.tileTick)
  | bandReceive _ _ => exact .of_keeps (h.start.cond fun h => h.bandReceive)
  | segmentDecodeDone => exact .of_keeps (h.start.cond fun h => h.segmentDecode)
  | hubBandReceive _ _ => exact .of_keeps (h.start.cond fun h => h.hubBandReceive)
  | statusReceive _ _ _ => exact .of_keeps (h.start.cond fun h => h.statusReceive)
  | hubEventReceive _ _ _ => exact .of_keeps (h.start.cond fun h => h.hubEvent)
  | beaconSlot _ => exact .of_keeps (h.atTime.cond fun h => h.beaconSlot)
  | beaconReceive _ _ _ => exact .of_keeps (.ite (fun _ => h.atTime.senderBeacon) fun _ => .ite (fun _ => h.atTime.tileBeacon) fun _ => h.atTime)
  | beaconTimeout _ => exact .of_keeps (h.atTime.cond fun h => .ite (fun _ => h.enterHoldover) fun _ => h.unelect.enterHoldover)
  | linkBeaconTimer _ => exact .of_keeps (h.atTime.cond fun h => h.each fun _ _ h => h.modCoil.send)
  | linkBeaconRequest _ _ _ => exact .of_keeps (h.atTime.cond fun h => h.linkBeaconRequest)
  | linkBeaconReply _ _ _ => exact .of_keeps (h.atTime.cond fun h => h.linkBeaconReply)
  | refEdge _ _ => exact .of_keeps (h.atTime.cond fun h => h.refEdge)
  | refLoss _ _ => exact .of_keeps (h.atTime.cond fun h => h.refLoss)
  | ppsEdge _ => exact .of_keeps (h.atTime.cond fun h => h.ppsEdge)
  | ppsLoss _ => exact .of_keeps (h.atTime.cond fun h => h.wr.incRaise)
  | ptpSync _ _ _ _ => exact .of_keeps (h.atTime.cond fun h => h.ptpSync)
  | ptpAnnounce _ _ _ => exact .of_keeps (h.atTime.cond fun h => h.ptpAnnounce)
  | ptpAnnounceTimeout _ _ => exact .of_keeps (h.atTime.cond fun h => h.modPtp.ptpLost)
  | ptpSyncTimeout _ _ => exact .of_keeps (h.atTime.cond fun h => h.ptpLost)
  | sourceQualify _ _ => exact .of_keeps (h.atTime.cond fun h => h.qualify)
  | holdoverExpiry _ => exact .of_keeps (h.atTime.cond fun h => h.setLock.ground)
  | timeSetGo _ => exact .of_keeps (h.atTime.cond fun h => h.timeSetGo)
  | ppsLoad => exact .of_keeps (h.start.cond fun h => h.ppsLoad)
  | loopInnerSample => exact .of_keeps (h.start.cond fun h => h.loopInner)
  | loopOpenWrite _ => exact .of_keeps (h.start.cond fun h => h.loopOpenWrite)
  | sagMemoryWrite _ _ _ => exact .of_keeps (h.start.cond fun h => h.sagMemoryWrite)
  | camsyncPulse _ _ _ => exact .of_keeps (h.atTime.cond fun h => h.camsyncPulse)
  | camsyncPulseEnd _ _ => exact .of_keeps (h.atTime.cond fun h => h.camsyncPulseEnd)
  | csHiz _ => exact .of_keeps (h.start.cond fun h => h.csHiz)
  | netFrameReceive _ _ _ => exact .of_keeps (h.atTime.cond fun h => h.netFrame)
  | netLinkChange _ _ _ => exact .of_keeps (h.atTime.cond fun h => h.netLink)
  | igmpReportTimer _ _ _ => exact .of_keeps (h.start.cond fun h => h.igmpTimer)
  | txqTailWrite _ _ _ => exact .of_keeps (h.atTime.cond fun h => h.txqTail)
  | txFrameLaunch _ _ => exact .of_keeps (h.atTime.cond fun h => h.txLaunch)
  | tsqPop => exact .of_keeps (h.start.cond fun h => h.tsqPop)
  | tsqFlush => exact .of_keeps (h.start.cond fun h => h.tsqFlush)
  | tsqOvfClr => exact .of_keeps (h.start.cond fun h => h.tsqOvfClr)
  | legDown _ _ => exact .of_keeps (h.start.cond fun h => h.legDown)
  | pictureReady _ _ _ => exact .of_keeps (h.atTime.cond fun h => h.picture)
  | streamResync _ _ => exact .of_keeps (h.atTime.cond fun h => h.srcDrop)
  | sdiLockChange _ _ _ _ => exact .of_keeps (h.atTime.cond fun h => h.sdiLock)
  | decodePictureDone _ _ _ => exact .of_keeps (h.atTime.cond fun h => h.decodeDone)
  | decodeBudgetExpiry _ => exact .of_keeps (h.start.cond fun h => h.modDec.inc.decRaise)
  | decCoreTimeout => exact .of_keeps (h.start.cond fun h => .incRaise (h.each fun _ _ h => h.decFlush))
  | decFlush _ => exact .of_keeps (h.start.cond fun h => h.decFlushes)
  | layerReady _ _ _ => exact .of_keeps (h.atTime.cond fun h => h.layerReady)
  | bar4Write _ _ => exact .of_keeps (h.start.cond fun h => h.bar4Write)
  | bar4Read _ _ _ => exact .of_keeps (h.start.cond fun h => h.bar4Read)
  | tgwLineSlot _ _ => exact .of_keeps (h.atTime.cond fun h => h.tgwSlot)
  | lineDeadline _ => exact .of_keeps (h.start.cond fun h => h.each fun _ _ h => h.fillLine)
  | compositionFrameDone => exact .of_keeps (h.start.cond fun h => h.compositionDone)
  | saggerCrcComplete _ => exact .of_keeps (h.start.cond fun h => h.sagCrc)
  | hiddenRegionCompare _ => exact .of_keeps (h.start.cond fun h => h.hidden)
  | sagRelearn => exact .of_keeps (h.start.cond fun h => h.sagRelearn)
  | tgpFrameStart _ => exact .of_keeps (h.atTime.cond fun h => h.tgpStart)
  | previewCaptureDone => exact .of_keeps (h.start.cond fun h => h.captureDone)
  | tgpLineStart _ _ => exact .of_keeps (h.start.cond fun h => h.tgpLine)
  | segmentDispatch => exact .of_keeps (h.start.cond fun h => h.segmentDispatch)
  | segmentEncodeDone _ => 
    refine .of_keeps ?_
    split
    · exact h.start
    · exact h.start.cond fun h => h.segmentEncodeDone
  | bandLaunch _ _ => exact .of_keeps (h.atTime.cond fun h => h.bandLaunch)
  | mapStatsClr => exact .of_keeps (h.start.cond fun h => h.mapStatsClr)
  | linkCdrLock _ => exact .of_keeps (h.start.cond fun h => h.setLink.wr.wr)
  | linkUp _ => exact .of_keeps (h.start.linkUp)
  | linkLoss _ _ => exact .of_keeps (h.atTime.linkLoss)
  | codewordUncorrectable _ => exact .of_keeps (h.start.cond fun h => h.codeword)
  | packetReceive _ _ _ => exact .of_keeps (h.atTime.cond fun h => h.packetReceive)
  | xoffRelease _ => exact .of_keeps (h.start.cond fun h => h.wr)
  | ingressQueueRoom _ => exact .of_keeps (h.start.cond fun h => (by
      split
      · exact h
      · exact .ite (fun _ => h.withMgmt.modCoil) fun _ => h))
  | repeaterForward _ _ => exact .of_keeps (h.start.cond fun h => h.repeater)
  | retrain _ => exact .of_keeps (h.start.cond fun h => h.retrain)
  | loopbackSelect _ _ => exact .of_keeps (h.start.cond fun h => h.loopback)
  | prbsGen _ _ => exact .of_keeps (h.start.cond fun h => h.prbsGen)
  | prbsChk _ _ _ _ => exact .of_keeps (h.start.cond fun h => h.prbsChk)
  | farLoopExpiry _ => exact .of_keeps (h.start.cond fun h => h.wr.modCoil.showTest.train)
  | eyeReport _ _ _ => exact .of_keeps (h.start.cond fun h => h.wr.wr.level)
  | discGo _ _ => exact .of_keeps (h.atTime.cond fun h => h.discGo)
  | discoverReceive _ _ _ _ => exact .of_keeps (h.atTime.cond fun h => h.discover)
  | discoverRspReceive _ _ => exact .of_keeps (h.start.cond fun h => h.discoverRsp)
  | discoverTimeout _ => exact .of_keeps (h.start.cond fun h => h.discDone)
  | relinquishNow _ => exact .of_keeps (h.atTime.cond fun h => h.ground)
  | relinquishReceive _ _ _ _ _ => exact .of_keeps (h.atTime.cond fun h => h.relinquishReceive)
  | feedreqReceive _ _ _ _ _ => exact .of_keeps (h.atTime.cond fun h => h.feedreqReceive)
  | feedreqRepeat _ => exact .of_keeps (h.atTime.cond fun h => h.sendFeedreq)
  | senderFeedreq _ _ _ _ _ => exact .of_keeps (h.atTime.cond fun h => h.senderFeedreq)
  | loopCheckTimeout _ => exact .of_keeps (h.start.cond fun h => h.withRed.wr.wr.loopLevels)
  | hubTickLaunch _ => exact .of_keeps (h.atTime.cond fun h => h.each fun _ _ h => h.send)
  | storeClr => exact .of_keeps (h.start.cond fun h => h.storeClr)
  | slotComputeStart _ => exact .of_keeps (h.atTime.cond fun h => h.slotComputeStart)
  | slotComputeDone _ => exact .of_keeps (h.atTime.cond fun h => h.slotComputeDone)
  | calReload => exact .of_keeps (h.start.cond fun h => h.calReload)
  | calReloadDone _ => exact .of_keeps (h.start.cond fun h => h.calReloadDone)
  | calRecordWrite _ _ => exact .of_keeps (h.start.cond fun h => h.calWrite)
  | debtClr => exact .of_keeps (h.start.cond fun h => h.debtClr)
  | slotStart _ _ => exact .of_keeps (h.atTime.cond fun h => h.slotStart)
  | slotLoadStart _ _ => exact .of_keeps (h.atTime.cond fun h => h.slotLoadStart)
  | slotLoadDone _ _ => exact .of_keeps (h.atTime.cond fun h => h.slotLoadDone)
  | scanWindowEnd _ _ => exact .of_keeps (h.start.cond fun h => h.scanWindowEnd)
  | probeReadDone _ _ _ => exact .of_keeps (h.start.cond fun h => h.probeReadDone)
  | probeStatusReset => exact .of_keeps (h.start.cond fun h => h.probeStatusReset)
  | drpReinit => exact .of_keeps (h.start.cond fun h => h.drpReinit)
  | drvReset => exact .of_keeps (h.start.cond fun h => h.drvReset)
  | setBegin => exact .of_keeps (h.start.cond fun h => h.setBegin)
  | setEnd => exact .of_keeps (h.start.cond fun h => h.setEnd)
  | nvsWriteGo _ => exact .of_keeps (h.start.cond fun h => h.nvsWriteGo)
  | nvsReadGo _ => exact .of_keeps (h.start.cond fun h => h.nvsReadGo)
  | settingsSave => exact .of_keeps (h.start.cond fun h => h.settingsSave)
  | coneSaveNow => exact .of_keeps (h.start.cond fun h => h.coneSave)
  | mramWriteDone _ _ => exact .of_keeps (h.atTime.cond fun h => .ite (fun _ => h.mismatched.bgDone) fun _ => (by
      split
      · exact h.mismatched.fgDone
      · exact h.mismatched.fgDone
      · exact h.mismatched.fgDone
      · exact h))
  | coneSaveTimer _ => exact .of_keeps (h.atTime.cond fun h => h.coneSave)
  | scrubTimer _ _ _ => exact .of_keeps (h.atTime.cond fun h => h.bgPut.bgStart)
  | scrubLateAlarm => exact .of_keeps (h.start.cond fun h => h.level)
  | saveLateAlarm => exact .of_keeps (h.start.cond fun h => h.level)
  | backgroundUnitStart _ => exact .of_keeps (h.atTime.cond fun h => h.bgStart)
  | phcGo _ => exact .of_keeps (h.atTime.cond fun h => h.phcGo)
  | phcAbort => exact .of_keeps (h.start.cond fun h => h.phcAbort)
  | phaseEdge _ _ => exact .of_keeps (h.start.cond fun h => h.phaseEdge)
  | sensorRead _ _ _ _ => exact .of_keeps (h.atTime.cond fun h => h.sensorRead)
  | dieModelStep _ _ _ => exact .of_keeps (h.atTime.cond fun h => h.dieModelStep)
  | dieThrottleEval => exact .of_keeps (h.start.cond fun h => h.dieThrottle)
  | coneClr => exact .of_keeps (h.start.cond fun h => h.coneClr)
  | refreshTimer _ _ _ => exact .of_keeps (h.start.cond fun h => h.refresh)
  | patrolScrubLine _ _ => exact .of_keeps (h.start.cond fun h => h.scrubLine)
  | scrubNow _ => exact .of_keeps (h.start.cond fun h => h.scrubNow)
  | dramAlert _ _ => exact .of_keeps (h.start.cond fun h => h.inc.raise.wr.modCh)
  | freqGo _ => exact .of_keeps (h.start.cond fun h => h.freqGo)
  | freqDone => exact .of_keeps (h.start.cond fun h => h.freqDone)
  | audioResync => exact .of_keeps (h.start.cond fun h => h.audioResync)
  | audioMute _ => exact .of_keeps (h.start.cond fun h => h.audioMute)
  | audioClockLoss _ => exact .of_keeps (h.start.cond fun h => h.audioLoss)
  | audioClockReturn _ => exact .of_keeps (h.start.cond fun h => h.audioReturn)
  | asrcSample _ => exact .of_keeps (h.start.cond fun h => h.asrc)
  | audioSlip _ _ => exact .of_keeps (h.start.cond fun h => h.audioSlip)
  | aonRailGood => exact .of_keeps (h.start.aonRail)
  | bar2Write _ _ => exact .of_keeps (h.start.cond fun h => h.bar2Write)
  | relinquishCopy _ => exact .of_keeps (h.atTime.cond fun h => h.withRed.sendRelinquish)
  | watchdogResetDelay => exact .of_keeps (h.start.cond fun h => h.coreReset)
  | mramReadDone _ => exact .of_keeps (h.start.cond fun h => h.mramReadDone)
  | alertNReturn _ _ => exact .of_keeps (h.start.cond fun h => h.alertReturn)
  | ueWindowStep => exact .of_keeps (h.start.cond fun h => .ueRate (h.each fun _ _ h => h.modCh.showUe.showBw))
  | dramScrubLateAlarm _ => exact .of_keeps (h.start.cond fun h => h.showScrubLate)
  | lineComposed _ _ => exact .of_keeps (h.start.cond fun h => h.lineComposed)
  | peerBootChunk _ => exact .of_keeps (h.start.cond fun h => h.peerChunk)
  | audioOutputFrame => exact .of_keeps (h.start.cond fun h => h.audioOutput)
  | audioInputFrame _ _ _ => exact .of_keeps (h.start.cond fun h => h.audioInput)
  | sdiFrameReceive _ _ _ _ _ _ _ => exact .of_keeps (h.start.cond fun h => h.sdiFrame)

/-- Settles O58, by the commands: a step runs the one at the front of the queue, and no command breaks a sound state. -/
theorem everyStepKeepsStateSound : Obligations.EveryStepKeepsStateSound := by
  unfold Obligations.EveryStepKeepsStateSound
  intro s t hs hstep
  unfold step at hstep
  split at hstep
  · cases hstep; exact hs
  · next c rest _ => exact exec_keepsSound c _ t hstep ((Keeps.refl s).withPending.sound hs)

end Sys2Proof.Proofs.Soundness


/-!
Sender ticks (02 R35, R39; 04 R87). What of a tick comes after its epoch begins leaves the epoch, the tick and the role alone: it writes no word of
EPOCH, and of the records of the frame and of commits only what does not tell them.
-/

namespace Sys2Proof.Proofs.SenderTick
open Sys2Proof.Machine Sys2Proof.Laws Sys2Proof.Proofs.Frames Sys2Proof.Proofs.FieldRules Sys2Proof.Proofs.Framing Sys2Proof.Proofs.CoilFrames
  Sys2Proof.Proofs.Sending Sys2Proof.Proofs.LinkBeacons Sys2Proof.Proofs.Soundness

/-- Every word but the two of EPOCH. -/
def notEpoch (k : Nat) : Bool := decide (k ≠ 0x600 ∧ k ≠ 0x604)

/-- From `s` to `t` the epoch stays, and so do the tick and the loaded number. -/
structure Runs (s t : State) : Prop where
  words : WordsStay notEpoch s t
  ticked : t.frm.ticked = s.frm.ticked
  tickOut : t.frm.tickOut = s.frm.tickOut
  loadArmed : t.cmt.loadArmed = s.cmt.loadArmed

variable {s t : State}

theorem Runs.epoch (h : Runs s t) : t.epoch = s.epoch := by
  unfold State.epoch State.rd
  rw [show t.word R.GLB.EPOCH.key = s.word R.GLB.EPOCH.key from h.words _ (by decide),
    show t.word (R.GLB.EPOCH.key + 4) = s.word (R.GLB.EPOCH.key + 4) from h.words _ (by decide)]

theorem Runs.refl (s : State) : Runs s s := ⟨fun _ _ => rfl, rfl, rfl, rfl⟩

theorem Runs.trans {u : State} (h : Runs s t) (h' : Runs t u) : Runs s u :=
  ⟨fun k hk => (h'.words k hk).trans (h.words k hk), h'.ticked.trans h.ticked, h'.tickOut.trans h.tickOut, h'.loadArmed.trans h.loadArmed⟩

/-- A change of other parts of the state. -/
theorem Runs.other {u : State} (h : Runs s t) (hregs : u.regs = t.regs := by rfl)
    (hrest : (u.frm.ticked, u.frm.tickOut, u.cmt.loadArmed) = (t.frm.ticked, t.frm.tickOut, t.cmt.loadArmed) := by rfl) : Runs s u := by
  obtain ⟨h1, h2⟩ := Prod.mk.inj hrest
  obtain ⟨h2, h3⟩ := Prod.mk.inj h2
  exact h.trans ⟨fun k _ => by unfold State.word; rw [hregs], h1, h2, h3⟩

theorem Runs.wrAt (h : Runs s t) {f : Fld} {v : Nat} (hf : (notEpoch f.key && (decide (f.w ≤ 32) || notEpoch (f.key + 4))) = true) : Runs s (t.wr f v) := by
  refine h.trans ⟨(wordsStayFrame notEpoch).wr t v hf, ?_, ?_, ?_⟩ <;> rw [wr_eq]

/-- A write to another page than GLB. -/
theorem Runs.wr (h : Runs s t) {f : Fld} {v : Nat} (hf : 0 < f.page := by exact Nat.succ_pos _) : Runs s (t.wr f v) := by
  refine h.wrAt ?_
  unfold notEpoch Fld.key regKey
  simp only [Bool.and_eq_true, Bool.or_eq_true, decide_eq_true_eq]
  omega

theorem Runs.wrB (h : Runs s t) {f : Fld} {b : Bool} (hf : 0 < f.page := by exact Nat.succ_pos _) : Runs s (t.wrB f b) := h.wr hf

theorem Runs.inc (h : Runs s t) {f : Fld} (hf : 0 < f.page := by exact Nat.succ_pos _) : Runs s (t.inc f) := h.wr hf

theorem notEpoch_event (p : Nat) : notEpoch (evtRawKey p) = true ∧ notEpoch (evtPendKey p) = true := by
  unfold notEpoch evtRawKey evtPendKey regKey
  simp only [decide_eq_true_eq]
  omega

theorem Runs.raise (h : Runs s t) {e : Evt} : Runs s (t.raise e) := by
  refine h.trans ⟨fun k hk => wordsKept_raise t e k fun hc => ?_, ?_, ?_, ?_⟩
  · rw [List.mem_singleton.mp hc, (notEpoch_event e.page).2] at hk
    exact absurd hk (by decide)
  all_goals rw [raise_eq]

theorem Runs.level (h : Runs s t) {e : Evt} {b : Bool} : Runs s (t.level e b) := by
  refine h.trans ⟨fun k hk => wordsKept_level t e b k fun hc => ?_, ?_, ?_, ?_⟩
  · rcases List.mem_pair.mp hc with rfl | rfl
    · rw [(notEpoch_event e.page).1] at hk; exact absurd hk (by decide)
    · rw [(notEpoch_event e.page).2] at hk; exact absurd hk (by decide)
  all_goals rw [level_eq]

theorem Runs.incRaise (h : Runs s t) {f : Fld} {e : Evt} (hf : 0 < f.page := by exact Nat.succ_pos _) : Runs s (t.incRaise f e) := (h.inc hf).raise

theorem Runs.cond {b : Bool} {f : State → State} (h : Runs s t) (hf : Runs s t → Runs s (f t)) : Runs s (t.cond b f) := by
  cases b
  · exact h
  · exact hf h

theorem Runs.ite {u v : State} {c : Prop} [Decidable c] (hu : Runs s u) (hv : Runs s v) : Runs s (if c then u else v) := by
  split
  · exact hu
  · exact hv

theorem Runs.each {α : Type} {xs : List α} {f : State → α → State} (h : Runs s t) (hf : ∀ u x, Runs s u → Runs s (f u x)) : Runs s (t.each xs f) :=
  each_keeps (P := Runs s) xs hf h

/-! The clock and the transition. -/

theorem Runs.setTrans (h : Runs s t) {n : Nat} : Runs s (t.setTrans n) := by
  unfold State.setTrans
  exact h.wr.wrB.level

theorem Runs.transTick (h : Runs s t) {old : State} : Runs s (t.transTick old) := by
  unfold State.transTick
  exact .ite h.other.setTrans.wr.inc h.setTrans

theorem Runs.stepAtTick (h : Runs s t) {step : Option Int} : Runs s (t.stepAtTick step) := by
  unfold State.stepAtTick
  split
  · exact h
  · unfold State.stepBase State.moveBase
    exact h.other.wr.wr.raise

theorem Runs.toState (h : Runs s t) {c : Nat} : Runs s (t.toState c) := by
  unfold State.toState
  exact .ite h (h.wrAt (by decide)).raise

theorem Runs.showFrame (h : Runs s t) {held : Bool} : Runs s (t.showFrame held) := by
  unfold State.showFrame
  exact .ite h (h.cond fun h => h.toState).toState

/-! The layers. -/

theorem layer_page (n : Nat) : 0 < 0x040 + n := Nat.add_pos_left (by decide) n

theorem Runs.modLayer (h : Runs s t) {n : Nat} {f : LayerSt → LayerSt} : Runs s (t.modLayer n f) := h.other

theorem Runs.showFence (h : Runs s t) {n : Nat} : Runs s (t.showFence n) := by
  have hshow {i v : Nat} : Runs s ((t.wr (R.LYR.PEND_IDX n) i).wr (R.LYR.PEND_VALID n) v) := (h.wr (layer_page n)).wr (layer_page n)
  unfold State.showFence
  dsimp only
  split
  · exact hshow.each fun _ _ h => h.wr
  · exact hshow.each fun _ _ h => h.wr

theorem Runs.freed (h : Runs s t) {n : Nat} {bs : List Nat} : Runs s (t.freed n bs) := by
  have hpick (b : Prop) [Decidable b] : Runs s (if b then (0, t) else t.fresh).2 := by
    split
    · exact h
    · exact h.other
  unfold State.freed
  split
  · exact h
  · exact ((hpick _).wr (layer_page n)).raise

theorem Runs.setLease (h : Runs s t) {n : Nat} {b : Option Nat} : Runs s (t.setLease n b) := by
  unfold State.setLease
  exact (h.wr (layer_page n)).wrB (layer_page n)

theorem Runs.sourceChanged (h : Runs s t) {old : State} {n : Nat} : Runs s (t.sourceChanged old n) := by
  unfold State.sourceChanged
  exact .ite h (h.freed.setLease.wr (layer_page n)).modLayer.showFence

theorem Runs.notReady (h : Runs s t) {n : Nat} : Runs s (t.notReady n) := by
  unfold State.notReady
  exact (((h.incRaise (layer_page n)).wr (layer_page n)).modLayer.wrB (layer_page n)).wrB (layer_page n)

theorem Runs.latchBuffer (h : Runs s t) {n b epoch : Nat} {superseded : List Nat} : Runs s (t.latchBuffer n b epoch superseded) := by
  have hn := layer_page n
  unfold State.latchBuffer
  extract_lets +onlyGivenNames gone u marked conc v
  have hu : Runs s u := h.cond fun h => h.freed
  clear_value u marked conc
  have hv : Runs s v := ((hu.setLease.wr hn).inc hn).modLayer
  clear_value v
  exact ((((hv.wr hn).wrB hn).wrB hn).cond fun h => h.incRaise hn).cond fun h => h.incRaise hn

theorem Runs.latchLayer (h : Runs s t) {n epoch at' : Nat} : Runs s (t.latchLayer n epoch at') := by
  unfold State.latchLayer
  refine .ite (Runs.showFence ?_) (((h.modLayer.wr (layer_page n)).wr (layer_page n)).wr (layer_page n)).showFence
  split
  · exact h.modLayer.notReady
  · exact h.modLayer.latchBuffer

theorem Runs.latchLayers (h : Runs s t) {old : State} {epoch at' : Nat} : Runs s (t.latchLayers old epoch at') := by
  unfold State.latchLayers
  exact h.each fun _ _ h => h.sourceChanged.latchLayer

/-! The regions and the compositor. -/

theorem Runs.sagRestart (h : Runs s t) {old : State} {k : Nat} : Runs s (t.sagRestart old k) := by
  unfold State.sagRestart
  exact .ite h h.other

theorem Runs.showAction (h : Runs s t) {k : Nat} : Runs s (t.showAction k) := by
  unfold State.showAction
  have hflag : Runs s ((t.wr (R.SAG.ACTION (k / 32)) (withBit (t.rd (R.SAG.ACTION (k / 32))) (k % 32) (t.regSt k).inForce)).setSagFlag k 2
    (t.regSt k).inForce) := (h.wr (f := R.SAG.ACTION (k / 32))).other
  exact (hflag.cond fun h => h.raise).level

theorem Runs.trip (h : Runs s t) {ks : List Nat} {suspect : Bool} {counted : List Nat} : Runs s (t.trip ks suspect counted) := by
  unfold State.trip
  exact h.each fun _ _ h => .showAction (.other (h.cond fun h => h.incRaise (f := R.SAG.CNT_TRIP)))

theorem Runs.withPrv (h : Runs s t) {p : PrvSt} : Runs s { t with prv := p } := h.other

theorem Runs.openFrame (h : Runs s t) {old : State} : Runs s (t.openFrame old) := by
  unfold State.openFrame
  extract_lets +onlyGivenNames u by_ sus con v w x _ y z
  have hu : Runs s u := h.each fun _ _ h => h.sagRestart.cond fun h => h.other
  clear_value u
  have hw : Runs s w := hu.trip.trip.each fun _ _ h => h.showAction
  clear_value w
  have hx : Runs s x := hw.cond fun h => h.inc (f := R.TG.CNT_CAPTURE_SKIP 1)
  clear_value x
  have hy : Runs s y := hx.withPrv
  clear_value y
  have hz : Runs s z := hy.wr.wr.wr
  clear_value z
  exact hz.wrB

/-! The audio and the plan of the next tick. -/

theorem Runs.showAudio (h : Runs s t) : Runs s t.showAudio := by
  unfold State.showAudio
  exact h.wr.wrB.wrB.wrB.wrB.wrB.level

theorem Runs.audioTarget (h : Runs s t) : Runs s t.audioTarget := by
  have hslot : Runs s t.audioSlot.2 := by
    unfold State.audioSlot
    split
    · exact h
    · exact h.other
  unfold State.audioTarget
  exact hslot.level.wr

theorem Runs.audioTick (h : Runs s t) {old : State} : Runs s (t.audioTick old) := by
  unfold State.audioTick
  extract_lets +onlyGivenNames u n
  have hu : Runs s u := Runs.audioTarget (Runs.wr h.other)
  clear_value u n
  exact Runs.showAudio (.ite hu.other (.ite hu.other (hu.cond fun h => h.other)))

theorem Runs.planJump (h : Runs s t) {plain : State} (hp : Runs s plain) : Runs s (t.planJump plain) := by
  unfold State.planJump
  split
  · exact .ite h.other hp
  · exact hp

theorem Runs.planNext (h : Runs s t) : Runs s t.planNext := by
  unfold State.planNext
  dsimp only
  split
  · exact .ite (h.planJump h.other) h.other
  · exact h.planJump h.other



/-! The tick of a sender (02 R39). -/

theorem beginEpoch_epoch (s : State) (e : Nat) : (s.beginEpoch e).epoch = e % 2 ^ 64 := by
  unfold State.beginEpoch State.epoch
  rw [rd_wr_sep _ _ (by decide), rd_wr_own _ _ (by decide)]
  rfl

/-- What a tick of a sender shows. -/
theorem senderTickFx_shows (s : State) : (senderTickFx s).epoch = s.nextEpoch % 2 ^ 64 ∧ (senderTickFx s).frm.ticked = true ∧
    (senderTickFx s).frm.tickOut = false ∧ (senderTickFx s).cmt.loadArmed = false := by
  unfold senderTickFx
  extract_lets +onlyGivenNames e step first a b old c d hold _ _ u v w
  have hc : c.epoch = e % 2 ^ 64 := beginEpoch_epoch _ e
  have hd : Runs (c.turnClock e) d := ((Runs.refl _).stepAtTick).transTick
  have hu : u.epoch = e % 2 ^ 64 ∧ u.frm.ticked = true ∧ u.frm.tickOut = false ∧ u.cmt.loadArmed = false :=
    ⟨hd.epoch.trans hc, hd.ticked, hd.tickOut, rfl⟩
  clear_value u hold
  have hrest : Runs u ((w.audioTick (if first then State.reset else old)).planNext) :=
    ((Runs.refl u).wrB.showFrame.latchLayers.openFrame.audioTick).planNext
  obtain ⟨h1, h2, h3, h4⟩ := hu
  exact ⟨hrest.epoch.trans h1, hrest.ticked.trans h2, hrest.tickOut.trans h3, hrest.loadArmed.trans h4⟩

/-- At its tick a sender's epoch becomes the next one. -/
theorem senderTick_shows {s : State} (hp : s.tickPlanned = true) (t0 : Nat) : ∃ t, exec (.senderTick t0) s = .next t ∧ t.epoch = s.nextEpoch % 2 ^ 64 ∧
    t.frm.ticked = true ∧ t.frm.tickOut = false ∧ t.cmt.loadArmed = false ∧ t.role = s.role := by
  obtain ⟨h1, h2, h3, h4⟩ := senderTickFx_shows (s.atTime t0)
  exact ⟨senderTickFx (s.atTime t0), congrArg Host.Outcome.next (cond_of hp _ _), h1, h2, h3, h4, ((Keeps.refl s).atTime.senderTick).role⟩

/-! The markers and TICKs that go out before it. -/

/-- The marker of a commit. -/
def markerBody (copy : Nat) (c : Commit) : ConfigBody :=
  let w := wideOf (smGet resetWord c.snap)
  { target := c.target, copy := copy, recovery := false, sch := w.1, clk := w.2 }

/-- A copy of a marker leaves on every port that launches the TICK. -/
theorem markerFx_sends {s : State} {copy : Nat} {c : Commit} (hc : s.cmt.pend.find? (fun c => c.target == s.epoch + 1) = some c)
    (ht : s.frm.ticked = true) (h1 : 1 ≤ copy) (h2 : copy ≤ 2) (hnew : s.frm.copies < copy) :
    OnlySent { s with frm := { s.frm with copies := copy } } (markerFx copy s) ∧
    ∀ p ∈ s.tickPorts (s.epoch + 1), ∃ b, Sends (markerFx copy s) p (.config p none b) ∧ b.target = c.target ∧ b.copy = copy ∧ b.recovery = false := by
  have hno : (!s.frm.ticked || decide (copy < 1) || decide (2 < copy) || decide (copy ≤ s.frm.copies)) = false := by
    simp only [ht, Bool.not_true, Bool.false_or, Bool.or_eq_false_iff, decide_eq_false_iff_not]
    omega
  unfold markerFx
  simp only [hc, hno, Bool.false_eq_true, if_false]
  obtain ⟨hsent, -, hports, -⟩ := each_sends (s := { s with frm := { s.frm with copies := copy } }) (xs := s.tickPorts (s.epoch + 1)) (port := id)
    (pkt := fun p => .config p none (markerBody copy c)) (fun _ _ _ _ => rfl) (fun _ _ => ⟨_, rfl⟩)
  exact ⟨hsent, fun p hp => ⟨_, hports p hp, rfl, rfl, rfl⟩⟩

/-- The records of the frame, of commits and of the clock, and those that no TICK touches. -/
def planSide (s : State) : FrmSt × CmtSt × ClkSt × BootSt × MramSt := (s.frm, s.cmt, s.clk, s.boot, s.mram)

/-- What the number of the next epoch is told from stays: the words below the coil ports, the frame, commits and the clock. -/
structure Planned (s t : State) : Prop where
  words : WordsStay (fun k => decide (0x80000 ≤ k)) s t
  side : planSide t = planSide s

theorem Planned.nextEpoch {s t : State} (h : Planned s t) : t.nextEpoch = s.nextEpoch := by
  have hlow (f : Fld) (hlow : f.key + 4 < 0x80000) : t.rd f = s.rd f := by
    have h0 : t.word f.key = s.word f.key := h.words _ (decide_eq_false (by omega))
    have h4 : t.word (f.key + 4) = s.word (f.key + 4) := h.words _ (decide_eq_false (by omega))
    unfold State.rd
    rw [h0, h4]
  unfold State.nextEpoch State.epoch State.rateNum State.rateDen State.tickOffset State.lvI State.lv
  rw [hlow R.GLB.EPOCH (by decide), hlow R.CMT.EPOCH_LOAD (by decide), hlow R.CLK.RATE_NUM.live (by decide), hlow R.CLK.RATE_1001.live (by decide),
    hlow R.CLK.TICK_OFFSET.live (by decide), show t.frm = s.frm from congrArg Prod.fst h.side,
    show t.cmt = s.cmt from congrArg (·.2.1) h.side, show t.clk = s.clk from congrArg (·.2.2.1) h.side]

theorem planned_late (s : State) (late : Bool) (o : Output) (p : Nat) :
    Planned s ((s.emit o).cond late fun s => s.incRaise (R.COIL.CNT_LAUNCH_LATE p) (R.COIL.ev_LAUNCH_LATE p)) := by
  cases late with
  | false => exact ⟨fun _ _ => rfl, rfl⟩
  | true =>
    have hframe := wordsStayFrame (fun k => decide (0x80000 ≤ k))
    have hkey : ∀ off, decide (0x80000 ≤ regKey (0x080 + p) off) = true := fun off => decide_eq_true (by unfold regKey; omega)
    refine ⟨hframe.incRaise (s.emit o) ?_ ?_ (show 7 < 32 by decide),
      (partFrame (F := planSide) fun _ _ _ => rfl).incRaise (s.emit o) rfl rfl (show 7 < 32 by decide)⟩
    · exact (Bool.and_eq_true _ _).mpr ⟨hkey _, rfl⟩
    · exact (Bool.and_eq_true _ _).mpr ⟨hkey _, hkey _⟩

theorem Planned.trans {s t u : State} (h : Planned s t) (h' : Planned t u) : Planned s u :=
  ⟨fun k hk => (h'.words k hk).trans (h.words k hk), h'.side.trans h.side⟩

theorem out_late (s : State) (late : Bool) (o : Output) (p : Nat) :
    ((s.emit o).cond late fun s => s.incRaise (R.COIL.CNT_LAUNCH_LATE p) (R.COIL.ev_LAUNCH_LATE p)).out = s.out ++ [o] := by
  cases late with
  | false => rfl
  | true =>
    unfold State.cond State.incRaise State.inc State.incBy
    rw [if_pos rfl, raise_out, wr_out]
    rfl

theorem onlySent_drainN (p n : Nat) (s : State) : OnlySent s (State.drainN p n s) := by
  induction n generalizing s with
  | zero => exact onlySent_refl s
  | succ n ih =>
    unfold State.drainN
    split
    · exact onlySent_refl s
    · split
      · exact onlySent_refl s
      · exact ((onlySent_modCoil s p _).trans (depart_frame _ _)).trans (ih _)

/-- An egress that drains while no reset waits for a response changes outputs and the records of the ports alone. -/
theorem onlySent_drain {s : State} (h : s.boot.coilDue = none) (p : Nat) : OnlySent s (s.drain p) ∧ OutKept s (s.drain p) := by
  rw [drain_of_none h]
  exact ⟨onlySent_drainN p _ s, outKept_drainN p _ s⟩

/-- The TICKs of the next epoch, on some ports. -/
def ticksSent (late : Bool) (ports : List Nat) (s : State) : State :=
  s.each ports fun s p => (s.emit (.tick p (s.tickBody p))).cond late fun s => s.incRaise (R.COIL.CNT_LAUNCH_LATE p) (R.COIL.ev_LAUNCH_LATE p)

theorem tickBody_commitTarget {s t : State} (h : Planned s t) (p : Nat) : (t.tickBody p).commitTarget = s.commitTarget s.nextEpoch := by
  show t.commitTarget t.nextEpoch = s.commitTarget s.nextEpoch
  unfold State.commitTarget
  rw [h.nextEpoch, show t.cmt = s.cmt from congrArg (·.2.1) h.side]

theorem ticksSent_sends (s : State) (late : Bool) (ports : List Nat) : Planned s (ticksSent late ports s) ∧
    ∀ p ∈ ports, ∃ b, Output.tick p b ∈ (ticksSent late ports s).out ∧ b.epoch = s.nextEpoch ∧ b.commitTarget = s.commitTarget s.nextEpoch := by
  refine each_all (Inv := Planned s)
    (P := fun p t => ∃ b, Output.tick p b ∈ t.out ∧ b.epoch = s.nextEpoch ∧ b.commitTarget = s.commitTarget s.nextEpoch)
    (fun t ht p _ => ⟨ht.trans (planned_late t late _ p), t.tickBody p, ?_, ht.nextEpoch, tickBody_commitTarget ht p⟩)
    (fun t _ p _ q ⟨b, hb, hrest⟩ => ⟨b, ?_, hrest⟩) ⟨fun _ _ => rfl, rfl⟩
  · rw [out_late]
    exact List.mem_append_right _ List.mem_cons_self
  · rw [out_late]
    exact List.mem_append_left _ hb

/-- What waited for the TICK follows it. -/
theorem drained_onlySent {s : State} (h : s.boot.coilDue = none) (ports : List Nat) :
    OnlySent s (s.each ports State.drain) ∧ OutKept s (s.each ports State.drain) := by
  refine each_keeps (P := fun t => OnlySent s t ∧ OutKept s t) _ (fun t p ⟨h1, h2⟩ => ?_) ⟨onlySent_refl s, fun _ h => h⟩
  obtain ⟨h3, h4⟩ := onlySent_drain (s := t) (by rw [h1]; exact h) p
  exact ⟨h1.trans h3, fun o ho => h4 o (h2 o ho)⟩

/-- The TICK of the next epoch leaves by every port that launches it. -/
theorem tickLaunchFx_sends {s : State} (h : s.boot.coilDue = none) :
    (tickLaunchFx s).frm = { s.frm with tickOut := true } ∧ (tickLaunchFx s).mram = s.mram ∧ (tickLaunchFx s).cmt = s.cmt ∧
    ∀ p ∈ s.tickPorts s.nextEpoch, ∃ b, Output.tick p b ∈ (tickLaunchFx s).out ∧ b.epoch = s.nextEpoch ∧ b.commitTarget = s.commitTarget s.nextEpoch := by
  obtain ⟨late, hlate⟩ : ∃ late, tickLaunchFx s = ({ ticksSent late (s.tickPorts s.nextEpoch) s with
    frm := { (ticksSent late (s.tickPorts s.nextEpoch) s).frm with tickOut := true } } : State).each
      (ticksSent late (s.tickPorts s.nextEpoch) s).ports State.drain := ⟨_, rfl⟩
  obtain ⟨⟨-, hside⟩, hticks⟩ := ticksSent_sends s late (s.tickPorts s.nextEpoch)
  rw [hlate]
  generalize ticksSent late (s.tickPorts s.nextEpoch) s = u at hside hticks ⊢
  unfold planSide at hside
  simp only [Prod.mk.injEq] at hside
  obtain ⟨hfrm, hcmt, -, hboot, hmram⟩ := hside
  obtain ⟨hsent, hkept⟩ := drained_onlySent (s := { u with frm := { u.frm with tickOut := true } }) (hboot ▸ h) u.ports
  refine ⟨?_, ?_, ?_, fun p hp => ?_⟩
  · rw [hsent, ← hfrm]
  · rw [hsent, ← hmram]
  · rw [hsent, ← hcmt]
  · obtain ⟨b, hb, hrest⟩ := hticks p hp
    exact ⟨b, hkept _ hb, hrest⟩

/-! O32. -/

/-- Settles O32: markers and TICKs leave by the ports that launch them, and what follows the beginning of an epoch leaves its number alone. -/
theorem senderTicks : Obligations.SenderTicks := by
  unfold Obligations.SenderTicks
  refine ⟨fun copy t0 c s hs ht hc h1 h2 hnew => ?_, fun t0 s hp hout hdue => ?_, fun t0 s hp ht hlt => ?_, fun t0 s hp ht harm => ?_⟩
  · obtain ⟨hsent, hports⟩ := markerFx_sends (s := s.atTime t0) hc ht h1 h2 hnew
    refine ⟨markerFx copy (s.atTime t0), congrArg Host.Outcome.next (cond_of hs _ _), ?_, ?_, ?_, hports⟩ <;> rw [hsent] <;> rfl
  · have hgo : (s.tickPlanned && !s.frm.tickOut) = true := by rw [hp, hout]; rfl
    exact ⟨tickLaunchFx (s.atTime t0), congrArg Host.Outcome.next (cond_of hgo _ _), tickLaunchFx_sends (s := s.atTime t0) hdue⟩
  · have hrole : s.role = .sender := ((isSender_iff s).mp ((Bool.and_eq_true _ _ ▸ hp : _ ∧ _).1)).2
    obtain ⟨t, hexec, h1, h2, h3, h4, h5⟩ := senderTick_shows hp t0
    refine ⟨t, hexec, ?_, h2, h3, h4, h5.trans hrole⟩
    rw [h1, show s.nextEpoch = s.epoch + 1 from if_pos ht, Nat.mod_eq_of_lt hlt]
  · obtain ⟨t, hexec, h1, h2, -⟩ := senderTick_shows hp t0
    refine ⟨t, hexec, ?_, h2⟩
    rw [h1, show s.nextEpoch = s.rd R.CMT.EPOCH_LOAD by unfold State.nextEpoch; rw [if_neg (by rw [ht]; decide), if_pos harm]]
    exact Nat.mod_eq_of_lt (Nat.mod_lt _ (by decide))

end Sys2Proof.Proofs.SenderTick


/-!
What follows an apply at a sender before its first tick (02 R49; 16 R415): no unit writes a shadow register or a live copy, nor BUSY or the count
of acceptances, and none touches a commit. `Leaves` composes along the model's own definitions.
-/

namespace Sys2Proof.Proofs.ApplyFrames
open Sys2Proof.Machine Sys2Proof.Laws Sys2Proof.Proofs.Frames Sys2Proof.Proofs.Framing Sys2Proof.Proofs.Applies
set_option Elab.async false

/-! Where the words lie that stay. -/

/-- The shadow registers and live copies, and the words of BUSY and of the count of acceptances. -/
def held (k : Nat) : Bool := isShadow k || isLive k || (k == R.CMT.BUSY.key || k == R.CMT.CNT_ACCEPT.key)

/-- Only the decoder's shadow registers reach beyond the first 0x180 bytes of a page. -/
theorem shadowEnd_le_of_ne (b : Blk) (h : b ≠ .dec) : b.shadowEnd ≤ 0x180 := by
  cases b
  case dec => exact absurd rfl h
  all_goals decide

/-- A page found in a list of blocks is one of its block's. -/
theorem blkFind_range {p n : Nat} {b : Blk} {bs : List Blk} (h : blkFind p bs = some (b, n)) : b.base ≤ p ∧ p < b.base + b.count := by
  induction bs with
  | nil => cases h
  | cons x xs ih =>
    unfold blkFind at h
    split at h
    · next hx =>
      cases h
      exact hx
    · exact ih h

theorem blkOf_dec {p n : Nat} (h : blkOf p = some (.dec, n)) : p = 0x030 := by
  have := blkFind_range h
  simp only [Blk.base, Blk.count] at this
  omega

/-- A word that is a shadow register or a live copy lies between the common head of its page and the end of its live copies. -/
theorem held_range {p o : Nat} (ho : o < 0x1000) (h : (isShadow (regKey p o) || isLive (regKey p o)) = true) :
    0x40 ≤ o ∧ o < 0x640 ∧ (p ≠ 0x030 → o < 0x580) := by
  have hp : regKey p o / 0x1000 = p := by unfold regKey; omega
  have hm : regKey p o % 0x1000 = o := by unfold regKey; omega
  unfold isShadow isLive keyBlk at h
  rw [hp, hm] at h
  cases hb : blkOf p with
  | none => simp [hb] at h
  | some bn =>
    obtain ⟨b, n⟩ := bn
    rw [hb] at h
    simp only [Bool.or_eq_true, decide_eq_true_eq] at h
    have hend := shadowEnd_le b
    refine ⟨by omega, by omega, fun hne => ?_⟩
    have hdec : b ≠ .dec := fun hb' => hne (blkOf_dec (hb' ▸ hb))
    have := shadowEnd_le_of_ne b hdec
    omega

/-- A place outside the shadow registers, the live copies and the CMT page. -/
def spareAt (page off : Nat) : Bool :=
  (decide (off < 0x40) || (decide (0x580 ≤ off) && (decide (0x640 ≤ off) || !(page == 0x030)) && decide (off < 0x1000))) && !(page == 2)

theorem held_of_spareAt {p o : Nat} (h : spareAt p o = true) : held (regKey p o) = false := by
  unfold spareAt at h
  simp only [Bool.and_eq_true, Bool.or_eq_true, decide_eq_true_eq, Bool.not_eq_true', beq_eq_false_iff_ne] at h
  have hnot : ¬ (isShadow (regKey p o) || isLive (regKey p o)) = true := fun hc => by
    have := held_range (by omega) hc
    omega
  have hcmt : (regKey p o == R.CMT.BUSY.key || regKey p o == R.CMT.CNT_ACCEPT.key) = false := by
    simp only [Bool.or_eq_false_iff, beq_eq_false_iff_ne]
    have hp : p ≠ 2 := h.2
    exact ⟨regKey_ne_of_page hp (by omega) (by decide), regKey_ne_of_page hp (by omega) (by decide)⟩
  unfold held
  rw [Bool.eq_false_iff.mpr hnot, hcmt]
  rfl

/-- A field that none of these words holds. -/
def Spare (f : Fld) : Prop := held f.key = false ∧ held (f.key + 4) = false

/-- A field of one place. -/
theorem Spare.fixed {f : Fld} (h : (spareAt f.page f.off && spareAt f.page (f.off + 4)) = true) : Spare f := by
  rw [Bool.and_eq_true] at h
  obtain ⟨h1, h2⟩ := h
  have hnext : f.key + 4 = regKey f.page (f.off + 4) := by unfold Fld.key regKey; omega
  refine ⟨held_of_spareAt h1, ?_⟩
  rw [hnext]
  exact held_of_spareAt h2

/-- A field of one of the pages after the decoder's. -/
theorem Spare.above (b : Nat) {f : Fld} (hp : b ≤ f.page := by exact Nat.le_add_right _ _) (hb : 0x030 < b := by decide)
    (ho : (Nat.ble (f.off + 5) 0x40 || (Nat.ble 0x580 f.off && Nat.ble (f.off + 5) 0x1000)) = true := by rfl) : Spare f := by
  refine .fixed ?_
  unfold spareAt
  simp only [Bool.and_eq_true, Bool.or_eq_true, Nat.ble_eq, decide_eq_true_eq, Bool.not_eq_true', beq_eq_false_iff_ne] at ho ⊢
  omega

/-- A field beyond the live copies of its page, or in the common head. -/
theorem Spare.beyond (b : Nat) {f : Fld} (hp : b ≤ f.page := by exact Nat.le_add_right _ _) (hb : 2 < b := by decide)
    (ho : (Nat.ble (f.off + 5) 0x40 || (Nat.ble 0x640 f.off && Nat.ble (f.off + 5) 0x1000)) = true := by rfl) : Spare f := by
  refine .fixed ?_
  unfold spareAt
  simp only [Bool.and_eq_true, Bool.or_eq_true, Nat.ble_eq, decide_eq_true_eq, Bool.not_eq_true', beq_eq_false_iff_ne] at ho ⊢
  omega

/-- An entry of an array of status fields. -/
theorem Spare.entry {page off lo w : Nat} (hp : page ≠ 2) (hd : page ≠ 0x030 ∨ 0x640 ≤ off) (ho : 0x580 ≤ off) (hlt : off + 5 ≤ 0x1000) :
    Spare ⟨page, off, lo, w⟩ := by
  refine .fixed ?_
  unfold spareAt
  simp only [Bool.and_eq_true, Bool.or_eq_true, decide_eq_true_eq, Bool.not_eq_true', beq_eq_false_iff_ne]
  omega

theorem spare_refPick {i : Nat} {f g : Fld} (hf : Spare f := by exact .fixed rfl) (hg : Spare g := by exact .fixed rfl) : Spare (refPick i f g) := by
  unfold refPick
  split
  · exact hf
  · exact hg

/-- The status fields of a stream of the decoder. -/
theorem spare_decStream {n : Nat} (hn : n < 16) :
    Spare (R.DEC.DSTATE n) ∧ Spare (R.DEC.BACKLOG n) ∧ Spare (R.DEC.DPB_USED n) ∧ Spare (R.DEC.CNT_SHED n) := by
  refine ⟨?_, ?_, ?_, ?_⟩ <;> exact .entry (by decide) (by omega) (by omega) (by omega)

/-! The frame. -/

/-- From `s` to `t` these words stay, and so do the commits. -/
structure Leaves (s t : State) : Prop where
  words : ∀ k, held k = true → t.word k = s.word k
  cmt : t.cmt = s.cmt
  anyCommit : t.boot.anyCommit = s.boot.anyCommit

variable {s t : State}

theorem Leaves.refl (s : State) : Leaves s s := ⟨fun _ _ => rfl, rfl, rfl⟩

theorem Leaves.trans {u : State} (h : Leaves s t) (h' : Leaves t u) : Leaves s u :=
  ⟨fun k hk => (h'.words k hk).trans (h.words k hk), h'.cmt.trans h.cmt, h'.anyCommit.trans h.anyCommit⟩

/-- A change of other parts of the state. -/
theorem Leaves.other {u : State} (h : Leaves s t) (hregs : u.regs = t.regs := by rfl)
    (hrest : (u.cmt, u.boot.anyCommit) = (t.cmt, t.boot.anyCommit) := by rfl) : Leaves s u := by
  obtain ⟨h1, h2⟩ := Prod.mk.inj hrest
  exact h.trans ⟨fun k _ => by unfold State.word; rw [hregs], h1, h2⟩

theorem ne_of_held {k k' : Nat} (hk : held k = true) (hk' : held k' = false) : k ≠ k' := fun hc => by
  rw [hc, hk'] at hk
  exact absurd hk (by decide)

theorem Leaves.setWord (h : Leaves s t) {k : Nat} {x : Word32} (hk : held k = false) : Leaves s (t.setWord k x) :=
  h.trans ⟨fun _ hj => word_setWord_ne t x (ne_of_held hj hk), rfl, rfl⟩

theorem Leaves.wr (h : Leaves s t) {f : Fld} {v : Nat} (hf : Spare f := by exact .fixed rfl) : Leaves s (t.wr f v) := by
  refine h.trans ⟨fun k hk => word_wr_ne t v (ne_of_held hk hf.1) fun _ => ne_of_held hk hf.2, ?_, ?_⟩ <;> rw [wr_eq]

theorem Leaves.wrB (h : Leaves s t) {f : Fld} {b : Bool} (hf : Spare f := by exact .fixed rfl) : Leaves s (t.wrB f b) := h.wr hf

theorem Leaves.wrI (h : Leaves s t) {f : Fld} {v : Int} (hf : Spare f := by exact .fixed rfl) : Leaves s (t.wrI f v) := h.wr hf

theorem Leaves.incBy (h : Leaves s t) {f : Fld} {n : Nat} (hf : Spare f := by exact .fixed rfl) : Leaves s (t.incBy f n) := h.wr hf

theorem Leaves.inc (h : Leaves s t) {f : Fld} (hf : Spare f := by exact .fixed rfl) : Leaves s (t.inc f) := h.wr hf

/-- The event words of no page are among those that stay. -/
theorem held_event (p : Nat) : held (evtRawKey p) = false ∧ held (evtPendKey p) = false := by
  have hoff {o : Nat} (ho : o < 0x40) (hcmt : o ≠ 0x00C) : held (regKey p o) = false := by
    have hnot : ¬ (isShadow (regKey p o) || isLive (regKey p o)) = true := fun hc => by
      have := held_range (by omega) hc
      omega
    have hwords : (regKey p o == 0x200C || regKey p o == 0x2680) = false := by
      simp only [Bool.or_eq_false_iff, beq_eq_false_iff_ne]
      unfold regKey
      omega
    unfold held
    rw [Bool.eq_false_iff.mpr hnot]
    exact hwords
  exact ⟨hoff (by decide) (by decide), hoff (by decide) (by decide)⟩

theorem Leaves.raise (h : Leaves s t) {e : Evt} : Leaves s (t.raise e) := by
  refine h.trans ⟨fun k hk => wordsKept_raise t e k fun hc => ?_, ?_, ?_⟩
  · exact ne_of_held hk (held_event e.page).2 (List.mem_singleton.mp hc)
  all_goals rw [raise_eq]

theorem Leaves.level (h : Leaves s t) {e : Evt} {b : Bool} : Leaves s (t.level e b) := by
  refine h.trans ⟨fun k hk => wordsKept_level t e b k fun hc => ?_, ?_, ?_⟩
  · exact (List.mem_pair.mp hc).elim (ne_of_held hk (held_event e.page).1) (ne_of_held hk (held_event e.page).2)
  all_goals rw [level_eq]

theorem Leaves.incRaise (h : Leaves s t) {f : Fld} {e : Evt} (hf : Spare f := by exact .fixed rfl) : Leaves s (t.incRaise f e) := (h.inc hf).raise

theorem Leaves.cond {b : Bool} {f : State → State} (h : Leaves s t) (hf : Leaves s t → Leaves s (f t)) : Leaves s (t.cond b f) := by
  cases b
  · exact h
  · exact hf h

theorem Leaves.ite {u v : State} {c : Prop} [Decidable c] (hu : c → Leaves s u) (hv : ¬c → Leaves s v) : Leaves s (if c then u else v) := by
  split
  · next hc => exact hu hc
  · next hc => exact hv hc

theorem Leaves.each {α : Type} {xs : List α} {f : State → α → State} (h : Leaves s t) (hf : ∀ u x, Leaves s u → Leaves s (f u x)) :
    Leaves s (t.each xs f) :=
  each_keeps (P := Leaves s) xs hf h

/-- The same over the members of a list. -/
theorem Leaves.eachMem {α : Type} {xs : List α} {f : State → α → State} (h : Leaves s t)
    (hf : ∀ u, ∀ x ∈ xs, Leaves s u → Leaves s (f u x)) : Leaves s (t.each xs f) := by
  induction xs generalizing t with
  | nil => exact h
  | cons x xs ih => exact ih (hf t x List.mem_cons_self h) fun u y hy => hf u y (List.mem_cons_of_mem x hy)

/-! Changes of other parts. -/

theorem Leaves.withAon {x : Aon} (h : Leaves s t) : Leaves s { t with aon := x } := h.other
theorem Leaves.withBoot {x : BootSt} (h : Leaves s t) (e : x.anyCommit = t.boot.anyCommit := by rfl) : Leaves s { t with boot := x } :=
  h.trans ⟨fun _ _ => rfl, rfl, e⟩

theorem Leaves.withClk {x : ClkSt} (h : Leaves s t) : Leaves s { t with clk := x } := h.other
theorem Leaves.withClkFrm {x : ClkSt} {y : FrmSt} (h : Leaves s t) : Leaves s { t with clk := x, frm := y } := h.other
theorem Leaves.withCoil {x : List (Nat × CoilSt)} (h : Leaves s t) : Leaves s { t with coil := x } := h.other
theorem Leaves.withDec {x : DecAll} (h : Leaves s t) : Leaves s { t with dec := x } := h.other
theorem Leaves.withDrm {x : DramSt} (h : Leaves s t) : Leaves s { t with drm := x } := h.other
theorem Leaves.withFrm {x : FrmSt} (h : Leaves s t) : Leaves s { t with frm := x } := h.other
theorem Leaves.withFrmPhc {x : FrmSt} {y : PhcSt} (h : Leaves s t) : Leaves s { t with frm := x, phc := y } := h.other
theorem Leaves.withLmp {x : LmpSt} (h : Leaves s t) : Leaves s { t with lmp := x } := h.other
theorem Leaves.withLsm {x : LsmSt} (h : Leaves s t) : Leaves s { t with lsm := x } := h.other
theorem Leaves.withLyr {x : List (Nat × LayerSt)} (h : Leaves s t) : Leaves s { t with lyr := x } := h.other
theorem Leaves.withNet {x : NetSt} (h : Leaves s t) : Leaves s { t with net := x } := h.other
theorem Leaves.withOut {x : List Output} (h : Leaves s t) : Leaves s { t with out := x } := h.other
theorem Leaves.withRed {x : RedSt} (h : Leaves s t) : Leaves s { t with red := x } := h.other
theorem Leaves.withStr {x : List (Nat × StrSt)} (h : Leaves s t) : Leaves s { t with str := x } := h.other
theorem Leaves.withThm {x : ThmSt} (h : Leaves s t) : Leaves s { t with thm := x } := h.other

/-! The units. -/

theorem Leaves.emit (h : Leaves s t) {o : Output} : Leaves s (t.emit o) := by
  unfold State.emit
  exact h.withOut

theorem Leaves.fresh (h : Leaves s t) : Leaves s t.fresh.2 := h.other

theorem Leaves.toState (h : Leaves s t) {c : Nat} : Leaves s (t.toState c) := by
  unfold State.toState
  exact .ite (fun _ => h) fun _ => h.wr.raise

theorem Leaves.showTemps (h : Leaves s t) : Leaves s t.showTemps := by
  have hslot {n : Nat} (hn : n ∈ List.range 8) : Spare (R.THM.TEMP n) ∧ Spare (R.THM.VALID n) := by
    have := List.mem_range.mp hn
    constructor <;> exact .entry (by decide) (by omega) (by omega) (by omega)
  unfold State.showTemps
  exact .ite (fun _ => h) fun _ => h.wrI.wrI.wr.eachMem fun _ _ hn h => (h.wrI (hslot hn).1).wrB (hslot hn).2

theorem Leaves.phcEnd (h : Leaves s t) {result : Nat} : Leaves s (t.phcEnd result) := by
  unfold State.phcEnd
  split
  · exact h
  · exact .showTemps (.wr (.ite (fun _ => h.wr.wr.wr.withFrmPhc.wrI.inc.raise) fun _ => h.wr.wr.wr.withFrmPhc.wrI.inc.raise))

theorem Leaves.modCoil (h : Leaves s t) {p : Nat} {f : CoilSt → CoilSt} : Leaves s (t.modCoil p f) := by
  unfold State.modCoil
  exact h.withCoil

theorem Leaves.setLink (h : Leaves s t) {p : Nat} {v : Nat} : Leaves s (t.setLink p v) := by
  unfold State.setLink
  exact .level (.ite (fun _ => h) fun _ => .raise (h.wr (.above 0x080)))

theorem Leaves.train (h : Leaves s t) {p : Nat} : Leaves s (t.train p) := by
  unfold State.train
  exact .wr (h.setLink.fresh.fresh.wr (.above 0x080)) (.above 0x080)

theorem Leaves.showBudget (h : Leaves s t) : Leaves s t.showBudget := by
  unfold State.showBudget
  exact h.each fun _ _ h => h.wrB (.above 0x080)

theorem Leaves.showEnds (h : Leaves s t) : Leaves s t.showEnds := by
  unfold State.showEnds
  exact h.cond fun h => h.showBudget.each fun _ _ h => .wrB (.level (h.wrB (.above 0x080))) (.above 0x080)

theorem Leaves.showRoles (h : Leaves s t) : Leaves s t.showRoles := by
  unfold State.showRoles
  exact .showEnds (h.each fun _ _ h => h.wr (.above 0x080))

theorem Leaves.undeliverable (h : Leaves s t) {p : Nat} : Leaves s (t.undeliverable p) := by
  unfold State.undeliverable
  exact h.incRaise (.above 0x080)

theorem Leaves.lost (h : Leaves s t) {p : Nat} : Leaves s (t.lost p) := by
  unfold State.lost
  exact .showEnds (.each (.wr (.wr (.wr (.wr (.modCoil (h.inc (.above 0x080))) (.above 0x080)) (.above 0x080)) (.above 0x080))
      (.above 0x080)) fun _ _ h => h.undeliverable)

theorem Leaves.switchOff (h : Leaves s t) {p : Nat} : Leaves s (t.switchOff p) := by
  unfold State.switchOff
  exact h.setLink.cond fun h => h.lost

theorem Leaves.setPortState (h : Leaves s t) {p : Nat} {v : Nat} : Leaves s (t.setPortState p v) := by
  unfold State.setPortState
  exact h.wr

theorem Leaves.splitLevel (h : Leaves s t) : Leaves s t.splitLevel := by
  unfold State.splitLevel
  exact h.level

theorem Leaves.xoffCheck (h : Leaves s t) {p : Nat} : Leaves s (t.xoffCheck p) := by
  unfold State.xoffCheck
  exact h.cond fun h => .inc (h.wr (.above 0x080)) (.above 0x080)

theorem Leaves.depart (h : Leaves s t) {o : Output} : Leaves s (t.depart o) := by
  unfold State.depart
  dsimp only
  split
  · exact h.withOut.modCoil
  · exact h.withOut

theorem Leaves.send (h : Leaves s t) {arrival : Option Nat} {o : Output} : Leaves s (t.send arrival o) := by
  unfold State.send
  split
  · exact h.emit
  · exact .ite (fun _ => (by
      dsimp only
      split
      · exact h.modCoil.xoffCheck
      · exact h.modCoil)) fun _ => h.depart

theorem Leaves.dropHeld (h : Leaves s t) {p : Nat} {types : Nat → Bool} : Leaves s (t.dropHeld p types) := by
  unfold State.dropHeld
  exact h.modCoil

theorem Leaves.sendRelinquish (h : Leaves s t) {copy : Nat} : Leaves s (t.sendRelinquish copy) := by
  unfold State.sendRelinquish
  exact h.each fun _ _ h => h.cond fun h => h.send

theorem Leaves.stopTraffic (h : Leaves s t) : Leaves s t.stopTraffic := by
  unfold State.stopTraffic
  exact h.each fun _ _ h => h.dropHeld

theorem Leaves.ground (h : Leaves s t) {g : Nat} : Leaves s (t.ground g) := by
  unfold State.ground
  exact .ite (fun _ => h) fun _ => .ite (fun _ => h) fun _ => .ite (fun _ => h.inc) fun _ => h.inc.wr.wr.wr.raise.withRed.stopTraffic.sendRelinquish

theorem Leaves.loopLevels (h : Leaves s t) : Leaves s t.loopLevels := by
  unfold State.loopLevels
  exact h.level.level

theorem Leaves.unwatch (h : Leaves s t) : Leaves s t.unwatch := by
  unfold State.unwatch
  exact h.withRed.wr.wr

theorem Leaves.modCh (h : Leaves s t) {c : Nat} {f : ChSt → ChSt} : Leaves s (t.modCh c f) := by
  unfold State.modCh
  exact h.withDrm

theorem Leaves.useLine (h : Leaves s t) {c : Nat} {line : Nat} {write : Bool} : Leaves s (t.useLine c line write) := by
  unfold State.useLine
  exact h.modCh

theorem Leaves.issueWrite (h : Leaves s t) {c : Nat} {line : Nat} : Leaves s (t.issueWrite c line) := by
  unfold State.issueWrite
  exact h.modCh.useLine

theorem Leaves.ueRate (h : Leaves s t) : Leaves s t.ueRate := by
  unfold State.ueRate
  exact h.level.cond fun h => h.ground

theorem Leaves.stream (h : Leaves s t) {a : Nat} {n : Nat} : Leaves s (t.stream a n) := by
  unfold State.stream
  exact .each (h.each fun _ _ h => h.each fun _ _ h => .ite (fun _ => h.inc (.above 0x0E0)) fun _ => h.issueWrite) fun _ _ h => h.useLine

theorem Leaves.showScrubLate (h : Leaves s t) {c : Nat} : Leaves s (t.showScrubLate c) := by
  unfold State.showScrubLate
  exact h.level

theorem Leaves.dramApplied (h : Leaves s t) : Leaves s t.dramApplied := by
  unfold State.dramApplied
  exact .ueRate (h.each fun _ _ h => h.showScrubLate)

theorem Leaves.modLayer (h : Leaves s t) {n : Nat} {f : LayerSt → LayerSt} : Leaves s (t.modLayer n f) := by
  unfold State.modLayer
  exact h.withLyr

theorem Leaves.setLease (h : Leaves s t) {n : Nat} {b : Option Nat} : Leaves s (t.setLease n b) := by
  unfold State.setLease
  exact .wrB (h.wr (.above 0x040)) (.above 0x040)

theorem Leaves.showFence (h : Leaves s t) {n : Nat} : Leaves s (t.showFence n) := by
  unfold State.showFence
  exact .each (by
    split
    · exact .wr (h.wr (.above 0x040)) (.above 0x040)
    · exact .wr (h.wr (.above 0x040)) (.above 0x040)) fun _ _ h => h.wr

theorem Leaves.freed (h : Leaves s t) {n : Nat} {bs : List Nat} : Leaves s (t.freed n bs) := by
  have hpick (b : Prop) [Decidable b] : Leaves s (if b then (0, t) else t.fresh).2 := by
    split
    · exact h
    · exact h.fresh
  unfold State.freed
  split
  · exact h
  · exact ((hpick _).wr (.above 0x040)).raise

theorem Leaves.sourceChanged (h : Leaves s t) {old : State} {n : Nat} : Leaves s (t.sourceChanged old n) := by
  unfold State.sourceChanged
  exact .ite (fun _ => h) fun _ => .showFence (.modLayer (h.freed.setLease.wr (.above 0x040)))

theorem Leaves.moveBase (h : Leaves s t) {d : Int} : Leaves s (t.moveBase d) := by
  unfold State.moveBase
  exact h.withClk.wr.wr.raise

theorem Leaves.planFirst (h : Leaves s t) : Leaves s t.planFirst := by
  unfold State.planFirst
  exact .ite (fun _ => h) fun _ => h.withFrm

theorem Leaves.setLoop (h : Leaves s t) {n : Nat} {l : LoopSt} : Leaves s (t.setLoop n l) := by
  unfold State.setLoop
  exact h.withClk

theorem Leaves.histPush (h : Leaves s t) : Leaves s t.histPush := by
  unfold State.histPush
  split
  · exact h
  · exact h.withClk

theorem Leaves.setLock (h : Leaves s t) {c : Nat} : Leaves s (t.setLock c) := by
  unfold State.setLock
  exact .ite (fun _ => h) fun _ => .cond (.level (.raise (.wr (h.histPush.withClk.cond fun h => h.wr.withClk)))) fun h => h.setLoop

theorem Leaves.enterHoldover (h : Leaves s t) : Leaves s t.enterHoldover := by
  unfold State.enterHoldover
  exact .ite (fun _ => h) fun _ => h.setLock.wrI.wr.inc.withClk.cond fun h => h.setLoop

theorem Leaves.modSrc (h : Leaves s t) {c : Nat} {f : SrcSt → SrcSt} : Leaves s (t.modSrc c f) := by
  unfold State.modSrc
  exact h.withClk

theorem Leaves.setActive (h : Leaves s t) {c : Nat} : Leaves s (t.setActive c) := by
  unfold State.setActive
  exact h.wr.wrB.wrB

theorem Leaves.relock (h : Leaves s t) {ptp : Bool} {d : Int} {tErr : Int} : Leaves s (t.relock ptp d tErr) := by
  unfold State.relock
  exact .ite (fun _ => h.incRaise.withClk.withFrm.setLock) fun _ => h.incRaise.withClk.setLock

theorem Leaves.placeOn (h : Leaves s t) {c : Nat} {edge : Int} {tErr : Int} : Leaves s (t.placeOn c edge tErr) := by
  unfold State.placeOn
  exact .planFirst (.withClkFrm (h.cond fun h => h.moveBase))

theorem Leaves.takeSource (h : Leaves s t) {c : Nat} {base : Int} : Leaves s (t.takeSource c base) := by
  unfold State.takeSource
  exact .ite (fun _ => .setLock (.placeOn (.withClk (h.cond fun h => h.setActive.incRaise)))) fun _ => .ite (fun _ =>
      .setLock (.withClk (h.cond fun h => h.setActive.incRaise))) fun _ => .relock (.withClk (h.cond fun h => h.setActive.incRaise))

theorem Leaves.seekSource (h : Leaves s t) : Leaves s t.seekSource := by
  unfold State.seekSource
  exact .ite (fun _ => .ite (fun _ => h.withClk.enterHoldover) fun _ => h.withClk) fun _ => h.withClk

theorem Leaves.showQualified (h : Leaves s t) {c : Nat} : Leaves s (t.showQualified c) := by
  unfold State.showQualified
  exact h.wr.cond fun h => h.wrB (.beyond 0x006)

theorem Leaves.loseSource (h : Leaves s t) {c : Nat} (hc : c ≤ 4) : Leaves s (t.loseSource c) := by
  unfold State.loseSource
  extract_lets +onlyGivenNames _ u v
  have hu : Leaves s u := h.modSrc.showQualified
  clear_value u
  have hv : Leaves s v := (hu.wr (.entry (by decide) (by omega) (by omega) (by omega))).cond fun h => h.raise
  clear_value v
  exact .ite (fun _ => hv.setActive.seekSource) fun _ => .ite (fun _ => hv.seekSource) fun _ => hv

theorem Leaves.rateLevel (h : Leaves s t) : Leaves s t.rateLevel := by
  unfold State.rateLevel
  exact h.level.level.level

theorem Leaves.modPtp (h : Leaves s t) {i : Nat} {f : PtpSt → PtpSt} : Leaves s (t.modPtp i f) := by
  unfold State.modPtp
  exact h.withClk

theorem Leaves.setPort (h : Leaves s t) {i : Nat} {v : Nat} : Leaves s (t.setPort i v) := by
  unfold State.setPort
  exact .ite (fun _ => h) fun _ => .raise (h.wr (.beyond 0x006))

theorem Leaves.ptpLost (h : Leaves s t) {i : Nat} {st : Nat} (hi : i ≤ 1) : Leaves s (t.ptpLost i st) := by
  unfold State.ptpLost
  exact (h.setPort.cond fun h => h.incRaise (.beyond 0x006)).loseSource (by omega)

theorem Leaves.reselect (h : Leaves s t) : Leaves s t.reselect := by
  unfold State.reselect
  split
  · exact h.cond fun h => h.seekSource
  · exact h.takeSource

theorem Leaves.freeRun (h : Leaves s t) : Leaves s t.freeRun := by
  unfold State.freeRun
  exact .ite (fun _ => h.withClk.setActive.setLock) fun _ => h.withClk.setActive.setLock.withClkFrm.planFirst

theorem Leaves.movePlace (h : Leaves s t) {old : State} : Leaves s (t.movePlace old) := by
  unfold State.movePlace
  exact .ite (fun _ => h) fun _ => .ite (fun _ => .ite (fun _ => h.withClk) fun _ => h) fun _ => h.withFrm.planFirst

theorem Leaves.refApplied (h : Leaves s t) {old : State} {rate : Bool} {i : Nat} (hi : i ≤ 1) : Leaves s (t.refApplied old rate i) := by
  unfold State.refApplied
  exact .cond (.cond (h.cond fun h => h.wr spare_refPick) fun h => h.modSrc) fun h => (h.wr spare_refPick).modSrc.loseSource (by omega)

theorem Leaves.ptpApplied (h : Leaves s t) {old : State} {i : Nat} (hi : i ≤ 1) : Leaves s (t.ptpApplied old i) := by
  unfold State.ptpApplied
  exact .ite (fun _ => h.setPort) fun _ => .ite (fun _ => h.cond fun h => h.modPtp.ptpLost hi) fun _ => .ite (fun _ => h.modPtp.cond fun h =>
      h.ptpLost hi) fun _ => h.cond fun h => h.ptpLost hi

theorem Leaves.dropChosen (h : Leaves s t) : Leaves s t.dropChosen := by
  unfold State.dropChosen
  exact h.cond fun h => h.withClk

theorem le_one_of_mem {i : Nat} (h : i ∈ [0, 1]) : i ≤ 1 := by
  rcases List.mem_pair.mp h with rfl | rfl <;> decide

theorem Leaves.clockApplied (h : Leaves s t) {old : State} : Leaves s (t.clockApplied old) := by
  unfold State.clockApplied
  refine .ite (fun _ => h) fun _ => ?_
  extract_lets +onlyGivenNames rate u mended v w
  have hu : Leaves s u := (h.eachMem fun _ _ hi h => h.refApplied (le_one_of_mem hi)).rateLevel
  clear_value u mended
  have hv : Leaves s v := hu.eachMem fun _ _ hi h => h.ptpApplied (le_one_of_mem hi)
  clear_value v
  have hw : Leaves s w := hv.dropChosen.movePlace.cond fun h => h.setLock
  clear_value w
  exact .ite (fun _ => hv.freeRun) fun _ => .ite (fun _ => hw.reselect) fun _ => hw.cond fun h => h.seekSource

theorem Leaves.showSched (h : Leaves s t) {old : State} : Leaves s (t.showSched old) := by
  have hslot {k : Nat} (hk : k ∈ List.range 8) : Spare (R.SCH.SLOT_T k) := by
    have := List.mem_range.mp hk
    exact .entry (by decide) (by omega) (by omega) (by omega)
  unfold State.showSched
  exact .cond (h.wr.wr.wr.eachMem fun _ _ hk h => h.wr (hslot hk)) fun h => h.raise

theorem Leaves.showMap (h : Leaves s t) : Leaves s t.showMap := by
  have hport {q : Nat} (hq : q ∈ List.range 16) : Spare (R.MAP.PORT_BITS q) := by
    have := List.mem_range.mp hq
    exact .entry (by decide) (by omega) (by omega) (by omega)
  unfold State.showMap
  exact .ite (fun _ => h.wr.wrB) fun _ => h.wr.wrB.wr.wr.wr.wr.eachMem fun _ _ hq h => h.wr (hport hq)

theorem Leaves.showId (h : Leaves s t) {old : State} : Leaves s (t.showId old) := by
  unfold State.showId
  exact h.wrB.cond fun h => h.raise

theorem Leaves.modGrp (h : Leaves s t) {g : Nat} {f : GrpSt → GrpSt} : Leaves s (t.modGrp g f) := by
  unfold State.modGrp
  exact h.withLmp

theorem Leaves.rowsLow (h : Leaves s t) {g : Nat} : Leaves s (t.rowsLow g) := by
  unfold State.rowsLow
  exact .emit (.wr (h.modGrp.wr (.above 0x0B1)))

theorem Leaves.rowsOff (h : Leaves s t) {g : Nat} : Leaves s (t.rowsOff g) := by
  unfold State.rowsOff
  exact h.rowsLow.modGrp

theorem Leaves.stopSlots (h : Leaves s t) : Leaves s t.stopSlots := by
  unfold State.stopSlots
  exact h.withLsm.wr

theorem Leaves.quench (h : Leaves s t) {cause : Nat} : Leaves s (t.quench cause) := by
  unfold State.quench
  exact .ite (fun _ => h.withAon.wr) fun _ => (by
    dsimp only
    split
    · exact .stopSlots (h.withAon.wr.wr.raise.toState.withThm.phcEnd.each fun _ _ h => h.rowsOff)
    · exact h.withAon.wr.wr.raise.toState.withThm.phcEnd.wr.ground)

theorem Leaves.showBoard (h : Leaves s t) : Leaves s t.showBoard := by
  unfold State.showBoard
  exact .showTemps (h.withThm.wr.level.cond fun h => h.wrI)

theorem Leaves.senseEnabled (h : Leaves s t) : Leaves s t.senseEnabled := by
  unfold State.senseEnabled
  exact h.each fun _ _ h => .ite (fun _ => h) fun _ => h.withThm

theorem Leaves.brokenQuench (h : Leaves s t) : Leaves s t.brokenQuench := by
  unfold State.brokenQuench
  exact h.cond fun h => h.quench

theorem Leaves.sensorsEnabled (h : Leaves s t) : Leaves s t.sensorsEnabled := by
  unfold State.sensorsEnabled
  exact h.senseEnabled.showBoard.brokenQuench

theorem Leaves.showBanks (h : Leaves s t) : Leaves s t.showBanks := by
  unfold State.showBanks
  exact h.wr.wr.wr

theorem Leaves.swapBanks (h : Leaves s t) : Leaves s t.swapBanks := by
  unfold State.swapBanks
  split
  · exact h
  · exact h.withBoot.wr.showBanks

theorem Leaves.bankApplied (h : Leaves s t) {old : State} : Leaves s (t.bankApplied old) := by
  unfold State.bankApplied
  exact .ite (fun _ => h) fun _ => h.withBoot.swapBanks.wr.wr.wr.raise

theorem Leaves.modDec (h : Leaves s t) {n : Nat} {f : DecSt → DecSt} : Leaves s (t.modDec n f) := by
  unfold State.modDec
  exact h.withDec

theorem Leaves.decRaise (h : Leaves s t) {n : Nat} {e : Evt} : Leaves s (t.decRaise n e) := by
  unfold State.decRaise
  exact h.wr.raise

theorem Leaves.showDstate (h : Leaves s t) {n : Nat} (hn : n < 16) : Leaves s (t.showDstate n) := by
  unfold State.showDstate
  exact (h.wr (spare_decStream hn).1).wr

theorem Leaves.showBacklog (h : Leaves s t) {n : Nat} (hn : n < 16) : Leaves s (t.showBacklog n) := by
  unfold State.showBacklog
  exact h.wr (spare_decStream hn).2.1

theorem Leaves.setShedding (h : Leaves s t) {n : Nat} {b : Bool} : Leaves s (t.setShedding n b) := by
  unfold State.setShedding
  exact .level (.wrB (.withDec (h.cond fun h => h.wr)))

theorem Leaves.skipToIrap (h : Leaves s t) {n : Nat} : Leaves s (t.skipToIrap n) := by
  unfold State.skipToIrap
  dsimp only
  split
  · exact .modDec (.incBy (h.cond fun h => h.decRaise))
  · exact .ite (fun _ => .modDec (.incBy (h.cond fun h => h.decRaise))) fun _ => .modDec (.cond (.incBy (h.cond fun h => h.decRaise)) fun h => h.inc)

theorem Leaves.shed {n : Nat} (hn : n < 16) (fuel : Nat) {t : State} (h : Leaves s t) : Leaves s (t.shed n fuel) := by
  induction fuel generalizing t with
  | zero => exact h
  | succ fuel ih =>
    unfold State.shed
    refine .ite (fun _ => h) fun _ => ?_
    split
    · exact ih (h.inc (spare_decStream hn).2.2.2).decRaise.modDec
    · exact .ite (fun _ => h) fun _ => h.skipToIrap

theorem Leaves.backlog (h : Leaves s t) {n : Nat} (hn : n < 16) : Leaves s (t.backlog n) := by
  unfold State.backlog
  exact ((Leaves.setShedding (h.cond fun h => .shed hn _ h.setShedding)).showBacklog hn).showDstate hn

theorem Leaves.decFlush (h : Leaves s t) {n : Nat} (hn : n < 16) : Leaves s (t.decFlush n) := by
  unfold State.decFlush
  exact ((h.withDec.showDstate hn).wr (spare_decStream hn).2.2.1).setShedding.showBacklog hn

theorem Leaves.clearDecStat (h : Leaves s t) {n : Nat} (hn : n < 16) : Leaves s (t.clearDecStat n) := by
  unfold State.clearDecStat
  refine h.eachMem fun _ i hi h => h.setWord (held_of_spareAt ?_)
  have := List.mem_range.mp hi
  unfold spareAt
  simp only [Bool.and_eq_true, Bool.or_eq_true, decide_eq_true_eq, Bool.not_eq_true', beq_eq_false_iff_ne]
  omega

theorem Leaves.decApplied (h : Leaves s t) {old : State} : Leaves s (t.decApplied old) := by
  unfold State.decApplied
  refine .eachMem (.wr (h.eachMem fun _ n hn h => ?_)) fun _ _ hn h => h.backlog (List.mem_range.mp (List.mem_filter.mp hn).1)
  have hn := List.mem_range.mp hn
  exact .ite (fun _ => h) fun _ => .ite (fun _ => h.decFlush hn) fun _ => h.cond fun h => (h.decFlush hn).clearDecStat hn

theorem Leaves.modNet (h : Leaves s t) {p : Nat} {f : NetPort → NetPort} : Leaves s (t.modNet p f) := by
  unfold State.modNet
  exact h.withNet

theorem Leaves.modStr (h : Leaves s t) {n : Nat} {f : StrSt → StrSt} : Leaves s (t.modStr n f) := by
  unfold State.modStr
  exact h.withStr

theorem Leaves.netLevel (h : Leaves s t) {p : Nat} : Leaves s (t.netLevel p) := by
  unfold State.netLevel
  exact h.level

theorem Leaves.sendReport (h : Leaves s t) {r : IgmpDue} : Leaves s (t.sendReport r) := by
  unfold State.sendReport
  exact h.cond fun h => h.emit

theorem Leaves.startReports (h : Leaves s t) {n : Nat} {leg : Nat} {l : Leg} {leave : Bool} : Leaves s (t.startReports n leg l leave) := by
  unfold State.startReports
  exact h.withNet.cond fun h => h.sendReport

theorem Leaves.srcDrop (h : Leaves s t) {src : Nat} : Leaves s (t.srcDrop src) := by
  unfold State.srcDrop
  exact h.modStr.cond fun h => h.wr (.beyond 0x020)

theorem Leaves.legApplied (h : Leaves s t) {old : State} {x : Nat × Nat} : Leaves s (t.legApplied old x) := by
  have hleg : Spare (if x.2 = 0 then R.STR.LEG_A_OK x.1 else R.STR.LEG_B_OK x.1) := by
    split
    · exact .beyond 0x020
    · exact .beyond 0x020
  unfold State.legApplied
  refine .ite (fun _ => h) fun _ => ?_
  extract_lets +onlyGivenNames u
  have hu : Leaves s u := by
    unfold u
    split
    · exact h
    · exact h.startReports
  clear_value u
  split
  · exact hu.wr hleg
  · exact hu.startReports

theorem Leaves.strApplied (h : Leaves s t) {old : State} {n : Nat} : Leaves s (t.strApplied old n) := by
  unfold State.strApplied
  exact .ite (fun _ => h.srcDrop) fun _ => .ite (fun _ => .level (h.srcDrop.wr (.beyond 0x020))) fun _ => .ite (fun _ => h.srcDrop) fun _ =>
      h.srcDrop.modStr.wr (.beyond 0x020)

theorem Leaves.netApplied (h : Leaves s t) {old : State} : Leaves s (t.netApplied old) := by
  have hport {p : Nat} (hp : p ∈ List.range 8) : Spare (R.NET.TXQ_HEAD p) := by
    have := List.mem_range.mp hp
    exact .entry (by omega) (by omega) (by omega) (by omega)
  unfold State.netApplied
  refine .each (.each (.each (h.eachMem fun _ _ hp h => ?_) fun _ _ h => h.strApplied) fun _ _ h => h.legApplied) fun _ _ h => h.srcDrop
  exact .netLevel (.cond (h.cond fun h => (h.wr (.beyond 0x010)).wr (.beyond 0x010)) fun h => (h.wr (hport hp)).modNet)

theorem Leaves.showCompose (h : Leaves s t) : Leaves s t.showCompose := by
  unfold State.showCompose
  exact h.wr.each fun _ _ h => (by
    split
    · exact .wr (.wr (.wr (h.wr (.above 0x053)) (.above 0x053)) (.above 0x053)) (.above 0x053)
    · exact .wr (.wr (.wr (h.wr (.above 0x053)) (.above 0x053)) (.above 0x053)) (.above 0x053))

theorem Leaves.takeRole (h : Leaves s t) {p : Nat} : Leaves s (t.takeRole p) := by
  unfold State.takeRole
  exact h.withRed.setPortState.cond fun h => h.dropHeld

theorem Leaves.rolesApplied (h : Leaves s t) {old : State} : Leaves s (t.rolesApplied old) := by
  unfold State.rolesApplied
  exact .loopLevels (.unwatch (.splitLevel (.each (h.cond fun h => h.wr) fun _ _ h => h.takeRole)))

theorem Leaves.portsApplied (h : Leaves s t) {old : State} : Leaves s (t.portsApplied old) := by
  unfold State.portsApplied
  exact .showRoles (h.each fun _ _ h => .ite (fun _ => h.train) fun _ => .ite (fun _ => h.switchOff) fun _ => h.cond fun h => h.setLink)

/-! What follows an apply. -/

/-- The units once the live copies and the tables are in force. -/
theorem Leaves.senderApply (snap : List (Nat × Word32)) (tag : Nat) : Leaves ((s.applySnap snap tag).applyTables tag) (s.senderApply snap tag) := by
  unfold State.senderApply
  extract_lets +onlyGivenNames _ _ u v w
  have hu : Leaves ((s.applySnap snap tag).applyTables tag) u := (((Leaves.refl _).clockApplied).netApplied).decApplied
  clear_value u
  have hv : Leaves ((s.applySnap snap tag).applyTables tag) v := hu.showSched.showCompose.showMap.sensorsEnabled
  clear_value v
  have hw : Leaves ((s.applySnap snap tag).applyTables tag) w := hv.bankApplied.showId.rolesApplied
  clear_value w
  exact hw.portsApplied.dramApplied.raise

end Sys2Proof.Proofs.ApplyFrames


/-!
Commits at a sender (02 R45 to R49; 03 R68; 16 R415): the verdict that the write fixes, what the end of validation shows, and what an accepted
commit changes.
-/

namespace Sys2Proof.Proofs.CommitVerdicts
open Sys2Proof.Machine Sys2Proof.Laws Sys2Proof.Proofs.Frames Sys2Proof.Proofs.FieldRules Sys2Proof.Proofs.Commits Sys2Proof.Proofs.KeptWords
  Sys2Proof.Proofs.DarkFrames Sys2Proof.Proofs.TileCommits Sys2Proof.Proofs.TilePipeline Sys2Proof.Proofs.Applies Sys2Proof.Proofs.ApplyFrames
set_option Elab.async false

/-! The judgement (02 R47). -/

/-- The apply point is the target, or the first tick that can still be met. -/
theorem judge_epoch (s : State) (target w : Nat) : (s.judge target w).1 = max target (s.firstTick w) := by
  show (if target < s.firstTick w then s.firstTick w else target) = _
  split <;> omega

/-- The verdict, as a chain of its causes. -/
theorem judge_code (s : State) (target w : Nat) : (s.judge target w).2 =
    if target < s.firstTick w ∧ s.flag R.CMT.LATE_REJECT = true then ceLATE
    else if s.epoch + 2 ^ 20 < target then ceFAR_EPOCH
    else if s.cmt.pend.any (fun d => decide (max target (s.firstTick w) < d.target)) = true then ceEPOCH_ORDER
    else if (decide (4 ≤ s.cmt.pend.length) && !s.cmt.pend.any (fun d => d.target == max target (s.firstTick w))) = true then cePENDING_FULL
    else 0 := by
  rw [← judge_epoch]
  rfl

variable {s : State} {target w : Nat}

theorem judge_late (h : target < s.firstTick w) (hr : s.flag R.CMT.LATE_REJECT = true) : (s.judge target w).2 = ceLATE := by
  rw [judge_code, if_pos ⟨h, hr⟩]

theorem not_behind (hd : ∀ d ∈ s.cmt.pend, d.target ≤ max target (s.firstTick w)) :
    ¬ s.cmt.pend.any (fun d => decide (max target (s.firstTick w) < d.target)) = true := fun hc => by
  obtain ⟨d, hmem, hlt⟩ := List.any_eq_true.mp hc
  have := hd d hmem
  have := of_decide_eq_true hlt
  omega

section
variable (hin : target < s.firstTick w → s.flag R.CMT.LATE_REJECT = false)
include hin

theorem not_late : ¬ (target < s.firstTick w ∧ s.flag R.CMT.LATE_REJECT = true) := fun h => by
  rw [hin h.1] at h
  exact absurd h.2 (by decide)

theorem judge_far (h : s.epoch + 2 ^ 20 < target) : (s.judge target w).2 = ceFAR_EPOCH := by
  rw [judge_code, if_neg (not_late hin), if_pos h]

theorem judge_order (h : target ≤ s.epoch + 2 ^ 20) (hd : ∃ d ∈ s.cmt.pend, max target (s.firstTick w) < d.target) :
    (s.judge target w).2 = ceEPOCH_ORDER := by
  obtain ⟨d, hd, hlt⟩ := hd
  rw [judge_code, if_neg (not_late hin), if_neg (by omega), if_pos (List.any_eq_true.mpr ⟨d, hd, decide_eq_true hlt⟩)]

theorem judge_full (h : target ≤ s.epoch + 2 ^ 20) (hd : ∀ d ∈ s.cmt.pend, d.target < max target (s.firstTick w))
    (h4 : 4 ≤ s.cmt.pend.length) : (s.judge target w).2 = cePENDING_FULL := by
  have hnone : s.cmt.pend.any (fun d => d.target == max target (s.firstTick w)) = false :=
    List.any_eq_false.mpr fun d hmem heq => (hd d hmem).ne (beq_iff_eq.mp heq)
  rw [judge_code, if_neg (not_late hin), if_neg (by omega), if_neg (not_behind fun d hmem => (hd d hmem).le), if_pos (by simp [h4, hnone])]

theorem judge_ok (h : target ≤ s.epoch + 2 ^ 20) (hd : ∀ d ∈ s.cmt.pend, d.target ≤ max target (s.firstTick w))
    (hroom : s.cmt.pend.length < 4 ∨ ∃ d ∈ s.cmt.pend, d.target = max target (s.firstTick w)) : (s.judge target w).2 = 0 := by
  rw [judge_code, if_neg (not_late hin), if_neg (by omega), if_neg (not_behind hd), if_neg]
  rw [Bool.and_eq_true, decide_eq_true_eq, Bool.not_eq_true']
  rintro ⟨h4, hnone⟩
  rcases hroom with hlt | ⟨d, hmem, heq⟩
  · omega
  · exact List.any_eq_false.mp hnone d hmem (beq_iff_eq.mpr heq)

end

/-! What the end of a validation keeps. -/

theorem rd_validated {f : Fld} (hf : offKey f R.CMT.BUSY.key = true) (s : State) : s.validated.rd f = s.rd f := by
  have hregs : s.validated.regs = (s.wr R.CMT.BUSY 0).regs := by rw [validated_frame]
  obtain ⟨h1, h2⟩ := of_decide_eq_true hf
  rw [rd_congr hregs, State.wr, if_pos (by decide)]
  exact rd_setWord_ne s _ h1 h2

theorem busy_validated (s : State) : s.validated.rd R.CMT.BUSY = 0 := by
  have hregs : s.validated.regs = (s.wr R.CMT.BUSY 0).regs := by rw [validated_frame]
  rw [rd_congr hregs]
  exact rd_wr_own s 0 (by decide)

/-- A shadow register or a live copy is none of the words that the check of a commit shows. -/
theorem shown_apart {k : Nat} (hk : isShadow k = true ∨ isLive k = true) : k % 0x1000 ≠ 0x024 ∧
    k ∉ [R.CMT.BUSY.key, R.CMT.LATE_EPOCH.key, R.CMT.LATE_EPOCH.key + 4, R.CMT.CNT_ACCEPT.key, R.CMT.CNT_REJECT.key, R.CMT.CNT_LATE.key,
      evtPendKey 0x002, R.MAP.ERR_DESC.key] := by
  have hoff : 0x40 ≤ k % 0x1000 := hk.elim isShadow_offset fun h => le_trans (by decide) (isLive_offset h)
  refine ⟨by omega, fun hc => ?_⟩
  have hall : [R.CMT.BUSY.key, R.CMT.LATE_EPOCH.key, R.CMT.LATE_EPOCH.key + 4, R.CMT.CNT_ACCEPT.key, R.CMT.CNT_REJECT.key, R.CMT.CNT_LATE.key,
    evtPendKey 0x002, R.MAP.ERR_DESC.key].all (fun k => !isShadow k && !isLive k) = true := by decide
  have := List.all_eq_true.mp hall k hc
  rw [Bool.and_eq_true, Bool.not_eq_true', Bool.not_eq_true'] at this
  exact hk.elim (fun h => absurd h (by rw [this.1]; decide)) fun h => absurd h (by rw [this.2]; decide)

theorem shadowLive_validated (s : State) {k : Nat} (hk : isShadow k = true ∨ isLive k = true) : s.validated.word k = s.word k :=
  validated_word fun hc => (shown_apart hk).2 (by rw [hc]; exact List.mem_cons_self)

/-! A rejection (03 R68). -/

/-- CFG_ERR of some pages. -/
def errsShown (es : List CfgErr) (pages : List Nat) (s : State) : State := s.each pages fun s p => s.setCfgErr p (cfgErrWord es p)

theorem errsShown_keeps (es : List CfgErr) (pages : List Nat) (s : State) : (errsShown es pages s).cmt = s.cmt ∧
    ∀ k, k % 0x1000 ≠ 0x024 → (errsShown es pages s).word k = s.word k := by
  refine each_keeps (P := fun t => t.cmt = s.cmt ∧ ∀ k, k % 0x1000 ≠ 0x024 → t.word k = s.word k) pages
    (f := fun s p => s.setCfgErr p (cfgErrWord es p)) (fun t p ⟨h1, h2⟩ => ⟨h1, fun k hk => ?_⟩) ⟨rfl, fun _ _ => rfl⟩
  refine (word_setWord_ne t _ fun hc => hk ?_).trans (h2 k hk)
  rw [hc]
  unfold regKey
  omega

theorem rd_errsShown {f : Fld} (hf : (f.key % 0x1000 != 0x024 && decide (f.w ≤ 32)) = true) (es : List CfgErr) (pages : List Nat) (s : State) :
    (errsShown es pages s).rd f = s.rd f := by
  rw [Bool.and_eq_true, bne_iff_ne, decide_eq_true_eq] at hf
  rw [State.rd, State.rd, if_pos hf.2, if_pos hf.2, (errsShown_keeps es pages s).2 _ hf.1]

/-- The words that a rejection writes on the CMT page. -/
def rejectKeys : List Nat := [R.CMT.REJECTED.key, R.CMT.CNT_REJECT.key, evtPendKey 0x002]

/-- A rejection, once CFG_ERR shows. -/
def rejectShown (page : Nat) (s : State) : State := (((s.wr R.CMT.REJECTED 1).wr R.CMT.ERR_PAGE page).inc R.CMT.CNT_REJECT).raise R.CMT.ev_REJECT

theorem rejectShown_shows (page : Nat) (s : State) : (rejectShown page s).cmt = s.cmt ∧ (rejectShown page s).rd R.CMT.REJECTED = 1 ∧
    (rejectShown page s).rd R.CMT.BUSY = s.rd R.CMT.BUSY ∧ Counted s (rejectShown page s) R.CMT.CNT_REJECT ∧
    Pending (rejectShown page s) R.CMT.ev_REJECT ∧ WordsKept s (rejectShown page s) rejectKeys := by
  have hbusy : (((s.wr R.CMT.REJECTED 1).wr R.CMT.ERR_PAGE page).inc R.CMT.CNT_REJECT).rd R.CMT.BUSY = s.rd R.CMT.BUSY :=
    (rd_wr_sep _ _ (by decide)).trans ((rd_wr_sep _ _ (by decide)).trans (rd_wr_sep _ _ (by decide)))
  have hrej : (((s.wr R.CMT.REJECTED 1).wr R.CMT.ERR_PAGE page).inc R.CMT.CNT_REJECT).rd R.CMT.REJECTED = 1 :=
    (rd_wr_sep _ _ (by decide)).trans ((rd_wr_sep _ _ (by decide)).trans (rd_wr_own _ _ (by decide)))
  have hcnt : ((s.wr R.CMT.REJECTED 1).wr R.CMT.ERR_PAGE page).rd R.CMT.CNT_REJECT = s.rd R.CMT.CNT_REJECT :=
    (rd_wr_sep _ _ (by decide)).trans (rd_wr_sep _ _ (by decide))
  unfold rejectShown
  refine ⟨?_, ?_, ?_, ?_, pending_raise _ (by decide), ?_⟩
  · rw [raise_cmt, State.inc, State.incBy, wr_cmt, wr_cmt, wr_cmt]
  · rw [rd_raise_sep _ (by decide), hrej]
  · rw [rd_raise_sep _ (by decide), hbusy]
  · rw [Counted, rd_raise_sep _ (by decide), State.inc, rd_incBy_same _ (by decide) (by decide), hcnt]
  · refine wordsKept_trans (wordsKept_mono (wordsKept_wr s (f := R.CMT.REJECTED) (by decide) 1) (by decide)) ?_
    refine wordsKept_trans (wordsKept_mono (wordsKept_wr _ (f := R.CMT.ERR_PAGE) (by decide) page) (by decide)) ?_
    refine wordsKept_trans (wordsKept_mono (wordsKept_inc _ (f := R.CMT.CNT_REJECT) (by decide)) (by decide)) ?_
    exact wordsKept_mono (wordsKept_raise _ _) (by decide)

/-- What a rejection shows. -/
structure Rejected (s t : State) : Prop where
  cmt : t.cmt = s.cmt
  rejected : t.rd R.CMT.REJECTED = 1
  busy : t.rd R.CMT.BUSY = s.rd R.CMT.BUSY
  counted : Counted s t R.CMT.CNT_REJECT
  pending : Pending t R.CMT.ev_REJECT
  words : ∀ k, isShadow k = true ∨ isLive k = true → t.word k = s.word k

theorem showReject_eq (s : State) (es : List CfgErr) : s.showReject es =
    rejectShown (leastOf (es.map CfgErr.page).dedup) (errsShown es (es.map CfgErr.page).dedup s) := rfl

theorem showReject_shows (s : State) (es : List CfgErr) : Rejected s (s.showReject es) := by
  rw [showReject_eq]
  generalize (es.map CfgErr.page).dedup = pages
  obtain ⟨h1, h2, h3, h4, h5, h6⟩ := rejectShown_shows (leastOf pages) (errsShown es pages s)
  obtain ⟨hcmt, hwords⟩ := errsShown_keeps es pages s
  refine ⟨h1.trans hcmt, h2, h3.trans (rd_errsShown (by decide) es pages s), ?_, h5, fun k hk => ?_⟩
  · rw [Counted, h4, rd_errsShown (by decide) es pages s]
  · obtain ⟨hoff, hmem⟩ := shown_apart hk
    exact (h6 k fun hc => hmem ((by decide : ∀ k ∈ rejectKeys, k ∈ _) k hc)).trans (hwords k hoff)

/-- The lowest mapping error shows on the MAP page, and nowhere else. -/
theorem showMapErr_keeps (s : State) (ms : List MapErr) : (s.showMapErr ms).cmt = s.cmt ∧ WordsKept s (s.showMapErr ms) [R.MAP.ERR_DESC.key] := by
  unfold State.showMapErr
  split
  · refine ⟨by rw [State.wrB, wr_cmt, wr_cmt], ?_⟩
    exact wordsKept_trans (wordsKept_wr s (f := R.MAP.ERR_DESC) (by decide) _) (wordsKept_wr _ (f := R.MAP.ERR_CHILD) (by decide) _)
  · exact ⟨rfl, wordsKept_refl _ _⟩

theorem Rejected.showMapErr {s t : State} (h : Rejected s t) (ms : List MapErr) : Rejected s (t.showMapErr ms) := by
  obtain ⟨hcmt, hwords⟩ := showMapErr_keeps t ms
  have hrej : (t.showMapErr ms).rd R.CMT.REJECTED = t.rd R.CMT.REJECTED := rd_of_wordsKept hwords (by decide) (by decide)
  have hbusy : (t.showMapErr ms).rd R.CMT.BUSY = t.rd R.CMT.BUSY := rd_of_wordsKept hwords (by decide) (by decide)
  have hcnt : (t.showMapErr ms).rd R.CMT.CNT_REJECT = t.rd R.CMT.CNT_REJECT := rd_of_wordsKept hwords (by decide) (by decide)
  refine ⟨hcmt.trans h.cmt, hrej.trans h.rejected, hbusy.trans h.busy, ?_, ?_, fun k hk => ?_⟩
  · rw [Counted, hcnt, h.counted]
  · rw [Pending, State.wbit, hwords _ (by decide)]
    exact h.pending
  · exact (hwords k fun hc => (shown_apart hk).2 ((by decide : ∀ k ∈ [R.MAP.ERR_DESC.key], k ∈ _) k hc)).trans (h.words k hk)

/-- The CFG_ERR word of the CMT page holds the code of a commit-wide error. -/
theorem showReject_code (s : State) (code : Nat) : (s.showReject [{ page := 0x002, code := code, off := 0 }]).word 0x2024 = BitVec.ofNat 32 code := by
  have hcode : cfgErrWord [{ page := 0x002, code := code, off := 0 }] 0x002 = code := by
    simp [cfgErrWord, leastOf]
  rw [showReject_eq]
  obtain ⟨-, -, -, -, -, hwords⟩ := rejectShown_shows (leastOf [0x002]) (errsShown [{ page := 0x002, code := code, off := 0 }] [0x002] s)
  refine (hwords 0x2024 (by decide)).trans ?_
  show (s.setCfgErr 0x002 (cfgErrWord [{ page := 0x002, code := code, off := 0 }] 0x002)).word 0x2024 = _
  rw [hcode]
  exact word_setWord_same _ _ _

/-! An acceptance (03 R68). -/

/-- What an acceptance shows. -/
structure Accepted (s t : State) : Prop where
  cmt : t.cmt = s.cmt
  busy : t.rd R.CMT.BUSY = s.rd R.CMT.BUSY
  counted : Counted s t R.CMT.CNT_ACCEPT
  lates : t.rd R.CMT.CNT_LATE = s.rd R.CMT.CNT_LATE
  anyCommit : t.boot.anyCommit = true
  words : ∀ k, isShadow k = true ∨ isLive k = true → t.word k = s.word k

theorem showAccept_shows (s : State) (es : List CfgErr) : Accepted s (s.showAccept es) := by
  have hcmt : (acceptShown es s).cmt = s.cmt := (errsShown_keeps es s.pages s).1
  refine ⟨?_, ?_, showAccept_counted s es, ?_, ?_, fun k hk => ?_⟩
  · rw [showAccept_eq, State.inc, State.incBy, wr_cmt, hcmt]
  · rw [State.rd, State.rd, if_pos (by decide), if_pos (by decide), showAccept_word s es (by decide) (by decide)]
  · rw [State.rd, State.rd, if_pos (by decide), if_pos (by decide), showAccept_word s es (by decide) (by decide)]
  · rw [showAccept_eq, State.inc, State.incBy, wr_boot]
    rfl
  · obtain ⟨hoff, hmem⟩ := shown_apart hk
    exact showAccept_word s es hoff fun hc => hmem (by rw [hc]; decide)

/-! A commit that joins the pending ones (02 R47, R48). -/

/-- A commit that was moved shows its epoch and counts as late. -/
def lateShown (e : Nat) (s : State) : State := ((s.wr R.CMT.st_LATE 1).wr R.CMT.LATE_EPOCH e).incRaise R.CMT.CNT_LATE R.CMT.ev_LATE

/-- The words that it writes. -/
def lateKeys : List Nat := [R.CMT.st_LATE.key, R.CMT.LATE_EPOCH.key, R.CMT.LATE_EPOCH.key + 4, R.CMT.CNT_LATE.key, evtPendKey 0x002]

theorem lateShown_keeps (e : Nat) (s : State) : (lateShown e s).cmt = s.cmt ∧ (lateShown e s).boot = s.boot ∧
    (lateShown e s).rd R.CMT.BUSY = s.rd R.CMT.BUSY ∧ WordsKept s (lateShown e s) lateKeys := by
  unfold lateShown State.incRaise
  refine ⟨?_, ?_, ?_, ?_⟩
  · rw [raise_cmt, State.inc, State.incBy, wr_cmt, wr_cmt, wr_cmt]
  · rw [raise_boot, State.inc, State.incBy, wr_boot, wr_boot, wr_boot]
  · rw [rd_raise_sep _ (by decide), State.inc, State.incBy, rd_wr_sep _ _ (by decide), rd_wr_sep _ _ (by decide), rd_wr_sep _ _ (by decide)]
  · have hepoch : WordsKept (s.wr R.CMT.st_LATE 1) ((s.wr R.CMT.st_LATE 1).wr R.CMT.LATE_EPOCH e) lateKeys := fun k hk =>
      word_wr_ne _ e (fun hc => hk (by rw [hc]; decide)) fun _ hc => hk (by rw [hc]; decide)
    refine wordsKept_trans (wordsKept_mono (wordsKept_wr s (f := R.CMT.st_LATE) (by decide) 1) (by decide)) (wordsKept_trans hepoch ?_)
    refine wordsKept_trans (wordsKept_mono (wordsKept_inc _ (f := R.CMT.CNT_LATE) (by decide)) (by decide)) ?_
    exact wordsKept_mono (wordsKept_raise _ _) (by decide)

theorem lateShown_shows (e : Nat) (s : State) : Counted s (lateShown e s) R.CMT.CNT_LATE ∧ Pending (lateShown e s) R.CMT.ev_LATE ∧
    (lateShown e s).rd R.CMT.LATE_EPOCH = e % 2 ^ 64 := by
  obtain ⟨-, hcount, hpend⟩ := incRaise_shows ((s.wr R.CMT.st_LATE 1).wr R.CMT.LATE_EPOCH e) (f := R.CMT.CNT_LATE) (e := R.CMT.ev_LATE) rfl rfl
    (by decide) (by decide)
  have hcnt : ((s.wr R.CMT.st_LATE 1).wr R.CMT.LATE_EPOCH e).rd R.CMT.CNT_LATE = s.rd R.CMT.CNT_LATE :=
    (rd_wr_sep _ _ (by decide)).trans (rd_wr_sep _ _ (by decide))
  have hepoch : (lateShown e s).rd R.CMT.LATE_EPOCH = ((s.wr R.CMT.st_LATE 1).wr R.CMT.LATE_EPOCH e).rd R.CMT.LATE_EPOCH :=
    (rd_raise_sep _ (by decide)).trans (rd_wr_sep _ _ (by decide))
  refine ⟨?_, hpend, hepoch.trans (rd_wr_own _ _ (by decide))⟩
  rw [Counted, ← hcnt]
  exact hcount

theorem planNext_eq (s : State) : s.planNext = { s with frm := s.planNext.frm } := by
  have hplan (t : State) (frm : FrmSt) : t.planJump { t with frm := frm } = { t with frm := (t.planJump { t with frm := frm }).frm } := by
    unfold State.planJump
    split
    · split <;> rfl
    · rfl
  unfold State.planNext
  dsimp only
  split
  · split
    · exact hplan s _
    · rfl
  · exact hplan s _

/-- A commit joins the pending ones. -/
def pended (c : Commit) (e : Nat) (s : State) : State :=
  { s with cmt := { s.cmt with pend := addCommit { c with target := e, origins := [e] } s.cmt.pend } }

/-- With what it shows when it was moved, and the plan of the next tick when it applies there. -/
def joined (c : Commit) (e : Nat) (s : State) : State :=
  let s := pended c e (s.cond (e != c.target) (lateShown e))
  s.cond (e == s.epoch + 1) State.planNext

/-- What joins the pending commits, and what it shows. -/
structure Joined (c : Commit) (e : Nat) (s t : State) : Prop where
  cmt : t.cmt = { s.cmt with pend := addCommit { c with target := e, origins := [e] } s.cmt.pend }
  anyCommit : t.boot.anyCommit = s.boot.anyCommit
  busy : t.rd R.CMT.BUSY = s.rd R.CMT.BUSY
  accepts : t.rd R.CMT.CNT_ACCEPT = s.rd R.CMT.CNT_ACCEPT
  words : ∀ k, isShadow k = true ∨ isLive k = true → t.word k = s.word k
  late : e ≠ c.target → Counted s t R.CMT.CNT_LATE ∧ Pending t R.CMT.ev_LATE ∧ t.rd R.CMT.LATE_EPOCH = e % 2 ^ 64

/-- Only the frame clock changes besides. -/
theorem Joined.of_frm {c : Commit} {e : Nat} {s t u : State} (h : Joined c e s t) (hregs : u.regs = t.regs) (hcmt : u.cmt = t.cmt)
    (hboot : u.boot = t.boot) : Joined c e s u := by
  refine ⟨hcmt.trans h.cmt, by rw [hboot, h.anyCommit], by rw [rd_congr hregs, h.busy], by rw [rd_congr hregs, h.accepts],
    fun k hk => by rw [word_congr hregs, h.words k hk], fun hne => ?_⟩
  obtain ⟨h1, h2, h3⟩ := h.late hne
  exact ⟨by rw [Counted, rd_congr hregs, h1], by rw [Pending, wbit_congr hregs, h2], by rw [rd_congr hregs, h3]⟩

theorem pended_shows {c : Commit} {e : Nat} {s u : State} (hcmt : u.cmt = s.cmt) (hboot : u.boot = s.boot)
    (hbusy : u.rd R.CMT.BUSY = s.rd R.CMT.BUSY) (hacc : u.rd R.CMT.CNT_ACCEPT = s.rd R.CMT.CNT_ACCEPT)
    (hwords : ∀ k, isShadow k = true ∨ isLive k = true → u.word k = s.word k)
    (hlate : e ≠ c.target → Counted s u R.CMT.CNT_LATE ∧ Pending u R.CMT.ev_LATE ∧ u.rd R.CMT.LATE_EPOCH = e % 2 ^ 64) :
    Joined c e s (pended c e u) := by
  refine ⟨?_, congrArg BootSt.anyCommit hboot, hbusy, hacc, hwords, hlate⟩
  rw [← hcmt]
  rfl

theorem joined_shows (c : Commit) (e : Nat) (s : State) : Joined c e s (joined c e s) := by
  have hpended : Joined c e s (pended c e (s.cond (e != c.target) (lateShown e))) := by
    by_cases hne : e = c.target
    · rw [cond_of_not (by rw [hne]; exact bne_self_eq_false _)]
      exact pended_shows rfl rfl rfl rfl (fun _ _ => rfl) fun h => absurd hne h
    · obtain ⟨h1, h2, h3, h4⟩ := lateShown_keeps e s
      rw [cond_of (bne_iff_ne.mpr hne)]
      refine pended_shows h1 h2 h3 (rd_of_wordsKept h4 (by decide) (by decide)) (fun k hk => h4 k fun hc => ?_) fun _ => lateShown_shows e s
      exact (shown_apart hk).2 ((by decide : ∀ k ∈ lateKeys, k ∈ _) k hc)
  unfold joined
  dsimp only
  generalize pended c e (s.cond (e != c.target) (lateShown e)) = v at hpended ⊢
  cases e == v.epoch + 1 with
  | false => exact hpended
  | true => exact hpended.of_frm (by rw [cond_of rfl, planNext_eq]) (by rw [cond_of rfl, planNext_eq]) (by rw [cond_of rfl, planNext_eq])

/-! The end of a validation. -/

section
variable {s : State} {c : Commit} {w e code : Nat}

/-- The failures of a commit's check. -/
def faults (s : State) (snap : List (Nat × Word32)) (e : Nat) : List CfgErr :=
  failures ((s.inForce e).senderErrs snap ++ mapResults ((s.inForce e).mapErrs (snapRd snap)))

theorem verdict_accepted {snap : List (Nat × Word32)} {next : State → State} (h : faults s snap e = []) :
    ∃ es, s.verdict snap e next = next (s.showAccept es) := by
  unfold faults at h
  unfold State.verdict
  simp only [h, List.isEmpty_nil, if_true]
  exact ⟨_, rfl⟩

theorem verdict_rejected {snap : List (Nat × Word32)} {next : State → State} (h : faults s snap e ≠ []) :
    ∃ es ms, s.verdict snap e next = (s.showReject es).showMapErr ms := by
  unfold faults at h
  unfold State.verdict
  simp only [List.isEmpty_iff, h, if_false]
  exact ⟨_, _, rfl⟩

theorem commitDoneFx_refused (hc : s.cmt.check = some (c, w)) (hj : s.cmt.judged = some (e, code)) (ht : s.frm.ticked = true) (hcode : code ≠ 0) :
    commitDoneFx s = s.validated.showReject [{ page := 0x002, code := code, off := 0 }] := by
  unfold commitDoneFx
  rw [hc]
  simp only [hj, Option.getD_some, validated_frm, ht, Bool.not_true, Bool.false_eq_true, if_false, ne_eq, hcode, not_false_eq_true, if_true]

theorem commitDoneFx_judged (hc : s.cmt.check = some (c, w)) (hj : s.cmt.judged = some (e, 0)) (ht : s.frm.ticked = true) :
    commitDoneFx s = s.validated.verdict c.snap e (joined c e) := by
  unfold commitDoneFx
  rw [hc]
  simp only [hj, Option.getD_some, validated_frm, ht, Bool.not_true, Bool.false_eq_true, if_false, ne_eq, not_true_eq_false]
  rfl

/-- An accepted commit in force at once, before the first tick. -/
def appliedAtOnce (c : Commit) (old : State) : State := ((old.senderApply c.snap 0).each layerNos fun s n => s.sourceChanged old n).planFirst

theorem commitDoneFx_early (hc : s.cmt.check = some (c, w)) (ht : s.frm.ticked = false) :
    commitDoneFx s = s.validated.verdict c.snap 0 (appliedAtOnce c) := by
  unfold commitDoneFx
  rw [hc]
  simp only [validated_frm, ht, Bool.not_false, if_true]
  rfl

/-- A rejection after validation. -/
theorem rejected_validated {t : State} (h : Rejected s.validated t) : t.rd R.CMT.BUSY = 0 ∧ t.cmt = { s.cmt with check := none, judged := none } ∧
    t.rd R.CMT.REJECTED = 1 ∧ Counted s t R.CMT.CNT_REJECT ∧ Pending t R.CMT.ev_REJECT ∧
    ∀ k, isShadow k = true ∨ isLive k = true → t.word k = s.word k := by
  refine ⟨h.busy.trans (busy_validated s), h.cmt.trans (validated_cmt s), h.rejected, ?_, h.pending,
    fun k hk => (h.words k hk).trans (shadowLive_validated s hk)⟩
  rw [Counted, h.counted, rd_validated (by decide)]

/-- An acceptance and its place among the pending commits, after validation. -/
theorem joined_validated {t u : State} (ha : Accepted s.validated t) (hj : Joined c e t u) (he : e < 2 ^ 64) :
    u.rd R.CMT.BUSY = 0 ∧ u.cmt.check = none ∧ Counted s u R.CMT.CNT_ACCEPT ∧
      (∃ d ∈ u.cmt.pend, d.target = e ∧ d.snap = c.snap) ∧ u.boot.anyCommit = true ∧
      (e ≠ c.target → Counted s u R.CMT.CNT_LATE ∧ Pending u R.CMT.ev_LATE ∧ u.rd R.CMT.LATE_EPOCH = e) ∧
      ∀ k, isShadow k = true ∨ isLive k = true → u.word k = s.word k := by
  refine ⟨hj.busy.trans (ha.busy.trans (busy_validated s)), ?_, ?_, ?_, hj.anyCommit.trans ha.anyCommit, fun hne => ?_,
    fun k hk => (hj.words k hk).trans ((ha.words k hk).trans (shadowLive_validated s hk))⟩
  · rw [hj.cmt, ha.cmt, validated_cmt]
  · rw [Counted, hj.accepts, ha.counted, rd_validated (by decide)]
  · rw [hj.cmt]
    exact mem_addCommit _ _
  · obtain ⟨h1, h2, h3⟩ := hj.late hne
    refine ⟨?_, h2, h3.trans (Nat.mod_eq_of_lt he)⟩
    rw [Counted, h1, ha.lates, rd_validated (by decide)]

end

/-! An apply before the first tick (16 R415). -/

/-- An apply of a snapshot and of the pending tables: live copies take the snapshot's values, and but for APPLIED_EPOCH every other word stays. -/
theorem apply_words (v : State) {m : List (Nat × Word32)} (hm : smWf resetWord m = true) (e : Nat) :
    (∀ k, isShadow k = true → ((v.applySnap (smKeep isShadow m) e).applyTables e).word (k + 0x400) = smGet resetWord m k) ∧
    (∀ k, isLive k = false → k % 0x1000 ≠ 0x020 → ((v.applySnap (smKeep isShadow m) e).applyTables e).word k = v.word k) := by
  have htabs {k : Nat} (hk : k % 0x1000 ≠ 0x020) :
      ((v.applySnap (smKeep isShadow m) e).applyTables e).word k = (v.applySnap (smKeep isShadow m) e).word k :=
    (markPages_keeps (v.applySnap (smKeep isShadow m) e).putTables _ e).2 k hk
  refine ⟨fun k hk => ?_, fun k hk hne => ?_⟩
  · obtain ⟨-, -, hlt⟩ := live_of_shadow hk
    rw [htabs (by omega), applySnap_eq, (markPages_keeps _ _ e).2 _ (by omega), putLive_live v hm hk]
  · rw [htabs hne, applySnap_eq, (markPages_keeps _ _ e).2 k hne, putLive_other v m hk]

/-- It touches no commit, and nothing of the boot record. -/
theorem apply_rest (v : State) (snap : List (Nat × Word32)) (e : Nat) : ((v.applySnap snap e).applyTables e).cmt = v.cmt ∧
    ((v.applySnap snap e).applyTables e).boot = v.boot := by
  obtain ⟨h1, -⟩ := markPages_keeps (v.applySnap snap e).putTables (changedTables (v.applySnap snap e).pend (v.applySnap snap e).tabs) e
  obtain ⟨h2, -⟩ := markPages_keeps (putLive v snap) (changedPages (liveOfSnap snap) v.regs) e
  exact ⟨(congrArg State.cmt h1 :).trans (congrArg State.cmt h2 :), (congrArg State.boot h1 :).trans (congrArg State.boot h2 :)⟩

theorem isLive_of_shadow {k : Nat} (hk : isShadow k = true) : isLive k = false := by
  obtain ⟨-, -, hlt⟩ := live_of_shadow hk
  exact Bool.eq_false_iff.mpr fun h => by
    have := isLive_offset h
    omega

/-- What follows the apply leaves those words alone. -/
theorem appliedAtOnce_leaves (c : Commit) (v : State) : Leaves ((v.applySnap c.snap 0).applyTables 0) (appliedAtOnce c v) :=
  ((Leaves.senderApply c.snap 0).each fun _ _ h => h.sourceChanged).planFirst

/-- An accepted commit in force at once. -/
theorem applied_validated {s v : State} {c : Commit} (ha : Accepted s.validated v) (hsnap : c.snap = s.snapshot)
    (hwf : smWf resetWord s.regs = true) :
    (appliedAtOnce c v).rd R.CMT.BUSY = 0 ∧ (appliedAtOnce c v).cmt = { s.cmt with check := none, judged := none } ∧
      Counted s (appliedAtOnce c v) R.CMT.CNT_ACCEPT ∧ (appliedAtOnce c v).boot.anyCommit = true ∧
      ∀ k, isShadow k = true → (appliedAtOnce c v).word k = s.word k ∧ (appliedAtOnce c v).word (k + 0x400) = s.word k := by
  have hleaves := appliedAtOnce_leaves c v
  obtain ⟨hcmt, hboot⟩ := apply_rest v c.snap 0
  rw [hsnap] at hleaves hcmt hboot
  obtain ⟨hlive, hother⟩ := apply_words v hwf 0
  have hrd (f : Fld) (hf : held f.key = true) (hw : f.w ≤ 32) (hl : isLive f.key = false) (ho : f.key % 0x1000 ≠ 0x020) :
      (appliedAtOnce c v).rd f = v.rd f := by
    rw [State.rd, State.rd, if_pos hw, if_pos hw, hleaves.words _ hf]
    exact congrArg (fieldOf · f.lo f.w) (hother _ hl ho)
  have hbusy := hrd R.CMT.BUSY (by decide) (by decide) (by decide) (by decide)
  have hcnt := hrd R.CMT.CNT_ACCEPT (by decide) (by decide) (by decide) (by decide)
  refine ⟨hbusy.trans (ha.busy.trans (busy_validated s)), ?_, ?_, ?_, fun k hk => ⟨?_, ?_⟩⟩
  · rw [hleaves.cmt, hcmt, ha.cmt, validated_cmt]
  · rw [Counted, hcnt, ha.counted, rd_validated (by decide)]
  · rw [hleaves.anyCommit, hboot, ha.anyCommit]
  · have hheld : held k = true := by unfold held; rw [hk]; rfl
    have hoff := isShadow_offset hk
    rw [hleaves.words k hheld]
    exact (hother k (isLive_of_shadow hk) (by omega)).trans ((ha.words k (.inl hk)).trans (shadowLive_validated s (.inl hk)))
  · have hheld : held (k + 0x400) = true := by unfold held; rw [(live_of_shadow hk).1, Bool.or_true]; rfl
    rw [hleaves.words _ hheld]
    exact hlive k hk

/-! A write while validation runs (02 R46). -/

theorem dropCommit_counted (s : State) : Counted s s.dropCommit R.CMT.CNT_DROPPED := by
  rw [Counted, ← rd_wr_sep s (f := R.CMT.CNT_DROPPED) (g := R.CMT.DROPPED) 1 (by decide)]
  exact counted_inc _ (by decide) (by decide)

/-! O30. -/

theorem exec_validationDone {s : State} (hs : s.isSender = true) (t0 : Nat) :
    exec (.commitValidationDone t0) s = .next (commitDoneFx (s.atTime t0)) := congrArg Host.Outcome.next (cond_of hs _ _)

/-- Settles O30: the verdict is fixed at the write; an acceptance and a rejection show what they show on the CMT, MAP and CFG_ERR words alone; and
    before the first tick the units follow an apply without a write to a shadow register or a live copy. -/
theorem commitsAreJudged : Obligations.CommitsAreJudged := by
  unfold Obligations.CommitsAreJudged
  refine ⟨fun hi t0 s hs hon hb ht => ?judged, fun t0 w e c s hs ht hc hj he hok => ?accepted, fun t0 w e code c s hs ht hc hj hcode _ => ?refused,
    fun t0 w e c s hs ht hc hj hbad => ?rejected, fun t0 w c s hs ht hc hsnap hwf hok => ?early, fun hi t0 s hon hb => ?dropped⟩
  case judged =>
    obtain ⟨-, hr⟩ := (isSender_iff s).mp hs
    refine ⟨commitFx hi (s.atTime t0), exec_commit_on hon, ?_⟩
    rw [commitFx_accepted hi (s := s.atTime t0) hr hb]
    have hjudged : (if (s.atTime t0).frm.ticked then
          some ((commitRegs hi (s.atTime t0)).judge (startedCommit hi (s.atTime t0)).target (s.atTime t0).time) else none) =
        some (s.judge (startedCommit hi (s.atTime t0)).target (max s.time t0)) := by
      rw [if_pos (show (s.atTime t0).frm.ticked = true from ht), commitRegs_judge]
      rfl
    exact ⟨startedCommit hi (s.atTime t0), _, _, rfl, hjudged.trans (congrArg some (Prod.ext (judge_epoch _ _ _) rfl)), rfl, judge_late,
      fun hin => ⟨judge_far hin, judge_order hin, judge_full hin, judge_ok hin⟩⟩
  case accepted =>
    refine ⟨_, exec_validationDone hs t0, ?_⟩
    obtain ⟨es, hes⟩ := verdict_accepted (next := joined c e) hok
    rw [commitDoneFx_judged (s := s.atTime t0) hc hj ht, hes]
    exact joined_validated (s := s.atTime t0) (showAccept_shows _ es) (joined_shows c e _) he
  case refused =>
    refine ⟨_, exec_validationDone hs t0, ?_⟩
    rw [commitDoneFx_refused (s := s.atTime t0) hc hj ht hcode]
    obtain ⟨h1, h2, h3, h4, h5, h6⟩ := rejected_validated (s := s.atTime t0) (showReject_shows _ [{ page := 0x002, code := code, off := 0 }])
    exact ⟨h1, h2, h3, h4, h5, showReject_code _ code, h6⟩
  case rejected =>
    refine ⟨_, exec_validationDone hs t0, ?_⟩
    obtain ⟨es, ms, hes⟩ := verdict_rejected (next := joined c e) hbad
    rw [commitDoneFx_judged (s := s.atTime t0) hc hj ht, hes]
    exact rejected_validated (s := s.atTime t0) ((showReject_shows _ es).showMapErr ms)
  case early =>
    refine ⟨_, exec_validationDone hs t0, ?_⟩
    obtain ⟨es, hes⟩ := verdict_accepted (next := appliedAtOnce c) hok
    rw [commitDoneFx_early (s := s.atTime t0) hc ht, hes]
    exact applied_validated (s := s.atTime t0) (showAccept_shows _ es) hsnap hwf
  case dropped =>
    refine ⟨commitFx hi (s.atTime t0), exec_commit_on hon, ?_⟩
    rw [show commitFx hi (s.atTime t0) = (s.atTime t0).dropCommit from if_pos (.inr hb)]
    obtain ⟨h1, h2, -⟩ := dropped_at s t0
    exact ⟨h1, dropCommit_counted (s.atTime t0), h2⟩

end Sys2Proof.Proofs.CommitVerdicts
